-- ==== Sys2Proof/Word.lean ====
section
/-! DEFINITION. The words of the ELN-1612 model: bytes, 32-bit register words, 64-bit scalar words.
Plain arithmetic only; field extraction, byte order and number formats live under Machine/. -/

namespace Sys2Proof

/-- One byte of device memory (00_scope, Byte order: little-endian everywhere). -/
abbrev Byte := BitVec 8

/-- A register word: every register is 32 bits wide (R6). -/
abbrev Word := BitVec 32

/-- A scalar register, a device address or an operation word. -/
abbrev Word64 := BitVec 64

end Sys2Proof
end

