-- ==== Sys2Proof/Syntax.lean ====
section
/-! DEFINITION. The commands of the ELN-1612 block and their operands: `Instr` has one constructor for each row of
spec/opcode_table.json. -/

namespace Sys2Proof

/-- A PCIe function of the module: the PF or VF n (R208). -/
inductive Fn where
  | pf
  | vf (n : Fin 32)
  deriving DecidableEq, Repr

/-- One DW of a host write TLP to a BAR (R247): the function whose BAR it names, the data, the byte
enables, whether its TLP holds more than one DW, and whether the TLP is poisoned. -/
structure DwWrite where
  fn : Fn
  data : Word
  be : BitVec 4 := 0xF
  burst : Bool := false
  poisoned : Bool := false
  deriving DecidableEq, Repr

/-- A half of the die, each with its own tile PLL (R50). -/
inductive Half where
  | west
  | east
  deriving DecidableEq, Repr

/-- The PLLs of CLK_ERR other than the tile PLLs (R89). -/
inductive Pll where
  | host
  | ctl
  | link
  deriving DecidableEq, Repr

/-- What became of one mesochronous crossing that failed its verification at power-up (R71 to R73): the tile on
its cluster side, its plane, and whether the retraining succeeded. -/
structure Crossing where
  tile : Fin 192
  dynamicPlane : Bool
  retrained : Bool
  deriving DecidableEq, Repr

/-- A kind of data path unit that can be fenced (R850). -/
inductive UnitKind where
  | core
  | tile
  | slice
  | port
  deriving DecidableEq, Repr

/-- Why a ring-engine host request failed (R234): Unsupported Request or Completer Abort. -/
inductive HostError where
  | ur
  | ca
  deriving DecidableEq, Repr

/-- A place in a submission ring: VF, ring, descriptor index. -/
structure DescRef where
  vf : Fin 32
  ring : Fin 8
  index : BitVec 32
  deriving DecidableEq, Repr

/-- How a descriptor fetch ended (R286 code 1). -/
inductive FetchEnd where
  | good
  | error (e : HostError)
  | timeout
  | poisoned
  deriving DecidableEq, Repr

/-- A wake cause in M2 (R165); wake hints are the WAKE_HINT command. -/
inductive WakeCause where
  | pollFoundWork
  | registerAccess
  | managementRequest
  deriving DecidableEq, Repr

/-- The registers of AER, and its two ECRC enables (R205). -/
inductive AerReg where
  | uncStatus | uncMask | uncSeverity | corStatus | corMask
  deriving DecidableEq, Repr

/-- Device Control and Device Control 2 of the PF, whose settings its VFs share (R205): the codes of Max_Payload_Size and
Max_Read_Request_Size (128 bytes × 2^code), the tag widths, the ordering attributes, and LTR. -/
structure DevControl where
  maxPayload : BitVec 3 := 0
  maxRead : BitVec 3 := 2
  relaxedOrdering : Bool := true
  tag10 : Bool := false
  tag14 : Bool := false
  idoRequest : Bool := false
  idoCompletion : Bool := false
  ltr : Bool := false
  deriving DecidableEq, Repr

/-- The configuration writes of CONFIGURATION_WRITE (R205, R207, R208, R210, R215, R228, R232, R892). -/
inductive CfgWrite where
  | vfEnable
  | numVfs (n : Nat)
  | systemPageSize (v : Nat)
  | aspmL12 (on : Bool)
  | completionTimeout (v : BitVec 4)
  | busMaster (on : Bool)
  | memorySpace (fn : Fn) (on : Bool)
  | msixEnable (fn : Fn) (on : Bool)
  | msixFunctionMask (fn : Fn) (on : Bool)
  | deviceControl (c : DevControl)
  | aspmL11 (on : Bool)
  | ecrc (generate check : Bool)
  | aer (fn : Fn) (r : AerReg) (v : Word)
  | acsControl (fn : Fn) (v : BitVec 16)
  | ariHierarchy (on : Bool)
  | bar (vf hi : Bool) (v : Word)
  deriving DecidableEq, Repr

/-- A configuration write that R891 makes the module ignore. -/
inductive SriovWrite where
  | systemPageSize (v : Nat)
  | numVfs (n : Nat)
  deriving DecidableEq, Repr

/-- The fields of an operation word (R419) other than its opcode. -/
structure OpFields where
  d : Fin 32
  a : Fin 32
  b : Fin 32
  c : Fin 32
  mod : BitVec 8
  imm : BitVec 28
  deriving DecidableEq, Repr

/-- Bytes a host read returned, and the offsets of those that poisoned completions carried (R235). -/
structure HostData where
  bytes : List Byte
  poisoned : List Nat := []
  deriving DecidableEq, Repr

/-- What is found as the halves power up (R70 to R73, R194, R195): the crossings that failed their verification, the units
whose repair did not load, and, where HBM is trained or reinitialised, the channels that failed. -/
structure PowerUp where
  crossings : List Crossing := []
  repairFailed : List (UnitKind × Nat) := []
  failedChannels : List (Fin 128) := []
  deriving DecidableEq, Repr

/-- What a poll reads (R269, R270, R282): the four words of each of the eight submission records and of the completion
ring's record, and how the read ended. -/
structure PollRead where
  records : List (List (BitVec 32)) := []
  cq : List (BitVec 32) := []
  result : FetchEnd := .good
  deriving DecidableEq, Repr

/-- A fault as a unit reports it to its region controller (R339). -/
structure FaultReport where
  cause : Nat
  tile : Nat := 0
  core : Nat := 0
  excCode : Nat := 0
  opOffset : Nat := 0
  deriving DecidableEq, Repr

/-- What a read of a protected word finds (R770, R775 to R777): nothing, a single-bit error in the data or the check
bits, a double-bit error with its syndrome; in a slice, an error in one copy of a tag or tracker entry, in its data or its check bits,
or a failure of both copies (R795). -/
inductive MemError where
  | none
  | dataBit (bit : Nat)
  | checkBit (bit : Nat)
  | double (syndrome : BitVec 8)
  | tag (check : Bool)
  | tags
  deriving DecidableEq, Repr

/-- What full training finds (R734 to R736, R748, R750): the lanes that are good, the partner's identity with its serial number, and
whether it resumes the session. -/
structure TrainResult where
  lanesGood : BitVec 16 := 0xFFFF
  partnerFabric : BitVec 12 := 0
  partnerModule : BitVec 4 := 0
  partnerPort : Fin 4 := 0
  partnerSerial : BitVec 64 := 0
  resumes : Bool := false
  deriving DecidableEq, Repr

/-- The type of a packet of the dynamic plane or of a link (R525, R747). -/
inductive PacketKind where
  | read | write | atomic | message | data | ack | error | credit
  deriving DecidableEq, Repr

/-- A packet of a Hymiyn link as its transaction layer sees it (R747). `malformed`: its header breaks R747 where this record has no
field to show it: a nonzero bit that R747 gives as zero, a DLEN that does not agree with its data, or an undefined KIND (a request
then listed as a READ). -/
structure LinkPacket where
  kind : PacketKind := .read
  tag : Nat := 0
  space : Nat := 0
  addr : Nat := 0
  size : Nat := 0
  bytes : List Byte := []
  mask : List Bool := []
  poison : List Nat := []
  op : Nat := 0
  chan : Nat := 0
  epoch : Nat := 0
  count : Nat := 0
  key : Nat := 0
  code : Nat := 0
  set : Bool := false
  malformed : Bool := false
  deriving DecidableEq, Repr

/-- A flit as it arrives (R741 to R744): whether FEC and CRC pass and its TYPE and reserved bits are as R740 has them, its sequence number, the acknowledgement it carries
and the packets of a DATA flit. -/
structure Flit where
  crcOk : Bool := true
  formatOk : Bool := true
  corrected : Nat := 0
  uncorrectable : Bool := false
  isData : Bool := true
  seq : BitVec 12 := 0
  ack : BitVec 12 := 0
  nak : Bool := false
  creditsReq : Nat := 0
  creditsRsp : Nat := 0
  packets : List LinkPacket := []
  deriving DecidableEq, Repr

/-- How a message of the control network fares (R553): how often words of it were resent and passed, and the link of its way, from
the first, on which a word failed four times, if one did. -/
structure CtlWay where
  resent : Nat := 0
  failedAt : Option Nat := none
  deriving DecidableEq, Repr

/-- Why Vesper restarts (R810). -/
inductive RestartCause where
  | activation | watchdog | sramUe
  deriving DecidableEq, Repr

/-- The two MCTP endpoints (R822). A request on the SMBus names the 7-bit address it is sent to (R821). -/
inductive Endpoint where
  | smbus (address : BitVec 7) | vdm
  deriving DecidableEq, Repr

/-- The sensors of the PDR repository (R826). -/
inductive Sensor where
  | vin | vinMin | iinMax | power | energy
  | regionEnergy (n : Fin 32) | regionPower (n : Fin 32) | hbmTemp (k : Fin 8) | tileClock
  | powerState | facilityHalt | regionState (n : Fin 32) | portState (p : Fin 4) | disturbance
  deriving DecidableEq, Repr

/-- A firmware image as the package carries it (R188, R189, R831). -/
structure FwImage where
  signatureOk : Bool := true
  svn : BitVec 16 := 0
  major : BitVec 8 := 0
  minor : BitVec 8 := 0
  patch : BitVec 16 := 0
  classification : BitVec 16 := 0x000A
  identifier : BitVec 16 := 0x1612
  deriving DecidableEq, Repr

/-- A request that has waited longer than AGE_LIMIT_US (R717): at its home slice for a channel, at its column stop on the way to a port, in
its place in a port's ingress buffer, or as a descriptor's block at the ring engine. -/
inductive Aging where
  | request (id : Nat)
  | edge (id : Nat)
  | ingress (port : Fin 4) (place : Nat)
  | block (d : DescRef)
  deriving DecidableEq, Repr

/-- The commands of the block: one constructor for each row of the opcode table, with the row's operands. A row that is
a tile operation names the global core that issues it and the fields of its operation word (R419); every row's comment
is its mnemonic and rule. -/
inductive Instr where
  | registerWrite (off : BitVec 24) (w : DwWrite)                          -- REGISTER_WRITE (R250)
  | unsupportedRequest (fn : Fn)                                           -- UNSUPPORTED_REQUEST (R238)
  | wakeHint (vf : Fin 32)                                                 -- WAKE_HINT (R242)
  | sriovCfgWriteIgnored (w : SriovWrite)                                  -- SRIOV_CFG_WRITE_IGNORED (R891)
  | vfEnableClear                                                          -- VF_ENABLE_CLEAR (R211)
  | pfD3hotEntry                                                           -- PF_D3HOT_ENTRY (R213)
  | pfD0Entry                                                              -- PF_D0_ENTRY (R214)
  | vfBmeChange (vf : Fin 32) (on : Bool)                                  -- VF_BME_CHANGE (R232)
  | intPfEnableWrite (w : DwWrite)                                         -- INT_PF_ENABLE_WRITE (R223)
  | msixTableWrite (fn : Fn) (vector : Fin 8) (word : Fin 4) (w : DwWrite) -- MSIX_TABLE_WRITE (R890)
  | msixPendingSend (fn : Fn) (vector : Fin 8)                             -- MSIX_PENDING_SEND (R225)
  | pcieLinkTrained (width : BitVec 5) (speed : BitVec 4) (flitMode : Bool) -- PCIE_LINK_TRAINED (R241)
  | hostDmaErrorResponse (d : DescRef) (e : HostError)                     -- HOST_DMA_ERROR_RESPONSE (R234)
  | hostReadTimeout (d : DescRef)                                          -- HOST_READ_TIMEOUT (R892)
  | perstAssert                                                            -- PERST_ASSERT (R172)
  | perstDeassert                                                          -- PERST_DEASSERT (R185)
  | hotReset                                                               -- HOT_RESET (R172)
  | flrPf                                                                  -- FLR_PF (R212)
  | flrVf (vf : Fin 32)                                                    -- FLR_VF (R212)
  | warm (w : DwWrite)                                                     -- WARM (R204)
  | cold (w : DwWrite)                                                     -- COLD (R181)
  | warmKeepHbmUpdate (w : DwWrite)                                        -- WARM_KEEP_HBM_UPDATE (R204)
  | warmReset (p : PowerUp)                                                -- WARM_RESET (R173)
  | warmResetComplete                                                      -- WARM_RESET_COMPLETE (R173)
  | converterStart (p : PowerUp)                                           -- CONVERTER_START (R91)
  | bringUpComplete                                                        -- BRING_UP_COMPLETE (R183)
  | powerDown                                                              -- POWER_DOWN (R123)
  | supplySample (mv ma : BitVec 16)                                       -- SUPPLY_SAMPLE (R104)
  | overvoltageTrip                                                        -- OVERVOLTAGE_TRIP (R93)
  | undervoltageComparator                                                 -- UNDERVOLTAGE_COMPARATOR (R103)
  | meterSelfCheck (ok : Bool)                                             -- METER_SELF_CHECK (R102)
  | lastGaspComplete                                                       -- LAST_GASP_COMPLETE (R119)
  | junctionSensorRead (temps : List (BitVec 8))                           -- JUNCTION_SENSOR_READ (R115)
  | hbmTempReport (stack : Fin 8) (temp : BitVec 8)                        -- HBM_TEMP_REPORT (R117)
  | fhaltSample (a b : Bool)                                               -- FHALT_SAMPLE (R138)
  | haltDrainComplete                                                      -- HALT_DRAIN_COMPLETE (R142)
  | fhaltRelease (w : DwWrite) (crossings : List Crossing)                 -- FHALT_RELEASE (R144)
  | m3ReleaseComplete (p : PowerUp)                                        -- M3_RELEASE_COMPLETE (R171)
  | shed                                                                   -- SHED (R79)
  | unshed                                                                 -- UNSHED (R80)
  | forceShedWrite (w : DwWrite)                                           -- FORCE_SHED_WRITE (R110)
  | ceilingMultWrite (w : DwWrite)                                         -- CEILING_MULT_WRITE (R64)
  | slewComplete                                                           -- SLEW_COMPLETE (R66)
  | aonTrimWindow (count : BitVec 20)                                      -- AON_TRIM_WINDOW (R62)
  | xtal32Stop                                                             -- XTAL32_STOP (R63)
  | xrefQualifyTimeout                                                     -- XREF_QUALIFY_TIMEOUT (R87)
  | tilePllUnlock (half : Half)                                            -- TILE_PLL_UNLOCK (R88)
  | tilePllRelock (half : Half)                                            -- TILE_PLL_RELOCK (R88)
  | vesperTick                                                             -- VESPER_TICK (R814)
  | m2EntryComplete (polls : List (Fin 32 × PollRead))                     -- M2_ENTRY_COMPLETE (R161)
  | m2PollExcursion (polls : List (Fin 32 × PollRead))                     -- M2_POLL_EXCURSION (R85)
  | wakeCause (cause : WakeCause) (crossings : List Crossing)              -- WAKE_CAUSE (R165)
  | wakeComplete (p : PowerUp)                                             -- WAKE_COMPLETE (R168)
  | islandIdleGate (region : Fin 32)                                       -- ISLAND_IDLE_GATE (R152)
  | islandUngateComplete (island : Fin 32) (crossings : List Crossing)     -- ISLAND_UNGATE_COMPLETE (R86)
  | imageRebuild (region : Fin 32) (image : HostData)                      -- IMAGE_REBUILD (R155)
  | sliceRetentionEntry (slice : Fin 64)                                   -- SLICE_RETENTION_ENTRY (R157)
  | sliceRetentionExit (slice : Fin 64)                                    -- SLICE_RETENTION_EXIT (R158)
  | ringWatchPoll (vf : Fin 32) (r : PollRead)                             -- RING_WATCH_POLL (R282)
  | heldRecordsFlush (vf : Fin 32)                                         -- HELD_RECORDS_FLUSH (R315)
  | descriptorFetch (vf : Fin 32) (ring : Fin 8) (result : FetchEnd) (words : List (BitVec 32)) -- DESCRIPTOR_FETCH (R286)
  | descriptorComplete (d : DescRef)                                       -- DESCRIPTOR_COMPLETE (R304)
  | nopDescriptor (d : DescRef)                                            -- NOP_DESCRIPTOR (R289)
  | copy (d : DescRef) (data : HostData)                                   -- COPY (R291)
  | fill (d : DescRef)                                                     -- FILL (R291)
  | loadSchedule (d : DescRef) (image : HostData)                          -- LOAD_SCHEDULE (R293)
  | launch (d : DescRef)                                                   -- LAUNCH (R292)
  | gatherCheckComplete (region : Fin 32)                                  -- GATHER_CHECK_COMPLETE (R682)
  | launchEnd (region : Fin 32)                                            -- LAUNCH_END (R294)
  | launchWatchdog (region : Fin 32)                                       -- LAUNCH_WATCHDOG (R295)
  | wait (d : DescRef) (value : BitVec 64)                                 -- WAIT (R289)
  | waitTimeout (d : DescRef)                                              -- WAIT_TIMEOUT (R289)
  | fenceDescriptor (d : DescRef)                                          -- FENCE_DESCRIPTOR (R296)
  | barrier (d : DescRef)                                                  -- BARRIER (R298)
  | barrierTimeout (d : DescRef)                                           -- BARRIER_TIMEOUT (R289)
  | signal (d : DescRef)                                                   -- SIGNAL (R299)
  | query (d : DescRef)                                                    -- QUERY (R289)
  | telemetrySnapshot (d : DescRef)                                        -- TELEMETRY_SNAPSHOT (R289)
  | ringEnable (vf : Fin 32) (w : DwWrite)                                 -- RING_ENABLE (R324)
  | ringDisable (vf : Fin 32) (w : DwWrite)                                -- RING_DISABLE (R318)
  | cqEnable (vf : Fin 32) (w : DwWrite)                                   -- CQ_ENABLE (R324)
  | cqDisable (vf : Fin 32) (w : DwWrite)                                  -- CQ_DISABLE (R324)
  | ringStoppingEnd (vf : Fin 32) (ring : Fin 8)                           -- RING_STOPPING_END (R316)
  | configure (region : Fin 32) (w : DwWrite)                              -- CONFIGURE (R334)
  | commit (region : Fin 32) (w : DwWrite)                                 -- COMMIT (R338)
  | reset (region : Fin 32) (w : DwWrite)                                  -- RESET (R347)
  | release (region : Fin 32) (w : DwWrite)                                -- RELEASE (R353)
  | rgnRectWrite (region : Fin 32) (w : DwWrite)                           -- RGN_RECT_WRITE (R327)
  | regionFault (region : Fin 32) (f : FaultReport) (more : List FaultReport) -- REGION_FAULT (R341)
  | faultStopEnd (region : Fin 32)                                         -- FAULT_STOP_END (R341)
  | regionResetDrainEnd (region : Fin 32)                                  -- REGION_RESET_DRAIN_END (R347)
  | regionResetEnd (region : Fin 32)                                       -- REGION_RESET_END (R348)
  | releaseClearEnd (region : Fin 32)                                      -- RELEASE_CLEAR_END (R353)
  | frameStart (region : Fin 32)                                           -- FRAME_START (R479)
  | frameEnd (region : Fin 32)                                             -- FRAME_END (R519)
  | keyValidWrite (w : DwWrite)                                            -- KEY_VALID_WRITE (R510)
  | routeQuiesceEnd (region : Fin 32)                                      -- ROUTE_QUIESCE_END (R537)
  | dynRead (id : Nat) (e : MemError)                                      -- DYN_READ (R525)
  | dynWrite (id : Nat) (e : MemError)                                     -- DYN_WRITE (R609)
  | dynAtomic (id : Nat) (e : MemError)                                    -- DYN_ATOMIC (R662)
  | dynMessage (id : Nat)                                                  -- DYN_MESSAGE (R558)
  | dynData (id : Nat) (parity : List Nat)                                 -- DYN_DATA (R525)
  | dynAck (id : Nat)                                                      -- DYN_ACK (R525)
  | dynError (id : Nat)                                                    -- DYN_ERROR (R525)
  | edgeRingTransfer (id : Nat) (headerError : Bool)                       -- EDGE_RING_TRANSFER (R544)
  | halt (core : Fin 1024) (way : CtlWay)                                  -- HALT (R473)
  | notifyDelivery (id : Nat) (way : CtlWay)                               -- NOTIFY_DELIVERY (R441)
  | creditReturn (id : Nat) (way : CtlWay)                                 -- CREDIT_RETURN (R565)
  | combiningAccept (slice : Fin 64)                                       -- COMBINING_ACCEPT (R574)
  | combiningDelivery (slice : Fin 64) (queue : Fin 16)                    -- COMBINING_DELIVERY (R577)
  | borrowRequest (slice : Fin 64) (line : BitVec 64) (proxy : Fin 64)     -- BORROW_REQUEST (R622)
  | recallLine (slice : Fin 64) (line : BitVec 64)                             -- RECALL (R618)
  | lineReturn (slice : Fin 64) (id : Nat)                                 -- LINE_RETURN (R622)
  | hbmGrant (channel : Fin 128)                                           -- HBM_GRANT (R694)
  | hbmReadComplete (id : Nat)                                             -- HBM_READ_COMPLETE (R608)
  | hbmRefresh (channel : Fin 128) (bank : Fin 64)                         -- HBM_REFRESH (R696)
  | budgetWindow                                                           -- BUDGET_WINDOW (R706)
  | agePromotion (who : Aging)                                             -- AGE_PROMOTION (R717)
  | hbmWatermarkWrite (stack : Fin 8) (w : DwWrite)                        -- HBM_WATERMARK_WRITE (R728)
  | scrubStep (slice : Fin 64) (hbm : Bool) (e : MemError)                 -- SCRUB_STEP (R791)
  | bushelLeak (slice : Fin 64)                                            -- BUSHEL_LEAK (R784)
  | linkEnable (port : Fin 4) (w : DwWrite)                                -- LINK_ENABLE (R734)
  | linkTrainingComplete (port : Fin 4) (r : TrainResult)                  -- LINK_TRAINING_COMPLETE (R734)
  | linkTrainingFail (port : Fin 4)                                        -- LINK_TRAINING_FAIL (R735)
  | linkTrainingRetry (port : Fin 4)                                       -- LINK_TRAINING_RETRY (R735)
  | linkRetrain (port : Fin 4) (lanes : BitVec 16)                         -- LINK_RETRAIN (R737)
  | laneErrorWindow (port : Fin 4) (lanes : List (BitVec 16))              -- LANE_ERROR_WINDOW (R737)
  | linkRetrainComplete (port : Fin 4) (lanesGood : BitVec 16) (ok : Bool) -- LINK_RETRAIN_COMPLETE (R737)
  | linkDisable (port : Fin 4) (w : DwWrite)                               -- LINK_DISABLE (R760)
  | linkDisableComplete (port : Fin 4)                                     -- LINK_DISABLE_COMPLETE (R760)
  | portAssign (port : Fin 4) (w : DwWrite)                                -- PORT_ASSIGN (R751)
  | portUnassign (port : Fin 4) (w : DwWrite)                              -- PORT_UNASSIGN (R751)
  | hlModuleWrite (w : DwWrite)                                            -- HL_MODULE_WRITE (R769)
  | flitReceive (port : Fin 4) (f : Flit)                                  -- FLIT_RECEIVE (R742)
  | replayTimeout (port : Fin 4)                                           -- REPLAY_TIMEOUT (R743)
  | linkRead (port : Fin 4) (p : LinkPacket)                               -- LINK_READ (R756)
  | linkWrite (port : Fin 4) (p : LinkPacket)                              -- LINK_WRITE (R755)
  | linkAtomic (port : Fin 4) (p : LinkPacket)                             -- LINK_ATOMIC (R667)
  | linkMessage (port : Fin 4) (p : LinkPacket)                            -- LINK_MESSAGE (R766)
  | linkData (port : Fin 4) (p : LinkPacket)                               -- LINK_DATA (R747)
  | linkAck (port : Fin 4) (p : LinkPacket)                                -- LINK_ACK (R755)
  | linkError (port : Fin 4) (p : LinkPacket)                              -- LINK_ERROR (R757)
  | linkCredit (port : Fin 4) (p : LinkPacket)                             -- LINK_CREDIT (R765)
  | vesperRestart (cause : RestartCause)                                   -- VESPER_RESTART (R810)
  | vesperRestartComplete                                                  -- VESPER_RESTART_COMPLETE (R812)
  | almanacFlashWrite                                                      -- ALMANAC_FLASH_WRITE (R842)
  | mailboxSubmit (w : DwWrite)                                            -- MAILBOX_SUBMIT (R835)
  | mailboxDoneClear (w : DwWrite)                                         -- MAILBOX_DONE_CLEAR (R835)
  | getInfo                                                                -- GET_INFO (R837)
  | getTelemetryModule                                                     -- GET_TELEMETRY_MODULE (R834)
  | getTelemetryRegion                                                     -- GET_TELEMETRY_REGION (R833)
  | getCalibration                                                         -- GET_CALIBRATION (R837)
  | getUnitRecord                                                          -- GET_UNIT_RECORD (R837)
  | almanacRead                                                            -- ALMANAC_READ (R837)
  | almanacRelease                                                         -- ALMANAC_RELEASE (R837)
  | setPortConfig                                                          -- SET_PORT_CONFIG (R837)
  | fenceUnit                                                              -- FENCE_UNIT (R866)
  | releaseUnit                                                            -- RELEASE_UNIT (R862)
  | capture                                                                -- CAPTURE (R870)
  | bscanArm                                                               -- BSCAN_ARM (R876)
  | bscanDisarm                                                            -- BSCAN_DISARM (R866)
  | serviceClearComplete (tile : Fin 192)                                  -- SERVICE_CLEAR_COMPLETE (R863)
  | setEndpointId (e : Endpoint) (eid : BitVec 8)                          -- SET_ENDPOINT_ID (R823)
  | getEndpointId (e : Endpoint)                                           -- GET_ENDPOINT_ID (R823)
  | getEndpointUuid (e : Endpoint)                                         -- GET_ENDPOINT_UUID (R823)
  | getMctpVersionSupport (e : Endpoint) (msgType : BitVec 8)              -- GET_MCTP_VERSION_SUPPORT (R823)
  | getMessageTypeSupport (e : Endpoint)                                   -- GET_MESSAGE_TYPE_SUPPORT (R823)
  | gettid (e : Endpoint)                                                  -- GETTID (R825)
  | settid (e : Endpoint) (tid : BitVec 8)                                 -- SETTID (R825)
  | getpldmversion (e : Endpoint) (pldmType : BitVec 8)                    -- GETPLDMVERSION (R825)
  | getpldmtypes (e : Endpoint)                                            -- GETPLDMTYPES (R825)
  | getpldmcommands (e : Endpoint) (pldmType : BitVec 8)                   -- GETPLDMCOMMANDS (R825)
  | sensorReading (e : Endpoint) (sensor : Sensor)                         -- SENSOR_READING (R826)
  | seteventreceiver (e : Endpoint) (receiver : BitVec 8)                  -- SETEVENTRECEIVER (R829)
  | moduleCap (e : Endpoint) (watts : Nat)                                 -- MODULE_CAP (R827)
  | regionCap (e : Endpoint) (region : Fin 32) (watts : Nat)               -- REGION_CAP (R827)
  | facilityRelease (e : Endpoint)                                         -- FACILITY_RELEASE (R828)
  | unitService (e : Endpoint) (value : BitVec 32)                         -- UNIT_SERVICE (R868)
  | captureEffecter (e : Endpoint)                                         -- CAPTURE_EFFECTER (R868)
  | requestupdate (e : Endpoint)                                           -- REQUESTUPDATE (R830)
  | firmwareImageVerify (image : FwImage)                                  -- FIRMWARE_IMAGE_VERIFY (R831)
  | activatefirmware (e : Endpoint) (selfContained : Bool)                 -- ACTIVATEFIRMWARE (R832)
  | extest                                                                 -- EXTEST (R878)
  | samplePreload (cells : BitVec 11)                                      -- SAMPLE_PRELOAD (R878)
  | clamp                                                                  -- CLAMP (R878)
  | highz                                                                  -- HIGHZ (R878)
  | bypass (code : BitVec 8)                                               -- BYPASS (R878)
  | nop (g : Fin 1024) (o : OpFields)                                      -- NOP (R430)
  | movi (g : Fin 1024) (o : OpFields)                                     -- MOVI (R434)
  | alu (g : Fin 1024) (o : OpFields)                                      -- ALU (R435)
  | alui (g : Fin 1024) (o : OpFields)                                     -- ALUI (R434)
  | rdid (g : Fin 1024) (o : OpFields)                                     -- RDID (R436)
  | br (g : Fin 1024) (o : OpFields)                                       -- BR (R434)
  | jr (g : Fin 1024) (o : OpFields)                                       -- JR (R434)
  | loop (g : Fin 1024) (o : OpFields)                                     -- LOOP (R434)
  | seed (g : Fin 1024) (o : OpFields)                                     -- SEED (R412)
  | end_ (g : Fin 1024) (o : OpFields)                                     -- END (R467)
  | waitc (g : Fin 1024) (o : OpFields)                                    -- WAITC (R439)
  | waitf (g : Fin 1024) (o : OpFields)                                    -- WAITF (R439)
  | notify (g : Fin 1024) (o : OpFields)                                   -- NOTIFY (R440)
  | waitn (g : Fin 1024) (o : OpFields)                                    -- WAITN (R439)
  | ld (g : Fin 1024) (o : OpFields) (e : MemError)                           -- LD (R443)
  | st (g : Fin 1024) (o : OpFields)                                       -- ST (R443)
  | ldg (g : Fin 1024) (o : OpFields)                                      -- LDG (R443)
  | stg (g : Fin 1024) (o : OpFields)                                      -- STG (R443)
  | dmag (g : Fin 1024) (o : OpFields)                                     -- DMAG (R447)
  | dmap (g : Fin 1024) (o : OpFields)                                     -- DMAP (R447)
  | dmaf (g : Fin 1024) (o : OpFields)                                     -- DMAF (R447)
  | dmaTransferComplete (cluster : Fin 128) (slot : Fin 16)                -- DMA_TRANSFER_COMPLETE (R375)
  | tfill (g : Fin 1024) (o : OpFields)                                    -- TFILL (R449)
  | mma (g : Fin 1024) (o : OpFields)                                      -- MMA (R451)
  | accld (g : Fin 1024) (o : OpFields)                                    -- ACCLD (R454)
  | accst (g : Fin 1024) (o : OpFields)                                    -- ACCST (R455)
  | vbin (g : Fin 1024) (o : OpFields)                                     -- VBIN (R458)
  | vun (g : Fin 1024) (o : OpFields)                                      -- VUN (R460)
  | vscale (g : Fin 1024) (o : OpFields)                                   -- VSCALE (R458)
  | vfma (g : Fin 1024) (o : OpFields)                                     -- VFMA (R458)
  | vred (g : Fin 1024) (o : OpFields)                                     -- VRED (R458)
  | vcvt (g : Fin 1024) (o : OpFields)                                     -- VCVT (R458)
  | vcmp (g : Fin 1024) (o : OpFields)                                     -- VCMP (R458)
  | vsel (g : Fin 1024) (o : OpFields)                                     -- VSEL (R458)
  | send (g : Fin 1024) (o : OpFields)                                     -- SEND (R463)
  | qrd (g : Fin 1024) (o : OpFields)                                      -- QRD (R464)
  | acq (g : Fin 1024) (o : OpFields)                                      -- ACQ (R466)
  | rel (g : Fin 1024) (o : OpFields)                                      -- REL (R466)
  | fence (g : Fin 1024) (o : OpFields)                                    -- FENCE (R647)
  | atom (g : Fin 1024) (o : OpFields)                                     -- ATOM (R468)
  | tatom (g : Fin 1024) (o : OpFields)                                    -- TATOM (R470)
  | gather (g : Fin 1024) (o : OpFields)                                   -- GATHER (R688)
  | scatter (g : Fin 1024) (o : OpFields)                                  -- SCATTER (R689)
  | undefinedOpcode (g : Fin 1024)                                         -- UNDEFINED_OPCODE (R421)
  | pllLossOfLock (pll : Pll)                                              -- PLL_LOSS_OF_LOCK (R89)
  | configurationWrite (w : CfgWrite)                                      -- CONFIGURATION_WRITE (R210)
  | platformEventAcknowledgement (e : Endpoint) (id : Nat)                 -- PLATFORM_EVENT_ACKNOWLEDGEMENT (R829)
  | mctpVendorMessage (e : Endpoint)                                       -- MCTP_VENDOR_MESSAGE (R875)
  deriving DecidableEq, Repr

end Sys2Proof
end

