-- ==== Sys2Proof/Decode.lean ====
section
/-! DEFINITION. Words of the block. The opcode table gives its rows no bits: the commands are events and register
accesses, not encodings, so no word spells a command. The operation words a core fetches are data of the module:
`encodeOp` is the layout of R419. -/

namespace Sys2Proof

/-- The command a word of the opcode table spells: none, since no row of the table gives bits. -/
def decodeTableWord (_nbits _w : Nat) : Option Instr := none

/-- The operation word (R419): OPC 7:0, D 12:8, A 17:13, B 22:18, C 27:23, MOD 35:28, IMM 63:36. -/
def encodeOp (opc : BitVec 8) (o : OpFields) : Word64 :=
  o.imm ++ o.mod ++ BitVec.ofNat 5 o.c.val ++ BitVec.ofNat 5 o.b.val ++ BitVec.ofNat 5 o.a.val ++
    BitVec.ofNat 5 o.d.val ++ opc

/-- The word that fills program memory beyond a program's LENGTH (R416): an undefined opcode. -/
def fillerWord : Word64 := 0xFFFFFFFFFFFFFFFF

/-- The fields of an operation word. -/
def fieldsOf (w : Word64) : OpFields :=
  { d := ⟨(w.extractLsb' 8 5).toNat, (w.extractLsb' 8 5).isLt⟩
    a := ⟨(w.extractLsb' 13 5).toNat, (w.extractLsb' 13 5).isLt⟩
    b := ⟨(w.extractLsb' 18 5).toNat, (w.extractLsb' 18 5).isLt⟩
    c := ⟨(w.extractLsb' 23 5).toNat, (w.extractLsb' 23 5).isLt⟩
    mod := w.extractLsb' 28 8
    imm := w.extractLsb' 36 28 }

/-- The opcode of an operation word. -/
def opcodeOf (w : Word64) : BitVec 8 := w.extractLsb' 0 8

end Sys2Proof
end

