-- ==== Sys2Proof/Config.lean ====
section
/-! DEFINITION. What the spec leaves open or an implementation fixes, as constants with no body: nothing can be proved
about a value of theirs, so a statement holds whatever they are. -/

namespace Sys2Proof.Config

/-- The undefined data of unwritten words (R12 error 2, R198), one fresh byte for each draw and address. -/
opaque undefByte : Nat → Nat → Byte

/-- A value the spec leaves undefined, one fresh 64-bit value for each draw. -/
opaque freeValue : Nat → Word64

/-- Whether a quotient whose rounding no rule states rounds up, by dividend and divisor. -/
opaque roundsUp : Nat → Nat → Bool

/-- Whether a running cluster DMA transfer moves a word by now (R432), by draw and word of cluster memory. -/
opaque movesNow : Nat → Nat → Bool

/-- Whether a rise of the RC trim code raises the AON frequency (R62 gives the step and not its sense). -/
opaque trimRaises : Bool

/-- The read-pointer offset that a training of a crossing finds (R70), by draw and crossing: the spec gives no value. -/
opaque trainedOffset : Nat → Nat → BitVec 3

/-- A host byte that a read command does not carry, by host address. -/
opaque hostByte : Nat → Byte

/-- The static coefficient of a powered island in mW (R134: fused calibration). -/
opaque staticIsland : Nat

/-- The static coefficient of a powered slice in mW (R134). -/
opaque staticSlice : Nat

/-- The static coefficients in mW of what belongs to no region: Vesper, AON, SNS, HOST and CTL (R134). -/
opaque idleStatic : Nat

/-- The energy of one event of kind k in fJ (R134, R833). -/
opaque eventEnergy : Nat → Nat

/-- The Device Serial Number (R206: a unique fused value). -/
opaque serialNumber : Word64

/-- The UUID derived from the Device Serial Number (R823 gives no derivation). -/
opaque uuidOf : Word64 → BitVec 128

/-- The LENGTH of an Almanac entry's payload in units of 16 bytes, modulo 4,095, by TYPE and what the payload tells: the spec
lays out no payload but those of SUPPLY and INTEGRITY (R841). -/
opaque almanacUnits : Nat → List Nat → Nat

/-- A byte of an Almanac entry's payload, by TYPE, what the payload tells and offset (R841). -/
opaque almanacByte : Nat → List Nat → Nat → Byte

/-- The version that GetPLDMVersion and Get MCTP Version Support answer, by message type and PLDM type (R823, R825). -/
opaque protocolVersion : Nat → Nat → Nat

/-- The commands of PLDM types 2 and 5 that Vesper supports (R825). -/
opaque pldmCommands : Nat → List Nat

end Sys2Proof.Config
end

