-- ==== Sys2Proof/Machine/RegMap.lean ====
section
/-! DEFINITION. The setup registers of the module (21_register_map.md and the "Setup registers" tables of every chapter):
where each register lies, its fields, their access types and cold values. A register is named by its byte offset in
PF BAR0; the two registers that only VF BAR0 has (VF_ACCESS_TOTAL, VF_ACCESS_LOG, R266) are named by
0x0100_0000 + 0x2_0000 * n + offset for VF n. -/

namespace Sys2Proof.Machine

/-- The access types of R250 (05_host_interface_and_register_access.md). -/
inductive Access where
  | ro | rw | rws | rwq | w1c | wo
  deriving DecidableEq, Repr

/-- A field of a register: the register's offset, the field's lowest bit, its width, the register's cold value. -/
structure Fld where
  off : Nat
  lo : Nat
  width : Nat
  cold : Nat
  deriving DecidableEq, Repr

/-- One field of a register of the map. -/
structure FieldDesc where
  hi : Nat
  lo : Nat
  access : Access
  deriving DecidableEq, Repr

/-- A register, or an array of registers with a (stride, count) pair for each index, the outermost first (R883). -/
structure RegDesc where
  base : Nat
  dims : List (Nat × Nat)
  cold : Nat
  fields : List FieldDesc
  deriving DecidableEq, Repr

/-! ### Registers and fields by name -/

def R.GLB_IDENT : Nat := 0x0
def F.GLB_IDENT_PART : Fld := ⟨R.GLB_IDENT, 16, 16, 0x16121101⟩
def F.GLB_IDENT_STEPPING : Fld := ⟨R.GLB_IDENT, 8, 8, 0x16121101⟩
def F.GLB_IDENT_FAMILY : Fld := ⟨R.GLB_IDENT, 0, 8, 0x16121101⟩
def R.GLB_SHAPE : Nat := 0x4
def F.GLB_SHAPE_HL_PORTS : Fld := ⟨R.GLB_SHAPE, 28, 4, 0x487f40bf⟩
def F.GLB_SHAPE_STACKS : Fld := ⟨R.GLB_SHAPE, 24, 4, 0x487f40bf⟩
def F.GLB_SHAPE_CLUSTERS_M1 : Fld := ⟨R.GLB_SHAPE, 16, 8, 0x487f40bf⟩
def F.GLB_SHAPE_SLICES : Fld := ⟨R.GLB_SHAPE, 8, 8, 0x487f40bf⟩
def F.GLB_SHAPE_ROWS_M1 : Fld := ⟨R.GLB_SHAPE, 4, 4, 0x487f40bf⟩
def F.GLB_SHAPE_COLS_M1 : Fld := ⟨R.GLB_SHAPE, 0, 4, 0x487f40bf⟩
def R.GLB_CAPS : Nat := 0x8
def F.GLB_CAPS_FMT_MASK : Fld := ⟨R.GLB_CAPS, 16, 8, 0xff00ff⟩
def F.GLB_CAPS_MAX_REGIONS_M1 : Fld := ⟨R.GLB_CAPS, 3, 5, 0xff00ff⟩
def F.GLB_CAPS_SIGNED_IMAGES : Fld := ⟨R.GLB_CAPS, 2, 1, 0xff00ff⟩
def F.GLB_CAPS_MERIDIAN_SPLIT : Fld := ⟨R.GLB_CAPS, 1, 1, 0xff00ff⟩
def F.GLB_CAPS_EXACT_ACCUM : Fld := ⟨R.GLB_CAPS, 0, 1, 0xff00ff⟩
def R.CLK_STATUS : Nat := 0x10000
def F.CLK_STATUS_XING_TRAINED : Fld := ⟨R.CLK_STATUS, 10, 1, 0x0⟩
def F.CLK_STATUS_SLEWING : Fld := ⟨R.CLK_STATUS, 9, 1, 0x0⟩
def F.CLK_STATUS_SHED : Fld := ⟨R.CLK_STATUS, 8, 1, 0x0⟩
def F.CLK_STATUS_LINK_LOCK : Fld := ⟨R.CLK_STATUS, 7, 1, 0x0⟩
def F.CLK_STATUS_TE_LOCK : Fld := ⟨R.CLK_STATUS, 6, 1, 0x0⟩
def F.CLK_STATUS_TW_LOCK : Fld := ⟨R.CLK_STATUS, 5, 1, 0x0⟩
def F.CLK_STATUS_CTL_LOCK : Fld := ⟨R.CLK_STATUS, 4, 1, 0x0⟩
def F.CLK_STATUS_HOST_LOCK : Fld := ⟨R.CLK_STATUS, 3, 1, 0x0⟩
def F.CLK_STATUS_XREF_OK : Fld := ⟨R.CLK_STATUS, 2, 1, 0x0⟩
def F.CLK_STATUS_AON_TRIMMED : Fld := ⟨R.CLK_STATUS, 1, 1, 0x0⟩
def F.CLK_STATUS_XTAL32_OK : Fld := ⟨R.CLK_STATUS, 0, 1, 0x0⟩
def R.CLK_TILE_FREQ : Nat := 0x10004
def F.CLK_TILE_FREQ_IN_FORCE_MULT : Fld := ⟨R.CLK_TILE_FREQ, 16, 7, 0x5050⟩
def F.CLK_TILE_FREQ_VESPER_MULT : Fld := ⟨R.CLK_TILE_FREQ, 8, 7, 0x5050⟩
def F.CLK_TILE_FREQ_CEILING_MULT : Fld := ⟨R.CLK_TILE_FREQ, 0, 7, 0x5050⟩
def R.CLK_SHED : Nat := 0x10008
def F.CLK_SHED_SHED_COUNT : Fld := ⟨R.CLK_SHED, 16, 16, 0x0⟩
def F.CLK_SHED_FORCE_SHED : Fld := ⟨R.CLK_SHED, 0, 1, 0x0⟩
def R.CLK_ERR : Nat := 0x1000c
def F.CLK_ERR_FREQ_ERR : Fld := ⟨R.CLK_ERR, 8, 1, 0x0⟩
def F.CLK_ERR_XING_FAIL : Fld := ⟨R.CLK_ERR, 7, 1, 0x0⟩
def F.CLK_ERR_UNLOCK_HOST : Fld := ⟨R.CLK_ERR, 6, 1, 0x0⟩
def F.CLK_ERR_UNLOCK_LINK : Fld := ⟨R.CLK_ERR, 5, 1, 0x0⟩
def F.CLK_ERR_UNLOCK_CTL : Fld := ⟨R.CLK_ERR, 4, 1, 0x0⟩
def F.CLK_ERR_UNLOCK_TE : Fld := ⟨R.CLK_ERR, 3, 1, 0x0⟩
def F.CLK_ERR_UNLOCK_TW : Fld := ⟨R.CLK_ERR, 2, 1, 0x0⟩
def F.CLK_ERR_XTAL32_FAIL : Fld := ⟨R.CLK_ERR, 1, 1, 0x0⟩
def F.CLK_ERR_XREF_FAIL : Fld := ⟨R.CLK_ERR, 0, 1, 0x0⟩
def R.CLK_XING_LOG : Nat := 0x10010
def F.CLK_XING_LOG_VALID : Fld := ⟨R.CLK_XING_LOG, 31, 1, 0x0⟩
def F.CLK_XING_LOG_RETRAIN_COUNT : Fld := ⟨R.CLK_XING_LOG, 16, 8, 0x0⟩
def F.CLK_XING_LOG_PLANE : Fld := ⟨R.CLK_XING_LOG, 8, 1, 0x0⟩
def F.CLK_XING_LOG_TILE_ID : Fld := ⟨R.CLK_XING_LOG, 0, 8, 0x0⟩
def R.CLK_AON_TRIM : Nat := 0x10014
def F.CLK_AON_TRIM_LAST_ERR_PPM : Fld := ⟨R.CLK_AON_TRIM, 16, 16, 0x0⟩
def F.CLK_AON_TRIM_TRIM_CODE : Fld := ⟨R.CLK_AON_TRIM, 0, 10, 0x0⟩
def R.CLK_TIME_LO : Nat := 0x10020
def F.CLK_TIME_LO_TIME_LO : Fld := ⟨R.CLK_TIME_LO, 0, 32, 0x0⟩
def R.CLK_TIME_HI : Nat := 0x10024
def F.CLK_TIME_HI_TIME_HI : Fld := ⟨R.CLK_TIME_HI, 0, 16, 0x0⟩
def R.CLK_TICK : Nat := 0x10028
def F.CLK_TICK_TICK : Fld := ⟨R.CLK_TICK, 0, 32, 0x0⟩
def R.CLK_ISLAND : Nat := 0x10030
def F.CLK_ISLAND_POWERED : Fld := ⟨R.CLK_ISLAND, 0, 32, 0x0⟩
def R.PWR_STATUS : Nat := 0x20000
def F.PWR_STATUS_METER_OK : Fld := ⟨R.PWR_STATUS, 10, 1, 0x0⟩
def F.PWR_STATUS_LG_ARMED : Fld := ⟨R.PWR_STATUS, 9, 1, 0x0⟩
def F.PWR_STATUS_CAP_UNREACHABLE : Fld := ⟨R.PWR_STATUS, 8, 1, 0x0⟩
def F.PWR_STATUS_CAP_LIMITING : Fld := ⟨R.PWR_STATUS, 7, 1, 0x0⟩
def F.PWR_STATUS_SHED_REQ : Fld := ⟨R.PWR_STATUS, 6, 1, 0x0⟩
def F.PWR_STATUS_HBM_REFRESH_ONLY : Fld := ⟨R.PWR_STATUS, 5, 1, 0x0⟩
def F.PWR_STATUS_LIMIT_ACTIVE : Fld := ⟨R.PWR_STATUS, 4, 1, 0x0⟩
def F.PWR_STATUS_RIPPLE_ACTIVE : Fld := ⟨R.PWR_STATUS, 3, 1, 0x0⟩
def F.PWR_STATUS_SWELL_ACTIVE : Fld := ⟨R.PWR_STATUS, 2, 1, 0x0⟩
def F.PWR_STATUS_DROPOUT_ACTIVE : Fld := ⟨R.PWR_STATUS, 1, 1, 0x0⟩
def F.PWR_STATUS_SAG_ACTIVE : Fld := ⟨R.PWR_STATUS, 0, 1, 0x0⟩
def R.PWR_TICK_POWER : Nat := 0x2000c
def F.PWR_TICK_POWER_POWER : Fld := ⟨R.PWR_TICK_POWER, 0, 16, 0x0⟩
def R.PWR_CAP : Nat := 0x20050
def F.PWR_CAP_PLDM_CAP_W : Fld := ⟨R.PWR_CAP, 16, 11, 0x0⟩
def F.PWR_CAP_PF_CAP_W : Fld := ⟨R.PWR_CAP, 0, 11, 0x0⟩
def R.PWR_CAP_STATUS : Nat := 0x20054
def F.PWR_CAP_STATUS_ENFORCED_W : Fld := ⟨R.PWR_CAP_STATUS, 0, 11, 0x44c⟩
def R.PWR_FHALT_CTRL : Nat := 0x20060
def F.PWR_FHALT_CTRL_RELEASE : Fld := ⟨R.PWR_FHALT_CTRL, 31, 1, 0xc8⟩
def F.PWR_FHALT_CTRL_TD_MS : Fld := ⟨R.PWR_FHALT_CTRL, 0, 11, 0xc8⟩
def R.PWR_FHALT_STATUS : Nat := 0x20064
def F.PWR_FHALT_STATUS_BLIP_COUNT : Fld := ⟨R.PWR_FHALT_STATUS, 16, 16, 0x0⟩
def F.PWR_FHALT_STATUS_DISCREPANCY : Fld := ⟨R.PWR_FHALT_STATUS, 4, 1, 0x0⟩
def F.PWR_FHALT_STATUS_HALTED : Fld := ⟨R.PWR_FHALT_STATUS, 3, 1, 0x0⟩
def F.PWR_FHALT_STATUS_HALTING : Fld := ⟨R.PWR_FHALT_STATUS, 2, 1, 0x0⟩
def F.PWR_FHALT_STATUS_B_ASSERTED : Fld := ⟨R.PWR_FHALT_STATUS, 1, 1, 0x0⟩
def F.PWR_FHALT_STATUS_A_ASSERTED : Fld := ⟨R.PWR_FHALT_STATUS, 0, 1, 0x0⟩
def R.PWR_ERR : Nat := 0x20070
def F.PWR_ERR_METER_FAIL : Fld := ⟨R.PWR_ERR, 4, 1, 0x0⟩
def F.PWR_ERR_RELEASE_REFUSED : Fld := ⟨R.PWR_ERR, 3, 1, 0x0⟩
def F.PWR_ERR_TD_ERR : Fld := ⟨R.PWR_ERR, 2, 1, 0x0⟩
def F.PWR_ERR_CAP_ERR : Fld := ⟨R.PWR_ERR, 1, 1, 0x0⟩
def F.PWR_ERR_THR_ERR : Fld := ⟨R.PWR_ERR, 0, 1, 0x0⟩
def R.PWR_EVT_TOTAL : Nat := 0x20080
def F.PWR_EVT_TOTAL_TOTAL : Fld := ⟨R.PWR_EVT_TOTAL, 0, 32, 0x0⟩
def R.PWR_TEMP : Nat := 0x20090
def F.PWR_TEMP_HBM_MAX_C : Fld := ⟨R.PWR_TEMP, 24, 8, 0x0⟩
def F.PWR_TEMP_THERMAL_REQ : Fld := ⟨R.PWR_TEMP, 16, 1, 0x0⟩
def F.PWR_TEMP_DIE_PEAK_C : Fld := ⟨R.PWR_TEMP, 8, 8, 0x0⟩
def F.PWR_TEMP_DIE_MAX_C : Fld := ⟨R.PWR_TEMP, 0, 8, 0x0⟩
def R.PWR_STATE : Nat := 0x20800
def F.PWR_STATE_M2_COUNT : Fld := ⟨R.PWR_STATE, 24, 8, 0x1⟩
def F.PWR_STATE_LAST_WAKE : Fld := ⟨R.PWR_STATE, 16, 4, 0x1⟩
def F.PWR_STATE_M2_ENTERING : Fld := ⟨R.PWR_STATE, 3, 1, 0x1⟩
def F.PWR_STATE_STATE : Fld := ⟨R.PWR_STATE, 0, 3, 0x1⟩
def R.PWR_M2_CTRL : Nat := 0x20804
def F.PWR_M2_CTRL_SLEEP_ERR : Fld := ⟨R.PWR_M2_CTRL, 31, 1, 0x641401⟩
def F.PWR_M2_CTRL_ISLAND_IDLE_US : Fld := ⟨R.PWR_M2_CTRL, 16, 14, 0x641401⟩
def F.PWR_M2_CTRL_IDLE_TICKS : Fld := ⟨R.PWR_M2_CTRL, 8, 8, 0x641401⟩
def F.PWR_M2_CTRL_M2_ENABLE : Fld := ⟨R.PWR_M2_CTRL, 0, 1, 0x641401⟩
def R.PWR_M2_VETO : Nat := 0x20808
def F.PWR_M2_VETO_VETO : Fld := ⟨R.PWR_M2_VETO, 0, 32, 0x0⟩
def R.PWR_ISLAND_HOLD : Nat := 0x2080c
def F.PWR_ISLAND_HOLD_HOLD : Fld := ⟨R.PWR_ISLAND_HOLD, 0, 32, 0x0⟩
def R.PWR_M2_BLOCK : Nat := 0x20810
def F.PWR_M2_BLOCK_HALT : Fld := ⟨R.PWR_M2_BLOCK, 7, 1, 0x2⟩
def F.PWR_M2_BLOCK_NO_L1_2 : Fld := ⟨R.PWR_M2_BLOCK, 6, 1, 0x2⟩
def F.PWR_M2_BLOCK_PORT_TRAINED : Fld := ⟨R.PWR_M2_BLOCK, 5, 1, 0x2⟩
def F.PWR_M2_BLOCK_RING_WORK : Fld := ⟨R.PWR_M2_BLOCK, 4, 1, 0x2⟩
def F.PWR_M2_BLOCK_VETO : Fld := ⟨R.PWR_M2_BLOCK, 3, 1, 0x2⟩
def F.PWR_M2_BLOCK_REGION_STATE : Fld := ⟨R.PWR_M2_BLOCK, 2, 1, 0x2⟩
def F.PWR_M2_BLOCK_NOT_IDLE : Fld := ⟨R.PWR_M2_BLOCK, 1, 1, 0x2⟩
def F.PWR_M2_BLOCK_DISABLED : Fld := ⟨R.PWR_M2_BLOCK, 0, 1, 0x2⟩
def R.PWR_SLEEP_LOST : Nat := 0x20814
def F.PWR_SLEEP_LOST_LOST : Fld := ⟨R.PWR_SLEEP_LOST, 0, 32, 0x0⟩
def R.RST_CTRL : Nat := 0x30000
def F.RST_CTRL_KEY : Fld := ⟨R.RST_CTRL, 16, 16, 0x0⟩
def F.RST_CTRL_WARM_KEEP_HBM : Fld := ⟨R.RST_CTRL, 8, 1, 0x0⟩
def F.RST_CTRL_COLD : Fld := ⟨R.RST_CTRL, 1, 1, 0x0⟩
def F.RST_CTRL_WARM : Fld := ⟨R.RST_CTRL, 0, 1, 0x0⟩
def R.RST_BOOT_STATUS : Nat := 0x30004
def F.RST_BOOT_STATUS_READY : Fld := ⟨R.RST_BOOT_STATUS, 31, 1, 0x0⟩
def F.RST_BOOT_STATUS_RECOVERY : Fld := ⟨R.RST_BOOT_STATUS, 30, 1, 0x0⟩
def F.RST_BOOT_STATUS_SLOT : Fld := ⟨R.RST_BOOT_STATUS, 29, 1, 0x0⟩
def F.RST_BOOT_STATUS_FALLBACK : Fld := ⟨R.RST_BOOT_STATUS, 28, 1, 0x0⟩
def F.RST_BOOT_STATUS_PHASE : Fld := ⟨R.RST_BOOT_STATUS, 24, 4, 0x0⟩
def F.RST_BOOT_STATUS_FW_SVN : Fld := ⟨R.RST_BOOT_STATUS, 0, 16, 0x0⟩
def R.RST_CAUSE : Nat := 0x30008
def F.RST_CAUSE_WARM_COUNT : Fld := ⟨R.RST_CAUSE, 16, 16, 0x0⟩
def F.RST_CAUSE_WARM_CMD : Fld := ⟨R.RST_CAUSE, 6, 1, 0x0⟩
def F.RST_CAUSE_PF_FLR : Fld := ⟨R.RST_CAUSE, 5, 1, 0x0⟩
def F.RST_CAUSE_HOT_RESET : Fld := ⟨R.RST_CAUSE, 4, 1, 0x0⟩
def F.RST_CAUSE_PERST : Fld := ⟨R.RST_CAUSE, 3, 1, 0x0⟩
def F.RST_CAUSE_AFTER_LOSS : Fld := ⟨R.RST_CAUSE, 2, 1, 0x0⟩
def F.RST_CAUSE_COLD_CMD : Fld := ⟨R.RST_CAUSE, 1, 1, 0x0⟩
def F.RST_CAUSE_POWER_ON : Fld := ⟨R.RST_CAUSE, 0, 1, 0x0⟩
def R.RST_ERR : Nat := 0x3000c
def F.RST_ERR_IMAGE_SLOT_FAIL : Fld := ⟨R.RST_ERR, 4, 1, 0x0⟩
def F.RST_ERR_REPAIR_FAIL : Fld := ⟨R.RST_ERR, 3, 1, 0x0⟩
def F.RST_ERR_HBM_TRAIN_FAIL : Fld := ⟨R.RST_ERR, 2, 1, 0x0⟩
def F.RST_ERR_CMD_ERR : Fld := ⟨R.RST_ERR, 1, 1, 0x0⟩
def F.RST_ERR_KEY_ERR : Fld := ⟨R.RST_ERR, 0, 1, 0x0⟩
def R.HOST_STATUS : Nat := 0x40000
def F.HOST_STATUS_L1_2_ENABLED : Fld := ⟨R.HOST_STATUS, 21, 1, 0x0⟩
def F.HOST_STATUS_FLIT_MODE : Fld := ⟨R.HOST_STATUS, 20, 1, 0x0⟩
def F.HOST_STATUS_SPEED : Fld := ⟨R.HOST_STATUS, 16, 4, 0x0⟩
def F.HOST_STATUS_WIDTH : Fld := ⟨R.HOST_STATUS, 11, 5, 0x0⟩
def F.HOST_STATUS_PF_D3HOT : Fld := ⟨R.HOST_STATUS, 9, 1, 0x0⟩
def F.HOST_STATUS_VF_ENABLE : Fld := ⟨R.HOST_STATUS, 8, 1, 0x0⟩
def F.HOST_STATUS_NUM_VFS : Fld := ⟨R.HOST_STATUS, 0, 6, 0x0⟩
def R.HOST_VF_BME : Nat := 0x40004
def F.HOST_VF_BME_BME : Fld := ⟨R.HOST_VF_BME, 0, 32, 0x0⟩
def R.HOST_ERR : Nat := 0x40008
def F.HOST_ERR_SRIOV_CFG_ERR : Fld := ⟨R.HOST_ERR, 6, 1, 0x0⟩
def F.HOST_ERR_LINK_DEGRADED : Fld := ⟨R.HOST_ERR, 5, 1, 0x0⟩
def F.HOST_ERR_POISON_WRITE : Fld := ⟨R.HOST_ERR, 4, 1, 0x0⟩
def F.HOST_ERR_POISON_IN : Fld := ⟨R.HOST_ERR, 3, 1, 0x0⟩
def F.HOST_ERR_DMA_TIMEOUT : Fld := ⟨R.HOST_ERR, 2, 1, 0x0⟩
def F.HOST_ERR_DMA_CA : Fld := ⟨R.HOST_ERR, 1, 1, 0x0⟩
def F.HOST_ERR_DMA_UR : Fld := ⟨R.HOST_ERR, 0, 1, 0x0⟩
def R.INT_PF_ENABLE : Nat := 0xa00000
def F.INT_PF_ENABLE_ENABLE : Fld := ⟨R.INT_PF_ENABLE, 0, 8, 0xff⟩
def R.INT_PF_STATUS : Nat := 0xa00004
def F.INT_PF_STATUS_STATUS : Fld := ⟨R.INT_PF_STATUS, 0, 8, 0x0⟩
def R.INT_PF_EVENT : Nat := 0xa0000c
def F.INT_PF_EVENT_LINK : Fld := ⟨R.INT_PF_EVENT, 7, 1, 0x0⟩
def F.INT_PF_EVENT_REGION : Fld := ⟨R.INT_PF_EVENT, 3, 1, 0x0⟩
def F.INT_PF_EVENT_SUPPLY : Fld := ⟨R.INT_PF_EVENT, 1, 1, 0x0⟩
def R.SCH_KEY_VALID : Nat := 0x300000
def F.SCH_KEY_VALID_VALID : Fld := ⟨R.SCH_KEY_VALID, 0, 4, 0x0⟩
def R.SCH_ERR : Nat := 0x300004
def F.SCH_ERR_KEY_ERR : Fld := ⟨R.SCH_ERR, 0, 1, 0x0⟩
def R.DYN_QUIESCING : Nat := 0x310000
def F.DYN_QUIESCING_QUIESCING : Fld := ⟨R.DYN_QUIESCING, 0, 32, 0x0⟩
def R.CTL_STATUS : Nat := 0x320000
def F.CTL_STATUS_RETRIES : Fld := ⟨R.CTL_STATUS, 16, 16, 0x0⟩
def F.CTL_STATUS_HALT_MAX_NS : Fld := ⟨R.CTL_STATUS, 0, 16, 0x0⟩
def R.CTL_ERR : Nat := 0x320004
def F.CTL_ERR_FAIL_TILE : Fld := ⟨R.CTL_ERR, 0, 8, 0x0⟩
def R.CTL_ERR_FLAGS : Nat := 0x320008
def F.CTL_ERR_FLAGS_RETRY_FAIL : Fld := ⟨R.CTL_ERR_FLAGS, 0, 1, 0x0⟩
def R.INT_INTEG_STATUS : Nat := 0xa00008
def F.INT_INTEG_STATUS_TAG_FENCE : Fld := ⟨R.INT_INTEG_STATUS, 5, 1, 0x0⟩
def F.INT_INTEG_STATUS_BUSHEL : Fld := ⟨R.INT_INTEG_STATUS, 4, 1, 0x0⟩
def F.INT_INTEG_STATUS_POISON_IN : Fld := ⟨R.INT_INTEG_STATUS, 3, 1, 0x0⟩
def F.INT_INTEG_STATUS_LOST_LINE : Fld := ⟨R.INT_INTEG_STATUS, 2, 1, 0x0⟩
def F.INT_INTEG_STATUS_CONFIG_UE : Fld := ⟨R.INT_INTEG_STATUS, 1, 1, 0x0⟩
def F.INT_INTEG_STATUS_UE : Fld := ⟨R.INT_INTEG_STATUS, 0, 1, 0x0⟩
def R.INT_INTEG_TOTAL : Nat := 0xa00010
def F.INT_INTEG_TOTAL_TOTAL : Fld := ⟨R.INT_INTEG_TOTAL, 0, 32, 0x0⟩
def R.PWR_VIN : Nat := 0x20004
def F.PWR_VIN_TICK_EXTREME : Fld := ⟨R.PWR_VIN, 16, 16, 0x0⟩
def F.PWR_VIN_LAST : Fld := ⟨R.PWR_VIN, 0, 16, 0x0⟩
def R.PWR_IIN : Nat := 0x20008
def F.PWR_IIN_TICK_EXTREME : Fld := ⟨R.PWR_IIN, 16, 16, 0x0⟩
def F.PWR_IIN_LAST : Fld := ⟨R.PWR_IIN, 0, 16, 0x0⟩
def R.PWR_ENERGY_LO : Nat := 0x20010
def F.PWR_ENERGY_LO_VALUE : Fld := ⟨R.PWR_ENERGY_LO, 0, 32, 0x0⟩
def R.PWR_ENERGY_HI : Nat := 0x20014
def F.PWR_ENERGY_HI_VALUE : Fld := ⟨R.PWR_ENERGY_HI, 0, 32, 0x0⟩
def R.PWR_IDLE_ENERGY_LO : Nat := 0x20018
def F.PWR_IDLE_ENERGY_LO_VALUE : Fld := ⟨R.PWR_IDLE_ENERGY_LO, 0, 32, 0x0⟩
def R.PWR_IDLE_ENERGY_HI : Nat := 0x2001c
def F.PWR_IDLE_ENERGY_HI_VALUE : Fld := ⟨R.PWR_IDLE_ENERGY_HI, 0, 32, 0x0⟩
def R.PWR_RGN_ENERGY_LO (n : Nat) : Nat := 0x20500 + 0x8 * n
def F.PWR_RGN_ENERGY_LO_VALUE (n : Nat) : Fld := ⟨R.PWR_RGN_ENERGY_LO n, 0, 32, 0x0⟩
def R.PWR_RGN_ENERGY_HI (n : Nat) : Nat := 0x20504 + 0x8 * n
def F.PWR_RGN_ENERGY_HI_VALUE (n : Nat) : Fld := ⟨R.PWR_RGN_ENERGY_HI n, 0, 32, 0x0⟩
def R.PWR_SAG : Nat := 0x20020
def F.PWR_SAG_SAMPLES : Fld := ⟨R.PWR_SAG, 16, 8, 0x35abe0⟩
def F.PWR_SAG_MV : Fld := ⟨R.PWR_SAG, 0, 16, 0x35abe0⟩
def R.PWR_SAG_CLEAR : Nat := 0x20024
def F.PWR_SAG_CLEAR_MV : Fld := ⟨R.PWR_SAG_CLEAR, 0, 16, 0xb3b0⟩
def R.PWR_DROPOUT : Nat := 0x20028
def F.PWR_DROPOUT_SAMPLES : Fld := ⟨R.PWR_DROPOUT, 16, 8, 0x48ca0⟩
def F.PWR_DROPOUT_MV : Fld := ⟨R.PWR_DROPOUT, 0, 16, 0x48ca0⟩
def R.PWR_DROPOUT_CLEAR : Nat := 0x2002c
def F.PWR_DROPOUT_CLEAR_MV : Fld := ⟨R.PWR_DROPOUT_CLEAR, 0, 16, 0x9470⟩
def R.PWR_LOSS : Nat := 0x20030
def F.PWR_LOSS_SAMPLES : Fld := ⟨R.PWR_LOSS, 16, 8, 0x47530⟩
def F.PWR_LOSS_MV : Fld := ⟨R.PWR_LOSS, 0, 16, 0x47530⟩
def R.PWR_SWELL : Nat := 0x20034
def F.PWR_SWELL_SAMPLES : Fld := ⟨R.PWR_SWELL, 16, 8, 0x4f230⟩
def F.PWR_SWELL_MV : Fld := ⟨R.PWR_SWELL, 0, 16, 0x4f230⟩
def R.PWR_TRANSIENT : Nat := 0x20038
def F.PWR_TRANSIENT_MV : Fld := ⟨R.PWR_TRANSIENT, 0, 16, 0x3e8⟩
def R.PWR_RIPPLE : Nat := 0x2003c
def F.PWR_RIPPLE_MV : Fld := ⟨R.PWR_RIPPLE, 0, 16, 0x7d0⟩
def R.PWR_EVT_W0 (i : Nat) : Nat := 0x20100 + 0x10 * i
def F.PWR_EVT_W0_OPEN (i : Nat) : Fld := ⟨R.PWR_EVT_W0 i, 31, 1, 0x0⟩
def F.PWR_EVT_W0_OVP (i : Nat) : Fld := ⟨R.PWR_EVT_W0 i, 30, 1, 0x0⟩
def F.PWR_EVT_W0_THERM (i : Nat) : Fld := ⟨R.PWR_EVT_W0 i, 29, 1, 0x0⟩
def F.PWR_EVT_W0_CLASS (i : Nat) : Fld := ⟨R.PWR_EVT_W0 i, 24, 4, 0x0⟩
def F.PWR_EVT_W0_EXTREME_MV (i : Nat) : Fld := ⟨R.PWR_EVT_W0 i, 0, 16, 0x0⟩
def R.PWR_EVT_W1 (i : Nat) : Nat := 0x20104 + 0x10 * i
def F.PWR_EVT_W1_START_LO (i : Nat) : Fld := ⟨R.PWR_EVT_W1 i, 0, 32, 0x0⟩
def R.PWR_EVT_W2 (i : Nat) : Nat := 0x20108 + 0x10 * i
def F.PWR_EVT_W2_DECLARE_SAMPLES (i : Nat) : Fld := ⟨R.PWR_EVT_W2 i, 16, 16, 0x0⟩
def F.PWR_EVT_W2_START_HI (i : Nat) : Fld := ⟨R.PWR_EVT_W2 i, 0, 16, 0x0⟩
def R.PWR_EVT_W3 (i : Nat) : Nat := 0x2010c + 0x10 * i
def F.PWR_EVT_W3_DURATION (i : Nat) : Fld := ⟨R.PWR_EVT_W3 i, 0, 32, 0x0⟩
def R.PWR_RGN_CAP (n : Nat) : Nat := 0x20400 + 0x4 * n
def F.PWR_RGN_CAP_LIMITING (n : Nat) : Fld := ⟨R.PWR_RGN_CAP n, 21, 1, 0x100000⟩
def F.PWR_RGN_CAP_DUTY (n : Nat) : Fld := ⟨R.PWR_RGN_CAP n, 16, 5, 0x100000⟩
def F.PWR_RGN_CAP_CAP_W (n : Nat) : Fld := ⟨R.PWR_RGN_CAP n, 0, 11, 0x100000⟩
def R.HOST_ACCESS_TOTAL : Nat := 0x40010
def F.HOST_ACCESS_TOTAL_TOTAL : Fld := ⟨R.HOST_ACCESS_TOTAL, 0, 32, 0x0⟩
def R.HOST_ACCESS_LOG_W0 (i : Nat) : Nat := 0x40100 + 0x10 * i
def F.HOST_ACCESS_LOG_W0_CAUSE (i : Nat) : Fld := ⟨R.HOST_ACCESS_LOG_W0 i, 24, 8, 0x0⟩
def F.HOST_ACCESS_LOG_W0_OFFSET (i : Nat) : Fld := ⟨R.HOST_ACCESS_LOG_W0 i, 2, 22, 0x0⟩
def R.HOST_ACCESS_LOG_W1 (i : Nat) : Nat := 0x40104 + 0x10 * i
def F.HOST_ACCESS_LOG_W1_IS_VF (i : Nat) : Fld := ⟨R.HOST_ACCESS_LOG_W1 i, 31, 1, 0x0⟩
def F.HOST_ACCESS_LOG_W1_VF_NUM (i : Nat) : Fld := ⟨R.HOST_ACCESS_LOG_W1 i, 24, 5, 0x0⟩
def F.HOST_ACCESS_LOG_W1_BE (i : Nat) : Fld := ⟨R.HOST_ACCESS_LOG_W1 i, 20, 4, 0x0⟩
def F.HOST_ACCESS_LOG_W1_BURST (i : Nat) : Fld := ⟨R.HOST_ACCESS_LOG_W1 i, 19, 1, 0x0⟩
def R.HOST_ACCESS_LOG_W2 (i : Nat) : Nat := 0x40108 + 0x10 * i
def F.HOST_ACCESS_LOG_W2_DATA (i : Nat) : Fld := ⟨R.HOST_ACCESS_LOG_W2 i, 0, 32, 0x0⟩
def R.HOST_ACCESS_LOG_W3 (i : Nat) : Nat := 0x4010c + 0x10 * i
def F.HOST_ACCESS_LOG_W3_TIME (i : Nat) : Fld := ⟨R.HOST_ACCESS_LOG_W3 i, 0, 32, 0x0⟩
def R.VF_ACCESS_TOTAL (n : Nat) : Nat := 0x1004000 + 0x20000 * n
def F.VF_ACCESS_TOTAL_TOTAL (n : Nat) : Fld := ⟨R.VF_ACCESS_TOTAL n, 0, 32, 0x0⟩
def R.VF_ACCESS_LOG_W0 (n : Nat) (i : Nat) : Nat := 0x1004100 + 0x20000 * n + 0x10 * i
def F.VF_ACCESS_LOG_W0_CAUSE (n : Nat) (i : Nat) : Fld := ⟨R.VF_ACCESS_LOG_W0 n i, 24, 8, 0x0⟩
def F.VF_ACCESS_LOG_W0_OFFSET (n : Nat) (i : Nat) : Fld := ⟨R.VF_ACCESS_LOG_W0 n i, 2, 22, 0x0⟩
def R.VF_ACCESS_LOG_W1 (n : Nat) (i : Nat) : Nat := 0x1004104 + 0x20000 * n + 0x10 * i
def F.VF_ACCESS_LOG_W1_IS_VF (n : Nat) (i : Nat) : Fld := ⟨R.VF_ACCESS_LOG_W1 n i, 31, 1, 0x0⟩
def F.VF_ACCESS_LOG_W1_VF_NUM (n : Nat) (i : Nat) : Fld := ⟨R.VF_ACCESS_LOG_W1 n i, 24, 5, 0x0⟩
def F.VF_ACCESS_LOG_W1_BE (n : Nat) (i : Nat) : Fld := ⟨R.VF_ACCESS_LOG_W1 n i, 20, 4, 0x0⟩
def F.VF_ACCESS_LOG_W1_BURST (n : Nat) (i : Nat) : Fld := ⟨R.VF_ACCESS_LOG_W1 n i, 19, 1, 0x0⟩
def R.VF_ACCESS_LOG_W2 (n : Nat) (i : Nat) : Nat := 0x1004108 + 0x20000 * n + 0x10 * i
def F.VF_ACCESS_LOG_W2_DATA (n : Nat) (i : Nat) : Fld := ⟨R.VF_ACCESS_LOG_W2 n i, 0, 32, 0x0⟩
def R.VF_ACCESS_LOG_W3 (n : Nat) (i : Nat) : Nat := 0x100410c + 0x20000 * n + 0x10 * i
def F.VF_ACCESS_LOG_W3_TIME (n : Nat) (i : Nat) : Fld := ⟨R.VF_ACCESS_LOG_W3 n i, 0, 32, 0x0⟩
def R.RING_DB_BASE_LO (n : Nat) : Nat := 0x54000 + 0x200 * n
def F.RING_DB_BASE_LO_VALUE (n : Nat) : Fld := ⟨R.RING_DB_BASE_LO n, 12, 20, 0x0⟩
def R.RING_DB_BASE_HI (n : Nat) : Nat := 0x54004 + 0x200 * n
def F.RING_DB_BASE_HI_VALUE (n : Nat) : Fld := ⟨R.RING_DB_BASE_HI n, 0, 32, 0x0⟩
def R.RING_CQ_BASE_LO (n : Nat) : Nat := 0x54008 + 0x200 * n
def F.RING_CQ_BASE_LO_VALUE (n : Nat) : Fld := ⟨R.RING_CQ_BASE_LO n, 12, 20, 0x0⟩
def R.RING_CQ_BASE_HI (n : Nat) : Nat := 0x5400c + 0x200 * n
def F.RING_CQ_BASE_HI_VALUE (n : Nat) : Fld := ⟨R.RING_CQ_BASE_HI n, 0, 32, 0x0⟩
def R.RING_CQ_SIZE (n : Nat) : Nat := 0x54014 + 0x200 * n
def F.RING_CQ_SIZE_SIZE_LOG2 (n : Nat) : Fld := ⟨R.RING_CQ_SIZE n, 0, 5, 0xa⟩
def R.RING_BASE_LO (n : Nat) (i : Nat) : Nat := 0x54040 + 0x200 * n + 0x20 * i
def F.RING_BASE_LO_VALUE (n : Nat) (i : Nat) : Fld := ⟨R.RING_BASE_LO n i, 12, 20, 0x0⟩
def R.RING_BASE_HI (n : Nat) (i : Nat) : Nat := 0x54044 + 0x200 * n + 0x20 * i
def F.RING_BASE_HI_VALUE (n : Nat) (i : Nat) : Fld := ⟨R.RING_BASE_HI n i, 0, 32, 0x0⟩
def R.RING_SIZE (n : Nat) (i : Nat) : Nat := 0x54048 + 0x200 * n + 0x20 * i
def F.RING_SIZE_SIZE_LOG2 (n : Nat) (i : Nat) : Fld := ⟨R.RING_SIZE n i, 0, 5, 0x8⟩
def R.RING_GEN (n : Nat) (i : Nat) : Nat := 0x5404c + 0x200 * n + 0x20 * i
def F.RING_GEN_VALUE (n : Nat) (i : Nat) : Fld := ⟨R.RING_GEN n i, 0, 32, 0x0⟩
def R.RING_ENABLE (n : Nat) : Nat := 0x54018 + 0x200 * n
def F.RING_ENABLE_CQ (n : Nat) : Fld := ⟨R.RING_ENABLE n, 8, 1, 0x0⟩
def F.RING_ENABLE_RING (n : Nat) : Fld := ⟨R.RING_ENABLE n, 0, 8, 0x0⟩
def R.RING_VF_STATUS (n : Nat) : Nat := 0x5401c + 0x200 * n
def F.RING_VF_STATUS_LOST_RECORDS (n : Nat) : Fld := ⟨R.RING_VF_STATUS n, 16, 16, 0x0⟩
def F.RING_VF_STATUS_HELD (n : Nat) : Fld := ⟨R.RING_VF_STATUS n, 8, 5, 0x0⟩
def F.RING_VF_STATUS_RWQ_REFUSED (n : Nat) : Fld := ⟨R.RING_VF_STATUS n, 4, 1, 0x0⟩
def F.RING_VF_STATUS_ENABLE_ERR (n : Nat) : Fld := ⟨R.RING_VF_STATUS n, 3, 1, 0x0⟩
def F.RING_VF_STATUS_SETUP_ERR (n : Nat) : Fld := ⟨R.RING_VF_STATUS n, 2, 1, 0x0⟩
def F.RING_VF_STATUS_CQ_ERR (n : Nat) : Fld := ⟨R.RING_VF_STATUS n, 1, 1, 0x0⟩
def F.RING_VF_STATUS_COMPLETION_STALL (n : Nat) : Fld := ⟨R.RING_VF_STATUS n, 0, 1, 0x0⟩
def R.RING_CQ_PRODUCED (n : Nat) : Nat := 0x54020 + 0x200 * n
def F.RING_CQ_PRODUCED_PRODUCED (n : Nat) : Fld := ⟨R.RING_CQ_PRODUCED n, 0, 32, 0x0⟩
def R.RING_POLL_STATS (n : Nat) : Nat := 0x54024 + 0x200 * n
def F.RING_POLL_STATS_STALE_COUNT (n : Nat) : Fld := ⟨R.RING_POLL_STATS n, 16, 16, 0x0⟩
def F.RING_POLL_STATS_TORN_COUNT (n : Nat) : Fld := ⟨R.RING_POLL_STATS n, 0, 16, 0x0⟩
def R.RING_STATUS (n : Nat) (i : Nat) : Nat := 0x54050 + 0x200 * n + 0x20 * i
def F.RING_STATUS_STOP_CAUSE (n : Nat) (i : Nat) : Fld := ⟨R.RING_STATUS n i, 8, 8, 0x0⟩
def F.RING_STATUS_PAUSED (n : Nat) (i : Nat) : Fld := ⟨R.RING_STATUS n i, 2, 1, 0x0⟩
def F.RING_STATUS_STATE (n : Nat) (i : Nat) : Fld := ⟨R.RING_STATUS n i, 0, 2, 0x0⟩
def R.RING_CONSUMED (n : Nat) (i : Nat) : Nat := 0x54054 + 0x200 * n + 0x20 * i
def F.RING_CONSUMED_CONSUMED (n : Nat) (i : Nat) : Fld := ⟨R.RING_CONSUMED n i, 0, 32, 0x0⟩
def R.RING_PRODUCER_SEEN (n : Nat) (i : Nat) : Nat := 0x54058 + 0x200 * n + 0x20 * i
def F.RING_PRODUCER_SEEN_PRODUCER_SEEN (n : Nat) (i : Nat) : Fld := ⟨R.RING_PRODUCER_SEEN n i, 0, 32, 0x0⟩
def R.RWE_POLL : Nat := 0x50000
def F.RWE_POLL_POLL_MAX_US : Fld := ⟨R.RWE_POLL, 16, 10, 0x3e80001⟩
def F.RWE_POLL_POLL_MIN_US : Fld := ⟨R.RWE_POLL, 0, 10, 0x3e80001⟩
def R.RWE_ERR : Nat := 0x50004
def F.RWE_ERR_POLL_ERR : Fld := ⟨R.RWE_ERR, 0, 1, 0x0⟩
def R.RWE_STALL : Nat := 0x50008
def F.RWE_STALL_STALL : Fld := ⟨R.RWE_STALL, 0, 32, 0x0⟩
def R.RWE_STOPPED : Nat := 0x5000c
def F.RWE_STOPPED_STOPPED : Fld := ⟨R.RWE_STOPPED, 0, 32, 0x0⟩
def R.RGN_STATE (n : Nat) : Nat := 0x100000 + 0x10000 * n
def F.RGN_STATE_ISLANDS_POWERED (n : Nat) : Fld := ⟨R.RGN_STATE n, 6, 1, 0x0⟩
def F.RGN_STATE_RELEASING (n : Nat) : Fld := ⟨R.RGN_STATE n, 5, 1, 0x0⟩
def F.RGN_STATE_RESET_PENDING (n : Nat) : Fld := ⟨R.RGN_STATE n, 4, 1, 0x0⟩
def F.RGN_STATE_IMAGE_LOADED (n : Nat) : Fld := ⟨R.RGN_STATE n, 3, 1, 0x0⟩
def F.RGN_STATE_STATE (n : Nat) : Fld := ⟨R.RGN_STATE n, 0, 3, 0x0⟩
def R.RGN_CMD (n : Nat) : Nat := 0x100004 + 0x10000 * n
def F.RGN_CMD_CMD (n : Nat) : Fld := ⟨R.RGN_CMD n, 0, 4, 0x0⟩
def R.RGN_RECT (n : Nat) : Nat := 0x100008 + 0x10000 * n
def F.RGN_RECT_EXTENT (n : Nat) : Fld := ⟨R.RGN_RECT n, 16, 2, 0x0⟩
def F.RGN_RECT_X1 (n : Nat) : Fld := ⟨R.RGN_RECT n, 8, 4, 0x0⟩
def F.RGN_RECT_X0 (n : Nat) : Fld := ⟨R.RGN_RECT n, 0, 4, 0x0⟩
def R.RGN_CONFIG (n : Nat) : Nat := 0x10000c + 0x10000 * n
def F.RGN_CONFIG_KEY_SLOT (n : Nat) : Fld := ⟨R.RGN_CONFIG n, 4, 2, 0x0⟩
def F.RGN_CONFIG_REQUIRE_SIGNED (n : Nat) : Fld := ⟨R.RGN_CONFIG n, 1, 1, 0x0⟩
def F.RGN_CONFIG_FAULT_ACTION (n : Nat) : Fld := ⟨R.RGN_CONFIG n, 0, 1, 0x0⟩
def R.RGN_ERR (n : Nat) : Nat := 0x100010 + 0x10000 * n
def F.RGN_ERR_COMMIT_CODE (n : Nat) : Fld := ⟨R.RGN_ERR n, 8, 4, 0x0⟩
def F.RGN_ERR_COMMIT_ERR (n : Nat) : Fld := ⟨R.RGN_ERR n, 4, 1, 0x0⟩
def F.RGN_ERR_RECT_ERR (n : Nat) : Fld := ⟨R.RGN_ERR n, 3, 1, 0x0⟩
def F.RGN_ERR_CMD_REFUSED (n : Nat) : Fld := ⟨R.RGN_ERR n, 2, 1, 0x0⟩
def F.RGN_ERR_CMD_ERR (n : Nat) : Fld := ⟨R.RGN_ERR n, 1, 1, 0x0⟩
def F.RGN_ERR_REFUSED_WRITE (n : Nat) : Fld := ⟨R.RGN_ERR n, 0, 1, 0x0⟩
def R.RGN_FAULT (n : Nat) : Nat := 0x100014 + 0x10000 * n
def F.RGN_FAULT_MULTI (n : Nat) : Fld := ⟨R.RGN_FAULT n, 31, 1, 0x0⟩
def F.RGN_FAULT_EXC_CODE (n : Nat) : Fld := ⟨R.RGN_FAULT n, 24, 6, 0x0⟩
def F.RGN_FAULT_CORE (n : Nat) : Fld := ⟨R.RGN_FAULT n, 16, 3, 0x0⟩
def F.RGN_FAULT_TILE_ID (n : Nat) : Fld := ⟨R.RGN_FAULT n, 8, 8, 0x0⟩
def F.RGN_FAULT_CAUSE (n : Nat) : Fld := ⟨R.RGN_FAULT n, 0, 8, 0x0⟩
def R.RGN_FAULT_TIME_LO (n : Nat) : Nat := 0x100018 + 0x10000 * n
def F.RGN_FAULT_TIME_LO_TIME_LO (n : Nat) : Fld := ⟨R.RGN_FAULT_TIME_LO n, 0, 32, 0x0⟩
def R.RGN_FAULT_TIME_HI (n : Nat) : Nat := 0x10001c + 0x10000 * n
def F.RGN_FAULT_TIME_HI_TIME_HI (n : Nat) : Fld := ⟨R.RGN_FAULT_TIME_HI n, 0, 16, 0x0⟩
def R.RGN_FAULT_OP (n : Nat) : Nat := 0x100020 + 0x10000 * n
def F.RGN_FAULT_OP_OP_OFFSET (n : Nat) : Fld := ⟨R.RGN_FAULT_OP n, 0, 32, 0x0⟩
def R.RGN_COUNTS (n : Nat) : Nat := 0x100024 + 0x10000 * n
def F.RGN_COUNTS_RESET_COUNT (n : Nat) : Fld := ⟨R.RGN_COUNTS n, 16, 16, 0x0⟩
def F.RGN_COUNTS_FAULT_COUNT (n : Nat) : Fld := ⟨R.RGN_COUNTS n, 0, 16, 0x0⟩
def R.RGN_LAST_RESET (n : Nat) : Nat := 0x100028 + 0x10000 * n
def F.RGN_LAST_RESET_DRAIN_US (n : Nat) : Fld := ⟨R.RGN_LAST_RESET n, 16, 16, 0x0⟩
def F.RGN_LAST_RESET_RESET_US (n : Nat) : Fld := ⟨R.RGN_LAST_RESET n, 0, 16, 0x0⟩
def R.RGN_SLICE_MASK_LO (n : Nat) : Nat := 0x100030 + 0x10000 * n
def F.RGN_SLICE_MASK_LO_SLICES (n : Nat) : Fld := ⟨R.RGN_SLICE_MASK_LO n, 0, 32, 0x0⟩
def R.RGN_SLICE_MASK_HI (n : Nat) : Nat := 0x100034 + 0x10000 * n
def F.RGN_SLICE_MASK_HI_SLICES (n : Nat) : Fld := ⟨R.RGN_SLICE_MASK_HI n, 0, 32, 0x0⟩
def R.RGN_ISLAND_MASK (n : Nat) : Nat := 0x100038 + 0x10000 * n
def F.RGN_ISLAND_MASK_ISLANDS (n : Nat) : Fld := ⟨R.RGN_ISLAND_MASK n, 0, 32, 0x0⟩
def R.SCH_KEY_DIGEST (k : Nat) (w : Nat) : Nat := 0x300100 + 0x40 * k + 0x4 * w
def F.SCH_KEY_DIGEST_DIGEST (k : Nat) (w : Nat) : Fld := ⟨R.SCH_KEY_DIGEST k w, 0, 32, 0x0⟩
def R.SCH_IMG_ID_LO (n : Nat) : Nat := 0x301000 + 0x20 * n
def F.SCH_IMG_ID_LO_ID_LO (n : Nat) : Fld := ⟨R.SCH_IMG_ID_LO n, 0, 32, 0x0⟩
def R.SCH_IMG_ID_HI (n : Nat) : Nat := 0x301004 + 0x20 * n
def F.SCH_IMG_ID_HI_ID_HI (n : Nat) : Fld := ⟨R.SCH_IMG_ID_HI n, 0, 32, 0x0⟩
def R.SCH_IMG_STATE (n : Nat) : Nat := 0x301008 + 0x20 * n
def F.SCH_IMG_STATE_LAST_REJECT (n : Nat) : Fld := ⟨R.SCH_IMG_STATE n, 24, 8, 0x0⟩
def F.SCH_IMG_STATE_CROSSES_MERIDIAN (n : Nat) : Fld := ⟨R.SCH_IMG_STATE n, 19, 1, 0x0⟩
def F.SCH_IMG_STATE_SIGNED (n : Nat) : Fld := ⟨R.SCH_IMG_STATE n, 18, 1, 0x0⟩
def F.SCH_IMG_STATE_SET_IN_FORCE (n : Nat) : Fld := ⟨R.SCH_IMG_STATE n, 16, 2, 0x0⟩
def F.SCH_IMG_STATE_VARIANTS (n : Nat) : Fld := ⟨R.SCH_IMG_STATE n, 13, 2, 0x0⟩
def F.SCH_IMG_STATE_FRAME_SLOTS (n : Nat) : Fld := ⟨R.SCH_IMG_STATE n, 0, 13, 0x0⟩
def R.SCH_FRAME (n : Nat) : Nat := 0x30100c + 0x20 * n
def F.SCH_FRAME_FRAME (n : Nat) : Fld := ⟨R.SCH_FRAME n, 0, 32, 0xffffffff⟩
def R.SCH_COUNTS (n : Nat) : Nat := 0x301010 + 0x20 * n
def F.SCH_COUNTS_GATE_WAITS (n : Nat) : Fld := ⟨R.SCH_COUNTS n, 16, 16, 0x0⟩
def F.SCH_COUNTS_SWITCHES (n : Nat) : Fld := ⟨R.SCH_COUNTS n, 0, 16, 0x0⟩
def R.SCH_PROOF_LO (n : Nat) : Nat := 0x301014 + 0x20 * n
def F.SCH_PROOF_LO_PROOF (n : Nat) : Fld := ⟨R.SCH_PROOF_LO n, 0, 32, 0x0⟩
def R.DYN_ROUTE (n : Nat) : Nat := 0x311000 + 0x10 * n
def F.DYN_ROUTE_EPOCH (n : Nat) : Fld := ⟨R.DYN_ROUTE n, 16, 16, 0x0⟩
def F.DYN_ROUTE_RELAYED (n : Nat) : Fld := ⟨R.DYN_ROUTE n, 8, 8, 0x0⟩
def F.DYN_ROUTE_ISOLATED (n : Nat) : Fld := ⟨R.DYN_ROUTE n, 0, 8, 0x0⟩
def R.DYN_ISOLATED (n : Nat) : Nat := 0x311004 + 0x10 * n
def F.DYN_ISOLATED_VALID (n : Nat) : Fld := ⟨R.DYN_ISOLATED n, 8, 1, 0x0⟩
def F.DYN_ISOLATED_FIRST_TILE (n : Nat) : Fld := ⟨R.DYN_ISOLATED n, 0, 8, 0x0⟩
def R.DYN_QUIESCE (n : Nat) : Nat := 0x311008 + 0x10 * n
def F.DYN_QUIESCE_DROP_FENCED (n : Nat) : Fld := ⟨R.DYN_QUIESCE n, 16, 16, 0x0⟩
def F.DYN_QUIESCE_LAST_QUIESCE_US (n : Nat) : Fld := ⟨R.DYN_QUIESCE n, 0, 16, 0x0⟩
def R.DYN_STALL (n : Nat) : Nat := 0x31100c + 0x10 * n
def F.DYN_STALL_STALL_US (n : Nat) : Fld := ⟨R.DYN_STALL n, 0, 32, 0x0⟩
def R.ER_IN_TOTAL (e : Nat) : Nat := 0x312000 + 0x20 * e
def F.ER_IN_TOTAL_VALUE (e : Nat) : Fld := ⟨R.ER_IN_TOTAL e, 0, 32, 0x0⟩
def R.ER_OUT_TOTAL (e : Nat) : Nat := 0x312004 + 0x20 * e
def F.ER_OUT_TOTAL_VALUE (e : Nat) : Fld := ⟨R.ER_OUT_TOTAL e, 0, 32, 0x0⟩
def R.ER_COL_IN (e : Nat) (c : Nat) : Nat := 0x312100 + 0x100 * e + 0x8 * c
def F.ER_COL_IN_VALUE (e : Nat) (c : Nat) : Fld := ⟨R.ER_COL_IN e c, 0, 32, 0x0⟩
def R.ER_COL_OUT (e : Nat) (c : Nat) : Nat := 0x312104 + 0x100 * e + 0x8 * c
def F.ER_COL_OUT_VALUE (e : Nat) (c : Nat) : Fld := ⟨R.ER_COL_OUT e c, 0, 32, 0x0⟩
def R.QDBG_Q_STATUS (c : Nat) (k : Nat) (q : Nat) : Nat := 0xb00000 + 0x1000 * c + 0x200 * k + 0x20 * q
def F.QDBG_Q_STATUS_BOUND (c : Nat) (k : Nat) (q : Nat) : Fld := ⟨R.QDBG_Q_STATUS c k q, 31, 1, 0x0⟩
def F.QDBG_Q_STATUS_MODE (c : Nat) (k : Nat) (q : Nat) : Fld := ⟨R.QDBG_Q_STATUS c k q, 30, 1, 0x0⟩
def F.QDBG_Q_STATUS_POP_COUNT (c : Nat) (k : Nat) (q : Nat) : Fld := ⟨R.QDBG_Q_STATUS c k q, 16, 8, 0x0⟩
def F.QDBG_Q_STATUS_CREDITS (c : Nat) (k : Nat) (q : Nat) : Fld := ⟨R.QDBG_Q_STATUS c k q, 12, 4, 0x0⟩
def F.QDBG_Q_STATUS_COUNT (c : Nat) (k : Nat) (q : Nat) : Fld := ⟨R.QDBG_Q_STATUS c k q, 0, 4, 0x0⟩
def R.QDBG_Q_HEAD (c : Nat) (k : Nat) (q : Nat) (w : Nat) : Nat := 0xb00004 + 0x1000 * c + 0x200 * k + 0x20 * q + 0x4 * w
def F.QDBG_Q_HEAD_HEAD (c : Nat) (k : Nat) (q : Nat) (w : Nat) : Fld := ⟨R.QDBG_Q_HEAD c k q w, 0, 32, 0x0⟩
def R.QDBG_Q_POISON (c : Nat) (k : Nat) (q : Nat) : Nat := 0xb00014 + 0x1000 * c + 0x200 * k + 0x20 * q
def F.QDBG_Q_POISON_POISON (c : Nat) (k : Nat) (q : Nat) : Fld := ⟨R.QDBG_Q_POISON c k q, 0, 2, 0x0⟩
def R.QDBG_CREDIT (c : Nat) (k : Nat) (j : Nat) : Nat := 0xb00100 + 0x1000 * c + 0x200 * k + 0x4 * j
def F.QDBG_CREDIT_BOUND0 (c : Nat) (k : Nat) (j : Nat) : Fld := ⟨R.QDBG_CREDIT c k j, 7, 1, 0x0⟩
def F.QDBG_CREDIT_CREDIT_MODE0 (c : Nat) (k : Nat) (j : Nat) : Fld := ⟨R.QDBG_CREDIT c k j, 6, 1, 0x0⟩
def F.QDBG_CREDIT_HELD0 (c : Nat) (k : Nat) (j : Nat) : Fld := ⟨R.QDBG_CREDIT c k j, 0, 4, 0x0⟩
def F.QDBG_CREDIT_BOUND1 (c : Nat) (k : Nat) (j : Nat) : Fld := ⟨R.QDBG_CREDIT c k j, 15, 1, 0x0⟩
def F.QDBG_CREDIT_CREDIT_MODE1 (c : Nat) (k : Nat) (j : Nat) : Fld := ⟨R.QDBG_CREDIT c k j, 14, 1, 0x0⟩
def F.QDBG_CREDIT_HELD1 (c : Nat) (k : Nat) (j : Nat) : Fld := ⟨R.QDBG_CREDIT c k j, 8, 4, 0x0⟩
def F.QDBG_CREDIT_BOUND2 (c : Nat) (k : Nat) (j : Nat) : Fld := ⟨R.QDBG_CREDIT c k j, 23, 1, 0x0⟩
def F.QDBG_CREDIT_CREDIT_MODE2 (c : Nat) (k : Nat) (j : Nat) : Fld := ⟨R.QDBG_CREDIT c k j, 22, 1, 0x0⟩
def F.QDBG_CREDIT_HELD2 (c : Nat) (k : Nat) (j : Nat) : Fld := ⟨R.QDBG_CREDIT c k j, 16, 4, 0x0⟩
def F.QDBG_CREDIT_BOUND3 (c : Nat) (k : Nat) (j : Nat) : Fld := ⟨R.QDBG_CREDIT c k j, 31, 1, 0x0⟩
def F.QDBG_CREDIT_CREDIT_MODE3 (c : Nat) (k : Nat) (j : Nat) : Fld := ⟨R.QDBG_CREDIT c k j, 30, 1, 0x0⟩
def F.QDBG_CREDIT_HELD3 (c : Nat) (k : Nat) (j : Nat) : Fld := ⟨R.QDBG_CREDIT c k j, 24, 4, 0x0⟩
def R.QDBG_CQ_STATUS (s : Nat) (q : Nat) : Nat := 0xb80000 + 0x1000 * s + 0x80 * q
def F.QDBG_CQ_STATUS_BOUND (s : Nat) (q : Nat) : Fld := ⟨R.QDBG_CQ_STATUS s q, 31, 1, 0x0⟩
def F.QDBG_CQ_STATUS_EFMT (s : Nat) (q : Nat) : Fld := ⟨R.QDBG_CQ_STATUS s q, 30, 1, 0x0⟩
def F.QDBG_CQ_STATUS_DELIVERY_WAIT (s : Nat) (q : Nat) : Fld := ⟨R.QDBG_CQ_STATUS s q, 29, 1, 0x0⟩
def F.QDBG_CQ_STATUS_OPEN (s : Nat) (q : Nat) : Fld := ⟨R.QDBG_CQ_STATUS s q, 16, 5, 0x0⟩
def F.QDBG_CQ_STATUS_TAGS (s : Nat) (q : Nat) : Fld := ⟨R.QDBG_CQ_STATUS s q, 8, 5, 0x0⟩
def F.QDBG_CQ_STATUS_EXPECT (s : Nat) (q : Nat) : Fld := ⟨R.QDBG_CQ_STATUS s q, 0, 7, 0x0⟩
def R.QDBG_CQ_TAG (s : Nat) (q : Nat) (t : Nat) : Nat := 0xb80040 + 0x1000 * s + 0x80 * q + 0x4 * t
def F.QDBG_CQ_TAG_VALID (s : Nat) (q : Nat) (t : Nat) : Fld := ⟨R.QDBG_CQ_TAG s q t, 31, 1, 0x0⟩
def F.QDBG_CQ_TAG_COMPLETE (s : Nat) (q : Nat) (t : Nat) : Fld := ⟨R.QDBG_CQ_TAG s q t, 30, 1, 0x0⟩
def F.QDBG_CQ_TAG_POISONED (s : Nat) (q : Nat) (t : Nat) : Fld := ⟨R.QDBG_CQ_TAG s q t, 29, 1, 0x0⟩
def F.QDBG_CQ_TAG_COUNT (s : Nat) (q : Nat) (t : Nat) : Fld := ⟨R.QDBG_CQ_TAG s q t, 16, 7, 0x0⟩
def F.QDBG_CQ_TAG_TAG (s : Nat) (q : Nat) (t : Nat) : Fld := ⟨R.QDBG_CQ_TAG s q t, 0, 16, 0x0⟩
def R.QDBG_CQ_INPUT (s : Nat) : Nat := 0xb80800 + 0x1000 * s
def F.QDBG_CQ_INPUT_HEAD_WAITING (s : Nat) : Fld := ⟨R.QDBG_CQ_INPUT s, 9, 1, 0x0⟩
def F.QDBG_CQ_INPUT_HEAD_CQ (s : Nat) : Fld := ⟨R.QDBG_CQ_INPUT s, 5, 4, 0x0⟩
def F.QDBG_CQ_INPUT_INPUT (s : Nat) : Fld := ⟨R.QDBG_CQ_INPUT s, 0, 5, 0x0⟩
def R.QDBG_RGN_CHN (n : Nat) : Nat := 0xbc0000 + 0x10 * n
def F.QDBG_RGN_CHN_LEFTOVER (n : Nat) : Fld := ⟨R.QDBG_RGN_CHN n, 16, 16, 0x0⟩
def F.QDBG_RGN_CHN_UNREAD (n : Nat) : Fld := ⟨R.QDBG_RGN_CHN n, 0, 16, 0x0⟩
def R.QDBG_RGN_DROP (n : Nat) : Nat := 0xbc0004 + 0x10 * n
def F.QDBG_RGN_DROP_POISON_DROP (n : Nat) : Fld := ⟨R.QDBG_RGN_DROP n, 0, 16, 0x0⟩
def R.WIN_CTRL (n : Nat) (w : Nat) : Nat := 0x100100 + 0x10000 * n + 0x20 * w
def F.WIN_CTRL_EXACT_POINT (n : Nat) (w : Nat) : Fld := ⟨R.WIN_CTRL n w, 8, 7, 0x0⟩
def F.WIN_CTRL_READ_ONLY (n : Nat) (w : Nat) : Fld := ⟨R.WIN_CTRL n w, 5, 1, 0x0⟩
def F.WIN_CTRL_ACCUM (n : Nat) (w : Nat) : Fld := ⟨R.WIN_CTRL n w, 4, 1, 0x0⟩
def F.WIN_CTRL_LINE_MODE (n : Nat) (w : Nat) : Fld := ⟨R.WIN_CTRL n w, 3, 1, 0x0⟩
def F.WIN_CTRL_PLACEMENT (n : Nat) (w : Nat) : Fld := ⟨R.WIN_CTRL n w, 1, 2, 0x0⟩
def F.WIN_CTRL_VALID (n : Nat) (w : Nat) : Fld := ⟨R.WIN_CTRL n w, 0, 1, 0x0⟩
def R.WIN_BASE_LO (n : Nat) (w : Nat) : Nat := 0x100104 + 0x10000 * n + 0x20 * w
def F.WIN_BASE_LO_BASE_LO (n : Nat) (w : Nat) : Fld := ⟨R.WIN_BASE_LO n w, 16, 16, 0x0⟩
def R.WIN_BASE_HI (n : Nat) (w : Nat) : Nat := 0x100108 + 0x10000 * n + 0x20 * w
def F.WIN_BASE_HI_BASE_HI (n : Nat) (w : Nat) : Fld := ⟨R.WIN_BASE_HI n w, 0, 14, 0x0⟩
def R.WIN_SIZE_LO (n : Nat) (w : Nat) : Nat := 0x10010c + 0x10000 * n + 0x20 * w
def F.WIN_SIZE_LO_SIZE_LO (n : Nat) (w : Nat) : Fld := ⟨R.WIN_SIZE_LO n w, 9, 23, 0x0⟩
def R.WIN_SIZE_HI (n : Nat) (w : Nat) : Nat := 0x100110 + 0x10000 * n + 0x20 * w
def F.WIN_SIZE_HI_SIZE_HI (n : Nat) (w : Nat) : Fld := ⟨R.WIN_SIZE_HI n w, 0, 14, 0x0⟩
def R.WIN_SLICE_BASE (n : Nat) (w : Nat) : Nat := 0x100114 + 0x10000 * n + 0x20 * w
def F.WIN_SLICE_BASE_SLICE_BASE (n : Nat) (w : Nat) : Fld := ⟨R.WIN_SLICE_BASE n w, 0, 15, 0x0⟩
def R.WIN_OVF (n : Nat) (w : Nat) : Nat := 0x100118 + 0x10000 * n + 0x20 * w
def F.WIN_OVF_OVF_FRAMES (n : Nat) (w : Nat) : Fld := ⟨R.WIN_OVF n w, 0, 16, 0x0⟩
def R.WIN_SLICES (n : Nat) (w : Nat) : Nat := 0x10011c + 0x10000 * n + 0x20 * w
def F.WIN_SLICES_N (n : Nat) (w : Nat) : Fld := ⟨R.WIN_SLICES n w, 0, 7, 0x0⟩
def R.RGN_MEM_CFG (n : Nat) : Nat := 0x100300 + 0x10000 * n
def F.RGN_MEM_CFG_EXT_MODE (n : Nat) : Fld := ⟨R.RGN_MEM_CFG n, 8, 1, 0x0⟩
def F.RGN_MEM_CFG_PIN_WAYS (n : Nat) : Fld := ⟨R.RGN_MEM_CFG n, 0, 5, 0x0⟩
def R.RGN_WIN_FLAGS (n : Nat) : Nat := 0x100304 + 0x10000 * n
def F.RGN_WIN_FLAGS_OVERFLOW (n : Nat) : Fld := ⟨R.RGN_WIN_FLAGS n, 16, 16, 0x0⟩
def F.RGN_WIN_FLAGS_OUT_OF_RANGE (n : Nat) : Fld := ⟨R.RGN_WIN_FLAGS n, 0, 16, 0x0⟩
def R.RGN_MEM_ERR (n : Nat) : Nat := 0x100308 + 0x10000 * n
def F.RGN_MEM_ERR_MEM_ERR (n : Nat) : Fld := ⟨R.RGN_MEM_ERR n, 0, 1, 0x0⟩
def R.RGN_OVF_LOST (n : Nat) : Nat := 0x10030c + 0x10000 * n
def F.RGN_OVF_LOST_OVF_LOST (n : Nat) : Fld := ⟨R.RGN_OVF_LOST n, 0, 32, 0x0⟩
def R.MSL_STATE (s : Nat) : Nat := 0x400000 + 0x10000 * s
def F.MSL_STATE_RETENTION (s : Nat) : Fld := ⟨R.MSL_STATE s, 26, 1, 0x0⟩
def F.MSL_STATE_OWNED (s : Nat) : Fld := ⟨R.MSL_STATE s, 25, 1, 0x0⟩
def F.MSL_STATE_FENCED (s : Nat) : Fld := ⟨R.MSL_STATE s, 24, 1, 0x0⟩
def F.MSL_STATE_PIN_WAYS (s : Nat) : Fld := ⟨R.MSL_STATE s, 16, 5, 0x0⟩
def F.MSL_STATE_EXT_SPLIT (s : Nat) : Fld := ⟨R.MSL_STATE s, 8, 1, 0x0⟩
def F.MSL_STATE_REGION (s : Nat) : Fld := ⟨R.MSL_STATE s, 0, 5, 0x0⟩
def R.MSL_EXT_HITS (s : Nat) : Nat := 0x400010 + 0x10000 * s
def F.MSL_EXT_HITS_HITS (s : Nat) : Fld := ⟨R.MSL_EXT_HITS s, 0, 32, 0x0⟩
def R.MSL_EXT_MISSES (s : Nat) : Nat := 0x400014 + 0x10000 * s
def F.MSL_EXT_MISSES_MISSES (s : Nat) : Fld := ⟨R.MSL_EXT_MISSES s, 0, 32, 0x0⟩
def R.MSL_WRITEBACKS (s : Nat) : Nat := 0x400018 + 0x10000 * s
def F.MSL_WRITEBACKS_WRITEBACKS (s : Nat) : Fld := ⟨R.MSL_WRITEBACKS s, 0, 32, 0x0⟩
def R.MSL_MERIDIAN (s : Nat) : Nat := 0x400020 + 0x10000 * s
def F.MSL_MERIDIAN_BORROWED (s : Nat) : Fld := ⟨R.MSL_MERIDIAN s, 16, 16, 0x0⟩
def F.MSL_MERIDIAN_COPIES (s : Nat) : Fld := ⟨R.MSL_MERIDIAN s, 0, 16, 0x0⟩
def R.MSL_TRACKER (s : Nat) : Nat := 0x400024 + 0x10000 * s
def F.MSL_TRACKER_RETRIES (s : Nat) : Fld := ⟨R.MSL_TRACKER s, 16, 16, 0x0⟩
def F.MSL_TRACKER_RECALLS (s : Nat) : Fld := ⟨R.MSL_TRACKER s, 0, 16, 0x0⟩
def R.MSL_TRACKER_USE (s : Nat) : Nat := 0x400028 + 0x10000 * s
def F.MSL_TRACKER_USE_IN_USE (s : Nat) : Fld := ⟨R.MSL_TRACKER_USE s, 0, 12, 0x0⟩
def R.MSL_OVF_USED (s : Nat) : Nat := 0x40002c + 0x10000 * s
def F.MSL_OVF_USED_OVF_USED (s : Nat) : Fld := ⟨R.MSL_OVF_USED s, 0, 16, 0x0⟩
def R.MSL_ATOM_COUNT (s : Nat) : Nat := 0x400200 + 0x10000 * s
def F.MSL_ATOM_COUNT_ATOMS (s : Nat) : Fld := ⟨R.MSL_ATOM_COUNT s, 0, 32, 0x0⟩
def R.MSL_EXACT_COUNT (s : Nat) : Nat := 0x400204 + 0x10000 * s
def F.MSL_EXACT_COUNT_EXACT (s : Nat) : Fld := ⟨R.MSL_EXACT_COUNT s, 0, 32, 0x0⟩
def R.MSL_EXACT_ROUNDED (s : Nat) : Nat := 0x400208 + 0x10000 * s
def F.MSL_EXACT_ROUNDED_ROUNDED (s : Nat) : Fld := ⟨R.MSL_EXACT_ROUNDED s, 0, 32, 0x0⟩
def R.MSL_EXACT_DISCARD (s : Nat) : Nat := 0x40020c + 0x10000 * s
def F.MSL_EXACT_DISCARD_DISCARD (s : Nat) : Fld := ⟨R.MSL_EXACT_DISCARD s, 0, 32, 0x0⟩
def R.MSL_GTH_OPS (s : Nat) : Nat := 0x400210 + 0x10000 * s
def F.MSL_GTH_OPS_SCATTERS (s : Nat) : Fld := ⟨R.MSL_GTH_OPS s, 16, 16, 0x0⟩
def F.MSL_GTH_OPS_GATHERS (s : Nat) : Fld := ⟨R.MSL_GTH_OPS s, 0, 16, 0x0⟩
def R.MSL_GTH_FAIL (s : Nat) : Nat := 0x400220 + 0x10000 * s
def F.MSL_GTH_FAIL_VALID (s : Nat) : Fld := ⟨R.MSL_GTH_FAIL s, 31, 1, 0x0⟩
def F.MSL_GTH_FAIL_REASON (s : Nat) : Fld := ⟨R.MSL_GTH_FAIL s, 24, 3, 0x0⟩
def F.MSL_GTH_FAIL_DECL (s : Nat) : Fld := ⟨R.MSL_GTH_FAIL s, 16, 4, 0x0⟩
def F.MSL_GTH_FAIL_KOFF (s : Nat) : Fld := ⟨R.MSL_GTH_FAIL s, 8, 5, 0x0⟩
def R.MSL_GTH_FAIL_ENTRY (s : Nat) : Nat := 0x400224 + 0x10000 * s
def F.MSL_GTH_FAIL_ENTRY_ENTRY (s : Nat) : Fld := ⟨R.MSL_GTH_FAIL_ENTRY s, 0, 32, 0x0⟩
def R.RGN_BUDGET (n : Nat) (c : Nat) : Nat := 0x100400 + 0x10000 * n + 0x4 * c
def F.RGN_BUDGET_BUDGET (n : Nat) (c : Nat) : Fld := ⟨R.RGN_BUDGET n c, 0, 16, 0x0⟩
def R.RGN_LAT_TARGET (n : Nat) (c : Nat) : Nat := 0x100410 + 0x10000 * n + 0x4 * c
def F.RGN_LAT_TARGET_TARGET (n : Nat) (c : Nat) : Fld := ⟨R.RGN_LAT_TARGET n c, 0, 16, 0x0⟩
def R.RGN_REG_ERR (n : Nat) : Nat := 0x100420 + 0x10000 * n
def F.RGN_REG_ERR_REG_ERR (n : Nat) : Fld := ⟨R.RGN_REG_ERR n, 0, 1, 0x0⟩
def R.RGN_DLY_SERVED (n : Nat) (c : Nat) : Nat := 0x100600 + 0x10000 * n + 0x14 * c
def F.RGN_DLY_SERVED_SERVED (n : Nat) (c : Nat) : Fld := ⟨R.RGN_DLY_SERVED n c, 0, 32, 0x0⟩
def R.RGN_DLY_BUDGET (n : Nat) (c : Nat) : Nat := 0x100604 + 0x10000 * n + 0x14 * c
def F.RGN_DLY_BUDGET_DELAYED_BUDGET (n : Nat) (c : Nat) : Fld := ⟨R.RGN_DLY_BUDGET n c, 0, 32, 0x0⟩
def R.RGN_DLY_QUEUE (n : Nat) (c : Nat) : Nat := 0x100608 + 0x10000 * n + 0x14 * c
def F.RGN_DLY_QUEUE_DELAYED_QUEUE (n : Nat) (c : Nat) : Fld := ⟨R.RGN_DLY_QUEUE n c, 0, 32, 0x0⟩
def R.RGN_DLY_BOOST (n : Nat) (c : Nat) : Nat := 0x10060c + 0x10000 * n + 0x14 * c
def F.RGN_DLY_BOOST_BOOST_WINDOWS (n : Nat) (c : Nat) : Fld := ⟨R.RGN_DLY_BOOST n c, 0, 32, 0x0⟩
def R.RGN_DLY_LAT (n : Nat) (c : Nat) : Nat := 0x100610 + 0x10000 * n + 0x14 * c
def F.RGN_DLY_LAT_LAT_AVG (n : Nat) (c : Nat) : Fld := ⟨R.RGN_DLY_LAT n c, 0, 20, 0x0⟩
def R.RGN_URGENT (n : Nat) : Nat := 0x100678 + 0x10000 * n
def F.RGN_URGENT_URGENT (n : Nat) : Fld := ⟨R.RGN_URGENT n, 0, 32, 0x0⟩
def R.RGN_AGE_PROMOTED (n : Nat) : Nat := 0x10067c + 0x10000 * n
def F.RGN_AGE_PROMOTED_PROMOTED (n : Nat) : Fld := ⟨R.RGN_AGE_PROMOTED n, 0, 32, 0x0⟩
def R.HBM_STATUS (k : Nat) : Nat := 0x800000 + 0x20000 * k
def F.HBM_STATUS_CH_FENCED (k : Nat) : Fld := ⟨R.HBM_STATUS k, 16, 16, 0x0⟩
def F.HBM_STATUS_TEMP_C (k : Nat) : Fld := ⟨R.HBM_STATUS k, 8, 8, 0x0⟩
def F.HBM_STATUS_TEMP_CRITICAL (k : Nat) : Fld := ⟨R.HBM_STATUS k, 5, 1, 0x0⟩
def F.HBM_STATUS_TEMP_HOT (k : Nat) : Fld := ⟨R.HBM_STATUS k, 4, 1, 0x0⟩
def F.HBM_STATUS_REFRESH_ONLY (k : Nat) : Fld := ⟨R.HBM_STATUS k, 3, 1, 0x0⟩
def F.HBM_STATUS_SELF_REFRESH (k : Nat) : Fld := ⟨R.HBM_STATUS k, 2, 1, 0x0⟩
def F.HBM_STATUS_TRAINED (k : Nat) : Fld := ⟨R.HBM_STATUS k, 0, 1, 0x0⟩
def R.HBM_WATERMARK (k : Nat) : Nat := 0x800004 + 0x20000 * k
def F.HBM_WATERMARK_CRITICAL (k : Nat) : Fld := ⟨R.HBM_WATERMARK k, 8, 7, 0x3828⟩
def F.HBM_WATERMARK_HIGH (k : Nat) : Fld := ⟨R.HBM_WATERMARK k, 0, 7, 0x3828⟩
def R.HBM_AGE (k : Nat) : Nat := 0x800008 + 0x20000 * k
def F.HBM_AGE_AGE_LIMIT_US (k : Nat) : Fld := ⟨R.HBM_AGE k, 0, 10, 0x14⟩
def R.HBM_ERR (k : Nat) : Nat := 0x80000c + 0x20000 * k
def F.HBM_ERR_AGE_ERR (k : Nat) : Fld := ⟨R.HBM_ERR k, 1, 1, 0x0⟩
def F.HBM_ERR_WM_ERR (k : Nat) : Fld := ⟨R.HBM_ERR k, 0, 1, 0x0⟩
def R.HBM_CH_QUEUE (k : Nat) (j : Nat) : Nat := 0x801000 + 0x20000 * k + 0x20 * j
def F.HBM_CH_QUEUE_FEEDBACK (k : Nat) (j : Nat) : Fld := ⟨R.HBM_CH_QUEUE k j, 16, 2, 0x0⟩
def F.HBM_CH_QUEUE_MAX_OCC (k : Nat) (j : Nat) : Fld := ⟨R.HBM_CH_QUEUE k j, 8, 7, 0x0⟩
def F.HBM_CH_QUEUE_OCC (k : Nat) (j : Nat) : Fld := ⟨R.HBM_CH_QUEUE k j, 0, 7, 0x0⟩
def R.HBM_CH_SECTORS (k : Nat) (j : Nat) : Nat := 0x801004 + 0x20000 * k + 0x20 * j
def F.HBM_CH_SECTORS_SECTORS (k : Nat) (j : Nat) : Fld := ⟨R.HBM_CH_SECTORS k j, 0, 32, 0x0⟩
def R.HBM_CH_RMW (k : Nat) (j : Nat) : Nat := 0x801008 + 0x20000 * k + 0x20 * j
def F.HBM_CH_RMW_RMW (k : Nat) (j : Nat) : Fld := ⟨R.HBM_CH_RMW k j, 0, 32, 0x0⟩
def R.HBM_CH_HELD (k : Nat) (j : Nat) : Nat := 0x80100c + 0x20000 * k + 0x20 * j
def F.HBM_CH_HELD_HELD (k : Nat) (j : Nat) : Fld := ⟨R.HBM_CH_HELD k j, 0, 32, 0x0⟩
def R.HL_CTRL (p : Nat) : Nat := 0x900000 + 0x10000 * p
def F.HL_CTRL_MIN_WIDTH (p : Nat) : Fld := ⟨R.HL_CTRL p, 4, 2, 0x20⟩
def F.HL_CTRL_AUTO_TRAIN (p : Nat) : Fld := ⟨R.HL_CTRL p, 1, 1, 0x20⟩
def F.HL_CTRL_ENABLE (p : Nat) : Fld := ⟨R.HL_CTRL p, 0, 1, 0x20⟩
def R.HL_STATUS (p : Nat) : Nat := 0x900004 + 0x10000 * p
def F.HL_STATUS_LANES_GOOD (p : Nat) : Fld := ⟨R.HL_STATUS p, 16, 16, 0x0⟩
def F.HL_STATUS_LANE_GROUP (p : Nat) : Fld := ⟨R.HL_STATUS p, 6, 2, 0x0⟩
def F.HL_STATUS_WIDTH (p : Nat) : Fld := ⟨R.HL_STATUS p, 4, 2, 0x0⟩
def F.HL_STATUS_RESUMED (p : Nat) : Fld := ⟨R.HL_STATUS p, 3, 1, 0x0⟩
def F.HL_STATUS_STATE (p : Nat) : Fld := ⟨R.HL_STATUS p, 0, 2, 0x0⟩
def R.HL_PARTNER (p : Nat) : Nat := 0x900008 + 0x10000 * p
def F.HL_PARTNER_FABRIC_ID (p : Nat) : Fld := ⟨R.HL_PARTNER p, 20, 12, 0x0⟩
def F.HL_PARTNER_PORT (p : Nat) : Fld := ⟨R.HL_PARTNER p, 18, 2, 0x0⟩
def F.HL_PARTNER_MODULE_ID (p : Nat) : Fld := ⟨R.HL_PARTNER p, 0, 4, 0x0⟩
def R.HL_ASSIGN (p : Nat) : Nat := 0x90000c + 0x10000 * p
def F.HL_ASSIGN_VALID (p : Nat) : Fld := ⟨R.HL_ASSIGN p, 8, 1, 0x0⟩
def F.HL_ASSIGN_REGION (p : Nat) : Fld := ⟨R.HL_ASSIGN p, 0, 5, 0x0⟩
def R.HL_ERR (p : Nat) : Nat := 0x900010 + 0x10000 * p
def F.HL_ERR_LINK_LOST (p : Nat) : Fld := ⟨R.HL_ERR p, 4, 1, 0x0⟩
def F.HL_ERR_PARTNER_ERR (p : Nat) : Fld := ⟨R.HL_ERR p, 3, 1, 0x0⟩
def F.HL_ERR_ENABLE_ERR (p : Nat) : Fld := ⟨R.HL_ERR p, 2, 1, 0x0⟩
def F.HL_ERR_CFG_ERR (p : Nat) : Fld := ⟨R.HL_ERR p, 1, 1, 0x0⟩
def F.HL_ERR_ASSIGN_ERR (p : Nat) : Fld := ⟨R.HL_ERR p, 0, 1, 0x0⟩
def R.HL_LANE_LIMIT (p : Nat) : Nat := 0x900014 + 0x10000 * p
def F.HL_LANE_LIMIT_LANE_ERR_LIMIT (p : Nat) : Fld := ⟨R.HL_LANE_LIMIT p, 0, 16, 0x400⟩
def R.HL_FEC_CORR (p : Nat) : Nat := 0x900020 + 0x10000 * p
def F.HL_FEC_CORR_CORRECTED (p : Nat) : Fld := ⟨R.HL_FEC_CORR p, 0, 32, 0x0⟩
def R.HL_FEC_UNCORR (p : Nat) : Nat := 0x900024 + 0x10000 * p
def F.HL_FEC_UNCORR_UNCORRECTED (p : Nat) : Fld := ⟨R.HL_FEC_UNCORR p, 0, 32, 0x0⟩
def R.HL_CRC_FAIL (p : Nat) : Nat := 0x900028 + 0x10000 * p
def F.HL_CRC_FAIL_CRC_FAIL (p : Nat) : Fld := ⟨R.HL_CRC_FAIL p, 0, 32, 0x0⟩
def R.HL_REPLAYS (p : Nat) : Nat := 0x90002c + 0x10000 * p
def F.HL_REPLAYS_REPLAYS (p : Nat) : Fld := ⟨R.HL_REPLAYS p, 0, 32, 0x0⟩
def R.HL_TRAINS (p : Nat) : Nat := 0x900030 + 0x10000 * p
def F.HL_TRAINS_TRAIN_FAILS (p : Nat) : Fld := ⟨R.HL_TRAINS p, 16, 16, 0x0⟩
def F.HL_TRAINS_RETRAINS (p : Nat) : Fld := ⟨R.HL_TRAINS p, 0, 16, 0x0⟩
def R.HL_REFUSED (p : Nat) : Nat := 0x900034 + 0x10000 * p
def F.HL_REFUSED_REFUSED_IN (p : Nat) : Fld := ⟨R.HL_REFUSED p, 16, 16, 0x0⟩
def F.HL_REFUSED_REFUSED_OUT (p : Nat) : Fld := ⟨R.HL_REFUSED p, 0, 16, 0x0⟩
def R.HL_STALE (p : Nat) : Nat := 0x900038 + 0x10000 * p
def F.HL_STALE_STALE_DROP (p : Nat) : Fld := ⟨R.HL_STALE p, 0, 32, 0x0⟩
def R.HL_CREDITS (p : Nat) : Nat := 0x90003c + 0x10000 * p
def F.HL_CREDITS_RSP_HELD (p : Nat) : Fld := ⟨R.HL_CREDITS p, 16, 14, 0x0⟩
def F.HL_CREDITS_REQ_HELD (p : Nat) : Fld := ⟨R.HL_CREDITS p, 0, 14, 0x0⟩
def R.HL_MODULE : Nat := 0x900100
def F.HL_MODULE_FABRIC_ID : Fld := ⟨R.HL_MODULE, 16, 12, 0x0⟩
def F.HL_MODULE_MODULE_ID : Fld := ⟨R.HL_MODULE, 0, 4, 0x0⟩
def R.MSL_ECC_CE_DATA (s : Nat) : Nat := 0x400100 + 0x10000 * s
def F.MSL_ECC_CE_DATA_CE_DATA (s : Nat) : Fld := ⟨R.MSL_ECC_CE_DATA s, 0, 32, 0x0⟩
def R.MSL_ECC_CE_CHK (s : Nat) : Nat := 0x400104 + 0x10000 * s
def F.MSL_ECC_CE_CHK_CE_CHK (s : Nat) : Fld := ⟨R.MSL_ECC_CE_CHK s, 0, 32, 0x0⟩
def R.MSL_ECC_REFETCH (s : Nat) : Nat := 0x400108 + 0x10000 * s
def F.MSL_ECC_REFETCH_REFETCH (s : Nat) : Fld := ⟨R.MSL_ECC_REFETCH s, 0, 32, 0x0⟩
def R.MSL_ECC_UE (s : Nat) : Nat := 0x40010c + 0x10000 * s
def F.MSL_ECC_UE_UE (s : Nat) : Fld := ⟨R.MSL_ECC_UE s, 0, 32, 0x0⟩
def R.MSL_BUSHEL (s : Nat) : Nat := 0x400110 + 0x10000 * s
def F.MSL_BUSHEL_OVER (s : Nat) : Fld := ⟨R.MSL_BUSHEL s, 8, 1, 0x0⟩
def F.MSL_BUSHEL_COUNT (s : Nat) : Fld := ⟨R.MSL_BUSHEL s, 0, 8, 0x0⟩
def R.MSL_BUSHEL_CFG (s : Nat) : Nat := 0x400114 + 0x10000 * s
def F.MSL_BUSHEL_CFG_THRESHOLD (s : Nat) : Fld := ⟨R.MSL_BUSHEL_CFG s, 16, 8, 0x10ea60⟩
def F.MSL_BUSHEL_CFG_LEAK_MS (s : Nat) : Fld := ⟨R.MSL_BUSHEL_CFG s, 0, 16, 0x10ea60⟩
def R.MSL_SCRUB_CTRL (s : Nat) : Nat := 0x400120 + 0x10000 * s
def F.MSL_SCRUB_CTRL_HBM_EN (s : Nat) : Fld := ⟨R.MSL_SCRUB_CTRL s, 16, 1, 0x3c⟩
def F.MSL_SCRUB_CTRL_SWEEP_MIN (s : Nat) : Fld := ⟨R.MSL_SCRUB_CTRL s, 0, 14, 0x3c⟩
def R.MSL_SCRUB_SRAM (s : Nat) : Nat := 0x400124 + 0x10000 * s
def F.MSL_SCRUB_SRAM_SWEEPS (s : Nat) : Fld := ⟨R.MSL_SCRUB_SRAM s, 16, 16, 0x0⟩
def F.MSL_SCRUB_SRAM_POSITION (s : Nat) : Fld := ⟨R.MSL_SCRUB_SRAM s, 0, 16, 0x0⟩
def R.MSL_SCRUB_HBM (s : Nat) : Nat := 0x400128 + 0x10000 * s
def F.MSL_SCRUB_HBM_SWEEP_LATE (s : Nat) : Fld := ⟨R.MSL_SCRUB_HBM s, 16, 16, 0x0⟩
def F.MSL_SCRUB_HBM_SWEEPS (s : Nat) : Fld := ⟨R.MSL_SCRUB_HBM s, 0, 16, 0x0⟩
def R.MSL_SCRUB_HBM_POS (s : Nat) : Nat := 0x40012c + 0x10000 * s
def F.MSL_SCRUB_HBM_POS_POSITION (s : Nat) : Fld := ⟨R.MSL_SCRUB_HBM_POS s, 0, 25, 0x0⟩
def R.MSL_INTEG_ERR (s : Nat) : Nat := 0x400130 + 0x10000 * s
def F.MSL_INTEG_ERR_INTEG_CFG_ERR (s : Nat) : Fld := ⟨R.MSL_INTEG_ERR s, 0, 1, 0x0⟩
def R.MSL_REMAP (s : Nat) (i : Nat) : Nat := 0x400140 + 0x10000 * s + 0x4 * i
def F.MSL_REMAP_VALID (s : Nat) (i : Nat) : Fld := ⟨R.MSL_REMAP s i, 31, 1, 0x0⟩
def F.MSL_REMAP_SECTOR (s : Nat) (i : Nat) : Fld := ⟨R.MSL_REMAP s i, 0, 18, 0x0⟩
def R.INT_INTEG_LOG_W0 (i : Nat) : Nat := 0xa00100 + 0x10 * i
def F.INT_INTEG_LOG_W0_CLASS (i : Nat) : Fld := ⟨R.INT_INTEG_LOG_W0 i, 28, 4, 0x0⟩
def F.INT_INTEG_LOG_W0_UNIT_KIND (i : Nat) : Fld := ⟨R.INT_INTEG_LOG_W0 i, 24, 4, 0x0⟩
def F.INT_INTEG_LOG_W0_REGION_VALID (i : Nat) : Fld := ⟨R.INT_INTEG_LOG_W0 i, 23, 1, 0x0⟩
def F.INT_INTEG_LOG_W0_REGION (i : Nat) : Fld := ⟨R.INT_INTEG_LOG_W0 i, 18, 5, 0x0⟩
def F.INT_INTEG_LOG_W0_UNIT_INDEX (i : Nat) : Fld := ⟨R.INT_INTEG_LOG_W0 i, 8, 10, 0x0⟩
def F.INT_INTEG_LOG_W0_SYNDROME (i : Nat) : Fld := ⟨R.INT_INTEG_LOG_W0 i, 0, 8, 0x0⟩
def R.INT_INTEG_LOG_W1 (i : Nat) : Nat := 0xa00104 + 0x10 * i
def F.INT_INTEG_LOG_W1_ADDR_LO (i : Nat) : Fld := ⟨R.INT_INTEG_LOG_W1 i, 0, 32, 0x0⟩
def R.INT_INTEG_LOG_W2 (i : Nat) : Nat := 0xa00108 + 0x10 * i
def F.INT_INTEG_LOG_W2_SCRUB (i : Nat) : Fld := ⟨R.INT_INTEG_LOG_W2 i, 16, 1, 0x0⟩
def F.INT_INTEG_LOG_W2_ADDR_HI (i : Nat) : Fld := ⟨R.INT_INTEG_LOG_W2 i, 0, 16, 0x0⟩
def R.INT_INTEG_LOG_W3 (i : Nat) : Nat := 0xa0010c + 0x10 * i
def F.INT_INTEG_LOG_W3_TIME (i : Nat) : Fld := ⟨R.INT_INTEG_LOG_W3 i, 0, 32, 0x0⟩
def R.INT_CLU_ECC (c : Nat) : Nat := 0xa00800 + 0x4 * c
def F.INT_CLU_ECC_UE (c : Nat) : Fld := ⟨R.INT_CLU_ECC c, 16, 16, 0x0⟩
def F.INT_CLU_ECC_CE (c : Nat) : Fld := ⟨R.INT_CLU_ECC c, 0, 16, 0x0⟩
def R.VSP_STATUS : Nat := 0xa10000
def F.VSP_STATUS_RESTARTS : Fld := ⟨R.VSP_STATUS, 16, 16, 0x0⟩
def F.VSP_STATUS_EVENT_RECEIVER : Fld := ⟨R.VSP_STATUS, 3, 1, 0x0⟩
def F.VSP_STATUS_UPDATE : Fld := ⟨R.VSP_STATUS, 2, 1, 0x0⟩
def F.VSP_STATUS_RESTARTING : Fld := ⟨R.VSP_STATUS, 1, 1, 0x0⟩
def F.VSP_STATUS_ALIVE : Fld := ⟨R.VSP_STATUS, 0, 1, 0x0⟩
def R.VSP_FW : Nat := 0xa10004
def F.VSP_FW_MAJOR : Fld := ⟨R.VSP_FW, 24, 8, 0x0⟩
def F.VSP_FW_MINOR : Fld := ⟨R.VSP_FW, 16, 8, 0x0⟩
def F.VSP_FW_PATCH : Fld := ⟨R.VSP_FW, 0, 16, 0x0⟩
def R.VSP_COUNTS : Nat := 0xa10008
def F.VSP_COUNTS_MISMATCHES : Fld := ⟨R.VSP_COUNTS, 16, 16, 0x0⟩
def F.VSP_COUNTS_TICK_OVERRUNS : Fld := ⟨R.VSP_COUNTS, 0, 16, 0x0⟩
def R.VSP_LAST_TICK : Nat := 0xa1000c
def F.VSP_LAST_TICK_TICK : Fld := ⟨R.VSP_LAST_TICK, 0, 32, 0x0⟩
def R.VSP_ALMANAC : Nat := 0xa10010
def F.VSP_ALMANAC_KEPT_MIB : Fld := ⟨R.VSP_ALMANAC, 16, 16, 0x0⟩
def F.VSP_ALMANAC_QUEUED : Fld := ⟨R.VSP_ALMANAC, 0, 16, 0x0⟩
def R.VSP_ALM_LOST : Nat := 0xa10014
def F.VSP_ALM_LOST_EVENTS_DROPPED : Fld := ⟨R.VSP_ALM_LOST, 16, 16, 0x0⟩
def F.VSP_ALM_LOST_LOST : Fld := ⟨R.VSP_ALM_LOST, 0, 16, 0x0⟩
def R.VSP_ALM_SEQ_LO : Nat := 0xa10018
def F.VSP_ALM_SEQ_LO_SEQ_LO : Fld := ⟨R.VSP_ALM_SEQ_LO, 0, 32, 0x0⟩
def R.VSP_ALM_SEQ_HI : Nat := 0xa1001c
def F.VSP_ALM_SEQ_HI_SEQ_HI : Fld := ⟨R.VSP_ALM_SEQ_HI, 0, 32, 0x0⟩
def R.VSP_MBOX_CMD : Nat := 0xa10040
def F.VSP_MBOX_CMD_GO : Fld := ⟨R.VSP_MBOX_CMD, 31, 1, 0x0⟩
def F.VSP_MBOX_CMD_REQ_WORDS : Fld := ⟨R.VSP_MBOX_CMD, 8, 8, 0x0⟩
def F.VSP_MBOX_CMD_CODE : Fld := ⟨R.VSP_MBOX_CMD, 0, 8, 0x0⟩
def R.VSP_MBOX_STATUS : Nat := 0xa10044
def F.VSP_MBOX_STATUS_SEQ : Fld := ⟨R.VSP_MBOX_STATUS, 24, 8, 0x0⟩
def F.VSP_MBOX_STATUS_RESP_WORDS : Fld := ⟨R.VSP_MBOX_STATUS, 16, 8, 0x0⟩
def F.VSP_MBOX_STATUS_RESULT : Fld := ⟨R.VSP_MBOX_STATUS, 8, 8, 0x0⟩
def F.VSP_MBOX_STATUS_DONE : Fld := ⟨R.VSP_MBOX_STATUS, 2, 1, 0x0⟩
def F.VSP_MBOX_STATUS_STATE : Fld := ⟨R.VSP_MBOX_STATUS, 0, 2, 0x0⟩
def R.VSP_ERR : Nat := 0xa10048
def F.VSP_ERR_MBOX_REFUSED : Fld := ⟨R.VSP_ERR, 0, 1, 0x0⟩
def R.VSP_MBOX_REQ (i : Nat) : Nat := 0xa10100 + 0x4 * i
def F.VSP_MBOX_REQ_REQ (i : Nat) : Fld := ⟨R.VSP_MBOX_REQ i, 0, 32, 0x0⟩
def R.VSP_MBOX_RESP (i : Nat) : Nat := 0xa10200 + 0x4 * i
def F.VSP_MBOX_RESP_RESP (i : Nat) : Fld := ⟨R.VSP_MBOX_RESP i, 0, 32, 0x0⟩
def R.FLT_TILE_FENCED (w : Nat) : Nat := 0xa20000 + 0x4 * w
def F.FLT_TILE_FENCED_FENCED (w : Nat) : Fld := ⟨R.FLT_TILE_FENCED w, 0, 32, 0x0⟩
def R.FLT_TILE_STANDBY (w : Nat) : Nat := 0xa20020 + 0x4 * w
def F.FLT_TILE_STANDBY_STANDBY (w : Nat) : Fld := ⟨R.FLT_TILE_STANDBY w, 0, 32, 0x0⟩
def R.FLT_PORT : Nat := 0xa20040
def F.FLT_PORT_STANDBY : Fld := ⟨R.FLT_PORT, 8, 4, 0x0⟩
def F.FLT_PORT_FENCED : Fld := ⟨R.FLT_PORT, 0, 4, 0x0⟩
def R.FLT_STATUS : Nat := 0xa20050
def F.FLT_STATUS_TEST_LOCK_TOUCH : Fld := ⟨R.FLT_STATUS, 3, 1, 0x0⟩
def F.FLT_STATUS_BSCAN_ARMED : Fld := ⟨R.FLT_STATUS, 2, 1, 0x0⟩
def F.FLT_STATUS_CAPTURE_BUSY : Fld := ⟨R.FLT_STATUS, 1, 1, 0x0⟩
def F.FLT_STATUS_CHANGED : Fld := ⟨R.FLT_STATUS, 0, 1, 0x0⟩
def R.FLT_ERR : Nat := 0xa20054
def F.FLT_ERR_POLICY_ERR : Fld := ⟨R.FLT_ERR, 0, 1, 0x0⟩
def R.FLT_COUNTS : Nat := 0xa20058
def F.FLT_COUNTS_AUTO_FENCES : Fld := ⟨R.FLT_COUNTS, 16, 16, 0x0⟩
def F.FLT_COUNTS_ADVISED : Fld := ⟨R.FLT_COUNTS, 0, 16, 0x0⟩
def R.FLT_POLICY : Nat := 0xa20060
def F.FLT_POLICY_AUTO_CAPTURE : Fld := ⟨R.FLT_POLICY, 8, 1, 0x15⟩
def F.FLT_POLICY_CORE_AUTO : Fld := ⟨R.FLT_POLICY, 4, 2, 0x15⟩
def F.FLT_POLICY_TILE_AUTO : Fld := ⟨R.FLT_POLICY, 2, 2, 0x15⟩
def F.FLT_POLICY_SLICE_AUTO : Fld := ⟨R.FLT_POLICY, 0, 2, 0x15⟩
def R.FLT_LIMITS : Nat := 0xa20064
def F.FLT_LIMITS_CH_UE_LIMIT : Fld := ⟨R.FLT_LIMITS, 24, 8, 0x4040302⟩
def F.FLT_LIMITS_BUSHEL_LIMIT : Fld := ⟨R.FLT_LIMITS, 16, 8, 0x4040302⟩
def F.FLT_LIMITS_TILE_UE_LIMIT : Fld := ⟨R.FLT_LIMITS, 8, 8, 0x4040302⟩
def F.FLT_LIMITS_CORE_UE_LIMIT : Fld := ⟨R.FLT_LIMITS, 0, 8, 0x4040302⟩
def R.FLT_CAPTURE : Nat := 0xa20070
def F.FLT_CAPTURE_LAST_ID : Fld := ⟨R.FLT_CAPTURE, 16, 16, 0x0⟩
def F.FLT_CAPTURE_PARTS : Fld := ⟨R.FLT_CAPTURE, 8, 8, 0x0⟩
def R.FLT_TEST_LOCK : Nat := 0xa20074
def F.FLT_TEST_LOCK_TOUCHES : Fld := ⟨R.FLT_TEST_LOCK, 16, 16, 0x0⟩
def F.FLT_TEST_LOCK_LAST_PATH : Fld := ⟨R.FLT_TEST_LOCK, 0, 8, 0x0⟩
def R.FLT_CORE_FENCED (w : Nat) : Nat := 0xa20100 + 0x4 * w
def F.FLT_CORE_FENCED_FENCED (w : Nat) : Fld := ⟨R.FLT_CORE_FENCED w, 0, 32, 0x0⟩
def R.FLT_CORE_STANDBY (w : Nat) : Nat := 0xa20180 + 0x4 * w
def F.FLT_CORE_STANDBY_STANDBY (w : Nat) : Fld := ⟨R.FLT_CORE_STANDBY w, 0, 32, 0x0⟩

/-! ### The map -/

def regMap0 : List RegDesc := [
  ⟨0x0, [], 0x16121101, [⟨31, 16, .ro⟩, ⟨15, 8, .ro⟩, ⟨7, 0, .ro⟩]⟩,
  ⟨0x4, [], 0x487f40bf, [⟨31, 28, .ro⟩, ⟨27, 24, .ro⟩, ⟨23, 16, .ro⟩, ⟨15, 8, .ro⟩, ⟨7, 4, .ro⟩, ⟨3, 0, .ro⟩]⟩,
  ⟨0x8, [], 0xff00ff, [⟨23, 16, .ro⟩, ⟨7, 3, .ro⟩, ⟨2, 2, .ro⟩, ⟨1, 1, .ro⟩, ⟨0, 0, .ro⟩]⟩,
  ⟨0x10000, [], 0x0, [⟨10, 10, .ro⟩, ⟨9, 9, .ro⟩, ⟨8, 8, .ro⟩, ⟨7, 7, .ro⟩, ⟨6, 6, .ro⟩, ⟨5, 5, .ro⟩, ⟨4, 4, .ro⟩, ⟨3, 3, .ro⟩, ⟨2, 2, .ro⟩, ⟨1, 1, .ro⟩, ⟨0, 0, .ro⟩]⟩,
  ⟨0x10004, [], 0x5050, [⟨22, 16, .ro⟩, ⟨14, 8, .ro⟩, ⟨6, 0, .rw⟩]⟩,
  ⟨0x10008, [], 0x0, [⟨31, 16, .ro⟩, ⟨0, 0, .rw⟩]⟩,
  ⟨0x1000c, [], 0x0, [⟨8, 8, .w1c⟩, ⟨7, 7, .w1c⟩, ⟨6, 6, .w1c⟩, ⟨5, 5, .w1c⟩, ⟨4, 4, .w1c⟩, ⟨3, 3, .w1c⟩, ⟨2, 2, .w1c⟩, ⟨1, 1, .w1c⟩, ⟨0, 0, .w1c⟩]⟩,
  ⟨0x10010, [], 0x0, [⟨31, 31, .ro⟩, ⟨23, 16, .ro⟩, ⟨8, 8, .ro⟩, ⟨7, 0, .ro⟩]⟩,
  ⟨0x10014, [], 0x0, [⟨31, 16, .ro⟩, ⟨9, 0, .ro⟩]⟩,
  ⟨0x10020, [], 0x0, [⟨31, 0, .ro⟩]⟩,
  ⟨0x10024, [], 0x0, [⟨15, 0, .ro⟩]⟩,
  ⟨0x10028, [], 0x0, [⟨31, 0, .ro⟩]⟩,
  ⟨0x10030, [], 0x0, [⟨31, 0, .ro⟩]⟩,
  ⟨0x20000, [], 0x0, [⟨10, 10, .ro⟩, ⟨9, 9, .ro⟩, ⟨8, 8, .ro⟩, ⟨7, 7, .ro⟩, ⟨6, 6, .ro⟩, ⟨5, 5, .ro⟩, ⟨4, 4, .ro⟩, ⟨3, 3, .ro⟩, ⟨2, 2, .ro⟩, ⟨1, 1, .ro⟩, ⟨0, 0, .ro⟩]⟩,
  ⟨0x2000c, [], 0x0, [⟨15, 0, .ro⟩]⟩,
  ⟨0x20050, [], 0x0, [⟨26, 16, .ro⟩, ⟨10, 0, .rw⟩]⟩,
  ⟨0x20054, [], 0x44c, [⟨10, 0, .ro⟩]⟩,
  ⟨0x20060, [], 0xc8, [⟨31, 31, .wo⟩, ⟨10, 0, .rw⟩]⟩,
  ⟨0x20064, [], 0x0, [⟨31, 16, .ro⟩, ⟨4, 4, .w1c⟩, ⟨3, 3, .ro⟩, ⟨2, 2, .ro⟩, ⟨1, 1, .ro⟩, ⟨0, 0, .ro⟩]⟩,
  ⟨0x20070, [], 0x0, [⟨4, 4, .ro⟩, ⟨3, 3, .w1c⟩, ⟨2, 2, .w1c⟩, ⟨1, 1, .w1c⟩, ⟨0, 0, .w1c⟩]⟩]

def regMap1 : List RegDesc := [
  ⟨0x20080, [], 0x0, [⟨31, 0, .ro⟩]⟩,
  ⟨0x20090, [], 0x0, [⟨31, 24, .ro⟩, ⟨16, 16, .ro⟩, ⟨15, 8, .ro⟩, ⟨7, 0, .ro⟩]⟩,
  ⟨0x20800, [], 0x1, [⟨31, 24, .ro⟩, ⟨19, 16, .ro⟩, ⟨3, 3, .ro⟩, ⟨2, 0, .ro⟩]⟩,
  ⟨0x20804, [], 0x641401, [⟨31, 31, .w1c⟩, ⟨29, 16, .rw⟩, ⟨15, 8, .rw⟩, ⟨0, 0, .rw⟩]⟩,
  ⟨0x20808, [], 0x0, [⟨31, 0, .rw⟩]⟩,
  ⟨0x2080c, [], 0x0, [⟨31, 0, .rw⟩]⟩,
  ⟨0x20810, [], 0x2, [⟨7, 7, .ro⟩, ⟨6, 6, .ro⟩, ⟨5, 5, .ro⟩, ⟨4, 4, .ro⟩, ⟨3, 3, .ro⟩, ⟨2, 2, .ro⟩, ⟨1, 1, .ro⟩, ⟨0, 0, .ro⟩]⟩,
  ⟨0x20814, [], 0x0, [⟨31, 0, .w1c⟩]⟩,
  ⟨0x30000, [], 0x0, [⟨31, 16, .wo⟩, ⟨8, 8, .rws⟩, ⟨1, 1, .wo⟩, ⟨0, 0, .wo⟩]⟩,
  ⟨0x30004, [], 0x0, [⟨31, 31, .ro⟩, ⟨30, 30, .ro⟩, ⟨29, 29, .ro⟩, ⟨28, 28, .ro⟩, ⟨27, 24, .ro⟩, ⟨15, 0, .ro⟩]⟩,
  ⟨0x30008, [], 0x0, [⟨31, 16, .ro⟩, ⟨6, 6, .w1c⟩, ⟨5, 5, .w1c⟩, ⟨4, 4, .w1c⟩, ⟨3, 3, .w1c⟩, ⟨2, 2, .ro⟩, ⟨1, 1, .ro⟩, ⟨0, 0, .ro⟩]⟩,
  ⟨0x3000c, [], 0x0, [⟨4, 4, .w1c⟩, ⟨3, 3, .w1c⟩, ⟨2, 2, .w1c⟩, ⟨1, 1, .w1c⟩, ⟨0, 0, .w1c⟩]⟩,
  ⟨0x40000, [], 0x0, [⟨21, 21, .ro⟩, ⟨20, 20, .ro⟩, ⟨19, 16, .ro⟩, ⟨15, 11, .ro⟩, ⟨9, 9, .ro⟩, ⟨8, 8, .ro⟩, ⟨5, 0, .ro⟩]⟩,
  ⟨0x40004, [], 0x0, [⟨31, 0, .ro⟩]⟩,
  ⟨0x40008, [], 0x0, [⟨6, 6, .w1c⟩, ⟨5, 5, .w1c⟩, ⟨4, 4, .w1c⟩, ⟨3, 3, .w1c⟩, ⟨2, 2, .w1c⟩, ⟨1, 1, .w1c⟩, ⟨0, 0, .w1c⟩]⟩,
  ⟨0xa00000, [], 0xff, [⟨7, 0, .rw⟩]⟩,
  ⟨0xa00004, [], 0x0, [⟨7, 0, .ro⟩]⟩,
  ⟨0xa0000c, [], 0x0, [⟨7, 7, .w1c⟩, ⟨3, 3, .w1c⟩, ⟨1, 1, .w1c⟩]⟩,
  ⟨0x300000, [], 0x0, [⟨3, 0, .rw⟩]⟩,
  ⟨0x300004, [], 0x0, [⟨0, 0, .w1c⟩]⟩]

def regMap2 : List RegDesc := [
  ⟨0x310000, [], 0x0, [⟨31, 0, .ro⟩]⟩,
  ⟨0x320000, [], 0x0, [⟨31, 16, .ro⟩, ⟨15, 0, .ro⟩]⟩,
  ⟨0x320004, [], 0x0, [⟨7, 0, .ro⟩]⟩,
  ⟨0x320008, [], 0x0, [⟨0, 0, .w1c⟩]⟩,
  ⟨0xa00008, [], 0x0, [⟨5, 5, .w1c⟩, ⟨4, 4, .w1c⟩, ⟨3, 3, .w1c⟩, ⟨2, 2, .w1c⟩, ⟨1, 1, .w1c⟩, ⟨0, 0, .w1c⟩]⟩,
  ⟨0xa00010, [], 0x0, [⟨31, 0, .ro⟩]⟩,
  ⟨0x20004, [], 0x0, [⟨31, 16, .ro⟩, ⟨15, 0, .ro⟩]⟩,
  ⟨0x20008, [], 0x0, [⟨31, 16, .ro⟩, ⟨15, 0, .ro⟩]⟩,
  ⟨0x20010, [], 0x0, [⟨31, 0, .ro⟩]⟩,
  ⟨0x20014, [], 0x0, [⟨31, 0, .ro⟩]⟩,
  ⟨0x20018, [], 0x0, [⟨31, 0, .ro⟩]⟩,
  ⟨0x2001c, [], 0x0, [⟨31, 0, .ro⟩]⟩,
  ⟨0x20500, [(0x8, 32)], 0x0, [⟨31, 0, .ro⟩]⟩,
  ⟨0x20504, [(0x8, 32)], 0x0, [⟨31, 0, .ro⟩]⟩,
  ⟨0x20020, [], 0x35abe0, [⟨23, 16, .rw⟩, ⟨15, 0, .rw⟩]⟩,
  ⟨0x20024, [], 0xb3b0, [⟨15, 0, .rw⟩]⟩,
  ⟨0x20028, [], 0x48ca0, [⟨23, 16, .rw⟩, ⟨15, 0, .rw⟩]⟩,
  ⟨0x2002c, [], 0x9470, [⟨15, 0, .rw⟩]⟩,
  ⟨0x20030, [], 0x47530, [⟨23, 16, .rw⟩, ⟨15, 0, .rw⟩]⟩,
  ⟨0x20034, [], 0x4f230, [⟨23, 16, .rw⟩, ⟨15, 0, .rw⟩]⟩]

def regMap3 : List RegDesc := [
  ⟨0x20038, [], 0x3e8, [⟨15, 0, .rw⟩]⟩,
  ⟨0x2003c, [], 0x7d0, [⟨15, 0, .rw⟩]⟩,
  ⟨0x20100, [(0x10, 32)], 0x0, [⟨31, 31, .ro⟩, ⟨30, 30, .ro⟩, ⟨29, 29, .ro⟩, ⟨27, 24, .ro⟩, ⟨15, 0, .ro⟩]⟩,
  ⟨0x20104, [(0x10, 32)], 0x0, [⟨31, 0, .ro⟩]⟩,
  ⟨0x20108, [(0x10, 32)], 0x0, [⟨31, 16, .ro⟩, ⟨15, 0, .ro⟩]⟩,
  ⟨0x2010c, [(0x10, 32)], 0x0, [⟨31, 0, .ro⟩]⟩,
  ⟨0x20400, [(0x4, 32)], 0x100000, [⟨21, 21, .ro⟩, ⟨20, 16, .ro⟩, ⟨10, 0, .rw⟩]⟩,
  ⟨0x40010, [], 0x0, [⟨31, 0, .ro⟩]⟩,
  ⟨0x40100, [(0x10, 16)], 0x0, [⟨31, 24, .ro⟩, ⟨23, 2, .ro⟩]⟩,
  ⟨0x40104, [(0x10, 16)], 0x0, [⟨31, 31, .ro⟩, ⟨28, 24, .ro⟩, ⟨23, 20, .ro⟩, ⟨19, 19, .ro⟩]⟩,
  ⟨0x40108, [(0x10, 16)], 0x0, [⟨31, 0, .ro⟩]⟩,
  ⟨0x4010c, [(0x10, 16)], 0x0, [⟨31, 0, .ro⟩]⟩,
  ⟨0x1004000, [(0x20000, 32)], 0x0, [⟨31, 0, .ro⟩]⟩,
  ⟨0x1004100, [(0x20000, 32), (0x10, 8)], 0x0, [⟨31, 24, .ro⟩, ⟨23, 2, .ro⟩]⟩,
  ⟨0x1004104, [(0x20000, 32), (0x10, 8)], 0x0, [⟨31, 31, .ro⟩, ⟨28, 24, .ro⟩, ⟨23, 20, .ro⟩, ⟨19, 19, .ro⟩]⟩,
  ⟨0x1004108, [(0x20000, 32), (0x10, 8)], 0x0, [⟨31, 0, .ro⟩]⟩,
  ⟨0x100410c, [(0x20000, 32), (0x10, 8)], 0x0, [⟨31, 0, .ro⟩]⟩,
  ⟨0x54000, [(0x200, 32)], 0x0, [⟨31, 12, .rwq⟩]⟩,
  ⟨0x54004, [(0x200, 32)], 0x0, [⟨31, 0, .rwq⟩]⟩,
  ⟨0x54008, [(0x200, 32)], 0x0, [⟨31, 12, .rwq⟩]⟩]

def regMap4 : List RegDesc := [
  ⟨0x5400c, [(0x200, 32)], 0x0, [⟨31, 0, .rwq⟩]⟩,
  ⟨0x54014, [(0x200, 32)], 0xa, [⟨4, 0, .rwq⟩]⟩,
  ⟨0x54040, [(0x200, 32), (0x20, 8)], 0x0, [⟨31, 12, .rwq⟩]⟩,
  ⟨0x54044, [(0x200, 32), (0x20, 8)], 0x0, [⟨31, 0, .rwq⟩]⟩,
  ⟨0x54048, [(0x200, 32), (0x20, 8)], 0x8, [⟨4, 0, .rwq⟩]⟩,
  ⟨0x5404c, [(0x200, 32), (0x20, 8)], 0x0, [⟨31, 0, .rwq⟩]⟩,
  ⟨0x54018, [(0x200, 32)], 0x0, [⟨8, 8, .rw⟩, ⟨7, 0, .rw⟩]⟩,
  ⟨0x5401c, [(0x200, 32)], 0x0, [⟨31, 16, .ro⟩, ⟨12, 8, .ro⟩, ⟨4, 4, .w1c⟩, ⟨3, 3, .w1c⟩, ⟨2, 2, .w1c⟩, ⟨1, 1, .ro⟩, ⟨0, 0, .ro⟩]⟩,
  ⟨0x54020, [(0x200, 32)], 0x0, [⟨31, 0, .ro⟩]⟩,
  ⟨0x54024, [(0x200, 32)], 0x0, [⟨31, 16, .ro⟩, ⟨15, 0, .ro⟩]⟩,
  ⟨0x54050, [(0x200, 32), (0x20, 8)], 0x0, [⟨15, 8, .ro⟩, ⟨2, 2, .ro⟩, ⟨1, 0, .ro⟩]⟩,
  ⟨0x54054, [(0x200, 32), (0x20, 8)], 0x0, [⟨31, 0, .ro⟩]⟩,
  ⟨0x54058, [(0x200, 32), (0x20, 8)], 0x0, [⟨31, 0, .ro⟩]⟩,
  ⟨0x50000, [], 0x3e80001, [⟨25, 16, .rw⟩, ⟨9, 0, .rw⟩]⟩,
  ⟨0x50004, [], 0x0, [⟨0, 0, .w1c⟩]⟩,
  ⟨0x50008, [], 0x0, [⟨31, 0, .ro⟩]⟩,
  ⟨0x5000c, [], 0x0, [⟨31, 0, .w1c⟩]⟩,
  ⟨0x100000, [(0x10000, 32)], 0x0, [⟨6, 6, .ro⟩, ⟨5, 5, .ro⟩, ⟨4, 4, .ro⟩, ⟨3, 3, .ro⟩, ⟨2, 0, .ro⟩]⟩,
  ⟨0x100004, [(0x10000, 32)], 0x0, [⟨3, 0, .wo⟩]⟩,
  ⟨0x100008, [(0x10000, 32)], 0x0, [⟨17, 16, .rwq⟩, ⟨11, 8, .rwq⟩, ⟨3, 0, .rwq⟩]⟩]

def regMap5 : List RegDesc := [
  ⟨0x10000c, [(0x10000, 32)], 0x0, [⟨5, 4, .rwq⟩, ⟨1, 1, .rwq⟩, ⟨0, 0, .rwq⟩]⟩,
  ⟨0x100010, [(0x10000, 32)], 0x0, [⟨11, 8, .ro⟩, ⟨4, 4, .w1c⟩, ⟨3, 3, .w1c⟩, ⟨2, 2, .w1c⟩, ⟨1, 1, .w1c⟩, ⟨0, 0, .w1c⟩]⟩,
  ⟨0x100014, [(0x10000, 32)], 0x0, [⟨31, 31, .ro⟩, ⟨29, 24, .ro⟩, ⟨18, 16, .ro⟩, ⟨15, 8, .ro⟩, ⟨7, 0, .ro⟩]⟩,
  ⟨0x100018, [(0x10000, 32)], 0x0, [⟨31, 0, .ro⟩]⟩,
  ⟨0x10001c, [(0x10000, 32)], 0x0, [⟨15, 0, .ro⟩]⟩,
  ⟨0x100020, [(0x10000, 32)], 0x0, [⟨31, 0, .ro⟩]⟩,
  ⟨0x100024, [(0x10000, 32)], 0x0, [⟨31, 16, .ro⟩, ⟨15, 0, .ro⟩]⟩,
  ⟨0x100028, [(0x10000, 32)], 0x0, [⟨31, 16, .ro⟩, ⟨15, 0, .ro⟩]⟩,
  ⟨0x100030, [(0x10000, 32)], 0x0, [⟨31, 0, .ro⟩]⟩,
  ⟨0x100034, [(0x10000, 32)], 0x0, [⟨31, 0, .ro⟩]⟩,
  ⟨0x100038, [(0x10000, 32)], 0x0, [⟨31, 0, .ro⟩]⟩,
  ⟨0x300100, [(0x40, 4), (0x4, 12)], 0x0, [⟨31, 0, .rwq⟩]⟩,
  ⟨0x301000, [(0x20, 32)], 0x0, [⟨31, 0, .ro⟩]⟩,
  ⟨0x301004, [(0x20, 32)], 0x0, [⟨31, 0, .ro⟩]⟩,
  ⟨0x301008, [(0x20, 32)], 0x0, [⟨31, 24, .ro⟩, ⟨19, 19, .ro⟩, ⟨18, 18, .ro⟩, ⟨17, 16, .ro⟩, ⟨14, 13, .ro⟩, ⟨12, 0, .ro⟩]⟩,
  ⟨0x30100c, [(0x20, 32)], 0xffffffff, [⟨31, 0, .ro⟩]⟩,
  ⟨0x301010, [(0x20, 32)], 0x0, [⟨31, 16, .ro⟩, ⟨15, 0, .ro⟩]⟩,
  ⟨0x301014, [(0x20, 32)], 0x0, [⟨31, 0, .ro⟩]⟩,
  ⟨0x311000, [(0x10, 32)], 0x0, [⟨31, 16, .ro⟩, ⟨15, 8, .ro⟩, ⟨7, 0, .ro⟩]⟩,
  ⟨0x311004, [(0x10, 32)], 0x0, [⟨8, 8, .ro⟩, ⟨7, 0, .ro⟩]⟩]

def regMap6 : List RegDesc := [
  ⟨0x311008, [(0x10, 32)], 0x0, [⟨31, 16, .ro⟩, ⟨15, 0, .ro⟩]⟩,
  ⟨0x31100c, [(0x10, 32)], 0x0, [⟨31, 0, .ro⟩]⟩,
  ⟨0x312000, [(0x20, 2)], 0x0, [⟨31, 0, .ro⟩]⟩,
  ⟨0x312004, [(0x20, 2)], 0x0, [⟨31, 0, .ro⟩]⟩,
  ⟨0x312100, [(0x100, 2), (0x8, 16)], 0x0, [⟨31, 0, .ro⟩]⟩,
  ⟨0x312104, [(0x100, 2), (0x8, 16)], 0x0, [⟨31, 0, .ro⟩]⟩,
  ⟨0xb00000, [(0x1000, 128), (0x200, 8), (0x20, 8)], 0x0, [⟨31, 31, .ro⟩, ⟨30, 30, .ro⟩, ⟨23, 16, .ro⟩, ⟨15, 12, .ro⟩, ⟨3, 0, .ro⟩]⟩,
  ⟨0xb00004, [(0x1000, 128), (0x200, 8), (0x20, 8), (0x4, 4)], 0x0, [⟨31, 0, .ro⟩]⟩,
  ⟨0xb00014, [(0x1000, 128), (0x200, 8), (0x20, 8)], 0x0, [⟨1, 0, .ro⟩]⟩,
  ⟨0xb00100, [(0x1000, 128), (0x200, 8), (0x4, 64)], 0x0, [⟨7, 7, .ro⟩, ⟨6, 6, .ro⟩, ⟨3, 0, .ro⟩, ⟨15, 15, .ro⟩, ⟨14, 14, .ro⟩, ⟨11, 8, .ro⟩, ⟨23, 23, .ro⟩, ⟨22, 22, .ro⟩, ⟨19, 16, .ro⟩, ⟨31, 31, .ro⟩, ⟨30, 30, .ro⟩, ⟨27, 24, .ro⟩]⟩,
  ⟨0xb80000, [(0x1000, 64), (0x80, 16)], 0x0, [⟨31, 31, .ro⟩, ⟨30, 30, .ro⟩, ⟨29, 29, .ro⟩, ⟨20, 16, .ro⟩, ⟨12, 8, .ro⟩, ⟨6, 0, .ro⟩]⟩,
  ⟨0xb80040, [(0x1000, 64), (0x80, 16), (0x4, 16)], 0x0, [⟨31, 31, .ro⟩, ⟨30, 30, .ro⟩, ⟨29, 29, .ro⟩, ⟨22, 16, .ro⟩, ⟨15, 0, .ro⟩]⟩,
  ⟨0xb80800, [(0x1000, 64)], 0x0, [⟨9, 9, .ro⟩, ⟨8, 5, .ro⟩, ⟨4, 0, .ro⟩]⟩,
  ⟨0xbc0000, [(0x10, 32)], 0x0, [⟨31, 16, .ro⟩, ⟨15, 0, .ro⟩]⟩,
  ⟨0xbc0004, [(0x10, 32)], 0x0, [⟨15, 0, .ro⟩]⟩,
  ⟨0x100100, [(0x10000, 32), (0x20, 16)], 0x0, [⟨14, 8, .rwq⟩, ⟨5, 5, .rwq⟩, ⟨4, 4, .rwq⟩, ⟨3, 3, .rwq⟩, ⟨2, 1, .rwq⟩, ⟨0, 0, .rwq⟩]⟩,
  ⟨0x100104, [(0x10000, 32), (0x20, 16)], 0x0, [⟨31, 16, .rwq⟩]⟩,
  ⟨0x100108, [(0x10000, 32), (0x20, 16)], 0x0, [⟨13, 0, .rwq⟩]⟩,
  ⟨0x10010c, [(0x10000, 32), (0x20, 16)], 0x0, [⟨31, 9, .rwq⟩]⟩,
  ⟨0x100110, [(0x10000, 32), (0x20, 16)], 0x0, [⟨13, 0, .rwq⟩]⟩]

def regMap7 : List RegDesc := [
  ⟨0x100114, [(0x10000, 32), (0x20, 16)], 0x0, [⟨14, 0, .rwq⟩]⟩,
  ⟨0x100118, [(0x10000, 32), (0x20, 16)], 0x0, [⟨15, 0, .rwq⟩]⟩,
  ⟨0x10011c, [(0x10000, 32), (0x20, 16)], 0x0, [⟨6, 0, .ro⟩]⟩,
  ⟨0x100300, [(0x10000, 32)], 0x0, [⟨8, 8, .rwq⟩, ⟨4, 0, .rwq⟩]⟩,
  ⟨0x100304, [(0x10000, 32)], 0x0, [⟨31, 16, .w1c⟩, ⟨15, 0, .w1c⟩]⟩,
  ⟨0x100308, [(0x10000, 32)], 0x0, [⟨0, 0, .w1c⟩]⟩,
  ⟨0x10030c, [(0x10000, 32)], 0x0, [⟨31, 0, .ro⟩]⟩,
  ⟨0x400000, [(0x10000, 64)], 0x0, [⟨26, 26, .ro⟩, ⟨25, 25, .ro⟩, ⟨24, 24, .ro⟩, ⟨20, 16, .ro⟩, ⟨8, 8, .ro⟩, ⟨4, 0, .ro⟩]⟩,
  ⟨0x400010, [(0x10000, 64)], 0x0, [⟨31, 0, .ro⟩]⟩,
  ⟨0x400014, [(0x10000, 64)], 0x0, [⟨31, 0, .ro⟩]⟩,
  ⟨0x400018, [(0x10000, 64)], 0x0, [⟨31, 0, .ro⟩]⟩,
  ⟨0x400020, [(0x10000, 64)], 0x0, [⟨31, 16, .ro⟩, ⟨15, 0, .ro⟩]⟩,
  ⟨0x400024, [(0x10000, 64)], 0x0, [⟨31, 16, .ro⟩, ⟨15, 0, .ro⟩]⟩,
  ⟨0x400028, [(0x10000, 64)], 0x0, [⟨11, 0, .ro⟩]⟩,
  ⟨0x40002c, [(0x10000, 64)], 0x0, [⟨15, 0, .ro⟩]⟩,
  ⟨0x400200, [(0x10000, 64)], 0x0, [⟨31, 0, .ro⟩]⟩,
  ⟨0x400204, [(0x10000, 64)], 0x0, [⟨31, 0, .ro⟩]⟩,
  ⟨0x400208, [(0x10000, 64)], 0x0, [⟨31, 0, .ro⟩]⟩,
  ⟨0x40020c, [(0x10000, 64)], 0x0, [⟨31, 0, .ro⟩]⟩,
  ⟨0x400210, [(0x10000, 64)], 0x0, [⟨31, 16, .ro⟩, ⟨15, 0, .ro⟩]⟩]

def regMap8 : List RegDesc := [
  ⟨0x400220, [(0x10000, 64)], 0x0, [⟨31, 31, .ro⟩, ⟨26, 24, .ro⟩, ⟨19, 16, .ro⟩, ⟨12, 8, .ro⟩]⟩,
  ⟨0x400224, [(0x10000, 64)], 0x0, [⟨31, 0, .ro⟩]⟩,
  ⟨0x100400, [(0x10000, 32), (0x4, 4)], 0x0, [⟨15, 0, .rwq⟩]⟩,
  ⟨0x100410, [(0x10000, 32), (0x4, 4)], 0x0, [⟨15, 0, .rwq⟩]⟩,
  ⟨0x100420, [(0x10000, 32)], 0x0, [⟨0, 0, .w1c⟩]⟩,
  ⟨0x100600, [(0x10000, 32), (0x14, 6)], 0x0, [⟨31, 0, .ro⟩]⟩,
  ⟨0x100604, [(0x10000, 32), (0x14, 6)], 0x0, [⟨31, 0, .ro⟩]⟩,
  ⟨0x100608, [(0x10000, 32), (0x14, 6)], 0x0, [⟨31, 0, .ro⟩]⟩,
  ⟨0x10060c, [(0x10000, 32), (0x14, 6)], 0x0, [⟨31, 0, .ro⟩]⟩,
  ⟨0x100610, [(0x10000, 32), (0x14, 6)], 0x0, [⟨19, 0, .ro⟩]⟩,
  ⟨0x100678, [(0x10000, 32)], 0x0, [⟨31, 0, .ro⟩]⟩,
  ⟨0x10067c, [(0x10000, 32)], 0x0, [⟨31, 0, .ro⟩]⟩,
  ⟨0x800000, [(0x20000, 8)], 0x0, [⟨31, 16, .ro⟩, ⟨15, 8, .ro⟩, ⟨5, 5, .ro⟩, ⟨4, 4, .ro⟩, ⟨3, 3, .ro⟩, ⟨2, 2, .ro⟩, ⟨0, 0, .ro⟩]⟩,
  ⟨0x800004, [(0x20000, 8)], 0x3828, [⟨14, 8, .rw⟩, ⟨6, 0, .rw⟩]⟩,
  ⟨0x800008, [(0x20000, 8)], 0x14, [⟨9, 0, .rw⟩]⟩,
  ⟨0x80000c, [(0x20000, 8)], 0x0, [⟨1, 1, .w1c⟩, ⟨0, 0, .w1c⟩]⟩,
  ⟨0x801000, [(0x20000, 8), (0x20, 16)], 0x0, [⟨17, 16, .ro⟩, ⟨14, 8, .ro⟩, ⟨6, 0, .ro⟩]⟩,
  ⟨0x801004, [(0x20000, 8), (0x20, 16)], 0x0, [⟨31, 0, .ro⟩]⟩,
  ⟨0x801008, [(0x20000, 8), (0x20, 16)], 0x0, [⟨31, 0, .ro⟩]⟩,
  ⟨0x80100c, [(0x20000, 8), (0x20, 16)], 0x0, [⟨31, 0, .ro⟩]⟩]

def regMap9 : List RegDesc := [
  ⟨0x900000, [(0x10000, 4)], 0x20, [⟨5, 4, .rw⟩, ⟨1, 1, .rws⟩, ⟨0, 0, .rw⟩]⟩,
  ⟨0x900004, [(0x10000, 4)], 0x0, [⟨31, 16, .ro⟩, ⟨7, 6, .ro⟩, ⟨5, 4, .ro⟩, ⟨3, 3, .ro⟩, ⟨1, 0, .ro⟩]⟩,
  ⟨0x900008, [(0x10000, 4)], 0x0, [⟨31, 20, .ro⟩, ⟨19, 18, .ro⟩, ⟨3, 0, .ro⟩]⟩,
  ⟨0x90000c, [(0x10000, 4)], 0x0, [⟨8, 8, .rwq⟩, ⟨4, 0, .rwq⟩]⟩,
  ⟨0x900010, [(0x10000, 4)], 0x0, [⟨4, 4, .w1c⟩, ⟨3, 3, .w1c⟩, ⟨2, 2, .w1c⟩, ⟨1, 1, .w1c⟩, ⟨0, 0, .w1c⟩]⟩,
  ⟨0x900014, [(0x10000, 4)], 0x400, [⟨15, 0, .rw⟩]⟩,
  ⟨0x900020, [(0x10000, 4)], 0x0, [⟨31, 0, .ro⟩]⟩,
  ⟨0x900024, [(0x10000, 4)], 0x0, [⟨31, 0, .ro⟩]⟩,
  ⟨0x900028, [(0x10000, 4)], 0x0, [⟨31, 0, .ro⟩]⟩,
  ⟨0x90002c, [(0x10000, 4)], 0x0, [⟨31, 0, .ro⟩]⟩,
  ⟨0x900030, [(0x10000, 4)], 0x0, [⟨31, 16, .ro⟩, ⟨15, 0, .ro⟩]⟩,
  ⟨0x900034, [(0x10000, 4)], 0x0, [⟨31, 16, .ro⟩, ⟨15, 0, .ro⟩]⟩,
  ⟨0x900038, [(0x10000, 4)], 0x0, [⟨31, 0, .ro⟩]⟩,
  ⟨0x90003c, [(0x10000, 4)], 0x0, [⟨29, 16, .ro⟩, ⟨13, 0, .ro⟩]⟩,
  ⟨0x900100, [], 0x0, [⟨27, 16, .rws⟩, ⟨3, 0, .rws⟩]⟩,
  ⟨0x400100, [(0x10000, 64)], 0x0, [⟨31, 0, .ro⟩]⟩,
  ⟨0x400104, [(0x10000, 64)], 0x0, [⟨31, 0, .ro⟩]⟩,
  ⟨0x400108, [(0x10000, 64)], 0x0, [⟨31, 0, .ro⟩]⟩,
  ⟨0x40010c, [(0x10000, 64)], 0x0, [⟨31, 0, .ro⟩]⟩,
  ⟨0x400110, [(0x10000, 64)], 0x0, [⟨8, 8, .w1c⟩, ⟨7, 0, .ro⟩]⟩]

def regMap10 : List RegDesc := [
  ⟨0x400114, [(0x10000, 64)], 0x10ea60, [⟨23, 16, .rw⟩, ⟨15, 0, .rw⟩]⟩,
  ⟨0x400120, [(0x10000, 64)], 0x3c, [⟨16, 16, .rw⟩, ⟨13, 0, .rw⟩]⟩,
  ⟨0x400124, [(0x10000, 64)], 0x0, [⟨31, 16, .ro⟩, ⟨15, 0, .ro⟩]⟩,
  ⟨0x400128, [(0x10000, 64)], 0x0, [⟨31, 16, .ro⟩, ⟨15, 0, .ro⟩]⟩,
  ⟨0x40012c, [(0x10000, 64)], 0x0, [⟨24, 0, .ro⟩]⟩,
  ⟨0x400130, [(0x10000, 64)], 0x0, [⟨0, 0, .w1c⟩]⟩,
  ⟨0x400140, [(0x10000, 64), (0x4, 8)], 0x0, [⟨31, 31, .ro⟩, ⟨17, 0, .ro⟩]⟩,
  ⟨0xa00100, [(0x10, 64)], 0x0, [⟨31, 28, .ro⟩, ⟨27, 24, .ro⟩, ⟨23, 23, .ro⟩, ⟨22, 18, .ro⟩, ⟨17, 8, .ro⟩, ⟨7, 0, .ro⟩]⟩,
  ⟨0xa00104, [(0x10, 64)], 0x0, [⟨31, 0, .ro⟩]⟩,
  ⟨0xa00108, [(0x10, 64)], 0x0, [⟨16, 16, .ro⟩, ⟨15, 0, .ro⟩]⟩,
  ⟨0xa0010c, [(0x10, 64)], 0x0, [⟨31, 0, .ro⟩]⟩,
  ⟨0xa00800, [(0x4, 128)], 0x0, [⟨31, 16, .ro⟩, ⟨15, 0, .ro⟩]⟩,
  ⟨0xa10000, [], 0x0, [⟨31, 16, .ro⟩, ⟨3, 3, .ro⟩, ⟨2, 2, .ro⟩, ⟨1, 1, .ro⟩, ⟨0, 0, .ro⟩]⟩,
  ⟨0xa10004, [], 0x0, [⟨31, 24, .ro⟩, ⟨23, 16, .ro⟩, ⟨15, 0, .ro⟩]⟩,
  ⟨0xa10008, [], 0x0, [⟨31, 16, .ro⟩, ⟨15, 0, .ro⟩]⟩,
  ⟨0xa1000c, [], 0x0, [⟨31, 0, .ro⟩]⟩,
  ⟨0xa10010, [], 0x0, [⟨31, 16, .ro⟩, ⟨15, 0, .ro⟩]⟩,
  ⟨0xa10014, [], 0x0, [⟨31, 16, .ro⟩, ⟨15, 0, .ro⟩]⟩,
  ⟨0xa10018, [], 0x0, [⟨31, 0, .ro⟩]⟩,
  ⟨0xa1001c, [], 0x0, [⟨31, 0, .ro⟩]⟩]

def regMap11 : List RegDesc := [
  ⟨0xa10040, [], 0x0, [⟨31, 31, .wo⟩, ⟨15, 8, .rwq⟩, ⟨7, 0, .rwq⟩]⟩,
  ⟨0xa10044, [], 0x0, [⟨31, 24, .ro⟩, ⟨23, 16, .ro⟩, ⟨15, 8, .ro⟩, ⟨2, 2, .w1c⟩, ⟨1, 0, .ro⟩]⟩,
  ⟨0xa10048, [], 0x0, [⟨0, 0, .w1c⟩]⟩,
  ⟨0xa10100, [(0x4, 64)], 0x0, [⟨31, 0, .rwq⟩]⟩,
  ⟨0xa10200, [(0x4, 64)], 0x0, [⟨31, 0, .ro⟩]⟩,
  ⟨0xa20000, [(0x4, 6)], 0x0, [⟨31, 0, .ro⟩]⟩,
  ⟨0xa20020, [(0x4, 6)], 0x0, [⟨31, 0, .ro⟩]⟩,
  ⟨0xa20040, [], 0x0, [⟨11, 8, .ro⟩, ⟨3, 0, .ro⟩]⟩,
  ⟨0xa20050, [], 0x0, [⟨3, 3, .ro⟩, ⟨2, 2, .ro⟩, ⟨1, 1, .ro⟩, ⟨0, 0, .w1c⟩]⟩,
  ⟨0xa20054, [], 0x0, [⟨0, 0, .w1c⟩]⟩,
  ⟨0xa20058, [], 0x0, [⟨31, 16, .ro⟩, ⟨15, 0, .ro⟩]⟩,
  ⟨0xa20060, [], 0x15, [⟨8, 8, .rws⟩, ⟨5, 4, .rws⟩, ⟨3, 2, .rws⟩, ⟨1, 0, .rws⟩]⟩,
  ⟨0xa20064, [], 0x4040302, [⟨31, 24, .rws⟩, ⟨23, 16, .rws⟩, ⟨15, 8, .rws⟩, ⟨7, 0, .rws⟩]⟩,
  ⟨0xa20070, [], 0x0, [⟨31, 16, .ro⟩, ⟨15, 8, .ro⟩]⟩,
  ⟨0xa20074, [], 0x0, [⟨31, 16, .ro⟩, ⟨7, 0, .ro⟩]⟩,
  ⟨0xa20100, [(0x4, 32)], 0x0, [⟨31, 0, .ro⟩]⟩,
  ⟨0xa20180, [(0x4, 32)], 0x0, [⟨31, 0, .ro⟩]⟩]

/-- Every register of PF BAR0 and VF BAR0 (R882). -/
def regMap : List RegDesc :=
  regMap0 ++ regMap1 ++ regMap2 ++ regMap3 ++ regMap4 ++ regMap5 ++ regMap6 ++ regMap7 ++ regMap8 ++ regMap9 ++ regMap10 ++ regMap11

/-- Does offset `d` from an array's base fall on an element of it? -/
def onDims : List (Nat × Nat) → Nat → Bool
  | [], d => d == 0
  | (stride, count) :: rest, d =>
    let i := min (d / stride) (count - 1)
    onDims rest (d - i * stride)

/-- The register whose word lies at byte offset `off`, when one does; any other offset is reserved (R882, R883). -/
def regAt (off : Nat) : Option RegDesc :=
  regMap.find? fun r => r.base ≤ off && onDims r.dims (off - r.base)

/-- The word a register holds after a cold reset (R182, the "Cold value" columns). -/
def coldWord (off : Nat) : Nat :=
  match regAt off with
  | some r => r.cold
  | none => 0

end Sys2Proof.Machine
end

