-- ==== Sys2Proof/Machine/SMap.lean ====
section
/-! DEFINITION. Sparse maps: what an index holds, listed by index in strictly rising order; an index with no entry holds
the default that the reader names. -/

namespace Sys2Proof.Machine

/-- A sparse map from indices to values. -/
abbrev SMap (α : Type) := List (Nat × α)

/-- The value at index `i`, `d` where the map lists none. -/
def smGet {α : Type} (m : SMap α) (d : α) (i : Nat) : α :=
  match m with
  | [] => d
  | (k, v) :: rest => if k = i then v else smGet rest d i

/-- The map with `v` at index `i`. -/
def smPut {α : Type} (m : SMap α) (i : Nat) (v : α) : SMap α :=
  match m with
  | [] => [(i, v)]
  | (k, w) :: rest =>
    if i < k then (i, v) :: (k, w) :: rest
    else if i = k then (i, v) :: rest
    else (k, w) :: smPut rest i v

/-- The value at index `i` changed by `f`. -/
def smMod {α : Type} (m : SMap α) (d : α) (i : Nat) (f : α → α) : SMap α :=
  smPut m i (f (smGet m d i))

/-- The map without index `i`. -/
def smDel {α : Type} (m : SMap α) (i : Nat) : SMap α :=
  m.filter fun e => e.1 ≠ i

/-- The indices rise strictly. -/
def smSorted {α : Type} : SMap α → Bool
  | [] => true
  | [_] => true
  | (k, _) :: (l, w) :: rest => decide (k < l) && smSorted ((l, w) :: rest)

end Sys2Proof.Machine
end

