-- ==== Sys2Proof/Machine/State.lean ====
section
/-! DEFINITION. The state of the block: every register (one word per offset of the map that has been written or has
changed since the cold reset), and every piece of state no register holds, as plain data. `State.reset` is the module
right after a cold reset, its converters not yet started. -/

namespace Sys2Proof.Machine

/-! ### Storage -/

/-- A byte store: the bytes some engine has written, by address in strictly rising order. An address with no entry is
unwritten (R198, R788). -/
abbrev Mem := List Host.Cell

/-- A byte store with the poison flag of each aligned 8-byte word (R772, R773): `poison` lists the indices
(address / 8) of the poisoned words, strictly rising. -/
structure PMem where
  bytes : Mem := []
  poison : List Nat := []
  deriving DecidableEq, Repr

/-! ### Supply and metering (03) -/

/-- The classes of the supply event log (R104, R113, R116). -/
inductive SupplyClass where
  | sag | dropout | swell | transient | ripple | loss | limit | thermal
  deriving DecidableEq, Repr

/-- A run of consecutive samples meeting a class's condition: its length, the timestamp of its first sample and the
extreme value seen in it (R104, PWR_EVT). -/
structure Run where
  count : Nat := 0
  start : Nat := 0
  extreme : Nat := 0
  deriving DecidableEq, Repr

/-- An open entry of the supply event log: its sequence number (R124), the samples from the first sample of its run
and the extreme so far. -/
structure OpenEvent where
  seq : Nat
  samples : Nat
  extreme : Nat
  deriving DecidableEq, Repr

/-- The measurement front end, the classifier, the power limiter and the thermal monitor (R99 to R118). -/
structure Supply where
  lastSample : Option Nat := none
  lastMv : Option Nat := none
  sagRun : Run := {}
  dropoutRun : Run := {}
  swellRun : Run := {}
  lossRun : Run := {}
  /-- Consecutive samples above the overvoltage trip of 65.0 V (R93). -/
  ovpRun : Run := {}
  /-- Entries written into the event log since the cold reset (R124). -/
  events : Nat := 0
  sagQuiet : Nat := 0
  dropoutQuiet : Nat := 0
  swellQuiet : Nat := 0
  transientQuiet : Nat := 0
  limitQuiet : Nat := 0
  sag : Option OpenEvent := none
  dropout : Option OpenEvent := none
  swell : Option OpenEvent := none
  transient : Option OpenEvent := none
  ripple : Option OpenEvent := none
  limit : Option OpenEvent := none
  thermal : Option OpenEvent := none
  /-- Powers of the last samples in mV × mA, newest first, at most 10,240 (R113). -/
  powers : List Nat := []
  /-- Module energy in mV × mA × samples since cold reset (R101). -/
  energy : Nat := 0
  tickMinMv : Nat := 0
  tickMaxMv : Nat := 0
  tickMaxMa : Nat := 0
  tickSamples : Nat := 0
  tickPower : Nat := 0
  tickStart : Nat := 0
  /-- Consecutive junction reads at or above 125 °C (R118), and the higher reading of that run. -/
  hotReads : Nat := 0
  hotMax : Nat := 0
  /-- The tick whose boundary came last (timestamp / 8,192), and the module energy latched there in µJ (R813). -/
  boundary : Nat := 0
  latched : Nat := 0
  /-- A shed request has been sent to the clock controller and not yet been received there (R79). -/
  shedAsked : Bool := false
  /-- A shed was applied during the present tick (telemetry byte 35 of R289). -/
  shedInTick : Bool := false
  deriving DecidableEq, Repr

/-- The facility-halt procedure (R138): the count of single-channel samples. The last sample of each channel stands in
PWR_FHALT_STATUS. -/
structure Fhalt where
  aloneMs : Nat := 0
  /-- A halt that would start during a warm reset or before READY, held (R178, R187). -/
  held : Bool := false
  deriving DecidableEq, Repr

/-! ### Power states and resets (04) -/

/-- What the module is doing as a whole: nothing powered; bring-up; recovery (R192); operating; warm reset; from a
declared LOSS to the power-down (R119, R123). -/
inductive Phase where
  | off | bringUp | recovery | run | warmReset | loss
  deriving DecidableEq, Repr

/-- Why the module last lost every supply (RST_CAUSE bits 2:0). -/
inductive ColdCause where
  | powerOn | command | loss
  deriving DecidableEq, Repr

/-- The power sequencer. -/
structure Power where
  phase : Phase := .off
  coldCause : ColdCause := .powerOn
  /-- The last-gasp writer owes its final entry (R119). -/
  lastGasp : Bool := false
  /-- What the final entry tells of the LOSS (R119): its time stamp, minimum voltage and the shed sources of R110. -/
  lossStart : Nat := 0
  lossMin : Nat := 0
  lossShed : Nat := 0
  /-- The halves are powered. -/
  halves : Bool := false
  /-- A tile PLL has lost lock and its half's clocks are stopped (R88). -/
  westStopped : Bool := false
  eastStopped : Bool := false
  /-- A wake from M2 is in progress (R165), and its cause as LAST_WAKE gives it. -/
  waking : Bool := false
  wakeCode : Nat := 0
  /-- The crossings that fail in the wake in progress, as WAKE_CAUSE tells. -/
  wakeXings : List Crossing := []
  /-- A wake cause was latched after the switches opened in an M2 entry that completes (R163). -/
  wakeLatched : Option Nat := none
  /-- Register writes that wait for the wake (R166). -/
  heldWrites : List Instr := []
  /-- A release from M3 is in progress (R171). -/
  releasing : Bool := false
  /-- Ticks the module has been in M1 without a break (R159). -/
  m1Ticks : Nat := 0
  /-- PERST# is asserted, as a low pin asserts it. -/
  perst : Bool := true
  /-- The warm reset in progress keeps HBM (R173). -/
  keepHbm : Bool := false
  /-- The warm reset in progress began in M3 (R179). -/
  fromM3 : Bool := false
  /-- A warm reset event has been seen and its sequence has not run (R173). -/
  warmDue : Bool := false
  /-- The module drives its power-good output (R183). -/
  pwrgd : Bool := false
  /-- The module drives CLKREQ_N low (R239). -/
  clkreq : Bool := false
  /-- The module is in board-test mode (R877). -/
  boardTest : Bool := false
  /-- The slew in progress (R66): the device time from which IN_FORCE_MULT's stored value moves, and where it goes. -/
  slewSince : Nat := 0
  slewTo : Nat := 0
  /-- The AON copy of the fused repair map, and the repair loaded into the arrays of the halves (R193). -/
  fuseCopy : SMap Nat := []
  repair : SMap Nat := []
  deriving DecidableEq, Repr

/-- The test access port in board-test mode (R878, R879): the instruction in force, the update latches of the 11 boundary
cells, the capture of the last SAMPLE, and the input pins that the cells observe. -/
structure Tap where
  instruction : BitVec 8 := 0xFF
  latches : BitVec 11 := 0
  captured : BitVec 11 := 0
  modulePos : BitVec 3 := 0
  clkreq : Bool := false
  deriving DecidableEq, Repr

/-- The mesochronous crossings (R69 to R73), by crossing, plane and direction: the AON training store, the read-pointer
offsets in force in the FIFOs of powered tiles, and the crossings that failed retraining at their last verification. -/
structure Xings where
  store : SMap (BitVec 3) := []
  offset : SMap (BitVec 3) := []
  failed : List Nat := []
  deriving DecidableEq, Repr

/-! ### Host interface (05) -/

/-- One MSI-X table entry: its four words (R227, R890). -/
structure MsixEntry where
  addrLo : Word := 0
  addrHi : Word := 0
  data : Word := 0
  masked : Bool := true
  deriving DecidableEq, Repr

/-- Fields of the PF's configuration space that no register shows: System Page Size in bytes (R209), the Completion
Timeout Value of Device Control 2 (R892), the settings of R205, ARI Capable Hierarchy (R208), and what was written to BAR0
and BAR1 of the PF and to VF BAR0 and VF BAR1 (R215). Their reset values are those of the PCIe specification (log 151). -/
structure PfConfig where
  systemPageSize : Nat := 4096
  completionTimeout : BitVec 4 := 0
  dev : DevControl := {}
  aspmL11 : Bool := false
  ecrcGenerate : Bool := false
  ecrcCheck : Bool := false
  ariHierarchy : Bool := false
  bar0 : Word := 0
  bar1 : Word := 0
  vfBar0 : Word := 0
  vfBar1 : Word := 0
  deriving DecidableEq, Repr

/-- The AER registers of a function (R205), with the values the PCIe specification gives them at reset (log 151). -/
structure Aer where
  uncStatus : Word := 0
  uncMask : Word := 0
  uncSeverity : Word := 0x00462030
  corStatus : Word := 0
  corMask : Word := 0x00002000
  deriving DecidableEq, Repr

/-- The PCIe function state that registers of the BARs do not hold. -/
structure FnState where
  /-- The PF's Bus Master Enable; VF n's is its bit of HOST_VF_BME. -/
  busMaster : Bool := false
  memSpace : Bool := false
  msixEnable : Bool := false
  msixMask : Bool := false
  table : SMap MsixEntry := []
  /-- The pending bit array. -/
  pendingBits : Nat := 0
  /-- A Function Level Reset of the VF is in progress (R212, R267). -/
  flr : Bool := false
  aer : Aer := {}
  /-- The ACS control register (R228). -/
  acs : BitVec 16 := 0
  deriving DecidableEq, Repr

/-! ### Rings (06) -/

/-- Where a fetched descriptor stands. -/
inductive DescPhase where
  | fetched                 -- checked, not started (R300)
  | running                 -- started
  | finished                -- its work is done, its record not yet entered
  | blocked                 -- completed without running, waiting for room for its record (R314)
  deriving DecidableEq, Repr

/-- A fetched descriptor of a submission ring (R285). -/
structure Desc where
  index : Word
  words : List Word
  phase : DescPhase := .fetched
  /-- Bytes a COPY or FILL has written. -/
  done : Nat := 0
  status : Nat := 0
  code : Nat := 0
  abortCause : Nat := 0
  aborted : Bool := false
  poison : Bool := false
  delayedBudget : Bool := false
  delayedQueue : Bool := false
  result : Nat := 0
  startTime : Nat := 0
  /-- Global start order of the descriptor, for FENCE of scope VF (R296) and R292. -/
  order : Nat := 0
  /-- Link-window requests of the present block: handed to the port, unanswered, and what reads have returned. -/
  linkSent : Bool := false
  linkWait : Nat := 0
  linkGot : PMem := {}
  /-- The block's writes into the link window have been handed to the port. -/
  linkWriting : Bool := false
  /-- Global order of the fetch (R296). -/
  fetchedAs : Nat := 0
  /-- The present block is held by refresh-only or feedback, and counted so (R721, R722). -/
  held : Bool := false
  /-- When the present block reached the ring engine, in the order of identifiers, and whether it has the age term (R703, R717). -/
  since : Nat := 0
  promoted : Bool := false
  /-- LOAD_SCHEDULE: 0 in the first pass, 1 checked, 2 writing tiles (R513, R514). -/
  stage : Nat := 0
  /-- TELEMETRY_SNAPSHOT: the record the Vesper tick filled. -/
  snap : List Byte := []
  deriving DecidableEq, Repr

/-- A completion record (R305): its eight words with SEQ still 0, and whether the COMPLETION vector follows it. -/
structure Record where
  words : List Word
  irq : Bool
  deriving DecidableEq, Repr

/-- One submission ring: its fetched descriptors in index order. -/
structure Ring where
  descs : List Desc := []
  deriving DecidableEq, Repr

/-- A ring waiting at a BARRIER (R298). -/
structure BarrierWait where
  id : Nat
  count : Nat
  ring : Nat
  index : Word
  deriving DecidableEq, Repr

/-- The ring engine's and Ring Watch's state for one VF. -/
structure VfRings where
  rings : List Ring := List.replicate 8 {}
  held : List Record := []
  /-- Records that wait for room in the holding buffer (R313, R314). -/
  waiting : List Record := []
  /-- Status records due and not yet written: rings 0 to 7, and 8 for the completion ring (R280). -/
  statusDue : List Nat := []
  barriers : List BarrierWait := []
  consumer : Word := 0
  interval : Nat := 1
  hintPending : Bool := false
  tornLast : Bool := false
  /-- The ring whose descriptor started last (R302). -/
  lastRing : Nat := 7
  deriving DecidableEq, Repr

/-! ### Schedule images (09, 10, 12, 13, 15) -/

/-- A slot-table entry (R483). -/
structure SlotEntry where
  start : Nat
  count : Nat
  outN : Nat
  outE : Nat
  outS : Nat
  outW : Nat
  outL : Nat
  sumA : Nat
  sumB : Nat
  sumFmt : Nat
  injMode : Nat
  injAddr : Nat
  ejAddr : Nat
  deriving DecidableEq, Repr

/-- A tile table record (R505). -/
structure TileTable where
  dx : Nat
  dy : Nat
  entries : List SlotEntry
  deriving DecidableEq, Repr

/-- A program record (R415). -/
structure Program where
  dx : Nat
  dy : Nat
  core : Nat
  entry : Nat
  words : List Word64
  deriving DecidableEq, Repr

/-- An end of a channel: a core's channel or queue, or a combining queue (R555). -/
inductive ChanEnd where
  | core (g : Nat) (num : Nat)
  | cq (s : Nat) (q : Nat) (delivery : Nat)
  | link (port : Nat) (chan : Nat)
  deriving DecidableEq, Repr

/-- A channel of the loaded image, bound to the die (R559). -/
structure Channel where
  credit : Bool
  credits : Nat
  src : ChanEnd
  dst : ChanEnd
  deriving DecidableEq, Repr

/-- A COMBINER record bound to the die, with its TAGS of the SIZING section (R559, R579). -/
structure Combiner where
  slice : Nat
  q : Nat
  int32 : Bool
  expect : Nat
  deliveries : Nat
  tags : Nat
  deriving DecidableEq, Repr

/-- A rule-book declaration (R679). -/
structure GatherDecl where
  rbAddr : Nat
  maxEntries : Nat
  noff : Nat
  maxPerOffset : Nat
  inRows : Nat
  outRows : Nat
  inStride : Nat
  outStride : Nat
  deriving DecidableEq, Repr

/-- A loaded schedule image: what LOAD_SCHEDULE wrote, and where its rebuild reads it again (R155, R293). -/
structure Image where
  hostAddr : Nat
  hostLen : Nat
  /-- IMAGE_BYTES. -/
  bytes : Nat
  id : Nat
  signed : Bool
  meridianDx : Nat
  variants : Nat
  frameSlots : Nat
  sets : List (List TileTable)
  programs : List Program
  channels : List Channel
  combiners : List Combiner
  decls : List GatherDecl
  proofLo : Word
  deriving DecidableEq, Repr

/-! ### Clusters and cores (08, 09) -/

/-- What a core's sequencer is doing. -/
inductive CoreStatus where
  | idle | running | ended | halted
  deriving DecidableEq, Repr

/-- A 16-byte channel message with the poison of its two words (R560, R561), its source key (R571) and the place of
its channel in the image's list. -/
structure Message where
  lo : Word64
  hi : Word64
  poisonLo : Bool := false
  poisonHi : Bool := false
  key : Nat
  chan : Nat
  deriving DecidableEq, Repr

/-- A store-buffer entry: one aligned 64-byte granule with its byte mask (R384). -/
structure SbEntry where
  id : Nat
  addr : Nat
  /-- Bytes by offset in the granule, and the offsets / 8 of the poisoned words. -/
  bytes : Mem
  poison : List Nat
  /-- Sent toward its home: no later store merges into it (R386, R387). -/
  sent : Bool := false
  deriving DecidableEq, Repr

/-- A load, a granule copy or a returning atomic whose data is outstanding: what to do with it. `overlay` holds the
bytes of the core's own store buffer, by offset from the address (R386). -/
structure LoadOp where
  tag : Nat
  granule : Bool := false
  dest : Nat
  addr : Nat
  size : Nat
  sext : Bool := false
  overlay : Mem := []
  overlayBad : List Nat := []
  /-- The READ fetches a whole line for the read-only cache (R370). -/
  fill : Bool := false
  /-- A returning atomic: no later operation issues before its value is in sD (R431). -/
  block : Bool := false
  deriving DecidableEq, Repr

/-- Why a core waits at the operation of its program counter. -/
inductive CoreWait where
  | none
  | op                        -- a wait, send, read or synchronisation whose condition does not hold yet
  | frame                     -- in WAITF (R479)
  deriving DecidableEq, Repr

/-- A core's state (R380). -/
structure Core where
  program : SMap Word64 := []
  hasProgram : Bool := false
  status : CoreStatus := .idle
  pc : Nat := 0
  regs : SMap Word64 := []
  regPoison : List Nat := []
  acc : SMap Word := []
  accPoison : List Nat := []
  queues : SMap (List Message) := []
  pops : SMap Nat := []
  credits : SMap Nat := []
  store : List SbEntry := []
  sr : Word := 0
  dmaDone : Word := 0
  events : BitVec 16 := 0
  wait : CoreWait := .none
  /-- Remote loads, granule copies and returning atomics whose data is outstanding, the oldest first (R431). -/
  loads : List LoadOp := []
  /-- The core whose SEND entered each receive queue last without a credit (R568). -/
  lastSender : SMap Nat := []
  /-- Writes and non-returning atomics sent and not yet acknowledged, by space class: local home, link (R644). -/
  unacked : Nat := 0
  unackedLink : Nat := 0
  /-- CREDIT messages sent and not yet acknowledged (R567). -/
  msgUnacked : Nat := 0
  /-- A HALT message is on its way to the core (R341, R347). -/
  haltDue : Bool := false
  deriving DecidableEq, Repr

/-- What a queued cluster DMA transfer does (R373, R447, R470, R471). -/
structure Transfer where
  id : Nat
  core : Nat
  opc : Nat
  a : Word64
  b : Word64
  c : Word64
  d : Word64
  mod : BitVec 8
  imm : BitVec 28
  running : Bool := false
  /-- Its link-window requests have been handed to the port, and how many are unanswered. -/
  sent : Bool := false
  unanswered : Nat := 0
  /-- What link-window reads have returned, by device address (offset in the transfer). -/
  got : PMem := {}
  /-- Its requests that refresh-only or feedback holds have been counted (R722). -/
  held : Bool := false
  /-- The 8-byte words of cluster memory that it has written already, and those that it has read already with what it read
  (R432). -/
  written : List Nat := []
  taken : List Nat := []
  buffer : PMem := {}
  deriving DecidableEq, Repr

/-- A read-only cache line (R369): device line address, its bytes and the poison of its 16 words. -/
structure RoLine where
  line : Nat
  bytes : Mem
  poison : List Nat
  deriving DecidableEq, Repr

/-- A cluster's memory, read-only cache and DMA queue (R364 to R375). -/
structure Cluster where
  mem : PMem := {}
  ro : List RoLine := []
  dma : List Transfer := []
  deriving DecidableEq, Repr

/-! ### Regions (07, 10) -/

/-- Why a region reset runs (R307 ABORT_CAUSE). -/
inductive ResetWhy where
  | command | flr | fault | halt
  deriving DecidableEq, Repr

/-- A region reset in progress (R347). -/
structure ResetRun where
  why : ResetWhy
  toFree : Bool
  start : Nat
  drainEnd : Option Nat := none
  deriving DecidableEq, Repr

/-- The launch in progress in a region. -/
structure Launch where
  ring : Nat
  index : Word
  frames : Nat
  watchdogUs : Nat
  args : List Word
  start : Nat
  /-- The launch check of the rule books is still due (R682). -/
  checking : Bool := false
  /-- The launch has been sent to the cores. -/
  sent : Bool := false
  /-- ENTRIES of each declaration, kept for the launch (R685). -/
  entries : List Nat := []
  poison : Bool := false
  framesDone : Nat := 0
  inFrame : Bool := false
  /-- The duty wait after the last frame (R131): its slots, and the device time at which that frame ended. -/
  pause : Nat := 0
  frameEnd : Nat := 0
  deriving DecidableEq, Repr

/-- The region controller's state beside the region's registers. -/
structure Region where
  image : Option Image := none
  launch : Option Launch := none
  /-- A fault stop runs (R341): DRAINING of a fault, not of a reset. -/
  faultStop : Bool := false
  clockLost : Bool := false
  reset : Option ResetRun := none
  /-- The reset that the fault stop will run into (R349). -/
  pendingReset : Option ResetRun := none
  /-- The reset is done and the release's clearing remains (R353). -/
  clearing : Bool := false
  /-- Tiles whose image content is lost and must be rebuilt before a launch (R155). -/
  needRebuild : Bool := false
  /-- Tiles and cores whose fence takes effect at the end of the frame in progress (R518). -/
  pendingFences : List (UnitKind × Nat) := []
  isolated : List Nat := []
  /-- The tiles of the rectangle that were not live when the routes in force were computed (R530, R536). -/
  dead : List Nat := []
  /-- Mean power history in µJ per tick, newest first, at most 4 (R130). -/
  powerHist : List Nat := []
  /-- Fault reports on their way to the region controller (R398, R550). -/
  reports : List FaultReport := []
  /-- Routes that pass a relay: source tile, destination tile, relay (R531). -/
  relays : List (Nat × Nat × Nat) := []
  /-- The ring of the faulting LAUNCH and the order of its completion, for R346. -/
  faultRing : Option Nat := none
  /-- Activity counters by event kind, since the region left FREE (R833), and as they stood when energy was last
  attributed (R134). -/
  activity : SMap Nat := []
  activityThen : SMap Nat := []
  /-- The region's charge over the last attributed tick, µJ (R826). -/
  charge : Nat := 0
  deriving DecidableEq, Repr

/-! ### Packets (11, 14, 17) -/

/-- A requester or server of the dynamic plane and the links (R525, R613). -/
inductive Agent where
  | core (g : Nat)
  | dma (cluster slot : Nat)
  | slice (s : Nat)
  | ring (vf ring : Nat)
  | port (p : Nat)
  deriving DecidableEq, Repr

/-- Where a packet stands: at its source, not yet in the plane; in the routers' buffers; in the bounce buffer of its relay
(R531, R532); at the unit that serves it, which has accepted it and holds it (R590). -/
inductive Place where
  | source | plane | bounce | unit
  deriving DecidableEq, Repr

/-- A packet of a dynamic plane (R525). -/
structure Packet where
  id : Nat
  kind : PacketKind
  region : Nat
  src : Agent
  dst : Agent
  /-- The identifier of the request that a response answers. -/
  tag : Nat := 0
  addr : Nat := 0
  size : Nat := 0
  /-- Data by offset from `addr`, and the offsets / 8 of its poisoned words. -/
  bytes : Mem := []
  poison : List Nat := []
  /-- ATOMIC: AOP, AFMT, operand, compare value, whether it returns the old value, and their poison (R468, R665). -/
  op : Nat := 0
  fmt : Nat := 0
  operand : Nat := 0
  compare : Nat := 0
  ret : Bool := false
  bad : Bool := false
  /-- MESSAGE: the channel's place in the image, and the source key (R571). -/
  chan : Nat := 0
  key : Nat := 0
  /-- ERROR: the refusal code. -/
  code : Nat := 0
  /-- A line fetch of a proxy (R616) or a returned line (R622). -/
  line : Bool := false
  /-- The cores whose writes a returned line carries (R617), or whose contributions a merged atomic holds (R378). -/
  writers : List Nat := []
  /-- ATOMIC: its scope (R466, R650). -/
  scope : Nat := 0
  /-- Where it stands; the tiles of the leg of its route that it takes, and how many of its flits have entered the plane on
  that leg (R527); the relay tile of its route, and whether it has passed it (R531). -/
  place : Place := .source
  path : List Nat := []
  entered : Nat := 0
  relay : Option Nat := none
  bounced : Bool := false
  /-- A READ that needed a fetch from its channel (R630). -/
  fetched : Bool := false
  /-- When it reached its column stop, in the order of identifiers, and whether it has the age term (R703, R717). -/
  since : Nat := 0
  promoted : Bool := false
  deriving DecidableEq, Repr

/-- An output of a router that a packet holds on one virtual channel, from the grant of its header until its tail has passed
(R527): the packet, the input its flits come from, and how many of them have still to pass. -/
structure Grant where
  id : Nat
  input : Nat
  left : Nat
  deriving DecidableEq, Repr

/-- The routers of the dynamic planes (R524 to R528, R532): the input buffers, each the packets of its flits, the oldest
first, by tile, input and virtual channel; the outputs that packets hold, and the input each output granted last, by tile,
output and virtual channel; the relay credits that sources do not hold: source tile, relay, virtual channel. -/
structure Mesh where
  bufs : SMap (List Nat) := []
  outs : SMap Grant := []
  turns : SMap Nat := []
  credits : List (Nat × Nat × Nat) := []
  deriving DecidableEq, Repr

/-- A message of the control network (R550): a NOTIFY, from core to core, or a returned credit, of a channel (from a tile)
or of a relay. -/
inductive CtlMsg where
  | notify (src dst : Nat) (event : Nat)
  | chanCredit (src : Nat) (dst : Agent) (chan : Nat)
  | relayCredit (region src relay vc : Nat)
  deriving DecidableEq, Repr

/-! ### Links (17) -/

/-- A DATA flit in the replay buffer (R743): its SEQ and the packet it carries. -/
structure TxFlit where
  seq : Nat
  pkt : LinkPacket
  deriving DecidableEq, Repr

/-- A Hymiyn port beside its registers. -/
structure Port where
  /-- Requests and responses waiting to be sent, the oldest first. -/
  outq : List Packet := []
  /-- Requests sent and not answered. -/
  flight : List Packet := []
  replay : List TxFlit := []
  /-- SEQ of the next DATA flit, and of the last DATA flit received in order (R740, R744). -/
  nextSeq : Nat := 0
  lastRx : Nat := 4095
  /-- NAK is set in the flits it sends (R743). -/
  nak : Bool := false
  /-- Replays of the oldest unacknowledged flit (R737). -/
  stuck : Nat := 0
  /-- Packets delivered in order and not yet served; those of them that refresh-only or feedback holds and that have been
  counted (R722). -/
  ingress : List LinkPacket := []
  held : List LinkPacket := []
  /-- When each packet of `ingress` came, in the order of identifiers; those times whose packets have the age term (R703, R717). -/
  since : List Nat := []
  aged : List Nat := []
  /-- Cumulative link credits seen from the partner and returned to it, REQ and RSP (R740, R746). -/
  seenReq : Nat := 0
  seenRsp : Nat := 0
  retReq : Nat := 0
  retRsp : Nat := 0
  /-- Epochs of the IN channels; credit counts and epochs of the OUT channels, by LINK_CHANNEL (R764, R765). -/
  inEpoch : SMap Nat := []
  outCount : SMap Nat := []
  outEpoch : SMap Nat := []
  /-- Lanes marked bad until the next full training (R738). -/
  badLanes : Nat := 0
  /-- A session has begun and its replay state is still held (R750); with which partner, by its serial number and port. -/
  session : Option (Nat × Nat) := none
  /-- ENABLE has been cleared and the replay buffer empties (R760). -/
  disabling : Bool := false
  /-- An attempt at full training runs (R734, R735). -/
  attempt : Bool := false
  deriving DecidableEq, Repr

/-! ### What leaves the module -/

/-- A message the module sends to the outside. -/
inductive Out where
  | msix (fn : Nat) (vector : Nat) (addr : Word64) (data : Word)
  /-- A write into host memory, with EP when a word of it is poisoned (R236). -/
  | hostWrite (fn : Nat) (addr : Nat) (bytes : List Byte) (ep : Bool)
  /-- A read request to host memory, with the routing ID of function `fn` (R230). -/
  | hostRead (fn : Nat) (addr len : Nat)
  | unsupported (fn : Nat)
  /-- A configuration request is answered with Request Retry Status (R185). -/
  | requestRetry
  /-- CLKREQ_N is driven low, or released (R239). -/
  | clkreq (low : Bool)
  /-- The answer to a request of an MCTP endpoint: its completion code and what it returns (R823 to R832). -/
  | mctp (e : Endpoint) (code : Nat) (answer : List Nat)
  /-- A PlatformEventMessage (R829): its number, the sensor's key and its state. -/
  | event (e : Endpoint) (receiver : BitVec 8) (id key state : Nat)
  | link (port : Nat) (p : LinkPacket)
  deriving DecidableEq, Repr

/-- The fused values of the module: the RC trim code (R62), the minimum security version (R189) and the repair map: the
spare rows and columns by array (R193). DESIGN CHOICE (log 5): the spec gives no fused value; the numbers are 0 at reset
and the repair map is empty. -/
structure Fuses where
  trim : BitVec 10 := 0
  minSvn : BitVec 16 := 0
  repair : SMap Nat := []
  deriving DecidableEq, Repr

/-! ### Memory slices (13, 15) and channel controllers (16) -/

/-- How a slice holds an external line: as its home, as a Meridian copy, or borrowed (R606, R616, R617). -/
inductive LineKind where
  | home | copy | borrowed
  deriving DecidableEq, Repr

/-- A line of external space in a slice's cache ways (R607 to R609): its index (offset / 128), the bytes it holds, the
poison of its 16 words, the sectors present in full from a fetch, the bytes written and not yet in HBM, and for a
borrowed line the cores that wrote it (R617). -/
structure CLine where
  line : Nat
  kind : LineKind := .home
  data : Mem := []
  poison : List Nat := []
  present : Nat := 0
  dirty : List Nat := []
  writers : List Nat := []
  deriving DecidableEq, Repr

/-- A line tracker entry of a home slice (R618 to R624). -/
structure Tracker where
  line : Nat
  copies : List Nat := []
  borrower : Option Nat := none
  /-- The rotation pointer, a tile ID (R622). -/
  pointer : Nat := 0
  reserved : Option Nat := none
  /-- RETRYs answered, by proxy slice (R624). -/
  retries : SMap Nat := []
  recalling : Bool := false
  deriving DecidableEq, Repr

/-- A contribution in a slice's combining input (R570 to R573): its elements, the poison of its data word and of its
tag word, its source key and its channel's place in the image. -/
structure Contribution where
  q : Nat
  key : Nat
  tag : Nat
  e0 : Word
  e1 : Word
  bad : Bool
  badTag : Bool
  chan : Nat
  deriving DecidableEq, Repr

/-- A tag entry of a combining queue (R574 to R578): its contributions (source key, elements) in order of arrival, and
its deliveries that have been sent (a mask by delivery index), and whether delivery has begun (R577). -/
structure CombEntry where
  tag : Nat
  parts : List (Nat × Word × Word) := []
  poisoned : Bool := false
  sent : Nat := 0
  begun : Bool := false
  deriving DecidableEq, Repr

/-- A memory slice. -/
structure Slice where
  sram : PMem := {}
  /-- The lines of COMPRESSED windows, by window * 2^46 + offset in the share. -/
  comp : PMem := {}
  /-- Sectors each compressed line takes, by window * 2^40 + line; a line never written takes 0 (R895). -/
  sectors : SMap Nat := []
  /-- Overflow frames in use, by window (R601). -/
  ovf : SMap Nat := []
  /-- Cached lines, the most recently used first (R607). -/
  lines : List CLine := []
  /-- Tracker entries, the oldest first (R618, R619). -/
  tracker : List Tracker := []
  combIn : List Contribution := []
  combs : SMap (List CombEntry) := []
  /-- The lines that the atomic unit's staging buffer holds or awaits, with no cache ways (R612). -/
  staging : List Nat := []
  /-- Credits of the CREDIT delivery channels, by place in the image (R563), and CREDIT messages not acknowledged. -/
  credits : SMap Nat := []
  msgUnacked : Nat := 0
  /-- Device time at which the scrubber's present SRAM and HBM sweeps began (R792). -/
  sweepSram : Nat := 0
  sweepHbm : Nat := 0
  deriving DecidableEq, Repr

/-- A request of a channel (R693): the sectors of one line to read, or the bytes to write back. -/
structure HReq where
  id : Nat
  chan : Nat
  cls : Nat
  region : Nat
  write : Bool
  /-- The line's index in the region's external space, and its address in the channel (R698). -/
  line : Nat
  addr : Nat
  /-- The sectors, a 4-bit mask. -/
  sectors : Nat
  data : Mem := []
  poison : List Nat := []
  arrived : Nat := 0
  /-- In the controller queue rather than the slice's class queues (R710). -/
  injected : Bool := false
  /-- Granted; its data is on the way to the slice. -/
  granted : Bool := false
  heldCounted : Bool := false
  promoted : Bool := false
  deriving DecidableEq, Repr

/-- A channel's regulation (R706, R715, R716), by class. -/
structure Chan where
  /-- Bytes granted in the present window. -/
  used : SMap Nat := []
  /-- L in ns. -/
  lat : SMap Nat := []
  boosted : List Nat := []
  /-- Sum and number of the latencies completed in the window. -/
  latSum : SMap Nat := []
  latCount : SMap Nat := []
  deriving DecidableEq, Repr

/-! ### Vesper, flash and the Almanac (19, 20) -/

/-- A record of the permanent table (R845): a unit that is not in service, a remap entry, a slice marked TABLE_FULL. Among
pending changes (R841) a unit of state 0 has returned to service. -/
inductive PermRec where
  | unit (key state cause seq : Nat)
  | remap (slice entry sector : Nat)
  | full (slice : Nat)
  deriving DecidableEq, Repr

/-- An Almanac entry (R840): the fields of its header and what its payload tells. `copied` marks a KEPT entry that was
copied from an erased block (R843). -/
structure AlmEntry where
  type : Nat
  kept : Bool := false
  seq : Nat := 0
  tick : Nat := 0
  time : Nat := 0
  boot : Nat := 0
  body : List Nat := []
  changes : List PermRec := []
  copied : Bool := false
  deriving DecidableEq, Repr

/-- The module flash (R839), its private area aside: the control area (boot selector: true names slot B; port
configuration as SET_PORT_CONFIG writes it; the board-test flag), the two firmware slots, the permanent table and the
Almanac log by blocks, the oldest first. -/
structure Flash where
  selector : Bool := false
  slotA : FwImage := {}
  slotB : FwImage := {}
  portConfig : Nat := 0
  bscan : Bool := false
  perm : List PermRec := []
  generation : Nat := 0
  log : List (List AlmEntry) := []
  /-- Entries cut short by a LOSS and not yet counted by a boot (R121, R847). -/
  torn : Nat := 0
  boots : Nat := 0
  /-- Sectors of slice SRAM with a UE in the Almanac's history (R800): slice and sector. -/
  ueSectors : List (Nat × Nat) := []
  deriving DecidableEq, Repr

/-- Vesper's record of a unit (R816), with the change that is pending: the state ordered, and the tick (R817). -/
structure UnitRec where
  state : Nat := 0
  cause : Nat := 0
  tick : Nat := 0
  seq : Nat := 0
  order : Option (Nat × Nat) := none
  deriving DecidableEq, Repr

/-- What counts toward automatic fencing (R859). -/
inductive TriggerKind where
  | coreUe | tileUe | bushel | channelUe | tableFull
  deriving DecidableEq, Repr

structure Trigger where
  kind : TriggerKind
  key : Nat
  /-- The sector of a channel's UE, for counting distinct ones. -/
  sector : Nat := 0
  tick : Nat
  deriving DecidableEq, Repr

/-- A request of an MCTP endpoint that is not yet answered (R824): the command, and whether its value passed the check on
receipt (R827). -/
structure MctpReq where
  endpoint : Endpoint
  request : Instr
  valid : Bool := true
  deriving DecidableEq, Repr

/-- A PlatformEventMessage not yet acknowledged (R829). -/
structure PldmEvent where
  id : Nat
  key : Nat
  state : Nat
  tries : Nat := 0
  deriving DecidableEq, Repr

/-- A capture in progress (R870): its ID, the region named, QUEUES, the next part and the tick of its acceptance. -/
structure Capture where
  id : Nat
  region : Option Nat := none
  queues : Bool := false
  part : Nat := 0
  start : Nat := 0
  /-- Entries written so far. -/
  entries : Nat := 0
  deriving DecidableEq, Repr

/-- Vesper's own memory (R809), beside the VSP and FLT registers. -/
structure Vesper where
  /-- The tick processed last; none before the first. -/
  lastTick : Option Nat := none
  records : SMap UnitRec := []
  queue : List AlmEntry := []
  nextSeq : Nat := 1
  /-- Entries dropped and not yet told in a LOG_LOSS entry (R842). -/
  dropped : Nat := 0
  /-- A new copy of the permanent table is queued (R845). -/
  permDue : Bool := false
  /-- The pending changes of the staged last-gasp record (R814, R841). -/
  staged : List PermRec := []
  /-- Supply and integrity log entries read so far, and entries appended while open (R127, R805). -/
  supplySeen : Nat := 0
  supplyOpen : List Nat := []
  integSeen : Nat := 0
  /-- Bushel events and tables found full since the last tick. -/
  bushels : List Nat := []
  /-- Slices marked TABLE_FULL (R802). -/
  full : List Nat := []
  triggers : List Trigger := []
  /-- Triggers since the last tick. -/
  fresh : List Trigger := []
  due : List (Nat × TriggerKind) := []
  /-- Fence (true) and release orders that wait for the reconciliation step (R854). -/
  orders : List (Nat × Bool) := []
  /-- Module energy when energy was last attributed (R134, R812). -/
  meterThen : Nat := 0
  /-- Module energy of the last 4 ticks, the newest first (R130). -/
  powerHist : List Nat := []
  /-- Consecutive ticks of R133. -/
  unreachable : Nat := 0
  /-- Telemetry records of the tick, for a mailbox request that reads one (R814, R837). -/
  mailRecord : List Byte := []
  /-- A halt in progress or complete, and DISCREPANCY, as Vesper saw them at the last processed tick (FHALT entries). -/
  haltSeen : Bool := false
  discrepancySeen : Bool := false
  /-- The mailbox step of the tick has been reached with a request PENDING (R814, R835). -/
  mailDue : Bool := false
  restart : Option RestartCause := none
  /-- The restart that an activation has asked for (R832). -/
  restartDue : Bool := false
  /-- Why Vesper last restarted, for the BOOT entry: 0 none, 1 activation, 2 watchdog, 3 SRAM. -/
  restartCode : Nat := 0
  updater : Option Endpoint := none
  /-- The slot that a verified image waits in (R831, R832): true is slot B. -/
  verified : Option Bool := none
  requests : List MctpReq := []
  eidSmbus : BitVec 8 := 0
  eidVdm : BitVec 8 := 0
  tidSmbus : BitVec 8 := 0
  tidVdm : BitVec 8 := 0
  receiver : Option (Endpoint × BitVec 8) := none
  events : List PldmEvent := []
  nextEvent : Nat := 0
  /-- Sensor readings latched at the last processed tick, by key (R826). -/
  readings : SMap Nat := []
  capture : Option Capture := none
  /-- Captures that AUTO_CAPTURE asks for (R874), and the tick of the last one taken. -/
  captureWanted : List (Option Nat) := []
  lastAuto : Option Nat := none
  /-- Paths of the touches of the present tick (R875). -/
  touches : List Nat := []
  deriving DecidableEq, Repr

/-! ### The block -/

/-- The state of the module. -/
structure State where
  /-- The commands that wait, the oldest first. -/
  pending : List Instr := []
  /-- The device timestamp (R82), 48 bits. -/
  time : Nat := 0
  /-- How many free values have been drawn: the model's own counter (log 2). -/
  draws : Nat := 0
  /-- The registers' words, by offset; an offset not listed holds its cold value. -/
  regs : SMap Nat := []
  fuses : Fuses := {}
  /-- MODULE_POS as AON sampled it when it started (R820, R821); 0 before (DESIGN CHOICE, log 9). -/
  modulePos : BitVec 3 := 0
  flash : Flash := {}
  supply : Supply := {}
  fhalt : Fhalt := {}
  power : Power := {}
  xings : Xings := {}
  tap : Tap := {}
  vesper : Vesper := {}
  /-- Causes of fences that hardware made, by unit (R838). -/
  hwCause : SMap Nat := []
  /-- Tiles whose memories are being overwritten before they return to service (R863). -/
  clearing : List Nat := []
  pfConfig : PfConfig := {}
  /-- PCIe functions: 0 the PF, n + 1 VF n. -/
  fns : SMap FnState := []
  vfs : SMap VfRings := []
  regions : SMap Region := []
  clusters : SMap Cluster := []
  cores : SMap Core := []
  slices : SMap Slice := []
  /-- HBM by channel * 2^32 + channel address, with poison by 8-byte word. -/
  hbm : PMem := {}
  /-- The channels' requests, in order of arrival. -/
  hreqs : List HReq := []
  chans : SMap Chan := []
  /-- Bytes counted in the present window at Edge Ring stops and the ring engine (R707), by point and class. -/
  stops : SMap Nat := []
  net : List Packet := []
  mesh : Mesh := {}
  /-- Requests that wait at their column stops for a turn of the outbound Edge Ring, toward their ports (R544, R547). -/
  edge : List Packet := []
  /-- The column that used the last turn of each Edge Ring, by 2 * ring + (1 outbound) (R330). -/
  ringTurn : SMap Nat := []
  /-- The VF that the ring engine served last (R704). -/
  engineVf : Nat := 31
  ports : SMap Port := []
  nextId : Nat := 0
  ctl : SMap CtlMsg := []
  /-- Units, by kind and index, whose first CE of the present tick is logged (R804). -/
  ceLogged : List (Nat × Nat) := []
  out : List Out := []
  deriving DecidableEq, Repr

/-- How the block stops with a fault: it never does. The spec gives every command of the table an effect, so this
inductive has the one constructor the interface asks for and no meaning raises it. -/
inductive Fault where
  | none
  deriving DecidableEq, Repr

/-- Why a command has no meaning. -/
inductive Refusal where
  /-- Raised by an arm of `exec` whose command has no meaning yet; safe: the machine stops. -/
  | notModelled (mnemonic : String)
  deriving DecidableEq, Repr

/-- The module right after a cold reset: every register at its cold value, nothing powered but AON (R181, R182). -/
def State.reset : State := {}

end Sys2Proof.Machine
end

