-- ==== Sys2Proof/Machine/Ops.lean ====
section
/-! DEFINITION. The operations every command is written with: register fields, free values, messages that leave the
module, interrupts and MSI-X. -/

namespace Sys2Proof.Machine

/-! ### Bits and quotients -/

/-- Bits `lo + width - 1 : lo` of a word. -/
def bitsOf (w lo width : Nat) : Nat := w / 2 ^ lo % 2 ^ width

/-- A word with bits `lo + width - 1 : lo` replaced by `v`. -/
def putBits (w lo width v : Nat) : Nat :=
  w % 2 ^ lo + (v % 2 ^ width) * 2 ^ lo + w / 2 ^ (lo + width) * 2 ^ (lo + width)

/-- 1 for true, 0 for false. -/
def bit (b : Bool) : Nat := if b then 1 else 0

/-- A quotient rounded down. -/
def floorDiv (n d : Nat) : Nat := n / d

/-- A quotient rounded up. -/
def ceilDiv (n d : Nat) : Nat := (n + d - 1) / d

/-- A quotient whose rounding the spec does not state (log 3): down or up, as an open constant has it. -/
def roundOpen (n d : Nat) : Nat :=
  if n % d = 0 then n / d else if Config.roundsUp n d then n / d + 1 else n / d

/-! ### Register fields -/

/-- The word of the register at an offset whose cold value is `cold`. -/
def State.word (s : State) (off cold : Nat) : Nat := smGet s.regs cold off

/-- The value of a field. -/
def State.fld (s : State) (f : Fld) : Nat := bitsOf (s.word f.off f.cold) f.lo f.width

/-- The state with the word of a register replaced. -/
def State.setWord (s : State) (off w : Nat) : State := { s with regs := smPut s.regs off (w % 2 ^ 32) }

/-- The state with a field replaced; the register's other bits stay. -/
def State.setFld (s : State) (f : Fld) (v : Nat) : State :=
  s.setWord f.off (putBits (s.word f.off f.cold) f.lo f.width v)

/-- A field is 1 (or, wider than a bit, not 0). -/
def State.on (s : State) (f : Fld) : Bool := s.fld f != 0

/-- The state with a field of one bit set. -/
def State.raise (s : State) (f : Fld) : State := s.setFld f 1

/-- The state with a field set to 0. -/
def State.lower (s : State) (f : Fld) : State := s.setFld f 0

/-- A counter that saturates at the field's largest value. -/
def State.countSat (s : State) (f : Fld) (k : Nat := 1) : State :=
  s.setFld f (min (s.fld f + k) (2 ^ f.width - 1))

/-- A counter modulo the field's range. -/
def State.countMod (s : State) (f : Fld) (k : Nat := 1) : State := s.setFld f (s.fld f + k)

/-- Bit `i` of a field set or cleared. -/
def State.setBit (s : State) (f : Fld) (i : Nat) (b : Bool) : State :=
  s.setFld f (putBits (s.fld f) i 1 (bit b))

/-- Bit `i` of a field. -/
def State.bitAt (s : State) (f : Fld) (i : Nat) : Bool := (s.fld f).testBit i

/-! ### Free values and messages -/

/-- A fresh free value, and the state that has drawn it. -/
def State.draw (s : State) : Word64 × State := (Config.freeValue s.draws, { s with draws := s.draws + 1 })

/-- A message leaves the module. -/
def State.emit (s : State) (o : Out) : State := { s with out := s.out ++ [o] }

/-- A fresh identifier for a packet or a queue entry. -/
def State.newId (s : State) : Nat × State := (s.nextId, { s with nextId := s.nextId + 1 })

/-- As many new identifiers. -/
def State.newIds (s : State) (k : Nat) : List Nat × State := ((List.range k).map (s.nextId + ·), { s with nextId := s.nextId + k })

/-! ### Components by index -/

def State.fn (s : State) (i : Nat) : FnState := smGet s.fns {} i
def State.modFn (s : State) (i : Nat) (f : FnState → FnState) : State := { s with fns := smMod s.fns {} i f }
def State.vf (s : State) (n : Nat) : VfRings := smGet s.vfs {} n
def State.modVf (s : State) (n : Nat) (f : VfRings → VfRings) : State := { s with vfs := smMod s.vfs {} n f }
def State.rgn (s : State) (n : Nat) : Region := smGet s.regions {} n
def State.modRgn (s : State) (n : Nat) (f : Region → Region) : State := { s with regions := smMod s.regions {} n f }
def State.core (s : State) (g : Nat) : Core := smGet s.cores {} g
def State.modCore (s : State) (g : Nat) (f : Core → Core) : State := { s with cores := smMod s.cores {} g f }
def State.cluster (s : State) (c : Nat) : Cluster := smGet s.clusters {} c
def State.modCluster (s : State) (c : Nat) (f : Cluster → Cluster) : State :=
  { s with clusters := smMod s.clusters {} c f }

def State.port (s : State) (p : Nat) : Port := smGet s.ports {} p
def State.modPort (s : State) (p : Nat) (f : Port → Port) : State := { s with ports := smMod s.ports {} p f }

/-- The state after `f` has been applied for each element in turn. -/
def overList {α σ : Type} (l : List α) (s : σ) (f : σ → α → σ) : σ := l.foldl f s

/-- The state with `f` applied when `b` holds. -/
def State.when (s : State) (b : Bool) (f : State → State) : State := if b then f s else s

/-- Region n's activity counter of event kind k (R833, the fields from byte 40 on) counts `c` more. -/
def State.act (s : State) (n k c : Nat) : State :=
  s.modRgn n fun r => { r with activity := smPut r.activity k (smGet r.activity 0 k + c) }

/-! ### PCIe functions -/

/-- The index of a function in `State.fns`. -/
def fnIndex : Fn → Nat
  | .pf => 0
  | .vf n => n.val + 1

/-- VF n exists (R210): VF Enable is 1 and n is below NumVFs. -/
def State.vfExists (s : State) (n : Nat) : Bool := s.on F.HOST_STATUS_VF_ENABLE && n < s.fld F.HOST_STATUS_NUM_VFS

/-- Bus Master Enable of a function: the PF's own bit, VF n's bit of HOST_VF_BME (R232). -/
def State.busMaster (s : State) (i : Nat) : Bool :=
  if i = 0 then (s.fn 0).busMaster else s.bitAt F.HOST_VF_BME_BME (i - 1)

/-- A request with function i's routing ID may be issued (R213, R232, R233). -/
def State.mayRequest (s : State) (i : Nat) : Bool := s.busMaster i && !s.on F.HOST_STATUS_PF_D3HOT

/-- A range cut at the multiples of `m`: addresses and lengths. -/
def cutAt : Nat → Nat → Nat → Nat → List (Nat × Nat)
  | 0, _, _, _ => []
  | fuel + 1, m, a, len =>
    if len = 0 then []
    else
      let k := min len (m - a % m)
      (a, k) :: cutAt fuel m (a + k) (len - k)

/-- Max_Payload_Size and Max_Read_Request_Size in bytes, at most what the module supports (R205). -/
def State.maxPayload (s : State) : Nat := 128 * 2 ^ min s.pfConfig.dev.maxPayload.toNat 2
def State.maxRead (s : State) : Nat := 128 * 2 ^ min s.pfConfig.dev.maxRead.toNat 5

/-- The write TLPs of a write to host memory by function i (R205, R236): each of at most Max_Payload_Size, cut at its
multiples; EP is 1 where one carries a byte of an 8-byte word of `bad`. -/
def State.writeTlps (s : State) (i addr : Nat) (bytes : List Byte) (bad : List Nat) : List Out :=
  (cutAt (bytes.length + 1) s.maxPayload addr bytes.length).map fun p =>
    .hostWrite i p.1 ((bytes.drop (p.1 - addr)).take p.2) (bad.any fun w => 8 * w < p.1 + p.2 && p.1 < 8 * w + 8)

/-- The read requests of a read of host memory by function i (R205): each of at most Max_Read_Request_Size. -/
def State.readTlps (s : State) (i addr len : Nat) : List Out :=
  (cutAt (len + 1) s.maxRead addr len).map fun p => .hostRead i p.1 p.2

/-- A write to host memory that carries function i's routing ID (R230, R893); `bad` lists its poisoned 8-byte words. -/
def State.hostWriteOut (s : State) (i addr : Nat) (bytes : List Byte) (bad : List Nat := []) : State :=
  { s with out := s.out ++ s.writeTlps i addr bytes bad }

/-- A read of host memory that carries function i's routing ID (R230). -/
def State.hostReadOut (s : State) (i addr len : Nat) : State := { s with out := s.out ++ s.readTlps i addr len }

/-- The module drives CLKREQ_N low or releases it (R239). -/
def State.driveClkreq (s : State) (low : Bool) : State :=
  if s.power.clkreq = low then s else { s with power := { s.power with clkreq := low }, out := s.out ++ [.clkreq low] }

/-! ### MSI-X (R222 to R225) -/

/-- The number of vectors of a function (R221, R222). -/
def vectorsOf (i : Nat) : Nat := if i = 0 then 8 else 4

/-- A message of the vector is held (R225). -/
def State.msixHeld (s : State) (i v : Nat) : Bool :=
  let f := s.fn i
  (smGet f.table {} v).masked || f.msixMask || !f.msixEnable || !s.mayRequest i

/-- The message of a vector's table entry. -/
def msixMessage (i v : Nat) (e : MsixEntry) : Out := .msix i v (e.addrHi ++ e.addrLo) e.data

/-- A message of vector v of function i falls due: it is sent, or held with the pending bit set (R225). A VF that does
not exist sends nothing. -/
def State.sendMsix (s : State) (i v : Nat) : State :=
  if i ≠ 0 ∧ ¬ s.vfExists (i - 1) then s
  else if s.msixHeld i v then s.modFn i fun f => { f with pendingBits := putBits f.pendingBits v 1 1 }
  else s.emit (msixMessage i v (smGet (s.fn i).table {} v))

/-- A held message is sent once nothing holds it any longer (R225). -/
def State.sendHeld (s : State) (i v : Nat) : State :=
  if (s.fn i).pendingBits.testBit v && !s.msixHeld i v then
    (s.modFn i fun f => { f with pendingBits := putBits f.pendingBits v 1 0 }).emit
      (msixMessage i v (smGet (s.fn i).table {} v))
  else s

/-- Vector v of VF n (R222). -/
def State.sendVf (s : State) (n v : Nat) : State := s.sendMsix (n + 1) v

/-! ### PF interrupts (R221, R223, R224) -/

/-- Whether a cause of PF vector v holds (the table of R221). -/
def State.pfCause (s : State) (v : Nat) : Bool :=
  match v with
  | 0 => s.word R.HOST_ERR 0 != 0 || s.word R.CLK_ERR 0 != 0 || s.word R.RST_ERR 0 != 0 || s.word R.PWR_ERR 0 != 0
  | 1 => s.on F.INT_PF_EVENT_SUPPLY
  | 2 => s.on F.PWR_FHALT_STATUS_HALTING || s.on F.PWR_FHALT_STATUS_HALTED || s.on F.PWR_FHALT_STATUS_DISCREPANCY
  | 3 => s.on F.INT_PF_EVENT_REGION
  | 4 => s.word R.INT_INTEG_STATUS 0 != 0
  | 5 => s.on F.FLT_STATUS_CHANGED
  | 6 => s.on F.VSP_MBOX_STATUS_DONE
  | 7 => s.on F.INT_PF_EVENT_LINK
  | _ => false

/-- INT_PF_STATUS bit v brought into line with its causes; a rise with the enable bit set sends PF vector v. -/
def State.refreshVector (s : State) (v : Nat) : State :=
  let now := s.pfCause v
  let was := s.bitAt F.INT_PF_STATUS_STATUS v
  if now = was then s
  else
    let t := s.setBit F.INT_PF_STATUS_STATUS v now
    if now && s.bitAt F.INT_PF_ENABLE_ENABLE v then t.sendMsix 0 v else t

/-- INT_PF_STATUS brought into line with the causes of every vector. -/
def State.refreshPf (s : State) : State := overList [0, 1, 2, 3, 4, 5, 6, 7] s State.refreshVector

/-- The outcome of a command: its effect, then the PF interrupts that follow from it. -/
def done (s : State) : Host.Outcome State Fault Refusal := .next s.refreshPf

/-! ### Loss of the data path -/

/-- Everything that the rings, the regions, the planes, the clusters, the slices, the channels and the ports hold is gone
(R174, R201). HBM is not part of it. -/
def State.dropPath (s : State) : State :=
  { s with
    vfs := [], regions := [], clusters := [], cores := [], slices := [], hreqs := [], chans := [], stops := []
    net := [], mesh := {}, edge := [], ringTurn := [], engineVf := 31, ports := [], ctl := [] }

/-! ### Device time -/

/-- The device timestamp counts modulo 2^48 (R82). -/
def State.at (s : State) (t : Nat) : State := { s with time := t % 2 ^ 48 }

/-- The tick number: timestamp bits 44:13 (R83, CLK_TICK). -/
def State.tick (s : State) : Nat := s.time / 8192 % 2 ^ 32

end Sys2Proof.Machine
end

