-- ==== Sys2Proof/Machine/Geometry.lean ====
section
/-! DEFINITION. The die map (02_die_map_and_clocks.md, R50 to R57) and who owns a unit: the rectangle of a region
(07_regions_and_crash_contract.md, R325 to R329). -/

namespace Sys2Proof.Machine

/-- A tile ID is 16 * y + x. -/
def tileX (t : Nat) : Nat := t % 16
def tileY (t : Nat) : Nat := t / 16

/-- The tile of a slice, of a cluster and of a core (R51 to R53). -/
def tileOfSlice (i : Nat) : Nat := if i < 32 then i else i + 0x80
def tileOfCluster (c : Nat) : Nat := c + 0x20
def clusterOfCore (g : Nat) : Nat := g / 8
def tileOfCore (g : Nat) : Nat := tileOfCluster (g / 8)

/-- A tile of rows 0, 1, 10 and 11 is a slice tile (R50). -/
def isSliceTile (t : Nat) : Bool := t < 0x20 || 0xA0 ≤ t

/-- The slice of a slice tile, the cluster of a cluster tile (R51, R52). -/
def sliceOfTile (t : Nat) : Nat := if t < 0x20 then t else t - 0x80
def clusterOfTile (t : Nat) : Nat := t - 0x20

/-- The stack that serves a slice, and the first of its two channels (R54, R55). -/
def stackOfSlice (i : Nat) : Nat := (i % 16) / 4 + (if i < 32 then 0 else 4)
def channelOfSlice (i : Nat) : Nat := 16 * stackOfSlice i + 2 * ((i % 16) % 4 + 4 * ((i / 16) % 2))

/-- The home slice of a channel (the inverse of R55). -/
def sliceOfChannel (ch : Nat) : Nat :=
  let k := ch / 16
  let j := ch % 16 / 2
  16 * (j / 4 + (if 4 ≤ k then 2 else 0)) + (4 * (k % 4) + j % 4)

/-- The power island of a cluster tile (R57). -/
def islandOfTile (t : Nat) : Nat := if tileY t ≤ 5 then tileX t else tileX t + 16

/-- The cluster tiles of an island (R57). -/
def tilesOfIsland (i : Nat) : List Nat :=
  if i < 16 then [0x20 + i, 0x30 + i, 0x40 + i, 0x50 + i]
  else [0x60 + (i - 16), 0x70 + (i - 16), 0x80 + (i - 16), 0x90 + (i - 16)]

/-- The rows on the cluster side of the mesochronous crossings (R73): the lines y = 1/2, 5/6 and 9/10. -/
def xingRows : List Nat := [2, 6, 9]

/-- The tiles on the cluster side of the crossings of a row. -/
def xingRow (y : Nat) : List Nat := (List.range 16).map (16 * y + ·)

/-- The crossings that power up with the slice tiles, and those of an island's tiles (R72), by their cluster-side tiles. -/
def sliceXings : List Nat := xingRow 2 ++ xingRow 9
def xingsOfIsland (i : Nat) : List Nat := if i < 16 then [0x20 + i, 0x60 + i] else [0x60 + (i - 16), 0x90 + (i - 16)]

/-- The FIFOs of a crossing: one per plane and per direction. -/
def xingKey (tile plane dir : Nat) : Nat := 4 * tile + 2 * plane + dir
def xingKeys (tile : Nat) : List Nat := (List.range 4).map (4 * tile + ·)

/-- The eight cores of a cluster (R53). -/
def coresOfCluster (c : Nat) : List Nat := (List.range 8).map (8 * c + ·)

/-- A tile lies in the West half (x = 0..7) or the East half (R50). -/
def halfOfTile (t : Nat) : Half := if tileX t < 8 then .west else .east

/-- A core, a tile of the die, a port is fenced (R881): a fenced bit reads 1 in FENCED and in STANDBY. -/
def State.coreFenced (s : State) (g : Nat) : Bool := s.bitAt (F.FLT_CORE_FENCED_FENCED (g / 32)) (g % 32)
def State.tileFenced (s : State) (t : Nat) : Bool := s.bitAt (F.FLT_TILE_FENCED_FENCED (t / 32)) (t % 32)
def State.portFenced (s : State) (p : Nat) : Bool := s.bitAt F.FLT_PORT_FENCED p
def State.sliceFenced (s : State) (i : Nat) : Bool := s.tileFenced (tileOfSlice i)

/-- A half's tile clocks are stopped (R88), or the halves are not powered. -/
def State.clockStopped (s : State) (t : Nat) : Bool :=
  !s.power.halves || (match halfOfTile t with | .west => s.power.westStopped | .east => s.power.eastStopped)

/-- A slice serves requests: powered and clocked (R88), neither fenced (R853) nor in retention (R157). -/
def State.sliceServes (s : State) (i : Nat) : Bool :=
  !s.clockStopped (tileOfSlice i) && !s.sliceFenced i && !s.on (F.MSL_STATE_RETENTION i)

/-! ### Mesochronous crossings (R69 to R73) -/

/-- Neither tile of a crossing is powered: one between y = 5 and y = 6 with both islands gated. -/
def State.xingDark (s : State) (t : Nat) : Bool :=
  tileY t == 6 && !s.bitAt F.CLK_ISLAND_POWERED (tileX t) && !s.bitAt F.CLK_ISLAND_POWERED (tileX t + 16)

/-- XING_TRAINED brought into line: the halves are powered, and no crossing with a powered tile has failed retraining. -/
def State.noteXings (s : State) : State :=
  s.setFld F.CLK_STATUS_XING_TRAINED (bit (s.power.halves && s.xings.failed.all fun k => s.xingDark (k / 2)))

/-- The offsets of crossings that have lost power on both sides are gone; the training store keeps them. -/
def State.darkenXings (s : State) : State :=
  ({ s with xings := { s.xings with offset := s.xings.offset.filter fun e => !s.xingDark (e.1 / 4) } } : State).noteXings

/-! ### Agents -/

/-- A packet travels on RSP (R525). -/
def isResponse : PacketKind → Bool
  | .data | .ack | .error => true
  | _ => false

/-- The tile of an agent; a port and the ring engine stand outside the mesh. -/
def agentTile : Agent → Nat
  | .core g => tileOfCore g
  | .dma c _ => tileOfCluster c
  | .slice i => tileOfSlice i
  | .ring _ _ => 0
  | .port _ => 0

/-- The slice tile through which a column reaches a port (R547): row 1 for a south port, row 10 for a north port. -/
def entryTile (port col : Nat) : Nat := 16 * (if port < 2 then 1 else 10) + col

/-- The tile at which a packet leaves the plane. -/
def Packet.dstTile (p : Packet) : Nat :=
  match p.dst with
  | .port q => entryTile q (tileX (agentTile p.src))
  | a => agentTile a

/-! ### Regions' rectangles -/

/-- A vertical extent of RGN_RECT takes in row y (R325): 1 SOUTH, 2 NORTH, 3 FULL. -/
def extentHas (e y : Nat) : Bool := if y < 6 then e % 2 == 1 else 2 ≤ e

/-- A tile lies in region n's rectangle as RGN_RECT gives it. -/
def State.inRect (s : State) (n t : Nat) : Bool :=
  s.fld (F.RGN_RECT_X0 n) ≤ tileX t && tileX t ≤ s.fld (F.RGN_RECT_X1 n) && extentHas (s.fld (F.RGN_RECT_EXTENT n)) (tileY t)

/-- Region n's state code (R332). -/
def State.rgnState (s : State) (n : Nat) : Nat := s.fld (F.RGN_STATE_STATE n)

/-- The codes of R332 (RGN_STATE). -/
def rFREE : Nat := 0
def rCONFIGURING : Nat := 1
def rREADY : Nat := 2
def rRUNNING : Nat := 3
def rDRAINING : Nat := 4
def rFAULTED : Nat := 5
def rRESETTING : Nat := 6

/-- Region n holds the tile: it is not FREE and its rectangle takes the tile in. -/
def State.holds (s : State) (n t : Nat) : Bool := s.rgnState n != rFREE && s.inRect n t

/-- The region that holds a tile, if one does: rectangles of regions that are not FREE do not overlap (R327). -/
def State.ownerOf (s : State) (t : Nat) : Option Nat := (List.range 32).find? fun n => s.holds n t

/-- The tiles, slices, clusters and cores of region n's rectangle, in rising order. -/
def State.tilesOf (s : State) (n : Nat) : List Nat := (List.range 192).filter (s.inRect n)
def State.slicesOf (s : State) (n : Nat) : List Nat := (List.range 64).filter fun i => s.inRect n (tileOfSlice i)
def State.clustersOf (s : State) (n : Nat) : List Nat := (List.range 128).filter fun c => s.inRect n (tileOfCluster c)
def State.coresOf (s : State) (n : Nat) : List Nat := (s.clustersOf n).flatMap coresOfCluster
def State.islandsOf (s : State) (n : Nat) : List Nat :=
  (List.range 32).filter fun i => (tilesOfIsland i).any (s.inRect n)

/-- The region a core belongs to. -/
def State.regionOfCore (s : State) (g : Nat) : Option Nat := s.ownerOf (tileOfCore g)

/-- The ports assigned to region n (R751). -/
def State.portsOf (s : State) (n : Nat) : List Nat :=
  (List.range 4).filter fun p => s.on (F.HL_ASSIGN_VALID p) && s.fld (F.HL_ASSIGN_REGION p) == n

end Sys2Proof.Machine
end

