-- ==== Sys2Proof/Machine/EventLog.lean ====
section
/-! DEFINITION. The supply event log (R124 to R126, PWR_EVT), the shed request (R110), refresh-only (R111, R117) and the
LOSS sequence (R119 to R123). -/

namespace Sys2Proof.Machine

/-! ### The log -/

/-- The class codes of R104, R113 and R116. -/
def supplyCode : SupplyClass → Nat
  | .sag => 1 | .dropout => 2 | .swell => 3 | .transient => 4 | .ripple => 5 | .loss => 6 | .limit => 7 | .thermal => 8

/-- Why a LOSS was declared (the OVP and THERM bits of PWR_EVT). -/
inductive LossWhy where
  | voltage | overvoltage | thermal
  deriving DecidableEq, Repr

/-- A declared event is written into entry PWR_EVT_TOTAL mod 32, and PWR_EVT_TOTAL counts it (R124). The entry is open;
its duration so far is the declaring sample's count. -/
def State.openEvent (s : State) (c : SupplyClass) (start declare extreme : Nat) (why : LossWhy := .voltage) :
    OpenEvent × State :=
  let i := s.supply.events % 32
  let w0 := 2 ^ 31 + bit (why = .overvoltage) * 2 ^ 30 + bit (why = .thermal) * 2 ^ 29 + supplyCode c * 2 ^ 24
    + extreme % 2 ^ 16
  let t := ((((s.setWord (R.PWR_EVT_W0 i) w0).setWord (R.PWR_EVT_W1 i) start).setWord (R.PWR_EVT_W2 i)
    (declare % 2 ^ 16 * 2 ^ 16 + start / 2 ^ 32 % 2 ^ 16)).setWord (R.PWR_EVT_W3 i) declare)
  (⟨s.supply.events, declare, extreme⟩,
    { ((t.countMod F.PWR_EVT_TOTAL_TOTAL).raise F.INT_PF_EVENT_SUPPLY) with
      supply := { t.supply with events := s.supply.events + 1 } })

/-- Duration and extreme of an open entry as they stand, unless the entry has been overwritten (R124, R125). -/
def State.updateEvent (s : State) (e : OpenEvent) : State :=
  let i := e.seq % 32
  if s.supply.events ≤ e.seq + 32 then
    (s.setFld (F.PWR_EVT_W0_EXTREME_MV i) e.extreme).setFld (F.PWR_EVT_W3_DURATION i) (min e.samples (2 ^ 32 - 1))
  else s

/-- An entry closes: OPEN becomes 0 and INT_PF_EVENT.SUPPLY is set (R221). -/
def State.closeEvent (s : State) (e : OpenEvent) : State :=
  let t := s.updateEvent e
  (t.when (t.supply.events ≤ e.seq + 32) fun u => u.lower (F.PWR_EVT_W0_OPEN (e.seq % 32))).raise F.INT_PF_EVENT_SUPPLY

/-! ### The shed request -/

/-- The shed request (R110): SAG or DROPOUT declared, limiter active, thermal request, METER_FAIL or FORCE_SHED. -/
def State.shedRequest (s : State) : Bool :=
  s.on F.PWR_STATUS_SAG_ACTIVE || s.on F.PWR_STATUS_DROPOUT_ACTIVE || s.on F.PWR_STATUS_LIMIT_ACTIVE
    || s.on F.PWR_TEMP_THERMAL_REQ || s.on F.PWR_ERR_METER_FAIL || s.on F.CLK_SHED_FORCE_SHED

/-- The sources of the shed request as a mask, in the order of R110. -/
def State.shedSources (s : State) : Nat :=
  bit (s.on F.PWR_STATUS_SAG_ACTIVE) + 2 * bit (s.on F.PWR_STATUS_DROPOUT_ACTIVE) + 4 * bit (s.on F.PWR_STATUS_LIMIT_ACTIVE)
    + 8 * bit (s.on F.PWR_TEMP_THERMAL_REQ) + 16 * bit (s.on F.PWR_ERR_METER_FAIL) + 32 * bit (s.on F.CLK_SHED_FORCE_SHED)

/-- SHED_REQ brought into line with its sources. A new request is on its way to the clock controller while the tile
clocks run (R79); with the halves unpowered no divider acts. -/
def State.updateShed (s : State) : State :=
  let now := s.shedRequest
  let was := s.on F.PWR_STATUS_SHED_REQ
  let t := s.setFld F.PWR_STATUS_SHED_REQ (bit now)
  if now && !was && s.power.halves then { t with supply := { t.supply with shedAsked := true } } else t

/-- A shed is applied: SHED reads 1 and SHED_COUNT counts it once (R79). -/
def State.applyShed (s : State) : State :=
  let t := (s.raise F.CLK_STATUS_SHED).countSat F.CLK_SHED_SHED_COUNT
  { t with supply := { t.supply with shedAsked := false, shedInTick := true } }

/-! ### The module cap -/

/-- The enforced module cap in W (R128). -/
def enforcedCap (pf pldm : Nat) : Nat := min 1100 (min (if pf = 0 then 1100 else pf) (if pldm = 0 then 1100 else pldm))

/-- PWR_CAP_STATUS follows the caps. -/
def State.noteCap (s : State) : State :=
  s.setFld F.PWR_CAP_STATUS_ENFORCED_W (enforcedCap (s.fld F.PWR_CAP_PF_CAP_W) (s.fld F.PWR_CAP_PLDM_CAP_W))

/-! ### Refresh-only -/

/-- The controllers of stack k issue refresh only: DROPOUT is declared (R111), or the stack is at 105 °C and has not
come down to 100 °C (R117). -/
def State.refreshOnly (s : State) (k : Nat) : Bool :=
  s.on F.PWR_STATUS_DROPOUT_ACTIVE || s.on (F.HBM_STATUS_TEMP_CRITICAL k)

/-- HBM_STATUS.REFRESH_ONLY of every stack, and PWR_STATUS.HBM_REFRESH_ONLY, brought into line. -/
def State.updateRefreshOnly (s : State) : State :=
  let t := overList (List.range 8) s fun u k => u.setFld (F.HBM_STATUS_REFRESH_ONLY k) (bit (s.refreshOnly k))
  t.setFld F.PWR_STATUS_HBM_REFRESH_ONLY (bit ((List.range 8).any s.refreshOnly))

/-! ### LOSS -/

/-- LOSS is declared (R119): the event is entered, both tile PLLs and the LINK PLL stop, the switches of both halves
open, everything held on die and in HBM is lost (R201), and the last-gasp writer owes its entry when LG_ARMED is 1 (R122).
A flash write that is cut short leaves a torn entry (R121): whether one was in progress is a free value. LOSS once declared
stands (R123). -/
def State.declareLoss (s : State) (start declare extreme : Nat) (why : LossWhy) : State :=
  if s.power.phase = .loss then s
  else
    let t := (s.openEvent .loss start declare extreme why).2
    let u := (((((t.lower F.CLK_STATUS_TW_LOCK).lower F.CLK_STATUS_TE_LOCK).lower F.CLK_STATUS_LINK_LOCK).lower
      F.CLK_STATUS_SHED).lower F.CLK_STATUS_SLEWING).setFld F.CLK_TILE_FREQ_IN_FORCE_MULT 0
    let u := (u.setFld F.CLK_ISLAND_POWERED 0).dropPath
    let (v, u) := u.draw
    let torn := bit (v.getLsbD 0 && (!u.vesper.queue.isEmpty || u.vesper.permDue))
    { u with
      hbm := {}
      flash := { u.flash with torn := u.flash.torn + torn }
      power := { u.power with
        phase := .loss, lastGasp := s.on F.PWR_STATUS_LG_ARMED, halves := false
        lossStart := start, lossMin := extreme, lossShed := s.shedSources } }

end Sys2Proof.Machine
end

