-- ==== Sys2Proof/Machine/Clock.lean ====
section
/-! DEFINITION. Clocks that no region depends on for its state (02_die_map_and_clocks.md): sheds, multiplier slews, the
trim loop and the losses of a reference or a PLL (R62 to R66, R76 to R81, R87, R89). -/

namespace Sys2Proof.Machine

/-- The multiplier the clock rules ask for (R64). -/
def State.targetMult (s : State) : Nat := min (s.fld F.CLK_TILE_FREQ_CEILING_MULT) (s.fld F.CLK_TILE_FREQ_VESPER_MULT)

/-- The tile PLLs run: the halves are powered. -/
def State.tileClocks (s : State) : Bool := s.power.halves

/-- A multiplier moved by at most `k` steps of 25 MHz toward another. -/
def stepMult (m target k : Nat) : Nat := if m ≤ target then min (m + k) target else max (m - k) target

/-- The present multiplier of both tile PLLs (R65, R66): the stored value, moved one step for each whole microsecond of
device time since the slew began. -/
def State.inForceMult (s : State) : Nat :=
  let m := s.fld F.CLK_TILE_FREQ_IN_FORCE_MULT
  if s.on F.CLK_STATUS_SLEWING then
    stepMult m s.power.slewTo ((s.time + 2 ^ 48 - s.power.slewSince) % 2 ^ 48 * 125 / 2048)
  else m

/-- A change of multiplier begins to slew, from the multiplier then in force, when the one asked for is not where the PLLs
stand or move to (R66). -/
def State.startSlew (s : State) : State :=
  let goal := if s.on F.CLK_STATUS_SLEWING then s.power.slewTo else s.fld F.CLK_TILE_FREQ_IN_FORCE_MULT
  if s.tileClocks && s.targetMult != goal then
    let t := (s.setFld F.CLK_TILE_FREQ_IN_FORCE_MULT s.inForceMult).raise F.CLK_STATUS_SLEWING
    { t with power := { t.power with slewSince := s.time, slewTo := s.targetMult } }
  else s

/-- The clock controller receives a shed request and divides every data-plane clock by two (R76, R79). With no request
sent or present, or with the tile clocks stopped, nothing happens. -/
def execShed (s : State) : Host.Outcome State Fault Refusal :=
  if (s.supply.shedAsked || s.shedRequest) && s.tileClocks && !s.on F.CLK_STATUS_SHED then done s.applyShed
  else done s

/-- The unshed (R79, R80): every source of the request has ended. -/
def execUnshed (s : State) : Host.Outcome State Fault Refusal :=
  if s.on F.CLK_STATUS_SHED && !s.shedRequest then done (s.lower F.CLK_STATUS_SHED) else done s

/-- A change of multiplier has finished slewing (R65, R66). -/
def execSlewComplete (s : State) : Host.Outcome State Fault Refusal :=
  if s.on F.CLK_STATUS_SLEWING then
    done ((s.setFld F.CLK_TILE_FREQ_IN_FORCE_MULT s.targetMult).lower F.CLK_STATUS_SLEWING)
  else done s

/-- A signed number in a field of 16 bits. -/
def signed16 (z : Int) : Nat := (z % 65536).toNat

/-- The AON error in ppm of a trim window that counted `count` AON cycles against 64,000, rounded as an open constant
has it (log 3). -/
def trimErrorPpm (count : Nat) : Nat :=
  if 64000 ≤ count then signed16 (roundOpen ((count - 64000) * 1000000) 64000)
  else signed16 (-(roundOpen ((64000 - count) * 1000000) 64000 : Int))

/-- The trim code after one step that lowers (`fast`) or raises the AON frequency; the ends of the code hold it. -/
def trimStep (code : Nat) (fast : Bool) : Nat :=
  if fast == Config.trimRaises then code - 1 else min (code + 1) 1023

/-- A trim window's count shows the AON frequency within 100 ppm of 2.048 MHz (R62). -/
def trimmedCount (c : Nat) : Bool := 63994 ≤ c && c ≤ 64006

/-- A trim window ends (R62): the crystal runs; AON_TRIMMED reads 1 when the count is within 100 ppm (log 136); the code
moves one step when the count is off by more than one. -/
def execAonTrimWindow (count : BitVec 20) (s : State) : Host.Outcome State Fault Refusal :=
  if s.power.phase = .off then done s
  else
    let c := count.toNat
    let a := ((s.raise F.CLK_STATUS_XTAL32_OK).setFld F.CLK_STATUS_AON_TRIMMED (bit (trimmedCount c))).setFld
      F.CLK_AON_TRIM_LAST_ERR_PPM (trimErrorPpm c)
    if 64001 < c ∨ c < 63999 then
      done (a.setFld F.CLK_AON_TRIM_TRIM_CODE (trimStep (s.fld F.CLK_AON_TRIM_TRIM_CODE) (64001 < c)))
    else done a

/-- The 32.768 kHz crystal stops (R63): the trim code holds, and AON_TRIMMED reads 0. -/
def execXtal32Stop (s : State) : Host.Outcome State Fault Refusal :=
  if s.power.phase = .off then done s
  else done (((s.lower F.CLK_STATUS_XTAL32_OK).lower F.CLK_STATUS_AON_TRIMMED).raise F.CLK_ERR_XTAL32_FAIL)

/-- XREF does not qualify within 2 ms of a wake's enable (R87): it stops, XREF_FAIL is set, the module stays in M2 and
tries again at the next wake cause; the HOST clock, which ran for the wake (R85), stops. -/
def execXrefQualifyTimeout (s : State) : Host.Outcome State Fault Refusal :=
  if s.power.waking then
    let t := ((s.raise F.CLK_ERR_XREF_FAIL).lower F.CLK_STATUS_XREF_OK).lower F.CLK_STATUS_HOST_LOCK
    done { t with power := { s.power with waking := false, wakeXings := [] } }
  else done s

/-- The host, CTL or LINK PLL loses lock: its UNLOCK bit is set (CLK_ERR). Whether it has locked again at the end of the
step the spec does not say: its lock bit is a free value (log 4). -/
def execPllLossOfLock (pll : Pll) (s : State) : Host.Outcome State Fault Refusal :=
  if s.power.phase = .off then done s
  else
    let (v, t) := s.draw
    let b := bit (v.getLsbD 0)
    match pll with
    | .host => done ((t.raise F.CLK_ERR_UNLOCK_HOST).setFld F.CLK_STATUS_HOST_LOCK b)
    | .ctl => done ((t.raise F.CLK_ERR_UNLOCK_CTL).setFld F.CLK_STATUS_CTL_LOCK b)
    | .link => done ((t.raise F.CLK_ERR_UNLOCK_LINK).setFld F.CLK_STATUS_LINK_LOCK b)

end Sys2Proof.Machine
end

