-- ==== Sys2Proof/Machine/Formats.lean ====
section
/-! DEFINITION. Exact values and their roundings: the binary number formats as dyadic numbers, round to nearest even, and
the byte order (08_clusters_cores_formats.md, R401 to R413; 00_scope.md: little-endian everywhere). -/

namespace Sys2Proof.Machine

/-! ### Bytes -/

/-- A number from little-endian bytes. -/
def fromBytes : List Byte → Nat
  | [] => 0
  | b :: rest => b.toNat + 256 * fromBytes rest

/-- The `n` little-endian bytes of a number. -/
def toBytes : Nat → Nat → List Byte
  | 0, _ => []
  | n + 1, v => BitVec.ofNat 8 v :: toBytes n (v / 256)

/-- A word of `n` bits read as a signed number. -/
def toSigned (n v : Nat) : Int := if v % 2 ^ n < 2 ^ (n - 1) then (v % 2 ^ n : Nat) else (v % 2 ^ n : Nat) - (2 ^ n : Nat)

/-- A signed number in `n` bits, two's complement. -/
def ofSigned (n : Nat) (z : Int) : Nat := (z % (2 ^ n : Nat)).toNat

/-! ### Exact values -/

/-- What a code of a binary format stands for: a NaN, an infinity, or (-1)^neg * m * 2^e. -/
inductive FVal where
  | nan
  | inf (neg : Bool)
  | fin (neg : Bool) (m : Nat) (e : Int)
  deriving DecidableEq, Repr

/-- m / 2^k rounded to nearest, ties to even. -/
def rneShift (m k : Nat) : Nat :=
  let q := m / 2 ^ k
  let r := m % 2 ^ k
  if 2 ^ k < 2 * r ∨ (2 * r = 2 ^ k ∧ q % 2 = 1) then q + 1 else q

/-- m * 2^e as an integer, rounded to nearest, ties to even. -/
def rneInt (m : Nat) (e : Int) : Nat :=
  if 0 ≤ e then m * 2 ^ e.toNat else rneShift m (-e).toNat

/-- An IEEE-style format: exponent bits, fraction bits, and whether its largest exponent holds infinities and NaNs
(R401, R402). -/
structure Ieee where
  eb : Nat
  mb : Nat
  deriving DecidableEq, Repr

def fp32 : Ieee := ⟨8, 23⟩
def bf16 : Ieee := ⟨8, 7⟩
def fp16 : Ieee := ⟨5, 10⟩

/-- The exponent bias. -/
def Ieee.bias (f : Ieee) : Nat := 2 ^ (f.eb - 1) - 1

/-- The exponent of the last place of a subnormal. -/
def Ieee.minExp (f : Ieee) : Int := 1 - (f.bias : Int) - (f.mb : Int)

/-- The code of +infinity; the sign bit lies above it. -/
def Ieee.infCode (f : Ieee) : Nat := (2 ^ f.eb - 1) * 2 ^ f.mb

/-- The value of a code. -/
def Ieee.decode (f : Ieee) (c : Nat) : FVal :=
  let neg := (c / 2 ^ (f.eb + f.mb)) % 2 == 1
  let ex := c / 2 ^ f.mb % 2 ^ f.eb
  let fr := c % 2 ^ f.mb
  if ex = 2 ^ f.eb - 1 then (if fr = 0 then .inf neg else .nan)
  else if ex = 0 then .fin neg fr f.minExp
  else .fin neg (2 ^ f.mb + fr) (f.minExp + ((ex : Int) - 1))

/-- The code, without sign, of m * 2^e rounded to nearest even; an overflow gives the code of infinity (R404). -/
def Ieee.roundMag (f : Ieee) (m : Nat) (e : Int) : Nat :=
  if m = 0 then 0
  else
    let top : Int := (Nat.log2 m : Int) + e
    let q : Int := max (top - f.mb) f.minExp
    let n := if q ≤ e then m * 2 ^ (e - q).toNat else rneShift m (q - e).toNat
    min ((q - f.minExp).toNat * 2 ^ f.mb + n) f.infCode

/-- A code with its sign bit. -/
def Ieee.signed (f : Ieee) (neg : Bool) (c : Nat) : Nat := c + bit neg * 2 ^ (f.eb + f.mb)

/-- The canonical NaN: 0x7FC0_0000, 0x7FC0, 0x7E00 (R663). -/
def Ieee.canonicalNan (f : Ieee) : Nat := f.infCode + 2 ^ (f.mb - 1)

/-- A value in the format, rounded once by RNE. -/
def Ieee.encode (f : Ieee) : FVal → Nat
  | .nan => f.canonicalNan
  | .inf neg => f.signed neg f.infCode
  | .fin neg m e => f.signed neg (f.roundMag m e)

/-! ### Exact arithmetic -/

/-- The signed mantissa of a finite value. -/
def smant (neg : Bool) (m : Nat) : Int := if neg then -(m : Int) else m

/-- The finite value z * 2^e; a zero has the sign `negZero` (R889). -/
def ofMant (z : Int) (e : Int) (negZero : Bool) : FVal :=
  if z = 0 then .fin negZero 0 e else .fin (decide (z < 0)) z.natAbs e

/-- The exact sum (R663): a NaN or opposite infinities give a NaN; a sum of opposite equal values is +0, and a sum of
two zeros is -0 only when both are (R889). -/
def FVal.add (a b : FVal) : FVal :=
  match a, b with
  | .nan, _ => .nan
  | _, .nan => .nan
  | .inf x, .inf y => if x = y then .inf x else .nan
  | .inf x, .fin _ _ _ => .inf x
  | .fin _ _ _, .inf y => .inf y
  | .fin s m e, .fin t n g =>
    let l := min e g
    ofMant (smant s (m * 2 ^ (e - l).toNat) + smant t (n * 2 ^ (g - l).toNat)) l (s && t && m == 0 && n == 0)

/-- The exact product; a zero times an infinity is a NaN. -/
def FVal.mul (a b : FVal) : FVal :=
  match a, b with
  | .nan, _ => .nan
  | _, .nan => .nan
  | .inf x, .inf y => .inf (x != y)
  | .inf x, .fin t n _ => if n = 0 then .nan else .inf (x != t)
  | .fin s m _, .inf y => if m = 0 then .nan else .inf (s != y)
  | .fin s m e, .fin t n g => .fin (s != t) (m * n) (e + g)

def FVal.neg : FVal → FVal
  | .nan => .nan
  | .inf s => .inf (!s)
  | .fin s m e => .fin (!s) m e

def FVal.isNan : FVal → Bool
  | .nan => true
  | _ => false

/-- A total order of the values that are no NaN, -0 below +0 (R461): a < b. -/
def FVal.less (a b : FVal) : Bool :=
  match a, b with
  | .inf x, .inf y => x && !y
  | .inf x, .fin _ _ _ => x
  | .fin _ _ _, .inf y => !y
  | .fin s m e, .fin t n g =>
    let l := min e g
    let p := smant s (m * 2 ^ (e - l).toNat)
    let q := smant t (n * 2 ^ (g - l).toNat)
    decide (p < q) || (m == 0 && n == 0 && s && !t)
  | _, _ => false

/-- MIN and MAX as R461 gives them: a NaN when either input is a NaN. -/
def FVal.min2 (a b : FVal) : FVal := if a.isNan || b.isNan then .nan else if b.less a then b else a
def FVal.max2 (a b : FVal) : FVal := if a.isNan || b.isNan then .nan else if a.less b then b else a

/-! ### The fixed-point store of EXACT windows (R669 to R674) -/

/-- F(v) for a finite v: v * 2^P rounded to an integer, ties to even (R670). -/
def exactOf (v : FVal) (p : Nat) : Option Int :=
  match v with
  | .fin neg m e =>
    let z := smant neg (rneInt m (e + p))
    if -(2 ^ 127 : Int) ≤ z ∧ z < (2 ^ 127 : Int) then some z else none
  | _ => none

/-- F(v) * 2^-P differs from v (R671). -/
def exactRounds (v : FVal) (p : Nat) : Bool :=
  match v with
  | .fin _ m e => if 0 ≤ e + p then false else m % 2 ^ (-(e + p)).toNat != 0
  | _ => false

/-- A read of an EXACT word: A * 2^-P rounded to FP32, 0 as +0 (R673). -/
def exactRead (a : Int) (p : Nat) : Nat := fp32.encode (ofMant a (-(p : Int)) false)

end Sys2Proof.Machine
end

