-- ==== Sys2Proof/Machine/Integrity.lean ====
section
/-! DEFINITION. Integrity events, the integrity log and the bushel (18_data_integrity.md, R774, R783 to R785, R803,
R804). -/

namespace Sys2Proof.Machine

/-- The units of INT_INTEG_LOG.UNIT_KIND. -/
def kSliceSram : Nat := 1
def kSliceTag : Nat := 2
def kHbm : Nat := 3
def kClusterMem : Nat := 4
def kRoCache : Nat := 5
def kProgram : Nat := 6
def kCoreRegs : Nat := 7
def kConfig : Nat := 8
def kPlane : Nat := 9
def kEdgeRing : Nat := 10
def kHostIn : Nat := 11
def kLinkIn : Nat := 12

/-- An error as the integrity log records it. -/
structure IntegError where
  cls : Nat
  kind : Nat
  unit : Nat
  region : Option Nat := none
  syndrome : Nat := 0
  addr : Nat := 0
  scrub : Bool := false
  deriving DecidableEq, Repr

/-- An entry of the integrity log at INT_INTEG_TOTAL mod 64 (R804). -/
def State.integLog (s : State) (e : IntegError) : State :=
  let i := s.fld F.INT_INTEG_TOTAL_TOTAL % 64
  let r := e.region.getD 0
  let w0 := e.cls * 2 ^ 28 + e.kind * 2 ^ 24 + bit e.region.isSome * 2 ^ 23 + r * 2 ^ 18 + e.unit % 1024 * 2 ^ 8
    + e.syndrome % 256
  ((((s.setWord (R.INT_INTEG_LOG_W0 i) w0).setWord (R.INT_INTEG_LOG_W1 i) e.addr).setWord (R.INT_INTEG_LOG_W2 i)
    (bit e.scrub * 2 ^ 16 + e.addr / 2 ^ 32 % 2 ^ 16)).setWord (R.INT_INTEG_LOG_W3 i) s.time).countMod
    F.INT_INTEG_TOTAL_TOTAL

/-- An integrity event (R803): the cause bit of INT_INTEG_STATUS, and VF n's INTEGRITY vector for a unit of region n. -/
def State.integEvent (s : State) (cause : Fld) (region : Option Nat) : State :=
  let t := s.raise cause
  match region with
  | some n => t.sendVf n 3
  | none => t

/-- A class 4, 5 or 6 error: logged, and an event (R803, R804). -/
def State.integRaise (s : State) (e : IntegError) (cause : Fld) : State := (s.integLog e).integEvent cause e.region

/-- A correctable error is logged when it is the first of its unit since the present tick began (R804). -/
def State.logCe (s : State) (e : IntegError) : State :=
  if s.ceLogged.contains (e.kind, e.unit) then s
  else { s.integLog e with ceLogged := (e.kind, e.unit) :: s.ceLogged }

/-- The bushel of slice i takes a CE (R783): COUNT saturates at 255; THRESHOLD to THRESHOLD + 1 sets OVER and raises a
bushel event (R785). -/
def State.bushelAdd (s : State) (i : Nat) : State :=
  let c := s.fld (F.MSL_BUSHEL_COUNT i)
  let t := s.setFld (F.MSL_BUSHEL_COUNT i) (min (c + 1) 255)
  if c = s.fld (F.MSL_BUSHEL_CFG_THRESHOLD i) then
    let u : State := { t with vesper := { t.vesper with bushels := t.vesper.bushels ++ [i] } }
    (u.raise (F.MSL_BUSHEL_OVER i)).integEvent F.INT_INTEG_STATUS_BUSHEL (s.ownerOf (tileOfSlice i))
  else t

/-- A counter that saturates at the end of its register. -/
def State.count (s : State) (f : Fld) (k : Nat := 1) : State := s.countSat f k

/-- A CE of class 1, 2 or 3 in slice i's SRAM, tags, tracker or channels: counted, logged once a tick, and put into the
bushel (R783, R804, the MSL_ECC counters). -/
def State.sliceCe (s : State) (i : Nat) (e : IntegError) : State :=
  let f := if e.cls = 1 then F.MSL_ECC_CE_DATA_CE_DATA i else if e.cls = 2 then F.MSL_ECC_CE_CHK_CE_CHK i
    else F.MSL_ECC_REFETCH_REFETCH i
  ((s.count f).logCe e).bushelAdd i

/-- A UE in slice i's arrays or channels: counted, logged, an integrity event (R803, R804). -/
def State.sliceUe (s : State) (i : Nat) (e : IntegError) : State :=
  (s.count (F.MSL_ECC_UE_UE i)).integRaise e F.INT_INTEG_STATUS_UE

/-- A UE of a cluster's arrays (INT_CLU_ECC). -/
def State.clusterUe (s : State) (c : Nat) (e : IntegError) : State :=
  (s.count (F.INT_CLU_ECC_UE c)).integRaise e F.INT_INTEG_STATUS_UE

/-- A CE of a cluster's arrays. -/
def State.clusterCe (s : State) (c : Nat) (e : IntegError) : State := (s.count (F.INT_CLU_ECC_CE c)).logCe e

/-- Poison received from outside the module (class 6, R803). -/
def State.poisonIn (s : State) (kind unit : Nat) (region : Option Nat) : State :=
  s.integRaise { cls := 6, kind := kind, unit := unit, region := region } F.INT_INTEG_STATUS_POISON_IN

/-- A poisoned word was produced on behalf of region n's launch (R782). -/
def State.launchPoison (s : State) (n : Nat) : State :=
  s.modRgn n fun r => { r with launch := r.launch.map fun l => { l with poison := true } }

end Sys2Proof.Machine
end

