-- ==== Sys2Proof/Machine/Regulation.lean ====
section
/-! DEFINITION. The regulation of requests (16_external_memory_and_regulation.md, R700 to R722): the requester classes, their
budgets, the priority of a request, and how a home slice injects its requests into a channel controller's queue. -/

namespace Sys2Proof.Machine

/-- The stack of a channel issues no reads or writes now: refresh-only (R111, R117). -/
def State.chanHeld (s : State) (ch : Nat) : Bool := s.refreshOnly (ch / 16)

/-- A channel that may be accessed: its home slice is powered and clocked (R88), its stack neither in self-refresh nor in
refresh-only. -/
def State.stackReady (s : State) (ch : Nat) : Bool :=
  !s.clockStopped (tileOfSlice (sliceOfChannel ch)) && !s.on (F.HBM_STATUS_SELF_REFRESH (ch / 16)) && !s.chanHeld ch

def State.chan (s : State) (c : Nat) : Chan := smGet s.chans {} c
def State.modChan (s : State) (c : Nat) (f : Chan → Chan) : State := { s with chans := smMod s.chans {} c f }

/-- The requester classes of R700. -/
def cHOSTDMA : Nat := 0
def cLINKIN : Nat := 1
def cDYN : Nat := 2
def cGATHER : Nat := 3
def cSCRUB : Nat := 4
def cMGMT : Nat := 5

/-- A class is in budget at a point whose counter stands at `used`, with its share of the budget among `parts` points
(R707, R708). -/
def State.inBudget (s : State) (n cls parts used : Nat) : Bool :=
  let b := s.fld (F.RGN_BUDGET_BUDGET n cls)
  decide (4 ≤ cls) || b == 0 || decide (used < b / parts * 64)

/-- The number of region n's channels (R697). -/
def State.channelCount (s : State) (n : Nat) : Nat := 2 * (s.slicesOf n).length

/-! ### Priority (R702, R711, R713) -/

/-- Link credits that the packets of a port's REQ ingress buffer take (R713, R746). -/
def ingressFill (l : List LinkPacket) : Nat :=
  ((l.filter fun p => !isResponse p.kind).map fun p => 1 + ceilDiv p.bytes.length 16).foldl (· + ·) 0

/-- The urgency of a class of region n (R713): the fill of the ingress buffers of its ports, or of VF n's completion
holding buffer. -/
def State.urgency (s : State) (n cls : Nat) : Nat :=
  if cls = cLINKIN then
    ((s.portsOf n).map fun p =>
      let f := ingressFill (s.port p).ingress
      if 7168 ≤ f then 3 else if 6144 ≤ f then 2 else if 4096 ≤ f then 1 else 0).foldl max 0
  else if cls = cHOSTDMA then
    let k := (s.vf n).held.length
    if 15 ≤ k then 3 else if 12 ≤ k then 2 else if 8 ≤ k then 1 else 0
  else 0

/-- The priority of a request of a class at a point where it is in budget or not, boosted or not, promoted or not. -/
def State.priority (s : State) (n cls : Nat) (inBudget boosted promoted : Bool) : Nat :=
  let base := if cls = cSCRUB then 0 else if cls = cMGMT then 2 else bit inBudget
  let boost := if cls = cSCRUB ∨ cls = cMGMT then 0 else bit boosted
  min 3 (max (base + boost) (max (s.urgency n cls) (bit promoted)))

/-- The priority of a channel's request now, and what it would be in budget. -/
def State.reqPriority (s : State) (r : HReq) : Nat :=
  s.priority r.region r.cls (s.inBudget r.region r.cls (s.channelCount r.region) (smGet (s.chan r.chan).used 0 r.cls))
    ((s.chan r.chan).boosted.contains r.cls) r.promoted

def State.fullPriority (s : State) (r : HReq) : Nat :=
  s.priority r.region r.cls true ((s.chan r.chan).boosted.contains r.cls) r.promoted

/-- A point with the counter `used` and `parts` shares grants a request: one served below the priority it would have in budget is
counted as delayed (R702, R721; urgency or age may keep an over-budget class where it is), one at priority 3 as urgent (RGN_URGENT). -/
def State.countGrant (s : State) (n cls parts used : Nat) (boosted promoted : Bool) : State :=
  let p := s.priority n cls (s.inBudget n cls parts used) boosted promoted
  (s.when (decide (p < s.priority n cls true boosted promoted)) fun t => t.countSat (F.RGN_DLY_BUDGET_DELAYED_BUDGET n cls)).when
    (p == 3) fun t => t.countSat (F.RGN_URGENT_URGENT n)

/-- The request of highest priority, the oldest among equals (R703). -/
def State.bestOf (s : State) (l : List HReq) : Option HReq :=
  l.foldl (fun best r => match best with
    | none => some r
    | some b => if s.reqPriority b < s.reqPriority r then some r else best) none

/-! ### Injection (R710, R711) -/

/-- Entries in the channel's controller queue (R693). -/
def State.occupancy (s : State) (ch : Nat) : Nat := s.hreqs.countP fun r => r.chan == ch && r.injected && !r.granted

/-- Feedback lets a request of a priority into the queue. -/
def State.feedbackLets (s : State) (ch p : Nat) : Bool :=
  let occ := s.occupancy ch
  if s.fld (F.HBM_WATERMARK_CRITICAL (ch / 16)) < occ then p == 3
  else if s.fld (F.HBM_WATERMARK_HIGH (ch / 16)) < occ then decide (1 ≤ p) else true

def State.modReq (s : State) (id : Nat) (f : HReq → HReq) : State :=
  { s with hreqs := s.hreqs.map fun r => if r.id == id then f r else r }

/-- HBM_CH_QUEUE brought into line. -/
def State.noteQueue (s : State) (ch : Nat) : State :=
  let k := ch / 16
  let j := ch % 16
  let occ := s.occupancy ch
  let fb := if s.fld (F.HBM_WATERMARK_CRITICAL k) < occ then 2 else if s.fld (F.HBM_WATERMARK_HIGH k) < occ then 1 else 0
  ((s.setFld (F.HBM_CH_QUEUE_OCC k j) occ).setFld (F.HBM_CH_QUEUE_MAX_OCC k j) (max occ (s.fld (F.HBM_CH_QUEUE_MAX_OCC k j)))).setFld
    (F.HBM_CH_QUEUE_FEEDBACK k j) fb

/-- A request counts as held once (R721, R722). -/
def State.countHeld (s : State) (r : HReq) (byFeedback : Bool) : State :=
  if r.heldCounted then s
  else
    ((s.modReq r.id fun q => { q with heldCounted := true }).countSat (F.RGN_DLY_QUEUE_DELAYED_QUEUE r.region r.cls)).when
      byFeedback fun t => t.countSat (F.HBM_CH_HELD_HELD (r.chan / 16) (r.chan % 16))

/-- Requests of a class held before they reach a channel's queue, by channel, and whether feedback holds each (R721, R722). -/
def State.countHolds (s : State) (n cls : Nat) (l : List (Nat × Bool)) : State :=
  overList l s fun t e =>
    (t.countSat (F.RGN_DLY_QUEUE_DELAYED_QUEUE n cls)).when e.2 fun u => u.countSat (F.HBM_CH_HELD_HELD (e.1 / 16) (e.1 % 16))

/-- The home slice injects its requests for a channel, by priority and then age, while the queue of 64 and feedback let
it; what feedback keeps out is counted as held. -/
def State.injectN : Nat → State → Nat → State
  | 0, s, _ => s
  | fuel + 1, s, ch =>
    match s.bestOf (s.hreqs.filter fun r => r.chan == ch && !r.injected && !r.granted && s.feedbackLets ch (s.reqPriority r)) with
    | none => s
    | some r => if 64 ≤ s.occupancy ch then s else State.injectN fuel (s.modReq r.id fun q => { q with injected := true }) ch

def State.injectAll (s : State) (ch : Nat) : State :=
  let t := State.injectN s.hreqs.length s ch
  (overList (t.hreqs.filter fun r => r.chan == ch && !r.injected && !r.granted && !t.feedbackLets ch (t.reqPriority r)) t
    fun u r => u.countHeld r true).noteQueue ch

/-- The slice's requests of a channel not yet in the controller's queue (R710). -/
def State.classQueued (s : State) (ch : Nat) : Nat := s.hreqs.countP fun r => r.chan == ch && !r.injected && !r.granted

/-- The slice accepts no further request for the channel's lines (R710). -/
def State.chanFull (s : State) (ch : Nat) : Bool := 64 ≤ s.classQueued ch

/-- Feedback keeps a fetch of a class out of a channel's queue (R711). -/
def State.fedBack (s : State) (n cls ch : Nat) : Bool :=
  !s.feedbackLets ch (s.priority n cls (s.inBudget n cls (s.channelCount n) (smGet (s.chan ch).used 0 cls))
    ((s.chan ch).boosted.contains cls) false)

/-- A request joins its channel's class queue, and the home slice injects what it may (R710, R711). -/
def State.ask (s : State) (r : HReq) : State :=
  let (id, t) := s.newId
  ({ t with hreqs := t.hreqs ++ [{ r with id := id, arrived := s.time }] } : State).injectAll r.chan

end Sys2Proof.Machine
end

