-- ==== Sys2Proof/Machine/Memory.lean ====
section
/-! DEFINITION. Device memory: where an address lies (R28, R594, R598, R599, R614, R697, R698), and reads and writes of
granules of 64 bytes at their home slices (13_memory_slice.md, R588 to R620; 15, R669 to R675; 18, R777 to R779). -/

namespace Sys2Proof.Machine

/-! ### Byte stores with poison -/

/-- The word index is poisoned. -/
def PMem.poisoned (m : PMem) (w : Nat) : Bool := m.poison.contains w

/-- A sorted list with an element put in. -/
def insertNat : List Nat → Nat → List Nat
  | [], x => [x]
  | y :: l, x => if x < y then x :: y :: l else if x = y then y :: l else y :: insertNat l x

def eraseNat (l : List Nat) (x : Nat) : List Nat := l.filter (· ≠ x)

/-- The byte at an address; an unwritten byte is undefined (R12 error 2), drawn as `draw`. -/
def PMem.byte (m : PMem) (draw a : Nat) : Byte := smGet m.bytes (Config.undefByte draw a) a

/-- A word's poison after a write of `n` of its bytes: a poisoned write poisons it, a clean write of all 8 clears it, a
clean write of fewer leaves it (R779). -/
def PMem.notePoison (m : PMem) (w n : Nat) (bad : Bool) : PMem :=
  if bad then { m with poison := insertNat m.poison w }
  else if n = 8 then { m with poison := eraseNat m.poison w }
  else m

/-- Bytes written at their addresses (a rising list), poisoned where `bad` says of the word index. -/
def PMem.write (m : PMem) (bytes : Mem) (bad : List Nat) : PMem :=
  let m1 : PMem := { m with bytes := bytes.foldl (fun acc e => smPut acc e.1 e.2) m.bytes }
  let words := (bytes.map fun e => e.1 / 8).eraseDups
  words.foldl (fun acc w => acc.notePoison w (bytes.countP fun e => e.1 / 8 = w) (bad.contains w)) m1

/-- 8-byte words of a store taken from another, with their poison. -/
def PMem.copyWords (m src : PMem) (words : List Nat) : PMem :=
  words.foldl (fun d w =>
    { bytes := (List.range 8).foldl (fun b k =>
        match src.bytes.find? fun e => e.1 == 8 * w + k with
        | some e => smPut b (8 * w + k) e.2
        | none => smDel b (8 * w + k)) d.bytes
      poison := if src.poisoned w then insertNat d.poison w else d.poison.filter (· != w) }) m

/-- The store without the bytes and the poison of a range. -/
def PMem.drop (m : PMem) (lo len : Nat) : PMem :=
  { bytes := m.bytes.filter fun e => e.1 < lo || lo + len ≤ e.1
    poison := m.poison.filter fun w => 8 * w < lo || lo + len ≤ 8 * w }

/-- `len` bytes from `a`, with the indices (from 0) of the 8-byte words of the range that are poisoned. -/
def PMem.read (m : PMem) (draw a len : Nat) : List Byte × List Nat :=
  ((List.range len).map fun i => m.byte draw (a + i),
    ((List.range ((a + len + 7) / 8 - a / 8)).filter fun i => m.poisoned (a / 8 + i)))

/-- Contiguous bytes as a store. -/
def memAt (a : Nat) (l : List Byte) : Mem := l.zipIdx.map fun e => (a + e.2, e.1)

/-! ### Device addresses -/

/-- The space of a device address: bits 47:46 (R28). -/
def spaceOf (a : Nat) : Nat := a / 2 ^ 46 % 4
def spCluster : Nat := 0
def spShared : Nat := 1
def spExternal : Nat := 2
def spLink : Nat := 3

/-- The offset in the space. -/
def offsetOf (a : Nat) : Nat := a % 2 ^ 46

/-- mix of R599. -/
def mix (q : Nat) : Nat := q % 2 ^ 32 * 0x9E3779B1 % 2 ^ 32 / 2 ^ 16

/-! ### Windows (R594 to R599) -/

def State.winBase (s : State) (n w : Nat) : Nat :=
  s.fld (F.WIN_BASE_LO_BASE_LO n w) * 2 ^ 16 + s.fld (F.WIN_BASE_HI_BASE_HI n w) * 2 ^ 32
def State.winSize (s : State) (n w : Nat) : Nat :=
  s.fld (F.WIN_SIZE_LO_SIZE_LO n w) * 2 ^ 9 + s.fld (F.WIN_SIZE_HI_SIZE_HI n w) * 2 ^ 32

/-- The slice list of a window (R598). -/
def State.winSlices (s : State) (n w : Nat) : List Nat :=
  let p := s.fld (F.WIN_CTRL_PLACEMENT n w)
  (s.slicesOf n).filter fun i => if p = 1 then i % 16 ≤ 7 else if p = 2 then 8 ≤ i % 16 else true

/-- The valid window of region n that covers a shared-space offset (R594). -/
def State.windowOf (s : State) (n off : Nat) : Option Nat :=
  (List.range 16).find? fun w =>
    s.on (F.WIN_CTRL_VALID n w) && s.winBase n w ≤ off && off < s.winBase n w + s.winSize n w

/-- place of R599: the slice and the offset in its share. -/
def placeOf (list : List Nat) (o : Nat) : Nat × Nat :=
  let n := list.length
  let g := o / 256
  let q := g / n
  (list.getD ((g % n + mix q) % n) 0, q * 256 + o % 256)

/-! ### External space (R606, R614, R697, R698) -/

/-- Region n is in MERIDIAN_SPLIT. -/
def State.split (s : State) (n : Nat) : Bool := s.on (F.RGN_MEM_CFG_EXT_MODE n)

/-- The region's channels, in increasing number; in MERIDIAN_SPLIT those of the half bit 45 selects. -/
def State.chanList (s : State) (n off : Nat) : List Nat :=
  let east := off / 2 ^ 45 % 2 == 1
  ((List.range 128).filter fun c =>
    let i := sliceOfChannel c
    s.inRect n (tileOfSlice i) && (!s.split n || (decide (8 ≤ i % 16) == east)))

/-- 1.5 GiB, the size of a channel (R692). -/
def chanBytes : Nat := 1610612736

/-- An external-space offset belongs to region n (R614, R697). -/
def State.extBelongs (s : State) (n off : Nat) : Bool :=
  let o := if s.split n then off % 2 ^ 45 else off
  o < (s.chanList n off).length * chanBytes

/-- Every offset from one to another belongs to region n: in MERIDIAN_SPLIT both lie in one half (R614). -/
def State.extHolds (s : State) (n off last : Nat) : Bool :=
  s.extBelongs n off && s.extBelongs n last && (!s.split n || off / 2 ^ 45 == last / 2 ^ 45)

/-- The region's external-space size E (R697). -/
def State.extSize (s : State) (n : Nat) : Nat := 2 * (s.slicesOf n).length * chanBytes

/-- chan_of of R698: channel and channel address of an external-space offset. -/
def State.chanOf (s : State) (n off : Nat) : Nat × Nat :=
  let o := if s.split n then off % 2 ^ 45 else off
  placeOf (s.chanList n off) o

/-- The home slice of an external-space offset (R606). -/
def State.homeOf (s : State) (n off : Nat) : Nat := sliceOfChannel (s.chanOf n off).1

/-! ### Where a granule lies -/

/-- Where the 64-byte granule that holds a device address is kept. -/
inductive Loc where
  | none
  | pinned (slice byte : Nat)
  | exact (slice byte win : Nat)
  | comp (slice win v : Nat)
  | ext (slice line : Nat)
  deriving DecidableEq, Repr

/-- The place of the byte at a shared- or external-space address of region n. For an EXACT window, `byte` is the first of
the 16 bytes that back the word. -/
def State.locate (s : State) (n a : Nat) : Loc :=
  let off := offsetOf a
  if spaceOf a = spShared then
    match s.windowOf n off with
    | Option.none => .none
    | some w =>
      let (i, v) := placeOf (s.winSlices n w) (off - s.winBase n w)
      let base := s.fld (F.WIN_SLICE_BASE_SLICE_BASE n w) * 256
      if s.on (F.WIN_CTRL_LINE_MODE n w) then .comp i w v
      else if s.on (F.WIN_CTRL_ACCUM n w) then .exact i (base + 4 * (v / 4 * 4)) w
      else .pinned i (base + v)
  else if spaceOf a = spExternal && s.extBelongs n off then .ext (s.homeOf n off) (off / 128)
  else .none

/-- The home slice of an address. -/
def Loc.slice : Loc → Option Nat
  | .none => Option.none
  | .pinned i _ => some i
  | .exact i _ _ => some i
  | .comp i _ _ => some i
  | .ext i _ => some i

/-! ### Slices -/

def State.slice (s : State) (i : Nat) : Slice := smGet s.slices {} i
def State.modSlice (s : State) (i : Nat) (f : Slice → Slice) : State := { s with slices := smMod s.slices {} i f }

/-- The valid entries of slice i's remap table: the sector of its SRAM that each names, and the entry (R798). -/
def State.spares (s : State) (i : Nat) : List (Nat × Nat) :=
  ((List.range 8).filter fun k => s.on (F.MSL_REMAP_VALID i k)).map fun k => (s.fld (F.MSL_REMAP_SECTOR i k), k)

/-- Where a byte of a slice's SRAM is kept: in its place, or in the spare sector of the entry that names its sector (R798). The
8 spare sectors of the remap spare store stand behind the 6 MiB. -/
def cellOf (spares : List (Nat × Nat)) (b : Nat) : Nat :=
  match spares.find? fun e => e.1 == b / 32 with
  | some e => 0x600000 + 32 * e.2 + b % 32
  | Option.none => b

def State.cell (s : State) (i b : Nat) : Nat := cellOf (s.spares i) b

/-- A byte of slice i's SRAM. -/
def State.sramByte (s : State) (i draw b : Nat) : Byte := (s.slice i).sram.byte draw (s.cell i b)

/-- `len` bytes of slice i's SRAM, with the indices (from 0) of the poisoned words of the range. -/
def State.sramRead (s : State) (i draw b len : Nat) : List Byte × List Nat :=
  let m := (s.slice i).sram
  let sp := s.spares i
  ((List.range len).map fun k => m.byte draw (cellOf sp (b + k)),
    (List.range ((b + len + 7) / 8 - b / 8)).filter fun k => m.poisoned (cellOf sp (8 * (b / 8 + k)) / 8))

/-- Bytes written into slice i's SRAM; `bad` gives the poisoned word indices. -/
def State.sramWrite (s : State) (i : Nat) (bytes : Mem) (bad : List Nat) : State :=
  let sp := s.spares i
  s.modSlice i fun x => { x with
    sram := x.sram.write (bytes.map fun e => (cellOf sp e.1, e.2)) (bad.map fun w => cellOf sp (8 * w) / 8) }

/-- The four words of a sector of slice i's SRAM copied to spare sector k, poison included (R801). -/
def State.copySector (s : State) (i sec k : Nat) : State :=
  s.modSlice i fun x =>
    let bytes := (List.range 32).foldl (fun (l : Mem) o =>
      match x.sram.bytes.find? fun e => e.1 == 32 * sec + o with
      | some e => smPut l (0x600000 + 32 * k + o) e.2
      | Option.none => smDel l (0x600000 + 32 * k + o)) x.sram.bytes
    let poison := (List.range 4).foldl (fun l w =>
      if x.sram.poisoned (4 * sec + w) then insertNat l (0xC0000 + 4 * k + w) else eraseNat l (0xC0000 + 4 * k + w)) x.sram.poison
    { x with sram := ⟨bytes, poison⟩ }

/-- The number of cache ways of a slice: 24 less the pinned ways in force (R589). -/
def State.cacheWays (s : State) (i : Nat) : Nat := 24 - s.fld (F.MSL_STATE_PIN_WAYS i)

/-- The cache set of an external line (R607), by line index. -/
def setOf (line : Nat) : Nat :=
  let a := line * 128
  ((a / 2 ^ 7) ^^^ (a / 2 ^ 18) ^^^ (a / 2 ^ 29)) % 2 ^ 11

def Slice.find (sl : Slice) (line : Nat) : Option CLine := sl.lines.find? fun l => l.line == line

/-- The line put first in the order of use, replacing what the slice held of it. -/
def Slice.put (sl : Slice) (l : CLine) : Slice :=
  { sl with lines := l :: sl.lines.filter fun m => m.line != l.line }

def Slice.remove (sl : Slice) (line : Nat) : Slice := { sl with lines := sl.lines.filter fun m => m.line != line }

/-- Proxy counts and tracker use of MSL_MERIDIAN and MSL_TRACKER_USE brought into line. -/
def State.noteMeridian (s : State) (i : Nat) : State :=
  let l := (s.slice i).lines
  ((s.setFld (F.MSL_MERIDIAN_BORROWED i) (l.countP fun x => x.kind == .borrowed)).setFld (F.MSL_MERIDIAN_COPIES i)
    (l.countP fun x => x.kind == .copy)).setFld (F.MSL_TRACKER_USE_IN_USE i) (s.slice i).tracker.length

/-! ### HBM -/

/-- Where an address of a channel lies in its stack (R699): pseudo-channel, bank of 48 (stack ID, bank group and bank), row,
and the sector in the 1 KiB page. -/
structure HbmPlace where
  pc : Nat
  bank : Nat
  row : Nat
  column : Nat
  deriving DecidableEq, Repr

def hbmPlace (c : Nat) : HbmPlace :=
  { pc := c / 2 ^ 7 % 2, column := c / 2 ^ 8 % 8 * 4 + c / 2 ^ 5 % 4, bank := c / 2 ^ 11 % 48, row := c / 2 ^ 11 / 48 }

/-- The key in `State.hbm` of the byte at a channel address: by channel, pseudo-channel, bank, row, sector and byte (R699). The
128 bytes of a line stand together. -/
def hbmKey (ch c : Nat) : Nat :=
  let p := hbmPlace c
  ch * 2 ^ 32 + (((p.pc * 48 + p.bank) * 16384 + p.row) * 32 + p.column) * 32 + c % 32

/-- Write-backs of a channel that have not been granted, the oldest first. -/
def State.pendingWrites (s : State) (ch : Nat) : List HReq := s.hreqs.filter fun r => r.chan == ch && r.write && !r.granted

/-- A write-back's bytes merged into HBM (R611, R695). -/
def hbmMerge (m : PMem) (r : HReq) : PMem :=
  m.write (r.data.map fun e => (hbmKey r.chan (r.addr + e.1), e.2)) (r.poison.map fun w => hbmKey r.chan r.addr / 8 + w)

/-- HBM as a new request of the channel finds it: older write-backs are served first (age order, R703). -/
def State.hbmView (s : State) (ch : Nat) : PMem := (s.pendingWrites ch).foldl hbmMerge s.hbm

/-- Beats moved at a channel for a class: HBM_CH_SECTORS, the region's SERVED count, and the class's counter of the
present window (R695, R707). -/
def State.chargeBeats (s : State) (n ch cls beats : Nat) : State :=
  (((s.countMod (F.HBM_CH_SECTORS_SECTORS (ch / 16) (ch % 16)) beats).countMod (F.RGN_DLY_SERVED_SERVED n cls) beats).act n 7
    beats).modChan ch fun c => { c with used := smPut c.used cls (smGet c.used 0 cls + 32 * beats) }

/-- A fetch that an engine makes in one step, granted and counted there (R721, R722). -/
def State.chargeFetch (s : State) (n ch cls beats : Nat) : State :=
  (s.countGrant n cls (s.channelCount n) (smGet (s.chan ch).used 0 cls) ((s.chan ch).boosted.contains cls) false).chargeBeats n ch
    cls beats

/-- The sectors (a 4-bit mask) that a set of byte offsets of a line touches. -/
def sectorsOf (offs : List Nat) : Nat :=
  (List.range 4).foldl (fun m i => if offs.any (fun o => o / 32 == i) then m + 2 ^ i else m) 0

def popCount4 (m : Nat) : Nat := (List.range 4).countP fun i => m.testBit i

/-- Sectors written in part: a written sector with fewer than 32 of its bytes (R695). -/
def partialSectors (offs : List Nat) : Nat :=
  (List.range 4).countP fun i =>
    let k := offs.countP fun o => o / 32 == i
    0 < k && k < 32

/-- A write-back joins the channel's requests (R611, R701): the line's written bytes, with their poison. -/
def State.queueWrite (s : State) (n cls ch c : Nat) (l : CLine) : State :=
  if l.dirty.isEmpty then s
  else
    s.ask { id := 0, chan := ch, cls := cls, region := n, write := true, line := l.line, addr := c, sectors := sectorsOf l.dirty
            data := l.data.filter fun e => l.dirty.contains e.1
            poison := l.poison.filter fun w => l.dirty.any fun o => o / 8 == w }

/-- A dirty home line leaves the cache, or is cleaned: its write-back is queued (R611). -/
def State.writeBack (s : State) (n i cls : Nat) (l : CLine) : State :=
  if l.dirty.isEmpty then s
  else
    let (ch, c) := s.chanOf n (l.line * 128)
    (s.queueWrite n cls ch c l).countMod (F.MSL_WRITEBACKS_WRITEBACKS i)

/-- A borrowed line's bytes applied at its home slice: they are written there as any write (R618, R620). -/
def CLine.merge (home : CLine) (l : CLine) : CLine :=
  let m := PMem.write ⟨home.data, home.poison⟩ (l.data.filter fun e => l.dirty.contains e.1)
    (l.poison.filter fun w => l.dirty.any fun o => o / 8 == w)
  { home with data := m.bytes, poison := m.poison, dirty := l.dirty.foldl insertNat home.dirty }

/-- The line as the home slice holds it; a line it does not hold is allocated without reading the channel (R609). -/
def Slice.home (sl : Slice) (line : Nat) : CLine := (sl.find line).getD { line := line }

/-- A line is put into slice i's cache. When its set is full, the least recently used line of the set leaves: a dirty
home line is written back, a borrowed line is returned to its home slice, whose set may overflow in its turn, a copy is dropped
(R607, R611, R620). With no cache ways the line's bytes go to the channel at once (R612). -/
def State.putLineN : Nat → State → Nat → Nat → Nat → CLine → State
  | 0, s, _, i, _, l => (s.modSlice i fun x => x.put l).noteMeridian i
  | fuel + 1, s, n, i, cls, l =>
    let sl := (s.slice i).put l
    let inSet := sl.lines.filter fun m => setOf m.line == setOf l.line
    if s.cacheWays i = 0 then s.writeBack n i cls l
    else if inSet.length ≤ s.cacheWays i then (s.modSlice i fun _ => sl).noteMeridian i
    else
      match inSet.getLast? with
      | Option.none => s
      | some v =>
        let t := s.modSlice i fun _ => sl.remove v.line
        match v.kind with
        | .copy => t.noteMeridian i
        | .home => (t.writeBack n i cls v).noteMeridian i
        | .borrowed =>
          let h := s.homeOf n (v.line * 128)
          let u := t.modSlice h fun hs => { hs with
            tracker := hs.tracker.map fun e => if e.line == v.line then { e with borrower := Option.none } else e }
          State.putLineN fuel (u.noteMeridian i) n h cls (((u.slice h).home v.line).merge v)

/-- Each return leaves one borrowed line fewer, so as many steps as there are borrowed lines, and two more, are enough. -/
def State.putLine (s : State) (n i cls : Nat) (l : CLine) : State :=
  State.putLineN ((s.slices.map fun e => e.2.lines.countP fun x => x.kind == .borrowed).foldl (· + ·) 2) s n i cls l

/-- The recall of a borrowed line and the invalidation of its copies, whole (R618): the borrower returns its dirty
sectors and drops the line; every copy is dropped. -/
def State.settleLine (s : State) (n h line : Nat) (dropCopies : Bool) : State :=
  match (s.slice h).tracker.find? fun e => e.line == line with
  | Option.none => s
  | some e =>
    let s1 := match e.borrower with
      | Option.none => s
      | some b =>
        match (s.slice b).find line with
        | Option.none => s
        | some l =>
          let t := s.modSlice b fun sl => sl.remove line
          ((t.countSat (F.MSL_TRACKER_RECALLS h)).putLine n h cDYN (((t.slice h).home line).merge l)).noteMeridian b
    let s2 := if dropCopies then
        overList e.copies s1 fun u c => (u.modSlice c fun sl => sl.remove line).noteMeridian c
      else s1
    let e' : Tracker := { e with borrower := Option.none, copies := if dropCopies then [] else e.copies }
    (s2.modSlice h fun hs => { hs with
      tracker := if e'.copies.isEmpty && e'.reserved.isNone then hs.tracker.filter fun x => x.line != line
        else hs.tracker.map fun x => if x.line == line then e' else x }).noteMeridian h

/-- A sector is present in full in a line: fetched, or every byte of it written (R608, R610). -/
def CLine.has (l : CLine) (i : Nat) : Bool :=
  l.present.testBit i || (l.dirty.countP fun o => o / 32 == i) == 32

/-- The sectors of a mask that the line does not hold in full. -/
def CLine.missing (l : CLine) (mask : Nat) : Nat :=
  (List.range 4).foldl (fun m i => if mask.testBit i && !l.has i then m + 2 ^ i else m) 0

/-- Fetched sectors supply the bytes that have not been written, with the poison of their words (R609). -/
def CLine.fill (l : CLine) (hbm : PMem) (key mask : Nat) : CLine :=
  let offs := (List.range 128).filter fun o => mask.testBit (o / 32) && !l.dirty.contains o
  let data := offs.foldl (fun d o =>
    match hbm.bytes.find? fun e => e.1 == key + o with
    | some e => smPut d o e.2
    | Option.none => smDel d o) l.data
  let words := (offs.map (· / 8)).eraseDups
  { l with
    data := data
    poison := words.foldl (fun p w => if hbm.poisoned (key / 8 + w) then insertNat p w else p) l.poison
    present := l.present ||| mask }

/-- The missing sectors of an external line fetched from its channel at once, for the engines that access a home slice
as one step; a hit counts as a hit (MSL_EXT_HITS, MSL_EXT_MISSES). -/
def State.fetchLine (s : State) (n i line mask cls : Nat) : State :=
  let l := (s.slice i).home line
  let need := l.missing mask
  if need = 0 then (s.modSlice i fun sl => sl.put l).countMod (F.MSL_EXT_HITS_HITS i)
  else
    let (ch, c) := s.chanOf n (line * 128)
    let t := (s.countMod (F.MSL_EXT_MISSES_MISSES i)).chargeFetch n ch cls (popCount4 need)
    let l' := l.fill (s.hbmView ch) (hbmKey ch c) need
    if s.cacheWays i = 0 then t.modSlice i fun sl => sl.put l' else t.putLine n i cls l'

/-- With no cache ways the slice keeps no line (R612): what a forwarded access staged is dropped. -/
def State.dropStaged (s : State) (i line : Nat) : State :=
  if s.cacheWays i = 0 then s.modSlice i fun sl => sl.remove line else s

/-! ### Compressed lines (R600 to R605, R895) -/

/-- The 32 words of a compressed line; unwritten bytes count as 0 (R895). -/
def compWords (m : PMem) (base : Nat) : List Nat :=
  (List.range 32).map fun w => fromBytes ((List.range 4).map fun b => smGet m.bytes 0 (base + 4 * w + b))

/-- The fewest sectors a line is stored in (R600, R602). -/
def sectorsFor (words : List Nat) (poisoned : Bool) : Nat :=
  let w0 := words.headD 0
  let nz := words.countP (· ≠ 0)
  let near (lo hi : Int) : Bool := words.all fun w =>
    let d := toSigned 32 (w + 2 ^ 32 - w0)
    decide (lo ≤ d ∧ d ≤ hi)
  if poisoned then 4
  else if nz = 0 then 0
  else if nz ≤ 7 ∨ near (-64) 63 then 1
  else if nz ≤ 15 ∨ near (-16384) 16383 then 2
  else if nz ≤ 23 then 3
  else 4

/-- Overflow frames a quad of total T uses (R601). -/
def quadFrames (t : Nat) : Nat := if t ≤ 4 then 0 else ceilDiv t 4 - 1

def compBase (w v : Nat) : Nat := w * 2 ^ 46 + v
def lineKey (w line : Nat) : Nat := w * 2 ^ 40 + line

/-- The total of a quad's sectors (R601). -/
def quadTotal (sl : Slice) (w q : Nat) : Nat :=
  ((List.range 4).map fun i => smGet sl.sectors 0 (lineKey w (4 * q + i))).foldl (· + ·) 0

/-- The line of a compressed window recompressed after a write (R604): its sectors and the quad's overflow frames, or,
with too few frames free, a lost line whose every word is poisoned, counted and reported. -/
def State.recompress (s : State) (n i w line : Nat) : State :=
  let sl := s.slice i
  let base := compBase w (line * 128)
  let bad := (List.range 16).any fun j => sl.comp.poisoned (base / 8 + j)
  let k := sectorsFor (compWords sl.comp base) bad
  let old := quadFrames (quadTotal sl w (line / 4))
  let oldK := smGet sl.sectors 0 (lineKey w line)
  let new := quadFrames (quadTotal sl w (line / 4) - oldK + k)
  let used := smGet sl.ovf 0 w - old + new
  if used ≤ s.fld (F.WIN_OVF_OVF_FRAMES n w) then
    (s.modSlice i fun x => { x with sectors := smPut x.sectors (lineKey w line) k, ovf := smPut x.ovf w used }).setFld
      (F.MSL_OVF_USED_OVF_USED i) (s.fld (F.MSL_OVF_USED_OVF_USED i) - old + new)
  else
    let freed := quadFrames (quadTotal sl w (line / 4) - oldK)
    let t := s.modSlice i fun x => { x with
      sectors := smPut x.sectors (lineKey w line) 0
      ovf := smPut x.ovf w (smGet sl.ovf 0 w - old + freed)
      comp := { x.comp with poison := (List.range 16).foldl (fun p j => insertNat p (base / 8 + j)) x.comp.poison } }
    let u := (((t.setFld (F.MSL_OVF_USED_OVF_USED i) (s.fld (F.MSL_OVF_USED_OVF_USED i) - old + freed)).setBit
      (F.RGN_WIN_FLAGS_OVERFLOW n) w true).countSat (F.RGN_OVF_LOST_OVF_LOST n))
    u.integRaise { cls := 5, kind := kSliceSram, unit := i, region := some n
                   addr := s.fld (F.WIN_SLICE_BASE_SLICE_BASE n w) * 256 + 128 * (line / 4) }
      F.INT_INTEG_STATUS_LOST_LINE

/-! ### EXACT words (R669 to R675) -/

/-- The integer A of the 16 bytes at a slice-local byte. -/
def exactA (m : PMem) (draw byte : Nat) : Int := toSigned 128 (fromBytes (m.read draw byte 16).1)

/-- An EXACT word is poisoned. -/
def exactBad (m : PMem) (byte : Nat) : Bool := m.poisoned (byte / 8) || m.poisoned (byte / 8 + 1)

/-- The integer A stored clean. -/
def exactPut (m : PMem) (byte : Nat) (a : Int) : PMem := m.write (memAt byte (toBytes 16 (ofSigned 128 a))) []

/-- The word poisoned; its A is no part of any contract (R675). -/
def exactPoison (m : PMem) (byte : Nat) : PMem :=
  { m with poison := insertNat (insertNat m.poison (byte / 8)) (byte / 8 + 1) }

/-- A write of an FP32 value into an EXACT word (R674), `whole` when it covers the word. -/
def State.exactWrite (s : State) (n i w byte : Nat) (v : Nat) (whole bad : Bool) : State :=
  let byte := s.cell i byte
  let m := (s.slice i).sram
  let p := s.fld (F.WIN_CTRL_EXACT_POINT n w)
  if bad || (!whole && exactBad m byte) then s.modSlice i fun x => { x with sram := exactPoison x.sram byte }
  else
    match exactOf (fp32.decode v) p with
    | Option.none => s.setBit (F.RGN_WIN_FLAGS_OUT_OF_RANGE n) w true
    | some a =>
      let t := s.modSlice i fun x => { x with sram := exactPut x.sram byte a }
      if exactRounds (fp32.decode v) p then t.countSat (F.MSL_EXACT_ROUNDED_ROUNDED i) else t

/-- An EXACT_ADD of an FP32 value (R671, R675). -/
def State.exactAdd (s : State) (n i w byte : Nat) (v : Nat) (bad : Bool) : State :=
  let byte := s.cell i byte
  let m := (s.slice i).sram
  let p := s.fld (F.WIN_CTRL_EXACT_POINT n w)
  let t := s.countMod (F.MSL_EXACT_COUNT_EXACT i)
  if bad then t.modSlice i fun x => { x with sram := exactPoison x.sram byte }
  else
    match exactOf (fp32.decode v) p with
    | Option.none =>
      (t.setBit (F.RGN_WIN_FLAGS_OUT_OF_RANGE n) w true).countSat (F.MSL_EXACT_DISCARD_DISCARD i)
    | some f =>
      let sum := exactA m s.draws byte + f
      let poisoned := exactBad m byte
      let t1 := t.modSlice i fun x => { x with
        sram := { exactPut x.sram byte sum with poison := x.sram.poison } }
      let t2 := if !poisoned && (sum < -(2 ^ 127 : Int) || (2 ^ 127 : Int) ≤ sum)
        then t1.setBit (F.RGN_WIN_FLAGS_OUT_OF_RANGE n) w true else t1
      if exactRounds (fp32.decode v) p then t2.countSat (F.MSL_EXACT_ROUNDED_ROUNDED i) else t2

/-! ### Granules -/

/-- A payload for a granule of 64 bytes: bytes by offset, and the indices of its poisoned 8-byte words. -/
abbrev Payload := PMem

/-- A payload moved up by `b` bytes, a multiple of 8. -/
def PMem.shift (m : PMem) (b : Nat) : PMem :=
  { bytes := m.bytes.map fun e => (b + e.1, e.2), poison := m.poison.map (· + b / 8) }

/-- A granule as it is read: 64 bytes and the indices of its poisoned 8-byte words. -/
structure Granule where
  bytes : List Byte
  poison : List Nat
  deriving DecidableEq, Repr

/-- Merge of some bytes of a 4-byte word into its present value (R674). -/
def mergeWord (old : Nat) (pay : Payload) (o : Nat) : Nat :=
  fromBytes ((List.range 4).map fun b => smGet pay.bytes (BitVec.ofNat 8 (old / 256 ^ b)) (o + b))

/-- A granule read at its home slice, the line's sectors being present (`fetchLine`). An unwritten byte is undefined. -/
def State.readGranule (s : State) (n a : Nat) : Granule :=
  let g := a / 64 * 64
  match s.locate n g with
  | .none => ⟨(List.range 64).map fun i => Config.undefByte s.draws (g + i), []⟩
  | .pinned i b => let r := s.sramRead i s.draws b 64; ⟨r.1, r.2⟩
  | .exact i b w =>
    let m := (s.slice i).sram
    let p := s.fld (F.WIN_CTRL_EXACT_POINT n w)
    let sp := s.spares i
    ⟨(List.range 16).flatMap fun k => toBytes 4 (exactRead (exactA m s.draws (cellOf sp (b + 16 * k))) p),
      (List.range 8).filter fun j => exactBad m (cellOf sp (b + 32 * j)) || exactBad m (cellOf sp (b + 32 * j + 16))⟩
  | .comp i w v => let r := (s.slice i).comp.read s.draws (compBase w v) 64; ⟨r.1, r.2⟩
  | .ext i line =>
    let l := (s.slice i).home line
    let o := g % 128
    ⟨(List.range 64).map fun k => smGet l.data (Config.undefByte s.draws (g + k)) (o + k),
      (List.range 8).filter fun j => l.poison.contains (o / 8 + j)⟩

/-- A payload stored into a granule at its home slice, before a compressed line is recompressed. Writes of an external
line allocate without reading (R609). -/
def State.putGranule (s : State) (n a cls : Nat) (pay : Payload) : State :=
  let g := a / 64 * 64
  match s.locate n g with
  | .none => s
  | .pinned i b => s.sramWrite i (pay.shift b).bytes (pay.shift b).poison
  | .exact i b w =>
    overList (List.range 16) s fun u k =>
      let o := 4 * k
      let cnt := pay.bytes.countP fun e => e.1 / 4 == k
      if cnt = 0 then u
      else
        let old := exactRead (exactA (u.slice i).sram u.draws (u.cell i (b + 16 * k))) (u.fld (F.WIN_CTRL_EXACT_POINT n w))
        u.exactWrite n i w (b + 16 * k) (mergeWord old pay o) (cnt == 4) (pay.poison.contains (k / 2))
  | .comp i w v =>
    let base := compBase w v
    s.modSlice i fun x => { x with comp := x.comp.write (pay.shift base).bytes (pay.shift base).poison }
  | .ext i line =>
    let o := g % 128
    let l := (s.slice i).home line
    let m := PMem.write ⟨l.data, l.poison⟩ (pay.shift o).bytes (pay.shift o).poison
    let l' : CLine := { l with data := m.bytes, poison := m.poison
                               dirty := pay.bytes.foldl (fun d e => insertNat d (o + e.1)) l.dirty }
    (s.putLine n i cls l').dropStaged i line

/-- The slice, window and line of an address in a compressed window. -/
def State.compLine (s : State) (n a : Nat) : Option (Nat × Nat × Nat) :=
  match s.locate n a with
  | .comp i w v => some (i, w, v / 128)
  | _ => Option.none

/-- The line of an address recompressed, where it lies in a compressed window (R604). -/
def State.recompressAt (s : State) (n a : Nat) : State :=
  match s.compLine n a with
  | some l => s.recompress n l.1 l.2.1 l.2.2
  | Option.none => s

/-- A write of bytes of one granule. -/
def State.writeGranule (s : State) (n a cls : Nat) (pay : Payload) : State :=
  (s.putGranule n a cls pay).recompressAt n (a / 64 * 64)

/-- A write accepted at the home slice invalidates every Meridian copy and recalls a borrowed line first (R618). -/
def State.settleFor (s : State) (n a : Nat) (writing : Bool) : State :=
  match s.locate n a with
  | .ext i line => s.settleLine n i line writing
  | _ => s

/-- The sectors of the line that the granule of an address lies in. -/
def granuleSectors (a : Nat) : Nat := if a / 64 % 2 = 0 then 3 else 12

/-- A granule read as one coherent step by an engine that the home slice always serves (R613). -/
def State.loadGranule (s : State) (n a cls : Nat) : Granule × State :=
  match s.locate n a with
  | .ext i line =>
    let t := (s.settleLine n i line false).fetchLine n i line (granuleSectors a) cls
    let g := t.readGranule n a
    (g, { t.dropStaged i line with draws := t.draws + 1 })
  | _ => (s.readGranule n a, { s with draws := s.draws + 1 })

/-- A granule written as one coherent step. -/
def State.storeGranule (s : State) (n a cls : Nat) (pay : Payload) : State :=
  (s.settleFor n a true).writeGranule n a cls pay

/-- The sectors that `len` bytes from an address touch in its line. -/
def touched (a len : Nat) : Nat := sectorsOf ((List.range len).map (a % 128 + ·))

/-- A fetch of sectors of an external line at its home slice waits: its channel issues no reads now (R88, R112), or queue feedback
or a full class queue keeps the request out (R710, R711). -/
def State.fetchHeld (s : State) (n cls i line mask : Nat) : Bool :=
  let ch := (s.chanOf n (line * 128)).1
  ((s.slice i).home line).missing mask ≠ 0 && (!s.stackReady ch || s.chanFull ch || s.fedBack n cls ch)

/-- A fetch that refresh-only or feedback holds: its channel, and whether feedback does (R721). -/
def State.heldFetch (s : State) (n cls i line mask : Nat) : Option (Nat × Bool) :=
  let ch := (s.chanOf n (line * 128)).1
  if ((s.slice i).home line).missing mask = 0 then Option.none
  else if s.chanHeld ch then some (ch, false)
  else if s.fedBack n cls ch then some (ch, true) else Option.none

/-- An access to `len` bytes of one line waits: its slice does not serve (R88, R158, R853), or a fetch that it needs waits. -/
def State.pieceHeld (s : State) (n cls a len : Nat) : Bool :=
  (((s.locate n a).slice).any fun i => !s.sliceServes i) ||
  match s.locate n a with
  | .ext i line => s.fetchHeld n cls i line (touched a len)
  | _ => false

/-! ### Ranges -/

/-- The granules of a range of device addresses. -/
def granulesOf (a len : Nat) : List Nat :=
  if len = 0 then [] else (List.range ((a + len - 1) / 64 - a / 64 + 1)).map fun i => (a / 64 + i) * 64

/-- `len` bytes at their home slice, the line's sectors being present: the bytes and the poisoned words from the word of
`a` on. -/
def State.homeBytes (s : State) (n a len : Nat) : List Byte × List Nat :=
  (granulesOf a len).foldl (fun (acc : List Byte × List Nat) g =>
    let gr := s.readGranule n g
    let lo := a - g
    let hi := min 64 (a + len - g)
    (acc.1 ++ (gr.bytes.drop lo).take (hi - lo),
      acc.2 ++ ((gr.poison.map fun w => g / 8 + w).filter fun w => 8 * w + 8 > a && 8 * w < a + len).map fun w => w - a / 8))
    ([], [])

/-- Bytes of one line read as one coherent step: an external line's missing sectors that they touch are fetched (R608).
The bytes, and the poisoned words from the word of `a` on. -/
def State.loadPiece (s : State) (n a len cls : Nat) : List Byte × List Nat × State :=
  match s.locate n a with
  | .ext i line =>
    let t := (s.settleLine n i line false).fetchLine n i line (touched a len) cls
    let r := t.homeBytes n a len
    (r.1, r.2, { t.dropStaged i line with draws := t.draws + 1 })
  | _ =>
    let r := s.homeBytes n a len
    (r.1, r.2, { s with draws := s.draws + 1 })

/-- The pieces of a range that lie in one 128-byte line each: address and length. -/
def linesOf (a len : Nat) : List (Nat × Nat) :=
  if len = 0 then []
  else (List.range ((a + len - 1) / 128 - a / 128 + 1)).map fun i =>
    let lo := max a ((a / 128 + i) * 128)
    (lo, min (a + len) ((a / 128 + i + 1) * 128) - lo)

/-- A range of shared or external space read by an engine in READ packets of one line each (R525): its bytes, and the
poisoned 8-byte words as device addresses / 8. -/
def State.loadRange (s : State) (n a len cls : Nat) : List Byte × List Nat × State :=
  (linesOf a len).foldl (fun (acc : List Byte × List Nat × State) p =>
    let (bytes, bad, t) := acc.2.2.loadPiece n p.1 p.2 cls
    (acc.1 ++ bytes, acc.2.1 ++ bad.map (p.1 / 8 + ·), t)) ([], [], s)

/-- The payload of a write within a granule: the bytes by offset from `addr`, the poisoned words from the word of `addr` on. -/
def granulePay (addr : Nat) (bytes : Mem) (poison : List Nat) (g : Nat) : Payload :=
  ⟨(bytes.filter fun e => (addr + e.1) / 64 == g / 64).map fun e => (addr + e.1 - g, e.2),
    (poison.filter fun w => (addr / 8 + w) / 8 == g / 64).map fun w => addr / 8 + w - g / 8⟩

/-- A write applied at its home slices (R609, R618), given by its bytes by offset from `addr`: every Meridian copy of a line goes
first; a line of a compressed window is recompressed once (R604). -/
def State.homeStore (s : State) (n addr cls : Nat) (bytes : Mem) (poison : List Nat) : State :=
  let gs := (granulesOf addr ((bytes.getLast?.map (·.1)).getD 0 + 1)).filter fun g =>
    !(granulePay addr bytes poison g).bytes.isEmpty
  let t := overList gs s fun u g => (u.settleFor n g true).putGranule n g cls (granulePay addr bytes poison g)
  overList (gs.filterMap (s.compLine n)).eraseDups t fun u l => u.recompress n l.1 l.2.1 l.2.2

/-- A range written by an engine in WRITE packets of one line each (R525), with the poisoned 8-byte words as device
addresses / 8. -/
def State.storeRange (s : State) (n a cls : Nat) (bytes : List Byte) (bad : List Nat) : State :=
  if bytes.isEmpty then s
  else s.homeStore n a cls (memAt 0 bytes) ((bad.filter fun w => decide (a / 8 ≤ w)).map fun w => w - a / 8)

/-- A write to a line waits: its slice does not serve (R88, R158, R853), or the channel's class queues are full (R710). -/
def State.lineShut (s : State) (n a : Nat) : Bool :=
  (((s.locate n a).slice).any fun i => !s.sliceServes i) ||
  match s.locate n a with
  | .ext _ line => s.chanFull (s.chanOf n (line * 128)).1
  | _ => false

/-- A write to a range waits: one of its lines does. -/
def State.rangeShut (s : State) (n a len : Nat) : Bool := (linesOf a len).any fun p => s.lineShut n p.1

/-- An access of a class to a range waits: one of its lines does. -/
def State.rangeHeld (s : State) (n cls a len : Nat) : Bool := (linesOf a len).any fun p => s.pieceHeld n cls p.1 p.2

/-- The fetches of a range that refresh-only or feedback holds (R721). -/
def State.heldFetches (s : State) (n cls a len : Nat) : List (Nat × Bool) :=
  (linesOf a len).filterMap fun p =>
    match s.locate n p.1 with
    | .ext i line => s.heldFetch n cls i line (touched p.1 p.2)
    | _ => Option.none

/-- The write-backs that a step from `s` has queued from slices without cache ways and that their channels' queues have not taken
at once: while there are any, the step's writes are not accepted (R612). Their channels, with feedback as what holds them. -/
def State.untaken (s t : State) : List (Nat × Bool) :=
  (t.hreqs.filter fun r => !(s.hreqs.any fun q => q.id == r.id) && !r.injected && t.cacheWays (sliceOfChannel r.chan) == 0).map fun r =>
    (r.chan, true)

def State.writesTaken (s t : State) : Bool := (s.untaken t).isEmpty

end Sys2Proof.Machine
end

