-- ==== Sys2Proof/Machine/Operands.lean ====
section
/-! DEFINITION. The operand forms of the tile operations (09_tile_operation_set.md): scalar registers with their poison,
reserved fields, addresses and remote ranges, and the tile operand. -/

namespace Sys2Proof.Machine

/-! ### Exceptions (R396, R397) -/

def eILLEGAL_OP : Nat := 1
def eRSVD_FIELD : Nat := 2
def eSPACE_VIOLATION : Nat := 3
def eCLUSTER_RANGE : Nat := 4
def eMISALIGNED : Nat := 5
def eLINK_UNASSIGNED : Nat := 6
def eREAD_ONLY_WRITE : Nat := 7
def eQUEUE_UNBOUND : Nat := 8
def eFORMAT_MISMATCH : Nat := 9
def ePOISON_CONTROL : Nat := 10
def eCORE_UE : Nat := 11
def eATOMIC_MODE : Nat := 12
def eDMA_RANGE : Nat := 13

/-- A failed check: its exception code when it fails. -/
def check (code : Nat) (fails : Bool) : List Nat := if fails then [code] else []

/-- The lowest code of the checks that fail (R397). -/
def lowest (l : List Nat) : Option Nat := l.min?

/-! ### Scalar registers (R380, R422) -/

/-- sA: a register's value; s0 reads 0. -/
def Core.reg (c : Core) (i : Nat) : Word64 := if i = 0 then 0 else smGet c.regs 0 i

/-- The poison flag of a register. -/
def Core.regBad (c : Core) (i : Nat) : Bool := c.regPoison.contains i

/-- A register written, with its poison; a write to s0 is discarded. -/
def Core.setReg (c : Core) (i : Nat) (v : Word64) (bad : Bool) : Core :=
  if i = 0 then c
  else { c with regs := smPut c.regs i v
                regPoison := if bad then insertNat c.regPoison i else eraseNat c.regPoison i }

/-- sext(IMM). -/
def sextImm (imm : BitVec 28) : Word64 := imm.signExtend 64

/-- Bits of MOD and IMM. -/
def modBits (o : OpFields) (lo width : Nat) : Nat := bitsOf o.mod.toNat lo width
def immBits (o : OpFields) (lo width : Nat) : Nat := bitsOf o.imm.toNat lo width

/-- RSVD_FIELD for the fields an operation does not use (R420): the register fields used, and the bits of MOD and IMM
used as masks. -/
def unused (o : OpFields) (d a b c : Bool) (mod imm : Nat) : List Nat :=
  check eRSVD_FIELD ((!d && o.d.val ≠ 0) || (!a && o.a.val ≠ 0) || (!b && o.b.val ≠ 0) || (!c && o.c.val ≠ 0)
    || o.mod.toNat &&& (255 - mod) ≠ 0 || o.imm.toNat &&& (2 ^ 28 - 1 - imm) ≠ 0)

/-- POISON_CONTROL for the control operands (R395). -/
def control (c : Core) (regs : List Nat) : List Nat := check ePOISON_CONTROL (regs.any c.regBad)

/-! ### Addresses (R364, R445, R753) -/

/-- The size of a cluster's memory. -/
def clusterBytes : Nat := 0x180000

/-- A cluster-space address and length break R364. -/
def clusterBad (a len : Nat) : Bool := a / 2 ^ 21 % 2 ^ 25 ≠ 0 || clusterBytes < a % 2 ^ 21 + len

/-- The port of a link-window address, and its SPACE field (R752). -/
def linkPort (a : Nat) : Nat := a / 2 ^ 44 % 4
def linkSpace (a : Nat) : Nat := a / 2 ^ 42 % 4

/-- The window of a byte address; `none` outside every window. -/
def State.windowAt (s : State) (n a : Nat) : Option Nat := s.windowOf n (offsetOf a)

/-- Whether a condition holds at both ends of every piece (start, length) of a remote range. -/
def endsAll (l : List (Nat × Nat)) (p : Nat → Bool) : Bool := l.all fun r => p r.1 && p (r.1 + r.2 - 1)

/-- SPACE_VIOLATION and LINK_UNASSIGNED of a remote range given by its pieces (R445, R753); region n. -/
def State.rangeExc (s : State) (n : Nat) (l : List (Nat × Nat)) : List Nat :=
  match l with
  | [] => []
  | (a, _) :: _ =>
    let sp := spaceOf a
    check eSPACE_VIOLATION
      (!endsAll l (fun b => b < 2 ^ 48) || !endsAll l (fun b => spaceOf b == sp)
        || (sp == spShared && ((s.windowAt n a).isNone || !endsAll l fun b => s.windowAt n b == s.windowAt n a))
        || (sp == spExternal && !l.all fun r => s.extHolds n (offsetOf r.1) (offsetOf (r.1 + r.2 - 1))))
    ++ check eCLUSTER_RANGE (sp == spCluster && l.any fun r => clusterBad r.1 r.2)
    ++ check eLINK_UNASSIGNED (sp == spLink
        && (!(s.portsOf n).contains (linkPort a) || linkSpace a == 0
          || !endsAll l fun b => linkPort b == linkPort a && linkSpace b == linkSpace a))

/-- A shared-space address lies in a READ_ONLY window (R372, R596). -/
def State.readOnlyAt (s : State) (n a : Nat) : Bool :=
  spaceOf a == spShared && match s.windowAt n a with
    | some w => s.on (F.WIN_CTRL_READ_ONLY n w)
    | Option.none => false

/-- A shared-space address lies in an EXACT window. -/
def State.exactAt (s : State) (n a : Nat) : Bool :=
  spaceOf a == spShared && match s.windowAt n a with
    | some w => s.on (F.WIN_CTRL_ACCUM n w)
    | Option.none => false

/-- READ_ONLY_WRITE and ATOMIC_MODE of an atomic AOP on a target (R666): 9 is EXACT_ADD. -/
def State.atomicExc (s : State) (n a aop : Nat) : List Nat :=
  if spaceOf a = spLink then []
  else check eREAD_ONLY_WRITE (s.readOnlyAt n a)
    ++ check eATOMIC_MODE (if s.exactAt n a then aop ≠ 9 else aop == 9)

/-! ### The tile operand (R423 to R426) -/

/-- A tile descriptor's fields. -/
structure Tile where
  base : Nat
  fmt : Nat
  rows : Nat
  cols : Nat
  stride : Nat
  trans : Bool
  reserved : Bool
  deriving DecidableEq, Repr

/-- The descriptor in a register (R423). -/
def tileOf (w : Word64) : Tile :=
  let v := w.toNat
  { base := bitsOf v 0 21, fmt := bitsOf v 21 3, rows := bitsOf v 24 8 + 1, cols := bitsOf v 32 8 + 1
    stride := bitsOf v 40 16, trans := v.testBit 56, reserved := bitsOf v 57 7 ≠ 0 }

/-- The width of an element in bits (R402). -/
def fmtBits (f : Nat) : Nat := if f = 0 then 32 else if f ≤ 2 then 16 else if f ≤ 5 then 8 else 4

/-- Lines of a tile, their length in elements and in bytes LB, of which an odd number of 4-bit elements takes the last in half, and the
scale bytes of one line (R424, R425). -/
def Tile.lines (t : Tile) : Nat := if t.trans then t.cols else t.rows
def Tile.lineLen (t : Tile) : Nat := if t.trans then t.rows else t.cols
def Tile.lb (t : Tile) : Nat := ceilDiv (t.lineLen * fmtBits t.fmt) 8
def Tile.scales (t : Tile) : Nat := if t.fmt = 7 then t.lineLen / 32 else 0

/-- The first byte of line i, and of its scale bytes. -/
def Tile.lineAt (t : Tile) (i : Nat) : Nat := t.base + i * t.stride
def Tile.scaleAt (t : Tile) (i : Nat) : Nat := t.base + t.lines * t.stride + i * t.scales

/-- The pieces of cluster memory a tile takes: its lines, then its scale bytes. -/
def Tile.pieces (t : Tile) : List (Nat × Nat) :=
  ((List.range t.lines).map fun i => (t.lineAt i, t.lb)) ++
    (if t.fmt = 7 then [(t.scaleAt 0, t.lines * t.scales)] else [])

/-- One past the last byte of the tile. -/
def Tile.top (t : Tile) : Nat :=
  max (t.lineAt (t.lines - 1) + t.lb) (if t.fmt = 7 then t.scaleAt 0 + t.lines * t.scales else 0)

/-- The checks of R426. -/
def Tile.exc (t : Tile) : List Nat :=
  check eRSVD_FIELD (t.reserved || t.stride < t.lb)
  ++ check eCLUSTER_RANGE (clusterBytes < t.top)
  ++ check eMISALIGNED (t.base % 64 ≠ 0 || t.stride % 64 ≠ 0 || (t.fmt == 6 && t.lineLen % 2 ≠ 0)
      || (t.fmt == 7 && t.lineLen % 32 ≠ 0))

/-- The tile lies in the same place in the same form (R428). -/
def Tile.same (t u : Tile) : Bool :=
  t.base == u.base && t.fmt == u.fmt && t.stride == u.stride && t.trans == u.trans && t.rows == u.rows && t.cols == u.cols

/-- Two tiles share a byte. -/
def Tile.meets (t u : Tile) : Bool :=
  t.pieces.any fun p => u.pieces.any fun q => p.1 < q.1 + q.2 && q.1 < p.1 + p.2

/-- A source tile fits a destination's shape: equal, or broadcast (R427). -/
def Tile.fits (src dst : Tile) : Bool :=
  (src.rows == dst.rows || src.rows == 1) && (src.cols == dst.cols || src.cols == 1)

/-- The checks of a source against its destination (R427, R428). -/
def Tile.against (src dst : Tile) : List Nat :=
  check eRSVD_FIELD (!src.fits dst || (src.meets dst && !src.same dst))

/-! ### Elements of tiles (R405, R424, R425) -/

/-- Where element (r, c) lies: its line and its position there. -/
def Tile.place (t : Tile) (r c : Nat) : Nat × Nat := if t.trans then (c, r) else (r, c)

/-- The code of element (r, c) in a cluster memory. -/
def Tile.code (t : Tile) (m : PMem) (d r c : Nat) : Nat :=
  let (i, j) := t.place r c
  let w := fmtBits t.fmt
  let bitPos := j * w
  let v := fromBytes ((List.range (if w < 8 then 1 else w / 8)).map fun k => m.byte d (t.lineAt i + bitPos / 8 + k))
  v / 2 ^ (bitPos % 8) % 2 ^ w

/-- The scale code of the block of element (r, c) of an MXFP4 tile. -/
def Tile.scale (t : Tile) (m : PMem) (d r c : Nat) : Nat :=
  let (i, j) := t.place r c
  (m.byte d (t.scaleAt i + j / 32)).toNat

/-- A word that holds an element or a scale byte of the tile is poisoned. -/
def Tile.bad (t : Tile) (m : PMem) : Bool :=
  t.pieces.any fun p => m.poison.any fun w => p.1 < 8 * w + 8 && 8 * w < p.1 + p.2

/-- Element (r, c) of a source as broadcast over a destination. -/
def Tile.pick (t : Tile) (r c : Nat) : Nat × Nat := (if t.rows = 1 then 0 else r, if t.cols = 1 then 0 else c)

/-- The bytes of a line of codes of width w. -/
def packLine (w : Nat) (codes : List Nat) : List Byte :=
  match w with
  | 4 => pairs codes
  | _ => codes.flatMap fun v => toBytes (w / 8) v
where
  /-- Two 4-bit codes to a byte, the first in bits 3:0. -/
  pairs : List Nat → List Byte
    | a :: b :: l => BitVec.ofNat 8 (a % 16 + 16 * (b % 16)) :: pairs l
    | [a] => [BitVec.ofNat 8 (a % 16)]
    | [] => []

/-- The poisoned words of a range of bytes, all of them. -/
def wordsOf (bytes : Mem) : List Nat := bytes.foldl (fun l e => insertNat l (e.1 / 8)) []

/-- A tile written: the code of every element, the scale code of every block, and whether every word is poisoned
(R393). -/
def Tile.write (t : Tile) (m : PMem) (code : Nat → Nat → Nat) (scale : Nat → Nat → Nat) (bad : Bool) : PMem :=
  let at' := fun (i j : Nat) => if t.trans then code j i else code i j
  let lines := (List.range t.lines).flatMap fun i =>
    memAt (t.lineAt i) (packLine (fmtBits t.fmt) ((List.range t.lineLen).map (at' i)))
  let sc := (List.range t.lines).flatMap fun i =>
    memAt (t.scaleAt i) ((List.range t.scales).map fun b => BitVec.ofNat 8 (scale i b))
  let m1 := m.write lines (if bad then wordsOf lines else [])
  m1.write sc (if bad then wordsOf sc else [])

end Sys2Proof.Machine
end

