-- ==== Sys2Proof/Machine/Atomics.lean ====
section
/-! DEFINITION. What an atomic does to its target word (15_atomics_and_rulebook_gather.md, R662 to R665, R668) and where it
is performed in slices and cluster memory. -/

namespace Sys2Proof.Machine

/-- Bytes of an atomic's target: 8 for B64, else 4. -/
def atomBytes (fmt : Nat) : Nat := if fmt = 5 then 8 else 4

/-- The pairings of AOP and AFMT that R469 defines. -/
def atomDefined (aop fmt : Nat) : Bool :=
  match aop with
  | 0 => fmt ≤ 4
  | 1 | 2 => fmt ≤ 2
  | 3 | 4 | 5 | 6 | 7 => fmt == 0 || fmt == 5
  | 8 => fmt == 1
  | 9 => fmt == 2
  | _ => false

/-- The floating-point sum of two codes, rounded once (R663). -/
def addCodes (f : Ieee) (a b : Nat) : Nat := f.encode ((f.decode a).add (f.decode b))

/-- MIN or MAX of two codes as R461 gives; the operands' codes are kept. -/
def minCodes (f : Ieee) (mx : Bool) (a b : Nat) : Nat :=
  let x := f.decode a
  let y := f.decode b
  if x.isNan || y.isNan then f.canonicalNan
  else if (if mx then x.less y else y.less x) then b else a

/-- The new value of a word (R662) from the old value, the operand and the compare value; EXACT_ADD is `State.exactAdd`. -/
def atomicNew (aop fmt old x c : Nat) : Nat :=
  let m := 2 ^ (8 * atomBytes fmt)
  let a := old % m
  let b := x % m
  match aop with
  | 0 =>
    if fmt = 2 then addCodes fp32 a b
    else if fmt = 3 then addCodes bf16 (a % 65536) (b % 65536) + 65536 * addCodes bf16 (a / 65536) (b / 65536)
    else if fmt = 4 then addCodes fp16 (a % 65536) (b % 65536) + 65536 * addCodes fp16 (a / 65536) (b / 65536)
    else (a + b) % m
  | 1 => if fmt = 2 then minCodes fp32 false a b else if fmt = 1 then min a b
         else if toSigned 32 b < toSigned 32 a then b else a
  | 2 => if fmt = 2 then minCodes fp32 true a b else if fmt = 1 then max a b
         else if toSigned 32 a < toSigned 32 b then b else a
  | 3 => a &&& b
  | 4 => a ||| b
  | 5 => a ^^^ b
  | 6 => b
  | 7 => if a = c % m then b else a
  | 8 => if b ≤ a then 0 else a + 1
  | _ => a

/-- What sD receives (R664): sign-extended for INT32. -/
def atomicOld (fmt old : Nat) : Word64 :=
  if fmt = 0 then BitVec.ofInt 64 (toSigned 32 old) else BitVec.ofNat 64 (old % 2 ^ (8 * atomBytes fmt))

/-- An atomic on bytes of a store: the old value, whether the result is poisoned, and the store (R665). -/
def atomicOn (m : PMem) (draw byte aop fmt x c : Nat) (bad : Bool) : Nat × Bool × PMem :=
  let k := atomBytes fmt
  let old := fromBytes (m.read draw byte k).1
  let b := bad || m.poisoned (byte / 8)
  (old, b, m.write (memAt byte (toBytes k (atomicNew aop fmt old x c))) (if b then [byte / 8] else []))

/-- An atomic performed at its home slice's atomic unit on a granule that is present there: the old value, whether it is
poisoned, and the state (R655, R671). -/
def State.performAtomic (s : State) (n a aop fmt x c : Nat) (bad : Bool) : Nat × Bool × State :=
  let count (t : State) (i : Nat) : State := t.countMod (F.MSL_ATOM_COUNT_ATOMS i)
  match s.locate n a with
  | .none => (0, false, s)
  | .pinned i b =>
    let (old, p, m) := atomicOn (s.slice i).sram s.draws (s.cell i b) aop fmt x c bad
    (old, p, count { (s.modSlice i fun y => { y with sram := m }) with draws := s.draws + 1 } i)
  | .comp i w v =>
    let (old, p, m) := atomicOn (s.slice i).comp s.draws (compBase w v) aop fmt x c bad
    (old, p, count ({ (s.modSlice i fun y => { y with comp := m }) with draws := s.draws + 1 }.recompress n i w (v / 128)) i)
  | .exact i b w =>
    let m := (s.slice i).sram
    let old := exactRead (exactA m s.draws (s.cell i b)) (s.fld (F.WIN_CTRL_EXACT_POINT n w))
    let p := bad || exactBad m (s.cell i b)
    (old, p, count { s.exactAdd n i w b x bad with draws := s.draws + 1 } i)
  | .ext i line =>
    let l := (s.slice i).home line
    let (old, p, m) := atomicOn ⟨l.data, l.poison⟩ s.draws (a % 128) aop fmt x c bad
    let offs := (List.range (atomBytes fmt)).map (a % 128 + ·)
    let l' : CLine := { l with data := m.bytes, poison := m.poison, dirty := offs.foldl insertNat l.dirty }
    let cls := if s.cacheWays i = 0 then cMGMT else cDYN
    (old, p, count { ((s.putLine n i cls l').dropStaged i line) with draws := s.draws + 1 } i)

/-! ### Element atomics (R661, R668) -/

/-- The number format of a 16- or 32-bit element. -/
def ieeeOf (fmt : Nat) : Ieee := if fmt = 0 then fp32 else if fmt = 1 then bf16 else fp16

/-- The new code of an element under AOP ADD, MIN or MAX (R668). -/
def elementNew (aop fmt old x : Nat) : Nat :=
  let f := ieeeOf fmt
  if aop = 0 then addCodes f old x else minCodes f (aop == 2) old x

/-- The slice that performs an atomic. -/
def Loc.home : Loc → Option Nat
  | .none => Option.none
  | .pinned i _ | .exact i _ _ | .comp i _ _ | .ext i _ => some i

/-- One element atomic of a TATOM or SCATTER: an access as one coherent step at the word's home slice (R613), which counts
it. -/
def State.elementAtomic (s : State) (n a aop fmt x cls : Nat) (bad : Bool) : State :=
  let s := match (s.locate n a).home with
    | some i => s.countMod (F.MSL_ATOM_COUNT_ATOMS i)
    | Option.none => s
  let s1 := match s.locate n a with
    | .ext i line => (s.settleLine n i line true).fetchLine n i line (touched a (fmtBits fmt / 8)) cls
    | _ => s
  if aop = 9 then
    match s1.locate n a with
    | .exact i b w => s1.exactAdd n i w b x bad
    | _ => s1
  else
    let k := fmtBits fmt / 8
    let g := s1.readGranule n a
    let o := a % 64
    let old := fromBytes ((g.bytes.drop o).take k)
    let p := bad || g.poison.contains (o / 8)
    let pay : Payload := ⟨memAt o (toBytes k (elementNew aop fmt old x)), if p then [o / 8] else []⟩
    let cls := match (s1.locate n a).home with
      | some i => if s1.cacheWays i = 0 then cMGMT else cls
      | Option.none => cls
    { s1.writeGranule n a cls pay with draws := s1.draws + 1 }

end Sys2Proof.Machine
end

