-- ==== Sys2Proof/Machine/Flags.lean ====
section
/-! DEFINITION. Functions and conditions of the scalar unit (09_tile_operation_set.md, R435, R437). A core has no flags:
a condition compares two registers. -/

namespace Sys2Proof.Machine

/-- The signed value of a 64-bit word. -/
def s64 (v : Word64) : Int := v.toInt

/-- FUNC of ALU and ALUI (R435); none for 13 to 15. -/
def aluFn (f : Nat) (a x : Word64) : Option Word64 :=
  match f with
  | 0 => some (a + x)
  | 1 => some (a - x)
  | 2 => some (a &&& x)
  | 3 => some (a ||| x)
  | 4 => some (a ^^^ x)
  | 5 => some (a <<< (x.toNat % 64))
  | 6 => some (a >>> (x.toNat % 64))
  | 7 => some (a.sshiftRight (x.toNat % 64))
  | 8 => some (a * x)
  | 9 => some (if a.slt x then a else x)
  | 10 => some (if a.slt x then x else a)
  | 11 => some (if a.slt x then 1 else 0)
  | 12 => some (if a.ult x then 1 else 0)
  | _ => none

/-- COND of BR (R435); none for 7. -/
def brCond (c : Nat) (a b : Word64) : Option Bool :=
  match c with
  | 0 => some true
  | 1 => some (a == b)
  | 2 => some (a != b)
  | 3 => some (a.slt b)
  | 4 => some (!a.slt b)
  | 5 => some (a.ult b)
  | 6 => some (!a.ult b)
  | _ => none

/-- The wait condition of WAITC and WAITF (R439): (now - want) mod 2^32 < 2^31. -/
def reached (now want : Nat) : Bool := (now + 2 ^ 32 - want % 2 ^ 32) % 2 ^ 32 < 2 ^ 31

end Sys2Proof.Machine
end

