-- ==== Sys2Proof/Machine/Routes.lean ====
section
/-! DEFINITION. Routes of the dynamic plane (11_dynamic_and_control_planes.md, R530 to R537): direct routes of the
west-first turn model, relays, isolated tiles, and the route change that a tile fence starts. -/

namespace Sys2Proof.Machine

/-- Hop distances found by a search: (tile, hops). -/
abbrev Hops := List (Nat × Nat)

def Hops.get (h : Hops) (t : Nat) : Option Nat := (h.find? fun e => e.1 == t).map (·.2)

/-- The tiles from which one hop north, south or east reaches tile t. -/
def hopsInto (t : Nat) : List Nat :=
  (if 0 < tileY t then [t - 16] else []) ++ (if tileY t < 11 then [t + 16] else [])
    ++ (if 0 < tileX t then [t - 1] else [])

/-- Breadth-first search toward a destination without west hops, through live tiles. -/
def searchEast (live : List Nat) : Nat → List Nat → Nat → Hops → Hops
  | 0, _, _, found => found
  | fuel + 1, front, k, found =>
    let next := ((front.flatMap hopsInto).filter fun t => live.contains t && (found.get t).isNone).eraseDups
    if next.isEmpty then found
    else searchEast live fuel next (k + 1) (found ++ next.map fun t => (t, k + 1))

def eastHops (live : List Nat) (d : Nat) : Hops := searchEast live 192 [d] 0 [(d, 0)]

/-- The hops of the direct route from a tile (R530): west hops in its row first, then hops in the other directions. -/
def directFrom (live : List Nat) (h : Hops) (src : Nat) : Option Nat :=
  let west := ((List.range (tileX src + 1)).takeWhile fun k => live.contains (src - k))
  (west.filterMap fun k => (h.get (src - k)).map (k + ·)).min?

/-- The direct routes among live tiles: (source, destination, hops). -/
def directRoutes (live : List Nat) : List (Nat × Nat × Nat) :=
  live.flatMap fun d =>
    let h := eastHops live d
    live.filterMap fun s => (directFrom live h s).map fun k => (s, d, k)

def hopsOf (routes : List (Nat × Nat × Nat)) (s d : Nat) : Option Nat :=
  (routes.find? fun r => r.1 == s && r.2.1 == d).map (·.2.2)

/-- The relay of a pair without a direct route: fewest hops, then the lowest tile ID, among the relays with a bounce
entry free for the source (R531, R532). A pair may use both virtual channels, each with bounce entries of its own, so the
assignment is the same on both. -/
def chooseRelay (live : List Nat) (routes : List (Nat × Nat × Nat)) (used : List (Nat × Nat)) (s d : Nat) : Option Nat :=
  let room (r : Nat) : Bool := used.contains (s, r) || (used.countP fun e => e.2 == r) < 16
  let cands := live.filterMap fun r =>
    match hopsOf routes s r, hopsOf routes r d with
    | some a, some b => if room r then some (a + b, r) else none
    | _, _ => none
  (cands.foldl (fun (best : Option (Nat × Nat)) c =>
    match best with
    | none => some c
    | some b => if c.1 < b.1 ∨ (c.1 = b.1 ∧ c.2 < b.2) then some c else best) none).map (·.2)

/-- The relays of every pair of live tiles that has no direct route: (source, destination, relay). -/
def relayRoutes (live : List Nat) (routes : List (Nat × Nat × Nat)) : List (Nat × Nat × Nat) :=
  (live.flatMap fun s => live.map fun d => (s, d)).foldl (fun acc p =>
    if (hopsOf routes p.1 p.2).isSome then acc
    else
      match chooseRelay live routes ((acc.map fun e => (e.1, e.2.2)).eraseDups) p.1 p.2 with
      | none => acc
      | some r => acc ++ [(p.1, p.2, r)]) []

/-- The live tiles of region n (R530): its tiles that are neither fenced nor about to be. -/
def State.liveTiles (s : State) (n : Nat) : List Nat :=
  (s.tilesOf n).filter fun t => !s.tileFenced t && !(s.rgn n).pendingFences.contains (.tile, t)

/-- The routes of a region: its relays, its isolated cluster tiles (R533), and whether every two of its slices have a
route between them (R534). With no tile fenced every pair has a direct route. -/
structure RouteMap where
  relays : List (Nat × Nat × Nat) := []
  isolated : List Nat := []
  slicesJoined : Bool := true
  deriving DecidableEq, Repr

def State.routeMap (s : State) (n : Nat) : RouteMap :=
  let live := s.liveTiles n
  if live.length = (s.tilesOf n).length then {}
  else
    let direct := directRoutes live
    let relays := relayRoutes live direct
    let linked (a b : Nat) : Bool := (hopsOf direct a b).isSome || relays.any fun r => r.1 == a && r.2.1 == b
    let slices := live.filter isSliceTile
    { relays := relays
      isolated := (live.filter fun t => !isSliceTile t).filter fun t =>
        !(slices.any fun x => linked t x) || !(slices.any fun x => linked x t)
      slicesJoined := slices.all fun a => slices.all fun b => linked a b }

/-- The routes, relays and isolated tiles of a region installed, with their registers (R533, R554). -/
def State.installRoutes (s : State) (n : Nat) (m : RouteMap) : State :=
  let t := s.modRgn n fun r => { r with
    relays := m.relays, isolated := m.isolated, dead := (s.tilesOf n).filter fun t => !(s.liveTiles n).contains t }
  (((t.setFld (F.DYN_ROUTE_RELAYED n) (min ((m.relays.map (·.1)).eraseDups.length) 255)).setFld (F.DYN_ROUTE_ISOLATED n)
    m.isolated.length).setFld (F.DYN_ISOLATED_VALID n) (bit (!m.isolated.isEmpty))).setFld (F.DYN_ISOLATED_FIRST_TILE n)
      (m.isolated.headD 0)

end Sys2Proof.Machine
end

