-- ==== Sys2Proof/Machine/Mesh.lean ====
section
/-! DEFINITION. The routers of the dynamic plane (11_dynamic_and_control_planes.md, R524 to R535, R540): the flits of a packet,
its path, the input buffers with their link credits, and the way of flits from the sources to the units. How many tile cycles
pass between two commands the model does not say: whenever a packet is to be delivered, the plane has run until nothing more
moves in it (log 152). -/

namespace Sys2Proof.Machine

/-! ### Flits (R524, R525, R387) -/

/-- The virtual channel: 0 REQ, 1 RSP. -/
def Packet.vc (p : Packet) : Nat := bit (isResponse p.kind)

/-- A header flit, and for WRITE and DATA the 32-byte payload flits that its bytes touch, 1 to 4. -/
def Packet.flits (p : Packet) : Nat :=
  match p.kind with
  | .write | .data => 1 + max 1 (min 4 (p.bytes.map fun e => (p.addr + e.1) / 32).eraseDups.length)
  | _ => 1

/-! ### Paths (R530, R531) -/

/-- The next tile in a direction: 0 W, 1 S, 2 N, 3 E. -/
def tileBeside (t dir : Nat) : Nat := if dir = 0 then t - 1 else if dir = 1 then t - 16 else if dir = 2 then t + 16 else t + 1

/-- The direction from a tile to one beside it; 4, the router's local port, to itself. -/
def dirTo (t u : Nat) : Nat :=
  if u = t then 4 else if u + 1 = t then 0 else if u + 16 = t then 1 else if t + 16 = u then 2 else 3

/-- The direct route where every tile is live: west, then south or north, then east. -/
def straightPath (a b : Nat) : List Nat :=
  let x := min (tileX a) (tileX b)
  a :: ((List.range (tileX a - tileX b)).map fun k => a - (k + 1))
    ++ ((List.range (tileY a - tileY b)).map fun k => 16 * (tileY a - (k + 1)) + x)
    ++ ((List.range (tileY b - tileY a)).map fun k => 16 * (tileY a + (k + 1)) + x)
    ++ ((List.range (tileX b - tileX a)).map fun k => 16 * tileY b + tileX a + (k + 1))

/-- The next hop of a direct route: the first direction in the order W, S, N, E that lies on a shortest path to the destination
whose hop distances without west hops are `h`; `west` tells that every hop so far went west. -/
def nextHop (live : List Nat) (h : Hops) (west : Bool) (t : Nat) : Option (Nat × Bool) :=
  let left (w : Bool) (u : Nat) : Option Nat := if w then directFrom live h u else h.get u
  match left west t with
  | none => none
  | some k =>
    if west && 0 < tileX t && live.contains (t - 1) && (left true (t - 1)).any (· + 1 == k) then some (t - 1, true)
    else if 0 < tileY t && (h.get (t - 16)).any (· + 1 == k) then some (t - 16, false)
    else if (h.get (t + 16)).any (· + 1 == k) then some (t + 16, false)
    else if (h.get (t + 1)).any (· + 1 == k) then some (t + 1, false) else none

/-- The tiles of a direct route, from a tile on. -/
def walk (live : List Nat) (h : Hops) (d : Nat) : Nat → Bool → Nat → Option (List Nat)
  | 0, _, _ => none
  | fuel + 1, west, t =>
    if t = d then some [t]
    else
      match nextHop live h west t with
      | none => none
      | some (u, w) => (walk live h d fuel w u).map (t :: ·)

/-- The direct route between two tiles of region n on the routes in force. -/
def State.directPath (s : State) (n a b : Nat) : Option (List Nat) :=
  let dead := (s.rgn n).dead
  if dead.isEmpty then some (straightPath a b)
  else
    let live := (s.tilesOf n).filter fun t => !dead.contains t
    if live.contains a && live.contains b then walk live (eastHops live b) b 192 true a else none

/-- A route: its relay, if it has one, and its legs. -/
structure Route where
  relay : Option Nat := none
  first : List Nat
  second : List Nat := []
  deriving DecidableEq, Repr

/-- The route of a pair of tiles (R530, R531); none when the pair is unroutable (R533). -/
def State.route (s : State) (n a b : Nat) : Option Route :=
  match s.directPath n a b with
  | some p => some { first := p }
  | none =>
    match (s.rgn n).relays.find? fun r => r.1 == a && r.2.1 == b with
    | none => none
    | some r =>
      match s.directPath n a r.2.2, s.directPath n r.2.2 b with
      | some p, some q => some { relay := some r.2.2, first := p, second := q }
      | _, _ => none

/-- Every router of a path is powered and clocked (R57, R88): no island on it is gated (R540). -/
def State.pathOpen (s : State) (path : List Nat) : Bool :=
  path.all fun t => !s.clockStopped t && (isSliceTile t || s.bitAt F.CLK_ISLAND_POWERED (islandOfTile t))

/-- A tile takes no part in region n's plane any more: fenced, about to be, or isolated (R533, R537, R539). -/
def State.cutOff (s : State) (n t : Nat) : Bool :=
  s.tileFenced t || (s.rgn n).pendingFences.contains (.tile, t) || (s.rgn n).isolated.contains t

/-! ### The routers (R527, R528) -/

/-- What moves in the planes: the packets, the routers, and the credits on their way over the control network. -/
structure Plane where
  net : List Packet
  mesh : Mesh
  ctl : SMap CtlMsg
  deriving DecidableEq, Repr

/-- The key of an input buffer, or of an output: inputs and outputs are 0 W, 1 S, 2 N, 3 E and 4, the local port. -/
def portKey (tile dir vc : Nat) : Nat := 10 * tile + 2 * dir + vc

/-- The flits that a router input buffer holds for a virtual channel. -/
def inputFlits : Nat := 8

def Mesh.buf (m : Mesh) (tile dir vc : Nat) : List Nat := smGet m.bufs [] (portKey tile dir vc)

def Mesh.setBuf (m : Mesh) (tile dir vc : Nat) (l : List Nat) : Mesh :=
  { m with bufs := if l.isEmpty then smDel m.bufs (portKey tile dir vc) else smPut m.bufs (portKey tile dir vc) l }

/-- The upstream router holds a credit for the buffer. -/
def Mesh.hasRoom (m : Mesh) (tile dir vc : Nat) : Bool := (m.buf tile dir vc).length < inputFlits

def Plane.packet (pl : Plane) (id : Nat) : Option Packet := pl.net.find? fun p => p.id == id

def Plane.modPacket (pl : Plane) (id : Nat) (f : Packet → Packet) : Plane :=
  { pl with net := pl.net.map fun p => if p.id == id then f p else p }

/-! #### Entering the plane (R532, R533, R535, R537, R540) -/

/-- The header of a packet may leave its source now. The region's plane does not quiesce, or the packet is a response of a unit
other than a slice (R537); its tile is not isolated; no earlier packet of its source, destination and virtual channel waits
(R535); its route exists, no island on it is gated, and the source holds the relay's credit. -/
def State.mayEnter (s : State) (pl : Plane) (p : Packet) : Option Route :=
  let a := agentTile p.src
  let quiet := s.bitAt F.DYN_QUIESCING_QUIESCING p.region && (!isResponse p.kind || isSliceTile a)
  let earlier := (pl.net.takeWhile fun q => q.id != p.id).any fun q =>
    q.place == .source && agentTile q.src == a && q.dstTile == p.dstTile && q.vc == p.vc
  if quiet || earlier || (s.rgn p.region).isolated.contains a then none
  else
    match s.route p.region a p.dstTile with
    | none => none
    | some r =>
      if s.pathOpen r.first && s.pathOpen r.second && r.relay.all fun x => !pl.mesh.credits.contains (a, x, p.vc)
      then some r else none

/-- The local input of a tile is taken by a packet of the channel whose tail has not entered (R527). -/
def Plane.localBusy (pl : Plane) (p : Packet) (tile : Nat) : Bool :=
  pl.net.any fun q => q.id != p.id && q.place == .plane && q.entered < q.flits && q.path.head? == some tile && q.vc == p.vc

/-- A flit of a packet goes into the local input buffer of the tile where its leg begins. The credit of a relay starts back when
the packet has left its bounce buffer (R532). -/
def Plane.enterFlit (pl : Plane) (p : Packet) (tile : Nat) : Option Plane :=
  if pl.localBusy p tile || !pl.mesh.hasRoom tile 4 p.vc then none
  else
    let q : Packet := { p with place := .plane, entered := p.entered + 1 }
    let t := { pl with mesh := pl.mesh.setBuf tile 4 p.vc (pl.mesh.buf tile 4 p.vc ++ [p.id]) }.modPacket p.id fun _ => q
    some (if q.bounced && q.entered == q.flits then
        { t with ctl := smPut t.ctl p.id (.relayCredit p.region (agentTile p.src) tile p.vc) }
      else t)

/-- A packet at its source, in a bounce buffer, or with its tail still at the start of its leg, puts one flit more into the plane. -/
def State.enter (s : State) (pl : Plane) (p : Packet) : Option Plane :=
  match p.place with
  | .unit => none
  | .plane => if p.entered < p.flits then (p.path.head?).bind fun t => pl.enterFlit p t else none
  | .bounce =>
    match p.relay with
    | none => none
    | some r =>
      match s.directPath p.region r p.dstTile with
      | none => none
      | some path => if s.pathOpen path then pl.enterFlit { p with path := path, entered := 0 } r else none
  | .source =>
    match s.mayEnter pl p with
    | none => none
    | some r =>
      let q : Packet := { p with path := r.first, entered := 0, relay := r.relay }
      let pl' : Plane := match r.relay with
        | none => pl
        | some x => { pl with mesh := { pl.mesh with credits := pl.mesh.credits ++ [(agentTile p.src, x, p.vc)] } }
      pl'.enterFlit q (agentTile p.src)

/-! #### Hops (R527, R528) -/

/-- The output that a packet takes at a tile of its path. -/
def Packet.outAt (p : Packet) (tile : Nat) : Nat :=
  match (p.path.dropWhile (· != tile)).tail.head? with
  | none => 4
  | some u => dirTo tile u

/-- The header of a packet stands at the front of an input and asks for an output. -/
def Plane.asks (pl : Plane) (tile out vc input : Nat) : Option Packet :=
  match (pl.mesh.buf tile input vc).head? with
  | none => none
  | some id =>
    if pl.mesh.outs.any fun e => e.1 / 10 == tile && e.1 % 2 == vc && e.2.id == id && e.2.input == input then none
    else (pl.packet id).bind fun p => if p.outAt tile = out then some p else none

/-- The output is granted to a header, in rotating order over the inputs (R528). -/
def Plane.grantOut (pl : Plane) (tile out vc : Nat) : Plane :=
  let key := portKey tile out vc
  if pl.mesh.outs.any fun e => e.1 == key then pl
  else
    let last := smGet pl.mesh.turns 4 key
    match ((List.range 5).map fun k => (last + 1 + k) % 5).findSome? fun i => (pl.asks tile out vc i).map fun p => (i, p) with
    | none => pl
    | some (i, p) =>
      { pl with mesh := { pl.mesh with outs := smPut pl.mesh.outs key ⟨p.id, i, p.flits⟩, turns := smPut pl.mesh.turns key i } }

/-- One flit of the packet that holds an output passes it: over the link, where the next router's buffer has room (R527), or
into the bounce buffer of its relay, which has room for it (R532). At its destination a packet waits for its unit. -/
def State.hopVc (s : State) (pl0 : Plane) (tile out vc : Nat) : Option Plane :=
  let pl := pl0.grantOut tile out vc
  let key := portKey tile out vc
  match (pl.mesh.outs.find? fun e => e.1 == key).map (·.2) with
  | none => none
  | some g =>
    match pl.mesh.buf tile g.input vc, pl.packet g.id with
    | id :: rest, some p =>
      let next := tileBeside tile out
      if id ≠ g.id || s.clockStopped tile then none
      else
        let m := pl.mesh.setBuf tile g.input vc rest
        let m : Mesh := { m with outs := if g.left ≤ 1 then smDel m.outs key else smPut m.outs key { g with left := g.left - 1 } }
        if out = 4 then
          if p.relay = some tile && !p.bounced then
            let t : Plane := { pl with mesh := m }
            some (if g.left ≤ 1 then t.modPacket g.id fun q => { q with place := .bounce, bounced := true, path := [], entered := 0 }
              else t)
          else none
        else if s.clockStopped next || !m.hasRoom next (3 - out) vc then none
        else some { pl with mesh := m.setBuf next (3 - out) vc (m.buf next (3 - out) vc ++ [id]) }
    | _, _ => none

/-- An output sends at most one flit in a cycle, RSP before REQ (R528). -/
def State.hop (s : State) (pl : Plane) (tile out : Nat) : Option Plane := s.hopVc pl tile out 1 <|> s.hopVc pl tile out 0

/-- A cycle: each output of each router with flits, and then each packet that enters. -/
def State.sweep (s : State) (pl : Plane) : Plane × Bool :=
  let outs := ((pl.mesh.bufs.map fun e => e.1 / 10).eraseDups).flatMap fun t => (List.range 5).map fun o => (t, o)
  let step (acc : Plane × Bool) (r : Option Plane) : Plane × Bool := match r with | some x => (x, true) | none => acc
  let r := outs.foldl (fun acc o => step acc (s.hop acc.1 o.1 o.2)) (pl, false)
  (r.1.net.map Packet.id).foldl (fun acc id => step acc ((acc.1.packet id).bind fun p => s.enter acc.1 p)) r

/-- Cycles until nothing moves. -/
def State.settleN : Nat → State → Plane → Plane
  | 0, _, pl => pl
  | fuel + 1, s, pl =>
    let r := s.sweep pl
    if r.2 then State.settleN fuel s r.1 else pl

/-- The planes run until nothing more moves. Each cycle moves some flit one step, and a flit has fewer than 128 steps. -/
def State.settle (s : State) : State :=
  let pl := State.settleN (128 * (s.net.map Packet.flits).foldl (· + ·) 0 + 1) s ⟨s.net, s.mesh, s.ctl⟩
  { s with net := pl.net, mesh := pl.mesh, ctl := pl.ctl }

/-! #### Leaving the plane -/

/-- The input at whose front a packet stands in full at its destination. -/
def State.atUnit (s : State) (p : Packet) : Option Nat :=
  if p.place = .plane then
    (List.range 5).find? fun i => (s.mesh.buf p.dstTile i p.vc).take p.flits == List.replicate p.flits p.id
  else none

/-- A packet that has arrived leaves its input buffer for its unit, which has it after those it took before. -/
def State.eject (s : State) (p : Packet) (input : Nat) : State :=
  { s with
    mesh := s.mesh.setBuf p.dstTile input p.vc ((s.mesh.buf p.dstTile input p.vc).drop p.flits)
    net := (s.net.filter fun q => q.id != p.id) ++ [{ p with place := .unit }] }

/-- Packets vanish, with their flits, what they hold, and the relay credits that they took. -/
def State.clearPackets (s : State) (gone : Packet → Bool) : State :=
  let ids := (s.net.filter gone).map Packet.id
  let holds (p : Packet) : Bool := p.place == .bounce || (p.place == .plane && !(p.bounced && p.entered == p.flits))
  let taken := (s.net.filter fun p => gone p && holds p).filterMap fun p => p.relay.map fun r => (agentTile p.src, r, p.vc)
  { s with
    net := s.net.filter fun p => !gone p
    mesh := { s.mesh with
      bufs := (s.mesh.bufs.map fun e => (e.1, e.2.filter fun id => !ids.contains id)).filter fun e => !e.2.isEmpty
      outs := s.mesh.outs.filter fun e => !ids.contains e.2.id
      credits := s.mesh.credits.filter fun c => !taken.contains c } }

/-! ### Sources -/

/-- Packets of a tile may be injected: the region's plane is not quiescing (R537), and the tile is part of it (R533, R537). -/
def State.mayInject (s : State) (n tile : Nat) : Bool :=
  !s.bitAt F.DYN_QUIESCING_QUIESCING n && !(s.rgn n).isolated.contains tile && !(s.rgn n).dead.contains tile

/-- Back-pressure has reached an engine (R527): a request of its own still waits at its source once the plane has run. -/
def State.backedUp (s : State) (a : Agent) : Bool :=
  s.settle.net.any fun p => p.src == a && p.place == .source && !isResponse p.kind

/-- Core g may issue a request onto the plane of its region. -/
def State.mayIssue (s : State) (n g : Nat) : Bool := s.mayInject n (tileOfCore g) && !s.backedUp (.core g)

/-- A packet waits at its source to enter the plane; a response to a tile that is cut off is discarded there, and counted
(R539). -/
def State.inject (s : State) (p : Packet) : State :=
  if isResponse p.kind && s.cutOff p.region p.dstTile then s.countSat (F.DYN_QUIESCE_DROP_FENCED p.region)
  else { s with net := s.net ++ [p] }

/-- A packet of region n is in its plane (R537): in a buffer of a router, or in a bounce buffer. -/
def State.inPlane (s : State) (n : Nat) : Bool := s.net.any fun p => p.region == n && (p.place == .plane || p.place == .bounce)

/-- The tiles that a packet has still to pass, as far as its route is known. -/
def State.wayOf (s : State) (p : Packet) : List Nat :=
  match p.place with
  | .unit => []
  | .plane => p.path
  | .bounce => (p.relay.bind fun r => s.directPath p.region r p.dstTile).getD []
  | .source => ((s.route p.region (agentTile p.src) p.dstTile).map fun r => r.first ++ r.second).getD []

/-- Responses at their sources that a route change cuts off are discarded there, and counted (R539). -/
def State.dropCutOff (s : State) (n : Nat) : State :=
  let gone (p : Packet) : Bool := p.region == n && p.place == .source && isResponse p.kind && s.cutOff n p.dstTile
  ({ s with net := s.net.filter fun p => !gone p } : State).countSat (F.DYN_QUIESCE_DROP_FENCED n) (s.net.countP gone)

end Sys2Proof.Machine
end

