-- ==== Sys2Proof/Machine/Issue.lean ====
section
/-! DEFINITION. How a core issues an operation (08, R381, R396 to R400; 09, R418, R437, R438, R475): the checks, the
exception with the lowest code, the program counter, and waiting. -/

namespace Sys2Proof.Machine

/-- How an operation ends at issue. -/
inductive OpEnd where
  /-- Issued: the next operation follows. -/
  | next (s : State)
  /-- A taken branch to a byte offset. -/
  | jump (target : Nat) (s : State)
  /-- Its condition does not hold yet: the core waits at it, and it counts as not issued (R473). -/
  | wait (why : CoreWait) (s : State)
  /-- The program has ended (R467). -/
  | ended (s : State)

/-- The operation word at a byte offset of a core's program memory (R416). -/
def Core.wordAt (c : Core) (pc : Nat) : Word64 := smGet c.program fillerWord (pc / 8)

/-- The opcodes of operations that reach neither memory nor the tile units: scalar control and waiting, SEND and QRD. -/
def scalarOpcodes : List Nat :=
  [0x00, 0x01, 0x02, 0x03, 0x04, 0x05, 0x06, 0x07, 0x08, 0x0A, 0x0B, 0x0C, 0x0D, 0x40, 0x41, 0x51]

/-- An operation may read or write cluster memory as it issues or while its engine runs it. LD, ST and ATOM do so for an address
in cluster space alone. -/
def Core.usesCluster (c : Core) (opc : Nat) (o : OpFields) : Bool :=
  if scalarOpcodes.contains opc then false
  else if opc = 0x10 ∨ opc = 0x11 then spaceOf (c.reg o.a + sextImm o.imm).toNat == spCluster
  else if opc = 0x60 then spaceOf (c.reg o.a).toNat == spCluster else true

/-- An operation is one before which every earlier load has its value: END, an acquire (R646), a FENCE (R466, R647). -/
def acquires (opc : Nat) (o : OpFields) : Bool :=
  opc == 0x09 || opc == 0x50 || opc == 0x52 || (opc == 0x41 && modBits o 2 1 == 1) || (opc == 0x0D && modBits o 0 1 == 1)

/-- An outstanding load that an operation must not overtake (R431): a returning atomic; a load of a register that the operation
names; a granule copy, where the operation may use cluster memory; any load, where the operation acquires. -/
def Core.loadHolds (c : Core) (opc : Nat) (o : OpFields) (l : LoadOp) : Bool :=
  l.block || acquires opc o ||
    if l.granule then c.usesCluster opc o
    else l.dest ≠ 0 && (l.dest == o.d.val || l.dest == o.a.val || l.dest == o.b.val || l.dest == o.c.val
      || (opc == 0x41 && l.dest == o.d.val + 1))

/-- The core is at this operation and free to issue it: it runs, no outstanding load of its own holds the operation, its clock
runs, and its program word is the operation's (R381, R419). -/
def State.atOp (s : State) (g : Nat) (opc : BitVec 8) (o : OpFields) : Bool :=
  let c := s.core g
  c.status == .running && !(c.loads.any (c.loadHolds opc.toNat o)) && !s.clockStopped (tileOfCore g)
    && !s.coreFenced g && !s.tileFenced (tileOfCore g) && c.pc < 65536 && c.wordAt c.pc == encodeOp opc o

/-- A core's exception (R398): the core halts before the operation has any effect, and its report goes to the region
controller over the control network. -/
def State.coreException (s : State) (n g code : Nat) : State :=
  let c := s.core g
  (s.modCore g fun c => { c with status := .halted, wait := .none }).modRgn n fun r => { r with
    reports := r.reports ++ [{ cause := 1, tile := tileOfCore g, core := g, excCode := code, opOffset := c.pc }] }

/-- The state after an operation of core g has ended at issue as `e` says. -/
def settleOp (g : Nat) (e : OpEnd) : State :=
  match e with
  | .next s => s.modCore g fun c => { c with pc := c.pc + 8 }
  | .jump target s => s.modCore g fun c => { c with pc := target }
  | .wait why s => s.modCore g fun c => { c with wait := why }
  | .ended s => s.modCore g fun c => { c with status := .ended }

/-- Core g issues the operation at its program counter: its checks are made first (R381, R397), and then it acts. A core
that is not at the operation issues nothing. -/
def issue (g : Nat) (opc : BitVec 8) (o : OpFields) (s : State)
    (checks : Nat → Core → List Nat) (act : Nat → Core → State → OpEnd) : Host.Outcome State Fault Refusal :=
  if s.atOp g opc o then
    match s.regionOfCore g with
    | Option.none => done s
    | some n =>
      let t := s.modCore g fun c => { c with wait := .none }
      match lowest (checks n (t.core g)) with
      | some code => done (t.coreException n g code)
      | Option.none => done (settleOp g (act n (t.core g) t))
  else done s

/-! ### Branches (R437) -/

/-- The checks of a taken branch: its target lies in offsets 0 to 65,528 and is a multiple of 8. -/
def branchExc (taken : Bool) (target : Int) : List Nat :=
  if taken then
    check eILLEGAL_OP (decide (target < 0 ∨ 65528 < target)) ++ check eMISALIGNED (decide (target % 8 ≠ 0))
  else []

/-- The target of a relative branch: this operation's offset + sext(IMM). -/
def relTarget (c : Core) (o : OpFields) : Int := (c.pc : Int) + o.imm.toInt

/-! ### Release and acquire (R466, R644 to R647) -/

/-- The scopes of R466: 0 CORE, 1 CLUSTER, 2 REGION, 3 SYSTEM. -/
def scSYSTEM : Nat := 3

/-- The borrowed lines that core g wrote leave their proxies for their home slices (R621). -/
def State.returnLines (s : State) (n g : Nat) : State :=
  overList (s.slicesOf n) s fun u i =>
    overList ((u.slice i).lines.filter fun l => l.kind == .borrowed && l.writers.contains g) u fun v l =>
      let (id, w) := v.newId
      let h := v.homeOf n (l.line * 128)
      ((w.modSlice i fun sl => sl.remove l.line).inject
        { id := id, kind := .write, region := n, src := .slice i, dst := .slice h
          addr := 2 ^ 47 + l.line * 128, size := 128, line := true, writers := l.writers
          bytes := l.data.filter fun e => l.dirty.contains e.1
          poison := l.poison.filter fun k => l.dirty.any fun o => o / 8 == k }).noteMeridian i

/-- A line that core g wrote is borrowed, or on its way back (R621). -/
def State.linesOut (s : State) (n g : Nat) : Bool :=
  ((s.slicesOf n).any fun i => (s.slice i).lines.any fun l => l.kind == .borrowed && l.writers.contains g)
    || s.net.any fun p => p.line && p.kind == .write && p.writers.contains g

/-- A release of core g is complete (R644): its writes and non-returning atomics have reached their point of coherence,
for REGION and SYSTEM its borrowed lines are back (R621), for SYSTEM its link writes are acknowledged (R755), and with
ASYNC its transfers have completed. -/
def State.released (s : State) (n g scope : Nat) (async : Bool) : Bool :=
  let c := s.core g
  c.store.isEmpty && c.unacked == 0 && (scope < 3 || c.unackedLink == 0) && (scope < 2 || !s.linesOut n g)
    && (!async || (s.cluster (g / 8)).dma.all fun t => t.core != g)

/-- A release as it is tried: the return of borrowed lines starts once the core's stores are accepted. -/
def State.release (s : State) (n g scope : Nat) : State :=
  if 2 ≤ scope && (s.core g).store.isEmpty then s.returnLines n g else s

/-- Lines that a cluster is fetching for its read-only cache and that `p` selects are not kept: the cache is invalidated. -/
def State.stopFills (s : State) (c : Nat) (p : LoadOp → Bool) : State :=
  overList (coresOfCluster c) s fun t g =>
    if (t.core g).loads.any fun l => l.fill && p l then
      t.modCore g fun k => { k with loads := k.loads.map fun l => if p l then { l with fill := false } else l }
    else t

/-- An acquire (R646): at REGION and SYSTEM the cluster's read-only cache is invalidated. Earlier loads have their values, since
the operation waits for them (`Core.loadHolds`). -/
def State.acquire (s : State) (g scope : Nat) : State :=
  if 2 ≤ scope then (s.modCluster (g / 8) fun c => { c with ro := [] }).stopFills (g / 8) fun _ => true else s

/-- An operation that goes on as `act` once a release it carries is complete, and waits otherwise. -/
def whenReleased (s : State) (n g scope : Nat) (async wanted : Bool) (act : State → OpEnd) : OpEnd :=
  if !wanted then act s
  else if s.released n g scope async then act s
  else .wait .op (s.release n g scope)

end Sys2Proof.Machine
end

