-- ==== Sys2Proof/Machine/CoreMemory.lean ====
section
/-! DEFINITION. The memory operations of a core (09_tile_operation_set.md, R443 to R446, R468; 08, R368 to R387): loads,
stores and scalar atomics, their store buffer and the packets they send. -/

namespace Sys2Proof.Machine

/-! ### Where a request goes (R615, R620, R634) -/

/-- The slice of a cluster tile's column beside its rows: the proxy (R615) and the serving gather engine (R686). -/
def proxyOf (tile : Nat) : Nat := sliceOfTile ((if tileY tile ≤ 5 then 0x10 else 0xA0) + tileX tile)

/-- A slice lies in the east half. -/
def eastSlice (i : Nat) : Bool := 8 ≤ i % 16

/-- The unit that serves a request of a cluster tile for an address: the home slice, the proxy for a plain access to the
other half in MERIDIAN_SPLIT (unless the proxy has no cache ways), or the port. -/
def State.server (s : State) (n tile a : Nat) (atHome : Bool) : Agent :=
  if spaceOf a = spLink then .port (linkPort a)
  else
    let h := ((s.locate n a).slice).getD 0
    let p := proxyOf tile
    if spaceOf a = spExternal && s.split n && !atHome && (eastSlice h != decide (8 ≤ tileX tile)) && s.cacheWays p ≠ 0
    then .slice p else .slice h

/-- An atomic that holds a contribution of core g to a granule is on its way (R378). -/
def State.atomicOut (s : State) (g granule : Nat) : Bool :=
  (s.net ++ s.edge).any fun q =>
    q.kind == .atomic && (q.src == .core g || q.writers.contains g) && q.addr / 64 * 64 == granule

/-- The unit that serves core g's plain accesses to an address is a proxy, and not where its atomics go (R613, R615). -/
def State.viaProxy (s : State) (n g a : Nat) : Bool := s.server n (tileOfCore g) a false != s.server n (tileOfCore g) a true

/-- A READ of core g for a granule is on its way to a unit, or not answered there. -/
def State.readOut (s : State) (g granule : Nat) (dst : Agent) : Bool :=
  s.net.any fun q => q.kind == .read && q.src == .core g && q.dst == dst && q.addr / 64 * 64 == granule

/-- Where a proxy serves core g's plain accesses to an address, an access that goes to the one unit, the home slice or the proxy, waits
for the core's older ones to the granule at the other, so that they are performed in their order (R639, log 26). -/
def State.crossWait (s : State) (n g a : Nat) (atHome : Bool) : Bool :=
  s.viaProxy n g a && (s.readOut g (a / 64 * 64) (s.server n (tileOfCore g) a !atHome) || (!atHome && s.atomicOut g (a / 64 * 64)))

/-! ### Scalar values and cluster memory -/

/-- The value of loaded bytes, zero- or sign-extended. -/
def extend (bytes : List Byte) (sext : Bool) : Word64 :=
  let k := 8 * bytes.length
  if sext then BitVec.ofInt 64 (toSigned k (fromBytes bytes)) else BitVec.ofNat 64 (fromBytes bytes)

/-- A core's load has its bytes, with the poison of the words they lie in: the bytes of its own store buffer come first
(R386), and a poisoned word poisons the destination (R392) and marks the launch (R782). `bad` tells of a byte by its
offset. -/
def State.loadDone (s : State) (n g : Nat) (l : LoadOp) (bytes : List Byte) (bad : Nat → Bool) : State :=
  let val := (List.range l.size).map fun i => smGet l.overlay (bytes.getD i 0) i
  let isBad (i : Nat) : Bool :=
    if l.overlay.any fun e => e.1 == i then l.overlayBad.contains ((l.addr + i) / 8) else bad i
  let poisoned := (List.range l.size).any isBad
  let t := s.when poisoned fun u => u.launchPoison n
  if l.granule then
    let words := ((List.range l.size).filter isBad).map fun i => (l.dest + i) / 8
    t.modCluster (g / 8) fun c => { c with mem := c.mem.write (memAt l.dest val) words.eraseDups }
  else t.modCore g fun c => c.setReg l.dest (extend val l.sext) poisoned

/-- The store-buffer entries of core g whose bytes its loads take: an entry that an atomic of the core to its granule
follows is left to the atomic's home slice, which the load then reads after both (R386, R639). -/
def State.forwarding (s : State) (g : Nat) : List SbEntry :=
  (s.core g).store.filter fun e => !((s.net ++ s.edge).any fun q =>
    q.src == .core g && q.kind == .atomic && decide (e.id < q.id) && q.addr / 64 * 64 == e.addr)

/-- The bytes of a range that the core's store buffer holds, by offset, and the poisoned words among them as addresses
divided by 8. -/
def State.buffered (s : State) (g a len : Nat) : Mem × List Nat :=
  ((s.forwarding g).foldl (fun m e => e.bytes.foldl (fun m b =>
      let x := e.addr + b.1
      if a ≤ x ∧ x < a + len then smPut m (x - a) b.2 else m) m) [],
    (s.forwarding g).flatMap fun e => e.poison.map fun w => e.addr / 8 + w)

/-- The line of the read-only cache that holds an address (R369). -/
def Cluster.roLine (c : Cluster) (a : Nat) : Option RoLine := c.ro.find? fun l => l.line == a / 128

/-- The read-only cache with a line put in as its set's most recently used; the set keeps 8 (R369). -/
def Cluster.putRo (c : Cluster) (l : RoLine) : Cluster :=
  let rest := c.ro.filter fun m => m.line != l.line
  let inSet := rest.filter fun m => m.line % 128 == l.line % 128
  match (if 8 ≤ inSet.length then inSet.getLast? else Option.none) with
  | some v => { c with ro := l :: rest.filter fun m => m.line != v.line }
  | Option.none => { c with ro := l :: rest }

/-- The READ with which a cluster is fetching a line for its read-only cache (R370). -/
def State.filling (s : State) (c line : Nat) : Option Nat :=
  (coresOfCluster c).findSome? fun g => ((s.core g).loads.find? fun l => l.fill && l.addr / 128 == line).map LoadOp.tag

/-- A load is outstanding. -/
def State.awaitLoad (s : State) (g : Nat) (l : LoadOp) : State := s.modCore g fun c => { c with loads := c.loads ++ [l] }

/-- A load of the remote bytes at `a`: from the read-only cache when the line is there (R368); a miss to a line that the cluster
is fetching waits for that fetch (R370); else a READ packet goes to the server (R446). The next operation may issue at once
(R431). In MERIDIAN_SPLIT it follows the core's accesses to its granule that another unit serves (R639). -/
def remoteLoad (s : State) (n g a : Nat) (l : LoadOp) (vol : Bool) : OpEnd :=
  let cl := s.cluster (g / 8)
  let (ov, ovBad) := s.buffered g a l.size
  let l : LoadOp := { l with overlay := ov, overlayBad := ovBad }
  let ro := !vol && s.readOnlyAt n a
  match (if ro then cl.roLine a else Option.none) with
  | some r =>
    let bytes := (List.range l.size).map fun i => smGet r.bytes 0 (a % 128 + i)
    .next ((s.modCluster (g / 8) fun c => c.putRo r).loadDone n g l bytes fun i => r.poison.contains ((a % 128 + i) / 8))
  | Option.none =>
    match (if ro then s.filling (g / 8) (a / 128) else Option.none) with
    | some tag => .next (s.awaitLoad g { l with tag := tag, fill := true })
    | Option.none =>
      if !s.mayIssue n g || s.crossWait n g a vol then .wait .op s
      else
        let (id, t) := s.newId
        let t := t.when vol fun u => (u.modCluster (g / 8) fun c => { c with ro := c.ro.filter fun r => r.line != a / 128 }).stopFills
          (g / 8) fun x => x.addr / 128 == a / 128
        let u := t.inject { id := id, kind := .read, region := n, src := .core g, dst := s.server n (tileOfCore g) a vol
                            addr := if ro then a / 128 * 128 else a, size := if ro then 128 else l.size }
        .next (u.awaitLoad g { l with tag := id, fill := ro })

/-- The address of LD, ST, LDG and STG: sA + sext(IMM). -/
def Core.address (c : Core) (o : OpFields) : Nat := (c.reg o.a + sextImm o.imm).toNat

/-- The checks of LD. -/
def ldChecks (s : State) (o : OpFields) : Nat → Core → List Nat :=
  let size := 2 ^ modBits o 0 2
  fun n c =>
    unused o true true false false 15 0xFFFFFFF ++ s.rangeExc n [(c.address o, size)]
    ++ check eMISALIGNED (c.address o % size ≠ 0) ++ control c [o.a]

/-- What the read of a word of cluster c's memory finds (R770, R775, R777): a corrected error is counted; an uncorrectable one poisons
the word in its place. A poisoned word has no new error (log 162). -/
def State.clusterError (s : State) (n c off : Nat) (e : MemError) : State :=
  let word := off / 8
  let (v, t) := s.draw
  let base : IntegError :=
    { cls := 1, kind := kClusterMem, unit := c, region := some n, addr := 8 * word, syndrome := v.toNat % 256 }
  if (s.cluster c).mem.poisoned word then s
  else
    match e with
    | .dataBit _ => t.clusterCe c base
    | .checkBit _ => t.clusterCe c { base with cls := 2 }
    | .double syn => (s.clusterUe c { base with cls := 4, syndrome := syn.toNat }).modCluster c fun k =>
        { k with mem := { k.mem with poison := insertNat k.mem.poison word } }
    | _ => s

/-- What the read of a line in cluster c's read-only cache finds (R770): a corrected error is counted; an uncorrectable one drops the
line, which is fetched again (CE_REFETCH). -/
def State.roError (s : State) (n c a : Nat) (e : MemError) : State :=
  let (v, t) := s.draw
  let base : IntegError := { cls := 1, kind := kRoCache, unit := c, region := some n, syndrome := v.toNat % 256 }
  match e with
  | .dataBit _ => t.clusterCe c base
  | .checkBit _ => t.clusterCe c { base with cls := 2 }
  | .double syn => (s.clusterCe c { base with cls := 3, syndrome := syn.toNat }).modCluster c fun k =>
      { k with ro := k.ro.filter fun l => l.line != a / 128 }
  | _ => s

/-- LD (R443 to R446), with what its read of the cluster's own arrays finds (R770): of cluster memory, or of a line in the read-only
cache. -/
def execLd (g : Fin 1024) (o : OpFields) (e : MemError) (s : State) : Host.Outcome State Fault Refusal :=
  let size := 2 ^ modBits o 0 2
  issue g 0x10 o s (ldChecks s o) fun n c t =>
    let a := c.address o
    let l : LoadOp := { tag := 0, dest := o.d, addr := a, size := size, sext := modBits o 2 1 == 1 }
    let hit := spaceOf a ≠ spCluster && modBits o 3 1 == 0 && t.readOnlyAt n a && ((t.cluster (g / 8)).roLine a).isSome
    let t := if spaceOf a = spCluster then t.clusterError n (g / 8) (a % 2 ^ 21) e else if hit then t.roError n (g / 8) a e else t
    if spaceOf a = spCluster then
      let m := (t.cluster (g / 8)).mem
      let r := m.read t.draws (a % 2 ^ 21) size
      .next ({ t with draws := t.draws + 1 }.loadDone n g l r.1 fun _ => m.poisoned (a % 2 ^ 21 / 8))
    else remoteLoad t n g a l (modBits o 3 1 == 1)

/-- A cluster offset in a register breaks R364. -/
def offsetBad (v len : Nat) : Bool := 2 ^ 46 ≤ v || clusterBad v len

/-- The checks of LDG. -/
def ldgChecks (s : State) (o : OpFields) : Nat → Core → List Nat :=
  fun n c =>
    unused o false true true false 8 0xFFFFFFF
    ++ check eRSVD_FIELD (spaceOf (c.address o) == spCluster && c.address o < 2 ^ 48)
    ++ s.rangeExc n [(c.address o, 64)] ++ check eCLUSTER_RANGE (offsetBad (c.reg o.b).toNat 64)
    ++ check eMISALIGNED (c.address o % 64 ≠ 0 || (c.reg o.b).toNat % 64 ≠ 0) ++ control c [o.a, o.b]

/-- LDG (R443, R444). -/
def execLdg (g : Fin 1024) (o : OpFields) (s : State) : Host.Outcome State Fault Refusal :=
  issue g 0x12 o s (ldgChecks s o) fun n c t =>
    remoteLoad t n g (c.address o)
      { tag := 0, granule := true, dest := (c.reg o.b).toNat, addr := c.address o, size := 64 } (modBits o 3 1 == 1)

/-! ### Stores (R384 to R387) -/

/-- A write goes into the store buffer: into the entry of its granule that has not been sent, or into a new entry; with
16 entries held the core waits. `bad` is the poison of the words written. -/
def bufferStore (s : State) (n g a : Nat) (bytes : List Byte) (bad : List Nat) : OpEnd :=
  let c := s.core g
  let base := a / 64 * 64
  let m := memAt (a - base) bytes
  let put (e : SbEntry) : SbEntry :=
    let p := PMem.write ⟨e.bytes, e.poison⟩ m bad
    { e with bytes := p.bytes, poison := p.poison }
  let t := s.when (!bad.isEmpty) fun u => u.launchPoison n
  if c.store.any fun e => e.addr == base && !e.sent then
    .next (t.modCore g fun k => { k with store := k.store.map fun e => if e.addr == base && !e.sent then put e else e })
  else if c.store.length < 16 then
    let (id, u) := t.newId
    .next (u.modCore g fun k => { k with store := k.store ++ [put { id := id, addr := base, bytes := [], poison := [] }] })
  else .wait .op s

/-- The checks of ST. -/
def stChecks (s : State) (o : OpFields) : Nat → Core → List Nat :=
  let size := 2 ^ modBits o 0 2
  fun n c =>
    unused o false true true false 3 0xFFFFFFF ++ s.rangeExc n [(c.address o, size)]
    ++ check eMISALIGNED (c.address o % size ≠ 0) ++ check eREAD_ONLY_WRITE (s.readOnlyAt n (c.address o))
    ++ control c [o.a]

/-- ST (R443, R444). -/
def execSt (g : Fin 1024) (o : OpFields) (s : State) : Host.Outcome State Fault Refusal :=
  let size := 2 ^ modBits o 0 2
  issue g 0x11 o s (stChecks s o) fun n c t =>
    let a := c.address o
    let bytes := toBytes size (c.reg o.b).toNat
    let bad := c.regBad o.b
    if spaceOf a = spCluster then
      let x := a % 2 ^ 21
      .next ((t.when bad fun u => u.launchPoison n).modCluster (g / 8) fun k =>
        { k with mem := k.mem.write (memAt x bytes) (if bad then [x / 8] else []) })
    else bufferStore t n g a bytes (if bad then [a % 64 / 8] else [])

/-- The checks of STG. -/
def stgChecks (s : State) (o : OpFields) : Nat → Core → List Nat :=
  fun n c =>
    unused o false true true false 0 0xFFFFFFF
    ++ check eRSVD_FIELD (spaceOf (c.address o) == spCluster && c.address o < 2 ^ 48)
    ++ s.rangeExc n [(c.address o, 64)] ++ check eCLUSTER_RANGE (offsetBad (c.reg o.b).toNat 64)
    ++ check eMISALIGNED (c.address o % 64 ≠ 0 || (c.reg o.b).toNat % 64 ≠ 0)
    ++ check eREAD_ONLY_WRITE (s.readOnlyAt n (c.address o)) ++ control c [o.a, o.b]

/-- STG (R443, R444). -/
def execStg (g : Fin 1024) (o : OpFields) (s : State) : Host.Outcome State Fault Refusal :=
  issue g 0x13 o s (stgChecks s o) fun n c t =>
    let r := (t.cluster (g / 8)).mem.read t.draws (c.reg o.b).toNat 64
    bufferStore { t with draws := t.draws + 1 } n g (c.address o) r.1 r.2

/-- The next entry of core g's buffer may be sent (R387): the older ones are, its tile may inject, and where a proxy serves it no
access of the core to its granule that the home slice serves is on its way (R639). -/
def State.maySend (s : State) (n g : Nat) (e : SbEntry) : Bool :=
  s.mayInject n (tileOfCore g) && ((s.core g).store.takeWhile fun x => x.id != e.id).all SbEntry.sent
    && !s.crossWait n g e.addr false

/-- An entry is sent as one WRITE packet (R387); it keeps its place in the buffer until it is accepted. -/
def State.sendEntry (s : State) (n g : Nat) (e : SbEntry) : State :=
  (s.modCore g fun c => { c with store := c.store.map fun x => if x.id == e.id then { x with sent := true } else x }).inject
    { id := e.id, kind := .write, region := n, src := .core g, dst := s.server n (tileOfCore g) e.addr false
      addr := e.addr, size := 64, bytes := e.bytes, poison := e.poison }

/-- Core g's entries are sent, the oldest first (R387), up to the one named, as far as they may be. -/
def State.sendEntries (s : State) (n g id : Nat) : State :=
  overList ((s.core g).store.filter fun e => !e.sent && e.id ≤ id) s fun t e => if t.maySend n g e then t.sendEntry n g e else t

/-! ### Scalar atomics (R468, R469, R659 to R666) -/

/-- The checks of an ATOM's fields (R468, R469). -/
def atomFields (o : OpFields) : List Nat :=
  let aop := modBits o 0 4
  unused o (modBits o 7 1 == 1) true true (aop == 7) 0xFF 3 ++ check eRSVD_FIELD (!atomDefined aop (modBits o 4 3))

/-- The checks of ATOM. -/
def atomChecks (s : State) (o : OpFields) : Nat → Core → List Nat :=
  let aop := modBits o 0 4
  let fmt := modBits o 4 3
  fun n c =>
    atomFields o ++ s.rangeExc n [((c.reg o.a).toNat, atomBytes fmt)]
    ++ check eMISALIGNED ((c.reg o.a).toNat % atomBytes fmt ≠ 0) ++ s.atomicExc n (c.reg o.a).toNat aop
    ++ control c [o.a]

/-- An atomic that the combiner may merge with others (R378): a non-returning integer ADD, MIN, MAX, AND, OR or XOR. -/
def mergeable (aop fmt : Nat) (ret : Bool) : Bool := !ret && aop ≤ 5 && (fmt ≤ 1 || fmt == 5)

/-- The atomic at its cluster's combiner that a contribution of core g may join (R378): of the same operation, format, scope and
word, not yet in the plane. The core has nothing older on its way to the granule, so that its own order stands (R639). -/
def State.mergesWith (s : State) (g a aop fmt scope : Nat) : Option Packet :=
  let old := ((s.core g).store.any fun e => e.addr == a / 64 * 64)
    || s.net.any fun q => q.src == .core g && q.addr / 64 == a / 64 && !q.writers.contains g
  if old then none
  else s.net.find? fun q =>
    q.place == .source && q.kind == .atomic && mergeable q.op q.fmt q.ret && q.addr == a && q.op == aop && q.fmt == fmt
      && q.scope == scope && agentTile q.src == tileOfCore g

/-- The contribution joins the request, which is performed as one atomic (R656). -/
def Packet.merge (q : Packet) (g x : Nat) (bad : Bool) : Packet :=
  { q with operand := atomicNew q.op q.fmt q.operand x 0, bad := q.bad || bad, writers := q.writers ++ [g] }

/-- An ATOM on shared, external or link-window space leaves the core (R377): as a contribution to a request that waits at the
combiner, which happens when both came within 16 tile cycles, a free bit (log 13), or as a request of its own. -/
def State.sendAtomic (s : State) (n g : Nat) (o : OpFields) (a x cmp : Nat) (bad : Bool) : State :=
  let aop := modBits o 0 4
  let fmt := modBits o 4 3
  let ret := modBits o 7 1 == 1
  let scope := immBits o 0 2
  let own (t : State) : State :=
    let (id, u) := t.newId
    let v := u.inject { id := id, kind := .atomic, region := n, src := .core g, dst := s.server n (tileOfCore g) a true
                        addr := a, size := atomBytes fmt, op := aop, fmt := fmt, scope := scope, operand := x, compare := cmp
                        ret := ret, bad := bad, writers := if ret then [] else [g] }
    if ret then v.awaitLoad g { tag := id, dest := o.d, addr := a, size := atomBytes fmt, sext := fmt == 0, block := true }
    else v.modCore g fun k => { k with unacked := k.unacked + 1 }
  match (if mergeable aop fmt ret then s.mergesWith g a aop fmt scope else none) with
  | none => own s
  | some q =>
    let (v, t) := s.draw
    if v.getLsbD 0 then
      ({ t with net := t.net.map fun p => if p.id == q.id then p.merge g x bad else p } : State).modCore g fun k =>
        { k with unacked := k.unacked + 1 }
    else own t

/-- Core g's entries up to the last one of a granule. -/
def Core.lastEntry (c : Core) (granule : Nat) : Option SbEntry := (c.store.filter fun e => e.addr == granule).getLast?

/-- ATOM: at the bank for cluster space (R377); else a packet to the home slice or port, behind the core's stores to the granule,
which are sent first (R387, R639). Where a proxy serves those, the atomic waits until they are accepted. A returning atomic holds
the operations after it (R431). -/
def execAtom (g : Fin 1024) (o : OpFields) (s : State) : Host.Outcome State Fault Refusal :=
  let aop := modBits o 0 4
  let fmt := modBits o 4 3
  let ret := modBits o 7 1 == 1
  issue g 0x60 o s (atomChecks s o) fun n c t =>
    let a := (c.reg o.a).toNat
    let x := (c.reg o.b).toNat
    let cmp := (c.reg o.c).toNat
    let bad := c.regBad o.b || (aop == 7 && c.regBad o.c)
    if spaceOf a = spCluster then
      let (old, p, m) := atomicOn (t.cluster (g / 8)).mem t.draws (a % 2 ^ 21) aop fmt x cmp bad
      let u := { t with draws := t.draws + 1 }.modCluster (g / 8) fun k => { k with mem := m }
      let v := u.when p fun w => w.launchPoison n
      .next (if ret then v.modCore g fun k => k.setReg o.d (atomicOld fmt old) p else v)
    else
      match c.lastEntry (a / 64 * 64) with
      | none => if t.mayIssue n g && !t.crossWait n g a true then .next (t.sendAtomic n g o a x cmp bad) else .wait .op t
      | some e =>
        let u := t.sendEntries n g e.id
        if u.mayIssue n g && !u.viaProxy n g a && (u.core g).store.all (fun y => y.addr != a / 64 * 64 || y.sent) then
          .next (u.sendAtomic n g o a x cmp bad)
        else .wait .op u

end Sys2Proof.Machine
end

