-- ==== Sys2Proof/Machine/LinkPort.lean ====
section
/-! DEFINITION. What a Hymiyn port sends (17_hymiyn_links.md, R739 to R747, R752 to R758): requests of the region as link
packets, link credits, the replay buffer, and what becomes of a request when its answer comes. One packet goes into one
DATA flit (log 15). -/

namespace Sys2Proof.Machine

/-- The states of R733. -/
def lDISABLED : Nat := 0
def lTRAINING : Nat := 1
def lUP : Nat := 2
def lRETRAINING : Nat := 3

def State.linkState (s : State) (p : Nat) : Nat := s.fld (F.HL_STATUS_STATE p)

/-- The region a port is assigned to (R751). -/
def State.portRegion (s : State) (p : Nat) : Option Nat :=
  if s.on (F.HL_ASSIGN_VALID p) then some (s.fld (F.HL_ASSIGN_REGION p)) else Option.none

/-! ### Transfers of the Edge Rings (R330, R543, R544, R707) -/

/-- The ring of a port: 0 south, 1 north (R25). -/
def ringOfPort (p : Nat) : Nat := p / 2

/-- The ring of a slice. -/
def ringOfSlice (i : Nat) : Nat := i / 32

/-- Columns of region n (R707). -/
def State.columnCount (s : State) (n : Nat) : Nat := s.fld (F.RGN_RECT_X1 n) - s.fld (F.RGN_RECT_X0 n) + 1

/-- A transfer counted at a ring and a column stop: `out` away from the slices (ER_OUT) or toward them (ER_IN). -/
def State.countTransfer (s : State) (e col : Nat) (out : Bool) : State :=
  if out then (s.countMod (F.ER_OUT_TOTAL_VALUE e)).countMod (F.ER_COL_OUT_VALUE e col)
  else (s.countMod (F.ER_IN_TOTAL_VALUE e)).countMod (F.ER_COL_IN_VALUE e col)

/-- A transfer of a class at its column stop uses the column's turn (R330) and is counted there, in its budget window and as the grant
it is (R707, R722). -/
def State.transfer (s : State) (n cls e col bytes : Nat) (out : Bool) (promoted : Bool := false) : State :=
  let key := 8 * (4 * col + 2 * e + bit out) + cls
  let used := smGet s.stops 0 key
  let t := s.countGrant n cls (s.columnCount n) used false promoted
  { t.countTransfer e col out with
    stops := smPut t.stops key (used + bytes), ringTurn := smPut t.ringTurn (2 * e + bit out) col }

/-! ### Packets on the link (R747) -/

/-- The 16-byte data units of a packet, by kind. -/
def Packet.units (p : Packet) : Nat :=
  match p.kind with
  | .write | .data => ceilDiv (p.addr % 16 + p.size) 16
  | .atomic | .message => 1
  | _ => 0

/-- Bytes of the data units, those not written as 0, and the mask of the first unit. -/
def Packet.linkBytes (p : Packet) : List Byte × List Bool :=
  let o := p.addr % 16
  ((List.range (16 * p.units)).map fun i => if i < o then 0 else smGet p.bytes 0 (i - o),
    (List.range 16).map fun i => o ≤ i && p.bytes.any fun e => e.1 + o == i)

/-- A packet as it stands on the link: OFFSET and SPACE of the address (R752), 16-byte aligned for READ and WRITE. -/
def linkOf (p : Packet) : LinkPacket :=
  let (bytes, mask) := p.linkBytes
  { kind := p.kind
    tag := if isResponse p.kind then p.tag else p.id % 65536
    space := linkSpace p.addr
    addr := if p.kind = .read ∨ p.kind = .write then p.addr % 2 ^ 42 / 16 * 16 else p.addr % 2 ^ 42
    size := if p.kind = .read then 16 * ceilDiv (p.addr % 16 + p.size) 16 else p.size
    bytes := if p.kind = .atomic then toBytes 8 p.operand ++ toBytes 8 p.compare
             else if p.units = 0 then [] else bytes
    mask := if p.kind = .write then mask else []
    poison := if p.kind = .atomic ∧ p.bad then [0] else p.poison
    op := p.op + 16 * p.fmt + (if p.ret then 128 else 0)
    chan := p.chan, epoch := p.code, count := p.size, key := p.key, code := p.code, set := p.ret }

/-- Link credits a packet takes: 16 bytes of header and its data units (R746). -/
def Packet.credits (p : Packet) : Nat := 1 + p.units

/-- The port's held credits for a packet's virtual channel. -/
def creditFld (p : Nat) (k : PacketKind) : Fld := if isResponse k then F.HL_CREDITS_RSP_HELD p else F.HL_CREDITS_REQ_HELD p

/-- A DATA flit of port p counts as activity of its region (R833). -/
def State.actFlit (s : State) (p : Nat) : State :=
  match s.portRegion p with
  | none => s
  | some n => s.act n 10 1

/-- The packet at the head of the queue leaves in a DATA flit: it takes credits, a SEQ and a place in the replay buffer;
a request waits for its answer. -/
def State.sendHead (s : State) (p : Nat) (k : Packet) : State :=
  let q := s.port p
  let l := linkOf k
  let t := ((s.setFld (creditFld p k.kind) (s.fld (creditFld p k.kind) - k.credits)).emit (.link p l)).actFlit p
  t.modPort p fun r => { r with
    outq := q.outq.tail
    replay := q.replay ++ [⟨q.nextSeq, l⟩]
    nextSeq := (q.nextSeq + 1) % 4096
    flight := if isResponse k.kind ∨ k.kind = .credit ∨ k.kind = .message then q.flight else q.flight ++ [k] }

/-- Packets leave while the port is UP, its credits last and the replay buffer has room. -/
def State.pumpN : Nat → State → Nat → State
  | 0, s, _ => s
  | fuel + 1, s, p =>
    match (s.port p).outq with
    | [] => s
    | k :: _ =>
      if s.linkState p = lUP ∧ k.credits ≤ s.fld (creditFld p k.kind) ∧ (s.port p).replay.length < 1024
          ∧ ¬ (s.port p).disabling then
        State.pumpN fuel (s.sendHead p k) p
      else s

def State.pump (s : State) (p : Nat) : State := State.pumpN ((s.port p).outq.length) s p

/-! ### Answers (R755, R757) -/

/-- What a requester learns: its data with the poison of each byte's word, or an acknowledgement; `bad` for an ERROR. -/
structure Answer where
  bytes : List Byte := []
  poison : List Nat := []
  bad : Bool := false
  deriving DecidableEq, Repr

/-- The poison of byte i of an answer whose bytes begin at offset `o` of a 16-byte unit. -/
def Answer.badAt (a : Answer) (o i : Nat) : Bool := a.bad || a.poison.contains ((o + i) / 8)

/-- The ring whose descriptor a request belongs to, changed by `f`. -/
def State.modDesc (s : State) (vf ring : Nat) (index : Word) (f : Desc → Desc) : State :=
  s.modVf vf fun v => { v with rings := v.rings.zipIdx.map fun e =>
    if e.2 == ring then { e.1 with descs := e.1.descs.map fun d => if d.index == index then f d else d } else e.1 }

/-- The cores whose writes a request carries: its own core's, or every contribution of a merged atomic (R378). -/
def Packet.contributors (q : Packet) : List Nat :=
  match q.src with
  | .core g => if q.kind = .atomic ∧ !q.writers.isEmpty then q.writers else [g]
  | _ => []

/-- The answer to a core's request that came in at a port: it takes the plane from the slice of the core's column beside the port's
ring (R547), as DATA, or as an ACK that tells of the remote home point (R634). -/
def State.answerCore (s : State) (q : Packet) (g port : Nat) (wrote : Bool) (data : List Byte) (bad : List Nat) : State :=
  let (id, t) := s.newId
  let base : Packet :=
    { id := id, kind := .ack, region := q.region, src := .slice (sliceOfTile (entryTile port (tileX (tileOfCore g))))
      dst := .core g, tag := q.id, addr := q.addr, size := q.size }
  if wrote then t.inject { base with code := 2, writers := q.contributors }
  else
    t.inject { base with
      kind := .data, bytes := memAt 0 data, fmt := q.fmt, ret := q.kind == .atomic
      poison := (bad.map fun i => (q.addr + i) / 8 - q.addr / 8).eraseDups }

/-- A link-window request is answered: its requester goes on (R526, R757). The bytes that an ERROR does not bring are
undefined. A transfer of a tile that is cut off meanwhile gets no answer (R539). -/
def State.answer (s : State) (q : Packet) (a : Answer) : State :=
  let o := if q.kind = .atomic then 0 else q.addr % 16
  let data := (List.range q.size).map fun i => a.bytes.getD (o + i) (Config.undefByte s.draws (q.addr + i))
  let bad := (List.range q.size).filter fun i => a.badAt o i
  let s : State := { s with draws := s.draws + 1 }
  let wrote := q.kind = .write ∨ (q.kind = .atomic ∧ !q.ret)
  let s := s.when (a.bad && wrote) fun u => u.launchPoison q.region
  match q.src, q.dst with
  | .core g, .port p => s.answerCore q g p wrote data bad
  | .dma c id, _ =>
    if s.cutOff q.region (tileOfCluster c) then s.countSat (F.DYN_QUIESCE_DROP_FENCED q.region)
    else
      s.modCluster c fun k => { k with dma := k.dma.map fun t =>
        if t.id == id then
          { t with unanswered := t.unanswered - 1
                   got := if q.kind = .read then t.got.write (memAt q.addr data) (bad.map fun i => (q.addr + i) / 8) else t.got }
        else t }
  | .ring vf ring, _ =>
    s.modDesc vf ring (BitVec.ofNat 32 q.key) fun d =>
      { d with linkWait := d.linkWait - 1
               poison := d.poison || a.bad
               linkGot := if q.kind = .read then d.linkGot.write (memAt q.addr data) (bad.map fun i => (q.addr + i) / 8)
                          else d.linkGot }
  | _, _ => s

/-- The port answers a request locally with LINK_DOWN (R758), an ERROR under R757: it counts in REFUSED_OUT, and its poison
counts as received from outside (DEDUCED, log 23). -/
def State.linkDown (s : State) (p : Nat) (q : Packet) : State :=
  if isResponse q.kind || q.kind == .credit || q.kind == .message then s
  else (((s.countSat (F.HL_REFUSED_REFUSED_OUT p)).poisonIn kLinkIn p (s.portRegion p))).answer q { bad := true }

/-- A request or response is handed to the port. While the port is DISABLED it answers requests with LINK_DOWN. -/
def State.toPort (s : State) (p : Nat) (k : Packet) : State :=
  if s.linkState p = lDISABLED then s.linkDown p k
  else (s.modPort p fun q => { q with outq := q.outq ++ [k] }).pump p

/-- A request waits at its column stop for the port on the Edge Ring (R547); its age begins (R703). -/
def State.toEdge (s : State) (k : Packet) : State :=
  let (now, t) := s.newId
  { t with edge := t.edge ++ [{ k with since := now, promoted := false }] }

/-! ### Splitting a write (R747) -/

/-- One WRITE packet: where it starts and its bytes by offset from there. -/
structure Piece where
  addr : Nat
  bytes : Mem
  deriving DecidableEq, Repr

/-- The 16-byte units that hold bytes of a write, with those bytes by offset in the unit. -/
def unitsOf (m : Mem) : List (Nat × Mem) :=
  m.foldl (fun l e =>
    match l.getLast? with
    | some (u, b) => if u = e.1 / 16 then l.dropLast ++ [(u, b ++ [(e.1 % 16, e.2)])] else l ++ [(e.1 / 16, [(e.1 % 16, e.2)])]
    | Option.none => [(e.1 / 16, [(e.1 % 16, e.2)])]) []

/-- A write as packets: a piece begins with a unit that may be masked, and whole units that follow it join it, up to 16
units. The bytes are given by address, rising. -/
def piecesOf (m : Mem) : List Piece :=
  (unitsOf m).foldl (fun l u =>
    match l.getLast? with
    | some p =>
      if u.2.length = 16 ∧ u.1 = p.addr / 16 + ceilDiv ((p.bytes.getLast?.map (·.1)).getD 0 + 1) 16 ∧ u.1 < p.addr / 16 + 16 then
        l.dropLast ++ [{ p with bytes := p.bytes ++ u.2.map fun e => (16 * (u.1 - p.addr / 16) + e.1, e.2) }]
      else l ++ [⟨16 * u.1, u.2⟩]
    | Option.none => [⟨16 * u.1, u.2⟩]) []

end Sys2Proof.Machine
end

