-- ==== Sys2Proof/Machine/Meridian.lean ====
section
/-! DEFINITION. MERIDIAN_SPLIT (13_memory_slice.md, R615 to R621): Meridian copies and borrowed lines at proxy slices, the
home slices' line trackers, and the accesses of cluster DMA transfers through a proxy as one coherent step. -/

namespace Sys2Proof.Machine

/-- The tracker entry of a line made or changed; with all 2,048 entries in use the oldest is settled first (R619). A new
entry's rotation pointer is `seed` (R622). -/
def State.track (s : State) (n h line seed : Nat) (f : Tracker → Tracker) : State :=
  let tr := (s.slice h).tracker
  if tr.any fun e => e.line == line then
    s.modSlice h fun sl => { sl with tracker := sl.tracker.map fun e => if e.line == line then f e else e }
  else
    let t := match (if 2048 ≤ tr.length then tr.head? else none) with
      | some old => s.settleLine n h old.line true
      | none => s
    (t.modSlice h fun sl => { sl with tracker := sl.tracker ++ [f { line := line, pointer := seed }] }).noteMeridian h

/-- The proxy takes a Meridian copy of a line that its home slice holds in full (R616). -/
def State.giveCopy (s : State) (n h p line : Nat) : State :=
  let l := (s.slice h).home line
  let t := s.track n h line (tileOfSlice p) fun e => { e with copies := insertNat e.copies p }
  t.putLine n p cDYN { line := line, kind := .copy, data := l.data, poison := l.poison, present := 15 }

/-- The proxy borrows a line that its home slice holds in full and that no slice holds a copy of (R617, R618). -/
def State.giveBorrow (s : State) (n h p line : Nat) : State :=
  let l := (s.slice h).home line
  let t := s.track n h line (tileOfSlice p) fun e => { e with borrower := some p }
  t.putLine n p cDYN { line := line, kind := .borrowed, data := l.data, poison := l.poison, present := 15 }

/-- Bytes written into a line a slice holds, with their poison and the cores that wrote them. -/
def CLine.take (l : CLine) (o : Nat) (pay : Payload) (writer : Option Nat) : CLine :=
  let m := PMem.write ⟨l.data, l.poison⟩ (pay.shift o).bytes (pay.shift o).poison
  { l with data := m.bytes, poison := m.poison
           dirty := pay.bytes.foldl (fun d e => insertNat d (o + e.1)) l.dirty
           writers := match writer with | some g => insertNat l.writers g | none => l.writers }

/-- `len` bytes of a line as a slice holds it, and the poisoned words from the word of `a` on. -/
def CLine.bytesAt (l : CLine) (draw a len : Nat) : List Byte × List Nat :=
  ((List.range len).map fun k => smGet l.data (Config.undefByte draw (a + k)) (a % 128 + k),
    (l.poison.filter fun w => a % 128 / 8 ≤ w && 8 * w < a % 128 + len).map fun w => w - a % 128 / 8)

/-- The proxy through which a cluster tile reaches an external line of the other half (R615), if it does. -/
def State.proxyFor (s : State) (n tile a : Nat) : Option Nat :=
  match s.server n tile a false with
  | .slice i => if (s.locate n a).slice = some i then none else some i
  | _ => none

/-- Slice p holds a line as a cluster DMA transfer needs it: in full to read, borrowed to write. -/
def State.proxyHolds (s : State) (p line : Nat) (writing : Bool) : Bool :=
  match (s.slice p).find line with
  | some l => !writing || l.kind == .borrowed
  | none => false

/-- A proxy's fetch of a whole line, to keep as a copy or to borrow (R616, R617), at its home slice's lookup. -/
def State.proxyFetch (s : State) (n p line : Nat) (writing : Bool) : State :=
  if s.proxyHolds p line writing then s
  else
    let h := s.homeOf n (line * 128)
    let t := (s.settleLine n h line writing).fetchLine n h line 15 cDYN
    if writing then t.giveBorrow n h p line else t.giveCopy n h p line

/-- Bytes of one line read by a cluster DMA transfer of a tile, with the poisoned words from the word of `a` on. -/
def State.dmaLoadPiece (s : State) (n tile a len : Nat) : List Byte × List Nat × State :=
  match s.proxyFor n tile a with
  | none => s.loadPiece n a len cDYN
  | some p =>
    let line := offsetOf a / 128
    let t := s.proxyFetch n p line false
    let l := ((t.slice p).find line).getD { line := line }
    let r := l.bytesAt t.draws a len
    (r.1, r.2, { t.modSlice p fun sl => sl.put l with draws := t.draws + 1 })

/-- Bytes of one line written by a cluster DMA transfer of core g: through a proxy such a write counts as the core's (R617). -/
def State.dmaStorePiece (s : State) (n tile g a : Nat) (bytes : List Byte) (bad : List Nat) : State :=
  match s.proxyFor n tile a with
  | none => s.storeRange n a cDYN bytes bad
  | some p =>
    let line := offsetOf a / 128
    let pay : Payload := ⟨memAt 0 bytes, (bad.filter fun w => a / 8 ≤ w && 8 * w < a + bytes.length).map fun w => w - a / 8⟩
    (s.proxyFetch n p line true).modSlice p fun sl =>
      sl.put (((sl.find line).getD { line := line, kind := LineKind.borrowed }).take (a % 128) pay (some g))

/-- An access of a cluster DMA transfer to one line waits: a slice that takes part does not serve, a fetch that it needs waits
(R112, R711), or the channel's class queues are full (R710). -/
def State.dmaPieceHeld (s : State) (n tile a len : Nat) (writing : Bool) : Bool :=
  match s.proxyFor n tile a with
  | none => if writing then s.lineShut n a else s.pieceHeld n cDYN a len
  | some p =>
    let line := offsetOf a / 128
    let h := s.homeOf n (line * 128)
    !s.sliceServes p || (!s.proxyHolds p line writing && (!s.sliceServes h || s.fetchHeld n cDYN h line 15))

def State.dmaHeld (s : State) (n tile a len : Nat) (writing : Bool) : Bool :=
  (linesOf a len).any fun p => s.dmaPieceHeld n tile p.1 p.2 writing

/-- The fetches of a transfer's range that refresh-only or feedback holds (R721). -/
def State.dmaHolds (s : State) (n tile a len : Nat) (writing : Bool) : List (Nat × Bool) :=
  (linesOf a len).flatMap fun p =>
    match s.proxyFor n tile p.1 with
    | none => if writing then [] else s.heldFetches n cDYN p.1 p.2
    | some x =>
      let line := offsetOf p.1 / 128
      if s.proxyHolds x line writing then [] else (s.heldFetch n cDYN (s.homeOf n (line * 128)) line 15).toList

/-- A range read by a cluster DMA transfer: its bytes, and the poisoned 8-byte words as device addresses / 8. -/
def State.dmaLoadRange (s : State) (n tile a len : Nat) : List Byte × List Nat × State :=
  (linesOf a len).foldl (fun (acc : List Byte × List Nat × State) p =>
    let (bytes, bad, t) := acc.2.2.dmaLoadPiece n tile p.1 p.2
    (acc.1 ++ bytes, acc.2.1 ++ bad.map (p.1 / 8 + ·), t)) ([], [], s)

/-- A range written by a cluster DMA transfer, with the poisoned 8-byte words as device addresses / 8. -/
def State.dmaStoreRange (s : State) (n tile g a : Nat) (bytes : List Byte) (bad : List Nat) : State :=
  overList (linesOf a bytes.length) s fun u p =>
    u.dmaStorePiece n tile g p.1 ((bytes.drop (p.1 - a)).take p.2) bad

end Sys2Proof.Machine
end

