-- ==== Sys2Proof/Machine/Dma.lean ====
section
/-! DEFINITION. Cluster DMA transfers, TATOM, GATHER and SCATTER (09_tile_operation_set.md, R447, R448, R470 to R472;
08, R373 to R376; 15, R668, R677 to R690): their checks at issue, the queue of a cluster, and their whole effect when
they complete (R432). -/

namespace Sys2Proof.Machine

/-! ### The queue (R373, R374) -/

/-- A transfer joins its cluster's queue; with 16 entries taken the core waits. -/
def queueTransfer (t : State) (g : Nat) (opc : Nat) (c : Core) (o : OpFields) : OpEnd :=
  if 16 ≤ (t.cluster (g / 8)).dma.length then .wait .op t
  else
    let (id, u) := t.newId
    .next (u.modCluster (g / 8) fun k => { k with dma := k.dma ++
      [{ id := id, core := g, opc := opc, a := c.reg o.a, b := c.reg o.b, c := c.reg o.c, d := c.reg o.d
         mod := o.mod, imm := o.imm }] })

/-! ### Cluster DMA (R447, R448) -/

/-- The lines of a two-dimensional transfer in its remote space. -/
def remoteLines (a stride : Nat) (t : Tile) : List (Nat × Nat) :=
  (List.range t.lines).map fun i => (a + i * stride, t.lb)

/-- The checks of DMAG and DMAP. -/
def State.dmaExc (s : State) (n : Nat) (c : Core) (o : OpFields) (writes : Bool) : List Nat :=
  let a := (c.reg o.a).toNat
  let b := (c.reg o.b).toNat
  let k := (c.reg o.c).toNat
  unused o false true true true 1 0 ++ control c [o.a, o.b, o.c]
    ++ check eDMA_RANGE (spaceOf a == spCluster) ++ check eREAD_ONLY_WRITE (writes && s.readOnlyAt n a)
    ++ (if modBits o 0 1 = 0 then
          let t := tileOf (c.reg o.c)
          t.exc ++ s.rangeExc n (remoteLines a b t) ++ check eDMA_RANGE (b < t.lb)
            ++ check eMISALIGNED (a % 32 ≠ 0 || b % 32 ≠ 0 || t.lb % 32 ≠ 0)
        else
          (if b = 0 then [] else s.rangeExc n [(a, b)]) ++ check eCLUSTER_RANGE (offsetBad k b)
            ++ check eDMA_RANGE (b == 0 || decide (clusterBytes < b))
            ++ check eMISALIGNED (a % 32 ≠ 0 || b % 32 ≠ 0 || k % 32 ≠ 0))

/-- The checks of DMAG. -/
def dmagChecks (s : State) (o : OpFields) : Nat → Core → List Nat :=
  fun n c =>
    s.dmaExc n c o false

/-- DMAG (R447). -/
def execDmag (g : Fin 1024) (o : OpFields) (s : State) : Host.Outcome State Fault Refusal :=
  issue g 0x14 o s (dmagChecks s o) fun _ c t => queueTransfer t g 0x14 c o

/-- The checks of DMAP. -/
def dmapChecks (s : State) (o : OpFields) : Nat → Core → List Nat :=
  fun n c =>
    s.dmaExc n c o true

/-- DMAP (R447). -/
def execDmap (g : Fin 1024) (o : OpFields) (s : State) : Host.Outcome State Fault Refusal :=
  issue g 0x15 o s (dmapChecks s o) fun _ c t => queueTransfer t g 0x15 c o

/-- The checks of DMAF. -/
def dmafChecks (s : State) (o : OpFields) : Nat → Core → List Nat :=
  fun n c =>
    let a := (c.reg o.a).toNat
    let b := (c.reg o.b).toNat
    unused o false true true true 1 0 ++ check eRSVD_FIELD (modBits o 0 1 == 0) ++ control c [o.a, o.b, o.c]
      ++ (if b = 0 then [] else s.rangeExc n [(a, b)]) ++ check eREAD_ONLY_WRITE (s.readOnlyAt n a)
      ++ check eDMA_RANGE (spaceOf a == spCluster || b == 0 || decide (clusterBytes < b))
      ++ check eMISALIGNED (a % 32 ≠ 0 || b % 32 ≠ 0)

/-- DMAF (R447, R448). -/
def execDmaf (g : Fin 1024) (o : OpFields) (s : State) : Host.Outcome State Fault Refusal :=
  issue g 0x16 o s (dmafChecks s o) fun _ c t => queueTransfer t g 0x16 c o

/-! ### TATOM (R470, R668) -/

/-- The combinations of AOP and FMT of TATOM and SCATTER. -/
def elementDefined (aop fmt : Nat) (minmax : Bool) : Bool :=
  ((aop == 0 || (minmax && (aop == 1 || aop == 2))) && fmt ≤ 2) || (aop == 9 && fmt == 0)

/-- The checks of TATOM. -/
def tatomChecks (s : State) (o : OpFields) : Nat → Core → List Nat :=
  let aop := modBits o 0 4
  fun n c =>
    let t := tileOf (c.reg o.a)
    let a := (c.reg o.b).toNat
    let b := (c.reg o.c).toNat
    unused o false true true true 15 3 ++ check eRSVD_FIELD (!elementDefined aop t.fmt true) ++ t.exc
      ++ control c [o.a, o.b, o.c] ++ s.rangeExc n (remoteLines a b t)
      ++ check eMISALIGNED (a % 4 ≠ 0 || b % 4 ≠ 0) ++ s.atomicExc n a aop
      ++ check eDMA_RANGE (spaceOf a == spCluster || b < t.lb)

/-- TATOM (R470). -/
def execTatom (g : Fin 1024) (o : OpFields) (s : State) : Host.Outcome State Fault Refusal :=
  issue g 0x61 o s (tatomChecks s o) fun _ c t => queueTransfer t g 0x61 c o

/-! ### GATHER and SCATTER (R471, R687) -/

/-- The declaration whose entries hold an address, with its place in the image and the entry's index. -/
def Region.declAt (r : Region) (a : Nat) : Option (Nat × GatherDecl × Nat) :=
  match r.image with
  | none => none
  | some im =>
    (im.decls.zipIdx.find? fun e => e.1.rbAddr + 256 ≤ a && a < e.1.rbAddr + 256 + 8 * e.1.maxEntries).map fun e =>
      (e.2, e.1, (a - e.1.rbAddr - 256) / 8)

/-- ENTRIES of a declaration as the launch check left it (R685). -/
def Region.entriesOf (r : Region) (d : Nat) : Nat := (r.launch.map fun l => l.entries.getD d 0).getD 0

/-- The checks of GATHER and SCATTER (R687). -/
def State.gatherExc (s : State) (n : Nat) (c : Core) (o : OpFields) (scatter : Bool) : List Nat :=
  let a := (c.reg o.a).toNat
  let k := (c.reg o.b).toNat
  let t := tileOf (c.reg o.c)
  let d := (c.reg o.d).toNat
  let aop := modBits o 0 4
  let filter := immBits o 5 1 == 1
  unused o true true true true (if scatter then 15 else 0) (if scatter then 0xFF else 0x3F)
    ++ control c [o.a, o.b, o.c, o.d] ++ t.exc
    ++ check eRSVD_FIELD (t.trans || t.fmt == 7 || (scatter && !elementDefined aop t.fmt false))
    ++ check eMISALIGNED (a % 8 ≠ 0 || d % 32 ≠ 0 || t.lb % 32 ≠ 0)
    ++ match (s.rgn n).declAt a with
      | none => [eDMA_RANGE]
      | some (i, decl, first) =>
        let rows := if scatter then decl.outRows else decl.inRows
        let stride := if scatter then decl.outStride else decl.inStride
        check eDMA_RANGE (k == 0 || decide ((s.rgn n).entriesOf i < first + k) || stride < t.lb
            || decide (t.rows < (if filter then min k decl.maxPerOffset else k)))
          ++ s.rangeExc n [(d, (rows - 1) * stride + t.lb)]
          ++ (if scatter then s.atomicExc n d aop else [])

/-- The checks of GATHER. -/
def gatherChecks (s : State) (o : OpFields) : Nat → Core → List Nat :=
  fun n c =>
    s.gatherExc n c o false

/-- GATHER (R471, R687). -/
def execGather (g : Fin 1024) (o : OpFields) (s : State) : Host.Outcome State Fault Refusal :=
  issue g 0x62 o s (gatherChecks s o) fun _ c t => queueTransfer t g 0x62 c o

/-- The checks of SCATTER. -/
def scatterChecks (s : State) (o : OpFields) : Nat → Core → List Nat :=
  fun n c =>
    s.gatherExc n c o true

/-- SCATTER (R471, R687). -/
def execScatter (g : Fin 1024) (o : OpFields) (s : State) : Host.Outcome State Fault Refusal :=
  issue g 0x63 o s (scatterChecks s o) fun _ c t => queueTransfer t g 0x63 c o

/-! ### What a transfer does when it runs (R432) -/

/-- The pieces of a DMA transfer: remote address, cluster offset, length. -/
def Transfer.moves (t : Transfer) : List (Nat × Nat × Nat) :=
  let a := t.a.toNat
  let b := t.b.toNat
  if t.mod.getLsbD 0 then [(a, t.c.toNat % 2 ^ 46, b)]
  else
    let d := tileOf t.c
    (List.range d.lines).map fun i => (a + i * b, d.lineAt i, d.lb)

/-- The bytes of a DMAF (R447). -/
def fillBytes (pat : Word64) (len : Nat) : List Byte :=
  let p := toBytes 8 pat.toNat
  (List.range len).map fun j => p.getD (j % 8) 0

/-- Bytes written into core g's cluster memory; `bad` gives the poisoned words as indices. -/
def State.intoCluster (s : State) (c off : Nat) (bytes : List Byte) (bad : List Nat) : State :=
  s.modCluster c fun k => { k with mem := k.mem.write (memAt off bytes) bad }

/-- The words of a piece that are poisoned, moved from one address to another. -/
def moveWords (bad : List Nat) (src dst len : Nat) : List Nat :=
  (bad.filter fun w => src ≤ 8 * w + 7 && 8 * w < src + len).map fun w => (8 * w - src + dst) / 8

/-- A rule-book entry as a gather engine reads it: its word, or none when it is poisoned (R678, R688). -/
def State.ruleEntries (s : State) (n a k : Nat) : List (Option Nat) × State :=
  let (bytes, bad, t) := s.loadRange n a (8 * k) cGATHER
  ((List.range k).map fun i => if bad.contains ((a + 8 * i) / 8) then none else some (fromBytes ((bytes.drop (8 * i)).take 8)), t)

/-- The selected entries, in entry order (R688). -/
def selectEntries (t : Transfer) (l : List (Option Nat)) : List (Option Nat) :=
  let filter := t.imm.getLsbD 5
  let offset := t.imm.toNat % 32
  l.filter fun e =>
    match e with
    | none => !filter
    | some w => !filter || bitsOf w 54 5 == offset

/-- The rows a GATHER or SCATTER visits: the table address of each selected entry's row; none for a poisoned entry. -/
def rowAddrs (t : Transfer) (decl : GatherDecl) (sel : List (Option Nat)) : List (Option Nat) :=
  sel.map fun e => e.map fun w =>
    if t.opc = 0x62 then t.d.toNat + bitsOf w 0 27 * decl.inStride else t.d.toNat + bitsOf w 27 27 * decl.outStride

/-- The elements of line i of a tile with their bytes' offsets. -/
def lineElements (d : Tile) (m : PMem) (draw i : Nat) : List (Nat × Nat × Bool) :=
  (List.range d.lineLen).map fun j =>
    let (r, c) := d.place i j
    let off := j * fmtBits d.fmt / 8
    (off, d.code m draw r c, m.poisoned ((d.lineAt i + off) / 8))

/-- The remote side of a transfer: the reads it makes (address, length), the writes (address, bytes, poisoned words) and
the element atomics (address, AOP, FMT, operand, poison). -/
structure Traffic where
  reads : List (Nat × Nat) := []
  writes : List (Nat × List Byte × List Nat) := []
  atoms : List (Nat × Nat × Nat × Nat × Bool) := []
  deriving DecidableEq, Repr

/-- The element atomics from a tile's lines onto remote lines. -/
def tileAtoms (d : Tile) (m : PMem) (draw aop : Nat) (lines : List (Nat × Nat)) : List (Nat × Nat × Nat × Nat × Bool) :=
  lines.flatMap fun l => (lineElements d m draw l.1).map fun e => (l.2 + e.1, aop, d.fmt, e.2.1, e.2.2)

/-- The cluster memory as a transfer reads its source: the words that it has read already are as they were then (R432). -/
def State.sourceMem (s : State) (t : Transfer) : PMem := (s.cluster (t.core / 8)).mem.copyWords t.buffer t.taken

/-- What a transfer does on its remote side. -/
def State.traffic (s : State) (t : Transfer) (rows : List (Option Nat)) : Traffic :=
  let m := s.sourceMem t
  match t.opc with
  | 0x14 => { reads := t.moves.map fun p => (p.1, p.2.2) }
  | 0x15 => { writes := t.moves.map fun p =>
      let r := m.read s.draws p.2.1 p.2.2
      (p.1, r.1, r.2.map fun w => p.1 / 8 + w) }
  | 0x16 => { writes := [(t.a.toNat, fillBytes t.c t.b.toNat, [])] }
  | 0x61 =>
    let d := tileOf t.a
    { atoms := tileAtoms d m s.draws (t.mod.toNat % 16) ((List.range d.lines).map fun i => (i, t.b.toNat + i * t.c.toNat)) }
  | 0x62 => { reads := rows.filterMap fun r => r.map fun a => (a, (tileOf t.c).lb) }
  | _ =>
    let d := tileOf t.c
    { atoms := tileAtoms d m s.draws (t.mod.toNat % 16)
        (rows.zipIdx.filterMap fun e => e.1.map fun a => (e.2, a)) }

/-- The remote address that names a transfer's space. -/
def Transfer.remote (t : Transfer) : Nat :=
  if t.opc = 0x61 then t.b.toNat else if t.opc = 0x62 ∨ t.opc = 0x63 then t.d.toNat else t.a.toNat

/-- The rows of a GATHER or SCATTER, the poisoned entries counted as poison of the launch (R688). -/
def State.transferRows (s : State) (n : Nat) (t : Transfer) : List (Option Nat) × State :=
  if t.opc = 0x62 ∨ t.opc = 0x63 then
    match (s.rgn n).declAt t.a.toNat with
    | none => ([], s)
    | some (_, decl, _) =>
      let (l, u) := s.ruleEntries n t.a.toNat t.b.toNat
      (rowAddrs t decl (selectEntries t l), u.when (l.any Option.isNone) fun v => v.launchPoison n)
  else ([], s)

/-- The requests of a transfer into the link window are handed to the port, in pieces of at most 256 bytes (R747). -/
def State.sendTraffic (s : State) (n c : Nat) (t : Transfer) (f : Traffic) : State :=
  let port := linkPort t.remote
  let base : Packet := { id := 0, kind := .read, region := n, src := .dma c t.id, dst := .port port }
  let reads : List Packet := f.reads.flatMap fun r =>
    (List.range (ceilDiv r.2 256)).map fun i => { base with addr := r.1 + 256 * i, size := min 256 (r.2 - 256 * i) }
  let writes : List Packet := f.writes.flatMap fun w => (piecesOf (memAt w.1 w.2.1)).map fun p =>
    { base with kind := .write, addr := p.addr, size := ((p.bytes.getLast?.map (·.1)).getD 0) + 1, bytes := p.bytes
                poison := moveWords w.2.2 p.addr 0 256 }
  let atoms : List Packet := f.atoms.map fun a =>
    { base with kind := .atomic, addr := a.1, size := fmtBits a.2.2.1 / 8, op := a.2.1
                fmt := if a.2.2.1 = 0 then 2 else a.2.2.1 + 2, operand := a.2.2.2.1, bad := a.2.2.2.2 }
  let all := reads ++ writes ++ atoms
  let s1 := s.modCluster c fun k => { k with dma := k.dma.map fun x =>
    if x.id == t.id then { x with sent := true, unanswered := all.length } else x }
  overList all s1 fun u p =>
    let (id, v) := u.newId
    v.toEdge { p with id := id }

/-- A remote range read by a transfer: from the link's answers, from the issuing cluster (a table there), or from its
home slices. -/
def State.remoteRead (s : State) (n : Nat) (t : Transfer) (a len : Nat) : List Byte × List Nat × State :=
  let c := t.core / 8
  if spaceOf a = spLink then
    let r := t.got.read s.draws a len
    (r.1, r.2.map fun w => a / 8 + w, s)
  else if spaceOf a = spCluster then
    let r := (s.sourceMem t).read s.draws (a % 2 ^ 21) len
    (r.1, r.2.map fun w => a / 8 + w, s)
  else if t.opc = 0x14 then s.dmaLoadRange n (tileOfCluster c) a len
  else s.loadRange n a len cGATHER

/-- The effect of a transfer, whole (R432, R447, R470, R688, R689). -/
def State.runTransfer (s : State) (n : Nat) (t : Transfer) (rows : List (Option Nat)) : State :=
  let c := t.core / 8
  let f := s.traffic t rows
  let link := spaceOf t.remote = spLink
  match t.opc with
  | 0x14 =>
    overList t.moves s fun u p =>
      let (bytes, bad, v) := u.remoteRead n t p.1 p.2.2
      (v.when (!bad.isEmpty) fun w => w.launchPoison n).intoCluster c p.2.1 bytes (moveWords bad p.1 p.2.1 p.2.2)
  | 0x15 | 0x16 =>
    overList f.writes s fun u w =>
      let v := u.when (!w.2.2.isEmpty) fun x => x.launchPoison n
      if link then v else v.dmaStoreRange n (tileOfCluster c) t.core w.1 w.2.1 w.2.2
  | 0x62 =>
    let d := tileOf t.c
    overList rows.zipIdx s fun u e =>
      match e.1 with
      | none =>
        let bytes := (List.range d.lb).map fun k => Config.undefByte u.draws k
        { u with draws := u.draws + 1 }.intoCluster c (d.lineAt e.2) bytes (wordsOf (memAt (d.lineAt e.2) bytes))
      | some a =>
        let (bytes, bad, v) := u.remoteRead n t a d.lb
        (v.when (!bad.isEmpty) fun w => w.launchPoison n).intoCluster c (d.lineAt e.2) bytes
          (moveWords bad a (d.lineAt e.2) d.lb)
  | _ =>
    overList f.atoms s fun u a =>
      let v := u.when a.2.2.2.2 fun x => x.launchPoison n
      if link then v
      else if spaceOf a.1 = spCluster then
        let k := fmtBits a.2.2.1 / 8
        let m := (v.cluster c).mem
        let o := a.1 % 2 ^ 21
        let old := fromBytes (m.read v.draws o k).1
        let bad := a.2.2.2.2 || m.poisoned (o / 8)
        { v with draws := v.draws + 1 }.intoCluster c o (toBytes k (elementNew a.2.1 a.2.2.1 old a.2.2.2.1))
          (if bad then [o / 8] else [])
      else v.elementAtomic n a.1 a.2.1 a.2.2.1 a.2.2.2.1 (if t.opc = 0x63 then cGATHER else cDYN) a.2.2.2.2

/-- The class of a transfer's element atomics (R700). -/
def Transfer.atomClass (t : Transfer) : Nat := if t.opc = 0x63 then cGATHER else cDYN

/-- One of a transfer's accesses waits: at a slice that does not serve, for a fetch that refresh-only or feedback holds (R112,
R711), or for room in a channel's queues (R710). -/
def State.transferHeld (s : State) (n : Nat) (t : Transfer) (rows : List (Option Nat)) : Bool :=
  let f := s.traffic t rows
  let tile := tileOfCore t.core
  (f.reads.any fun r => if t.opc = 0x14 then s.dmaHeld n tile r.1 r.2 false else s.rangeHeld n cGATHER r.1 r.2)
    || (f.writes.any fun w => s.dmaHeld n tile w.1 w.2.1.length true)
    || (f.atoms.any fun a => s.pieceHeld n t.atomClass a.1 (fmtBits a.2.2.1 / 8))
    || ((t.opc == 0x62 || t.opc == 0x63) && s.rangeHeld n cGATHER t.a.toNat (8 * t.b.toNat))

/-- The transfer's fetches that refresh-only or feedback holds (R721). -/
def State.transferHolds (s : State) (n : Nat) (t : Transfer) (rows : List (Option Nat)) : List (Nat × Bool) :=
  let f := s.traffic t rows
  let tile := tileOfCore t.core
  (f.reads.flatMap fun r => if t.opc = 0x14 then s.dmaHolds n tile r.1 r.2 false else s.heldFetches n cGATHER r.1 r.2)
    ++ (f.writes.flatMap fun w => s.dmaHolds n tile w.1 w.2.1.length true)
    ++ (f.atoms.flatMap fun a => s.heldFetches n t.atomClass a.1 (fmtBits a.2.2.1 / 8))
    ++ (if t.opc = 0x62 ∨ t.opc = 0x63 then s.heldFetches n cGATHER t.a.toNat (8 * t.b.toNat) else [])

/-- A transfer that waits: what holds it is counted, once (R722). -/
def State.holdTransfer (s : State) (n : Nat) (t : Transfer) (rows : List (Option Nat)) : State :=
  let l := s.transferHolds n t rows
  if t.held || l.isEmpty then s
  else
    let cls := if t.opc = 0x62 ∨ t.opc = 0x63 then cGATHER else cDYN
    (s.countHolds n cls l).modCluster (t.core / 8) fun k =>
      { k with dma := k.dma.map fun x => if x.id == t.id then { x with held := true } else x }

/-- The serving gather engine counts a GATHER or SCATTER (R686, MSL_GTH_OPS). -/
def State.countGather (s : State) (t : Transfer) : State :=
  let i := proxyOf (tileOfCore t.core)
  if t.opc = 0x62 then s.countMod (F.MSL_GTH_OPS_GATHERS i)
  else if t.opc = 0x63 then s.countMod (F.MSL_GTH_OPS_SCATTERS i) else s

/-- Link requests of a transfer still count toward its completion: unanswered reads always; writes and atomics for
scope SYSTEM alone (R634, R676, R690). -/
def Transfer.waitsForLink (t : Transfer) : Bool :=
  let scope := if t.opc = 0x63 then t.imm.toNat / 64 % 4 else t.imm.toNat % 4
  t.unanswered ≠ 0 && (t.opc == 0x14 || t.opc == 0x62 || t.opc == 0x15 || t.opc == 0x16 || scope == 3)

/-! ### The course of a transfer (R432) -/

/-- The words that ranges of bytes touch. -/
def rangeWords (l : List (Nat × Nat)) : List Nat :=
  (l.flatMap fun r => if r.2 = 0 then [] else (List.range ((r.1 + r.2 - 1) / 8 - r.1 / 8 + 1)).map (r.1 / 8 + ·)).eraseDups

/-- The words of cluster memory that a transfer writes, and those that it reads. -/
def State.transferWrites (s : State) (t : Transfer) (rows : List (Option Nat)) : List Nat :=
  match t.opc with
  | 0x14 => rangeWords (t.moves.map fun p => (p.2.1, p.2.2))
  | 0x62 => rangeWords (((List.range rows.length).map fun i => ((tileOf t.c).lineAt i, (tileOf t.c).lb)))
  | 0x61 | 0x63 => rangeWords ((s.traffic t rows).atoms.filterMap fun a =>
      if spaceOf a.1 = spCluster then some (a.1 % 2 ^ 21, fmtBits a.2.2.1 / 8) else none)
  | _ => []

def State.transferReads (s : State) (t : Transfer) (rows : List (Option Nat)) : List Nat :=
  match t.opc with
  | 0x15 => rangeWords (t.moves.map fun p => (p.2.1, p.2.2))
  | 0x61 => rangeWords (tileOf t.a).pieces
  | 0x62 => rangeWords ((s.traffic t rows).reads.filterMap fun r =>
      if spaceOf r.1 = spCluster then some (r.1 % 2 ^ 21, r.2) else none)
  | 0x63 => rangeWords (tileOf t.c).pieces
  | _ => []

/-- A transfer runs to its end: the words that it wrote before keep what has become of them since (R432). -/
def State.endTransfer (s : State) (n : Nat) (t : Transfer) (rows : List (Option Nat)) : State :=
  let m := (s.cluster (t.core / 8)).mem
  (s.runTransfer n t rows).modCluster (t.core / 8) fun k => { k with mem := k.mem.copyWords m t.written }

/-- A running transfer goes on: of the words that it has still to move in cluster memory it moves some, each or not as a free value has it
(R432). One whose remote data is not at hand moves none. -/
def State.progress (s : State) (n : Nat) (t : Transfer) : State :=
  let c := t.core / 8
  let (rows, s1) := s.transferRows n t
  if s.transferHeld n t rows || (spaceOf t.remote == spLink && (t.unanswered != 0 || t.sent != (t.opc == 0x14 || t.opc == 0x62))) then s
  else
    let now (w : Nat) : Bool := Config.movesNow s.draws w
    let out := (s.transferWrites t rows).filter fun w => !t.written.contains w && now w
    let inn := (s.transferReads t rows).filter fun w => !t.taken.contains w && now w
    let m := (s.cluster c).mem
    let new := ((s1.runTransfer n t rows).cluster c).mem
    let s2 : State := { s with draws := s.draws + 1 }
    s2.modCluster c fun k => { k with
      mem := m.copyWords new out
      dma := k.dma.map fun x =>
        if x.id == t.id then
          { x with written := x.written ++ out, taken := x.taken ++ inn, buffer := x.buffer.copyWords m inn }
        else x }

/-- The transfers that run in a cluster go on: at most four (R375). -/
def State.progressCluster (s : State) (c : Nat) : State :=
  match s.ownerOf (tileOfCluster c) with
  | none => s
  | some n => if s.clockStopped (tileOfCluster c) then s else overList ((s.cluster c).dma.take 4) s fun u t => u.progress n t

/-- Every transfer that runs goes on. -/
def State.progressAll (s : State) : State :=
  overList ((s.clusters.filter fun e => !e.2.dma.isEmpty).map (·.1)) s State.progressCluster

/-- A transfer of the cluster completes (R375): one of the four that run, in the order of the queue. A transfer into the
link window first hands its requests to the port, and completes when they are answered. -/
def execDmaTransferComplete (cluster : Fin 128) (slot : Fin 16) (s : State) : Host.Outcome State Fault Refusal :=
  match (if slot.val < 4 then (s.cluster cluster).dma[slot.val]? else none), s.ownerOf (tileOfCluster cluster) with
  | some t, some n =>
    let (rows, s1) := s.transferRows n t
    if s.clockStopped (tileOfCluster cluster) || !s.mayInject n (tileOfCluster cluster) then done s
    else if s.transferHeld n t rows then done (s.holdTransfer n t rows)
    else if spaceOf t.remote = spLink && !t.sent then done (s1.sendTraffic n cluster t (s1.traffic t rows))
    else if t.waitsForLink then done s
    else
      let u := ((s1.endTransfer n t rows).countGather t).modCluster cluster fun k =>
        { k with dma := k.dma.filter fun x => x.id != t.id }
      done (u.modCore t.core fun c => { c with dmaDone := c.dmaDone + 1 })
  | _, _ => done s

end Sys2Proof.Machine
end

