-- ==== Sys2Proof/Machine/Fence.lean ====
section
/-! DEFINITION. Fences of cores, tiles and slices (20_fencing_service_and_returns.md, R849 to R858) and what they do to the
region's table set (10_scheduled_plane.md, R516 to R520). -/

namespace Sys2Proof.Machine

/-! ### Table sets (R505, R516, R517) -/

/-- The tile of a table record in region n's rectangle. -/
def State.recordTile (s : State) (n dx dy : Nat) : Nat :=
  16 * (dy + (if s.fld (F.RGN_RECT_EXTENT n) = 2 then 6 else 0)) + s.fld (F.RGN_RECT_X0 n) + dx

/-- The core of a program record: its row counts from the first cluster row (R415). -/
def State.recordCore (s : State) (n : Nat) (p : Program) : Nat :=
  8 * (16 * (p.dy + (if s.fld (F.RGN_RECT_EXTENT n) = 2 then 4 else 0)) + s.fld (F.RGN_RECT_X0 n) + p.dx) + p.core

/-- Region n's controller treats the tile as fenced (R516, R533). -/
def State.outOfPlane (s : State) (n t : Nat) : Bool := s.tileFenced t || (s.rgn n).isolated.contains t

/-- Table set k of an image fits the fences in force (R516). -/
def State.setFits (s : State) (n : Nat) (im : Image) (k : Nat) : Bool :=
  ((im.sets.getD k []).all fun r => r.entries.isEmpty || !s.outOfPlane n (s.recordTile n r.dx r.dy))
    && im.programs.all fun p =>
      let g := s.recordCore n p
      !s.coreFenced g && !s.outOfPlane n (tileOfCore g)

/-- The lowest-numbered set that fits (R517). -/
def State.fittingSet (s : State) (n : Nat) (im : Image) : Option Nat :=
  (List.range im.sets.length).find? fun k => s.setFits n im k

/-! ### Unit bits (R849, R850, R881) -/

/-- The fenced bit of a unit, and its standby bit. -/
def fencedBit (k : UnitKind) (i : Nat) : Fld × Nat :=
  match k with
  | .core => (F.FLT_CORE_FENCED_FENCED (i / 32), i % 32)
  | .tile => (F.FLT_TILE_FENCED_FENCED (i / 32), i % 32)
  | .slice => (F.FLT_TILE_FENCED_FENCED (tileOfSlice i / 32), tileOfSlice i % 32)
  | .port => (F.FLT_PORT_FENCED, i)

def standbyBit (k : UnitKind) (i : Nat) : Fld × Nat :=
  match k with
  | .core => (F.FLT_CORE_STANDBY_STANDBY (i / 32), i % 32)
  | .tile => (F.FLT_TILE_STANDBY_STANDBY (i / 32), i % 32)
  | .slice => (F.FLT_TILE_STANDBY_STANDBY (tileOfSlice i / 32), tileOfSlice i % 32)
  | .port => (F.FLT_PORT_STANDBY, i)

/-- The service state of a unit in the data path: 0 IN_SERVICE, 1 FENCED, 2 STANDBY (R849). -/
def State.unitState (s : State) (k : UnitKind) (i : Nat) : Nat :=
  if s.bitAt (standbyBit k i).1 (standbyBit k i).2 then 2
  else bit (s.bitAt (fencedBit k i).1 (fencedBit k i).2)

/-- The slice of a unit, if it is a slice or a slice's tile. -/
def sliceOf (k : UnitKind) (i : Nat) : Option Nat :=
  match k with
  | .slice => some i
  | .tile => if isSliceTile i then some (sliceOfTile i) else none
  | _ => none

/-- A unit's bits take a service state: a slice's registers follow (MSL_STATE, HBM_STATUS), and a change sets CHANGED
(R855, R881). -/
def State.putUnit (s : State) (k : UnitKind) (i st : Nat) : State :=
  if s.unitState k i = st then s
  else
    let t := (s.setBit (fencedBit k i).1 (fencedBit k i).2 (st != 0)).setBit (standbyBit k i).1 (standbyBit k i).2 (st == 2)
    let u := t.raise F.FLT_STATUS_CHANGED
    match sliceOf k i with
    | none => u
    | some j =>
      let ch := channelOfSlice j
      ((u.setFld (F.MSL_STATE_FENCED j) (bit (st != 0))).setBit (F.HBM_STATUS_CH_FENCED (ch / 16)) (ch % 16) (st != 0)).setBit
        (F.HBM_STATUS_CH_FENCED (ch / 16)) (ch % 16 + 1) (st != 0)

/-! ### Fences (R855, R858) -/

/-- The tile a unit stands on. -/
def unitTile (k : UnitKind) (i : Nat) : Nat :=
  match k with
  | .core => tileOfCore i
  | .tile => i
  | .slice => tileOfSlice i
  | .port => 0

/-- A cluster tile's cores, memory and engines are out of use: what they held is lost. -/
def State.dropCluster (s : State) (c : Nat) : State :=
  overList (coresOfCluster c) (s.modCluster c fun _ => {}) fun u g => u.modCore g fun _ => {}

/-- The cores that a fence stops leave their programs; a core of a tile loses its state with the tile's power, and what waited at
the tile to enter the plane is gone. -/
def State.stopUnit (s : State) (k : UnitKind) (i : Nat) : State :=
  match k with
  | .core => s.modCore i fun c => { c with status := if c.status = .running then .halted else c.status, wait := .none }
  | .tile =>
    if isSliceTile i then s
    else (s.dropCluster (clusterOfTile i)).clearPackets fun p => p.place == .source && agentTile p.src == i
  | _ => s

/-- Fences that waited for the end of a frame take effect. -/
def State.applyFences (s : State) (n : Nat) : State :=
  overList (s.rgn n).pendingFences (s.modRgn n fun r => { r with pendingFences := [] }) fun u e =>
    (u.putUnit e.1 e.2 1).stopUnit e.1 e.2

/-- The place of a unit among Vesper's records and the causes of hardware fences; a slice has its tile's (R850). -/
def unitKey (k : UnitKind) (i : Nat) : Nat :=
  match k with
  | .core => i
  | .tile => 1024 + i
  | .slice => 1024 + tileOfSlice i
  | .port => 1216 + i

/-- A capture that AUTO_CAPTURE may take at the next tick (R874). -/
def State.wantCapture (s : State) (n : Option Nat) : State :=
  { s with vesper := { s.vesper with captureWanted := s.vesper.captureWanted ++ [n] } }

end Sys2Proof.Machine
end

