-- ==== Sys2Proof/Machine/Rings.lean ====
section
/-! DEFINITION. Rings (06_rings_and_doorbells.md): the records in host memory, Ring Watch, the fetch and check of
descriptors, when a descriptor starts, completion records and the ring states (R269 to R288, R300 to R321). -/

namespace Sys2Proof.Machine

/-! ### Rings of a VF -/

def State.ring (s : State) (n i : Nat) : Ring := (s.vf n).rings.getD i {}

/-- Ring i of VF n changed by `f`. -/
def State.modRing (s : State) (n i : Nat) (f : Ring → Ring) : State :=
  s.modVf n fun v => { v with rings := v.rings.zipIdx.map fun e => if e.2 == i then f e.1 else e.1 }

/-- The ring states of R316. -/
def qDISABLED : Nat := 0
def qRUNNING : Nat := 1
def qSTOPPING : Nat := 2
def qSTOPPED : Nat := 3

def State.ringState (s : State) (n i : Nat) : Nat := s.fld (F.RING_STATUS_STATE n i)

/-- Words of the doorbell page, the submission rings and the completion ring (R269, R272). -/
def State.dbBase (s : State) (n : Nat) : Nat :=
  s.fld (F.RING_DB_BASE_LO_VALUE n) * 2 ^ 12 + s.fld (F.RING_DB_BASE_HI_VALUE n) * 2 ^ 32
def State.cqBase (s : State) (n : Nat) : Nat :=
  s.fld (F.RING_CQ_BASE_LO_VALUE n) * 2 ^ 12 + s.fld (F.RING_CQ_BASE_HI_VALUE n) * 2 ^ 32
def State.cqLen (s : State) (n : Nat) : Nat := 2 ^ s.fld (F.RING_CQ_SIZE_SIZE_LOG2 n)
def State.ringBase (s : State) (n i : Nat) : Nat :=
  s.fld (F.RING_BASE_LO_VALUE n i) * 2 ^ 12 + s.fld (F.RING_BASE_HI_VALUE n i) * 2 ^ 32
def State.ringLen (s : State) (n i : Nat) : Nat := 2 ^ s.fld (F.RING_SIZE_SIZE_LOG2 n i)
def State.produced (s : State) (n : Nat) : Nat := s.fld (F.RING_CQ_PRODUCED_PRODUCED n)
def State.consumed (s : State) (n i : Nat) : Nat := s.fld (F.RING_CONSUMED_CONSUMED n i)
def State.producerSeen (s : State) (n i : Nat) : Nat := s.fld (F.RING_PRODUCER_SEEN_PRODUCER_SEEN n i)

/-- The host addresses of entry k of a submission ring and of the completion ring (R272). -/
def State.slotAddr (s : State) (n i k : Nat) : Nat := s.ringBase n i + 64 * (k % s.ringLen n i)
def State.cqAddr (s : State) (n k : Nat) : Nat := s.cqBase n + 32 * (k % s.cqLen n)

/-- The distance from one free-running index to another (R272). -/
def ahead (a b : Nat) : Nat := (a + 2 ^ 32 - b % 2 ^ 32) % 2 ^ 32

/-! ### Status records (R279, R280) -/

/-- The status record of ring i, or of the completion ring (i = 8): its address and its 16 bytes. -/
def State.statusRecord (s : State) (n i : Nat) : Nat × List Byte :=
  if i = 8 then
    (s.dbBase n + 0x880, toBytes 4 (s.produced n) ++ toBytes 4 0
      ++ toBytes 4 (s.fld (F.RING_VF_STATUS_COMPLETION_STALL n) + 2 * s.fld (F.RING_VF_STATUS_CQ_ERR n))
      ++ toBytes 4 (s.fld (F.RING_VF_STATUS_LOST_RECORDS n)))
  else
    (s.dbBase n + 0x800 + 16 * i, toBytes 4 (s.consumed n i) ++ toBytes 4 (s.fld (F.RING_GEN_VALUE n i))
      ++ toBytes 2 (s.ringState n i + 4 * s.fld (F.RING_STATUS_PAUSED n i)) ++ toBytes 2 (s.fld (F.RING_STATUS_STOP_CAUSE n i))
      ++ toBytes 4 (s.producerSeen n i))

/-- The ring of a status record is enabled. -/
def State.statusOn (s : State) (n i : Nat) : Bool :=
  if i = 8 then s.on (F.RING_ENABLE_CQ n) else s.ringState n i != qDISABLED

/-- A field of a status record has changed: the record is written, or waits until the VF may issue requests (R232). -/
def State.noteStatus (s : State) (n i : Nat) : State :=
  if !s.statusOn n i then s
  else if s.mayRequest (n + 1) then s.hostWriteOut (n + 1) (s.statusRecord n i).1 (s.statusRecord n i).2
  else s.modVf n fun v => { v with statusDue := insertNat v.statusDue i }

/-- Status records that waited are written. -/
def State.flushStatus (s : State) (n : Nat) : State :=
  if s.mayRequest (n + 1) then
    overList (s.vf n).statusDue (s.modVf n fun v => { v with statusDue := [] }) fun u i => u.noteStatus n i
  else s

/-! ### Completion records (R304 to R315) -/

/-- The completion ring is full (R311). -/
def State.cqFull (s : State) (n : Nat) : Bool :=
  s.on (F.RING_VF_STATUS_CQ_ERR n) || decide (s.cqLen n ≤ ahead (s.produced n) (s.vf n).consumer.toNat)

/-- HELD, COMPLETION_STALL and RWE_STALL brought into line with the holding buffer. -/
def State.noteHeld (s : State) (n : Nat) : State :=
  let k := (s.vf n).held.length
  let b := decide (0 < k)
  ((s.setFld (F.RING_VF_STATUS_HELD n) k).setFld (F.RING_VF_STATUS_COMPLETION_STALL n) (bit b)).setBit F.RWE_STALL_STALL n b

/-- One record written into the completion ring: SEQ is its own index; the completion status record and, when asked for,
the COMPLETION vector follow it (R305, R309, R310). -/
def State.writeRecord (s : State) (n : Nat) (r : Record) : State :=
  let k := s.produced n
  let words := r.words.set 7 (r.words.getD 7 0 ||| BitVec.ofNat 32 (k % 2 ^ 16 * 2 ^ 16))
  let t := s.hostWriteOut (n + 1) (s.cqAddr n k) (words.flatMap fun w => toBytes 4 w.toNat)
  let t := (t.countMod (F.RING_CQ_PRODUCED_PRODUCED n)).noteStatus n 8
  t.when r.irq fun u => u.sendVf n 0

/-- A record falls due: it is written, or joins the holding buffer while the completion ring is full (R311). Past 16
held records it waits for room there (R313, R314). -/
def State.enterRecord (s : State) (n : Nat) (r : Record) : State :=
  let v := s.vf n
  if v.held.isEmpty && !s.cqFull n then s.writeRecord n r
  else if v.held.length < 16 then
    ((s.modVf n fun v => { v with held := v.held ++ [r], interval := s.fld F.RWE_POLL_POLL_MIN_US }).noteHeld n).noteStatus n 8
  else s.modVf n fun v => { v with waiting := v.waiting ++ [r] }

/-- A record now due can be entered at once (R314). -/
def State.recordRoom (s : State) (n : Nat) : Bool :=
  let v := s.vf n
  if v.held.isEmpty && !s.cqFull n then s.mayRequest (n + 1) else v.held.length < 16 && v.waiting.isEmpty

/-- The record of a descriptor, or of a doorbell stop (R305). -/
def recordOf (tag index ring type status flags code abort result time : Nat) (irq : Bool) : Record :=
  { words := [BitVec.ofNat 32 tag, BitVec.ofNat 32 (index % 2 ^ 16 + ring * 2 ^ 16 + type * 2 ^ 24),
      BitVec.ofNat 32 (status + flags * 2 ^ 16), BitVec.ofNat 32 (code % 2 ^ 16 + abort * 2 ^ 24),
      BitVec.ofNat 32 result, BitVec.ofNat 32 (result / 2 ^ 32), BitVec.ofNat 32 time,
      BitVec.ofNat 32 (time / 2 ^ 32 % 2 ^ 16)]
    irq := irq }

/-- STATUS values (R306) and ABORT_CAUSE values (R307). -/
def stSUCCESS : Nat := 0
def stPOISONED : Nat := 1
def stHOST_DMA_ERROR : Nat := 2
def stABORTED : Nat := 3
def stREGION_FAULT : Nat := 4
def stLAUNCH_FAILED : Nat := 5
def stIMAGE_REJECTED : Nat := 6
def stNO_IMAGE : Nat := 7
def stREGION_NOT_READY : Nat := 8
def stTIMEOUT : Nat := 9
def stBARRIER_MISMATCH : Nat := 10
def stFORMAT_ERROR : Nat := 11
def acREGION_RESET : Nat := 1
def acVF_FLR : Nat := 2
def acREGION_FAULT : Nat := 3
def acFACILITY_HALT : Nat := 4
def acHOST_DMA_ERROR : Nat := 5
def acRING_DISABLED : Nat := 6

/-! ### Descriptors -/

/-- 32-bit and 64-bit fields of a descriptor. -/
def Desc.w (d : Desc) (k : Nat) : Nat := (d.words.getD k 0).toNat
def Desc.q (d : Desc) (k : Nat) : Nat := d.w k + d.w (k + 1) * 2 ^ 32
/-- The header (R285). -/
def Desc.type (d : Desc) : Nat := d.w 0 % 2 ^ 8
def Desc.cr (d : Desc) : Bool := (d.w 0).testBit 8
def Desc.irq (d : Desc) : Bool := (d.w 0).testBit 9
def Desc.ordered (d : Desc) : Bool := (d.w 0).testBit 10

/-- The types of R289. -/
def tyNOP : Nat := 0
def tyCOPY : Nat := 1
def tyFILL : Nat := 2
def tyLOAD : Nat := 3
def tyLAUNCH : Nat := 4
def tyWAIT : Nat := 5
def tyFENCE : Nat := 6
def tyBARRIER : Nat := 7
def tySIGNAL : Nat := 8
def tyQUERY : Nat := 9
def tySNAPSHOT : Nat := 10

/-- STATUS as it stands in the record: a success with POISON set is POISONED (R782). -/
def Desc.finalStatus (d : Desc) : Nat := if d.status = stSUCCESS ∧ d.poison then stPOISONED else d.status

/-- The record of a descriptor that completes now. -/
def State.descRecord (s : State) (i : Nat) (d : Desc) : Record :=
  recordOf (d.w 1) d.index.toNat i d.type d.finalStatus
    (bit d.delayedBudget + 2 * bit d.delayedQueue + 4 * bit d.aborted + 8 * bit d.poison) d.code
    (if d.aborted then d.abortCause else 0) d.result s.time (d.irq || d.finalStatus != stSUCCESS)

/-- The descriptor of a reference, if it is among the fetched ones of its ring. -/
def State.desc? (s : State) (d : DescRef) : Option Desc :=
  (s.ring d.vf.val d.ring.val).descs.find? fun x => x.index == d.index

/-- A descriptor's work is done, with a status: its record is due (R304). -/
def State.finish (s : State) (n i : Nat) (index : Word) (status code : Nat) (f : Desc → Desc := id) : State :=
  s.modDesc n i index fun d => { f d with phase := .finished, status := status, code := code }

/-- A descriptor is aborted for a cause, while in progress or before it has started (R307, R314). One that completes
without running and still waits for its record takes the cause of the later abort (R319). -/
def Desc.abort (d : Desc) (cause : Nat) : Desc :=
  match d.phase with
  | .running => { d with phase := .finished, status := stABORTED, code := 0, aborted := true, abortCause := cause }
  | .fetched | .blocked => { d with phase := .blocked, status := stABORTED, code := 0, aborted := true, abortCause := cause }
  | .finished => d

/-- A descriptor leaves its ring; its record, when it has one, is entered (R304). -/
def State.retire (s : State) (n i : Nat) (d : Desc) : State :=
  let t := s.modRing n i fun r => { r with descs := r.descs.filter fun x => x.index != d.index }
  t.when (d.cr || d.finalStatus != stSUCCESS) fun u => u.enterRecord n (s.descRecord i d)

/-- A ring waiting at a BARRIER is withdrawn from the count (R298). -/
def State.withdraw (s : State) (n i : Nat) : State :=
  s.modVf n fun v => { v with barriers := v.barriers.filter fun b => b.ring != i }

/-- A ring enters STOPPED (R288, R317). -/
def State.stopRing (s : State) (n i cause : Nat) : State :=
  let t := ((s.setFld (F.RING_STATUS_STATE n i) qSTOPPED).setFld (F.RING_STATUS_STOP_CAUSE n i) cause).setBit
    F.RWE_STOPPED_STOPPED n true
  ((t.withdraw n i).noteStatus n i).sendVf n 2

/-! ### When a descriptor starts (R300, R302) -/

def Desc.inProgress (d : Desc) : Bool := d.phase = .running || d.phase = .finished

/-- A WAIT, FENCE, BARRIER, SIGNAL or TELEMETRY_SNAPSHOT lets nothing later of its ring start (R300). -/
def Desc.blocking (d : Desc) : Bool := [tyWAIT, tyFENCE, tyBARRIER, tySIGNAL, tySNAPSHOT].contains d.type

/-- The device range a descriptor writes: COPY, FILL, SIGNAL with DST_DEV set. -/
def Desc.deviceDst (d : Desc) : Option (Nat × Nat) :=
  if d.type = tyCOPY ∧ (d.w 8).testBit 1 then some (d.q 4, d.q 6)
  else if d.type = tyFILL ∧ (d.w 8).testBit 1 then some (d.q 2, d.q 4)
  else if d.type = tySIGNAL ∧ (d.w 6).testBit 1 then some (d.q 2, 8)
  else none

/-- The bytes of a declared rule book in device space (R679): header and entries. -/
def GatherDecl.range (g : GatherDecl) : Nat × Nat := (g.rbAddr, 256 + 8 * g.maxEntries)

def overlap (a b : Nat × Nat) : Bool := a.1 < b.1 + b.2 && b.1 < a.1 + a.2

/-- A write that would change a declared rule book waits while the region runs (R681). -/
def State.ruleBookHeld (s : State) (n : Nat) (d : Desc) : Bool :=
  s.rgnState n == rRUNNING &&
    match d.deviceDst, (s.rgn n).image with
    | some r, some im => im.decls.any fun g => overlap r g.range
    | _, _ => false

/-- VF n may start descriptors: no region reset runs, nothing is held (R312, R319), the module is not in M2, and the VF has
fewer than 16 in progress. -/
def State.vfStarts (s : State) (n : Nat) : Bool :=
  let v := s.vf n
  let st := s.rgnState n
  (st == rREADY || st == rRUNNING || st == rFAULTED) && v.held.isEmpty && v.waiting.isEmpty
    && s.fld F.PWR_STATE_STATE != 2 && decide (((v.rings.flatMap Ring.descs).countP Desc.inProgress) < 16)

/-- The descriptor of ring i that would start next, when R300 lets it. -/
def State.startable (s : State) (n i : Nat) : Option Desc :=
  let l := (s.ring n i).descs
  let before := l.takeWhile fun d => d.phase ≠ .fetched
  let st := s.ringState n i
  match (l.dropWhile fun d => d.phase ≠ .fetched).head? with
  | none => none
  | some d =>
    if s.vfStarts n && (st == qRUNNING || st == qSTOPPED) && !s.on (F.RING_STATUS_PAUSED n i)
        && (before.isEmpty || !(d.ordered || d.type == tySIGNAL)) && !(before.any Desc.blocking)
        && decide (before.countP Desc.inProgress < 8) && !s.ruleBookHeld n d then some d
    else none

/-- The ring of VF n whose turn it is: the first after the ring served last that can start a descriptor (R302). -/
def State.turn (s : State) (n : Nat) : Option Nat :=
  ((List.range 8).map fun k => ((s.vf n).lastRing + 1 + k) % 8).find? fun i => (s.startable n i).isSome

/-- A descriptor of a type goes on, or starts now if it may and its ring has the turn: with its place in the order of
starts. -/
def State.begin (s : State) (r : DescRef) (type : Nat) : Option (Desc × State) :=
  let n := r.vf.val
  let i := r.ring.val
  match s.desc? r with
  | none => none
  | some d =>
    if d.type ≠ type then none
    else if d.phase = .running then some (d, s)
    else if d.phase = .fetched ∧ s.turn n = some i ∧ (s.startable n i).map Desc.index = some d.index then
      let (k, t) := s.newId
      let d' : Desc := { d with phase := .running, order := k, since := k, startTime := s.time }
      some (d', (t.modDesc n i d.index fun _ => d').modVf n fun v => { v with lastRing := i })
    else none

/-! ### Checks of a descriptor (R285 to R287, R290) -/

/-- The bits of words 2 to 15 that a type's layout names. -/
def layoutMask (type : Nat) : List Nat :=
  let f := 0xFFFFFFFF
  match type with
  | 1 => [f, f, f, f, f, 0xFF, 3]
  | 2 => [f, f, f, 0xFF, f, f, 2]
  | 3 => [f, f, f, f]
  | 4 => [f, f, f, f, f, f]
  | 5 => [f, f, f, f, f, f, 0xFF, f]
  | 6 => [f]
  | 7 => [0xF0F, f]
  | 8 => [f, f, f, f, 2]
  | 9 => [f, f, f]
  | 10 => [f, f]
  | _ => []

/-- A reserved bit is set (code 4). -/
def Desc.rsvd (d : Desc) : Bool :=
  bitsOf (d.w 0) 11 5 != 0 || (List.range 14).any fun k => d.w (2 + k) &&& (0xFFFFFFFF - (layoutMask d.type).getD k 0) != 0

/-- A field is outside its encodings (code 5). -/
def Desc.badField (d : Desc) : Bool :=
  match d.type with
  | 1 => d.w 8 % 4 == 0
  | 4 => d.w 2 == 0
  | 5 => 2 < d.w 8
  | 6 => 1 < d.w 2
  | 7 => bitsOf (d.w 2) 8 4 < 2 || 8 < bitsOf (d.w 2) 8 4
  | 9 => 2 < d.w 4
  | _ => false

/-- An address or length is misaligned (code 6). -/
def Desc.badAlign (d : Desc) : Bool :=
  match d.type with
  | 1 => d.q 2 % 4 != 0 || d.q 4 % 4 != 0 || d.q 6 % 4 != 0
  | 2 => d.q 2 % 8 != 0 || d.q 4 % 8 != 0
  | 3 => d.q 2 % 4096 != 0 || d.q 4 % 4096 != 0
  | 5 | 8 => d.q 2 % 8 != 0
  | 9 | 10 => d.q 2 % 64 != 0
  | _ => false

/-- A length is outside its limits (code 7). -/
def Desc.badLength (d : Desc) : Bool :=
  match d.type with
  | 1 => d.q 6 == 0
  | 2 => d.q 4 == 0
  | 3 => d.q 4 < 4096 || 2 ^ 28 < d.q 4
  | _ => false

/-- The bytes a QUERY copies (the table of SELECT). -/
def queryBytes (select : Nat) : Nat := if select = 0 then 256 else if select = 1 then 128 else 320

/-- The device ranges of a descriptor, and its host ranges. -/
def Desc.deviceRanges (d : Desc) : List (Nat × Nat) :=
  (if d.type = tyCOPY ∧ (d.w 8).testBit 0 then [(d.q 2, d.q 6)] else []) ++ d.deviceDst.toList

def Desc.hostRanges (d : Desc) : List (Nat × Nat) :=
  match d.type with
  | 1 => (if (d.w 8).testBit 0 then [] else [(d.q 2, d.q 6)]) ++ if (d.w 8).testBit 1 then [] else [(d.q 4, d.q 6)]
  | 2 => if (d.w 8).testBit 1 then [] else [(d.q 2, d.q 4)]
  | 3 => [(d.q 2, d.q 4)]
  | 5 => [(d.q 2, 8)]
  | 8 => if (d.w 6).testBit 1 then [] else [(d.q 2, 8)]
  | 9 => [(d.q 2, queryBytes (d.w 4))]
  | 10 => [(d.q 2, 128)]
  | _ => []

/-- A device address has a bit of 63:48 set, or the tag of cluster space (code 8). -/
def badSpace (r : Nat × Nat) : Bool := 2 ^ 48 ≤ r.1 || spaceOf r.1 == spCluster

/-- A device range does not lie within region n (R287). -/
def State.badRange (s : State) (n : Nat) (r : Nat × Nat) : Bool := !(s.rangeExc n [r]).isEmpty

/-- Two device ranges overlap, or a range is outside (code 9). -/
def State.rangesBad (s : State) (n : Nat) (d : Desc) : Bool :=
  (d.deviceRanges.any fun r => s.badRange n r)
    || (match d.deviceRanges with | [a, b] => overlap a b | _ => false)
    || d.hostRanges.any fun r => 2 ^ 64 < r.1 + r.2

/-- The code of the first check a descriptor fails; 0 when it passes (R286). -/
def State.checkDesc (s : State) (n : Nat) (d : Desc) : Nat :=
  if d.w 0 / 2 ^ 16 ≠ d.index.toNat % 2 ^ 16 then 2
  else if 10 < d.type then 3
  else if d.rsvd then 4
  else if d.badField then 5
  else if d.badAlign then 6
  else if d.badLength then 7
  else if d.deviceRanges.any badSpace then 8
  else if s.rangesBad n d then 9
  else 0

/-! ### Ring Watch (R274 to R284) -/

/-- VF n may be polled (R282). -/
def State.polls (s : State) (n : Nat) : Bool :=
  let st := s.rgnState n
  s.word (R.RING_ENABLE n) 0 != 0 && (st == rREADY || st == rRUNNING || st == rFAULTED) && s.mayRequest (n + 1)
    && s.fld F.PWR_STATE_STATE != 3 && s.power.phase = .run

/-- A record is torn: ECHO is not the complement of its first word. -/
def torn (r : List Word) : Bool := r.getD 3 0 != ~~~(r.getD 0 0)

/-- What the examination of a record found. -/
structure Found where
  fresh : Bool := false
  torn : Bool := false
  state : State

/-- A ring takes a valid record: PRODUCER_SEEN and PAUSED (R274, R275). -/
def State.takeRecord (s : State) (n i : Nat) (r : List Word) : State :=
  let p := (r.getD 0 0).toNat
  let pause := bit ((r.getD 2 0).getLsbD 0)
  let t := (s.setFld (F.RING_PRODUCER_SEEN_PRODUCER_SEEN n i) p).setFld (F.RING_STATUS_PAUSED n i) pause
  if p = s.producerSeen n i ∧ pause = s.fld (F.RING_STATUS_PAUSED n i) then s else t.noteStatus n i

/-- A doorbell stop: STOPPED, with a FORMAT_ERROR record of TYPE 0xFF (R274, R317). -/
def State.doorbellStop (s : State) (n i code : Nat) : State :=
  (s.stopRing n i code).enterRecord n (recordOf 0 (s.consumed n i) i 0xFF stFORMAT_ERROR 0 code 0 0 s.time true)

/-- The examination of a submission ring's record (R274, R303). A record that restarts the ring is not stale, and
STALE_COUNT does not count it (DEDUCED, log 149). -/
def State.examine (s : State) (n i : Nat) (r : List Word) : Found :=
  let p := (r.getD 0 0).toNat
  let gen := s.fld (F.RING_GEN_VALUE n i)
  let g := (r.getD 1 0).toNat
  let rsvdFlags := decide (2 ≤ (r.getD 2 0).toNat)
  let overrun := decide (s.ringLen n i < ahead p (s.consumed n i))
  let stopped := s.ringState n i == qSTOPPED
  if torn r then { torn := true, state := s.countSat (F.RING_POLL_STATS_TORN_COUNT n) }
  else if g ≠ gen then
    if stopped && g == (gen + 1) % 2 ^ 32 && !rsvdFlags && !overrun then
      let t := (s.setFld (F.RING_GEN_VALUE n i) g).setFld (F.RING_STATUS_STATE n i) qRUNNING
      { fresh := true
        state := ((t.setFld (F.RING_PRODUCER_SEEN_PRODUCER_SEEN n i) p).setFld (F.RING_STATUS_PAUSED n i)
          (bit ((r.getD 2 0).getLsbD 0))).noteStatus n i }
    else { state := s.countSat (F.RING_POLL_STATS_STALE_COUNT n) }
  else if rsvdFlags then { state := if stopped then s else s.doorbellStop n i 14 }
  else if overrun then { state := if stopped then s else s.doorbellStop n i 15 }
  else { fresh := p != s.producerSeen n i, state := s.takeRecord n i r }

/-- The examination of the completion ring's record (R278). -/
def State.examineCq (s : State) (n : Nat) (r : List Word) : Found :=
  let c := r.getD 0 0
  if torn r then { torn := true, state := s.countSat (F.RING_POLL_STATS_TORN_COUNT n) }
  else if r.getD 1 0 ≠ 0 ∨ r.getD 2 0 ≠ 0 ∨ s.cqLen n < ahead (s.produced n) c.toNat then
    { state := if s.on (F.RING_VF_STATUS_CQ_ERR n) then s else (s.raise (F.RING_VF_STATUS_CQ_ERR n)).noteStatus n 8 }
  else
    let t := s.modVf n fun v => { v with consumer := c }
    { fresh := c != (s.vf n).consumer && !(s.vf n).held.isEmpty
      state := if s.on (F.RING_VF_STATUS_CQ_ERR n) then (t.lower (F.RING_VF_STATUS_CQ_ERR n)).noteStatus n 8 else t }

/-- A WAIT is in progress in VF n. -/
def State.waits (s : State) (n : Nat) : Bool :=
  ((s.vf n).rings.flatMap Ring.descs).any fun d => d.type = tyWAIT && d.phase = .running

/-- The interval after a poll (R284). -/
def State.nextInterval (s : State) (n : Nat) (fresh tornSeen : Bool) : Nat :=
  let lo := s.fld F.RWE_POLL_POLL_MIN_US
  if fresh || tornSeen || s.waits n || s.on (F.RING_VF_STATUS_COMPLETION_STALL n) then lo
  else max lo (min (2 * (s.vf n).interval) (s.fld F.RWE_POLL_POLL_MAX_US))

/-- HOST_ERR after a failed host request (R234). -/
def State.hostError (s : State) (e : HostError) : State :=
  match e with
  | .ur => s.raise F.HOST_ERR_DMA_UR
  | .ca => s.raise F.HOST_ERR_DMA_CA

/-- A completion arrived poisoned for region n (R235). -/
def State.hostPoison (s : State) (n : Nat) : State := (s.raise F.HOST_ERR_POISON_IN).poisonIn kHostIn 0 (some n)

/-- What a host read that failed, or came back poisoned, leaves in the error registers. -/
def State.readEnded (s : State) (n : Nat) (r : FetchEnd) : State :=
  match r with
  | .good => s
  | .error e => s.hostError e
  | .timeout => s.raise F.HOST_ERR_DMA_TIMEOUT
  | .poisoned => s.hostPoison n

/-- A wake hint for VF n: Ring Watch polls it at once, and its interval is at the least (R243, R284). -/
def State.takeHint (s : State) (n : Nat) : State :=
  s.modVf n fun v => { v with hintPending := true, interval := s.fld F.RWE_POLL_POLL_MIN_US }

/-- One poll of VF n (R274, R278, R284): one 144-byte read of its doorbell page, and its examination: whether it found new
work, and the state after it. A read that failed, or that came back poisoned, finds nothing. -/
def State.poll (s : State) (n : Nat) (r : PollRead) : Bool × State :=
  let s := s.hostReadOut (n + 1) (s.dbBase n) 144
  if r.result ≠ .good then
    (false, (s.readEnded n r.result).modVf n fun v => { v with interval := s.nextInterval n false false, hintPending := false })
  else
    let start : Found := { state := s }
    let rings := (List.range 8).foldl (fun (f : Found) i =>
      let st := f.state.ringState n i
      if st = qRUNNING ∨ st = qSTOPPED then
        let g := f.state.examine n i (r.records.getD i [])
        { fresh := f.fresh || g.fresh, torn := f.torn || g.torn, state := g.state }
      else f) start
    let f := if rings.state.on (F.RING_ENABLE_CQ n) then
        let g := rings.state.examineCq n r.cq
        { fresh := rings.fresh || g.fresh, torn := rings.torn || g.torn, state := g.state }
      else rings
    (f.fresh, f.state.modVf n fun v =>
      { v with interval := f.state.nextInterval n f.fresh f.torn, tornLast := f.torn, hintPending := false })

/-- RING_WATCH_POLL (R282 to R284) in M0 and M1; an M2 poll is a poll excursion. -/
def execRingWatchPoll (vf : Fin 32) (r : PollRead) (s : State) : Host.Outcome State Fault Refusal :=
  if s.polls vf && s.fld F.PWR_STATE_STATE ≠ 2 then done (s.poll vf r).2 else done s

/-! ### Held records (R315) -/

/-- Held records are written while the completion ring has room, and waiting ones take their places. -/
def State.flushHeld : Nat → Nat → State → State
  | 0, _, s => s
  | fuel + 1, n, s =>
    let v := s.vf n
    match v.held with
    | [] => s
    | r :: rest =>
      if s.cqFull n then s
      else
        let t := s.modVf n fun v => { v with held := rest ++ v.waiting.take 1, waiting := v.waiting.drop 1 }
        State.flushHeld fuel n ((t.noteHeld n).writeRecord n r)

/-- HELD_RECORDS_FLUSH (R315): the held records are written in order, and COMPLETION_STALL clears when none is left. -/
def execHeldRecordsFlush (vf : Fin 32) (s : State) : Host.Outcome State Fault Refusal :=
  if s.mayRequest (vf + 1) then
    let v := s.vf vf
    done (State.flushHeld (v.held.length + v.waiting.length) vf s)
  else done s

/-! ### Fetch (R276, R286, R288, R301) -/

/-- Descriptors that ring i may fetch now: published, and at most 16 beyond the oldest that has not started. -/
def State.fetchRoom (s : State) (n i : Nat) : Nat :=
  let unstarted := (s.ring n i).descs.countP fun d => d.phase = .fetched
  min (ahead (s.producerSeen n i) (s.consumed n i)) (17 - unstarted)

/-- A descriptor fails a check: consumed, a FORMAT_ERROR record, the ring STOPPED (R288). -/
def State.rejectDesc (s : State) (n i code : Nat) (d : Desc) : State :=
  let t := (s.countMod (F.RING_CONSUMED_CONSUMED n i)).stopRing n i code
  t.enterRecord n (s.descRecord i { d with status := stFORMAT_ERROR, code := code })

/-- Descriptors arrive in index order; the first that fails a check stops the ring, and the rest are discarded. -/
def State.arriveDescs : List (List Word) → Nat → Nat → State → State
  | [], _, _, s => s
  | ws :: rest, n, i, s =>
    let d : Desc := { index := BitVec.ofNat 32 (s.consumed n i), words := ws }
    let code := s.checkDesc n d
    if code = 0 then
      let (k, t) := s.newId
      State.arriveDescs rest n i ((t.modRing n i fun r => { r with descs := r.descs ++ [{ d with fetchedAs := k }] }).countMod
        (F.RING_CONSUMED_CONSUMED n i))
    else s.rejectDesc n i code d

/-- The reads that fetch `k` descriptors of ring i from its slot of index `c` on, round its end (R230, R272). -/
def State.readSlots (s : State) (n i c k : Nat) : State :=
  let left := s.ringLen n i - c % s.ringLen n i
  let t := s.hostReadOut (n + 1) (s.slotAddr n i c) (64 * min k left)
  t.when (left < k) fun u => u.hostReadOut (n + 1) (s.ringBase n i) (64 * (k - left))

/-- Words in groups of 16. -/
def groups16 : Nat → List Word → List (List Word)
  | 0, _ => []
  | k + 1, l => l.take 16 :: groups16 k (l.drop 16)

/-- The ring engine fetches: in M0 and M1 but for the entry into M2 (R161), and in a wake, in which the HOST clock runs, so
that its end finds the LAUNCHes that wait (R85, R168). -/
def State.engineRuns (s : State) : Bool :=
  s.power.phase = .run && ((s.fld F.PWR_STATE_STATE < 2 && !s.on F.PWR_STATE_M2_ENTERING) || s.power.waking)

/-- DESCRIPTOR_FETCH (R286, R288). A fetch that fails is the FETCH_ERROR of the next descriptor; what its USER_TAG, TYPE
and flags were, nobody has read: they are free values. -/
def execDescriptorFetch (vf : Fin 32) (ring : Fin 8) (result : FetchEnd) (words : List Word) (s : State) :
    Host.Outcome State Fault Refusal :=
  let n := vf.val
  let i := ring.val
  let k := words.length / 16
  let st := s.rgnState n
  if !(s.ringState n i == qRUNNING && (st == rREADY || st == rRUNNING || st == rFAULTED) && s.mayRequest (n + 1)
      && s.engineRuns) then done s
  else if result ≠ .good then
    if s.fetchRoom n i = 0 then done s
    else
      let (v, t) := (s.readSlots n i (s.consumed n i) 1).draw
      let d : Desc := { index := BitVec.ofNat 32 (s.consumed n i)
                        words := [v.setWidth 32, (v >>> 32).setWidth 32] }
      done ((t.readEnded n result).rejectDesc n i 1 d)
  else if k = 0 ∨ s.fetchRoom n i < k then done s
  else done ((State.arriveDescs (groups16 k words) n i (s.readSlots n i (s.consumed n i) k)).noteStatus n i)

/-! ### Completion (R304, R314) -/

/-- The ORDERED descriptors of the faulting LAUNCH's ring that have been fetched complete without running while the
region is FAULTED (R346). -/
def State.abortOrdered (s : State) (n i : Nat) : State :=
  let stop (d : Desc) : Desc := if d.phase = .fetched ∧ d.ordered then d.abort acREGION_FAULT else d
  s.modRing n i fun r => { r with descs := r.descs.map stop }

/-- A LAUNCH that ended with a fault of its region. -/
def State.faultedLaunch (s : State) (n : Nat) (d : Desc) : Bool :=
  d.type == tyLAUNCH && d.status == stREGION_FAULT && s.rgnState n == rFAULTED

/-- DESCRIPTOR_COMPLETE (R304): a descriptor whose work is done, or that completes without running, enters its record;
one that completes without running waits for room, in index order (R314). -/
def execDescriptorComplete (d : DescRef) (s : State) : Host.Outcome State Fault Refusal :=
  match s.desc? d with
  | none => done s
  | some x =>
    let record := x.cr || x.finalStatus != stSUCCESS
    match x.phase with
    | .finished =>
      if record && !s.recordRoom d.vf then done s
      else done ((s.when (s.faultedLaunch d.vf x) fun t => t.abortOrdered d.vf d.ring).retire d.vf d.ring x)
    | .blocked =>
      let first := (s.ring d.vf d.ring).descs.find? fun y => y.phase = .blocked
      if s.recordRoom d.vf && first.map Desc.index == some d.index then done (s.retire d.vf d.ring x) else done s
    | _ => done s

/-- The length of the block at a destination address: up to the next 256-byte boundary, and to the end (R291). -/
def blockLen (dst left : Nat) : Nat := min (256 - dst % 256) left

/-- A host read of a descriptor in progress, or of one that starts with it: COPY from the host, WAIT, LOAD_SCHEDULE. -/
def Desc.readsHost (d : Desc) : Bool :=
  (d.type == tyCOPY && !(d.w 8).testBit 0) || d.type == tyWAIT || d.type == tyLOAD

/-- Where and how much it reads: the present block, the word, the image. -/
def Desc.hostRead (d : Desc) : Nat × Nat :=
  if d.type = tyCOPY then (d.q 2 + d.done, blockLen (d.q 4 + d.done) (d.q 6 - d.done))
  else if d.type = tyWAIT then (d.q 2, 8)
  else (d.q 2, d.q 4)

/-- A failed host request ends its descriptor with HOST_DMA_ERROR (R234, R306, R308). -/
def State.hostFailed (s : State) (r : DescRef) (code : Nat) (t : State) : State :=
  match s.desc? r with
  | none => t
  | some d =>
    match t.begin r d.type with
    | some (x, u) =>
      if x.readsHost then
        (u.hostReadOut (r.vf + 1) x.hostRead.1 x.hostRead.2).finish r.vf r.ring x.index stHOST_DMA_ERROR code fun y =>
          { y with aborted := true, abortCause := acHOST_DMA_ERROR, result := if y.type = tyWAIT then y.result else y.done }
      else u
    | none => t

/-! ### Ring states (R316, R318 to R320) -/

/-- A ring whose enable bit is cleared enters STOPPING: descriptors not started are aborted (R318). -/
def State.disableRing (s : State) (n i : Nat) : State :=
  let t := s.setFld (F.RING_STATUS_STATE n i) qSTOPPING
  let stop (d : Desc) : Desc := if d.phase = .fetched then d.abort acRING_DISABLED else d
  ((t.withdraw n i).modRing n i fun r => { r with descs := r.descs.map stop }).noteStatus n i

/-- A ring whose enable bit is set enters RUNNING (R316). PAUSE stays as its last valid record left it (R275). -/
def State.enableRing (s : State) (n i : Nat) : State :=
  (((s.setFld (F.RING_STATUS_STATE n i) qRUNNING).setFld (F.RING_CONSUMED_CONSUMED n i) 0).setFld
    (F.RING_PRODUCER_SEEN_PRODUCER_SEEN n i) 0).noteStatus n i

/-- RING_STOPPING_END (R316): no descriptor of the ring is in progress or waits for its record. -/
def execRingStoppingEnd (vf : Fin 32) (ring : Fin 8) (s : State) : Host.Outcome State Fault Refusal :=
  if s.ringState vf ring = qSTOPPING ∧ (s.ring vf ring).descs = [] then
    done (s.setFld (F.RING_STATUS_STATE vf ring) qDISABLED)
  else done s

/-- The end of a region reset: every ring and the completion ring DISABLED (R319, R320); with `cold` every ring setup
register returns to its cold value, and otherwise RING_ENABLE is cleared and the other fields are kept, but for those that
tell of the rings' state and of the held records, which are written or lost by then. -/
def State.resetRings (s : State) (n : Nat) (cold : Bool) : State :=
  let t := s.modVf n fun v => { interval := v.interval, hintPending := v.hintPending }
  let t := t.setBit F.RWE_STALL_STALL n false
  if cold then
    { t with regs := t.regs.filter fun e => !(R.RING_DB_BASE_LO n ≤ e.1 && e.1 < R.RING_DB_BASE_LO n + 0x140) }
  else
    let t := ((t.setWord (R.RING_ENABLE n) 0).setFld (F.RING_VF_STATUS_HELD n) 0).lower
      (F.RING_VF_STATUS_COMPLETION_STALL n)
    overList (List.range 8) t fun u i => u.setFld (F.RING_STATUS_STATE n i) qDISABLED

end Sys2Proof.Machine
end

