-- ==== Sys2Proof/Machine/Faults.lean ====
section
/-! DEFINITION. Faults of a region, the start of a region reset (07_regions_and_crash_contract.md, R339 to R349), and what
faults one at once: a fence (20, R858; 10, R518 to R520), a word of the control network that fails (11, R553), two slices
without a route (R534). -/

namespace Sys2Proof.Machine

/-! ### The image a fault or a reset takes away (R514, R523) -/

/-- Region n holds no image (R514, R523): its image registers read 0, but for LAST_REJECT, and SCH_FRAME all ones. -/
def State.dropImage (s : State) (n : Nat) : State :=
  let t := (s.modRgn n fun r => { r with image := Option.none, needRebuild := false }).lower (F.RGN_STATE_IMAGE_LOADED n)
  let k := s.fld (F.SCH_IMG_STATE_LAST_REJECT n)
  (((((t.setWord (R.SCH_IMG_ID_LO n) 0).setWord (R.SCH_IMG_ID_HI n) 0).setWord (R.SCH_IMG_STATE n) (k * 2 ^ 24)).setWord
    (R.SCH_FRAME n) 0xFFFFFFFF).setWord (R.SCH_COUNTS n) 0).setWord (R.SCH_PROOF_LO n) 0

/-- The LAUNCH and LOAD_SCHEDULE descriptors of VF n in progress and not done, in the order of their starts (R292). -/
def State.serial (s : State) (n : Nat) : List (Nat × Desc) :=
  ((s.vf n).rings.zipIdx.flatMap fun e => e.1.descs.map fun d => (e.2, d)).filter fun e =>
    e.2.phase = .running && (e.2.type == tyLAUNCH || e.2.type == tyLOAD)

/-- It is the turn of a LAUNCH or LOAD_SCHEDULE: every one that started before it is done (R292). -/
def State.isNext (s : State) (n : Nat) (x : Desc) : Bool := (s.serial n).all fun e => x.order ≤ e.2.order

/-- A LOAD_SCHEDULE of region n that has written some tile is cut short: the region holds no image (R514). -/
def State.cutLoad (s : State) (n : Nat) : State :=
  s.when ((s.serial n).any fun e => e.2.type == tyLOAD && e.2.stage == 2) fun t => t.dropImage n

/-! ### Events and halts -/

/-- The PF REGION event, and VF n's REGION vector (R221, R222). -/
def State.regionEvent (s : State) (n : Nat) (vf : Bool) : State :=
  let t := s.raise F.INT_PF_EVENT_REGION
  t.when vf fun u => u.sendVf n 1

/-- A HALT goes to every running core of region n (R341, R347). -/
def State.haltCores (s : State) (n : Nat) : State :=
  { s with cores := s.cores.map fun e =>
      if s.inRect n (tileOfCore e.1) && e.2.status == .running then (e.1, { e.2 with haltDue := true }) else e }

/-! ### Starting a region reset (R347, R349) -/

/-- A region reset of region n is asked for, with target FREE or not: it starts, merges with the one that runs, or waits
for the end of the fault stop. -/
def State.startReset (s : State) (n : Nat) (why : ResetWhy) (toFree : Bool) : State :=
  let r := s.rgn n
  let st := s.rgnState n
  let free (t : State) : State := t.when toFree fun u => u.raise (F.RGN_STATE_RELEASING n)
  if st = rFREE ∨ st = rCONFIGURING then s
  else if r.clearing then s
  else
    match r.reset with
    | some x => free (s.modRgn n fun q => { q with reset := some { x with toFree := x.toFree || toFree } })
    | none =>
      if r.faultStop then
        let p : ResetRun := match r.pendingReset with
          | some x => { x with toFree := x.toFree || toFree }
          | none => { why := why, toFree := toFree, start := s.time }
        (s.modRgn n fun q => { q with pendingReset := some p }).raise (F.RGN_STATE_RESET_PENDING n)
      else
        let t := s.modRgn n fun q => { q with reset := some { why := why, toFree := toFree, start := s.time } }
        free ((((t.setFld (F.RGN_STATE_STATE n) rDRAINING).lower (F.RGN_STATE_RESET_PENDING n)).countSat
          (F.RGN_COUNTS_RESET_COUNT n)).haltCores n)

/-- Region n reaches FAULTED (R341 to R343): a region reset follows at once for FAULT_ACTION RESET and CLOCK_LOST. -/
def State.enterFaulted (s : State) (n : Nat) : State :=
  let t := ((s.setFld (F.RGN_STATE_STATE n) rFAULTED).modRgn n fun r => { r with faultStop := false }).regionEvent n true
  t.when (t.on (F.RGN_CONFIG_FAULT_ACTION n) || (t.rgn n).clockLost) fun u =>
    (u.modRgn n fun r => { r with clockLost := false }).startReset n .fault false

/-! ### Faults (R339 to R345) -/

def fcCORE_EXCEPTION : Nat := 1
def fcWATCHDOG : Nat := 2
def fcFENCE_CONFLICT : Nat := 3
def fcSLICE_LOST : Nat := 4
def fcCLOCK_LOST : Nat := 5
def fcIMAGE_CHANGED : Nat := 6
def fcCONFIG_UE : Nat := 7
def fcLINK_LOST : Nat := 8

/-- RGN_FAULT and the registers after it take a fault. -/
def State.latchFault (s : State) (n : Nat) (f : FaultReport) : State :=
  let exc := f.cause == fcCORE_EXCEPTION
  let w := f.cause + f.tile % 256 * 2 ^ 8 + if exc then f.core % 8 * 2 ^ 16 + f.excCode % 64 * 2 ^ 24 else 0
  let t := ((s.setWord (R.RGN_FAULT n) w).setWord (R.RGN_FAULT_TIME_LO n) s.time).setWord (R.RGN_FAULT_TIME_HI n)
    (s.time / 2 ^ 32)
  let t := ((t.setWord (R.RGN_FAULT_OP n) (if exc then f.opOffset else 0xFFFFFFFF)).countSat
    (F.RGN_COUNTS_FAULT_COUNT n)).wantCapture (some n)
  if exc && f.excCode == eCORE_UE then
    let g : Trigger := { kind := .coreUe, key := 8 * clusterOfTile f.tile + f.core % 8, tick := s.tick }
    { t with vesper := { t.vesper with fresh := t.vesper.fresh ++ [g] } }
  else t

/-- A running LOAD_SCHEDULE of region n is aborted by a fault of the READY region, in either pass (R514). -/
def State.abortLoad (s : State) (n : Nat) : State :=
  let stop (d : Desc) : Desc :=
    if d.type = tyLOAD ∧ d.phase = .running ∧ s.isNext n d then d.abort acREGION_FAULT else d
  (s.cutLoad n).modVf n fun v =>
    { v with rings := v.rings.map fun (r : Ring) => { r with descs := r.descs.map stop } }

/-- A fault of region n reaches its controller (R341 to R345). -/
def State.regionFault (s : State) (n : Nat) (f : FaultReport) : State :=
  let st := s.rgnState n
  let r := s.rgn n
  let clock := f.cause == fcCLOCK_LOST
  let t := s.modRgn n fun q => { q with clockLost := q.clockLost || clock }
  if r.reset.isSome || r.clearing then s
  else if st = rRUNNING then
    let ring := (r.launch.map Launch.ring)
    let u := (t.latchFault n f).modRgn n fun q =>
      { q with faultStop := true, faultRing := ring, launch := q.launch.map fun l => { l with inFrame := false } }
    ((u.setFld (F.RGN_STATE_STATE n) rDRAINING).haltCores n).applyFences n
  else if st = rREADY then
    if f.cause = fcFENCE_CONFLICT ∨ f.cause = fcLINK_LOST then s
    else ((t.latchFault n f).abortLoad n).enterFaulted n
  else if r.faultStop then t.raise (F.RGN_FAULT_MULTI n)
  else if st = rFAULTED then
    (s.raise (F.RGN_FAULT_MULTI n)).when clock fun u => u.startReset n .fault false
  else s

/-! ### Fences (R855, R858, R518 to R520) -/

/-- Fences that take effect one after another: the tile of the first that leaves no table set fitting (R519). -/
def State.conflictTile (s : State) (n : Nat) (im : Image) : List (UnitKind × Nat) → Nat → Nat
  | [], tile => tile
  | e :: rest, _ =>
    let t := s.putUnit e.1 e.2 1
    if (t.fittingSet n im).isNone then unitTile e.1 e.2 else t.conflictTile n im rest (unitTile e.1 e.2)

/-- The table set of a running region between two frames (R519, R520, R533): kept, switched, or a fault with the tile of
`last`, or of an isolated tile, that left none. A launch that has not chosen its set yet does so later (R515). -/
def State.checkSet (s : State) (n tile : Nat) : State :=
  match (s.rgn n).image, (s.rgn n).launch with
  | some im, some l =>
    if !(l.sent || l.checking) || s.setFits n im (s.fld (F.SCH_IMG_STATE_SET_IN_FORCE n)) then s
    else
      match s.fittingSet n im with
      | some k => (s.setFld (F.SCH_IMG_STATE_SET_IN_FORCE n) k).countSat (F.SCH_COUNTS_SWITCHES n)
      | none => s.regionFault n { cause := fcFENCE_CONFLICT, tile := tile }
  | _, _ => s

/-- Between two frames of a running region, fences that waited for the end of the frame take effect on the scheduled plane,
and the table set is checked against them and against the tiles that have become isolated (R518, R519, R533). -/
def State.applyPending (s : State) (n : Nat) : State :=
  let tile := match (s.rgn n).image with
    | some im => s.conflictTile n im (s.rgn n).pendingFences ((s.rgn n).isolated.headD 0)
    | none => 0
  (s.applyFences n).checkSet n tile

/-- A fence of a core, tile or slice (R858). A tile fence starts the region's route change (R536, R537); a slice fence
faults the region with SLICE_LOST at once (R328, R341, R342); in a running region a core's or a cluster tile's fence waits for the end of the frame in
progress (R518). -/
def State.fence (s : State) (k : UnitKind) (i : Nat) : State :=
  if s.unitState k i ≠ 0 then
    { s.putUnit k i 1 with clearing := s.clearing.filter fun t => k == .core || t != unitTile k i }
  else
    match s.ownerOf (unitTile k i) with
    | none => s.putUnit k i 1
    | some n =>
      let st := s.rgnState n
      if st = rCONFIGURING then s.putUnit k i 1
      else if (sliceOf k i).isSome then (s.putUnit k i 1).regionFault n { cause := fcSLICE_LOST, tile := unitTile k i }
      else
        let t := s.when (k == .tile) fun u => u.settle.setBit F.DYN_QUIESCING_QUIESCING n true
        if st = rRUNNING then
          let u := t.modRgn n fun r => { r with pendingFences := r.pendingFences ++ [(k, i)] }
          if ((u.rgn n).launch.map Launch.inFrame).getD false then u else u.applyPending n
        else (t.putUnit k i 1).stopUnit k i

/-- A fence that hardware makes (R854), with its cause (R838). -/
def State.hwFence (s : State) (k : UnitKind) (i cause : Nat) : State :=
  let t := (s.fence k i).wantCapture (s.ownerOf (unitTile k i))
  { t with hwCause := smPut t.hwCause (unitKey k i) cause }

/-- Both copies of a tag or tracker entry of slice i have failed (R795, R803): the slice is fenced, and the region that
holds it loses a slice. -/
def State.tagLoss (s : State) (i : Nat) : State :=
  let n := s.ownerOf (tileOfSlice i)
  let t := (s.count (F.MSL_ECC_UE_UE i)).integRaise { cls := 4, kind := kSliceTag, unit := i, region := n }
    F.INT_INTEG_STATUS_TAG_FENCE
  t.hwFence .slice i 4

/-- The slice's cached lines are lost with their tags: dirty data is never written back (R795). -/
def State.loseLines (s : State) (i : Nat) : State :=
  (s.modSlice i fun sl => { sl with lines := [], tracker := [] }).noteMeridian i

/-! ### The ways of control messages (R548 to R550, R553) -/

/-- The stops from the edge of a tile's column, in its vertical half, to the tile: the way of a message from the region
controller (R548). -/
def columnWay (t : Nat) : List Nat :=
  if tileY t < 6 then (List.range (tileY t + 1)).map fun k => 16 * k + tileX t
  else (List.range (12 - tileY t)).map fun k => 16 * (11 - k) + tileX t

/-- The stops from one tile to another, the first left out: x first, then y (R548). -/
def tileWay (a b : Nat) : List Nat :=
  let x := ((List.range (tileX a - tileX b)).map fun k => a - (k + 1))
    ++ ((List.range (tileX b - tileX a)).map fun k => a + (k + 1))
  x ++ ((List.range (tileY a - tileY b)).map fun k => 16 * (tileY a - (k + 1)) + tileX b)
    ++ ((List.range (tileY b - tileY a)).map fun k => 16 * (tileY a + (k + 1)) + tileX b)

/-- Every stop of a way is powered: that of a fenced tile stays in service, that of a gated island carries nothing (R549). -/
def State.wayOpen (s : State) (way : List Nat) : Bool :=
  s.power.halves && way.all fun t => isSliceTile t || s.bitAt F.CLK_ISLAND_POWERED (islandOfTile t)

/-- A HALT is ready at a stop of the way: it is sent before any other message (R550). -/
def State.haltAhead (s : State) (way : List Nat) : Bool :=
  s.cores.any fun e => e.2.haltDue && s.wayOpen (columnWay (tileOfCore e.1)) && (columnWay (tileOfCore e.1)).any way.contains

/-! ### The control network and the routes (R533, R534, R537, R553) -/

/-- A word fails four times on the control network (R553): RETRY_FAIL, and CONFIG_UE for the owning region. -/
def State.ctlFail (s : State) (tile : Nat) : State :=
  let t := ((s.countSat F.CTL_STATUS_RETRIES 3).raise F.CTL_ERR_FLAGS_RETRY_FAIL).setFld F.CTL_ERR_FAIL_TILE tile
  let u := t.integRaise { cls := 4, kind := kPlane, unit := tile, region := s.ownerOf tile } F.INT_INTEG_STATUS_CONFIG_UE
  match s.ownerOf tile with
  | some n => u.regionFault n { cause := fcCONFIG_UE, tile := tile }
  | Option.none => u

/-- A message of at most 4 words on its way over the control network (R548, R553): the words that its links sent again, at most 3
times each, are counted in RETRIES; the message is delivered, or a word of it fails four times at a link, which FAIL_TILE names by
its receiving tile. -/
def State.carry (s : State) (way : List Nat) (w : CtlWay) (act : State → State) : State :=
  let t := s.countSat F.CTL_STATUS_RETRIES (min w.resent (12 * way.length))
  match w.failedAt with
  | some k => match way[min k (way.length - 1)]? with
    | some tile => t.ctlFail tile
    | none => act t
  | none => act t

/-- New routes of region n are in force (R537): the relays' credits are at their sources again, responses that the change cuts off
are discarded (R539), and injection resumes. -/
def State.changeRoutes (s : State) (n : Nat) (m : RouteMap) : State :=
  let t : State := { s with
    ctl := s.ctl.filter fun e => match e.2 with | .relayCredit r _ _ _ => r != n | _ => true
    mesh := { s.mesh with credits := s.mesh.credits.filter fun c => !s.inRect n c.1 } }
  ((t.installRoutes n m).setBit F.DYN_QUIESCING_QUIESCING n false).dropCutOff n

/-- Region n's plane is empty and the route change completes (R537): new routes and relays, credits of the relays free
again, the isolated tiles recorded, EPOCH counted, and injection resumes. Packets that waited at their sources take the
new routes. Two slices without a route lose the region a slice (R534). -/
def execRouteQuiesceEnd (region : Fin 32) (s : State) : Host.Outcome State Fault Refusal :=
  let n := region.val
  let s' := s.settle
  if s.bitAt F.DYN_QUIESCING_QUIESCING n && !s'.inPlane n then
    let m := s'.routeMap n
    let t := (s'.changeRoutes n m).countSat (F.DYN_ROUTE_EPOCH n)
    let (us, t) := t.draw
    let t := t.setFld (F.DYN_QUIESCE_LAST_QUIESCE_US n) (us.toNat % 13)
    let t := t.when (t.rgnState n == rRUNNING && !((t.rgn n).launch.map Launch.inFrame).getD false) fun u => u.applyPending n
    done (t.when (!m.slicesJoined) fun u => u.regionFault n { cause := fcSLICE_LOST })
  else done s

end Sys2Proof.Machine
end

