-- ==== Sys2Proof/Machine/Scalar.lean ====
section
/-! DEFINITION. The scalar control and waiting operations of a core (09_tile_operation_set.md, R434 to R442) and the
synchronisation operations (R466, R467). -/

namespace Sys2Proof.Machine

/-- The checks of NOP. -/
def nopChecks (o : OpFields) : Nat → Core → List Nat :=
  fun _ _ =>
    unused o false false false false 0 0

/-- NOP (R430). -/
def execNop (g : Fin 1024) (o : OpFields) (s : State) : Host.Outcome State Fault Refusal :=
  issue g 0x00 o s (nopChecks o) fun _ _ t => .next t

/-- A lane of 16 bits of a register replaced. -/
def setLane (v : Word64) (lane : Nat) (x : Nat) : Word64 := BitVec.ofNat 64 (putBits v.toNat (16 * lane) 16 x)

/-- The checks of MOVI. -/
def moviChecks (o : OpFields) : Nat → Core → List Nat :=
  fun _ _ =>
    unused o true false false false 7 0xFFFF

/-- MOVI (R434); with KEEP the poison flag stays as it was (R422). -/
def execMovi (g : Fin 1024) (o : OpFields) (s : State) : Host.Outcome State Fault Refusal :=
  issue g 0x01 o s (moviChecks o) fun _ c t =>
    let keep := modBits o 2 1 == 1
    let v := setLane (if keep then c.reg o.d else 0) (modBits o 0 2) (immBits o 0 16)
    .next (t.modCore g fun k => k.setReg o.d v (keep && c.regBad o.d))

/-- The checks of ALU. -/
def aluChecks (o : OpFields) : Nat → Core → List Nat :=
  fun _ c =>
    unused o true true true false 15 0
    ++ check eRSVD_FIELD (aluFn (modBits o 0 4) (c.reg o.a) (c.reg o.b)).isNone

/-- ALU (R434, R435). -/
def execAlu (g : Fin 1024) (o : OpFields) (s : State) : Host.Outcome State Fault Refusal :=
  issue g 0x02 o s (aluChecks o) fun _ c t =>
    let v := (aluFn (modBits o 0 4) (c.reg o.a) (c.reg o.b)).getD 0
    .next (t.modCore g fun k => k.setReg o.d v (c.regBad o.a || c.regBad o.b))

/-- The checks of ALUI. -/
def aluiChecks (o : OpFields) : Nat → Core → List Nat :=
  fun _ c =>
    unused o true true false false 15 0xFFFFFFF
    ++ check eRSVD_FIELD (aluFn (modBits o 0 4) (c.reg o.a) (sextImm o.imm)).isNone

/-- ALUI (R434, R435). -/
def execAlui (g : Fin 1024) (o : OpFields) (s : State) : Host.Outcome State Fault Refusal :=
  issue g 0x03 o s (aluiChecks o) fun _ c t =>
    let v := (aluFn (modBits o 0 4) (c.reg o.a) (sextImm o.imm)).getD 0
    .next (t.modCore g fun k => k.setReg o.d v (c.regBad o.a))

/-- The value RDID reads (R436); none for an undefined SELECT. -/
def State.identity (s : State) (n g sel : Nat) : Option Nat :=
  match sel with
  | 0 => some g
  | 1 => some (g / 8)
  | 2 => some (g % 8)
  | 3 => some n
  | 4 => some (tileOfCore g)
  | 5 | 6 | 7 | 8 => some (((s.rgn n).launch.map fun l => (l.args.getD (sel - 5) 0).toNat).getD 0)
  | 9 => some (s.fld (F.SCH_FRAME_FRAME n))
  | 10 => some s.time
  | 11 => some (s.core g).dmaDone.toNat
  | 12 => some (s.core g).events.toNat
  | 13 => some (s.word (R.RGN_RECT n) (F.RGN_RECT_X0 n).cold)
  | 14 => some (s.extSize n)
  | _ => Option.none

/-- The checks of RDID. -/
def rdidChecks (s : State) (g : Fin 1024) (o : OpFields) : Nat → Core → List Nat :=
  fun n _ =>
    unused o true false false false 0 0xFFFFFFF
    ++ check eRSVD_FIELD (s.identity n g o.imm.toNat).isNone

/-- RDID (R436). -/
def execRdid (g : Fin 1024) (o : OpFields) (s : State) : Host.Outcome State Fault Refusal :=
  issue g 0x04 o s (rdidChecks s g o) fun n _ t =>
    .next (t.modCore g fun k => k.setReg o.d (BitVec.ofNat 64 ((t.identity n g o.imm.toNat).getD 0)) false)

/-- The checks of BR. -/
def brChecks (o : OpFields) : Nat → Core → List Nat :=
  let cond := modBits o 0 3
  fun _ c =>
    let taken := (brCond cond (c.reg o.a) (c.reg o.b)).getD false
    unused o false (cond != 0) (cond != 0) false 7 0xFFFFFFF ++ check eRSVD_FIELD (cond == 7)
      ++ control c [o.a, o.b] ++ branchExc taken (relTarget c o)

/-- BR (R434, R435, R437). -/
def execBr (g : Fin 1024) (o : OpFields) (s : State) : Host.Outcome State Fault Refusal :=
  let cond := modBits o 0 3
  issue g 0x05 o s (brChecks o) fun _ c t =>
    if (brCond cond (c.reg o.a) (c.reg o.b)).getD false then .jump (relTarget c o).toNat t else .next t

/-- The checks of JR. -/
def jrChecks (o : OpFields) : Nat → Core → List Nat :=
  fun _ c =>
    unused o true true false false 0 0 ++ control c [o.a] ++ branchExc true (c.reg o.a).toNat

/-- JR (R434, R437). -/
def execJr (g : Fin 1024) (o : OpFields) (s : State) : Host.Outcome State Fault Refusal :=
  issue g 0x06 o s (jrChecks o)
    fun _ c t =>
    .jump (c.reg o.a).toNat (t.modCore g fun k => k.setReg o.d (BitVec.ofNat 64 (c.pc + 8)) false)

/-- The value of sA after LOOP's write; s0 reads 0 whatever is written. -/
def loopValue (c : Core) (i : Nat) : Word64 := if i = 0 then 0 else c.reg i - 1

/-- The checks of LOOP. -/
def loopChecks (o : OpFields) : Nat → Core → List Nat :=
  fun _ c =>
    unused o false true false false 0 0xFFFFFFF ++ control c [o.a]
    ++ branchExc (loopValue c o.a != 0) (relTarget c o)

/-- LOOP (R434, R437). -/
def execLoop (g : Fin 1024) (o : OpFields) (s : State) : Host.Outcome State Fault Refusal :=
  issue g 0x07 o s (loopChecks o) fun _ c t =>
    let u := t.modCore g fun k => k.setReg o.a (loopValue c o.a) false
    if loopValue c o.a != 0 then .jump (relTarget c o).toNat u else .next u

/-- The checks of SEED. -/
def seedChecks (o : OpFields) : Nat → Core → List Nat :=
  fun _ c =>
    unused o false true false false 0 0 ++ control c [o.a]

/-- SEED (R412, R434). -/
def execSeed (g : Fin 1024) (o : OpFields) (s : State) : Host.Outcome State Fault Refusal :=
  issue g 0x08 o s (seedChecks o) fun _ c t =>
    let x : Word := (c.reg o.a).setWidth 32
    .next (t.modCore g fun k => { k with sr := if x = 0 then 1 else x })

/-- The checks of END. -/
def endChecks (o : OpFields) : Nat → Core → List Nat :=
  fun _ _ =>
    unused o false false false false 0 0

/-- END (R467): a release of scope SYSTEM with ASYNC, then the program ends. -/
def execEnd (g : Fin 1024) (o : OpFields) (s : State) : Host.Outcome State Fault Refusal :=
  issue g 0x09 o s (endChecks o) fun n _ t =>
    whenReleased t n g scSYSTEM true true fun u => .ended u

/-- The checks of WAITC. -/
def waitcChecks (o : OpFields) : Nat → Core → List Nat :=
  fun _ c =>
    unused o false true false false 0 0 ++ control c [o.a]

/-- WAITC (R439). -/
def execWaitc (g : Fin 1024) (o : OpFields) (s : State) : Host.Outcome State Fault Refusal :=
  issue g 0x0A o s (waitcChecks o) fun _ c t =>
    if reached c.dmaDone.toNat (c.reg o.a).toNat then .next t else .wait .op t

/-- The checks of WAITF. -/
def waitfChecks (o : OpFields) : Nat → Core → List Nat :=
  fun _ c =>
    unused o false true false false 0 0 ++ control c [o.a]

/-- WAITF (R439, R442, R478). -/
def execWaitf (g : Fin 1024) (o : OpFields) (s : State) : Host.Outcome State Fault Refusal :=
  issue g 0x0B o s (waitfChecks o) fun n c t =>
    if reached (t.fld (F.SCH_FRAME_FRAME n)) (c.reg o.a).toNat then .next t else .wait .frame t

/-- The checks of NOTIFY. -/
def notifyChecks (s : State) (o : OpFields) : Nat → Core → List Nat :=
  fun n c =>
    unused o false true false false 7 15
    ++ check eRSVD_FIELD (!(s.coresOf n).contains (c.reg o.a).toNat) ++ control c [o.a]

/-- NOTIFY (R439, R440): after its release, the event is on its way over the control network; one to a core that is
fenced or has no program record is discarded. -/
def execNotify (g : Fin 1024) (o : OpFields) (s : State) : Host.Outcome State Fault Refusal :=
  issue g 0x0C o s (notifyChecks s o) fun n c t =>
    whenReleased t n g (modBits o 1 2) false (modBits o 0 1 == 1) fun u =>
      let dst := (c.reg o.a).toNat
      if u.coreFenced dst || u.tileFenced (tileOfCore dst) || !(u.core dst).hasProgram then .next u
      else
        let (id, v) := u.newId
        .next { v with ctl := smPut v.ctl id (.notify g dst (immBits o 0 4)) }

/-- The checks of WAITN. -/
def waitnChecks (o : OpFields) : Nat → Core → List Nat :=
  let mask : BitVec 16 := BitVec.ofNat 16 (immBits o 0 16)
  fun _ _ =>
    unused o true false false false 7 0xFFFF ++ check eRSVD_FIELD (mask == 0)

/-- WAITN (R439, R441): sD takes the bits, which are cleared. -/
def execWaitn (g : Fin 1024) (o : OpFields) (s : State) : Host.Outcome State Fault Refusal :=
  let mask : BitVec 16 := BitVec.ofNat 16 (immBits o 0 16)
  issue g 0x0D o s (waitnChecks o) fun _ c t =>
    if c.events &&& mask = 0 then .wait .op t
    else
      let u := t.modCore g fun k => { k.setReg o.d ((c.events &&& mask).setWidth 64) false with
                                      events := c.events &&& ~~~mask }
      .next (if modBits o 0 1 = 1 then u.acquire g (modBits o 1 2) else u)

/-- The checks of ACQ. -/
def acqChecks (o : OpFields) : Nat → Core → List Nat :=
  fun _ _ =>
    unused o false false false false 3 0

/-- ACQ (R466, R646). -/
def execAcq (g : Fin 1024) (o : OpFields) (s : State) : Host.Outcome State Fault Refusal :=
  issue g 0x50 o s (acqChecks o) fun _ _ t =>
    .next (t.acquire g (modBits o 0 2))

/-- The checks of REL. -/
def relChecks (o : OpFields) : Nat → Core → List Nat :=
  fun _ _ =>
    unused o false false false false 7 0

/-- REL (R466, R644). -/
def execRel (g : Fin 1024) (o : OpFields) (s : State) : Host.Outcome State Fault Refusal :=
  issue g 0x51 o s (relChecks o) fun n _ t =>
    whenReleased t n g (modBits o 0 2) (modBits o 2 1 == 1) true fun u => .next u

/-- The checks of FENCE. -/
def fenceChecks (o : OpFields) : Nat → Core → List Nat :=
  fun _ _ =>
    unused o false false false false 7 0

/-- FENCE (R466, R647). -/
def execFence (g : Fin 1024) (o : OpFields) (s : State) : Host.Outcome State Fault Refusal :=
  issue g 0x52 o s (fenceChecks o) fun n _ t =>
    whenReleased t n g (modBits o 0 2) (modBits o 2 1 == 1) true fun u => .next (u.acquire g (modBits o 0 2))

/-- The opcodes of the operation set (R430). -/
def opcodes : List Nat :=
  [0x00, 0x01, 0x02, 0x03, 0x04, 0x05, 0x06, 0x07, 0x08, 0x09, 0x0A, 0x0B, 0x0C, 0x0D, 0x10, 0x11, 0x12, 0x13, 0x14,
    0x15, 0x16, 0x17, 0x20, 0x21, 0x22, 0x30, 0x31, 0x32, 0x33, 0x34, 0x35, 0x36, 0x37, 0x40, 0x41, 0x50, 0x51, 0x52,
    0x60, 0x61, 0x62, 0x63]

/-- A core that is at a word whose opcode is not in the operation set, or past offset 65,528, raises ILLEGAL_OP (R421,
R438). -/
def execUndefinedOpcode (g : Fin 1024) (s : State) : Host.Outcome State Fault Refusal :=
  let c := s.core g
  if c.status == .running && !(c.loads.any LoadOp.block) && !s.clockStopped (tileOfCore g)
      && (65536 ≤ c.pc || !opcodes.contains (opcodeOf (c.wordAt c.pc)).toNat) then
    match s.regionOfCore g with
    | some n => done (s.coreException n g eILLEGAL_OP)
    | Option.none => done s
  else done s

/-- A NOTIFY reaches its core and sets its event bit (R441), or its word fails (R553). It waits while a stop of its way has no power
(R549) or a HALT is ready there (R550). -/
def execNotifyDelivery (id : Nat) (way : CtlWay) (s : State) : Host.Outcome State Fault Refusal :=
  match s.ctl.find? fun e => e.1 == id with
  | some (_, .notify src dst ev) =>
    let stops := tileWay (tileOfCore src) (tileOfCore dst)
    if !s.wayOpen stops || s.haltAhead stops then done s
    else
      done (({ s with ctl := smDel s.ctl id } : State).carry stops way fun t =>
        t.modCore dst fun c => { c with events := c.events ||| BitVec.ofNat 16 (2 ^ (ev % 16)) })
  | _ => done s

/-- A HALT message reaches a core (R473 to R475): its wait ends, and it issues nothing more. An operation of the tensor
or vector unit is one step of the model, so none is ever found in progress (log 153). How long the delivery took is a free value of
at most 300 ns (R551), of which CTL_STATUS keeps the largest. -/
def execHalt (core : Fin 1024) (way : CtlWay) (s : State) : Host.Outcome State Fault Refusal :=
  let stops := columnWay (tileOfCore core)
  if !(s.core core).haltDue || !s.wayOpen stops then done s
  else
    done (s.carry stops way fun u =>
      let (v, t) := u.draw
      (t.setFld F.CTL_STATUS_HALT_MAX_NS (max (t.fld F.CTL_STATUS_HALT_MAX_NS) (v.toNat % 301))).modCore core fun k =>
        { k with haltDue := false, wait := .none, status := if k.status = .running then .halted else k.status })

end Sys2Proof.Machine
end

