-- ==== Sys2Proof/Machine/Channels.lean ====
section
/-! DEFINITION. Message channels and combining queues (12_message_channels.md, R555 to R578; 09, R463 to R465; 17, R762 to
R767 for the ends of link channels). -/

namespace Sys2Proof.Machine

/-! ### The channels of a region's image -/

def State.channels (s : State) (n : Nat) : List Channel := ((s.rgn n).image.map Image.channels).getD []
def State.channel (s : State) (n k : Nat) : Option Channel := (s.channels n)[k]?

/-- The place of the channel a sender sends on. -/
def State.outChannel (s : State) (n : Nat) (e : ChanEnd) : Option Nat :=
  ((s.channels n).zipIdx.find? fun c => c.1.src == e).map (·.2)

/-- A receive queue is bound: some channel reaches it (R391, R465). -/
def State.queueBound (s : State) (n g q : Nat) : Bool := (s.channels n).any fun c => c.dst == .core g q

/-- The combiner record of a combining queue (R559). -/
def State.combiner (s : State) (n i q : Nat) : Option Combiner :=
  ((s.rgn n).image.bind fun im => im.combiners.find? fun c => c.slice == i && c.q == q)

/-! ### Messages -/

def Core.queue (c : Core) (q : Nat) : List Message := smGet c.queues [] q

/-- A message enters a receive queue, behind the others (R390, R570); poison that reaches it marks the launch (R782). -/
def State.enterQueue (s : State) (n g q : Nat) (m : Message) : State :=
  (s.when (m.poisonLo || m.poisonHi) fun u => u.launchPoison n).modCore g fun c =>
    { c with queues := smPut c.queues q (c.queue q ++ [m]) }

/-- The 16 bytes of a message as packet data. -/
def messageBytes (lo hi : Word64) : Mem := memAt 0 (toBytes 8 lo.toNat ++ toBytes 8 hi.toNat)

/-- The poisoned words of a message. -/
def messagePoison (lo hi : Bool) : List Nat := (if lo then [0] else []) ++ (if hi then [1] else [])

/-- A message sent as a packet (R558). -/
def State.sendMessage (s : State) (n : Nat) (src dst : Agent) (k key : Nat) (lo hi : Word64) (badLo badHi : Bool) : State :=
  let (id, t) := s.newId
  t.inject { id := id, kind := .message, region := n, src := src, dst := dst, size := 16, bytes := messageBytes lo hi
             poison := messagePoison badLo badHi, chan := k, key := key }

/-- The message of a packet. -/
def Packet.message (p : Packet) : Message :=
  let b := (List.range 16).map fun i => smGet p.bytes 0 i
  { lo := BitVec.ofNat 64 (fromBytes (b.take 8)), hi := BitVec.ofNat 64 (fromBytes (b.drop 8))
    poisonLo := p.poison.contains 0, poisonHi := p.poison.contains 1, key := p.key, chan := p.chan }

/-- A message is a contribution at a combining queue (R573). -/
def Message.contribution (m : Message) (q : Nat) : Contribution :=
  { q := q, key := m.key, tag := m.hi.toNat % 65536, e0 := m.lo.setWidth 32, e1 := (m.lo >>> 32).setWidth 32
    bad := m.poisonLo, badTag := m.poisonHi, chan := m.chan }

/-- A contribution enters the slice's combining input (R569). -/
def State.enterInput (s : State) (n i q : Nat) (m : Message) : State :=
  (s.when (m.poisonLo || m.poisonHi) fun u => u.launchPoison n).modSlice i fun sl =>
    { sl with combIn := sl.combIn ++ [m.contribution q] }

/-- A message packet to the partner module on an OUT link channel, with the epoch held (R765): it takes the region's plane to
the slice of its column beside the port's ring, and the ring from there (R547). -/
def State.sendLinkMessage (s : State) (n p ch : Nat) (src : Agent) (lo hi : Word64) (badLo badHi : Bool) : State :=
  let (id, t) := s.newId
  let q := t.port p
  (t.modPort p fun r => { r with outCount := smPut r.outCount ch (smGet r.outCount 0 ch - 1) }).inject
    { id := id, kind := .message, region := n, src := src, dst := .port p, size := 16, bytes := messageBytes lo hi
      poison := messagePoison badLo badHi, chan := ch, code := smGet q.outEpoch 0 ch }

/-- A credit of an IN link channel returns to the partner under the current epoch (R764); `set` marks a SET. -/
def State.sendLinkCredit (s : State) (n p ch count : Nat) (set : Bool) : State :=
  let (id, t) := s.newId
  t.toPort p { id := id, kind := .credit, region := n, src := .port p, dst := .port p, size := count, chan := ch
               code := smGet (t.port p).inEpoch 0 ch, ret := set }

/-- A message of channel k has left its queue or input: its credit goes back to its sender (R564, R565, R764). A credit
between cores of one cluster reaches the sender at once; any other travels in the CREDIT class of the control network. -/
def State.returnCredit (s : State) (n : Nat) (dstTile k : Nat) : State :=
  match s.channel n k with
  | none => s
  | some c =>
    match c.src with
    | .link p ch => s.sendLinkCredit n p ch 1 false
    | .core g _ =>
      if !c.credit then s
      else if tileOfCore g = dstTile then s.modCore g fun x => { x with credits := smMod x.credits 0 k (· + 1) }
      else
        let (id, t) := s.newId
        { t with ctl := smPut t.ctl id (.chanCredit dstTile (.core g) k) }
    | .cq i _ _ =>
      if !c.credit then s
      else
        let (id, t) := s.newId
        { t with ctl := smPut t.ctl id (.chanCredit dstTile (.slice i) k) }

/-! ### SEND and QRD (R463 to R465) -/

/-- Core x of the cluster waits at a SEND without credit for room in receive queue q of core g2 (R568). -/
def State.wantsRoom (s : State) (n g2 q x : Nat) : Bool :=
  let c := s.core x
  let w := c.wordAt c.pc
  c.status == .running && c.wait == .op && opcodeOf w == 0x40 &&
    match (s.outChannel n (.core x (immBits (fieldsOf w) 0 8))).bind (s.channel n) with
    | some ch => ch.dst == .core g2 q && !ch.credit
    | none => false

/-- When several cores of the cluster wait for room in one queue, their messages enter in rotating order of core number (R568):
core g comes first among them. -/
def State.sendTurn (s : State) (n g2 q g : Nat) : Bool :=
  let after (x : Nat) : Nat := (x % 8 + 8 - (smGet (s.core g2).lastSender 7 q % 8 + 1)) % 8
  (coresOfCluster (g2 / 8)).all fun x => x == g || !s.wantsRoom n g2 q x || after g < after x

/-- A core's SEND on channel k, its release done. -/
def sendOn (u : State) (n g k : Nat) (c : Channel) (lo hi : Word64) (badLo badHi : Bool) : OpEnd :=
  let m : Message := { lo := lo, hi := hi, poisonLo := badLo, poisonHi := badHi, key := g, chan := k }
  let held := smGet (u.core g).credits 0 k
  let useCredit (v : State) : State := v.modCore g fun x => { x with credits := smPut x.credits k (held - 1) }
  match c.dst with
  | .core g2 q =>
    if g / 8 = g2 / 8 then
      if c.credit then (if 0 < held then .next ((useCredit u).enterQueue n g2 q m) else .wait .op u)
      else if ((u.core g2).queue q).length < 8 ∧ u.sendTurn n g2 q g then
        .next ((u.enterQueue n g2 q m).modCore g2 fun x => { x with lastSender := smPut x.lastSender q g })
      else .wait .op u
    else if 0 < held ∧ u.mayIssue n g then
      .next (((useCredit u).modCore g fun x => { x with msgUnacked := x.msgUnacked + 1 }).sendMessage n (.core g) (.core g2)
        k g lo hi badLo badHi)
    else .wait .op u
  | .cq i _ _ =>
    let v := u.sendMessage n (.core g) (.slice i) k g lo hi badLo badHi
    if u.mayIssue n g ∧ !v.backedUp (.core g) then .next v else .wait .op u
  | .link p ch =>
    if 0 < smGet (u.port p).outCount 0 ch ∧ u.mayIssue n g then .next (u.sendLinkMessage n p ch (.core g) lo hi badLo badHi)
    else .wait .op u

/-- The checks of SEND. -/
def sendChecks (s : State) (g : Fin 1024) (o : OpFields) : Nat → Core → List Nat :=
  let src := ChanEnd.core g (immBits o 0 8)
  fun n _ =>
    unused o false true true false 7 0xFF ++ check eQUEUE_UNBOUND (s.outChannel n src).isNone

/-- SEND (R463). -/
def execSend (g : Fin 1024) (o : OpFields) (s : State) : Host.Outcome State Fault Refusal :=
  let src := ChanEnd.core g (immBits o 0 8)
  issue g 0x40 o s (sendChecks s g o) fun n c t =>
    whenReleased t n g (modBits o 1 2) false (modBits o 0 1 == 1) fun u =>
      match u.outChannel n src with
      | none => .next u
      | some k =>
        match u.channel n k with
        | none => .next u
        | some ch => sendOn u n g k ch (c.reg o.a) (c.reg o.b) (c.regBad o.a) (c.regBad o.b)

/-- The checks of QRD. -/
def qrdChecks (s : State) (g : Fin 1024) (o : OpFields) : Nat → Core → List Nat :=
  let q := immBits o 0 3
  let kind := modBits o 0 2
  fun n _ =>
    unused o true false false false 31 7
    ++ check eRSVD_FIELD (kind == 3 || (kind != 2 && (o.d.val % 2 ≠ 0 || o.d.val == 0)))
    ++ check eQUEUE_UNBOUND (!s.queueBound n g q)

/-- QRD (R464, R388 to R391, R561, R564). -/
def execQrd (g : Fin 1024) (o : OpFields) (s : State) : Host.Outcome State Fault Refusal :=
  let q := immBits o 0 3
  let kind := modBits o 0 2
  issue g 0x41 o s (qrdChecks s g o) fun n c t =>
    let finish (u : State) : OpEnd := .next (if modBits o 2 1 = 1 then u.acquire g (modBits o 3 2) else u)
    if kind = 2 then finish (t.modCore g fun k => k.setReg o.d (BitVec.ofNat 64 (c.queue q).length) false)
    else
      match c.queue q with
      | [] => .wait .op t
      | m :: rest =>
        let bad := m.poisonLo || m.poisonHi
        let u := t.modCore g fun k => (k.setReg o.d m.lo bad).setReg (o.d.val + 1) m.hi bad
        if kind = 1 then finish u
        else
          finish ((u.modCore g fun k =>
            { k with queues := smPut k.queues q rest, pops := smPut k.pops q ((smGet k.pops 0 q + 1) % 256) }).returnCredit n
              (tileOfCore g) m.chan)

/-! ### Credits over the control network (R550, R565, R566, R532) -/

/-- The way of a credit between two tiles. -/
def CtlMsg.creditWay : CtlMsg → List Nat
  | .chanCredit src dst _ => tileWay src (agentTile dst)
  | .relayCredit _ src relay _ => tileWay relay src
  | .notify _ _ _ => []

/-- A credit is its sender's again. -/
def State.takeCredit (s : State) (m : CtlMsg) : State :=
  match m with
  | .chanCredit _ (.core g) k => s.modCore g fun c => { c with credits := smMod c.credits 0 k (· + 1) }
  | .chanCredit _ (.slice i) k => s.modSlice i fun sl => { sl with credits := smMod sl.credits 0 k (· + 1) }
  | .relayCredit _ src relay vc => { s with mesh := { s.mesh with credits := s.mesh.credits.filter (· != (src, relay, vc)) } }
  | _ => s

/-- A channel or relay credit reaches its sender, or its word fails four times (R553). It waits while a stop of its way has no
power (R549) or a HALT is ready there (R550). -/
def execCreditReturn (id : Nat) (way : CtlWay) (s : State) : Host.Outcome State Fault Refusal :=
  match s.ctl.find? fun e => e.1 == id with
  | none | some (_, .notify _ _ _) => done s
  | some (_, m) =>
    if !s.wayOpen m.creditWay || s.haltAhead m.creditWay then done s
    else done (({ s with ctl := smDel s.ctl id } : State).carry m.creditWay way fun t => t.takeCredit m)

/-! ### Combining queues (R573 to R578) -/

/-- An entry is complete (R575). -/
def CombEntry.complete (e : CombEntry) (c : Combiner) : Bool := c.expect ≤ e.parts.length

/-- A contribution joins an open entry of its tag, or opens one; none when the queue has no entry free (R574). -/
def joinEntry (es : List CombEntry) (c : Combiner) (x : Contribution) : Option (List CombEntry) :=
  let add (e : CombEntry) : CombEntry :=
    { e with parts := e.parts ++ [(x.key, x.e0, x.e1)], poisoned := e.poisoned || x.bad }
  if es.any fun e => e.tag == x.tag && !e.complete c then
    some (es.map fun e => if e.tag == x.tag && !e.complete c then add e else e)
  else if es.length < c.tags then some (es ++ [add { tag := x.tag }])
  else none

/-- A contribution leaves the input: the credit of an IN link channel returns (R764). -/
def State.leaveInput (s : State) (n i : Nat) (x : Contribution) : State :=
  let t := s.modSlice i fun sl => { sl with combIn := sl.combIn.tail }
  match t.channel n x.chan with
  | some c =>
    match c.src with
    | .link _ _ => t.returnCredit n (tileOfSlice i) x.chan
    | _ => t
  | none => t

/-- A combining queue accepts the contribution at the head of its slice's input, or discards one whose tag word is
poisoned (R574, R578). -/
def execCombiningAccept (slice : Fin 64) (s : State) : Host.Outcome State Fault Refusal :=
  match (s.slice slice).combIn, s.ownerOf (tileOfSlice slice) with
  | x :: _, some n =>
    if x.badTag then done ((s.leaveInput n slice x).countSat (F.QDBG_RGN_DROP_POISON_DROP n))
    else
      match s.combiner n slice x.q with
      | none => done s
      | some c =>
        match joinEntry (smGet (s.slice slice).combs [] x.q) c x with
        | none => done s
        | some es =>
          done ((s.leaveInput n slice x).modSlice slice fun sl => { sl with combs := smPut sl.combs x.q es })
  | _, _ => done s

/-- Contributions in increasing order of source key, and in order of arrival among equal keys (R576). -/
def insertPart (x : Nat × Word × Word) : List (Nat × Word × Word) → List (Nat × Word × Word)
  | [] => [x]
  | y :: l => if x.1 < y.1 then x :: y :: l else y :: insertPart x l

def orderParts (l : List (Nat × Word × Word)) : List (Nat × Word × Word) := l.foldl (fun acc x => insertPart x acc) []

/-- One element of the sum (R576). -/
def sumElement (int32 : Bool) : List Word → Word
  | [] => 0
  | x :: l => l.foldl (fun a b => if int32 then a + b else
      BitVec.ofNat 32 (fp32.encode ((fp32.decode a.toNat).add (fp32.decode b.toNat)))) x

/-- The delivery message of an entry (R577). -/
def deliveryOf (c : Combiner) (e : CombEntry) : Word64 × Word64 :=
  let p := orderParts e.parts
  let s0 := sumElement c.int32 (p.map fun x => x.2.1)
  let s1 := sumElement c.int32 (p.map fun x => x.2.2)
  (s1 ++ s0, BitVec.ofNat 64 (e.tag % 65536 + c.q * 65536 + c.expect * 2 ^ 24))

/-- The source key of a combining queue (R571). -/
def cqKey (i q : Nat) : Nat := 1024 + 16 * i + q

/-- An entry's delivery on channel `k` of its DELIVERIES, if that channel's mode lets it go now: a credit (R562), or for
BACKPRESSURE the plane, which takes it (R569). -/
def State.deliverOne (s : State) (n : Nat) (c : Combiner) (e : CombEntry) (d : Nat) : Option State :=
  match s.outChannel n (.cq c.slice c.q d) with
  | none => some s
  | some k =>
    let (lo, hi) := deliveryOf c e
    let held := smGet (s.slice c.slice).credits 0 k
    match s.channel n k with
    | some ch =>
      let key := cqKey c.slice c.q
      if !s.mayInject n (tileOfSlice c.slice) || s.backedUp (.slice c.slice) then none
      else
        match ch.dst with
        | .core g _ =>
          if held = 0 then none
          else some ((s.modSlice c.slice fun sl => { sl with credits := smPut sl.credits k (held - 1)
                                                             msgUnacked := sl.msgUnacked + 1 }).sendMessage n
            (.slice c.slice) (.core g) k key lo hi e.poisoned false)
        | .cq i _ _ =>
          let t := s.sendMessage n (.slice c.slice) (.slice i) k key lo hi e.poisoned false
          if t.backedUp (.slice c.slice) then none else some t
        | .link p l =>
          if smGet (s.port p).outCount 0 l = 0 then none
          else some (s.sendLinkMessage n p l (.slice c.slice) lo hi e.poisoned false)
    | none => some s

/-- Delivery `d` of an entry waits for a credit of its channel, or for room on the way to a combining queue (R587). -/
def State.deliveryWaits (s : State) (n : Nat) (c : Combiner) (e : CombEntry) (d : Nat) : Bool :=
  match (s.outChannel n (.cq c.slice c.q d)).bind fun k => (s.channel n k).map fun ch => (k, ch) with
  | none => false
  | some (k, ch) =>
    match ch.dst with
    | .core _ _ => smGet (s.slice c.slice).credits 0 k == 0
    | .link p l => smGet (s.port p).outCount 0 l == 0
    | .cq _ _ _ => s.mayInject n (tileOfSlice c.slice) && (s.deliverOne n c e d).isNone

/-- A complete entry that is being delivered waits for a credit or for room on a delivery channel (DELIVERY_WAIT, R587). -/
def State.entryWaits (s : State) (n : Nat) (c : Combiner) (e : CombEntry) : Bool :=
  e.complete c && e.begun && (List.range c.deliveries).any fun d => !e.sent.testBit d && s.deliveryWaits n c e d

/-- The deliveries of an entry that have not been sent and that their channels let go now, in order of delivery index: one that must
wait holds no other back (R577, R583). -/
def State.deliverAll (s : State) (n : Nat) (c : Combiner) (e : CombEntry) : CombEntry × State :=
  (List.range c.deliveries).foldl (fun acc k =>
    if acc.1.sent.testBit k then acc
    else
      match acc.2.deliverOne n c acc.1 k with
      | none => acc
      | some t => ({ acc.1 with sent := acc.1.sent ||| 2 ^ k }, t)) (e, s)

/-- The complete entries' sums go out on the delivery channels, entry by entry in the order in which they opened; an entry is freed
with its last delivery (R577). -/
def State.deliver (s : State) (n i q : Nat) : State :=
  match s.combiner n i q with
  | none => s
  | some c =>
    let r := (smGet (s.slice i).combs [] q).foldl (fun (acc : List CombEntry × State) e =>
      if !e.complete c then (acc.1 ++ [e], acc.2)
      else
        let (e', t) := acc.2.deliverAll n c { e with begun := true }
        (if e'.sent = 2 ^ c.deliveries - 1 then acc.1 else acc.1 ++ [e'], t)) ([], s)
    r.2.modSlice i fun sl => { sl with combs := smPut sl.combs q r.1 }

def execCombiningDelivery (slice : Fin 64) (queue : Fin 16) (s : State) : Host.Outcome State Fault Refusal :=
  match s.ownerOf (tileOfSlice slice) with
  | some n => done (s.deliver n slice queue)
  | none => done s

end Sys2Proof.Machine
end

