-- ==== Sys2Proof/Machine/Net.lean ====
section
/-! DEFINITION. The dynamic plane's packets (11_dynamic_and_control_planes.md, R524 to R541) and how slices serve them
(13_memory_slice.md, R588 to R624; 18_data_integrity.md, R770 to R779, R795). -/

namespace Sys2Proof.Machine

/-! ### Delivery (R527, R535, R539) -/

/-- The 128-byte line of an address, space included. -/
def lineOf (a : Nat) : Nat := a / 128

/-- An agent can take a packet now: its clock runs, and a slice is neither fenced nor in retention (R157, R853). -/
def State.agentReady (s : State) (a : Agent) : Bool :=
  match a with
  | .slice i => s.sliceServes i
  | .core g => !s.clockStopped (tileOfCore g)
  | _ => true

/-- A packet has arrived at the unit of its destination: the plane has brought it to the front of an input there, from where the
unit takes it, or the unit has it already. None when it has not. -/
def State.arrive (s : State) (p : Packet) : Option State :=
  if !s.agentReady p.dst then none
  else if p.place = .unit then some s
  else
    let t := s.settle
    match t.net.find? fun q => q.id == p.id with
    | none => none
    | some q => (t.atUnit q).map fun i => t.eject q i

/-- A packet is gone. -/
def State.take (s : State) (p : Packet) : State := { s with net := s.net.filter fun q => q.id != p.id }

/-- The packet of an identifier and kind. -/
def State.packet (s : State) (id : Nat) (k : PacketKind) : Option Packet := s.net.find? fun p => p.id == id && p.kind == k

/-- A packet that has arrived is given to its unit, which does `act` with it. Where `act` answers none the unit does not take the
packet, and it keeps its place in the plane (R527). A response to a tile that is cut off is discarded (R539). -/
def deliver (s : State) (id : Nat) (k : PacketKind) (act : Packet → State → Option State) : Host.Outcome State Fault Refusal :=
  match s.packet id k with
  | none => done s
  | some p =>
    match s.arrive p with
    | none => done s
    | some t =>
      if isResponse k && t.cutOff p.region p.dstTile then done ((t.take p).countSat (F.DYN_QUIESCE_DROP_FENCED p.region))
      else done ((act p t).getD s)

/-- An earlier request that slice i has accepted for p's line is not served yet: p is served after it (R590). Borrow requests have
an order of their own (R622). -/
def State.behind (s : State) (p : Packet) : Bool :=
  (s.net.takeWhile fun q => q.id != p.id).any fun q =>
    q.place == .unit && q.dst == p.dst && (q.kind == .read || q.kind == .write || q.kind == .atomic)
      && !(q.line && (q.op == 1 || q.kind == .write)) && lineOf q.addr == lineOf p.addr

/-! ### Responses (R526) -/

/-- The response to a request from the unit that served it. -/
def State.respond (s : State) (p : Packet) (src : Agent) (k : PacketKind) (bytes : Mem) (poison : List Nat) : State :=
  let (id, t) := (s.take p).newId
  t.inject { id := id, kind := k, region := p.region, src := src, dst := p.src, tag := p.id, addr := p.addr, size := p.size
             bytes := bytes, poison := poison, line := p.line, key := p.key, op := p.op, fmt := p.fmt
             ret := p.kind == .atomic, code := bit (p.kind == .message), writers := if p.kind = .atomic then p.writers else [] }

/-! ### Errors in slices (R770 to R779, R795) -/

/-- The 8-byte word of an address holds valid data where it is kept (R773, R788). -/
def State.wordWritten (s : State) (n a : Nat) : Bool :=
  match s.locate n a with
  | .none => false
  | .pinned i b => (s.slice i).sram.bytes.any fun e => e.1 / 8 == s.cell i b / 8
  | .exact i b _ => (s.slice i).sram.bytes.any fun e => e.1 / 16 == s.cell i b / 16
  | .comp i w v => (s.slice i).comp.bytes.any fun e => e.1 / 8 == compBase w v / 8
  | .ext i line => ((s.slice i).home line).data.any fun e => e.1 / 8 == a % 128 / 8

/-- A word poisoned where it is kept (R777). -/
def State.poisonWord (s : State) (n a : Nat) : State :=
  match s.locate n a with
  | .none => s
  | .pinned i b => s.modSlice i fun x => { x with sram := { x.sram with poison := insertNat x.sram.poison (s.cell i b / 8) } }
  | .exact i b _ => s.modSlice i fun x => { x with sram := exactPoison x.sram (s.cell i b) }
  | .comp i w v =>
    (s.modSlice i fun x => { x with comp := { x.comp with poison := insertNat x.comp.poison (compBase w v / 8) } }).recompress
      n i w (v / 128)
  | .ext i line =>
    s.modSlice i fun x => x.put { x.home line with poison := insertNat (x.home line).poison (a % 128 / 8) }

/-- Each word of the sector of an external address poisoned (R777). -/
def State.poisonSector (s : State) (n a : Nat) : State :=
  overList [0, 8, 16, 24] s fun u o => u.poisonWord n (a / 32 * 32 + o)

/-- The unit and address the integrity log gives for an address. Where a cached line lies in its slice the spec leaves to
the slice: the low 23 bits of a free value (log 16). -/
def State.errorPlace (s : State) (n a : Nat) (fetched : Bool) : Nat × Nat × Nat × State :=
  match s.locate n a with
  | .pinned i b => (kSliceSram, i, b / 8 * 8, s)
  | .exact i b _ => (kSliceSram, i, b, s)
  | .ext i line =>
    let (ch, c) := s.chanOf n (line * 128)
    if fetched then (kHbm, ch, c + a % 128 / 8 * 8, s)
    else
      let (v, t) := s.draw
      (kSliceSram, i, v.toNat % 2 ^ 23, t)
  | .comp i _ _ =>
    let (v, t) := s.draw
    (kSliceSram, i, v.toNat % 2 ^ 23, t)
  | .none => (kSliceSram, 0, 0, s)

/-- A sector of a clean line dropped, to be fetched again (CE_REFETCH). -/
def State.dropSector (s : State) (i line o : Nat) : State :=
  s.modSlice i fun x => x.put { x.home line with present := (x.home line).present &&& (15 - 2 ^ (o / 32)) }

/-- A line as slice i holds it, changed by `f`. -/
def State.modLine (s : State) (i line : Nat) (f : CLine → CLine) : State :=
  s.modSlice i fun x => x.put (f (x.home line))

/-- An error in slice i's tags or line tracker: in one copy, corrected from the other (R770, R783); in both, the slice is fenced (R795). -/
def State.tagError (s : State) (n i : Nat) (scrub : Bool) (e : MemError) : State :=
  match e with
  | .tag chk =>
    let (v, t) := s.draw
    t.sliceCe i { cls := if chk then 2 else 1, kind := kSliceTag, unit := i, region := some n, scrub := scrub
                  syndrome := v.toNat % 256 }
  | .tags => (s.loseLines i).tagLoss i
  | _ => s

/-- An error in a word of a line in slice i's cache ways: a corrected error is counted; an uncorrectable one in a clean
copy drops the sector, or a Meridian copy, and elsewhere poisons the word (R770). `o` is the word's offset in the line. -/
def State.lineError (s : State) (n i line o : Nat) (scrub : Bool) (e : MemError) : State :=
  let l := (s.slice i).home line
  let (v, t) := s.draw
  let (w, t) := t.draw
  let base : IntegError := { cls := 1, kind := kSliceSram, unit := i, region := some n, addr := v.toNat % 2 ^ 23, scrub := scrub }
  match e with
  | .none => s
  | .dataBit _ => t.sliceCe i { base with syndrome := w.toNat % 256 }
  | .checkBit _ => t.sliceCe i { base with cls := 2, syndrome := w.toNat % 256 }
  | .double syn =>
    if l.kind = LineKind.copy then
      (t.sliceCe i { base with cls := 3, syndrome := syn.toNat }).modSlice i fun sl => sl.remove line
    else if l.kind = LineKind.home && !(l.dirty.any fun x => x / 32 == o / 32) then
      (t.sliceCe i { base with cls := 3, syndrome := syn.toNat }).dropSector i line o
    else
      (t.sliceUe i { base with cls := 4, syndrome := syn.toNat }).modLine i line fun l =>
        { l with poison := insertNat l.poison (o / 8) }
  | _ => s.tagError n i scrub e

/-- A sector of an external line at slice i, corrected as it came from HBM (R775): dirty in the slice's cache, or, where the slice has no
cache ways, on its way to the channel. -/
def State.rewriteSector (s : State) (n i line o : Nat) : State :=
  let l := (s.slice i).home line
  let mark (d : List Nat) : List Nat := (List.range 32).foldl (fun d k => insertNat d (o / 32 * 32 + k)) d
  if s.cacheWays i ≠ 0 then s.modSlice i fun x => x.put { l with dirty := mark l.dirty }
  else s.writeBack n i cDYN { l with dirty := mark [] }

/-- What the read of a word in slice i finds (R770, R775 to R777, R795): a corrected error is counted, and a sector of HBM rewritten; an
uncorrectable one poisons the word, or at HBM the sector; a lost tag fences the slice. The syndrome of a corrected error is a free
value: the code's matrix is private (log 16). -/
def State.memError (s : State) (n i a : Nat) (fetched scrub : Bool) (e : MemError) : State :=
  let corrected (t : State) (b : IntegError) (cls : Nat) : State :=
    let (v, t) := t.draw
    let u := t.sliceCe i { b with cls := cls, syndrome := v.toNat % 256 }
    match u.locate n a with
    | .ext _ line => u.rewriteSector n i line (a % 128)
    | _ => u
  if e = .none ∨ !s.wordWritten n a then s.tagError n i scrub e
  else
    match s.locate n a, fetched with
    | .ext _ line, false => s.lineError n i line (a % 128) scrub e
    | _, _ =>
      let (kind, unit, addr, t) := s.errorPlace n a fetched
      let base : IntegError := { cls := 1, kind := kind, unit := unit, region := some n, addr := addr, scrub := scrub }
      match e with
      | .dataBit _ => corrected t base 1
      | .checkBit _ => corrected t base 2
      | .double syn =>
        let u := t.sliceUe i { base with cls := 4, syndrome := syn.toNat }
        if fetched then u.poisonSector n a else u.poisonWord n a
      | _ => s.tagError n i scrub e

/-! ### Home slices -/

/-- The missing sectors of a line asked of its channel, unless they are on their way (R608, R693). -/
def State.askChannel (s : State) (n line mask cls : Nat) : State :=
  let coming := s.hreqs.foldl (fun m r => if r.region = n ∧ r.line = line ∧ !r.write then m ||| r.sectors else m) 0
  let need := (List.range 4).foldl (fun m i => if mask.testBit i && !coming.testBit i then m + 2 ^ i else m) 0
  if need = 0 then s
  else
    let (ch, c) := s.chanOf n (line * 128)
    s.ask { id := 0, chan := ch, cls := cls, region := n, write := false, line := line, addr := c, sectors := need }

/-- The tracker entry of a line. -/
def Slice.trackOf (sl : Slice) (line : Nat) : Option Tracker := sl.tracker.find? fun e => e.line == line

def Slice.modTrack (sl : Slice) (line : Nat) (f : Tracker → Tracker) : Slice :=
  { sl with tracker := sl.tracker.map fun e => if e.line == line then f e else e }

/-- Slice h's tracker holds nothing more of a line: the entry is free. -/
def State.freeTrack (s : State) (h line : Nat) : State :=
  (s.modSlice h fun sl => { sl with tracker := sl.tracker.filter fun e =>
    e.line != line || !e.copies.isEmpty || e.borrower.isSome || e.reserved.isSome || !e.retries.isEmpty }).noteMeridian h

/-- A request for a line that a proxy has borrowed: its recall is due (R618). -/
def State.wantRecall (s : State) (h line : Nat) : State := s.modSlice h fun sl => sl.modTrack line fun e => { e with recalling := true }

def State.isBorrowed (s : State) (h line : Nat) : Bool := ((s.slice h).trackOf line).any fun e => e.borrower.isSome

/-- How a request for sectors of an external line at its home slice stands: the line is ready; the slice takes the request and it
waits, for the return of a borrowed line or for a fetch; or the channel's class queues are full, and the slice does not take it
(R710). -/
inductive LineWait where
  | ready
  | waits (s : State)
  | full

def State.awaitLine (s : State) (n h line mask cls : Nat) : LineWait :=
  if s.isBorrowed h line then .waits (s.wantRecall h line)
  else
    let need := ((s.slice h).home line).missing mask
    if need = 0 then .ready
    else if s.chanFull (s.chanOf n (line * 128)).1 then .full
    else .waits (s.askChannel n line need cls)

/-- The state with packet p marked as one that needed a fetch, which counts as a miss (R630). -/
def State.noteMiss (s : State) (h : Nat) (p : Packet) : State :=
  if p.fetched then s
  else { s.countMod (F.MSL_EXT_MISSES_MISSES h) with
    net := s.net.map fun q => if q.id = p.id then { q with fetched := true } else q }

/-- A READ at the home slice of its address (R590, R608, R616, R618): it waits for the line, or its DATA leaves. A proxy
that fetched the line becomes one of its copy holders. -/
def State.homeRead (s : State) (p : Packet) (i : Nat) (e : MemError) : Option State :=
  let n := p.region
  let give (t : State) : State :=
    let (b, bad) := t.homeBytes n p.addr p.size
    { t.respond p (.slice i) .data (memAt 0 b) bad with draws := t.draws + 1 }
  if s.behind p then some s
  else
    match s.locate n p.addr with
    | .ext h line =>
      let mask := touched p.addr p.size
      match s.awaitLine n h line mask cDYN with
      | .full => none
      | .waits t => some (if s.isBorrowed h line then t else t.noteMiss h p)
      | .ready =>
        let t := s.memError n i p.addr p.fetched false e
        if ((t.slice h).home line).missing mask ≠ 0 || t.sliceFenced i then some t
        else
          let t := t.when (!p.fetched) fun u => u.countMod (F.MSL_EXT_HITS_HITS h)
          let t := t.modSlice h fun sl => match sl.find line with | some l => sl.put l | none => sl
          let t := match p.src with
            | .slice x => if p.line then t.track n h line (tileOfSlice x) fun e => { e with copies := insertNat e.copies x } else t
            | _ => t
          some ((give t).dropStaged h line)
    | _ =>
      let t := s.memError n i p.addr false false e
      some (if t.sliceFenced i then t else give t)

/-- An access to an external line whose home is another slice is served by the requester's proxy (R615, R616). -/
def State.isProxy (s : State) (n i a : Nat) : Bool :=
  match s.locate n a with
  | .ext h _ => h != i
  | _ => false

/-- A proxy asks the home slice for a line: a READ of the whole line, to keep as a copy or, with `borrow`, to borrow
(R616, R617); one request of each kind at a time. `key` names the request it serves. -/
def State.askHome (s : State) (n i line key : Nat) (borrow : Bool) : State :=
  let h := s.homeOf n (line * 128)
  if s.net.any fun q => q.line && q.op == bit borrow && q.addr == 2 ^ 47 + line * 128 && q.kind != .write
      && (q.src == .slice i || q.dst == .slice i) then s
  else
    let (id, t) := s.newId
    t.inject { id := id, kind := .read, region := n, src := .slice i, dst := .slice h, addr := 2 ^ 47 + line * 128
               size := 128, line := true, op := bit borrow, key := key }

/-- A READ at a proxy (R616): it waits there for the line. -/
def State.proxyRead (s : State) (p : Packet) (i : Nat) (e : MemError) : State :=
  let line := offsetOf p.addr / 128
  if s.behind p then s
  else
    match (s.slice i).find line with
    | some _ =>
      let t := s.lineError p.region i line (p.addr % 128) false e
      match (t.slice i).find line with
      | none => t
      | some l =>
        if t.sliceFenced i then t
        else
          let r := l.bytesAt t.draws p.addr p.size
          { (t.modSlice i fun sl => sl.put l).respond p (.slice i) .data (memAt 0 r.1) r.2 with draws := t.draws + 1 }
    | none => s.askHome p.region i line p.id false

/-! ### Writes (R609, R612, R617, R618) -/

/-- What becomes of a write at its serving slice: accepted; taken, to wait there; or not taken (R710). -/
inductive WriteEnd where
  | accepted (s : State)
  | waits (s : State)
  | full

/-- A WRITE of core g at its serving slice. -/
def State.acceptWrite (s : State) (p : Packet) (i g : Nat) (e : MemError) : WriteEnd :=
  let n := p.region
  let line := offsetOf p.addr / 128
  if s.behind p then .waits s
  else if s.isProxy n i p.addr then
    match (s.slice i).find line with
    | some l =>
      if l.kind = LineKind.borrowed then
        .accepted (s.modSlice i fun sl => sl.put (l.take (p.addr % 128) ⟨p.bytes, p.poison⟩ (some g)))
      else .waits (s.askHome n i line 0 true)
    | none => .waits (s.askHome n i line 0 true)
  else
    let first := p.addr + (p.bytes.headD (0, 0)).1
    let cut := p.bytes.countP fun b => (p.addr + b.1) / 8 == first / 8
    let s := if cut < 8 then s.memError n i first false false e else s.tagError n i false e
    if s.sliceFenced i then .waits s
    else
      let t := s.homeStore n p.addr cDYN p.bytes p.poison
      match s.locate n p.addr with
      | .ext h line =>
        if s.isBorrowed h line then .waits (s.wantRecall h line)
        else if s.chanFull (s.chanOf n (line * 128)).1 then .full
        else if s.writesTaken t then .accepted t
        else if p.fetched then .waits s
        else .waits { s.countHolds n cDYN (s.untaken t) with
          net := s.net.map fun q => if q.id = p.id then { q with fetched := true } else q }
      | _ => .accepted t

/-- The core's store is accepted: the entry leaves its buffer and an ACK is on its way. -/
def State.ackStore (s : State) (p : Packet) (i g : Nat) : State :=
  (s.modCore g fun c => { c with store := c.store.filter fun x => x.id != p.id, unacked := c.unacked + 1 }).respond p (.slice i)
    .ack [] []

/-- The entry goes toward its port as WRITE packets of the link (R634, R747). -/
def State.storeToPort (s : State) (pk : Packet) (g port : Nat) : State :=
  let pieces := piecesOf (pk.bytes.map fun b => (pk.addr + b.1, b.2))
  let t := (s.take pk).modCore g fun c =>
    { c with store := c.store.filter fun x => x.id != pk.id, unacked := c.unacked + pieces.length }
  overList pieces t fun u k =>
    let (id, v) := u.newId
    v.toEdge { id := id, kind := .write, region := pk.region, src := .core g, dst := .port port, addr := k.addr
               size := (k.bytes.getLast?.map (·.1)).getD 0 + 1, bytes := k.bytes
               poison := (pk.poison.filter fun w => k.addr ≤ pk.addr + 8 * w + 7 && pk.addr + 8 * w < k.addr + 256).map
                   fun w => (pk.addr + 8 * w - k.addr) / 8 }

/-- A WRITE of core g at slice i: accepted, or waiting there; none when the slice does not take it. -/
def State.sliceWrite (s : State) (p : Packet) (i g : Nat) (e : MemError) : Option State :=
  match s.acceptWrite p i g e with
  | .accepted t => some (t.ackStore p i g)
  | .waits t => some t
  | .full => none

/-- Writes that wait at a proxy for a line combine in it once its borrow is granted (R617), in their order. -/
def State.combineHeld (s : State) (i line : Nat) : State :=
  overList (s.net.filter fun q => q.kind == .write && !q.line && q.place == .unit && q.dst == .slice i
      && lineOf q.addr == lineOf (2 ^ 47 + line * 128)) s fun u q =>
    match q.src with
    | .core g => (u.sliceWrite q i g .none).getD u
    | _ => u

/-! ### The commands -/

/-- The core that holds a store-buffer entry. -/
def State.entryOf (s : State) (id : Nat) : Option (Nat × SbEntry) :=
  s.cores.findSome? fun c => (c.2.store.find? fun e => e.id == id).map fun e => (c.1, e)

/-- A request goes on toward the port of its address, by the Edge Ring (R547). -/
def State.requestToPort (s : State) (p : Packet) : State := (s.take p).toEdge p

/-- A READ reaches its serving unit (R525, R608, R616). A borrow request waits there for its arbitration (R622). -/
def execDynRead (id : Nat) (e : MemError) (s : State) : Host.Outcome State Fault Refusal :=
  deliver s id .read fun p t =>
    match p.dst with
    | .port _ => some (t.requestToPort p)
    | .slice i =>
      if p.op = 1 then some t else if t.isProxy p.region i p.addr then some (t.proxyRead p i e) else t.homeRead p i e
    | _ => none

/-- A WRITE reaches its home slice, or the proxy or port that serves it (R609, R617, R634). The store-buffer entry that it
carries is sent first, with the older ones (R387), if it has not been, and leaves the buffer with its acceptance. -/
def execDynWrite (id : Nat) (e : MemError) (s : State) : Host.Outcome State Fault Refusal :=
  let t := match s.entryOf id with
    | none => s
    | some (g, _) =>
      match s.regionOfCore g with
      | none => s
      | some n => s.sendEntries n g id
  deliver t id .write fun p u =>
    match p.src, p.dst with
    | .core g, .port q => some (u.storeToPort p g q)
    | .core g, .slice i => u.sliceWrite p i g e
    | _, _ => none

/-- Room in the atomic unit's staging buffer of 16 lines (R612): the line has its place there, or takes one. -/
def State.stage (s : State) (h line : Nat) : Option State :=
  let l := (s.slice h).staging
  if s.cacheWays h ≠ 0 || l.contains line then some s
  else if l.length < 16 then some (s.modSlice h fun sl => { sl with staging := l ++ [line] }) else none

/-- An ATOMIC performed at slice i (R655, R662). -/
def State.sliceAtomic (s : State) (p : Packet) (i : Nat) : State :=
  let n := p.region
  let (old, bad, t) := s.performAtomic n p.addr p.op p.fmt p.operand p.compare p.bad
  let t := t.when bad fun w => w.launchPoison n
  if p.ret then t.respond p (.slice i) .data (memAt 0 (toBytes p.size old)) (if bad then [0] else [])
  else t.respond p (.slice i) .ack [] []

/-- An ATOMIC is performed at its home slice's atomic unit (R610, R612), which may find its word in error (R770), or goes to its port. -/
def execDynAtomic (id : Nat) (e : MemError) (s : State) : Host.Outcome State Fault Refusal :=
  deliver s id .atomic fun p t =>
    match p.dst with
    | .port _ => some (t.requestToPort p)
    | .slice i =>
      if t.behind p then some t
      else
        match t.locate p.region p.addr with
        | .ext h line =>
          match t.stage h line with
          | none => none
          | some u =>
            match u.awaitLine p.region h line (touched p.addr p.size) cDYN with
            | .full => none
            | .waits v => some v
            | .ready =>
              let v := u.memError p.region i p.addr p.fetched false e
              if ((v.slice h).home line).missing (touched p.addr p.size) ≠ 0 || v.sliceFenced i then some v
              else
                some (((v.settleLine p.region h line true).sliceAtomic p i).modSlice h fun sl =>
                  { sl with staging := eraseNat sl.staging line })
        | _ =>
          let v := t.memError p.region i p.addr false false e
          some (if v.sliceFenced i then v else v.sliceAtomic p i)
    | _ => none

/-- A MESSAGE enters its receive queue, or its slice's combining input of 16 messages (R558, R567); with no room there it keeps its
place in the plane (R569). -/
def execDynMessage (id : Nat) (s : State) : Host.Outcome State Fault Refusal :=
  deliver s id .message fun p t =>
    match p.dst, t.channel p.region p.chan with
    | .port _, _ => some (t.requestToPort p)
    | _, none => some (t.take p)
    | _, some c =>
      match c.dst with
      | .core g q =>
        if 8 ≤ ((t.core g).queue q).length then none
        else
          let u := t.enterQueue p.region g q p.message
          some (match c.src with
            | .link _ _ => u.take p
            | _ => if c.credit then u.respond p (.core g) .ack [] [] else u.take p)
      | .cq i q _ =>
        if 16 ≤ (t.slice i).combIn.length then none else some ((t.enterInput p.region i q p.message).take p)
      | .link _ _ => some (t.take p)

/-- The loads of a cluster's cores that a DATA packet answers have their bytes, and a line that one of them fetched goes into the
read-only cache (R370, R525); or the returning atomic has its old value (R664). -/
def State.coreData (s : State) (p : Packet) (c : Nat) : State :=
  let waiting := (coresOfCluster c).flatMap fun g => ((s.core g).loads.filter fun l => l.tag == p.tag).map fun l => (g, l)
  let t := overList waiting s fun u e => u.modCore e.1 fun k => { k with loads := k.loads.filter fun l => l.tag != p.tag }
  let t := t.when (waiting.any fun e => e.2.fill) fun u => u.modCluster c fun k =>
    k.putRo { line := p.addr / 128, bytes := p.bytes, poison := p.poison }
  overList waiting t fun u e =>
    let l := e.2
    let bytes := (List.range l.size).map fun k => smGet p.bytes 0 (l.addr - p.addr + k)
    if p.ret then
      let bad := p.poison.contains 0
      (u.when bad fun v => v.launchPoison p.region).modCore e.1 fun k => k.setReg l.dest (atomicOld p.fmt (fromBytes bytes)) bad
    else u.loadDone p.region e.1 l bytes fun k => p.poison.contains ((l.addr + k) / 8 - p.addr / 8)

/-- 8-byte words of a packet whose parity fails in the buffers of the plane are poisoned (R770, R777): the packet, and the state with
each of them reported. -/
def State.parityFails (s : State) (p : Packet) (words : List Nat) : Packet × State :=
  let hit := (words.filter fun w => p.bytes.any (fun b => b.1 / 8 == w) && !p.poison.contains w).eraseDups
  ({ p with poison := hit.foldl insertNat p.poison },
    overList hit s fun t _ =>
      t.integRaise { cls := 4, kind := kPlane, unit := p.dstTile, region := some p.region } F.INT_INTEG_STATUS_UE)

/-- DATA reaches its requester (R525), its words as parity finds them: a core's load or atomic, a read-only cache's fill, or a proxy's
fetch or borrow (R616, R617, R622). A proxy keeps a copy only while the home slice still tracks it. -/
def execDynData (id : Nat) (parity : List Nat) (s : State) : Host.Outcome State Fault Refusal :=
  deliver s id .data fun q t =>
    let (p, t) := (t.take q).parityFails q parity
    let n := p.region
    match p.dst with
    | .core g => some (t.coreData p (g / 8))
    | .slice i =>
      let line := offsetOf p.addr / 128
      let h := t.homeOf n (line * 128)
      if p.op = 1 then
        some ((t.putLine n i cDYN { line := line, kind := .borrowed, data := p.bytes, poison := p.poison, present := 15 }).combineHeld
          i line)
      else
        let tracked := ((t.slice h).trackOf line).any fun e => e.copies.contains i
        let u := t.when tracked fun v =>
          v.putLine n i cDYN { line := line, kind := .copy, data := p.bytes, poison := p.poison, present := 15 }
        match u.net.find? fun q => q.id == p.key && q.kind == .read with
        | none => some u
        | some q =>
          let o := q.addr % 128
          some (u.respond q (.slice i) .data ((p.bytes.filter fun b => o ≤ b.1 && b.1 < o + q.size).map fun b => (b.1 - o, b.2))
            ((p.poison.filter fun w => o / 8 ≤ w && 8 * w < o + q.size).map fun w => w - o / 8))
    | _ => some t

/-- An ACK reaches its requester (R525): of a write, of a non-returning atomic for each contribution it held (R379), of a
write that a remote module performed (R634, R755), or of a CREDIT message (R567). -/
def execDynAck (id : Nat) (s : State) : Host.Outcome State Fault Refusal :=
  deliver s id .ack fun p t =>
    let t := t.take p
    match p.dst with
    | .core g =>
      some (if p.code = 1 then t.modCore g fun c => { c with msgUnacked := c.msgUnacked - 1 }
        else if p.code = 2 then
          overList p.writers t fun u w => u.modCore w fun c => { c with unackedLink := c.unackedLink - 1 }
        else overList (if p.writers.isEmpty then [g] else p.writers) t fun u w =>
          u.modCore w fun c => { c with unacked := c.unacked - 1 })
    | .slice i => some (t.modSlice i fun sl => { sl with msgUnacked := sl.msgUnacked - 1 })
    | _ => some t

/-- The refusal code RETRY of a borrow request (R623). -/
def codeRETRY : Nat := 1

/-- An ERROR reaches its requester (R525): a proxy re-sends its borrow request at once on RETRY (R624). -/
def execDynError (id : Nat) (s : State) : Host.Outcome State Fault Refusal :=
  deliver s id .error fun p t =>
    let t := t.take p
    match p.dst with
    | .slice i => some (if p.code = codeRETRY then t.askHome p.region i (offsetOf p.addr / 128) 0 true else t)
    | _ => some t

/-! ### Ownership contention (R618, R622 to R624) -/

/-- The borrow requests for a line that have reached its home slice. -/
def State.borrowers (s : State) (n h line : Nat) : List Packet :=
  s.net.filter fun p => p.region == n && p.kind == .read && p.line && p.op == 1 && p.dst == .slice h
    && p.addr == 2 ^ 47 + line * 128 && p.place == .unit

def proxySlice (p : Packet) : Nat := match p.src with | .slice i => i | _ => 0

/-- The requester at or after the rotation pointer, in increasing tile order with wrap-around. -/
def firstFrom (ptr : Nat) (l : List Packet) : Option Packet :=
  let key (p : Packet) : Nat := (agentTile p.src + 192 - ptr % 192) % 192
  l.foldl (fun best p => match best with | none => some p | some b => if key p < key b then some p else best) none

/-- RETRY to a request (R623): counted, and the first loser is reserved when no reservation is held. -/
def State.retry (s : State) (h line : Nat) (p : Packet) : State :=
  let x := proxySlice p
  let t := s.modSlice h fun sl => sl.modTrack line fun e =>
    { e with retries := smMod e.retries 0 x (· + 1)
             recalling := e.recalling || (e.reserved.isNone && e.borrower.isSome)
             reserved := if e.reserved.isNone then some x else e.reserved }
  let (id, u) := ((t.countSat (F.MSL_TRACKER_RETRIES h)).take p).newId
  u.inject { id := id, kind := .error, region := p.region, src := .slice h, dst := p.src, tag := p.id, addr := p.addr
             code := codeRETRY, line := true, op := 1 }

/-- Requests that lose: each receives RETRY, unless it has received two (R624), when it waits. -/
def State.retryAll (s : State) (h line : Nat) (l : List Packet) : State :=
  overList l s fun u p =>
    match (u.slice h).trackOf line with
    | some e => if smGet e.retries 0 (proxySlice p) < 2 then u.retry h line p else
        (if e.reserved.isNone then
          u.modSlice h fun sl => sl.modTrack line fun e => { e with reserved := some (proxySlice p), recalling := e.borrower.isSome }
        else u)
    | none => u

/-- A borrow granted (R617, R618, R622): copies are invalidated, the pointer moves past the requester, and the line goes
to it. -/
def State.grantBorrow (s : State) (n h line : Nat) (p : Packet) : State :=
  let x := proxySlice p
  let t := s.settleLine n h line true
  let t := t.track n h line (agentTile p.src) fun e =>
    { e with borrower := some x, pointer := agentTile p.src + 1, recalling := false
             reserved := if e.reserved = some x then none else e.reserved, retries := smDel e.retries x }
  let l := (t.slice h).home line
  t.respond p (.slice h) .data l.data l.poison

/-- The home slice's tracker meets the borrow requests for a line that have arrived, the one of `proxy` among them: it
grants one, once the line is in full at the slice and not borrowed, and answers the others with RETRY (R622 to R624). -/
def execBorrowRequest (slice : Fin 64) (line : BitVec 64) (proxy : Fin 64) (s : State) : Host.Outcome State Fault Refusal :=
  let h := slice.val
  let ln := line.toNat
  match s.ownerOf (tileOfSlice h) with
  | none => done s
  | some n =>
    match (s.net.find? fun p => p.kind == .read && p.line && p.op == 1 && p.dst == .slice h && p.src == .slice proxy.val
        && p.addr == 2 ^ 47 + ln * 128).bind fun p => s.arrive p with
    | none => done s
    | some s =>
      let reqs := s.borrowers n h ln
      let seed := (reqs.map fun p => agentTile p.src).min?.getD 0
      let s := s.track n h ln seed id
      match (s.slice h).trackOf ln with
      | none => done s
      | some e =>
        let winner := match e.reserved with
          | some r => reqs.find? fun p => proxySlice p == r
          | none => firstFrom e.pointer reqs
        match winner with
        | none => done (s.retryAll h ln reqs)
        | some w =>
          match s.awaitLine n h ln 15 cDYN with
          | .full => done s
          | .waits t => done t
          | .ready => done ((s.grantBorrow n h ln w).retryAll h ln (reqs.filter fun p => p.id != w.id))

/-- The home slice recalls a borrowed line whose recall is due: the borrower sends its dirty sectors back and drops the
line (R618, R623). -/
def execRecall (slice : Fin 64) (line : BitVec 64) (s : State) : Host.Outcome State Fault Refusal :=
  let h := slice.val
  let ln := line.toNat
  match s.ownerOf (tileOfSlice h), (s.slice h).trackOf ln with
  | some n, some e =>
    match e.recalling, e.borrower with
    | true, some b =>
      match (s.slice b).find ln with
      | none => done s
      | some l =>
        let (id, t) := (s.countSat (F.MSL_TRACKER_RECALLS h)).newId
        let u := (t.modSlice b fun sl => sl.remove ln).inject
          { id := id, kind := .write, region := n, src := .slice b, dst := .slice h, addr := 2 ^ 47 + ln * 128, size := 128
            line := true, writers := l.writers, bytes := l.data.filter fun x => l.dirty.contains x.1
            poison := l.poison.filter fun k => l.dirty.any fun o => o / 8 == k }
        done ((u.modSlice h fun sl => sl.modTrack ln fun e => { e with recalling := false }).noteMeridian b)
    | _, _ => done s
  | _, _ => done s

/-- A returned line applied at its home slice (R618, R620 to R622). -/
def State.applyReturn (s : State) (p : Packet) (h : Nat) : State :=
  let n := p.region
  let ln := offsetOf p.addr / 128
  let t := (s.take p).modSlice h fun sl => sl.modTrack ln fun e => { e with borrower := none, recalling := false }
  let l : CLine := { line := ln, data := p.bytes, poison := p.poison, dirty := p.bytes.map (·.1) }
  let u := if p.bytes.isEmpty then t else (t.putLine n h cDYN (((t.slice h).home ln).merge l)).dropStaged h ln
  u.freeTrack h ln

def execLineReturn (slice : Fin 64) (id : Nat) (s : State) : Host.Outcome State Fault Refusal :=
  deliver s id .write fun p t => if p.line && p.dst == .slice slice.val then some (t.applyReturn p slice.val) else none

end Sys2Proof.Machine
end

