-- ==== Sys2Proof/Machine/Hbm.lean ====
section
/-! DEFINITION. The channel controllers and the regulation of requests (16_external_memory_and_regulation.md, R692 to
R725), slice retention (04, R157, R158), the scrubber and the bushel's leak (18, R783 to
R794). -/

namespace Sys2Proof.Machine

/-! ### Grants (R694, R695, R712, R715) -/

/-- A latency measured for a class with a target (R715). How long a request took the model does not time: the number of
nanoseconds is a free value (log 17). Nothing is measured during refresh-only (R717). -/
def State.measure (s : State) (r : HReq) : State :=
  if s.on F.PWR_STATUS_HBM_REFRESH_ONLY || decide (4 ≤ r.cls) || s.fld (F.RGN_LAT_TARGET_TARGET r.region r.cls) == 0 then s
  else
    let (v, t) := s.draw
    t.modChan r.chan fun c => { c with latSum := smMod c.latSum 0 r.cls (· + v.toNat % 2 ^ 20)
                                       latCount := smMod c.latCount 0 r.cls (· + 1) }

/-- The controller grants the entry of highest priority, the oldest among equals: a write-back is merged into HBM, a read
is on its way to the slice. -/
def State.grant (s : State) (ch : Nat) (r : HReq) : State :=
  let n := r.region
  let p := s.reqPriority r
  let part := if r.write then partialSectors (r.data.map (·.1)) else 0
  let t := (s.when (decide (p < s.fullPriority r)) fun u => u.countSat (F.RGN_DLY_BUDGET_DELAYED_BUDGET n r.cls)).when (p == 3)
    fun u => u.countSat (F.RGN_URGENT_URGENT n)
  let t := (t.countMod (F.HBM_CH_RMW_RMW (ch / 16) (ch % 16)) part).chargeBeats n ch r.cls (popCount4 r.sectors + part)
  let t := if r.write then
      ({ t with hbm := hbmMerge t.hbm r, hreqs := t.hreqs.filter fun q => q.id != r.id } : State).measure r
    else t.modReq r.id fun q => { q with granted := true }
  t.noteQueue ch

/-- HBM_GRANT: nothing is granted while refresh-only holds the channel, and what waits is counted as held (R112). -/
def execHbmGrant (channel : Fin 128) (s : State) : Host.Outcome State Fault Refusal :=
  let ch := channel.val
  if s.chanHeld ch then
    done (overList (s.hreqs.filter fun r => r.chan == ch && !r.granted) s fun u r => u.countHeld r false)
  else if !s.stackReady ch then done s
  else
    let t := s.injectAll ch
    match t.bestOf (t.hreqs.filter fun r => r.chan == ch && r.injected && !r.granted) with
    | none => done t
    | some r => done ((t.grant ch r).injectAll ch)

/-- Fetched sectors reach their home slice (R608, R609): the line is filled, over what has been written in it. -/
def execHbmReadComplete (id : Nat) (s : State) : Host.Outcome State Fault Refusal :=
  match s.hreqs.find? fun r => r.id == id && r.granted && !r.write with
  | none => done s
  | some r =>
    let i := sliceOfChannel r.chan
    let t := { s with hreqs := s.hreqs.filter fun q => q.id != id }
    let l := ((t.slice i).home r.line).fill (t.hbmView r.chan) (hbmKey r.chan r.addr) r.sectors
    let u := if t.cacheWays i = 0 then t.modSlice i fun sl => sl.put l else t.putLine r.region i r.cls l
    done (u.measure r)

/-- A per-bank refresh is issued between grants (R696). It leaves every stored bit and every register as it was. -/
def execHbmRefresh (_channel : Fin 128) (_bank : Fin 64) (s : State) : Host.Outcome State Fault Refusal := done s

/-! ### Budget windows (R706, R715, R716) -/

/-- L after a window whose mean was m (R715): floor((m − L) / 8) is rounded down, below zero too. -/
def nextLatency (l m : Nat) : Nat := ((l : Int) + ((m : Int) - (l : Int)) / 8).toNat

/-- The end of a window at one channel for one class of its region. -/
def State.closeClass (s : State) (n ch cls : Nat) : State :=
  let c := s.chan ch
  let t := 10 * s.fld (F.RGN_LAT_TARGET_TARGET n cls)
  let k := smGet c.latCount 0 cls
  if t = 0 ∨ s.on F.PWR_STATUS_HBM_REFRESH_ONLY then s
  else
    let l := if k = 0 then smGet c.lat 0 cls else nextLatency (smGet c.lat 0 cls) (roundOpen (smGet c.latSum 0 cls) k)
    let boosted := if 3 * t < 4 * l then true else if 2 * l < t then false else c.boosted.contains cls
    s.modChan ch fun c => { c with
      lat := smPut c.lat cls l
      boosted := if boosted then insertNat c.boosted cls else eraseNat c.boosted cls }

/-- Region n's counters after a window: BOOST_WINDOWS and LAT_AVG (R722, R726). -/
def State.closeRegion (s : State) (n : Nat) : State :=
  let chs := (s.slicesOf n).flatMap fun i => [channelOfSlice i, channelOfSlice i + 1]
  overList [0, 1, 2, 3] s fun t cls =>
    if t.fld (F.RGN_LAT_TARGET_TARGET n cls) = 0 then t
    else
      let u := overList chs t fun v ch => v.closeClass n ch cls
      let v := u.setFld (F.RGN_DLY_LAT_LAT_AVG n cls)
        (min ((chs.map fun ch => smGet (u.chan ch).lat 0 cls).foldl max 0) 0xFFFFF)
      if chs.any fun ch => (v.chan ch).boosted.contains cls then v.countSat (F.RGN_DLY_BOOST_BOOST_WINDOWS n cls) else v

/-- Whether back-pressure held an injection port of region n in the microsecond that ends (DYN_STALL): a free bit, for a
region in which a packet has not got into the plane in full. -/
def State.noteStall (s : State) (n : Nat) : State :=
  if s.settle.net.any fun p => p.region == n && (p.place == .source || (p.place == .plane && p.entered < p.flits)) then
    let (v, t) := s.draw
    t.countMod (F.DYN_STALL_STALL_US n) (bit (v.getLsbD 0))
  else s

/-- A 1 µs window ends (R706): latency averages and boosts are updated, and every counter of every point starts at 0. -/
def execBudgetWindow (s : State) : Host.Outcome State Fault Refusal :=
  if !s.power.halves then done s
  else
    let live := (List.range 32).filter fun n => s.rgnState n != rFREE && s.rgnState n != rCONFIGURING
    let t := overList live (overList live s State.closeRegion) State.noteStall
    done { t with
      stops := []
      chans := t.chans.map fun e => (e.1, { e.2 with used := [], latSum := [], latCount := [] }) }

/-! ### Slice retention (R157, R158) -/

/-- The slice has a request: a packet for it, or one of its channels' requests. -/
def State.sliceBusy (s : State) (i : Nat) : Bool :=
  s.net.any (fun p => p.dst == .slice i) || s.hreqs.any fun r => sliceOfChannel r.chan == i

/-- A slice enters retention: its region's islands are all gated and it has no request. -/
def execSliceRetentionEntry (slice : Fin 64) (s : State) : Host.Outcome State Fault Refusal :=
  match s.ownerOf (tileOfSlice slice) with
  | none => done s
  | some n =>
    if s.power.halves && !s.sliceBusy slice && ((s.islandsOf n).all fun i => !s.bitAt F.CLK_ISLAND_POWERED i) then
      done (s.raise (F.MSL_STATE_RETENTION slice))
    else done s

/-- A slice leaves retention for a request. -/
def execSliceRetentionExit (slice : Fin 64) (s : State) : Host.Outcome State Fault Refusal :=
  done (s.lower (F.MSL_STATE_RETENTION slice))

/-! ### The scrubber (R787 to R793) -/

/-- The slice is scrubbed (R787, R793). -/
def State.scrubbed (s : State) (i n : Nat) : Bool :=
  let st := s.rgnState n
  let ch := channelOfSlice i
  (st == rREADY || st == rRUNNING || st == rDRAINING || st == rFAULTED) && !s.sliceFenced i && s.stackReady ch

/-- A sweep that ends: SWEEP_LATE when it took longer than 110 % of its period (R792). -/
def State.sweepEnd (s : State) (i start : Nat) : State :=
  let period := s.fld (F.MSL_SCRUB_CTRL_SWEEP_MIN i) * 60 * 16384000
  s.when (decide (11 * period < 10 * ((s.time + 2 ^ 48 - start) % 2 ^ 48))) fun t => t.countSat (F.MSL_SCRUB_HBM_SWEEP_LATE i)

/-- The first word of a line frame of a pinned way that has been written and is not poisoned; its remapped sectors stand in
the spare store (R798). -/
def State.firstWord (s : State) (i lo : Nat) : Option Nat :=
  let m := (s.slice i).sram
  let sp := s.spares i
  ((List.range 16).map (lo / 8 + ·)).find? fun w =>
    let k := cellOf sp (8 * w) / 8
    (m.bytes.any fun e => e.1 / 8 == k) && !m.poisoned k

/-- The error at a line frame of the SRAM (R787, R791). Which word of the frame it hits the command does not say: the
first that is scrubbed and not poisoned (log 18). In the cache ways the frame's line is the one of its set in that place
of the order of use (log 16). -/
def State.scrubSram (s : State) (n i pos : Nat) (e : MemError) : State :=
  let ways := s.fld (F.MSL_STATE_PIN_WAYS i)
  let way := pos / 2048
  if (match e with | .tag _ | .tags => true | _ => false) then s.tagError n i true e
  else if way < ways then
    match s.firstWord i (128 * pos) with
    | none => s
    | some w =>
      let (v, t) := s.draw
      let base : IntegError :=
        { cls := 1, kind := kSliceSram, unit := i, region := some n, addr := 8 * w, scrub := true, syndrome := v.toNat % 256 }
      match e with
      | .dataBit _ => t.sliceCe i base
      | .checkBit _ => t.sliceCe i { base with cls := 2 }
      | .double syn =>
        (t.sliceUe i { base with cls := 4, syndrome := syn.toNat }).modSlice i fun x =>
          { x with sram := { x.sram with poison := insertNat x.sram.poison (s.cell i (8 * w) / 8) } }
      | _ => s
  else
    match ((s.slice i).lines.filter fun l => setOf l.line == pos % 2048)[way - ways]? with
    | none => s
    | some l =>
      match (l.data.map fun b => b.1 / 8).find? fun w => !l.poison.contains w with
      | none => s
      | some w =>
        let t := s.lineError n i l.line (8 * w) true e
        let order := (s.slice i).lines.map (·.line)
        t.modSlice i fun sl => { sl with lines := order.filterMap fun k => sl.find k }

/-- The error at an HBM line (R791): the sector's CE rewrites it as it was; a UE poisons its four words. -/
def State.scrubHbm (s : State) (n i pos : Nat) (e : MemError) : State :=
  let ch := channelOfSlice i + pos % 2
  let key := hbmKey ch (pos / 2 * 128)
  let (v, t) := (s.chargeBeats n ch cSCRUB 4).draw
  let base : IntegError :=
    { cls := 1, kind := kHbm, unit := ch, region := some n, addr := pos / 2 * 128, scrub := true, syndrome := v.toNat % 256 }
  let old := (List.range 4).any fun k => s.hbm.poisoned (key / 8 + k)
  match e with
  | .none => s.chargeBeats n ch cSCRUB 4
  | .dataBit _ => if old then t else t.sliceCe i base
  | .checkBit _ => if old then t else t.sliceCe i { base with cls := 2 }
  | .double syn =>
    if old then t
    else
      let u := t.sliceUe i { base with cls := 4, syndrome := syn.toNat }
      { u with hbm := { u.hbm with poison := (List.range 4).foldl (fun p k => insertNat p (key / 8 + k)) u.hbm.poison } }
  | _ => s.chargeBeats n ch cSCRUB 4

/-- A scrub step: the scrubber visits its next line frame, or its next HBM line, and its position moves on. -/
def execScrubStep (slice : Fin 64) (hbm : Bool) (e : MemError) (s : State) : Host.Outcome State Fault Refusal :=
  let i := slice.val
  match s.ownerOf (tileOfSlice i) with
  | none => done s
  | some n =>
    if !s.scrubbed i n then done s
    else if hbm then
      if !s.on (F.MSL_SCRUB_CTRL_HBM_EN i) then done s
      else
        let pos := s.fld (F.MSL_SCRUB_HBM_POS_POSITION i)
        let t := s.scrubHbm n i pos e
        if pos + 1 < 25165824 then done (t.setFld (F.MSL_SCRUB_HBM_POS_POSITION i) (pos + 1))
        else
          done ((((t.setFld (F.MSL_SCRUB_HBM_POS_POSITION i) 0).countSat (F.MSL_SCRUB_HBM_SWEEPS i)).sweepEnd i
            (s.slice i).sweepHbm).modSlice i fun sl => { sl with sweepHbm := s.time })
    else
      let pos := s.fld (F.MSL_SCRUB_SRAM_POSITION i)
      let t := s.scrubSram n i pos e
      if pos + 1 < 49152 then done (t.setFld (F.MSL_SCRUB_SRAM_POSITION i) (pos + 1))
      else
        done ((((t.setFld (F.MSL_SCRUB_SRAM_POSITION i) 0).countSat (F.MSL_SCRUB_SRAM_SWEEPS i)).sweepEnd i
          (s.slice i).sweepSram).modSlice i fun sl => { sl with sweepSram := s.time })

/-- A leak of slice i's bushel (R784): COUNT goes down by 1 unless it is 0. -/
def execBushelLeak (slice : Fin 64) (s : State) : Host.Outcome State Fault Refusal :=
  done (s.setFld (F.MSL_BUSHEL_COUNT slice) (s.fld (F.MSL_BUSHEL_COUNT slice) - 1))

end Sys2Proof.Machine
end

