-- ==== Sys2Proof/Machine/Links.lean ====
section
/-! DEFINITION. The Hymiyn ports (17_hymiyn_links.md): training and retraining (R733 to R738), flits and replay (R740 to
R745), sessions and link loss (R750, R758 to R760), and the packets a port receives (R751 to R767). -/

namespace Sys2Proof.Machine

/-! ### States and width (R733 to R736) -/

/-- A port's state takes a new code: each change sets INT_PF_EVENT.LINK (R221). -/
def State.setLink (s : State) (p st : Nat) : State :=
  if s.linkState p = st then s else (s.setFld (F.HL_STATUS_STATE p) st).raise F.INT_PF_EVENT_LINK

/-- A group of lanes: its WIDTH code, its LANE_GROUP, its lanes. -/
structure LaneGroup where
  width : Nat
  group : Nat
  lanes : List Nat
  deriving DecidableEq, Repr

/-- The groups of R736 that MIN_WIDTH allows, the widest and lowest-numbered first. -/
def laneGroups (minWidth : Nat) : List LaneGroup :=
  [⟨3, 0, List.range 16⟩]
    ++ (if 1 ≤ minWidth then (List.range 2).map fun k => ⟨2, k, (List.range 8).map (8 * k + ·)⟩ else [])
    ++ (if 2 ≤ minWidth then (List.range 4).map fun k => ⟨1, k, (List.range 4).map (4 * k + ·)⟩ else [])

/-- The group a port uses when the lanes of `good` are good and those of `bad` are out of use (R736, R738). -/
def State.chooseWidth (s : State) (p good bad : Nat) : Option LaneGroup :=
  (laneGroups (s.fld (F.HL_CTRL_MIN_WIDTH p))).find? fun g => g.lanes.all fun i => good.testBit i && !bad.testBit i

/-- The lanes in use. -/
def State.lanesInUse (s : State) (p : Nat) : List Nat :=
  let g := s.fld (F.HL_STATUS_LANE_GROUP p)
  match s.fld (F.HL_STATUS_WIDTH p) with
  | 3 => List.range 16
  | 2 => (List.range 8).map (8 * g + ·)
  | 1 => (List.range 4).map (4 * g + ·)
  | _ => []

def State.setWidth (s : State) (p : Nat) (g : LaneGroup) : State :=
  (s.setFld (F.HL_STATUS_WIDTH p) g.width).setFld (F.HL_STATUS_LANE_GROUP p) g.group

/-! ### Epochs (R764) -/

/-- Messages of channel k on their way to a unit. -/
def State.inNet (s : State) (k : Nat) (dst : Agent) : Nat :=
  s.net.countP fun p => p.kind == .message && p.chan == k && p.dst == dst

/-- Messages of channel k held on this module: on their way, in its receive queue, or in its slice's combining input. -/
def State.messagesHeld (s : State) (c : Channel) (k : Nat) : Nat :=
  match c.dst with
  | .core g q => s.inNet k (.core g) + ((s.core g).queue q).countP fun m => m.chan == k
  | .cq i _ _ => s.inNet k (.slice i) + (s.slice i).combIn.countP fun x => x.chan == k
  | .link _ _ => 0

/-- The IN channels of region n through ports that `of` selects, each with its port, its LINK_CHANNEL and place. -/
def State.inChannels (s : State) (n : Nat) (of : Nat → Bool) : List (Nat × Nat × Nat × Channel) :=
  (s.channels n).zipIdx.filterMap fun e =>
    match e.1.src with
    | .link p ch => if of p then some (p, ch, e.2, e.1) else none
    | _ => none

/-- The epoch of each IN channel advances and a CREDIT marked SET goes out (R764): CREDITS less the messages held while
the launch runs, else 0. -/
def State.setEpochs (s : State) (n : Nat) (running : Bool) (of : Nat → Bool) : State :=
  overList (s.inChannels n of) s fun t e =>
    let (p, ch, k, c) := e
    let u := t.modPort p fun q => { q with inEpoch := smPut q.inEpoch ch ((smGet q.inEpoch 0 ch + 1) % 256) }
    u.sendLinkCredit n p ch (if running then c.credits - u.messagesHeld c k else 0) true

/-! ### Losing a link (R733, R758, R759) -/

/-- Every request sent and not answered is answered with LINK_DOWN (R758). -/
def State.answerFlight (s : State) (p : Nat) : State :=
  overList (s.port p).flight (s.modPort p fun q => { q with flight := [] }) fun t k => t.linkDown p k

/-- Requests that wait to be sent are answered with LINK_DOWN: the port is DISABLED (R758). -/
def State.answerQueue (s : State) (p : Nat) : State :=
  overList (s.port p).outq (s.modPort p fun q => { q with outq := [] }) fun t k => t.linkDown p k

/-- A fresh session's replay state, and the link credits of its start (R746, R750). -/
def State.freshSession (s : State) (p : Nat) : State :=
  let t := (s.answerFlight p).modPort p fun q => { q with
    replay := [], nextSeq := 0, lastRx := 4095, nak := false, stuck := 0, ingress := [], since := [], aged := []
    seenReq := 0, seenRsp := 0, retReq := 0, retRsp := 0 }
  (t.setFld (F.HL_CREDITS_REQ_HELD p) 8192).setFld (F.HL_CREDITS_RSP_HELD p) 8192

/-- A port leaves UP or RETRAINING for another state (R733, R759): LINK_LOST, and a fault of a running region. -/
def State.loseLink (s : State) (p st : Nat) : State :=
  let was := s.linkState p
  let t := ((s.setLink p st).setFld (F.HL_STATUS_WIDTH p) 0).modPort p fun q => { q with attempt := st == lTRAINING }
  if was = lUP ∨ was = lRETRAINING then
    let u := t.raise (F.HL_ERR_LINK_LOST p)
    match s.portRegion p with
    | some n => u.when (s.rgnState n == rRUNNING) fun v => v.regionFault n { cause := fcLINK_LOST }
    | none => u
  else t

/-- A port becomes DISABLED: its session ends and R758 answers every request. -/
def State.disablePort (s : State) (p : Nat) : State :=
  let t := (s.loseLink p lDISABLED).modPort p fun q => { q with disabling := false, attempt := false, session := none, replay := [] }
  (t.answerFlight p).answerQueue p

/-- A port is fenced (R853, R858): DISABLED at once. -/
def State.fencePort (s : State) (p : Nat) : State :=
  if s.unitState .port p = 1 then s
  else ((s.putUnit .port p 1).lower (F.HL_CTRL_ENABLE p)).disablePort p

/-- ENABLE set: a DISABLED port enters TRAINING (R734). -/
def State.startTraining (s : State) (p : Nat) : State :=
  if s.linkState p = lDISABLED then (s.setLink p lTRAINING).modPort p fun q => { q with attempt := true } else s

/-! ### Training (R734 to R738, R748, R750) -/

/-- The clocks a port trains with run (R734). -/
def State.linkClocks (s : State) : Bool := s.on F.CLK_STATUS_XREF_OK && s.on F.CLK_STATUS_LINK_LOCK

/-- An attempt fails (R735). -/
def State.failTraining (s : State) (p : Nat) : State :=
  (s.countSat (F.HL_TRAINS_TRAIN_FAILS p)).modPort p fun q => { q with attempt := false }

/-- Full training completes (R734): the partner is checked (R748), the width chosen (R736), and the session resumed, or a
fresh one begun (R750). -/
def execLinkTrainingComplete (port : Fin 4) (r : TrainResult) (s : State) : Host.Outcome State Fault Refusal :=
  let p := port.val
  if s.linkState p ≠ lTRAINING ∨ !(s.port p).attempt ∨ !s.linkClocks ∨ s.portFenced p then done s
  else
    let fabric := r.partnerFabric.toNat
    let module := r.partnerModule.toNat
    let t := ((s.setFld (F.HL_PARTNER_FABRIC_ID p) fabric).setFld (F.HL_PARTNER_PORT p) r.partnerPort).setFld
      (F.HL_PARTNER_MODULE_ID p) module
    let t := (t.setFld (F.HL_STATUS_LANES_GOOD p) r.lanesGood.toNat).modPort p fun q => { q with badLanes := 0 }
    if fabric ≠ s.fld F.HL_MODULE_FABRIC_ID ∨ module = s.fld F.HL_MODULE_MODULE_ID then
      done ((t.raise (F.HL_ERR_PARTNER_ERR p)).failTraining p)
    else
      match t.chooseWidth p r.lanesGood.toNat 0 with
      | none => done (t.failTraining p)
      | some g =>
        let who := (r.partnerSerial.toNat, r.partnerPort.val)
        let resumed := r.resumes && (s.port p).session == some who
        let u := ((t.setWidth p g).setFld (F.HL_STATUS_RESUMED p) (bit resumed)).modPort p fun q =>
          { q with attempt := false, session := some who }
        let u := if resumed then u else u.freshSession p
        let u := u.setLink p lUP
        let v := match u.portRegion p with
          | some n => if resumed then u else u.setEpochs n (u.rgnState n == rRUNNING) (· == p)
          | none => u
        done (v.pump p)

/-- A step of full training fails or passes its bound (R735). -/
def execLinkTrainingFail (port : Fin 4) (s : State) : Host.Outcome State Fault Refusal :=
  if s.linkState port = lTRAINING ∧ (s.port port).attempt then done (s.failTraining port) else done s

/-- Full training starts again after a failure, while ENABLE is 1 (R735). -/
def execLinkTrainingRetry (port : Fin 4) (s : State) : Host.Outcome State Fault Refusal :=
  if s.linkState port = lTRAINING ∧ !(s.port port).attempt ∧ s.on (F.HL_CTRL_ENABLE port) then
    done (s.modPort port fun q => { q with attempt := true })
  else done s

/-- An UP port enters RETRAINING with the lanes of `bad` out of use (R737). -/
def State.retrain (s : State) (p bad : Nat) : State :=
  if s.linkState p = lUP then
    ((s.setLink p lRETRAINING).countSat (F.HL_TRAINS_RETRAINS p)).modPort p fun q =>
      { q with badLanes := q.badLanes ||| bad, stuck := 0 }
  else s

/-- A lane in use has lost lock (R737): the port retrains without the lanes that did; with none named, for the replays. -/
def execLinkRetrain (port : Fin 4) (lanes : BitVec 16) (s : State) : Host.Outcome State Fault Refusal :=
  done (s.retrain port lanes.toNat)

/-- A lane-error window ends (R737): the lanes in use over LANE_ERR_LIMIT are bad. -/
def execLaneErrorWindow (port : Fin 4) (lanes : List (BitVec 16)) (s : State) : Host.Outcome State Fault Refusal :=
  let limit := s.fld (F.HL_LANE_LIMIT_LANE_ERR_LIMIT port)
  let worn := (s.lanesInUse port).filter fun i => decide (limit < (lanes.getD i 0).toNat)
  if worn.isEmpty then done s else done (s.retrain port (worn.foldl (fun m i => m ||| 2 ^ i) 0))

/-- Retraining ends (R737): UP at the width that qualifies, with its session; or the link is lost. A lane in use that it does not find
good is bad until the next full training (R738). -/
def execLinkRetrainComplete (port : Fin 4) (lanesGood : BitVec 16) (ok : Bool) (s : State) :
    Host.Outcome State Fault Refusal :=
  let p := port.val
  if s.linkState p ≠ lRETRAINING then done s
  else
    let t := (s.setFld (F.HL_STATUS_LANES_GOOD p) (lanesGood.toNat &&& (65535 - (s.port p).badLanes % 65536))).modPort p fun q =>
      { q with badLanes := q.badLanes ||| (65535 - lanesGood.toNat) }
    match (if ok then t.chooseWidth p lanesGood.toNat (s.port p).badLanes else none) with
    | some g => done (((t.setWidth p g).setLink p lUP).pump p)
    | none => done (t.loseLink p lTRAINING)

/-- A port whose ENABLE was cleared becomes DISABLED (R760); when ENABLE has been set again meanwhile, it enters TRAINING. -/
def execLinkDisableComplete (port : Fin 4) (s : State) : Host.Outcome State Fault Refusal :=
  if (s.port port).disabling then
    done ((s.disablePort port).when (s.on (F.HL_CTRL_ENABLE port)) fun t => t.startTraining port)
  else done s

/-! ### Flits (R740 to R746) -/

/-- The flits of the replay buffer sent again (R743): REPLAYS counts it; the eighth without an ACK's advance retrains the
port (R737). -/
def State.resend (s : State) (p : Nat) : State :=
  let q := s.port p
  match q.replay with
  | [] => s
  | _ =>
    let t := overList q.replay (s.countSat (F.HL_REPLAYS_REPLAYS p)) fun u f => u.emit (.link p f.pkt)
    let k := q.stuck + 1
    let u := t.modPort p fun r => { r with stuck := k }
    if 8 ≤ k then u.retrain p 0 else u

/-- The replay buffer after an ACK (R743): the flits up to the acknowledged one leave. -/
def ackReplay (l : List TxFlit) (ack : Nat) : List TxFlit :=
  match l.findIdx? fun f => f.seq == ack with
  | some k => l.drop (k + 1)
  | none => l

/-- The acknowledgement and credit fields of a good flit (R740, R743, R746). -/
def State.takeAck (s : State) (p : Nat) (f : Flit) : State :=
  let q := s.port p
  let rest := ackReplay q.replay f.ack.toNat
  let req := (f.creditsReq + 16384 - q.seenReq) % 16384
  let rsp := (f.creditsRsp + 16384 - q.seenRsp) % 16384
  let t := s.modPort p fun r => { r with
    replay := rest, stuck := if rest.length < q.replay.length then 0 else r.stuck
    seenReq := f.creditsReq % 16384, seenRsp := f.creditsRsp % 16384 }
  let t := (t.setFld (F.HL_CREDITS_REQ_HELD p) (min 8192 (s.fld (F.HL_CREDITS_REQ_HELD p) + req))).setFld
    (F.HL_CREDITS_RSP_HELD p) (min 8192 (s.fld (F.HL_CREDITS_RSP_HELD p) + rsp))
  t.when f.nak fun u => u.resend p

/-- A flit arrives (R742 to R744). -/
def execFlitReceive (port : Fin 4) (f : Flit) (s : State) : Host.Outcome State Fault Refusal :=
  let p := port.val
  if s.linkState p ≠ lUP then done s
  else
    let t := (s.countSat (F.HL_FEC_CORR_CORRECTED p) f.corrected).when f.uncorrectable fun u =>
      u.countSat (F.HL_FEC_UNCORR_UNCORRECTED p)
    if f.uncorrectable || !f.crcOk || !f.formatOk then
      let u := t.when (!f.uncorrectable && !f.crcOk) fun v => v.countSat (F.HL_CRC_FAIL_CRC_FAIL p)
      done (u.when f.isData fun v => v.modPort p fun q => { q with nak := true })
    else
      let u := (t.takeAck p f).when f.isData fun v => v.actFlit p
      let q := u.port p
      let v := if f.isData && f.seq.toNat == (q.lastRx + 1) % 4096 then
          let (now, w) := u.newIds f.packets.length
          w.modPort p fun r => { r with
            lastRx := f.seq.toNat, nak := false, ingress := r.ingress ++ f.packets, since := r.since ++ now }
        else u
      done (v.pump p)

/-- ACK has not advanced for 2 µs with flits unacknowledged (R743). -/
def execReplayTimeout (port : Fin 4) (s : State) : Host.Outcome State Fault Refusal :=
  if s.linkState port = lUP then done (s.resend port) else done s

/-! ### Requests that arrive (R751 to R757) -/

/-- The local device address of a link address (R752), and whether its SPACE can name memory of the region. -/
def State.localAddr (s : State) (n : Nat) (p : LinkPacket) : Option Nat :=
  match p.space with
  | 1 => some (2 ^ 46 + p.addr)
  | 2 => some (2 ^ 47 + p.addr)
  | 3 => if s.split n then some (2 ^ 47 + 2 ^ 45 + p.addr) else none
  | _ => none

/-- Every byte of a range lies in the region's windows or external space (R753). -/
def State.inSpaces (s : State) (n a len : Nat) : Bool :=
  let last := a + len - 1
  spaceOf a == spaceOf last &&
    if spaceOf a = spShared then
      (granulesOf a len).all fun g => (s.windowOf n (offsetOf (max g a))).isSome && (s.windowOf n (offsetOf (min (g + 63) last))).isSome
    else s.extHolds n (offsetOf a) (offsetOf last)

/-- AOP and AFMT of a link atomic, and whether it returns the old value (R747). -/
def linkAop (p : LinkPacket) : Nat := p.op % 16
def linkAfmt (p : LinkPacket) : Nat := p.op / 16 % 8
def linkRet (p : LinkPacket) : Bool := p.op / 128 % 2 == 1

/-- The bytes a request covers. -/
def linkLen (p : LinkPacket) : Nat :=
  match p.kind with
  | .read => p.size
  | .write => p.bytes.length
  | _ => atomBytes (linkAfmt p)

/-- A request breaks the format of R747. -/
def linkMalformed (p : LinkPacket) : Bool :=
  p.malformed || match p.kind with
  | .read => p.addr % 16 ≠ 0 || p.size % 16 ≠ 0 || p.size == 0 || decide (256 < p.size)
  | .write => p.addr % 16 ≠ 0 || p.bytes.length % 16 ≠ 0 || p.bytes.isEmpty || decide (256 < p.bytes.length)
  | .atomic => p.bytes.length ≠ 16 || !atomDefined (linkAop p) (linkAfmt p) || p.addr % atomBytes (linkAfmt p) ≠ 0
  | _ => false

/-- The code of the ERROR a request is answered with (R756), if it is refused. -/
def State.refusal (s : State) (port : Nat) (p : LinkPacket) : Option Nat :=
  match s.portRegion port with
  | none => some 1
  | some n =>
    let st := s.rgnState n
    if st = rDRAINING ∨ st = rRESETTING then some 2
    else if st ≠ rREADY ∧ st ≠ rRUNNING ∧ st ≠ rFAULTED then some 1
    else
      match s.localAddr n p with
      | none => some 3
      | some a =>
        if 2 ^ 42 ≤ p.addr ∨ (linkLen p ≠ 0 ∧ !s.inSpaces n a (linkLen p)) then some 3
        else if p.kind ≠ .read ∧ (s.readOnlyAt n a ∨ s.readOnlyAt n (a + linkLen p - 1)) then some 4
        else if p.kind = .atomic ∧ (if s.exactAt n a then linkAop p ≠ 9 else linkAop p = 9) then some 5
        else if linkMalformed p then some 6 else none

/-- No packet that must be served first is in the ingress buffer: one of the same virtual channel for the same line, or
the same channel (R754). -/
def State.headOf (s : State) (port : Nat) (p : LinkPacket) : Bool :=
  let before := (s.port port).ingress.takeWhile (· != p)
  (s.port port).ingress.contains p && before.all fun q =>
    isResponse q.kind != isResponse p.kind ||
      (if isResponse p.kind then q.tag != p.tag
       else if p.kind = .message ∨ p.kind = .credit then q.kind != p.kind || q.chan != p.chan
       else q.kind == .message || q.kind == .credit || q.space != p.space || q.addr / 128 != p.addr / 128)

/-- When a packet of the ingress buffer came (R703), and whether it has the age term (R717). -/
def State.ingressSince (s : State) (port : Nat) (p : LinkPacket) : Nat :=
  (s.port port).since.getD ((s.port port).ingress.idxOf p) 0
def State.ingressAged (s : State) (port : Nat) (p : LinkPacket) : Bool := (s.port port).aged.contains (s.ingressSince port p)

/-- A packet leaves the ingress buffer: its link credits are returned (R746). -/
def State.leaveIngress (s : State) (port : Nat) (p : LinkPacket) : State :=
  let k := 1 + ceilDiv p.bytes.length 16
  s.modPort port fun q => { q with
    ingress := q.ingress.erase p
    since := q.since.eraseIdx (q.ingress.idxOf p)
    aged := eraseNat q.aged (s.ingressSince port p)
    held := q.held.erase p
    retReq := if isResponse p.kind then q.retReq else (q.retReq + k) % 16384
    retRsp := if isResponse p.kind then (q.retRsp + k) % 16384 else q.retRsp }

/-- A response to a partner's request. -/
def State.reply (s : State) (n port : Nat) (p : LinkPacket) (k : PacketKind) (bytes : List Byte) (poison : List Nat)
    (code : Nat) : State :=
  let (id, t) := s.newId
  t.toPort port { id := id, kind := k, region := n, src := .port port, dst := .port port, tag := p.tag
                  size := bytes.length, bytes := memAt 0 bytes, poison := poison, code := code }

/-- The way between a port and the home slice of an address on the other ring (R547): the region's plane between the slice of the
home's column beside the port's ring and the home slice, both ways. Empty where the home slice lies on the port's own ring; none
where a pair has no route. -/
def State.crossing (s : State) (n port a : Nat) : Option (List Nat) :=
  match (s.locate n a).slice with
  | none => some []
  | some i =>
    if ringOfSlice i = ringOfPort port then some []
    else
      let e := entryTile port (i % 16)
      match s.route n e (tileOfSlice i), s.route n (tileOfSlice i) e with
      | some r, some q => some (r.first ++ r.second ++ q.first ++ q.second)
      | _, _ => none

/-- Link traffic may cross to the home slice of an address and back now: the plane does not quiesce (R537), and no island on the
way is gated (R540). -/
def State.crosses (s : State) (n port a : Nat) : Bool :=
  match s.crossing n port a with
  | none => false
  | some way => way.isEmpty || (!s.bitAt F.DYN_QUIESCING_QUIESCING n && s.pathOpen way)

def State.rangeCrosses (s : State) (n port a len : Nat) : Bool := (linesOf a len).all fun p => s.crosses n port p.1

/-- The transfers of a served request and of its answer at the column of its home slice (R544, R547). -/
def State.linkTransfers (s : State) (n port a bytesIn bytesOut : Nat) (aged : Bool) : State :=
  let col := tileX (tileOfSlice (((s.locate n a).slice).getD 0))
  (s.transfer n cLINKIN (ringOfPort port) col bytesIn false aged).transfer n cLINKIN (ringOfPort port) col bytesOut true

/-- A READ from the partner (R756); none while it must wait. -/
def State.serveRead (s : State) (port : Nat) (p : LinkPacket) (n a : Nat) : Option State :=
  if s.rangeHeld n cLINKIN a p.size || !s.rangeCrosses n port a p.size then none
  else
    let (bytes, bad, u) := (s.leaveIngress port p).loadRange n a p.size cLINKIN
    some ((u.linkTransfers n port a 0 p.size (s.ingressAged port p)).reply n port p .data bytes (bad.map fun w => w - a / 8) 0)

/-- The bytes a WRITE packet writes, by offset: those its mask names in the first unit, and every later one (R747). -/
def linkWritten (p : LinkPacket) : Mem := (memAt 0 p.bytes).filter fun e => 16 ≤ e.1 || p.mask.getD e.1 false

/-- A WRITE from the partner: accepted at its home slice, with an ACK (R755). -/
def State.serveWrite (s : State) (port : Nat) (p : LinkPacket) (n a : Nat) : Option State :=
  if s.rangeShut n a p.bytes.length || !s.rangeCrosses n port a p.bytes.length then none
  else
    let u := (s.leaveIngress port p).when (!p.poison.isEmpty) fun v => v.launchPoison n
    let t := u.homeStore n a cLINKIN (linkWritten p) p.poison
    if u.writesTaken t then some ((t.linkTransfers n port a p.bytes.length 0 (s.ingressAged port p)).reply n port p .ack [] [] 0) else none

/-- An ATOMIC from the partner, performed at its home slice's atomic unit (R655, R667). -/
def State.serveAtomic (s : State) (port : Nat) (p : LinkPacket) (n a : Nat) : Option State :=
  let k := atomBytes (linkAfmt p)
  if s.pieceHeld n cLINKIN a k || !s.crosses n port a then none
  else
    let u := match s.locate n a with
      | .ext i line => (s.settleLine n i line true).fetchLine n i line (touched a k) cLINKIN
      | _ => s
    let x := fromBytes (p.bytes.take 8)
    let c := fromBytes (p.bytes.drop 8)
    let (old, bad, v) := (u.leaveIngress port p).performAtomic n a (linkAop p) (linkAfmt p) x c (!p.poison.isEmpty)
    let v := (v.when bad fun w => w.launchPoison n).linkTransfers n port a 16 (if linkRet p then k else 0) (s.ingressAged port p)
    some (if linkRet p then v.reply n port p .data (toBytes k old) (if bad then [0] else []) 0
          else v.reply n port p .ack [] [] 0)

/-- A request from the partner served at its home slice; none while it must wait. -/
def State.serve (s : State) (port : Nat) (p : LinkPacket) (n a : Nat) : Option State :=
  match p.kind with
  | .read => s.serveRead port p n a
  | .write => s.serveWrite port p n a
  | .atomic => s.serveAtomic port p n a
  | _ => none

/-- A request that waits at a port and could be served now: its region, and its address. -/
def State.servable (s : State) (port : Nat) (p : LinkPacket) : Option (Nat × Nat) :=
  if !s.headOf port p || !s.power.halves || (s.refusal port p).isSome then none
  else
    match s.portRegion port with
    | none => none
    | some n => (s.localAddr n p).bind fun a => if (s.serve port p n a).isSome then some (n, a) else none

/-- A request that refresh-only or feedback holds is counted, once (R722). -/
def State.holdIngress (s : State) (port : Nat) (p : LinkPacket) (n a : Nat) : State :=
  let l := match p.kind with
    | .read => s.heldFetches n cLINKIN a p.size
    | .atomic => s.heldFetches n cLINKIN a (atomBytes (linkAfmt p))
    | _ => s.untaken (s.homeStore n a cLINKIN (linkWritten p) p.poison)
  if l.isEmpty || (s.port port).held.contains p then s
  else (s.countHolds n cLINKIN l).modPort port fun q => { q with held := q.held ++ [p] }

/-! ### Messages and credits (R762 to R767) -/

/-- The IN channel of a port and LINK_CHANNEL in a region's image, with its place. -/
def State.inChannel (s : State) (n port ch : Nat) : Option (Nat × Channel) :=
  ((s.channels n).zipIdx.find? fun e => e.1.src == .link port ch).map fun e => (e.2, e.1)

/-- A message that a port has accepted goes by the ring to the column of its destination and by the plane from the slice there
(R547), with its source key. -/
def State.messageIn (s : State) (n port col : Nat) (dst : Agent) (k : Nat) (m : Message) (aged : Bool) : State :=
  (s.transfer n cLINKIN (ringOfPort port) col 16 false aged).sendMessage n (.slice (sliceOfTile (entryTile port col))) dst k m.key m.lo
    m.hi m.poisonLo m.poisonHi

/-- A MESSAGE from the partner (R766, R767): discarded when its epoch is not current or the region is not running;
otherwise it goes to its receive queue or combining input. -/
def execLinkMessage (port : Fin 4) (p : LinkPacket) (s : State) : Host.Outcome State Fault Refusal :=
  if p.kind ≠ .message ∨ !s.headOf port p then done s
  else
    let stale := (s.leaveIngress port p).countSat (F.HL_STALE_STALE_DROP port)
    match s.portRegion port with
    | none => done stale
    | some n =>
      match s.inChannel n port p.chan with
      | none => done stale
      | some (k, c) =>
        if s.rgnState n ≠ rRUNNING ∨ p.epoch ≠ smGet (s.port port).inEpoch 0 p.chan then done stale
        else
          let m : Message :=
            { lo := BitVec.ofNat 64 (fromBytes (p.bytes.take 8)), hi := BitVec.ofNat 64 (fromBytes (p.bytes.drop 8))
              poisonLo := p.poison.contains 0, poisonHi := p.poison.contains 1
              key := 2048 + 256 * port.val + p.chan, chan := k }
          match c.dst with
          | .core g _ => done ((s.leaveIngress port p).messageIn n port (tileX (tileOfCore g)) (.core g) k m (s.ingressAged port p))
          | .cq i _ _ => done ((s.leaveIngress port p).messageIn n port (i % 16) (.slice i) k m (s.ingressAged port p))
          | .link _ _ => done stale

/-- A CREDIT from the partner (R765): a SET sets count and epoch; a return of the epoch held adds. -/
def execLinkCredit (port : Fin 4) (p : LinkPacket) (s : State) : Host.Outcome State Fault Refusal :=
  if p.kind ≠ .credit ∨ !s.headOf port p then done s
  else
    done ((s.leaveIngress port p).modPort port fun q =>
      if p.set then { q with outCount := smPut q.outCount p.chan p.count, outEpoch := smPut q.outEpoch p.chan p.epoch }
      else if p.epoch = smGet q.outEpoch 0 p.chan then { q with outCount := smMod q.outCount 0 p.chan (· + p.count) }
      else q)

/-! ### Responses that arrive (R526, R755, R757) -/

/-- A response is delivered to the request it answers, by the ring (R547); one whose requester is gone is discarded. -/
def State.takeResponse (s : State) (port : Nat) (k : PacketKind) (p : LinkPacket) (a : Answer) : State :=
  if p.kind ≠ k ∨ !s.headOf port p then s
  else
    let t := s.leaveIngress port p
    match (t.port port).flight.find? fun q => q.id % 65536 == p.tag with
    | none => t
    | some q =>
      let u := t.modPort port fun r => { r with flight := r.flight.filter fun x => x.id != q.id }
      let v := match q.src with
        | .core _ | .dma _ _ =>
          u.transfer q.region cDYN (ringOfPort port) (tileX (agentTile q.src)) (if k = PacketKind.data then q.size else 0) false
        | .ring _ _ => u.countMod (F.ER_IN_TOTAL_VALUE (ringOfPort port))
        | _ => u
      v.answer q a

def execLinkData (port : Fin 4) (p : LinkPacket) (s : State) : Host.Outcome State Fault Refusal :=
  done (s.takeResponse port .data p { bytes := p.bytes, poison := p.poison })

def execLinkAck (port : Fin 4) (p : LinkPacket) (s : State) : Host.Outcome State Fault Refusal :=
  done (s.takeResponse port .ack p {})

/-- An ERROR is counted, and its requester receives poison, which is logged as received from outside (R757, R774). -/
def execLinkError (port : Fin 4) (p : LinkPacket) (s : State) : Host.Outcome State Fault Refusal :=
  if p.kind ≠ .error ∨ !s.headOf port p then done s
  else
    done (((s.takeResponse port .error p { bad := true }).countSat (F.HL_REFUSED_REFUSED_OUT port)).poisonIn kLinkIn port
      (s.portRegion port))

end Sys2Proof.Machine
end

