-- ==== Sys2Proof/Machine/EdgeRing.lean ====
section
/-! DEFINITION. The turns of the Edge Rings and of the ring engine (07_regions_and_crash_contract.md, R330, R331; 11, R543 to R547;
16, R702 to R704, R707): which transfer goes next, among what waits. -/

namespace Sys2Proof.Machine

/-! ### Device accesses of the ring engine -/

/-- Every slice of a range serves requests. -/
def State.rangeRuns (s : State) (n a len : Nat) : Bool :=
  spaceOf a == spLink || (s.power.halves && (granulesOf a len).all fun g =>
    match (s.locate n g).slice with
    | none => true
    | some i => s.sliceServes i)

/-- The ring engine's counting point of VF n in `State.stops` (R707). -/
def enginePoint (n : Nat) : Nat := 1000 + n

/-- The present block of a COPY, FILL or device SIGNAL: its source in device space, its destination in device space, its length. -/
structure Block where
  src : Option Nat := none
  dst : Option Nat := none
  len : Nat
  deriving DecidableEq, Repr

def Desc.block (x : Desc) : Option Block :=
  if x.type = tyCOPY then
    some { src := if (x.w 8).testBit 0 then some (x.q 2 + x.done) else none
           dst := if (x.w 8).testBit 1 then some (x.q 4 + x.done) else none
           len := blockLen (x.q 4 + x.done) (x.q 6 - x.done) }
  else if x.type = tyFILL then
    some { dst := if (x.w 8).testBit 1 then some (x.q 2 + x.done) else none, len := blockLen (x.q 2 + x.done) (x.q 4 - x.done) }
  else if x.type = tySIGNAL ∧ (x.w 6).testBit 1 then some { dst := some (x.q 2), len := 8 }
  else none

/-- A descriptor's present block could move now: VF n may make its host requests, the slices serve, the source's data is at hand or
can be read without waiting for a channel (R112, R711), and the destination takes it (R710). -/
def State.blockMoves (s : State) (n : Nat) (x : Desc) (b : Block) : Bool :=
  x.phase == .running && !x.linkWriting && (s.mayRequest (n + 1) || (b.dst.isSome && (b.src.isSome || x.type != tyCOPY)))
    && (b.src.all fun a => if spaceOf a = spLink then x.linkSent && x.linkWait == 0
        else s.rangeRuns n a b.len && !s.rangeHeld n cHOSTDMA a b.len)
    && b.dst.all fun a => spaceOf a == spLink || (s.rangeRuns n a b.len && !s.rangeShut n a b.len)

/-- The blocks of VF n that could move now, each with its descriptor. -/
def State.movingBlocks (s : State) (n : Nat) : List (Desc × Block) :=
  ((s.vf n).rings.flatMap Ring.descs).filterMap fun x => x.block.bind fun b => if s.blockMoves n x b then some (x, b) else none

/-- The highest priority among VF n's blocks at the ring engine (R702, R704, R707, R717). -/
def State.enginePriority (s : State) (n : Nat) : Nat :=
  s.priority n cHOSTDMA (s.inBudget n cHOSTDMA 1 (smGet s.stops 0 (enginePoint n))) false
    ((s.movingBlocks n).any fun e => e.1.promoted)

/-- It is VF n's turn at the ring engine (R302, R704): no VF whose block could move has a higher priority, nor one of equal priority
that comes before it in rotating order. -/
def State.engineTurn (s : State) (n : Nat) : Bool :=
  let after (m : Nat) : Nat := (m + 31 - s.engineVf) % 32
  (List.range 32).all fun m =>
    m == n || (s.movingBlocks m).isEmpty || s.enginePriority m < s.enginePriority n
      || (s.enginePriority m == s.enginePriority n && after n < after m)

/-! ### Turns of the rings (R330, R331, R703) -/

/-- A transfer that waits for a turn: its ring, whether outbound, its column, its region and class, since when it waits, and whether it
has the age term. -/
structure RingWait where
  ring : Nat
  out : Bool
  col : Nat
  region : Nat
  cls : Nat
  since : Nat
  promoted : Bool
  deriving DecidableEq, Repr

/-- The stop at which a block takes its turn: that of its source for data that leaves the device, else of its destination. -/
def State.blockStop (s : State) (n : Nat) (x : Desc) (b : Block) : Option RingWait :=
  let stop (a : Nat) (out : Bool) : Option RingWait :=
    if spaceOf a = spLink then none
    else (s.locate n a).slice.map fun i =>
      { ring := ringOfSlice i, out := out, col := i % 16, region := n, cls := cHOSTDMA, since := x.since, promoted := x.promoted }
  match b.src with
  | some a => stop a true <|> b.dst.bind fun d => stop d false
  | none => b.dst.bind fun d => stop d false

/-- The stop of a request from a tile to its port. -/
def edgeStop (q : Packet) : Option RingWait :=
  match q.src, q.dst with
  | .ring _ _, _ => none
  | a, .port p =>
    some { ring := ringOfPort p, out := true, col := tileX (agentTile a), region := q.region, cls := cDYN
           since := q.since, promoted := q.promoted }
  | _, _ => none

/-- The stop of a partner's request: the column of its home slice on the port's ring (R547). -/
def State.linkStop (s : State) (port : Nat) (p : LinkPacket) (n a : Nat) : RingWait :=
  { ring := ringOfPort port, out := false, col := ((s.locate n a).slice.getD 0) % 16, region := n, cls := cLINKIN
    since := s.ingressSince port p, promoted := s.ingressAged port p }

/-- Every transfer that waits for a turn: requests toward the ports, requests of the partners that could be served, and the blocks
of the VF that the ring engine serves. -/
def State.ringWaits (s : State) : List RingWait :=
  s.edge.filterMap edgeStop
    ++ ((List.range 4).flatMap fun p => (s.port p).ingress.filterMap fun k => (s.servable p k).map fun r => s.linkStop p k r.1 r.2)
    ++ (List.range 32).flatMap fun n =>
      let l := s.movingBlocks n
      if l.isEmpty || !s.engineTurn n then [] else l.filterMap fun e => s.blockStop n e.1 e.2

/-- The priority of a transfer at its column stop (R702, R703, R707, R717). -/
def State.stopPriority (s : State) (w : RingWait) : Nat :=
  s.priority w.region w.cls
    (s.inBudget w.region w.cls (s.columnCount w.region) (smGet s.stops 0 (8 * (4 * w.col + 2 * w.ring + bit w.out) + w.cls))) false
    w.promoted

/-- A transfer has the turn: its column is the first of its ring and direction, in rotation after the one that went last, with a
transfer waiting, columns without one yielding (R330); and no transfer of the column has a higher priority, or the same and a greater
age (R703). Each of a region's k columns thus has its place in every rotation of 16 (R331). -/
def State.stopTurn (s : State) (w : RingWait) : Bool :=
  let last := smGet s.ringTurn 15 (2 * w.ring + bit w.out)
  let after (c : Nat) : Nat := (c + 15 - last) % 16
  s.ringWaits.all fun x =>
    x.ring != w.ring || x.out != w.out || after w.col < after x.col
      || (x.col == w.col && (s.stopPriority x < s.stopPriority w || (s.stopPriority x == s.stopPriority w && w.since ≤ x.since)))

/-! ### Requests toward the ports (R544, R547, R796) -/

/-- A core's write or non-returning atomic is the port's now (R634). -/
def State.portAccepts (s : State) (q : Packet) : State :=
  if q.kind = .write ∨ (q.kind = .atomic ∧ !q.ret) then
    overList q.contributors s fun t g => t.modCore g fun c => { c with unacked := c.unacked - 1, unackedLink := c.unackedLink + 1 }
  else s

/-- A request's turn at its column stop (R330, R703). -/
def State.edgeTurn (s : State) (q : Packet) : Bool := (edgeStop q).all s.stopTurn

/-- A request reaches its port's stop, in its turn. With an uncorrectable header the transfer is discarded, and its requester is
answered with poison (R796). -/
def execEdgeRingTransfer (id : Nat) (headerError : Bool) (s : State) : Host.Outcome State Fault Refusal :=
  match s.edge.find? fun q => q.id == id with
  | none => done s
  | some q =>
    match q.dst with
    | .port p =>
      if !s.power.halves || !s.edgeTurn q then done s
      else
        let e := ringOfPort p
        let left : State := { s with edge := s.edge.filter fun x => x.id != id }
        let t := match q.src with
          | .ring _ _ => left.countMod (F.ER_OUT_TOTAL_VALUE e)
          | _ => (left.transfer q.region cDYN e (tileX (agentTile q.src)) q.size true q.promoted).portAccepts q
        if headerError then
          done ((t.integRaise { cls := 4, kind := kEdgeRing, unit := e, region := some q.region } F.INT_INTEG_STATUS_UE).answer
            q { bad := true })
        else done (t.toPort p q)
    | _ => done s

/-! ### Age (R717) -/

/-- A request at a column stop on its way to a port gains the age term, with those that came before it to the same stop: they have waited
at least as long. -/
def State.ageEdge (s : State) (q : Packet) : State :=
  match edgeStop q with
  | none => s
  | some w =>
    let aging (x : Packet) : Bool := !x.promoted && x.since ≤ q.since && x.region == q.region
      && (edgeStop x).any fun v => v.ring == w.ring && v.col == w.col
    let t := s.countSat (F.RGN_AGE_PROMOTED_PROMOTED q.region) (s.edge.countP aging)
    { t with edge := s.edge.map fun x => if aging x then { x with promoted := true } else x }

/-- A request in a port's ingress buffer gains the age term. -/
def State.ageIngress (s : State) (port place : Nat) : State :=
  let q := s.port port
  match q.since[place]?, q.ingress[place]?, s.portRegion port with
  | some now, some p, some n =>
    if isResponse p.kind || q.aged.contains now then s
    else (s.modPort port fun r => { r with aged := insertNat r.aged now }).countSat (F.RGN_AGE_PROMOTED_PROMOTED n)
  | _, _, _ => s

/-- A descriptor's block at the ring engine gains the age term. -/
def State.ageBlock (s : State) (d : DescRef) : State :=
  match s.desc? d with
  | none => s
  | some x =>
    if x.phase == .running && x.block.isSome && !x.linkWriting && !x.promoted then
      (s.modDesc d.vf d.ring x.index fun y => { y with promoted := true }).countSat (F.RGN_AGE_PROMOTED_PROMOTED d.vf)
    else s

/-- A request has waited longer than AGE_LIMIT_US and gains the age term, at whichever point it waits (R717). -/
def execAgePromotion (who : Aging) (s : State) : Host.Outcome State Fault Refusal :=
  match who with
  | .request id =>
    match s.hreqs.find? fun r => r.id == id && !r.granted && !r.promoted with
    | none => done s
    | some r => done ((s.modReq id fun q => { q with promoted := true }).countSat (F.RGN_AGE_PROMOTED_PROMOTED r.region))
  | .edge id =>
    match s.edge.find? fun q => q.id == id && !q.promoted with
    | none => done s
    | some q => done (s.ageEdge q)
  | .ingress port place => done (s.ageIngress port place)
  | .block d => done (s.ageBlock d)

/-! ### Requests of the partners (R751 to R757) -/

/-- A packet of a kind is refused with ERROR (R756, R757), or served in its turn (R330); one that must wait stays in the ingress
buffer. -/
def State.serveLink (s : State) (port : Nat) (k : PacketKind) (p : LinkPacket) : State :=
  if p.kind ≠ k ∨ !s.headOf port p ∨ !s.power.halves then s
  else
    match s.refusal port p with
    | some code =>
      ((s.leaveIngress port p).countSat (F.HL_REFUSED_REFUSED_IN port)).reply ((s.portRegion port).getD 0) port p .error [] []
        code
    | none =>
      match s.portRegion port with
      | none => s
      | some n =>
        match s.localAddr n p with
        | none => s
        | some a =>
          match s.serve port p n a with
          | none => s.holdIngress port p n a
          | some t => if s.stopTurn (s.linkStop port p n a) then t else s

/-- A READ from the partner (R756). -/
def execLinkRead (port : Fin 4) (p : LinkPacket) (s : State) : Host.Outcome State Fault Refusal :=
  done (s.serveLink port .read p)

/-- A WRITE from the partner (R755). -/
def execLinkWrite (port : Fin 4) (p : LinkPacket) (s : State) : Host.Outcome State Fault Refusal :=
  done (s.serveLink port .write p)

/-- An ATOMIC from the partner (R667). -/
def execLinkAtomic (port : Fin 4) (p : LinkPacket) (s : State) : Host.Outcome State Fault Refusal :=
  done (s.serveLink port .atomic p)

end Sys2Proof.Machine
end

