-- ==== Sys2Proof/Machine/Descriptors.lean ====
section
/-! DEFINITION. What the descriptors other than LOAD_SCHEDULE and LAUNCH do (06_rings_and_doorbells.md, R289 to R299; 05,
R230 to R236; 16, R704, R707, R721). A COPY or FILL moves one 256-byte block a command. -/

namespace Sys2Proof.Machine

/-! ### Device accesses of the ring engine -/

/-- Bytes that the ring engine moves for VF n, counted in HOSTDMA (R707, R722). -/
def State.countEngine (s : State) (n len : Nat) (promoted : Bool := false) : State :=
  let used := smGet s.stops 0 (enginePoint n)
  let t := s.countGrant n cHOSTDMA 1 used false promoted
  { t with stops := smPut t.stops (enginePoint n) (used + len) }

/-- The device side of a block is counted: at the ring engine, and at the column stops of its slices (R707, R722). -/
def State.countBlock (s : State) (n a len : Nat) (out promoted : Bool) : State :=
  let t := s.countEngine n len promoted
  let homes := ((granulesOf a len).filterMap fun g => (t.locate n g).slice).eraseDups
  overList homes t fun u i =>
    u.transfer n cHOSTDMA (ringOfSlice i) (i % 16)
      (((List.range len).countP fun k => (t.locate n ((a + k) / 64 * 64)).slice == some i)) out promoted

/-- The aligned 8-byte destination words that bytes at the given offsets lie in (R235). -/
def wordsAt (dst : Nat) (offs : List Nat) : List Nat := (offs.map fun k => (dst + k) / 8).eraseDups

/-- The words of a copy's destination that take a byte of a poisoned source word. -/
def copyBad (bad : List Nat) (src dst len : Nat) : List Nat :=
  (((List.range len).filter fun k => bad.contains ((src + k) / 8)).map fun k => (dst + k) / 8).eraseDups

/-- Link-window packets of a descriptor are handed to the port (R754). -/
def State.sendLink (s : State) (n i : Nat) (index : Word) (l : List Packet) (f : Desc → Desc) : State :=
  let t := s.modDesc n i index fun d => { f d with linkWait := l.length }
  overList l t fun u p =>
    let (id, v) := u.newId
    v.toEdge { p with id := id, key := index.toNat }

/-- READ packets of a range: each of at most 256 bytes from a 16-byte boundary (R747). -/
def linkReads (n i a len : Nat) : List Packet :=
  let first := min len (256 - a % 16)
  let base : Packet := { id := 0, kind := .read, region := n, src := .ring n i, dst := .port (linkPort a) }
  { base with addr := a, size := first } ::
    if first < len then [{ base with addr := a + first, size := len - first }] else []

/-- WRITE packets of a range. -/
def linkWrites (n i a : Nat) (bytes : List Byte) (bad : List Nat) : List Packet :=
  (piecesOf (memAt a bytes)).map fun p =>
    { id := 0, kind := .write, region := n, src := .ring n i, dst := .port (linkPort a), addr := p.addr
      size := ((p.bytes.getLast?.map (·.1)).getD 0) + 1, bytes := p.bytes
      poison := (bad.filter fun w => p.addr ≤ 8 * w + 7 && 8 * w < p.addr + 256).map fun w => w - p.addr / 8 }

/-! ### Blocks (R291) -/

/-- A block of a COPY or FILL has been written: RESULT counts it, the next one is at the ring engine now (R703), and the last one finishes
the descriptor (R297). -/
def State.blockDone (s : State) (n i : Nat) (index : Word) (len : Nat) : State :=
  let (now, t) := s.newId
  t.modDesc n i index fun d =>
    let total := if d.type = tyCOPY then d.q 6 else d.q 4
    let d' : Desc := { d with
      done := d.done + len
      result := d.done + len
      linkSent := false
      linkGot := {}
      linkWriting := false
      held := false
      since := now
      promoted := false }
    if total ≤ d.done + len then { d' with phase := .finished, status := stSUCCESS } else d'

/-- A block that waits: what refresh-only or feedback holds of it is counted, once, and noted in its descriptor (R112, R711, R721,
R722). -/
def State.holdBlock (s : State) (n i : Nat) (index : Word) (l : List (Nat × Bool)) : State :=
  match (s.ring n i).descs.find? fun d => d.index == index with
  | none => s
  | some d =>
    if d.held || l.isEmpty then s
    else (s.countHolds n cHOSTDMA l).modDesc n i index fun x => { x with held := true, delayedQueue := true }

/-- The fetches of the present block's source that refresh-only or feedback holds. -/
def State.blockHolds (s : State) (n : Nat) (x : Desc) : List (Nat × Bool) :=
  match x.block.bind Block.src with
  | some a => if spaceOf a = spLink then [] else s.heldFetches n cHOSTDMA a ((x.block.map Block.len).getD 0)
  | none => []

/-- The present block moves in this step: it can, and the ring engine and the ring have their turn for it (R302, R330, R704). -/
def State.blockGoes (s : State) (n : Nat) (x : Desc) : Bool :=
  match x.block with
  | none => true
  | some b => s.blockMoves n x b && s.engineTurn n && (s.blockStop n x b).all s.stopTurn

/-- What a step that moved a block of the descriptor left, if the channels took its writes (R612, R710); else the block waits. -/
def State.taken (s t : State) (n i : Nat) (index : Word) : State :=
  if s.writesTaken t then t else s.holdBlock n i index (s.untaken t)

/-- DELAYED_BUDGET of a descriptor whose region's counter has moved on (R721). -/
def State.noteDelayed (s : State) (before n i : Nat) (index : Word) : State :=
  if s.fld (F.RGN_DLY_BUDGET_DELAYED_BUDGET n cHOSTDMA) = before then s
  else s.modDesc n i index fun d => { d with delayedBudget := true }

/-- Bytes written at a block's destination, which ends VF n's turn at the ring engine (R302, R704): into host memory, into the device, or handed to a link port. -/
def State.writeBlock (s : State) (n i : Nat) (x : Desc) (dev : Bool) (dst : Nat) (bytes : List Byte) (bad : List Nat) :
    State :=
  let index := x.index
  let t := ({ s with engineVf := n } : State).when (!bad.isEmpty) fun u => u.modDesc n i index fun d => { d with poison := true }
  if !dev then (t.hostWriteOut (n + 1) dst bytes bad).blockDone n i index bytes.length
  else if spaceOf dst = spLink then
    t.sendLink n i index (linkWrites n i dst bytes bad) fun d => { d with linkWriting := true }
  else ((t.countBlock n dst bytes.length false x.promoted).storeRange n dst cHOSTDMA bytes bad).blockDone n i index bytes.length

/-- The source of a COPY's present block, read: its bytes, the destination words that take a byte of a poisoned source word (R235),
and the state after. -/
def State.readBlock (s : State) (n : Nat) (x : Desc) (data : HostData) (src dst k : Nat) : List Byte × List Nat × State :=
  if !(x.w 8).testBit 0 then
    let bad := data.poisoned.filter (· < k)
    ((List.range k).map fun j => data.bytes.getD j (Config.hostByte (src + j)), wordsAt dst bad,
      (s.hostReadOut (n + 1) src k).when (!bad.isEmpty) fun v => v.hostPoison n)
  else if spaceOf src = spLink then
    let r := x.linkGot.read s.draws src k
    (r.1, copyBad (r.2.map (src / 8 + ·)) src dst k, { s with draws := s.draws + 1 })
  else
    let r := (s.countBlock n src k true x.promoted).loadRange n src k cHOSTDMA
    (r.1, copyBad r.2.1 src dst k, r.2.2)

/-- COPY (R289, R291, R297): one block, or a step of a block that passes a link port. -/
def execCopy (d : DescRef) (data : HostData) (s : State) : Host.Outcome State Fault Refusal :=
  match s.begin d tyCOPY with
  | none => done s
  | some (x, t) =>
    let n := d.vf.val
    let i := d.ring.val
    let src := x.q 2 + x.done
    let dst := x.q 4 + x.done
    let k := blockLen dst (x.q 6 - x.done)
    let before := t.fld (F.RGN_DLY_BUDGET_DELAYED_BUDGET n cHOSTDMA)
    if x.linkWriting then done (if x.linkWait = 0 then t.blockDone n i x.index k else t)
    else if (x.w 8).testBit 0 && spaceOf src == spLink && !x.linkSent then
      done (t.sendLink n i x.index (linkReads n i src k) fun y => { y with linkSent := true })
    else if !t.blockGoes n x then done (t.holdBlock n i x.index (t.blockHolds n x))
    else
      let r := t.readBlock n x data src dst k
      done (t.taken ((r.2.2.writeBlock n i x ((x.w 8).testBit 1) dst r.1 r.2.1).noteDelayed before n i x.index) n i x.index)

/-- FILL (R289, R291): byte j of the destination takes byte j mod 8 of PATTERN. -/
def execFill (d : DescRef) (s : State) : Host.Outcome State Fault Refusal :=
  match s.begin d tyFILL with
  | none => done s
  | some (x, t) =>
    let n := d.vf.val
    let i := d.ring.val
    let dst := x.q 2 + x.done
    let k := blockLen dst (x.q 4 - x.done)
    let pat := toBytes 8 (x.q 6)
    let before := t.fld (F.RGN_DLY_BUDGET_DELAYED_BUDGET n cHOSTDMA)
    if x.linkWriting then done (if x.linkWait = 0 then t.blockDone n i x.index k else t)
    else if !t.blockGoes n x then done t
    else
      done (t.taken ((t.writeBlock n i x ((x.w 8).testBit 1) dst ((List.range k).map fun j => pat.getD ((x.done + j) % 8) 0)
        []).noteDelayed before n i x.index) n i x.index)

/-- NOP (R289): it completes at once. -/
def execNopDescriptor (d : DescRef) (s : State) : Host.Outcome State Fault Refusal :=
  match s.begin d tyNOP with
  | none => done s
  | some (x, t) => done (t.finish d.vf d.ring x.index stSUCCESS 0)

/-! ### Waits (R289, R296 to R298) -/

/-- The condition of a WAIT (R290): 0 EQ, 1 NE, 2 GE. -/
def waitHolds (cond word value mask : Nat) : Bool :=
  let a := word &&& mask
  let b := value &&& mask
  if cond = 0 then a == b else if cond = 1 then a != b else b ≤ a

/-- WAIT: the host word that a poll of the VF reads. -/
def execWait (d : DescRef) (value : BitVec 64) (s : State) : Host.Outcome State Fault Refusal :=
  match s.begin d tyWAIT with
  | none => done s
  | some (x, t) =>
    if !t.polls d.vf then done t
    else
      let u := (t.hostReadOut (d.vf + 1) (x.q 2) 8).modDesc d.vf d.ring x.index fun y => { y with result := value.toNat }
      done (u.when (waitHolds (x.w 8 % 2 ^ 8) value.toNat (x.q 4) (x.q 6)) fun v =>
        v.finish d.vf d.ring x.index stSUCCESS 0)

/-- A WAIT's or BARRIER's timeout expires: 0 means none. -/
def State.timeOut (s : State) (d : DescRef) (type : Nat) : State :=
  match s.desc? d with
  | none => s
  | some x =>
    if x.type = type ∧ x.phase = .running ∧ x.w (if type = tyWAIT then 9 else 3) ≠ 0 then
      (s.modVf d.vf fun v => { v with barriers := v.barriers.filter fun b => !(b.ring == d.ring.val && b.index == d.index) }).finish
        d.vf d.ring x.index stTIMEOUT 0
    else s

/-- WAIT_TIMEOUT. -/
def execWaitTimeout (d : DescRef) (s : State) : Host.Outcome State Fault Refusal := done (s.timeOut d tyWAIT)

/-- BARRIER_TIMEOUT. -/
def execBarrierTimeout (d : DescRef) (s : State) : Host.Outcome State Fault Refusal := done (s.timeOut d tyBARRIER)

/-- The descriptors a FENCE waits for (R296): every earlier one of its ring; of scope VF also those of the other rings
fetched before it started. Those after it on its own ring cannot start before it (R300). -/
def State.fenceClear (s : State) (n i : Nat) (x : Desc) : Bool :=
  ((s.ring n i).descs.takeWhile fun d => d.index != x.index).isEmpty
    && (x.w 2 == 0 || ((s.vf n).rings.zipIdx.all fun e => e.2 == i || e.1.descs.all fun d => decide (x.order < d.fetchedAs)))

/-- FENCE (R296). -/
def execFenceDescriptor (d : DescRef) (s : State) : Host.Outcome State Fault Refusal :=
  match s.begin d tyFENCE with
  | none => done s
  | some (x, t) => done (t.when (t.fenceClear d.vf d.ring x) fun u => u.finish d.vf d.ring x.index stSUCCESS 0)

/-- A ring arrives at a BARRIER (R298): the COUNT in force is that of the first arrival. -/
def State.arriveBarrier (s : State) (n i : Nat) (x : Desc) : State :=
  let id := bitsOf (x.w 2) 0 4
  let count := bitsOf (x.w 2) 8 4
  let here := (s.vf n).barriers.filter fun b => b.id == id
  let inForce := (here.head?.map BarrierWait.count).getD count
  if inForce ≠ count then s.finish n i x.index stBARRIER_MISMATCH 0
  else if here.length + 1 < count then
    s.modVf n fun v => { v with barriers := v.barriers ++ [⟨id, count, i, x.index⟩] }
  else
    let t := overList here (s.finish n i x.index stSUCCESS 0) fun u b => u.finish n b.ring b.index stSUCCESS 0
    t.modVf n fun v => { v with barriers := v.barriers.filter fun b => b.id != id }

/-- BARRIER (R298). -/
def execBarrier (d : DescRef) (s : State) : Host.Outcome State Fault Refusal :=
  match s.begin d tyBARRIER with
  | none => done s
  | some (x, t) => done (t.when ((s.desc? d).map Desc.phase != some .running) fun u => u.arriveBarrier d.vf d.ring x)

/-! ### Signal, query, telemetry (R289, R299) -/

/-- SIGNAL (R299): one 8-byte write of VALUE. -/
def execSignal (d : DescRef) (s : State) : Host.Outcome State Fault Refusal :=
  match s.begin d tySIGNAL with
  | none => done s
  | some (x, t) =>
    let n := d.vf.val
    let i := d.ring.val
    let a := x.q 2
    let bytes := toBytes 8 (x.q 4)
    let before := t.fld (F.RGN_DLY_BUDGET_DELAYED_BUDGET n cHOSTDMA)
    if !(x.w 6).testBit 1 then
      if t.mayRequest (n + 1) then done ((t.hostWriteOut (n + 1) a bytes).finish n i x.index stSUCCESS 0) else done t
    else if x.linkWriting then done (if x.linkWait = 0 then t.finish n i x.index stSUCCESS 0 else t)
    else if !t.blockGoes n x then done t
    else if spaceOf a = spLink then
      done (({ t with engineVf := n } : State).sendLink n i x.index (linkWrites n i a bytes []) fun y =>
        { y with linkWriting := true })
    else
      done (t.taken ((((({ t with engineVf := n } : State).countBlock n a 8 false x.promoted).storeRange n a cHOSTDMA bytes []).noteDelayed before n i x.index).finish n i
        x.index stSUCCESS 0) n i x.index)

/-- Registers copied in ascending order, as bytes. -/
def State.copyRegs (s : State) (base bytes : Nat) : List Byte :=
  (List.range (bytes / 4)).flatMap fun k => toBytes 4 (s.word (base + 4 * k) (coldWord (base + 4 * k)))

/-- The block a QUERY copies: the region view, the delay counters, the ring setup page. -/
def State.queryBlock (s : State) (n select : Nat) : List Byte :=
  if select = 0 then s.copyRegs (R.RGN_STATE n) 256
  else if select = 1 then s.copyRegs (R.RGN_DLY_SERVED n 0) 128
  else s.copyRegs (R.RING_DB_BASE_LO n) 320

/-- QUERY. -/
def execQuery (d : DescRef) (s : State) : Host.Outcome State Fault Refusal :=
  match s.begin d tyQUERY with
  | none => done s
  | some (x, t) =>
    if t.mayRequest (d.vf + 1) then
      done ((t.hostWriteOut (d.vf + 1) (x.q 2) (t.queryBlock d.vf (x.w 4))).finish d.vf d.ring x.index stSUCCESS 0)
    else done t

/-- TELEMETRY_SNAPSHOT: the record that the Vesper tick filled is written. -/
def execTelemetrySnapshot (d : DescRef) (s : State) : Host.Outcome State Fault Refusal :=
  match s.begin d tySNAPSHOT with
  | none => done s
  | some (x, t) =>
    if x.snap ≠ [] ∧ t.mayRequest (d.vf + 1) then
      done ((t.hostWriteOut (d.vf + 1) (x.q 2) x.snap).finish d.vf d.ring x.index stSUCCESS 0)
    else done t

end Sys2Proof.Machine
end

