-- ==== Sys2Proof/Machine/Signature.lean ====
section
/-! DEFINITION. The signature of a schedule image (10_scheduled_plane.md, R508, R509): SHA-384 (NIST FIPS 180-4) and ECDSA on the
curve P-384 (NIST FIPS 186-5), the standards that R508 names. -/

namespace Sys2Proof.Machine

/-- The value of bytes, the most significant first. -/
def bigEndian (l : List Byte) : Nat := l.foldl (fun v x => 256 * v + x.toNat) 0

/-! ### SHA-384 -/

/-- The round constants. -/
def shaConstants : List Nat :=
  [0x428a2f98d728ae22, 0x7137449123ef65cd, 0xb5c0fbcfec4d3b2f, 0xe9b5dba58189dbbc, 0x3956c25bf348b538,
   0x59f111f1b605d019, 0x923f82a4af194f9b, 0xab1c5ed5da6d8118, 0xd807aa98a3030242, 0x12835b0145706fbe,
   0x243185be4ee4b28c, 0x550c7dc3d5ffb4e2, 0x72be5d74f27b896f, 0x80deb1fe3b1696b1, 0x9bdc06a725c71235,
   0xc19bf174cf692694, 0xe49b69c19ef14ad2, 0xefbe4786384f25e3, 0x0fc19dc68b8cd5b5, 0x240ca1cc77ac9c65]
  ++ [0x2de92c6f592b0275, 0x4a7484aa6ea6e483, 0x5cb0a9dcbd41fbd4, 0x76f988da831153b5, 0x983e5152ee66dfab,
   0xa831c66d2db43210, 0xb00327c898fb213f, 0xbf597fc7beef0ee4, 0xc6e00bf33da88fc2, 0xd5a79147930aa725,
   0x06ca6351e003826f, 0x142929670a0e6e70, 0x27b70a8546d22ffc, 0x2e1b21385c26c926, 0x4d2c6dfc5ac42aed,
   0x53380d139d95b3df, 0x650a73548baf63de, 0x766a0abb3c77b2a8, 0x81c2c92e47edaee6, 0x92722c851482353b]
  ++ [0xa2bfe8a14cf10364, 0xa81a664bbc423001, 0xc24b8b70d0f89791, 0xc76c51a30654be30, 0xd192e819d6ef5218,
   0xd69906245565a910, 0xf40e35855771202a, 0x106aa07032bbd1b8, 0x19a4c116b8d2d0c8, 0x1e376c085141ab53,
   0x2748774cdf8eeb99, 0x34b0bcb5e19b48a8, 0x391c0cb3c5c95a63, 0x4ed8aa4ae3418acb, 0x5b9cca4f7763e373,
   0x682e6ff3d6b2b8a3, 0x748f82ee5defb2fc, 0x78a5636f43172f60, 0x84c87814a1f0ab72, 0x8cc702081a6439ec]
  ++ [0x90befffa23631e28, 0xa4506cebde82bde9, 0xbef9a3f7b2c67915, 0xc67178f2e372532b, 0xca273eceea26619c,
   0xd186b8c721c0c207, 0xeada7dd6cde0eb1e, 0xf57d4f7fee6ed178, 0x06f067aa72176fba, 0x0a637dc5a2c898a6,
   0x113f9804bef90dae, 0x1b710b35131c471b, 0x28db77f523047d84, 0x32caab7b40c72493, 0x3c9ebe0a15c9bebc,
   0x431d67c49c100d4c, 0x4cc5d4becb3e42b6, 0x597f299cfc657e2a, 0x5fcb6fab3ad6faec, 0x6c44198c4a475817]

/-- The initial hash value. -/
def shaInitial : List Nat :=
  [0xcbbb9d5dc1059ed8, 0x629a292a367cd507, 0x9159015a3070dd17, 0x152fecd8f70e5939, 0x67332667ffc00b31,
   0x8eb44a8768581511, 0xdb0c2e0d64f98fa7, 0x47b5481dbefa4fa4]

/-- A 64-bit word rotated right. -/
def rotr64 (x k : Nat) : Nat := (x / 2 ^ k ||| x * 2 ^ (64 - k)) % 2 ^ 64

/-- The message padded to a multiple of 128 bytes: a one bit, zeros, and its length in bits. -/
def shaPad (m : List Byte) : List Byte :=
  let len := 8 * m.length
  m ++ [0x80] ++ List.replicate ((239 - m.length % 128) % 128) 0
    ++ (List.range 16).map fun i => BitVec.ofNat 8 (len / 256 ^ (15 - i))

/-- The message schedule of a block, extended one word at a time from its 16 words; the newest first. -/
def shaSchedule : Nat → List Nat → List Nat
  | 0, w => w
  | k + 1, w =>
    let a := w.getD 14 0
    let b := w.getD 1 0
    let s0 := rotr64 a 1 ^^^ rotr64 a 8 ^^^ a / 2 ^ 7
    let s1 := rotr64 b 19 ^^^ rotr64 b 61 ^^^ b / 2 ^ 6
    shaSchedule k ((s1 + w.getD 6 0 + s0 + w.getD 15 0) % 2 ^ 64 :: w)

/-- One round on the eight working variables. -/
def shaRound (v : List Nat) (kw : Nat × Nat) : List Nat :=
  match v with
  | [a, b, c, d, e, f, g, h] =>
    let ch := (e &&& f) ^^^ ((2 ^ 64 - 1 - e) &&& g)
    let maj := (a &&& b) ^^^ (a &&& c) ^^^ (b &&& c)
    let t1 := h + (rotr64 e 14 ^^^ rotr64 e 18 ^^^ rotr64 e 41) + ch + kw.1 + kw.2
    let t2 := (rotr64 a 28 ^^^ rotr64 a 34 ^^^ rotr64 a 39) + maj
    [(t1 + t2) % 2 ^ 64, a, b, c, (d + t1) % 2 ^ 64, e, f, g]
  | _ => v

/-- The hash value after a block. -/
def shaBlock (h : List Nat) (block : List Byte) : List Nat :=
  let w := ((List.range 16).map fun i => bigEndian ((block.drop (8 * i)).take 8)).reverse
  let v := (shaConstants.zip (shaSchedule 64 w).reverse).foldl shaRound h
  (h.zip v).map fun p => (p.1 + p.2) % 2 ^ 64

/-- SHA-384: the 48 bytes of the digest. -/
def sha384 (m : List Byte) : List Byte :=
  let p := shaPad m
  let h := (List.range (p.length / 128)).foldl (fun h i => shaBlock h ((p.drop (128 * i)).take 128)) shaInitial
  (h.take 6).flatMap fun x => (List.range 8).map fun i => BitVec.ofNat 8 (x / 256 ^ (7 - i))

/-! ### ECDSA on P-384 -/

/-- The field's prime; the curve's coefficient b; the base point; its order. -/
def p384 : Nat := 2 ^ 384 - 2 ^ 128 - 2 ^ 96 + 2 ^ 32 - 1
def b384 : Nat :=
  0xb3312fa7e23ee7e4988e056be3f82d19181d9c6efe8141120314088f5013875ac656398d8a2ed19d2a85c8edd3ec2aef
def g384 : Nat × Nat :=
  (0xaa87ca22be8b05378eb1c71ef320ad746e1d3b628ba79b9859f741e082542a385502f25dbf55296c3a545e3872760ab7,
   0x3617de4a96262c6f5d9e98bf9292dc29f8f41dbd289a147ce9da3113b5f0b8c00a60b1ce1d7e819d7a431d7c90ea0e5f)
def n384 : Nat :=
  0xffffffffffffffffffffffffffffffffffffffffffffffffc7634d81f4372ddf581a0db248b0a77aecec196accc52973

/-- A power modulo m, for exponents below 2 ^ 384. -/
def powMod (m b e : Nat) : Nat :=
  (List.range 384).foldl (fun r i => let s := r * r % m; if e.testBit (383 - i) then s * b % m else s) 1

/-- The inverse modulo a prime. -/
def invMod (m a : Nat) : Nat := powMod m (a % m) (m - 2)

/-- A difference in the field. -/
def fieldSub (a b : Nat) : Nat := (a + p384 - b % p384) % p384

/-- The sum of two points; none is the point at infinity. -/
def pointAdd (p q : Option (Nat × Nat)) : Option (Nat × Nat) :=
  match p, q with
  | none, q => q
  | p, none => p
  | some (x1, y1), some (x2, y2) =>
    if x1 = x2 ∧ (y1 + y2) % p384 = 0 then none
    else
      let l := if x1 = x2 then fieldSub (3 * x1 * x1) 3 * invMod p384 (2 * y1) % p384
        else fieldSub y2 y1 * invMod p384 (fieldSub x2 x1) % p384
      let x := fieldSub (l * l) (x1 + x2)
      some (x, fieldSub (l * fieldSub x1 x) y1)

/-- A multiple of a point, for factors below 2 ^ 384. -/
def pointMul (k : Nat) (p : Nat × Nat) : Option (Nat × Nat) :=
  (List.range 384).foldl (fun r i => let d := pointAdd r r; if k.testBit (383 - i) then pointAdd d (some p) else d) none

/-- A point of the curve. -/
def onCurve (x y : Nat) : Bool := x < p384 && y < p384 && y * y % p384 == (fieldSub (x * x * x) (3 * x) + b384) % p384

/-- The signature (r, s) of a digest verifies with a public key. -/
def ecdsaVerifies (x y r s digest : Nat) : Bool :=
  onCurve x y && 1 ≤ r && r < n384 && 1 ≤ s && s < n384 &&
    let w := invMod n384 s
    match pointAdd (pointMul (digest * w % n384) g384) (pointMul (r * w % n384) (x, y)) with
    | none => false
    | some q => q.1 % n384 == r

end Sys2Proof.Machine
end

