-- ==== Sys2Proof/Machine/Images.lean ====
section
/-! DEFINITION. Schedule images (10_scheduled_plane.md, R482 to R517; 09, R415, R416; 12, R555 to R559, R579 to R581; 13,
R626, R627; 15, R679, R680; 17, R762, R763): the format, the fourteen load checks, LOAD_SCHEDULE and the rebuild. -/

namespace Sys2Proof.Machine

/-! ### Reading an image -/

/-- The little-endian value of `n` bytes at an offset. -/
def leAt (b : List Byte) (off n : Nat) : Nat := fromBytes ((b.drop off).take n)

/-- The bytes at an offset. -/
def bytesAt (b : List Byte) (off n : Nat) : List Byte := (b.drop off).take n

/-- Every byte of a range is 0. -/
def zerosAt (b : List Byte) (off n : Nat) : Bool := (bytesAt b off n).all (· == 0)

/-- The `len` bytes a host read returns from an address: those the command carries, then unknown ones. -/
def hostBytes (addr len : Nat) (b : List Byte) : List Byte :=
  (b ++ (List.range (len - b.length)).map fun i => Config.hostByte (addr + b.length + i)).take len

/-- One bit of CRC-32C, reflected (R506). -/
def crcBit (c : Nat) : Nat := if c % 2 = 1 then c / 2 ^^^ 0x82F63B78 else c / 2

/-- CRC-32C of bytes (R506). -/
def crc32c (b : List Byte) : Nat :=
  (b.foldl (fun c x => (List.range 8).foldl (fun d _ => crcBit d) (c ^^^ x.toNat)) 0xFFFFFFFF) ^^^ 0xFFFFFFFF

/-- The image's CRC field agrees with its contents (R506). -/
def crcHolds (b : List Byte) (len : Nat) : Bool :=
  leAt b 12 4 == crc32c (b.take 12 ++ [0, 0, 0, 0] ++ bytesAt b 16 (len - 16))

/-- A section of the directory (R504). -/
structure Section where
  type : Nat
  off : Nat
  len : Nat
  count : Nat
  deriving DecidableEq, Repr

/-- The twelve directory entries. -/
def directory (b : List Byte) : List Section :=
  (List.range 12).map fun i =>
    ⟨leAt b (64 + 16 * i) 4, leAt b (68 + 16 * i) 4, leAt b (72 + 16 * i) 4, leAt b (76 + 16 * i) 4⟩

def sectionOf (b : List Byte) (type : Nat) : Option Section := (directory b).find? fun x => x.type == type

/-- Header fields (R503). -/
def imLen (b : List Byte) : Nat := leAt b 8 4
def imSigned (b : List Byte) : Bool := leAt b 6 2 == 1
def imExtent (b : List Byte) : Nat := leAt b 24 1
def imCols (b : List Byte) : Nat := leAt b 25 1
def imMeridian (b : List Byte) : Nat := leAt b 26 1
def imVariants (b : List Byte) : Nat := leAt b 27 1
def imSlots (b : List Byte) : Nat := leAt b 28 2

/-! ### Tables (R483, R505) -/

/-- A slot-table entry from its two words (R483). -/
def slotEntry (w0 w1 : Nat) : SlotEntry :=
  { start := bitsOf w0 0 12, count := bitsOf w0 12 12 + 1
    outN := bitsOf w0 24 3, outE := bitsOf w0 27 3, outS := bitsOf w0 30 3, outW := bitsOf w0 33 3, outL := bitsOf w0 36 3
    sumA := bitsOf w0 39 3, sumB := bitsOf w0 42 3, sumFmt := bitsOf w0 45 2, injMode := bitsOf w0 47 2
    injAddr := bitsOf w1 0 19, ejAddr := bitsOf w1 32 19 }

/-- Reserved bits of an entry. -/
def entryRsvd (w0 w1 : Nat) : Bool := bitsOf w0 49 15 != 0 || bitsOf w1 19 13 != 0 || bitsOf w1 51 13 != 0

/-- The tile table records of a section, with whether each meets the form of R505 (but for its tile). -/
def tableRecords (b : List Byte) (stop : Nat) : Nat → Nat → List (TileTable × Bool)
  | 0, _ => []
  | k + 1, p =>
    let n := leAt b (p + 2) 2
    let words := (List.range n).map fun i => (leAt b (p + 16 + 16 * i) 8, leAt b (p + 24 + 16 * i) 8)
    let ok := n ≤ 1536 && zerosAt b (p + 4) 12 && p + 16 + 16 * n ≤ stop && words.all fun w => !entryRsvd w.1 w.2
    (⟨leAt b p 1, leAt b (p + 1) 1, words.map fun w => slotEntry w.1 w.2⟩, ok) ::
      tableRecords b stop k (p + 16 + 16 * n)

/-- The records of table set k: the base set, variant 1, variant 2. -/
def setRecords (b : List Byte) (k : Nat) : List (TileTable × Bool) :=
  match sectionOf b (k + 1) with
  | none => []
  | some x => tableRecords b (x.off + x.len) x.count x.off

def imageSets (b : List Byte) : List (List TileTable) :=
  (List.range (imVariants b + 1)).map fun k => (setRecords b k).map (·.1)

/-! ### Programs (R415) -/

/-- The program records of a section, with whether each meets the form of R415 (but for its tile). -/
def programRecords (b : List Byte) (base stop : Nat) : Nat → Nat → List (Program × Bool)
  | 0, _ => []
  | k + 1, p =>
    let len := leAt b (p + 4) 4
    let entry := leAt b (p + 8) 4
    let ok := zerosAt b (p + 3) 1 && zerosAt b (p + 12) 4 && len % 8 == 0 && 8 ≤ len && len ≤ 65536 && entry % 8 == 0
      && entry < len && leAt b (p + 2) 1 ≤ 7 && p + 16 + len ≤ stop
    (⟨leAt b p 1, leAt b (p + 1) 1, leAt b (p + 2) 1, entry,
      (List.range (len / 8)).map fun i => BitVec.ofNat 64 (leAt b (p + 16 + 8 * i) 8)⟩, ok) ::
      programRecords b base stop k (base + ceilDiv (p - base + 16 + len) 16 * 16)

def programList (b : List Byte) : List (Program × Bool) :=
  match sectionOf b 4 with
  | none => []
  | some x => programRecords b x.off (x.off + x.len) x.count x.off

/-! ### Records of fixed size -/

/-- The records of a section of records of a fixed size; none when LENGTH is not COUNT of them. -/
def fixedRecords (b : List Byte) (type size : Nat) : Option (List (List Byte)) :=
  match sectionOf b type with
  | none => some []
  | some x => if x.len = size * x.count then some ((List.range x.count).map fun i => bytesAt b (x.off + size * i) size) else none

/-- A byte of a record. -/
def byteAt (r : List Byte) (i : Nat) : Nat := (r.getD i 0).toNat

/-- The endpoint at a tile with its unit: a core with a channel or queue number, or a combining queue with a delivery. -/
def State.endAt (s : State) (n : Nat) (dx dy unit num : Nat) : ChanEnd :=
  let t := s.recordTile n dx dy
  if isSliceTile t then .cq (sliceOfTile t) unit num else .core (8 * clusterOfTile t + unit) num

/-- A CHANNEL or link record of the CHANNELS section, bound to the die (R559, R762). -/
def State.channelOf (s : State) (n : Nat) (r : List Byte) : Option Channel :=
  let at' (i : Nat) : Nat := byteAt r i
  if at' 0 = 1 then
    some { credit := at' 1 == 0, credits := at' 2, src := s.endAt n (at' 4) (at' 5) (at' 6) (at' 7)
           dst := s.endAt n (at' 8) (at' 9) (at' 10) (at' 11) }
  else if at' 0 = 3 then
    let here := s.endAt n (at' 4) (at' 5) (at' 6) (at' 7)
    let there := ChanEnd.link (at' 3) (at' 8)
    some (if at' 1 = 0 then { credit := true, credits := 0, src := here, dst := there }
      else { credit := true, credits := at' 2, src := there, dst := here })
  else none

/-- TAGS of a combining queue in the SIZING section (R579). -/
def State.tagsOf (s : State) (n slice q : Nat) (sizing : List (List Byte)) : Nat :=
  ((sizing.find? fun r => byteAt r 0 == 2 && s.recordTile n (byteAt r 1) (byteAt r 2) == tileOfSlice slice).map fun r =>
    byteAt r (16 + q)).getD 0

/-- A COMBINER record bound to the die (R559). -/
def State.combinerOf (s : State) (n : Nat) (sizing : List (List Byte)) (r : List Byte) : Option Combiner :=
  if byteAt r 0 = 2 then
    let i := sliceOfTile (s.recordTile n (byteAt r 4) (byteAt r 5))
    some { slice := i, q := byteAt r 6, int32 := byteAt r 1 == 1, expect := byteAt r 2, deliveries := byteAt r 7
           tags := s.tagsOf n i (byteAt r 6) sizing }
  else none

/-- A rule-book declaration (R679). -/
def declOf (r : List Byte) : GatherDecl :=
  { rbAddr := leAt r 0 8, maxEntries := leAt r 8 4, noff := leAt r 12 1, maxPerOffset := leAt r 16 4, inRows := leAt r 20 4
    outRows := leAt r 24 4, inStride := leAt r 28 4, outStride := leAt r 32 4 }

/-- What the image holds, bound to region n. -/
def State.parseImage (s : State) (n addr len : Nat) (b : List Byte) : Image :=
  let sizing := (fixedRecords b 6 32).getD []
  let chans := (fixedRecords b 5 16).getD []
  { hostAddr := addr, hostLen := len, bytes := imLen b, id := leAt b 16 8, signed := imSigned b, meridianDx := imMeridian b
    variants := imVariants b, frameSlots := imSlots b, sets := imageSets b, programs := (programList b).map (·.1)
    channels := chans.filterMap (s.channelOf n), combiners := chans.filterMap (s.combinerOf n sizing)
    decls := ((fixedRecords b 7 64).getD []).map declOf
    proofLo := BitVec.ofNat 32 (((sectionOf b 8).map fun x => leAt b x.off 4).getD 0) }

/-! ### Checks 1 to 6 (R503 to R509, R511) -/

/-- Code 1. -/
def lengthOk (b : List Byte) (imageLen : Nat) : Bool := imLen b % 16 == 0 && 256 ≤ imLen b && imLen b ≤ imageLen

/-- Code 2. -/
def headerOk (b : List Byte) : Bool :=
  leAt b 0 4 == 0x534E4C45 && leAt b 4 2 == 1 && leAt b 6 2 ≤ 1 && 1 ≤ imExtent b && imExtent b ≤ 3 && 1 ≤ imCols b
    && imCols b ≤ 16 && ((1 ≤ imMeridian b && imMeridian b ≤ 8) || imMeridian b == 0xFF) && imVariants b ≤ 2
    && 1 ≤ imSlots b && imSlots b ≤ 4096 && zerosAt b 30 34

/-- Sections do not overlap; an empty one overlaps nothing. -/
def disjointSections : List Section → Bool
  | [] => true
  | x :: l => (l.all fun y => x.len == 0 || y.len == 0 || x.off + x.len ≤ y.off || y.off + y.len ≤ x.off) && disjointSections l

/-- Code 4. -/
def directoryOk (b : List Byte) : Bool :=
  let d := directory b
  let used := d.filter fun x => x.type ≠ 0
  let has (t : Nat) : Bool := used.any fun x => x.type == t
  (d.all fun x => x.type ≠ 0 || (x.off == 0 && x.len == 0 && x.count == 0))
    && (used.all fun x => x.type ≤ 9 && x.off % 16 == 0 && 256 ≤ x.off && x.off + x.len ≤ imLen b)
    && decide (used.map Section.type).Nodup && disjointSections used && has 1 && has 4 && has 8
    && (has 2 == decide (1 ≤ imVariants b)) && (has 3 == decide (imVariants b = 2)) && (has 9 == imSigned b)
    && ((sectionOf b 8).all fun x => x.len == 48)
    && ((sectionOf b 9).all fun x => x.len == 208 && x.off + 208 == imLen b)

/-- The digest that a key slot holds. -/
def State.keyDigest (s : State) (k : Nat) : List Byte :=
  (List.range 12).flatMap fun w => toBytes 4 (s.fld (F.SCH_KEY_DIGEST_DIGEST k w))

/-- The SIGNATURE section at an offset meets R508, and its signature verifies over the bytes before it. -/
def signatureVerifies (b : List Byte) (off : Nat) : Bool :=
  let at' (i n : Nat) : Nat := bigEndian (bytesAt b (off + i) n)
  at' 0 1 == 4 && zerosAt b (off + 97) 3 && zerosAt b (off + 196) 12
    && ecdsaVerifies (at' 1 48) (at' 49 48) (at' 100 48) (at' 148 48) (bigEndian (sha384 (b.take off)))

/-- Code 5 (R507 to R509): the signature, and the digest of its key in the region's key slot, which is valid. -/
def State.signatureOk (s : State) (n : Nat) (b : List Byte) : Bool :=
  let k := s.fld (F.RGN_CONFIG_KEY_SLOT n)
  if imSigned b then
    match sectionOf b 9 with
    | none => false
    | some x => s.bitAt F.SCH_KEY_VALID_VALID k && sha384 (bytesAt b x.off 97) == s.keyDigest k && signatureVerifies b x.off
  else !s.on (F.RGN_CONFIG_REQUIRE_SIGNED n)

/-- Code 6. -/
def State.shapeOk (s : State) (n : Nat) (b : List Byte) : Bool :=
  let x0 := s.fld (F.RGN_RECT_X0 n)
  let x1 := s.fld (F.RGN_RECT_X1 n)
  imExtent b == s.fld (F.RGN_RECT_EXTENT n) && imCols b == x1 - x0 + 1
    && imMeridian b == if x0 ≤ 7 ∧ 7 < x1 then 8 - x0 else 0xFF

/-! ### Checks 7 to 9: tables (R484 to R488, R495, R497) -/

/-- The sources of an entry's outputs N, E, S, W, L. -/
def SlotEntry.outs (e : SlotEntry) : List Nat := [e.outN, e.outE, e.outS, e.outW, e.outL]

/-- The entry uses a source: on an output, or as an adder input. -/
def SlotEntry.uses (e : SlotEntry) (src : Nat) : Bool := e.outs.contains src || e.sumA == src || e.sumB == src

/-- The neighbour of a tile in direction d: 1 N, 2 E, 3 S, 4 W. -/
def neighbour (t d : Nat) : Option Nat :=
  match d with
  | 1 => if tileY t < 11 then some (t + 16) else none
  | 2 => if tileX t < 15 then some (t + 1) else none
  | 3 => if 0 < tileY t then some (t - 16) else none
  | 4 => if 0 < tileX t then some (t - 1) else none
  | _ => none

/-- The input of the neighbour that a direction's output drives. -/
def opposite (d : Nat) : Nat := if d ≤ 2 then d + 2 else d - 2

/-- The clock domain of a tile (R50). -/
def domainOf (t : Nat) : Nat × Nat :=
  let y := tileY t
  (tileX t / 8, if y < 2 then 0 else if y < 6 then 1 else if y < 10 then 2 else 3)

/-- L of a hop (R495). -/
def hopSlots (t u : Nat) : Nat :=
  if tileX t / 8 ≠ tileX u / 8 then 10 else if domainOf t = domainOf u then 2 else 6

/-- The parts of slice i's pinned space that the plane may read: SECTORED and FAST windows of region n (R488); `writable`
leaves out the read-only ones. -/
def State.planeParts (s : State) (n i : Nat) (writable : Bool) : List (Nat × Nat) :=
  (List.range 16).filterMap fun w =>
    let list := s.winSlices n w
    if s.on (F.WIN_CTRL_VALID n w) && list.contains i && !s.on (F.WIN_CTRL_LINE_MODE n w) && !s.on (F.WIN_CTRL_ACCUM n w)
        && !(writable && s.on (F.WIN_CTRL_READ_ONLY n w)) then
      some (s.fld (F.WIN_SLICE_BASE_SLICE_BASE n w) * 256, s.winSize n w / list.length)
    else none

/-- Every byte of a local range may be accessed (R487, R488). -/
def State.planeRange (s : State) (n t lo len : Nat) (write : Bool) : Bool :=
  if isSliceTile t then
    (List.range (len / 32)).all fun k =>
      (s.planeParts n (sliceOfTile t) write).any fun p => p.1 ≤ lo + 32 * k && lo + 32 * k + 32 ≤ p.1 + p.2
  else lo + len ≤ clusterBytes

/-- An entry of a tile of region n is well formed (R485, R487, R488). The local port's input is the injection path. -/
def State.entryOk (s : State) (n t slots : Nat) (e : SlotEntry) : Bool :=
  let inj := e.uses 5
  let step := if e.injMode = 0 then 64 else 32
  (e.outs.all (· ≤ 6)) && e.sumFmt ≤ 1 && e.injMode ≤ 2
    && e.outN != 1 && e.outE != 2 && e.outS != 3 && e.outW != 4 && e.outL != 5
    && (if e.outs.contains 6 then
          1 ≤ e.sumA && e.sumA ≤ 5 && 1 ≤ e.sumB && e.sumB ≤ 5 && e.sumA != e.sumB
        else e.sumA == 0 && e.sumB == 0)
    && (inj || (e.injMode == 0 && e.injAddr == 0)) && (e.outL != 0 || e.ejAddr == 0)
    && e.start + e.count ≤ slots
    && ([1, 2, 3, 4].all fun d => e.outs.getD (d - 1) 0 == 0 || (neighbour t d).any (s.inRect n))
    && (!inj || ((e.injMode != 0 || e.injAddr % 2 == 0) && s.planeRange n t (32 * e.injAddr) (step * e.count) false))
    && (e.outL == 0 || (e.ejAddr % 2 == 0 && s.planeRange n t (32 * e.ejAddr) (64 * e.count) true))

/-- Entries lie in increasing START order without overlap. -/
def inStartOrder : List SlotEntry → Bool
  | e :: f :: l => decide (e.start + e.count ≤ f.start) && inStartOrder (f :: l)
  | _ => true

/-- Rows of the image's shape: all rows, and its cluster rows. -/
def shapeRows (b : List Byte) : Nat := if imExtent b = 3 then 12 else 6
def shapeClusterRows (b : List Byte) : Nat := if imExtent b = 3 then 8 else 4

/-- Code 7. -/
def State.tablesOk (s : State) (n : Nat) (b : List Byte) : Bool :=
  (List.range (imVariants b + 1)).all fun k =>
    let l := setRecords b k
    (l.all fun r => r.2 && decide (r.1.dx < imCols b) && decide (r.1.dy < shapeRows b) && inStartOrder r.1.entries
        && r.1.entries.all fun e => s.entryOk n (s.recordTile n r.1.dx r.1.dy) (imSlots b) e)
      && decide (l.map fun r => (r.1.dx, r.1.dy)).Nodup

/-- Code 8. -/
def capacityOk (b : List Byte) : Bool :=
  let all := (imageSets b).flatten
  all.all fun r =>
    ((all.filter fun x => x.dx == r.dx && x.dy == r.dy).map fun x => x.entries.length).foldl (· + ·) 0 ≤ 1536

/-- The slots of a table's entries that meet a condition, in rising order. -/
def slotsWhere (l : List SlotEntry) (p : SlotEntry → Bool) : List Nat :=
  (l.filter p).flatMap fun e => (List.range e.count).map (e.start + ·)

/-- The entries of a tile in a set. -/
def State.entriesAt (s : State) (n : Nat) (set : List TileTable) (t : Nat) : List SlotEntry :=
  ((set.find? fun r => s.recordTile n r.dx r.dy == t).map TileTable.entries).getD []

/-- Code 9 (R497). -/
def State.linksOk (s : State) (n : Nat) (b : List Byte) : Bool :=
  (imageSets b).all fun set =>
    (s.tilesOf n).all fun t => [1, 2, 3, 4].all fun d =>
      let driven := slotsWhere (s.entriesAt n set t) fun e => e.outs.getD (d - 1) 0 != 0
      match (neighbour t d).filter (s.inRect n) with
      | none => slotsWhere (s.entriesAt n set t) (fun e => e.uses d) == []
      | some u =>
        let used := slotsWhere (s.entriesAt n set u) fun e => e.uses (opposite d)
        driven.map (· + hopSlots t u) == used && used.all (· < imSlots b)

/-! ### Checks 10 to 14 -/

/-- Code 10 (R415). -/
def programsOk (b : List Byte) : Bool :=
  let l := programList b
  (l.all fun p => p.2 && decide (p.1.dx < imCols b) && decide (p.1.dy < shapeClusterRows b))
    && decide (l.map fun p => (p.1.dx, p.1.dy, p.1.core)).Nodup

/-- A window record of the SIZING section meets the committed windows (R626, R627). -/
def State.windowRecordOk (s : State) (n : Nat) (r : List Byte) : Bool :=
  let w := byteAt r 1
  w ≤ 15 && zerosAt r 6 2 && byteAt r 4 ≤ 24 && byteAt r 5 ≤ 2 && byteAt r 2 % 2 == 1
    && s.word (R.WIN_CTRL n w) 0 % 256 == byteAt r 2 && s.fld (F.WIN_CTRL_EXACT_POINT n w) == byteAt r 3
    && s.winBase n w == leAt r 8 8 && leAt r 16 8 ≤ s.winSize n w
    && s.fld (F.WIN_SLICE_BASE_SLICE_BASE n w) == leAt r 24 4 && byteAt r 4 ≤ s.fld (F.RGN_MEM_CFG_PIN_WAYS n)
    && (byteAt r 5 == 0 || (s.split n == (byteAt r 5 == 2)))

/-- A queue record's form: bytes that are 0, TAGS of at most 16 and 128 in all, a slice tile of the shape (R579, R580). -/
def State.queueRecordOk (s : State) (n : Nat) (b r : List Byte) : Bool :=
  let tags := (List.range 16).map fun q => byteAt r (16 + q)
  zerosAt r 3 13 && tags.all (· ≤ 16) && tags.foldl (· + ·) 0 ≤ 128 && byteAt r 1 < imCols b && byteAt r 2 < shapeRows b
    && isSliceTile (s.recordTile n (byteAt r 1) (byteAt r 2))

/-- Code 11 (R580, R627). -/
def State.sizingOk (s : State) (n : Nat) (b : List Byte) : Bool :=
  match fixedRecords b 6 32 with
  | none => false
  | some l =>
    let queues := l.filter fun r => byteAt r 0 == 2
    let windows := l.filter fun r => byteAt r 0 == 1
    let bound := ((fixedRecords b 5 16).getD []).filter fun r => byteAt r 0 == 2
    (l.all fun r => byteAt r 0 == 1 || byteAt r 0 == 2) && (windows.all (s.windowRecordOk n))
      && decide (windows.map (byteAt · 1)).Nodup && (queues.all (s.queueRecordOk n b))
      && decide (queues.map fun r => (byteAt r 1, byteAt r 2)).Nodup
      && (bound.all fun r => s.tagsOf n (sliceOfTile (s.recordTile n (byteAt r 4) (byteAt r 5))) (byteAt r 6) l != 0)
      && queues.all fun r => (List.range 16).all fun q => byteAt r (16 + q) == 0
          || bound.any fun c => byteAt c 4 == byteAt r 1 && byteAt c 5 == byteAt r 2 && byteAt c 6 == q

/-- The form of a CHANNELS record: its kind, its zeros and the range of its fields (R559, R762). -/
def chanRecordOk (r : List Byte) : Bool :=
  match byteAt r 0 with
  | 1 => zerosAt r 3 1 && zerosAt r 12 4 && byteAt r 1 ≤ 1
      && (if byteAt r 1 = 0 then 1 ≤ byteAt r 2 && byteAt r 2 ≤ 8 else byteAt r 2 == 0)
  | 2 => zerosAt r 3 1 && zerosAt r 8 8 && byteAt r 1 ≤ 1 && 1 ≤ byteAt r 2 && byteAt r 2 ≤ 64 && byteAt r 6 ≤ 15
      && 1 ≤ byteAt r 7 && byteAt r 7 ≤ 4
  | 3 => zerosAt r 10 6 && byteAt r 1 ≤ 1 && byteAt r 3 ≤ 3 && byteAt r 9 ≤ 1
      && (if byteAt r 1 = 0 then byteAt r 2 == 0 && byteAt r 9 == 0
          else 1 ≤ byteAt r 2 && byteAt r 2 ≤ (if byteAt r 9 = 0 then 8 else 16))
  | _ => false

/-- A tile of the image's shape. -/
def inShape (b : List Byte) (dx dy : Nat) : Bool := decide (dx < imCols b) && decide (dy < shapeRows b)

/-- The tiles a CHANNELS record names, with whether each is a sender (UNIT and number ranges follow from its kind). -/
def State.chanTilesOk (s : State) (n : Nat) (b r : List Byte) : Bool :=
  let slice (dx dy : Nat) : Bool := isSliceTile (s.recordTile n dx dy)
  match byteAt r 0 with
  | 1 => inShape b (byteAt r 4) (byteAt r 5) && inShape b (byteAt r 8) (byteAt r 9)
      && (if slice (byteAt r 4) (byteAt r 5) then byteAt r 6 ≤ 15 && byteAt r 7 ≤ 3 else byteAt r 6 ≤ 7)
      && (if slice (byteAt r 8) (byteAt r 9) then byteAt r 10 ≤ 15 && byteAt r 11 == 0
          else byteAt r 10 ≤ 7 && byteAt r 11 ≤ 7)
  | 2 => inShape b (byteAt r 4) (byteAt r 5) && slice (byteAt r 4) (byteAt r 5)
  | _ => inShape b (byteAt r 4) (byteAt r 5)
      && (slice (byteAt r 4) (byteAt r 5) == (byteAt r 1 == 1 && byteAt r 9 == 1))
      && (if slice (byteAt r 4) (byteAt r 5) then byteAt r 6 ≤ 15 && byteAt r 7 == 0
          else byteAt r 6 ≤ 7 && (byteAt r 1 == 0 || byteAt r 7 ≤ 7))

/-- The modes R556 allows. -/
def modeOk (c : Channel) : Bool :=
  match c.src, c.dst with
  | .core g _, .core h _ => c.credit || clusterOfCore g == clusterOfCore h
  | .core _ _, .cq _ _ _ => !c.credit
  | .cq _ _ _, .core _ _ => c.credit
  | .cq _ _ _, .cq _ _ _ => !c.credit
  | _, _ => true

/-- The combining queue of an endpoint; the core of one. -/
def queueOf : ChanEnd → Option (Nat × Nat)
  | .cq s q _ => some (s, q)
  | _ => none
def coreOf : ChanEnd → Option Nat
  | .core g _ => some g
  | _ => none

/-- Some combining queue can reach itself through channels, found by dropping queues that deliver to none left. -/
def queueCycle (edges : List ((Nat × Nat) × (Nat × Nat))) : Nat → Bool
  | 0 => !edges.isEmpty
  | k + 1 =>
    let left := edges.filter fun e => edges.any fun f => f.1 == e.2
    if left.length = edges.length then !edges.isEmpty else queueCycle left k

/-- Code 12 (R556, R557, R581, R763). -/
def State.channelsOk (s : State) (n : Nat) (b : List Byte) : Bool :=
  match fixedRecords b 5 16 with
  | none => false
  | some recs =>
    let im := s.parseImage n 0 0 b
    let cs := im.channels
    let cores := im.programs.map (s.recordCore n)
    let bound := im.combiners.map fun c => (c.slice, c.q)
    let srcs := cs.map Channel.src
    let dsts := cs.map Channel.dst
    let into (e : ChanEnd) : List Channel := cs.filter fun c => c.dst == e
    let links := recs.filter fun r => byteAt r 0 == 3
    (recs.all fun r => chanRecordOk r && s.chanTilesOk n b r)
      && ((srcs ++ dsts).all fun e => (coreOf e).all cores.contains && (queueOf e).all bound.contains)
      && (cs.all modeOk)
      && (dsts.all fun e => match e with
          | .core _ _ => (into e).all (fun c => c.credit == ((into e).head?.map Channel.credit).getD true)
              && ((into e).map Channel.credits).foldl (· + ·) 0 ≤ 8
          | _ => true)
      && decide (srcs.Nodup) && decide (bound.Nodup)
      && (im.combiners.all fun c =>
          (List.range 4).all (fun d => srcs.contains (.cq c.slice c.q d) == decide (d < c.deliveries))
            && dsts.any fun e => queueOf e == some (c.slice, c.q))
      && (cs.all fun c => match queueOf c.src, queueOf c.dst with
          | some a, some d => ((im.combiners.find? fun x => (x.slice, x.q) == a).map Combiner.int32)
              == ((im.combiners.find? fun x => (x.slice, x.q) == d).map Combiner.int32)
          | _, _ => true)
      && !queueCycle (cs.filterMap fun c => match queueOf c.src, queueOf c.dst with
          | some a, some d => some (a, d)
          | _, _ => none) cs.length
      && (links.all fun r => (s.portsOf n).contains (byteAt r 3))
      && decide (links.map fun r => (byteAt r 1, byteAt r 3, byteAt r 8)).Nodup

/-- A declaration meets R679. -/
def declOk (r : List Byte) : Bool :=
  let d := declOf r
  spaceOf d.rbAddr == spShared && d.rbAddr < 2 ^ 48 && d.rbAddr % 256 == 0 && 1 ≤ d.maxEntries && d.maxEntries ≤ 2 ^ 24
    && d.maxEntries ≤ d.noff * d.maxPerOffset && 1 ≤ d.noff && d.noff ≤ 32 && zerosAt r 13 3 && 1 ≤ d.maxPerOffset
    && d.maxPerOffset ≤ 2 ^ 24 && 1 ≤ d.inRows && d.inRows ≤ 2 ^ 27 && 1 ≤ d.outRows && d.outRows ≤ 2 ^ 27
    && d.inStride % 32 == 0 && 32 ≤ d.inStride && d.inStride ≤ 65536 && d.outStride % 32 == 0 && 32 ≤ d.outStride
    && d.outStride ≤ 65536 && zerosAt r 36 28

/-- No two ranges of a list overlap. -/
def disjointRanges : List (Nat × Nat) → Bool
  | [] => true
  | x :: l => (l.all fun y => !overlap x y) && disjointRanges l

/-- Code 13 (R679, R680). -/
def State.gatherOk (s : State) (n : Nat) (b : List Byte) : Bool :=
  match sectionOf b 7, fixedRecords b 7 64 with
  | none, _ => true
  | some _, none => false
  | some _, some l =>
    let ranges := (l.map declOf).map GatherDecl.range
    1 ≤ l.length && l.length ≤ 16 && l.all declOk && disjointRanges ranges
      && ranges.all fun r =>
        match s.windowAt n r.1 with
        | none => false
        | some w => s.on (F.WIN_CTRL_READ_ONLY n w) && s.windowAt n (r.1 + r.2 - 1) == some w

/-- The code of the first load check an image fails; 0 when it passes all (R511). Bytes of a read that came back poisoned (`bad`) fail
the CRC. -/
def State.checkImage (s : State) (n imageLen : Nat) (b : List Byte) (bad : Bool) : Nat :=
  if !lengthOk b imageLen then 1
  else if !headerOk b then 2
  else if bad || !crcHolds b (imLen b) then 3
  else if !directoryOk b then 4
  else if !s.signatureOk n b then 5
  else if !s.shapeOk n b then 6
  else if !s.tablesOk n b then 7
  else if !capacityOk b then 8
  else if !s.linksOk n b then 9
  else if !programsOk b then 10
  else if !s.sizingOk n b then 11
  else if !s.channelsOk n b then 12
  else if !s.gatherOk n b then 13
  else if (s.fittingSet n (s.parseImage n 0 imageLen b)).isNone then 14
  else 0

/-! ### Loading (R416, R513, R514, R523) -/

/-- A core's tile has power. -/
def State.corePowered (s : State) (g : Nat) : Bool := s.bitAt F.CLK_ISLAND_POWERED (islandOfTile (tileOfCore g))

/-- The programs of an image written into the program memories of the cores whose islands are powered (R513): words beyond a program's
LENGTH are filler, and a core without a record has no program (R416). -/
def State.writePrograms (s : State) (n : Nat) (im : Image) : State :=
  let s1 := overList ((s.coresOf n).filter s.corePowered) s fun t g =>
    t.modCore g fun c => { c with program := [], hasProgram := false }
  overList (im.programs.filter fun p => s.corePowered (s.recordCore n p)) s1 fun t p =>
    t.modCore (s.recordCore n p) fun c => { c with program := p.words.zipIdx.map fun e => (e.2, e.1), hasProgram := true }

/-- Some island of region n is gated. -/
def State.someGated (s : State) (n : Nat) : Bool := (s.islandsOf n).any fun i => !s.bitAt F.CLK_ISLAND_POWERED i

/-- Region n's image and its registers (R523): SWITCHES and GATE_WAITS start at 0. -/
def State.installImage (s : State) (n : Nat) (im : Image) : State :=
  let t := (s.writePrograms n im).modRgn n fun r => { r with image := some im, needRebuild := s.someGated n }
  let t := ((t.setWord (R.SCH_IMG_ID_LO n) (im.id % 2 ^ 32)).setWord (R.SCH_IMG_ID_HI n) (im.id / 2 ^ 32)).raise
    (F.RGN_STATE_IMAGE_LOADED n)
  let t := ((((t.setFld (F.SCH_IMG_STATE_CROSSES_MERIDIAN n) (bit (im.meridianDx != 0xFF))).setFld (F.SCH_IMG_STATE_SIGNED n)
    (bit im.signed)).setFld (F.SCH_IMG_STATE_SET_IN_FORCE n) ((s.fittingSet n im).getD 0)).setFld (F.SCH_IMG_STATE_VARIANTS n)
      im.variants).setFld (F.SCH_IMG_STATE_FRAME_SLOTS n) im.frameSlots
  (t.setWord (R.SCH_COUNTS n) 0).setWord (R.SCH_PROOF_LO n) im.proofLo.toNat

/-- An image is rejected (R293): LAST_REJECT takes the code, and the earlier image stays. -/
def State.rejectImage (s : State) (n i : Nat) (index : Word) (code : Nat) (poison : Bool) : State :=
  (s.setFld (F.SCH_IMG_STATE_LAST_REJECT n) code).finish n i index stIMAGE_REJECTED code fun d => { d with poison := poison }

/-- The bytes of an image that are read: its header, and all of it when IMAGE_BYTES passes (R502). -/
def imageRead (b : List Byte) (imageLen : Nat) : Nat := if lengthOk b imageLen then imLen b else 256

/-- A pass over an image in host memory (R230, R513): what it reads is counted at the ring engine in HOSTDMA, and poison is noted
(R235). -/
def State.readImage (s : State) (n addr len : Nat) (bad : Bool) : State :=
  ((s.hostReadOut (n + 1) addr len).countEngine n len).when bad fun t => t.hostPoison n

/-- LOAD_SCHEDULE (R292, R293, R513, R514), in three commands: the first pass checks the image; the second pass begins to
write tiles; it ends, and the image is loaded. -/
def execLoadSchedule (d : DescRef) (image : HostData) (s : State) : Host.Outcome State Fault Refusal :=
  match s.begin d tyLOAD with
  | none => done s
  | some (x, t) =>
    let n := d.vf.val
    let i := d.ring.val
    let b := hostBytes (x.q 2) (x.q 4) image.bytes
    let len := imageRead b (x.q 4)
    let bad := image.poisoned.any (· < len)
    if t.rgnState n = rFAULTED then done (t.finish n i x.index stREGION_NOT_READY 0)
    else if t.rgnState n ≠ rREADY ∨ !t.isNext n x ∨ !t.mayRequest (n + 1) then done t
    else if x.stage = 1 then done (t.modDesc n i x.index fun y => { y with stage := 2 })
    else
      let u := (t.readImage n (x.q 2) len bad).noteDelayed (t.fld (F.RGN_DLY_BUDGET_DELAYED_BUDGET n cHOSTDMA)) n i x.index
      if x.stage = 2 then
        if bad then done ((u.dropImage n).rejectImage n i x.index 3 true)
        else
          let im := t.parseImage n (x.q 2) (x.q 4) b
          let v := (u.setEpochs n false fun _ => true).installImage n im
          done ((v.setEpochs n false fun _ => true).finish n i x.index stSUCCESS 0)
      else
        let code := t.checkImage n (x.q 4) b bad
        if code ≠ 0 then done (u.rejectImage n i x.index code bad)
        else done (u.modDesc n i x.index fun y => { y with stage := 1 })

end Sys2Proof.Machine
end

