-- ==== Sys2Proof/Machine/Supply.lean ====
section
/-! DEFINITION. The measurement front end, the disturbance classifier, the power limiter and the temperatures
(03_supply_and_facility.md, R91 to R118). -/

namespace Sys2Proof.Machine

/-! ### Runs and classes -/

/-- A run of consecutive samples that meet a condition (R104): one more, or none. -/
def stepRun (r : Run) (holds : Bool) (ts v : Nat) (extreme : Nat → Nat → Nat) : Run :=
  if holds then
    if r.count = 0 then ⟨1, ts, v⟩ else ⟨r.count + 1, r.start, extreme r.extreme v⟩
  else {}

/-- A class that opens when its run is long enough and closes after a number of consecutive quiet samples: what one
sample does to its open event and quiet count. -/
structure ClassStep where
  open' : Option OpenEvent
  quiet : Nat
  state : State

/-- One sample of SAG, DROPOUT or SWELL (R104, R105): `need` consecutive samples open it, `clearAt` quiet ones close. -/
def stepClass (s : State) (c : SupplyClass) (ev : Option OpenEvent) (quiet : Nat) (r : Run) (need clearAt v : Nat)
    (isQuiet : Bool) (extreme : Nat → Nat → Nat) (active : Fld) : ClassStep :=
  match ev with
  | none =>
    if need ≤ r.count then
      let (e, t) := s.openEvent c r.start r.count r.extreme
      ⟨some e, 0, t.raise active⟩
    else ⟨none, 0, s⟩
  | some e =>
    let q := if isQuiet then quiet + 1 else 0
    let e' : OpenEvent := ⟨e.seq, e.samples + 1, if isQuiet then e.extreme else extreme e.extreme v⟩
    if clearAt ≤ q then ⟨none, 0, (s.closeEvent e').lower active⟩ else ⟨some e', q, s.updateEvent e'⟩

/-- The SAG step of a sample (R104, R105). -/
def State.stepSag (s : State) (ts mv : Nat) : State :=
  let r := stepRun s.supply.sagRun (mv < s.fld F.PWR_SAG_MV) ts mv min
  let c := stepClass s .sag s.supply.sag s.supply.sagQuiet r (s.fld F.PWR_SAG_SAMPLES) 512 mv
    (s.fld F.PWR_SAG_CLEAR_MV ≤ mv) min F.PWR_STATUS_SAG_ACTIVE
  { c.state with supply := { c.state.supply with sagRun := r, sag := c.open', sagQuiet := c.quiet } }

/-- The DROPOUT step of a sample (R104, R107: refresh-only follows). -/
def State.stepDropout (s : State) (ts mv : Nat) : State :=
  let r := stepRun s.supply.dropoutRun (mv < s.fld F.PWR_DROPOUT_MV) ts mv min
  let c := stepClass s .dropout s.supply.dropout s.supply.dropoutQuiet r (s.fld F.PWR_DROPOUT_SAMPLES) 64 mv
    (s.fld F.PWR_DROPOUT_CLEAR_MV ≤ mv) min F.PWR_STATUS_DROPOUT_ACTIVE
  { c.state with supply := { c.state.supply with dropoutRun := r, dropout := c.open', dropoutQuiet := c.quiet } }

/-- The SWELL step of a sample (R104). -/
def State.stepSwell (s : State) (ts mv : Nat) : State :=
  let r := stepRun s.supply.swellRun (s.fld F.PWR_SWELL_MV < mv) ts mv max
  let c := stepClass s .swell s.supply.swell s.supply.swellQuiet r (s.fld F.PWR_SWELL_SAMPLES) 64 mv
    (mv ≤ s.fld F.PWR_SWELL_MV) max F.PWR_STATUS_SWELL_ACTIVE
  { c.state with supply := { c.state.supply with swellRun := r, swell := c.open', swellQuiet := c.quiet } }

/-- The difference of two readings. -/
def distance (a b : Nat) : Nat := (a - b) + (b - a)

/-- The TRANSIENT step of a sample (R104, R126): a step above TRANSIENT_MV opens or extends the entry; 1,024 samples
without one close it. -/
def State.stepTransient (s : State) (ts mv : Nat) : State :=
  let d := match s.supply.lastMv with
    | some l => distance mv l
    | none => 0
  let isStep := decide (s.fld F.PWR_TRANSIENT_MV < d)
  match s.supply.transient with
  | none =>
    if isStep then
      let (e, t) := s.openEvent .transient ts 1 d
      { t with supply := { t.supply with transient := some e, transientQuiet := 0 } }
    else s
  | some e =>
    let e' : OpenEvent := ⟨e.seq, e.samples + 1, max e.extreme (if isStep then d else 0)⟩
    let q := if isStep then 0 else s.supply.transientQuiet + 1
    if 1024 ≤ q then
      let t := s.closeEvent e'
      { t with supply := { t.supply with transient := none, transientQuiet := 0 } }
    else
      let t := s.updateEvent e'
      { t with supply := { t.supply with transient := some e', transientQuiet := q } }

/-- The RIPPLE step at the last sample of a tick (R104): the peak-to-peak over the tick against RIPPLE_MV. -/
def State.stepRipple (s : State) : State :=
  let p := s.supply.tickMaxMv - s.supply.tickMinMv
  let exceeds := decide (s.fld F.PWR_RIPPLE_MV < p)
  match s.supply.ripple with
  | none =>
    if exceeds then
      let (e, t) := s.openEvent .ripple s.supply.tickStart s.supply.tickSamples p
      { t.raise F.PWR_STATUS_RIPPLE_ACTIVE with supply := { t.supply with ripple := some e } }
    else s
  | some e =>
    let e' : OpenEvent := ⟨e.seq, e.samples + s.supply.tickSamples, max e.extreme (if exceeds then p else 0)⟩
    if exceeds then { s.updateEvent e' with supply := { s.supply with ripple := some e' } }
    else
      let t := (s.closeEvent e').lower F.PWR_STATUS_RIPPLE_ACTIVE
      { t with supply := { t.supply with ripple := none } }

/-- The LOSS step of a sample (R104): LOSS_SAMPLES consecutive samples below LOSS_MV declare it. -/
def State.stepLoss (s : State) (ts mv : Nat) : State :=
  let r := stepRun s.supply.lossRun (mv < s.fld F.PWR_LOSS_MV) ts mv min
  let t := { s with supply := { s.supply with lossRun := r } }
  if s.fld F.PWR_LOSS_SAMPLES ≤ r.count then t.declareLoss r.start r.count r.extreme .voltage else t

/-! ### The power limiter (R113) -/

/-- The sum of the newest `k` powers; a sample not yet taken counts as 0 W. -/
def sumNewest (l : List Nat) (k : Nat) : Nat := (l.take k).foldl (· + ·) 0

/-- Watts as the unit of `Supply.powers`, mV × mA. -/
def watts (w : Nat) : Nat := w * 1000000

/-- The limiter step of a sample (R113): it becomes active on either mean and ends after 512 quiet samples. DESIGN CHOICE
(log 140): R102 is silent on the limiter, which goes on judging samples while METER_FAIL is set. -/
def State.stepLimiter (s : State) (ts : Nat) : State :=
  let a := sumNewest s.supply.powers 64
  let b := sumNewest s.supply.powers 10240
  match s.supply.limit with
  | none =>
    if 64 * watts 1400 < a ∨ 10240 * watts 1100 < b then
      let (e, t) := s.openEvent .limit ts 1 0
      { t.raise F.PWR_STATUS_LIMIT_ACTIVE with supply := { t.supply with limit := some e, limitQuiet := 0 } }
    else s
  | some e =>
    let e' : OpenEvent := ⟨e.seq, e.samples + 1, 0⟩
    let q := if a < 64 * watts 1330 ∧ b < 10240 * watts 1045 then s.supply.limitQuiet + 1 else 0
    if 512 ≤ q then
      let t := (s.closeEvent e').lower F.PWR_STATUS_LIMIT_ACTIVE
      { t with supply := { t.supply with limit := none, limitQuiet := 0 } }
    else
      let t := s.updateEvent e'
      { t with supply := { t.supply with limit := some e', limitQuiet := q } }

/-! ### Metering (R99 to R101) -/

/-- A 64-bit accumulator in a pair of registers. -/
def State.setPair (s : State) (lo hi v : Nat) : State := (s.setWord lo (v % 2 ^ 32)).setWord hi (v / 2 ^ 32 % 2 ^ 32)

/-- The sample's readings: PWR_VIN and PWR_IIN, the tick's extremes and sum, the power history and the energy
accumulator, which METER_FAIL holds (R101). -/
def State.meter (s : State) (ts mv ma : Nat) : State :=
  let u := s.supply
  let fresh := decide (u.tickStart / 8192 ≠ ts / 8192) || u.tickSamples == 0
  let failed := s.on F.PWR_ERR_METER_FAIL
  let e := if failed then u.energy else u.energy + mv * ma
  let sup : Supply := { u with
    lastSample := some ts
    powers := (mv * ma :: u.powers).take 10240
    energy := e
    tickMinMv := if fresh then mv else min u.tickMinMv mv
    tickMaxMv := if fresh then mv else max u.tickMaxMv mv
    tickMaxMa := if fresh then ma else max u.tickMaxMa ma
    tickSamples := if fresh then 1 else u.tickSamples + 1
    tickPower := if fresh then mv * ma else u.tickPower + mv * ma
    tickStart := if fresh then ts else u.tickStart
    ovpRun := stepRun u.ovpRun (decide (65000 < mv)) ts mv max }
  (({ s with supply := sup }.setFld F.PWR_VIN_LAST mv).setFld F.PWR_IIN_LAST ma).setPair
    R.PWR_ENERGY_LO R.PWR_ENERGY_HI (e / 1024000)

/-- The last sample of a tick: TICK_EXTREME of both readings and PWR_TICK_POWER in 0.1 W (0xFFFF with METER_FAIL). -/
def State.endTickMeter (s : State) : State :=
  let p := if s.on F.PWR_ERR_METER_FAIL then 0xFFFF else roundOpen s.supply.tickPower (512 * 100000)
  ((s.setFld F.PWR_VIN_TICK_EXTREME s.supply.tickMinMv).setFld F.PWR_IIN_TICK_EXTREME s.supply.tickMaxMa).setFld
    F.PWR_TICK_POWER_POWER p

/-- A sample taken while a THERMAL entry is open counts into its DURATION. -/
def State.countThermal (s : State) : State :=
  match s.supply.thermal with
  | none => s
  | some e =>
    let e' : OpenEvent := { e with samples := e.samples + 1 }
    { s.updateEvent e' with supply := { s.supply with thermal := some e' } }

/-- The time of the next sample: the first multiple of 16 counts not before now and not yet sampled (R99). -/
def State.nextSample (s : State) : Nat :=
  let c := ceilDiv s.time 16 * 16 % 2 ^ 48
  if s.supply.lastSample = some c then (c + 16) % 2 ^ 48 else c

/-- The classifier's work on one sample (R104): skipped while METER_FAIL is set (R102). -/
def State.classify (s : State) (ts mv : Nat) (lastOfTick : Bool) : State :=
  if s.on F.PWR_ERR_METER_FAIL then s
  else
    ((((s.stepTransient ts mv).stepSag ts mv).stepDropout ts mv).stepSwell ts mv).when lastOfTick State.stepRipple
      |>.stepLoss ts mv

/-- A supply sample (R99 to R113): the time moves to it, the readings are taken, every class and the limiter step, and
the shed request and refresh-only follow. OFF takes no sample (R100). -/
def execSupplySample (mv ma : BitVec 16) (s : State) : Host.Outcome State Fault Refusal :=
  if s.power.phase = .off then done s
  else
    let ts := s.nextSample
    let last := decide (ts % 8192 = 8176)
    let a := (s.at ts).meter ts mv.toNat ma.toNat
    let b := ((a.classify ts mv.toNat last).stepLimiter ts).countThermal
    let c := { b with supply := { b.supply with lastMv := some mv.toNat } }
    done ((c.when last State.endTickMeter).updateShed.updateRefreshOnly)

/-- The overvoltage trip (R93): the converters stop and LOSS is declared with OVP set. EXTREME_MV is the highest sample
of the run above the trip, 0 with METER_FAIL (R103). DESIGN CHOICE (log 141): the run is that of the samples above 65.000 V,
and START is its first sample; where no sample stood above it, the spec states neither EXTREME_MV nor DECLARE_SAMPLES nor
START: they are 0, 0 and the command's time. -/
def execOvervoltageTrip (s : State) : Host.Outcome State Fault Refusal :=
  if s.power.phase = .off then done s
  else
    let r := s.supply.ovpRun
    let start := if r.count = 0 then s.time else r.start
    done (s.declareLoss start r.count (if s.on F.PWR_ERR_METER_FAIL then 0 else r.extreme) .overvoltage)

/-- The undervoltage comparator (R103): it declares LOSS only while METER_FAIL is set; EXTREME_MV reads 0 and the number
of declaring samples is a free value (no sample declares it). DESIGN CHOICE (log 142): START is the command's time. -/
def execUndervoltageComparator (s : State) : Host.Outcome State Fault Refusal :=
  if s.power.phase ≠ .off ∧ s.on F.PWR_ERR_METER_FAIL then
    let (v, t) := s.draw
    done (t.declareLoss s.time (v.toNat % 2 ^ 16) 0 .voltage)
  else done s

/-- An open RIPPLE with the samples of the tick in progress counted in: those after the last sample of a tick that has
been judged. -/
def Supply.rippleSoFar (u : Supply) : Option OpenEvent :=
  let more := if u.lastSample.any fun t => t % 8192 == 8176 then 0 else u.tickSamples
  u.ripple.map fun e => { e with samples := e.samples + more }

/-- The open events of the five classes that METER_FAIL closes, each with its DURATION through the last sample taken
(R102). -/
def Supply.openFive (u : Supply) : List OpenEvent :=
  [u.sag, u.dropout, u.swell, u.transient, u.rippleSoFar].filterMap id

/-- METER_FAIL (R102): it is set, open entries of SAG, DROPOUT, SWELL, TRANSIENT and RIPPLE close, refresh-only of an
open DROPOUT ends, PWR_TICK_POWER reads 0xFFFF, and METER_FAIL itself is a shed source. -/
def State.meterFail (s : State) : State :=
  let t := overList s.supply.openFive s State.closeEvent
  let u := { t with supply := { t.supply with
    sag := none, dropout := none, swell := none, transient := none, ripple := none
    sagRun := {}, dropoutRun := {}, swellRun := {}, lossRun := {}
    sagQuiet := 0, dropoutQuiet := 0, swellQuiet := 0, transientQuiet := 0 } }
  let v := ((((u.lower F.PWR_STATUS_SAG_ACTIVE).lower F.PWR_STATUS_DROPOUT_ACTIVE).lower
    F.PWR_STATUS_SWELL_ACTIVE).lower F.PWR_STATUS_RIPPLE_ACTIVE).raise F.PWR_ERR_METER_FAIL
  (v.setFld F.PWR_TICK_POWER_POWER 0xFFFF).updateShed.updateRefreshOnly

/-- The front end's self-check, once per tick (R102). -/
def execMeterSelfCheck (ok : Bool) (s : State) : Host.Outcome State Fault Refusal :=
  if s.power.phase = .off then done s
  else
    let t := s.setFld F.PWR_STATUS_METER_OK (bit ok)
    done (if ok || s.on F.PWR_ERR_METER_FAIL then t else t.meterFail)

/-! ### Temperatures (R115 to R118) -/

/-- The highest TEMP_C of the eight stacks. -/
def State.hottestStack (s : State) : Nat := ((List.range 8).map fun k => s.fld (F.HBM_STATUS_TEMP_C k)).foldl max 0

/-- The thermal shed request after a reading (R116), logged as THERMAL for each of its periods. The number of declaring
samples of a THERMAL entry is a free value (R116 states none). -/
def State.stepThermal (s : State) : State :=
  let hbm := s.hottestStack
  let die := s.fld F.PWR_TEMP_DIE_MAX_C
  let peak := max hbm die
  match s.supply.thermal with
  | none =>
    if 95 ≤ hbm ∨ 105 ≤ die then
      let (v, t) := s.draw
      let (e, u) := t.openEvent .thermal s.time (v.toNat % 2 ^ 16) peak
      let e0 : OpenEvent := { e with samples := 0 }
      { (u.updateEvent e0).raise F.PWR_TEMP_THERMAL_REQ with supply := { u.supply with thermal := some e0 } }
    else s
  | some e =>
    let e' : OpenEvent := ⟨e.seq, e.samples, max e.extreme peak⟩
    if hbm ≤ 90 ∧ die ≤ 100 then
      let t := (s.closeEvent e').lower F.PWR_TEMP_THERMAL_REQ
      { t with supply := { t.supply with thermal := none } }
    else
      let t := s.updateEvent e'
      { t with supply := { t.supply with thermal := some e' } }

/-- A read of the 16 junction sensors (R115, R116, R118). DESIGN CHOICE: the trip declares LOSS also while METER_FAIL is set
(log 143); START of its entry is the command's time and DECLARE_SAMPLES a free value (log 142). -/
def execJunctionSensorRead (temps : List (BitVec 8)) (s : State) : Host.Outcome State Fault Refusal :=
  if s.power.phase = .off then done s
  else
    let m := (temps.map BitVec.toNat).foldl max 0
    let hot := decide (125 ≤ m)
    let n := if hot then s.supply.hotReads + 1 else 0
    let hi := if hot then max s.supply.hotMax m else 0
    let a := (s.setFld F.PWR_TEMP_DIE_MAX_C m).setFld F.PWR_TEMP_DIE_PEAK_C (max m (s.fld F.PWR_TEMP_DIE_PEAK_C))
    let b := { a with supply := { a.supply with hotReads := n, hotMax := hi } }.stepThermal.updateShed
    if 2 ≤ n then
      let (v, t) := b.draw
      done (t.declareLoss s.time (v.toNat % 2 ^ 16) (if s.on F.PWR_ERR_METER_FAIL then 0 else max m s.supply.hotMax)
        .thermal)
    else done b

/-- A stack reports its temperature (R116, R117). -/
def execHbmTempReport (stack : Fin 8) (temp : BitVec 8) (s : State) : Host.Outcome State Fault Refusal :=
  if s.power.phase = .off then done s
  else
    let k := stack.val
    let c := temp.toNat
    let crit := if 105 ≤ c then true else if c ≤ 100 then false else s.on (F.HBM_STATUS_TEMP_CRITICAL k)
    let hot := if 95 ≤ c then true else if c ≤ 90 then false else s.on (F.HBM_STATUS_TEMP_HOT k)
    let a := ((s.setFld (F.HBM_STATUS_TEMP_C k) c).setFld (F.HBM_STATUS_TEMP_HOT k) (bit hot)).setFld
      (F.HBM_STATUS_TEMP_CRITICAL k) (bit crit)
    let b := a.setFld F.PWR_TEMP_HBM_MAX_C a.hottestStack
    done b.stepThermal.updateShed.updateRefreshOnly

end Sys2Proof.Machine
end

