-- ==== Sys2Proof/Machine/Regions.lean ====
section
/-! DEFINITION. Regions (07_regions_and_crash_contract.md, R325 to R358): faults and the fault stop, the region reset, the
release, and the checks of COMMIT. The region commands themselves are register writes (HostWrite.lean). -/

namespace Sys2Proof.Machine

/-! ### Events and islands -/

/-- ISLANDS_POWERED of region n. -/
def State.islandsOn (s : State) (n : Nat) : Bool :=
  s.rgnState n != rFREE && !(s.islandsOf n).isEmpty && (s.islandsOf n).all fun i => s.bitAt F.CLK_ISLAND_POWERED i

/-- RGN_STATE.ISLANDS_POWERED of region n, and M0 or M1 of the module (R150, R151), brought into line. -/
def State.noteIslands (s : State) (n : Nat) : State :=
  let t := s.setFld (F.RGN_STATE_ISLANDS_POWERED n) (bit (s.islandsOn n))
  let st := bit (t.fld F.CLK_ISLAND_POWERED == 0)
  if t.power.phase ≠ .run ∨ 2 ≤ t.fld F.PWR_STATE_STATE ∨ t.fld F.PWR_STATE_STATE = st then t
  else { t.setFld F.PWR_STATE_STATE st with power := { t.power with m1Ticks := 0 } }

/-- The cluster memories, read-only caches and core state of region n are lost. -/
def State.dropClusters (s : State) (n : Nat) : State :=
  { s with clusters := s.clusters.filter fun e => !s.inRect n (tileOfCluster e.1)
           cores := s.cores.filter fun e => !s.inRect n (tileOfCore e.1) }

/-- A packet stands at a cluster tile of region n, or has flits on a way through one. -/
def inClusters (n : Nat) (p : Packet) : Bool :=
  p.region == n && match p.place with
    | .unit => false
    | .source => !isSliceTile (agentTile p.src)
    | .plane => p.path.any fun t => !isSliceTile t
    | .bounce => p.relay.any fun t => !isSliceTile t

/-- Region n's islands are gated (R152 to R154): the loaded image content of their tiles must be rebuilt, and what their routers hold
is lost. -/
def State.gateIslands (s : State) (n : Nat) : State :=
  let t := overList (s.islandsOf n) (s.clearPackets (inClusters n)) fun u i => u.setBit F.CLK_ISLAND_POWERED i false
  (((t.dropClusters n).modRgn n fun r => { r with needRebuild := r.image.isSome }).noteIslands n).darkenXings

/-- Bits of a mask. -/
def maskOf (l : List Nat) : Nat := l.foldl (fun m i => m ||| 2 ^ i) 0

/-- RGN_SLICE_MASK, RGN_ISLAND_MASK, and OWNED and REGION of the slices that region n holds or held (`was`). -/
def State.noteRect (s : State) (n : Nat) (was : List Nat) : State :=
  let live := s.rgnState n != rFREE
  let now := if live then s.slicesOf n else []
  let m := maskOf now
  let t := ((s.setWord (R.RGN_SLICE_MASK_LO n) m).setWord (R.RGN_SLICE_MASK_HI n) (m / 2 ^ 32)).setWord (R.RGN_ISLAND_MASK n)
    (if live then maskOf (s.islandsOf n) else 0)
  let t := overList was t fun u i => (u.setFld (F.MSL_STATE_OWNED i) 0).setFld (F.MSL_STATE_REGION i) 0
  overList now t fun u i => (u.setFld (F.MSL_STATE_OWNED i) 1).setFld (F.MSL_STATE_REGION i) n

/-! ### The launch in progress -/

/-- The launch of region n ends with a status: RESULT is the number of frames done (R481), and POISON as R782 gives. -/
def State.endLaunch (s : State) (n status code : Nat) : State :=
  match (s.rgn n).launch with
  | none => s
  | some l =>
    let t := s.modRgn n fun r => { r with launch := none }
    t.finish n l.ring l.index status code fun d => { d with poison := d.poison || l.poison, result := l.framesDone }

/-- A CONFIG_UE of a tile of region n (18, R770, R803), or a CORE_UE of a core: whether in its program memory or its
registers the command does not say, so the log's UNIT_KIND is a free value between the two; UNIT_INDEX is its cluster, the
unit that INT_CLU_ECC counts. -/
def State.environmentFault (s : State) (n : Nat) (f : FaultReport) : State :=
  if f.cause = fcCONFIG_UE ∧ s.inRect n f.tile then
    let t := s.integRaise { cls := 4, kind := kConfig, unit := f.tile, region := some n } F.INT_INTEG_STATUS_CONFIG_UE
    t.regionFault n f
  else if f.cause = fcCORE_EXCEPTION ∧ f.excCode = eCORE_UE ∧ s.regionOfCore f.core = some n
      ∧ (s.core f.core).status = .running then
    let (v, t) := s.draw
    let kind := if v.getLsbD 0 then kProgram else kCoreRegs
    let u := t.clusterUe (f.core / 8) { cls := 4, kind := kind, unit := f.core / 8, region := some n }
    let w := u.modCore f.core fun c => { c with status := .halted, wait := .none }
    w.regionFault n { f with tile := tileOfCore f.core, opOffset := (s.core f.core).pc }
  else s

/-- What orders the faults of one cycle (R344): the global core ID; a fault without one comes after (log 80). -/
def faultOrder (f : FaultReport) : Nat := if f.cause = fcCORE_EXCEPTION then f.core else 1024

/-- The fault of the lowest global core ID comes first. -/
def firstFault (f : FaultReport) : List FaultReport → FaultReport × List FaultReport
  | [] => (f, [])
  | g :: rest =>
    let r := firstFault g rest
    if faultOrder r.1 < faultOrder f then (r.1, f :: r.2) else (f, g :: rest)

/-- REGION_FAULT (R341, R344): a report that a unit of the region has sent reaches the region controller, with `more`, those
that reach it in the same cycle; or an uncorrectable error that the environment brings about. -/
def execRegionFault (region : Fin 32) (f : FaultReport) (more : List FaultReport) (s : State) :
    Host.Outcome State Fault Refusal :=
  let n := region.val
  let l := (s.rgn n).reports
  if l.contains f then
    let r := firstFault f (more.filter fun g => (l.erase f).contains g)
    let t := s.modRgn n fun r => { r with reports := more.foldl List.erase (l.erase f) }
    done (overList (r.1 :: r.2) t fun u g => u.regionFault n g)
  else if s.rgnState n = rFREE ∨ s.rgnState n = rCONFIGURING then done s
  else done (s.environmentFault n f)

/-! ### The end of the fault stop (R341, R346, R376) -/

/-- A MESSAGE of region n stands in its plane, as one may for good whose queue is full (R541). -/
def State.messageStands (s : State) (n : Nat) : Bool :=
  s.net.any fun p => p.region == n && p.kind == .message && (p.place == .plane || p.place == .bounce)

/-- Requests that wait behind a MESSAGE that stands (R527): the plane has run, and the packet has neither reached its unit nor waits
for a route change or an island. -/
def State.behindMessage (s : State) (n : Nat) (p : Packet) : Bool :=
  p.vc == 0 && s.messageStands n && !s.bitAt F.DYN_QUIESCING_QUIESCING n
    && match p.place with
      | .unit => false
      | .source => s.pathOpen (s.wayOf p)
      | _ => (s.atUnit p).isNone

/-- A packet of region n that the fault stop waits for: not a MESSAGE (its queue may be full for good, R541), nothing that such
MESSAGEs hold up (log 155), and not one whose destination is cut off. -/
def State.stopWaits (s : State) (n : Nat) (p : Packet) : Bool :=
  p.region == n && p.kind != .message && !s.cutOff n p.dstTile && !s.behindMessage n p

/-- A core's buffered store that can still be accepted. -/
def State.storeWaits (s : State) (n g : Nat) (e : SbEntry) : Bool :=
  (match s.server n (tileOfCore g) e.addr false with
    | .slice i => !s.sliceFenced i
    | _ => true)
  && match s.net.find? fun p => p.id == e.id with
    | some p => !s.behindMessage n p
    | none => true

/-- A tile of region n whose clocks run and whose packets may enter the plane. -/
def State.tileLives (s : State) (n t : Nat) : Bool := !s.tileFenced t && !(s.rgn n).isolated.contains t

/-- Every core of region n has halted, every buffered store is accepted and every queued transfer has run. -/
def State.coresDrained (s : State) (n : Nat) : Bool :=
  (s.cores.all fun e => !s.inRect n (tileOfCore e.1) || !s.tileLives n (tileOfCore e.1)
      || (e.2.status != .running && e.2.store.all fun x => !s.storeWaits n e.1 x))
    && s.clusters.all fun e => !s.inRect n (tileOfCluster e.1) || !s.tileLives n (tileOfCluster e.1) || e.2.dma.isEmpty

/-- A tile of region n stands still because its half's PLL has lost lock (R88). With the halves unpowered nothing of the
region waits for a clock: a drain then ends at once (R142). -/
def State.clocksOut (s : State) (n : Nat) : Bool := s.power.halves && (s.tilesOf n).any fun t => s.clockStopped t

/-- FAULT_STOP_END (R341): the region is FAULTED, and the ORDERED descriptors behind its LAUNCH are aborted (R346), before
a reset that FAULT_ACTION asks for (R343); or the stop goes on into the reset that waits (R349). -/
def execFaultStopEnd (region : Fin 32) (s : State) : Host.Outcome State Fault Refusal :=
  let n := region.val
  let r := s.rgn n
  let s' := s.settle
  if !r.faultStop || s.clocksOut n || !s'.coresDrained n || s'.net.any (s'.stopWaits n) then done s
  else
    let code := s.fld (F.RGN_FAULT_CAUSE n)
    let t := s'.endLaunch n stREGION_FAULT code
    match r.pendingReset with
    | some p =>
      done ((t.modRgn n fun q => { q with faultStop := false, pendingReset := none, clockLost := false }).startReset n p.why
        p.toFree)
    | none =>
      let u := t.modRgn n fun q => { q with faultRing := none }
      let u := match r.faultRing with
        | some i => u.abortOrdered n i
        | none => u
      done (u.enterFaulted n)

/-! ### The drain of a region reset (R347, R319) -/

/-- The ABORT_CAUSE of a reset (R307). -/
def ResetWhy.cause : ResetWhy → Nat
  | .command => acREGION_RESET
  | .flr => acVF_FLR
  | .fault => acREGION_RESET
  | .halt => acFACILITY_HALT

/-- A record is written if the completion ring has room, and lost otherwise (R319). -/
def State.writeOrLose (s : State) (n : Nat) (r : Record) : State :=
  if s.mayRequest (n + 1) && !s.cqFull n && (s.vf n).held.isEmpty then s.writeRecord n r
  else s.countSat (F.RING_VF_STATUS_LOST_RECORDS n)

/-- Every fetched descriptor of VF n that has not completed ends with an ABORTED record, in ring and index order, that of the
LAUNCH with the frames it ran (R305); the records held are written first, as far as there is room (R319). -/
def State.abortAll (s : State) (n cause : Nat) : State :=
  let stop (i : Nat) (d : Desc) : Desc :=
    let e := d.abort cause
    match (s.rgn n).launch with
    | some l =>
      if l.ring = i ∧ l.index = d.index ∧ d.phase = .running then
        { e with poison := e.poison || l.poison, result := l.framesDone }
      else e
    | none => e
  let v := s.vf n
  let t := if s.mayRequest (n + 1) then State.flushHeld (v.held.length + v.waiting.length) n s else s
  let w := t.vf n
  let t := overList (w.held ++ w.waiting) (t.modVf n fun x => { x with held := [], waiting := [], barriers := [] })
    fun u _ => u.countSat (F.RING_VF_STATUS_LOST_RECORDS n)
  let t := overList (List.range 8) (t.noteHeld n) fun u i =>
    overList (((u.ring n i).descs.map (stop i)).filter fun d => d.cr || d.finalStatus != stSUCCESS)
      (u.modRing n i fun r => { r with descs := [] }) fun x d => x.writeOrLose n (x.descRecord i d)
  t.noteStatus n 8

/-- A request on a link whose requester is gone: its answer is discarded. -/
def orphan (p : Nat) (q : Packet) : Packet := { q with kind := .read, src := .port p }

/-- What region n's planes hold is discarded, but lines that return to their home slices; requests that wait at its ports
are discarded, and answers to those sent find no requester (17, after R760). -/
def State.discardTraffic (s : State) (n : Nat) : State :=
  let keep (k : Packet) : Bool := k.region != n || isResponse k.kind || k.kind == .credit
  let port (p : Nat) (q : Port) : Port :=
    { q with outq := q.outq.filter keep
             flight := q.flight.map fun (k : Packet) => if k.region = n then orphan p k else k }
  let t := s.clearPackets fun p => p.region == n
  let back := s.net.filter fun p => p.region == n && p.line && p.kind == .write
  { t with
    net := t.net ++ back.map fun p => { p with place := .unit }
    edge := s.edge.filter fun p => p.region != n
    ports := s.ports.map fun e => (e.1, port e.1 e.2) }

/-- Every core of region n is idle: its store buffer, its queued transfers and its state are discarded. -/
def State.stopCores (s : State) (n : Nat) : State :=
  { s with
    cores := s.cores.map fun e =>
      if s.inRect n (tileOfCore e.1) then (e.1, { program := e.2.program, hasProgram := e.2.hasProgram }) else e
    clusters := s.clusters.map fun e =>
      if s.inRect n (tileOfCluster e.1) then (e.1, ({ e.2 with dma := [] } : Cluster)) else e }

/-- Microseconds between two device times, rounded as an open constant has it (log 3). -/
def elapsedUs (s : State) (start : Nat) : Nat := min (roundOpen ((s.time + 2 ^ 48 - start) % 2 ^ 48 * 1000) 16384) 65535

/-- REGION_RESET_DRAIN_END (R347): RESETTING. -/
def execRegionResetDrainEnd (region : Fin 32) (s : State) : Host.Outcome State Fault Refusal :=
  let n := region.val
  match (s.rgn n).reset with
  | none => done s
  | some x =>
    if x.drainEnd.isSome || s.clocksOut n then done s
    else
      let t := (s.cutLoad n).abortAll n x.why.cause
      let t := ((t.discardTraffic n).stopCores n).modRgn n fun r => { r with launch := none, faultStop := false }
      let t := (t.applyFences n).modRgn n fun r =>
        { r with reports := [], reset := some { x with drainEnd := some s.time } }
      done ((t.setFld (F.RGN_STATE_STATE n) rRESETTING).setFld (F.RGN_LAST_RESET_DRAIN_US n) (elapsedUs s x.start))

/-! ### The end of a region reset (R347, R348) -/

/-- Borrowed lines return and are applied at their home slices; Meridian copies are dropped. -/
def State.settleRegion (s : State) (n : Nat) : State :=
  let t := overList (s.net.filter fun p => p.region == n && p.line && p.kind == .write) s fun u p =>
    match p.dst with
    | .slice h => u.applyReturn p h
    | _ => u
  let t := overList (t.slicesOf n) t fun u h => overList (u.slice h).tracker u fun v e => v.settleLine n h e.line true
  overList (t.slicesOf n) t fun u i =>
    (u.modSlice i fun sl => { sl with lines := sl.lines.filter fun l => l.kind == .home, tracker := [] }).noteMeridian i

/-- Combining inputs and queues are emptied, their channel credits forgotten, and the reads that wait in the slices' class
queues leave them (R725). -/
def State.emptyQueues (s : State) (n : Nat) : State :=
  let t := overList (s.slicesOf n) s fun u i =>
    u.modSlice i fun sl => { sl with combIn := [], combs := [], credits := [], msgUnacked := 0 }
  { t with hreqs := t.hreqs.filter fun r => r.region != n || r.write || r.injected || r.granted }

/-- Control-network messages of region n are discarded. -/
def State.dropControl (s : State) (n : Nat) : State :=
  { s with ctl := s.ctl.filter fun e =>
      match e.2 with
      | .notify g h _ => !s.inRect n (tileOfCore g) && !s.inRect n (tileOfCore h)
      | .chanCredit a _ _ => !s.inRect n a
      | .relayCredit r _ _ _ => r != n }

/-- Routes in force with nothing in the plane: those computed at COMMIT, or, where a route change was under way as the plane was
emptied, those it computes, which EPOCH counts (R536, R554). -/
def State.resetRoutes (s : State) (n : Nat) : State :=
  (s.changeRoutes n (s.routeMap n)).when (s.bitAt F.DYN_QUIESCING_QUIESCING n) fun t => t.countSat (F.DYN_ROUTE_EPOCH n)

/-- The rectangle of region n holds a fenced slice, or two slices without a route between them (R328, R534). -/
def State.sliceMissing (s : State) (n : Nat) : Bool :=
  (s.slicesOf n).any (fun i => s.sliceFenced i) || !(s.routeMap n).slicesJoined

/-- REGION_RESET_END (R347, R348): the region is READY or FAULTED, or its release goes on to the clearing (R353). -/
def execRegionResetEnd (region : Fin 32) (s : State) : Host.Outcome State Fault Refusal :=
  let n := region.val
  match (s.rgn n).reset with
  | none => done s
  | some x =>
    if x.drainEnd.isNone then done s
    else
      let t := (((s.settleRegion n).emptyQueues n).setEpochs n false fun _ => true).dropControl n
      let t := (t.gateIslands n).resetRoutes n
      let cold := x.why == .flr || (s.fn (n + 1)).flr
      let t := ((t.resetRings n cold).modFn (n + 1) fun f => { f with flr := false }).setFld (F.RGN_LAST_RESET_RESET_US n)
        (elapsedUs s x.start)
      let t := t.modRgn n fun r => { r with reports := [], reset := none, faultRing := none, clockLost := false, clearing := x.toFree }
      if x.toFree then done t
      else
        done ((t.setFld (F.RGN_STATE_STATE n) (if t.sliceMissing n then rFAULTED else rREADY)).regionEvent n true)

/-! ### Release (R353, R354) -/

/-- The write-backs that wait at a channel are granted, in order of age. -/
def State.drainChannel (s : State) (ch : Nat) : State :=
  overList (s.hreqs.filter fun r => r.chan == ch && r.write && !r.granted) s fun u r => u.grant ch r

/-- Every dirty line of slice i goes back to its channels (class MGMT). -/
def State.flushSlice (s : State) (n i : Nat) : State :=
  let dirty := (s.slice i).lines.filter fun l => l.kind == .home
  let clean (l : CLine) : CLine := if l.kind = .home then { l with dirty := [] } else l
  let t := overList dirty s fun u l => u.writeBack n i cMGMT l
  let t := t.modSlice i fun sl => { sl with lines := sl.lines.map clean }
  (t.drainChannel (channelOfSlice i)).drainChannel (channelOfSlice i + 1)

/-- Registers of the map between two offsets at their cold values. -/
def State.coldRange (s : State) (lo hi : Nat) : State :=
  { s with regs := s.regs.filter fun e => e.1 < lo || hi ≤ e.1 }

/-- The counters of slice i read 0 (R630, R691). -/
def State.zeroSlice (s : State) (i : Nat) : State :=
  (s.coldRange (R.MSL_EXT_HITS i) (R.MSL_OVF_USED i + 4)).coldRange (R.MSL_ATOM_COUNT i) (R.MSL_GTH_FAIL_ENTRY i + 4)

/-- The units in STANDBY of region n return to service as it reaches FREE (R862); a tile's memories are overwritten first
(R863), and it stays in STANDBY, out of use, until they are. -/
def State.endStandby (s : State) (n : Nat) : State :=
  let tiles := (s.tilesOf n).filter fun t => s.unitState .tile t == 2
  let t := overList (s.coresOf n) s fun u g => u.when (u.unitState .core g == 2) fun v => v.putUnit .core g 0
  let t := overList (s.portsOf n) t fun u p => u.when (u.unitState .port p == 2) fun v => v.putUnit .port p 0
  { t with clearing := t.clearing ++ tiles }

/-- Region n is FREE: no image, its setup registers and fault registers at their cold values, its ports unassigned
(R353, R363, R628, R726, R554). -/
def State.freeRegion (s : State) (n : Nat) : State :=
  let was := s.slicesOf n
  let t := overList was (s.endStandby n) fun u i =>
    ((u.setFld (F.MSL_STATE_PIN_WAYS i) 0).setFld (F.MSL_STATE_EXT_SPLIT i) 0).zeroSlice i
  let t := overList (s.portsOf n) t fun u p => (u.lower (F.HL_ASSIGN_VALID p)).setFld (F.HL_ASSIGN_REGION p) 0
  let t := ((t.dropImage n).modRgn n fun _ => {}).setWord (R.RGN_STATE n) 0
  let t := (t.noteRect n was).coldRange (R.RGN_RECT n) (R.RGN_ERR n)
  let t := (t.coldRange (R.RGN_FAULT n) (R.RGN_COUNTS n)).coldRange (R.WIN_CTRL n 0) (R.RGN_CMD n + 0x6FC)
  ((t.coldRange (R.DYN_ROUTE n) (R.DYN_ROUTE n + 16)).setBit F.DYN_QUIESCING_QUIESCING n false).regionEvent n false

/-- The hardware clear (R354): slices, cluster memories and read-only caches hold nothing written before it, and the
requests of the region's channels are done. -/
def State.clearStorage (s : State) (n : Nat) : State :=
  let t := s.dropClusters n
  { t with
    slices := t.slices.filter fun e => !s.inRect n (tileOfSlice e.1)
    hreqs := t.hreqs.filter fun r => r.region != n
    chans := t.chans.filter fun e => !s.inRect n (tileOfSlice (sliceOfChannel e.1)) }

/-- RELEASE_CLEAR_END (R353): dirty lines are written back, once refresh-only lets them; storage is cleared; FREE. -/
def execReleaseClearEnd (region : Fin 32) (s : State) : Host.Outcome State Fault Refusal :=
  let n := region.val
  if !(s.rgn n).clearing || s.clocksOut n
      || (s.slicesOf n).any (fun i => s.chanHeld (channelOfSlice i)) then done s
  else
    let t := overList (s.slicesOf n) s fun u i => u.flushSlice n i
    done (((t.gateIslands n).clearStorage n).freeRegion n)

/-! ### COMMIT (R338, R597, R709) -/

/-- The physical size of a window in each slice of its list (R597). -/
def State.winPhysical (s : State) (n w : Nat) : Nat :=
  let share := s.winSize n w / (s.winSlices n w).length
  if s.on (F.WIN_CTRL_LINE_MODE n w) then share / 4 + 128 * s.fld (F.WIN_OVF_OVF_FRAMES n w)
  else if s.on (F.WIN_CTRL_ACCUM n w) then 4 * share
  else share

/-- The slice-local range of a window. -/
def State.winLocal (s : State) (n w : Nat) : Nat × Nat :=
  (s.fld (F.WIN_SLICE_BASE_SLICE_BASE n w) * 256, s.winPhysical n w)

/-- A valid window meets R597 by itself. -/
def State.windowOk (s : State) (n w : Nat) : Bool :=
  let k := (s.winSlices n w).length
  let size := s.winSize n w
  let comp := s.on (F.WIN_CTRL_LINE_MODE n w)
  let exact := s.on (F.WIN_CTRL_ACCUM n w)
  let ovf := s.fld (F.WIN_OVF_OVF_FRAMES n w)
  let l := s.winLocal n w
  s.winBase n w % 65536 == 0 && decide (s.winBase n w + size ≤ 2 ^ 46) && decide (1 ≤ k) && size != 0
    && size % (k * 512) == 0 && !(comp && exact) && !(exact && s.on (F.WIN_CTRL_READ_ONLY n w))
    && (exact || s.fld (F.WIN_CTRL_EXACT_POINT n w) == 0)
    && (if comp then decide (ovf * 512 ≤ 3 * (size / k)) else ovf == 0)
    && decide (l.1 + l.2 ≤ s.fld (F.RGN_MEM_CFG_PIN_WAYS n) * 262144)

/-- Two valid windows meet R597 together. -/
def State.windowsApart (s : State) (n v w : Nat) : Bool :=
  !overlap (s.winBase n v, s.winSize n v) (s.winBase n w, s.winSize n w)
    && (!overlap (s.winLocal n v) (s.winLocal n w) || !(s.winSlices n v).any (s.winSlices n w).contains)

/-- The WINDOW check (code 4). -/
def State.windowsOk (s : State) (n : Nat) : Bool :=
  let l := (List.range 16).filter fun w => s.on (F.WIN_CTRL_VALID n w)
  (l.all (s.windowOk n)) && l.all fun v => l.all fun w => w ≤ v || s.windowsApart n v w

/-- The BUDGET check (code 5, R709). -/
def State.budgetsOk (s : State) (n : Nat) : Bool :=
  (List.range 4).all fun c =>
    let b := s.fld (F.RGN_BUDGET_BUDGET n c)
    b == 0 || (decide (s.channelCount n ≤ b) && decide (s.columnCount n ≤ b))

/-- A region that holds slices on a port's Edge Ring (R27). -/
def State.portFits (s : State) (n p : Nat) : Bool := (s.slicesOf n).any fun i => ringOfSlice i == ringOfPort p

/-- The code of the first check of COMMIT that fails; 0 when every check passes (R338). -/
def State.commitCode (s : State) (n : Nat) : Nat :=
  if s.fld (F.RGN_RECT_EXTENT n) = 0 then 1
  else if s.sliceMissing n then 2
  else if s.split n && !(s.fld (F.RGN_RECT_X0 n) ≤ 7 && 8 ≤ s.fld (F.RGN_RECT_X1 n)) then 3
  else if !s.windowsOk n then 4
  else if !s.budgetsOk n then 5
  else if !((s.portsOf n).all (s.portFits n)) then 6
  else 0

/-- What COMMIT sets in slice i of region n (R592, R630, R691, R788, R789, R793, R895). -/
def State.commitSlice (s : State) (n i : Nat) : State :=
  let ch := channelOfSlice i
  let maxOcc (u : State) (c : Nat) : State :=
    u.setFld (F.HBM_CH_QUEUE_MAX_OCC (c / 16) (c % 16)) (u.fld (F.HBM_CH_QUEUE_OCC (c / 16) (c % 16)))
  let t := s.zeroSlice i
  let t := (t.setFld (F.MSL_STATE_PIN_WAYS i) (s.fld (F.RGN_MEM_CFG_PIN_WAYS n))).setFld (F.MSL_STATE_EXT_SPLIT i)
    (bit (s.split n))
  let t := (t.lower (F.MSL_SCRUB_CTRL_HBM_EN i)).setFld (F.MSL_SCRUB_SRAM_POSITION i) 0
  let t := (t.setFld (F.MSL_SCRUB_HBM_POS_POSITION i) 0).modSlice i fun _ => { sweepSram := s.time, sweepHbm := s.time }
  maxOcc (maxOcc { t with chans := smDel (smDel t.chans ch) (ch + 1) } ch) (ch + 1)

/-- A COMMIT that passes every check: the region is READY. -/
def State.commitRegion (s : State) (n : Nat) : State :=
  let t := overList (s.slicesOf n) s fun u i => u.commitSlice n i
  let t := overList (List.range 16) t fun u w =>
    u.setFld (F.WIN_SLICES_N n w) (if u.on (F.WIN_CTRL_VALID n w) then (u.winSlices n w).length else 0)
  let t := ((t.coldRange (R.RGN_DLY_SERVED n 0) (R.RGN_AGE_PROMOTED n + 4)).setWord (R.RGN_OVF_LOST n) 0).setWord
    (R.DYN_ROUTE n) 0
  (t.resetRoutes n).setFld (F.RGN_STATE_STATE n) rREADY

/-- CONFIGURE accepted (R334): CONFIGURING, and the region's energy starts at 0 (R135). -/
def State.configureRegion (s : State) (n : Nat) : State :=
  let t := (s.setFld (F.RGN_STATE_STATE n) rCONFIGURING).setPair (R.PWR_RGN_ENERGY_LO n) (R.PWR_RGN_ENERGY_HI n) 0
  t.noteRect n []

end Sys2Proof.Machine
end

