-- ==== Sys2Proof/Machine/Launch.lean ====
section
/-! DEFINITION. Launches and frames: LAUNCH and what it waits for (06, R289, R292 to R295; 04, R152 to R156; 15, R682 to
R685), the end of a launch (12, R583), and the frames of the scheduled plane (10, R476 to R497). -/

namespace Sys2Proof.Machine

/-! ### Starting a launch (R412, R417, R515, R582) -/

/-- Messages left in a receive queue leave it; the credits of IN link channels return (R764). -/
def State.emptyCore (s : State) (n g : Nat) : State :=
  overList ((s.core g).queues.flatMap (·.2)) s fun u m =>
    match u.channel n m.chan with
    | some c =>
      match c.src with
      | .link p ch => u.sendLinkCredit n p ch 1 false
      | _ => u
    | none => u

/-- The initial credit counts of a sender's CREDIT channels, by place in the image (R563, R582). -/
def State.startCredits (s : State) (n : Nat) (mine : ChanEnd → Bool) : SMap Nat :=
  (s.channels n).zipIdx.filterMap fun e => if e.1.credit && mine e.1.src then some (e.2, e.1.credits) else none

/-- Core g as a launch starts it at ENTRY (R417, R412). -/
def State.startCore (s : State) (n : Nat) (p : Program) : State :=
  let g := s.recordCore n p
  (s.emptyCore n g).modCore g fun c =>
    { program := c.program
      hasProgram := true
      status := .running
      pc := p.entry
      sr := BitVec.ofNat 32 (0x9E3779B9 ^^^ (g * 0x00010001))
      credits := s.startCredits n fun e => coreOf e == some g }

/-- The combining queues and inputs of a slice as a launch starts them (R582). -/
def State.startSlice (s : State) (n i : Nat) : State :=
  s.modSlice i fun sl =>
    { sl with combIn := [], combs := [], msgUnacked := 0,
              credits := s.startCredits n fun e => (queueOf e).any fun q => q.1 == i }

/-- The launch is sent to the cores. -/
def State.sendLaunch (s : State) (n : Nat) (im : Image) (entries : List Nat) : State :=
  let t := overList im.programs s fun u p => u.startCore n p
  let t := overList (t.slicesOf n) t fun u i => u.startSlice n i
  let t := overList (t.clustersOf n) t fun u c => u.modCluster c fun k => { k with ro := [] }
  let t := (t.setWord (R.QDBG_RGN_CHN n) 0).setWord (R.QDBG_RGN_DROP n) 0
  (t.modRgn n fun r => { r with launch := r.launch.map fun l =>
    { l with sent := true, checking := false, entries := entries } }).setEpochs n true fun _ => true

/-- A launch that ends before it runs, or that ends well: the region is READY (R333). -/
def State.closeLaunch (s : State) (n status code : Nat) : State :=
  (s.endLaunch n status code).setFld (F.RGN_STATE_STATE n) rREADY

/-- A launch goes on as far as it can: islands powered, image content rebuilt, table set chosen, rule books to check, and
then to the cores (R59, R155, R515, R682). -/
def State.advanceLaunch (s : State) (n : Nat) : State :=
  match (s.rgn n).launch, (s.rgn n).image with
  | some l, some im =>
    if l.sent || l.checking || s.rgnState n != rRUNNING || s.someGated n || (s.rgn n).needRebuild then s
    else
      match s.fittingSet n im with
      | none => s.closeLaunch n stLAUNCH_FAILED 2
      | some k =>
        let t := s.setFld (F.SCH_IMG_STATE_SET_IN_FORCE n) k
        if im.decls.isEmpty then t.sendLaunch n im []
        else t.modRgn n fun r => { r with launch := r.launch.map fun x => { x with checking := true } }
  | _, _ => s

/-- LAUNCH (R289, R292): the region is RUNNING, with the frame number all ones (R478). -/
def execLaunch (d : DescRef) (s : State) : Host.Outcome State Fault Refusal :=
  match s.begin d tyLAUNCH with
  | none => done s
  | some (x, t) =>
    let n := d.vf.val
    let i := d.ring.val
    if t.rgnState n = rFAULTED then done (t.finish n i x.index stREGION_NOT_READY 0)
    else if t.rgnState n ≠ rREADY ∨ !t.isNext n x then done t
    else
      match (t.rgn n).image with
      | none => done (t.finish n i x.index stNO_IMAGE 0)
      | some _ =>
        let l : Launch :=
          { ring := i, index := x.index, frames := x.w 2, watchdogUs := x.w 3
            args := (x.words.drop 4).take 4, start := t.time }
        let u := (t.modRgn n fun r => { r with launch := some l }).setFld (F.RGN_STATE_STATE n) rRUNNING
        done ((u.setWord (R.SCH_FRAME n) 0xFFFFFFFF).advanceLaunch n)

/-! ### Islands (R86, R152, R59, R71 to R73, R540) -/

/-- A mesochronous crossing that failed its verification (R71 to R73) is retrained: its new offsets are in force and in
the training store; or the cluster tile on its cluster side is fenced, XING_FAIL is set and CLK_XING_LOG records the tile.
Log 137: RETRAIN_COUNT counts the retrainings that succeed, and of several failures CLK_XING_LOG holds the latest. -/
def State.crossingFailed (s : State) (c : Crossing) : State :=
  let p := bit c.dynamicPlane
  if c.retrained then
    let put (m : SMap (BitVec 3)) : SMap (BitVec 3) :=
      [xingKey c.tile p 0, xingKey c.tile p 1].foldl (fun m k => smPut m k (Config.trainedOffset s.draws k)) m
    let t : State := { s with
      draws := s.draws + 1, xings := { s.xings with store := put s.xings.store, offset := put s.xings.offset } }
    t.countSat F.CLK_XING_LOG_RETRAIN_COUNT
  else
    let t := ((s.raise F.CLK_ERR_XING_FAIL).raise F.CLK_XING_LOG_VALID).setFld F.CLK_XING_LOG_PLANE p
    let t : State := { t with xings := { t.xings with failed := insertNat t.xings.failed (2 * c.tile + p) } }
    (t.setFld F.CLK_XING_LOG_TILE_ID c.tile).hwFence .tile c.tile 3

/-- Crossings, named by their cluster-side tiles, have power on one of their sides again: they are restored from the
training store and verified (R71, R72); `found` tells which of them failed. -/
def State.verifyXings (s : State) (tiles : List Nat) (found : List Crossing) : State :=
  let x := s.xings
  let x : Xings := { x with
    offset := (tiles.flatMap xingKeys).foldl (fun m k => smPut m k (smGet x.store 0 k)) x.offset
    failed := x.failed.filter fun e => !tiles.contains (e / 2) }
  (overList (found.filter fun c => tiles.contains c.tile.val) { s with xings := x } State.crossingFailed).noteXings

/-- The full training of every crossing at a cold reset (R71): the offsets it finds go into the training store (R70). -/
def State.trainXings (s : State) : State :=
  let keys := (xingRows.flatMap xingRow).flatMap xingKeys
  { s with draws := s.draws + 1, xings := { store := keys.map fun k => (k, Config.trainedOffset s.draws k) } }

/-- The requests of the partners of region n's ports that wait because their way crosses the middle rows (R540, R547). -/
def State.ingressCrosses (s : State) (n : Nat) : Bool :=
  (s.portsOf n).any fun p => (s.port p).ingress.any fun k =>
    (k.kind == .read || k.kind == .write || k.kind == .atomic)
      && (s.localAddr n k).any fun a =>
        (linesOf a (max 1 (max k.size k.bytes.length))).any fun x => (s.crossing n p x.1).any fun way => !way.isEmpty

/-- Region n waits for its islands: a launch that is not yet at the cores, or traffic whose route passes cluster tiles (R540), a
MESSAGE in a router excepted, which may stand there for good (R541). -/
def State.wantsIslands (s : State) (n : Nat) : Bool :=
  ((s.rgn n).launch.any fun l => !l.sent) || s.ingressCrosses n
    || s.net.any fun p => p.region == n && p.place != .unit && (p.kind != .message || p.place == .source)
        && (s.wayOf p).any fun t => !isSliceTile t

/-- ISLAND_UNGATE_COMPLETE: the island is powered, and M0 begins with it (R151); its crossings are verified (R72). -/
def execIslandUngateComplete (island : Fin 32) (crossings : List Crossing) (s : State) :
    Host.Outcome State Fault Refusal :=
  match s.ownerOf ((tilesOfIsland island).headD 0) with
  | none => done s
  | some n =>
    if s.bitAt F.CLK_ISLAND_POWERED island || !s.power.halves || !s.wantsIslands n then done s
    else
      let t := (s.setBit F.CLK_ISLAND_POWERED island true).noteIslands n
      done ((t.verifyXings (xingsOfIsland island) crossings).advanceLaunch n)

/-- A LAUNCH of VF n is fetched and has not completed. -/
def State.launchQueued (s : State) (n : Nat) : Bool :=
  ((s.vf n).rings.flatMap Ring.descs).any fun d => d.type == tyLAUNCH && d.phase != .finished && d.phase != .blocked

/-- ISLAND_IDLE_GATE (R152, R540): no launch for ISLAND_IDLE_US, and no PWR_ISLAND_HOLD. -/
def execIslandIdleGate (region : Fin 32) (s : State) : Host.Outcome State Fault Refusal :=
  let n := region.val
  let st := s.rgnState n
  if (st == rREADY || st == rFAULTED) && !s.launchQueued n && !s.bitAt F.PWR_ISLAND_HOLD_HOLD n
      && !s.wantsIslands n && (s.islandsOf n).any (fun i => s.bitAt F.CLK_ISLAND_POWERED i) then
    done (s.gateIslands n)
  else done s

/-! ### Rebuild (R155, R156) -/

/-- IMAGE_REBUILD: the image is read again from host memory, in class HOSTDMA (R513), and its tiles written, or the region faults with
IMAGE_CHANGED. Bytes of a read that came back poisoned fail the CRC. -/
def execImageRebuild (region : Fin 32) (image : HostData) (s : State) : Host.Outcome State Fault Refusal :=
  let n := region.val
  match (s.rgn n).launch, (s.rgn n).image with
  | some l, some im =>
    if l.sent || s.rgnState n != rRUNNING || s.someGated n || !(s.rgn n).needRebuild || !s.mayRequest (n + 1) then done s
    else
      let b := hostBytes im.hostAddr im.bytes image.bytes
      let bad := image.poisoned.any (· < im.bytes)
      let u := (s.readImage n im.hostAddr im.bytes bad).noteDelayed (s.fld (F.RGN_DLY_BUDGET_DELAYED_BUDGET n cHOSTDMA)) n l.ring
        l.index
      if bad || !crcHolds b im.bytes then done (u.regionFault n { cause := fcIMAGE_CHANGED })
      else
        let im' : Image := { im with sets := imageSets b, programs := (programList b).map (·.1) }
        let t := (u.writePrograms n im').modRgn n fun r => { r with image := some im', needRebuild := false }
        done (t.advanceLaunch n)
  | _, _ => done s

/-! ### Failed host reads (R234, R306, R308) -/

/-- The launch in progress that a descriptor names, while it waits for its image's rebuild. -/
def State.rebuilding (s : State) (d : DescRef) : Bool :=
  (s.rgn d.vf).needRebuild && s.rgnState d.vf == rRUNNING
    && (s.rgn d.vf).launch.any fun l => l.ring == d.ring.val && l.index == d.index && !l.sent

/-- A failed host read: of a descriptor, whose LOAD_SCHEDULE in its second pass leaves no image; or of a rebuild, which
ends its LAUNCH with HOST_DMA_ERROR (R234, R306) and leaves the region READY (DEDUCED, log 150). -/
def State.readFailed (s : State) (d : DescRef) (code : Nat) (mark : State → State) : State :=
  let fail (x : Desc) : Desc := { x with aborted := true, abortCause := acHOST_DMA_ERROR }
  if s.rebuilding d then
    ((mark s).closeLaunch d.vf stHOST_DMA_ERROR code).modDesc d.vf d.ring d.index fail
  else
    match s.desc? d with
    | none => s
    | some x =>
      if x.readsHost && (s.begin d x.type).isSome then
        let t := s.hostFailed d code (mark s)
        t.when (x.type == tyLOAD && x.stage == 2) fun u => u.dropImage d.vf
      else s

/-- HOST_DMA_ERROR_RESPONSE (R234). -/
def execHostDmaErrorResponse (d : DescRef) (e : HostError) (s : State) : Host.Outcome State Fault Refusal :=
  done (s.readFailed d (match e with | .ur => 1 | .ca => 2) fun t => t.hostError e)

/-- HOST_READ_TIMEOUT (R892). -/
def execHostReadTimeout (d : DescRef) (s : State) : Host.Outcome State Fault Refusal :=
  done (s.readFailed d 3 fun t => t.raise F.HOST_ERR_DMA_TIMEOUT)

/-! ### The launch check of the rule books (R677, R678, R682 to R685) -/

/-- A failure of the launch check: REASON, KOFF, ENTRY (R683). -/
abbrev RuleFail := Nat × Nat × Nat

/-- ENTRY for a header word, and for REASON 1 to 3. -/
def noEntry : Nat := 0xFFFFFFFF

/-- The lowest index below `k` that meets a condition. -/
def lowestIndex (k : Nat) (p : Nat → Bool) : Option Nat := (List.range k).find? p

/-- The reasons that the words of a clean header and of clean entries show, in order (R682). -/
def ruleReasons (d : GatherDecl) (header : List Byte) (entries : List Nat) : Option RuleFail :=
  let count (k : Nat) : Nat := leAt header (8 + 4 * k) 4
  let at' (i : Nat) : Nat := entries.getD i 0
  let e := entries.length
  let first (reason : Nat) (p : Nat → Bool) : Option RuleFail := (lowestIndex e p).map fun i => (reason, 0, i)
  ((lowestIndex 32 fun k => count k ≠ entries.countP fun w => bitsOf w 54 5 == k).map fun k => (3, k, noEntry))
    <|> (first 4 fun i => d.inRows ≤ bitsOf (at' i) 0 27 || d.outRows ≤ bitsOf (at' i) 27 27)
    <|> (first 5 fun i => d.noff ≤ bitsOf (at' i) 54 5)
    <|> (first 6 fun i => bitsOf (at' i) 59 5 != 0)
    <|> (if zerosAt header 4 4 && zerosAt header 136 120 then none else some (6, 0, noEntry))

/-- The check of one declared rule book: what fails, ENTRIES, and the state after the reads. -/
def State.checkRuleBook (s : State) (n : Nat) (d : GatherDecl) : Option RuleFail × Nat × State :=
  let (header, bad, t) := s.loadRange n d.rbAddr 256 cGATHER
  let e := leAt header 0 4
  let count (k : Nat) : Nat := leAt header (8 + 4 * k) 4
  if !bad.isEmpty then (some (7, 0, noEntry), 0, t)
  else if d.maxEntries < e then (some (1, 0, noEntry), 0, t)
  else
    let (l, u) := t.ruleEntries n (d.rbAddr + 256) e
    let f := ((lowestIndex 32 fun k => d.maxPerOffset < count k || (d.noff ≤ k && count k != 0)).map fun k => (2, k, noEntry))
      <|> ((lowestIndex e fun i => (l.getD i none).isNone).map fun i => (7, 0, i))
      <|> ruleReasons d header (l.map fun w => w.getD 0)
    (f, e, u)

/-- The failure of the lowest-numbered declaration that fails, with its number, and ENTRIES of each. -/
def State.checkRuleBooks (s : State) (n : Nat) (decls : List GatherDecl) : Option (Nat × RuleFail) × List Nat × State :=
  decls.zipIdx.foldl (fun (acc : Option (Nat × RuleFail) × List Nat × State) d =>
    let (f, e, t) := acc.2.2.checkRuleBook n d.1
    (acc.1 <|> f.map fun x => (d.2, x), acc.2.1 ++ [e], t)) (none, [], s)

/-- The check of a rule book waits: a fetch of the range it reads waits for its channel (R112, R711). -/
def State.rulesHeld (s : State) (n : Nat) (d : GatherDecl) : Bool :=
  s.rangeHeld n cGATHER d.rbAddr 256
    || s.rangeHeld n cGATHER (d.rbAddr + 256) (8 * min d.maxEntries (leAt (s.loadRange n d.rbAddr 4 cGATHER).1 0 4))

/-- GATHER_CHECK_COMPLETE: the launch goes to the cores, or fails with GATHER_OVERFLOW and its record (R683). -/
def execGatherCheckComplete (region : Fin 32) (s : State) : Host.Outcome State Fault Refusal :=
  let n := region.val
  match (s.rgn n).launch, (s.rgn n).image with
  | some l, some im =>
    if !l.checking || s.rgnState n != rRUNNING || im.decls.any (s.rulesHeld n) then done s
    else
      let (f, entries, t) := s.checkRuleBooks n im.decls
      match f with
      | none => done (t.sendLaunch n im entries)
      | some (decl, reason, koff, entry) =>
        let i := (t.slicesOf n).headD 0
        let u := (t.setWord (R.MSL_GTH_FAIL i) (2 ^ 31 + reason * 2 ^ 24 + decl * 2 ^ 16 + koff * 2 ^ 8)).setWord
          (R.MSL_GTH_FAIL_ENTRY i) entry
        done (u.closeLaunch n stLAUNCH_FAILED 1)
  | _, _ => done s

/-! ### Frames (R478 to R481) -/

/-- The cores that have a program record. -/
def State.programCores (s : State) (n : Nat) : List Nat :=
  (((s.rgn n).image.map Image.programs).getD []).map (s.recordCore n)

/-- Every core with a program record has ended (R481). -/
def State.allEnded (s : State) (n : Nat) : Bool := (s.programCores n).all fun g => (s.core g).status == .ended

/-- A core waits in WAITF for a frame that has not begun. -/
def State.inWaitf (s : State) (g : Nat) : Bool := (s.core g).status == .running && (s.core g).wait == .frame

/-- The frame gate (R479, R552). -/
def State.gateHolds (s : State) (n : Nat) : Bool :=
  (s.programCores n).all fun g => (s.core g).status == .ended || s.inWaitf g

/-- Cores whose WAITF frame f satisfies wait no longer. -/
def State.wakeWaitf (s : State) (n f : Nat) : State :=
  overList (s.programCores n) s fun u g =>
    let c := u.core g
    let want := (c.reg (fieldsOf (c.wordAt c.pc)).a).toNat
    if u.inWaitf g && reached f want then u.modCore g fun k => { k with wait := .none } else u

/-! ### The scheduled plane (R477, R482 to R497) -/

/-- A flit: its 64 bytes and the places of its poisoned 8-byte words. -/
abbrev PlaneFlit := List Byte × List Nat

/-- Flits on their way: the tile and input port they are presented at, the slot, the flit. -/
abbrev PlaneLinks := List ((Nat × Nat × Nat) × PlaneFlit)

/-- Sixteen BF16 or FP16 values widened to FP32 (R487, R493). -/
def widenFlit (mode : Nat) (f : PlaneFlit) : PlaneFlit :=
  if mode = 0 then f
  else
    let src := if mode = 1 then bf16 else fp16
    ((List.range 16).flatMap fun k => toBytes 4 (fp32.encode (src.decode (fromBytes ((f.1.drop (2 * k)).take 2)))),
      f.2.flatMap fun w => [2 * w, 2 * w + 1])

/-- The sum of two flits, element by element (R491, R493). -/
def sumFlit (fmt : Nat) (a b : PlaneFlit) : PlaneFlit :=
  let elem (f : PlaneFlit) (k : Nat) : Nat := fromBytes ((f.1.drop (4 * k)).take 4)
  ((List.range 16).flatMap fun k =>
      toBytes 4 (if fmt = 0 then addCodes fp32 (elem a k) (elem b k) else (elem a k + elem b k) % 2 ^ 32),
    (a.2 ++ b.2).eraseDups)

/-- The injection path of a tile reads local memory (R487 to R489). -/
def State.planeRead (s : State) (t a len : Nat) : PlaneFlit × State :=
  (if isSliceTile t then s.sramRead (sliceOfTile t) s.draws a len else (s.cluster (clusterOfTile t)).mem.read s.draws a len,
    { s with draws := s.draws + 1 })

/-- The ejection path writes local memory; poison it writes marks the launch (R493, R782). -/
def State.planeWrite (s : State) (n t a : Nat) (f : PlaneFlit) : State :=
  let bad := f.2.map (a / 8 + ·)
  let u := s.when (!f.2.isEmpty) fun v => v.launchPoison n
  if isSliceTile t then u.sramWrite (sliceOfTile t) (memAt a f.1) bad
  else u.intoCluster (clusterOfTile t) a f.1 bad

/-- The flit presented at an input port in a slot. -/
def flitAt (m : PlaneLinks) (t d slot : Nat) : PlaneFlit := ((m.find? fun e => e.1 == (t, d, slot)).map (·.2)).getD ([], [])

/-- A router acts as an entry says in one slot: injection, the adder, its outputs, ejection (R487 to R491). -/
def State.routerSlot (s : State) (n t slot : Nat) (e : SlotEntry) (m : PlaneLinks) : PlaneLinks × State :=
  let k := slot - e.start
  let step := if e.injMode = 0 then 64 else 32
  let (inj, u) := if e.uses 5 then
      let r := s.planeRead t (32 * e.injAddr + step * k) step
      (widenFlit e.injMode r.1, r.2)
    else (([], []), s)
  let base (src : Nat) : PlaneFlit := if src = 5 then inj else flitAt m t src slot
  let source (src : Nat) : PlaneFlit := if src = 6 then sumFlit e.sumFmt (base e.sumA) (base e.sumB) else base src
  let sent : PlaneLinks := [1, 2, 3, 4].filterMap fun d =>
    let src := e.outs.getD (d - 1) 0
    if src = 0 then none
    else (neighbour t d).map fun v => ((v, opposite d, slot + hopSlots t v), source src)
  (sent ++ m, if e.outL = 0 then u else u.planeWrite n t (32 * e.ejAddr + 64 * k) (source e.outL))

/-- Every router of the region in one slot. -/
def State.planeSlot (s : State) (n slot : Nat) (set : List TileTable) (m : PlaneLinks) : PlaneLinks × State :=
  set.foldl (fun (acc : PlaneLinks × State) r =>
    match r.entries.find? fun e => e.start ≤ slot && slot < e.start + e.count with
    | none => acc
    | some e => acc.2.routerSlot n (acc.2.recordTile n r.dx r.dy) slot e acc.1) (m, s)

/-- The slots of a frame, in order. -/
def State.planeFrame (s : State) (n slots : Nat) (set : List TileTable) : State :=
  ((List.range slots).foldl (fun (acc : PlaneLinks × State) k => acc.2.planeSlot n k set acc.1) ([], s)).2

/-- The number of the next frame (R478). -/
def State.nextFrame (s : State) (n : Nat) : Nat := (s.fld (F.SCH_FRAME_FRAME n) + 1) % 2 ^ 32

/-- The slots that a region of duty `d` waits after a frame of `f` slots (R131). -/
def dutyWait (f d : Nat) : Nat := ceilDiv (f * (16 - d)) d

/-- Slots that have passed since a device time, at the tile clock in force (R64): one slot is a tile cycle, and a count of
the timestamp is 25 × M × 1,000 / 16,384 of them, half as many while shed. A count that has begun is taken as whole (log
145). -/
def State.slotsSince (s : State) (start : Nat) : Nat :=
  ((s.time + 2 ^ 48 - start) % 2 ^ 48 + 1) * s.inForceMult * 25000 / (16384 * if s.on F.CLK_STATUS_SHED then 2 else 1)

/-- The duty wait of the launch is over (R131, R479). -/
def State.waitOver (s : State) (l : Launch) : Bool := l.pause == 0 || decide (l.pause ≤ s.slotsSince l.frameEnd)

/-- FRAME_START (R479): the next frame begins, once the frame gate holds and the duty wait is over (R131, R132), and its
slots run on the table set in force. -/
def execFrameStart (region : Fin 32) (s : State) : Host.Outcome State Fault Refusal :=
  let n := region.val
  match (s.rgn n).launch, (s.rgn n).image with
  | some l, some im =>
    let f := s.nextFrame n
    if s.rgnState n != rRUNNING || !l.sent || l.inFrame || decide (l.frames ≤ f) || !s.gateHolds n || s.allEnded n
        || !s.waitOver l || s.clocksOut n then done s
    else
      let t := (s.setWord (R.SCH_FRAME n) f).modRgn n fun r => { r with launch := r.launch.map fun x => { x with inFrame := true } }
      let u := t.planeFrame n im.frameSlots (im.sets.getD (t.fld (F.SCH_IMG_STATE_SET_IN_FORCE n)) [])
      done (u.wakeWaitf n f)
  | _, _ => done s

/-- GATE_WAITS: the frame gate delays the next frame. After a duty wait (R131) the gate may have come to hold by then:
whether it did is a free value. -/
def State.noteGate (s : State) (n : Nat) (l : Launch) : State :=
  if s.gateHolds n || s.allEnded n || decide (l.frames ≤ s.nextFrame n) then s
  else if 16 ≤ s.fld (F.PWR_RGN_CAP_DUTY n) then s.countSat (F.SCH_COUNTS_GATE_WAITS n)
  else
    let (v, t) := s.draw
    t.when (v.getLsbD 0) fun u => u.countSat (F.SCH_COUNTS_GATE_WAITS n)

/-- FRAME_END (R481, R518 to R520): the frame is done, and the duty wait begins (R131); fences that waited for it take
effect. -/
def execFrameEnd (region : Fin 32) (s : State) : Host.Outcome State Fault Refusal :=
  let n := region.val
  match (s.rgn n).launch with
  | none => done s
  | some l =>
    if !l.inFrame || s.clocksOut n then done s
    else
      let slots := ((s.rgn n).image.map Image.frameSlots).getD 0
      let t := s.modRgn n fun r => { r with launch := r.launch.map fun x =>
        { x with
          inFrame := false, framesDone := x.framesDone + 1, frameEnd := s.time
          pause := dutyWait slots (s.fld (F.PWR_RGN_CAP_DUTY n)) } }
      done (((t.noteGate n l).act n 0 1).applyPending n)

/-! ### The end of a launch (R294, R481, R583) -/

/-- Something of region n is in transit that may still reach a queue, an input or a core: a MESSAGE, or a message of the
control network. -/
def State.inTransit (s : State) (n : Nat) : Bool :=
  s.net.any (fun p => p.region == n && (p.kind == .message || (p.kind == .ack && p.code == 1)))
    || s.ctl.any fun e =>
      match e.2 with
      | .notify _ h _ => s.inRect n (tileOfCore h)
      | .chanCredit a _ _ => s.inRect n a
      | .relayCredit _ _ _ _ => false

/-- A slice's combining input or queues can still move: the head of its input is accepted or discarded, or a complete
entry delivers (R574, R577). -/
def State.combinerMoves (s : State) (n i : Nat) : Bool :=
  (match (s.slice i).combIn with
    | [] => false
    | x :: _ => x.badTag || match s.combiner n i x.q with
      | none => false
      | some c => (joinEntry (smGet (s.slice i).combs [] x.q) c x).isSome)
  || (s.slice i).combs.any fun e =>
    match s.combiner n i e.1 with
    | none => false
    | some c => e.2.any fun r => r.complete c && (List.range c.deliveries).any fun d =>
        !r.sent.testBit d && (s.deliverOne n c r d).isSome

/-- The launch's channels are at rest (step 1 of R583). -/
def State.channelsAtRest (s : State) (n : Nat) : Bool :=
  !s.inTransit n && (s.slicesOf n).all fun i => !s.combinerMoves n i

/-- Steps 2 and 3 of R583: what is left in combining queues and inputs is discarded and counted in LEFTOVER, what is left
in receive queues counted in UNREAD. -/
def State.countLeft (s : State) (n : Nat) : State :=
  let left := ((s.slicesOf n).map fun i =>
    (s.slice i).combIn.length + (((s.slice i).combs.map fun e => e.2.length).foldl (· + ·) 0)).foldl (· + ·) 0
  let unread := ((s.programCores n).map fun g => ((s.core g).queues.map fun q => q.2.length).foldl (· + ·) 0).foldl (· + ·) 0
  let t := overList (s.slicesOf n) s fun u i =>
    (overList (u.slice i).combIn u fun v x => v.leaveInput n i x).modSlice i fun sl => { sl with combs := [] }
  (t.countSat (F.QDBG_RGN_CHN_LEFTOVER n) left).countSat (F.QDBG_RGN_CHN_UNREAD n) unread

/-- LAUNCH_END (R294, R583). -/
def execLaunchEnd (region : Fin 32) (s : State) : Host.Outcome State Fault Refusal :=
  let n := region.val
  match (s.rgn n).launch with
  | none => done s
  | some l =>
    if !l.sent || s.rgnState n != rRUNNING || l.inFrame || !s.allEnded n || !s.channelsAtRest n then done s
    else done (((s.countLeft n).setEpochs n false fun _ => true).closeLaunch n stSUCCESS 0)

/-- LAUNCH_WATCHDOG (R295). -/
def execLaunchWatchdog (region : Fin 32) (s : State) : Host.Outcome State Fault Refusal :=
  let n := region.val
  if ((s.rgn n).launch.any fun l => l.watchdogUs ≠ 0) && s.rgnState n == rRUNNING then
    done (s.regionFault n { cause := fcWATCHDOG })
  else done s

end Sys2Proof.Machine
end

