-- ==== Sys2Proof/Machine/Power.lean ====
section
/-! DEFINITION. Power states, the facility halt, resets and bring-up (03_supply_and_facility.md, R138 to R147;
04_power_states_reset_boot.md, R150 to R201; 02_die_map_and_clocks.md, R85 to R88). The wake's end, which carries out the
register writes that waited, is in WakeEnd.lean. -/

namespace Sys2Proof.Machine

/-! ### Halves and clocks -/

/-- The tile and LINK PLLs stop and the switches of both halves open. -/
def State.stopHalves (s : State) : State :=
  let t := ((((s.lower F.CLK_STATUS_TW_LOCK).lower F.CLK_STATUS_TE_LOCK).lower F.CLK_STATUS_LINK_LOCK).lower
    F.CLK_STATUS_SHED).lower F.CLK_STATUS_SLEWING
  let t := ((t.lower F.CLK_STATUS_XING_TRAINED).setFld F.CLK_TILE_FREQ_IN_FORCE_MULT 0).setFld F.CLK_ISLAND_POWERED 0
  let u : State := { t with
    power := { t.power with halves := false, westStopped := false, eastStopped := false, repair := [] }
    xings := { t.xings with offset := [], failed := [] } }
  overList (List.range 32) u fun v n => v.setFld (F.RGN_STATE_ISLANDS_POWERED n) 0

/-- Bushel counts and scrub positions at the power-up of a half (R786, R793). -/
def State.freshSlices (s : State) : State :=
  overList (List.range 64) s fun u i =>
    let v := ((u.setFld (F.MSL_BUSHEL_COUNT i) 0).setFld (F.MSL_SCRUB_SRAM_POSITION i) 0).setFld
      (F.MSL_SCRUB_HBM_POS_POSITION i) 0
    v.when (v.on (F.MSL_STATE_OWNED i)) fun w => w.modSlice i fun sl => { sl with sweepSram := s.time, sweepHbm := s.time }

/-- A unit that fuse repair could not cover is fenced (R194). -/
def State.repairFailed (s : State) (e : UnitKind × Nat) : State :=
  let t := s.raise F.RST_ERR_REPAIR_FAIL
  match e with
  | (.slice, i) => t.hwFence .slice (i % 64) 1
  | (.tile, i) => t.hwFence .tile (i % 192) 1
  | _ => s

/-- Crossings found to fail and repairs found not to load as the halves power up (R71 to R73, R193, R194). -/
def State.powerUpFound (s : State) (p : PowerUp) : State :=
  overList p.repairFailed (s.verifyXings sliceXings p.crossings) State.repairFailed

/-- Both halves are powered, their arrays repaired from the AON copy of the fuse map (R193), and the tile clocks start at
multiplier `m`, divided by two when a shed request is present, which counts as a shed applied (R79; log 138 for the start
within a warm reset). The crossings of the slice tiles are restored and verified (R71, R72); those between y = 5 and y = 6
wait for their islands. -/
def State.startHalves (s : State) (m : Nat) (p : PowerUp) : State :=
  let t := ((((s.raise F.CLK_STATUS_XREF_OK).raise F.CLK_STATUS_CTL_LOCK).raise F.CLK_STATUS_TW_LOCK).raise
    F.CLK_STATUS_TE_LOCK).raise F.CLK_STATUS_LINK_LOCK
  let t := t.setFld F.CLK_TILE_FREQ_IN_FORCE_MULT m
  let u : State := { t with
    power := { t.power with halves := true, westStopped := false, eastStopped := false, repair := t.power.fuseCopy } }
  (u.freshSlices.when u.shedRequest State.applyShed).powerUpFound p

/-- Dirty lines wait to be written back, or a write waits in a queue, at a stack that issues no writes now: an entry into M2 or M3, which
writes them first (R161, R169), waits until refresh-only ends (R111, R112). -/
def State.flushWaits (s : State) : Bool :=
  (s.hreqs.any fun r => r.write && s.chanHeld r.chan)
    || s.slices.any fun e => e.2.lines.any fun l => !l.dirty.isEmpty
      && s.chanHeld (channelOfSlice (((s.ownerOf (tileOfSlice e.1)).map fun n => s.homeOf n (l.line * 128)).getD e.1))

/-- SELF_REFRESH of every stack. -/
def State.selfRefresh (s : State) (on : Bool) : State :=
  overList (List.range 8) s fun u k => u.setFld (F.HBM_STATUS_SELF_REFRESH k) (bit on)

/-- Every region's dirty lines go back to their channels (R161, R169), and what the halves hold is lost (R164, R198): an
image must be rebuilt before the next launch. -/
def State.sleepHalves (s : State) : State :=
  let live := (List.range 32).filter fun n => s.rgnState n != rFREE
  let t := overList live s fun u n => overList (u.slicesOf n) (u.settleRegion n) fun v i => v.flushSlice n i
  let t := overList live t fun u n => u.modRgn n fun r => { r with needRebuild := r.image.isSome }
  let t := overList (List.range 64) t fun u i => (u.setWord (R.MSL_OVF_USED i) 0).lower (F.MSL_STATE_RETENTION i)
  let u : State := { t with
    clusters := [], cores := [], slices := [], hreqs := [], net := [], mesh := {}, edge := [], ringTurn := [], ctl := [] }
  u.stopHalves.selfRefresh true

/-! ### Facility halt (R138 to R143) -/

/-- No region reset, fault stop or release clearing runs. -/
def State.drained (s : State) : Bool :=
  (List.range 32).all fun n =>
    let r := s.rgn n
    r.reset.isNone && !r.faultStop && !r.clearing

/-- A halt starts (R141): it does nothing while one is in progress or complete, and is held during a warm reset, before
READY, and during a release (R178, R187). It drains every region as a region reset does (R142). -/
def State.startHalt (s : State) : State :=
  if s.on F.PWR_FHALT_STATUS_HALTING ∨ s.on F.PWR_FHALT_STATUS_HALTED ∨ s.power.phase = .loss then s
  else if s.power.phase ≠ .run ∨ s.power.releasing then { s with fhalt := { s.fhalt with held := true } }
  else
    let t : State := { s.lower F.PWR_STATE_M2_ENTERING with
      fhalt := { s.fhalt with held := false }, power := { s.power with waking := false, wakeXings := [], wakeLatched := none } }
    overList (List.range 32) (t.raise F.PWR_FHALT_STATUS_HALTING) fun u n => u.startReset n .halt false

/-- A halt that was held starts (R178, R187). -/
def State.startHeldHalt (s : State) : State := s.when s.fhalt.held State.startHalt

/-- FHALT_SAMPLE (R138): both channels sampled, `a` and `b` true for asserted. -/
def execFhaltSample (a b : Bool) (s : State) : Host.Outcome State Fault Refusal :=
  if s.power.phase = .off then done s
  else
    let t := (s.setFld F.PWR_FHALT_STATUS_A_ASSERTED (bit a)).setFld F.PWR_FHALT_STATUS_B_ASSERTED (bit b)
    if a != b then
      let k := s.fhalt.aloneMs + 1
      let u : State := { t with fhalt := { t.fhalt with aloneMs := k } }
      done (u.when (s.fld F.PWR_FHALT_CTRL_TD_MS < k) fun v => (v.raise F.PWR_FHALT_STATUS_DISCREPANCY).startHalt)
    else
      let u := t.when (decide (0 < s.fhalt.aloneMs) && !a) fun v => v.countSat F.PWR_FHALT_STATUS_BLIP_COUNT
      let v : State := { u with fhalt := { u.fhalt with aloneMs := 0 } }
      done (v.when a State.startHalt)

/-- A release command (R144): accepted only in M3 with both channels deasserted at the last sample, and otherwise refused.
-/
def State.releaseAccepted (s : State) : Bool :=
  s.on F.PWR_FHALT_STATUS_HALTED && !s.on F.PWR_FHALT_STATUS_A_ASSERTED && !s.on F.PWR_FHALT_STATUS_B_ASSERTED

/-- An accepted release starts (R171): HALTED reads 0, the halves are powered and the crossings verified. -/
def State.releaseM3 (s : State) (crossings : List Crossing) : State :=
  let t : State := { s.lower F.PWR_FHALT_STATUS_HALTED with power := { s.power with releasing := true } }
  t.startHalves t.targetMult { crossings := crossings }

/-- Crossings and repairs that fail in a power-up that has begun. -/
def State.moreFound (s : State) (p : PowerUp) : State :=
  let t := overList (p.crossings.filter fun c => sliceXings.contains c.tile.val) s State.crossingFailed
  (overList p.repairFailed t State.repairFailed).noteXings

/-- Ring Watch's intervals at the entry to M1 or M0 from M2 or M3 (R284). -/
def State.resetIntervals (s : State) : State :=
  { s with vfs := s.vfs.map fun e => (e.1, { e.2 with interval := s.fld F.RWE_POLL_POLL_MIN_US }) }

/-- Region n after a release from M3 (R358): READY, or FAULTED with SLICE_LOST when it holds a fenced slice. -/
def State.wakeRegion (s : State) (n : Nat) : State :=
  let st := s.rgnState n
  if st = rFREE ∨ st = rCONFIGURING then s
  else
    match (s.slicesOf n).find? fun i => s.sliceFenced i with
    | none => s
    | some i =>
      let f : FaultReport := { cause := fcSLICE_LOST, tile := tileOfSlice i }
      ((s.latchFault n f).setFld (F.RGN_STATE_STATE n) rFAULTED).when (st != rFAULTED) fun t => t.regionEvent n true

/-- M3_RELEASE_COMPLETE (R171, R761): repairs that did not load and crossings that failed, beside those FHALT_RELEASE
names, have been fenced; the module is in M1, Ring Watch's intervals are at their least (R284), and every port with ENABLE
set begins full training. -/
def execM3ReleaseComplete (p : PowerUp) (s : State) : Host.Outcome State Fault Refusal :=
  if !s.power.releasing || s.power.phase ≠ .run then done s
  else
    let t : State := { s with power := { s.power with releasing := false, m1Ticks := 0 } }
    let t := (t.moreFound p).resetIntervals
    let t := ((t.selfRefresh false).setFld F.PWR_STATE_STATE 1).setFld F.PWR_STATE_LAST_WAKE 5
    let t := overList (List.range 32) t State.wakeRegion
    let t := overList (List.range 4) t fun u p => u.when (u.on (F.HL_CTRL_ENABLE p)) fun v => v.startTraining p
    done t.startHeldHalt

/-! ### M2 (R159 to R168) -/

/-- The switches of the halves open and the module is in M2 (R161, R164). -/
def State.enterM2 (s : State) : State :=
  let ready := (List.range 32).filter fun n => s.rgnState n == rREADY
  let t := overList ready s fun u n => u.setBit F.PWR_SLEEP_LOST_LOST n true
  let t := (((t.sleepHalves.lower F.CLK_STATUS_CTL_LOCK).lower F.CLK_STATUS_XREF_OK).lower F.CLK_STATUS_HOST_LOCK).countSat
    F.PWR_STATE_M2_COUNT
  ((t.lower F.PWR_STATE_M2_ENTERING).setFld F.PWR_STATE_STATE 2).driveClkreq (!s.on F.HOST_STATUS_L1_2_ENABLED)

/-- A wake starts (R165): the HOST clock runs (R85), for which CLKREQ_N is driven (R239); its other clocks and the halves are
there at its end. -/
def State.startWake (s : State) (code : Nat) : State :=
  let t := (s.raise F.CLK_STATUS_HOST_LOCK).driveClkreq true
  { t with power := { t.power with waking := true, wakeCode := code, wakeLatched := none } }

/-- M2 entry is abandoned (R161, R162). -/
def State.abandonM2 (s : State) : State :=
  { s.lower F.PWR_STATE_M2_ENTERING with power := { s.power with m1Ticks := 0, wakeLatched := none } }

/-- A wake cause, as LAST_WAKE gives it (R162, R163, R165): in M2 it starts the wake; during the entry it abandons the
entry before the switches open, and is latched after. Which of the two it meets is a free value (log 2). -/
def State.wakeBy (s : State) (code : Nat) : State :=
  if s.power.phase ≠ .run ∨ s.on F.PWR_FHALT_STATUS_HALTING then s
  else if s.fld F.PWR_STATE_STATE = 2 then if s.power.waking then s else s.startWake code
  else if !s.on F.PWR_STATE_M2_ENTERING || s.power.wakeLatched.isSome then s
  else
    let (v, t) := s.draw
    if v.getLsbD 0 then { t with power := { t.power with wakeLatched := some code } } else t.abandonM2

/-- Polls of M2: each VF given is polled where Ring Watch polls it; true when work was found (R161, R165). -/
def State.pollAll (s : State) (polls : List (Fin 32 × PollRead)) : Bool × State :=
  polls.foldl (fun (acc : Bool × State) e =>
    if acc.2.polls e.1 then
      let t := (acc.2.poll e.1 e.2).2
      (acc.1 || (List.range 8).any fun i => t.producerSeen e.1 i != t.consumed e.1 i, t)
    else acc) (false, s)

/-- M2_ENTRY_COMPLETE (R161 to R164): the entry's poll finds work and the entry is abandoned, or the module is in M2; a
cause that was latched starts the wake at once. -/
def execM2EntryComplete (polls : List (Fin 32 × PollRead)) (s : State) : Host.Outcome State Fault Refusal :=
  if !s.on F.PWR_STATE_M2_ENTERING || s.power.phase ≠ .run || s.flushWaits then done s
  else
    match s.power.wakeLatched with
    | some code => done (s.enterM2.startWake code)
    | none =>
      let (found, t) := s.pollAll polls
      done (if found then t.abandonM2 else t.enterM2)

/-- M2_POLL_EXCURSION (R85, R165, R239): every 10 ms in M2 CLKREQ_N is driven, the host PLL locks, Ring Watch reads the
records, and work found is a wake cause; otherwise the host PLL stops and the link returns to L1.2. -/
def execM2PollExcursion (polls : List (Fin 32 × PollRead)) (s : State) : Host.Outcome State Fault Refusal :=
  if s.fld F.PWR_STATE_STATE ≠ 2 ∨ s.power.phase ≠ .run ∨ s.power.waking then done s
  else
    let (found, t) := (s.driveClkreq true).pollAll polls
    done (if found then t.wakeBy 2 else t.driveClkreq s.power.clkreq)

/-- The code of a wake cause (PWR_STATE.LAST_WAKE). -/
def wakeCodeOf : WakeCause → Nat
  | .pollFoundWork => 2
  | .registerAccess => 3
  | .managementRequest => 4

/-- WAKE_CAUSE (R165): the wake, and the crossings that fail in it as far as this command tells (R71 to R73): they are
verified at the wake's end, which names those of every other wake. -/
def execWakeCause (cause : WakeCause) (crossings : List Crossing) (s : State) : Host.Outcome State Fault Refusal :=
  let t := s.wakeBy (wakeCodeOf cause)
  done (if t.power.waking && !s.power.waking then
    { t with power := { t.power with wakeXings := t.power.wakeXings ++ crossings } } else t)

/-- WAKE_HINT (R242 to R246): Ring Watch polls the VF at once; in M2 the hint is a wake cause; in M3 it waits. -/
def execWakeHint (vf : Fin 32) (s : State) : Host.Outcome State Fault Refusal :=
  if !s.vfExists vf || !(s.fn (vf.val + 1)).memSpace then done s
  else done ((s.takeHint vf).wakeBy 1)

/-- The end of a wake (R168): the module is in M1, or in M0 when a region has a queued LAUNCH, whose islands are powered. -/
def State.endWake (s : State) (p : PowerUp) : State :=
  let t : State := { s with power := { s.power with waking := false, wakeXings := [], m1Ticks := 0 } }
  let t := (t.startHalves t.targetMult { p with crossings := s.power.wakeXings ++ p.crossings }).resetIntervals
  let t := ((t.selfRefresh false).setFld F.PWR_STATE_STATE 1).setFld F.PWR_STATE_LAST_WAKE s.power.wakeCode
  overList ((List.range 32).filter fun n => t.launchQueued n) t fun u n =>
    (overList (u.islandsOf n) u fun v i => v.setBit F.CLK_ISLAND_POWERED i true).noteIslands n

/-! ### Tile PLLs (R88) -/

/-- The lock and error bits of a half's tile PLL. -/
def lockOf : Half → Fld
  | .west => F.CLK_STATUS_TW_LOCK
  | .east => F.CLK_STATUS_TE_LOCK

def unlockOf : Half → Fld
  | .west => F.CLK_ERR_UNLOCK_TW
  | .east => F.CLK_ERR_UNLOCK_TE

/-- A half's tile clocks are stopped, or run again. -/
def State.setStopped (s : State) (h : Half) (b : Bool) : State :=
  match h with
  | .west => { s with power := { s.power with westStopped := b } }
  | .east => { s with power := { s.power with eastStopped := b } }

/-- A half's tile clocks are stopped after a loss of lock. -/
def State.stopped (s : State) (h : Half) : Bool :=
  match h with
  | .west => s.power.westStopped
  | .east => s.power.eastStopped

/-- TILE_PLL_UNLOCK: the clock controller stops the half's tile clocks and relocks the PLL. -/
def execTilePllUnlock (half : Half) (s : State) : Host.Outcome State Fault Refusal :=
  if !s.power.halves || s.stopped half then done s
  else done (((s.setStopped half true).lower (lockOf half)).raise (unlockOf half))

/-- TILE_PLL_RELOCK: every region with a tile in the half is reset with CLOCK_LOST. -/
def execTilePllRelock (half : Half) (s : State) : Host.Outcome State Fault Refusal :=
  if !s.power.halves || !s.stopped half then done s
  else
    let t := (s.setStopped half false).raise (lockOf half)
    let hit := (List.range 32).filter fun n => (t.tilesOf n).any fun x => halfOfTile x = half
    done (overList hit t fun u n => u.regionFault n { cause := fcCLOCK_LOST })

/-! ### Warm reset (R173 to R180) -/

/-- Bits lo + width - 1 : lo of a word. -/
def maskBits (lo width : Nat) : Nat := (2 ^ width - 1) * 2 ^ lo

/-- The fields that a warm reset keeps, beside RWS fields (R174): what the AON domain, Vesper, the Almanac and the fence
map hold, the supply event log, the accumulators, the counters since cold reset, and the W1C latches that say so. -/
def keptMask (off : Nat) : Nat :=
  let all := 2 ^ 32 - 1
  if off = R.CLK_STATUS then maskBits 0 5
  else if off = R.CLK_TILE_FREQ then maskBits 8 7
  else if off = R.CLK_SHED then maskBits 16 16
  else if off = R.CLK_XING_LOG then maskBits 16 8
  else if off = R.CLK_AON_TRIM then all
  else if off = R.PWR_STATUS ∨ off = R.PWR_TICK_POWER ∨ off = R.PWR_TEMP ∨ off = R.PWR_EVT_TOTAL then all
  else if R.PWR_VIN ≤ off ∧ off < R.PWR_SAG then all
  else if R.PWR_EVT_W0 0 ≤ off ∧ off < R.PWR_EVT_W0 32 then all
  else if off = R.PWR_CAP then maskBits 16 11
  else if off = R.PWR_FHALT_STATUS then maskBits 4 1 + maskBits 0 2
  else if off = R.PWR_ERR then maskBits 4 1
  else if off = R.PWR_STATE then maskBits 24 8
  else if off = R.RST_BOOT_STATUS then maskBits 0 16 + maskBits 28 3
  else if off = R.RST_CAUSE ∨ off = R.HOST_STATUS ∨ off = R.HOST_VF_BME then all
  else if R.HBM_STATUS 0 ≤ off ∧ off < R.HBM_STATUS 8 ∧ (off - R.HBM_STATUS 0) % (R.HBM_STATUS 1 - R.HBM_STATUS 0) = 0 then
    maskBits 16 16 + maskBits 8 8 + maskBits 4 2 + maskBits 0 1
  else if off = R.VSP_STATUS ∨ off = R.VSP_FW ∨ off = R.VSP_LAST_TICK ∨ off = R.VSP_ALMANAC ∨ off = R.VSP_ALM_SEQ_LO
      ∨ off = R.VSP_ALM_SEQ_HI then all
  else if off = R.FLT_STATUS then maskBits 1 3
  else if R.FLT_TILE_FENCED 0 ≤ off ∧ off ≤ R.FLT_PORT then all
  else if off = R.FLT_TEST_LOCK then maskBits 16 16
  else if R.FLT_CAPTURE ≤ off ∧ off < R.FLT_CORE_STANDBY 32 then all
  else if R.MSL_STATE 0 ≤ off ∧ off < R.MSL_STATE 64 then
    let d := (off - R.MSL_STATE 0) % (R.MSL_STATE 1 - R.MSL_STATE 0)
    if d = 0 then maskBits 24 1 else if R.MSL_REMAP 0 0 - R.MSL_STATE 0 ≤ d ∧ d < R.MSL_REMAP 0 8 - R.MSL_STATE 0 then all
    else 0
  else 0

/-- The bits of a register's RWS fields. -/
def rwsMask (off : Nat) : Nat :=
  match regAt off with
  | none => 0
  | some r => (r.fields.filter fun f => f.access = .rws).foldl (fun m f => m ||| maskBits f.lo (f.hi + 1 - f.lo)) 0

/-- A register's word after a warm reset: kept bits as they were, the rest at their cold values. -/
def warmWord (off w : Nat) : Nat :=
  let k := keptMask off ||| rwsMask off
  (w &&& k) ||| (coldWord off &&& (2 ^ 32 - 1 - k))

/-- Every PCIe function's configuration space is reset (PERST#, hot reset, link-down, FLR of the PF). -/
def State.resetConfig (s : State) : State :=
  let t := (((s.lower F.HOST_STATUS_VF_ENABLE).setFld F.HOST_STATUS_NUM_VFS 0).lower F.HOST_STATUS_PF_D3HOT).lower
    F.HOST_STATUS_L1_2_ENABLED
  { t.setFld F.HOST_VF_BME_BME 0 with fns := [], pfConfig := {} }

/-- The host link is down. -/
def State.pcieDown (s : State) : State :=
  ((s.setFld F.HOST_STATUS_WIDTH 0).setFld F.HOST_STATUS_SPEED 0).lower F.HOST_STATUS_FLIT_MODE

/-- Nothing of a region remains but RESETTING (R173). A FREE region stays FREE: R333 has no way from FREE to RESETTING
(DEDUCED, log 146). -/
def State.resetAll (s : State) : State :=
  let live := (List.range 32).filter fun n => s.rgnState n != rFREE
  let t := overList (List.range 4) s.dropPath fun u p => u.coldRange (R.HL_STATUS p) (R.HL_STATUS p + 4)
  overList live t fun u n => u.setFld (F.RGN_STATE_STATE n) rRESETTING

/-- A warm reset event with its cause bit (R172, R180): it is counted; every engine stops, and the sequence is due. In
recovery and during bring-up there is no data path to reset, and a second event finds the sequence on its way. -/
def State.warmEvent (s : State) (cause : Fld) : State :=
  let t := (s.raise cause).countSat F.RST_CAUSE_WARM_COUNT
  if s.power.phase ≠ .run then t
  else
    let m3 := s.fld F.PWR_STATE_STATE = 3
    let m2 := s.fld F.PWR_STATE_STATE = 2
    let halting := s.on F.PWR_FHALT_STATUS_HALTING
    let t := (t.lower F.RST_BOOT_STATUS_READY).setFld F.RST_BOOT_STATUS_PHASE 9
    let t := (t.resetAll.lower F.PWR_STATE_M2_ENTERING).when m2 fun u => u.setFld F.PWR_STATE_LAST_WAKE 6
    { t with
      fhalt := { t.fhalt with held := t.fhalt.held || halting }
      power := { t.power with
        phase := .warmReset, warmDue := true, keepHbm := s.on F.RST_CTRL_WARM_KEEP_HBM, fromM3 := m3, waking := false
        wakeXings := [], wakeLatched := none, heldWrites := [] } }

/-- PERST_ASSERT. -/
def execPerstAssert (s : State) : Host.Outcome State Fault Refusal :=
  let t : State := { s with power := { s.power with perst := true } }
  if s.power.perst ∨ s.power.phase = .off ∨ s.power.phase = .loss then done t
  else done ((t.resetConfig.pcieDown).warmEvent F.RST_CAUSE_PERST)

/-- PERST_DEASSERT (R185): the link trains from now on (PCIE_LINK_TRAINED). -/
def execPerstDeassert (s : State) : Host.Outcome State Fault Refusal :=
  done { s with power := { s.power with perst := false } }

/-- HOT_RESET: a hot reset or link-down of the PF's link. -/
def execHotReset (s : State) : Host.Outcome State Fault Refusal :=
  if s.power.phase = .off ∨ s.power.phase = .loss ∨ s.fld F.HOST_STATUS_WIDTH = 0 then done s
  else done ((s.resetConfig.pcieDown).warmEvent F.RST_CAUSE_HOT_RESET)

/-- FLR_PF (R212). -/
def execFlrPf (s : State) : Host.Outcome State Fault Refusal :=
  if s.power.phase = .off ∨ s.power.phase = .loss then done s
  else done (s.resetConfig.warmEvent F.RST_CAUSE_PF_FLR)

/-- A warm reset by RST_CTRL (R175): the link and the configuration spaces stay. -/
def State.warmCommand (s : State) : State := s.warmEvent F.RST_CAUSE_WARM_CMD

/-- The MSI-X tables and pending bits of every BAR0 return to their reset values; the capabilities stay (R175). -/
def State.resetTables (s : State) : State :=
  { s with fns := s.fns.map fun e => (e.1, { e.2 with table := [], pendingBits := 0, flr := false }) }

/-- A channel of HBM fails training: its home slice is fenced (R195). -/
def State.channelFailed (s : State) (ch : Nat) : State :=
  (s.raise F.RST_ERR_HBM_TRAIN_FAIL).hwFence .slice (sliceOfChannel ch) 2

/-- WARM_RESET (R173, R174, R179, R198): data-path state is discarded, registers return to their cold values but for what
is kept, HBM is kept or lost as WARM_KEEP_HBM was at the event, and the halves are switched off and on again; from M3 they
stay gated. The kept PLDM cap is enforced at once (R128). -/
def execWarmReset (p : PowerUp) (s : State) : Host.Outcome State Fault Refusal :=
  if s.power.phase ≠ .warmReset ∨ !s.power.warmDue then done s
  else
    let m3 := s.power.fromM3
    let live := (List.range 32).filter fun n => s.rgnState n != rFREE
    let t := s.dropPath.resetTables.stopHalves
    let t : State := { t with regs := t.regs.map fun e => (e.1, warmWord e.1 e.2), ceLogged := [] }
    let t : State := { t with
      hbm := if s.power.keepHbm then t.hbm else {}
      vesper := { t.vesper with integSeen := 0, mailDue := false, captureWanted := [] }
      power := { t.power with warmDue := false, m1Ticks := 0 } }
    let t := overList live t fun u n => u.setFld (F.RGN_STATE_STATE n) rRESETTING
    let t := (t.setFld F.RST_BOOT_STATUS_PHASE 9).setFld F.PWR_STATE_STATE (if m3 then 3 else 1)
    let t := t.when (s.fld F.PWR_STATE_LAST_WAKE == 6) fun u => u.setFld F.PWR_STATE_LAST_WAKE 6
    let t := if m3 then ((t.when (s.on F.PWR_FHALT_STATUS_HALTED) fun u => u.raise F.PWR_FHALT_STATUS_HALTED).selfRefresh true)
      else t.raise F.CLK_STATUS_HOST_LOCK
    let t := t.updateShed.updateRefreshOnly.noteCap
    let t := t.when (!m3 || s.power.releasing) fun u => u.startHalves u.targetMult p
    done (overList p.failedChannels t fun u c => u.channelFailed c.val)

/-- Every port whose AUTO_TRAIN is 1 has ENABLE set and starts training when READY reads 1 (HL_CTRL); a fenced port stays
DISABLED (R853). -/
def State.autoTrain (s : State) : State :=
  overList (List.range 4) s fun u p =>
    u.when (u.on (F.HL_CTRL_AUTO_TRAIN p) && !u.portFenced p) fun v => (v.raise (F.HL_CTRL_ENABLE p)).startTraining p

/-- Units in STANDBY return to service as every region reaches FREE (R862), and so do tiles whose memories were being
overwritten: what they held is lost with their power (R863, R200). -/
def State.endAllStandby (s : State) : State :=
  let s0 : State := { s with clearing := [] }
  let t := overList s.clearing s0 fun u i => u.putUnit .tile i 0
  let t := overList (List.range 192) t fun u i => u.when (u.unitState .tile i == 2) fun v => v.putUnit .tile i 0
  let t := overList (List.range 1024) t fun u i => u.when (u.unitState .core i == 2) fun v => v.putUnit .core i 0
  overList (List.range 4) t fun u i => u.when (u.unitState .port i == 2) fun v => v.putUnit .port i 0

/-- READY reads 1 (R173, R183): ports train, and a halt that was held starts (R178, R187). -/
def State.becomeReady (s : State) : State :=
  let t : State := { s with power := { s.power with phase := .run, m1Ticks := 0 } }
  ((t.raise F.RST_BOOT_STATUS_READY).setFld F.RST_BOOT_STATUS_PHASE 8).autoTrain

/-- WARM_RESET_COMPLETE (R173, R177 to R179): every region is FREE and READY reads 1. In M3 the ports stay down and the
module stays in M3. -/
def execWarmResetComplete (s : State) : Host.Outcome State Fault Refusal :=
  if s.power.phase ≠ .warmReset ∨ s.power.warmDue then done s
  else
    let live := (List.range 32).filter fun n => s.rgnState n != rFREE
    let t := (overList live s fun u n => (u.setWord (R.RGN_STATE n) 0).regionEvent n false).endAllStandby
    if s.power.fromM3 && !s.power.releasing then
      let u : State := { t with power := { t.power with phase := .run, fromM3 := false } }
      done ((u.raise F.RST_BOOT_STATUS_READY).setFld F.RST_BOOT_STATUS_PHASE 8)
    else
      let u : State := { t with power := { t.power with fromM3 := false } }
      done u.becomeReady.startHeldHalt

/-! ### Cold reset and bring-up (R181 to R192) -/

/-- Every internal supply is removed (R181, R182): only the flash is kept, and what stands outside the module. -/
def State.coldState (s : State) (cause : ColdCause) : State :=
  { State.reset with
    pending := s.pending, draws := s.draws, fuses := s.fuses, flash := s.flash, out := s.out, nextId := s.nextId
    power := { State.reset.power with coldCause := cause, perst := s.power.perst }
    tap := { State.reset.tap with modulePos := s.tap.modulePos, clkreq := s.tap.clkreq } }

/-- POWER_DOWN (R123): after LOSS, and after the final entry when one is owed, the module powers down. -/
def execPowerDown (s : State) : Host.Outcome State Fault Refusal :=
  if s.power.phase ≠ .loss ∨ s.power.lastGasp then done s else done (s.coldState .loss)

/-- A slot's image passes the boot ROM (R188, R189). The spec gives neither the image's byte layout nor the place of its
signature nor the fused key digest: DESIGN CHOICE (log 147), the outcome of the signature check is a field of the image. -/
def State.slotPasses (s : State) (b : Bool) : Bool :=
  let im := if b then s.flash.slotB else s.flash.slotA
  im.signatureOk && decide (s.fuses.minSvn ≤ im.svn)

/-- The boot ROM's choice (R190): the slot named by the selector, the other, or none. -/
def State.bootSlot (s : State) : Option Bool :=
  let b := s.flash.selector
  if s.slotPasses b then some b else if s.slotPasses !b then some !b else none

/-- What AON brings up: the fused trim code (R62), the AON copy of the repair map (R193), the position of the module, sampled once
(R820), the cause of the reset, the port configuration of the flash. -/
def State.startAon (s : State) : State :=
  let t := s.setFld F.CLK_AON_TRIM_TRIM_CODE s.fuses.trim.toNat
  let t : State := { t with modulePos := s.tap.modulePos, power := { t.power with fuseCopy := s.fuses.repair } }
  let t := match s.power.coldCause with
    | .powerOn => t.raise F.RST_CAUSE_POWER_ON
    | .command => t.raise F.RST_CAUSE_COLD_CMD
    | .loss => t.raise F.RST_CAUSE_AFTER_LOSS
  let w := s.flash.portConfig
  let t := overList (List.range 4) t fun u p => u.setFld (F.HL_CTRL_AUTO_TRAIN p) (bitsOf w p 1)
  (t.setFld F.HL_MODULE_MODULE_ID (bitsOf w 8 4)).setFld F.HL_MODULE_FABRIC_ID (bitsOf w 16 12)

/-- The capture ID that the Almanac gives LAST_ID (R873): that of its newest CAPTURE entry. -/
def Flash.lastCapture (f : Flash) : Nat :=
  ((f.log.flatten.filter fun e => e.type == 13).getLast?.map fun e => e.body.headD 0).getD 0

/-- CONVERTER_START (R91, R183, R188 to R195, R876): AON starts; board-test mode when its flag was armed, which is cleared;
recovery when no slot passes; otherwise the clocks start at M = 40, and the units that repair and training fail are fenced.
-/
def execConverterStart (p : PowerUp) (s : State) : Host.Outcome State Fault Refusal :=
  if s.power.phase ≠ .off then done s
  else
    let t := s.startAon
    let t : State := { t with power := { t.power with phase := .bringUp } }
    if s.flash.bscan then
      let u : State := { t with flash := { t.flash with bscan := false }, power := { t.power with boardTest := true } }
      done (u.setFld F.RST_BOOT_STATUS_PHASE 1)
    else
      match t.bootSlot with
      | none =>
        let u : State := { t.driveClkreq true with power := { t.power with phase := .recovery, pwrgd := true, clkreq := true } }
        done ((((u.raise F.RST_BOOT_STATUS_RECOVERY).setFld F.RST_BOOT_STATUS_PHASE 10).raise F.RST_ERR_IMAGE_SLOT_FAIL).raise
          F.CLK_STATUS_HOST_LOCK)
      | some b =>
        let im := if b then t.flash.slotB else t.flash.slotA
        let back := bit (b != t.flash.selector)
        let u := ((t.setFld F.RST_BOOT_STATUS_SLOT (bit b)).setFld F.RST_BOOT_STATUS_FALLBACK back).setFld
          F.RST_BOOT_STATUS_FW_SVN im.svn.toNat
        let u := ((u.setFld F.RST_ERR_IMAGE_SLOT_FAIL back).raise F.CLK_STATUS_HOST_LOCK).setFld F.RST_BOOT_STATUS_PHASE 7
        let u := ((u.setFld F.VSP_FW_MAJOR im.major.toNat).setFld F.VSP_FW_MINOR im.minor.toNat).setFld F.VSP_FW_PATCH
          im.patch.toNat
        let u : State := { u with power := { u.power with pwrgd := true } }
        let u := ((u.driveClkreq true).trainXings.startHalves 40 p).setFld F.FLT_CAPTURE_LAST_ID u.flash.lastCapture
        let u := overList p.failedChannels u fun v c => v.channelFailed c.val
        done (overList (List.range 8) u fun v k => v.raise (F.HBM_STATUS_TRAINED k))

end Sys2Proof.Machine
end

