-- ==== Sys2Proof/Machine/Almanac.lean ====
section
/-! DEFINITION. The Almanac and the module flash (19_vesper_management.md, R839 to R847; 03_supply_and_facility.md, R119 to
R122), and the last step of bring-up (04_power_states_reset_boot.md, R183, R196). -/

namespace Sys2Proof.Machine

/-- Vesper's memory, changed. -/
def State.modVsp (s : State) (f : Vesper → Vesper) : State := { s with vesper := f s.vesper }

/-- Vesper's firmware runs and processes ticks (VSP_STATUS). -/
def State.vesperRuns (s : State) : Bool :=
  s.on F.VSP_STATUS_ALIVE && !s.on F.VSP_STATUS_RESTARTING && s.power.phase != .loss && s.power.phase != .off

/-! ### Entries (R840, R841) -/

def alBOOT : Nat := 1
def alSUPPLY : Nat := 2
def alLOSS_FINAL : Nat := 3
def alINTEGRITY : Nat := 4
def alBUSHEL : Nat := 5
def alLOG_LOSS : Nat := 6
def alUNIT_CHANGE : Nat := 7
def alSTATE_MISMATCH : Nat := 8
def alREMAP : Nat := 9
def alTABLE_FULL : Nat := 10
def alFW_UPDATE : Nat := 11
def alFHALT : Nat := 12
def alCAPTURE : Nat := 13
def alTEST_LOCK : Nat := 14

/-- What a record of the permanent table tells, as numbers. -/
def PermRec.nums : PermRec → List Nat
  | .unit key state cause seq => [1, key, state, cause, seq]
  | .remap slice entry sector => [2, slice, entry, sector]
  | .full slice => [3, slice]

/-- The payload is the four words of a log entry (SUPPLY, INTEGRITY). -/
def AlmEntry.isWords (e : AlmEntry) : Bool := e.type == alSUPPLY || e.type == alINTEGRITY

/-- Everything the payload tells. -/
def AlmEntry.told (e : AlmEntry) : List Nat := e.body ++ e.changes.flatMap PermRec.nums

/-- LENGTH, in units of 16 bytes, 0 to 4,094. -/
def AlmEntry.units (e : AlmEntry) : Nat := if e.isWords then 1 else Config.almanacUnits e.type e.told % 4095

/-- The bytes an entry takes: a 32-byte header and its payload. -/
def AlmEntry.size (e : AlmEntry) : Nat := 32 + 16 * e.units

/-- The payload's bytes. -/
def AlmEntry.payload (e : AlmEntry) : List Byte :=
  if e.isWords then (e.body ++ [0, 0, 0, 0]).take 4 |>.flatMap (toBytes 4)
  else (List.range (16 * e.units)).map (Config.almanacByte e.type e.told)

/-- The bytes of an entry (R840): the header, whose CRC-32C is computed with its own bytes taken as 0, and the payload. -/
def AlmEntry.bytes (e : AlmEntry) : List Byte :=
  let h := toBytes 1 e.type ++ toBytes 1 (bit e.kept) ++ toBytes 2 e.units ++ toBytes 8 e.seq ++ toBytes 4 e.tick
    ++ toBytes 6 e.time ++ toBytes 2 e.boot ++ toBytes 4 0
  h ++ toBytes 4 (crc32c (h ++ toBytes 4 0 ++ e.payload)) ++ e.payload

/-! ### The queue (R842) -/

/-- VSP_ALMANAC.QUEUED follows the queue. -/
def State.noteQueued (s : State) : State := s.setFld F.VSP_ALMANAC_QUEUED s.vesper.queue.length

/-- A new entry is queued, with the next SEQ; with 4,096 entries queued it is dropped and counted. -/
def State.queueAlm (s : State) (type : Nat) (body : List Nat) (kept : Bool := false) : State :=
  if 4096 ≤ s.vesper.queue.length then
    (s.modVsp fun v => { v with dropped := v.dropped + 1 }).countSat F.VSP_ALM_LOST_LOST
  else
    let e : AlmEntry :=
      { type := type, kept := kept, seq := s.vesper.nextSeq, tick := s.tick, time := s.time
        boot := s.flash.boots % 65536, body := body }
    (s.modVsp fun v => { v with queue := v.queue ++ [e], nextSeq := v.nextSeq + 1 }).noteQueued

/-- The LOG_LOSS entry for entries dropped, as soon as there is room (R842). -/
def State.noteDropped (s : State) : State :=
  if s.vesper.dropped = 0 ∨ 4096 ≤ s.vesper.queue.length then s
  else (s.modVsp fun v => { v with dropped := 0 }).queueAlm alLOG_LOSS [3, s.vesper.dropped]

/-! ### The log in flash (R839, R843, R844, R846) -/

def blockBytes : Nat := 65536
def logBlocks : Nat := 512

/-- Bytes of a list of entries. -/
def almSize (l : List AlmEntry) : Nat := (l.map AlmEntry.size).foldl (· + ·) 0

/-- Bytes written in the head block. -/
def headUsed (log : List (List AlmEntry)) : Nat := almSize (log.getLast?.getD [])

/-- An entry goes into the head block when it fits, and otherwise opens the next block (R840). -/
def placeAlm (log : List (List AlmEntry)) (e : AlmEntry) : List (List AlmEntry) :=
  if log.isEmpty || decide (blockBytes < headUsed log + e.size) then log ++ [[e]]
  else log.dropLast ++ [log.getLast?.getD [] ++ [e]]

/-- The oldest block is erased before the erased space behind `e` would fall below 4 KiB: its KEPT entries are first copied
to the head (R843, R846). -/
def makeRoom (log : List (List AlmEntry)) (e : AlmEntry) : List (List AlmEntry) :=
  if log.length < logBlocks ∨ headUsed log + e.size + 4096 ≤ blockBytes then log
  else ((log.headD []).filter AlmEntry.kept).foldl (fun l k => placeAlm l { k with copied := true }) log.tail

/-- The newest SEQ in flash. -/
def Flash.newestSeq (f : Flash) : Nat := f.log.flatten.foldl (fun m e => max m e.seq) 0

/-- Bytes of KEPT entries, written and queued. -/
def State.keptBytes (s : State) : Nat := almSize ((s.flash.log.flatten ++ s.vesper.queue).filter AlmEntry.kept)

/-- The VSP registers that show the log. -/
def State.noteLog (s : State) : State :=
  (s.setPair R.VSP_ALM_SEQ_LO R.VSP_ALM_SEQ_HI s.flash.newestSeq).setFld F.VSP_ALMANAC_KEPT_MIB (ceilDiv s.keptBytes 1048576)

/-- An entry is written into the log. -/
def State.writeAlm (s : State) (e : AlmEntry) : State :=
  let t : State := { s with flash := { s.flash with log := placeAlm (makeRoom s.flash.log e) e } }
  t.noteLog

/-! ### The permanent table (R845) -/

/-- The valid entries of slice i's remap table. -/
def State.remaps (s : State) (i : Nat) : List PermRec :=
  ((List.range 8).filter fun k => s.on (F.MSL_REMAP_VALID i k)).map fun k => PermRec.remap i k (s.fld (F.MSL_REMAP_SECTOR i k))

/-- The permanent table as Vesper's records, the remap entries and the full tables make it. -/
def State.permTable (s : State) : List PermRec :=
  ((s.vesper.records.filter fun e => e.2.state != 0).map fun e => PermRec.unit e.1 e.2.state e.2.cause e.2.seq)
    ++ (List.range 64).flatMap s.remaps ++ s.vesper.full.map PermRec.full

/-- A unit's key in a record, if it is a unit's. -/
def PermRec.key? : PermRec → Option Nat
  | .unit key _ _ _ => some key
  | _ => none

/-- What the table in flash lacks: at most 16 changes fit the staged record (R841). -/
def State.pendingChanges (s : State) : List PermRec :=
  let now := s.permTable
  let back := (s.flash.perm.filterMap PermRec.key?).filter fun k => !(now.filterMap PermRec.key?).contains k
  ((now.filter fun r => !s.flash.perm.contains r) ++ back.map fun k => PermRec.unit k 0 0 0).take 16

/-- A pending change applied to a table. -/
def applyChange (perm : List PermRec) (c : PermRec) : List PermRec :=
  match c with
  | .unit key state cause seq =>
    let rest := perm.filter fun r => r.key? != some key
    if state = 0 then rest else rest ++ [.unit key state cause seq]
  | _ => if perm.contains c then perm else perm ++ [c]

/-- ALMANAC_FLASH_WRITE (R842, R845): the next queued entry is written, in SEQ order, or a new copy of the permanent table;
which comes first when both are due is a free value (log 2). -/
def execAlmanacFlashWrite (s : State) : Host.Outcome State Fault Refusal :=
  if !s.vesperRuns then done s
  else
    let table (t : State) : State :=
      let u : State := { t with flash := { t.flash with perm := t.permTable, generation := t.flash.generation + 1 } }
      u.modVsp fun v => { v with permDue := false }
    match s.vesper.queue with
    | [] => done (s.when s.vesper.permDue table)
    | e :: rest =>
      let (v, t) := s.draw
      if s.vesper.permDue && v.getLsbD 0 then done (table t)
      else
        let u := (t.modVsp fun x => { x with queue := rest }).noteQueued
        done (u.noteDropped.writeAlm e)

/-! ### The last gasp (R119 to R122) -/

/-- LAST_GASP_COMPLETE: the staged record is written as a LOSS_FINAL entry, with the time stamp of the LOSS, its minimum
voltage, the shed sources at its declaration, the region states, the tick number, and the pending changes. -/
def execLastGaspComplete (s : State) : Host.Outcome State Fault Refusal :=
  if s.power.phase ≠ .loss ∨ !s.power.lastGasp then done s
  else
    let body := [s.power.lossStart, s.power.lossMin, s.power.lossShed, s.tick] ++ (List.range 32).map s.rgnState
    let e : AlmEntry :=
      { type := alLOSS_FINAL, seq := s.flash.newestSeq + 1, tick := s.tick, time := s.time, boot := s.flash.boots % 65536
        body := body, changes := s.vesper.staged }
    let t : State := { s with power := { s.power with lastGasp := false } }
    done (t.writeAlm e)

/-! ### Bring-up (R183, R196, R847) -/

/-- The kind and index of a record's unit. -/
def unitOf (key : Nat) : UnitKind × Nat :=
  if key < 1024 then (.core, key) else if key < 1216 then (.tile, key - 1024) else (.port, key - 1216)

/-- A unit's bits take a state without a change being reported: the fence map is being built. -/
def State.buildUnit (s : State) (key st : Nat) : State :=
  (s.putUnit (unitOf key).1 (unitOf key).2 st).setFld F.FLT_STATUS_CHANGED (s.fld F.FLT_STATUS_CHANGED)

/-- A record of the permanent table is applied (R196, R799): a fence with cause 7, but FUSE_REPAIR stands (R838, R865); a unit
in STANDBY is in service, since every region is FREE; a remap entry; a full table. -/
def State.applyPerm (s : State) (r : PermRec) : State :=
  match r with
  | .unit key state cause seq =>
    if state ≠ 1 then s
    else
      let c := if cause = 1 then 1 else 7
      (s.buildUnit key 1).modVsp fun v =>
        { v with records := smPut v.records key { state := 1, cause := c, tick := s.tick, seq := seq } }
  | .remap slice entry sector => (s.raise (F.MSL_REMAP_VALID slice entry)).setFld (F.MSL_REMAP_SECTOR slice entry) sector
  | .full slice => s.modVsp fun v => { v with full := v.full ++ [slice] }

/-- The changes of a LOSS_FINAL entry that ends the log. -/
def Flash.lastChanges (f : Flash) : List PermRec :=
  match (f.log.flatten.filter fun e => !e.copied).getLast? with
  | some e => if e.type = alLOSS_FINAL then e.changes else []
  | none => []

/-- The Almanac at boot (R847): the permanent table applied, the log's head found, a block with a torn entry closed, the changes
of a LOSS_FINAL entry taken, the BOOT entry queued. -/
def State.bootAlmanac (s : State) : State :=
  let changes := s.flash.lastChanges
  let t := overList (changes.foldl applyChange s.flash.perm) s State.applyPerm
  let log := if s.flash.torn = 0 then t.flash.log else t.flash.log ++ [[]]
  let t : State := { t with flash := { t.flash with boots := t.flash.boots + 1, torn := 0, log := log } }
  let t := t.modVsp fun v => { v with nextSeq := t.flash.newestSeq + 1, permDue := !changes.isEmpty }
  t.noteLog.queueAlm alBOOT [t.word R.RST_CAUSE 0, t.word R.RST_BOOT_STATUS 0, 0, s.flash.torn]

/-- BRING_UP_COMPLETE (R183): Vesper applies the Almanac, its firmware processes ticks, every region is FREE and READY reads
1; the module is in M1. -/
def execBringUpComplete (s : State) : Host.Outcome State Fault Refusal :=
  if s.power.phase ≠ .bringUp ∨ s.power.boardTest then done s
  else
    done ((s.bootAlmanac.raise F.VSP_STATUS_ALIVE).startSlew.becomeReady.startHeldHalt)

end Sys2Proof.Machine
end

