-- ==== Sys2Proof/Machine/Pcie.lean ====
section
/-! DEFINITION. The PCIe functions (05_host_interface_and_register_access.md, R205 to R241, R890 to R892): configuration
writes, power states, the link, held MSI-X messages, and the FLR of a VF. -/

namespace Sys2Proof.Machine

/-! ### Configuration writes -/

/-- A configuration write the module ignores (R891). -/
def State.cfgIgnored (s : State) : State := s.raise F.HOST_ERR_SRIOV_CFG_ERR

/-- System Page Size, in bytes: only 4 KiB is taken (R209, R891). -/
def State.cfgPageSize (s : State) (v : Nat) : State :=
  if v = 4096 then { s with pfConfig := { s.pfConfig with systemPageSize := v } } else s.cfgIgnored

/-- NumVFs: a change is ignored while VF Enable is 1 (R209, R891). It is at most TotalVFs = 32 (R207): the spec gives no
outcome for a greater value written while VF Enable is 0; DESIGN CHOICE (log 148): it is not taken, and nothing else happens.
-/
def State.cfgNumVfs (s : State) (n : Nat) : State :=
  if s.on F.HOST_STATUS_VF_ENABLE then if n = s.fld F.HOST_STATUS_NUM_VFS then s else s.cfgIgnored
  else if n ≤ 32 then s.setFld F.HOST_STATUS_NUM_VFS n else s

/-- The functions of the VFs start from their reset values. -/
def State.resetVfs (s : State) : State :=
  { s.setFld F.HOST_VF_BME_BME 0 with fns := s.fns.filter fun e => e.1 == 0 }

/-- A change of one function's state. A VF that does not exist has none. -/
def State.cfgFn (s : State) (f : Fn) (g : FnState → FnState) : State :=
  match f with
  | .pf => s.modFn 0 g
  | .vf n => if s.vfExists n then s.modFn (n.val + 1) g else s

/-- A function's ACS control: the enables of the controls it supports are taken, the rest read 0 (R228). -/
def acsSupported : BitVec 16 := 0x4C

/-- A write of an AER register: status bits clear where a 1 is written. -/
def Aer.put (a : Aer) (r : AerReg) (v : Word) : Aer :=
  match r with
  | .uncStatus => { a with uncStatus := a.uncStatus &&& ~~~v }
  | .uncMask => { a with uncMask := v }
  | .uncSeverity => { a with uncSeverity := v }
  | .corStatus => { a with corStatus := a.corStatus &&& ~~~v }
  | .corMask => { a with corMask := v }

/-- What a 64-bit BAR takes: the address bits above its size, 2^`size` (R215). -/
def PfConfig.putBar (c : PfConfig) (vf hi : Bool) (v : Word) : PfConfig :=
  match vf, hi with
  | false, false => { c with bar0 := v &&& 0xFF000000 }
  | false, true => { c with bar1 := v }
  | true, false => { c with vfBar0 := v &&& 0xFFFE0000 }
  | true, true => { c with vfBar1 := v }

/-- The effect of a configuration write. -/
def State.cfgWrite (s : State) (w : CfgWrite) : State :=
  match w with
  | .vfEnable => if s.on F.HOST_STATUS_VF_ENABLE then s else (s.resetVfs).raise F.HOST_STATUS_VF_ENABLE
  | .numVfs n => s.cfgNumVfs n
  | .systemPageSize v => s.cfgPageSize v
  | .aspmL12 b => s.setFld F.HOST_STATUS_L1_2_ENABLED (bit b)
  | .completionTimeout v => { s with pfConfig := { s.pfConfig with completionTimeout := v } }
  | .busMaster b => s.modFn 0 fun f => { f with busMaster := b }
  | .memorySpace f b => s.cfgFn f fun x => { x with memSpace := b }
  | .msixEnable f b => s.cfgFn f fun x => { x with msixEnable := b }
  | .msixFunctionMask f b => s.cfgFn f fun x => { x with msixMask := b }
  | .deviceControl c => { s with pfConfig := { s.pfConfig with dev := c } }
  | .aspmL11 b => { s with pfConfig := { s.pfConfig with aspmL11 := b } }
  | .ecrc g c => { s with pfConfig := { s.pfConfig with ecrcGenerate := g, ecrcCheck := c } }
  | .aer f r v => s.cfgFn f fun x => { x with aer := x.aer.put r v }
  | .acsControl f v => s.cfgFn f fun x => { x with acs := v &&& acsSupported }
  | .ariHierarchy b => { s with pfConfig := { s.pfConfig with ariHierarchy := b } }
  | .bar vf hi v => { s with pfConfig := s.pfConfig.putBar vf hi v }

/-- The PCIe block is released: the functions answer configuration requests (R185, R192). -/
def State.pcieReleased (s : State) : Bool :=
  match s.power.phase with
  | .off | .loss => false
  | .bringUp => s.power.pwrgd
  | _ => true

/-- The answer to a configuration request before the PCIe block is released, once PERST# is deasserted (R185). -/
def State.retryStatus (s : State) : State := s.when (s.power.phase == .bringUp && !s.power.perst) fun t => t.emit .requestRetry

/-- CONFIGURATION_WRITE. -/
def execConfigurationWrite (w : CfgWrite) (s : State) : Host.Outcome State Fault Refusal :=
  if s.pcieReleased then done (s.cfgWrite w) else done s.retryStatus

/-- SRIOV_CFG_WRITE_IGNORED (R891): a write of System Page Size or NumVFs. -/
def execSriovCfgWriteIgnored (w : SriovWrite) (s : State) : Host.Outcome State Fault Refusal :=
  if !s.pcieReleased then done s.retryStatus
  else
    match w with
    | .systemPageSize v => done (s.cfgPageSize v)
    | .numVfs n => done (s.cfgNumVfs n)

/-! ### Function level reset and VF Enable (R211, R212, R267, R350) -/

/-- The access log of VF n reads 0 (R267). -/
def State.clearVfLog (s : State) (n : Nat) : State := s.coldRange (R.VF_ACCESS_TOTAL n) (R.VF_ACCESS_TOTAL n + 0x200)

/-- What an FLR of VF n does to its region and rings (R172, R320, R350): the region reset; in FREE and CONFIGURING, and in
the clearing of a release, whose reset is over (R353, R357), its rings alone. -/
def State.resetByFlr (s : State) (n : Nat) : State :=
  let t := s.clearVfLog n
  let st := s.rgnState n
  if st = rFREE ∨ st = rCONFIGURING ∨ (s.rgn n).clearing then t.resetRings n true
  else (t.modFn (n + 1) fun f => { f with flr := true }).startReset n .flr false

/-- FLR_VF (R212): the function's configuration returns to its reset values, but for Memory Space Enable, which the PF's
SR-IOV capability holds, and the VF's log is cleared (R267). While a warm reset or recovery runs, no region is there for it
to reset. -/
def execFlrVf (vf : Fin 32) (s : State) : Host.Outcome State Fault Refusal :=
  let n := vf.val
  if !s.vfExists n || !s.pcieReleased then done s
  else
    let t := (s.setBit F.HOST_VF_BME_BME n false).modFn (n + 1) fun f => { memSpace := f.memSpace, flr := f.flr }
    done (if s.power.phase ≠ .run then t.clearVfLog n else t.resetByFlr n)

/-- VF_ENABLE_CLEAR (R211): every VF is gone, and every region that is not FREE is reset as by an FLR. -/
def execVfEnableClear (s : State) : Host.Outcome State Fault Refusal :=
  if !s.on F.HOST_STATUS_VF_ENABLE || !s.pcieReleased then done s
  else
    let k := s.fld F.HOST_STATUS_NUM_VFS
    let t := s.resetVfs.lower F.HOST_STATUS_VF_ENABLE
    if s.power.phase ≠ .run then done (overList (List.range k) t State.clearVfLog)
    else
      done (overList (List.range 32) t fun u n =>
        if n < k then u.resetByFlr n else u.when (u.rgnState n != rFREE) fun v => v.startReset n .flr false)

/-! ### Power states and bus mastering (R213, R214, R232) -/

/-- PF_D3HOT_ENTRY. -/
def execPfD3hotEntry (s : State) : Host.Outcome State Fault Refusal :=
  if s.pcieReleased then done (s.raise F.HOST_STATUS_PF_D3HOT) else done s

/-- Status records that waited are written (R280). -/
def State.flushAll (s : State) : State := overList (List.range 32) s State.flushStatus

/-- PF_D0_ENTRY: nothing is reset. -/
def execPfD0Entry (s : State) : Host.Outcome State Fault Refusal :=
  if s.on F.HOST_STATUS_PF_D3HOT then done (s.lower F.HOST_STATUS_PF_D3HOT).flushAll else done s

/-- VF_BME_CHANGE: work of the region resumes when the bit is set. -/
def execVfBmeChange (vf : Fin 32) (on : Bool) (s : State) : Host.Outcome State Fault Refusal :=
  if s.vfExists vf then done ((s.setBit F.HOST_VF_BME_BME vf on).flushStatus vf) else done s

/-- MSIX_PENDING_SEND (R225). -/
def execMsixPendingSend (fn : Fn) (vector : Fin 8) (s : State) : Host.Outcome State Fault Refusal :=
  done (s.sendHeld (fnIndex fn) vector)

/-! ### Link and requests (R238, R241) -/

/-- PCIE_LINK_TRAINED: width in lanes and speed as HOST_STATUS codes it. Non-Flit mode is used to 32.0 GT/s at most and is
a degraded link (R205). -/
def execPcieLinkTrained (width : BitVec 5) (speed : BitVec 4) (flitMode : Bool) (s : State) :
    Host.Outcome State Fault Refusal :=
  let w := width.toNat
  let v := if flitMode then speed.toNat else min speed.toNat 5
  if !s.pcieReleased || s.power.perst || !([1, 4, 8, 16].contains w) || v = 0 || 6 < v then done s
  else
    let t := ((s.setFld F.HOST_STATUS_WIDTH w).setFld F.HOST_STATUS_SPEED v).setFld F.HOST_STATUS_FLIT_MODE (bit flitMode)
    done (t.when (w < 16 || v < 6) fun u => u.raise F.HOST_ERR_LINK_DEGRADED)

/-- An Unsupported Request in the AER registers of the function (R205; bits of the PCIe specification, log 151): the
uncorrectable status bit 20, and, with its severity non-fatal, the advisory non-fatal error of the correctable status. -/
def Aer.unsupported (a : Aer) : Aer :=
  let b : Aer := { a with uncStatus := a.uncStatus ||| 0x00100000 }
  if a.uncSeverity.getLsbD 20 then b else { b with corStatus := b.corStatus ||| 0x00002000 }

/-- UNSUPPORTED_REQUEST (R238): the request completes with Unsupported Request, which the function's AER status shows; nothing
else changes. -/
def execUnsupportedRequest (fn : Fn) (s : State) : Host.Outcome State Fault Refusal :=
  done ((s.modFn (fnIndex fn) fun f => { f with aer := f.aer.unsupported }).emit (.unsupported (fnIndex fn)))

/-! ### What a configuration read reports (R206 to R208, R215, R228) -/

/-- The capabilities of R208. -/
inductive Capability where
  | pciExpress | msix | aer | acs | powerManagement | sriov | ari | l1PmSubstates | ltr | serialNumber | secondaryPcie
  | dataLinkFeature | laneMargining | physical16 | physical32 | physical64
  deriving DecidableEq, Repr

/-- The capabilities that the PF and every VF implement (R208). -/
def vfCapabilities : List Capability := [.pciExpress, .msix, .aer, .acs]
def capabilities (f : Fn) : List Capability :=
  match f with
  | .pf => vfCapabilities ++ [.powerManagement, .sriov, .ari, .l1PmSubstates, .ltr, .serialNumber, .secondaryPcie,
      .dataLinkFeature, .laneMargining, .physical16, .physical32, .physical64]
  | .vf _ => vfCapabilities

/-- The fields of configuration space that the spec gives a value. -/
inductive CfgField where
  | vendorId | deviceId | revisionId | classCode | subsystemVendorId | subsystemId | serialNumber
  | bar (k : Fin 6) | expansionRom
  | maxPayloadSupported | completionTimeoutRanges | noSoftReset | pmeSupport
  | totalVfs | initialVfs | numVfs | vfEnable | firstVfOffset | vfStride | vfDeviceId | supportedPageSizes
  | systemPageSize | vfMigration | vfBar (k : Fin 6) | ariHierarchy
  | acsCapability | acsControl | aer (r : AerReg)
  deriving DecidableEq, Repr

/-- An AER register. -/
def Aer.get (a : Aer) : AerReg → Word
  | .uncStatus => a.uncStatus
  | .uncMask => a.uncMask
  | .uncSeverity => a.uncSeverity
  | .corStatus => a.corStatus
  | .corMask => a.corMask

/-- What a function reports for a field; none where it does not implement it. A memory BAR that is 64 bits wide and not
prefetchable reads 0b0100 in bits 3:0 (R215). -/
def State.cfgRead (s : State) (f : Fn) (x : CfgField) : Option Nat :=
  let c := s.pfConfig
  let pf := f == .pf
  let ofPf (v : Nat) : Option Nat := if pf then some v else none
  let bars (lo hi : Word) (k : Nat) : Nat := if k = 0 then lo.toNat + 4 else if k = 1 then hi.toNat else 0
  match x with
  | .vendorId => some (if pf then 0x1F7A else 0xFFFF)
  | .deviceId => some (if pf then 0x1612 else 0x1613)
  | .revisionId => some 0x11
  | .classCode => some 0x120000
  | .subsystemVendorId => some 0x1F7A
  | .subsystemId => some 1
  | .serialNumber => ofPf Config.serialNumber.toNat
  | .bar k => some (if pf then bars c.bar0 c.bar1 k.val else 0)
  | .expansionRom => some 0
  | .maxPayloadSupported => some 2
  | .completionTimeoutRanges => some 7
  | .noSoftReset => ofPf 1
  | .pmeSupport => ofPf 0
  | .totalVfs => ofPf 32
  | .initialVfs => ofPf 32
  | .numVfs => ofPf (s.fld F.HOST_STATUS_NUM_VFS)
  | .vfEnable => ofPf (s.fld F.HOST_STATUS_VF_ENABLE)
  | .firstVfOffset => ofPf 1
  | .vfStride => ofPf 1
  | .vfDeviceId => ofPf 0x1613
  | .supportedPageSizes => ofPf 1
  | .systemPageSize => ofPf (c.systemPageSize / 4096)
  | .vfMigration => ofPf 0
  | .vfBar k => ofPf (bars c.vfBar0 c.vfBar1 k.val)
  | .ariHierarchy => ofPf (bit c.ariHierarchy)
  | .acsCapability => some acsSupported.toNat
  | .acsControl => some (s.fn (fnIndex f)).acs.toNat
  | .aer r => some ((s.fn (fnIndex f)).aer.get r).toNat

/-- The routing ID of a function, from the PF's (R207, R208): First VF Offset and VF Stride are 1. -/
def routingId (pf : Nat) (i : Nat) : Nat := pf + i

end Sys2Proof.Machine
end

