-- ==== Sys2Proof/Machine/Telemetry.lean ====
section
/-! DEFINITION. Energy attribution and power caps (03_supply_and_facility.md, R128 to R136), the telemetry records
(19_vesper_management.md, R833, R834; 06_rings_and_doorbells.md, R289) and the sensors of the PDR repository (R826). -/

namespace Sys2Proof.Machine

/-- A register pair. -/
def State.pair (s : State) (lo hi : Nat) : Nat := s.word lo 0 + s.word hi 0 * 2 ^ 32

/-- Module, idle and region energy in µJ. -/
def State.moduleEnergy (s : State) : Nat := s.pair R.PWR_ENERGY_LO R.PWR_ENERGY_HI
def State.idleEnergy (s : State) : Nat := s.pair R.PWR_IDLE_ENERGY_LO R.PWR_IDLE_ENERGY_HI
def State.regionEnergy (s : State) (n : Nat) : Nat := s.pair (R.PWR_RGN_ENERGY_LO n) (R.PWR_RGN_ENERGY_HI n)

/-! ### Attribution (R134 to R136) -/

/-- 1 mW over a tick of 500 µs, in fJ. -/
def fjPerTick : Nat := 500000000

/-- The regions that energy is charged to. -/
def State.liveRegions (s : State) : List Nat := (List.range 32).filter fun n => s.rgnState n != rFREE

/-- S_r in mW: the static coefficients of region n's powered islands and slices. -/
def State.staticOf (s : State) (n : Nat) : Nat :=
  Config.staticIsland * (s.islandsOf n).countP (fun i => s.bitAt F.CLK_ISLAND_POWERED i)
    + if s.power.halves then Config.staticSlice * (s.slicesOf n).countP (fun i => !s.sliceFenced i) else 0

/-- Events of kind k of region n since energy was last attributed. -/
def Region.events (r : Region) (k : Nat) : Nat := smGet r.activity 0 k - smGet r.activityThen 0 k

/-- The modelled energy M_r of region n over `ticks` ticks, in fJ (R134, R812). -/
def State.modelled (s : State) (n ticks : Nat) : Nat :=
  s.staticOf n * fjPerTick * ticks
    + ((List.range 11).map fun k => Config.eventEnergy k * (s.rgn n).events k).foldl (· + ·) 0

/-- The modelled energy of the idle remainder: what no region that is not FREE owns. -/
def State.modelledIdle (s : State) (ticks : Nat) : Nat :=
  let slices := (List.range 64).countP fun i => !s.sliceFenced i && (s.ownerOf (tileOfSlice i)).isNone
  (Config.idleStatic + if s.power.halves then Config.staticSlice * slices else 0) * fjPerTick * ticks

/-- The kinds of event that no command of the table counts: core and vector busy cycles, slice accesses, flits of the two
planes. Their counts over a tick are free values (log 2). -/
def freeKinds : List Nat := [1, 5, 6, 8, 9]

/-- Activity of the tick that depends on time. -/
def State.countActivity (s : State) : State :=
  overList s.liveRegions s fun u n =>
    overList freeKinds u fun v k =>
      let (x, t) := v.draw
      t.act n k x.toNat

/-- Region n is charged `e` µJ for an interval of `ticks` ticks. -/
def State.charge (s : State) (n ticks e : Nat) : State :=
  let t := s.setPair (R.PWR_RGN_ENERGY_LO n) (R.PWR_RGN_ENERGY_HI n) (s.regionEnergy n + e)
  t.modRgn n fun r =>
    { r with charge := e / ticks, activityThen := r.activity, powerHist := ((e / ticks) :: r.powerHist).take 4 }

/-- Energy attributed over the interval since the last attributed tick (R134, R812): E_r = floor(E_meter × M_r / M_total), and the
idle remainder takes the rest. While METER_FAIL is set each region takes M_r unscaled, and the idle energy stands (R136). -/
def State.attribute (s : State) : State :=
  let ticks := max 1 (s.tick - s.vesper.lastTick.getD 0)
  let meter := s.moduleEnergy - s.vesper.meterThen
  let live := s.liveRegions
  let total := (live.map fun n => s.modelled n ticks).foldl (· + ·) 0 + s.modelledIdle ticks
  let failed := s.on F.PWR_ERR_METER_FAIL
  let share := fun n => if failed then roundOpen (s.modelled n ticks) 1000000000 else floorDiv (meter * s.modelled n ticks) total
  let t := overList live s fun u n => u.charge n ticks (share n)
  let rest := meter - (live.map share).foldl (· + ·) 0
  let t := if failed then t else t.setPair R.PWR_IDLE_ENERGY_LO R.PWR_IDLE_ENERGY_HI (s.idleEnergy + rest)
  t.modVsp fun v => { v with meterThen := s.moduleEnergy }

/-! ### Caps (R128 to R133) -/

/-- The mean power of the last four ticks exceeds `cap` W: `l` lists their energies in µJ, and 1 W over four ticks is 2,000 µJ.
-/
def overCap (l : List Nat) (cap : Nat) : Bool := cap * 2000 < l.foldl (· + ·) 0

/-- The mean is below 0.95 of the cap. -/
def wellBelow (l : List Nat) (cap : Nat) : Bool := 20 * l.foldl (· + ·) 0 < 19 * (cap * 2000)

/-- A region's new duty (R130). -/
def nextDuty (cap duty : Nat) (l : List Nat) : Nat :=
  if cap = 0 then 16
  else if overCap l cap then max (duty - 1) 1
  else if wellBelow l cap then min (duty + 1) 16
  else duty

/-- The new VESPER_MULT (R130). -/
def nextMult (cap mult : Nat) (l : List Nat) : Nat :=
  if overCap l cap then max (mult - 4) 20 else if wellBelow l cap then min (mult + 2) 80 else mult

/-- Region n's duty at a tick. -/
def State.capRegion (s : State) (n : Nat) : State :=
  let d := nextDuty (s.fld (F.PWR_RGN_CAP_CAP_W n)) (s.fld (F.PWR_RGN_CAP_DUTY n)) (s.rgn n).powerHist
  (s.setFld (F.PWR_RGN_CAP_DUTY n) d).setFld (F.PWR_RGN_CAP_LIMITING n) (bit (d < 16))

/-- Caps at a tick (R130, R133): the regions first, then VESPER_MULT, and CAP_UNREACHABLE after eight ticks at 20 above the cap.
DESIGN CHOICE (log 144): a tick counts when VESPER_MULT is 20 after the tick's own step. -/
def State.enforceCaps (s : State) : State :=
  let t := overList (List.range 32) s State.capRegion
  let cap := s.fld F.PWR_CAP_STATUS_ENFORCED_W
  let l := s.vesper.powerHist
  let m := nextMult cap (s.fld F.CLK_TILE_FREQ_VESPER_MULT) l
  let t := (t.setFld F.CLK_TILE_FREQ_VESPER_MULT m).setFld F.PWR_STATUS_CAP_LIMITING (bit (m < 80))
  let k := if overCap l cap && m == 20 then s.vesper.unreachable + 1 else 0
  let t := t.modVsp fun v => { v with unreachable := k }
  let t := if !overCap l cap then t.lower F.PWR_STATUS_CAP_UNREACHABLE
    else t.when (decide (8 ≤ k)) fun u => u.raise F.PWR_STATUS_CAP_UNREACHABLE
  t.startSlew

/-! ### Records -/

/-- Region power in 0.1 W: the charge over the last attributed tick ÷ 500 µs (R826). -/
def State.regionPower (s : State) (n : Nat) : Nat := roundOpen (s.rgn n).charge 50

/-- The 11 activity counters of region n. -/
def State.counters (s : State) (n : Nat) : List Byte :=
  (List.range 11).flatMap fun k => toBytes 8 (smGet (s.rgn n).activity 0 k)

def zeros (k : Nat) : List Byte := List.replicate k 0

/-- The region record (R833). -/
def State.regionRecord (s : State) (n : Nat) : List Byte :=
  toBytes 8 s.tick ++ toBytes 8 (s.regionEnergy n) ++ toBytes 4 (s.regionPower n) ++ toBytes 1 (s.rgnState n)
    ++ toBytes 1 (s.fld (F.PWR_RGN_CAP_DUTY n)) ++ toBytes 2 (s.fld (F.PWR_RGN_CAP_CAP_W n))
    ++ toBytes 4 (s.word (R.RGN_COUNTS n) 0) ++ zeros 12 ++ s.counters n

/-- The module record (R834). -/
def State.moduleRecord (s : State) : List Byte :=
  let flags := bit (s.on F.CLK_STATUS_SHED) + bit (s.on F.PWR_STATUS_CAP_LIMITING) * 2
    + bit (s.on F.PWR_STATUS_CAP_UNREACHABLE) * 4 + bit (s.on F.PWR_ERR_METER_FAIL) * 8 + s.fld F.PWR_STATE_STATE * 16
  toBytes 8 s.tick ++ toBytes 8 s.time ++ toBytes 8 s.moduleEnergy ++ toBytes 8 s.idleEnergy
    ++ toBytes 2 (s.fld F.PWR_TICK_POWER_POWER) ++ toBytes 2 (s.fld F.PWR_VIN_TICK_EXTREME)
    ++ toBytes 2 (s.fld F.PWR_IIN_TICK_EXTREME) ++ toBytes 1 (s.fld F.CLK_TILE_FREQ_VESPER_MULT) ++ toBytes 1 flags
    ++ (List.range 8).flatMap (fun k => toBytes 1 (s.fld (F.HBM_STATUS_TEMP_C k))) ++ toBytes 4 (s.word R.PWR_EVT_TOTAL 0)
    ++ toBytes 4 (s.word R.INT_INTEG_TOTAL 0) ++ toBytes 2 (s.fld F.VSP_COUNTS_MISMATCHES)
    ++ toBytes 2 (s.fld F.VSP_COUNTS_TICK_OVERRUNS) ++ zeros 68

/-- The record of TELEMETRY_SNAPSHOT for region n (R289). -/
def State.snapshotRecord (s : State) (n : Nat) : List Byte :=
  let flags := bit s.supply.shedInTick + bit (s.on F.PWR_STATUS_CAP_LIMITING) * 2 + bit (s.on F.PWR_ERR_METER_FAIL) * 4
  toBytes 8 s.tick ++ toBytes 8 s.time ++ toBytes 8 (s.regionEnergy n) ++ toBytes 8 s.moduleEnergy
    ++ toBytes 2 (s.fld F.PWR_TICK_POWER_POWER) ++ toBytes 1 (s.fld (F.PWR_RGN_CAP_DUTY n)) ++ toBytes 1 flags ++ zeros 4
    ++ s.counters n

/-- Every waiting TELEMETRY_SNAPSHOT takes its record (R814). -/
def State.fillSnapshots (s : State) : State :=
  { s with vfs := s.vfs.map fun e =>
      let fill (d : Desc) : Desc :=
        if d.type = tySNAPSHOT ∧ d.phase = .running ∧ d.snap = [] then { d with snap := s.snapshotRecord e.1 } else d
      (e.1, { e.2 with rings := e.2.rings.map fun (r : Ring) => { r with descs := r.descs.map fill } }) }

/-- The record that a pending mailbox request will read (R814, R837). -/
def State.latchRecord (s : State) : State :=
  if s.fld F.VSP_MBOX_STATUS_STATE ≠ 1 then s
  else
    let r := match s.fld F.VSP_MBOX_CMD_CODE with
      | 2 => s.moduleRecord
      | 3 => s.regionRecord (s.fld (F.VSP_MBOX_REQ_REQ 0) % 32)
      | _ => []
    s.modVsp fun v => { v with mailRecord := r }

/-! ### Sensors (R826) -/

/-- A sensor's key among Vesper's readings. -/
def sensorKey : Sensor → Nat
  | .vin => 0 | .vinMin => 1 | .iinMax => 2 | .power => 3 | .energy => 4 | .tileClock => 5
  | .powerState => 6 | .facilityHalt => 7 | .disturbance => 8
  | .regionEnergy n => 16 + n.val | .regionPower n => 48 + n.val | .hbmTemp k => 80 + k.val
  | .regionState n => 96 + n.val | .portState p => 128 + p.val

/-- The lowest class code of R104 that is declared, or 0. -/
def State.disturbance (s : State) : Nat :=
  if s.on F.PWR_STATUS_SAG_ACTIVE then 1
  else if s.on F.PWR_STATUS_DROPOUT_ACTIVE then 2
  else if s.on F.PWR_STATUS_SWELL_ACTIVE then 3
  else if s.supply.transient.isSome then 4
  else if s.on F.PWR_STATUS_RIPPLE_ACTIVE then 5
  else 0

/-- NORMAL, HALTING, HALTED, DISCREPANCY as 0 to 3: a halt shows before a latched DISCREPANCY (DESIGN CHOICE, log 20). -/
def State.haltSensor (s : State) : Nat :=
  if s.on F.PWR_FHALT_STATUS_HALTING then 1
  else if s.on F.PWR_FHALT_STATUS_HALTED then 2
  else if s.on F.PWR_FHALT_STATUS_DISCREPANCY then 3
  else 0

/-- A sensor's value. -/
def State.sensorValue (s : State) (x : Sensor) : Nat :=
  match x with
  | .vin => s.fld F.PWR_VIN_LAST
  | .vinMin => s.fld F.PWR_VIN_TICK_EXTREME
  | .iinMax => s.fld F.PWR_IIN_TICK_EXTREME
  | .power => s.fld F.PWR_TICK_POWER_POWER
  | .energy => s.moduleEnergy / 1000000 % 2 ^ 32
  | .regionEnergy n => if s.rgnState n = rFREE then 0 else s.regionEnergy n / 1000000 % 2 ^ 32
  | .regionPower n => s.regionPower n
  | .hbmTemp k => s.fld (F.HBM_STATUS_TEMP_C k)
  | .tileClock => s.inForceMult * 25 / if s.on F.CLK_STATUS_SHED then 2 else 1
  | .powerState => s.fld F.PWR_STATE_STATE
  | .facilityHalt => s.haltSensor
  | .regionState n => s.rgnState n
  | .portState p => s.linkState p
  | .disturbance => s.disturbance

/-- The state sensors. -/
def stateSensors : List Sensor :=
  [.powerState, .facilityHalt, .disturbance] ++ (List.finRange 32).map Sensor.regionState
    ++ (List.finRange 4).map Sensor.portState

/-- Every sensor. -/
def allSensors : List Sensor :=
  [.vin, .vinMin, .iinMax, .power, .energy, .tileClock] ++ (List.finRange 32).map Sensor.regionEnergy
    ++ (List.finRange 32).map Sensor.regionPower ++ (List.finRange 8).map Sensor.hbmTemp ++ stateSensors

/-- The readings of the tick (R826). -/
def State.latchSensors (s : State) : State :=
  s.modVsp fun v => { v with readings := overList allSensors v.readings fun m x => smPut m (sensorKey x) (s.sensorValue x) }

end Sys2Proof.Machine
end

