-- ==== Sys2Proof/Machine/HostWrite.lean ====
section
/-! DEFINITION. Host writes to the BARs (05_host_interface_and_register_access.md, R247 to R267, R887 to R894): where a DW
lands, which cause drops or refuses it, what its register takes, what follows from the new value, and the access log.
Every command that is a register write calls `hostWrite` at its register. -/

namespace Sys2Proof.Machine

/-! ### Where a DW lands (R216 to R220, R882 to R888) -/

/-- What lies at an offset of a BAR: a register of the map by its offset there, read-only for this function or not; a word
of an MSI-X table entry; a word of a pending bit array. -/
inductive Landing where
  | reserved
  | readOnly (off : Nat)
  | msix (fn vector word : Nat)
  | pending (fn word : Nat)
  | reg (off : Nat)
  deriving DecidableEq, Repr

/-- A register of the map at a PF BAR0 offset, or a reserved offset. -/
def landReg (off : Nat) : Landing := if (regAt off).isSome then .reg off else .reserved

/-- PF BAR0 (R216, R221). -/
def landPf (off : Nat) : Landing :=
  if 0x48000 ≤ off ∧ off < 0x48080 then .msix 0 ((off - 0x48000) / 16) (off % 16 / 4)
  else if off = 0x49000 ∨ off = 0x49004 then .pending 0 (off % 8 / 4)
  else landReg off

/-- VF BAR0 of VF n (R218, R887): its region view is read-only but for RGN_CMD (R336). -/
def landVf (n off : Nat) : Landing :=
  if off < 0xC then .readOnly off
  else if 0x1000 ≤ off ∧ off < 0x1100 then
    match landReg (R.RGN_STATE n + (off - 0x1000)) with
    | .reg r => if r = R.RGN_CMD n then .reg r else .readOnly r
    | l => l
  else if 0x2000 ≤ off ∧ off < 0x2140 then landReg (R.RING_DB_BASE_LO n + (off - 0x2000))
  else if off = 0x3000 then .readOnly (R.PWR_RGN_ENERGY_LO n)
  else if off = 0x3004 then .readOnly (R.PWR_RGN_ENERGY_HI n)
  else if off = 0x3008 then .readOnly (R.PWR_RGN_CAP n)
  else if off = 0x4000 then .readOnly (R.VF_ACCESS_TOTAL n)
  else if 0x4100 ≤ off ∧ off < 0x4180 then .readOnly (R.VF_ACCESS_LOG_W0 n 0 + (off - 0x4100))
  else if 0x8000 ≤ off ∧ off < 0x8040 then .msix (n + 1) ((off - 0x8000) / 16) (off % 16 / 4)
  else if off = 0x9000 ∨ off = 0x9004 then .pending (n + 1) (off % 8 / 4)
  else .reserved

def landing (f : Fn) (off : Nat) : Landing :=
  match f with
  | .pf => landPf off
  | .vf n => landVf n off

/-- A PF BAR0 offset whose block serves the DW; none at a reserved offset (R884, R885). The VF log registers, the MSI-X
tables and the pending bits are served as HOST. -/
def Landing.served : Landing → Option Nat
  | .reserved => none
  | .readOnly off => some (if off < 0x1000000 then off else R.HOST_STATUS)
  | .msix _ _ _ => some R.HOST_STATUS
  | .pending _ _ => some R.HOST_STATUS
  | .reg off => some off

/-- The columns of R886: an access completes in M2 without a wake; in M3; before READY reads 1. -/
def servedM2 (off : Nat) : Bool := off < 0x60000 || off / 0x10000 == 0xA1
def servedM3 (off : Nat) : Bool :=
  let b := off / 0x10000
  b < 0x30 || b == 0x32 || b == 0xA0 || b == 0xA1 || b == 0xA2
def servedWarm (off : Nat) : Bool := off < 0x50000

/-! ### The access log (R264 to R267) -/

/-- The causes of R265. -/
def caPARTIAL_BE : Nat := 1
def caRSVD_BIT : Nat := 2
def caRSVD_RANGE : Nat := 3
def caRO_REGISTER : Nat := 4
def caUNDEF_ENCODING : Nat := 5
def caRWQ_REFUSED : Nat := 6
def caREGION_REFUSED : Nat := 7
def caNOT_READY : Nat := 8
def caPOWERED_DOWN : Nat := 9
def caPOISONED : Nat := 10
def caNO_VF : Nat := 11
def caRELATION_REFUSED : Nat := 12

/-- The four words of a log entry. -/
def logWords (s : State) (off cause : Nat) (w : DwWrite) : List Nat :=
  let who := match w.fn with
    | .pf => 0
    | .vf n => 2 ^ 31 + n.val * 2 ^ 24
  [cause * 2 ^ 24 + off % 2 ^ 24 / 4 * 4, who + w.be.toNat * 2 ^ 20 + bit w.burst * 2 ^ 19, w.data.toNat, s.time]

/-- Consecutive words from an offset. -/
def State.setWords (s : State) (off : Nat) (l : List Nat) : State :=
  overList l.zipIdx s fun t e => t.setWord (off + 4 * e.2) e.1

/-- A DW that is dropped or refused makes an entry in HOST_ACCESS_LOG, and one of VF n in VF_ACCESS_LOG too (R266). -/
def State.logWrite (s : State) (off cause : Nat) (w : DwWrite) : State :=
  let l := logWords s off cause w
  let t := (s.setWords (R.HOST_ACCESS_LOG_W0 (s.fld F.HOST_ACCESS_TOTAL_TOTAL % 16)) l).countMod F.HOST_ACCESS_TOTAL_TOTAL
  match w.fn with
  | .pf => t
  | .vf n => (t.setWords (R.VF_ACCESS_LOG_W0 n (t.fld (F.VF_ACCESS_TOTAL_TOTAL n) % 8)) l).countMod
      (F.VF_ACCESS_TOTAL_TOTAL n)

/-! ### What a register takes (R250, R257 to R260) -/

/-- The bits of the fields of a register that pass a test. -/
def RegDesc.mask (d : RegDesc) (p : Access → Bool) : Nat :=
  (d.fields.filter fun f => p f.access).foldl (fun m f => m ||| maskBits f.lo (f.hi + 1 - f.lo)) 0

def Access.writable : Access → Bool
  | .ro => false
  | _ => true

/-- The fields that keep what is written: RW, RWS, RWQ. -/
def Access.keeps : Access → Bool
  | .rw | .rws | .rwq => true
  | _ => false

/-- The register takes a write: RW, RWS and RWQ fields their bits, but those of `hold`; W1C bits clear where a 1 is written;
WO fields keep nothing. -/
def State.putReg (s : State) (off : Nat) (d : RegDesc) (v hold : Nat) : State :=
  let old := s.word off d.cold
  let put := d.mask Access.keeps &&& (2 ^ 32 - 1 - hold)
  let new := (old &&& (2 ^ 32 - 1 - put)) ||| (v &&& put)
  s.setWord off (new &&& (2 ^ 32 - 1 - (v &&& d.mask fun a => a = .w1c)))

/-! ### Undefined encodings (R9, R259) -/

/-- A field and the error bit that a value outside its encodings sets. -/
abbrev FieldErr := Fld × Fld

/-- The field in a list of its own when its value in `v` is not in `lo … hi`. -/
def outside (v : Nat) (f e : Fld) (lo hi : Nat) : List FieldErr :=
  let x := bitsOf v f.lo f.width
  if lo ≤ x ∧ x ≤ hi then [] else [(f, e)]

/-- The same, with 0 allowed. -/
def outside0 (v : Nat) (f e : Fld) (lo hi : Nat) : List FieldErr :=
  if bitsOf v f.lo f.width = 0 then [] else outside v f e lo hi

/-- Undefined encodings of the CLK, PWR and RWE registers. -/
def badSupply (b off v : Nat) : List FieldErr :=
  let thr := F.PWR_ERR_THR_ERR
  let slp := F.PWR_M2_CTRL_SLEEP_ERR
  if b = R.CLK_TILE_FREQ then outside v F.CLK_TILE_FREQ_CEILING_MULT F.CLK_ERR_FREQ_ERR 0x14 0x50
  else if b = R.PWR_CAP then outside0 v F.PWR_CAP_PF_CAP_W F.PWR_ERR_CAP_ERR 300 1100
  else if b = R.PWR_RGN_CAP 0 then outside0 v (F.PWR_RGN_CAP_CAP_W ((off - b) / 4)) F.PWR_ERR_CAP_ERR 5 1100
  else if b = R.PWR_FHALT_CTRL then outside v F.PWR_FHALT_CTRL_TD_MS F.PWR_ERR_TD_ERR 20 2000
  else if b = R.PWR_SAG then outside v F.PWR_SAG_SAMPLES thr 4 255 ++ outside v F.PWR_SAG_MV thr 38000 50000
  else if b = R.PWR_SAG_CLEAR then outside v F.PWR_SAG_CLEAR_MV thr 0 52000
  else if b = R.PWR_DROPOUT then outside v F.PWR_DROPOUT_SAMPLES thr 2 16 ++ outside v F.PWR_DROPOUT_MV thr 32000 42000
  else if b = R.PWR_LOSS then outside v F.PWR_LOSS_SAMPLES thr 2 8 ++ outside v F.PWR_LOSS_MV thr 28000 34000
  else if b = R.PWR_SWELL then outside v F.PWR_SWELL_SAMPLES thr 2 255 ++ outside v F.PWR_SWELL_MV thr 60500 64000
  else if b = R.PWR_TRANSIENT then outside v F.PWR_TRANSIENT_MV thr 200 10000
  else if b = R.PWR_RIPPLE then outside v F.PWR_RIPPLE_MV thr 500 10000
  else if b = R.PWR_M2_CTRL then
    outside v F.PWR_M2_CTRL_ISLAND_IDLE_US slp 10 10000 ++ outside v F.PWR_M2_CTRL_IDLE_TICKS slp 4 255
  else if b = R.RWE_POLL then
    outside v F.RWE_POLL_POLL_MAX_US F.RWE_ERR_POLL_ERR 1 1000 ++ outside v F.RWE_POLL_POLL_MIN_US F.RWE_ERR_POLL_ERR 1 1000
  else []

/-- Undefined encodings of the ring setup pages and the RGN blocks. -/
def badRegion (b off v : Nat) : List FieldErr :=
  let vf := (off - 0x54000) / 0x200
  let n := off / 0x10000 - 0x10
  if b = R.RING_CQ_SIZE 0 then outside v (F.RING_CQ_SIZE_SIZE_LOG2 vf) (F.RING_VF_STATUS_SETUP_ERR vf) 6 16
  else if b = R.RING_SIZE 0 0 then outside v (F.RING_SIZE_SIZE_LOG2 vf 0) (F.RING_VF_STATUS_SETUP_ERR vf) 4 16
  else if b = R.RGN_CMD 0 then outside v (F.RGN_CMD_CMD n) (F.RGN_ERR_CMD_ERR n) 0 4
  else if b = R.WIN_CTRL 0 0 then outside v (F.WIN_CTRL_PLACEMENT n 0) (F.RGN_MEM_ERR_MEM_ERR n) 0 2
  else if b = R.RGN_MEM_CFG 0 then outside v (F.RGN_MEM_CFG_PIN_WAYS n) (F.RGN_MEM_ERR_MEM_ERR n) 0 24
  else if b = R.RGN_LAT_TARGET 0 0 then outside0 v (F.RGN_LAT_TARGET_TARGET n 0) (F.RGN_REG_ERR_REG_ERR n) 20 10000
  else []

/-- Undefined encodings of the MSL, HBM, HL, VSP and FLT blocks. -/
def badUnit (b off v : Nat) : List FieldErr :=
  let i := off / 0x10000 - 0x40
  let k := off / 0x20000 - 0x40
  let p := off / 0x10000 - 0x90
  let cfg := F.MSL_INTEG_ERR_INTEG_CFG_ERR i
  let pol := F.FLT_ERR_POLICY_ERR
  if b = R.HBM_AGE 0 then outside v (F.HBM_AGE_AGE_LIMIT_US k) (F.HBM_ERR_AGE_ERR k) 1 1000
  else if b = R.HL_CTRL 0 then outside v (F.HL_CTRL_MIN_WIDTH p) (F.HL_ERR_CFG_ERR p) 0 2
  else if b = R.HL_LANE_LIMIT 0 then outside v (F.HL_LANE_LIMIT_LANE_ERR_LIMIT p) (F.HL_ERR_CFG_ERR p) 16 65535
  else if b = R.MSL_BUSHEL_CFG 0 then
    outside v (F.MSL_BUSHEL_CFG_THRESHOLD i) cfg 1 254 ++ outside v (F.MSL_BUSHEL_CFG_LEAK_MS i) cfg 1 65535
  else if b = R.MSL_SCRUB_CTRL 0 then outside v (F.MSL_SCRUB_CTRL_SWEEP_MIN i) cfg 1 10080
  else if b = R.VSP_MBOX_CMD then outside v F.VSP_MBOX_CMD_REQ_WORDS F.VSP_ERR_MBOX_REFUSED 0 64
  else if b = R.FLT_POLICY then
    outside v F.FLT_POLICY_CORE_AUTO pol 0 2 ++ outside v F.FLT_POLICY_TILE_AUTO pol 0 2
      ++ outside v F.FLT_POLICY_SLICE_AUTO pol 0 2
  else if b = R.FLT_LIMITS then
    outside v F.FLT_LIMITS_CH_UE_LIMIT pol 1 255 ++ outside v F.FLT_LIMITS_BUSHEL_LIMIT pol 1 255
      ++ outside v F.FLT_LIMITS_TILE_UE_LIMIT pol 1 255 ++ outside v F.FLT_LIMITS_CORE_UE_LIMIT pol 1 255
  else []

/-- The fields of the register at `off`, whose array begins at `b`, that a write of `v` would give an undefined encoding. -/
def badFields (b off v : Nat) : List FieldErr := badSupply b off v ++ badRegion b off v ++ badUnit b off v

/-! ### Writes refused whole (R265 orders 8 to 11, and two of order 12) -/

/-- A refusal: its cause, and the state with the error bits it sets (R894). -/
abbrev Refused := Option (Nat × State)

/-- A region setup write of region n (R210, R337). -/
def State.setupRefusal (s : State) (n : Nat) : Refused :=
  if !s.vfExists n then some (caNO_VF, s.raise (F.RGN_ERR_REFUSED_WRITE n))
  else if s.rgnState n ≠ rCONFIGURING then some (caREGION_REFUSED, s.raise (F.RGN_ERR_REFUSED_WRITE n))
  else none

/-- The tiles of a rectangle as a write of RGN_RECT names it. -/
def rectHas (v t : Nat) : Bool :=
  bitsOf v 0 4 ≤ tileX t && tileX t ≤ bitsOf v 8 4 && extentHas (bitsOf v 16 2) (tileY t)

/-- A write of RGN_RECT gives an invalid rectangle, or one that shares a tile with another region's (R325, R327). -/
def State.rectBad (s : State) (n v : Nat) : Bool :=
  bitsOf v 16 2 == 0 || decide (bitsOf v 8 4 < bitsOf v 0 4)
    || (List.range 32).any fun m => m != n && s.rgnState m != rFREE && (s.tilesOf m).any (rectHas v)

/-- RGN_CMD (R334, R335, R338): a command that is not accepted. Codes 5 to 15 are undefined encodings. -/
def State.cmdRefusal (s : State) (f : Fn) (n v : Nat) : Refused :=
  let c := bitsOf v 0 4
  let st := s.rgnState n
  let no (cause : Nat) : Refused := some (cause, (s.raise (F.RGN_ERR_CMD_REFUSED n)).raise (F.RGN_ERR_REFUSED_WRITE n))
  if c = 1 ∨ c = 2 then
    if !s.vfExists n then no caNO_VF
    else if f ≠ .pf ∨ st ≠ (if c = 1 then rFREE else rCONFIGURING) then no caREGION_REFUSED
    else if c = 2 ∧ s.commitCode n ≠ 0 then
      some (caRELATION_REFUSED, (s.setFld (F.RGN_ERR_COMMIT_CODE n) (s.commitCode n)).raise (F.RGN_ERR_COMMIT_ERR n))
    else none
  else if c = 3 then if st = rFREE ∨ st = rCONFIGURING then no caREGION_REFUSED else none
  else if c = 4 then if f ≠ .pf ∨ st = rFREE then no caREGION_REFUSED else none
  else none

/-- HL_ASSIGN of port p (R751, R27). -/
def State.assignRefusal (s : State) (p v : Nat) : Refused :=
  let n := bitsOf v 0 5
  let set := v.testBit 8
  match s.portRegion p with
  | some m =>
    if set then some (if s.vfExists n then caREGION_REFUSED else caNO_VF, s.raise (F.RGN_ERR_REFUSED_WRITE n))
    else s.setupRefusal m
  | none =>
    if !set then none
    else
      match s.setupRefusal n with
      | some r => some r
      | none => if s.portFits n p then none else some (caUNDEF_ENCODING, s.raise (F.HL_ERR_ASSIGN_ERR p))

/-- A ring setup register is written while its unit is active (R323). -/
def State.ringRefusal (s : State) (b off : Nat) : Refused :=
  let n := (off - 0x54000) / 0x200
  let i := (off - 0x54000) % 0x200 / 0x20 - 2
  let cq := s.on (F.RING_ENABLE_CQ n)
  let busy :=
    if b = R.RING_DB_BASE_LO 0 ∨ b = R.RING_DB_BASE_HI 0 then
      cq || (List.range 8).any fun j => s.ringState n j != qDISABLED
    else if b = R.RING_CQ_BASE_LO 0 ∨ b = R.RING_CQ_BASE_HI 0 ∨ b = R.RING_CQ_SIZE 0 then cq
    else if b = R.RING_BASE_LO 0 0 ∨ b = R.RING_BASE_HI 0 0 ∨ b = R.RING_SIZE 0 0 ∨ b = R.RING_GEN 0 0 then
      s.ringState n i != qDISABLED
    else false
  if busy then some (caRWQ_REFUSED, s.raise (F.RING_VF_STATUS_RWQ_REFUSED n)) else none

/-- Key slot k is used by a region that is not FREE (R510). -/
def State.keyUsed (s : State) (k : Nat) : Bool :=
  (List.range 32).any fun n => s.rgnState n != rFREE && s.on (F.RGN_CONFIG_REQUIRE_SIGNED n)
    && s.fld (F.RGN_CONFIG_KEY_SLOT n) == k

/-- The fields of `v` that a write leaves in force: an undefined encoding keeps its field (R259). -/
def State.fieldAfter (s : State) (b off v : Nat) (f : Fld) : Nat :=
  if f.off ≠ off ∨ (badFields b off v).any (fun e => e.1 = f) then s.fld f else bitsOf v f.lo f.width

/-- The threshold relations (R149), with the values that the write would leave. -/
def State.thresholdsOk (s : State) (b off v : Nat) : Bool :=
  let g := s.fieldAfter b off v
  let loss := g F.PWR_LOSS_MV
  let drop := g F.PWR_DROPOUT_MV
  let dropClear := g F.PWR_DROPOUT_CLEAR_MV
  let sag := g F.PWR_SAG_MV
  decide (loss + 1000 ≤ drop) && decide (drop + 500 ≤ dropClear) && decide (dropClear ≤ sag) && decide (drop + 1000 ≤ sag)
    && decide (sag + 500 ≤ g F.PWR_SAG_CLEAR_MV)

/-- A write of RST_CTRL with a command bit that R204 refuses. -/
def State.resetRefusal (s : State) (v : Nat) : Refused :=
  let both := v.testBit 0 && v.testBit 1
  let key := bitsOf v 16 16 == 0xA5C3
  if (v.testBit 0 || v.testBit 1) && (both || !key) then
    some (caRELATION_REFUSED, (s.when both fun t => t.raise F.RST_ERR_CMD_ERR).when (!key) fun t => t.raise F.RST_ERR_KEY_ERR)
  else none

/-- HL_CTRL of port p (R760, R853): ENABLE of a fenced port, or cleared while the port's region is RUNNING. -/
def State.enableRefusal (s : State) (p v : Nat) : Refused :=
  let running := match s.portRegion p with
    | some n => s.rgnState n == rRUNNING
    | none => false
  let was := s.on (F.HL_CTRL_ENABLE p)
  if (v.testBit 0 && s.portFenced p) || (!v.testBit 0 && was && running) then
    some (caRWQ_REFUSED, s.raise (F.HL_ERR_ENABLE_ERR p))
  else none

/-- Refusals of the units' own registers: HBM_WATERMARK (R728), HL_CTRL, HL_MODULE (R769), the keys (R510), the mailbox
(R836). -/
def State.unitRefusal (s : State) (b off v : Nat) : Refused :=
  let p := off / 0x10000 - 0x90
  let k := off / 0x20000 - 0x40
  let mail := s.fld F.VSP_MBOX_STATUS_STATE != 0
  if b = R.HBM_WATERMARK 0 then
    let high := bitsOf v 0 7
    let critical := bitsOf v 8 7
    if 8 ≤ high ∧ high < critical ∧ critical ≤ 62 then none else some (caRELATION_REFUSED, s.raise (F.HBM_ERR_WM_ERR k))
  else if b = R.HL_CTRL 0 then s.enableRefusal p v
  else if b = R.HL_ASSIGN 0 then s.assignRefusal p v
  else if b = R.HL_MODULE then
    if (List.range 4).all (fun q => s.linkState q == lDISABLED) then none
    else some (caRWQ_REFUSED, s.raise (F.HL_ERR_CFG_ERR 0))
  else if b = R.SCH_KEY_VALID then
    if (List.range 4).any (fun i => s.bitAt F.SCH_KEY_VALID_VALID i && !v.testBit i && s.keyUsed i) then
      some (caRWQ_REFUSED, s.raise F.SCH_ERR_KEY_ERR)
    else none
  else if b = R.SCH_KEY_DIGEST 0 0 then
    if s.bitAt F.SCH_KEY_VALID_VALID ((off - b) / 0x40) then some (caRWQ_REFUSED, s.raise F.SCH_ERR_KEY_ERR) else none
  else if b = R.VSP_MBOX_CMD ∨ b = R.VSP_MBOX_REQ 0 then
    if mail then some (caRWQ_REFUSED, s.raise F.VSP_ERR_MBOX_REFUSED) else none
  else none

/-- The region setup registers of the RGN blocks (R337). -/
def setupRegs : List Nat :=
  [R.RGN_RECT 0, R.RGN_CONFIG 0, R.WIN_CTRL 0 0, R.WIN_BASE_LO 0 0, R.WIN_BASE_HI 0 0, R.WIN_SIZE_LO 0 0, R.WIN_SIZE_HI 0 0,
    R.WIN_SLICE_BASE 0 0, R.WIN_OVF 0 0, R.RGN_MEM_CFG 0, R.RGN_BUDGET 0 0, R.RGN_LAT_TARGET 0 0]

/-- The threshold registers (R149). -/
def thresholdRegs : List Nat := [R.PWR_SAG, R.PWR_SAG_CLEAR, R.PWR_DROPOUT, R.PWR_DROPOUT_CLEAR, R.PWR_LOSS]

/-- Why a write by function `f` to the register at `off`, whose array begins at `b`, is refused whole; none when it is
carried out. -/
def State.wholeRefusal (s : State) (f : Fn) (b off v : Nat) : Refused :=
  let n := off / 0x10000 - 0x10
  if setupRegs.contains b then
    match s.setupRefusal n with
    | some r => some r
    | none =>
      if b = R.RGN_RECT 0 ∧ s.rectBad n v then some (caUNDEF_ENCODING, s.raise (F.RGN_ERR_RECT_ERR n)) else none
  else if b = R.RGN_CMD 0 then s.cmdRefusal f n v
  else if thresholdRegs.contains b then
    if s.thresholdsOk b off v then none else some (caRELATION_REFUSED, s.raise F.PWR_ERR_THR_ERR)
  else if b = R.RST_CTRL then s.resetRefusal v
  else if b = R.PWR_FHALT_CTRL then
    if v.testBit 31 && !s.releaseAccepted then some (caRELATION_REFUSED, s.raise F.PWR_ERR_RELEASE_REFUSED) else none
  else if b = R.RWE_POLL then
    if s.fieldAfter b off v F.RWE_POLL_POLL_MAX_US < s.fieldAfter b off v F.RWE_POLL_POLL_MIN_US then
      some (caRELATION_REFUSED, s.raise F.RWE_ERR_POLL_ERR)
    else none
  else
    match s.ringRefusal b off with
    | some r => some r
    | none => s.unitRefusal b off v

/-! ### What follows from a write -/

/-- RING_ENABLE (R316, R324): each bit is a field of its own; a refused bit keeps its value. -/
def State.enableRings (s : State) (n v : Nat) : Nat × State :=
  let st := s.rgnState n
  let up := st == rREADY || st == rRUNNING || st == rFAULTED
  let was := s.on (F.RING_ENABLE_CQ n)
  let stay := was && !v.testBit 8 && (!(s.vf n).held.isEmpty || (List.range 8).any fun i => s.ringState n i != qDISABLED)
  let cq := v.testBit 8 || stay
  let old (i : Nat) : Bool := s.bitAt (F.RING_ENABLE_RING n) i
  let bad (i : Nat) : Bool := v.testBit i && !old i && (!up || s.ringState n i == qSTOPPING || !cq)
  let t := s.setFld (F.RING_ENABLE_CQ n) (bit cq)
  let t := t.when (cq && !was) fun u =>
    ((u.setFld (F.RING_CQ_PRODUCED_PRODUCED n) 0).modVf n fun x => { x with consumer := 0 }).noteStatus n 8
  let t := overList (List.range 8) t fun u i =>
    if bad i then u
    else
      let w := u.setBit (F.RING_ENABLE_RING n) i (v.testBit i)
      if v.testBit i && !old i then w.enableRing n i else if !v.testBit i && old i then w.disableRing n i else w
  let refused := stay || (List.range 8).any bad
  (if refused then caRWQ_REFUSED else 0, t.when refused fun u => u.raise (F.RING_VF_STATUS_ENABLE_ERR n))

/-- An accepted command of RGN_CMD (R334). -/
def State.regionCommand (s : State) (n c : Nat) : State :=
  match c with
  | 1 => s.configureRegion n
  | 2 => s.commitRegion n
  | 3 => s.startReset n .command false
  | 4 => if s.rgnState n = rCONFIGURING then s.freeRegion n else s.startReset n .command true
  | _ => s

/-- INT_PF_ENABLE (R223): a vector whose status bit is 1 and whose enable bit comes to be 1 is sent. -/
def State.enabledVectors (s t : State) : State :=
  overList (List.range 8) t fun u i =>
    u.when (u.bitAt F.INT_PF_ENABLE_ENABLE i && !s.bitAt F.INT_PF_ENABLE_ENABLE i && u.bitAt F.INT_PF_STATUS_STATUS i) fun w =>
      w.sendMsix 0 i

/-- HL_CTRL.ENABLE of port p has changed (R734, R760). -/
def State.enableChanged (s t : State) (p : Nat) : State :=
  let was := s.on (F.HL_CTRL_ENABLE p)
  let now := t.on (F.HL_CTRL_ENABLE p)
  if now && !was then t.startTraining p
  else if was && !now && t.linkState p != lDISABLED then t.modPort p fun q => { q with disabling := true }
  else t

/-- A request is submitted (R835). -/
def State.submitMail (s : State) : State := (s.setFld F.VSP_MBOX_STATUS_STATE 1).countMod F.VSP_MBOX_STATUS_SEQ

/-- What follows from a write of `v` to the register at `off`: `s` is the state before it, `t` the state after its fields. A
release from M3 finds `crossings`. -/
def State.followWrite (s : State) (b off v : Nat) (crossings : List Crossing) (t : State) : State :=
  let n := off / 0x10000 - 0x10
  if b = R.CLK_TILE_FREQ then t.startSlew
  else if b = R.CLK_SHED then t.updateShed
  else if b = R.CLK_ERR then
    t.when (v.testBit 7) fun u => ((u.lower F.CLK_XING_LOG_VALID).lower F.CLK_XING_LOG_PLANE).setFld F.CLK_XING_LOG_TILE_ID 0
  else if b = R.PWR_CAP then t.noteCap
  else if b = R.PWR_FHALT_CTRL then t.when (v.testBit 31) fun u => u.releaseM3 crossings
  else if b = R.RST_CTRL then
    if v.testBit 0 then t.warmCommand else if v.testBit 1 then t.coldState .command else t
  else if b = R.INT_PF_ENABLE then s.enabledVectors t
  else if b = R.RGN_CMD 0 then t.regionCommand n (bitsOf v 0 4)
  else if b = R.RGN_RECT 0 then t.noteRect n (s.slicesOf n)
  else if b = R.HL_CTRL 0 then s.enableChanged t (off / 0x10000 - 0x90)
  else if b = R.VSP_MBOX_CMD then t.when (v.testBit 31) State.submitMail
  else if b = R.VSP_MBOX_STATUS then t.when (v.testBit 2 && s.on F.VSP_MBOX_STATUS_DONE) fun u => u.setFld F.VSP_MBOX_STATUS_STATE 0
  else t

/-- A register with a writable field takes a DW whose reserved bits are 0: the cause it is logged with, 0 for none, and the
state after it. -/
def State.writeReg (s : State) (f : Fn) (off : Nat) (d : RegDesc) (v : Nat) (crossings : List Crossing) : Nat × State :=
  if d.base = R.RING_ENABLE 0 then s.enableRings ((off - 0x54000) / 0x200) v
  else
    match s.wholeRefusal f d.base off v with
    | some r => r
    | none =>
      let bad := badFields d.base off v
      let t := s.putReg off d v (bad.foldl (fun m e => m ||| maskBits e.1.lo e.1.width) 0)
      let t := s.followWrite d.base off v crossings t
      (if bad.isEmpty then 0 else caUNDEF_ENCODING, overList bad t fun u e => u.raise e.2)

/-- A word of an MSI-X table entry (R227, R890). Unmasking sends a held message (R225). -/
def State.writeMsix (s : State) (i vector word : Nat) (v : Word) : State :=
  let put (e : MsixEntry) : MsixEntry :=
    match word with
    | 0 => { e with addrLo := v &&& 0xFFFFFFFC }
    | 1 => { e with addrHi := v }
    | 2 => { e with data := v }
    | _ => { e with masked := v.getLsbD 0 }
  (s.modFn i fun f => { f with table := smMod f.table {} vector put }).sendHeld i vector

/-! ### One DW (R247 to R265) -/

/-- The function's Memory Space Enable is 1, and the function is there. -/
def State.barOn (s : State) (f : Fn) : Bool :=
  s.pcieReleased && (s.fn (fnIndex f)).memSpace &&
    match f with
    | .pf => true
    | .vf n => s.vfExists n

/-- A DW to a VF's BAR0 during an FLR of that VF. -/
def State.inFlr (s : State) (f : Fn) : Bool :=
  match f with
  | .pf => false
  | .vf n => (s.fn (n.val + 1)).flr

/-- The cause, of orders 1 to 7 of R265, that drops a DW. -/
def State.dropCause (s : State) (off : Nat) (w : DwWrite) : Option Nat :=
  let l := landing w.fn off
  let d := match l with
    | .reg r => regAt r
    | _ => none
  let ready := s.power.phase == .run
  if w.poisoned then some caPOISONED
  else if w.be ≠ 0xF then some caPARTIAL_BE
  else
    match l.served with
    | none => some caRSVD_RANGE
    | some r =>
      if (!ready && !servedWarm r) || s.inFlr w.fn then some caNOT_READY
      else if s.fld F.PWR_STATE_STATE = 3 ∧ !servedM3 r then some caPOWERED_DOWN
      else
        match l, d with
        | .msix _ _ _, _ => none
        | .reg _, some d =>
          if d.mask Access.writable = 0 then some caRO_REGISTER
          else if w.data.toNat &&& (2 ^ 32 - 1 - d.mask fun _ => true) ≠ 0 then some caRSVD_BIT
          else none
        | _, _ => some caRO_REGISTER

/-- The host block carries out one DW. A poisoned TLP sets POISON_WRITE, whatever its byte enables (R237); a DW without byte
enables does nothing else (R251). -/
def State.carryOut (s : State) (off : Nat) (w : DwWrite) (crossings : List Crossing) : State :=
  let s := s.when w.poisoned fun t => t.raise F.HOST_ERR_POISON_WRITE
  if w.be = 0 then s
  else
    match s.dropCause off w with
    | some c => s.logWrite off c w
    | none =>
      match landing w.fn off with
      | .msix i vector word => s.writeMsix i vector word w.data
      | .reg r =>
        match regAt r with
        | some d =>
          let out := s.writeReg w.fn r d w.data.toNat crossings
          if out.1 = 0 then out.2 else out.2.logWrite off out.1 w
        | none => s
      | _ => s

/-- The wake-hint page of a VF (R242). -/
def hintPage (f : Fn) (off : Nat) : Option (Fin 32) :=
  match f with
  | .pf => none
  | .vf n => if 0x10000 ≤ off ∧ off < 0x11000 then some n else none

/-- The module sleeps: an access that needs a wake waits for its end. -/
def State.asleep (s : State) : Bool := s.power.phase == .run && (s.fld F.PWR_STATE_STATE == 2 || s.power.wakeLatched.isSome)

/-- A host write of one DW at byte offset `off` of the function's BAR0. In M2 a write to a block that is not served there is
a wake cause and waits for the wake; so does every later write, since accesses are carried out in order (R166, R247). -/
def State.hostWrite (s : State) (off : Nat) (w : DwWrite) (crossings : List Crossing := []) : State :=
  let off := off / 4 * 4
  if !s.barOn w.fn || decide ((if w.fn = .pf then 0x1000000 else 0x20000) ≤ off) then s
  else
    match hintPage w.fn off with
    | some n => (s.takeHint n).wakeBy 1
    | none =>
      let needs := w.be ≠ 0 && match (landing w.fn off).served with
        | none => false
        | some r => !servedM2 r
      let s := s.when needs fun t => t.wakeBy 3
      if (needs && s.asleep) || !s.power.heldWrites.isEmpty then
        { s with power := { s.power with heldWrites := s.power.heldWrites ++ [.registerWrite (BitVec.ofNat 24 off) w] } }
      else s.carryOut off w crossings

/-! ### The commands -/

/-- The two DWs that a write of four bytes at `k` bytes past a DW boundary reaches the module as (R255). -/
def lowPart (w : DwWrite) (k : Nat) : DwWrite := { w with data := w.data <<< (8 * k), be := w.be <<< k, burst := true }
def highPart (w : DwWrite) (k : Nat) : DwWrite :=
  { w with data := w.data >>> (32 - 8 * k), be := w.be >>> (4 - k), burst := true }

/-- REGISTER_WRITE (R250): a DW at any offset of a function's BAR0; one that does not begin on a 4-byte boundary is two DWs
with partial byte enables (R255). -/
def execRegisterWrite (off : BitVec 24) (w : DwWrite) (s : State) : Host.Outcome State Fault Refusal :=
  let o := off.toNat
  let k := o % 4
  if k = 0 then done (s.hostWrite o w) else done ((s.hostWrite (o - k) (lowPart w k)).hostWrite (o - k + 4) (highPart w k))

/-- MSIX_TABLE_WRITE (R890): word `word` of a vector's entry. -/
def execMsixTableWrite (fn : Fn) (vector : Fin 8) (word : Fin 4) (w : DwWrite) (s : State) :
    Host.Outcome State Fault Refusal :=
  let base := if fn = .pf then 0x48000 else 0x8000
  done (s.hostWrite (base + 16 * vector + 4 * word) { w with fn := fn })

/-- The offset of a ring setup page's register in the BAR of the function that writes: VF BAR0 when it is VF n's own, PF
BAR0 otherwise (R322). -/
def ringPageOffset (f : Fn) (n reg : Nat) : Nat :=
  if f = .pf then R.RING_DB_BASE_LO n + reg else 0x2000 + reg

/-- The offset of a register of RGN[n] in the writer's BAR. -/
def regionOffset (f : Fn) (n reg : Nat) : Nat := if f = .pf then R.RGN_STATE n + reg else 0x1000 + reg

/-- INT_PF_ENABLE_WRITE (R223). -/
def execIntPfEnableWrite (w : DwWrite) (s : State) : Host.Outcome State Fault Refusal := done (s.hostWrite R.INT_PF_ENABLE w)

/-- WARM (R175, R204): a write of RST_CTRL. -/
def execWarm (w : DwWrite) (s : State) : Host.Outcome State Fault Refusal := done (s.hostWrite R.RST_CTRL w)

/-- COLD (R181, R204): a write of RST_CTRL. -/
def execCold (w : DwWrite) (s : State) : Host.Outcome State Fault Refusal := done (s.hostWrite R.RST_CTRL w)

/-- WARM_KEEP_HBM_UPDATE (R204): a write of RST_CTRL. -/
def execWarmKeepHbmUpdate (w : DwWrite) (s : State) : Host.Outcome State Fault Refusal := done (s.hostWrite R.RST_CTRL w)

/-- FHALT_RELEASE (R144): a write of PWR_FHALT_CTRL; `crossings` is what the power-up of the halves finds. -/
def execFhaltRelease (w : DwWrite) (crossings : List Crossing) (s : State) : Host.Outcome State Fault Refusal :=
  done (s.hostWrite R.PWR_FHALT_CTRL w crossings)

/-- FORCE_SHED_WRITE (R110). -/
def execForceShedWrite (w : DwWrite) (s : State) : Host.Outcome State Fault Refusal := done (s.hostWrite R.CLK_SHED w)

/-- CEILING_MULT_WRITE (R64). -/
def execCeilingMultWrite (w : DwWrite) (s : State) : Host.Outcome State Fault Refusal := done (s.hostWrite R.CLK_TILE_FREQ w)

/-- KEY_VALID_WRITE (R510). -/
def execKeyValidWrite (w : DwWrite) (s : State) : Host.Outcome State Fault Refusal := done (s.hostWrite R.SCH_KEY_VALID w)

/-- HL_MODULE_WRITE (R769). -/
def execHlModuleWrite (w : DwWrite) (s : State) : Host.Outcome State Fault Refusal := done (s.hostWrite R.HL_MODULE w)

/-- MAILBOX_SUBMIT (R835). -/
def execMailboxSubmit (w : DwWrite) (s : State) : Host.Outcome State Fault Refusal := done (s.hostWrite R.VSP_MBOX_CMD w)

/-- MAILBOX_DONE_CLEAR (R835). -/
def execMailboxDoneClear (w : DwWrite) (s : State) : Host.Outcome State Fault Refusal := done (s.hostWrite R.VSP_MBOX_STATUS w)

/-- RING_ENABLE (R324): a write of VF n's RING_ENABLE that sets ring bits. -/
def execRingEnable (vf : Fin 32) (w : DwWrite) (s : State) : Host.Outcome State Fault Refusal :=
  done (s.hostWrite (ringPageOffset w.fn vf 0x18) w)

/-- RING_DISABLE (R318): a write of RING_ENABLE that clears ring bits. -/
def execRingDisable (vf : Fin 32) (w : DwWrite) (s : State) : Host.Outcome State Fault Refusal :=
  done (s.hostWrite (ringPageOffset w.fn vf 0x18) w)

/-- CQ_ENABLE (R324): a write of RING_ENABLE that sets bit 8. -/
def execCqEnable (vf : Fin 32) (w : DwWrite) (s : State) : Host.Outcome State Fault Refusal :=
  done (s.hostWrite (ringPageOffset w.fn vf 0x18) w)

/-- CQ_DISABLE (R324): a write of RING_ENABLE that clears bit 8. -/
def execCqDisable (vf : Fin 32) (w : DwWrite) (s : State) : Host.Outcome State Fault Refusal :=
  done (s.hostWrite (ringPageOffset w.fn vf 0x18) w)

/-- CONFIGURE (R334): a write of RGN_CMD. -/
def execConfigure (region : Fin 32) (w : DwWrite) (s : State) : Host.Outcome State Fault Refusal :=
  done (s.hostWrite (regionOffset w.fn region 0x4) w)

/-- COMMIT (R338): a write of RGN_CMD. -/
def execCommit (region : Fin 32) (w : DwWrite) (s : State) : Host.Outcome State Fault Refusal :=
  done (s.hostWrite (regionOffset w.fn region 0x4) w)

/-- RESET (R347): a write of RGN_CMD, by the PF or through VF n's region view. -/
def execReset (region : Fin 32) (w : DwWrite) (s : State) : Host.Outcome State Fault Refusal :=
  done (s.hostWrite (regionOffset w.fn region 0x4) w)

/-- RELEASE (R353): a write of RGN_CMD. -/
def execRelease (region : Fin 32) (w : DwWrite) (s : State) : Host.Outcome State Fault Refusal :=
  done (s.hostWrite (regionOffset w.fn region 0x4) w)

/-- RGN_RECT_WRITE (R327). -/
def execRgnRectWrite (region : Fin 32) (w : DwWrite) (s : State) : Host.Outcome State Fault Refusal :=
  done (s.hostWrite (regionOffset w.fn region 0x8) w)

/-- HBM_WATERMARK_WRITE (R728). -/
def execHbmWatermarkWrite (stack : Fin 8) (w : DwWrite) (s : State) : Host.Outcome State Fault Refusal :=
  done (s.hostWrite (R.HBM_WATERMARK stack) w)

/-- LINK_ENABLE (R734): a write of HL_CTRL. -/
def execLinkEnable (port : Fin 4) (w : DwWrite) (s : State) : Host.Outcome State Fault Refusal :=
  done (s.hostWrite (R.HL_CTRL port) w)

/-- LINK_DISABLE (R760): a write of HL_CTRL. -/
def execLinkDisable (port : Fin 4) (w : DwWrite) (s : State) : Host.Outcome State Fault Refusal :=
  done (s.hostWrite (R.HL_CTRL port) w)

/-- PORT_ASSIGN (R751): a write of HL_ASSIGN. -/
def execPortAssign (port : Fin 4) (w : DwWrite) (s : State) : Host.Outcome State Fault Refusal :=
  done (s.hostWrite (R.HL_ASSIGN port) w)

/-- PORT_UNASSIGN (R751): a write of HL_ASSIGN. -/
def execPortUnassign (port : Fin 4) (w : DwWrite) (s : State) : Host.Outcome State Fault Refusal :=
  done (s.hostWrite (R.HL_ASSIGN port) w)

end Sys2Proof.Machine
end

