-- ==== Sys2Proof/Machine/WakeEnd.lean ====
section
/-! DEFINITION. The end of a wake, and of the drain of a facility halt, with the register writes that waited for it
(R142, R166, R168, R169). -/

namespace Sys2Proof.Machine

/-- The register writes that waited are carried out in the order of their arrival. -/
def State.carryHeld (s : State) : State :=
  let t : State := { s with power := { s.power with heldWrites := [] } }
  overList s.power.heldWrites t fun u c =>
    match c with
    | .registerWrite off w => u.hostWrite off.toNat w
    | _ => u

/-- WAKE_COMPLETE (R168), with the crossings that failed and the repairs that did not load in the wake (R71 to R73, R193,
R194). -/
def execWakeComplete (p : PowerUp) (s : State) : Host.Outcome State Fault Refusal :=
  if s.power.waking && s.power.phase == .run then done (s.endWake p).carryHeld else done s

/-- HALT_DRAIN_COMPLETE (R142, R169, R761): every region is drained; dirty lines are written back, HBM enters self-refresh,
ports lose their links, and the module is in M3. From M2 the module goes to M3 without a wake: XREF, CTL and HOST start (R85). -/
def execHaltDrainComplete (s : State) : Host.Outcome State Fault Refusal :=
  if !s.on F.PWR_FHALT_STATUS_HALTING || !s.drained || s.flushWaits then done s
  else
    let up := (List.range 4).filter fun p => s.linkState p != lDISABLED
    let t := overList up s fun u p => u.disablePort p
    let t := (t.sleepHalves.raise F.CLK_STATUS_XREF_OK).raise F.CLK_STATUS_CTL_LOCK
    let t := t.when (s.fld F.PWR_STATE_STATE == 2) fun u => (u.raise F.CLK_STATUS_HOST_LOCK).driveClkreq true
    done (((t.lower F.PWR_FHALT_STATUS_HALTING).raise F.PWR_FHALT_STATUS_HALTED).setFld F.PWR_STATE_STATE 3).carryHeld

end Sys2Proof.Machine
end

