-- ==== Sys2Proof/Machine/Views.lean ====
section
/-! DEFINITION. What a read of a register returns (R7, R248, R252, R256, R261, R263, R886). A read changes nothing and is no
command of the table; a read that wakes the module is WAKE_CAUSE. Most registers read as the word `State.regs` holds; the
ones here show state that stands elsewhere: the device time, and the QDBG window (R584 to R587). -/

namespace Sys2Proof.Machine

/-! ### The QDBG window -/

/-- A core's QDBG registers show its queues: its region is neither FREE nor CONFIGURING, and its island is powered (R585). -/
def State.coreShown (s : State) (g : Nat) : Option Nat :=
  match s.ownerOf (tileOfCore g) with
  | none => none
  | some n => if s.rgnState n ≠ rCONFIGURING ∧ s.bitAt F.CLK_ISLAND_POWERED (islandOfTile (tileOfCore g)) then some n else none

/-- The same of a slice. -/
def State.sliceShown (s : State) (i : Nat) : Option Nat :=
  match s.ownerOf (tileOfSlice i) with
  | none => none
  | some n => if s.rgnState n ≠ rCONFIGURING then some n else none

/-- QDBG_Q_STATUS of receive queue q of core g. -/
def State.queueStatus (s : State) (n g q : Nat) : Nat :=
  let into := (s.channels n).filter fun c => c.dst == .core g q
  let back := into.any fun c => !c.credit
  let sum := (into.filter Channel.credit).foldl (fun a c => a + c.credits) 0
  bit (!into.isEmpty) * 2 ^ 31 + bit back * 2 ^ 30 + smGet (s.core g).pops 0 q % 256 * 2 ^ 16 + sum % 16 * 2 ^ 12
    + ((s.core g).queue q).length % 16

/-- QDBG_Q_HEAD word w, and QDBG_Q_POISON, of receive queue q of core g. -/
def State.queueHead (s : State) (g q w : Nat) : Nat :=
  match (s.core g).queue q with
  | [] => 0
  | m :: _ => (m.lo.toNat + m.hi.toNat * 2 ^ 64) / 2 ^ (32 * w) % 2 ^ 32

def State.queuePoison (s : State) (g q : Nat) : Nat :=
  match (s.core g).queue q with
  | [] => 0
  | m :: _ => bit m.poisonLo + 2 * bit m.poisonHi

/-- The byte of QDBG_CREDIT for channel c of core g. -/
def State.creditByte (s : State) (n g c : Nat) : Nat :=
  match (s.outChannel n (.core g c)) with
  | none => 0
  | some k =>
    let mode := ((s.channel n k).map Channel.credit).getD false
    128 + bit mode * 64 + smGet (s.core g).credits 0 k % 16

/-- A combining queue's entries. -/
def State.combEntries (s : State) (i q : Nat) : List CombEntry := smGet (s.slice i).combs [] q

/-- QDBG_CQ_STATUS of combining queue q of slice i. -/
def State.combStatus (s : State) (n i q : Nat) : Nat :=
  match s.combiner n i q with
  | none => 0
  | some c =>
    let es := s.combEntries i q
    let waits := es.any fun e => s.entryWaits n c e
    2 ^ 31 + bit c.int32 * 2 ^ 30 + bit waits * 2 ^ 29 + es.length % 32 * 2 ^ 16 + c.tags % 32 * 2 ^ 8 + c.expect % 128

/-- QDBG_CQ_TAG of entry t. -/
def State.combTag (s : State) (n i q t : Nat) : Nat :=
  match s.combiner n i q, (s.combEntries i q)[t]? with
  | some c, some e =>
    2 ^ 31 + bit (e.complete c) * 2 ^ 30 + bit e.poisoned * 2 ^ 29 + e.parts.length % 128 * 2 ^ 16 + e.tag % 2 ^ 16
  | _, _ => 0

/-- QDBG_CQ_INPUT of slice i. -/
def State.combInput (s : State) (n i : Nat) : Nat :=
  match (s.slice i).combIn with
  | [] => 0
  | x :: l =>
    let waits := match s.combiner n i x.q with
      | none => true
      | some c => !x.badTag && (joinEntry (s.combEntries i x.q) c x).isNone
    bit waits * 2 ^ 9 + x.q % 16 * 2 ^ 5 + (l.length + 1) % 32

/-- A register of the QDBG window, by its offset there. -/
def State.qdbg (s : State) (d : Nat) : Nat :=
  if d < 0x80000 then
    let g := d / 0x1000 * 8 + d % 0x1000 / 0x200
    let r := d % 0x200
    match s.coreShown g with
    | none => 0
    | some n =>
      if r < 0x100 then
        let q := r / 0x20
        let w := r % 0x20 / 4
        if w = 0 then s.queueStatus n g q else if w ≤ 4 then s.queueHead g q (w - 1) else s.queuePoison g q
      else
        let c := r - 0x100
        s.creditByte n g c + s.creditByte n g (c + 1) * 2 ^ 8 + s.creditByte n g (c + 2) * 2 ^ 16
          + s.creditByte n g (c + 3) * 2 ^ 24
  else
    let i := (d - 0x80000) / 0x1000
    let r := d % 0x1000
    match s.sliceShown i with
    | none => 0
    | some n =>
      if r = 0x800 then s.combInput n i
      else if r % 0x80 = 0 then s.combStatus n i (r / 0x80)
      else s.combTag n i (r / 0x80) (r % 0x80 / 4 - 16)

/-! ### Registers -/

/-- CLK_ISLAND.POWERED: the islands that are powered and clocked; those of a half whose tile clocks stand still are not. -/
def State.clockedIslands (s : State) : Nat :=
  let out (h : Half) (m : Nat) (v : Nat) : Nat := if s.stopped h then v &&& m else v
  out .east 0x00FF00FF (out .west 0xFF00FF00 (s.fld F.CLK_ISLAND_POWERED))

/-- What the register at an offset of the map reads as: its write-only fields read 0. -/
def State.readReg (s : State) (off : Nat) : Nat :=
  match regAt off with
  | none => 0
  | some d =>
    if off = R.CLK_TIME_LO then s.time % 2 ^ 32
    else if off = R.CLK_TIME_HI then s.time / 2 ^ 32
    else if off = R.CLK_TICK then s.tick
    else if off = R.CLK_TILE_FREQ then putBits (s.word off d.cold) 16 7 s.inForceMult
    else if off = R.CLK_ISLAND then s.clockedIslands
    else if 0xB00000 ≤ off ∧ off < 0xBC0000 then s.qdbg (off - 0xB00000)
    else s.word off d.cold &&& (2 ^ 32 - 1 - d.mask fun a => a = .wo)

/-- A word of an MSI-X table entry. -/
def State.readMsix (s : State) (i vector word : Nat) : Nat :=
  let e := smGet (s.fn i).table {} vector
  match word with
  | 0 => e.addrLo.toNat
  | 1 => e.addrHi.toNat
  | 2 => e.data.toNat
  | _ => bit e.masked

/-- A read of one DW of a function's BAR0 in M0, M1 or M3, or after the wake it causes: reserved offsets, blocks not served
before READY and blocks gated in M3 read 0 (R176, R256, R263). -/
def State.hostRead (s : State) (f : Fn) (off : Nat) : Nat :=
  let l := landing f (off / 4 * 4)
  match l.served with
  | none => 0
  | some r =>
    if (s.power.phase != .run && !servedWarm r) || (s.fld F.PWR_STATE_STATE == 3 && !servedM3 r) then 0
    else
      match l with
      | .msix i v w => s.readMsix i v w
      | .pending i w => (s.fn i).pendingBits / 2 ^ (32 * w) % 2 ^ 32
      | .readOnly r | .reg r => s.readReg r
      | .reserved => 0

end Sys2Proof.Machine
end

