-- ==== Sys2Proof/Machine/Service.lean ====
section
/-! DEFINITION. Unit records, orders, automatic fencing and captures (19_vesper_management.md, R816 to R819;
20_fencing_service_and_returns.md, R849 to R874), and Vesper's reading of the logs (R127, R800 to R802, R805). -/

namespace Sys2Proof.Machine

/-! ### Units (R837, R866, R867) -/

/-- The record of a kind code and an index; a slice has its tile's record (R850). -/
def keyOf (kind i : Nat) : Option Nat :=
  match kind with
  | 1 => if i < 1024 then some i else none
  | 2 => if i < 192 then some (1024 + i) else none
  | 3 => if i < 64 then some (1024 + tileOfSlice i) else none
  | 4 => if i < 4 then some (1216 + i) else none
  | _ => none

/-- The kind code of a record. -/
def kindCode (key : Nat) : Nat := if key < 1024 then 1 else if key < 1216 then 2 else 4

def State.record (s : State) (key : Nat) : UnitRec := smGet s.vesper.records {} key

/-- The unit's state in the data path. -/
def State.pathState (s : State) (key : Nat) : Nat := s.unitState (unitOf key).1 (unitOf key).2

/-- The region that is not FREE and holds the unit (R858, R862). -/
def State.holder (s : State) (key : Nat) : Option Nat :=
  let u := unitOf key
  if u.1 = .port then
    match s.portRegion u.2 with
    | some n => if s.rgnState n = rFREE then none else some n
    | none => none
  else s.ownerOf (unitTile u.1 u.2)

/-! ### Orders (R854 to R857, R862, R863) -/

/-- A unit is back in service. -/
def State.inService (s : State) (key : Nat) : State :=
  let t := s.putUnit (unitOf key).1 (unitOf key).2 0
  { t with hwCause := smDel t.hwCause key }

/-- A release takes effect (R862): STANDBY while a region that is not FREE holds the unit; otherwise in service, a tile once its
memories have been overwritten (R863). -/
def State.releaseUnit (s : State) (key : Nat) : State :=
  let u := unitOf key
  if s.pathState key = 0 ∨ (u.1 = .tile ∧ s.clearing.contains u.2) then s
  else if (s.holder key).isSome then s.putUnit u.1 u.2 2
  else if u.1 = .tile then { s with clearing := s.clearing ++ [u.2] }
  else s.inService key

/-- A fence takes effect (R858). -/
def State.fenceUnit (s : State) (key : Nat) : State :=
  let u := unitOf key
  if u.1 = .port then s.fencePort u.2 else s.fence u.1 u.2

/-- Vesper orders a fence (`true`) or a release and marks it pending (R817); hardware applies it (R855). -/
def State.order (s : State) (key : Nat) (fence : Bool) : State :=
  let r := s.record key
  let t := s.modVsp fun v => { v with records := smPut v.records key { r with order := some (bit fence, s.tick) } }
  if fence then t.fenceUnit key else t.releaseUnit key

/-- SERVICE_CLEAR_COMPLETE (R863): the tile's cluster memory and read-only cache, or every way of its slice, have been overwritten,
and it is in service. -/
def execServiceClearComplete (tile : Fin 192) (s : State) : Host.Outcome State Fault Refusal :=
  let i := tile.val
  if !s.clearing.contains i then done s
  else
    let t : State := { s with clearing := s.clearing.filter (· != i) }
    let t := if isSliceTile i then { t with slices := smDel t.slices (sliceOfTile i) }
      else { t with clusters := smDel t.clusters (clusterOfTile i) }
    done (t.inService (1024 + i))

/-! ### Reconciliation (R817 to R819) -/

/-- A record takes the data path's state, an entry tells of it, and the permanent table follows. -/
def State.adopt (s : State) (key cause type : Nat) (why : List Nat) : State :=
  let r := s.record key
  let now := s.pathState key
  let q : UnitRec := { state := now, cause := cause, tick := s.tick, seq := s.vesper.nextSeq }
  let t := s.queueAlm type ([kindCode key, (unitOf key).2, r.state, now, cause] ++ why)
  t.modVsp fun v => { v with records := smPut v.records key q, permDue := true }

/-- The order pending in a record is shown by a data path in state `now`. -/
def UnitRec.shown (r : UnitRec) (now : Nat) : Bool :=
  match r.order with
  | some (1, _) => now == 1
  | some _ => now == 0 || now == 2
  | none => false

/-- The order pending in a record is still absent two ticks after it was issued (R818). -/
def UnitRec.late (r : UnitRec) (tick : Nat) : Bool :=
  match r.order with
  | some (_, k) => decide (2 ≤ tick - k)
  | none => false

/-- A record compared with the snapshot (R817, R818). A unit that returns from STANDBY as its region reaches FREE does what
its release ordered (R862): no mismatch. -/
def State.reconcile (s : State) (key : Nat) : State :=
  let r := s.record key
  let now := s.pathState key
  if r.shown now then s.adopt key 6 alUNIT_CHANGE []
  else if r.state = now ∧ !r.late s.tick then s
  else if r.state = 2 ∧ now = 0 ∧ r.order = none then s.adopt key r.cause alUNIT_CHANGE []
  else
    let hw := smGet s.hwCause 0 key
    let why := if r.late s.tick then 2 else if now = 1 ∧ hw ≠ 0 then 1 else 3
    (s.countSat F.VSP_COUNTS_MISMATCHES).adopt key (if now = 0 then 0 else hw) alSTATE_MISMATCH [why]

/-! ### Automatic fencing (R859 to R861) -/

/-- The limit of a trigger. -/
def State.limitOf (s : State) : TriggerKind → Nat
  | .coreUe => s.fld F.FLT_LIMITS_CORE_UE_LIMIT
  | .tileUe => s.fld F.FLT_LIMITS_TILE_UE_LIMIT
  | .bushel => s.fld F.FLT_LIMITS_BUSHEL_LIMIT
  | .channelUe => s.fld F.FLT_LIMITS_CH_UE_LIMIT
  | .tableFull => 1

/-- The AUTO field that governs a trigger's unit. -/
def State.policyOf (s : State) : TriggerKind → Nat
  | .coreUe => s.fld F.FLT_POLICY_CORE_AUTO
  | .tileUe => s.fld F.FLT_POLICY_TILE_AUTO
  | _ => s.fld F.FLT_POLICY_SLICE_AUTO

/-- What counts toward a unit's fence: the entries of the last 24 hours, distinct sectors for a channel's. -/
def State.triggerCount (s : State) (kind : TriggerKind) (key : Nat) : Nat :=
  let l := s.vesper.triggers.filter fun g => g.kind == kind && g.key == key && decide (s.tick < g.tick + 172800000)
  if kind = .channelUe then (l.map Trigger.sector).eraseDups.length else l.length

/-- A unit may become due: it is in service, and nothing is ordered for it (R861). -/
def State.mayBeDue (s : State) (key : Nat) : Bool := s.pathState key == 0 && (s.record key).order.isNone

/-- A unit whose count has reached its limit: ADVISED with policy OFF, due otherwise. -/
def State.checkTrigger (s : State) (g : TriggerKind × Nat) : State :=
  if s.triggerCount g.1 g.2 < s.limitOf g.1 || !s.mayBeDue g.2 then s
  else if s.policyOf g.1 = 0 then s.countSat F.FLT_COUNTS_ADVISED
  else s.modVsp fun v => { v with due := v.due.filter (· != (g.2, g.1)) ++ [(g.2, g.1)] }

/-- A due unit is fenced at once, or at the first tick at which no RUNNING region holds it (R860). -/
def State.fenceDue (s : State) (d : Nat × TriggerKind) : State :=
  let p := s.policyOf d.2
  let forget (t : State) : State := t.modVsp fun v => { v with due := v.due.filter (· != d) }
  let busy := match s.holder d.1 with
    | some n => s.rgnState n == rRUNNING
    | none => false
  if p = 0 ∨ !s.mayBeDue d.1 then forget s
  else if p = 2 ∨ !busy then ((forget s).order d.1 true).countSat F.FLT_COUNTS_AUTO_FENCES
  else s

/-- The triggers since the last tick, then every due unit. -/
def State.autoFence (s : State) : State :=
  let fresh := s.vesper.fresh
  let t := s.modVsp fun v =>
    { v with fresh := [], triggers := (v.triggers ++ fresh).filter fun g => decide (s.tick < g.tick + 172800000) }
  let t := overList (fresh.map fun g => (g.kind, g.key)).eraseDups t State.checkTrigger
  overList t.vesper.due t State.fenceDue

/-- The reconciliation step (R814): every record, then the orders of operators, then the automatic policy. -/
def State.reconcileAll (s : State) : State :=
  let t := overList (List.range 1220) s State.reconcile
  let orders := t.vesper.orders
  let t := t.modVsp fun v => { v with orders := [] }
  (overList orders t fun u o => u.order o.1 o.2).autoFence

/-! ### The integrity log (R800 to R802, R805) -/

/-- A trigger of this tick. -/
def State.trigger (s : State) (kind : TriggerKind) (key : Nat) (sector : Nat := 0) : State :=
  s.modVsp fun v => { v with fresh := v.fresh ++ [{ kind := kind, key := key, sector := sector, tick := s.tick }] }

/-- A UE in sector `sec` of slice i's SRAM (R800 to R802): the second one in the module's life adds a remap entry; a full table is
recorded once, and each time counts as a trigger. -/
def State.noteSectorUe (s : State) (i sec : Nat) : State :=
  let key := 1024 + tileOfSlice i
  if !s.flash.ueSectors.contains (i, sec) then
    { s with flash := { s.flash with ueSectors := s.flash.ueSectors ++ [(i, sec)] } }
  else if (s.remaps i).any (fun r => match r with | .remap _ _ x => x == sec | _ => false) then s
  else
    match (List.range 8).find? fun k => !s.on (F.MSL_REMAP_VALID i k) with
    | some k =>
      let t := (((s.copySector i sec k).raise (F.MSL_REMAP_VALID i k)).setFld (F.MSL_REMAP_SECTOR i k) sec).queueAlm alREMAP
        [i, k, sec]
      t.modVsp fun v => { v with permDue := true }
    | none =>
      let t := s.trigger .tableFull key
      if s.vesper.full.contains i then t
      else (t.queueAlm alTABLE_FULL [i]).modVsp fun v => { v with full := v.full ++ [i], permDue := true }

/-- What an uncorrectable error counts toward (R859), by UNIT_KIND, UNIT_INDEX and address. -/
def State.noteUe (s : State) (kind i addr : Nat) : State :=
  if kind = kClusterMem ∨ kind = kRoCache then s.trigger .tileUe (1024 + tileOfCluster i)
  else if kind = kConfig ∧ !isSliceTile i then s.trigger .tileUe (1024 + i)
  else if kind = kHbm then s.trigger .channelUe (1024 + tileOfSlice (sliceOfChannel i)) (i * 2 ^ 40 + addr / 32)
  else if kind = kSliceSram then s.noteSectorUe i (addr / 32)
  else s

/-- An entry of the integrity log is read (R805): one of class 4 to 6 is appended to the Almanac. -/
def State.readInteg (s : State) (q : Nat) : State :=
  let w := [s.word (R.INT_INTEG_LOG_W0 q) 0, s.word (R.INT_INTEG_LOG_W1 q) 0, s.word (R.INT_INTEG_LOG_W2 q) 0,
    s.word (R.INT_INTEG_LOG_W3 q) 0]
  let cls := s.fld (F.INT_INTEG_LOG_W0_CLASS q)
  let addr := s.fld (F.INT_INTEG_LOG_W1_ADDR_LO q) + s.fld (F.INT_INTEG_LOG_W2_ADDR_HI q) * 2 ^ 32
  if cls < 4 then s
  else
    (s.queueAlm alINTEGRITY w).when (cls == 4) fun t =>
      t.noteUe (s.fld (F.INT_INTEG_LOG_W0_UNIT_KIND q)) (s.fld (F.INT_INTEG_LOG_W0_UNIT_INDEX q)) addr

/-- The integrity log and the bushel events of the tick (R805). -/
def State.readIntegrity (s : State) : State :=
  let total := s.fld F.INT_INTEG_TOTAL_TOTAL
  let n := (total + 2 ^ 32 - s.vesper.integSeen) % 2 ^ 32
  let m := min n 64
  let t := s.when (decide (64 < n)) fun u => u.queueAlm alLOG_LOSS [2, n - 64]
  let t := overList (List.range m) t fun u j => u.readInteg ((total + 2 ^ 32 - m + j) % 64)
  let t := overList s.vesper.bushels t fun u i =>
    (u.queueAlm alBUSHEL [i, u.fld (F.MSL_BUSHEL_COUNT i), u.fld (F.MSL_BUSHEL_CFG_THRESHOLD i),
      u.fld (F.MSL_BUSHEL_CFG_LEAK_MS i)]).trigger .bushel (1024 + tileOfSlice i)
  t.modVsp fun v => { v with integSeen := total, bushels := [] }

/-! ### The supply event log, halts and touches (R127, R812, R841, R875) -/

/-- The SUPPLY entry of log entry q. -/
def State.appendSupply (s : State) (q : Nat) : State :=
  let i := q % 32
  s.queueAlm alSUPPLY [s.word (R.PWR_EVT_W0 i) 0, s.word (R.PWR_EVT_W1 i) 0, s.word (R.PWR_EVT_W2 i) 0,
    s.word (R.PWR_EVT_W3 i) 0]

/-- New entries, and entries that were open when they were appended and have closed; an overwritten one cannot be told. -/
def State.readSupply (s : State) : State :=
  let total := s.supply.events
  let first := max s.vesper.supplySeen (total - 32)
  let fresh := (List.range (total - first)).map (· + first)
  let old := s.vesper.supplyOpen.filter fun q => decide (total ≤ q + 32)
  let isOpen (q : Nat) : Bool := s.on (F.PWR_EVT_W0_OPEN (q % 32))
  let t := s.when (decide (s.vesper.supplySeen < first)) fun u => u.queueAlm alLOG_LOSS [1, first - s.vesper.supplySeen]
  let t := overList (old.filter fun q => !isOpen q) t State.appendSupply
  let t := overList fresh t State.appendSupply
  t.modVsp fun v => { v with supplySeen := total, supplyOpen := (old ++ fresh).filter isOpen }

/-- FHALT entries: a halt has started, DISCREPANCY has been latched, a release has been accepted. -/
def State.readHalts (s : State) : State :=
  let h := s.on F.PWR_FHALT_STATUS_HALTING || s.on F.PWR_FHALT_STATUS_HALTED
  let d := s.on F.PWR_FHALT_STATUS_DISCREPANCY
  let v := s.vesper
  let t := s.when (h && !v.haltSeen) fun u => u.queueAlm alFHALT [1]
  let t := t.when (d && !v.discrepancySeen) fun u => u.queueAlm alFHALT [2]
  let t := t.when (!h && v.haltSeen) fun u => u.queueAlm alFHALT [3]
  t.modVsp fun w => { w with haltSeen := h, discrepancySeen := d }

/-- A touch of a locked maker test mode (R875): path 1 TAP, 2 mailbox, 3 MCTP. -/
def State.touch (s : State) (path : Nat) : State :=
  let t := ((s.raise F.FLT_STATUS_TEST_LOCK_TOUCH).countSat F.FLT_TEST_LOCK_TOUCHES).setFld F.FLT_TEST_LOCK_LAST_PATH path
  t.modVsp fun v => { v with touches := v.touches ++ [path] }

/-- One TEST_LOCK entry for the touches of a tick. -/
def State.readTouches (s : State) : State :=
  match s.vesper.touches.getLast? with
  | none => s
  | some p => (s.queueAlm alTEST_LOCK [p, s.vesper.touches.length]).modVsp fun v => { v with touches := [] }

/-! ### Captures (R869 to R874) -/

def mib : Nat := 1048576

/-- Why a capture is refused: 0 not, 2 BAD_ARGUMENT, 4 ALMANAC_FULL (R869). -/
def State.captureRefused (s : State) (region : Option Nat) (queues : Bool) : Nat :=
  if s.vesper.capture.isSome ∨ (region.isNone ∧ queues = true) then 2
  else if 16 * mib < s.keptBytes + mib then 4
  else 0

/-- The ID of the next capture. -/
def State.nextCapture (s : State) : Nat := (s.fld F.FLT_CAPTURE_LAST_ID + 1) % 65536

/-- A capture is accepted. -/
def State.startCapture (s : State) (region : Option Nat) (queues : Bool) : State :=
  (s.raise F.FLT_STATUS_CAPTURE_BUSY).modVsp fun v =>
    { v with capture := some { id := s.nextCapture, region := region, queues := queues, start := s.tick } }

/-- The offsets of an array's elements from its base. -/
def dimOffsets : List (Nat × Nat) → List Nat
  | [] => [0]
  | (stride, count) :: rest => (List.range count).flatMap fun i => (dimOffsets rest).map (i * stride + ·)

/-- The registers of PF BAR0 from `lo` on, over `len` bytes. -/
def regsIn (lo len : Nat) : List Nat :=
  (regMap.flatMap fun d => (dimOffsets d.dims).map (d.base + ·)).filter fun off => lo ≤ off && off < lo + len

/-- A register as a capture records it: its offset, and 1 with its value, or 0 where its block is powered down (R870, R872): the blocks
that R886 does not serve in M3, while the halves are off. -/
def State.captured (s : State) (off : Nat) : List Nat :=
  if !s.power.halves && !servedM3 off then [off, 0] else [off, 1, s.readReg off]

/-- The tick snapshot of R813: module energy, the regions' activity counters, the units' data-path states, the totals of the logs, the
bushels. -/
def State.snapshotNums (s : State) : List Nat :=
  s.moduleEnergy :: (List.range 32).flatMap (fun n => (List.range 11).map fun k => smGet (s.rgn n).activity 0 k)
    ++ (List.range 1220).map s.pathState ++ [s.word R.PWR_EVT_TOTAL 0, s.word R.INT_INTEG_TOTAL 0]
    ++ (List.range 64).map fun i => s.word (R.MSL_BUSHEL i) 0

/-- The contents of a capture's parts (R870, R871), as a list of what is recorded. -/
def State.captureContents (s : State) (c : Capture) : List (List Nat) :=
  let regs (l : List (Nat × Nat)) : List (List Nat) := (l.flatMap fun e => regsIn e.1 e.2).map s.captured
  match c.part with
  | 0 => [s.snapshotNums, s.moduleRecord.map BitVec.toNat]
  | 1 => regs [(0, 0x60000), (0x300000, 0x30000), (0xA00000, 0x30000)]
  | 2 => s.liveRegions.flatMap fun n =>
      regs [(R.RGN_STATE n, 0x100), (R.RGN_MEM_CFG n, 0x10), (R.RGN_DLY_SERVED n 0, 0x80), (R.RING_DB_BASE_LO n, 0x140)]
        ++ [(s.regionRecord n).map BitVec.toNat]
  | 3 => (List.range 64).flatMap fun i =>
      let base := 0x400000 + 0x10000 * i
      regs [(base, 0x30), (base + 0x100, 0x60), (base + 0x200, 0x28)]
  | 4 => regs [(0x800000, 0x140000)]
  | 5 => (List.range 1220).map fun key => let r := s.record key; [key, r.state, r.cause, r.tick, r.seq]
  | _ =>
    match c.region with
    | none => []
    | some n =>
      regs ((s.clustersOf n).map (fun k => (R.QDBG_Q_STATUS k 0 0, 0x1000))
        ++ (s.slicesOf n).map fun i => (0xB80000 + 0x1000 * i, 0x1000))

/-- The entries of one part: all in one, or in two halves, as a free value has it (log 128). -/
def State.capturePart (s : State) (c : Capture) : State :=
  let (x, t) := s.draw
  let k := if x.getLsbD 0 then 2 else 1
  let l := s.captureContents c
  let size := ceilDiv l.length k
  let t := overList (List.range k) t fun u j =>
    u.queueAlm alCAPTURE ([c.id, c.part, j, s.tick] ++ ((l.drop (size * j)).take size).flatten) true
  t.modVsp fun v => { v with capture := some { c with part := c.part + 1, entries := c.entries + k } }

/-- The number of parts of a capture. -/
def Capture.parts (c : Capture) : Nat := if c.queues then 7 else 6

/-- The parts that a tick writes: part 0 in the first after acceptance, and each later one in a tick that a free value
chooses, all by the sixteenth; then the capture ends (R870, R873). -/
def State.captureN : Nat → State → State
  | 0, s => s
  | fuel + 1, s =>
    match s.vesper.capture with
    | none => s
    | some c =>
      if s.tick ≤ c.start then s
      else if c.parts ≤ c.part then
        let t := ((s.lower F.FLT_STATUS_CAPTURE_BUSY).setFld F.FLT_CAPTURE_LAST_ID c.id).setFld F.FLT_CAPTURE_PARTS
          (min c.entries 255)
        t.modVsp fun v => { v with capture := none }
      else
        let (x, t) := s.draw
        if c.part = 0 ∨ c.start + 16 ≤ s.tick ∨ x.getLsbD 0 then State.captureN fuel (t.capturePart c) else t

/-- Captures at a tick: AUTO_CAPTURE's, and the one in progress (R870, R874). -/
def State.captureTick (s : State) : State :=
  let wanted := s.vesper.captureWanted
  let t := s.modVsp fun v => { v with captureWanted := [] }
  let soon := match s.vesper.lastAuto with
    | some k => decide (s.tick < k + 1200000)
    | none => false
  let t := match wanted with
    | [] => t
    | n :: _ =>
      if s.on F.FLT_POLICY_AUTO_CAPTURE && !soon && t.captureRefused n false == 0 then
        (t.startCapture n false).modVsp fun v => { v with lastAuto := some s.tick }
      else t
  State.captureN 8 t

end Sys2Proof.Machine
end

