-- ==== Sys2Proof/Machine/Mailbox.lean ====
section
/-! DEFINITION. The mailbox commands (19_vesper_management.md, R835 to R838; 20_fencing_service_and_returns.md, R862 to R876).
The submission of a request and the clearing of DONE are register writes (HostWrite.lean); VESPER_TICK takes the pending
request, and the command answers it. -/

namespace Sys2Proof.Machine

/-! ### Requests and answers -/

/-- Request word i, when the request has it. -/
def State.reqWord? (s : State) (i : Nat) : Option Nat :=
  if i < s.fld F.VSP_MBOX_CMD_REQ_WORDS then some (s.fld (F.VSP_MBOX_REQ_REQ i)) else none

/-- The response, RESULT and RESP_WORDS are written and the mailbox is DONE (R835). -/
def State.answerMail (s : State) (result : Nat) (words : List Nat) : State :=
  let t := overList words.zipIdx s fun u e => u.setWord (R.VSP_MBOX_RESP e.2) e.1
  let t := ((t.setFld F.VSP_MBOX_STATUS_RESP_WORDS words.length).setFld F.VSP_MBOX_STATUS_RESULT result).setFld
    F.VSP_MBOX_STATUS_STATE 2
  (t.raise F.VSP_MBOX_STATUS_DONE).modVsp fun v => { v with mailDue := false, mailRecord := [] }

/-- The codes of R837 and R866. -/
def mailCodes : List Nat := [1, 2, 3, 4, 5, 6, 7, 8, 0x20, 0x21, 0x22, 0x23, 0x24]

/-- The mailbox step of a tick (R814, R835): a PENDING request is taken. A code that names no command is answered with
UNKNOWN_COMMAND; one of 0xE0 to 0xFF touches the locked test modes (R875). -/
def State.takeMail (s : State) : State :=
  if s.fld F.VSP_MBOX_STATUS_STATE ≠ 1 then s
  else
    let code := s.fld F.VSP_MBOX_CMD_CODE
    if mailCodes.contains code then s.modVsp fun v => { v with mailDue := true }
    else (s.when (decide (0xE0 ≤ code)) fun t => t.touch 2).answerMail 1 []

/-- The answer to the request that has been taken, when it carries this command's code. -/
def mailCommand (code : Nat) (f : State → State) (s : State) : Host.Outcome State Fault Refusal :=
  if s.vesper.mailDue && s.vesperRuns && s.fld F.VSP_MBOX_STATUS_STATE == 1 && s.fld F.VSP_MBOX_CMD_CODE == code then
    done (f s)
  else done s

/-- BAD_ARGUMENT: nothing changes (R867). -/
def State.badArgument (s : State) : State := s.answerMail 2 []

def lo32 (v : Nat) : Nat := v % 2 ^ 32
def hi32 (v : Nat) : Nat := v / 2 ^ 32 % 2 ^ 32

/-- Bytes as 32-bit words, the last filled with zeros. -/
def toWords (l : List Byte) : List Nat := (List.range (ceilDiv l.length 4)).map fun i => fromBytes ((l.drop (4 * i)).take 4)

/-! ### Information (R837) -/

/-- GET_INFO: the firmware version, FW_SVN, the running slot, the newest SEQ in flash. -/
def execGetInfo (s : State) : Host.Outcome State Fault Refusal :=
  mailCommand 1 (fun t => t.answerMail 0
    [t.word R.VSP_FW 0, t.fld F.RST_BOOT_STATUS_FW_SVN, t.fld F.RST_BOOT_STATUS_SLOT, lo32 t.flash.newestSeq,
      hi32 t.flash.newestSeq]) s

/-- GET_TELEMETRY_MODULE (R834). -/
def execGetTelemetryModule (s : State) : Host.Outcome State Fault Refusal :=
  mailCommand 2 (fun t => t.answerMail 0 (toWords t.vesper.mailRecord)) s

/-- GET_TELEMETRY_REGION (R833). -/
def execGetTelemetryRegion (s : State) : Host.Outcome State Fault Refusal :=
  mailCommand 3 (fun t =>
    match t.reqWord? 0 with
    | some w => if w < 32 then t.answerMail 0 (toWords t.vesper.mailRecord) else t.badArgument
    | none => t.badArgument) s

/-- GET_CALIBRATION: the static coefficients in mW and the 11 energies per event in fJ. -/
def execGetCalibration (s : State) : Host.Outcome State Fault Refusal :=
  mailCommand 4 (fun t => t.answerMail 0
    ((Config.staticIsland :: Config.staticSlice :: (List.range 11).map Config.eventEnergy).map lo32)) s

/-- Kind and index of request word 0 (R837, R866, R867). -/
def State.reqUnit (s : State) : Option Nat :=
  match s.reqWord? 0 with
  | some w => if bitsOf w 16 8 = 0 then keyOf (bitsOf w 24 8) (bitsOf w 0 16) else none
  | none => none

/-- GET_UNIT_RECORD. -/
def execGetUnitRecord (s : State) : Host.Outcome State Fault Refusal :=
  mailCommand 5 (fun t =>
    match t.reqUnit with
    | some key =>
      let r := t.record key
      t.answerMail 0 [r.state + t.pathState key * 2 ^ 8 + r.cause * 2 ^ 16, lo32 r.tick, lo32 r.seq, hi32 r.seq]
    | none => t.badArgument) s

/-! ### The Almanac and the port configuration (R837, R844) -/

/-- The entry in flash with a SEQ. -/
def State.almAt (s : State) (seq : Nat) : Option AlmEntry := s.flash.log.flatten.find? fun e => e.seq == seq

/-- The lowest SEQ in flash that is at least `seq`. -/
def State.seqFrom (s : State) (seq : Nat) : Option Nat :=
  (((s.flash.log.flatten.map AlmEntry.seq).filter fun q => decide (seq ≤ q))).min?

/-- ALMANAC_READ: up to 236 bytes of an entry from an offset, and the SEQ of the next entry. -/
def execAlmanacRead (s : State) : Host.Outcome State Fault Refusal :=
  mailCommand 6 (fun t =>
    match t.reqWord? 0, t.reqWord? 1, t.reqWord? 2 with
    | some lo, some hi, some off =>
      let want := lo + hi * 2 ^ 32
      let seq := if want = 2 ^ 64 - 1 then t.seqFrom 0 else some want
      match seq.bind t.almAt with
      | some e =>
        let data := (e.bytes.drop off).take 236
        let next := (t.seqFrom (e.seq + 1)).getD (e.seq + 1)
        t.answerMail 0 ([lo32 e.seq, hi32 e.seq, data.length, lo32 next, hi32 next] ++ toWords data)
      | none => t.answerMail 3 []
    | _, _, _ => t.badArgument) s

/-- ALMANAC_RELEASE: a KEPT entry becomes ROLLING. -/
def execAlmanacRelease (s : State) : Host.Outcome State Fault Refusal :=
  mailCommand 7 (fun t =>
    match t.reqWord? 0, t.reqWord? 1 with
    | some lo, some hi =>
      let seq := lo + hi * 2 ^ 32
      if (t.flash.log.flatten.any fun e => e.seq == seq && e.kept) then
        let free (e : AlmEntry) : AlmEntry := if e.seq = seq then { e with kept := false } else e
        let u : State := { t with flash := { t.flash with log := t.flash.log.map fun b => b.map free } }
        u.noteLog.answerMail 0 []
      else t.answerMail 3 []
    | _, _ => t.badArgument) s

/-- SET_PORT_CONFIG: written to the control area; in force from the next cold reset. -/
def execSetPortConfig (s : State) : Host.Outcome State Fault Refusal :=
  mailCommand 8 (fun t =>
    match t.reqWord? 0 with
    | some w =>
      if bitsOf w 4 4 = 0 ∧ bitsOf w 12 4 = 0 ∧ bitsOf w 28 4 = 0 then
        ({ t with flash := { t.flash with portConfig := w } }).answerMail 0 []
      else t.badArgument
    | none => t.badArgument) s

/-! ### Fences and releases (R866 to R868) -/

/-- The unit is fenced with FUSE_REPAIR (R865). -/
def State.fuseFenced (s : State) (key : Nat) : Bool := (s.record key).cause == 1 || smGet s.hwCause 0 key == 1

/-- An operator's fence (R866): nothing to order for a unit that is FENCED. -/
def State.wantFence (s : State) (key : Nat) : State :=
  let clearing : Bool := decide ((unitOf key).1 = .tile) && s.clearing.contains (unitOf key).2
  if s.pathState key == 1 && !clearing then s else s.modVsp fun v => { v with orders := v.orders ++ [(key, true)] }

/-- An operator's release (R866): nothing to order for a unit that is IN_SERVICE. -/
def State.wantRelease (s : State) (key : Nat) : State :=
  if s.pathState key = 0 ∧ (s.record key).order.isNone then s
  else s.modVsp fun v => { v with orders := v.orders ++ [(key, false)] }

/-- FENCE_UNIT: the order is issued at the next reconciliation step (R854). Response word 0 is the record's state, which the
command does not change: the record follows a later snapshot (R817; DEDUCED, log 21). -/
def execFenceUnit (s : State) : Host.Outcome State Fault Refusal :=
  mailCommand 0x20 (fun t =>
    match t.reqUnit with
    | some key => (t.wantFence key).answerMail 0 [(t.record key).state]
    | none => t.badArgument) s

/-- RELEASE_UNIT. -/
def execReleaseUnit (s : State) : Host.Outcome State Fault Refusal :=
  mailCommand 0x21 (fun t =>
    match t.reqUnit with
    | some key => if t.fuseFenced key then t.badArgument else (t.wantRelease key).answerMail 0 [(t.record key).state]
    | none => t.badArgument) s

/-! ### Captures and board test (R869, R876) -/

/-- CAPTURE. -/
def execCapture (s : State) : Host.Outcome State Fault Refusal :=
  mailCommand 0x22 (fun t =>
    match t.reqWord? 0 with
    | some w =>
      if bitsOf w 5 3 ≠ 0 ∨ bitsOf w 10 22 ≠ 0 then t.badArgument
      else
        let region := if w.testBit 8 then some (bitsOf w 0 5) else none
        let queues := w.testBit 9
        match t.captureRefused region queues with
        | 0 => (t.startCapture region queues).answerMail 0 [t.nextCapture]
        | r => t.answerMail r []
    | none => t.badArgument) s

/-- The board-test flag of the control area. -/
def State.armBscan (s : State) (b : Bool) : State :=
  { s.setFld F.FLT_STATUS_BSCAN_ARMED (bit b) with flash := { s.flash with bscan := b } }

/-- BSCAN_ARM. -/
def execBscanArm (s : State) : Host.Outcome State Fault Refusal :=
  mailCommand 0x23 (fun t => if t.reqWord? 0 = some 0xB5C1 then (t.armBscan true).answerMail 0 [] else t.badArgument) s

/-- BSCAN_DISARM. -/
def execBscanDisarm (s : State) : Host.Outcome State Fault Refusal :=
  mailCommand 0x24 (fun t => (t.armBscan false).answerMail 0 []) s

end Sys2Proof.Machine
end

