-- ==== Sys2Proof/Machine/Pldm.lean ====
section
/-! DEFINITION. The MCTP endpoints, PLDM and firmware update (19_vesper_management.md, R822 to R832;
20_fencing_service_and_returns.md, R868, R875). A command is a request as it is received; VESPER_TICK answers it, and the
boot ROM answers at once in recovery. The completion codes that the spec does not give are those of the DMTF specifications it
names (PRESUMED, log 22). -/

namespace Sys2Proof.Machine

/-! ### Completion codes and messages -/

def ccSUCCESS : Nat := 0
def ccINVALID_DATA : Nat := 2
def ccNOT_READY : Nat := 4
/-- Get MCTP Version Support: message type number not supported (DSP0236). -/
def ccNO_TYPE : Nat := 0x80
/-- PLDM type 5 (DSP0267). -/
def ccNOT_IN_UPDATE : Nat := 0x80
def ccALREADY_IN_UPDATE : Nat := 0x81
def ccINCOMPLETE : Nat := 0x85
/-- PLDM type 0: invalid PLDM type (DSP0240). -/
def ccINVALID_TYPE : Nat := 0x83

/-- An answer leaves by the endpoint that took the request. -/
def State.mctpAnswer (s : State) (e : Endpoint) (code : Nat) (l : List Nat := []) : State := s.emit (.mctp e code l)

/-- The module answers on the SMBus at 0x40 + MODULE_POS and at no other address (R821). -/
def State.hears (s : State) : Endpoint → Bool
  | .smbus a => a == 0x40 + s.modulePos.setWidth 7
  | .vdm => true

/-- EID and TID of an endpoint. -/
def State.eid (s : State) : Endpoint → BitVec 8
  | .smbus _ => s.vesper.eidSmbus
  | .vdm => s.vesper.eidVdm
def State.tid (s : State) : Endpoint → BitVec 8
  | .smbus _ => s.vesper.tidSmbus
  | .vdm => s.vesper.tidVdm
def State.setEid (s : State) (e : Endpoint) (x : BitVec 8) : State :=
  s.modVsp fun v => match e with
    | .smbus _ => { v with eidSmbus := x }
    | .vdm => { v with eidVdm := x }
def State.setTid (s : State) (e : Endpoint) (x : BitVec 8) : State :=
  s.modVsp fun v => match e with
    | .smbus _ => { v with tidSmbus := x }
    | .vdm => { v with tidVdm := x }

/-- An ID that may be assigned: 0 and 0xFF are reserved (DSP0236, DSP0240). -/
def assignable (x : BitVec 8) : Bool := x != 0 && x != 0xFF

/-! ### Effecters (R827, R828, R868) -/

def capInRange (low watts : Nat) : Bool := watts == 0 || (decide (low ≤ watts) && decide (watts ≤ 1100))

/-- The unit and the action of a Unit service value: 1 FENCE, 2 RELEASE. -/
def State.serviceUnit (s : State) (value : BitVec 32) : Option (Nat × Bool) :=
  let w := value.toNat
  match keyOf (bitsOf w 24 8) (bitsOf w 0 16) with
  | some key =>
    if bitsOf w 16 8 = 1 then some (key, true)
    else if bitsOf w 16 8 = 2 ∧ !s.fuseFenced key then some (key, false)
    else none
  | none => none

/-- The check of an effecter's value on receipt (R827). -/
def State.valueOk (s : State) : Instr → Bool
  | .moduleCap _ w => capInRange 300 w
  | .regionCap _ _ w => capInRange 5 w
  | .unitService _ v => (s.serviceUnit v).isSome
  | _ => true

/-- An effecter write is applied and answered (R828): outside its range it changes nothing. -/
def State.effecter (s : State) (e : Endpoint) (valid : Bool) (f : State → Nat × State) : State :=
  if !valid then s.mctpAnswer e ccINVALID_DATA
  else
    let r := f s
    r.2.mctpAnswer e r.1

/-- A release command sent through PLDM (R144, R828). -/
def State.pldmRelease (s : State) : Nat × State :=
  if s.releaseAccepted then (ccSUCCESS, s.releaseM3 []) else (ccNOT_READY, s.raise F.PWR_ERR_RELEASE_REFUSED)

/-- A capture through PLDM (R868): as CAPTURE with word 0 = 0. -/
def State.pldmCapture (s : State) : Nat × State :=
  if s.captureRefused none false = 0 then (ccSUCCESS, s.startCapture none false) else (ccNOT_READY, s)

/-- A fence or release through PLDM (R868). -/
def State.pldmService (s : State) (value : BitVec 32) : Nat × State :=
  match s.serviceUnit value with
  | some (key, true) => (ccSUCCESS, s.wantFence key)
  | some (key, false) => (ccSUCCESS, s.wantRelease key)
  | none => (ccINVALID_DATA, s)

/-! ### Firmware update (R830 to R832) -/

/-- The slot that may be written: the one that is not running; in recovery, where none runs, the one the selector does not name.
-/
def State.idleSlot (s : State) : Bool :=
  if s.power.phase = .recovery then !s.flash.selector else s.fld F.RST_BOOT_STATUS_SLOT == 0

/-- RequestUpdate. -/
def State.requestUpdate (s : State) (e : Endpoint) : State :=
  if s.vesper.updater.isSome then s.mctpAnswer e ccALREADY_IN_UPDATE
  else
    let t := s.modVsp fun v => { v with updater := some e, verified := none }
    (t.raise F.VSP_STATUS_UPDATE).mctpAnswer e ccSUCCESS

/-- ActivateFirmware: self-contained activation of the verified slot. In recovery a cold reset follows; otherwise a restart is
due. -/
def State.activate (s : State) (e : Endpoint) (selfContained : Bool) : State :=
  if s.vesper.updater ≠ some e then s.mctpAnswer e ccNOT_IN_UPDATE
  else if !selfContained then s.mctpAnswer e ccINVALID_DATA
  else
    match s.vesper.verified with
    | none => s.mctpAnswer e ccINCOMPLETE
    | some b =>
      let t : State := { s with flash := { s.flash with selector := b } }
      let t := t.mctpAnswer e ccSUCCESS
      if s.power.phase = .recovery then t.coldState .command
      else
        let t := t.queueAlm alFW_UPDATE [s.word R.VSP_FW 0, bit b, 1]
        (t.lower F.VSP_STATUS_UPDATE).modVsp fun v => { v with updater := none, verified := none, restartDue := true }

/-! ### Answers -/

/-- A request is answered, and what it asks for is done. -/
def State.serveRequest (s : State) (q : MctpReq) : State :=
  let e := q.endpoint
  match q.request with
  | .setEndpointId _ x =>
    if assignable x then (s.setEid e x).mctpAnswer e ccSUCCESS [x.toNat] else s.mctpAnswer e ccINVALID_DATA
  | .getEndpointId _ => s.mctpAnswer e ccSUCCESS [(s.eid e).toNat]
  | .getEndpointUuid _ => s.mctpAnswer e ccSUCCESS [(Config.uuidOf Config.serialNumber).toNat]
  | .getMctpVersionSupport _ t =>
    if t = 0xFF ∨ t = 0 ∨ t = 1 then s.mctpAnswer e ccSUCCESS [Config.protocolVersion 0 t.toNat] else s.mctpAnswer e ccNO_TYPE
  | .getMessageTypeSupport _ => s.mctpAnswer e ccSUCCESS [0, 1]
  | .gettid _ => s.mctpAnswer e ccSUCCESS [(s.tid e).toNat]
  | .settid _ x => if assignable x then (s.setTid e x).mctpAnswer e ccSUCCESS else s.mctpAnswer e ccINVALID_DATA
  | .getpldmversion _ t =>
    if t = 0 ∨ t = 2 ∨ t = 5 then s.mctpAnswer e ccSUCCESS [Config.protocolVersion 1 t.toNat] else s.mctpAnswer e ccINVALID_TYPE
  | .getpldmtypes _ => s.mctpAnswer e ccSUCCESS [0, 2, 5]
  | .getpldmcommands _ t =>
    if t = 0 then s.mctpAnswer e ccSUCCESS [1, 2, 3, 4, 5]
    else if t = 2 ∨ t = 5 then s.mctpAnswer e ccSUCCESS (Config.pldmCommands t.toNat)
    else s.mctpAnswer e ccINVALID_TYPE
  | .sensorReading _ x => s.mctpAnswer e ccSUCCESS [smGet s.vesper.readings 0 (sensorKey x)]
  | .seteventreceiver _ r =>
    let t := s.raise F.VSP_STATUS_EVENT_RECEIVER
    (t.modVsp fun v => { v with receiver := some (e, r) }).mctpAnswer e ccSUCCESS
  | .moduleCap _ w => s.effecter e q.valid fun t => (ccSUCCESS, (t.setFld F.PWR_CAP_PLDM_CAP_W w).noteCap)
  | .regionCap _ n w => s.effecter e q.valid fun t => (ccSUCCESS, t.setFld (F.PWR_RGN_CAP_CAP_W n) w)
  | .facilityRelease _ => s.effecter e q.valid State.pldmRelease
  | .unitService _ v => s.effecter e q.valid fun t => t.pldmService v
  | .captureEffecter _ => s.effecter e q.valid State.pldmCapture
  | .requestupdate _ => s.requestUpdate e
  | .activatefirmware _ self => s.activate e self
  | _ => s

/-- A request that the boot ROM serves in recovery (R192, R812): MCTP control and firmware update. -/
def servedInRecovery : Instr → Bool
  | .setEndpointId _ _ | .getEndpointId _ | .getEndpointUuid _ | .getMctpVersionSupport _ _ | .getMessageTypeSupport _
  | .requestupdate _ | .activatefirmware _ _ => true
  | _ => false

/-- A request is received (R821, R824): each endpoint holds up to four, and drops a further one. While Vesper restarts requests go
unanswered (R811); in board-test mode no firmware and no boot ROM serves them (R877). -/
def receive (e : Endpoint) (i : Instr) (s : State) : Host.Outcome State Fault Refusal :=
  let p := s.power.phase
  if !s.hears e ∨ p = .off ∨ p = .loss ∨ s.power.boardTest ∨ s.on F.VSP_STATUS_RESTARTING then done s
  else
    let q : MctpReq := { endpoint := e, request := i, valid := s.valueOk i }
    if p = .recovery then done (if servedInRecovery i then s.serveRequest q else s)
    else if 4 ≤ s.vesper.requests.countP fun r => r.endpoint == e then done s
    else done (s.modVsp fun v => { v with requests := v.requests ++ [q] })

/-- The PLDM step of a tick: every request held is answered, in order of receipt (R814, R824). -/
def State.serveAll (s : State) : State :=
  let l := s.vesper.requests
  overList l (s.modVsp fun v => { v with requests := [] }) State.serveRequest

/-! ### The commands -/

def execSetEndpointId (e : Endpoint) (eid : BitVec 8) (s : State) : Host.Outcome State Fault Refusal :=
  receive e (.setEndpointId e eid) s
def execGetEndpointId (e : Endpoint) (s : State) : Host.Outcome State Fault Refusal := receive e (.getEndpointId e) s
def execGetEndpointUuid (e : Endpoint) (s : State) : Host.Outcome State Fault Refusal := receive e (.getEndpointUuid e) s
def execGetMctpVersionSupport (e : Endpoint) (msgType : BitVec 8) (s : State) : Host.Outcome State Fault Refusal :=
  receive e (.getMctpVersionSupport e msgType) s
def execGetMessageTypeSupport (e : Endpoint) (s : State) : Host.Outcome State Fault Refusal :=
  receive e (.getMessageTypeSupport e) s
def execGettid (e : Endpoint) (s : State) : Host.Outcome State Fault Refusal := receive e (.gettid e) s
def execSettid (e : Endpoint) (tid : BitVec 8) (s : State) : Host.Outcome State Fault Refusal := receive e (.settid e tid) s
def execGetpldmversion (e : Endpoint) (pldmType : BitVec 8) (s : State) : Host.Outcome State Fault Refusal :=
  receive e (.getpldmversion e pldmType) s
def execGetpldmtypes (e : Endpoint) (s : State) : Host.Outcome State Fault Refusal := receive e (.getpldmtypes e) s
def execGetpldmcommands (e : Endpoint) (pldmType : BitVec 8) (s : State) : Host.Outcome State Fault Refusal :=
  receive e (.getpldmcommands e pldmType) s
def execSensorReading (e : Endpoint) (sensor : Sensor) (s : State) : Host.Outcome State Fault Refusal :=
  receive e (.sensorReading e sensor) s
def execSeteventreceiver (e : Endpoint) (receiver : BitVec 8) (s : State) : Host.Outcome State Fault Refusal :=
  receive e (.seteventreceiver e receiver) s
def execModuleCap (e : Endpoint) (watts : Nat) (s : State) : Host.Outcome State Fault Refusal :=
  receive e (.moduleCap e watts) s
def execRegionCap (e : Endpoint) (region : Fin 32) (watts : Nat) (s : State) : Host.Outcome State Fault Refusal :=
  receive e (.regionCap e region watts) s
def execFacilityRelease (e : Endpoint) (s : State) : Host.Outcome State Fault Refusal := receive e (.facilityRelease e) s
def execUnitService (e : Endpoint) (value : BitVec 32) (s : State) : Host.Outcome State Fault Refusal :=
  receive e (.unitService e value) s
def execCaptureEffecter (e : Endpoint) (s : State) : Host.Outcome State Fault Refusal := receive e (.captureEffecter e) s
def execRequestupdate (e : Endpoint) (s : State) : Host.Outcome State Fault Refusal := receive e (.requestupdate e) s
def execActivatefirmware (e : Endpoint) (selfContained : Bool) (s : State) : Host.Outcome State Fault Refusal :=
  receive e (.activatefirmware e selfContained) s

/-- FIRMWARE_IMAGE_VERIFY (R831): the image of the package's one component is written into the idle slot and verified under R188
and R189; VerifyComplete tells the result. A package for another component is not written. -/
def execFirmwareImageVerify (image : FwImage) (s : State) : Host.Outcome State Fault Refusal :=
  if !s.vesperRuns && s.power.phase != .recovery then done s
  else
    match s.vesper.updater with
    | none => done s
    | some e =>
      let b := s.idleSlot
      let ours := image.classification == 0x000A && image.identifier == 0x1612
      let good := ours && image.signatureOk && decide (s.fuses.minSvn ≤ image.svn)
      let flash : Flash := if b then { s.flash with slotB := image } else { s.flash with slotA := image }
      let t : State := if ours then { s with flash := flash } else s
      let t := t.modVsp fun v => { v with verified := if good then some b else none }
      let version := image.major.toNat * 2 ^ 24 + image.minor.toNat * 2 ^ 16 + image.patch.toNat
      let t := t.when (s.power.phase != .recovery) fun u => u.queueAlm alFW_UPDATE [version, bit b, bit good]
      done (t.mctpAnswer e ccSUCCESS [bit (!good)])

/-- MCTP_VENDOR_MESSAGE (R875): dropped without an answer; a touch of the locked test modes. -/
def execMctpVendorMessage (e : Endpoint) (s : State) : Host.Outcome State Fault Refusal :=
  if !s.hears e ∨ s.power.phase = .off ∨ s.power.phase = .loss then done s else done (s.touch 3)

/-! ### Platform events (R829) -/

/-- A message to the event receiver. -/
def State.sendEvent (s : State) (x : PldmEvent) : State :=
  match s.vesper.receiver with
  | some (e, r) => s.emit (.event e r x.id x.key x.state)
  | none => s

/-- A new message. -/
def State.newEvent (s : State) (key state : Nat) : State :=
  if s.vesper.receiver.isNone then s
  else
    let x : PldmEvent := { id := s.vesper.nextEvent, key := key, state := state }
    (s.modVsp fun v => { v with events := v.events ++ [x], nextEvent := v.nextEvent + 1 }).sendEvent x

/-- Messages that are not acknowledged: sent again at each of the next three ticks, and then dropped. -/
def State.resendEvents (s : State) : State :=
  let gone := s.vesper.events.filter fun x => decide (3 ≤ x.tries)
  let again := (s.vesper.events.filter fun x => decide (x.tries < 3)).map fun x => { x with tries := x.tries + 1 }
  let t := s.modVsp fun v => { v with events := again }
  overList again (t.countSat F.VSP_ALM_LOST_EVENTS_DROPPED gone.length) State.sendEvent

/-- The events of a tick: each state sensor that has changed since the last processed tick, what is not acknowledged, and each
new entry of the supply event log since that tick, `seen` entries before it. A sensor has one message in a tick: its new state takes the
place of an older one that is not acknowledged (log 163). -/
def State.tickEvents (s : State) (old : SMap Nat) (seen : Nat) : State :=
  let changed := stateSensors.filter fun x => smGet old 0 (sensorKey x) != s.sensorValue x
  let s := s.modVsp fun v => { v with events := v.events.filter fun x => !(changed.map sensorKey).contains x.key }
  let t := overList changed s.resendEvents fun u x => u.newEvent (sensorKey x) (u.sensorValue x)
  let first := max seen (s.supply.events - 32)
  overList (List.range (s.supply.events - first)) t fun u j =>
    u.newEvent 200 (u.fld (F.PWR_EVT_W0_CLASS ((first + j) % 32)))

/-- PLATFORM_EVENT_ACKNOWLEDGEMENT (R829). -/
def execPlatformEventAcknowledgement (e : Endpoint) (id : Nat) (s : State) : Host.Outcome State Fault Refusal :=
  if s.hears e ∧ s.vesperRuns ∧ (s.vesper.receiver.map Prod.fst) = some e then
    done (s.modVsp fun v => { v with events := v.events.filter fun x => x.id != id })
  else done s

end Sys2Proof.Machine
end

