-- ==== Sys2Proof/Machine/Tap.lean ====
section
/-! DEFINITION. Boundary scan in board-test mode (20_fencing_service_and_returns.md, R876 to R879). Outside it the TAP is held
in Test-Logic-Reset and its pins are ignored. -/

namespace Sys2Proof.Machine

/-- What the 11 boundary cells observe and drive (R879). In board-test mode the module drives no output of its own. -/
def State.boundary (s : State) : BitVec 11 :=
  BitVec.ofNat 11
    (bit (!s.on F.PWR_FHALT_STATUS_A_ASSERTED) + bit (s.on F.PWR_FHALT_STATUS_B_ASSERTED) * 2 + s.tap.modulePos.toNat * 4
      + bit (!s.power.perst) * 32 + bit s.tap.clkreq * 64)

/-- A TAP instruction comes into force in board-test mode. -/
def State.tapSelect (s : State) (code : BitVec 8) (f : Tap → Tap := id) : State :=
  if s.power.boardTest then { s with tap := f { s.tap with instruction := code } } else s

/-- EXTEST: the outputs follow the update latches. -/
def execExtest (s : State) : Host.Outcome State Fault Refusal := done (s.tapSelect 0x00)

/-- SAMPLE/PRELOAD: the cells are captured, and the update latches loaded. -/
def execSamplePreload (cells : BitVec 11) (s : State) : Host.Outcome State Fault Refusal :=
  done (s.tapSelect 0x01 fun t => { t with captured := s.boundary, latches := cells })

/-- CLAMP: the outputs are held from the boundary register, with BYPASS selected. -/
def execClamp (s : State) : Host.Outcome State Fault Refusal := done (s.tapSelect 0x04)

/-- HIGHZ. -/
def execHighz (s : State) : Host.Outcome State Fault Refusal := done (s.tapSelect 0x05)

/-- BYPASS; a code outside the table of R878 selects it too, and touches the locked test modes (R875). A code of another
instruction is not this command. -/
def execBypass (code : BitVec 8) (s : State) : Host.Outcome State Fault Refusal :=
  if !s.power.boardTest ∨ code = 0x00 ∨ code = 0x01 ∨ code = 0x04 ∨ code = 0x05 then done s
  else
    let t := s.tapSelect 0xFF
    done (if code = 0xFF then t else t.touch 1)

/-- The output lands that boundary scan drives: the values of CLKREQ_N (1 low), PWRGD data, PWRGD enable and WAKE_N (1 low) in
EXTEST and CLAMP; none in the other instructions. -/
def State.driven (s : State) : Option (BitVec 4) :=
  if s.power.boardTest ∧ (s.tap.instruction = 0x00 ∨ s.tap.instruction = 0x04) then
    some (s.tap.latches.extractLsb' 7 4)
  else none

end Sys2Proof.Machine
end

