-- ==== Sys2Proof/Machine/Convert.lean ====
section
/-! DEFINITION. The eight number formats and conversions between them (08_clusters_cores_formats.md, R402 to R414): values
of codes, rounding to nearest even and stochastically, saturation, MXFP4 blocks. -/

namespace Sys2Proof.Machine

/-! ### Values of codes (R403 to R405) -/

def e4m3 : Ieee := ⟨4, 3⟩
def e5m2 : Ieee := ⟨5, 2⟩
def e2m1 : Ieee := ⟨2, 1⟩

/-- The value of a code of a format all of whose exponents encode numbers. -/
def Ieee.number (f : Ieee) (c : Nat) : FVal :=
  let neg := c / 2 ^ (f.eb + f.mb) % 2 == 1
  let ex := c / 2 ^ f.mb % 2 ^ f.eb
  let fr := c % 2 ^ f.mb
  if ex = 0 then .fin neg fr f.minExp else .fin neg (2 ^ f.mb + fr) (f.minExp + ((ex : Int) - 1))

/-- An integer as a value. -/
def intVal (z : Int) : FVal := .fin (decide (z < 0)) z.natAbs 0

/-- The value of a code of format FMT; an MXFP4 code without its block scale. -/
def fmtValue (fmt c : Nat) : FVal :=
  match fmt with
  | 0 => fp32.decode c
  | 1 => bf16.decode c
  | 2 => fp16.decode c
  | 3 => if c % 128 = 127 then .nan else e4m3.number c
  | 4 => e5m2.decode c
  | 5 => intVal (toSigned 8 c)
  | 6 => intVal (toSigned 4 c)
  | _ => e2m1.number c

/-- A value times 2^k. -/
def FVal.scaleBy : FVal → Int → FVal
  | .fin s m e, k => .fin s m (e + k)
  | v, _ => v

/-- The value of an MXFP4 element with its block's scale code (R405): scale 0xFF is NaN. -/
def mxValue (c scale : Nat) : FVal := if scale = 255 then .nan else (e2m1.number c).scaleBy ((scale : Int) - 127)

/-- The value of element (r, c) of a tile. -/
def Tile.value (t : Tile) (m : PMem) (d r c : Nat) : FVal :=
  if t.fmt = 7 then mxValue (t.code m d r c) (t.scale m d r c) else fmtValue t.fmt (t.code m d r c)

/-! ### Rounding (R409, R410) -/

/-- The rounding of a conversion: to nearest even, or stochastic with a draw. -/
inductive Rnd where
  | rne
  | sr (r : Nat)
  deriving DecidableEq, Repr

/-- m / 2^k rounded: under SR up exactly when floor(d * 2^16) + r is at least 2^16. -/
def rndShift (mode : Rnd) (m k : Nat) : Nat :=
  match mode with
  | .rne => rneShift m k
  | .sr r => if 65536 ≤ m % 2 ^ k * 65536 / 2 ^ k + r then m / 2 ^ k + 1 else m / 2 ^ k

/-- The code without sign of m * 2^e rounded to the format's steps, continued beyond its largest exponent. -/
def Ieee.magRnd (f : Ieee) (mode : Rnd) (m : Nat) (e : Int) : Nat :=
  if m = 0 then 0
  else
    let q : Int := max ((Nat.log2 m : Int) + e - f.mb) f.minExp
    let n := if q ≤ e then m * 2 ^ (e - q).toNat else rndShift mode m (q - e).toNat
    (q - f.minExp).toNat * 2 ^ f.mb + n

/-- |v| rounded to an integer. -/
def intRnd (mode : Rnd) (m : Nat) (e : Int) : Nat := if 0 ≤ e then m * 2 ^ e.toNat else rndShift mode m (-e).toNat

/-- An integer in n bits, saturated (R409). -/
def satInt (n : Nat) (neg : Bool) (m : Nat) : Nat :=
  if neg then ofSigned n (-(min m (2 ^ (n - 1)) : Nat)) else min m (2 ^ (n - 1) - 1)

/-- A value converted to a format other than MXFP4 (R409). -/
def encodeFmt (fmt : Nat) (mode : Rnd) (sat : Bool) (v : FVal) : Nat :=
  match fmt with
  | 0 | 1 | 2 =>
    let f := ieeeFor fmt
    match v with
    | .nan => f.canonicalNan
    | .inf s => f.signed s f.infCode
    | .fin s m e => f.signed s (min (f.magRnd mode m e) f.infCode)
  | 3 =>
    match v with
    | .nan => 0x7F
    | .inf s => e4m3.signed s 0x7E
    | .fin s m e => e4m3.signed s (min (e4m3.magRnd mode m e) 0x7E)
  | 4 =>
    let big := if sat then 0x7B else 0x7C
    match v with
    | .nan => 0x7E
    | .inf s => e5m2.signed s big
    | .fin s m e => e5m2.signed s (if 0x7B < e5m2.magRnd mode m e then big else e5m2.magRnd mode m e)
  | _ =>
    let n := if fmt = 5 then 8 else 4
    match v with
    | .nan => 0
    | .inf s => satInt n s (2 ^ n)
    | .fin s m e => satInt n s (intRnd mode m e)
where
  /-- FP32, BF16, FP16. -/
  ieeeFor : Nat → Ieee
    | 0 => fp32
    | 1 => bf16
    | _ => fp16

/-! ### MXFP4 blocks (R413) -/

/-- floor(log2 |v|) of a non-zero finite value. -/
def FVal.log2 : FVal → Option Int
  | .fin _ m e => if m = 0 then none else some ((Nat.log2 m : Int) + e)
  | _ => none

/-- A block holds a NaN or an infinity. -/
def blockOpen (vs : List FVal) : Bool := vs.any fun v => match v with | .fin _ _ _ => false | _ => true

/-- The scale code of a block. -/
def blockScale (vs : List FVal) : Nat :=
  if blockOpen vs then 0xFF
  else
    match (vs.filterMap FVal.log2).max? with
    | none => 0
    | some k => (min (max (k - 2 + 127) 0) 254).toNat

/-- An element of a block with its scale code. -/
def blockElem (scale : Nat) (mode : Rnd) (v : FVal) : Nat :=
  if scale = 0xFF then 0
  else
    match v.scaleBy (127 - (scale : Int)) with
    | .fin s m e => e2m1.signed s (min (e2m1.magRnd mode m e) 7)
    | _ => 0

/-! ### Stochastic-rounding draws (R411) -/

/-- sr_draw of R411: the draw and the new state. -/
def srDraw (x : Word) : Nat × Word :=
  let a := x ^^^ (x <<< 13)
  let b := a ^^^ (a >>> 17)
  let c := b ^^^ (b <<< 5)
  ((c >>> 16).toNat, c)

/-- `n` draws in order, and the state after them. -/
def srDraws : Nat → Word → List Nat × Word
  | 0, x => ([], x)
  | n + 1, x =>
    let (r, y) := srDraw x
    let (l, z) := srDraws n y
    (r :: l, z)

/-! ### Elements in flight -/

/-- A result element: an FP32 code, or an integer of 32 bits. -/
inductive Elem where
  | f (code : Nat)
  | i (z : Int)
  deriving DecidableEq, Repr

def Elem.value : Elem → FVal
  | .f c => fp32.decode c
  | .i z => intVal z

/-- An element's code in a format other than MXFP4; FP32 into FP32 is an identity (R409). -/
def Elem.code (e : Elem) (fmt : Nat) (mode : Rnd) (sat : Bool) : Nat :=
  match e, fmt with
  | .f c, 0 => c
  | e, fmt => encodeFmt fmt mode sat e.value

/-- A source element as the FP32 code it converts to (R414, R457). -/
def Tile.fp (t : Tile) (m : PMem) (d r c : Nat) : Nat :=
  if t.fmt = 0 then t.code m d r c else fp32.encode (t.value m d r c)

/-- A source element of format 5 or 6 as an integer. -/
def Tile.int (t : Tile) (m : PMem) (d r c : Nat) : Int := toSigned (fmtBits t.fmt) (t.code m d r c)

/-- How a destination takes its results: the rounding of each element, by its place in row-major order (R411, R429). -/
structure Sink where
  sat : Bool
  sr : Bool
  draws : List Nat
  deriving DecidableEq, Repr

def Sink.mode (k : Sink) (t : Tile) (r c : Nat) : Rnd := if k.sr then .sr (k.draws.getD (r * t.cols + c) 0) else .rne

/-- The values of the block of a destination that holds position j of line i. -/
def Tile.block (t : Tile) (val : Nat → Nat → FVal) (i b : Nat) : List FVal :=
  (List.range 32).map fun k => if t.trans then val (32 * b + k) i else val i (32 * b + k)

/-- An MXFP4 destination written with values, its blocks formed under R413. -/
def Tile.putBlocks (t : Tile) (m : PMem) (k : Sink) (val : Nat → Nat → FVal) (bad : Bool) : PMem :=
  t.write m
    (fun r c =>
      let (i, j) := t.place r c
      blockElem (blockScale (t.block val i (j / 32))) (k.mode t r c) (val r c))
    (fun i b => blockScale (t.block val i b)) bad

/-- A destination tile written with converted elements (R409, R413, R429). -/
def Tile.put (t : Tile) (m : PMem) (k : Sink) (el : Nat → Nat → Elem) (bad : Bool) : PMem :=
  if t.fmt = 7 then t.putBlocks m k (fun r c => (el r c).value) bad
  else t.write m (fun r c => (el r c).code t.fmt (k.mode t r c) k.sat) (fun _ _ => 0) bad

end Sys2Proof.Machine
end

