-- ==== Sys2Proof/Machine/MathFn.lean ====
section
/-! DEFINITION. The functions of VUN that are correctly rounded (09_tile_operation_set.md, R460): SQRT, RECIP and RSQRT
exactly; EXP, LOG, TANH and SIGMOID from an approximation good to 2^-300 of 512-bit fixed-point arithmetic, which decides
the nearest FP32 value since none of their values at an FP32 argument other than the exact ones is a tie (log 12). -/

namespace Sys2Proof.Machine

/-! ### Roots and quotients, exact but for one sticky bit -/

/-- q * 2^e rounded to FP32, with a sticky bit for what lies below q. -/
def roundSticky (neg : Bool) (q : Nat) (e : Int) (sticky : Bool) : Nat :=
  fp32.encode (.fin neg (2 * q + (if sticky then 1 else 0)) (e - 1))

/-- The square root of m * 2^e, m not 0. -/
def sqrtCode (m : Nat) (e : Int) : Nat :=
  let m1 := if e % 2 = 0 then m * 2 ^ 128 else m * 2 ^ 129
  let e1 := if e % 2 = 0 then e - 128 else e - 129
  let r := Nat.sqrt m1
  roundSticky false r (e1 / 2) (r * r != m1)

/-- The reciprocal of m * 2^e, m not 0. -/
def recipCode (neg : Bool) (m : Nat) (e : Int) : Nat :=
  let q := 2 ^ 128 / m
  roundSticky neg q (-e - 128) (q * m != 2 ^ 128)

/-- The reciprocal square root of m * 2^e, m not 0. -/
def rsqrtCode (m : Nat) (e : Int) : Nat :=
  let m1 := if e % 2 = 0 then m else 2 * m
  let e1 := if e % 2 = 0 then e else e - 1
  let r := Nat.sqrt (2 ^ 256 / m1)
  roundSticky false r (-(e1 / 2) - 128) (r * r * m1 != 2 ^ 256)

/-! ### Fixed-point series, 512 fraction bits -/

/-- One as a fixed-point number. -/
def fxOne : Int := 2 ^ 512

/-- The exact fixed-point value of m * 2^e; every FP32 value has at least the exponent -149. -/
def fxOf (neg : Bool) (m : Nat) (e : Int) : Int := if neg then -(m * 2 ^ (e + 512).toNat : Nat) else (m * 2 ^ (e + 512).toNat : Nat)

/-- The sum of x^k / k! over k = n, n + 1, …, given the term of n. -/
def expSum : Nat → Int → Int → Int → Int
  | 0, _, _, acc => acc
  | fuel + 1, x, term, acc => expSum fuel x (term * x / (fxOne * ((800 - fuel : Nat) : Int))) (acc + term)

/-- e^x in fixed point, for |x| at most 128. -/
def fxExp (x : Int) : Int := expSum 800 x fxOne 0

/-- The sum of z^(2k + 1) / (2k + 1), given z^(2k + 1). -/
def atanhSum : Nat → Int → Int → Int → Int
  | 0, _, _, acc => acc
  | fuel + 1, z2, p, acc => atanhSum fuel z2 (p * z2 / fxOne) (acc + p / ((2 * (400 - (fuel + 1)) + 1 : Nat) : Int))

/-- log((1 + z) / (1 - z)) in fixed point, for |z| at most 1/3. -/
def fxLogRatio (z : Int) : Int := 2 * atanhSum 400 (z * z / fxOne) z 0

/-- log 2 in fixed point. -/
def fxLn2 : Int := fxLogRatio (fxOne / 3)

/-- The FP32 value nearest to a fixed-point number. -/
def fxRound (x : Int) : Nat := fp32.encode (ofMant x (-512) false)

/-! ### The functions -/

/-- The zero result of a function: +0, but -0 of an operand -0 (R457, R889; log 14). -/
def zeroOf (code : Nat) : Nat := if code = 0x80000000 then 0x80000000 else 0

/-- VUN functions 3 to 9 on an FP32 code (R460). -/
def vunFn (fn code : Nat) : Nat :=
  match fp32.decode code with
  | .nan => fp32.canonicalNan
  | .inf neg =>
    match fn with
    | 3 => if neg then fp32.canonicalNan else fp32.infCode
    | 4 => zeroOf code
    | 5 => if neg then fp32.canonicalNan else zeroOf code
    | 6 => if neg then zeroOf code else fp32.infCode
    | 7 => if neg then fp32.canonicalNan else fp32.infCode
    | 8 => fp32.signed neg 0x3F800000
    | _ => if neg then zeroOf code else 0x3F800000
  | .fin neg m e =>
    match fn with
    | 3 => if m = 0 then code else if neg then fp32.canonicalNan else sqrtCode m e
    | 4 => if m = 0 then fp32.signed neg fp32.infCode else recipCode neg m e
    | 5 => if m = 0 then fp32.signed neg fp32.infCode else if neg then fp32.canonicalNan else rsqrtCode m e
    | 6 =>
      if fxOne * 128 < (fxOf false m e) then (if neg then 0 else fp32.infCode) else fxRound (fxExp (fxOf neg m e))
    | 7 =>
      if m = 0 then fp32.signed true fp32.infCode
      else if neg then fp32.canonicalNan
      else
        let k : Int := (Nat.log2 m : Int) + e
        let y : Int := (m * 2 ^ (512 - Nat.log2 m) : Nat)
        let v := k * fxLn2 + fxLogRatio ((y - fxOne) * fxOne / (y + fxOne))
        if k = 0 ∧ y = fxOne then zeroOf code else fxRound v
    | 8 =>
      if m = 0 then zeroOf code
      else if (Nat.log2 m : Int) + e < -13 then code
      else if fxOne * 32 < fxOf false m e then fp32.signed neg 0x3F800000
      else
        let t := fxExp (2 * fxOf false m e)
        let v := (t - fxOne) * fxOne / (t + fxOne)
        fxRound (if neg then -v else v)
    | _ =>
      if fxOne * 128 < fxOf false m e then (if neg then 0 else 0x3F800000)
      else fxRound (fxOne * fxOne / (fxOne + fxExp (-fxOf neg m e)))

end Sys2Proof.Machine
end

