-- ==== Sys2Proof/Machine/Tensor.lean ====
section
/-! DEFINITION. The tensor and vector operations (09_tile_operation_set.md, R449 to R462; 08, R392, R393, R406 to R414,
R889). -/

namespace Sys2Proof.Machine

/-! ### Operands and results -/

/-- The tile a register describes. -/
def Core.tile (c : Core) (i : Fin 32) : Tile := tileOf (c.reg i)

/-- The memory of core g's cluster. -/
def State.mem (s : State) (g : Nat) : PMem := (s.cluster (g / 8)).mem

/-- The state with core g's cluster memory replaced; a poisoned word that was read marks the launch (R782). -/
def State.setMem (s : State) (n g : Nat) (m : PMem) (bad : Bool) : State :=
  { (s.when bad fun u => u.launchPoison n).modCluster (g / 8) fun c => { c with mem := m } with draws := s.draws + 1 }

/-- A destination's sink, and the core's stochastic-rounding state after its draws. -/
def sinkOf (c : Core) (t : Tile) (sr sat : Bool) : Sink × Word :=
  if sr then
    let (l, x) := srDraws (t.rows * t.cols) c.sr
    (⟨sat, true, l⟩, x)
  else (⟨sat, false, []⟩, c.sr)

/-! ### TFILL (R449) -/

/-- The checks of TFILL. -/
def tfillChecks (o : OpFields) : Nat → Core → List Nat :=
  fun _ c =>
    unused o false true true false 0 0 ++ (c.tile o.a).exc ++ control c [o.a]

def execTfill (g : Fin 1024) (o : OpFields) (s : State) : Host.Outcome State Fault Refusal :=
  issue g 0x17 o s (tfillChecks o) fun n c t =>
    let d := c.tile o.a
    let pat := toBytes 8 (c.reg o.b).toNat
    let bad := c.regBad o.b
    let lines := (List.range d.lines).flatMap fun i =>
      memAt (d.lineAt i) ((List.range d.lb).map fun j => pat.getD (j % 8) 0)
    let sc := memAt (d.scaleAt 0) (List.replicate (d.lines * d.scales) (pat.getD 0 0))
    let m := ((t.mem g).write lines (if bad then wordsOf lines else [])).write sc (if bad then wordsOf sc else [])
    .next (t.setMem n g m bad)

/-! ### Accumulators (R450 to R455) -/

/-- The place of element (r, c) of accumulator k. -/
def accAt (k r c : Nat) : Nat := 4096 * k + 64 * r + c

/-- ACC, ROW0 and COL0 of IMM (R450). -/
def accSel (o : OpFields) : Nat × Nat × Nat := (immBits o 0 2, immBits o 2 6, immBits o 8 6)

/-- The region of an accumulator leaves it (R452, R455). -/
def accExc (o : OpFields) (rows cols : Nat) : List Nat :=
  check eRSVD_FIELD (decide (64 < immBits o 2 6 + rows) || decide (64 < immBits o 8 6 + cols))

/-- The elements of a region of an accumulator replaced, and their poison. -/
def Core.setAcc (c : Core) (o : OpFields) (rows cols : Nat) (v : Nat → Nat → Nat) (bad : Bool) : Core :=
  let (k, r0, c0) := accSel o
  let cells := (List.range rows).flatMap fun i => (List.range cols).map fun j => (accAt k (r0 + i) (c0 + j), v i j)
  { c with
    acc := cells.foldl (fun a e => smPut a e.1 (BitVec.ofNat 32 e.2)) c.acc
    accPoison := cells.foldl (fun p e => if bad then insertNat p e.1 else eraseNat p e.1) c.accPoison }

/-- An element of the accumulator region. -/
def Core.accGet (c : Core) (o : OpFields) (i j : Nat) : Nat :=
  let (k, r0, c0) := accSel o
  (smGet c.acc 0 (accAt k (r0 + i) (c0 + j))).toNat

/-- An element of the accumulator region is poisoned. -/
def Core.accBad (c : Core) (o : OpFields) (rows cols : Nat) : Bool :=
  let (k, r0, c0) := accSel o
  (List.range rows).any fun i => (List.range cols).any fun j => c.accPoison.contains (accAt k (r0 + i) (c0 + j))

/-- The products of one group added to an accumulator with one rounding (R407, R889). -/
def addGroup (acc : Nat) (products : List FVal) : Nat := fp32.encode (products.foldl FVal.add (fp32.decode acc))

/-- G of R407. -/
def groupOf (fmt : Nat) : Nat := if fmt = 0 then 1 else if fmt ≤ 2 then 4 else if fmt ≤ 4 then 8 else 32

/-- A list in consecutive groups of g. -/
def groups {α : Type} (g : Nat) : Nat → List α → List (List α)
  | 0, _ => []
  | fuel + 1, l => if l.isEmpty then [] else l.take g :: groups g fuel (l.drop g)

/-- One element of a product of tiles (R407), from the accumulator's value. -/
def mmaElem (a b : Tile) (m : PMem) (d i j acc : Nat) : Nat :=
  if a.fmt = 5 ∨ a.fmt = 6 then
    let z : Int := ((List.range a.cols).map fun k => a.int m d i k * b.int m d k j).foldl (· + ·) acc
    ofSigned 32 z
  else
    let p := (List.range a.cols).map fun k => (a.value m d i k).mul (b.value m d k j)
    (groups (groupOf a.fmt) p.length p).foldl addGroup acc

/-- The activity counter of an MMA's multiply-accumulates, by format code (R833). -/
def macKind (fmt : Nat) : Nat := if fmt ≤ 2 then 2 else if fmt ≤ 4 then 3 else 4

/-- The checks of MMA. -/
def mmaChecks (o : OpFields) : Nat → Core → List Nat :=
  fun _ c =>
    let a := c.tile o.a
    let b := c.tile o.b
    unused o false true true false 1 0x3FFF ++ a.exc ++ b.exc ++ accExc o a.rows b.cols
      ++ check eRSVD_FIELD (a.cols ≠ b.rows || (a.fmt == 7 && b.fmt == 7 && (a.trans || !b.trans)))
      ++ check eFORMAT_MISMATCH (a.fmt ≠ b.fmt && !((a.fmt == 3 && b.fmt == 4) || (a.fmt == 4 && b.fmt == 3)))
      ++ control c [o.a, o.b]

/-- MMA (R451, R452, R406). -/
def execMma (g : Fin 1024) (o : OpFields) (s : State) : Host.Outcome State Fault Refusal :=
  let zero := modBits o 0 1 == 1
  issue g 0x20 o s (mmaChecks o) fun n c t =>
    let a := c.tile o.a
    let b := c.tile o.b
    let m := t.mem g
    let bad := a.bad m || b.bad m || (!zero && c.accBad o a.rows b.cols)
    let v := fun i j => mmaElem a b m t.draws i j (if zero then 0 else c.accGet o i j)
    let t := t.act n (macKind a.fmt) (a.rows * b.cols * a.cols)
    .next (({ t with draws := t.draws + 1 }.when bad fun u => u.launchPoison n).modCore g fun k =>
      k.setAcc o a.rows b.cols v bad)

/-- The checks of ACCLD. -/
def accldChecks (o : OpFields) : Nat → Core → List Nat :=
  let ints := modBits o 3 1 == 1
  fun _ c =>
    let a := c.tile o.a
    unused o false true false false 8 0x3FFF ++ a.exc ++ accExc o a.rows a.cols
      ++ check eFORMAT_MISMATCH (ints && a.fmt ≠ 5 && a.fmt ≠ 6) ++ control c [o.a]

/-- ACCLD (R454, R455). -/
def execAccld (g : Fin 1024) (o : OpFields) (s : State) : Host.Outcome State Fault Refusal :=
  let ints := modBits o 3 1 == 1
  issue g 0x21 o s (accldChecks o) fun n c t =>
    let a := c.tile o.a
    let m := t.mem g
    let bad := a.bad m
    let v := fun i j => if ints then ofSigned 32 (a.int m t.draws i j) else a.fp m t.draws i j
    .next (({ t with draws := t.draws + 1 }.when bad fun u => u.launchPoison n).modCore g fun k =>
      k.setAcc o a.rows a.cols v bad)

/-- The checks of ACCST. -/
def accstChecks (o : OpFields) : Nat → Core → List Nat :=
  fun _ c =>
    let d := c.tile o.a
    unused o false true false false 11 0x3FFF ++ d.exc ++ accExc o d.rows d.cols ++ control c [o.a]

/-- ACCST (R455). -/
def execAccst (g : Fin 1024) (o : OpFields) (s : State) : Host.Outcome State Fault Refusal :=
  let ints := modBits o 3 1 == 1
  issue g 0x22 o s (accstChecks o) fun n c t =>
    let d := c.tile o.a
    let (k, x) := sinkOf c d (modBits o 0 1 == 1) (modBits o 1 1 == 1)
    let el := fun i j => if ints then Elem.i (toSigned 32 (c.accGet o i j)) else Elem.f (c.accGet o i j)
    let bad := c.accBad o d.rows d.cols
    .next ((t.setMem n g (d.put (t.mem g) k el bad) bad).modCore g fun q => { q with sr := x })

/-! ### Vector operations (R457 to R461) -/

/-- The operation computes in the integer domain: every tile that takes part has FMT 5 or 6 (R457). -/
def intDomain (l : List Tile) : Bool := l.all fun t => t.fmt == 5 || t.fmt == 6

/-- The checks common to vector operations: the tiles' own, their sources against the destination, control. -/
def vecExc (c : Core) (o : OpFields) (d : Tile) (srcs : List (Fin 32)) : List Nat :=
  d.exc ++ srcs.flatMap (fun i => (c.tile i).exc ++ (c.tile i).against d) ++ control c (o.d.val :: srcs.map Fin.val)

/-- A vector operation's effect: its elements are written to the destination, every one poisoned when a source is
(R393). -/
def vecDone (t : State) (n : Nat) (g : Nat) (c : Core) (o : OpFields) (srcs : List Tile) (more : Bool)
    (el : Nat → Nat → Elem) : OpEnd :=
  let d := c.tile o.d
  let m := t.mem g
  let (k, x) := sinkOf c d (modBits o 6 1 == 1) (modBits o 7 1 == 1)
  let bad := more || srcs.any fun u => u.bad m
  .next ((t.setMem n g (d.put m k el bad) bad).modCore g fun q => { q with sr := x })

/-- A source element at destination position (r, c), broadcast. -/
def Tile.fpAt (t : Tile) (m : PMem) (d r c : Nat) : Nat := let (i, j) := t.pick r c; t.fp m d i j
def Tile.intAt (t : Tile) (m : PMem) (d r c : Nat) : Int := let (i, j) := t.pick r c; t.int m d i j

/-- An integer step wraps modulo 2^32. -/
def wrap32 (z : Int) : Int := toSigned 32 (ofSigned 32 z)

/-- VBIN's functions on FP32 codes and on integers (R458, R461). -/
def vbinF (f a b : Nat) : Nat :=
  let x := fp32.decode a
  let y := fp32.decode b
  match f with
  | 0 => fp32.encode (x.add y)
  | 1 => fp32.encode (x.add y.neg)
  | 2 => fp32.encode (x.mul y)
  | 3 => fp32.encode (x.min2 y)
  | _ => fp32.encode (x.max2 y)

def vbinI (f : Nat) (a b : Int) : Int :=
  match f with
  | 0 => wrap32 (a + b)
  | 1 => wrap32 (a - b)
  | 2 => wrap32 (a * b)
  | 3 => min a b
  | 4 => max a b
  | 5 => toSigned 32 (ofSigned 32 a &&& ofSigned 32 b)
  | 6 => toSigned 32 (ofSigned 32 a ||| ofSigned 32 b)
  | _ => toSigned 32 (ofSigned 32 a ^^^ ofSigned 32 b)

/-- The checks of VBIN. -/
def vbinChecks (o : OpFields) : Nat → Core → List Nat :=
  let f := modBits o 0 4
  fun _ c =>
    unused o true true true false 0xCF 0 ++ vecExc c o (c.tile o.d) [o.a, o.b]
    ++ check eRSVD_FIELD (decide (7 < f) || (decide (4 < f) && !intDomain [c.tile o.d, c.tile o.a, c.tile o.b]))

/-- VBIN (R458, R459). -/
def execVbin (g : Fin 1024) (o : OpFields) (s : State) : Host.Outcome State Fault Refusal :=
  let f := modBits o 0 4
  issue g 0x30 o s (vbinChecks o)
    fun n c t =>
    let a := c.tile o.a
    let b := c.tile o.b
    let m := t.mem g
    vecDone t n g c o [a, b] false fun i j =>
      if intDomain [c.tile o.d, a, b] then .i (vbinI f (a.intAt m t.draws i j) (b.intAt m t.draws i j))
      else .f (vbinF f (a.fpAt m t.draws i j) (b.fpAt m t.draws i j))

/-- VUN's functions 0 to 2 on integers and all of them on FP32 codes (R460). -/
def vunI (f : Nat) (a : Int) : Int :=
  match f with
  | 0 => wrap32 (-a)
  | 1 => wrap32 a.natAbs
  | _ => max a 0

def vunF (f a : Nat) : Nat :=
  if (fp32.decode a).isNan then fp32.canonicalNan
  else
    match f with
    | 0 => if a < 2 ^ 31 then a + 2 ^ 31 else a - 2 ^ 31
    | 1 => a % 2 ^ 31
    | 2 => fp32.encode ((fp32.decode a).max2 (.fin false 0 0))
    | _ => vunFn f a

/-- The checks of VUN. -/
def vunChecks (o : OpFields) : Nat → Core → List Nat :=
  let f := modBits o 0 4
  fun _ c =>
    unused o true true false false 0xCF 0 ++ vecExc c o (c.tile o.d) [o.a]
    ++ check eRSVD_FIELD (decide (9 < f) || (decide (2 < f) && intDomain [c.tile o.d, c.tile o.a]))

/-- VUN (R458 to R460). -/
def execVun (g : Fin 1024) (o : OpFields) (s : State) : Host.Outcome State Fault Refusal :=
  let f := modBits o 0 4
  issue g 0x31 o s (vunChecks o) fun n c t =>
    let a := c.tile o.a
    let m := t.mem g
    vecDone t n g c o [a] false fun i j =>
      if intDomain [c.tile o.d, a] then .i (vunI f (a.intAt m t.draws i j)) else .f (vunF f (a.fpAt m t.draws i j))

/-- a * b + c rounded once to FP32. -/
def fma32 (a b c : Nat) : Nat := fp32.encode (((fp32.decode a).mul (fp32.decode b)).add (fp32.decode c))

/-- The checks of VSCALE. -/
def vscaleChecks (o : OpFields) : Nat → Core → List Nat :=
  fun _ c =>
    unused o true true true true 0xC0 0 ++ vecExc c o (c.tile o.d) [o.a]

/-- VSCALE (R458): the scalars are data, their poison enters the result. -/
def execVscale (g : Fin 1024) (o : OpFields) (s : State) : Host.Outcome State Fault Refusal :=
  issue g 0x32 o s (vscaleChecks o) fun n c t =>
    let a := c.tile o.a
    let m := t.mem g
    let x := (c.reg o.b).toNat % 2 ^ 32
    let y := (c.reg o.c).toNat % 2 ^ 32
    vecDone t n g c o [a] (c.regBad o.b || c.regBad o.c) fun i j =>
      if intDomain [c.tile o.d, a] then .i (wrap32 (a.intAt m t.draws i j * toSigned 32 x + toSigned 32 y))
      else .f (fma32 (a.fpAt m t.draws i j) x y)

/-- The checks of VFMA. -/
def vfmaChecks (o : OpFields) : Nat → Core → List Nat :=
  fun _ c =>
    unused o true true true true 0xC0 0 ++ vecExc c o (c.tile o.d) [o.a, o.b, o.c]

/-- VFMA (R458, R459). -/
def execVfma (g : Fin 1024) (o : OpFields) (s : State) : Host.Outcome State Fault Refusal :=
  issue g 0x33 o s (vfmaChecks o) fun n c t =>
    let a := c.tile o.a
    let b := c.tile o.b
    let k := c.tile o.c
    let m := t.mem g
    vecDone t n g c o [a, b, k] false fun i j =>
      if intDomain [c.tile o.d, a, b, k] then
        .i (wrap32 (a.intAt m t.draws i j * b.intAt m t.draws i j + k.intAt m t.draws i j))
      else .f (fma32 (a.fpAt m t.draws i j) (b.fpAt m t.draws i j) (k.fpAt m t.draws i j))

/-- The reduction of a list in order, one rounding a step: SUM, MAX, MIN (R458). -/
def reduceF (f : Nat) : List Nat → Nat
  | [] => 0
  | x :: l => l.foldl (fun acc y => vbinF (if f = 0 then 0 else if f = 1 then 4 else 3) acc y) x

def reduceI (f : Nat) : List Int → Int
  | [] => 0
  | x :: l => l.foldl (fun acc y => vbinI (if f = 0 then 0 else if f = 1 then 4 else 3) acc y) x

/-- The checks of VRED. -/
def vredChecks (o : OpFields) : Nat → Core → List Nat :=
  let f := modBits o 0 2
  let axis := modBits o 4 1
  fun _ c =>
    let d := c.tile o.d
    let a := c.tile o.a
    unused o true true false false 0xD3 0 ++ d.exc ++ a.exc ++ control c [o.d, o.a]
      ++ check eRSVD_FIELD (f == 3 || d.rows ≠ (if axis = 0 then a.rows else 1)
        || d.cols ≠ (if axis = 0 then 1 else a.cols) || (a.meets d && !a.same d))

/-- VRED (R458): along rows with AXIS 0, along columns with AXIS 1. -/
def execVred (g : Fin 1024) (o : OpFields) (s : State) : Host.Outcome State Fault Refusal :=
  let f := modBits o 0 2
  let axis := modBits o 4 1
  issue g 0x34 o s (vredChecks o) fun n c t =>
    let a := c.tile o.a
    let m := t.mem g
    let line (r k : Nat) : List (Nat × Nat) :=
      if axis = 0 then (List.range a.cols).map fun j => (r, j) else (List.range a.rows).map fun i => (i, k)
    vecDone t n g c o [a] false fun r k =>
      if intDomain [c.tile o.d, a] then .i (reduceI f ((line r k).map fun p => a.int m t.draws p.1 p.2))
      else .f (reduceF f ((line r k).map fun p => a.fp m t.draws p.1 p.2))

/-- The checks of VCVT. -/
def vcvtChecks (o : OpFields) : Nat → Core → List Nat :=
  fun _ c =>
    unused o true true false false 0xC0 0 ++ vecExc c o (c.tile o.d) [o.a]

/-- VCVT (R458): a copy of codes within a format, blocks formed again for an MXFP4 transpose, else a conversion. -/
def execVcvt (g : Fin 1024) (o : OpFields) (s : State) : Host.Outcome State Fault Refusal :=
  issue g 0x35 o s (vcvtChecks o) fun n c t =>
    let a := c.tile o.a
    let d := c.tile o.d
    let m := t.mem g
    let bad := a.bad m
    let (k, x) := sinkOf c d (modBits o 6 1 == 1) (modBits o 7 1 == 1)
    let srcCode := fun i j => let (r, q) := a.pick i j; a.code m t.draws r q
    let srcScale := fun i b =>
      let (r, q) := if d.trans then a.pick (32 * b) i else a.pick i (32 * b)
      a.scale m t.draws r q
    let srcValue := fun i j => let (r, q) := a.pick i j; a.value m t.draws r q
    let out :=
      if a.fmt = d.fmt ∧ (a.fmt ≠ 7 ∨ a.trans = d.trans) then d.write m srcCode srcScale bad
      else if a.fmt = 7 ∧ d.fmt = 7 then d.putBlocks m k srcValue bad
      else if intDomain [d, a] then d.put m k (fun i j => .i (a.intAt m t.draws i j)) bad
      else d.put m k (fun i j => .f (a.fpAt m t.draws i j)) bad
    .next ((t.setMem n g out bad).modCore g fun q => { q with sr := x })

/-- VCMP's condition on FP32 codes and on integers (R458, R461). -/
def vcmpF (cond a b : Nat) : Bool :=
  let x := fp32.decode a
  let y := fp32.decode b
  if x.isNan || y.isNan then cond == 1
  else
    let zero (v : FVal) : Bool := match v with | .fin _ 0 _ => true | _ => false
    let lt := x.less y && !(zero x && zero y)
    let gt := y.less x && !(zero x && zero y)
    match cond with
    | 0 => !lt && !gt
    | 1 => lt || gt
    | 2 => lt
    | _ => !gt

def vcmpI (cond : Nat) (a b : Int) : Bool :=
  match cond with
  | 0 => a == b
  | 1 => a != b
  | 2 => decide (a < b)
  | _ => decide (a ≤ b)

/-- The checks of VCMP. -/
def vcmpChecks (o : OpFields) : Nat → Core → List Nat :=
  fun _ c =>
    unused o true true true false 0xC3 0 ++ vecExc c o (c.tile o.d) [o.a, o.b]
    ++ check eRSVD_FIELD ((c.tile o.d).fmt ≠ 5)

/-- VCMP (R458, R459): 1 or 0 in an INT8 mask. -/
def execVcmp (g : Fin 1024) (o : OpFields) (s : State) : Host.Outcome State Fault Refusal :=
  let cond := modBits o 0 2
  issue g 0x36 o s (vcmpChecks o) fun n c t =>
    let a := c.tile o.a
    let b := c.tile o.b
    let m := t.mem g
    vecDone t n g c o [a, b] false fun i j =>
      .i (bit (if intDomain [a, b] then vcmpI cond (a.intAt m t.draws i j) (b.intAt m t.draws i j)
        else vcmpF cond (a.fpAt m t.draws i j) (b.fpAt m t.draws i j)))

/-- The checks of VSEL. -/
def vselChecks (o : OpFields) : Nat → Core → List Nat :=
  fun _ c =>
    unused o true true true true 0xC0 0 ++ vecExc c o (c.tile o.d) [o.a, o.b, o.c]
    ++ check eRSVD_FIELD ((c.tile o.c).fmt ≠ 5)

/-- VSEL (R458, R459). -/
def execVsel (g : Fin 1024) (o : OpFields) (s : State) : Host.Outcome State Fault Refusal :=
  issue g 0x37 o s (vselChecks o) fun n c t =>
    let a := c.tile o.a
    let b := c.tile o.b
    let k := c.tile o.c
    let m := t.mem g
    vecDone t n g c o [a, b, k] false fun i j =>
      let takeA := k.intAt m t.draws i j != 0
      if intDomain [c.tile o.d, a, b] then .i (if takeA then a.intAt m t.draws i j else b.intAt m t.draws i j)
      else .f (if takeA then a.fpAt m t.draws i j else b.fpAt m t.draws i j)

end Sys2Proof.Machine
end

