-- ==== Sys2Proof/Machine/Tick.lean ====
section
/-! DEFINITION. The Vesper tick (19_vesper_management.md, R810 to R815; 04_power_states_reset_boot.md, R159, R160) and Vesper's
restarts. -/

namespace Sys2Proof.Machine

/-! ### The M2 decision (R159, R160) -/

/-- A ring has work, or the ring engine holds a descriptor, a copy or a completion. -/
def State.ringWork (s : State) : Bool :=
  (s.vfs.any fun e => e.2.rings.any (fun r => !r.descs.isEmpty) || !e.2.held.isEmpty || !e.2.waiting.isEmpty)
    || (List.range 32).any fun n =>
      s.rgnState n != rFREE && (List.range 8).any fun i => s.producerSeen n i != s.consumed n i

/-- The word of PWR_M2_BLOCK: the conditions of R159 that fail. -/
def State.m2Block (s : State) : Nat :=
  let live := s.liveRegions
  let idle := s.fld F.PWR_STATE_STATE == 1 && s.on F.RST_BOOT_STATUS_READY
    && decide (s.fld F.PWR_M2_CTRL_IDLE_TICKS < s.power.m1Ticks)
  bit (!s.on F.PWR_M2_CTRL_M2_ENABLE) + bit (!idle) * 2 + bit (live.any fun n => s.rgnState n != rREADY) * 4
    + bit (live.any fun n => s.bitAt F.PWR_M2_VETO_VETO n) * 8 + bit s.ringWork * 16
    + bit ((List.range 4).any fun p => s.linkState p == lUP || s.linkState p == lRETRAINING) * 32
    + bit (!s.on F.HOST_STATUS_L1_2_ENABLED) * 64
    + bit (s.on F.PWR_FHALT_STATUS_HALTING || s.on F.PWR_FHALT_STATUS_HALTED || s.power.releasing) * 128

/-- The tick boundaries at which the module has been in M1 without a break, this one included. -/
def State.countM1 (s : State) : State :=
  let k := if s.fld F.PWR_STATE_STATE = 1 ∧ s.power.phase = .run then s.power.m1Ticks + 1 else 0
  { s with power := { s.power with m1Ticks := k } }

/-- M2 entry starts (R161), or the failed conditions are written (R160). While an entry runs nothing is decided. -/
def State.decideM2 (s : State) : State :=
  if s.on F.PWR_STATE_M2_ENTERING then s
  else if s.m2Block = 0 then s.raise F.PWR_STATE_M2_ENTERING
  else s.setWord R.PWR_M2_BLOCK s.m2Block

/-! ### The tick (R813 to R815) -/

/-- The next tick boundary. -/
def State.nextBoundary (s : State) : Nat := max (ceilDiv s.time 8192) (s.supply.boundary + 1)

/-- What hardware does at the boundary (R804, R813). -/
def State.latchTick (s : State) : State :=
  let k := s.nextBoundary
  let t := s.at (k * 8192)
  let e := s.moduleEnergy
  let t : State := { t with
    ceLogged := []
    supply := { t.supply with boundary := k % 2 ^ 35, latched := e } }
  t.modVsp fun v => { v with powerHist := ((e - s.supply.latched) :: v.powerHist).take 4 }

/-- The last step (R814): new Almanac entries, the staged last-gasp record, LG_ARMED. -/
def State.almanacStep (s : State) : State :=
  let t := s.readSupply.readHalts.readTouches.captureTick
  (t.modVsp fun v => { v with staged := t.pendingChanges, lastTick := some t.tick }).raise F.PWR_STATUS_LG_ARMED

/-- Vesper's work for the tick, in the order of R814. Whether it was still unfinished at the next boundary is a free value
(R815, log 2). -/
def State.tickWork (s : State) : State :=
  let seen := s.vesper.supplySeen
  let old := s.vesper.readings
  let t := s.decideM2.countActivity.fillSnapshots.latchRecord
  let t := (t.readIntegrity.reconcileAll.attribute.enforceCaps.takeMail).latchSensors
  let t := ((t.tickEvents old seen).serveAll).almanacStep
  let (x, t) := t.draw
  (t.when (x.getLsbD 0) fun u => u.countSat F.VSP_COUNTS_TICK_OVERRUNS).setFld F.VSP_LAST_TICK_TICK t.tick

/-- VESPER_TICK: the boundary of the next tick; Vesper does its work when its firmware runs. -/
def execVesperTick (s : State) : Host.Outcome State Fault Refusal :=
  if s.power.phase = .off then done s
  else
    let t := s.latchTick.countM1
    let t := if t.vesperRuns then t.tickWork else t
    let u : State := { t with supply := { t.supply with shedInTick := t.on F.CLK_STATUS_SHED } }
    done u

/-! ### Restarts (R810 to R812) -/

/-- A restart's cause in the BOOT entry. -/
def restartCodeOf : RestartCause → Nat
  | .activation => 1
  | .watchdog => 2
  | .sramUe => 3

/-- VESPER_RESTART: firmware stops; no data-path state changes. A restart by activation comes only after one was asked for. -/
def execVesperRestart (cause : RestartCause) (s : State) : Host.Outcome State Fault Refusal :=
  if !s.vesperRuns ∨ (cause = .activation ∧ !s.vesper.restartDue) then done s
  else
    let t := (((s.countSat F.VSP_STATUS_RESTARTS).lower F.VSP_STATUS_ALIVE).raise F.VSP_STATUS_RESTARTING).lower
      F.VSP_STATUS_UPDATE
    done (t.modVsp fun v => { v with
      restart := some cause, restartDue := false, restartCode := restartCodeOf cause, requests := [], updater := none
      verified := none, mailDue := false })

/-- A unit record as it is rebuilt (R812): the permanent table's, with no pending order. -/
def UnitRec.rebuilt (r : UnitRec) : UnitRec := { r with order := none }

/-- VESPER_RESTART_COMPLETE: the boot ROM has verified and started a slot's image; the records are rebuilt from the permanent
table and the changes queued for it, and a BOOT entry is queued. -/
def execVesperRestartComplete (s : State) : Host.Outcome State Fault Refusal :=
  if !s.on F.VSP_STATUS_RESTARTING ∨ s.power.phase = .loss then done s
  else
    let b := s.bootSlot.getD (s.fld F.RST_BOOT_STATUS_SLOT == 1)
    let im := if b then s.flash.slotB else s.flash.slotA
    let back := bit (b != s.flash.selector)
    let t := ((s.setFld F.RST_BOOT_STATUS_SLOT (bit b)).setFld F.RST_BOOT_STATUS_FALLBACK back).setFld
      F.RST_BOOT_STATUS_FW_SVN im.svn.toNat
    let t := ((t.setFld F.VSP_FW_MAJOR im.major.toNat).setFld F.VSP_FW_MINOR im.minor.toNat).setFld F.VSP_FW_PATCH
      im.patch.toNat
    let t := t.when (back == 1) fun u => u.raise F.RST_ERR_IMAGE_SLOT_FAIL
    let t := (t.lower F.VSP_STATUS_RESTARTING).raise F.VSP_STATUS_ALIVE
    let t := t.modVsp fun v => { v with
      restart := none, orders := [], due := [], records := v.records.map fun e => (e.1, e.2.rebuilt) }
    done (t.queueAlm alBOOT [t.word R.RST_CAUSE 0, t.word R.RST_BOOT_STATUS 0, s.vesper.restartCode, 0])

end Sys2Proof.Machine
end

