-- ==== Sys2Proof/Machine/Dispatch.lean ====
section
/-! DEFINITION. The meaning of each command: one arm for each row of the opcode table, each a call of that row's meaning. -/

namespace Sys2Proof.Machine

/-- The effect of a command on everything but the queue. -/
def exec (i : Instr) (s : State) : Host.Outcome State Fault Refusal :=
  match i with
  | .registerWrite off w => Sys2Proof.Machine.execRegisterWrite off w s
  | .unsupportedRequest fn => Sys2Proof.Machine.execUnsupportedRequest fn s
  | .wakeHint vf => Sys2Proof.Machine.execWakeHint vf s
  | .sriovCfgWriteIgnored w => Sys2Proof.Machine.execSriovCfgWriteIgnored w s
  | .vfEnableClear => Sys2Proof.Machine.execVfEnableClear s
  | .pfD3hotEntry => Sys2Proof.Machine.execPfD3hotEntry s
  | .pfD0Entry => Sys2Proof.Machine.execPfD0Entry s
  | .vfBmeChange vf on => Sys2Proof.Machine.execVfBmeChange vf on s
  | .intPfEnableWrite w => Sys2Proof.Machine.execIntPfEnableWrite w s
  | .msixTableWrite fn vector word w => Sys2Proof.Machine.execMsixTableWrite fn vector word w s
  | .msixPendingSend fn vector => Sys2Proof.Machine.execMsixPendingSend fn vector s
  | .pcieLinkTrained width speed flitMode => Sys2Proof.Machine.execPcieLinkTrained width speed flitMode s
  | .hostDmaErrorResponse d e => Sys2Proof.Machine.execHostDmaErrorResponse d e s
  | .hostReadTimeout d => Sys2Proof.Machine.execHostReadTimeout d s
  | .perstAssert => Sys2Proof.Machine.execPerstAssert s
  | .perstDeassert => Sys2Proof.Machine.execPerstDeassert s
  | .hotReset => Sys2Proof.Machine.execHotReset s
  | .flrPf => Sys2Proof.Machine.execFlrPf s
  | .flrVf vf => Sys2Proof.Machine.execFlrVf vf s
  | .warm w => Sys2Proof.Machine.execWarm w s
  | .cold w => Sys2Proof.Machine.execCold w s
  | .warmKeepHbmUpdate w => Sys2Proof.Machine.execWarmKeepHbmUpdate w s
  | .warmReset p => Sys2Proof.Machine.execWarmReset p s
  | .warmResetComplete => Sys2Proof.Machine.execWarmResetComplete s
  | .converterStart p => Sys2Proof.Machine.execConverterStart p s
  | .bringUpComplete => Sys2Proof.Machine.execBringUpComplete s
  | .powerDown => Sys2Proof.Machine.execPowerDown s
  | .supplySample mv ma => Sys2Proof.Machine.execSupplySample mv ma s
  | .overvoltageTrip => Sys2Proof.Machine.execOvervoltageTrip s
  | .undervoltageComparator => Sys2Proof.Machine.execUndervoltageComparator s
  | .meterSelfCheck ok => Sys2Proof.Machine.execMeterSelfCheck ok s
  | .lastGaspComplete => Sys2Proof.Machine.execLastGaspComplete s
  | .junctionSensorRead temps => Sys2Proof.Machine.execJunctionSensorRead temps s
  | .hbmTempReport stack temp => Sys2Proof.Machine.execHbmTempReport stack temp s
  | .fhaltSample a b => Sys2Proof.Machine.execFhaltSample a b s
  | .haltDrainComplete => Sys2Proof.Machine.execHaltDrainComplete s
  | .fhaltRelease w crossings => Sys2Proof.Machine.execFhaltRelease w crossings s
  | .m3ReleaseComplete p => Sys2Proof.Machine.execM3ReleaseComplete p s
  | .shed => Sys2Proof.Machine.execShed s
  | .unshed => Sys2Proof.Machine.execUnshed s
  | .forceShedWrite w => Sys2Proof.Machine.execForceShedWrite w s
  | .ceilingMultWrite w => Sys2Proof.Machine.execCeilingMultWrite w s
  | .slewComplete => Sys2Proof.Machine.execSlewComplete s
  | .aonTrimWindow count => Sys2Proof.Machine.execAonTrimWindow count s
  | .xtal32Stop => Sys2Proof.Machine.execXtal32Stop s
  | .xrefQualifyTimeout => Sys2Proof.Machine.execXrefQualifyTimeout s
  | .tilePllUnlock half => Sys2Proof.Machine.execTilePllUnlock half s
  | .tilePllRelock half => Sys2Proof.Machine.execTilePllRelock half s
  | .vesperTick => Sys2Proof.Machine.execVesperTick s
  | .m2EntryComplete polls => Sys2Proof.Machine.execM2EntryComplete polls s
  | .m2PollExcursion polls => Sys2Proof.Machine.execM2PollExcursion polls s
  | .wakeCause cause crossings => Sys2Proof.Machine.execWakeCause cause crossings s
  | .wakeComplete p => Sys2Proof.Machine.execWakeComplete p s
  | .islandIdleGate region => Sys2Proof.Machine.execIslandIdleGate region s
  | .islandUngateComplete island crossings => Sys2Proof.Machine.execIslandUngateComplete island crossings s
  | .imageRebuild region image => Sys2Proof.Machine.execImageRebuild region image s
  | .sliceRetentionEntry slice => Sys2Proof.Machine.execSliceRetentionEntry slice s
  | .sliceRetentionExit slice => Sys2Proof.Machine.execSliceRetentionExit slice s
  | .ringWatchPoll vf r => Sys2Proof.Machine.execRingWatchPoll vf r s
  | .heldRecordsFlush vf => Sys2Proof.Machine.execHeldRecordsFlush vf s
  | .descriptorFetch vf ring result words => Sys2Proof.Machine.execDescriptorFetch vf ring result words s
  | .descriptorComplete d => Sys2Proof.Machine.execDescriptorComplete d s
  | .nopDescriptor d => Sys2Proof.Machine.execNopDescriptor d s
  | .copy d data => Sys2Proof.Machine.execCopy d data s
  | .fill d => Sys2Proof.Machine.execFill d s
  | .loadSchedule d image => Sys2Proof.Machine.execLoadSchedule d image s
  | .launch d => Sys2Proof.Machine.execLaunch d s
  | .gatherCheckComplete region => Sys2Proof.Machine.execGatherCheckComplete region s
  | .launchEnd region => Sys2Proof.Machine.execLaunchEnd region s
  | .launchWatchdog region => Sys2Proof.Machine.execLaunchWatchdog region s
  | .wait d value => Sys2Proof.Machine.execWait d value s
  | .waitTimeout d => Sys2Proof.Machine.execWaitTimeout d s
  | .fenceDescriptor d => Sys2Proof.Machine.execFenceDescriptor d s
  | .barrier d => Sys2Proof.Machine.execBarrier d s
  | .barrierTimeout d => Sys2Proof.Machine.execBarrierTimeout d s
  | .signal d => Sys2Proof.Machine.execSignal d s
  | .query d => Sys2Proof.Machine.execQuery d s
  | .telemetrySnapshot d => Sys2Proof.Machine.execTelemetrySnapshot d s
  | .ringEnable vf w => Sys2Proof.Machine.execRingEnable vf w s
  | .ringDisable vf w => Sys2Proof.Machine.execRingDisable vf w s
  | .cqEnable vf w => Sys2Proof.Machine.execCqEnable vf w s
  | .cqDisable vf w => Sys2Proof.Machine.execCqDisable vf w s
  | .ringStoppingEnd vf ring => Sys2Proof.Machine.execRingStoppingEnd vf ring s
  | .configure region w => Sys2Proof.Machine.execConfigure region w s
  | .commit region w => Sys2Proof.Machine.execCommit region w s
  | .reset region w => Sys2Proof.Machine.execReset region w s
  | .release region w => Sys2Proof.Machine.execRelease region w s
  | .rgnRectWrite region w => Sys2Proof.Machine.execRgnRectWrite region w s
  | .regionFault region f more => Sys2Proof.Machine.execRegionFault region f more s
  | .faultStopEnd region => Sys2Proof.Machine.execFaultStopEnd region s
  | .regionResetDrainEnd region => Sys2Proof.Machine.execRegionResetDrainEnd region s
  | .regionResetEnd region => Sys2Proof.Machine.execRegionResetEnd region s
  | .releaseClearEnd region => Sys2Proof.Machine.execReleaseClearEnd region s
  | .frameStart region => Sys2Proof.Machine.execFrameStart region s
  | .frameEnd region => Sys2Proof.Machine.execFrameEnd region s
  | .keyValidWrite w => Sys2Proof.Machine.execKeyValidWrite w s
  | .routeQuiesceEnd region => Sys2Proof.Machine.execRouteQuiesceEnd region s
  | .dynRead id e => Sys2Proof.Machine.execDynRead id e s
  | .dynWrite id e => Sys2Proof.Machine.execDynWrite id e s
  | .dynAtomic id e => Sys2Proof.Machine.execDynAtomic id e s
  | .dynMessage id => Sys2Proof.Machine.execDynMessage id s
  | .dynData id parity => Sys2Proof.Machine.execDynData id parity s
  | .dynAck id => Sys2Proof.Machine.execDynAck id s
  | .dynError id => Sys2Proof.Machine.execDynError id s
  | .edgeRingTransfer id headerError => Sys2Proof.Machine.execEdgeRingTransfer id headerError s
  | .halt core way => Sys2Proof.Machine.execHalt core way s
  | .notifyDelivery id way => Sys2Proof.Machine.execNotifyDelivery id way s
  | .creditReturn id way => Sys2Proof.Machine.execCreditReturn id way s
  | .combiningAccept slice => Sys2Proof.Machine.execCombiningAccept slice s
  | .combiningDelivery slice queue => Sys2Proof.Machine.execCombiningDelivery slice queue s
  | .borrowRequest slice line proxy => Sys2Proof.Machine.execBorrowRequest slice line proxy s
  | .recallLine slice line => Sys2Proof.Machine.execRecall slice line s
  | .lineReturn slice id => Sys2Proof.Machine.execLineReturn slice id s
  | .hbmGrant channel => Sys2Proof.Machine.execHbmGrant channel s
  | .hbmReadComplete id => Sys2Proof.Machine.execHbmReadComplete id s
  | .hbmRefresh channel bank => Sys2Proof.Machine.execHbmRefresh channel bank s
  | .budgetWindow => Sys2Proof.Machine.execBudgetWindow s
  | .agePromotion who => Sys2Proof.Machine.execAgePromotion who s
  | .hbmWatermarkWrite stack w => Sys2Proof.Machine.execHbmWatermarkWrite stack w s
  | .scrubStep slice hbm e => Sys2Proof.Machine.execScrubStep slice hbm e s
  | .bushelLeak slice => Sys2Proof.Machine.execBushelLeak slice s
  | .linkEnable port w => Sys2Proof.Machine.execLinkEnable port w s
  | .linkTrainingComplete port r => Sys2Proof.Machine.execLinkTrainingComplete port r s
  | .linkTrainingFail port => Sys2Proof.Machine.execLinkTrainingFail port s
  | .linkTrainingRetry port => Sys2Proof.Machine.execLinkTrainingRetry port s
  | .linkRetrain port lanes => Sys2Proof.Machine.execLinkRetrain port lanes s
  | .laneErrorWindow port lanes => Sys2Proof.Machine.execLaneErrorWindow port lanes s
  | .linkRetrainComplete port lanesGood ok => Sys2Proof.Machine.execLinkRetrainComplete port lanesGood ok s
  | .linkDisable port w => Sys2Proof.Machine.execLinkDisable port w s
  | .linkDisableComplete port => Sys2Proof.Machine.execLinkDisableComplete port s
  | .portAssign port w => Sys2Proof.Machine.execPortAssign port w s
  | .portUnassign port w => Sys2Proof.Machine.execPortUnassign port w s
  | .hlModuleWrite w => Sys2Proof.Machine.execHlModuleWrite w s
  | .flitReceive port f => Sys2Proof.Machine.execFlitReceive port f s
  | .replayTimeout port => Sys2Proof.Machine.execReplayTimeout port s
  | .linkRead port p => Sys2Proof.Machine.execLinkRead port p s
  | .linkWrite port p => Sys2Proof.Machine.execLinkWrite port p s
  | .linkAtomic port p => Sys2Proof.Machine.execLinkAtomic port p s
  | .linkMessage port p => Sys2Proof.Machine.execLinkMessage port p s
  | .linkData port p => Sys2Proof.Machine.execLinkData port p s
  | .linkAck port p => Sys2Proof.Machine.execLinkAck port p s
  | .linkError port p => Sys2Proof.Machine.execLinkError port p s
  | .linkCredit port p => Sys2Proof.Machine.execLinkCredit port p s
  | .vesperRestart cause => Sys2Proof.Machine.execVesperRestart cause s
  | .vesperRestartComplete => Sys2Proof.Machine.execVesperRestartComplete s
  | .almanacFlashWrite => Sys2Proof.Machine.execAlmanacFlashWrite s
  | .mailboxSubmit w => Sys2Proof.Machine.execMailboxSubmit w s
  | .mailboxDoneClear w => Sys2Proof.Machine.execMailboxDoneClear w s
  | .getInfo => Sys2Proof.Machine.execGetInfo s
  | .getTelemetryModule => Sys2Proof.Machine.execGetTelemetryModule s
  | .getTelemetryRegion => Sys2Proof.Machine.execGetTelemetryRegion s
  | .getCalibration => Sys2Proof.Machine.execGetCalibration s
  | .getUnitRecord => Sys2Proof.Machine.execGetUnitRecord s
  | .almanacRead => Sys2Proof.Machine.execAlmanacRead s
  | .almanacRelease => Sys2Proof.Machine.execAlmanacRelease s
  | .setPortConfig => Sys2Proof.Machine.execSetPortConfig s
  | .fenceUnit => Sys2Proof.Machine.execFenceUnit s
  | .releaseUnit => Sys2Proof.Machine.execReleaseUnit s
  | .capture => Sys2Proof.Machine.execCapture s
  | .bscanArm => Sys2Proof.Machine.execBscanArm s
  | .bscanDisarm => Sys2Proof.Machine.execBscanDisarm s
  | .serviceClearComplete tile => Sys2Proof.Machine.execServiceClearComplete tile s
  | .setEndpointId e eid => Sys2Proof.Machine.execSetEndpointId e eid s
  | .getEndpointId e => Sys2Proof.Machine.execGetEndpointId e s
  | .getEndpointUuid e => Sys2Proof.Machine.execGetEndpointUuid e s
  | .getMctpVersionSupport e msgType => Sys2Proof.Machine.execGetMctpVersionSupport e msgType s
  | .getMessageTypeSupport e => Sys2Proof.Machine.execGetMessageTypeSupport e s
  | .gettid e => Sys2Proof.Machine.execGettid e s
  | .settid e tid => Sys2Proof.Machine.execSettid e tid s
  | .getpldmversion e pldmType => Sys2Proof.Machine.execGetpldmversion e pldmType s
  | .getpldmtypes e => Sys2Proof.Machine.execGetpldmtypes e s
  | .getpldmcommands e pldmType => Sys2Proof.Machine.execGetpldmcommands e pldmType s
  | .sensorReading e sensor => Sys2Proof.Machine.execSensorReading e sensor s
  | .seteventreceiver e receiver => Sys2Proof.Machine.execSeteventreceiver e receiver s
  | .moduleCap e watts => Sys2Proof.Machine.execModuleCap e watts s
  | .regionCap e region watts => Sys2Proof.Machine.execRegionCap e region watts s
  | .facilityRelease e => Sys2Proof.Machine.execFacilityRelease e s
  | .unitService e value => Sys2Proof.Machine.execUnitService e value s
  | .captureEffecter e => Sys2Proof.Machine.execCaptureEffecter e s
  | .requestupdate e => Sys2Proof.Machine.execRequestupdate e s
  | .firmwareImageVerify image => Sys2Proof.Machine.execFirmwareImageVerify image s
  | .activatefirmware e selfContained => Sys2Proof.Machine.execActivatefirmware e selfContained s
  | .extest => Sys2Proof.Machine.execExtest s
  | .samplePreload cells => Sys2Proof.Machine.execSamplePreload cells s
  | .clamp => Sys2Proof.Machine.execClamp s
  | .highz => Sys2Proof.Machine.execHighz s
  | .bypass code => Sys2Proof.Machine.execBypass code s
  | .nop g o => Sys2Proof.Machine.execNop g o s
  | .movi g o => Sys2Proof.Machine.execMovi g o s
  | .alu g o => Sys2Proof.Machine.execAlu g o s
  | .alui g o => Sys2Proof.Machine.execAlui g o s
  | .rdid g o => Sys2Proof.Machine.execRdid g o s
  | .br g o => Sys2Proof.Machine.execBr g o s
  | .jr g o => Sys2Proof.Machine.execJr g o s
  | .loop g o => Sys2Proof.Machine.execLoop g o s
  | .seed g o => Sys2Proof.Machine.execSeed g o s
  | .end_ g o => Sys2Proof.Machine.execEnd g o s
  | .waitc g o => Sys2Proof.Machine.execWaitc g o s
  | .waitf g o => Sys2Proof.Machine.execWaitf g o s
  | .notify g o => Sys2Proof.Machine.execNotify g o s
  | .waitn g o => Sys2Proof.Machine.execWaitn g o s
  | .ld g o e => Sys2Proof.Machine.execLd g o e s
  | .st g o => Sys2Proof.Machine.execSt g o s
  | .ldg g o => Sys2Proof.Machine.execLdg g o s
  | .stg g o => Sys2Proof.Machine.execStg g o s
  | .dmag g o => Sys2Proof.Machine.execDmag g o s
  | .dmap g o => Sys2Proof.Machine.execDmap g o s
  | .dmaf g o => Sys2Proof.Machine.execDmaf g o s
  | .dmaTransferComplete cluster slot => Sys2Proof.Machine.execDmaTransferComplete cluster slot s
  | .tfill g o => Sys2Proof.Machine.execTfill g o s
  | .mma g o => Sys2Proof.Machine.execMma g o s
  | .accld g o => Sys2Proof.Machine.execAccld g o s
  | .accst g o => Sys2Proof.Machine.execAccst g o s
  | .vbin g o => Sys2Proof.Machine.execVbin g o s
  | .vun g o => Sys2Proof.Machine.execVun g o s
  | .vscale g o => Sys2Proof.Machine.execVscale g o s
  | .vfma g o => Sys2Proof.Machine.execVfma g o s
  | .vred g o => Sys2Proof.Machine.execVred g o s
  | .vcvt g o => Sys2Proof.Machine.execVcvt g o s
  | .vcmp g o => Sys2Proof.Machine.execVcmp g o s
  | .vsel g o => Sys2Proof.Machine.execVsel g o s
  | .send g o => Sys2Proof.Machine.execSend g o s
  | .qrd g o => Sys2Proof.Machine.execQrd g o s
  | .acq g o => Sys2Proof.Machine.execAcq g o s
  | .rel g o => Sys2Proof.Machine.execRel g o s
  | .fence g o => Sys2Proof.Machine.execFence g o s
  | .atom g o => Sys2Proof.Machine.execAtom g o s
  | .tatom g o => Sys2Proof.Machine.execTatom g o s
  | .gather g o => Sys2Proof.Machine.execGather g o s
  | .scatter g o => Sys2Proof.Machine.execScatter g o s
  | .undefinedOpcode g => Sys2Proof.Machine.execUndefinedOpcode g s
  | .pllLossOfLock pll => Sys2Proof.Machine.execPllLossOfLock pll s
  | .configurationWrite w => Sys2Proof.Machine.execConfigurationWrite w s
  | .platformEventAcknowledgement e id => Sys2Proof.Machine.execPlatformEventAcknowledgement e id s
  | .mctpVendorMessage e => Sys2Proof.Machine.execMctpVendorMessage e s

end Sys2Proof.Machine
end

