-- ==== Sys2Proof/Machine/Step.lean ====
section
/-! DEFINITION. One step of the block: the command at the front of the queue. On an empty queue the device timestamp
moves on by one count (DESIGN CHOICE, log 1). -/

namespace Sys2Proof.Machine

/-- One SNS cycle with no command waiting (R82): the timestamp counts in every power state except OFF, and cluster DMA transfers go on
(R432). -/
def idle (s : State) : State := if s.power.phase = .off then s else s.progressAll.at (s.time + 1)

/-- The block takes the command at the front of its queue and runs it with the rest of the queue waiting. -/
def step (s : State) : Host.Outcome State Fault Refusal :=
  match s.pending with
  | [] => .next (idle s)
  | c :: rest => exec c { s with pending := rest }

/-- The command a table word spells, put at the front of the queue; the state unchanged where it spells none. -/
def State.withFetchWord (s : State) (nbits w : Nat) : State :=
  match decodeTableWord nbits w with
  | some c => { s with pending := c :: s.pending }
  | none => s

end Sys2Proof.Machine
end

