-- ==== Sys2Proof/Safety.lean ====
section
/-! DEFINITION. What counts as a safe run of the block (no command ends it), and the words the statements use: what a command
answers, what it sends, what it leaves alone, and the canonical form of the state. -/

namespace Sys2Proof.Machine

/-- A command runs: it answers a next state. -/
def Runs (i : Instr) (s : State) : Prop := ∃ t, exec i s = .next t

/-- A step answers a next state. -/
def Steps (s : State) : Prop := ∃ t, step s = .next t

/-- A command answers a next state of which `P` holds. -/
def Answers (i : Instr) (s : State) (P : State → Prop) : Prop := ∃ t, exec i s = .next t ∧ P t

/-! ### What stays -/

/-- The components of the state beside the registers, the messages sent, the functions and the model's own counters. -/
inductive Part where
  | pending
  | time
  | fuses
  | modulePos
  | flash
  | supply
  | fhalt
  | power
  | xings
  | tap
  | vesper
  | hwCause
  | clearing
  | pfConfig
  | vfs
  | regions
  | clusters
  | cores
  | slices
  | hbm
  | hreqs
  | chans
  | stops
  | net
  | mesh
  | edge
  | ringTurn
  | engineVf
  | ports
  | ctl
  | ceLogged
  deriving DecidableEq, Repr

/-- The component is the same in both states. -/
def Part.same (s t : State) : Part → Prop
  | .pending => t.pending = s.pending
  | .time => t.time = s.time
  | .fuses => t.fuses = s.fuses
  | .modulePos => t.modulePos = s.modulePos
  | .flash => t.flash = s.flash
  | .supply => t.supply = s.supply
  | .fhalt => t.fhalt = s.fhalt
  | .power => t.power = s.power
  | .xings => t.xings = s.xings
  | .tap => t.tap = s.tap
  | .vesper => t.vesper = s.vesper
  | .hwCause => t.hwCause = s.hwCause
  | .clearing => t.clearing = s.clearing
  | .pfConfig => t.pfConfig = s.pfConfig
  | .vfs => t.vfs = s.vfs
  | .regions => t.regions = s.regions
  | .clusters => t.clusters = s.clusters
  | .cores => t.cores = s.cores
  | .slices => t.slices = s.slices
  | .hbm => t.hbm = s.hbm
  | .hreqs => t.hreqs = s.hreqs
  | .chans => t.chans = s.chans
  | .stops => t.stops = s.stops
  | .net => t.net = s.net
  | .mesh => t.mesh = s.mesh
  | .edge => t.edge = s.edge
  | .ringTurn => t.ringTurn = s.ringTurn
  | .engineVf => t.engineVf = s.engineVf
  | .ports => t.ports = s.ports
  | .ctl => t.ctl = s.ctl
  | .ceLogged => t.ceLogged = s.ceLogged

/-- Every register that is not among `regs` holds the word it held, and every component that is not among `parts` is the same.
INT_PF_STATUS is left out: it follows its causes (R221). -/
def Frame (s t : State) (regs : List Nat) (parts : List Part) : Prop :=
  (∀ off cold, off ≠ R.INT_PF_STATUS → off ∉ regs → t.word off cold = s.word off cold) ∧
    ∀ p, p ∉ parts → p.same s t

/-- The other fields of a register whose field `f` changes: every bit of its word outside `f`. -/
def OtherBits (s t : State) (f : Fld) : Prop :=
  ∀ i, i < 32 → i < f.lo ∨ f.lo + f.width ≤ i → (t.word f.off f.cold).testBit i = (s.word f.off f.cold).testBit i

/-- What the configuration of function i holds beside its pending bits, which follow INT_PF_STATUS too (R225). -/
def SameFn (s t : State) (i : Nat) : Prop := { t.fn i with pendingBits := 0 } = { s.fn i with pendingBits := 0 }

/-- The messages `m` leave the module in order; after them no message but MSI-X messages of the PF (R221). -/
def Sent (s t : State) (m : List Out) : Prop :=
  ∃ l, t.out = s.out ++ m ++ l ∧ ∀ x ∈ l, ∃ v a d, x = .msix 0 v a d

/-! ### Host writes -/

/-- The module runs in M0 or M1, sleeps neither now nor soon, holds no write back, and the PF decodes its BAR. -/
abbrev State.Serves (s : State) : Prop :=
  s.power.phase = .run ∧ s.fld F.PWR_STATE_STATE < 2 ∧ s.fld F.PWR_STATE_M2_ENTERING = 0 ∧ s.power.heldWrites = [] ∧
    s.power.wakeLatched = none ∧ (s.fn 0).memSpace = true

/-- A write of one whole DW by the PF, not poisoned, that writes 0 to the reserved bits of the register at `off`. -/
abbrev PlainWrite (w : DwWrite) (off : Nat) : Prop :=
  w.fn = .pf ∧ w.be = 0xF ∧ w.poisoned = false ∧
    w.data.toNat &&& (2 ^ 32 - 1 - ((regAt off).map fun d => d.mask fun _ => true).getD 0) = 0

/-! ### Tile operations -/

/-- What a core issues: the core, the opcode, its fields, and the checks made before it has any effect. -/
structure Op where
  core : Fin 1024
  opcode : BitVec 8
  fields : OpFields
  checks : Nat → Core → List Nat

/-- The operation of the operation set that a command is; none of every other command. -/
def opOf (s : State) : Instr → Option Op
  | .nop g o => some ⟨g, 0x00, o, nopChecks o⟩
  | .movi g o => some ⟨g, 0x01, o, moviChecks o⟩
  | .alu g o => some ⟨g, 0x02, o, aluChecks o⟩
  | .alui g o => some ⟨g, 0x03, o, aluiChecks o⟩
  | .rdid g o => some ⟨g, 0x04, o, rdidChecks s g o⟩
  | .br g o => some ⟨g, 0x05, o, brChecks o⟩
  | .jr g o => some ⟨g, 0x06, o, jrChecks o⟩
  | .loop g o => some ⟨g, 0x07, o, loopChecks o⟩
  | .seed g o => some ⟨g, 0x08, o, seedChecks o⟩
  | .end_ g o => some ⟨g, 0x09, o, endChecks o⟩
  | .waitc g o => some ⟨g, 0x0A, o, waitcChecks o⟩
  | .waitf g o => some ⟨g, 0x0B, o, waitfChecks o⟩
  | .notify g o => some ⟨g, 0x0C, o, notifyChecks s o⟩
  | .waitn g o => some ⟨g, 0x0D, o, waitnChecks o⟩
  | .ld g o _ => some ⟨g, 0x10, o, ldChecks s o⟩
  | .st g o => some ⟨g, 0x11, o, stChecks s o⟩
  | .ldg g o => some ⟨g, 0x12, o, ldgChecks s o⟩
  | .stg g o => some ⟨g, 0x13, o, stgChecks s o⟩
  | .dmag g o => some ⟨g, 0x14, o, dmagChecks s o⟩
  | .dmap g o => some ⟨g, 0x15, o, dmapChecks s o⟩
  | .dmaf g o => some ⟨g, 0x16, o, dmafChecks s o⟩
  | .tfill g o => some ⟨g, 0x17, o, tfillChecks o⟩
  | .mma g o => some ⟨g, 0x20, o, mmaChecks o⟩
  | .accld g o => some ⟨g, 0x21, o, accldChecks o⟩
  | .accst g o => some ⟨g, 0x22, o, accstChecks o⟩
  | .vbin g o => some ⟨g, 0x30, o, vbinChecks o⟩
  | .vun g o => some ⟨g, 0x31, o, vunChecks o⟩
  | .vscale g o => some ⟨g, 0x32, o, vscaleChecks o⟩
  | .vfma g o => some ⟨g, 0x33, o, vfmaChecks o⟩
  | .vred g o => some ⟨g, 0x34, o, vredChecks o⟩
  | .vcvt g o => some ⟨g, 0x35, o, vcvtChecks o⟩
  | .vcmp g o => some ⟨g, 0x36, o, vcmpChecks o⟩
  | .vsel g o => some ⟨g, 0x37, o, vselChecks o⟩
  | .send g o => some ⟨g, 0x40, o, sendChecks s g o⟩
  | .qrd g o => some ⟨g, 0x41, o, qrdChecks s g o⟩
  | .acq g o => some ⟨g, 0x50, o, acqChecks o⟩
  | .rel g o => some ⟨g, 0x51, o, relChecks o⟩
  | .fence g o => some ⟨g, 0x52, o, fenceChecks o⟩
  | .atom g o => some ⟨g, 0x60, o, atomChecks s o⟩
  | .tatom g o => some ⟨g, 0x61, o, tatomChecks s o⟩
  | .gather g o => some ⟨g, 0x62, o, gatherChecks s o⟩
  | .scatter g o => some ⟨g, 0x63, o, scatterChecks s o⟩
  | _ => none

/-- A core of region n stands at the operation, free to issue it. -/
abbrev AtOp (i : Instr) (s : State) (n : Nat) (p : Op) : Prop :=
  opOf s i = some p ∧ s.atOp p.core p.opcode p.fields = true ∧ s.regionOfCore p.core = some n

/-- A core of region n stands at the operation, free to issue it, and none of its checks fails. -/
def Ready (i : Instr) (s : State) (n : Nat) : Prop :=
  ∃ p, AtOp i s n p ∧ lowest (p.checks n (s.core p.core)) = none

/-- The core past the operation at its program counter: it waits for nothing and stands at the next word. -/
def Core.past (c : Core) : Core := { c with wait := .none, pc := c.pc + 8 }

/-- Core g becomes `c`; every other core, every register and every component of the module stays, and nothing is sent. -/
def OneCore (s t : State) (g : Nat) (c : Core) : Prop :=
  t.core g = c ∧ (∀ h, h ≠ g → t.core h = s.core h) ∧ Frame s t [] [.cores] ∧ Sent s t []

/-- Core g becomes `c` and cluster `k` becomes `m`; nothing else changes. -/
def OneCoreCluster (s t : State) (g : Nat) (c : Core) (k : Nat) (m : Cluster) : Prop :=
  t.core g = c ∧ (∀ h, h ≠ g → t.core h = s.core h) ∧ t.cluster k = m ∧ (∀ h, h ≠ k → t.cluster h = s.cluster h) ∧
    Frame s t [] [.cores, .clusters] ∧ Sent s t []

/-! ### Canonical form -/

/-- Byte stores and sparse maps list their entries once, by rising index. -/
def PMem.wf (m : PMem) : Bool := smSorted m.bytes && decide (m.poison.Pairwise (· < ·))

/-- The registers are listed once each, by rising offset, with 32-bit words (R6); HBM is in its canonical form; the device
timestamp has 48 bits (R82). -/
def State.Canonical (s : State) : Prop :=
  smSorted s.regs = true ∧ (∀ e ∈ s.regs, e.2 < 2 ^ 32) ∧ s.hbm.wf = true ∧ s.time < 2 ^ 48

/-- Each bit of INT_PF_STATUS reads 1 exactly while a cause of its vector holds (R221, R224). -/
def State.InLine (s : State) : Prop := ∀ v, v < 8 → s.bitAt F.INT_PF_STATUS_STATUS v = s.pfCause v

end Sys2Proof.Machine
end

