-- ==== Sys2Proof/Certificates/Slice0/Obligations.lean ====
section
/-! DEFINITION. The statements about the block, from the spec's numbered rules. -/

open Sys2Proof Sys2Proof.Machine

/-! ### The queue (the block's own step; log 1) -/

/-- The block takes the command at the front of its queue and runs it with the rest of the queue waiting. -/
def Obligations.StepRunsTheFrontCommand : Prop :=
  ∀ (c : Instr) (rest : List Instr) (s : State), s.pending = c :: rest → step s = exec c { s with pending := rest }

/-- MODEL'S CHOICE (log 1): with no command waiting, one SNS cycle passes: the device timestamp counts one, modulo 2^48 (R82), and
cluster DMA transfers go on (R432, log 29), none of them leaving its queue; nothing else changes, and without a queued transfer
nothing at all. In OFF nothing counts. -/
def Obligations.EmptyQueueCountsOneTick : Prop :=
  ∀ s : State, s.pending = [] →
    (s.power.phase = .off → step s = .next s) ∧
    (s.power.phase ≠ .off → ∃ t, step s = .next t ∧ t.time = (s.time + 1) % 2 ^ 48 ∧ t.regs = s.regs ∧ t.out = s.out ∧
      (∀ c, (t.cluster c).dma.map Transfer.id = (s.cluster c).dma.map Transfer.id ∧ (t.cluster c).ro = (s.cluster c).ro) ∧
      ((∀ c, (s.cluster c).dma = []) → t.clusters = s.clusters) ∧ Frame s t [] [.time, .clusters] ∧ ∀ i, SameFn s t i)

/-! ### Functions and their configuration (05) -/

/-- The configuration of function i is as before but for what `f` does to it. -/
def FnBecomes (s t : State) (i : Nat) (f : FnState → FnState) : Prop :=
  { t.fn i with pendingBits := 0 } = { f (s.fn i) with pendingBits := 0 } ∧ ∀ j, j ≠ i → SameFn s t j

/-- Events of the PCIe functions and configuration writes complete (R185, R205, R208, R209, R213, R215, R228, R232, R238, R891, R892): an
unsupported request is answered and shows in the function's AER status alone; D3hot is entered and left; PERST# is released; the link
settings, the BARs, the enables of a function, ACS control and the Bus Master Enables take what is written; a write of System Page Size
other than 4 KiB, or of NumVFs while VF Enable is 1, changes nothing but SRIOV_CFG_ERR; NumVFs is taken while VF Enable is 0; setting
VF Enable makes NumVFs VFs, none of them a bus master; before the PCIe block is released a configuration request is answered with
Request Retry Status. The bits of AER, ACS control and of the BARs are PRESUMED, from the PCIe specification (log 151). -/
def Obligations.FunctionCommandsComplete : Prop :=
  (∀ (fn : Fn) (s : State), Answers (.unsupportedRequest fn) s fun t =>
    Sent s t [.unsupported (fnIndex fn)] ∧ Frame s t [] [] ∧
      FnBecomes s t (fnIndex fn) fun x => { x with aer := x.aer.unsupported }) ∧
  (∀ s : State, s.pcieReleased = true → Answers .pfD3hotEntry s fun t =>
    t.fld F.HOST_STATUS_PF_D3HOT = 1 ∧ OtherBits s t F.HOST_STATUS_PF_D3HOT ∧ Frame s t [R.HOST_STATUS] [] ∧
      ∀ i, SameFn s t i) ∧
  (∀ s : State, s.fld F.HOST_STATUS_PF_D3HOT = 1 → Answers .pfD0Entry s fun t =>
    t.fld F.HOST_STATUS_PF_D3HOT = 0 ∧ OtherBits s t F.HOST_STATUS_PF_D3HOT ∧ Frame s t [R.HOST_STATUS] [.vfs] ∧
      ∀ i, SameFn s t i) ∧
  (∀ (vf : Fin 32) (on : Bool) (s : State), s.vfExists vf = true →
    Answers (.vfBmeChange vf on) s fun t =>
      t.bitAt F.HOST_VF_BME_BME vf = on ∧ (∀ i, i ≠ vf.val → t.bitAt F.HOST_VF_BME_BME i = s.bitAt F.HOST_VF_BME_BME i) ∧
        Frame s t [R.HOST_VF_BME] [.vfs] ∧ ∀ i, SameFn s t i) ∧
  (∀ s : State, Answers .perstDeassert s fun t => t.power = { s.power with perst := false } ∧ Frame s t [] [.power]) ∧
  (∀ (b : Bool) (s : State), s.pcieReleased = true → Answers (.configurationWrite (.aspmL12 b)) s fun t =>
    t.fld F.HOST_STATUS_L1_2_ENABLED = bit b ∧ OtherBits s t F.HOST_STATUS_L1_2_ENABLED ∧ Frame s t [R.HOST_STATUS] []) ∧
  (∀ (b : Bool) (s : State), s.pcieReleased = true → Answers (.configurationWrite (.busMaster b)) s fun t =>
    t.busMaster 0 = b ∧ Frame s t [] [] ∧ FnBecomes s t 0 fun x => { x with busMaster := b }) ∧
  (∀ (c : CfgWrite) (f : PfConfig → PfConfig) (s : State), s.pcieReleased = true →
    (∃ v, c = .completionTimeout v ∧ f = fun x => { x with completionTimeout := v }) ∨
      (∃ v, c = .deviceControl v ∧ f = fun x => { x with dev := v }) ∨
      (∃ b, c = .aspmL11 b ∧ f = fun x => { x with aspmL11 := b }) ∨
      (∃ g b, c = .ecrc g b ∧ f = fun x => { x with ecrcGenerate := g, ecrcCheck := b }) ∨
      (∃ b, c = .ariHierarchy b ∧ f = fun x => { x with ariHierarchy := b }) ∨
      (∃ v : Word, c = .bar false false v ∧ f = fun x => { x with bar0 := v &&& 0xFF000000 }) ∨
      (∃ v : Word, c = .bar false true v ∧ f = fun x => { x with bar1 := v }) ∨
      (∃ v : Word, c = .bar true false v ∧ f = fun x => { x with vfBar0 := v &&& 0xFFFE0000 }) ∨
      (∃ v : Word, c = .bar true true v ∧ f = fun x => { x with vfBar1 := v }) →
    Answers (.configurationWrite c) s fun t =>
      t.pfConfig = f s.pfConfig ∧ Frame s t [] [.pfConfig] ∧ ∀ i, SameFn s t i) ∧
  (∀ (fn : Fn) (c : CfgWrite) (f : FnState → FnState) (s : State), s.pcieReleased = true →
    (∀ n, fn = .vf n → s.vfExists n = true) →
    (∃ b, c = .memorySpace fn b ∧ f = fun x => { x with memSpace := b }) ∨
      (∃ b, c = .msixEnable fn b ∧ f = fun x => { x with msixEnable := b }) ∨
      (∃ b, c = .msixFunctionMask fn b ∧ f = fun x => { x with msixMask := b }) ∨
      (∃ r v, c = .aer fn r v ∧ f = fun x => { x with aer := x.aer.put r v }) ∨
      (∃ v : BitVec 16, c = .acsControl fn v ∧ f = fun x => { x with acs := v &&& 0x4C }) →
    Answers (.configurationWrite c) s fun t => FnBecomes s t (fnIndex fn) f ∧ Frame s t [] []) ∧
  (∀ (c : CfgWrite) (s : State), s.power.phase = .bringUp → s.pcieReleased = false → s.power.perst = false →
    Answers (.configurationWrite c) s fun t => Sent s t [.requestRetry] ∧ Frame s t [] [] ∧ ∀ i, SameFn s t i) ∧
  (∀ (v : Nat) (s : State), s.pcieReleased = true → v ≠ 4096 → Answers (.sriovCfgWriteIgnored (.systemPageSize v)) s fun t =>
    t.fld F.HOST_ERR_SRIOV_CFG_ERR = 1 ∧ OtherBits s t F.HOST_ERR_SRIOV_CFG_ERR ∧ Frame s t [R.HOST_ERR] []) ∧
  (∀ (n : Nat) (s : State), s.pcieReleased = true → s.fld F.HOST_STATUS_VF_ENABLE = 1 → n ≠ s.fld F.HOST_STATUS_NUM_VFS →
    Answers (.sriovCfgWriteIgnored (.numVfs n)) s fun t =>
      t.fld F.HOST_ERR_SRIOV_CFG_ERR = 1 ∧ OtherBits s t F.HOST_ERR_SRIOV_CFG_ERR ∧ Frame s t [R.HOST_ERR] []) ∧
  (∀ (n : Nat) (s : State), s.pcieReleased = true → s.fld F.HOST_STATUS_VF_ENABLE = 0 → n ≤ 32 →
    Answers (.configurationWrite (.numVfs n)) s fun t =>
      t.fld F.HOST_STATUS_NUM_VFS = n ∧ OtherBits s t F.HOST_STATUS_NUM_VFS ∧ Frame s t [R.HOST_STATUS] []) ∧
  (∀ s : State, s.pcieReleased = true → s.fld F.HOST_STATUS_VF_ENABLE = 0 → Answers (.configurationWrite .vfEnable) s fun t =>
    t.fld F.HOST_STATUS_VF_ENABLE = 1 ∧ t.fld F.HOST_STATUS_NUM_VFS = s.fld F.HOST_STATUS_NUM_VFS ∧
      t.fld F.HOST_VF_BME_BME = 0 ∧ Frame s t [R.HOST_STATUS, R.HOST_VF_BME] [])


/-! ### Register writes (05) -/

/-- The registers a write of which does more than their fields tell: their own statements say what. -/
def writeActs : List Nat :=
  [R.CLK_TILE_FREQ, R.CLK_SHED, R.CLK_ERR, R.PWR_CAP, R.PWR_FHALT_CTRL, R.RST_CTRL, R.INT_PF_ENABLE, R.RGN_CMD 0,
    R.RGN_RECT 0, R.HL_CTRL 0, R.VSP_MBOX_CMD, R.VSP_MBOX_STATUS, R.RING_ENABLE 0]

/-- A whole DW that no cause of R265 drops or refuses (R250): RW, RWS and RWQ bits take the data; W1C bits are cleared where the data
is 1; every other bit of the register, and everything else, stays. -/
def Obligations.RegisterWriteFollowsAccessTypes : Prop :=
  ∀ (s : State) (w : DwWrite) (off : Nat) (d : RegDesc), s.Serves → PlainWrite w off → off < 2 ^ 24 → off % 4 = 0 →
    regAt off = some d → landPf off = .reg off → d.mask Access.writable ≠ 0 → d.base ∉ writeActs →
    s.wholeRefusal .pf d.base off w.data.toNat = none → badFields d.base off w.data.toNat = [] →
    Answers (.registerWrite (BitVec.ofNat 24 off) w) s fun t =>
      (∀ i, i < 32 → (t.word off d.cold).testBit i =
        ((if (d.mask Access.keeps).testBit i then w.data.getLsbD i else (s.word off d.cold).testBit i) &&
          !(w.data.getLsbD i && (d.mask fun a => a = .w1c).testBit i))) ∧
      Frame s t [off] [] ∧ ∀ i, SameFn s t i

/-- A DW of the PF that is dropped (poisoned, R237; with one, two or three byte enables, R251; at a reserved offset, R265) changes no
register of the map but the access log, which counts it and holds its cause, offset, byte enables, data and time (R264); a DW
without byte enables has no effect and is not logged (R251); four bytes that do not begin on a 4-byte boundary are two DWs with
partial byte enables, both dropped (R255). -/
def Obligations.DroppedWritesAreLogged : Prop :=
  (∀ (s : State) (w : DwWrite) (off : BitVec 24) (cause : Nat), s.Serves → w.fn = .pf → w.be ≠ 0 → off.toNat % 4 = 0 →
    (cause = 10 ∧ w.poisoned = true ∨ cause = 1 ∧ w.poisoned = false ∧ w.be ≠ 0xF ∨
      cause = 3 ∧ w.poisoned = false ∧ w.be = 0xF ∧ landPf off.toNat = .reserved) →
    Answers (.registerWrite off w) s fun t =>
      let k := s.fld F.HOST_ACCESS_TOTAL_TOTAL % 16
      t.fld F.HOST_ACCESS_TOTAL_TOTAL = (s.fld F.HOST_ACCESS_TOTAL_TOTAL + 1) % 2 ^ 32 ∧
      t.fld (F.HOST_ACCESS_LOG_W0_CAUSE k) = cause ∧ t.fld (F.HOST_ACCESS_LOG_W0_OFFSET k) = off.toNat / 4 ∧
      t.fld (F.HOST_ACCESS_LOG_W1_IS_VF k) = 0 ∧ t.fld (F.HOST_ACCESS_LOG_W1_BE k) = w.be.toNat ∧
      t.fld (F.HOST_ACCESS_LOG_W2_DATA k) = w.data.toNat ∧ t.fld (F.HOST_ACCESS_LOG_W3_TIME k) = s.time % 2 ^ 32 ∧
      t.fld F.HOST_ERR_POISON_WRITE = (if w.poisoned then 1 else s.fld F.HOST_ERR_POISON_WRITE) ∧
      Frame s t [R.HOST_ERR, R.HOST_ACCESS_TOTAL, R.HOST_ACCESS_LOG_W0 k, R.HOST_ACCESS_LOG_W1 k, R.HOST_ACCESS_LOG_W2 k,
        R.HOST_ACCESS_LOG_W3 k] []) ∧
  (∀ (s : State) (w : DwWrite) (off : BitVec 24), s.Serves → w.fn = .pf → w.be = 0 → w.poisoned = false →
    Answers (.registerWrite off w) s fun t => Frame s t [] [] ∧ ∀ i, SameFn s t i) ∧
  (∀ (s : State) (w : DwWrite) (off : BitVec 24), s.Serves → w.fn = .pf → w.be = 0xF → w.poisoned = false → off.toNat % 4 ≠ 0 →
    off.toNat < 0xFFFFFC → Answers (.registerWrite off w) s fun t =>
      let n := s.fld F.HOST_ACCESS_TOTAL_TOTAL
      t.fld F.HOST_ACCESS_TOTAL_TOTAL = (n + 2) % 2 ^ 32 ∧
      t.fld (F.HOST_ACCESS_LOG_W0_CAUSE (n % 16)) = 1 ∧ t.fld (F.HOST_ACCESS_LOG_W0_OFFSET (n % 16)) = off.toNat / 4 ∧
      t.fld (F.HOST_ACCESS_LOG_W0_CAUSE ((n + 1) % 16)) = 1 ∧
      t.fld (F.HOST_ACCESS_LOG_W0_OFFSET ((n + 1) % 16)) = off.toNat / 4 + 1 ∧
      Frame s t (R.HOST_ACCESS_TOTAL :: [n % 16, (n + 1) % 16].flatMap fun k => [R.HOST_ACCESS_LOG_W0 k, R.HOST_ACCESS_LOG_W1 k,
        R.HOST_ACCESS_LOG_W2 k, R.HOST_ACCESS_LOG_W3 k]) [])

/-- Writes of control registers and of MSI-X tables complete: the enables of the PF vectors (R223), FORCE_SHED (R110), the frequency
ceiling (R64), the channel watermarks (R728), the key slots (R510), the module's link identity (R769); a DW of a vector's table entry
is taken, and a pending message leaves once nothing holds it (R222, R225, R227, R890). -/
def Obligations.ControlWritesComplete : Prop :=
  (∀ (s : State) (w : DwWrite), s.Serves → PlainWrite w R.INT_PF_ENABLE → Answers (.intPfEnableWrite w) s fun t =>
    t.fld F.INT_PF_ENABLE_ENABLE = bitsOf w.data.toNat 0 8 ∧ Frame s t [R.INT_PF_ENABLE] []) ∧
  (∀ (s : State) (w : DwWrite), s.Serves → PlainWrite w R.CLK_SHED → Answers (.forceShedWrite w) s fun t =>
    t.fld F.CLK_SHED_FORCE_SHED = bitsOf w.data.toNat 0 1 ∧ t.fld F.PWR_STATUS_SHED_REQ = bit t.shedRequest ∧
      t.fld F.CLK_SHED_SHED_COUNT = s.fld F.CLK_SHED_SHED_COUNT ∧ Frame s t [R.CLK_SHED, R.PWR_STATUS] [.supply]) ∧
  (∀ (s : State) (w : DwWrite), s.Serves → PlainWrite w R.CLK_TILE_FREQ → 0x14 ≤ bitsOf w.data.toNat 0 7 →
    bitsOf w.data.toNat 0 7 ≤ 0x50 → Answers (.ceilingMultWrite w) s fun t =>
      let goal := if s.on F.CLK_STATUS_SLEWING then s.power.slewTo else s.fld F.CLK_TILE_FREQ_IN_FORCE_MULT
      t.fld F.CLK_TILE_FREQ_CEILING_MULT = bitsOf w.data.toNat 0 7 ∧
        t.targetMult = min (bitsOf w.data.toNat 0 7) (s.fld F.CLK_TILE_FREQ_VESPER_MULT) ∧
        (s.inForceMult ≤ 0x50 → t.inForceMult = s.inForceMult) ∧
        (s.power.halves = true → t.targetMult ≠ goal →
          t.fld F.CLK_STATUS_SLEWING = 1 ∧ t.power.slewTo = t.targetMult ∧ t.power.slewSince = s.time) ∧
        (t.targetMult = goal → t.power = s.power ∧ t.fld F.CLK_STATUS_SLEWING = s.fld F.CLK_STATUS_SLEWING) ∧
        Frame s t [R.CLK_TILE_FREQ, R.CLK_STATUS] [.power]) ∧
  (∀ (s : State) (w : DwWrite) (k : Fin 8), s.Serves → PlainWrite w (R.HBM_WATERMARK k) → 8 ≤ bitsOf w.data.toNat 0 7 →
    bitsOf w.data.toNat 0 7 < bitsOf w.data.toNat 8 7 → bitsOf w.data.toNat 8 7 ≤ 62 →
    Answers (.hbmWatermarkWrite k w) s fun t =>
      t.fld (F.HBM_WATERMARK_HIGH k) = bitsOf w.data.toNat 0 7 ∧ t.fld (F.HBM_WATERMARK_CRITICAL k) = bitsOf w.data.toNat 8 7 ∧
        Frame s t [R.HBM_WATERMARK k] []) ∧
  (∀ (s : State) (w : DwWrite), s.Serves → PlainWrite w R.SCH_KEY_VALID →
    (∀ i, i < 4 → s.bitAt F.SCH_KEY_VALID_VALID i = true → w.data.getLsbD i = false → s.keyUsed i = false) →
    Answers (.keyValidWrite w) s fun t =>
      t.fld F.SCH_KEY_VALID_VALID = bitsOf w.data.toNat 0 4 ∧ Frame s t [R.SCH_KEY_VALID] []) ∧
  (∀ (s : State) (w : DwWrite), s.Serves → PlainWrite w R.HL_MODULE → (∀ p, p < 4 → s.linkState p = 0) →
    Answers (.hlModuleWrite w) s fun t =>
      t.fld F.HL_MODULE_MODULE_ID = bitsOf w.data.toNat 0 4 ∧ t.fld F.HL_MODULE_FABRIC_ID = bitsOf w.data.toNat 16 12 ∧
        Frame s t [R.HL_MODULE] []) ∧
  (∀ (s : State) (w : DwWrite) (v : Fin 8), s.Serves → w.be = 0xF → w.poisoned = false →
    Answers (.msixTableWrite .pf v 2 w) s fun t =>
      (smGet (t.fn 0).table {} v).data = w.data ∧
        (smGet (t.fn 0).table {} v).addrHi = (smGet (s.fn 0).table {} v).addrHi ∧
        (∀ u, u ≠ v.val → smGet (t.fn 0).table {} u = smGet (s.fn 0).table {} u) ∧ Frame s t [] []) ∧
  (∀ (s : State) (w : DwWrite) (v : Fin 8), s.Serves → w.be = 0xF → w.poisoned = false →
    Answers (.msixTableWrite .pf v 3 w) s fun t =>
      (smGet (t.fn 0).table {} v).masked = w.data.getLsbD 0 ∧
        (∀ u, u ≠ v.val → smGet (t.fn 0).table {} u = smGet (s.fn 0).table {} u) ∧ Frame s t [] []) ∧
  (∀ (s : State) (fn : Fn) (v : Fin 8), (s.fn (fnIndex fn)).pendingBits.testBit v = true →
    s.msixHeld (fnIndex fn) v = false → Answers (.msixPendingSend fn v) s fun t =>
      Sent s t [msixMessage (fnIndex fn) v (smGet (s.fn (fnIndex fn)).table {} v)] ∧
        (fn ≠ .pf → (t.fn (fnIndex fn)).pendingBits.testBit v = false) ∧ Frame s t [] [] ∧ ∀ i, SameFn s t i)


/-! ### Resets of the module (04) -/

/-- What a warm reset event leaves at once while the module operates (R172, R173, R180): READY reads 0, the sequence is due, the
event is counted and its cause kept; nothing of the data path is left but the HBM, and the regions that were not FREE are
RESETTING. -/
def warmStarted (s t : State) (cause : Fld) : Prop :=
  t.power.phase = .warmReset ∧ t.power.warmDue = true ∧ t.fld F.RST_BOOT_STATUS_READY = 0 ∧ t.fld cause = 1 ∧
    t.fld F.RST_CAUSE_WARM_COUNT = min (s.fld F.RST_CAUSE_WARM_COUNT + 1) 0xFFFF ∧
    t.power.keepHbm = s.on F.RST_CTRL_WARM_KEEP_HBM ∧ t.net = [] ∧ t.cores = [] ∧ t.hbm = s.hbm ∧ t.flash = s.flash ∧
    ∀ n, n < 32 → t.rgnState n = if s.rgnState n = rFREE then rFREE else rRESETTING

/-- Resets of the module. The events that start a warm reset: PERST# asserted, a hot reset, an FLR of the PF, which return every configuration space to its
reset values; and RST_CTRL.WARM with the key, which keeps them (R172, R175, R204, R212). COLD
with the key returns every register and everything else to the state after a cold reset, but for the flash and the fuses (R181,
R182); WARM_KEEP_HBM needs no key (R204). -/
def Obligations.ModuleResetsComplete : Prop :=
  (∀ s : State, s.power.phase = .run → s.power.perst = false → Answers .perstAssert s fun t =>
    warmStarted s t F.RST_CAUSE_PERST ∧ t.power.perst = true ∧ ∀ i, { t.fn i with pendingBits := 0 } = ({} : FnState)) ∧
  (∀ s : State, s.power.phase = .run → s.fld F.HOST_STATUS_WIDTH ≠ 0 → Answers .hotReset s fun t =>
    warmStarted s t F.RST_CAUSE_HOT_RESET ∧ t.fld F.HOST_STATUS_WIDTH = 0 ∧
      ∀ i, { t.fn i with pendingBits := 0 } = ({} : FnState)) ∧
  (∀ s : State, s.power.phase = .run → Answers .flrPf s fun t =>
    warmStarted s t F.RST_CAUSE_PF_FLR ∧ t.fld F.HOST_STATUS_WIDTH = s.fld F.HOST_STATUS_WIDTH ∧
      ∀ i, { t.fn i with pendingBits := 0 } = ({} : FnState)) ∧
  (∀ (s : State) (w : DwWrite), s.Serves → PlainWrite w R.RST_CTRL → bitsOf w.data.toNat 16 16 = 0xA5C3 →
    w.data.getLsbD 0 = true → w.data.getLsbD 1 = false → s.on F.RST_CTRL_WARM_KEEP_HBM = w.data.getLsbD 8 →
    Answers (.warm w) s fun t => warmStarted s t F.RST_CAUSE_WARM_CMD ∧ ∀ i, SameFn s t i) ∧
  (∀ (s : State) (w : DwWrite), s.Serves → PlainWrite w R.RST_CTRL → bitsOf w.data.toNat 16 16 = 0xA5C3 →
    w.data.getLsbD 0 = false → w.data.getLsbD 1 = true → Answers (.cold w) s fun t =>
      t.flash = s.flash ∧ t.fuses = s.fuses ∧ t.power.phase = .off ∧ t.power.coldCause = .command ∧ t.time = 0 ∧ t.hbm = {} ∧
        Frame State.reset t [] [.pending, .fuses, .flash, .power, .tap]) ∧
  (∀ (s : State) (w : DwWrite), s.Serves → PlainWrite w R.RST_CTRL → w.data.getLsbD 0 = false → w.data.getLsbD 1 = false →
    Answers (.warmKeepHbmUpdate w) s fun t =>
      t.fld F.RST_CTRL_WARM_KEEP_HBM = bitsOf w.data.toNat 8 1 ∧ Frame s t [R.RST_CTRL] [])


/-! ### Region commands (07) -/

/-- The registers that show which slices and islands a region holds (R325, R326, R628). -/
def rectRegs (n : Nat) : List Nat :=
  [R.RGN_SLICE_MASK_LO n, R.RGN_SLICE_MASK_HI n, R.RGN_ISLAND_MASK n] ++ (List.range 64).map fun i => R.MSL_STATE i

/-- RGN_CMD of the PF (R334, R338, R347, R353, R135): CONFIGURE of a FREE region, COMMIT that passes every check, RESET and RELEASE
of a region in service, RELEASE in CONFIGURING; and a valid rectangle (R327). -/
def Obligations.RegionCommandsComplete : Prop :=
  (∀ (s : State) (n : Fin 32) (w : DwWrite), s.Serves → PlainWrite w (R.RGN_CMD n) → bitsOf w.data.toNat 0 4 = 1 →
    s.vfExists n = true → s.rgnState n = rFREE → Answers (.configure n w) s fun t =>
      t.rgnState n = rCONFIGURING ∧ t.fld (F.PWR_RGN_ENERGY_LO_VALUE n) = 0 ∧ t.fld (F.PWR_RGN_ENERGY_HI_VALUE n) = 0 ∧
        Frame s t ([R.RGN_CMD n, R.RGN_STATE n, R.PWR_RGN_ENERGY_LO n, R.PWR_RGN_ENERGY_HI n] ++ rectRegs n) []) ∧
  (∀ (s : State) (n : Fin 32) (w : DwWrite), s.Serves → PlainWrite w (R.RGN_CMD n) → bitsOf w.data.toNat 0 4 = 2 →
    s.vfExists n = true → s.rgnState n = rCONFIGURING → s.commitCode n = 0 → Answers (.commit n w) s fun t =>
      t.rgnState n = rREADY ∧ (∀ m, m < 32 → m ≠ n.val → t.rgnState m = s.rgnState m) ∧ t.hbm = s.hbm ∧ t.cores = s.cores ∧
        t.vfs = s.vfs) ∧
  (∀ (s : State) (n : Fin 32) (w : DwWrite), s.Serves → PlainWrite w (R.RGN_CMD n) → bitsOf w.data.toNat 0 4 = 3 →
    2 ≤ s.rgnState n → (s.rgn n).reset = none → (s.rgn n).faultStop = false → (s.rgn n).clearing = false →
    Answers (.reset n w) s fun t =>
      t.rgnState n = rDRAINING ∧ t.fld (F.RGN_COUNTS_RESET_COUNT n) = min (s.fld (F.RGN_COUNTS_RESET_COUNT n) + 1) 0xFFFF ∧
        (t.rgn n).reset = some { why := .command, toFree := false, start := s.time } ∧
        Frame s t [R.RGN_CMD n, R.RGN_STATE n, R.RGN_COUNTS n] [.regions, .cores]) ∧
  (∀ (s : State) (n : Fin 32) (w : DwWrite), s.Serves → PlainWrite w (R.RGN_CMD n) → bitsOf w.data.toNat 0 4 = 4 →
    2 ≤ s.rgnState n → (s.rgn n).reset = none → (s.rgn n).faultStop = false → (s.rgn n).clearing = false →
    Answers (.release n w) s fun t =>
      t.rgnState n = rDRAINING ∧ t.fld (F.RGN_STATE_RELEASING n) = 1 ∧
        (t.rgn n).reset = some { why := .command, toFree := true, start := s.time } ∧
        Frame s t [R.RGN_CMD n, R.RGN_STATE n, R.RGN_COUNTS n] [.regions, .cores]) ∧
  (∀ (s : State) (n : Fin 32) (w : DwWrite), s.Serves → PlainWrite w (R.RGN_CMD n) → bitsOf w.data.toNat 0 4 = 4 →
    s.rgnState n = rCONFIGURING → Answers (.release n w) s fun t =>
      t.rgnState n = rFREE ∧ t.fld (F.RGN_RECT_X1 n) = 0 ∧ (∀ m, m < 32 → m ≠ n.val → t.rgnState m = s.rgnState m)) ∧
  (∀ (s : State) (n : Fin 32) (w : DwWrite), s.Serves → PlainWrite w (R.RGN_RECT n) → s.vfExists n = true →
    s.rgnState n = rCONFIGURING → s.rectBad n w.data.toNat = false → Answers (.rgnRectWrite n w) s fun t =>
      t.fld (F.RGN_RECT_X0 n) = bitsOf w.data.toNat 0 4 ∧ t.fld (F.RGN_RECT_X1 n) = bitsOf w.data.toNat 8 4 ∧
        t.fld (F.RGN_RECT_EXTENT n) = bitsOf w.data.toNat 16 2 ∧ Frame s t (R.RGN_RECT n :: rectRegs n) [])


/-! ### Rings and descriptors (06) -/

/-- The offset of VF n's RING_ENABLE in PF BAR0 (R322). -/
def ringEnableAt (n : Nat) : Nat := R.RING_DB_BASE_LO n + 0x18

/-- The registers of VF n's ring setup page that a change of RING_ENABLE may touch. -/
def ringRegs (n : Nat) : List Nat :=
  [R.RING_ENABLE n, R.RING_VF_STATUS n, R.RING_CQ_PRODUCED n] ++
    (List.range 8).flatMap fun i => [R.RING_STATUS n i, R.RING_CONSUMED n i, R.RING_PRODUCER_SEEN n i]

/-- A write of RING_ENABLE by the PF (R316, R318, R324), in a region that is READY, RUNNING or FAULTED: with the completion ring on, a
DISABLED ring whose bit is set is RUNNING with both indices 0; a RUNNING ring whose bit is cleared is STOPPING; the completion ring
is enabled with index 0, and is disabled when no ring is in use and no record is held. -/
def Obligations.RingEnableWritesComplete : Prop :=
  (∀ (s : State) (n : Fin 32) (i : Fin 8) (w : DwWrite), s.Serves → PlainWrite w (ringEnableAt n) →
    s.rgnState n ∈ [rREADY, rRUNNING, rFAULTED] → s.fld (F.RING_ENABLE_CQ n) = 1 → w.data.getLsbD 8 = true →
    s.bitAt (F.RING_ENABLE_RING n) i = false → w.data.getLsbD i = true → s.ringState n i = 0 →
    (∀ j, j < 8 → j ≠ i.val → w.data.getLsbD j = s.bitAt (F.RING_ENABLE_RING n) j) → Answers (.ringEnable n w) s fun t =>
      t.ringState n i = 1 ∧ t.bitAt (F.RING_ENABLE_RING n) i = true ∧ t.consumed n i = 0 ∧ t.producerSeen n i = 0 ∧
        (∀ j, j < 8 → j ≠ i.val → t.ringState n j = s.ringState n j) ∧ Frame s t (ringRegs n) [.vfs]) ∧
  (∀ (s : State) (n : Fin 32) (i : Fin 8) (w : DwWrite), s.Serves → PlainWrite w (ringEnableAt n) →
    s.fld (F.RING_ENABLE_CQ n) = 1 → w.data.getLsbD 8 = true → s.bitAt (F.RING_ENABLE_RING n) i = true →
    w.data.getLsbD i = false →
    (∀ j, j < 8 → j ≠ i.val → w.data.getLsbD j = s.bitAt (F.RING_ENABLE_RING n) j) → Answers (.ringDisable n w) s fun t =>
      t.ringState n i = 2 ∧ t.bitAt (F.RING_ENABLE_RING n) i = false ∧
        (∀ j, j < 8 → j ≠ i.val → t.ringState n j = s.ringState n j) ∧ Frame s t (ringRegs n) [.vfs]) ∧
  (∀ (s : State) (n : Fin 32) (w : DwWrite), s.Serves → PlainWrite w (ringEnableAt n) → s.fld (F.RING_ENABLE_CQ n) = 0 →
    w.data.getLsbD 8 = true → (∀ j, j < 8 → w.data.getLsbD j = s.bitAt (F.RING_ENABLE_RING n) j) →
    Answers (.cqEnable n w) s fun t =>
      t.fld (F.RING_ENABLE_CQ n) = 1 ∧ t.produced n = 0 ∧ (t.vf n).consumer = 0 ∧ Frame s t (ringRegs n) [.vfs]) ∧
  (∀ (s : State) (n : Fin 32) (w : DwWrite), s.Serves → PlainWrite w (ringEnableAt n) → w.data.getLsbD 8 = false →
    (s.vf n).held = [] → (∀ j, j < 8 → s.ringState n j = 0 ∧ w.data.getLsbD j = false ∧
      s.bitAt (F.RING_ENABLE_RING n) j = false) → Answers (.cqDisable n w) s fun t =>
      t.fld (F.RING_ENABLE_CQ n) = 0 ∧ Frame s t (ringRegs n) [.vfs])

/-- The descriptor of a reference is done, with a status. -/
def Finished (t : State) (d : DescRef) (st : Nat) : Prop :=
  ∃ y, t.desc? d = some y ∧ y.phase = .finished ∧ y.status = st

/-- The descriptor that a fetch brings as the j-th from the ring's CONSUMED on. -/
def fetched (s : State) (n i j : Nat) (ws : List Word) : Desc :=
  { index := BitVec.ofNat 32 (s.consumed n i + j), words := (ws.drop (16 * j)).take 16, fetchedAs := s.nextId + j }

/-- Ring i of VF n may fetch. -/
def Fetches (s : State) (n i : Nat) : Prop :=
  s.rgnState n ∈ [rREADY, rRUNNING, rFAULTED] ∧ s.ringState n i = 1 ∧ s.mayRequest (n + 1) = true ∧ s.engineRuns = true ∧
    (s.vf n).rings.length = 8

/-- A ring's record, read by a poll: what it leaves of PRODUCER_SEEN, PAUSED, GEN, the ring's state and STOP_CAUSE (R274, R275, R303).
A torn or stale record leaves all of it; a valid one is taken; reserved flags and an overrun stop a RUNNING ring; the next generation
restarts a STOPPED one. -/
def RecordTaken (s t : State) (n i : Nat) (r : List Word) : Prop :=
  let p := (r.getD 0 0).toNat
  let g := (r.getD 1 0).toNat
  let gen := s.fld (F.RING_GEN_VALUE n i)
  let pause := bit ((r.getD 2 0).getLsbD 0)
  let flags := 2 ≤ (r.getD 2 0).toNat
  let overrun := s.ringLen n i < ahead p (s.consumed n i)
  let stopped := s.ringState n i = 3
  let restart := stopped ∧ g = (gen + 1) % 2 ^ 32 ∧ ¬flags ∧ ¬overrun
  let kept := t.producerSeen n i = s.producerSeen n i ∧ t.fld (F.RING_GEN_VALUE n i) = gen ∧
    t.fld (F.RING_STATUS_PAUSED n i) = s.fld (F.RING_STATUS_PAUSED n i)
  (torn r = true ∨ (g ≠ gen ∧ ¬restart) ∨ (stopped ∧ g = gen ∧ (flags ∨ overrun)) → kept ∧ t.ringState n i = s.ringState n i) ∧
  (torn r = false → g = gen → ¬flags → ¬overrun →
    t.producerSeen n i = p ∧ t.fld (F.RING_STATUS_PAUSED n i) = pause ∧ t.ringState n i = s.ringState n i) ∧
  (torn r = false → g = gen → ¬stopped → flags → kept ∧ t.ringState n i = 3 ∧ t.fld (F.RING_STATUS_STOP_CAUSE n i) = 14) ∧
  (torn r = false → g = gen → ¬stopped → ¬flags → overrun →
    kept ∧ t.ringState n i = 3 ∧ t.fld (F.RING_STATUS_STOP_CAUSE n i) = 15) ∧
  (torn r = false → restart → t.ringState n i = 1 ∧ t.fld (F.RING_GEN_VALUE n i) = g ∧ t.producerSeen n i = p ∧
    t.fld (F.RING_STATUS_PAUSED n i) = pause)

/-- What Ring Watch and the ring engine do around a descriptor completes (R274, R278, R282, R286, R288, R304, R311, R314 to R316). A poll
whose read fails sets its bit of HOST_ERR and finds nothing; one that reads the doorbell page treats each ring's record as its words
say. A fetch by any ring, of as many descriptors as it has room for, brings those that pass the checks; the first that fails one is
consumed and stops the ring with its code, and so does a fetch that fails, with FETCH_ERROR. A finished descriptor leaves its ring, and
its record, when one is due, goes out or is held; so does the first that completed without running. Held records go out while the
completion ring has room. A STOPPING ring without descriptors is DISABLED. -/
def Obligations.RingEngineStepsComplete : Prop :=
  (∀ (s : State) (n : Fin 32) (r : PollRead), s.polls n = true → s.fld F.PWR_STATE_STATE ≠ 2 → r.result ≠ .good →
    Answers (.ringWatchPoll n r) s fun t =>
      (t.vf n).hintPending = false ∧ (t.vf n).rings = (s.vf n).rings ∧
        (r.result = .poisoned → t.fld F.HOST_ERR_POISON_IN = 1) ∧
        ∀ f, (r.result, f) ∈ [(FetchEnd.timeout, F.HOST_ERR_DMA_TIMEOUT), (.error .ur, F.HOST_ERR_DMA_UR),
            (.error .ca, F.HOST_ERR_DMA_CA)] →
          t.fld f = 1 ∧ Frame s t [R.HOST_ERR] [.vfs] ∧ Sent s t (s.readTlps (n + 1) (s.dbBase n) 144)) ∧
  (∀ (s : State) (n : Fin 32) (r : PollRead), s.polls n = true → s.fld F.PWR_STATE_STATE ≠ 2 → r.result = .good →
    Answers (.ringWatchPoll n r) s fun t =>
      (t.vf n).hintPending = false ∧ ∀ i, i < 8 → s.ringState n i ∈ [1, 3] → RecordTaken s t n i (r.records.getD i [])) ∧
  (∀ (s : State) (n : Fin 32) (i : Fin 8) (ws : List Word), Fetches s n i → 1 ≤ ws.length / 16 →
    ws.length / 16 ≤ s.fetchRoom n i →
    ((∀ j, j < ws.length / 16 → s.checkDesc n (fetched s n i j ws) = 0) → Answers (.descriptorFetch n i .good ws) s fun t =>
      t.consumed n i = (s.consumed n i + ws.length / 16) % 2 ^ 32 ∧
        (t.ring n i).descs = (s.ring n i).descs ++ (List.range (ws.length / 16)).map (fun j => fetched s n i j ws) ∧
        Frame s t [R.RING_CONSUMED n i] [.vfs]) ∧
    (∀ k, k < ws.length / 16 → (∀ j, j < k → s.checkDesc n (fetched s n i j ws) = 0) →
      s.checkDesc n (fetched s n i k ws) ≠ 0 → Answers (.descriptorFetch n i .good ws) s fun t =>
        t.consumed n i = (s.consumed n i + k + 1) % 2 ^ 32 ∧ t.ringState n i = 3 ∧
          t.fld (F.RING_STATUS_STOP_CAUSE n i) = s.checkDesc n (fetched s n i k ws) ∧
          (t.ring n i).descs = (s.ring n i).descs ++ (List.range k).map fun j => fetched s n i j ws)) ∧
  (∀ (s : State) (n : Fin 32) (i : Fin 8) (r : FetchEnd) (ws : List Word), Fetches s n i → 1 ≤ s.fetchRoom n i → r ≠ .good →
    Answers (.descriptorFetch n i r ws) s fun t =>
      t.consumed n i = (s.consumed n i + 1) % 2 ^ 32 ∧ t.ringState n i = 3 ∧ t.fld (F.RING_STATUS_STOP_CAUSE n i) = 1 ∧
        (t.ring n i).descs = (s.ring n i).descs) ∧
  (∀ (s : State) (d : DescRef) (x : Desc), s.desc? d = some x → x.phase = .finished → x.cr = false →
    x.finalStatus = stSUCCESS → Answers (.descriptorComplete d) s fun t => t.desc? d = none ∧ Frame s t [] [.vfs]) ∧
  (∀ (s : State) (d : DescRef) (x : Desc), s.desc? d = some x → x.cr = true ∨ x.finalStatus ≠ stSUCCESS →
    x.phase = .finished ∨ ((s.ring d.vf d.ring).descs.find? fun y => y.phase = .blocked) = some x →
    s.recordRoom d.vf = true → Answers (.descriptorComplete d) s fun t =>
      t.desc? d = none ∧
        ((s.vf d.vf).held = [] → s.cqFull d.vf = false →
          t.produced d.vf = (s.produced d.vf + 1) % 2 ^ 32 ∧ (t.vf d.vf).held = []) ∧
        ((s.vf d.vf).held ≠ [] ∨ s.cqFull d.vf = true →
          t.produced d.vf = s.produced d.vf ∧ (t.vf d.vf).held = (s.vf d.vf).held ++ [s.descRecord d.ring x])) ∧
  (∀ (s : State) (n : Fin 32), s.mayRequest (n + 1) = true → ((s.vf n).held = [] → (s.vf n).waiting = []) →
    Answers (.heldRecordsFlush n) s fun t =>
      let all := (s.vf n).held ++ (s.vf n).waiting
      let room := if s.on (F.RING_VF_STATUS_CQ_ERR n) then 0 else s.cqLen n - ahead (s.produced n) (s.vf n).consumer.toNat
      let k := min room all.length
      (t.vf n).held ++ (t.vf n).waiting = all.drop k ∧ t.produced n = (s.produced n + k) % 2 ^ 32 ∧
        (1 ≤ k → t.fld (F.RING_VF_STATUS_COMPLETION_STALL n) = bit (decide (k < all.length)))) ∧
  (∀ (s : State) (n : Fin 32) (i : Fin 8), s.ringState n i = 2 → (s.ring n i).descs = [] →
    Answers (.ringStoppingEnd n i) s fun t =>
      t.ringState n i = 0 ∧ OtherBits s t (F.RING_STATUS_STATE n i) ∧ Frame s t [R.RING_STATUS n i] [])

/-- Descriptors whose turn it is complete with SUCCESS (R289, R296, R298, R299): NOP at once; FENCE when nothing earlier is left; WAIT
when its condition holds; SIGNAL, QUERY and TELEMETRY_SNAPSHOT once they have written host memory. A BARRIER that arrives first waits
at its ID; the second of two ends both; one with another COUNT than the first ends with BARRIER_MISMATCH. -/
def Obligations.SmallDescriptorsComplete : Prop :=
  (∀ (s u : State) (d : DescRef) (x : Desc), s.begin d tyNOP = some (x, u) → Answers (.nopDescriptor d) s fun t =>
    Finished t d stSUCCESS ∧ Frame s t [] [.vfs]) ∧
  (∀ (s u : State) (d : DescRef) (x : Desc), s.begin d tyFENCE = some (x, u) → u.fenceClear d.vf d.ring x = true →
    Answers (.fenceDescriptor d) s fun t => Finished t d stSUCCESS ∧ Frame s t [] [.vfs]) ∧
  (∀ (s u : State) (d : DescRef) (x : Desc) (v : BitVec 64), s.begin d tyWAIT = some (x, u) → u.polls d.vf = true →
    waitHolds (x.w 8 % 2 ^ 8) v.toNat (x.q 4) (x.q 6) = true → Answers (.wait d v) s fun t =>
      Finished t d stSUCCESS ∧ Frame s t [] [.vfs]) ∧
  (∀ (s u : State) (d : DescRef) (x y : Desc), s.desc? d = some y → y.phase = .fetched →
    s.begin d tyBARRIER = some (x, u) →
    let id := bitsOf (x.w 2) 0 4
    let count := bitsOf (x.w 2) 8 4
    let here := (u.vf d.vf).barriers.filter fun b => b.id == id
    (here = [] → 2 ≤ count → Answers (.barrier d) s fun t =>
      (t.vf d.vf).barriers = (u.vf d.vf).barriers ++ [{ id := id, count := count, ring := d.ring, index := x.index }] ∧
        t.desc? d = some x ∧ Frame s t [] [.vfs]) ∧
    (∀ (b : BarrierWait) (e : DescRef), here = [b] → b.count = 2 → count = 2 → e.vf = d.vf → e.ring.val = b.ring → e.index = b.index →
      u.desc? e ≠ none → Answers (.barrier d) s fun t =>
        Finished t d stSUCCESS ∧ Finished t e stSUCCESS ∧ (∀ w ∈ (t.vf d.vf).barriers, w.id ≠ id) ∧ Frame s t [] [.vfs]) ∧
    (∀ b, here.head? = some b → b.count ≠ count → Answers (.barrier d) s fun t =>
      Finished t d stBARRIER_MISMATCH ∧ (t.vf d.vf).barriers = (u.vf d.vf).barriers ∧ Frame s t [] [.vfs])) ∧
  (∀ (s u : State) (d : DescRef) (x : Desc), s.begin d tySIGNAL = some (x, u) → (x.w 6).testBit 1 = false →
    u.mayRequest (d.vf + 1) = true → Answers (.signal d) s fun t =>
      Finished t d stSUCCESS ∧ Sent s t (s.writeTlps (d.vf + 1) (x.q 2) (toBytes 8 (x.q 4)) []) ∧ Frame s t [] [.vfs]) ∧
  (∀ (s u : State) (d : DescRef) (x : Desc), s.begin d tyQUERY = some (x, u) → u.mayRequest (d.vf + 1) = true →
    Answers (.query d) s fun t =>
      Finished t d stSUCCESS ∧ Sent s t (s.writeTlps (d.vf + 1) (x.q 2) (u.queryBlock d.vf (x.w 4)) []) ∧
        Frame s t [] [.vfs]) ∧
  (∀ (s u : State) (d : DescRef) (x : Desc), s.begin d tySNAPSHOT = some (x, u) → u.mayRequest (d.vf + 1) = true →
    x.snap ≠ [] → Answers (.telemetrySnapshot d) s fun t =>
      Finished t d stSUCCESS ∧ Sent s t (s.writeTlps (d.vf + 1) (x.q 2) x.snap []) ∧ Frame s t [] [.vfs])

/-- A descriptor that waits past its timeout, or whose host request fails, ends (R234, R289, R298, R306, R308, R892): TIMEOUT for WAIT
and BARRIER with a timeout; HOST_DMA_ERROR with the code of the failure, which HOST_ERR records, for every descriptor that reads host
memory: COPY, WAIT, LOAD_SCHEDULE; a LOAD_SCHEDULE that was writing tiles leaves no image. MODEL'S CHOICE (log 150): a failed read of a
rebuild ends its LAUNCH so, and leaves the region READY. -/
def Obligations.DescriptorsEndOnTimeoutOrHostError : Prop :=
  (∀ (s : State) (d : DescRef) (x : Desc), s.desc? d = some x → x.type = tyWAIT → x.phase = .running → x.w 9 ≠ 0 →
    Answers (.waitTimeout d) s fun t => Finished t d stTIMEOUT ∧ Frame s t [] [.vfs]) ∧
  (∀ (s : State) (d : DescRef) (x : Desc), s.desc? d = some x → x.type = tyBARRIER → x.phase = .running → x.w 3 ≠ 0 →
    Answers (.barrierTimeout d) s fun t => Finished t d stTIMEOUT ∧ Frame s t [] [.vfs] ∧
      ∀ b ∈ (t.vf d.vf).barriers, ¬ (b.ring = d.ring.val ∧ b.index = d.index)) ∧
  (∀ (s : State) (d : DescRef) (x : Desc) (c : Instr) (f : Fld) (code : Nat), s.desc? d = some x →
    (c, f, code) ∈ [(.hostDmaErrorResponse d .ur, F.HOST_ERR_DMA_UR, 1), (.hostDmaErrorResponse d .ca, F.HOST_ERR_DMA_CA, 2),
      (.hostReadTimeout d, F.HOST_ERR_DMA_TIMEOUT, 3)] →
    (s.rebuilding d = false → x.readsHost = true → (s.begin d x.type).isSome = true → Answers c s fun t =>
      (∃ y, t.desc? d = some y ∧ y.phase = .finished ∧ y.status = stHOST_DMA_ERROR ∧ y.code = code ∧ y.aborted = true ∧
        y.abortCause = acHOST_DMA_ERROR) ∧ t.fld f = 1 ∧
        (x.type = tyLOAD ∧ x.stage = 2 → (t.rgn d.vf).image = none) ∧
        (¬ (x.type = tyLOAD ∧ x.stage = 2) → Frame s t [R.HOST_ERR] [.vfs])) ∧
    (s.rebuilding d = true → Answers c s fun t =>
      Finished t d stHOST_DMA_ERROR ∧ t.fld f = 1 ∧ t.rgnState d.vf = rREADY ∧ (t.rgn d.vf).launch = none ∧
        (t.rgn d.vf).image = (s.rgn d.vf).image ∧ ∀ m, m < 32 → m ≠ d.vf.val → t.rgnState m = s.rgnState m))

/-- The descriptor of a reference, `x` before, has moved a block of `k` bytes of a length `total`: RESULT counts the bytes (R291), and
the block that completes the length finishes it (R297). -/
def BlockMoved (t : State) (d : DescRef) (x : Desc) (k total : Nat) : Prop :=
  ∃ y, t.desc? d = some y ∧ y.done = x.done + k ∧ y.result = x.done + k ∧
    if total ≤ x.done + k then y.phase = .finished ∧ y.status = stSUCCESS else y.phase = .running

/-- A range of region n lies in pinned SRAM: granule g at slice (f g).1, byte (f g).2, no two at one place. -/
def Pinned (s : State) (n a len : Nat) (f : Nat → Nat × Nat) : Prop :=
  (∀ g ∈ granulesOf a len, s.locate n g = .pinned (f g).1 (f g).2 ∧ (f g).2 + 64 ≤ 0x600000) ∧
    ∀ g ∈ granulesOf a len, ∀ h ∈ granulesOf a len, f g = f h → g = h

/-- The bytes of a range in pinned SRAM. -/
def Holds (t : State) (a : Nat) (bytes : List Byte) (f : Nat → Nat × Nat) : Prop :=
  ∀ j, j < bytes.length → ∀ draw,
    t.sramByte (f ((a + j) / 64 * 64)).1 draw ((f ((a + j) / 64 * 64)).2 + (a + j) % 64) = bytes.getD j 0

/-- What a block of bytes leaves at its destination, device space or host memory, from a state `u` whose reads are done: host memory is
written; pinned SRAM holds the bytes; into the link window WRITEs are handed over, and the block waits for their answers. -/
def BlockWritten (u t : State) (d : DescRef) (x : Desc) (dev : Bool) (dst : Nat) (bytes : List Byte) (bad : List Nat)
    (total : Nat) : Prop :=
  (dev = false → BlockMoved t d x bytes.length total ∧ Sent u t (u.writeTlps (d.vf + 1) dst bytes bad) ∧
    Frame u t [] [.vfs, .engineVf]) ∧
  (dev = true → spaceOf dst = spLink → ∃ y, t.desc? d = some y ∧ y.done = x.done ∧ y.linkWriting = true ∧
    y.linkWait = (linkWrites d.vf d.ring dst bytes bad).length ∧ Frame u t [] [.vfs, .engineVf, .edge]) ∧
  (∀ f, dev = true → Pinned u d.vf dst bytes.length f → BlockMoved t d x bytes.length total ∧ Holds t dst bytes f ∧
    ∀ p, p ∉ [Part.vfs, .engineVf, .stops, .ringTurn, .slices] → p.same u t)

/-- COPY and FILL move block by block (R235, R289, R291, R297). A block whose turn it is takes the pattern, or what its source holds: the
host data read, with the words that take a poisoned byte; what a link port's READs have returned; pinned SRAM. It leaves it at its
destination. A source in the link window is first asked for; a block handed to a link port is moved once every WRITE is answered, and
waits until then. -/
def Obligations.CopyAndFillBlocksComplete : Prop :=
  (∀ (s u : State) (d : DescRef) (x : Desc), s.begin d tyFILL = some (x, u) →
    let dst := x.q 2 + x.done
    let k := blockLen dst (x.q 4 - x.done)
    (x.linkWriting = false → u.blockGoes d.vf x = true → Answers (.fill d) s fun t =>
      BlockWritten u t d x ((x.w 8).testBit 1) dst ((List.range k).map fun j => (toBytes 8 (x.q 6)).getD ((x.done + j) % 8) 0) []
        (x.q 4)) ∧
    (x.linkWriting = true → x.linkWait = 0 → Answers (.fill d) s fun t => BlockMoved t d x k (x.q 4) ∧ Frame s t [] [.vfs]) ∧
    (x.linkWriting = true → x.linkWait ≠ 0 → Answers (.fill d) s fun t => t.desc? d = some x ∧ Frame s t [] [.vfs])) ∧
  (∀ (s u : State) (d : DescRef) (x : Desc) (h : HostData), s.begin d tyCOPY = some (x, u) →
    let src := x.q 2 + x.done
    let dst := x.q 4 + x.done
    let k := blockLen dst (x.q 6 - x.done)
    let r := u.readBlock d.vf x h src dst k
    let fromDevice := (x.w 8).testBit 0 = true
    (x.linkWriting = false → u.blockGoes d.vf x = true →
      (fromDevice → spaceOf src = spLink ∧ x.linkSent = true ∨ ∃ f, Pinned u d.vf src k f) → Answers (.copy d h) s fun t =>
        BlockWritten r.2.2 t d x ((x.w 8).testBit 1) dst r.1 r.2.1 (x.q 6) ∧ r.1.length = k ∧
          (¬fromDevice → (∀ j, j < k → r.1.getD j 0 = h.bytes.getD j (Config.hostByte (src + j))) ∧
            (h.poisoned = [] → r.2.1 = [] ∧ Sent u r.2.2 (u.readTlps (d.vf + 1) src k) ∧ Frame u r.2.2 [] [])) ∧
          (∀ f, fromDevice → Pinned u d.vf src k f → ∀ j, j < k → ∃ draw, r.1.getD j 0 =
            u.sramByte (f ((src + j) / 64 * 64)).1 draw ((f ((src + j) / 64 * 64)).2 + (src + j) % 64))) ∧
    (fromDevice → spaceOf src = spLink → x.linkSent = false → x.linkWriting = false → Answers (.copy d h) s fun t =>
      ∃ y, t.desc? d = some y ∧ y.linkSent = true ∧ y.linkWait = (linkReads d.vf d.ring src k).length ∧
        t.edge.map (fun p => (p.kind, p.addr, p.size)) = s.edge.map (fun p => (p.kind, p.addr, p.size)) ++
          (linkReads d.vf d.ring src k).map (fun p => (p.kind, p.addr, p.size)) ∧ Frame s t [] [.vfs, .edge]) ∧
    (x.linkWriting = true → x.linkWait = 0 → Answers (.copy d h) s fun t => BlockMoved t d x k (x.q 6) ∧ Frame s t [] [.vfs]) ∧
    (x.linkWriting = true → x.linkWait ≠ 0 → Answers (.copy d h) s fun t => t.desc? d = some x ∧ Frame s t [] [.vfs]))

/-! ### Regions: faults, the region reset, the release (07) -/

/-- No other region changes its state. -/
def OtherRegions (s t : State) (n : Nat) : Prop := ∀ m, m < 32 → m ≠ n → t.rgnState m = s.rgnState m

/-- A fault of a RUNNING region starts the fault stop (R295, R341, R344): DRAINING, the cause of the fault of the lowest global core ID
of those that came in one cycle latched, with MULTI when there were several, a HALT on its way to every running core; the launch
watchdog is such a fault. When the stop is over the region is FAULTED and its PF event is set. MODEL'S CHOICES: one command brings the
faults of one cycle (log 80); a MESSAGE that stands in a router does not hold up the end (log 155). -/
def Obligations.FaultStopsComplete : Prop :=
  (∀ (n : Fin 32) (f : FaultReport) (more : List FaultReport) (s : State), f ∈ (s.rgn n).reports → f.cause ≤ 8 →
    (∀ g ∈ more, g.cause ≤ 8) → s.rgnState n = rRUNNING → (s.rgn n).reset = none → (s.rgn n).clearing = false →
    (s.rgn n).pendingFences = [] → Answers (.regionFault n f more) s fun t =>
      let r := firstFault f (more.filter fun g => ((s.rgn n).reports.erase f).contains g)
      (∀ g ∈ r.2, faultOrder r.1 ≤ faultOrder g) ∧
      t.rgnState n = rDRAINING ∧ (t.rgn n).faultStop = true ∧
        (t.rgn n).reports = more.foldl List.erase ((s.rgn n).reports.erase f) ∧ t.fld (F.RGN_FAULT_CAUSE n) = r.1.cause ∧
        (r.2 ≠ [] → t.fld (F.RGN_FAULT_MULTI n) = 1) ∧
        (∀ g, s.inRect n (tileOfCore g) = true → (s.core g).status = .running → (t.core g).haltDue = true) ∧
        OtherRegions s t n ∧ t.net = s.net ∧ t.slices = s.slices ∧ t.hbm = s.hbm) ∧
  (∀ (n : Fin 32) (l : Launch) (s : State), (s.rgn n).launch = some l → l.watchdogUs ≠ 0 → s.rgnState n = rRUNNING →
    (s.rgn n).reset = none → (s.rgn n).clearing = false → (s.rgn n).pendingFences = [] → Answers (.launchWatchdog n) s fun t =>
      t.rgnState n = rDRAINING ∧ (t.rgn n).faultStop = true ∧ t.fld (F.RGN_FAULT_CAUSE n) = 2 ∧ OtherRegions s t n ∧
        t.net = s.net ∧ t.hbm = s.hbm) ∧
  (∀ (n : Fin 32) (s : State), (s.rgn n).faultStop = true → s.clocksOut n = false → s.settle.coresDrained n = true →
    s.settle.net.any (s.settle.stopWaits n) = false → (s.rgn n).pendingReset = none →
    s.fld (F.RGN_CONFIG_FAULT_ACTION n) = 0 → (s.rgn n).clockLost = false → Answers (.faultStopEnd n) s fun t =>
      t.rgnState n = rFAULTED ∧ (t.rgn n).faultStop = false ∧ (t.rgn n).launch = none ∧
        t.fld F.INT_PF_EVENT_REGION = 1 ∧ OtherRegions s t n ∧ t.cores = s.cores ∧ t.hbm = s.hbm)

/-- A region reset (R319, R347, R348, R353, R354): its drain ends in RESETTING, its launch, its cores' state and its packets gone and
no descriptor left in its rings; its end leaves the region READY, or FAULTED without a slice, its islands gated and its rings DISABLED,
or goes on to the clearing; the clearing leaves it FREE, its slices' content gone. An FLR of a VF and the
clearing of VF Enable start the reset of the regions in service (R211, R212, R350); a wake hint makes Ring Watch poll the VF (R242). -/
def Obligations.RegionResetsComplete : Prop :=
  (∀ (n : Fin 32) (s : State) (x : ResetRun), (s.rgn n).reset = some x → x.drainEnd = none → s.clocksOut n = false →
    Answers (.regionResetDrainEnd n) s fun t =>
      t.rgnState n = rRESETTING ∧ (t.rgn n).launch = none ∧ (t.rgn n).reports = [] ∧
        (t.rgn n).reset = some { x with drainEnd := some s.time } ∧
        (∀ g, s.inRect n (tileOfCore g) = true → (t.core g).status ≠ .running ∧ (t.core g).store = []) ∧
        (∀ p ∈ t.net, p.region = n → p.line = true ∧ p.kind = .write) ∧ (∀ i, i < 8 → (t.ring n i).descs = []) ∧
        OtherRegions s t n ∧ t.hbm = s.hbm) ∧
  (∀ (n : Fin 32) (s : State) (x : ResetRun) (d : Nat), (s.rgn n).reset = some x → x.drainEnd = some d → x.toFree = false →
    Answers (.regionResetEnd n) s fun t =>
      t.rgnState n = (if s.sliceMissing n then rFAULTED else rREADY) ∧ (t.rgn n).reset = none ∧
        (∀ k ∈ s.islandsOf n, t.bitAt F.CLK_ISLAND_POWERED k = false) ∧ (∀ i, i < 8 → t.ringState n i = 0) ∧
        t.fld (F.RING_ENABLE_RING n) = 0 ∧ t.fld F.INT_PF_EVENT_REGION = 1 ∧ OtherRegions s t n) ∧
  (∀ (n : Fin 32) (s : State) (x : ResetRun) (d : Nat), (s.rgn n).reset = some x → x.drainEnd = some d → x.toFree = true →
    Answers (.regionResetEnd n) s fun t =>
      (t.rgn n).reset = none ∧ (t.rgn n).clearing = true ∧ t.rgnState n = s.rgnState n ∧ OtherRegions s t n) ∧
  (∀ (n : Fin 32) (s : State), (s.rgn n).clearing = true → s.clocksOut n = false →
    (∀ i ∈ s.slicesOf n, s.chanHeld (channelOfSlice i) = false) → Answers (.releaseClearEnd n) s fun t =>
      t.rgnState n = rFREE ∧ t.rgn n = {} ∧ t.word (R.RGN_RECT n) 0 = 0 ∧
        (∀ i, s.inRect n (tileOfSlice i) = true → t.slice i = {}) ∧ OtherRegions s t n) ∧
  (∀ (n : Fin 32) (s : State), s.vfExists n = true → s.power.phase = .run → 2 ≤ s.rgnState n → (s.rgn n).reset = none →
    (s.rgn n).faultStop = false → (s.rgn n).clearing = false → Answers (.flrVf n) s fun t =>
      t.rgnState n = rDRAINING ∧ (∃ x, (t.rgn n).reset = some x ∧ x.why = .flr ∧ x.toFree = false) ∧
        t.bitAt F.HOST_VF_BME_BME n = false ∧ (t.fn (n + 1)).table = [] ∧ (t.fn (n + 1)).msixEnable = false ∧
        (t.fn (n + 1)).flr = true ∧ OtherRegions s t n ∧ t.net = s.net ∧ t.hbm = s.hbm) ∧
  (∀ s : State, s.fld F.HOST_STATUS_VF_ENABLE = 1 → s.power.phase = .run → Answers .vfEnableClear s fun t =>
      t.fld F.HOST_STATUS_VF_ENABLE = 0 ∧ t.fld F.HOST_VF_BME_BME = 0 ∧
        (∀ n, n < 32 → 2 ≤ s.rgnState n → (s.rgn n).reset = none → (s.rgn n).faultStop = false → (s.rgn n).clearing = false →
          t.rgnState n = rDRAINING ∧ ((t.rgn n).reset.map fun x => x.why) = some .flr) ∧
        (∀ n, n < 32 → s.rgnState n < 2 → t.rgnState n = s.rgnState n) ∧ t.net = s.net ∧ t.hbm = s.hbm) ∧
  (∀ (n : Fin 32) (s : State), s.vfExists n = true → (s.fn (n + 1)).memSpace = true → s.fld F.PWR_STATE_STATE ≠ 2 →
    s.fld F.PWR_STATE_M2_ENTERING = 0 → Answers (.wakeHint n) s fun t =>
      (t.vf n).hintPending = true ∧ (t.vf n).rings = (s.vf n).rings ∧ Frame s t [] [.vfs] ∧ Sent s t [])

/-! ### Images and launches (06, 10, 15) -/

/-- LOAD_SCHEDULE, in its turn (R292, R293, R513, R514, R523): in a FAULTED region REGION_NOT_READY; in a READY one the first pass
rejects an image that fails a check, with its code, and keeps the image before it, or goes on to the second pass, which writes the
tiles and loads the image, or, when a read comes back poisoned, rejects it and leaves none. -/
def Obligations.ImageLoadsComplete : Prop :=
  (∀ (d : DescRef) (im : HostData) (s u : State) (x : Desc), s.begin d tyLOAD = some (x, u) → u.rgnState d.vf = rFAULTED →
    Answers (.loadSchedule d im) s fun t => Finished t d stREGION_NOT_READY ∧ Frame s t [] [.vfs]) ∧
  (∀ (d : DescRef) (im : HostData) (s u : State) (x : Desc),
    let n := d.vf.val
    let b := hostBytes (x.q 2) (x.q 4) im.bytes
    let len := imageRead b (x.q 4)
    let bad := im.poisoned.any (· < len)
    s.begin d tyLOAD = some (x, u) → u.rgnState n = rREADY → u.isNext n x = true → u.mayRequest (n + 1) = true →
    (x.stage = 0 → u.checkImage n (x.q 4) b bad ≠ 0 → Answers (.loadSchedule d im) s fun t =>
      Finished t d stIMAGE_REJECTED ∧ (t.rgn n).image = (s.rgn n).image ∧
        t.fld (F.SCH_IMG_STATE_LAST_REJECT n) = u.checkImage n (x.q 4) b bad % 256 ∧
        (bad = false → Sent s t (s.readTlps (n + 1) (x.q 2) len) ∧
          Frame s t [R.SCH_IMG_STATE n, (F.RGN_DLY_BUDGET_DELAYED_BUDGET n cHOSTDMA).off] [.vfs, .stops])) ∧
    (x.stage = 0 → u.checkImage n (x.q 4) b bad = 0 → Answers (.loadSchedule d im) s fun t =>
      (∃ y, t.desc? d = some y ∧ y.stage = 1 ∧ y.phase = .running) ∧ Sent s t (s.readTlps (n + 1) (x.q 2) len) ∧
        Frame s t [(F.RGN_DLY_BUDGET_DELAYED_BUDGET n cHOSTDMA).off] [.vfs, .stops]) ∧
    (x.stage = 1 → Answers (.loadSchedule d im) s fun t =>
      (∃ y, t.desc? d = some y ∧ y.stage = 2) ∧ Frame s t [] [.vfs]) ∧
    (x.stage = 2 → bad = false → Answers (.loadSchedule d im) s fun t =>
      Finished t d stSUCCESS ∧ t.fld (F.RGN_STATE_IMAGE_LOADED n) = 1 ∧ t.rgnState n = rREADY ∧
        ∃ y, (t.rgn n).image = some y ∧ y.sets = imageSets b ∧ y.hostAddr = x.q 2) ∧
    (x.stage = 2 → bad = true → Answers (.loadSchedule d im) s fun t =>
      Finished t d stIMAGE_REJECTED ∧ t.fld (F.SCH_IMG_STATE_LAST_REJECT n) = 3 ∧ (t.rgn n).image = none ∧ t.rgnState n = rREADY))

/-- LAUNCH (R289, R292, R332, R478, R481, R583): in a FAULTED region REGION_NOT_READY; without an image NO_IMAGE; else the region is
RUNNING and SCH_FRAME all ones, and with its islands gated the launch waits for them; when every core has ended and the channels are
at rest, the region is READY again and the descriptor done. -/
def Obligations.LaunchesComplete : Prop :=
  (∀ (d : DescRef) (s u : State) (x : Desc), s.begin d tyLAUNCH = some (x, u) → u.rgnState d.vf = rFAULTED →
    Answers (.launch d) s fun t => Finished t d stREGION_NOT_READY ∧ Frame s t [] [.vfs]) ∧
  (∀ (d : DescRef) (s u : State) (x : Desc), s.begin d tyLAUNCH = some (x, u) → u.rgnState d.vf = rREADY →
    u.isNext d.vf x = true → (u.rgn d.vf).image = none → Answers (.launch d) s fun t =>
      Finished t d stNO_IMAGE ∧ Frame s t [] [.vfs]) ∧
  (∀ (d : DescRef) (s u : State) (x : Desc), s.begin d tyLAUNCH = some (x, u) → u.rgnState d.vf = rREADY →
    u.isNext d.vf x = true → (u.rgn d.vf).image ≠ none → u.someGated d.vf = true → Answers (.launch d) s fun t =>
      t.rgnState d.vf = rRUNNING ∧ t.fld (F.SCH_FRAME_FRAME d.vf) = 0xFFFFFFFF ∧
        (∃ l, (t.rgn d.vf).launch = some l ∧ l.ring = d.ring.val ∧ l.frames = x.w 2 ∧ l.watchdogUs = x.w 3 ∧ l.sent = false) ∧
        Frame s t [R.RGN_STATE d.vf, R.SCH_FRAME d.vf] [.vfs, .regions]) ∧
  (∀ (n : Fin 32) (s : State) (l : Launch) (im : Image), (s.rgn n).launch = some l → (s.rgn n).image = some im →
    l.checking = true → s.rgnState n = rRUNNING → im.decls.any (s.rulesHeld n) = false →
    (s.checkRuleBooks n im.decls).1 = none → Answers (.gatherCheckComplete n) s fun t =>
      (∃ l2, (t.rgn n).launch = some l2 ∧ l2.sent = true ∧ l2.checking = false ∧
        l2.entries = (s.checkRuleBooks n im.decls).2.1) ∧
        (∀ p ∈ im.programs, (t.core (s.recordCore n p)).status = .running) ∧ t.rgnState n = rRUNNING) ∧
  (∀ (n : Fin 32) (s : State) (l : Launch), (s.rgn n).launch = some l → l.sent = true → s.rgnState n = rRUNNING →
    l.inFrame = false → s.allEnded n = true → s.channelsAtRest n = true → Answers (.launchEnd n) s fun t =>
      t.rgnState n = rREADY ∧ (t.rgn n).launch = none ∧
        (∀ d : DescRef, d.vf = n → d.ring.val = l.ring → d.index = l.index → s.desc? d ≠ none → Finished t d stSUCCESS) ∧
        OtherRegions s t n)

/-- Frames and what a launch waits for (R59, R72, R131, R151 to R155, R478 to R481, R537): a frame begins with the next number, once the
gate holds and the duty wait is over, and ends, with the wait that its duty asks for; an island is powered for a launch that waits, and
a region's islands are gated when it idles; an image whose tiles lost power is read again; a quiesce of the plane ends with the routes
of the live tiles in force. MODEL'S CHOICE (log 145): the wait is judged with the multiplier and divider in force at FRAME_START. -/
def Obligations.FramesAndIslandsComplete : Prop :=
  (∀ (n : Fin 32) (s : State) (l : Launch) (im : Image), (s.rgn n).launch = some l → (s.rgn n).image = some im →
    s.rgnState n = rRUNNING → l.sent = true → l.inFrame = false → s.nextFrame n < l.frames → s.gateHolds n = true →
    s.allEnded n = false → s.waitOver l = true → s.clocksOut n = false → Answers (.frameStart n) s fun t =>
      t.fld (F.SCH_FRAME_FRAME n) = (s.fld (F.SCH_FRAME_FRAME n) + 1) % 2 ^ 32 ∧
        (∃ l2, (t.rgn n).launch = some l2 ∧ l2.inFrame = true ∧ l2.framesDone = l.framesDone) ∧
        (∀ g, s.inWaitf g = false → t.core g = s.core g) ∧
        Frame s t [R.SCH_FRAME n] [.regions, .cores, .clusters, .slices] ∧ Sent s t []) ∧
  (∀ (n : Fin 32) (s : State) (l : Launch), (s.rgn n).launch = some l → l.inFrame = true → s.clocksOut n = false →
    (s.rgn n).pendingFences = [] → (∀ im, (s.rgn n).image = some im → s.setFits n im (s.fld (F.SCH_IMG_STATE_SET_IN_FORCE n)) = true) →
    Answers (.frameEnd n) s fun t =>
      (∃ l2, (t.rgn n).launch = some l2 ∧ l2.inFrame = false ∧ l2.framesDone = l.framesDone + 1 ∧ l2.frameEnd = s.time ∧
        ∀ im, (s.rgn n).image = some im → l2.pause = dutyWait im.frameSlots (s.fld (F.PWR_RGN_CAP_DUTY n))) ∧
        Frame s t [R.SCH_COUNTS n] [.regions] ∧ Sent s t []) ∧
  (∀ (i n : Fin 32) (cs : List Crossing) (s : State), s.ownerOf ((tilesOfIsland i).headD 0) = some n.val →
    s.bitAt F.CLK_ISLAND_POWERED i = false → s.power.halves = true → s.wantsIslands n = true →
    Answers (.islandUngateComplete i cs) s fun t =>
      t.bitAt F.CLK_ISLAND_POWERED i = true ∧
        ∀ j, j ≠ i.val → t.bitAt F.CLK_ISLAND_POWERED j = s.bitAt F.CLK_ISLAND_POWERED j) ∧
  (∀ (n : Fin 32) (s : State), s.rgnState n ∈ [rREADY, rFAULTED] → s.launchQueued n = false →
    s.bitAt F.PWR_ISLAND_HOLD_HOLD n = false → s.wantsIslands n = false →
    (∃ i ∈ s.islandsOf n, s.bitAt F.CLK_ISLAND_POWERED i = true) → Answers (.islandIdleGate n) s fun t =>
      (∀ i ∈ s.islandsOf n, t.bitAt F.CLK_ISLAND_POWERED i = false) ∧
        (∀ g, s.inRect n (tileOfCore g) = true → t.core g = {}) ∧ (t.rgn n).needRebuild = (s.rgn n).image.isSome ∧
        (∀ p, p ∈ t.net ↔ p ∈ s.net ∧ inClusters n p = false) ∧ t.slices = s.slices ∧ t.hbm = s.hbm ∧ OtherRegions s t n) ∧
  (∀ (n : Fin 32) (s : State) (l : Launch) (im : Image) (h : HostData), (s.rgn n).launch = some l → (s.rgn n).image = some im →
    l.sent = false → s.rgnState n = rRUNNING → s.someGated n = false → (s.rgn n).needRebuild = true →
    s.mayRequest (n + 1) = true → (∀ k ∈ h.poisoned, im.bytes ≤ k) → crcHolds (hostBytes im.hostAddr im.bytes h.bytes) im.bytes = true →
    Answers (.imageRebuild n h) s fun t => (t.rgn n).needRebuild = false ∧ t.hbm = s.hbm ∧ OtherRegions s t n) ∧
  (∀ (n : Fin 32) (s : State), s.bitAt F.DYN_QUIESCING_QUIESCING n = true → s.settle.inPlane n = false →
    (s.rgn n).pendingFences = [] → Answers (.routeQuiesceEnd n) s fun t =>
      t.bitAt F.DYN_QUIESCING_QUIESCING n = false ∧ (∀ c ∈ t.mesh.credits, s.inRect n c.1 = false) ∧
        (t.rgn n).relays = (s.routeMap n).relays ∧ (t.rgn n).isolated = (s.routeMap n).isolated ∧
        t.fld (F.DYN_ROUTE_EPOCH n) = min (s.fld (F.DYN_ROUTE_EPOCH n) + 1) 0xFFFF ∧ OtherRegions s t n)


/-! ### Supply, temperatures, LOSS (03) -/

/-- The front end's events complete (R99, R100, R102 to R104, R115 to R117): a sample moves the time and PWR_VIN, PWR_IIN and the energy
take it; enough samples below LOSS_MV declare LOSS and one that is not below it declares none; the self-check sets METER_OK and on a
failure METER_FAIL, which sheds; readings of the die and of a stack are kept, with the two marks of a hot stack. -/
def Obligations.SupplyEventsComplete : Prop :=
  (∀ (mv ma : BitVec 16) (s : State), s.power.phase ≠ .off → Answers (.supplySample mv ma) s fun t =>
    t.time = s.nextSample ∧ t.fld F.PWR_VIN_LAST = mv.toNat ∧ t.fld F.PWR_IIN_LAST = ma.toNat ∧
      t.supply.lastSample = some s.nextSample ∧
      t.supply.energy = (if s.on F.PWR_ERR_METER_FAIL then s.supply.energy else s.supply.energy + mv.toNat * ma.toNat) ∧
      (t.power.phase = s.power.phase → ∀ p, p ∉ [Part.time, Part.supply] → p.same s t)) ∧
  (∀ (mv ma : BitVec 16) (s : State), s.power.phase = .run → s.on F.PWR_ERR_METER_FAIL = false →
    s.fld F.PWR_LOSS_SAMPLES ≤ s.supply.lossRun.count + 1 → mv.toNat < s.fld F.PWR_LOSS_MV →
    Answers (.supplySample mv ma) s fun t => t.power.phase = .loss) ∧
  (∀ (mv ma : BitVec 16) (s : State), s.power.phase = .run → 0 < s.fld F.PWR_LOSS_SAMPLES →
    s.fld F.PWR_LOSS_MV ≤ mv.toNat → Answers (.supplySample mv ma) s fun t => t.power.phase = .run) ∧
  (∀ s : State, s.power.phase ≠ .off → Answers (.meterSelfCheck true) s fun t =>
    t.fld F.PWR_STATUS_METER_OK = 1 ∧ OtherBits s t F.PWR_STATUS_METER_OK ∧ Frame s t [R.PWR_STATUS] []) ∧
  (∀ s : State, s.power.phase ≠ .off → s.on F.PWR_ERR_METER_FAIL = false → Answers (.meterSelfCheck false) s fun t =>
    t.fld F.PWR_STATUS_METER_OK = 0 ∧ t.fld F.PWR_ERR_METER_FAIL = 1 ∧ t.fld F.PWR_TICK_POWER_POWER = 0xFFFF ∧
      t.fld F.PWR_STATUS_SHED_REQ = 1 ∧ t.fld F.PWR_STATUS_SAG_ACTIVE = 0 ∧ t.fld F.PWR_STATUS_DROPOUT_ACTIVE = 0 ∧
      t.supply.sag = none ∧ t.supply.dropout = none ∧ t.supply.transient = none ∧
      ∀ p, p ≠ Part.supply → p.same s t) ∧
  (∀ (l : List (BitVec 8)) (s : State), s.power.phase ≠ .off → Answers (.junctionSensorRead l) s fun t =>
    t.fld F.PWR_TEMP_DIE_MAX_C = (l.map BitVec.toNat).foldl max 0 ∧
      t.fld F.PWR_TEMP_DIE_PEAK_C = max ((l.map BitVec.toNat).foldl max 0) (s.fld F.PWR_TEMP_DIE_PEAK_C) ∧
      (t.power.phase = s.power.phase → ∀ p, p ≠ Part.supply → p.same s t)) ∧
  (∀ (k : Fin 8) (c : BitVec 8) (s : State), s.power.phase ≠ .off → Answers (.hbmTempReport k c) s fun t =>
    t.fld (F.HBM_STATUS_TEMP_C k) = c.toNat ∧
      t.fld (F.HBM_STATUS_TEMP_CRITICAL k) = (if 105 ≤ c.toNat then 1 else if c.toNat ≤ 100 then 0
        else s.fld (F.HBM_STATUS_TEMP_CRITICAL k)) ∧
      t.fld (F.HBM_STATUS_TEMP_HOT k) = (if 95 ≤ c.toNat then 1 else if c.toNat ≤ 90 then 0
        else s.fld (F.HBM_STATUS_TEMP_HOT k)) ∧ ∀ p, p ≠ Part.supply → p.same s t)

/-- What LOSS leaves at once (R119, R122, R124, R201): the halves are off, nothing is held on die or in HBM, the event is in the log
with OVP as it was declared, and the last gasp is owed when it was armed. -/
def LossStarted (s t : State) (ovp : Nat) : Prop :=
  let i := s.supply.events % 32
  t.power.phase = .loss ∧ t.power.halves = false ∧ t.power.lastGasp = s.on F.PWR_STATUS_LG_ARMED ∧ t.hbm = {} ∧ t.cores = [] ∧
    t.net = [] ∧ t.slices = [] ∧ t.regions = [] ∧ t.flash.log = s.flash.log ∧ t.flash.perm = s.flash.perm ∧
    t.fld (F.PWR_EVT_W0_CLASS i) = 6 ∧ t.fld (F.PWR_EVT_W0_OVP i) = ovp ∧ t.fld (F.PWR_EVT_W0_THERM i) = 0 ∧
    t.fld F.PWR_EVT_TOTAL_TOTAL = (s.fld F.PWR_EVT_TOTAL_TOTAL + 1) % 2 ^ 32

/-- The overvoltage trip declares LOSS, and so does the undervoltage comparator while METER_FAIL is 1, with EXTREME_MV 0 (R93, R103);
then the last gasp is written as an entry of the log with the changes that were staged (R120, R122, R841), and the module powers
down: the flash and the fuses alone are kept (R123, R181, R182). -/
def Obligations.LossCompletes : Prop :=
  (∀ s : State, s.power.phase = .run → Answers .overvoltageTrip s fun t => LossStarted s t 1) ∧
  (∀ s : State, s.power.phase = .run → s.on F.PWR_ERR_METER_FAIL = true → Answers .undervoltageComparator s fun t =>
    LossStarted s t 0 ∧ t.fld (F.PWR_EVT_W0_EXTREME_MV (s.supply.events % 32)) = 0) ∧
  (∀ s : State, s.power.phase = .loss → s.power.lastGasp = true → Answers .lastGaspComplete s fun t =>
    t.power = { s.power with lastGasp := false } ∧
      (∃ e, e ∈ t.flash.log.flatten ∧ e.type = 3 ∧ e.seq = s.flash.newestSeq + 1 ∧ e.changes = s.vesper.staged) ∧
      Frame s t [R.VSP_ALM_SEQ_LO, R.VSP_ALM_SEQ_HI, R.VSP_ALMANAC] [.power, .flash]) ∧
  (∀ s : State, s.power.phase = .loss → s.power.lastGasp = false → Answers .powerDown s fun t =>
    t.flash = s.flash ∧ t.fuses = s.fuses ∧ t.power.phase = .off ∧ t.power.coldCause = .loss ∧ t.time = 0 ∧ t.hbm = {} ∧
      Frame State.reset t [] [.pending, .fuses, .flash, .power, .tap])

/-! ### Facility halt, M2 and M3 (03, 04) -/

/-- The facility halt (R138, R139, R141, R142, R144, R169, R171): both channels asserted drain every region in service; one channel
alone is counted in milliseconds, and beyond TD_MS halts with DISCREPANCY; the drained module is in M3; an accepted release powers the
halves, and at its end the module is in M1. -/
def Obligations.FacilityHaltCompletes : Prop :=
  (∀ s : State, s.power.phase = .run → s.power.releasing = false → s.fld F.PWR_FHALT_STATUS_HALTING = 0 →
    s.fld F.PWR_FHALT_STATUS_HALTED = 0 → Answers (.fhaltSample true true) s fun t =>
      t.fld F.PWR_FHALT_STATUS_A_ASSERTED = 1 ∧ t.fld F.PWR_FHALT_STATUS_B_ASSERTED = 1 ∧
        t.fld F.PWR_FHALT_STATUS_HALTING = 1 ∧ t.fld F.PWR_STATE_M2_ENTERING = 0 ∧ t.fhalt.aloneMs = 0 ∧
        t.power.waking = false ∧ (∀ n, n < 32 → s.rgnState n < 2 → t.rgnState n = s.rgnState n) ∧
        (∀ n, n < 32 → 2 ≤ s.rgnState n → (s.rgn n).reset = none → (s.rgn n).faultStop = false → (s.rgn n).clearing = false →
          t.rgnState n = rDRAINING ∧ ((t.rgn n).reset.map fun x => x.why) = some .halt) ∧ t.hbm = s.hbm ∧ t.net = s.net) ∧
  (∀ (a : Bool) (s : State), s.power.phase ≠ .off → s.fhalt.aloneMs + 1 ≤ s.fld F.PWR_FHALT_CTRL_TD_MS →
    Answers (.fhaltSample a !a) s fun t =>
      t.fld F.PWR_FHALT_STATUS_A_ASSERTED = bit a ∧ t.fld F.PWR_FHALT_STATUS_B_ASSERTED = bit !a ∧
        t.fhalt.aloneMs = s.fhalt.aloneMs + 1 ∧ Frame s t [R.PWR_FHALT_STATUS] [.fhalt]) ∧
  (∀ (a : Bool) (s : State), s.power.phase = .run → s.power.releasing = false → s.fld F.PWR_FHALT_STATUS_HALTING = 0 →
    s.fld F.PWR_FHALT_STATUS_HALTED = 0 → s.fld F.PWR_FHALT_CTRL_TD_MS < s.fhalt.aloneMs + 1 →
    Answers (.fhaltSample a !a) s fun t =>
      t.fld F.PWR_FHALT_STATUS_DISCREPANCY = 1 ∧ t.fld F.PWR_FHALT_STATUS_HALTING = 1) ∧
  (∀ s : State, s.fld F.PWR_FHALT_STATUS_HALTING = 1 → s.drained = true → s.flushWaits = false → s.power.heldWrites = [] →
    Answers .haltDrainComplete s fun t =>
      t.fld F.PWR_FHALT_STATUS_HALTED = 1 ∧ t.fld F.PWR_FHALT_STATUS_HALTING = 0 ∧ t.fld F.PWR_STATE_STATE = 3 ∧
        t.power.halves = false ∧ (∀ k, k < 8 → t.fld (F.HBM_STATUS_SELF_REFRESH k) = 1) ∧
        (∀ p, p < 4 → t.linkState p = lDISABLED) ∧ t.net = [] ∧ t.flash = s.flash) ∧
  (∀ (w : DwWrite) (cs : List Crossing) (s : State), s.power.phase = .run → (s.fn 0).memSpace = true → s.power.heldWrites = [] →
    s.fld F.PWR_STATE_STATE = 3 → s.releaseAccepted = true → PlainWrite w R.PWR_FHALT_CTRL → w.data.getLsbD 31 = true →
    20 ≤ bitsOf w.data.toNat 0 11 → bitsOf w.data.toNat 0 11 ≤ 2000 → Answers (.fhaltRelease w cs) s fun t =>
      t.fld F.PWR_FHALT_STATUS_HALTED = 0 ∧ t.power.releasing = true ∧ t.power.halves = true ∧
        t.fld F.PWR_FHALT_CTRL_TD_MS = bitsOf w.data.toNat 0 11 ∧
        (cs = [] → s.xings.failed = [] → t.fld F.CLK_STATUS_XING_TRAINED = 1) ∧ t.fld F.PWR_STATE_STATE = 3) ∧
  (∀ (p : PowerUp) (s : State), s.power.phase = .run → s.power.releasing = true → s.fhalt.held = false →
    Answers (.m3ReleaseComplete p) s fun t =>
    t.power.releasing = false ∧ t.fld F.PWR_STATE_STATE = 1 ∧ t.fld F.PWR_STATE_LAST_WAKE = 5 ∧
      ∀ k, k < 8 → t.fld (F.HBM_STATUS_SELF_REFRESH k) = 0)

/-- M2 (R161 to R165, R168): the entry's poll that finds work abandons it, and otherwise the module is in M2 with its halves off,
what READY regions held lost, and self-refresh on; a poll in M2, which drives CLKREQ_N (R239), starts the wake when it finds work, and so
does every other wake cause, with the HOST clock (R85); at its end the cause is in LAST_WAKE and the module in M1, or in M0 when a region
has a queued LAUNCH. -/
def Obligations.SleepAndWakeComplete : Prop :=
  (∀ (l : List (Fin 32 × PollRead)) (s u : State), s.power.phase = .run → s.fld F.PWR_STATE_M2_ENTERING = 1 →
    s.flushWaits = false → s.power.wakeLatched = none → s.pollAll l = (true, u) → Answers (.m2EntryComplete l) s fun t =>
      t.fld F.PWR_STATE_M2_ENTERING = 0 ∧ OtherBits u t F.PWR_STATE_M2_ENTERING ∧
        t.power = { u.power with m1Ticks := 0, wakeLatched := none } ∧ Frame u t [R.PWR_STATE] [.power]) ∧
  (∀ (l : List (Fin 32 × PollRead)) (s u : State), s.power.phase = .run → s.fld F.PWR_STATE_M2_ENTERING = 1 →
    s.flushWaits = false → s.power.wakeLatched = none → s.pollAll l = (false, u) → Answers (.m2EntryComplete l) s fun t =>
      t.fld F.PWR_STATE_STATE = 2 ∧ t.fld F.PWR_STATE_M2_ENTERING = 0 ∧ t.power.halves = false ∧
        (∀ n, n < 32 → u.rgnState n = rREADY → t.bitAt F.PWR_SLEEP_LOST_LOST n = true ∧
          (t.rgn n).needRebuild = (u.rgn n).image.isSome) ∧
        (∀ n, n < 32 → t.rgnState n = u.rgnState n) ∧ (∀ k, k < 8 → t.fld (F.HBM_STATUS_SELF_REFRESH k) = 1) ∧
        t.fld F.CLK_STATUS_HOST_LOCK = 0 ∧ t.net = [] ∧ t.cores = [] ∧ t.slices = []) ∧
  (∀ s : State, s.power.phase = .run → s.fld F.PWR_STATE_STATE = 2 → s.power.waking = false →
    Answers (.m2PollExcursion []) s fun t =>
      Frame s t [] [] ∧ Sent s t (if s.power.clkreq then [] else [.clkreq true, .clkreq false])) ∧
  (∀ (l : List (Fin 32 × PollRead)) (s u : State) (found : Bool), s.power.phase = .run → s.fld F.PWR_STATE_STATE = 2 →
    s.power.waking = false → s.fld F.PWR_FHALT_STATUS_HALTING = 0 → (s.driveClkreq true).pollAll l = (found, u) →
    Answers (.m2PollExcursion l) s fun t =>
      t.power.waking = found ∧ (found = true → t.power.wakeCode = 2 ∧ t.fld F.CLK_STATUS_HOST_LOCK = 1) ∧
        (found = false → t.power = s.power ∧ Frame u t [] [.power])) ∧
  (∀ (c : WakeCause) (cs : List Crossing) (s : State), s.power.phase = .run → s.fld F.PWR_STATE_STATE = 2 →
    s.power.waking = false → s.fld F.PWR_FHALT_STATUS_HALTING = 0 → Answers (.wakeCause c cs) s fun t =>
      t.power = { s.power with
        waking := true, wakeCode := wakeCodeOf c, wakeLatched := none, clkreq := true, wakeXings := s.power.wakeXings ++ cs } ∧
        t.fld F.CLK_STATUS_HOST_LOCK = 1 ∧ OtherBits s t F.CLK_STATUS_HOST_LOCK ∧ Frame s t [R.CLK_STATUS] [.power] ∧
        Sent s t (if s.power.clkreq then [] else [.clkreq true])) ∧
  (∀ (p : PowerUp) (s : State), s.power.phase = .run → s.power.waking = true → s.power.heldWrites = [] →
    Answers (.wakeComplete p) s fun t =>
      t.power.waking = false ∧ t.power.halves = true ∧ t.fld F.PWR_STATE_LAST_WAKE = s.power.wakeCode % 16 ∧
        t.fld F.CLK_STATUS_HOST_LOCK = s.fld F.CLK_STATUS_HOST_LOCK ∧
        (∀ k, k < 8 → t.fld (F.HBM_STATUS_SELF_REFRESH k) = 0) ∧
        (p = {} → s.power.wakeXings = [] →
          ((∀ n, n < 32 → s.launchQueued n = false) → t.fld F.PWR_STATE_STATE = 1) ∧
          ((∃ n, n < 32 ∧ s.launchQueued n = true ∧ s.islandsOf n ≠ []) → t.fld F.PWR_STATE_STATE = 0) ∧
          ∀ n, n < 32 → t.rgnState n = s.rgnState n))

/-! ### Warm reset and bring-up (04) -/

/-- The warm reset runs, with the kept PLDM cap enforced at once (R128, R174), and ends with every region FREE and READY 1 (R173, R177,
R179); bring-up starts AON, and then enters board test,
recovery or the clocks' start, as the flash says, and ends with READY 1 (R183, R190, R191, R876). -/
def Obligations.WarmResetsAndBringUpComplete : Prop :=
  (∀ (p : PowerUp) (s : State), s.power.phase = .warmReset → s.power.warmDue = true → Answers (.warmReset p) s fun t =>
      t.power.phase = .warmReset ∧ t.power.warmDue = false ∧ t.hbm = (if s.power.keepHbm then s.hbm else {}) ∧ t.flash = s.flash ∧
        (s.power.fromM3 = false → t.power.halves = true ∧ t.fld F.PWR_STATE_STATE = 1) ∧
        (s.power.fromM3 = true → s.power.releasing = false → p.failedChannels = [] →
          t.power.halves = false ∧ t.fld F.PWR_STATE_STATE = 3 ∧ ∀ k, k < 8 → t.fld (F.HBM_STATUS_SELF_REFRESH k) = 1) ∧
        (p = {} → t.net = [] ∧ t.cores = [] ∧ (s.power.fromM3 = false → t.fld F.CLK_STATUS_XING_TRAINED = 1) ∧
          t.fld F.PWR_CAP_STATUS_ENFORCED_W = enforcedCap 0 (s.fld F.PWR_CAP_PLDM_CAP_W) ∧
          ∀ n, n < 32 → s.rgnState n ≠ rFREE → t.rgnState n = rRESETTING)) ∧
  (∀ s : State, s.power.phase = .warmReset → s.power.warmDue = false → s.power.fromM3 = false → s.fhalt.held = false →
    Answers .warmResetComplete s fun t =>
      t.power.phase = .run ∧ t.fld F.RST_BOOT_STATUS_READY = 1 ∧ t.fld F.RST_BOOT_STATUS_PHASE = 8 ∧
        ∀ n, n < 32 → t.rgnState n = rFREE) ∧
  (∀ (p : PowerUp) (s : State), s.power.phase = .off → s.flash.bscan = true → Answers (.converterStart p) s fun t =>
    t.power.phase = .bringUp ∧ t.power.boardTest = true ∧ t.flash = { s.flash with bscan := false } ∧
      t.fld F.RST_BOOT_STATUS_PHASE = 1 ∧ t.power.halves = s.power.halves) ∧
  (∀ (p : PowerUp) (s : State), s.power.phase = .off → s.flash.bscan = false → s.bootSlot = none →
    Answers (.converterStart p) s fun t =>
      t.power.phase = .recovery ∧ t.fld F.RST_BOOT_STATUS_RECOVERY = 1 ∧ t.fld F.RST_BOOT_STATUS_PHASE = 10 ∧
        t.fld F.RST_ERR_IMAGE_SLOT_FAIL = 1 ∧ t.flash = s.flash ∧ t.power.halves = s.power.halves) ∧
  (∀ (b : Bool) (p : PowerUp) (s : State), s.power.phase = .off → s.flash.bscan = false → s.bootSlot = some b →
    Answers (.converterStart p) s fun t =>
      t.power.phase = .bringUp ∧ t.power.pwrgd = true ∧ t.power.halves = true ∧ t.fld F.RST_BOOT_STATUS_SLOT = bit b ∧
        t.fld F.RST_BOOT_STATUS_FALLBACK = bit (b != s.flash.selector) ∧ t.fld F.CLK_TILE_FREQ_IN_FORCE_MULT = 40 ∧
        (∀ k, k < 8 → t.fld (F.HBM_STATUS_TRAINED k) = 1) ∧ t.flash = s.flash) ∧
  (∀ s : State, s.power.phase = .bringUp → s.power.boardTest = false → s.fhalt.held = false →
    Answers .bringUpComplete s fun t =>
      t.power.phase = .run ∧ t.fld F.RST_BOOT_STATUS_READY = 1 ∧ t.fld F.VSP_STATUS_ALIVE = 1 ∧
        t.flash.boots = s.flash.boots + 1 ∧ t.flash.torn = 0)

/-! ### Clocks, the trim loop and the tick (02, 19) -/

/-- The clocks' events complete (R62, R63, R65, R79, R80, R87 to R89, R241): a shed is applied and counted, and ends; a slew ends at
the multiplier asked for; AON_TRIMMED says whether the window's count is within 100 ppm, and the trim code moves by at most one step a
window; lost references and PLLs set their error bits; the host
link's width and speed are kept. DEDUCED (log 136): AON_TRIMMED tells of the window just ended. -/
def Obligations.ClockEventsComplete : Prop :=
  (∀ s : State, s.power.halves = true → s.shedRequest = true → s.fld F.CLK_STATUS_SHED = 0 → Answers .shed s fun t =>
    t.fld F.CLK_STATUS_SHED = 1 ∧ t.fld F.CLK_SHED_SHED_COUNT = min (s.fld F.CLK_SHED_SHED_COUNT + 1) 0xFFFF ∧
      Frame s t [R.CLK_STATUS, R.CLK_SHED] [.supply]) ∧
  (∀ s : State, s.fld F.CLK_STATUS_SHED = 1 → s.shedRequest = false → Answers .unshed s fun t =>
    t.fld F.CLK_STATUS_SHED = 0 ∧ OtherBits s t F.CLK_STATUS_SHED ∧ Frame s t [R.CLK_STATUS] []) ∧
  (∀ s : State, s.fld F.CLK_STATUS_SLEWING = 1 → Answers .slewComplete s fun t =>
    t.fld F.CLK_TILE_FREQ_IN_FORCE_MULT = min (s.fld F.CLK_TILE_FREQ_CEILING_MULT) (s.fld F.CLK_TILE_FREQ_VESPER_MULT) ∧
      t.fld F.CLK_STATUS_SLEWING = 0 ∧ Frame s t [R.CLK_TILE_FREQ, R.CLK_STATUS] []) ∧
  (∀ (c : BitVec 20) (s : State), s.power.phase ≠ .off → Answers (.aonTrimWindow c) s fun t =>
    t.fld F.CLK_STATUS_AON_TRIMMED = bit (decide (63994 ≤ c.toNat ∧ c.toNat ≤ 64006)) ∧ t.fld F.CLK_STATUS_XTAL32_OK = 1 ∧
      (63999 ≤ c.toNat → c.toNat ≤ 64001 → t.fld F.CLK_AON_TRIM_TRIM_CODE = s.fld F.CLK_AON_TRIM_TRIM_CODE) ∧
      t.fld F.CLK_AON_TRIM_TRIM_CODE ≤ s.fld F.CLK_AON_TRIM_TRIM_CODE + 1 ∧
      s.fld F.CLK_AON_TRIM_TRIM_CODE ≤ t.fld F.CLK_AON_TRIM_TRIM_CODE + 1 ∧
      Frame s t [R.CLK_STATUS, R.CLK_AON_TRIM] []) ∧
  (∀ s : State, s.power.phase ≠ .off → Answers .xtal32Stop s fun t =>
    t.fld F.CLK_STATUS_XTAL32_OK = 0 ∧ t.fld F.CLK_STATUS_AON_TRIMMED = 0 ∧ t.fld F.CLK_ERR_XTAL32_FAIL = 1 ∧
      Frame s t [R.CLK_STATUS, R.CLK_ERR] []) ∧
  (∀ s : State, s.power.waking = true → Answers .xrefQualifyTimeout s fun t =>
    t.power = { s.power with waking := false, wakeXings := [] } ∧ t.fld F.CLK_ERR_XREF_FAIL = 1 ∧
      t.fld F.CLK_STATUS_XREF_OK = 0 ∧ t.fld F.CLK_STATUS_HOST_LOCK = 0 ∧
      Frame s t [R.CLK_ERR, R.CLK_STATUS] [.power]) ∧
  (∀ (h : Half) (s : State), s.power.halves = true → s.stopped h = false → Answers (.tilePllUnlock h) s fun t =>
    t.stopped h = true ∧ t.fld (lockOf h) = 0 ∧ t.fld (unlockOf h) = 1 ∧ Frame s t [R.CLK_STATUS, R.CLK_ERR] [.power]) ∧
  (∀ (h : Half) (s : State), s.power.halves = true → s.stopped h = true → Answers (.tilePllRelock h) s fun t =>
    t.stopped h = false ∧ t.fld (lockOf h) = 1 ∧ t.hbm = s.hbm ∧
      ∀ n, n < 32 → ((s.tilesOf n).any fun x => halfOfTile x = h) = false → t.rgnState n = s.rgnState n) ∧
  (∀ (p : Pll) (s : State), s.power.phase ≠ .off → Answers (.pllLossOfLock p) s fun t =>
    t.fld (match p with | .host => F.CLK_ERR_UNLOCK_HOST | .ctl => F.CLK_ERR_UNLOCK_CTL | .link => F.CLK_ERR_UNLOCK_LINK) = 1 ∧
      Frame s t [R.CLK_ERR, R.CLK_STATUS] []) ∧
  (∀ (w : BitVec 5) (v : BitVec 4) (s : State), s.pcieReleased = true → s.power.perst = false → w.toNat ∈ [1, 4, 8, 16] →
    1 ≤ v.toNat → v.toNat ≤ 6 → Answers (.pcieLinkTrained w v true) s fun t =>
      t.fld F.HOST_STATUS_WIDTH = w.toNat ∧ t.fld F.HOST_STATUS_SPEED = v.toNat ∧ t.fld F.HOST_STATUS_FLIT_MODE = 1 ∧
        (w.toNat < 16 ∨ v.toNat < 6 → t.fld F.HOST_ERR_LINK_DEGRADED = 1) ∧
        Frame s t [R.HOST_STATUS, R.HOST_ERR] []) ∧
  (∀ s : State, s.power.phase ≠ .off → s.power.phase ≠ .recovery → s.vesperRuns = true → Answers .vesperTick s fun t =>
    t.time = s.nextBoundary * 8192 % 2 ^ 48 ∧ t.fld F.VSP_LAST_TICK_TICK = t.tick ∧ t.vesper.lastTick = some t.tick ∧
      t.fld F.PWR_STATUS_LG_ARMED = 1 ∧ t.hbm = s.hbm) ∧
  (∀ s : State, s.power.phase ≠ .off → s.vesperRuns = false → Answers .vesperTick s fun t =>
    t.time = s.nextBoundary * 8192 % 2 ^ 48 ∧ Frame s t [] [.time, .supply, .power, .vesper, .ceLogged])


/-! ### Hymiyn links (17) -/

/-- Writes of a port's registers (R734, R751, R760): setting ENABLE of a DISABLED port starts its training; clearing it starts its
disabling, and the port keeps its state until that ends; HL_ASSIGN gives a port to a CONFIGURING region that reaches it, or takes it. -/
def Obligations.PortWritesComplete : Prop :=
  ∀ (p : Fin 4) (w : DwWrite) (s : State), s.Serves →
    let written (t : State) : Prop := t.fld (F.HL_CTRL_MIN_WIDTH p) = bitsOf w.data.toNat 4 2 ∧
      t.fld (F.HL_CTRL_AUTO_TRAIN p) = bitsOf w.data.toNat 1 1
    (PlainWrite w (R.HL_CTRL p) → bitsOf w.data.toNat 4 2 ≤ 2 →
      (w.data.getLsbD 0 = true → s.fld (F.HL_CTRL_ENABLE p) = 0 → s.portFenced p = false → s.linkState p = lDISABLED →
        Answers (.linkEnable p w) s fun t =>
          t.linkState p = lTRAINING ∧ (t.port p).attempt = true ∧ t.fld (F.HL_CTRL_ENABLE p) = 1 ∧ written t ∧
            t.fld F.INT_PF_EVENT_LINK = 1 ∧ Frame s t [R.HL_CTRL p, R.HL_STATUS p, R.INT_PF_EVENT] [.ports]) ∧
      (w.data.getLsbD 0 = false → s.fld (F.HL_CTRL_ENABLE p) = 1 →
        ((s.portRegion p).all fun n => s.rgnState n != rRUNNING) = true → s.linkState p ≠ lDISABLED →
        Answers (.linkDisable p w) s fun t =>
          t.port p = { s.port p with disabling := true } ∧ t.fld (F.HL_CTRL_ENABLE p) = 0 ∧ written t ∧
            Frame s t [R.HL_CTRL p] [.ports])) ∧
    (PlainWrite w (R.HL_ASSIGN p) →
      (w.data.getLsbD 8 = true → s.portRegion p = none → s.vfExists (bitsOf w.data.toNat 0 5) = true →
        s.rgnState (bitsOf w.data.toNat 0 5) = rCONFIGURING → s.portFits (bitsOf w.data.toNat 0 5) p = true →
        Answers (.portAssign p w) s fun t =>
          t.portRegion p = some (bitsOf w.data.toNat 0 5) ∧ Frame s t [R.HL_ASSIGN p] []) ∧
      (∀ n, w.data.getLsbD 8 = false → s.portRegion p = some n → s.vfExists n = true → s.rgnState n = rCONFIGURING →
        Answers (.portUnassign p w) s fun t => t.portRegion p = none ∧ Frame s t [R.HL_ASSIGN p] []))

/-- Training (R733 to R738, R748, R750, R759): full training ends UP at the width that the good lanes allow, in the session it
resumes or in a fresh one; with a partner of another fabric, or a failed step, the attempt fails and is counted; an UP port retrains,
without the lanes that erred too often, and is UP again, or loses its link, which faults its running region with LINK_LOST. -/
def Obligations.LinkTrainingCompletes : Prop :=
  (∀ (p : Fin 4) (r : TrainResult) (s : State) (g : LaneGroup), s.linkState p = lTRAINING → (s.port p).attempt = true →
    s.linkClocks = true → s.portFenced p = false → r.partnerFabric.toNat = s.fld F.HL_MODULE_FABRIC_ID →
    r.partnerModule.toNat ≠ s.fld F.HL_MODULE_MODULE_ID → s.chooseWidth p r.lanesGood.toNat 0 = some g →
    Answers (.linkTrainingComplete p r) s fun t =>
      let who := (r.partnerSerial.toNat, r.partnerPort.val)
      t.linkState p = lUP ∧ t.fld (F.HL_STATUS_WIDTH p) = g.width % 4 ∧ t.fld (F.HL_STATUS_LANE_GROUP p) = g.group % 4 ∧
        t.fld (F.HL_STATUS_LANES_GOOD p) = r.lanesGood.toNat ∧ t.fld (F.HL_PARTNER_PORT p) = r.partnerPort ∧
        t.fld (F.HL_PARTNER_MODULE_ID p) = r.partnerModule.toNat ∧ t.fld (F.HL_PARTNER_FABRIC_ID p) = r.partnerFabric.toNat ∧
        t.fld (F.HL_STATUS_RESUMED p) = bit (r.resumes && (s.port p).session == some who) ∧ (t.port p).session = some who ∧
        (t.port p).attempt = false ∧
        ((t.port p).lastRx = if r.resumes && (s.port p).session == some who then (s.port p).lastRx else 4095)) ∧
  (∀ (p : Fin 4) (r : TrainResult) (s : State), s.linkState p = lTRAINING → (s.port p).attempt = true →
    s.linkClocks = true → s.portFenced p = false →
    (r.partnerFabric.toNat ≠ s.fld F.HL_MODULE_FABRIC_ID ∨ r.partnerModule.toNat = s.fld F.HL_MODULE_MODULE_ID) →
    Answers (.linkTrainingComplete p r) s fun t =>
      t.linkState p = lTRAINING ∧ t.fld (F.HL_ERR_PARTNER_ERR p) = 1 ∧
        t.fld (F.HL_TRAINS_TRAIN_FAILS p) = min (s.fld (F.HL_TRAINS_TRAIN_FAILS p) + 1) 0xFFFF ∧ (t.port p).attempt = false ∧
        Frame s t [R.HL_PARTNER p, R.HL_STATUS p, R.HL_ERR p, R.HL_TRAINS p] [.ports] ∧ Sent s t []) ∧
  (∀ (p : Fin 4) (s : State), s.linkState p = lTRAINING → (s.port p).attempt = true → Answers (.linkTrainingFail p) s fun t =>
    t.port p = { s.port p with attempt := false } ∧
      t.fld (F.HL_TRAINS_TRAIN_FAILS p) = min (s.fld (F.HL_TRAINS_TRAIN_FAILS p) + 1) 0xFFFF ∧
      Frame s t [R.HL_TRAINS p] [.ports] ∧ Sent s t []) ∧
  (∀ (p : Fin 4) (s : State), s.linkState p = lTRAINING → (s.port p).attempt = false → s.fld (F.HL_CTRL_ENABLE p) = 1 →
    Answers (.linkTrainingRetry p) s fun t => t.port p = { s.port p with attempt := true } ∧ Frame s t [] [.ports] ∧ Sent s t []) ∧
  (∀ (p : Fin 4) (lanes : BitVec 16) (s : State), s.linkState p = lUP → Answers (.linkRetrain p lanes) s fun t =>
    t.linkState p = lRETRAINING ∧ (t.port p).badLanes = (s.port p).badLanes ||| lanes.toNat ∧ t.fld (F.HL_TRAINS_RETRAINS p) = min (s.fld (F.HL_TRAINS_RETRAINS p) + 1) 0xFFFF ∧
      t.fld F.INT_PF_EVENT_LINK = 1 ∧ (t.port p).session = (s.port p).session ∧
      Frame s t [R.HL_STATUS p, R.HL_TRAINS p, R.INT_PF_EVENT] [.ports]) ∧
  (∀ (p : Fin 4) (l : List (BitVec 16)) (s : State), s.linkState p = lUP →
    (∃ i ∈ s.lanesInUse p, s.fld (F.HL_LANE_LIMIT_LANE_ERR_LIMIT p) < (l.getD i 0).toNat) →
    Answers (.laneErrorWindow p l) s fun t =>
      t.linkState p = lRETRAINING ∧
        (∀ i ∈ s.lanesInUse p, s.fld (F.HL_LANE_LIMIT_LANE_ERR_LIMIT p) < (l.getD i 0).toNat →
          (t.port p).badLanes.testBit i = true) ∧ Frame s t [R.HL_STATUS p, R.HL_TRAINS p, R.INT_PF_EVENT] [.ports]) ∧
  (∀ (p : Fin 4) (lanes : BitVec 16) (s : State) (g : LaneGroup), s.linkState p = lRETRAINING →
    s.chooseWidth p lanes.toNat (s.port p).badLanes = some g → Answers (.linkRetrainComplete p lanes true) s fun t =>
      t.linkState p = lUP ∧ t.fld (F.HL_STATUS_WIDTH p) = g.width % 4 ∧ t.fld (F.HL_STATUS_LANE_GROUP p) = g.group % 4 ∧
        (t.port p).session = (s.port p).session ∧ (t.port p).lastRx = (s.port p).lastRx ∧
        ∀ i < 16, lanes.getLsbD i = false → (t.port p).badLanes.testBit i = true) ∧
  (∀ (p : Fin 4) (lanes : BitVec 16) (s : State), s.linkState p = lRETRAINING → Answers (.linkRetrainComplete p lanes false) s fun t =>
      t.linkState p = lTRAINING ∧ (t.port p).attempt = true ∧ t.fld (F.HL_STATUS_WIDTH p) = 0 ∧
        t.fld (F.HL_ERR_LINK_LOST p) = 1 ∧ t.hbm = s.hbm ∧
        ∀ n, s.portRegion p = some n → s.rgnState n = rRUNNING → (s.rgn n).reset = none → (s.rgn n).clearing = false →
          (s.rgn n).pendingFences = [] → t.rgnState n = rDRAINING ∧ t.fld (F.RGN_FAULT_CAUSE n) = 8 ∧ t.net = s.net) ∧
  (∀ (p : Fin 4) (s : State), (s.port p).disabling = true → s.fld (F.HL_CTRL_ENABLE p) = 0 →
    Answers (.linkDisableComplete p) s fun t =>
      t.linkState p = lDISABLED ∧ (t.port p).disabling = false ∧ (t.port p).session = none ∧ (t.port p).flight = [] ∧
        (t.port p).outq = [] ∧ (t.port p).replay = [] ∧ (s.linkState p = lUP → t.fld (F.HL_ERR_LINK_LOST p) = 1)) ∧
  (∀ (p : Fin 4) (s : State), (s.port p).disabling = true → s.fld (F.HL_CTRL_ENABLE p) = 1 →
    Answers (.linkDisableComplete p) s fun t =>
      t.linkState p = lTRAINING ∧ (t.port p).disabling = false ∧ (t.port p).attempt = true ∧ (t.port p).session = none)

/-- The port may send a packet of RSP at once: it is UP, nothing waits before it, and it holds the link credits and room for it. -/
abbrev CanAnswer (s : State) (p : Nat) : Prop :=
  s.linkState p = lUP ∧ (s.port p).outq = [] ∧ (s.port p).replay.length < 1024 ∧ (s.port p).disabling = false ∧
    17 ≤ s.fld (F.HL_CREDITS_RSP_HELD p)

/-- Flits (R740, R742 to R744, R746): a good DATA flit that is next in sequence delivers its packets; one that fails is counted and, if it
is DATA, asked for again; a time-out sends again what is not acknowledged.
The module sends one packet in a DATA flit (DESIGN CHOICE, log 15). -/
def Obligations.FlitsComplete : Prop :=
  (∀ (p : Fin 4) (f : Flit) (s : State), s.linkState p = lUP → f.uncorrectable = false → f.crcOk = true → f.formatOk = true →
    f.isData = true → f.nak = false → f.seq.toNat = ((s.port p).lastRx + 1) % 4096 → Answers (.flitReceive p f) s fun t =>
      (t.port p).ingress = (s.port p).ingress ++ f.packets ∧ (t.port p).lastRx = f.seq.toNat ∧ (t.port p).nak = false ∧
        t.fld (F.HL_FEC_CORR_CORRECTED p) = min (s.fld (F.HL_FEC_CORR_CORRECTED p) + f.corrected) 0xFFFFFFFF ∧
        (t.port p).seenReq = f.creditsReq % 16384 ∧ (t.port p).seenRsp = f.creditsRsp % 16384) ∧
  (∀ (p : Fin 4) (f : Flit) (s : State), s.linkState p = lUP → (f.uncorrectable = true ∨ f.crcOk = false ∨ f.formatOk = false) →
    Answers (.flitReceive p f) s fun t =>
      t.port p = { s.port p with nak := f.isData || (s.port p).nak } ∧
        (f.uncorrectable = true → t.fld (F.HL_FEC_UNCORR_UNCORRECTED p) =
          min (s.fld (F.HL_FEC_UNCORR_UNCORRECTED p) + 1) 0xFFFFFFFF) ∧
        (f.uncorrectable = false → f.crcOk = false →
          t.fld (F.HL_CRC_FAIL_CRC_FAIL p) = min (s.fld (F.HL_CRC_FAIL_CRC_FAIL p) + 1) 0xFFFFFFFF) ∧
        (f.uncorrectable = true ∨ f.crcOk = true → t.fld (F.HL_CRC_FAIL_CRC_FAIL p) = s.fld (F.HL_CRC_FAIL_CRC_FAIL p)) ∧
        Frame s t [R.HL_FEC_CORR p, R.HL_FEC_UNCORR p, R.HL_CRC_FAIL p] [.ports] ∧ Sent s t []) ∧
  (∀ (p : Fin 4) (s : State), s.linkState p = lUP → (s.port p).replay ≠ [] → (s.port p).stuck < 7 →
    Answers (.replayTimeout p) s fun t =>
      t.port p = { s.port p with stuck := (s.port p).stuck + 1 } ∧
        t.fld (F.HL_REPLAYS_REPLAYS p) = min (s.fld (F.HL_REPLAYS_REPLAYS p) + 1) 0xFFFFFFFF ∧
        Sent s t ((s.port p).replay.map fun f => .link p f.pkt) ∧ Frame s t [R.HL_REPLAYS p] [.ports])

/-- A request of the partner to an address of region n may be served now (R330, R537, R540): it may cross the region's plane to its home
slices, and the column has its turn. -/
abbrev LinkServes (s : State) (port : Nat) (p : LinkPacket) (n a len : Nat) : Prop :=
  s.rangeCrosses n port a len = true ∧ s.stopTurn (s.linkStop port p n a) = true

/-- Requests of the partner (R751 to R757): one that the region does not admit is answered with ERROR and counted; a READ is answered with
the bytes it names; a WRITE into pinned ways changes the bytes its mask names and no other, and is acknowledged; an ATOMIC changes its
word and returns the old value or an ACK. -/
def Obligations.PartnerRequestsComplete : Prop :=
  ∀ (port : Fin 4) (p : LinkPacket) (s : State), s.headOf port p = true → s.power.halves = true → CanAnswer s port →
    let answered (t : State) (k : PacketKind) (code : Nat) (l : List Byte) : Prop :=
      ∃ x, Out.link port x ∈ t.out ∧ x.kind = k ∧ x.tag = p.tag ∧ x.code = code ∧ x.bytes.take l.length = l
    (∀ code i, s.refusal port p = some code → (p.kind, i) ∈ [(PacketKind.read, Instr.linkRead port p),
        (.write, .linkWrite port p), (.atomic, .linkAtomic port p)] → Answers i s fun t =>
      answered t .error code [] ∧ (t.port port).ingress = (s.port port).ingress.erase p ∧
        t.fld (F.HL_REFUSED_REFUSED_IN port) = min (s.fld (F.HL_REFUSED_REFUSED_IN port) + 1) 0xFFFF ∧
        t.slices = s.slices ∧ t.hbm = s.hbm ∧ t.cores = s.cores) ∧
    (∀ n a, s.refusal port p = none → s.portRegion port = some n → s.localAddr n p = some a →
      (p.kind = .read → LinkServes s port p n a p.size → s.rangeHeld n cLINKIN a p.size = false →
        Answers (.linkRead port p) s fun t =>
          answered t .data 0 ((s.leaveIngress port p).loadRange n a p.size cLINKIN).1 ∧
            (t.port port).ingress = (s.port port).ingress.erase p ∧ t.cores = s.cores) ∧
      (∀ i b, p.kind = .write → LinkServes s port p n a p.bytes.length → s.rangeShut n a p.bytes.length = false →
        s.locate n a = .pinned i b → a % 64 = 0 → p.bytes.length ≤ 64 → p.poison = [] → b + 64 ≤ 0x600000 →
        Answers (.linkWrite port p) s fun t =>
          answered t .ack 0 [] ∧ (t.port port).ingress = (s.port port).ingress.erase p ∧
            (∀ k, k < p.bytes.length → (16 ≤ k ∨ p.mask.getD k false = true) →
              ∀ d, t.sramByte i d (b + k) = p.bytes.getD k 0) ∧
            (∀ d x, x < 0x600000 → (∀ k, k < p.bytes.length → (16 ≤ k ∨ p.mask.getD k false = true) → x ≠ b + k) →
              t.sramByte i d x = s.sramByte i d x) ∧
            (∀ j, j ≠ i → t.slice j = s.slice j) ∧ t.hbm = s.hbm ∧ t.cores = s.cores) ∧
      (∀ i b, p.kind = .atomic → s.crosses n port a = true → s.stopTurn (s.linkStop port p n a) = true →
        s.pieceHeld n cLINKIN a (atomBytes (linkAfmt p)) = false → s.locate n a = .pinned i b → p.poison = [] →
        Answers (.linkAtomic port p) s fun t =>
          let r := atomicOn (s.slice i).sram s.draws (s.cell i b) (linkAop p) (linkAfmt p) (fromBytes (p.bytes.take 8))
            (fromBytes (p.bytes.drop 8)) false
          (t.slice i).sram = r.2.2 ∧ (∀ j, j ≠ i → t.slice j = s.slice j) ∧
            (if linkRet p then answered t .data 0 (toBytes (atomBytes (linkAfmt p)) r.1) else answered t .ack 0 []) ∧
            t.fld (F.MSL_ATOM_COUNT_ATOMS i) = (s.fld (F.MSL_ATOM_COUNT_ATOMS i) + 1) % 2 ^ 32 ∧
            t.hbm = s.hbm ∧ t.cores = s.cores))

/-- A transfer toward the slices at a column of a port's ring: the registers it counts in, and the components it changes. -/
def ringIn (n cls port col : Nat) : List Nat :=
  [R.ER_IN_TOTAL (ringOfPort port), R.ER_COL_IN (ringOfPort port) col, R.RGN_DLY_BUDGET n cls]

/-- Messages, credits and responses of the partner (R547, R755, R757, R764 to R767, R774): a MESSAGE of the current epoch takes the ring
to the column of its destination and enters the region's plane there; another is dropped and counted; a CREDIT sets or adds to a count;
DATA, ACK and ERROR end the request they answer: a core's read or returning atomic gets its bytes and its write the acknowledgement,
by the plane of its region; what an ERROR does not bring is poisoned, and is logged as received from outside (DEDUCED, log 23, for one
that the module's port made itself). -/
def Obligations.PartnerAnswersComplete : Prop :=
  ∀ (port : Fin 4) (p : LinkPacket) (s : State), s.headOf port p = true →
    let gone (t : State) : Prop := (t.port port).ingress = (s.port port).ingress.erase p
    (∀ n k c dst col, p.kind = .message → s.portRegion port = some n → s.inChannel n port p.chan = some (k, c) →
      s.rgnState n = rRUNNING → p.epoch = smGet (s.port port).inEpoch 0 p.chan →
      ((∃ g q, c.dst = .core g q ∧ dst = Agent.core g ∧ col = tileX (tileOfCore g)) ∨
        (∃ i q d, c.dst = .cq i q d ∧ dst = Agent.slice i ∧ col = i % 16)) → Answers (.linkMessage port p) s fun t =>
        let lo : Word64 := BitVec.ofNat 64 (fromBytes (p.bytes.take 8))
        let hi : Word64 := BitVec.ofNat 64 (fromBytes (p.bytes.drop 8))
        (∃ m, t.net = s.net ++ [m] ∧ m.kind = .message ∧ m.region = n ∧ m.src = .slice (sliceOfTile (entryTile port col)) ∧
          m.dst = dst ∧ m.chan = k ∧ m.key = 2048 + 256 * port.val + p.chan ∧
          m.bytes = memAt 0 (toBytes 8 lo.toNat ++ toBytes 8 hi.toNat)) ∧
          gone t ∧ Frame s t (ringIn n cLINKIN port col) [.net, .ports, .stops, .ringTurn] ∧ Sent s t []) ∧
    (∀ n k c, p.kind = .message → s.portRegion port = some n → s.inChannel n port p.chan = some (k, c) →
      (s.rgnState n ≠ rRUNNING ∨ p.epoch ≠ smGet (s.port port).inEpoch 0 p.chan) → Answers (.linkMessage port p) s fun t =>
        t.fld (F.HL_STALE_STALE_DROP port) = min (s.fld (F.HL_STALE_STALE_DROP port) + 1) 0xFFFFFFFF ∧ gone t ∧
          Frame s t [R.HL_STALE port] [.ports] ∧ Sent s t []) ∧
    (p.kind = .credit → p.set = true → Answers (.linkCredit port p) s fun t =>
      smGet (t.port port).outCount 0 p.chan = p.count ∧ smGet (t.port port).outEpoch 0 p.chan = p.epoch ∧ gone t ∧
        Frame s t [] [.ports] ∧ Sent s t []) ∧
    (p.kind = .credit → p.set = false → p.epoch = smGet (s.port port).outEpoch 0 p.chan →
      Answers (.linkCredit port p) s fun t =>
        smGet (t.port port).outCount 0 p.chan = smGet (s.port port).outCount 0 p.chan + p.count ∧ gone t ∧
          Frame s t [] [.ports] ∧ Sent s t []) ∧
    (∀ (q : Packet) (g : Nat), (s.port port).flight.find? (fun q => q.id % 65536 == p.tag) = some q → q.src = .core g →
      q.dst = .port port → q.region < 32 → s.cutOff q.region (tileOfCore g) = false →
      let col := tileX (tileOfCore g)
      let wrote := q.kind = .write ∨ q.kind = .atomic ∧ q.ret = false
      let fetched := q.kind = .read ∨ q.kind = .atomic ∧ q.ret = true
      let o := if q.kind = .atomic then 0 else q.addr % 16
      let answer (t : State) (m : Packet) : Prop :=
        t.net = s.net ++ [m] ∧ m.region = q.region ∧ m.src = .slice (sliceOfTile (entryTile port col)) ∧ m.dst = .core g ∧
          m.tag = q.id ∧ m.addr = q.addr ∧ m.size = q.size ∧ gone t ∧ (∀ x ∈ (t.port port).flight, x.id ≠ q.id) ∧
          t.cores = s.cores
      let regs := ringIn q.region cDYN port col
      (p.kind = .data → fetched → o + q.size ≤ p.bytes.length → Answers (.linkData port p) s fun t =>
        (∃ m, answer t m ∧ m.kind = .data ∧ m.bytes = memAt 0 ((List.range q.size).map fun i => p.bytes.getD (o + i) 0)) ∧
          Frame s t regs [.net, .ports, .stops, .ringTurn] ∧ Sent s t []) ∧
      (p.kind = .ack → wrote → Answers (.linkAck port p) s fun t =>
        (∃ m, answer t m ∧ m.kind = .ack ∧ m.code = 2 ∧ m.writers = q.contributors) ∧
          Frame s t regs [.net, .ports, .stops, .ringTurn] ∧ Sent s t []) ∧
      (p.kind = .error → Answers (.linkError port p) s fun t =>
        t.fld (F.HL_REFUSED_REFUSED_OUT port) = min (s.fld (F.HL_REFUSED_REFUSED_OUT port) + 1) 0xFFFF ∧
          t.fld F.INT_INTEG_STATUS_POISON_IN = 1 ∧
          (wrote → ∃ m, answer t m ∧ m.kind = .ack ∧ m.code = 2 ∧ m.writers = q.contributors) ∧
          (fetched → ∃ m, answer t m ∧ m.kind = .data ∧
            ∀ i, i < q.size → (q.addr + i) / 8 - q.addr / 8 ∈ m.poison)))


/-! ### Vesper: restarts, the Almanac, the mailbox (19, 20) -/

/-- Vesper's own steps and the mailbox's registers (R810 to R812, R835, R836, R842, R845): firmware restarts, and starts again from a slot
that passes, with a BOOT entry; the oldest queued entry is written into the flash, or the permanent table; GO makes a request
PENDING with the next SEQ; clearing DONE frees the mailbox. -/
def Obligations.VesperStepsComplete : Prop :=
  (∀ (c : RestartCause) (s : State), s.vesperRuns = true → (c = .activation → s.vesper.restartDue = true) →
    Answers (.vesperRestart c) s fun t =>
      t.fld F.VSP_STATUS_ALIVE = 0 ∧ t.fld F.VSP_STATUS_RESTARTING = 1 ∧ t.fld F.VSP_STATUS_UPDATE = 0 ∧
        t.fld F.VSP_STATUS_RESTARTS = min (s.fld F.VSP_STATUS_RESTARTS + 1) 0xFFFF ∧ t.vesper.restart = some c ∧
        t.vesper.requests = [] ∧ t.vesper.queue = s.vesper.queue ∧ Frame s t [R.VSP_STATUS] [.vesper] ∧ Sent s t []) ∧
  (∀ (b : Bool) (s : State), s.fld F.VSP_STATUS_RESTARTING = 1 → s.power.phase ≠ .loss → s.bootSlot = some b →
    s.vesper.queue.length < 4096 → Answers .vesperRestartComplete s fun t =>
      t.fld F.VSP_STATUS_ALIVE = 1 ∧ t.fld F.VSP_STATUS_RESTARTING = 0 ∧ t.fld F.RST_BOOT_STATUS_SLOT = bit b ∧
        t.vesper.restart = none ∧ t.vesper.orders = [] ∧
        (∃ e, t.vesper.queue = s.vesper.queue ++ [e] ∧ e.type = 1 ∧ e.seq = s.vesper.nextSeq) ∧
        Frame s t [R.VSP_STATUS, R.RST_BOOT_STATUS, R.VSP_FW, R.RST_ERR, R.VSP_ALMANAC] [.vesper]) ∧
  (∀ (s : State) (e : AlmEntry) (rest : List AlmEntry), s.vesperRuns = true → s.vesper.queue = e :: rest →
    s.vesper.permDue = false → s.vesper.dropped = 0 → Answers .almanacFlashWrite s fun t =>
      t.vesper.queue = rest ∧ e ∈ t.flash.log.flatten ∧ t.flash.perm = s.flash.perm ∧
        Frame s t [R.VSP_ALMANAC, R.VSP_ALM_SEQ_LO, R.VSP_ALM_SEQ_HI] [.vesper, .flash] ∧ Sent s t []) ∧
  (∀ s : State, s.vesperRuns = true → s.vesper.queue = [] → s.vesper.permDue = true → Answers .almanacFlashWrite s fun t =>
      t.flash = { s.flash with perm := s.permTable, generation := s.flash.generation + 1 } ∧ t.vesper.permDue = false ∧
        Frame s t [] [.vesper, .flash] ∧ Sent s t []) ∧
  (∀ (w : DwWrite) (s : State), s.Serves → PlainWrite w R.VSP_MBOX_CMD → w.data.getLsbD 31 = true →
    bitsOf w.data.toNat 8 8 ≤ 64 → s.fld F.VSP_MBOX_STATUS_STATE = 0 → Answers (.mailboxSubmit w) s fun t =>
      t.fld F.VSP_MBOX_STATUS_STATE = 1 ∧ t.fld F.VSP_MBOX_STATUS_SEQ = (s.fld F.VSP_MBOX_STATUS_SEQ + 1) % 256 ∧
        t.fld F.VSP_MBOX_CMD_CODE = bitsOf w.data.toNat 0 8 ∧ t.fld F.VSP_MBOX_CMD_REQ_WORDS = bitsOf w.data.toNat 8 8 ∧
        Frame s t [R.VSP_MBOX_CMD, R.VSP_MBOX_STATUS] []) ∧
  (∀ (w : DwWrite) (s : State), s.Serves → PlainWrite w R.VSP_MBOX_STATUS → w.data.getLsbD 2 = true →
    s.fld F.VSP_MBOX_STATUS_DONE = 1 → Answers (.mailboxDoneClear w) s fun t =>
      t.fld F.VSP_MBOX_STATUS_STATE = 0 ∧ t.fld F.VSP_MBOX_STATUS_DONE = 0 ∧
        t.fld F.VSP_MBOX_STATUS_SEQ = s.fld F.VSP_MBOX_STATUS_SEQ ∧ Frame s t [R.VSP_MBOX_STATUS] []) ∧
  (∀ (i : Fin 192) (s : State), i.val ∈ s.clearing → Answers (.serviceClearComplete i) s fun t =>
      i.val ∉ t.clearing ∧ t.unitState .tile i = 0 ∧ (isSliceTile i = true → t.slice (sliceOfTile i) = {}) ∧
        (isSliceTile i = false → t.cluster (clusterOfTile i) = {}) ∧ t.cores = s.cores ∧ t.hbm = s.hbm)

/-- The request with this code has been taken at a tick and waits for its answer (R835). -/
abbrev Taken (s : State) (code : Nat) : Prop :=
  s.vesper.mailDue = true ∧ s.vesperRuns = true ∧ s.fld F.VSP_MBOX_STATUS_STATE = 1 ∧ s.fld F.VSP_MBOX_CMD_CODE = code

/-- The mailbox is DONE with RESULT `r` and the response `l` (R835, R836). -/
def Mailed (t : State) (r : Nat) (l : List Nat) : Prop :=
  t.fld F.VSP_MBOX_STATUS_STATE = 2 ∧ t.fld F.VSP_MBOX_STATUS_DONE = 1 ∧ t.fld F.VSP_MBOX_STATUS_RESULT = r ∧
    t.fld F.VSP_MBOX_STATUS_RESP_WORDS = l.length ∧
    (∀ i, i < l.length → t.word (R.VSP_MBOX_RESP i) 0 = l.getD i 0 % 2 ^ 32) ∧ t.vesper.mailDue = false

/-- The registers that an answer writes. -/
def mailRegs : List Nat := R.VSP_MBOX_STATUS :: (List.range 64).map R.VSP_MBOX_RESP

/-- The mailbox commands (R833, R834, R837, R844, R854, R866, R867, R869, R876). Those that read answer with the words of their table; a
region or a SEQ that is not there with BAD_ARGUMENT or NOT_FOUND. An entry is released, the port configuration written, a fence or a
release of a unit ordered, a capture started, board test armed and disarmed; a refused argument changes nothing but the answer.
The state that FENCE_UNIT and RELEASE_UNIT answer is the one of the record as it stands (DEDUCED, log 21). -/
def Obligations.MailboxCommandsComplete : Prop :=
  (∀ s : State, s.vesper.mailRecord.length ≤ 256 →
      (Taken s 1 → Answers .getInfo s fun t => Mailed t 0 [s.word R.VSP_FW 0, s.fld F.RST_BOOT_STATUS_FW_SVN,
        s.fld F.RST_BOOT_STATUS_SLOT, s.flash.newestSeq % 2 ^ 32, s.flash.newestSeq / 2 ^ 32 % 2 ^ 32] ∧
          Frame s t mailRegs [.vesper]) ∧
      (Taken s 2 → Answers .getTelemetryModule s fun t =>
        Mailed t 0 (toWords s.vesper.mailRecord) ∧ Frame s t mailRegs [.vesper]) ∧
      (∀ w, Taken s 3 → s.reqWord? 0 = some w → Answers .getTelemetryRegion s fun t =>
        (if w < 32 then Mailed t 0 (toWords s.vesper.mailRecord) else Mailed t 2 []) ∧ Frame s t mailRegs [.vesper]) ∧
      (Taken s 4 → Answers .getCalibration s fun t =>
        Mailed t 0 (Config.staticIsland :: Config.staticSlice :: (List.range 11).map Config.eventEnergy) ∧
          Frame s t mailRegs [.vesper]) ∧
      (∀ key, Taken s 5 → s.reqUnit = some key → Answers .getUnitRecord s fun t =>
        let r := s.record key
        Mailed t 0 [r.state + s.pathState key * 2 ^ 8 + r.cause * 2 ^ 16, r.tick, r.seq, r.seq / 2 ^ 32] ∧
          Frame s t mailRegs [.vesper]) ∧
      (∀ lo hi off e, Taken s 6 → s.reqWord? 0 = some lo → s.reqWord? 1 = some hi → s.reqWord? 2 = some off →
        lo + hi * 2 ^ 32 ≠ 2 ^ 64 - 1 → s.almAt (lo + hi * 2 ^ 32) = some e → Answers .almanacRead s fun t =>
          let data := (e.bytes.drop off).take 236
          let next := (s.seqFrom (e.seq + 1)).getD (e.seq + 1)
          Mailed t 0 ([e.seq, e.seq / 2 ^ 32, data.length, next, next / 2 ^ 32] ++ toWords data) ∧ Frame s t mailRegs [.vesper]) ∧
      (∀ lo hi off, Taken s 6 → s.reqWord? 0 = some lo → s.reqWord? 1 = some hi → s.reqWord? 2 = some off →
        lo + hi * 2 ^ 32 ≠ 2 ^ 64 - 1 → s.almAt (lo + hi * 2 ^ 32) = none → Answers .almanacRead s fun t =>
          Mailed t 3 [] ∧ Frame s t mailRegs [.vesper])) ∧
  (∀ (s : State) (lo hi : Nat) (e : AlmEntry), Taken s 7 → s.reqWord? 0 = some lo → s.reqWord? 1 = some hi →
    e ∈ s.flash.log.flatten → e.seq = lo + hi * 2 ^ 32 → e.kept = true → Answers .almanacRelease s fun t =>
      Mailed t 0 [] ∧ (∀ x ∈ t.flash.log.flatten, x.seq = e.seq → x.kept = false) ∧
        (∀ x ∈ s.flash.log.flatten, x.seq ≠ e.seq → x ∈ t.flash.log.flatten) ∧
        Frame s t ([R.VSP_ALM_SEQ_LO, R.VSP_ALM_SEQ_HI, R.VSP_ALMANAC] ++ mailRegs) [.vesper, .flash]) ∧
  (∀ (s : State) (w : Nat), Taken s 8 → s.reqWord? 0 = some w → bitsOf w 4 4 = 0 → bitsOf w 12 4 = 0 → bitsOf w 28 4 = 0 →
    Answers .setPortConfig s fun t =>
      Mailed t 0 [] ∧ t.flash = { s.flash with portConfig := w } ∧ Frame s t mailRegs [.vesper, .flash]) ∧
  (∀ (s : State) (key : Nat), Taken s 0x20 → s.reqUnit = some key → s.pathState key = 0 → Answers .fenceUnit s fun t =>
      Mailed t 0 [(s.record key).state] ∧ t.vesper.orders = s.vesper.orders ++ [(key, true)] ∧ Frame s t mailRegs [.vesper]) ∧
  (∀ (s : State) (key : Nat), Taken s 0x21 → s.reqUnit = some key → s.fuseFenced key = false → s.pathState key ≠ 0 →
    Answers .releaseUnit s fun t =>
      Mailed t 0 [(s.record key).state] ∧ t.vesper.orders = s.vesper.orders ++ [(key, false)] ∧ Frame s t mailRegs [.vesper]) ∧
  (∀ s : State, (Taken s 0x20 ∧ s.reqUnit = none → Answers .fenceUnit s fun t => Mailed t 2 [] ∧ Frame s t mailRegs [.vesper] ∧
      t.vesper.orders = s.vesper.orders) ∧
    (∀ key, Taken s 0x21 → s.reqUnit = some key → s.fuseFenced key = true → Answers .releaseUnit s fun t =>
      Mailed t 2 [] ∧ Frame s t mailRegs [.vesper] ∧ t.vesper.orders = s.vesper.orders)) ∧
  (∀ (s : State) (w : Nat), Taken s 0x22 → s.reqWord? 0 = some w → bitsOf w 5 3 = 0 → bitsOf w 10 22 = 0 →
    s.captureRefused (if w.testBit 8 then some (bitsOf w 0 5) else none) (w.testBit 9) = 0 → Answers .capture s fun t =>
      Mailed t 0 [(s.fld F.FLT_CAPTURE_LAST_ID + 1) % 65536] ∧ t.fld F.FLT_STATUS_CAPTURE_BUSY = 1 ∧
        (∃ c, t.vesper.capture = some c ∧ c.id = (s.fld F.FLT_CAPTURE_LAST_ID + 1) % 65536 ∧ c.queues = w.testBit 9 ∧
          c.region = (if w.testBit 8 then some (bitsOf w 0 5) else none) ∧ c.start = s.tick) ∧
        Frame s t (R.FLT_STATUS :: mailRegs) [.vesper]) ∧
  (∀ s : State, Taken s 0x23 → s.reqWord? 0 = some 0xB5C1 → Answers .bscanArm s fun t =>
      Mailed t 0 [] ∧ t.flash = { s.flash with bscan := true } ∧ t.fld F.FLT_STATUS_BSCAN_ARMED = 1 ∧
        Frame s t (R.FLT_STATUS :: mailRegs) [.vesper, .flash]) ∧
  (∀ s : State, Taken s 0x24 → Answers .bscanDisarm s fun t =>
      Mailed t 0 [] ∧ t.flash = { s.flash with bscan := false } ∧ t.fld F.FLT_STATUS_BSCAN_ARMED = 0 ∧
        Frame s t (R.FLT_STATUS :: mailRegs) [.vesper, .flash])

/-! ### MCTP, PLDM, firmware update, boundary scan (19, 20) -/

/-- The requests of MCTP and PLDM at an endpoint (R822 to R832, R868). -/
def isRequest (e : Endpoint) (i : Instr) : Prop :=
  i ∈ [.getEndpointId e, .getEndpointUuid e, .getMessageTypeSupport e, .gettid e, .getpldmtypes e, .facilityRelease e,
    .captureEffecter e, .requestupdate e] ∨
  (∃ x, i ∈ [.setEndpointId e x, .getMctpVersionSupport e x, .settid e x, .getpldmversion e x, .getpldmcommands e x,
    .seteventreceiver e x]) ∨
  (∃ x, i = .sensorReading e x) ∨ (∃ w, i = .moduleCap e w) ∨ (∃ n w, i = .regionCap e n w) ∨ (∃ v, i = .unitService e v) ∨
  ∃ b, i = .activatefirmware e b

/-- A request is held for the next tick, up to four of an endpoint (R824, R814); in recovery the boot ROM serves those of MCTP control
and of the update at once (R192); while Vesper restarts it goes unanswered (R811), and so does one to another SMBus address than the
module's (R821).
The completion codes are PRESUMED (log 22). -/
def Obligations.RequestsComplete : Prop :=
  (∀ (e : Endpoint) (i : Instr) (s : State), isRequest e i → s.hears e = false → Answers i s fun t =>
    Frame s t [] [] ∧ Sent s t []) ∧
  ∀ (e : Endpoint) (s : State), s.hears e = true → s.power.phase ≠ .off → s.power.phase ≠ .loss → s.power.boardTest = false →
    (∀ i, isRequest e i → s.fld F.VSP_STATUS_RESTARTING = 0 → s.power.phase ≠ .recovery →
      (s.vesper.requests.countP fun r => r.endpoint == e) < 4 → Answers i s fun t =>
        t.vesper = { s.vesper with requests := s.vesper.requests ++ [{ endpoint := e, request := i, valid := s.valueOk i }] } ∧
          Frame s t [] [.vesper] ∧ Sent s t []) ∧
    (∀ i, isRequest e i → s.fld F.VSP_STATUS_RESTARTING = 1 → Answers i s fun t => Frame s t [] [] ∧ Sent s t []) ∧
    (s.fld F.VSP_STATUS_RESTARTING = 0 → s.power.phase = .recovery →
      (∀ x : BitVec 8, x ≠ 0 → x ≠ 0xFF → Answers (.setEndpointId e x) s fun t =>
        t.eid e = x ∧ Sent s t [.mctp e 0 [x.toNat]] ∧ Frame s t [] [.vesper]) ∧
      (Answers (.getEndpointId e) s fun t => Sent s t [.mctp e 0 [(s.eid e).toNat]] ∧ Frame s t [] []) ∧
      (s.vesper.updater = none → Answers (.requestupdate e) s fun t =>
        t.vesper.updater = some e ∧ t.fld F.VSP_STATUS_UPDATE = 1 ∧ Sent s t [.mctp e 0 []] ∧
          Frame s t [R.VSP_STATUS] [.vesper]))

/-- What a request changes and answers when it is served (R823, R825 to R832, R868): IDs are assigned and read, sensors read, the caps
set, fences and releases ordered, the update begun and activated.
The completion codes are PRESUMED (log 22). -/
def Obligations.RequestsAreServed : Prop :=
  ∀ (e : Endpoint) (s : State),
    let serve (i : Instr) : State := s.serveRequest { endpoint := e, request := i, valid := s.valueOk i }
    let tells (t : State) (code : Nat) (l : List Nat) : Prop := t.out = s.out ++ [.mctp e code l]
    (∀ x : BitVec 8, x ≠ 0 → x ≠ 0xFF → (serve (.setEndpointId e x)).eid e = x ∧ (serve (.settid e x)).tid e = x ∧
      tells (serve (.setEndpointId e x)) 0 [x.toNat] ∧ tells (serve (.settid e x)) 0 []) ∧
    (serve (.getEndpointId e) = s.emit (.mctp e 0 [(s.eid e).toNat]) ∧ serve (.gettid e) = s.emit (.mctp e 0 [(s.tid e).toNat]) ∧
      serve (.getMessageTypeSupport e) = s.emit (.mctp e 0 [0, 1]) ∧ serve (.getpldmtypes e) = s.emit (.mctp e 0 [0, 2, 5])) ∧
    (∀ x, serve (.sensorReading e x) = s.emit (.mctp e 0 [smGet s.vesper.readings 0 (sensorKey x)])) ∧
    (∀ w, w = 0 ∨ 300 ≤ w ∧ w ≤ 1100 → (serve (.moduleCap e w)).fld F.PWR_CAP_PLDM_CAP_W = w ∧
      (serve (.moduleCap e w)).fld F.PWR_CAP_STATUS_ENFORCED_W =
        min 1100 (min (if s.fld F.PWR_CAP_PF_CAP_W = 0 then 1100 else s.fld F.PWR_CAP_PF_CAP_W) (if w = 0 then 1100 else w)) ∧
      tells (serve (.moduleCap e w)) 0 []) ∧
    (∀ w, w ≠ 0 → w < 300 ∨ 1100 < w → serve (.moduleCap e w) = s.emit (.mctp e 2 [])) ∧
    (∀ (n : Fin 32) w, w = 0 ∨ 5 ≤ w ∧ w ≤ 1100 → (serve (.regionCap e n w)).fld (F.PWR_RGN_CAP_CAP_W n) = w ∧
      tells (serve (.regionCap e n w)) 0 []) ∧
    (∀ v key, s.serviceUnit v = some (key, true) → s.pathState key = 0 →
      (serve (.unitService e v)).vesper.orders = s.vesper.orders ++ [(key, true)] ∧ tells (serve (.unitService e v)) 0 []) ∧
    (s.captureRefused none false = 0 → (serve (.captureEffecter e)).fld F.FLT_STATUS_CAPTURE_BUSY = 1 ∧
      tells (serve (.captureEffecter e)) 0 []) ∧
    (s.releaseAccepted = false → (serve (.facilityRelease e)).fld F.PWR_ERR_RELEASE_REFUSED = 1) ∧
    (s.releaseAccepted = true → (serve (.facilityRelease e)).power.releasing = true ∧
      (serve (.facilityRelease e)).fld F.PWR_FHALT_STATUS_HALTED = 0) ∧
    (s.vesper.updater = none → (serve (.requestupdate e)).vesper.updater = some e ∧ tells (serve (.requestupdate e)) 0 []) ∧
    (∀ b, s.vesper.updater = some e → s.vesper.verified = some b → s.power.phase = .run →
      (serve (.activatefirmware e true)).flash.selector = b ∧ (serve (.activatefirmware e true)).vesper.restartDue = true)

/-- Firmware images, acknowledgements, vendor messages and the TAP (R829, R831, R875, R878, R879): an image of the module's component is
written into the idle slot and verified; an acknowledged event is forgotten; a touch of a locked test mode is counted; a TAP
instruction is in force in board-test mode.
The completion code is PRESUMED (log 22). -/
def Obligations.ManagementEventsComplete : Prop :=
  (∀ (im : FwImage) (e : Endpoint) (s : State), s.vesperRuns = true → s.vesper.updater = some e → im.classification = 0x000A →
    im.identifier = 0x1612 → Answers (.firmwareImageVerify im) s fun t =>
      (if s.idleSlot then t.flash = { s.flash with slotB := im } else t.flash = { s.flash with slotA := im }) ∧
        (t.vesper.verified = if im.signatureOk && decide (s.fuses.minSvn ≤ im.svn) then some s.idleSlot else none) ∧
        Sent s t [.mctp e 0 [bit !(im.signatureOk && decide (s.fuses.minSvn ≤ im.svn))]]) ∧
  (∀ (e : Endpoint) (k : Nat) (r : BitVec 8) (s : State), s.hears e = true → s.vesperRuns = true → s.vesper.receiver = some (e, r) →
    Answers (.platformEventAcknowledgement e k) s fun t =>
      t.vesper = { s.vesper with events := s.vesper.events.filter fun x => x.id != k } ∧ Frame s t [] [.vesper] ∧ Sent s t []) ∧
  (∀ (e : Endpoint) (s : State), s.hears e = true → s.power.phase ≠ .off → s.power.phase ≠ .loss →
    Answers (.mctpVendorMessage e) s fun t =>
      t.fld F.FLT_STATUS_TEST_LOCK_TOUCH = 1 ∧ t.fld F.FLT_TEST_LOCK_LAST_PATH = 3 ∧
        t.fld F.FLT_TEST_LOCK_TOUCHES = min (s.fld F.FLT_TEST_LOCK_TOUCHES + 1) 0xFFFF ∧
        Frame s t [R.FLT_STATUS, R.FLT_TEST_LOCK] [.vesper] ∧ Sent s t []) ∧
  (∀ s : State, s.power.boardTest = true →
    (Answers .extest s fun t => t.tap = { s.tap with instruction := 0x00 } ∧ t.driven = some (s.tap.latches.extractLsb' 7 4) ∧
      Frame s t [] [.tap]) ∧
    (Answers .clamp s fun t => t.tap = { s.tap with instruction := 0x04 } ∧ t.driven = some (s.tap.latches.extractLsb' 7 4) ∧
      Frame s t [] [.tap]) ∧
    (Answers .highz s fun t => t.tap = { s.tap with instruction := 0x05 } ∧ t.driven = none ∧ Frame s t [] [.tap]) ∧
    (∀ x : BitVec 11, Answers (.samplePreload x) s fun t =>
      t.tap = { s.tap with instruction := 0x01, captured := s.boundary, latches := x } ∧ Frame s t [] [.tap]) ∧
    (Answers (.bypass 0xFF) s fun t => t.tap = { s.tap with instruction := 0xFF } ∧ Frame s t [] [.tap]) ∧
    (∀ c : BitVec 8, c ∉ [0x00, 0x01, 0x04, 0x05, 0xFF] → Answers (.bypass c) s fun t =>
      t.tap = { s.tap with instruction := 0xFF } ∧ t.fld F.FLT_STATUS_TEST_LOCK_TOUCH = 1 ∧
        t.fld F.FLT_TEST_LOCK_LAST_PATH = 1 ∧ Frame s t [R.FLT_STATUS, R.FLT_TEST_LOCK] [.vesper, .tap]))


/-! ### Tile operations: scalar control and waiting (08, 09) -/

/-- Whatever the operation (R396, R397, R398): when one of its checks fails, the core halts before the operation has any effect, and
the report of the lowest code that failed is on its way to the region controller. -/
def Obligations.FailedCheckHaltsTheCore : Prop :=
  ∀ (i : Instr) (s : State) (n : Nat) (p : Op) (code : Nat), AtOp i s n p → lowest (p.checks n (s.core p.core)) = some code →
    Answers i s fun t =>
      t.core p.core = { s.core p.core with status := .halted, wait := .none } ∧
        (∀ h, h ≠ p.core.val → t.core h = s.core h) ∧
        t.rgn n = { s.rgn n with
          reports := (s.rgn n).reports ++
            [{ cause := 1, tile := tileOfCore p.core, core := p.core, excCode := code, opOffset := (s.core p.core).pc }] } ∧
        (∀ m, m ≠ n → t.rgn m = s.rgn m) ∧ Frame s t [] [.cores, .regions] ∧ Sent s t []

/-- NOP, MOVI, ALU, ALUI, RDID, SEED, BR, JR and LOOP (R412, R422, R430, R434 to R437): the destination register takes the value, with
the poison of the registers read; RDID's is never poisoned; a write to s0 is discarded; a taken branch goes to the target, one not
taken to the next word; JR keeps the next word's offset; LOOP counts its register down and branches while it is not 0. -/
def Obligations.ScalarOperationsComplete : Prop :=
  ∀ (g : Fin 1024) (o : OpFields) (s : State) (n : Nat),
    let c := s.core g
    let target := ((c.pc : Int) + o.imm.toInt).toNat
    (Ready (.nop g o) s n → Answers (.nop g o) s fun t => OneCore s t g c.past) ∧
    (Ready (.movi g o) s n → Answers (.movi g o) s fun t =>
      let keep := o.mod.getLsbD 2
      let v := putBits (if keep then (c.reg o.d).toNat else 0) (16 * (o.mod.toNat % 4)) 16 (o.imm.toNat % 65536)
      OneCore s t g (c.setReg o.d (BitVec.ofNat 64 v) (keep && c.regBad o.d)).past) ∧
    (Ready (.alu g o) s n → Answers (.alu g o) s fun t =>
      ∃ v, aluFn (o.mod.toNat % 16) (c.reg o.a) (c.reg o.b) = some v ∧
        OneCore s t g (c.setReg o.d v (c.regBad o.a || c.regBad o.b)).past) ∧
    (Ready (.alui g o) s n → Answers (.alui g o) s fun t =>
      ∃ v, aluFn (o.mod.toNat % 16) (c.reg o.a) (o.imm.signExtend 64) = some v ∧
        OneCore s t g (c.setReg o.d v (c.regBad o.a)).past) ∧
    (Ready (.rdid g o) s n → Answers (.rdid g o) s fun t =>
      ∃ v, s.identity n g o.imm.toNat = some v ∧ OneCore s t g (c.setReg o.d (BitVec.ofNat 64 v) false).past) ∧
    (Ready (.seed g o) s n → Answers (.seed g o) s fun t =>
      let x : Word := (c.reg o.a).setWidth 32
      OneCore s t g { c with sr := if x = 0 then 1 else x }.past) ∧
    (Ready (.br g o) s n → Answers (.br g o) s fun t =>
      let taken := (brCond (o.mod.toNat % 8) (c.reg o.a) (c.reg o.b)).getD false
      OneCore s t g { c with wait := .none, pc := if taken then target else c.pc + 8 }) ∧
    (Ready (.jr g o) s n → Answers (.jr g o) s fun t =>
      OneCore s t g { c.setReg o.d (BitVec.ofNat 64 (c.pc + 8)) false with wait := .none, pc := (c.reg o.a).toNat }) ∧
    (Ready (.loop g o) s n → Answers (.loop g o) s fun t =>
      let v := loopValue c o.a
      OneCore s t g { c.setReg o.a v false with wait := .none, pc := if v = 0 then c.pc + 8 else target })

/-- Core g becomes `c` and an acquire of a scope has been made (R646): at REGION and SYSTEM the read-only cache of its cluster is empty,
and a line that another core of the cluster is fetching for it is not kept. Nothing else changes. -/
def Acquires (s t : State) (g : Nat) (c : Core) (scope : Nat) : Prop :=
  t.core g = c ∧
    (∀ h, h ≠ g → t.core h = { s.core h with loads :=
      if 2 ≤ scope ∧ h / 8 = g / 8 then (s.core h).loads.map fun l => { l with fill := false } else (s.core h).loads }) ∧
    t.cluster (g / 8) = { s.cluster (g / 8) with ro := if 2 ≤ scope then [] else (s.cluster (g / 8)).ro } ∧
    (∀ k, k ≠ g / 8 → t.cluster k = s.cluster k) ∧ Frame s t [] [.cores, .clusters] ∧ Sent s t []

/-- END, WAITC, WAITF, WAITN, NOTIFY, ACQ, REL and FENCE complete once what they wait for holds (R439, R440, R441, R466, R467, R473,
R644, R646, R647); until then the core waits at the operation. -/
def Obligations.SynchronisationCompletes : Prop :=
  ∀ (g : Fin 1024) (o : OpFields) (s : State) (n : Nat),
    let c := s.core g
    let mask : BitVec 16 := o.imm.setWidth 16
    (Ready (.end_ g o) s n → s.released n g 3 true = true → Answers (.end_ g o) s fun t =>
      OneCore s t g { c with wait := .none, status := .ended }) ∧
    (Ready (.waitc g o) s n → Answers (.waitc g o) s fun t =>
      OneCore s t g (if reached c.dmaDone.toNat (c.reg o.a).toNat then c.past else { c with wait := .op })) ∧
    (Ready (.waitf g o) s n → Answers (.waitf g o) s fun t =>
      OneCore s t g (if reached (s.fld (F.SCH_FRAME_FRAME n)) (c.reg o.a).toNat then c.past else { c with wait := .frame })) ∧
    (Ready (.waitn g o) s n → c.events &&& mask ≠ 0 → Answers (.waitn g o) s fun t =>
      let done := { c.setReg o.d ((c.events &&& mask).setWidth 64) false with events := c.events &&& ~~~mask }.past
      if o.mod.getLsbD 0 then Acquires s t g done (o.mod.toNat / 2 % 4) else OneCore s t g done) ∧
    (Ready (.waitn g o) s n → c.events &&& mask = 0 → Answers (.waitn g o) s fun t => OneCore s t g { c with wait := .op }) ∧
    (Ready (.notify g o) s n → (o.mod.getLsbD 0 = true → s.released n g (o.mod.toNat / 2 % 4) false = true) →
      s.coreFenced (c.reg o.a).toNat = false → s.tileFenced (tileOfCore (c.reg o.a).toNat) = false →
      (s.core (c.reg o.a).toNat).hasProgram = true → Answers (.notify g o) s fun t =>
        t.core g = c.past ∧ (∀ h, h ≠ g.val → t.core h = s.core h) ∧
          t.ctl = smPut s.ctl s.nextId (.notify g (c.reg o.a).toNat (o.imm.toNat % 16)) ∧ Frame s t [] [.cores, .ctl]) ∧
    (Ready (.acq g o) s n → Answers (.acq g o) s fun t => Acquires s t g c.past (o.mod.toNat % 4)) ∧
    (Ready (.rel g o) s n → s.released n g (o.mod.toNat % 4) (o.mod.getLsbD 2) = true → Answers (.rel g o) s fun t =>
      OneCore s t g c.past) ∧
    (Ready (.fence g o) s n → s.released n g (o.mod.toNat % 4) (o.mod.getLsbD 2) = true → Answers (.fence g o) s fun t =>
      Acquires s t g c.past (o.mod.toNat % 4))

/-- What ends or reaches a core from outside (R421, R438, R441, R473, R475, R549 to R551, R553): a word with no operation raises
ILLEGAL_OP; a NOTIFY whose way is powered, and free of a HALT, sets its event bit; a HALT stops a running core, and counts as at most
300 ns; words that were sent again are counted; a word that fails four times ends its message, and is named by the tile it was going to.
MODEL'S CHOICE (log 154): a message is held up only by a HALT that is due on its way. -/
def Obligations.CoreEventsComplete : Prop :=
  (∀ (g : Fin 1024) (s : State) (n : Nat), (s.core g).status = .running → (∀ l ∈ (s.core g).loads, l.block = false) →
    s.clockStopped (tileOfCore g) = false → s.regionOfCore g = some n →
    (65536 ≤ (s.core g).pc ∨ (opcodeOf ((s.core g).wordAt (s.core g).pc)).toNat ∉ opcodes) →
    Answers (.undefinedOpcode g) s fun t =>
      t.core g = { s.core g with status := .halted, wait := .none } ∧ (∀ h, h ≠ g.val → t.core h = s.core h) ∧
        (t.rgn n).reports = (s.rgn n).reports ++
          [{ cause := 1, tile := tileOfCore g, core := g, excCode := 1, opOffset := (s.core g).pc }] ∧
        Frame s t [] [.cores, .regions] ∧ Sent s t []) ∧
  (∀ (id k src dst ev : Nat) (way : CtlWay) (s : State), s.ctl.find? (fun e => e.1 == id) = some (k, .notify src dst ev) → ev < 16 →
    let stops := tileWay (tileOfCore src) (tileOfCore dst)
    s.wayOpen stops = true → s.haltAhead stops = false →
    (way.failedAt = none → Answers (.notifyDelivery id way) s fun t =>
      t.core dst = { s.core dst with events := (s.core dst).events ||| (1#16 <<< ev) } ∧
        (∀ h, h ≠ dst → t.core h = s.core h) ∧ t.ctl = smDel s.ctl id ∧
        t.fld F.CTL_STATUS_RETRIES = min (s.fld F.CTL_STATUS_RETRIES + min way.resent (12 * stops.length)) 0xFFFF ∧
        Frame s t [R.CTL_STATUS] [.cores, .ctl]) ∧
    (∀ j tile, way.failedAt = some j → stops[j]? = some tile → Answers (.notifyDelivery id way) s fun t =>
      t.fld F.CTL_ERR_FLAGS_RETRY_FAIL = 1 ∧ t.fld F.CTL_ERR_FAIL_TILE = tile % 256 ∧ t.ctl = smDel s.ctl id)) ∧
  (∀ (g : Fin 1024) (way : CtlWay) (s : State), (s.core g).haltDue = true → s.wayOpen (columnWay (tileOfCore g)) = true →
    way.failedAt = none → Answers (.halt g way) s fun t =>
    t.core g = { s.core g with haltDue := false, wait := .none,
                               status := if (s.core g).status = .running then .halted else (s.core g).status } ∧
      (∀ h, h ≠ g.val → t.core h = s.core h) ∧
      t.fld F.CTL_STATUS_HALT_MAX_NS ≤ max (s.fld F.CTL_STATUS_HALT_MAX_NS) 300 ∧ Frame s t [R.CTL_STATUS] [.cores])


/-! ### Tile operations: memory (08, 09, 15) -/

/-- The address sA + sext(IMM) of LD, ST, LDG and STG (R443). -/
def effAddr (c : Core) (o : OpFields) : Nat := (c.reg o.a + o.imm.signExtend 64).toNat

/-- A packet of kind `k` has left agent `src` for the unit that serves address `a`. -/
def Injected (s t : State) (n : Nat) (src dst : Agent) (k : PacketKind) (a size : Nat) (p : Packet) : Prop :=
  t.net = s.net ++ [p] ∧ p.id = s.nextId ∧ p.kind = k ∧ p.region = n ∧ p.src = src ∧ p.dst = dst ∧ p.addr = a ∧ p.size = size

/-- The load `l` of core g has identifier `tag`, destination `dest`, and `size` bytes at `a`, over which those of the core's own store
buffer go (R386). -/
def Awaits (s : State) (g : Nat) (l : LoadOp) (tag dest a size : Nat) : Prop :=
  l.tag = tag ∧ l.dest = dest ∧ l.addr = a ∧ l.size = size ∧ l.block = false ∧ l.overlay = (s.buffered g a size).1 ∧
    l.overlayBad = (s.buffered g a size).2

/-- LD and LDG (R368, R370, R386, R431, R443, R444, R446). Of cluster space: the destination takes the bytes, zero- or sign-extended,
poisoned with their word. Of remote space, where the core may issue a request: a READ leaves for the unit that serves the address, of the
bytes themselves or, in a READ_ONLY window and without VOLATILE, of the line that the read-only cache does not hold; the load is
outstanding, and the core goes on. A line that the cluster is fetching is not fetched again; one that the cache holds gives its bytes at
once; with VOLATILE the cache loses the line. LD tells what its read of the cluster's own arrays finds (R770, R775, R777): a corrected
error is counted, an uncorrectable one poisons the word, or drops the cached line, which is fetched again. MODEL'S CHOICE (log 26): in
MERIDIAN_SPLIT a load waits for the core's accesses to its granule that another unit serves. -/
def Obligations.LoadsComplete : Prop :=
  ∀ (g : Fin 1024) (o : OpFields) (s : State) (n : Nat),
    let c := s.core g
    let a := effAddr c o
    let size := 2 ^ (o.mod.toNat % 4)
    let mem := (s.cluster (g / 8)).mem
    let vol := o.mod.getLsbD 3
    let sent (t : State) (dst : Agent) (b k : Nat) : Prop := ∃ p, Injected s t n (.core g) dst .read b k p
    let mayGo := s.mayIssue n g = true ∧ s.crossWait n g a false = false
    let word := a % 2 ^ 21 / 8
    (∀ e, Ready (.ld g o e) s n → spaceOf a = spCluster →
      (∀ i < size, mem.bytes.any (fun b => b.1 == a % 2 ^ 21 + i) = true) → Answers (.ld g o e) s fun t =>
      let bytes := (List.range size).map fun i => mem.byte s.draws (a % 2 ^ 21 + i)
      let bad := mem.poisoned word || (match e with | .double _ => true | _ => false)
      t.core g = (c.setReg o.d (extend bytes (o.mod.getLsbD 2)) bad).past ∧ (∀ h, h ≠ g.val → t.core h = s.core h) ∧
        (mem.poisoned word = false → (∃ b, e = .dataBit b ∨ e = .checkBit b) →
          t.fld (F.INT_CLU_ECC_CE (g / 8)) = min (s.fld (F.INT_CLU_ECC_CE (g / 8)) + 1) 0xFFFF ∧ t.clusters = s.clusters) ∧
        (mem.poisoned word = false → (∃ syn, e = .double syn) →
          t.fld (F.INT_CLU_ECC_UE (g / 8)) = min (s.fld (F.INT_CLU_ECC_UE (g / 8)) + 1) 0xFFFF ∧
            (t.cluster (g / 8)).mem.poisoned word = true)) ∧
    (Ready (.ld g o .none) s n → spaceOf a = spCluster → Answers (.ld g o .none) s fun t =>
      let bytes := (List.range size).map fun i => mem.byte s.draws (a % 2 ^ 21 + i)
      t.core g = (c.setReg o.d (extend bytes (o.mod.getLsbD 2)) (mem.poisoned word)).past ∧
        (∀ h, h ≠ g.val → t.core h = s.core h) ∧ Frame s t [] [.cores, .regions] ∧ Sent s t []) ∧
    (∀ e, Ready (.ld g o e) s n → spaceOf a ≠ spCluster → vol = false → s.readOnlyAt n a = false → mayGo → Answers (.ld g o e) s fun t =>
      sent t (s.server n (tileOfCore g) a false) a size ∧
        (∃ l, t.core g = { c with loads := c.loads ++ [l] }.past ∧ Awaits s g l s.nextId o.d a size ∧ l.granule = false ∧
          l.sext = o.mod.getLsbD 2 ∧ l.fill = false) ∧
        (∀ h, h ≠ g.val → t.core h = s.core h) ∧ Frame s t [] [.cores, .net] ∧ Sent s t []) ∧
    (∀ e, Ready (.ld g o e) s n → spaceOf a ≠ spCluster → vol = true → s.mayIssue n g = true → s.crossWait n g a true = false →
      Answers (.ld g o e) s fun t =>
      sent t (s.server n (tileOfCore g) a true) a size ∧ (t.cluster (g / 8)).roLine a = none ∧
        (∃ l, (t.core g).loads.getLast? = some l ∧ Awaits s g l s.nextId o.d a size ∧ l.granule = false ∧
          l.sext = o.mod.getLsbD 2 ∧ l.fill = false) ∧ (t.core g).regs = c.regs ∧ (t.core g).pc = c.pc + 8 ∧
        Frame s t [] [.cores, .clusters, .net] ∧ Sent s t []) ∧
    (∀ e, Ready (.ld g o e) s n → spaceOf a ≠ spCluster → vol = false → s.readOnlyAt n a = true →
      (∀ r, (s.cluster (g / 8)).roLine a = some r → (match e with | .double _ => false | _ => true) = true →
        Answers (.ld g o e) s fun t =>
        let bytes := (List.range size).map fun i => smGet (s.buffered g a size).1 (smGet r.bytes 0 (a % 128 + i)) i
        (∃ bad, t.core g = (c.setReg o.d (extend bytes (o.mod.getLsbD 2)) bad).past) ∧
          (∀ h, h ≠ g.val → t.core h = s.core h) ∧
          (e = .none → Frame s t [] [.cores, .clusters, .regions] ∧ Sent s t []) ∧
          (∀ b, e = .dataBit b ∨ e = .checkBit b →
            t.fld (F.INT_CLU_ECC_CE (g / 8)) = min (s.fld (F.INT_CLU_ECC_CE (g / 8)) + 1) 0xFFFF)) ∧
      (∀ r syn, (s.cluster (g / 8)).roLine a = some r → e = .double syn → s.filling (g / 8) (a / 128) = none → mayGo →
        Answers (.ld g o e) s fun t =>
          t.fld (F.INT_CLU_ECC_CE (g / 8)) = min (s.fld (F.INT_CLU_ECC_CE (g / 8)) + 1) 0xFFFF ∧
            (t.cluster (g / 8)).roLine a = none ∧
            (∃ l, t.core g = { c with loads := c.loads ++ [l] }.past ∧ Awaits s g l s.nextId o.d a size ∧ l.fill = true) ∧
            ∃ p ∈ t.net, p.id = s.nextId ∧ p.kind = .read ∧ p.addr = a / 128 * 128 ∧ p.size = 128) ∧
      (∀ tag, (s.cluster (g / 8)).roLine a = none → s.filling (g / 8) (a / 128) = some tag → Answers (.ld g o e) s fun t =>
        ∃ l, OneCore s t g { c with loads := c.loads ++ [l] }.past ∧ Awaits s g l tag o.d a size ∧ l.fill = true) ∧
      ((s.cluster (g / 8)).roLine a = none → s.filling (g / 8) (a / 128) = none → mayGo → Answers (.ld g o e) s fun t =>
        sent t (s.server n (tileOfCore g) a false) (a / 128 * 128) 128 ∧
          (∃ l, t.core g = { c with loads := c.loads ++ [l] }.past ∧ Awaits s g l s.nextId o.d a size ∧ l.fill = true) ∧
          (∀ h, h ≠ g.val → t.core h = s.core h) ∧ Frame s t [] [.cores, .net] ∧ Sent s t [])) ∧
    (Ready (.ldg g o) s n → vol = false → s.readOnlyAt n a = false → mayGo → Answers (.ldg g o) s fun t =>
      sent t (s.server n (tileOfCore g) a false) a 64 ∧
        (∃ l, t.core g = { c with loads := c.loads ++ [l] }.past ∧ Awaits s g l s.nextId (c.reg o.b).toNat a 64 ∧
          l.granule = true ∧ l.fill = false) ∧
        (∀ h, h ≠ g.val → t.core h = s.core h) ∧ Frame s t [] [.cores, .net] ∧ Sent s t [])

/-- A store-buffer entry of the granule at `base` that holds `bytes` from offset `x` on. -/
def Buffers (e : SbEntry) (base x : Nat) (bytes : List Byte) : Prop :=
  e.addr = base ∧ e.sent = false ∧ ∀ i, i < bytes.length → smGet e.bytes 0 (x + i) = bytes.getD i 0

/-- ST and STG (R384, R443, R444). Into cluster space: the stored bytes read back, every other byte of the memory as before. Into
remote space: the store goes into the store buffer, into a new entry when none of its granule is unsent and fewer than 16 are held. -/
def Obligations.StoresComplete : Prop :=
  ∀ (g : Fin 1024) (o : OpFields) (s : State) (n : Nat),
    let c := s.core g
    let a := effAddr c o
    let size := 2 ^ (o.mod.toNat % 4)
    let base := a / 64 * 64
    let free := (∀ e ∈ c.store, e.addr = base → e.sent = true) ∧ c.store.length < 16
    (Ready (.st g o) s n → spaceOf a = spCluster → Answers (.st g o) s fun t =>
      let x := a % 2 ^ 21
      let m := (t.cluster (g / 8)).mem
      (∀ i draw, i < size → m.byte draw (x + i) = BitVec.ofNat 8 ((c.reg o.b).toNat / 256 ^ i)) ∧
        (∀ draw b, b < x ∨ x + size ≤ b → m.byte draw b = (s.cluster (g / 8)).mem.byte draw b) ∧
        (∀ h, h ≠ g.val / 8 → t.cluster h = s.cluster h) ∧ t.core g = c.past ∧ (∀ h, h ≠ g.val → t.core h = s.core h) ∧
        Frame s t [] [.cores, .clusters, .regions] ∧ Sent s t []) ∧
    (Ready (.st g o) s n → spaceOf a ≠ spCluster → free → Answers (.st g o) s fun t =>
      (∃ e, t.core g = { c with store := c.store ++ [e] }.past ∧ e.id = s.nextId ∧
        Buffers e base (a - base) (toBytes size (c.reg o.b).toNat)) ∧ (∀ h, h ≠ g.val → t.core h = s.core h) ∧
        Frame s t [] [.cores, .regions] ∧ Sent s t []) ∧
    (Ready (.stg g o) s n → free → Answers (.stg g o) s fun t =>
      (∃ e, t.core g = { c with store := c.store ++ [e] }.past ∧ e.id = s.nextId ∧
        Buffers e base 0 ((List.range 64).map fun i => (s.cluster (g / 8)).mem.byte s.draws ((c.reg o.b).toNat + i))) ∧
        (∀ h, h ≠ g.val → t.core h = s.core h) ∧ Frame s t [] [.cores, .regions] ∧ Sent s t [])

/-- ATOM (R377, R378, R387, R446, R466, R468, R639, R656, R662, R664). Of cluster space: the bank's word takes the new value, and with
RET the destination the old one. Of remote space, where the core may issue a request and its stores to the granule have been sent: an
ATOMIC leaves for the unit that serves the address; with RET its value is outstanding, and holds later operations; without, the core counts
one acknowledgement more. One that the combiner may merge joins the waiting request or leaves on its own (MODEL'S CHOICE, log 13:
which of the two is a free bit). -/
def Obligations.ScalarAtomicsComplete : Prop :=
  ∀ (g : Fin 1024) (o : OpFields) (s : State) (n : Nat),
    let c := s.core g
    let a := (c.reg o.a).toNat
    let aop := o.mod.toNat % 16
    let fmt := o.mod.toNat / 16 % 8
    let ret := o.mod.getLsbD 7
    let scope := o.imm.toNat % 4
    let size := if fmt = 5 then 8 else 4
    let mem := (s.cluster (g / 8)).mem
    let bad := c.regBad o.b || (aop == 7 && c.regBad o.c)
    let sent (t : State) : Prop := ∃ p, Injected s t n (.core g) (s.server n (tileOfCore g) a true) .atomic a size p ∧ p.op = aop ∧
      p.fmt = fmt ∧ p.scope = scope ∧ p.operand = (c.reg o.b).toNat ∧ p.compare = (c.reg o.c).toNat ∧ p.ret = ret ∧ p.bad = bad ∧
      p.writers = if ret then [] else [g.val]
    let behind := (s.crossWait n g a true = false ∧ ∀ e ∈ c.store, e.addr ≠ a / 64 * 64) ∨
      s.viaProxy n g a = false ∧ ∀ e ∈ c.store, e.sent = true
    (Ready (.atom g o) s n → spaceOf a = spCluster → Answers (.atom g o) s fun t =>
      let x := a % 2 ^ 21
      let old := fromBytes ((List.range size).map fun i => mem.byte s.draws (x + i))
      let new := atomicNew aop fmt old (c.reg o.b).toNat (c.reg o.c).toNat
      let m := (t.cluster (g / 8)).mem
      (∀ i draw, i < size → m.byte draw (x + i) = BitVec.ofNat 8 (new / 256 ^ i)) ∧
        (∀ draw b, b < x ∨ x + size ≤ b → m.byte draw b = mem.byte draw b) ∧
        (ret = true → o.d.val ≠ 0 → (t.core g).reg o.d = atomicOld fmt old) ∧
        (∀ i, (ret = false ∨ i ≠ o.d.val) → (t.core g).reg i = c.reg i) ∧
        (t.core g).pc = c.pc + 8 ∧ (∀ h, h ≠ g.val → t.core h = s.core h) ∧
        Frame s t [] [.cores, .clusters, .regions] ∧ Sent s t []) ∧
    (Ready (.atom g o) s n → spaceOf a ≠ spCluster → s.mayIssue n g = true → behind →
      (mergeable aop fmt ret = false ∨ s.mergesWith g a aop fmt scope = none) → Answers (.atom g o) s fun t =>
      sent t ∧ (if ret then ∃ l : LoadOp, t.core g = { c with loads := c.loads ++ [l] }.past ∧ l.tag = s.nextId ∧ l.dest = o.d.val ∧
            l.size = size ∧ l.block = true
          else t.core g = { c with unacked := c.unacked + 1 }.past) ∧
        (∀ h, h ≠ g.val → t.core h = s.core h) ∧ Frame s t [] [.cores, .net] ∧ Sent s t []) ∧
    (∀ q, Ready (.atom g o) s n → spaceOf a ≠ spCluster → s.mayIssue n g = true → behind → mergeable aop fmt ret = true →
      s.mergesWith g a aop fmt scope = some q → Answers (.atom g o) s fun t =>
      (sent t ∨ t.net = s.net.map fun p => if p.id = q.id then p.merge g (c.reg o.b).toNat bad else p) ∧
        t.core g = { c with unacked := c.unacked + 1 }.past ∧ (∀ h, h ≠ g.val → t.core h = s.core h) ∧
        Frame s t [] [.cores, .net] ∧ Sent s t [])

/-- DMAG, DMAP, DMAF, TATOM, GATHER and SCATTER (R373, R374, R447, R470, R471): the transfer, with the values of its registers, joins
its cluster's queue, which has room for 16, and the core goes on. -/
def Obligations.TransfersAreQueued : Prop :=
  ∀ (g : Fin 1024) (o : OpFields) (s : State) (n : Nat) (i : Instr) (p : Op),
    i ∈ [.dmag g o, .dmap g o, .dmaf g o, .tatom g o, .gather g o, .scatter g o] → AtOp i s n p → Ready i s n →
    (s.cluster (g / 8)).dma.length < 16 → Answers i s fun t =>
      let c := s.core g
      let x : Transfer := { id := s.nextId, core := g, opc := p.opcode.toNat, a := c.reg o.a, b := c.reg o.b, c := c.reg o.c,
                            d := c.reg o.d, mod := o.mod, imm := o.imm }
      OneCoreCluster s t g c.past (g / 8) { s.cluster (g / 8) with dma := (s.cluster (g / 8)).dma ++ [x] }

/-- A transfer among the first four of its cluster's queue completes (R375): it leaves the queue, and the
core that issued it counts it. -/
def Obligations.TransfersComplete : Prop :=
  ∀ (c : Fin 128) (k : Fin 16) (s : State) (x : Transfer) (n : Nat), k.val < 4 → (s.cluster c).dma[k.val]? = some x →
    s.ownerOf (tileOfCluster c) = some n → s.clockStopped (tileOfCluster c) = false → s.mayInject n (tileOfCluster c) = true →
    s.transferHeld n x (s.transferRows n x).1 = false → spaceOf x.remote ≠ spLink → x.unanswered = 0 →
    Answers (.dmaTransferComplete c k) s fun t =>
      (∀ y ∈ (t.cluster c).dma, y.id ≠ x.id) ∧ (t.core x.core).dmaDone = (s.core x.core).dmaDone + 1 ∧
        ∀ h, h ≠ x.core → t.core h = s.core h


/-! ### Tile operations: tensor and vector (08, 09) -/

/-- The accumulator elements that IMM names: ACC 1:0, ROW0 7:2, COL0 13:8 (R450). -/
def accCell (o : OpFields) (i j : Nat) : Nat :=
  4096 * (o.imm.toNat % 4) + 64 * (o.imm.toNat / 4 % 64 + i) + (o.imm.toNat / 256 % 64 + j)

/-- The elements (i, j), i < rows and j < cols, of the accumulator region take `v`; no other element of the core changes; the
registers of the core stay. -/
def AccSet (c c' : Core) (o : OpFields) (rows cols : Nat) (v : Nat → Nat → Nat) : Prop :=
  (∀ i j, i < rows → j < cols → smGet c'.acc 0 (accCell o i j) = BitVec.ofNat 32 (v i j)) ∧
    (∀ k, (∀ i j, i < rows → j < cols → k ≠ accCell o i j) → smGet c'.acc 0 k = smGet c.acc 0 k) ∧
    c'.regs = c.regs ∧ c'.pc = c.pc + 8 ∧ c'.sr = c.sr

/-- Core g's cluster memory becomes `m` and the core goes on, its rounding state `x`; nothing else of the module changes but the
poison mark of a launch. -/
def MemSet (s t : State) (g : Nat) (m : PMem) (x : Word) : Prop :=
  (t.cluster (g / 8)).mem = m ∧ (∀ h, h ≠ g / 8 → t.cluster h = s.cluster h) ∧ t.core g = { s.core g with sr := x }.past ∧
    (∀ h, h ≠ g → t.core h = s.core h) ∧ Frame s t [] [.cores, .clusters, .regions] ∧ Sent s t []

/-- The tile `d` of core g's cluster takes the elements `el`, each converted to its format (R409, R413, R429), with one draw of the
core's rounding state for each when `sr` (R411); every word of it is poisoned when `bad` (R393). -/
def TileSet (s t : State) (g : Nat) (d : Tile) (sr sat : Bool) (el : Nat → Nat → Elem) (bad : Bool) : Prop :=
  MemSet s t g (d.put (s.cluster (g / 8)).mem (sinkOf (s.core g) d sr sat).1 el bad) (sinkOf (s.core g) d sr sat).2

/-- TFILL, MMA, ACCLD and ACCST (R407, R429, R449 to R455): every byte of a filled tile's lines takes the pattern, in order from each
line's start, and of an MXFP4 tile every scale byte takes the pattern's first byte; each element of the accumulator region takes the
sum of products, from 0 with ZERO, from what it held without, or the tile's element, converted to FP32 or, with INT, as an integer;
a destination tile takes the accumulator's elements, as FP32 values or, with INT, as integers. -/
def Obligations.TileAndAccumulatorOperationsComplete : Prop :=
  (∀ (g : Fin 1024) (o : OpFields) (s : State) (n : Nat),
      let c := s.core g
      let d := c.tile o.a
      Ready (.tfill g o) s n → Answers (.tfill g o) s fun t =>
        let m := (t.cluster (g / 8)).mem
        (∀ i j draw, i < d.lines → j < d.lb →
          m.byte draw (d.lineAt i + j) = BitVec.ofNat 8 ((c.reg o.b).toNat / 256 ^ (j % 8))) ∧
        (∀ j draw, d.fmt = 7 → j < d.lines * d.scales → m.byte draw (d.scaleAt 0 + j) = BitVec.ofNat 8 (c.reg o.b).toNat) ∧
        (∀ b draw, (∀ p ∈ d.pieces, b < p.1 ∨ p.1 + p.2 ≤ b) → m.byte draw b = (s.cluster (g / 8)).mem.byte draw b) ∧
        (∀ h, h ≠ g.val / 8 → t.cluster h = s.cluster h) ∧ t.core g = c.past ∧ (∀ h, h ≠ g.val → t.core h = s.core h) ∧
        Frame s t [] [.cores, .clusters, .regions] ∧ Sent s t []) ∧
  (∀ (g : Fin 1024) (o : OpFields) (s : State) (n : Nat),
      let c := s.core g
      let a := c.tile o.a
      let b := c.tile o.b
      let m := (s.cluster (g / 8)).mem
      (Ready (.mma g o) s n → Answers (.mma g o) s fun t =>
        AccSet c (t.core g) o a.rows b.cols (fun i j =>
          mmaElem a b m s.draws i j (if o.mod.getLsbD 0 then 0 else (smGet c.acc 0 (accCell o i j)).toNat)) ∧
          (∀ h, h ≠ g.val → t.core h = s.core h) ∧ Frame s t [] [.cores, .regions] ∧ Sent s t []) ∧
      (Ready (.accld g o) s n → Answers (.accld g o) s fun t =>
        AccSet c (t.core g) o a.rows a.cols (fun i j =>
          if o.mod.getLsbD 3 then ofSigned 32 (a.int m s.draws i j) else a.fp m s.draws i j) ∧
          (∀ h, h ≠ g.val → t.core h = s.core h) ∧ Frame s t [] [.cores, .regions] ∧ Sent s t [])) ∧
  (∀ (g : Fin 1024) (o : OpFields) (s : State) (n : Nat),
      let c := s.core g
      let d := c.tile o.a
      Ready (.accst g o) s n → Answers (.accst g o) s fun t =>
        TileSet s t g d (o.mod.getLsbD 0) (o.mod.getLsbD 1)
          (fun i j => if o.mod.getLsbD 3 then .i (toSigned 32 (smGet c.acc 0 (accCell o i j)).toNat)
            else .f (smGet c.acc 0 (accCell o i j)).toNat)
          (c.accBad o d.rows d.cols))

/-- VBIN, VUN, VSCALE, VFMA, VCMP and VSEL (R393, R427, R457, R458, R459, R460, R461): element by element over the destination, each
source broadcast along a side of 1; in the integer domain when every tile that takes part is INT8 or INT4, else in FP32.
The values of EXP, LOG, TANH and SIGMOID between the exact ones are those of log 12, and the sign of a zero that no rule states is free (log 14). -/
def Obligations.ElementwiseOperationsComplete : Prop :=
  ∀ (g : Fin 1024) (o : OpFields) (s : State) (n : Nat),
    let c := s.core g
    let d := c.tile o.d
    let x := c.tile o.a
    let y := c.tile o.b
    let z := c.tile o.c
    let m := (s.cluster (g / 8)).mem
    let f := o.mod.toNat % 16
    let sr := o.mod.getLsbD 6
    let sat := o.mod.getLsbD 7
    let p := (c.reg o.b).toNat % 2 ^ 32
    let q := (c.reg o.c).toNat % 2 ^ 32
    let xi := fun i j => x.intAt m s.draws i j
    let yi := fun i j => y.intAt m s.draws i j
    let xf := fun i j => x.fpAt m s.draws i j
    let yf := fun i j => y.fpAt m s.draws i j
    (Ready (.vbin g o) s n → Answers (.vbin g o) s fun t => TileSet s t g d sr sat
      (fun i j => if intDomain [d, x, y] then .i (vbinI f (xi i j) (yi i j)) else .f (vbinF f (xf i j) (yf i j)))
      (x.bad m || y.bad m)) ∧
    (Ready (.vun g o) s n → Answers (.vun g o) s fun t => TileSet s t g d sr sat
      (fun i j => if intDomain [d, x] then .i (vunI f (xi i j)) else .f (vunF f (xf i j))) (x.bad m)) ∧
    (Ready (.vscale g o) s n → Answers (.vscale g o) s fun t => TileSet s t g d sr sat
      (fun i j => if intDomain [d, x] then .i (wrap32 (xi i j * toSigned 32 p + toSigned 32 q)) else .f (fma32 (xf i j) p q))
      (c.regBad o.b || c.regBad o.c || x.bad m)) ∧
    (Ready (.vfma g o) s n → Answers (.vfma g o) s fun t => TileSet s t g d sr sat
      (fun i j => if intDomain [d, x, y, z] then .i (wrap32 (xi i j * yi i j + z.intAt m s.draws i j))
        else .f (fma32 (xf i j) (yf i j) (z.fpAt m s.draws i j)))
      (x.bad m || y.bad m || z.bad m)) ∧
    (Ready (.vcmp g o) s n → Answers (.vcmp g o) s fun t => TileSet s t g d sr sat
      (fun i j => .i (if (if intDomain [x, y] then vcmpI (o.mod.toNat % 4) (xi i j) (yi i j)
        else vcmpF (o.mod.toNat % 4) (xf i j) (yf i j)) then 1 else 0))
      (x.bad m || y.bad m)) ∧
    (Ready (.vsel g o) s n → Answers (.vsel g o) s fun t => TileSet s t g d sr sat
      (fun i j => if intDomain [d, x, y] then .i (if z.intAt m s.draws i j ≠ 0 then xi i j else yi i j)
        else .f (if z.intAt m s.draws i j ≠ 0 then xf i j else yf i j))
      (x.bad m || y.bad m || z.bad m))

/-- VRED reduces along rows or, with AXIS, along columns, in order (R458); VCVT converts into another format, and copies the codes
within one (R458). -/
def Obligations.ReductionAndConversionComplete : Prop :=
  ∀ (g : Fin 1024) (o : OpFields) (s : State) (n : Nat),
    let c := s.core g
    let d := c.tile o.d
    let x := c.tile o.a
    let m := (s.cluster (g / 8)).mem
    let sr := o.mod.getLsbD 6
    let sat := o.mod.getLsbD 7
    let line := fun i j => if o.mod.getLsbD 4 then (List.range x.rows).map fun r => (r, j)
      else (List.range x.cols).map fun k => (i, k)
    (Ready (.vred g o) s n → Answers (.vred g o) s fun t => TileSet s t g d sr sat
      (fun i j => if intDomain [d, x] then .i (reduceI (o.mod.toNat % 4) ((line i j).map fun p => x.int m s.draws p.1 p.2))
        else .f (reduceF (o.mod.toNat % 4) ((line i j).map fun p => x.fp m s.draws p.1 p.2)))
      (x.bad m)) ∧
    (Ready (.vcvt g o) s n → x.fmt ≠ d.fmt → Answers (.vcvt g o) s fun t => TileSet s t g d sr sat
      (fun i j => if intDomain [d, x] then .i (x.intAt m s.draws i j) else .f (x.fpAt m s.draws i j)) (x.bad m)) ∧
    (Ready (.vcvt g o) s n → x.fmt = d.fmt → (x.fmt ≠ 7 ∨ x.trans = d.trans) → Answers (.vcvt g o) s fun t =>
      MemSet s t g
        (d.write m (fun i j => x.code m s.draws (x.pick i j).1 (x.pick i j).2)
          (fun i b => let p := if d.trans then x.pick (32 * b) i else x.pick i (32 * b); x.scale m s.draws p.1 p.2) (x.bad m))
        (sinkOf c d sr sat).2) ∧
    (Ready (.vcvt g o) s n → x.fmt = 7 → d.fmt = 7 → x.trans ≠ d.trans → Answers (.vcvt g o) s fun t =>
      MemSet s t g
        (d.putBlocks m (sinkOf c d sr sat).1 (fun i j => x.value m s.draws (x.pick i j).1 (x.pick i j).2) (x.bad m))
        (sinkOf c d sr sat).2)

/-- A tile that passes the checks of R426, once written, reads back in every element what was written, cut to its format's width;
and no byte outside its lines and its scale bytes has changed (R424, R425). -/
def Obligations.TileReadsBackWhatWasWritten : Prop :=
  ∀ (d : Tile) (m : PMem) (code scale : Nat → Nat → Nat) (bad : Bool), d.exc = [] → d.fmt < 8 → 0 < d.rows → 0 < d.cols →
    (∀ r c draw, r < d.rows → c < d.cols → d.code (d.write m code scale bad) draw r c = code r c % 2 ^ fmtBits d.fmt) ∧
    (∀ b draw, (∀ p ∈ d.pieces, b < p.1 ∨ p.1 + p.2 ≤ b) → (d.write m code scale bad).byte draw b = m.byte draw b)


/-! ### Channels and combining queues (12) -/

/-- SEND (R463, R547, R558, R563, R566 to R569, R765): the release it asks for being complete, the message goes into a queue of its own
cluster while there is a credit, or room and its turn; to another cluster it leaves with a credit; to a combining queue it leaves, where
the plane takes it; on a link channel it leaves for the port and takes a count of it. Without a credit it waits. MODEL'S CHOICE
(log 152): the plane takes a message of a core when its tail has entered once the plane has run. -/
def Obligations.SendsComplete : Prop :=
  ∀ (g : Fin 1024) (o : OpFields) (s : State) (n k : Nat) (ch : Channel),
    let c := s.core g
    let m : Message := { lo := c.reg o.a, hi := c.reg o.b, poisonLo := c.regBad o.a, poisonHi := c.regBad o.b, key := g, chan := k }
    let bytes := toBytes 8 (c.reg o.a).toNat ++ toBytes 8 (c.reg o.b).toNat
    let held := smGet c.credits 0 k
    Ready (.send g o) s n → (o.mod.getLsbD 0 = true → s.released n g (o.mod.toNat / 2 % 4) false = true) →
    s.outChannel n (.core g (o.imm.toNat % 256)) = some k → s.channel n k = some ch →
    (∀ g2 q, ch.dst = .core g2 q → g.val / 8 = g2 / 8 →
      (if ch.credit then 0 < held else ((s.core g2).queue q).length < 8 ∧ s.sendTurn n g2 q g = true) →
      Answers (.send g o) s fun t =>
        (t.core g2).queue q = (s.core g2).queue q ++ [m] ∧ (t.core g).pc = c.pc + 8 ∧ (t.core g).regs = c.regs ∧
          smGet (t.core g).credits 0 k = (if ch.credit then held - 1 else held) ∧ Frame s t [] [.cores, .regions] ∧ Sent s t []) ∧
    (∀ g2 q, ch.dst = .core g2 q → g.val / 8 ≠ g2 / 8 → 0 < held → s.mayIssue n g = true →
      Answers (.send g o) s fun t =>
        (∃ p, Injected s t n (.core g) (.core g2) .message 0 16 p ∧ p.chan = k ∧ p.key = g ∧ p.bytes = memAt 0 bytes) ∧
          t.core g = { c with credits := smPut c.credits k (held - 1), msgUnacked := c.msgUnacked + 1 }.past ∧
          (∀ h, h ≠ g.val → t.core h = s.core h) ∧ Frame s t [] [.cores, .net] ∧ Sent s t []) ∧
    (∀ g2 q, ch.dst = .core g2 q → held = 0 → (ch.credit = true ∨ g.val / 8 ≠ g2 / 8) → Answers (.send g o) s fun t =>
        OneCore s t g { c with wait := .op }) ∧
    (∀ i q d, ch.dst = .cq i q d → s.mayIssue n g = true →
      (s.sendMessage n (.core g) (.slice i) k g m.lo m.hi m.poisonLo m.poisonHi).backedUp (.core g) = false →
      Answers (.send g o) s fun t =>
        (∃ p, Injected s t n (.core g) (.slice i) .message 0 16 p ∧ p.chan = k ∧ p.key = g ∧ p.bytes = memAt 0 bytes) ∧
          t.core g = c.past ∧ (∀ h, h ≠ g.val → t.core h = s.core h) ∧ Frame s t [] [.cores, .net] ∧ Sent s t []) ∧
    (∀ p l, ch.dst = .link p l → 0 < smGet (s.port p).outCount 0 l → s.mayIssue n g = true → Answers (.send g o) s fun t =>
        (∃ x, Injected s t n (.core g) (.port p) .message 0 16 x ∧ x.chan = l ∧ x.bytes = memAt 0 bytes ∧
          x.code = smGet (s.port p).outEpoch 0 l) ∧
          smGet (t.port p).outCount 0 l = smGet (s.port p).outCount 0 l - 1 ∧ t.core g = c.past ∧
          (∀ h, h ≠ g.val → t.core h = s.core h) ∧ Frame s t [] [.cores, .net, .ports] ∧ Sent s t []) ∧
    (∀ p l, ch.dst = .link p l → smGet (s.port p).outCount 0 l = 0 → Answers (.send g o) s fun t =>
        OneCore s t g { c with wait := .op })

/-- QRD (R388, R464, R564): of a bound queue it pops the oldest message into a register pair, or only reads it, or reads how many the
queue holds; it waits while there is none. -/
def Obligations.QueueReadsComplete : Prop :=
  ∀ (g : Fin 1024) (o : OpFields) (s : State) (n : Nat),
    let c := s.core g
    let q := o.imm.toNat % 8
    let kind := o.mod.toNat % 4
    Ready (.qrd g o) s n →
    (kind = 2 → Answers (.qrd g o) s fun t =>
      let done := (c.setReg o.d (BitVec.ofNat 64 (c.queue q).length) false).past
      if o.mod.getLsbD 2 then Acquires s t g done (o.mod.toNat / 8 % 4) else OneCore s t g done) ∧
    (∀ m rest, c.queue q = m :: rest → kind ≠ 2 → Answers (.qrd g o) s fun t =>
      (t.core g).reg o.d = m.lo ∧ (t.core g).reg (o.d.val + 1) = m.hi ∧
        (∀ i, i ≠ o.d.val → i ≠ o.d.val + 1 → (t.core g).reg i = c.reg i) ∧ (t.core g).pc = c.pc + 8 ∧
        (t.core g).queue q = if kind = 0 then rest else c.queue q) ∧
    (c.queue q = [] → kind ≠ 2 → Answers (.qrd g o) s fun t => OneCore s t g { c with wait := .op })

/-- Combining queues (R562, R569, R573 to R577): the contribution at the head of the input joins its tag's entry; a complete entry of one
delivery sends the sum of its contributions, in order of source key, and is freed: to another combining queue where the plane takes it,
to a core's queue with a credit, on a link channel with a count of it. -/
def Obligations.CombiningQueuesComplete : Prop :=
  (∀ (i : Fin 64) (s : State) (n : Nat) (x : Contribution) (rest : List Contribution) (c : Combiner) (es : List CombEntry),
    s.ownerOf (tileOfSlice i) = some n → (s.slice i).combIn = x :: rest → x.badTag = false → s.combiner n i x.q = some c →
    joinEntry (smGet (s.slice i).combs [] x.q) c x = some es →
    ((s.channel n x.chan).all fun ch => match ch.src with | .link _ _ => false | _ => true) = true → Answers (.combiningAccept i) s fun t =>
      (t.slice i).combIn = rest ∧ smGet (t.slice i).combs [] x.q = es ∧
        (∀ q, q ≠ x.q → smGet (t.slice i).combs [] q = smGet (s.slice i).combs [] q) ∧
        (∀ j, j ≠ i.val → t.slice j = s.slice j) ∧ Frame s t [] [.slices] ∧ Sent s t []) ∧
  (∀ (i : Fin 64) (q : Fin 16) (s : State) (n k : Nat) (c : Combiner) (e : CombEntry) (ahead after : List CombEntry) (ch : Channel),
    s.ownerOf (tileOfSlice i) = some n → s.combiner n i q = some c → c.deliveries = 1 → e.sent = 0 →
    smGet (s.slice i).combs [] q = ahead ++ e :: after → e.complete c = true → (∀ x ∈ ahead ++ after, x.complete c = false) →
    s.outChannel n (.cq i q 0) = some k → s.channel n k = some ch → s.mayInject n (tileOfSlice i) = true →
    s.backedUp (.slice i) = false →
    let lo := (deliveryOf c e).1
    let hi := (deliveryOf c e).2
    let bytes := memAt 0 (toBytes 8 lo.toNat ++ toBytes 8 hi.toNat)
    let freed (t : State) : Prop := smGet (t.slice i).combs [] q = ahead ++ after ∧
      (∀ r, r ≠ q.val → smGet (t.slice i).combs [] r = smGet (s.slice i).combs [] r) ∧ ∀ j, j ≠ i.val → t.slice j = s.slice j
    (∀ i2 q2 d, ch.dst = .cq i2 q2 d →
      (s.sendMessage n (.slice i) (.slice i2) k (cqKey i q) lo hi e.poisoned false).backedUp (.slice i) = false →
      Answers (.combiningDelivery i q) s fun t =>
        (∃ p, Injected s t n (.slice i) (.slice i2) .message 0 16 p ∧ p.chan = k ∧ p.key = cqKey i q ∧ p.bytes = bytes) ∧
          freed t ∧ (t.slice i).credits = (s.slice i).credits ∧ Frame s t [] [.slices, .net] ∧ Sent s t []) ∧
    (∀ g q2, ch.dst = .core g q2 → 0 < smGet (s.slice i).credits 0 k → Answers (.combiningDelivery i q) s fun t =>
        (∃ p, Injected s t n (.slice i) (.core g) .message 0 16 p ∧ p.chan = k ∧ p.key = cqKey i q ∧ p.bytes = bytes) ∧
          freed t ∧ (t.slice i).credits = smPut (s.slice i).credits k (smGet (s.slice i).credits 0 k - 1) ∧
          (t.slice i).msgUnacked = (s.slice i).msgUnacked + 1 ∧ Frame s t [] [.slices, .net] ∧ Sent s t []) ∧
    (∀ p l, ch.dst = .link p l → 0 < smGet (s.port p).outCount 0 l → Answers (.combiningDelivery i q) s fun t =>
        (∃ x, Injected s t n (.slice i) (.port p) .message 0 16 x ∧ x.chan = l ∧ x.code = smGet (s.port p).outEpoch 0 l ∧
          x.bytes = bytes) ∧
          freed t ∧ smGet (t.port p).outCount 0 l = smGet (s.port p).outCount 0 l - 1 ∧
          Frame s t [] [.slices, .net, .ports] ∧ Sent s t []))

/-! ### Dynamic plane (11, 13, 15) -/

/-- Packet `id` of kind `k` is `p`; the plane has brought it to its unit, where it can be taken, and `u` is the state with it out of the
plane; a response is not for a tile that is cut off. -/
abbrev Arrives (s u : State) (id : Nat) (k : PacketKind) (p : Packet) : Prop :=
  s.packet id k = some p ∧ s.arrive p = some u ∧ (isResponse k = true → u.cutOff p.region p.dstTile = false)

/-- The requester of `p` stands in the plane, and can be answered: it is not cut off. -/
def Answerable (u : State) (p : Packet) : Prop := (∀ q, p.src ≠ .port q) ∧ u.cutOff p.region (agentTile p.src) = false

/-- The packet `p` has left the plane, and its answer `q` of kind `k` is on its way to the requester. -/
def Replied (u t : State) (p q : Packet) (k : PacketKind) : Prop :=
  t.net = (u.net.filter fun x => x.id != p.id) ++ [q] ∧ q.id = u.nextId ∧ q.kind = k ∧ q.region = p.region ∧ q.dst = p.src ∧
    q.tag = p.id ∧ q.addr = p.addr ∧ q.size = p.size

/-- What changes when a packet is taken from the plane, beside what its unit does with it. -/
abbrev planeParts : List Part := [.net, .mesh, .ctl, .regions]

/-- Requests at the units that serve them (R525, R590, R609, R634, R655, R662): a READ of a place in pinned ways is answered with
its bytes; a request for the link window goes on to the Edge Ring; a write of a core's store buffer is accepted, read back from there,
and acknowledged; an ATOMIC changes its word and is answered with the old value or an ACK. -/
def Obligations.PlaneRequestsComplete : Prop :=
  (∀ (id i : Nat) (s u : State) (p : Packet), Arrives s u id .read p → p.dst = .slice i → p.op ≠ 1 →
    (match u.locate p.region p.addr with | .ext _ _ => false | _ => true) = true → u.behind p = false → Answerable u p →
    Answers (.dynRead id .none) s fun t =>
      (∃ q, Replied u t p q .data ∧ q.bytes = memAt 0 (u.homeBytes p.region p.addr p.size).1 ∧
        q.poison = (u.homeBytes p.region p.addr p.size).2) ∧ Frame s t [] planeParts) ∧
  (∀ (id k : Nat) (s u : State) (p : Packet) (i : Instr) (kind : PacketKind), Arrives s u id kind p → p.dst = .port k →
    (kind, i) ∈ [(PacketKind.read, Instr.dynRead id .none), (.atomic, .dynAtomic id .none), (.message, .dynMessage id)] →
    Answers i s fun t =>
      t.edge = u.edge ++ [{ p with since := u.nextId, promoted := false }] ∧ t.net = (u.net.filter fun x => x.id != p.id) ∧ Frame s t [] (.edge :: planeParts)) ∧
  (∀ (id g n i b : Nat) (s u : State) (x : SbEntry) (p : Packet), s.entryOf id = some (g, x) → s.regionOfCore g = some n →
    Arrives (s.sendEntries n g id) u id .write p → p.src = .core g → p.dst = .slice i → u.locate p.region p.addr = .pinned i b →
    u.behind p = false → Answerable u p → p.addr % 64 = 0 → smSorted p.bytes = true → (∀ e ∈ p.bytes, e.1 < 64) →
    b + 64 ≤ 0x600000 → Answers (.dynWrite id .none) s fun t =>
      (∀ e ∈ p.bytes, ∀ d, t.sramByte i d (b + e.1) = e.2) ∧
        (∀ a d, a < 0x600000 → (∀ e ∈ p.bytes, a ≠ b + e.1) → t.sramByte i d a = s.sramByte i d a) ∧
        (∀ j, j ≠ i → t.slice j = s.slice j) ∧ (∀ e ∈ (t.core g).store, e.id ≠ id) ∧
        (t.core g).unacked = (s.core g).unacked + 1 ∧ (∀ h, h ≠ g → t.core h = s.core h) ∧ (∃ q, Replied u t p q .ack) ∧
        Frame s t [] (.cores :: .slices :: planeParts)) ∧
  (∀ (id i b : Nat) (s u : State) (p : Packet), Arrives s u id .atomic p → p.dst = .slice i →
    u.locate p.region p.addr = .pinned i b → u.behind p = false → Answerable u p → Answers (.dynAtomic id .none) s fun t =>
      let r := atomicOn (u.slice i).sram u.draws (u.cell i b) p.op p.fmt p.operand p.compare p.bad
      (t.slice i).sram = r.2.2 ∧ (∀ j, j ≠ i → t.slice j = s.slice j) ∧
        t.fld (F.MSL_ATOM_COUNT_ATOMS i) = (s.fld (F.MSL_ATOM_COUNT_ATOMS i) + 1) % 2 ^ 32 ∧
        (∃ q, Replied u t p q (if p.ret then .data else .ack) ∧ (p.ret = true → q.bytes = memAt 0 (toBytes p.size r.1)) ∧
          (p.ret = false → q.writers = p.writers)) ∧
        Frame s t [R.MSL_ATOM_COUNT i] (.slices :: planeParts))

/-- Messages, Edge Rings and credits (R388, R532, R545 to R547, R549, R550, R558, R564, R566, R567, R569): a MESSAGE enters the receive
queue of its channel, or the combining input of its slice, while it has room, and leaves the plane; on a credit channel it is
acknowledged; a request whose column has its turn leaves the stop for its port, counted; a returned credit whose way is powered, and free
of a HALT, reaches its sender. -/
def Obligations.MessagesAndCreditsComplete : Prop :=
  (∀ (id : Nat) (s u : State) (p : Packet) (c : Channel), Arrives s u id .message p → (∀ k, p.dst ≠ .port k) →
      u.channel p.region p.chan = some c →
      (∀ g q, c.dst = .core g q → ((u.core g).queue q).length < 8 → Answerable u p → Answers (.dynMessage id) s fun t =>
        (t.core g).queue q = (s.core g).queue q ++ [p.message] ∧
          (if c.credit && (match c.src with | .link _ _ => false | _ => true) then ∃ a, Replied u t p a .ack ∧ a.code = 1
            else t.net = u.net.filter fun x => x.id != p.id) ∧
          (∀ h, h ≠ g → t.core h = s.core h) ∧ Frame s t [] (.cores :: planeParts)) ∧
      (∀ i q d, c.dst = .cq i q d → (u.slice i).combIn.length < 16 → Answers (.dynMessage id) s fun t =>
        (t.slice i).combIn = (s.slice i).combIn ++ [p.message.contribution q] ∧ t.net = (u.net.filter fun x => x.id != p.id) ∧
          (∀ j, j ≠ i → t.slice j = s.slice j) ∧ Frame s t [] (.slices :: planeParts))) ∧
  (∀ (id : Nat) (p : Fin 4) (s : State) (q : Packet), s.edge.find? (fun x => x.id == id) = some q → q.dst = .port p →
    q.region < 32 → s.power.halves = true → s.edgeTurn q = true → Answers (.edgeRingTransfer id false) s fun t =>
      t.edge = (s.edge.filter fun x => x.id != id) ∧
        t.fld (F.ER_OUT_TOTAL_VALUE (ringOfPort p)) = (s.fld (F.ER_OUT_TOTAL_VALUE (ringOfPort p)) + 1) % 2 ^ 32) ∧
  (∀ (id k src g c : Nat) (way : CtlWay) (s : State), s.ctl.find? (fun e => e.1 == id) = some (k, .chanCredit src (.core g) c) →
    s.wayOpen (tileWay src (tileOfCore g)) = true → s.haltAhead (tileWay src (tileOfCore g)) = false → way.failedAt = none →
    Answers (.creditReturn id way) s fun t =>
      smGet (t.core g).credits 0 c = smGet (s.core g).credits 0 c + 1 ∧ (∀ h, h ≠ g → t.core h = s.core h) ∧
        t.ctl = smDel s.ctl id ∧ Frame s t [R.CTL_STATUS] [.cores, .ctl]) ∧
  (∀ (id k src i c : Nat) (way : CtlWay) (s : State), s.ctl.find? (fun e => e.1 == id) = some (k, .chanCredit src (.slice i) c) →
    s.wayOpen (tileWay src (tileOfSlice i)) = true → s.haltAhead (tileWay src (tileOfSlice i)) = false → way.failedAt = none →
    Answers (.creditReturn id way) s fun t =>
      smGet (t.slice i).credits 0 c = smGet (s.slice i).credits 0 c + 1 ∧ (∀ j, j ≠ i → t.slice j = s.slice j) ∧
        t.ctl = smDel s.ctl id ∧ Frame s t [R.CTL_STATUS] [.slices, .ctl]) ∧
  (∀ (id k n src relay vc : Nat) (way : CtlWay) (s : State), s.ctl.find? (fun e => e.1 == id) = some (k, .relayCredit n src relay vc) →
    s.wayOpen (tileWay relay src) = true → s.haltAhead (tileWay relay src) = false → way.failedAt = none →
    Answers (.creditReturn id way) s fun t =>
      t.mesh = { s.mesh with credits := s.mesh.credits.filter fun x => x != (src, relay, vc) } ∧ t.ctl = smDel s.ctl id ∧
        Frame s t [R.CTL_STATUS] [.mesh, .ctl])

/-- Responses at their requesters (R370, R379, R386, R431, R525, R567, R624, R634): DATA ends a core's load, whose register takes the
bytes, its own store buffer's first, or the atomic's old value; an ACK counts off a CREDIT message, a write of a remote module, or a write
or non-returning atomic, once for each contribution; RETRY makes the proxy ask again. -/
def Obligations.PlaneResponsesComplete : Prop :=
  (∀ (id g : Nat) (s u : State) (p : Packet) (l : LoadOp), Arrives s u id .data p → p.dst = .core g →
    (s.core g).loads.filter (fun x => x.tag == p.tag) = [l] →
    (∀ h, h ≠ g → h / 8 = g / 8 → ∀ x ∈ (s.core h).loads, x.tag ≠ p.tag) → l.granule = false → l.dest ≠ 0 →
    Answers (.dynData id []) s fun t =>
      let bytes := (List.range l.size).map fun k => smGet p.bytes 0 (l.addr - p.addr + k)
      (t.core g).loads = ((s.core g).loads.filter fun x => x.tag != p.tag) ∧ (t.core g).wait = (s.core g).wait ∧
        (t.core g).pc = (s.core g).pc ∧
        (t.core g).reg l.dest = (if p.ret then atomicOld p.fmt (fromBytes bytes)
          else extend ((List.range l.size).map fun k => smGet l.overlay (bytes.getD k 0) k) l.sext) ∧
        (∀ i, i ≠ l.dest → (t.core g).reg i = (s.core g).reg i) ∧ (∀ h, h ≠ g → t.core h = s.core h) ∧
        t.net = (u.net.filter fun x => x.id != p.id) ∧ Frame s t [] (.cores :: .clusters :: planeParts)) ∧
  (∀ (id g : Nat) (s u : State) (p : Packet), Arrives s u id .ack p → p.dst = .core g → Answers (.dynAck id) s fun t =>
      let writers := if p.writers.isEmpty then [g] else p.writers
      (∀ h, t.core h = (if p.code = 1 then (if h = g then { s.core g with msgUnacked := (s.core g).msgUnacked - 1 } else s.core h)
        else if p.code = 2 then { s.core h with unackedLink := (s.core h).unackedLink - p.writers.count h }
        else { s.core h with unacked := (s.core h).unacked - writers.count h })) ∧
        t.net = (u.net.filter fun x => x.id != p.id) ∧ Frame s t [] (.cores :: planeParts)) ∧
  (∀ (id i : Nat) (s u : State) (p : Packet), Arrives s u id .ack p → p.dst = .slice i → Answers (.dynAck id) s fun t =>
      t.slice i = { s.slice i with msgUnacked := (s.slice i).msgUnacked - 1 } ∧ (∀ j, j ≠ i → t.slice j = s.slice j) ∧
        t.net = (u.net.filter fun x => x.id != p.id) ∧ Frame s t [] (.slices :: planeParts)) ∧
  (∀ (id i : Nat) (s u : State) (p : Packet), Arrives s u id .error p → p.dst = .slice i → p.code = codeRETRY →
    (∀ q ∈ u.net, q.line = false ∨ q.op ≠ 1 ∨ q.id = p.id) → Answers (.dynError id) s fun t =>
      ∃ q, t.net = (u.net.filter fun x => x.id != p.id) ++ [q] ∧ q.kind = .read ∧ q.line = true ∧ q.op = 1 ∧ q.src = .slice i ∧
        q.addr = 2 ^ 47 + p.addr % 2 ^ 46 / 128 * 128 ∧ Frame s t [] planeParts)

/-! ### Meridian (13) -/

/-- Borrowing (R617, R618, R621 to R624): the only request for a line that is present in full and untracked is granted: the proxy
becomes its borrower, and the line leaves for it; a recall takes it back from the borrower, and its return frees it. -/
def Obligations.BorrowingCompletes : Prop :=
  (∀ (h proxy : Fin 64) (line : BitVec 64) (n : Nat) (s u : State) (p w : Packet), s.ownerOf (tileOfSlice h) = some n →
    s.net.find? (fun p => p.kind == .read && p.line && p.op == 1 && p.dst == .slice h && p.src == .slice proxy.val &&
      p.addr == 2 ^ 47 + line.toNat * 128) = some p → s.arrive p = some u → u.borrowers n h line.toNat = [w] →
    w.src = .slice proxy → Answerable u w → (u.slice h).tracker = [] → ((u.slice h).home line.toNat).missing 15 = 0 →
    Answers (.borrowRequest h line proxy) s fun t =>
      (∃ q, Replied u t w q .data ∧ q.bytes = ((u.slice h).home line.toNat).data) ∧
        ∃ e, (t.slice h).trackOf line.toNat = some e ∧ e.borrower = some proxy.val ∧ e.pointer = tileOfSlice proxy + 1) ∧
  (∀ (h : Fin 64) (line : BitVec 64) (n b : Nat) (s : State) (e : Tracker) (l : CLine), s.ownerOf (tileOfSlice h) = some n →
    (s.slice h).trackOf line.toNat = some e → e.recalling = true → e.borrower = some b → (s.slice b).find line.toNat = some l →
    Answers (.recallLine h line) s fun t =>
      (t.slice b).find line.toNat = none ∧
        ∃ q, t.net = s.net ++ [q] ∧ q.kind = .write ∧ q.line = true ∧ q.src = .slice b ∧ q.dst = .slice h ∧
          q.addr = 2 ^ 47 + line.toNat * 128 ∧ q.writers = l.writers ∧ q.bytes = l.data.filter fun x => l.dirty.contains x.1) ∧
  (∀ (h : Fin 64) (id : Nat) (s u : State) (p : Packet), Arrives s u id .write p → p.line = true → p.dst = .slice h →
    Answers (.lineReturn h id) s fun t =>
      t.net = (u.net.filter fun x => x.id != p.id) ∧
        ∀ e, (t.slice h).trackOf (p.addr % 2 ^ 46 / 128) = some e → e.borrower = none)

/-! ### Channels of HBM (16) -/

/-- A stack's channel (R608, R695, R696, R702, R703, R706, R717): a granted write is in HBM, a granted read on its way; its sectors are
then present in the home slice; a refresh changes nothing; a request that has waited too long, at its home slice, its column stop, a
port's ingress buffer or the ring engine, is promoted, and counted; a window that ends starts every channel's counts anew. MODEL'S CHOICE
(log 164): at a column stop those that came with it or before it are promoted too. -/
def Obligations.ChannelStepsComplete : Prop :=
  (∀ (c : Fin 128) (s : State) (r : HReq), s.chanHeld c = false → s.stackReady c = true →
    (s.injectAll c).bestOf ((s.injectAll c).hreqs.filter fun r => r.chan == c && r.injected && !r.granted) = some r →
    Answers (.hbmGrant c) s fun t =>
      if r.write then t.hbm = hbmMerge s.hbm r ∧ ∀ q ∈ t.hreqs, q.id ≠ r.id
      else t.hbm = s.hbm ∧ ∃ q ∈ t.hreqs, q.id = r.id ∧ q.granted = true) ∧
  (∀ (id : Nat) (s : State) (r : HReq), s.hreqs.find? (fun r => r.id == id && r.granted && !r.write) = some r →
    ((s.slice (sliceOfChannel r.chan)).lines.filter fun m : CLine =>
        m.line != r.line && Sys2Proof.Machine.setOf m.line == Sys2Proof.Machine.setOf r.line).length <
      s.cacheWays (sliceOfChannel r.chan) → Answers (.hbmReadComplete id) s fun t =>
      t.hreqs = (s.hreqs.filter fun q => q.id != id) ∧ t.hbm = s.hbm ∧
        ∃ l, (t.slice (sliceOfChannel r.chan)).find r.line = some l ∧ ∀ k, k < 4 → r.sectors.testBit k = true →
          l.present.testBit k = true) ∧
  (∀ (c : Fin 128) (b : Fin 64) (s : State), Answers (.hbmRefresh c b) s fun t => Frame s t [] [] ∧ Sent s t []) ∧
  (∀ (id : Nat) (s : State) (r : HReq), s.hreqs.find? (fun r => r.id == id && !r.granted && !r.promoted) = some r →
    Answers (.agePromotion (.request id)) s fun t =>
      (∀ q ∈ t.hreqs, q.id = id → q.promoted = true) ∧
        t.fld (F.RGN_AGE_PROMOTED_PROMOTED r.region) = min (s.fld (F.RGN_AGE_PROMOTED_PROMOTED r.region) + 1) 0xFFFFFFFF ∧
        Frame s t [R.RGN_AGE_PROMOTED r.region] [.hreqs] ∧ Sent s t []) ∧
  (∀ (id : Nat) (s : State) (q : Packet), s.edge.find? (fun q => q.id == id && !q.promoted) = some q → (edgeStop q).isSome = true →
    Answers (.agePromotion (.edge id)) s fun t =>
      (∀ x ∈ t.edge, x.id = id → x.since = q.since → x.region = q.region → edgeStop { x with promoted := false } = edgeStop q →
        x.promoted = true) ∧
        t.edge.map (fun x => { x with promoted := false }) = s.edge.map (fun x => { x with promoted := false }) ∧
        Frame s t [R.RGN_AGE_PROMOTED q.region] [.edge] ∧ Sent s t []) ∧
  (∀ (port : Fin 4) (place now n : Nat) (p : LinkPacket) (s : State), (s.port port).since[place]? = some now →
    (s.port port).ingress[place]? = some p → s.portRegion port = some n → isResponse p.kind = false →
    (s.port port).aged.contains now = false → Answers (.agePromotion (.ingress port place)) s fun t =>
      now ∈ (t.port port).aged ∧ (t.port port).ingress = (s.port port).ingress ∧
        t.fld (F.RGN_AGE_PROMOTED_PROMOTED n) = min (s.fld (F.RGN_AGE_PROMOTED_PROMOTED n) + 1) 0xFFFFFFFF ∧
        Frame s t [R.RGN_AGE_PROMOTED n] [.ports] ∧ Sent s t []) ∧
  (∀ (d : DescRef) (x : Desc) (s : State), s.desc? d = some x → x.phase = .running → x.block.isSome = true → x.linkWriting = false →
    x.promoted = false → Answers (.agePromotion (.block d)) s fun t =>
      t.desc? d = some { x with promoted := true } ∧
        t.fld (F.RGN_AGE_PROMOTED_PROMOTED d.vf) = min (s.fld (F.RGN_AGE_PROMOTED_PROMOTED d.vf) + 1) 0xFFFFFFFF ∧
        Frame s t [R.RGN_AGE_PROMOTED d.vf] [.vfs] ∧ Sent s t []) ∧
  (∀ s : State, s.power.halves = true → Answers .budgetWindow s fun t =>
    t.stops = [] ∧ (∀ c, (t.chan c).used = []) ∧ ∀ p, p ∉ [Part.stops, .chans] → p.same s t)

/-- Slices (R157, R158, R784, R787, R790): a slice without requests under gated islands enters retention, and leaves it; a scrub step
moves its position on, from the last to the first; a leak takes one from the bushel, unless it is empty. -/
def Obligations.SliceStepsComplete : Prop :=
  (∀ (i : Fin 64) (s : State) (n : Nat), s.ownerOf (tileOfSlice i) = some n → s.power.halves = true → s.sliceBusy i = false →
    (∀ k ∈ s.islandsOf n, s.bitAt F.CLK_ISLAND_POWERED k = false) → Answers (.sliceRetentionEntry i) s fun t =>
      t.fld (F.MSL_STATE_RETENTION i) = 1 ∧ OtherBits s t (F.MSL_STATE_RETENTION i) ∧ Frame s t [R.MSL_STATE i] []) ∧
  (∀ (i : Fin 64) (s : State), Answers (.sliceRetentionExit i) s fun t =>
      t.fld (F.MSL_STATE_RETENTION i) = 0 ∧ OtherBits s t (F.MSL_STATE_RETENTION i) ∧ Frame s t [R.MSL_STATE i] []) ∧
  (∀ (i : Fin 64) (s : State) (n : Nat), s.ownerOf (tileOfSlice i) = some n → s.scrubbed i n = true →
    Answers (.scrubStep i false .none) s fun t =>
      let pos := s.fld (F.MSL_SCRUB_SRAM_POSITION i)
      t.fld (F.MSL_SCRUB_SRAM_POSITION i) = (if pos + 1 < 49152 then pos + 1 else 0) ∧ t.hbm = s.hbm ∧ t.cores = s.cores) ∧
  (∀ (i : Fin 64) (s : State) (n : Nat), s.ownerOf (tileOfSlice i) = some n → s.scrubbed i n = true →
    s.fld (F.MSL_SCRUB_CTRL_HBM_EN i) = 1 → Answers (.scrubStep i true .none) s fun t =>
      let pos := s.fld (F.MSL_SCRUB_HBM_POS_POSITION i)
      t.fld (F.MSL_SCRUB_HBM_POS_POSITION i) = (if pos + 1 < 25165824 then pos + 1 else 0) ∧ t.hbm = s.hbm ∧ t.cores = s.cores) ∧
  (∀ (i : Fin 64) (s : State), Answers (.bushelLeak i) s fun t =>
      t.fld (F.MSL_BUSHEL_COUNT i) = s.fld (F.MSL_BUSHEL_COUNT i) - 1 ∧ Frame s t [R.MSL_BUSHEL i] [])


/-! ### The whole block -/

/-- Every operation word of R419 is read back whole: the fields of a word stand at the bits of the table, and a word put together from
an opcode and fields gives them back, whatever they are; so does a word taken apart. -/
def Obligations.OperationWordsRoundTrip : Prop :=
  (∀ (opc : BitVec 8) (o : OpFields), opcodeOf (encodeOp opc o) = opc ∧ fieldsOf (encodeOp opc o) = o) ∧
  (∀ w : Word64, encodeOp (opcodeOf w) (fieldsOf w) = w) ∧
  (∀ w : Word64, (opcodeOf w).toNat = bitsOf w.toNat 0 8 ∧ (fieldsOf w).d.val = bitsOf w.toNat 8 5 ∧
    (fieldsOf w).a.val = bitsOf w.toNat 13 5 ∧ (fieldsOf w).b.val = bitsOf w.toNat 18 5 ∧ (fieldsOf w).c.val = bitsOf w.toNat 23 5 ∧
    (fieldsOf w).mod.toNat = bitsOf w.toNat 28 8 ∧ (fieldsOf w).imm.toNat = bitsOf w.toNat 36 28)

/-- Every step keeps INT_PF_STATUS in line with the causes of R221 (R224): whatever command runs, each of its bits reads 1 exactly while
a cause of its vector holds. -/
def Obligations.StepKeepsInterruptStatus : Prop :=
  ∀ s t : State, s.InLine → step s = .next t → t.InLine

/-- Every step keeps the state canonical: registers of 32 bits (R6), each listed once, in order; HBM in its canonical form; the
device timestamp within 48 bits (R82). -/
def Obligations.StepKeepsCanonicalState : Prop :=
  ∀ s t : State, s.Canonical → step s = .next t → t.Canonical

/-- After reset the two invariants hold and the registers read their cold values, among them the multipliers (R64), the
thresholds (R149), TD_MS (R138) and the polling bounds; every region is FREE, every ring and port DISABLED, the device timestamp
0 (R82), and no command waits. -/
def Obligations.StateAfterReset : Prop :=
  State.reset.Canonical ∧ State.reset.InLine ∧ State.reset.pending = [] ∧ State.reset.time = 0 ∧ State.reset.hbm = {} ∧
    (∀ off d, regAt off = some d → State.reset.word off d.cold = d.cold) ∧
    State.reset.fld F.CLK_TILE_FREQ_CEILING_MULT = 80 ∧ State.reset.fld F.CLK_TILE_FREQ_VESPER_MULT = 80 ∧
    State.reset.fld F.PWR_SAG_MV = 44000 ∧ State.reset.fld F.PWR_DROPOUT_MV = 36000 ∧ State.reset.fld F.PWR_LOSS_MV = 30000 ∧
    State.reset.fld F.PWR_FHALT_CTRL_TD_MS = 200 ∧ State.reset.fld F.PWR_STATE_STATE = 1 ∧
    (∀ n : Fin 32, State.reset.rgnState n = rFREE ∧ ∀ i : Fin 8, State.reset.ringState n i = qDISABLED) ∧
    (∀ p : Fin 4, State.reset.linkState p = lDISABLED) ∧ State.reset.power.phase = .off
end

