-- ==== Sys2Proof/Laws/Bits.lean ====
section
/-! SUPPORT. Laws of bit fields and sparse maps. -/

namespace Sys2Proof.Machine

theorem putBits_testBit (w lo n v i : Nat) :
    (putBits w lo n v).testBit i =
      if i < lo then w.testBit i else if i < lo + n then v.testBit (i - lo) else w.testBit i := by
  have e : putBits w lo n v = 2 ^ lo * (2 ^ n * (w / 2 ^ (lo + n)) + v % 2 ^ n) + w % 2 ^ lo := by
    unfold putBits; rw [Nat.pow_add]; ring
  rw [e, Nat.testBit_two_pow_mul_add _ (Nat.mod_lt _ (Nat.two_pow_pos lo))]
  split
  · rename_i h; simp [Nat.testBit_mod_two_pow, h]
  · rename_i h
    rw [Nat.testBit_two_pow_mul_add _ (Nat.mod_lt _ (Nat.two_pow_pos n))]
    by_cases h2 : i < lo + n
    · have : i - lo < n := by omega
      simp [h2, this, Nat.testBit_mod_two_pow]
    · have h3 : ¬ i - lo < n := by omega
      simp only [h2, h3, if_false, Nat.testBit_div_two_pow]
      congr 1; omega

theorem bitsOf_testBit (w lo n i : Nat) : (bitsOf w lo n).testBit i = (decide (i < n) && w.testBit (lo + i)) := by
  simp [bitsOf, Nat.testBit_mod_two_pow, Nat.testBit_div_two_pow, Nat.add_comm]

theorem bitsOf_lt (w lo n : Nat) : bitsOf w lo n < 2 ^ n := Nat.mod_lt _ (Nat.two_pow_pos n)

@[simp] theorem bitsOf_putBits_same (w lo n v : Nat) : bitsOf (putBits w lo n v) lo n = v % 2 ^ n := by
  apply Nat.eq_of_testBit_eq; intro i
  rw [bitsOf_testBit, putBits_testBit, Nat.testBit_mod_two_pow]
  by_cases h : i < n
  · simp [h]
  · simp [h]

theorem bitsOf_putBits_disjoint (w lo n v lo2 n2 : Nat) (h : lo2 + n2 ≤ lo ∨ lo + n ≤ lo2) :
    bitsOf (putBits w lo n v) lo2 n2 = bitsOf w lo2 n2 := by
  apply Nat.eq_of_testBit_eq; intro i
  rw [bitsOf_testBit, bitsOf_testBit, putBits_testBit]
  by_cases hi : i < n2
  · have h1 : ¬ (lo ≤ lo2 + i ∧ lo2 + i < lo + n) := by omega
    split
    · rfl
    · rw [if_neg (by omega)]
  · simp [hi]

/-- A field's bits lie within the 32 bits of a register, so cutting the word to 32 bits leaves them. -/
theorem bitsOf_mod32 (w lo n : Nat) (h : lo + n ≤ 32) : bitsOf (w % 2 ^ 32) lo n = bitsOf w lo n := by
  apply Nat.eq_of_testBit_eq; intro i
  rw [bitsOf_testBit, bitsOf_testBit, Nat.testBit_mod_two_pow]
  by_cases hi : i < n
  · have : lo + i < 32 := by omega
    simp [this]
  · simp [hi]

/-! ### Sparse maps -/

@[simp] theorem smGet_nil {α : Type} (d : α) (i : Nat) : smGet ([] : SMap α) d i = d := rfl

@[simp] theorem smGet_smPut_same {α : Type} (m : SMap α) (d v : α) (i : Nat) : smGet (smPut m i v) d i = v := by
  induction m with
  | nil => simp [smPut, smGet]
  | cons e m ih =>
    obtain ⟨k, w⟩ := e
    unfold smPut
    split
    · simp [smGet]
    · split
      · simp [smGet]
      · rename_i h; simp [smGet, Ne.symm h, ih]

theorem smGet_smPut_ne {α : Type} (m : SMap α) (d v : α) {i j : Nat} (h : j ≠ i) :
    smGet (smPut m i v) d j = smGet m d j := by
  induction m with
  | nil => simp [smPut, smGet, Ne.symm h]
  | cons e m ih =>
    obtain ⟨k, w⟩ := e
    unfold smPut
    split
    · simp [smGet, Ne.symm h]
    · split
      · rename_i h2; subst h2; simp [smGet, Ne.symm h]
      · simp [smGet, ih]

theorem smGet_smPut {α : Type} (m : SMap α) (d v : α) (i j : Nat) :
    smGet (smPut m i v) d j = if j = i then v else smGet m d j := by
  by_cases h : j = i
  · simp [h]
  · simp [h, smGet_smPut_ne]

@[simp] theorem smGet_smMod_same {α : Type} (m : SMap α) (d : α) (i : Nat) (f : α → α) :
    smGet (smMod m d i f) d i = f (smGet m d i) := smGet_smPut_same ..

theorem smGet_smMod_ne {α : Type} (m : SMap α) (d e : α) {i j : Nat} (f : α → α) (h : j ≠ i) :
    smGet (smMod m d i f) e j = smGet m e j := smGet_smPut_ne _ _ _ h

/-- The rise of indices, as a relation of neighbours. -/
theorem smSorted_iff {α : Type} (m : SMap α) : smSorted m = true ↔ m.Pairwise (fun a b => a.1 < b.1) := by
  induction m with
  | nil => simp [smSorted]
  | cons a m ih =>
    cases m with
    | nil => simp [smSorted]
    | cons b m =>
      obtain ⟨k, v⟩ := a; obtain ⟨l, w⟩ := b
      simp only [smSorted, Bool.and_eq_true, decide_eq_true_eq, ih]
      constructor
      · rintro ⟨h, hp⟩
        refine List.pairwise_cons.2 ⟨?_, hp⟩
        intro x hx
        rcases List.mem_cons.1 hx with rfl | hx
        · exact h
        · exact lt_trans h (List.rel_of_pairwise_cons hp hx)
      · intro hp
        exact ⟨(List.pairwise_cons.1 hp).1 (l, w) (by simp), (List.pairwise_cons.1 hp).2⟩

theorem mem_smPut {α : Type} {m : SMap α} {i : Nat} {v : α} {e : Nat × α} (h : e ∈ smPut m i v) : e = (i, v) ∨ e ∈ m := by
  induction m with
  | nil => simpa [smPut] using h
  | cons a m ih =>
    obtain ⟨k, w⟩ := a
    unfold smPut at h
    split at h
    · rcases List.mem_cons.1 h with h | h
      · exact .inl h
      · exact .inr h
    · split at h
      · rcases List.mem_cons.1 h with h | h
        · exact .inl h
        · exact .inr (List.mem_cons_of_mem _ h)
      · rcases List.mem_cons.1 h with h | h
        · exact .inr (by simp [h])
        · rcases ih h with h | h
          · exact .inl h
          · exact .inr (List.mem_cons_of_mem _ h)

/-- Putting a value keeps the indices rising. -/
theorem smPut_sorted {α : Type} {m : SMap α} (i : Nat) (v : α) (h : smSorted m = true) : smSorted (smPut m i v) = true := by
  rw [smSorted_iff] at *
  induction m with
  | nil => simp [smPut]
  | cons a m ih =>
    obtain ⟨k, w⟩ := a
    have ⟨hk, hp⟩ := List.pairwise_cons.1 h
    unfold smPut
    split
    · rename_i hi
      refine List.pairwise_cons.2 ⟨?_, h⟩
      intro x hx
      rcases List.mem_cons.1 hx with rfl | hx
      · exact hi
      · exact lt_trans hi (hk x hx)
    · split
      · rename_i hi; subst hi; exact List.pairwise_cons.2 ⟨hk, hp⟩
      · refine List.pairwise_cons.2 ⟨?_, ih hp⟩
        intro x hx
        rcases mem_smPut hx with rfl | hx
        · change k < i; omega
        · exact hk x hx

theorem smMod_sorted {α : Type} {m : SMap α} (d : α) (i : Nat) (f : α → α) (h : smSorted m = true) :
    smSorted (smMod m d i f) = true := smPut_sorted _ _ h

theorem filter_sorted {α : Type} {m : SMap α} (p : Nat × α → Bool) (h : smSorted m = true) :
    smSorted (m.filter p) = true := by
  rw [smSorted_iff] at *; exact h.filter p

theorem smDel_sorted {α : Type} {m : SMap α} (i : Nat) (h : smSorted m = true) : smSorted (smDel m i) = true :=
  filter_sorted _ h

/-- Changing values and not indices keeps the order. -/
theorem map_sorted {α β : Type} {m : SMap α} (f : Nat → α → β) (h : smSorted m = true) :
    smSorted (m.map fun e => (e.1, f e.1 e.2)) = true := by
  rw [smSorted_iff] at *; exact List.pairwise_map.2 h

/-- Putting the values of a list of cells keeps the order (`PMem.write`). -/
theorem foldl_smPut_sorted {α : Type} (l : SMap α) {m : SMap α} (h : smSorted m = true) :
    smSorted (l.foldl (fun acc e => smPut acc e.1 e.2) m) = true := by
  induction l generalizing m with
  | nil => exact h
  | cons e l ih => exact ih (smPut_sorted _ _ h)

end Sys2Proof.Machine
end

