-- ==== Sys2Proof/Laws/State.lean ====
section
/-! SUPPORT. What each update of the state leaves alone, one lemma for each field and update; reading a field of a register after
a write; the components by index. -/

namespace Sys2Proof.Machine

variable (s : State)

/-! ### setWord -/

@[simp] theorem State.setWord_pending (off w : Nat) : (s.setWord off w).pending = s.pending := rfl
@[simp] theorem State.setWord_time (off w : Nat) : (s.setWord off w).time = s.time := rfl
@[simp] theorem State.setWord_draws (off w : Nat) : (s.setWord off w).draws = s.draws := rfl
@[simp] theorem State.setWord_fuses (off w : Nat) : (s.setWord off w).fuses = s.fuses := rfl
@[simp] theorem State.setWord_flash (off w : Nat) : (s.setWord off w).flash = s.flash := rfl
@[simp] theorem State.setWord_supply (off w : Nat) : (s.setWord off w).supply = s.supply := rfl
@[simp] theorem State.setWord_fhalt (off w : Nat) : (s.setWord off w).fhalt = s.fhalt := rfl
@[simp] theorem State.setWord_power (off w : Nat) : (s.setWord off w).power = s.power := rfl
@[simp] theorem State.setWord_modulePos (off w : Nat) : (s.setWord off w).modulePos = s.modulePos := rfl
@[simp] theorem State.setWord_xings (off w : Nat) : (s.setWord off w).xings = s.xings := rfl
@[simp] theorem State.setWord_mesh (off w : Nat) : (s.setWord off w).mesh = s.mesh := rfl
@[simp] theorem State.setWord_ringTurn (off w : Nat) : (s.setWord off w).ringTurn = s.ringTurn := rfl
@[simp] theorem State.setWord_engineVf (off w : Nat) : (s.setWord off w).engineVf = s.engineVf := rfl
@[simp] theorem State.setWord_tap (off w : Nat) : (s.setWord off w).tap = s.tap := rfl
@[simp] theorem State.setWord_vesper (off w : Nat) : (s.setWord off w).vesper = s.vesper := rfl
@[simp] theorem State.setWord_hwCause (off w : Nat) : (s.setWord off w).hwCause = s.hwCause := rfl
@[simp] theorem State.setWord_clearing (off w : Nat) : (s.setWord off w).clearing = s.clearing := rfl
@[simp] theorem State.setWord_pfConfig (off w : Nat) : (s.setWord off w).pfConfig = s.pfConfig := rfl
@[simp] theorem State.setWord_fns (off w : Nat) : (s.setWord off w).fns = s.fns := rfl
@[simp] theorem State.setWord_vfs (off w : Nat) : (s.setWord off w).vfs = s.vfs := rfl
@[simp] theorem State.setWord_regions (off w : Nat) : (s.setWord off w).regions = s.regions := rfl
@[simp] theorem State.setWord_clusters (off w : Nat) : (s.setWord off w).clusters = s.clusters := rfl
@[simp] theorem State.setWord_cores (off w : Nat) : (s.setWord off w).cores = s.cores := rfl
@[simp] theorem State.setWord_slices (off w : Nat) : (s.setWord off w).slices = s.slices := rfl
@[simp] theorem State.setWord_hbm (off w : Nat) : (s.setWord off w).hbm = s.hbm := rfl
@[simp] theorem State.setWord_hreqs (off w : Nat) : (s.setWord off w).hreqs = s.hreqs := rfl
@[simp] theorem State.setWord_chans (off w : Nat) : (s.setWord off w).chans = s.chans := rfl
@[simp] theorem State.setWord_stops (off w : Nat) : (s.setWord off w).stops = s.stops := rfl
@[simp] theorem State.setWord_net (off w : Nat) : (s.setWord off w).net = s.net := rfl
@[simp] theorem State.setWord_edge (off w : Nat) : (s.setWord off w).edge = s.edge := rfl
@[simp] theorem State.setWord_ports (off w : Nat) : (s.setWord off w).ports = s.ports := rfl
@[simp] theorem State.setWord_nextId (off w : Nat) : (s.setWord off w).nextId = s.nextId := rfl
@[simp] theorem State.setWord_ctl (off w : Nat) : (s.setWord off w).ctl = s.ctl := rfl
@[simp] theorem State.setWord_ceLogged (off w : Nat) : (s.setWord off w).ceLogged = s.ceLogged := rfl
@[simp] theorem State.setWord_out (off w : Nat) : (s.setWord off w).out = s.out := rfl

/-! ### setFld -/

@[simp] theorem State.setFld_pending (f : Fld) (v : Nat) : (s.setFld f v).pending = s.pending := rfl
@[simp] theorem State.setFld_time (f : Fld) (v : Nat) : (s.setFld f v).time = s.time := rfl
@[simp] theorem State.setFld_draws (f : Fld) (v : Nat) : (s.setFld f v).draws = s.draws := rfl
@[simp] theorem State.setFld_fuses (f : Fld) (v : Nat) : (s.setFld f v).fuses = s.fuses := rfl
@[simp] theorem State.setFld_flash (f : Fld) (v : Nat) : (s.setFld f v).flash = s.flash := rfl
@[simp] theorem State.setFld_supply (f : Fld) (v : Nat) : (s.setFld f v).supply = s.supply := rfl
@[simp] theorem State.setFld_fhalt (f : Fld) (v : Nat) : (s.setFld f v).fhalt = s.fhalt := rfl
@[simp] theorem State.setFld_power (f : Fld) (v : Nat) : (s.setFld f v).power = s.power := rfl
@[simp] theorem State.setFld_modulePos (f : Fld) (v : Nat) : (s.setFld f v).modulePos = s.modulePos := rfl
@[simp] theorem State.setFld_xings (f : Fld) (v : Nat) : (s.setFld f v).xings = s.xings := rfl
@[simp] theorem State.setFld_mesh (f : Fld) (v : Nat) : (s.setFld f v).mesh = s.mesh := rfl
@[simp] theorem State.setFld_ringTurn (f : Fld) (v : Nat) : (s.setFld f v).ringTurn = s.ringTurn := rfl
@[simp] theorem State.setFld_engineVf (f : Fld) (v : Nat) : (s.setFld f v).engineVf = s.engineVf := rfl
@[simp] theorem State.setFld_tap (f : Fld) (v : Nat) : (s.setFld f v).tap = s.tap := rfl
@[simp] theorem State.setFld_vesper (f : Fld) (v : Nat) : (s.setFld f v).vesper = s.vesper := rfl
@[simp] theorem State.setFld_hwCause (f : Fld) (v : Nat) : (s.setFld f v).hwCause = s.hwCause := rfl
@[simp] theorem State.setFld_clearing (f : Fld) (v : Nat) : (s.setFld f v).clearing = s.clearing := rfl
@[simp] theorem State.setFld_pfConfig (f : Fld) (v : Nat) : (s.setFld f v).pfConfig = s.pfConfig := rfl
@[simp] theorem State.setFld_fns (f : Fld) (v : Nat) : (s.setFld f v).fns = s.fns := rfl
@[simp] theorem State.setFld_vfs (f : Fld) (v : Nat) : (s.setFld f v).vfs = s.vfs := rfl
@[simp] theorem State.setFld_regions (f : Fld) (v : Nat) : (s.setFld f v).regions = s.regions := rfl
@[simp] theorem State.setFld_clusters (f : Fld) (v : Nat) : (s.setFld f v).clusters = s.clusters := rfl
@[simp] theorem State.setFld_cores (f : Fld) (v : Nat) : (s.setFld f v).cores = s.cores := rfl
@[simp] theorem State.setFld_slices (f : Fld) (v : Nat) : (s.setFld f v).slices = s.slices := rfl
@[simp] theorem State.setFld_hbm (f : Fld) (v : Nat) : (s.setFld f v).hbm = s.hbm := rfl
@[simp] theorem State.setFld_hreqs (f : Fld) (v : Nat) : (s.setFld f v).hreqs = s.hreqs := rfl
@[simp] theorem State.setFld_chans (f : Fld) (v : Nat) : (s.setFld f v).chans = s.chans := rfl
@[simp] theorem State.setFld_stops (f : Fld) (v : Nat) : (s.setFld f v).stops = s.stops := rfl
@[simp] theorem State.setFld_net (f : Fld) (v : Nat) : (s.setFld f v).net = s.net := rfl
@[simp] theorem State.setFld_edge (f : Fld) (v : Nat) : (s.setFld f v).edge = s.edge := rfl
@[simp] theorem State.setFld_ports (f : Fld) (v : Nat) : (s.setFld f v).ports = s.ports := rfl
@[simp] theorem State.setFld_nextId (f : Fld) (v : Nat) : (s.setFld f v).nextId = s.nextId := rfl
@[simp] theorem State.setFld_ctl (f : Fld) (v : Nat) : (s.setFld f v).ctl = s.ctl := rfl
@[simp] theorem State.setFld_ceLogged (f : Fld) (v : Nat) : (s.setFld f v).ceLogged = s.ceLogged := rfl
@[simp] theorem State.setFld_out (f : Fld) (v : Nat) : (s.setFld f v).out = s.out := rfl

/-! ### at -/

@[simp] theorem State.at_pending (t : Nat) : (s.at t).pending = s.pending := rfl
@[simp] theorem State.at_draws (t : Nat) : (s.at t).draws = s.draws := rfl
@[simp] theorem State.at_regs (t : Nat) : (s.at t).regs = s.regs := rfl
@[simp] theorem State.at_fuses (t : Nat) : (s.at t).fuses = s.fuses := rfl
@[simp] theorem State.at_flash (t : Nat) : (s.at t).flash = s.flash := rfl
@[simp] theorem State.at_supply (t : Nat) : (s.at t).supply = s.supply := rfl
@[simp] theorem State.at_fhalt (t : Nat) : (s.at t).fhalt = s.fhalt := rfl
@[simp] theorem State.at_power (t : Nat) : (s.at t).power = s.power := rfl
@[simp] theorem State.at_modulePos (t : Nat) : (s.at t).modulePos = s.modulePos := rfl
@[simp] theorem State.at_xings (t : Nat) : (s.at t).xings = s.xings := rfl
@[simp] theorem State.at_mesh (t : Nat) : (s.at t).mesh = s.mesh := rfl
@[simp] theorem State.at_ringTurn (t : Nat) : (s.at t).ringTurn = s.ringTurn := rfl
@[simp] theorem State.at_engineVf (t : Nat) : (s.at t).engineVf = s.engineVf := rfl
@[simp] theorem State.at_tap (t : Nat) : (s.at t).tap = s.tap := rfl
@[simp] theorem State.at_vesper (t : Nat) : (s.at t).vesper = s.vesper := rfl
@[simp] theorem State.at_hwCause (t : Nat) : (s.at t).hwCause = s.hwCause := rfl
@[simp] theorem State.at_clearing (t : Nat) : (s.at t).clearing = s.clearing := rfl
@[simp] theorem State.at_pfConfig (t : Nat) : (s.at t).pfConfig = s.pfConfig := rfl
@[simp] theorem State.at_fns (t : Nat) : (s.at t).fns = s.fns := rfl
@[simp] theorem State.at_vfs (t : Nat) : (s.at t).vfs = s.vfs := rfl
@[simp] theorem State.at_regions (t : Nat) : (s.at t).regions = s.regions := rfl
@[simp] theorem State.at_clusters (t : Nat) : (s.at t).clusters = s.clusters := rfl
@[simp] theorem State.at_cores (t : Nat) : (s.at t).cores = s.cores := rfl
@[simp] theorem State.at_slices (t : Nat) : (s.at t).slices = s.slices := rfl
@[simp] theorem State.at_hbm (t : Nat) : (s.at t).hbm = s.hbm := rfl
@[simp] theorem State.at_hreqs (t : Nat) : (s.at t).hreqs = s.hreqs := rfl
@[simp] theorem State.at_chans (t : Nat) : (s.at t).chans = s.chans := rfl
@[simp] theorem State.at_stops (t : Nat) : (s.at t).stops = s.stops := rfl
@[simp] theorem State.at_net (t : Nat) : (s.at t).net = s.net := rfl
@[simp] theorem State.at_edge (t : Nat) : (s.at t).edge = s.edge := rfl
@[simp] theorem State.at_ports (t : Nat) : (s.at t).ports = s.ports := rfl
@[simp] theorem State.at_nextId (t : Nat) : (s.at t).nextId = s.nextId := rfl
@[simp] theorem State.at_ctl (t : Nat) : (s.at t).ctl = s.ctl := rfl
@[simp] theorem State.at_ceLogged (t : Nat) : (s.at t).ceLogged = s.ceLogged := rfl
@[simp] theorem State.at_out (t : Nat) : (s.at t).out = s.out := rfl

/-! ### emit -/

@[simp] theorem State.emit_pending (o : Out) : (s.emit o).pending = s.pending := rfl
@[simp] theorem State.emit_time (o : Out) : (s.emit o).time = s.time := rfl
@[simp] theorem State.emit_draws (o : Out) : (s.emit o).draws = s.draws := rfl
@[simp] theorem State.emit_regs (o : Out) : (s.emit o).regs = s.regs := rfl
@[simp] theorem State.emit_fuses (o : Out) : (s.emit o).fuses = s.fuses := rfl
@[simp] theorem State.emit_flash (o : Out) : (s.emit o).flash = s.flash := rfl
@[simp] theorem State.emit_supply (o : Out) : (s.emit o).supply = s.supply := rfl
@[simp] theorem State.emit_fhalt (o : Out) : (s.emit o).fhalt = s.fhalt := rfl
@[simp] theorem State.emit_power (o : Out) : (s.emit o).power = s.power := rfl
@[simp] theorem State.emit_modulePos (o : Out) : (s.emit o).modulePos = s.modulePos := rfl
@[simp] theorem State.emit_xings (o : Out) : (s.emit o).xings = s.xings := rfl
@[simp] theorem State.emit_mesh (o : Out) : (s.emit o).mesh = s.mesh := rfl
@[simp] theorem State.emit_ringTurn (o : Out) : (s.emit o).ringTurn = s.ringTurn := rfl
@[simp] theorem State.emit_engineVf (o : Out) : (s.emit o).engineVf = s.engineVf := rfl
@[simp] theorem State.emit_tap (o : Out) : (s.emit o).tap = s.tap := rfl
@[simp] theorem State.emit_vesper (o : Out) : (s.emit o).vesper = s.vesper := rfl
@[simp] theorem State.emit_hwCause (o : Out) : (s.emit o).hwCause = s.hwCause := rfl
@[simp] theorem State.emit_clearing (o : Out) : (s.emit o).clearing = s.clearing := rfl
@[simp] theorem State.emit_pfConfig (o : Out) : (s.emit o).pfConfig = s.pfConfig := rfl
@[simp] theorem State.emit_fns (o : Out) : (s.emit o).fns = s.fns := rfl
@[simp] theorem State.emit_vfs (o : Out) : (s.emit o).vfs = s.vfs := rfl
@[simp] theorem State.emit_regions (o : Out) : (s.emit o).regions = s.regions := rfl
@[simp] theorem State.emit_clusters (o : Out) : (s.emit o).clusters = s.clusters := rfl
@[simp] theorem State.emit_cores (o : Out) : (s.emit o).cores = s.cores := rfl
@[simp] theorem State.emit_slices (o : Out) : (s.emit o).slices = s.slices := rfl
@[simp] theorem State.emit_hbm (o : Out) : (s.emit o).hbm = s.hbm := rfl
@[simp] theorem State.emit_hreqs (o : Out) : (s.emit o).hreqs = s.hreqs := rfl
@[simp] theorem State.emit_chans (o : Out) : (s.emit o).chans = s.chans := rfl
@[simp] theorem State.emit_stops (o : Out) : (s.emit o).stops = s.stops := rfl
@[simp] theorem State.emit_net (o : Out) : (s.emit o).net = s.net := rfl
@[simp] theorem State.emit_edge (o : Out) : (s.emit o).edge = s.edge := rfl
@[simp] theorem State.emit_ports (o : Out) : (s.emit o).ports = s.ports := rfl
@[simp] theorem State.emit_nextId (o : Out) : (s.emit o).nextId = s.nextId := rfl
@[simp] theorem State.emit_ctl (o : Out) : (s.emit o).ctl = s.ctl := rfl
@[simp] theorem State.emit_ceLogged (o : Out) : (s.emit o).ceLogged = s.ceLogged := rfl

/-! ### modFn -/

@[simp] theorem State.modFn_pending (i : Nat) (f : FnState → FnState) : (s.modFn i f).pending = s.pending := rfl
@[simp] theorem State.modFn_time (i : Nat) (f : FnState → FnState) : (s.modFn i f).time = s.time := rfl
@[simp] theorem State.modFn_draws (i : Nat) (f : FnState → FnState) : (s.modFn i f).draws = s.draws := rfl
@[simp] theorem State.modFn_regs (i : Nat) (f : FnState → FnState) : (s.modFn i f).regs = s.regs := rfl
@[simp] theorem State.modFn_fuses (i : Nat) (f : FnState → FnState) : (s.modFn i f).fuses = s.fuses := rfl
@[simp] theorem State.modFn_flash (i : Nat) (f : FnState → FnState) : (s.modFn i f).flash = s.flash := rfl
@[simp] theorem State.modFn_supply (i : Nat) (f : FnState → FnState) : (s.modFn i f).supply = s.supply := rfl
@[simp] theorem State.modFn_fhalt (i : Nat) (f : FnState → FnState) : (s.modFn i f).fhalt = s.fhalt := rfl
@[simp] theorem State.modFn_power (i : Nat) (f : FnState → FnState) : (s.modFn i f).power = s.power := rfl
@[simp] theorem State.modFn_modulePos (i : Nat) (f : FnState → FnState) : (s.modFn i f).modulePos = s.modulePos := rfl
@[simp] theorem State.modFn_xings (i : Nat) (f : FnState → FnState) : (s.modFn i f).xings = s.xings := rfl
@[simp] theorem State.modFn_mesh (i : Nat) (f : FnState → FnState) : (s.modFn i f).mesh = s.mesh := rfl
@[simp] theorem State.modFn_ringTurn (i : Nat) (f : FnState → FnState) : (s.modFn i f).ringTurn = s.ringTurn := rfl
@[simp] theorem State.modFn_engineVf (i : Nat) (f : FnState → FnState) : (s.modFn i f).engineVf = s.engineVf := rfl
@[simp] theorem State.modFn_tap (i : Nat) (f : FnState → FnState) : (s.modFn i f).tap = s.tap := rfl
@[simp] theorem State.modFn_vesper (i : Nat) (f : FnState → FnState) : (s.modFn i f).vesper = s.vesper := rfl
@[simp] theorem State.modFn_hwCause (i : Nat) (f : FnState → FnState) : (s.modFn i f).hwCause = s.hwCause := rfl
@[simp] theorem State.modFn_clearing (i : Nat) (f : FnState → FnState) : (s.modFn i f).clearing = s.clearing := rfl
@[simp] theorem State.modFn_pfConfig (i : Nat) (f : FnState → FnState) : (s.modFn i f).pfConfig = s.pfConfig := rfl
@[simp] theorem State.modFn_vfs (i : Nat) (f : FnState → FnState) : (s.modFn i f).vfs = s.vfs := rfl
@[simp] theorem State.modFn_regions (i : Nat) (f : FnState → FnState) : (s.modFn i f).regions = s.regions := rfl
@[simp] theorem State.modFn_clusters (i : Nat) (f : FnState → FnState) : (s.modFn i f).clusters = s.clusters := rfl
@[simp] theorem State.modFn_cores (i : Nat) (f : FnState → FnState) : (s.modFn i f).cores = s.cores := rfl
@[simp] theorem State.modFn_slices (i : Nat) (f : FnState → FnState) : (s.modFn i f).slices = s.slices := rfl
@[simp] theorem State.modFn_hbm (i : Nat) (f : FnState → FnState) : (s.modFn i f).hbm = s.hbm := rfl
@[simp] theorem State.modFn_hreqs (i : Nat) (f : FnState → FnState) : (s.modFn i f).hreqs = s.hreqs := rfl
@[simp] theorem State.modFn_chans (i : Nat) (f : FnState → FnState) : (s.modFn i f).chans = s.chans := rfl
@[simp] theorem State.modFn_stops (i : Nat) (f : FnState → FnState) : (s.modFn i f).stops = s.stops := rfl
@[simp] theorem State.modFn_net (i : Nat) (f : FnState → FnState) : (s.modFn i f).net = s.net := rfl
@[simp] theorem State.modFn_edge (i : Nat) (f : FnState → FnState) : (s.modFn i f).edge = s.edge := rfl
@[simp] theorem State.modFn_ports (i : Nat) (f : FnState → FnState) : (s.modFn i f).ports = s.ports := rfl
@[simp] theorem State.modFn_nextId (i : Nat) (f : FnState → FnState) : (s.modFn i f).nextId = s.nextId := rfl
@[simp] theorem State.modFn_ctl (i : Nat) (f : FnState → FnState) : (s.modFn i f).ctl = s.ctl := rfl
@[simp] theorem State.modFn_ceLogged (i : Nat) (f : FnState → FnState) : (s.modFn i f).ceLogged = s.ceLogged := rfl
@[simp] theorem State.modFn_out (i : Nat) (f : FnState → FnState) : (s.modFn i f).out = s.out := rfl

/-! ### modVf -/

@[simp] theorem State.modVf_pending (n : Nat) (f : VfRings → VfRings) : (s.modVf n f).pending = s.pending := rfl
@[simp] theorem State.modVf_time (n : Nat) (f : VfRings → VfRings) : (s.modVf n f).time = s.time := rfl
@[simp] theorem State.modVf_draws (n : Nat) (f : VfRings → VfRings) : (s.modVf n f).draws = s.draws := rfl
@[simp] theorem State.modVf_regs (n : Nat) (f : VfRings → VfRings) : (s.modVf n f).regs = s.regs := rfl
@[simp] theorem State.modVf_fuses (n : Nat) (f : VfRings → VfRings) : (s.modVf n f).fuses = s.fuses := rfl
@[simp] theorem State.modVf_flash (n : Nat) (f : VfRings → VfRings) : (s.modVf n f).flash = s.flash := rfl
@[simp] theorem State.modVf_supply (n : Nat) (f : VfRings → VfRings) : (s.modVf n f).supply = s.supply := rfl
@[simp] theorem State.modVf_fhalt (n : Nat) (f : VfRings → VfRings) : (s.modVf n f).fhalt = s.fhalt := rfl
@[simp] theorem State.modVf_power (n : Nat) (f : VfRings → VfRings) : (s.modVf n f).power = s.power := rfl
@[simp] theorem State.modVf_modulePos (n : Nat) (f : VfRings → VfRings) : (s.modVf n f).modulePos = s.modulePos := rfl
@[simp] theorem State.modVf_xings (n : Nat) (f : VfRings → VfRings) : (s.modVf n f).xings = s.xings := rfl
@[simp] theorem State.modVf_mesh (n : Nat) (f : VfRings → VfRings) : (s.modVf n f).mesh = s.mesh := rfl
@[simp] theorem State.modVf_ringTurn (n : Nat) (f : VfRings → VfRings) : (s.modVf n f).ringTurn = s.ringTurn := rfl
@[simp] theorem State.modVf_engineVf (n : Nat) (f : VfRings → VfRings) : (s.modVf n f).engineVf = s.engineVf := rfl
@[simp] theorem State.modVf_tap (n : Nat) (f : VfRings → VfRings) : (s.modVf n f).tap = s.tap := rfl
@[simp] theorem State.modVf_vesper (n : Nat) (f : VfRings → VfRings) : (s.modVf n f).vesper = s.vesper := rfl
@[simp] theorem State.modVf_hwCause (n : Nat) (f : VfRings → VfRings) : (s.modVf n f).hwCause = s.hwCause := rfl
@[simp] theorem State.modVf_clearing (n : Nat) (f : VfRings → VfRings) : (s.modVf n f).clearing = s.clearing := rfl
@[simp] theorem State.modVf_pfConfig (n : Nat) (f : VfRings → VfRings) : (s.modVf n f).pfConfig = s.pfConfig := rfl
@[simp] theorem State.modVf_fns (n : Nat) (f : VfRings → VfRings) : (s.modVf n f).fns = s.fns := rfl
@[simp] theorem State.modVf_regions (n : Nat) (f : VfRings → VfRings) : (s.modVf n f).regions = s.regions := rfl
@[simp] theorem State.modVf_clusters (n : Nat) (f : VfRings → VfRings) : (s.modVf n f).clusters = s.clusters := rfl
@[simp] theorem State.modVf_cores (n : Nat) (f : VfRings → VfRings) : (s.modVf n f).cores = s.cores := rfl
@[simp] theorem State.modVf_slices (n : Nat) (f : VfRings → VfRings) : (s.modVf n f).slices = s.slices := rfl
@[simp] theorem State.modVf_hbm (n : Nat) (f : VfRings → VfRings) : (s.modVf n f).hbm = s.hbm := rfl
@[simp] theorem State.modVf_hreqs (n : Nat) (f : VfRings → VfRings) : (s.modVf n f).hreqs = s.hreqs := rfl
@[simp] theorem State.modVf_chans (n : Nat) (f : VfRings → VfRings) : (s.modVf n f).chans = s.chans := rfl
@[simp] theorem State.modVf_stops (n : Nat) (f : VfRings → VfRings) : (s.modVf n f).stops = s.stops := rfl
@[simp] theorem State.modVf_net (n : Nat) (f : VfRings → VfRings) : (s.modVf n f).net = s.net := rfl
@[simp] theorem State.modVf_edge (n : Nat) (f : VfRings → VfRings) : (s.modVf n f).edge = s.edge := rfl
@[simp] theorem State.modVf_ports (n : Nat) (f : VfRings → VfRings) : (s.modVf n f).ports = s.ports := rfl
@[simp] theorem State.modVf_nextId (n : Nat) (f : VfRings → VfRings) : (s.modVf n f).nextId = s.nextId := rfl
@[simp] theorem State.modVf_ctl (n : Nat) (f : VfRings → VfRings) : (s.modVf n f).ctl = s.ctl := rfl
@[simp] theorem State.modVf_ceLogged (n : Nat) (f : VfRings → VfRings) : (s.modVf n f).ceLogged = s.ceLogged := rfl
@[simp] theorem State.modVf_out (n : Nat) (f : VfRings → VfRings) : (s.modVf n f).out = s.out := rfl

/-! ### modRgn -/

@[simp] theorem State.modRgn_pending (n : Nat) (f : Region → Region) : (s.modRgn n f).pending = s.pending := rfl
@[simp] theorem State.modRgn_time (n : Nat) (f : Region → Region) : (s.modRgn n f).time = s.time := rfl
@[simp] theorem State.modRgn_draws (n : Nat) (f : Region → Region) : (s.modRgn n f).draws = s.draws := rfl
@[simp] theorem State.modRgn_regs (n : Nat) (f : Region → Region) : (s.modRgn n f).regs = s.regs := rfl
@[simp] theorem State.modRgn_fuses (n : Nat) (f : Region → Region) : (s.modRgn n f).fuses = s.fuses := rfl
@[simp] theorem State.modRgn_flash (n : Nat) (f : Region → Region) : (s.modRgn n f).flash = s.flash := rfl
@[simp] theorem State.modRgn_supply (n : Nat) (f : Region → Region) : (s.modRgn n f).supply = s.supply := rfl
@[simp] theorem State.modRgn_fhalt (n : Nat) (f : Region → Region) : (s.modRgn n f).fhalt = s.fhalt := rfl
@[simp] theorem State.modRgn_power (n : Nat) (f : Region → Region) : (s.modRgn n f).power = s.power := rfl
@[simp] theorem State.modRgn_modulePos (n : Nat) (f : Region → Region) : (s.modRgn n f).modulePos = s.modulePos := rfl
@[simp] theorem State.modRgn_xings (n : Nat) (f : Region → Region) : (s.modRgn n f).xings = s.xings := rfl
@[simp] theorem State.modRgn_mesh (n : Nat) (f : Region → Region) : (s.modRgn n f).mesh = s.mesh := rfl
@[simp] theorem State.modRgn_ringTurn (n : Nat) (f : Region → Region) : (s.modRgn n f).ringTurn = s.ringTurn := rfl
@[simp] theorem State.modRgn_engineVf (n : Nat) (f : Region → Region) : (s.modRgn n f).engineVf = s.engineVf := rfl
@[simp] theorem State.modRgn_tap (n : Nat) (f : Region → Region) : (s.modRgn n f).tap = s.tap := rfl
@[simp] theorem State.modRgn_vesper (n : Nat) (f : Region → Region) : (s.modRgn n f).vesper = s.vesper := rfl
@[simp] theorem State.modRgn_hwCause (n : Nat) (f : Region → Region) : (s.modRgn n f).hwCause = s.hwCause := rfl
@[simp] theorem State.modRgn_clearing (n : Nat) (f : Region → Region) : (s.modRgn n f).clearing = s.clearing := rfl
@[simp] theorem State.modRgn_pfConfig (n : Nat) (f : Region → Region) : (s.modRgn n f).pfConfig = s.pfConfig := rfl
@[simp] theorem State.modRgn_fns (n : Nat) (f : Region → Region) : (s.modRgn n f).fns = s.fns := rfl
@[simp] theorem State.modRgn_vfs (n : Nat) (f : Region → Region) : (s.modRgn n f).vfs = s.vfs := rfl
@[simp] theorem State.modRgn_clusters (n : Nat) (f : Region → Region) : (s.modRgn n f).clusters = s.clusters := rfl
@[simp] theorem State.modRgn_cores (n : Nat) (f : Region → Region) : (s.modRgn n f).cores = s.cores := rfl
@[simp] theorem State.modRgn_slices (n : Nat) (f : Region → Region) : (s.modRgn n f).slices = s.slices := rfl
@[simp] theorem State.modRgn_hbm (n : Nat) (f : Region → Region) : (s.modRgn n f).hbm = s.hbm := rfl
@[simp] theorem State.modRgn_hreqs (n : Nat) (f : Region → Region) : (s.modRgn n f).hreqs = s.hreqs := rfl
@[simp] theorem State.modRgn_chans (n : Nat) (f : Region → Region) : (s.modRgn n f).chans = s.chans := rfl
@[simp] theorem State.modRgn_stops (n : Nat) (f : Region → Region) : (s.modRgn n f).stops = s.stops := rfl
@[simp] theorem State.modRgn_net (n : Nat) (f : Region → Region) : (s.modRgn n f).net = s.net := rfl
@[simp] theorem State.modRgn_edge (n : Nat) (f : Region → Region) : (s.modRgn n f).edge = s.edge := rfl
@[simp] theorem State.modRgn_ports (n : Nat) (f : Region → Region) : (s.modRgn n f).ports = s.ports := rfl
@[simp] theorem State.modRgn_nextId (n : Nat) (f : Region → Region) : (s.modRgn n f).nextId = s.nextId := rfl
@[simp] theorem State.modRgn_ctl (n : Nat) (f : Region → Region) : (s.modRgn n f).ctl = s.ctl := rfl
@[simp] theorem State.modRgn_ceLogged (n : Nat) (f : Region → Region) : (s.modRgn n f).ceLogged = s.ceLogged := rfl
@[simp] theorem State.modRgn_out (n : Nat) (f : Region → Region) : (s.modRgn n f).out = s.out := rfl

/-! ### modCore -/

@[simp] theorem State.modCore_pending (g : Nat) (f : Core → Core) : (s.modCore g f).pending = s.pending := rfl
@[simp] theorem State.modCore_time (g : Nat) (f : Core → Core) : (s.modCore g f).time = s.time := rfl
@[simp] theorem State.modCore_draws (g : Nat) (f : Core → Core) : (s.modCore g f).draws = s.draws := rfl
@[simp] theorem State.modCore_regs (g : Nat) (f : Core → Core) : (s.modCore g f).regs = s.regs := rfl
@[simp] theorem State.modCore_fuses (g : Nat) (f : Core → Core) : (s.modCore g f).fuses = s.fuses := rfl
@[simp] theorem State.modCore_flash (g : Nat) (f : Core → Core) : (s.modCore g f).flash = s.flash := rfl
@[simp] theorem State.modCore_supply (g : Nat) (f : Core → Core) : (s.modCore g f).supply = s.supply := rfl
@[simp] theorem State.modCore_fhalt (g : Nat) (f : Core → Core) : (s.modCore g f).fhalt = s.fhalt := rfl
@[simp] theorem State.modCore_power (g : Nat) (f : Core → Core) : (s.modCore g f).power = s.power := rfl
@[simp] theorem State.modCore_modulePos (g : Nat) (f : Core → Core) : (s.modCore g f).modulePos = s.modulePos := rfl
@[simp] theorem State.modCore_xings (g : Nat) (f : Core → Core) : (s.modCore g f).xings = s.xings := rfl
@[simp] theorem State.modCore_mesh (g : Nat) (f : Core → Core) : (s.modCore g f).mesh = s.mesh := rfl
@[simp] theorem State.modCore_ringTurn (g : Nat) (f : Core → Core) : (s.modCore g f).ringTurn = s.ringTurn := rfl
@[simp] theorem State.modCore_engineVf (g : Nat) (f : Core → Core) : (s.modCore g f).engineVf = s.engineVf := rfl
@[simp] theorem State.modCore_tap (g : Nat) (f : Core → Core) : (s.modCore g f).tap = s.tap := rfl
@[simp] theorem State.modCore_vesper (g : Nat) (f : Core → Core) : (s.modCore g f).vesper = s.vesper := rfl
@[simp] theorem State.modCore_hwCause (g : Nat) (f : Core → Core) : (s.modCore g f).hwCause = s.hwCause := rfl
@[simp] theorem State.modCore_clearing (g : Nat) (f : Core → Core) : (s.modCore g f).clearing = s.clearing := rfl
@[simp] theorem State.modCore_pfConfig (g : Nat) (f : Core → Core) : (s.modCore g f).pfConfig = s.pfConfig := rfl
@[simp] theorem State.modCore_fns (g : Nat) (f : Core → Core) : (s.modCore g f).fns = s.fns := rfl
@[simp] theorem State.modCore_vfs (g : Nat) (f : Core → Core) : (s.modCore g f).vfs = s.vfs := rfl
@[simp] theorem State.modCore_regions (g : Nat) (f : Core → Core) : (s.modCore g f).regions = s.regions := rfl
@[simp] theorem State.modCore_clusters (g : Nat) (f : Core → Core) : (s.modCore g f).clusters = s.clusters := rfl
@[simp] theorem State.modCore_slices (g : Nat) (f : Core → Core) : (s.modCore g f).slices = s.slices := rfl
@[simp] theorem State.modCore_hbm (g : Nat) (f : Core → Core) : (s.modCore g f).hbm = s.hbm := rfl
@[simp] theorem State.modCore_hreqs (g : Nat) (f : Core → Core) : (s.modCore g f).hreqs = s.hreqs := rfl
@[simp] theorem State.modCore_chans (g : Nat) (f : Core → Core) : (s.modCore g f).chans = s.chans := rfl
@[simp] theorem State.modCore_stops (g : Nat) (f : Core → Core) : (s.modCore g f).stops = s.stops := rfl
@[simp] theorem State.modCore_net (g : Nat) (f : Core → Core) : (s.modCore g f).net = s.net := rfl
@[simp] theorem State.modCore_edge (g : Nat) (f : Core → Core) : (s.modCore g f).edge = s.edge := rfl
@[simp] theorem State.modCore_ports (g : Nat) (f : Core → Core) : (s.modCore g f).ports = s.ports := rfl
@[simp] theorem State.modCore_nextId (g : Nat) (f : Core → Core) : (s.modCore g f).nextId = s.nextId := rfl
@[simp] theorem State.modCore_ctl (g : Nat) (f : Core → Core) : (s.modCore g f).ctl = s.ctl := rfl
@[simp] theorem State.modCore_ceLogged (g : Nat) (f : Core → Core) : (s.modCore g f).ceLogged = s.ceLogged := rfl
@[simp] theorem State.modCore_out (g : Nat) (f : Core → Core) : (s.modCore g f).out = s.out := rfl

/-! ### modCluster -/

@[simp] theorem State.modCluster_pending (c : Nat) (f : Cluster → Cluster) : (s.modCluster c f).pending = s.pending := rfl
@[simp] theorem State.modCluster_time (c : Nat) (f : Cluster → Cluster) : (s.modCluster c f).time = s.time := rfl
@[simp] theorem State.modCluster_draws (c : Nat) (f : Cluster → Cluster) : (s.modCluster c f).draws = s.draws := rfl
@[simp] theorem State.modCluster_regs (c : Nat) (f : Cluster → Cluster) : (s.modCluster c f).regs = s.regs := rfl
@[simp] theorem State.modCluster_fuses (c : Nat) (f : Cluster → Cluster) : (s.modCluster c f).fuses = s.fuses := rfl
@[simp] theorem State.modCluster_flash (c : Nat) (f : Cluster → Cluster) : (s.modCluster c f).flash = s.flash := rfl
@[simp] theorem State.modCluster_supply (c : Nat) (f : Cluster → Cluster) : (s.modCluster c f).supply = s.supply := rfl
@[simp] theorem State.modCluster_fhalt (c : Nat) (f : Cluster → Cluster) : (s.modCluster c f).fhalt = s.fhalt := rfl
@[simp] theorem State.modCluster_power (c : Nat) (f : Cluster → Cluster) : (s.modCluster c f).power = s.power := rfl
@[simp] theorem State.modCluster_modulePos (c : Nat) (f : Cluster → Cluster) : (s.modCluster c f).modulePos = s.modulePos := rfl
@[simp] theorem State.modCluster_xings (c : Nat) (f : Cluster → Cluster) : (s.modCluster c f).xings = s.xings := rfl
@[simp] theorem State.modCluster_mesh (c : Nat) (f : Cluster → Cluster) : (s.modCluster c f).mesh = s.mesh := rfl
@[simp] theorem State.modCluster_ringTurn (c : Nat) (f : Cluster → Cluster) : (s.modCluster c f).ringTurn = s.ringTurn := rfl
@[simp] theorem State.modCluster_engineVf (c : Nat) (f : Cluster → Cluster) : (s.modCluster c f).engineVf = s.engineVf := rfl
@[simp] theorem State.modCluster_tap (c : Nat) (f : Cluster → Cluster) : (s.modCluster c f).tap = s.tap := rfl
@[simp] theorem State.modCluster_vesper (c : Nat) (f : Cluster → Cluster) : (s.modCluster c f).vesper = s.vesper := rfl
@[simp] theorem State.modCluster_hwCause (c : Nat) (f : Cluster → Cluster) : (s.modCluster c f).hwCause = s.hwCause := rfl
@[simp] theorem State.modCluster_clearing (c : Nat) (f : Cluster → Cluster) : (s.modCluster c f).clearing = s.clearing := rfl
@[simp] theorem State.modCluster_pfConfig (c : Nat) (f : Cluster → Cluster) : (s.modCluster c f).pfConfig = s.pfConfig := rfl
@[simp] theorem State.modCluster_fns (c : Nat) (f : Cluster → Cluster) : (s.modCluster c f).fns = s.fns := rfl
@[simp] theorem State.modCluster_vfs (c : Nat) (f : Cluster → Cluster) : (s.modCluster c f).vfs = s.vfs := rfl
@[simp] theorem State.modCluster_regions (c : Nat) (f : Cluster → Cluster) : (s.modCluster c f).regions = s.regions := rfl
@[simp] theorem State.modCluster_cores (c : Nat) (f : Cluster → Cluster) : (s.modCluster c f).cores = s.cores := rfl
@[simp] theorem State.modCluster_slices (c : Nat) (f : Cluster → Cluster) : (s.modCluster c f).slices = s.slices := rfl
@[simp] theorem State.modCluster_hbm (c : Nat) (f : Cluster → Cluster) : (s.modCluster c f).hbm = s.hbm := rfl
@[simp] theorem State.modCluster_hreqs (c : Nat) (f : Cluster → Cluster) : (s.modCluster c f).hreqs = s.hreqs := rfl
@[simp] theorem State.modCluster_chans (c : Nat) (f : Cluster → Cluster) : (s.modCluster c f).chans = s.chans := rfl
@[simp] theorem State.modCluster_stops (c : Nat) (f : Cluster → Cluster) : (s.modCluster c f).stops = s.stops := rfl
@[simp] theorem State.modCluster_net (c : Nat) (f : Cluster → Cluster) : (s.modCluster c f).net = s.net := rfl
@[simp] theorem State.modCluster_edge (c : Nat) (f : Cluster → Cluster) : (s.modCluster c f).edge = s.edge := rfl
@[simp] theorem State.modCluster_ports (c : Nat) (f : Cluster → Cluster) : (s.modCluster c f).ports = s.ports := rfl
@[simp] theorem State.modCluster_nextId (c : Nat) (f : Cluster → Cluster) : (s.modCluster c f).nextId = s.nextId := rfl
@[simp] theorem State.modCluster_ctl (c : Nat) (f : Cluster → Cluster) : (s.modCluster c f).ctl = s.ctl := rfl
@[simp] theorem State.modCluster_ceLogged (c : Nat) (f : Cluster → Cluster) : (s.modCluster c f).ceLogged = s.ceLogged := rfl
@[simp] theorem State.modCluster_out (c : Nat) (f : Cluster → Cluster) : (s.modCluster c f).out = s.out := rfl

/-! ### modSlice -/

@[simp] theorem State.modSlice_pending (i : Nat) (f : Slice → Slice) : (s.modSlice i f).pending = s.pending := rfl
@[simp] theorem State.modSlice_time (i : Nat) (f : Slice → Slice) : (s.modSlice i f).time = s.time := rfl
@[simp] theorem State.modSlice_draws (i : Nat) (f : Slice → Slice) : (s.modSlice i f).draws = s.draws := rfl
@[simp] theorem State.modSlice_regs (i : Nat) (f : Slice → Slice) : (s.modSlice i f).regs = s.regs := rfl
@[simp] theorem State.modSlice_fuses (i : Nat) (f : Slice → Slice) : (s.modSlice i f).fuses = s.fuses := rfl
@[simp] theorem State.modSlice_flash (i : Nat) (f : Slice → Slice) : (s.modSlice i f).flash = s.flash := rfl
@[simp] theorem State.modSlice_supply (i : Nat) (f : Slice → Slice) : (s.modSlice i f).supply = s.supply := rfl
@[simp] theorem State.modSlice_fhalt (i : Nat) (f : Slice → Slice) : (s.modSlice i f).fhalt = s.fhalt := rfl
@[simp] theorem State.modSlice_power (i : Nat) (f : Slice → Slice) : (s.modSlice i f).power = s.power := rfl
@[simp] theorem State.modSlice_modulePos (i : Nat) (f : Slice → Slice) : (s.modSlice i f).modulePos = s.modulePos := rfl
@[simp] theorem State.modSlice_xings (i : Nat) (f : Slice → Slice) : (s.modSlice i f).xings = s.xings := rfl
@[simp] theorem State.modSlice_mesh (i : Nat) (f : Slice → Slice) : (s.modSlice i f).mesh = s.mesh := rfl
@[simp] theorem State.modSlice_ringTurn (i : Nat) (f : Slice → Slice) : (s.modSlice i f).ringTurn = s.ringTurn := rfl
@[simp] theorem State.modSlice_engineVf (i : Nat) (f : Slice → Slice) : (s.modSlice i f).engineVf = s.engineVf := rfl
@[simp] theorem State.modSlice_tap (i : Nat) (f : Slice → Slice) : (s.modSlice i f).tap = s.tap := rfl
@[simp] theorem State.modSlice_vesper (i : Nat) (f : Slice → Slice) : (s.modSlice i f).vesper = s.vesper := rfl
@[simp] theorem State.modSlice_hwCause (i : Nat) (f : Slice → Slice) : (s.modSlice i f).hwCause = s.hwCause := rfl
@[simp] theorem State.modSlice_clearing (i : Nat) (f : Slice → Slice) : (s.modSlice i f).clearing = s.clearing := rfl
@[simp] theorem State.modSlice_pfConfig (i : Nat) (f : Slice → Slice) : (s.modSlice i f).pfConfig = s.pfConfig := rfl
@[simp] theorem State.modSlice_fns (i : Nat) (f : Slice → Slice) : (s.modSlice i f).fns = s.fns := rfl
@[simp] theorem State.modSlice_vfs (i : Nat) (f : Slice → Slice) : (s.modSlice i f).vfs = s.vfs := rfl
@[simp] theorem State.modSlice_regions (i : Nat) (f : Slice → Slice) : (s.modSlice i f).regions = s.regions := rfl
@[simp] theorem State.modSlice_clusters (i : Nat) (f : Slice → Slice) : (s.modSlice i f).clusters = s.clusters := rfl
@[simp] theorem State.modSlice_cores (i : Nat) (f : Slice → Slice) : (s.modSlice i f).cores = s.cores := rfl
@[simp] theorem State.modSlice_hbm (i : Nat) (f : Slice → Slice) : (s.modSlice i f).hbm = s.hbm := rfl
@[simp] theorem State.modSlice_hreqs (i : Nat) (f : Slice → Slice) : (s.modSlice i f).hreqs = s.hreqs := rfl
@[simp] theorem State.modSlice_chans (i : Nat) (f : Slice → Slice) : (s.modSlice i f).chans = s.chans := rfl
@[simp] theorem State.modSlice_stops (i : Nat) (f : Slice → Slice) : (s.modSlice i f).stops = s.stops := rfl
@[simp] theorem State.modSlice_net (i : Nat) (f : Slice → Slice) : (s.modSlice i f).net = s.net := rfl
@[simp] theorem State.modSlice_edge (i : Nat) (f : Slice → Slice) : (s.modSlice i f).edge = s.edge := rfl
@[simp] theorem State.modSlice_ports (i : Nat) (f : Slice → Slice) : (s.modSlice i f).ports = s.ports := rfl
@[simp] theorem State.modSlice_nextId (i : Nat) (f : Slice → Slice) : (s.modSlice i f).nextId = s.nextId := rfl
@[simp] theorem State.modSlice_ctl (i : Nat) (f : Slice → Slice) : (s.modSlice i f).ctl = s.ctl := rfl
@[simp] theorem State.modSlice_ceLogged (i : Nat) (f : Slice → Slice) : (s.modSlice i f).ceLogged = s.ceLogged := rfl
@[simp] theorem State.modSlice_out (i : Nat) (f : Slice → Slice) : (s.modSlice i f).out = s.out := rfl

/-! ### modChan -/

@[simp] theorem State.modChan_pending (c : Nat) (f : Chan → Chan) : (s.modChan c f).pending = s.pending := rfl
@[simp] theorem State.modChan_time (c : Nat) (f : Chan → Chan) : (s.modChan c f).time = s.time := rfl
@[simp] theorem State.modChan_draws (c : Nat) (f : Chan → Chan) : (s.modChan c f).draws = s.draws := rfl
@[simp] theorem State.modChan_regs (c : Nat) (f : Chan → Chan) : (s.modChan c f).regs = s.regs := rfl
@[simp] theorem State.modChan_fuses (c : Nat) (f : Chan → Chan) : (s.modChan c f).fuses = s.fuses := rfl
@[simp] theorem State.modChan_flash (c : Nat) (f : Chan → Chan) : (s.modChan c f).flash = s.flash := rfl
@[simp] theorem State.modChan_supply (c : Nat) (f : Chan → Chan) : (s.modChan c f).supply = s.supply := rfl
@[simp] theorem State.modChan_fhalt (c : Nat) (f : Chan → Chan) : (s.modChan c f).fhalt = s.fhalt := rfl
@[simp] theorem State.modChan_power (c : Nat) (f : Chan → Chan) : (s.modChan c f).power = s.power := rfl
@[simp] theorem State.modChan_modulePos (c : Nat) (f : Chan → Chan) : (s.modChan c f).modulePos = s.modulePos := rfl
@[simp] theorem State.modChan_xings (c : Nat) (f : Chan → Chan) : (s.modChan c f).xings = s.xings := rfl
@[simp] theorem State.modChan_mesh (c : Nat) (f : Chan → Chan) : (s.modChan c f).mesh = s.mesh := rfl
@[simp] theorem State.modChan_ringTurn (c : Nat) (f : Chan → Chan) : (s.modChan c f).ringTurn = s.ringTurn := rfl
@[simp] theorem State.modChan_engineVf (c : Nat) (f : Chan → Chan) : (s.modChan c f).engineVf = s.engineVf := rfl
@[simp] theorem State.modChan_tap (c : Nat) (f : Chan → Chan) : (s.modChan c f).tap = s.tap := rfl
@[simp] theorem State.modChan_vesper (c : Nat) (f : Chan → Chan) : (s.modChan c f).vesper = s.vesper := rfl
@[simp] theorem State.modChan_hwCause (c : Nat) (f : Chan → Chan) : (s.modChan c f).hwCause = s.hwCause := rfl
@[simp] theorem State.modChan_clearing (c : Nat) (f : Chan → Chan) : (s.modChan c f).clearing = s.clearing := rfl
@[simp] theorem State.modChan_pfConfig (c : Nat) (f : Chan → Chan) : (s.modChan c f).pfConfig = s.pfConfig := rfl
@[simp] theorem State.modChan_fns (c : Nat) (f : Chan → Chan) : (s.modChan c f).fns = s.fns := rfl
@[simp] theorem State.modChan_vfs (c : Nat) (f : Chan → Chan) : (s.modChan c f).vfs = s.vfs := rfl
@[simp] theorem State.modChan_regions (c : Nat) (f : Chan → Chan) : (s.modChan c f).regions = s.regions := rfl
@[simp] theorem State.modChan_clusters (c : Nat) (f : Chan → Chan) : (s.modChan c f).clusters = s.clusters := rfl
@[simp] theorem State.modChan_cores (c : Nat) (f : Chan → Chan) : (s.modChan c f).cores = s.cores := rfl
@[simp] theorem State.modChan_slices (c : Nat) (f : Chan → Chan) : (s.modChan c f).slices = s.slices := rfl
@[simp] theorem State.modChan_hbm (c : Nat) (f : Chan → Chan) : (s.modChan c f).hbm = s.hbm := rfl
@[simp] theorem State.modChan_hreqs (c : Nat) (f : Chan → Chan) : (s.modChan c f).hreqs = s.hreqs := rfl
@[simp] theorem State.modChan_stops (c : Nat) (f : Chan → Chan) : (s.modChan c f).stops = s.stops := rfl
@[simp] theorem State.modChan_net (c : Nat) (f : Chan → Chan) : (s.modChan c f).net = s.net := rfl
@[simp] theorem State.modChan_edge (c : Nat) (f : Chan → Chan) : (s.modChan c f).edge = s.edge := rfl
@[simp] theorem State.modChan_ports (c : Nat) (f : Chan → Chan) : (s.modChan c f).ports = s.ports := rfl
@[simp] theorem State.modChan_nextId (c : Nat) (f : Chan → Chan) : (s.modChan c f).nextId = s.nextId := rfl
@[simp] theorem State.modChan_ctl (c : Nat) (f : Chan → Chan) : (s.modChan c f).ctl = s.ctl := rfl
@[simp] theorem State.modChan_ceLogged (c : Nat) (f : Chan → Chan) : (s.modChan c f).ceLogged = s.ceLogged := rfl
@[simp] theorem State.modChan_out (c : Nat) (f : Chan → Chan) : (s.modChan c f).out = s.out := rfl

/-! ### modPort -/

@[simp] theorem State.modPort_pending (p : Nat) (f : Port → Port) : (s.modPort p f).pending = s.pending := rfl
@[simp] theorem State.modPort_time (p : Nat) (f : Port → Port) : (s.modPort p f).time = s.time := rfl
@[simp] theorem State.modPort_draws (p : Nat) (f : Port → Port) : (s.modPort p f).draws = s.draws := rfl
@[simp] theorem State.modPort_regs (p : Nat) (f : Port → Port) : (s.modPort p f).regs = s.regs := rfl
@[simp] theorem State.modPort_fuses (p : Nat) (f : Port → Port) : (s.modPort p f).fuses = s.fuses := rfl
@[simp] theorem State.modPort_flash (p : Nat) (f : Port → Port) : (s.modPort p f).flash = s.flash := rfl
@[simp] theorem State.modPort_supply (p : Nat) (f : Port → Port) : (s.modPort p f).supply = s.supply := rfl
@[simp] theorem State.modPort_fhalt (p : Nat) (f : Port → Port) : (s.modPort p f).fhalt = s.fhalt := rfl
@[simp] theorem State.modPort_power (p : Nat) (f : Port → Port) : (s.modPort p f).power = s.power := rfl
@[simp] theorem State.modPort_modulePos (p : Nat) (f : Port → Port) : (s.modPort p f).modulePos = s.modulePos := rfl
@[simp] theorem State.modPort_xings (p : Nat) (f : Port → Port) : (s.modPort p f).xings = s.xings := rfl
@[simp] theorem State.modPort_mesh (p : Nat) (f : Port → Port) : (s.modPort p f).mesh = s.mesh := rfl
@[simp] theorem State.modPort_ringTurn (p : Nat) (f : Port → Port) : (s.modPort p f).ringTurn = s.ringTurn := rfl
@[simp] theorem State.modPort_engineVf (p : Nat) (f : Port → Port) : (s.modPort p f).engineVf = s.engineVf := rfl
@[simp] theorem State.modPort_tap (p : Nat) (f : Port → Port) : (s.modPort p f).tap = s.tap := rfl
@[simp] theorem State.modPort_vesper (p : Nat) (f : Port → Port) : (s.modPort p f).vesper = s.vesper := rfl
@[simp] theorem State.modPort_hwCause (p : Nat) (f : Port → Port) : (s.modPort p f).hwCause = s.hwCause := rfl
@[simp] theorem State.modPort_clearing (p : Nat) (f : Port → Port) : (s.modPort p f).clearing = s.clearing := rfl
@[simp] theorem State.modPort_pfConfig (p : Nat) (f : Port → Port) : (s.modPort p f).pfConfig = s.pfConfig := rfl
@[simp] theorem State.modPort_fns (p : Nat) (f : Port → Port) : (s.modPort p f).fns = s.fns := rfl
@[simp] theorem State.modPort_vfs (p : Nat) (f : Port → Port) : (s.modPort p f).vfs = s.vfs := rfl
@[simp] theorem State.modPort_regions (p : Nat) (f : Port → Port) : (s.modPort p f).regions = s.regions := rfl
@[simp] theorem State.modPort_clusters (p : Nat) (f : Port → Port) : (s.modPort p f).clusters = s.clusters := rfl
@[simp] theorem State.modPort_cores (p : Nat) (f : Port → Port) : (s.modPort p f).cores = s.cores := rfl
@[simp] theorem State.modPort_slices (p : Nat) (f : Port → Port) : (s.modPort p f).slices = s.slices := rfl
@[simp] theorem State.modPort_hbm (p : Nat) (f : Port → Port) : (s.modPort p f).hbm = s.hbm := rfl
@[simp] theorem State.modPort_hreqs (p : Nat) (f : Port → Port) : (s.modPort p f).hreqs = s.hreqs := rfl
@[simp] theorem State.modPort_chans (p : Nat) (f : Port → Port) : (s.modPort p f).chans = s.chans := rfl
@[simp] theorem State.modPort_stops (p : Nat) (f : Port → Port) : (s.modPort p f).stops = s.stops := rfl
@[simp] theorem State.modPort_net (p : Nat) (f : Port → Port) : (s.modPort p f).net = s.net := rfl
@[simp] theorem State.modPort_edge (p : Nat) (f : Port → Port) : (s.modPort p f).edge = s.edge := rfl
@[simp] theorem State.modPort_nextId (p : Nat) (f : Port → Port) : (s.modPort p f).nextId = s.nextId := rfl
@[simp] theorem State.modPort_ctl (p : Nat) (f : Port → Port) : (s.modPort p f).ctl = s.ctl := rfl
@[simp] theorem State.modPort_ceLogged (p : Nat) (f : Port → Port) : (s.modPort p f).ceLogged = s.ceLogged := rfl
@[simp] theorem State.modPort_out (p : Nat) (f : Port → Port) : (s.modPort p f).out = s.out := rfl

/-! ### modVsp -/

@[simp] theorem State.modVsp_pending (f : Vesper → Vesper) : (s.modVsp f).pending = s.pending := rfl
@[simp] theorem State.modVsp_time (f : Vesper → Vesper) : (s.modVsp f).time = s.time := rfl
@[simp] theorem State.modVsp_draws (f : Vesper → Vesper) : (s.modVsp f).draws = s.draws := rfl
@[simp] theorem State.modVsp_regs (f : Vesper → Vesper) : (s.modVsp f).regs = s.regs := rfl
@[simp] theorem State.modVsp_fuses (f : Vesper → Vesper) : (s.modVsp f).fuses = s.fuses := rfl
@[simp] theorem State.modVsp_flash (f : Vesper → Vesper) : (s.modVsp f).flash = s.flash := rfl
@[simp] theorem State.modVsp_supply (f : Vesper → Vesper) : (s.modVsp f).supply = s.supply := rfl
@[simp] theorem State.modVsp_fhalt (f : Vesper → Vesper) : (s.modVsp f).fhalt = s.fhalt := rfl
@[simp] theorem State.modVsp_power (f : Vesper → Vesper) : (s.modVsp f).power = s.power := rfl
@[simp] theorem State.modVsp_modulePos (f : Vesper → Vesper) : (s.modVsp f).modulePos = s.modulePos := rfl
@[simp] theorem State.modVsp_xings (f : Vesper → Vesper) : (s.modVsp f).xings = s.xings := rfl
@[simp] theorem State.modVsp_mesh (f : Vesper → Vesper) : (s.modVsp f).mesh = s.mesh := rfl
@[simp] theorem State.modVsp_ringTurn (f : Vesper → Vesper) : (s.modVsp f).ringTurn = s.ringTurn := rfl
@[simp] theorem State.modVsp_engineVf (f : Vesper → Vesper) : (s.modVsp f).engineVf = s.engineVf := rfl
@[simp] theorem State.modVsp_tap (f : Vesper → Vesper) : (s.modVsp f).tap = s.tap := rfl
@[simp] theorem State.modVsp_hwCause (f : Vesper → Vesper) : (s.modVsp f).hwCause = s.hwCause := rfl
@[simp] theorem State.modVsp_clearing (f : Vesper → Vesper) : (s.modVsp f).clearing = s.clearing := rfl
@[simp] theorem State.modVsp_pfConfig (f : Vesper → Vesper) : (s.modVsp f).pfConfig = s.pfConfig := rfl
@[simp] theorem State.modVsp_fns (f : Vesper → Vesper) : (s.modVsp f).fns = s.fns := rfl
@[simp] theorem State.modVsp_vfs (f : Vesper → Vesper) : (s.modVsp f).vfs = s.vfs := rfl
@[simp] theorem State.modVsp_regions (f : Vesper → Vesper) : (s.modVsp f).regions = s.regions := rfl
@[simp] theorem State.modVsp_clusters (f : Vesper → Vesper) : (s.modVsp f).clusters = s.clusters := rfl
@[simp] theorem State.modVsp_cores (f : Vesper → Vesper) : (s.modVsp f).cores = s.cores := rfl
@[simp] theorem State.modVsp_slices (f : Vesper → Vesper) : (s.modVsp f).slices = s.slices := rfl
@[simp] theorem State.modVsp_hbm (f : Vesper → Vesper) : (s.modVsp f).hbm = s.hbm := rfl
@[simp] theorem State.modVsp_hreqs (f : Vesper → Vesper) : (s.modVsp f).hreqs = s.hreqs := rfl
@[simp] theorem State.modVsp_chans (f : Vesper → Vesper) : (s.modVsp f).chans = s.chans := rfl
@[simp] theorem State.modVsp_stops (f : Vesper → Vesper) : (s.modVsp f).stops = s.stops := rfl
@[simp] theorem State.modVsp_net (f : Vesper → Vesper) : (s.modVsp f).net = s.net := rfl
@[simp] theorem State.modVsp_edge (f : Vesper → Vesper) : (s.modVsp f).edge = s.edge := rfl
@[simp] theorem State.modVsp_ports (f : Vesper → Vesper) : (s.modVsp f).ports = s.ports := rfl
@[simp] theorem State.modVsp_nextId (f : Vesper → Vesper) : (s.modVsp f).nextId = s.nextId := rfl
@[simp] theorem State.modVsp_ctl (f : Vesper → Vesper) : (s.modVsp f).ctl = s.ctl := rfl
@[simp] theorem State.modVsp_ceLogged (f : Vesper → Vesper) : (s.modVsp f).ceLogged = s.ceLogged := rfl
@[simp] theorem State.modVsp_out (f : Vesper → Vesper) : (s.modVsp f).out = s.out := rfl

/-- A field of one bit is written like any other. -/
theorem State.raise_eq (f : Fld) : s.raise f = s.setFld f 1 := rfl
/-- A field of one bit is written like any other. -/
theorem State.lower_eq (f : Fld) : s.lower f = s.setFld f 0 := rfl

/-! ### Registers -/

/-- A register's word after a write of a register. -/
theorem State.word_setWord (off w off2 cold : Nat) :
    (s.setWord off w).word off2 cold = if off2 = off then w % 2 ^ 32 else s.word off2 cold := by
  simp only [State.word, State.setWord, smGet_smPut]

theorem State.word_setFld (f : Fld) (v off cold : Nat) :
    (s.setFld f v).word off cold =
      if off = f.off then putBits (s.word f.off f.cold) f.lo f.width v % 2 ^ 32 else s.word off cold :=
  State.word_setWord ..

theorem State.word_setFld_ne (f : Fld) (v off cold : Nat) (h : off ≠ f.off) :
    (s.setFld f v).word off cold = s.word off cold := by rw [State.word_setFld, if_neg h]

/-- A field that has just been written reads what was written, cut to its width. -/
theorem State.fld_setFld_same (f : Fld) (v : Nat) (h : f.lo + f.width ≤ 32) :
    (s.setFld f v).fld f = v % 2 ^ f.width := by
  simp only [State.fld, State.word_setFld, if_true, bitsOf_mod32 _ _ _ h, bitsOf_putBits_same]

/-- A write of a field leaves the fields of other registers. -/
theorem State.fld_setFld_off (f g : Fld) (v : Nat) (h : g.off ≠ f.off) : (s.setFld f v).fld g = s.fld g := by
  simp only [State.fld, State.word_setFld_ne _ _ _ _ _ h]

/-- A write of a field leaves the other fields of its register. -/
theorem State.fld_setFld_lo (f g : Fld) (v : Nat) (ho : g.off = f.off) (hc : g.cold = f.cold) (hg : g.lo + g.width ≤ 32)
    (h : g.lo + g.width ≤ f.lo ∨ f.lo + f.width ≤ g.lo) : (s.setFld f v).fld g = s.fld g := by
  simp only [State.fld, State.word_setFld, ho, hc, if_true, bitsOf_mod32 _ _ _ hg, bitsOf_putBits_disjoint _ _ _ _ _ _ h]

/-- A field is below two to its width. -/
theorem State.fld_lt (f : Fld) : s.fld f < 2 ^ f.width := bitsOf_lt ..

@[simp] theorem State.at_word (t : Nat) (off cold : Nat) : (s.at t).word off cold = s.word off cold := rfl
@[simp] theorem State.at_fld (t : Nat) (x : Fld) : (s.at t).fld x = s.fld x := rfl
@[simp] theorem State.emit_word (o : Out) (off cold : Nat) : (s.emit o).word off cold = s.word off cold := rfl
@[simp] theorem State.emit_fld (o : Out) (x : Fld) : (s.emit o).fld x = s.fld x := rfl
@[simp] theorem State.modFn_word (i : Nat) (f : FnState → FnState) (off cold : Nat) : (s.modFn i f).word off cold = s.word off cold := rfl
@[simp] theorem State.modFn_fld (i : Nat) (f : FnState → FnState) (x : Fld) : (s.modFn i f).fld x = s.fld x := rfl
@[simp] theorem State.modVf_word (n : Nat) (f : VfRings → VfRings) (off cold : Nat) : (s.modVf n f).word off cold = s.word off cold := rfl
@[simp] theorem State.modVf_fld (n : Nat) (f : VfRings → VfRings) (x : Fld) : (s.modVf n f).fld x = s.fld x := rfl
@[simp] theorem State.modRgn_word (n : Nat) (f : Region → Region) (off cold : Nat) : (s.modRgn n f).word off cold = s.word off cold := rfl
@[simp] theorem State.modRgn_fld (n : Nat) (f : Region → Region) (x : Fld) : (s.modRgn n f).fld x = s.fld x := rfl
@[simp] theorem State.modCore_word (g : Nat) (f : Core → Core) (off cold : Nat) : (s.modCore g f).word off cold = s.word off cold := rfl
@[simp] theorem State.modCore_fld (g : Nat) (f : Core → Core) (x : Fld) : (s.modCore g f).fld x = s.fld x := rfl
@[simp] theorem State.modCluster_word (c : Nat) (f : Cluster → Cluster) (off cold : Nat) : (s.modCluster c f).word off cold = s.word off cold := rfl
@[simp] theorem State.modCluster_fld (c : Nat) (f : Cluster → Cluster) (x : Fld) : (s.modCluster c f).fld x = s.fld x := rfl
@[simp] theorem State.modSlice_word (i : Nat) (f : Slice → Slice) (off cold : Nat) : (s.modSlice i f).word off cold = s.word off cold := rfl
@[simp] theorem State.modSlice_fld (i : Nat) (f : Slice → Slice) (x : Fld) : (s.modSlice i f).fld x = s.fld x := rfl
@[simp] theorem State.modChan_word (c : Nat) (f : Chan → Chan) (off cold : Nat) : (s.modChan c f).word off cold = s.word off cold := rfl
@[simp] theorem State.modChan_fld (c : Nat) (f : Chan → Chan) (x : Fld) : (s.modChan c f).fld x = s.fld x := rfl
@[simp] theorem State.modPort_word (p : Nat) (f : Port → Port) (off cold : Nat) : (s.modPort p f).word off cold = s.word off cold := rfl
@[simp] theorem State.modPort_fld (p : Nat) (f : Port → Port) (x : Fld) : (s.modPort p f).fld x = s.fld x := rfl
@[simp] theorem State.modVsp_word (f : Vesper → Vesper) (off cold : Nat) : (s.modVsp f).word off cold = s.word off cold := rfl
@[simp] theorem State.modVsp_fld (f : Vesper → Vesper) (x : Fld) : (s.modVsp f).fld x = s.fld x := rfl

/-! ### Components by index -/

@[simp] theorem State.fn_modFn_same (i : Nat) (f : FnState → FnState) : (s.modFn i f).fn i = f (s.fn i) :=
  smGet_smMod_same ..

theorem State.fn_modFn_ne {i j : Nat} (f : FnState → FnState) (h : j ≠ i) : (s.modFn i f).fn j = s.fn j :=
  smGet_smMod_ne _ _ _ _ h

@[simp] theorem State.fn_setFld (f : Fld) (v : Nat) (i : Nat) : (s.setFld f v).fn i = s.fn i := rfl

@[simp] theorem State.vf_modVf_same (n : Nat) (f : VfRings → VfRings) : (s.modVf n f).vf n = f (s.vf n) :=
  smGet_smMod_same ..

theorem State.vf_modVf_ne {n j : Nat} (f : VfRings → VfRings) (h : j ≠ n) : (s.modVf n f).vf j = s.vf j :=
  smGet_smMod_ne _ _ _ _ h

@[simp] theorem State.vf_setFld (f : Fld) (v : Nat) (n : Nat) : (s.setFld f v).vf n = s.vf n := rfl

@[simp] theorem State.rgn_modRgn_same (n : Nat) (f : Region → Region) : (s.modRgn n f).rgn n = f (s.rgn n) :=
  smGet_smMod_same ..

theorem State.rgn_modRgn_ne {n j : Nat} (f : Region → Region) (h : j ≠ n) : (s.modRgn n f).rgn j = s.rgn j :=
  smGet_smMod_ne _ _ _ _ h

@[simp] theorem State.rgn_setFld (f : Fld) (v : Nat) (n : Nat) : (s.setFld f v).rgn n = s.rgn n := rfl

@[simp] theorem State.core_modCore_same (g : Nat) (f : Core → Core) : (s.modCore g f).core g = f (s.core g) :=
  smGet_smMod_same ..

theorem State.core_modCore_ne {g j : Nat} (f : Core → Core) (h : j ≠ g) : (s.modCore g f).core j = s.core j :=
  smGet_smMod_ne _ _ _ _ h

@[simp] theorem State.core_setFld (f : Fld) (v : Nat) (g : Nat) : (s.setFld f v).core g = s.core g := rfl

@[simp] theorem State.cluster_modCluster_same (c : Nat) (f : Cluster → Cluster) : (s.modCluster c f).cluster c = f (s.cluster c) :=
  smGet_smMod_same ..

theorem State.cluster_modCluster_ne {c j : Nat} (f : Cluster → Cluster) (h : j ≠ c) : (s.modCluster c f).cluster j = s.cluster j :=
  smGet_smMod_ne _ _ _ _ h

@[simp] theorem State.cluster_setFld (f : Fld) (v : Nat) (c : Nat) : (s.setFld f v).cluster c = s.cluster c := rfl

@[simp] theorem State.slice_modSlice_same (i : Nat) (f : Slice → Slice) : (s.modSlice i f).slice i = f (s.slice i) :=
  smGet_smMod_same ..

theorem State.slice_modSlice_ne {i j : Nat} (f : Slice → Slice) (h : j ≠ i) : (s.modSlice i f).slice j = s.slice j :=
  smGet_smMod_ne _ _ _ _ h

@[simp] theorem State.slice_setFld (f : Fld) (v : Nat) (i : Nat) : (s.setFld f v).slice i = s.slice i := rfl

@[simp] theorem State.port_modPort_same (p : Nat) (f : Port → Port) : (s.modPort p f).port p = f (s.port p) :=
  smGet_smMod_same ..

theorem State.port_modPort_ne {p j : Nat} (f : Port → Port) (h : j ≠ p) : (s.modPort p f).port j = s.port j :=
  smGet_smMod_ne _ _ _ _ h

@[simp] theorem State.port_setFld (f : Fld) (v : Nat) (p : Nat) : (s.setFld f v).port p = s.port p := rfl

/-- A draw moves the model's own counter only. -/
@[simp] theorem State.draw_snd : s.draw.2 = { s with draws := s.draws + 1 } := rfl

@[simp] theorem State.newId_fst : s.newId.1 = s.nextId := rfl
@[simp] theorem State.newId_snd : s.newId.2 = { s with nextId := s.nextId + 1 } := rfl

@[simp] theorem State.when_true (f : State → State) : s.when true f = f s := rfl
@[simp] theorem State.when_false (f : State → State) : s.when false f = s := rfl

@[simp] theorem overList_nil {α σ : Type} (s : σ) (f : σ → α → σ) : overList [] s f = s := rfl
@[simp] theorem overList_cons {α σ : Type} (a : α) (l : List α) (s : σ) (f : σ → α → σ) :
    overList (a :: l) s f = overList l (f s a) f := rfl

/-- What every step of a walk keeps, the walk keeps. -/
theorem overList_keeps {α σ : Type} (P : σ → Prop) (l : List α) (s : σ) (f : σ → α → σ) (h : P s)
    (hf : ∀ u a, P u → P (f u a)) : P (overList l s f) := by
  induction l generalizing s with
  | nil => exact h
  | cons a l ih => exact ih _ (hf _ _ h)

/-- What every step of a walk leaves equal, the walk leaves equal. -/
theorem overList_same {α σ β : Type} (g : σ → β) (l : List α) (s : σ) (f : σ → α → σ) (hf : ∀ u a, g (f u a) = g u) :
    g (overList l s f) = g s :=
  overList_keeps (fun u => g u = g s) l s f rfl fun u a h => (hf u a).trans h

end Sys2Proof.Machine
end

