-- ==== Sys2Proof/Laws/PfStatus.lean ====
section
/-! SUPPORT. What bringing INT_PF_STATUS into line with its causes can do (R221, R224): the register, the PF's pending bits and the
messages that leave; nothing else. -/

namespace Sys2Proof.Machine

variable (s : State)

/-- A message of a vector is sent or held. -/
theorem State.sendMsix_shape (i v : Nat) : ∃ f o, s.sendMsix i v = { s with fns := f, out := o } := by
  unfold State.sendMsix; repeat' split
  all_goals exact ⟨_, _, rfl⟩

theorem State.refreshVector_shape (v : Nat) :
    ∃ r f o, s.refreshVector v = { s with regs := r, fns := f, out := o } := by
  unfold State.refreshVector
  simp only []
  split
  · exact ⟨_, _, _, rfl⟩
  · split
    · obtain ⟨f, o, e⟩ := (s.setBit F.INT_PF_STATUS_STATUS v (s.pfCause v)).sendMsix_shape 0 v
      rw [e]; exact ⟨_, _, _, rfl⟩
    · exact ⟨_, _, _, rfl⟩

/-- Everything the refresh can change. -/
theorem State.refreshPf_shape : ∃ r f o, s.refreshPf = { s with regs := r, fns := f, out := o } := by
  refine overList_keeps (fun u => ∃ r f o, u = { s with regs := r, fns := f, out := o }) _ _ _ ⟨s.regs, s.fns, s.out, rfl⟩ ?_
  rintro u v ⟨r, f, o, rfl⟩
  obtain ⟨r', f', o', e⟩ := ({ s with regs := r, fns := f, out := o } : State).refreshVector_shape v
  rw [e]; exact ⟨_, _, _, rfl⟩

@[simp] theorem State.sendMsix_pending (i v : Nat) : (s.sendMsix i v).pending = s.pending := by
  obtain ⟨_, _, e⟩ := s.sendMsix_shape i v; rw [e]
@[simp] theorem State.sendMsix_time (i v : Nat) : (s.sendMsix i v).time = s.time := by
  obtain ⟨_, _, e⟩ := s.sendMsix_shape i v; rw [e]
@[simp] theorem State.sendMsix_draws (i v : Nat) : (s.sendMsix i v).draws = s.draws := by
  obtain ⟨_, _, e⟩ := s.sendMsix_shape i v; rw [e]
@[simp] theorem State.sendMsix_fuses (i v : Nat) : (s.sendMsix i v).fuses = s.fuses := by
  obtain ⟨_, _, e⟩ := s.sendMsix_shape i v; rw [e]
@[simp] theorem State.sendMsix_flash (i v : Nat) : (s.sendMsix i v).flash = s.flash := by
  obtain ⟨_, _, e⟩ := s.sendMsix_shape i v; rw [e]
@[simp] theorem State.sendMsix_supply (i v : Nat) : (s.sendMsix i v).supply = s.supply := by
  obtain ⟨_, _, e⟩ := s.sendMsix_shape i v; rw [e]
@[simp] theorem State.sendMsix_fhalt (i v : Nat) : (s.sendMsix i v).fhalt = s.fhalt := by
  obtain ⟨_, _, e⟩ := s.sendMsix_shape i v; rw [e]
@[simp] theorem State.sendMsix_power (i v : Nat) : (s.sendMsix i v).power = s.power := by
  obtain ⟨_, _, e⟩ := s.sendMsix_shape i v; rw [e]
@[simp] theorem State.sendMsix_modulePos (i v : Nat) : (s.sendMsix i v).modulePos = s.modulePos := by
  obtain ⟨_, _, e⟩ := s.sendMsix_shape i v; rw [e]
@[simp] theorem State.sendMsix_xings (i v : Nat) : (s.sendMsix i v).xings = s.xings := by
  obtain ⟨_, _, e⟩ := s.sendMsix_shape i v; rw [e]
@[simp] theorem State.sendMsix_mesh (i v : Nat) : (s.sendMsix i v).mesh = s.mesh := by
  obtain ⟨_, _, e⟩ := s.sendMsix_shape i v; rw [e]
@[simp] theorem State.sendMsix_ringTurn (i v : Nat) : (s.sendMsix i v).ringTurn = s.ringTurn := by
  obtain ⟨_, _, e⟩ := s.sendMsix_shape i v; rw [e]
@[simp] theorem State.sendMsix_engineVf (i v : Nat) : (s.sendMsix i v).engineVf = s.engineVf := by
  obtain ⟨_, _, e⟩ := s.sendMsix_shape i v; rw [e]
@[simp] theorem State.sendMsix_tap (i v : Nat) : (s.sendMsix i v).tap = s.tap := by
  obtain ⟨_, _, e⟩ := s.sendMsix_shape i v; rw [e]
@[simp] theorem State.sendMsix_vesper (i v : Nat) : (s.sendMsix i v).vesper = s.vesper := by
  obtain ⟨_, _, e⟩ := s.sendMsix_shape i v; rw [e]
@[simp] theorem State.sendMsix_hwCause (i v : Nat) : (s.sendMsix i v).hwCause = s.hwCause := by
  obtain ⟨_, _, e⟩ := s.sendMsix_shape i v; rw [e]
@[simp] theorem State.sendMsix_clearing (i v : Nat) : (s.sendMsix i v).clearing = s.clearing := by
  obtain ⟨_, _, e⟩ := s.sendMsix_shape i v; rw [e]
@[simp] theorem State.sendMsix_pfConfig (i v : Nat) : (s.sendMsix i v).pfConfig = s.pfConfig := by
  obtain ⟨_, _, e⟩ := s.sendMsix_shape i v; rw [e]
@[simp] theorem State.sendMsix_vfs (i v : Nat) : (s.sendMsix i v).vfs = s.vfs := by
  obtain ⟨_, _, e⟩ := s.sendMsix_shape i v; rw [e]
@[simp] theorem State.sendMsix_regions (i v : Nat) : (s.sendMsix i v).regions = s.regions := by
  obtain ⟨_, _, e⟩ := s.sendMsix_shape i v; rw [e]
@[simp] theorem State.sendMsix_clusters (i v : Nat) : (s.sendMsix i v).clusters = s.clusters := by
  obtain ⟨_, _, e⟩ := s.sendMsix_shape i v; rw [e]
@[simp] theorem State.sendMsix_cores (i v : Nat) : (s.sendMsix i v).cores = s.cores := by
  obtain ⟨_, _, e⟩ := s.sendMsix_shape i v; rw [e]
@[simp] theorem State.sendMsix_slices (i v : Nat) : (s.sendMsix i v).slices = s.slices := by
  obtain ⟨_, _, e⟩ := s.sendMsix_shape i v; rw [e]
@[simp] theorem State.sendMsix_hbm (i v : Nat) : (s.sendMsix i v).hbm = s.hbm := by
  obtain ⟨_, _, e⟩ := s.sendMsix_shape i v; rw [e]
@[simp] theorem State.sendMsix_hreqs (i v : Nat) : (s.sendMsix i v).hreqs = s.hreqs := by
  obtain ⟨_, _, e⟩ := s.sendMsix_shape i v; rw [e]
@[simp] theorem State.sendMsix_chans (i v : Nat) : (s.sendMsix i v).chans = s.chans := by
  obtain ⟨_, _, e⟩ := s.sendMsix_shape i v; rw [e]
@[simp] theorem State.sendMsix_stops (i v : Nat) : (s.sendMsix i v).stops = s.stops := by
  obtain ⟨_, _, e⟩ := s.sendMsix_shape i v; rw [e]
@[simp] theorem State.sendMsix_net (i v : Nat) : (s.sendMsix i v).net = s.net := by
  obtain ⟨_, _, e⟩ := s.sendMsix_shape i v; rw [e]
@[simp] theorem State.sendMsix_edge (i v : Nat) : (s.sendMsix i v).edge = s.edge := by
  obtain ⟨_, _, e⟩ := s.sendMsix_shape i v; rw [e]
@[simp] theorem State.sendMsix_ports (i v : Nat) : (s.sendMsix i v).ports = s.ports := by
  obtain ⟨_, _, e⟩ := s.sendMsix_shape i v; rw [e]
@[simp] theorem State.sendMsix_nextId (i v : Nat) : (s.sendMsix i v).nextId = s.nextId := by
  obtain ⟨_, _, e⟩ := s.sendMsix_shape i v; rw [e]
@[simp] theorem State.sendMsix_ctl (i v : Nat) : (s.sendMsix i v).ctl = s.ctl := by
  obtain ⟨_, _, e⟩ := s.sendMsix_shape i v; rw [e]
@[simp] theorem State.sendMsix_ceLogged (i v : Nat) : (s.sendMsix i v).ceLogged = s.ceLogged := by
  obtain ⟨_, _, e⟩ := s.sendMsix_shape i v; rw [e]
@[simp] theorem State.sendMsix_regs (i v : Nat) : (s.sendMsix i v).regs = s.regs := by
  obtain ⟨_, _, e⟩ := s.sendMsix_shape i v; rw [e]
@[simp] theorem State.sendMsix_word (i v off cold : Nat) : (s.sendMsix i v).word off cold = s.word off cold := by
  simp [State.word]
@[simp] theorem State.sendMsix_fld (i v : Nat) (f : Fld) : (s.sendMsix i v).fld f = s.fld f := by simp [State.fld]

@[simp] theorem State.refreshPf_pending : s.refreshPf.pending = s.pending := by
  obtain ⟨_, _, _, e⟩ := s.refreshPf_shape; rw [e]
@[simp] theorem State.refreshPf_time : s.refreshPf.time = s.time := by
  obtain ⟨_, _, _, e⟩ := s.refreshPf_shape; rw [e]
@[simp] theorem State.refreshPf_draws : s.refreshPf.draws = s.draws := by
  obtain ⟨_, _, _, e⟩ := s.refreshPf_shape; rw [e]
@[simp] theorem State.refreshPf_fuses : s.refreshPf.fuses = s.fuses := by
  obtain ⟨_, _, _, e⟩ := s.refreshPf_shape; rw [e]
@[simp] theorem State.refreshPf_flash : s.refreshPf.flash = s.flash := by
  obtain ⟨_, _, _, e⟩ := s.refreshPf_shape; rw [e]
@[simp] theorem State.refreshPf_supply : s.refreshPf.supply = s.supply := by
  obtain ⟨_, _, _, e⟩ := s.refreshPf_shape; rw [e]
@[simp] theorem State.refreshPf_fhalt : s.refreshPf.fhalt = s.fhalt := by
  obtain ⟨_, _, _, e⟩ := s.refreshPf_shape; rw [e]
@[simp] theorem State.refreshPf_power : s.refreshPf.power = s.power := by
  obtain ⟨_, _, _, e⟩ := s.refreshPf_shape; rw [e]
@[simp] theorem State.refreshPf_modulePos : s.refreshPf.modulePos = s.modulePos := by
  obtain ⟨_, _, _, e⟩ := s.refreshPf_shape; rw [e]
@[simp] theorem State.refreshPf_xings : s.refreshPf.xings = s.xings := by
  obtain ⟨_, _, _, e⟩ := s.refreshPf_shape; rw [e]
@[simp] theorem State.refreshPf_mesh : s.refreshPf.mesh = s.mesh := by
  obtain ⟨_, _, _, e⟩ := s.refreshPf_shape; rw [e]
@[simp] theorem State.refreshPf_ringTurn : s.refreshPf.ringTurn = s.ringTurn := by
  obtain ⟨_, _, _, e⟩ := s.refreshPf_shape; rw [e]
@[simp] theorem State.refreshPf_engineVf : s.refreshPf.engineVf = s.engineVf := by
  obtain ⟨_, _, _, e⟩ := s.refreshPf_shape; rw [e]
@[simp] theorem State.refreshPf_tap : s.refreshPf.tap = s.tap := by
  obtain ⟨_, _, _, e⟩ := s.refreshPf_shape; rw [e]
@[simp] theorem State.refreshPf_vesper : s.refreshPf.vesper = s.vesper := by
  obtain ⟨_, _, _, e⟩ := s.refreshPf_shape; rw [e]
@[simp] theorem State.refreshPf_hwCause : s.refreshPf.hwCause = s.hwCause := by
  obtain ⟨_, _, _, e⟩ := s.refreshPf_shape; rw [e]
@[simp] theorem State.refreshPf_clearing : s.refreshPf.clearing = s.clearing := by
  obtain ⟨_, _, _, e⟩ := s.refreshPf_shape; rw [e]
@[simp] theorem State.refreshPf_pfConfig : s.refreshPf.pfConfig = s.pfConfig := by
  obtain ⟨_, _, _, e⟩ := s.refreshPf_shape; rw [e]
@[simp] theorem State.refreshPf_vfs : s.refreshPf.vfs = s.vfs := by
  obtain ⟨_, _, _, e⟩ := s.refreshPf_shape; rw [e]
@[simp] theorem State.refreshPf_regions : s.refreshPf.regions = s.regions := by
  obtain ⟨_, _, _, e⟩ := s.refreshPf_shape; rw [e]
@[simp] theorem State.refreshPf_clusters : s.refreshPf.clusters = s.clusters := by
  obtain ⟨_, _, _, e⟩ := s.refreshPf_shape; rw [e]
@[simp] theorem State.refreshPf_cores : s.refreshPf.cores = s.cores := by
  obtain ⟨_, _, _, e⟩ := s.refreshPf_shape; rw [e]
@[simp] theorem State.refreshPf_slices : s.refreshPf.slices = s.slices := by
  obtain ⟨_, _, _, e⟩ := s.refreshPf_shape; rw [e]
@[simp] theorem State.refreshPf_hbm : s.refreshPf.hbm = s.hbm := by
  obtain ⟨_, _, _, e⟩ := s.refreshPf_shape; rw [e]
@[simp] theorem State.refreshPf_hreqs : s.refreshPf.hreqs = s.hreqs := by
  obtain ⟨_, _, _, e⟩ := s.refreshPf_shape; rw [e]
@[simp] theorem State.refreshPf_chans : s.refreshPf.chans = s.chans := by
  obtain ⟨_, _, _, e⟩ := s.refreshPf_shape; rw [e]
@[simp] theorem State.refreshPf_stops : s.refreshPf.stops = s.stops := by
  obtain ⟨_, _, _, e⟩ := s.refreshPf_shape; rw [e]
@[simp] theorem State.refreshPf_net : s.refreshPf.net = s.net := by
  obtain ⟨_, _, _, e⟩ := s.refreshPf_shape; rw [e]
@[simp] theorem State.refreshPf_edge : s.refreshPf.edge = s.edge := by
  obtain ⟨_, _, _, e⟩ := s.refreshPf_shape; rw [e]
@[simp] theorem State.refreshPf_ports : s.refreshPf.ports = s.ports := by
  obtain ⟨_, _, _, e⟩ := s.refreshPf_shape; rw [e]
@[simp] theorem State.refreshPf_nextId : s.refreshPf.nextId = s.nextId := by
  obtain ⟨_, _, _, e⟩ := s.refreshPf_shape; rw [e]
@[simp] theorem State.refreshPf_ctl : s.refreshPf.ctl = s.ctl := by
  obtain ⟨_, _, _, e⟩ := s.refreshPf_shape; rw [e]
@[simp] theorem State.refreshPf_ceLogged : s.refreshPf.ceLogged = s.ceLogged := by
  obtain ⟨_, _, _, e⟩ := s.refreshPf_shape; rw [e]

theorem State.refreshVector_word (v : Nat) {off : Nat} (h : off ≠ R.INT_PF_STATUS) (cold : Nat) :
    (s.refreshVector v).word off cold = s.word off cold := by
  have e : ∀ b, (s.setBit F.INT_PF_STATUS_STATUS v b).word off cold = s.word off cold :=
    fun b => State.word_setFld_ne _ _ _ _ _ h
  unfold State.refreshVector; simp only []; repeat' split
  all_goals simp [e]

/-- No register but INT_PF_STATUS changes. -/
theorem State.refreshPf_word {off : Nat} (h : off ≠ R.INT_PF_STATUS) (cold : Nat) :
    s.refreshPf.word off cold = s.word off cold :=
  overList_same (fun u : State => u.word off cold) _ _ _ fun u v => u.refreshVector_word v h cold

theorem State.refreshPf_fld (f : Fld) (h : f.off ≠ R.INT_PF_STATUS) : s.refreshPf.fld f = s.fld f := by
  simp only [State.fld, s.refreshPf_word h]

@[simp] theorem State.refreshPf_vf (i : Nat) : s.refreshPf.vf i = s.vf i := by simp [State.vf]
@[simp] theorem State.refreshPf_rgn (i : Nat) : s.refreshPf.rgn i = s.rgn i := by simp [State.rgn]
@[simp] theorem State.refreshPf_core (i : Nat) : s.refreshPf.core i = s.core i := by simp [State.core]
@[simp] theorem State.refreshPf_cluster (i : Nat) : s.refreshPf.cluster i = s.cluster i := by simp [State.cluster]
@[simp] theorem State.refreshPf_slice (i : Nat) : s.refreshPf.slice i = s.slice i := by simp [State.slice]
@[simp] theorem State.refreshPf_port (i : Nat) : s.refreshPf.port i = s.port i := by simp [State.port]

/-- A command whose effect is `s` answers the state with INT_PF_STATUS in line. -/
theorem done_eq : done s = .next s.refreshPf := rfl

end Sys2Proof.Machine
end

