-- ==== Sys2Proof/Laws/Frame.lean ====
section
/-! SUPPORT. Laws of frames, of what leaves the module, and of the refresh of INT_PF_STATUS over them. -/

namespace Sys2Proof.Machine

variable {s t u : State}

theorem Part.same_refl (p : Part) : p.same s s := by cases p <;> rfl

theorem Part.same_trans {p : Part} (h : p.same s t) (k : p.same t u) : p.same s u := by
  cases p <;> exact Eq.trans k h

theorem Frame.refl (s : State) (r : List Nat) (p : List Part) : Frame s s r p :=
  ⟨fun _ _ _ _ => rfl, fun q _ => Part.same_refl q⟩

theorem Frame.trans {r p} (h : Frame s t r p) (k : Frame t u r p) : Frame s u r p :=
  ⟨fun o c a b => (k.1 o c a b).trans (h.1 o c a b), fun q a => Part.same_trans (h.2 q a) (k.2 q a)⟩

theorem Frame.mono {r r' p p'} (h : Frame s t r p) (hr : r ⊆ r') (hp : p ⊆ p') : Frame s t r' p' :=
  ⟨fun o c a b => h.1 o c a fun x => b (hr x), fun q a => h.2 q fun x => a (hp x)⟩

/-- Bringing INT_PF_STATUS into line disturbs nothing that a frame speaks of. -/
theorem frame_refreshPf (s : State) (r : List Nat) (p : List Part) : Frame s s.refreshPf r p :=
  ⟨fun _ c a _ => s.refreshPf_word a c, fun q _ => by cases q <;> simp [Part.same]⟩

theorem Frame.pf {r p} (h : Frame s t r p) : Frame s t.refreshPf r p := h.trans (frame_refreshPf t r p)

/-- A write of a field changes its register alone. -/
theorem frame_setFld (s : State) (f : Fld) (v : Nat) {r : List Nat} (p : List Part) (h : f.off ∈ r) :
    Frame s (s.setFld f v) r p :=
  ⟨fun _ c _ b => State.word_setFld_ne _ _ _ _ c fun e => b (e ▸ h), fun q _ => by cases q <;> rfl⟩

theorem frame_setWord (s : State) (off w : Nat) {r : List Nat} (p : List Part) (h : off ∈ r) :
    Frame s (s.setWord off w) r p :=
  ⟨fun o c _ b => by rw [State.word_setWord, if_neg (fun e : o = off => b (e ▸ h))], fun q _ => by cases q <;> rfl⟩

theorem Frame.setFld {r p} (h : Frame s t r p) (f : Fld) (v : Nat) (hr : f.off ∈ r) : Frame s (t.setFld f v) r p :=
  h.trans (frame_setFld t f v p hr)

theorem Frame.setWord {r p} (h : Frame s t r p) (off w : Nat) (hr : off ∈ r) : Frame s (t.setWord off w) r p :=
  h.trans (frame_setWord t off w p hr)

theorem Frame.walk {α : Type} {r p} (l : List α) (f : State → α → State) (h : Frame s t r p)
    (hf : ∀ u a, Frame u (f u a) r p) : Frame s (overList l t f) r p :=
  overList_keeps (fun u => Frame s u r p) l t f h fun u a k => k.trans (hf u a)

/-- The bits of a register outside a field stay when the field is written. -/
theorem otherBits_setFld (s : State) (f : Fld) (v : Nat) : OtherBits s (s.setFld f v) f := by
  intro i hi h
  rw [State.word_setFld, if_pos rfl, Nat.testBit_mod_two_pow, putBits_testBit]
  rcases h with h | h
  · simp [hi, h]
  · have h1 : ¬ i < f.lo := by omega
    have h2 : ¬ i < f.lo + f.width := by omega
    simp [hi, h1, h2]

theorem OtherBits.pf {f : Fld} (h : OtherBits s t f) (hf : f.off ≠ R.INT_PF_STATUS) : OtherBits s t.refreshPf f := by
  intro i hi k; rw [t.refreshPf_word hf]; exact h i hi k

theorem OtherBits.refl (s : State) (f : Fld) : OtherBits s s f := fun _ _ _ => rfl

theorem sameFn_sendMsix (s : State) (i v j : Nat) : SameFn s (s.sendMsix i v) j := by
  unfold State.sendMsix
  split
  · rfl
  · split
    · by_cases h : j = i
      · subst h; simp [SameFn]
      · simp [SameFn, State.fn_modFn_ne _ _ h]
    · rfl

theorem SameFn.trans {i : Nat} (h : SameFn s t i) (k : SameFn t u i) : SameFn s u i := Eq.trans k h

theorem sameFn_refreshPf (s : State) (i : Nat) : SameFn s s.refreshPf i := by
  refine overList_keeps (fun u => SameFn s u i) _ _ _ rfl ?_
  intro u v h
  refine h.trans ?_
  unfold State.refreshVector
  simp only []
  split
  · rfl
  · split
    · exact sameFn_sendMsix _ _ _ _
    · rfl

theorem sent_sendMsix_pf (s : State) (v : Nat) : Sent s (s.sendMsix 0 v) [] := by
  unfold State.sendMsix
  split
  · exact ⟨[], by simp, by simp⟩
  · split
    · exact ⟨[], by simp, by simp⟩
    · refine ⟨[msixMessage 0 v (smGet (s.fn 0).table {} v)], by simp [State.emit], ?_⟩
      intro x hx
      simp only [List.mem_singleton] at hx
      exact ⟨_, _, _, hx⟩

theorem Sent.trans {m : List Out} (h : Sent s t m) (k : Sent t u []) : Sent s u m := by
  obtain ⟨l, e, a⟩ := h
  obtain ⟨l', e', a'⟩ := k
  refine ⟨l ++ l', by rw [e', e]; simp, ?_⟩
  intro x hx
  rcases List.mem_append.1 hx with hx | hx
  · exact a x hx
  · exact a' x hx

theorem sent_refreshPf (s : State) : Sent s s.refreshPf [] := by
  refine overList_keeps (fun u => Sent s u []) _ _ _ ⟨[], by simp, by simp⟩ ?_
  intro u v h
  refine h.trans ?_
  unfold State.refreshVector
  simp only []
  split
  · exact ⟨[], by simp, by simp⟩
  · split
    · exact sent_sendMsix_pf _ _
    · exact ⟨[], by simp [State.setBit], by simp⟩

theorem sent_emit (s : State) (o : Out) : Sent s (s.emit o) [o] := ⟨[], by simp [State.emit], by simp⟩

theorem Sent.pf {m : List Out} (h : Sent s t m) : Sent s t.refreshPf m := h.trans (sent_refreshPf t)

/-- A command whose effect is `t` answers a next state of which `P` holds, when `P` holds of `t` with INT_PF_STATUS in line. -/
theorem answers_of_done {i : Instr} {P : State → Prop} (h : exec i s = done t) (hp : P t.refreshPf) : Answers i s P :=
  ⟨_, h, hp⟩

theorem SameFn.pf {i : Nat} (h : SameFn s t i) : SameFn s t.refreshPf i := h.trans (sameFn_refreshPf t i)

theorem SameFn.of_fns {i : Nat} (h : t.fns = s.fns) : SameFn s t i := by simp [SameFn, State.fn, h]

/-- A field of a register outside the frame's list reads as before. -/
theorem Frame.fld_eq {r p} (h : Frame s t r p) (f : Fld) (h1 : f.off ≠ R.INT_PF_STATUS) (h2 : f.off ∉ r) :
    t.fld f = s.fld f := by
  simp only [State.fld, h.1 _ _ h1 h2]

/-- A field that has just been written, after the refresh of INT_PF_STATUS. -/
theorem fld_setFld_pf (s : State) (f : Fld) (v : Nat) (hw : f.lo + f.width ≤ 32) (hp : f.off ≠ R.INT_PF_STATUS) :
    (s.setFld f v).refreshPf.fld f = v % 2 ^ f.width := by
  rw [State.refreshPf_fld _ _ hp, State.fld_setFld_same _ _ _ hw]

/-- A command that writes one field: what it answers. -/
theorem answers_setFld {i : Instr} {f : Fld} {v : Nat} (h : exec i s = done (s.setFld f v)) (hw : f.lo + f.width ≤ 32)
    (hp : f.off ≠ R.INT_PF_STATUS) :
    Answers i s fun t => t.fld f = v % 2 ^ f.width ∧ OtherBits s t f ∧ Frame s t [f.off] [] ∧ ∀ i, SameFn s t i :=
  answers_of_done h ⟨fld_setFld_pf s f v hw hp, (otherBits_setFld s f v).pf hp,
    (frame_setFld s f v [] (by simp)).pf, fun _ => SameFn.pf rfl⟩

/-- Bit i of a field after a write of bit k. -/
theorem State.bitAt_setBit (s : State) (f : Fld) (k i : Nat) (b : Bool) (hw : f.lo + f.width ≤ 32) (hk : k < f.width) :
    (s.setBit f k b).bitAt f i = if i = k then b else s.bitAt f i := by
  simp only [State.bitAt, State.setBit]
  rw [State.fld_setFld_same _ _ _ hw, Nat.testBit_mod_two_pow, putBits_testBit]
  by_cases h1 : i = k
  · subst h1; cases b <;> simp [hk, bit]
  · by_cases h2 : i < f.width
    · by_cases h3 : i < k
      · simp [h1, h2, h3]
      · have h4 : ¬ i < k + 1 := by omega
        simp [h1, h2, h3, h4]
    · have h5 : (s.fld f).testBit i = false :=
        Nat.testBit_lt_two_pow (lt_of_lt_of_le (State.fld_lt s f) (Nat.pow_le_pow_right (by decide) (by omega)))
      simp [h1, h2, h5]

theorem State.refreshPf_bitAt (s : State) (f : Fld) (i : Nat) (h : f.off ≠ R.INT_PF_STATUS) :
    s.refreshPf.bitAt f i = s.bitAt f i := by simp only [State.bitAt, s.refreshPf_fld f h]

theorem Frame.bitAt_eq {r p} (h : Frame s t r p) (f : Fld) (i : Nat) (h1 : f.off ≠ R.INT_PF_STATUS) (h2 : f.off ∉ r) :
    t.bitAt f i = s.bitAt f i := by simp only [State.bitAt, h.fld_eq f h1 h2]

theorem State.on_eq_true {f : Fld} (h : s.fld f ≠ 0) : s.on f = true := by simp [State.on, h]
theorem State.on_eq_false {f : Fld} (h : s.fld f = 0) : s.on f = false := by simp [State.on, h]

end Sys2Proof.Machine
end

