-- ==== Sys2Proof/Laws/Done.lean ====
section
/-! SUPPORT. Every command completes: it answers the next state `t.refreshPf` of some effect `t`, so what a step leaves is in line with
the causes of the PF interrupts (R221, R224). -/

set_option linter.unusedTactic false
set_option linter.unreachableTactic false

namespace Sys2Proof.Machine

/-- An outcome is the effect `t` with INT_PF_STATUS brought into line. -/
def IsDone (o : Host.Outcome State Fault Refusal) : Prop := ∃ t, o = done t

theorem isDone_done (t : State) : IsDone (done t) := ⟨t, rfl⟩

theorem isDone_issue (g opc o s c a) : IsDone (issue g opc o s c a) := by
  unfold issue; repeat' (first | exact isDone_done _ | split | extract_lets)

theorem isDone_mail (c f s) : IsDone (mailCommand c f s) := by
  unfold mailCommand; repeat' (first | exact isDone_done _ | split | extract_lets)

theorem isDone_receive (c f s) : IsDone (receive c f s) := by
  unfold receive; repeat' (first | exact isDone_done _ | split | extract_lets)

theorem isDone_deliver (c f k s) : IsDone (deliver c f k s) := by
  unfold deliver; repeat' (first | exact isDone_done _ | split | extract_lets)

theorem execRegisterWrite_done (off : BitVec 24) (w : DwWrite) (s : State) : IsDone (execRegisterWrite off w s) := by
  unfold execRegisterWrite; repeat' (first | exact isDone_done _ | split | extract_lets)
theorem execUnsupportedRequest_done (fn : Fn) (s : State) : IsDone (execUnsupportedRequest fn s) := isDone_done _
theorem execWakeHint_done (vf : Fin 32) (s : State) : IsDone (execWakeHint vf s) := by
  unfold execWakeHint
  repeat' (first | exact isDone_done _ | exact isDone_issue .. | exact isDone_deliver .. | split | extract_lets)
theorem execSriovCfgWriteIgnored_done (w : SriovWrite) (s : State) : IsDone (execSriovCfgWriteIgnored w s) := by
  unfold execSriovCfgWriteIgnored
  repeat' (first | exact isDone_done _ | exact isDone_issue .. | exact isDone_deliver .. | split | extract_lets)
theorem execVfEnableClear_done (s : State) : IsDone (execVfEnableClear s) := by
  unfold execVfEnableClear
  repeat' (first | exact isDone_done _ | exact isDone_issue .. | exact isDone_deliver .. | split | extract_lets)
theorem execPfD3hotEntry_done (s : State) : IsDone (execPfD3hotEntry s) := by
  unfold execPfD3hotEntry
  repeat' (first | exact isDone_done _ | exact isDone_issue .. | exact isDone_deliver .. | split | extract_lets)
theorem execPfD0Entry_done (s : State) : IsDone (execPfD0Entry s) := by
  unfold execPfD0Entry
  repeat' (first | exact isDone_done _ | exact isDone_issue .. | exact isDone_deliver .. | split | extract_lets)
theorem execVfBmeChange_done (vf : Fin 32) (on : Bool) (s : State) : IsDone (execVfBmeChange vf on s) := by
  unfold execVfBmeChange
  repeat' (first | exact isDone_done _ | exact isDone_issue .. | exact isDone_deliver .. | split | extract_lets)
theorem execIntPfEnableWrite_done (w : DwWrite) (s : State) : IsDone (execIntPfEnableWrite w s) := isDone_done _
theorem execMsixTableWrite_done (fn : Fn) (vector : Fin 8) (word : Fin 4) (w : DwWrite) (s : State)
    : IsDone (execMsixTableWrite fn vector word w s) := by
  unfold execMsixTableWrite
  repeat' (first | exact isDone_done _ | exact isDone_issue .. | exact isDone_deliver .. | split | extract_lets)
theorem execMsixPendingSend_done (fn : Fn) (vector : Fin 8) (s : State) : IsDone (execMsixPendingSend fn vector s) := isDone_done _
theorem execPcieLinkTrained_done (width : BitVec 5) (speed : BitVec 4) (flitMode : Bool) (s : State)
    : IsDone (execPcieLinkTrained width speed flitMode s) := by
  unfold execPcieLinkTrained
  repeat' (first | exact isDone_done _ | exact isDone_issue .. | exact isDone_deliver .. | split | extract_lets)
theorem execHostDmaErrorResponse_done (d : DescRef) (e : HostError) (s : State)
    : IsDone (execHostDmaErrorResponse d e s) := isDone_done _
theorem execHostReadTimeout_done (d : DescRef) (s : State) : IsDone (execHostReadTimeout d s) := isDone_done _
theorem execPerstAssert_done (s : State) : IsDone (execPerstAssert s) := by
  unfold execPerstAssert
  repeat' (first | exact isDone_done _ | exact isDone_issue .. | exact isDone_deliver .. | split | extract_lets)
theorem execPerstDeassert_done (s : State) : IsDone (execPerstDeassert s) := isDone_done _
theorem execHotReset_done (s : State) : IsDone (execHotReset s) := by
  unfold execHotReset
  repeat' (first | exact isDone_done _ | exact isDone_issue .. | exact isDone_deliver .. | split | extract_lets)
theorem execFlrPf_done (s : State) : IsDone (execFlrPf s) := by
  unfold execFlrPf
  repeat' (first | exact isDone_done _ | exact isDone_issue .. | exact isDone_deliver .. | split | extract_lets)
theorem execFlrVf_done (vf : Fin 32) (s : State) : IsDone (execFlrVf vf s) := by
  unfold execFlrVf
  repeat' (first | exact isDone_done _ | exact isDone_issue .. | exact isDone_deliver .. | split | extract_lets)
theorem execWarm_done (w : DwWrite) (s : State) : IsDone (execWarm w s) := isDone_done _
theorem execCold_done (w : DwWrite) (s : State) : IsDone (execCold w s) := isDone_done _
theorem execWarmKeepHbmUpdate_done (w : DwWrite) (s : State) : IsDone (execWarmKeepHbmUpdate w s) := isDone_done _
theorem execWarmReset_done (p : PowerUp) (s : State) : IsDone (execWarmReset p s) := by
  unfold execWarmReset
  repeat' (first | exact isDone_done _ | exact isDone_issue .. | exact isDone_deliver .. | split | extract_lets)
theorem execWarmResetComplete_done (s : State) : IsDone (execWarmResetComplete s) := by
  unfold execWarmResetComplete
  repeat' (first | exact isDone_done _ | exact isDone_issue .. | exact isDone_deliver .. | split | extract_lets)
theorem execConverterStart_done (p : PowerUp) (s : State) : IsDone (execConverterStart p s) := by
  unfold execConverterStart
  repeat' (first | exact isDone_done _ | exact isDone_issue .. | exact isDone_deliver .. | split | extract_lets)
theorem execBringUpComplete_done (s : State) : IsDone (execBringUpComplete s) := by
  unfold execBringUpComplete
  repeat' (first | exact isDone_done _ | exact isDone_issue .. | exact isDone_deliver .. | split | extract_lets)
theorem execPowerDown_done (s : State) : IsDone (execPowerDown s) := by
  unfold execPowerDown
  repeat' (first | exact isDone_done _ | exact isDone_issue .. | exact isDone_deliver .. | split | extract_lets)
theorem execSupplySample_done (mv ma : BitVec 16) (s : State) : IsDone (execSupplySample mv ma s) := by
  unfold execSupplySample
  repeat' (first | exact isDone_done _ | exact isDone_issue .. | exact isDone_deliver .. | split | extract_lets)
theorem execOvervoltageTrip_done (s : State) : IsDone (execOvervoltageTrip s) := by
  unfold execOvervoltageTrip
  repeat' (first | exact isDone_done _ | exact isDone_issue .. | exact isDone_deliver .. | split | extract_lets)
theorem execUndervoltageComparator_done (s : State) : IsDone (execUndervoltageComparator s) := by
  unfold execUndervoltageComparator
  repeat' (first | exact isDone_done _ | exact isDone_issue .. | exact isDone_deliver .. | split | extract_lets)
theorem execMeterSelfCheck_done (ok : Bool) (s : State) : IsDone (execMeterSelfCheck ok s) := by
  unfold execMeterSelfCheck
  repeat' (first | exact isDone_done _ | exact isDone_issue .. | exact isDone_deliver .. | split | extract_lets)
theorem execLastGaspComplete_done (s : State) : IsDone (execLastGaspComplete s) := by
  unfold execLastGaspComplete
  repeat' (first | exact isDone_done _ | exact isDone_issue .. | exact isDone_deliver .. | split | extract_lets)
theorem execJunctionSensorRead_done (temps : List (BitVec 8)) (s : State) : IsDone (execJunctionSensorRead temps s) := by
  unfold execJunctionSensorRead
  repeat' (first | exact isDone_done _ | exact isDone_issue .. | exact isDone_deliver .. | split | extract_lets)
theorem execHbmTempReport_done (stack : Fin 8) (temp : BitVec 8) (s : State)
    : IsDone (execHbmTempReport stack temp s) := by
  unfold execHbmTempReport
  repeat' (first | exact isDone_done _ | exact isDone_issue .. | exact isDone_deliver .. | split | extract_lets)
theorem execFhaltSample_done (a b : Bool) (s : State) : IsDone (execFhaltSample a b s) := by
  unfold execFhaltSample
  repeat' (first | exact isDone_done _ | exact isDone_issue .. | exact isDone_deliver .. | split | extract_lets)
theorem execHaltDrainComplete_done (s : State) : IsDone (execHaltDrainComplete s) := by
  unfold execHaltDrainComplete
  repeat' (first | exact isDone_done _ | exact isDone_issue .. | exact isDone_deliver .. | split | extract_lets)
theorem execFhaltRelease_done (w : DwWrite) (crossings : List Crossing) (s : State)
    : IsDone (execFhaltRelease w crossings s) := isDone_done _
theorem execM3ReleaseComplete_done (p : PowerUp) (s : State) : IsDone (execM3ReleaseComplete p s) := by
  unfold execM3ReleaseComplete
  repeat' (first | exact isDone_done _ | exact isDone_issue .. | exact isDone_deliver .. | split | extract_lets)
theorem execShed_done (s : State) : IsDone (execShed s) := by
  unfold execShed
  repeat' (first | exact isDone_done _ | exact isDone_issue .. | exact isDone_deliver .. | split | extract_lets)
theorem execUnshed_done (s : State) : IsDone (execUnshed s) := by
  unfold execUnshed
  repeat' (first | exact isDone_done _ | exact isDone_issue .. | exact isDone_deliver .. | split | extract_lets)
theorem execForceShedWrite_done (w : DwWrite) (s : State) : IsDone (execForceShedWrite w s) := isDone_done _
theorem execCeilingMultWrite_done (w : DwWrite) (s : State) : IsDone (execCeilingMultWrite w s) := isDone_done _
theorem execSlewComplete_done (s : State) : IsDone (execSlewComplete s) := by
  unfold execSlewComplete
  repeat' (first | exact isDone_done _ | exact isDone_issue .. | exact isDone_deliver .. | split | extract_lets)
theorem execAonTrimWindow_done (count : BitVec 20) (s : State) : IsDone (execAonTrimWindow count s) := by
  unfold execAonTrimWindow
  repeat' (first | exact isDone_done _ | exact isDone_issue .. | exact isDone_deliver .. | split | extract_lets)
theorem execXtal32Stop_done (s : State) : IsDone (execXtal32Stop s) := by
  unfold execXtal32Stop
  repeat' (first | exact isDone_done _ | exact isDone_issue .. | exact isDone_deliver .. | split | extract_lets)
theorem execXrefQualifyTimeout_done (s : State) : IsDone (execXrefQualifyTimeout s) := by
  unfold execXrefQualifyTimeout
  repeat' (first | exact isDone_done _ | exact isDone_issue .. | exact isDone_deliver .. | split | extract_lets)
theorem execTilePllUnlock_done (half : Half) (s : State) : IsDone (execTilePllUnlock half s) := by
  unfold execTilePllUnlock
  repeat' (first | exact isDone_done _ | exact isDone_issue .. | exact isDone_deliver .. | split | extract_lets)
theorem execTilePllRelock_done (half : Half) (s : State) : IsDone (execTilePllRelock half s) := by
  unfold execTilePllRelock
  repeat' (first | exact isDone_done _ | exact isDone_issue .. | exact isDone_deliver .. | split | extract_lets)
theorem execVesperTick_done (s : State) : IsDone (execVesperTick s) := by
  unfold execVesperTick
  repeat' (first | exact isDone_done _ | exact isDone_issue .. | exact isDone_deliver .. | split | extract_lets)
theorem execM2EntryComplete_done (polls : List (Fin 32 × PollRead)) (s : State)
    : IsDone (execM2EntryComplete polls s) := by
  unfold execM2EntryComplete
  repeat' (first | exact isDone_done _ | exact isDone_issue .. | exact isDone_deliver .. | split | extract_lets)
theorem execM2PollExcursion_done (polls : List (Fin 32 × PollRead)) (s : State)
    : IsDone (execM2PollExcursion polls s) := by
  unfold execM2PollExcursion
  repeat' (first | exact isDone_done _ | exact isDone_issue .. | exact isDone_deliver .. | split | extract_lets)
theorem execWakeCause_done (cause : WakeCause) (crossings : List Crossing) (s : State)
    : IsDone (execWakeCause cause crossings s) := by
  unfold execWakeCause
  repeat' (first | exact isDone_done _ | exact isDone_issue .. | exact isDone_deliver .. | split | extract_lets)
theorem execWakeComplete_done (p : PowerUp) (s : State) : IsDone (execWakeComplete p s) := by
  unfold execWakeComplete
  repeat' (first | exact isDone_done _ | exact isDone_issue .. | exact isDone_deliver .. | split | extract_lets)
theorem execIslandIdleGate_done (region : Fin 32) (s : State) : IsDone (execIslandIdleGate region s) := by
  unfold execIslandIdleGate
  repeat' (first | exact isDone_done _ | exact isDone_issue .. | exact isDone_deliver .. | split | extract_lets)
theorem execIslandUngateComplete_done (island : Fin 32) (crossings : List Crossing) (s : State)
    : IsDone (execIslandUngateComplete island crossings s) := by
  unfold execIslandUngateComplete
  repeat' (first | exact isDone_done _ | exact isDone_issue .. | exact isDone_deliver .. | split | extract_lets)
theorem execImageRebuild_done (region : Fin 32) (image : HostData) (s : State)
    : IsDone (execImageRebuild region image s) := by
  unfold execImageRebuild
  repeat' (first | exact isDone_done _ | exact isDone_issue .. | exact isDone_deliver .. | split | extract_lets)
theorem execSliceRetentionEntry_done (slice : Fin 64) (s : State) : IsDone (execSliceRetentionEntry slice s) := by
  unfold execSliceRetentionEntry
  repeat' (first | exact isDone_done _ | exact isDone_issue .. | exact isDone_deliver .. | split | extract_lets)
theorem execSliceRetentionExit_done (slice : Fin 64) (s : State) : IsDone (execSliceRetentionExit slice s) := isDone_done _
theorem execRingWatchPoll_done (vf : Fin 32) (r : PollRead) (s : State) : IsDone (execRingWatchPoll vf r s) := by
  unfold execRingWatchPoll
  repeat' (first | exact isDone_done _ | exact isDone_issue .. | exact isDone_deliver .. | split | extract_lets)
theorem execHeldRecordsFlush_done (vf : Fin 32) (s : State) : IsDone (execHeldRecordsFlush vf s) := by
  unfold execHeldRecordsFlush
  repeat' (first | exact isDone_done _ | exact isDone_issue .. | exact isDone_deliver .. | split | extract_lets)
theorem execDescriptorFetch_done (vf : Fin 32) (ring : Fin 8) (result : FetchEnd) (words : List (BitVec 32)) (s : State)
    : IsDone (execDescriptorFetch vf ring result words s) := by
  unfold execDescriptorFetch
  repeat' (first | exact isDone_done _ | exact isDone_issue .. | exact isDone_deliver .. | split | extract_lets)
theorem execDescriptorComplete_done (d : DescRef) (s : State) : IsDone (execDescriptorComplete d s) := by
  unfold execDescriptorComplete
  repeat' (first | exact isDone_done _ | exact isDone_issue .. | exact isDone_deliver .. | split | extract_lets)
theorem execNopDescriptor_done (d : DescRef) (s : State) : IsDone (execNopDescriptor d s) := by
  unfold execNopDescriptor
  repeat' (first | exact isDone_done _ | exact isDone_issue .. | exact isDone_deliver .. | split | extract_lets)
theorem execCopy_done (d : DescRef) (data : HostData) (s : State) : IsDone (execCopy d data s) := by
  unfold execCopy
  repeat' (first | exact isDone_done _ | exact isDone_issue .. | exact isDone_deliver .. | split | extract_lets)
theorem execFill_done (d : DescRef) (s : State) : IsDone (execFill d s) := by
  unfold execFill
  repeat' (first | exact isDone_done _ | exact isDone_issue .. | exact isDone_deliver .. | split | extract_lets)
theorem execLoadSchedule_done (d : DescRef) (image : HostData) (s : State) : IsDone (execLoadSchedule d image s) := by
  unfold execLoadSchedule
  repeat' (first | exact isDone_done _ | exact isDone_issue .. | exact isDone_deliver .. | split | extract_lets)
theorem execLaunch_done (d : DescRef) (s : State) : IsDone (execLaunch d s) := by
  unfold execLaunch
  repeat' (first | exact isDone_done _ | exact isDone_issue .. | exact isDone_deliver .. | split | extract_lets)
theorem execGatherCheckComplete_done (region : Fin 32) (s : State) : IsDone (execGatherCheckComplete region s) := by
  unfold execGatherCheckComplete
  repeat' (first | exact isDone_done _ | exact isDone_issue .. | exact isDone_deliver .. | split | extract_lets)
theorem execLaunchEnd_done (region : Fin 32) (s : State) : IsDone (execLaunchEnd region s) := by
  unfold execLaunchEnd
  repeat' (first | exact isDone_done _ | exact isDone_issue .. | exact isDone_deliver .. | split | extract_lets)
theorem execLaunchWatchdog_done (region : Fin 32) (s : State) : IsDone (execLaunchWatchdog region s) := by
  unfold execLaunchWatchdog
  repeat' (first | exact isDone_done _ | exact isDone_issue .. | exact isDone_deliver .. | split | extract_lets)
theorem execWait_done (d : DescRef) (value : BitVec 64) (s : State) : IsDone (execWait d value s) := by
  unfold execWait
  repeat' (first | exact isDone_done _ | exact isDone_issue .. | exact isDone_deliver .. | split | extract_lets)
theorem execWaitTimeout_done (d : DescRef) (s : State) : IsDone (execWaitTimeout d s) := isDone_done _
theorem execFenceDescriptor_done (d : DescRef) (s : State) : IsDone (execFenceDescriptor d s) := by
  unfold execFenceDescriptor
  repeat' (first | exact isDone_done _ | exact isDone_issue .. | exact isDone_deliver .. | split | extract_lets)
theorem execBarrier_done (d : DescRef) (s : State) : IsDone (execBarrier d s) := by
  unfold execBarrier
  repeat' (first | exact isDone_done _ | exact isDone_issue .. | exact isDone_deliver .. | split | extract_lets)
theorem execBarrierTimeout_done (d : DescRef) (s : State) : IsDone (execBarrierTimeout d s) := isDone_done _
theorem execSignal_done (d : DescRef) (s : State) : IsDone (execSignal d s) := by
  unfold execSignal
  repeat' (first | exact isDone_done _ | exact isDone_issue .. | exact isDone_deliver .. | split | extract_lets)
theorem execQuery_done (d : DescRef) (s : State) : IsDone (execQuery d s) := by
  unfold execQuery
  repeat' (first | exact isDone_done _ | exact isDone_issue .. | exact isDone_deliver .. | split | extract_lets)
theorem execTelemetrySnapshot_done (d : DescRef) (s : State) : IsDone (execTelemetrySnapshot d s) := by
  unfold execTelemetrySnapshot
  repeat' (first | exact isDone_done _ | exact isDone_issue .. | exact isDone_deliver .. | split | extract_lets)
theorem execRingEnable_done (vf : Fin 32) (w : DwWrite) (s : State) : IsDone (execRingEnable vf w s) := isDone_done _
theorem execRingDisable_done (vf : Fin 32) (w : DwWrite) (s : State) : IsDone (execRingDisable vf w s) := isDone_done _
theorem execCqEnable_done (vf : Fin 32) (w : DwWrite) (s : State) : IsDone (execCqEnable vf w s) := isDone_done _
theorem execCqDisable_done (vf : Fin 32) (w : DwWrite) (s : State) : IsDone (execCqDisable vf w s) := isDone_done _
theorem execRingStoppingEnd_done (vf : Fin 32) (ring : Fin 8) (s : State) : IsDone (execRingStoppingEnd vf ring s) := by
  unfold execRingStoppingEnd
  repeat' (first | exact isDone_done _ | exact isDone_issue .. | exact isDone_deliver .. | split | extract_lets)
theorem execConfigure_done (region : Fin 32) (w : DwWrite) (s : State) : IsDone (execConfigure region w s) := isDone_done _
theorem execCommit_done (region : Fin 32) (w : DwWrite) (s : State) : IsDone (execCommit region w s) := isDone_done _
theorem execReset_done (region : Fin 32) (w : DwWrite) (s : State) : IsDone (execReset region w s) := isDone_done _
theorem execRelease_done (region : Fin 32) (w : DwWrite) (s : State) : IsDone (execRelease region w s) := isDone_done _
theorem execRgnRectWrite_done (region : Fin 32) (w : DwWrite) (s : State) : IsDone (execRgnRectWrite region w s) := isDone_done _
theorem execRegionFault_done (region : Fin 32) (f : FaultReport) (more : List FaultReport) (s : State)
    : IsDone (execRegionFault region f more s) := by
  unfold execRegionFault
  repeat' (first | exact isDone_done _ | exact isDone_issue .. | exact isDone_deliver .. | split | extract_lets)
theorem execFaultStopEnd_done (region : Fin 32) (s : State) : IsDone (execFaultStopEnd region s) := by
  unfold execFaultStopEnd
  repeat' (first | exact isDone_done _ | exact isDone_issue .. | exact isDone_deliver .. | split | extract_lets)
theorem execRegionResetDrainEnd_done (region : Fin 32) (s : State) : IsDone (execRegionResetDrainEnd region s) := by
  unfold execRegionResetDrainEnd
  repeat' (first | exact isDone_done _ | exact isDone_issue .. | exact isDone_deliver .. | split | extract_lets)
theorem execRegionResetEnd_done (region : Fin 32) (s : State) : IsDone (execRegionResetEnd region s) := by
  unfold execRegionResetEnd
  repeat' (first | exact isDone_done _ | exact isDone_issue .. | exact isDone_deliver .. | split | extract_lets)
theorem execReleaseClearEnd_done (region : Fin 32) (s : State) : IsDone (execReleaseClearEnd region s) := by
  unfold execReleaseClearEnd
  repeat' (first | exact isDone_done _ | exact isDone_issue .. | exact isDone_deliver .. | split | extract_lets)
theorem execFrameStart_done (region : Fin 32) (s : State) : IsDone (execFrameStart region s) := by
  unfold execFrameStart
  repeat' (first | exact isDone_done _ | exact isDone_issue .. | exact isDone_deliver .. | split | extract_lets)
theorem execFrameEnd_done (region : Fin 32) (s : State) : IsDone (execFrameEnd region s) := by
  unfold execFrameEnd
  repeat' (first | exact isDone_done _ | exact isDone_issue .. | exact isDone_deliver .. | split | extract_lets)
theorem execKeyValidWrite_done (w : DwWrite) (s : State) : IsDone (execKeyValidWrite w s) := isDone_done _
theorem execRouteQuiesceEnd_done (region : Fin 32) (s : State) : IsDone (execRouteQuiesceEnd region s) := by
  unfold execRouteQuiesceEnd
  repeat' (first | exact isDone_done _ | exact isDone_issue .. | exact isDone_deliver .. | split | extract_lets)
theorem execDynRead_done (id : Nat) (e : MemError) (s : State) : IsDone (execDynRead id e s) := isDone_deliver ..
theorem execDynWrite_done (id : Nat) (e : MemError) (s : State) : IsDone (execDynWrite id e s) := by
  unfold execDynWrite
  repeat' (first | exact isDone_done _ | exact isDone_issue .. | exact isDone_deliver .. | split | extract_lets)
theorem execDynAtomic_done (id : Nat) (e : MemError) (s : State) : IsDone (execDynAtomic id e s) := isDone_deliver ..
theorem execDynMessage_done (id : Nat) (s : State) : IsDone (execDynMessage id s) := isDone_deliver ..
theorem execDynData_done (id : Nat) (parity : List Nat) (s : State) : IsDone (execDynData id parity s) := isDone_deliver ..
theorem execDynAck_done (id : Nat) (s : State) : IsDone (execDynAck id s) := isDone_deliver ..
theorem execDynError_done (id : Nat) (s : State) : IsDone (execDynError id s) := isDone_deliver ..
theorem execEdgeRingTransfer_done (id : Nat) (headerError : Bool) (s : State)
    : IsDone (execEdgeRingTransfer id headerError s) := by
  unfold execEdgeRingTransfer
  repeat' (first | exact isDone_done _ | exact isDone_issue .. | exact isDone_deliver .. | split | extract_lets)
theorem execHalt_done (core : Fin 1024) (way : CtlWay) (s : State) : IsDone (execHalt core way s) := by
  unfold execHalt
  repeat' (first | exact isDone_done _ | exact isDone_issue .. | exact isDone_deliver .. | split | extract_lets)
theorem execNotifyDelivery_done (id : Nat) (way : CtlWay) (s : State)
    : IsDone (execNotifyDelivery id way s) := by
  unfold execNotifyDelivery
  repeat' (first | exact isDone_done _ | exact isDone_issue .. | exact isDone_deliver .. | split | extract_lets)
theorem execCreditReturn_done (id : Nat) (way : CtlWay) (s : State) : IsDone (execCreditReturn id way s) := by
  unfold execCreditReturn
  repeat' (first | exact isDone_done _ | exact isDone_issue .. | exact isDone_deliver .. | split | extract_lets)
theorem execCombiningAccept_done (slice : Fin 64) (s : State) : IsDone (execCombiningAccept slice s) := by
  unfold execCombiningAccept
  repeat' (first | exact isDone_done _ | exact isDone_issue .. | exact isDone_deliver .. | split | extract_lets)
theorem execCombiningDelivery_done (slice : Fin 64) (queue : Fin 16) (s : State)
    : IsDone (execCombiningDelivery slice queue s) := by
  unfold execCombiningDelivery
  repeat' (first | exact isDone_done _ | exact isDone_issue .. | exact isDone_deliver .. | split | extract_lets)
theorem execBorrowRequest_done (slice : Fin 64) (line : BitVec 64) (proxy : Fin 64) (s : State)
    : IsDone (execBorrowRequest slice line proxy s) := by
  unfold execBorrowRequest
  repeat' (first | exact isDone_done _ | split | (extract_lets; clear_value *))
theorem execRecall_done (slice : Fin 64) (line : BitVec 64) (s : State) : IsDone (execRecall slice line s) := by
  unfold execRecall
  repeat' (first | exact isDone_done _ | exact isDone_issue .. | exact isDone_deliver .. | split | extract_lets)
theorem execLineReturn_done (slice : Fin 64) (id : Nat) (s : State) : IsDone (execLineReturn slice id s) := isDone_deliver ..
theorem execHbmGrant_done (channel : Fin 128) (s : State) : IsDone (execHbmGrant channel s) := by
  unfold execHbmGrant
  repeat' (first | exact isDone_done _ | exact isDone_issue .. | exact isDone_deliver .. | split | extract_lets)
theorem execHbmReadComplete_done (id : Nat) (s : State) : IsDone (execHbmReadComplete id s) := by
  unfold execHbmReadComplete
  repeat' (first | exact isDone_done _ | exact isDone_issue .. | exact isDone_deliver .. | split | extract_lets)
theorem execHbmRefresh_done (channel : Fin 128) (bank : Fin 64) (s : State)
    : IsDone (execHbmRefresh channel bank s) := isDone_done _
theorem execBudgetWindow_done (s : State) : IsDone (execBudgetWindow s) := by
  unfold execBudgetWindow
  repeat' (first | exact isDone_done _ | exact isDone_issue .. | exact isDone_deliver .. | split | extract_lets)
theorem execAgePromotion_done (who : Aging) (s : State) : IsDone (execAgePromotion who s) := by
  unfold execAgePromotion
  repeat' (first | exact isDone_done _ | exact isDone_issue .. | exact isDone_deliver .. | split | extract_lets)
theorem execHbmWatermarkWrite_done (stack : Fin 8) (w : DwWrite) (s : State)
    : IsDone (execHbmWatermarkWrite stack w s) := isDone_done _
theorem execScrubStep_done (slice : Fin 64) (hbm : Bool) (e : MemError) (s : State)
    : IsDone (execScrubStep slice hbm e s) := by
  unfold execScrubStep
  repeat' (first | exact isDone_done _ | exact isDone_issue .. | exact isDone_deliver .. | split | extract_lets)
theorem execBushelLeak_done (slice : Fin 64) (s : State) : IsDone (execBushelLeak slice s) := isDone_done _
theorem execLinkEnable_done (port : Fin 4) (w : DwWrite) (s : State) : IsDone (execLinkEnable port w s) := isDone_done _
theorem execLinkTrainingComplete_done (port : Fin 4) (r : TrainResult) (s : State)
    : IsDone (execLinkTrainingComplete port r s) := by
  unfold execLinkTrainingComplete
  repeat' (first | exact isDone_done _ | exact isDone_issue .. | exact isDone_deliver .. | split | extract_lets)
theorem execLinkTrainingFail_done (port : Fin 4) (s : State) : IsDone (execLinkTrainingFail port s) := by
  unfold execLinkTrainingFail
  repeat' (first | exact isDone_done _ | exact isDone_issue .. | exact isDone_deliver .. | split | extract_lets)
theorem execLinkTrainingRetry_done (port : Fin 4) (s : State) : IsDone (execLinkTrainingRetry port s) := by
  unfold execLinkTrainingRetry
  repeat' (first | exact isDone_done _ | exact isDone_issue .. | exact isDone_deliver .. | split | extract_lets)
theorem execLinkRetrain_done (port : Fin 4) (lanes : BitVec 16) (s : State) : IsDone (execLinkRetrain port lanes s) := isDone_done _
theorem execLaneErrorWindow_done (port : Fin 4) (lanes : List (BitVec 16)) (s : State)
    : IsDone (execLaneErrorWindow port lanes s) := by
  unfold execLaneErrorWindow
  repeat' (first | exact isDone_done _ | exact isDone_issue .. | exact isDone_deliver .. | split | extract_lets)
theorem execLinkRetrainComplete_done (port : Fin 4) (lanesGood : BitVec 16) (ok : Bool) (s : State)
    : IsDone (execLinkRetrainComplete port lanesGood ok s) := by
  unfold execLinkRetrainComplete
  repeat' (first | exact isDone_done _ | exact isDone_issue .. | exact isDone_deliver .. | split | extract_lets)
theorem execLinkDisable_done (port : Fin 4) (w : DwWrite) (s : State) : IsDone (execLinkDisable port w s) := isDone_done _
theorem execLinkDisableComplete_done (port : Fin 4) (s : State) : IsDone (execLinkDisableComplete port s) := by
  unfold execLinkDisableComplete
  repeat' (first | exact isDone_done _ | exact isDone_issue .. | exact isDone_deliver .. | split | extract_lets)
theorem execPortAssign_done (port : Fin 4) (w : DwWrite) (s : State) : IsDone (execPortAssign port w s) := isDone_done _
theorem execPortUnassign_done (port : Fin 4) (w : DwWrite) (s : State) : IsDone (execPortUnassign port w s) := isDone_done _
theorem execHlModuleWrite_done (w : DwWrite) (s : State) : IsDone (execHlModuleWrite w s) := isDone_done _
theorem execFlitReceive_done (port : Fin 4) (f : Flit) (s : State) : IsDone (execFlitReceive port f s) := by
  unfold execFlitReceive
  repeat' (first | exact isDone_done _ | exact isDone_issue .. | exact isDone_deliver .. | split | extract_lets)
theorem execReplayTimeout_done (port : Fin 4) (s : State) : IsDone (execReplayTimeout port s) := by
  unfold execReplayTimeout
  repeat' (first | exact isDone_done _ | exact isDone_issue .. | exact isDone_deliver .. | split | extract_lets)
theorem execLinkRead_done (port : Fin 4) (p : LinkPacket) (s : State) : IsDone (execLinkRead port p s) := isDone_done _
theorem execLinkWrite_done (port : Fin 4) (p : LinkPacket) (s : State) : IsDone (execLinkWrite port p s) := isDone_done _
theorem execLinkAtomic_done (port : Fin 4) (p : LinkPacket) (s : State) : IsDone (execLinkAtomic port p s) := isDone_done _
theorem execLinkMessage_done (port : Fin 4) (p : LinkPacket) (s : State) : IsDone (execLinkMessage port p s) := by
  unfold execLinkMessage
  repeat' (first | exact isDone_done _ | exact isDone_issue .. | exact isDone_deliver .. | split | extract_lets)
theorem execLinkData_done (port : Fin 4) (p : LinkPacket) (s : State) : IsDone (execLinkData port p s) := isDone_done _
theorem execLinkAck_done (port : Fin 4) (p : LinkPacket) (s : State) : IsDone (execLinkAck port p s) := isDone_done _
theorem execLinkError_done (port : Fin 4) (p : LinkPacket) (s : State) : IsDone (execLinkError port p s) := by
  unfold execLinkError
  repeat' (first | exact isDone_done _ | exact isDone_issue .. | exact isDone_deliver .. | split | extract_lets)
theorem execLinkCredit_done (port : Fin 4) (p : LinkPacket) (s : State) : IsDone (execLinkCredit port p s) := by
  unfold execLinkCredit
  repeat' (first | exact isDone_done _ | exact isDone_issue .. | exact isDone_deliver .. | split | extract_lets)
theorem execVesperRestart_done (cause : RestartCause) (s : State) : IsDone (execVesperRestart cause s) := by
  unfold execVesperRestart
  repeat' (first | exact isDone_done _ | exact isDone_issue .. | exact isDone_deliver .. | split | extract_lets)
theorem execVesperRestartComplete_done (s : State) : IsDone (execVesperRestartComplete s) := by
  unfold execVesperRestartComplete
  repeat' (first | exact isDone_done _ | exact isDone_issue .. | exact isDone_deliver .. | split | extract_lets)
theorem execAlmanacFlashWrite_done (s : State) : IsDone (execAlmanacFlashWrite s) := by
  unfold execAlmanacFlashWrite
  repeat' (first | exact isDone_done _ | exact isDone_issue .. | exact isDone_deliver .. | split | extract_lets)
theorem execMailboxSubmit_done (w : DwWrite) (s : State) : IsDone (execMailboxSubmit w s) := isDone_done _
theorem execMailboxDoneClear_done (w : DwWrite) (s : State) : IsDone (execMailboxDoneClear w s) := isDone_done _
theorem execGetInfo_done (s : State) : IsDone (execGetInfo s) := isDone_mail ..
theorem execGetTelemetryModule_done (s : State) : IsDone (execGetTelemetryModule s) := isDone_mail ..
theorem execGetTelemetryRegion_done (s : State) : IsDone (execGetTelemetryRegion s) := isDone_mail ..
theorem execGetCalibration_done (s : State) : IsDone (execGetCalibration s) := isDone_mail ..
theorem execGetUnitRecord_done (s : State) : IsDone (execGetUnitRecord s) := isDone_mail ..
theorem execAlmanacRead_done (s : State) : IsDone (execAlmanacRead s) := isDone_mail ..
theorem execAlmanacRelease_done (s : State) : IsDone (execAlmanacRelease s) := isDone_mail ..
theorem execSetPortConfig_done (s : State) : IsDone (execSetPortConfig s) := isDone_mail ..
theorem execFenceUnit_done (s : State) : IsDone (execFenceUnit s) := isDone_mail ..
theorem execReleaseUnit_done (s : State) : IsDone (execReleaseUnit s) := isDone_mail ..
theorem execCapture_done (s : State) : IsDone (execCapture s) := isDone_mail ..
theorem execBscanArm_done (s : State) : IsDone (execBscanArm s) := isDone_mail ..
theorem execBscanDisarm_done (s : State) : IsDone (execBscanDisarm s) := isDone_mail ..
theorem execServiceClearComplete_done (tile : Fin 192) (s : State) : IsDone (execServiceClearComplete tile s) := by
  unfold execServiceClearComplete
  repeat' (first | exact isDone_done _ | exact isDone_issue .. | exact isDone_deliver .. | split | extract_lets)
theorem execSetEndpointId_done (e : Endpoint) (eid : BitVec 8) (s : State) : IsDone (execSetEndpointId e eid s) := isDone_receive ..
theorem execGetEndpointId_done (e : Endpoint) (s : State) : IsDone (execGetEndpointId e s) := isDone_receive ..
theorem execGetEndpointUuid_done (e : Endpoint) (s : State) : IsDone (execGetEndpointUuid e s) := isDone_receive ..
theorem execGetMctpVersionSupport_done (e : Endpoint) (msgType : BitVec 8) (s : State)
    : IsDone (execGetMctpVersionSupport e msgType s) := isDone_receive ..
theorem execGetMessageTypeSupport_done (e : Endpoint) (s : State) : IsDone (execGetMessageTypeSupport e s) := isDone_receive ..
theorem execGettid_done (e : Endpoint) (s : State) : IsDone (execGettid e s) := isDone_receive ..
theorem execSettid_done (e : Endpoint) (tid : BitVec 8) (s : State) : IsDone (execSettid e tid s) := isDone_receive ..
theorem execGetpldmversion_done (e : Endpoint) (pldmType : BitVec 8) (s : State)
    : IsDone (execGetpldmversion e pldmType s) := isDone_receive ..
theorem execGetpldmtypes_done (e : Endpoint) (s : State) : IsDone (execGetpldmtypes e s) := isDone_receive ..
theorem execGetpldmcommands_done (e : Endpoint) (pldmType : BitVec 8) (s : State)
    : IsDone (execGetpldmcommands e pldmType s) := isDone_receive ..
theorem execSensorReading_done (e : Endpoint) (sensor : Sensor) (s : State) : IsDone (execSensorReading e sensor s) := isDone_receive ..
theorem execSeteventreceiver_done (e : Endpoint) (receiver : BitVec 8) (s : State)
    : IsDone (execSeteventreceiver e receiver s) := isDone_receive ..
theorem execModuleCap_done (e : Endpoint) (watts : Nat) (s : State) : IsDone (execModuleCap e watts s) := isDone_receive ..
theorem execRegionCap_done (e : Endpoint) (region : Fin 32) (watts : Nat) (s : State)
    : IsDone (execRegionCap e region watts s) := isDone_receive ..
theorem execFacilityRelease_done (e : Endpoint) (s : State) : IsDone (execFacilityRelease e s) := isDone_receive ..
theorem execUnitService_done (e : Endpoint) (value : BitVec 32) (s : State) : IsDone (execUnitService e value s) := isDone_receive ..
theorem execCaptureEffecter_done (e : Endpoint) (s : State) : IsDone (execCaptureEffecter e s) := isDone_receive ..
theorem execRequestupdate_done (e : Endpoint) (s : State) : IsDone (execRequestupdate e s) := isDone_receive ..
theorem execFirmwareImageVerify_done (image : FwImage) (s : State) : IsDone (execFirmwareImageVerify image s) := by
  unfold execFirmwareImageVerify
  repeat' (first | exact isDone_done _ | exact isDone_issue .. | exact isDone_deliver .. | split | extract_lets)
theorem execActivatefirmware_done (e : Endpoint) (selfContained : Bool) (s : State)
    : IsDone (execActivatefirmware e selfContained s) := isDone_receive ..
theorem execExtest_done (s : State) : IsDone (execExtest s) := isDone_done _
theorem execSamplePreload_done (cells : BitVec 11) (s : State) : IsDone (execSamplePreload cells s) := isDone_done _
theorem execClamp_done (s : State) : IsDone (execClamp s) := isDone_done _
theorem execHighz_done (s : State) : IsDone (execHighz s) := isDone_done _
theorem execBypass_done (code : BitVec 8) (s : State) : IsDone (execBypass code s) := by
  unfold execBypass
  repeat' (first | exact isDone_done _ | exact isDone_issue .. | exact isDone_deliver .. | split | extract_lets)
theorem execNop_done (g : Fin 1024) (o : OpFields) (s : State) : IsDone (execNop g o s) := isDone_issue ..
theorem execMovi_done (g : Fin 1024) (o : OpFields) (s : State) : IsDone (execMovi g o s) := isDone_issue ..
theorem execAlu_done (g : Fin 1024) (o : OpFields) (s : State) : IsDone (execAlu g o s) := isDone_issue ..
theorem execAlui_done (g : Fin 1024) (o : OpFields) (s : State) : IsDone (execAlui g o s) := isDone_issue ..
theorem execRdid_done (g : Fin 1024) (o : OpFields) (s : State) : IsDone (execRdid g o s) := isDone_issue ..
theorem execBr_done (g : Fin 1024) (o : OpFields) (s : State) : IsDone (execBr g o s) := by
  unfold execBr
  repeat' (first | exact isDone_done _ | exact isDone_issue .. | exact isDone_deliver .. | split | extract_lets)
theorem execJr_done (g : Fin 1024) (o : OpFields) (s : State) : IsDone (execJr g o s) := isDone_issue ..
theorem execLoop_done (g : Fin 1024) (o : OpFields) (s : State) : IsDone (execLoop g o s) := isDone_issue ..
theorem execSeed_done (g : Fin 1024) (o : OpFields) (s : State) : IsDone (execSeed g o s) := isDone_issue ..
theorem execEnd_done (g : Fin 1024) (o : OpFields) (s : State) : IsDone (execEnd g o s) := isDone_issue ..
theorem execWaitc_done (g : Fin 1024) (o : OpFields) (s : State) : IsDone (execWaitc g o s) := isDone_issue ..
theorem execWaitf_done (g : Fin 1024) (o : OpFields) (s : State) : IsDone (execWaitf g o s) := isDone_issue ..
theorem execNotify_done (g : Fin 1024) (o : OpFields) (s : State) : IsDone (execNotify g o s) := isDone_issue ..
theorem execWaitn_done (g : Fin 1024) (o : OpFields) (s : State) : IsDone (execWaitn g o s) := by
  unfold execWaitn
  repeat' (first | exact isDone_done _ | exact isDone_issue .. | exact isDone_deliver .. | split | extract_lets)
theorem execLd_done (g : Fin 1024) (o : OpFields) (e : MemError) (s : State) : IsDone (execLd g o e s) := by
  unfold execLd
  repeat' (first | exact isDone_done _ | exact isDone_issue .. | exact isDone_deliver .. | split | extract_lets)
theorem execSt_done (g : Fin 1024) (o : OpFields) (s : State) : IsDone (execSt g o s) := by
  unfold execSt
  repeat' (first | exact isDone_done _ | exact isDone_issue .. | exact isDone_deliver .. | split | extract_lets)
theorem execLdg_done (g : Fin 1024) (o : OpFields) (s : State) : IsDone (execLdg g o s) := isDone_issue ..
theorem execStg_done (g : Fin 1024) (o : OpFields) (s : State) : IsDone (execStg g o s) := isDone_issue ..
theorem execDmag_done (g : Fin 1024) (o : OpFields) (s : State) : IsDone (execDmag g o s) := isDone_issue ..
theorem execDmap_done (g : Fin 1024) (o : OpFields) (s : State) : IsDone (execDmap g o s) := isDone_issue ..
theorem execDmaf_done (g : Fin 1024) (o : OpFields) (s : State) : IsDone (execDmaf g o s) := isDone_issue ..
theorem execDmaTransferComplete_done (cluster : Fin 128) (slot : Fin 16) (s : State)
    : IsDone (execDmaTransferComplete cluster slot s) := by
  unfold execDmaTransferComplete
  repeat' (first | exact isDone_done _ | exact isDone_issue .. | exact isDone_deliver .. | split | extract_lets)
theorem execTfill_done (g : Fin 1024) (o : OpFields) (s : State) : IsDone (execTfill g o s) := isDone_issue ..
theorem execMma_done (g : Fin 1024) (o : OpFields) (s : State) : IsDone (execMma g o s) := by
  unfold execMma
  repeat' (first | exact isDone_done _ | exact isDone_issue .. | exact isDone_deliver .. | split | extract_lets)
theorem execAccld_done (g : Fin 1024) (o : OpFields) (s : State) : IsDone (execAccld g o s) := by
  unfold execAccld
  repeat' (first | exact isDone_done _ | exact isDone_issue .. | exact isDone_deliver .. | split | extract_lets)
theorem execAccst_done (g : Fin 1024) (o : OpFields) (s : State) : IsDone (execAccst g o s) := by
  unfold execAccst
  repeat' (first | exact isDone_done _ | exact isDone_issue .. | exact isDone_deliver .. | split | extract_lets)
theorem execVbin_done (g : Fin 1024) (o : OpFields) (s : State) : IsDone (execVbin g o s) := by
  unfold execVbin
  repeat' (first | exact isDone_done _ | exact isDone_issue .. | exact isDone_deliver .. | split | extract_lets)
theorem execVun_done (g : Fin 1024) (o : OpFields) (s : State) : IsDone (execVun g o s) := by
  unfold execVun
  repeat' (first | exact isDone_done _ | exact isDone_issue .. | exact isDone_deliver .. | split | extract_lets)
theorem execVscale_done (g : Fin 1024) (o : OpFields) (s : State) : IsDone (execVscale g o s) := isDone_issue ..
theorem execVfma_done (g : Fin 1024) (o : OpFields) (s : State) : IsDone (execVfma g o s) := isDone_issue ..
theorem execVred_done (g : Fin 1024) (o : OpFields) (s : State) : IsDone (execVred g o s) := by
  unfold execVred
  repeat' (first | exact isDone_done _ | exact isDone_issue .. | exact isDone_deliver .. | split | extract_lets)
theorem execVcvt_done (g : Fin 1024) (o : OpFields) (s : State) : IsDone (execVcvt g o s) := isDone_issue ..
theorem execVcmp_done (g : Fin 1024) (o : OpFields) (s : State) : IsDone (execVcmp g o s) := by
  unfold execVcmp
  repeat' (first | exact isDone_done _ | exact isDone_issue .. | exact isDone_deliver .. | split | extract_lets)
theorem execVsel_done (g : Fin 1024) (o : OpFields) (s : State) : IsDone (execVsel g o s) := isDone_issue ..
theorem execSend_done (g : Fin 1024) (o : OpFields) (s : State) : IsDone (execSend g o s) := by
  unfold execSend
  repeat' (first | exact isDone_done _ | exact isDone_issue .. | exact isDone_deliver .. | split | extract_lets)
theorem execQrd_done (g : Fin 1024) (o : OpFields) (s : State) : IsDone (execQrd g o s) := by
  unfold execQrd
  repeat' (first | exact isDone_done _ | exact isDone_issue .. | exact isDone_deliver .. | split | extract_lets)
theorem execAcq_done (g : Fin 1024) (o : OpFields) (s : State) : IsDone (execAcq g o s) := isDone_issue ..
theorem execRel_done (g : Fin 1024) (o : OpFields) (s : State) : IsDone (execRel g o s) := isDone_issue ..
theorem execFence_done (g : Fin 1024) (o : OpFields) (s : State) : IsDone (execFence g o s) := isDone_issue ..
theorem execAtom_done (g : Fin 1024) (o : OpFields) (s : State) : IsDone (execAtom g o s) := by
  unfold execAtom
  repeat' (first | exact isDone_done _ | exact isDone_issue .. | exact isDone_deliver .. | split | extract_lets)
theorem execTatom_done (g : Fin 1024) (o : OpFields) (s : State) : IsDone (execTatom g o s) := isDone_issue ..
theorem execGather_done (g : Fin 1024) (o : OpFields) (s : State) : IsDone (execGather g o s) := isDone_issue ..
theorem execScatter_done (g : Fin 1024) (o : OpFields) (s : State) : IsDone (execScatter g o s) := isDone_issue ..
theorem execUndefinedOpcode_done (g : Fin 1024) (s : State) : IsDone (execUndefinedOpcode g s) := by
  unfold execUndefinedOpcode
  repeat' (first | exact isDone_done _ | exact isDone_issue .. | exact isDone_deliver .. | split | extract_lets)
theorem execPllLossOfLock_done (pll : Pll) (s : State) : IsDone (execPllLossOfLock pll s) := by
  unfold execPllLossOfLock
  repeat' (first | exact isDone_done _ | exact isDone_issue .. | exact isDone_deliver .. | split | extract_lets)
theorem execConfigurationWrite_done (w : CfgWrite) (s : State) : IsDone (execConfigurationWrite w s) := by
  unfold execConfigurationWrite
  repeat' (first | exact isDone_done _ | exact isDone_issue .. | exact isDone_deliver .. | split | extract_lets)
theorem execPlatformEventAcknowledgement_done (e : Endpoint) (id : Nat) (s : State)
    : IsDone (execPlatformEventAcknowledgement e id s) := by
  unfold execPlatformEventAcknowledgement
  repeat' (first | exact isDone_done _ | exact isDone_issue .. | exact isDone_deliver .. | split | extract_lets)
theorem execMctpVendorMessage_done (e : Endpoint) (s : State) : IsDone (execMctpVendorMessage e s) := by
  unfold execMctpVendorMessage
  repeat' (first | exact isDone_done _ | exact isDone_issue .. | exact isDone_deliver .. | split | extract_lets)

/-- Every command completes. -/
theorem exec_done (i : Instr) (s : State) : IsDone (exec i s) := by
  cases i with
  | registerWrite => exact execRegisterWrite_done ..
  | unsupportedRequest => exact execUnsupportedRequest_done ..
  | wakeHint => exact execWakeHint_done ..
  | sriovCfgWriteIgnored => exact execSriovCfgWriteIgnored_done ..
  | vfEnableClear => exact execVfEnableClear_done ..
  | pfD3hotEntry => exact execPfD3hotEntry_done ..
  | pfD0Entry => exact execPfD0Entry_done ..
  | vfBmeChange => exact execVfBmeChange_done ..
  | intPfEnableWrite => exact execIntPfEnableWrite_done ..
  | msixTableWrite => exact execMsixTableWrite_done ..
  | msixPendingSend => exact execMsixPendingSend_done ..
  | pcieLinkTrained => exact execPcieLinkTrained_done ..
  | hostDmaErrorResponse => exact execHostDmaErrorResponse_done ..
  | hostReadTimeout => exact execHostReadTimeout_done ..
  | perstAssert => exact execPerstAssert_done ..
  | perstDeassert => exact execPerstDeassert_done ..
  | hotReset => exact execHotReset_done ..
  | flrPf => exact execFlrPf_done ..
  | flrVf => exact execFlrVf_done ..
  | warm => exact execWarm_done ..
  | cold => exact execCold_done ..
  | warmKeepHbmUpdate => exact execWarmKeepHbmUpdate_done ..
  | warmReset => exact execWarmReset_done ..
  | warmResetComplete => exact execWarmResetComplete_done ..
  | converterStart => exact execConverterStart_done ..
  | bringUpComplete => exact execBringUpComplete_done ..
  | powerDown => exact execPowerDown_done ..
  | supplySample => exact execSupplySample_done ..
  | overvoltageTrip => exact execOvervoltageTrip_done ..
  | undervoltageComparator => exact execUndervoltageComparator_done ..
  | meterSelfCheck => exact execMeterSelfCheck_done ..
  | lastGaspComplete => exact execLastGaspComplete_done ..
  | junctionSensorRead => exact execJunctionSensorRead_done ..
  | hbmTempReport => exact execHbmTempReport_done ..
  | fhaltSample => exact execFhaltSample_done ..
  | haltDrainComplete => exact execHaltDrainComplete_done ..
  | fhaltRelease => exact execFhaltRelease_done ..
  | m3ReleaseComplete => exact execM3ReleaseComplete_done ..
  | shed => exact execShed_done ..
  | unshed => exact execUnshed_done ..
  | forceShedWrite => exact execForceShedWrite_done ..
  | ceilingMultWrite => exact execCeilingMultWrite_done ..
  | slewComplete => exact execSlewComplete_done ..
  | aonTrimWindow => exact execAonTrimWindow_done ..
  | xtal32Stop => exact execXtal32Stop_done ..
  | xrefQualifyTimeout => exact execXrefQualifyTimeout_done ..
  | tilePllUnlock => exact execTilePllUnlock_done ..
  | tilePllRelock => exact execTilePllRelock_done ..
  | vesperTick => exact execVesperTick_done ..
  | m2EntryComplete => exact execM2EntryComplete_done ..
  | m2PollExcursion => exact execM2PollExcursion_done ..
  | wakeCause => exact execWakeCause_done ..
  | wakeComplete => exact execWakeComplete_done ..
  | islandIdleGate => exact execIslandIdleGate_done ..
  | islandUngateComplete => exact execIslandUngateComplete_done ..
  | imageRebuild => exact execImageRebuild_done ..
  | sliceRetentionEntry => exact execSliceRetentionEntry_done ..
  | sliceRetentionExit => exact execSliceRetentionExit_done ..
  | ringWatchPoll => exact execRingWatchPoll_done ..
  | heldRecordsFlush => exact execHeldRecordsFlush_done ..
  | descriptorFetch => exact execDescriptorFetch_done ..
  | descriptorComplete => exact execDescriptorComplete_done ..
  | nopDescriptor => exact execNopDescriptor_done ..
  | copy => exact execCopy_done ..
  | fill => exact execFill_done ..
  | loadSchedule => exact execLoadSchedule_done ..
  | launch => exact execLaunch_done ..
  | gatherCheckComplete => exact execGatherCheckComplete_done ..
  | launchEnd => exact execLaunchEnd_done ..
  | launchWatchdog => exact execLaunchWatchdog_done ..
  | wait => exact execWait_done ..
  | waitTimeout => exact execWaitTimeout_done ..
  | fenceDescriptor => exact execFenceDescriptor_done ..
  | barrier => exact execBarrier_done ..
  | barrierTimeout => exact execBarrierTimeout_done ..
  | signal => exact execSignal_done ..
  | query => exact execQuery_done ..
  | telemetrySnapshot => exact execTelemetrySnapshot_done ..
  | ringEnable => exact execRingEnable_done ..
  | ringDisable => exact execRingDisable_done ..
  | cqEnable => exact execCqEnable_done ..
  | cqDisable => exact execCqDisable_done ..
  | ringStoppingEnd => exact execRingStoppingEnd_done ..
  | configure => exact execConfigure_done ..
  | commit => exact execCommit_done ..
  | reset => exact execReset_done ..
  | release => exact execRelease_done ..
  | rgnRectWrite => exact execRgnRectWrite_done ..
  | regionFault => exact execRegionFault_done ..
  | faultStopEnd => exact execFaultStopEnd_done ..
  | regionResetDrainEnd => exact execRegionResetDrainEnd_done ..
  | regionResetEnd => exact execRegionResetEnd_done ..
  | releaseClearEnd => exact execReleaseClearEnd_done ..
  | frameStart => exact execFrameStart_done ..
  | frameEnd => exact execFrameEnd_done ..
  | keyValidWrite => exact execKeyValidWrite_done ..
  | routeQuiesceEnd => exact execRouteQuiesceEnd_done ..
  | dynRead => exact execDynRead_done ..
  | dynWrite => exact execDynWrite_done ..
  | dynAtomic => exact execDynAtomic_done ..
  | dynMessage => exact execDynMessage_done ..
  | dynData => exact execDynData_done ..
  | dynAck => exact execDynAck_done ..
  | dynError => exact execDynError_done ..
  | edgeRingTransfer => exact execEdgeRingTransfer_done ..
  | halt => exact execHalt_done ..
  | notifyDelivery => exact execNotifyDelivery_done ..
  | creditReturn => exact execCreditReturn_done ..
  | combiningAccept => exact execCombiningAccept_done ..
  | combiningDelivery => exact execCombiningDelivery_done ..
  | borrowRequest => exact execBorrowRequest_done ..
  | recallLine => exact execRecall_done ..
  | lineReturn => exact execLineReturn_done ..
  | hbmGrant => exact execHbmGrant_done ..
  | hbmReadComplete => exact execHbmReadComplete_done ..
  | hbmRefresh c b => exact execHbmRefresh_done c b s
  | budgetWindow => exact execBudgetWindow_done ..
  | agePromotion => exact execAgePromotion_done ..
  | hbmWatermarkWrite => exact execHbmWatermarkWrite_done ..
  | scrubStep => exact execScrubStep_done ..
  | bushelLeak => exact execBushelLeak_done ..
  | linkEnable => exact execLinkEnable_done ..
  | linkTrainingComplete => exact execLinkTrainingComplete_done ..
  | linkTrainingFail => exact execLinkTrainingFail_done ..
  | linkTrainingRetry => exact execLinkTrainingRetry_done ..
  | linkRetrain => exact execLinkRetrain_done ..
  | laneErrorWindow => exact execLaneErrorWindow_done ..
  | linkRetrainComplete => exact execLinkRetrainComplete_done ..
  | linkDisable => exact execLinkDisable_done ..
  | linkDisableComplete => exact execLinkDisableComplete_done ..
  | portAssign => exact execPortAssign_done ..
  | portUnassign => exact execPortUnassign_done ..
  | hlModuleWrite => exact execHlModuleWrite_done ..
  | flitReceive => exact execFlitReceive_done ..
  | replayTimeout => exact execReplayTimeout_done ..
  | linkRead => exact execLinkRead_done ..
  | linkWrite => exact execLinkWrite_done ..
  | linkAtomic => exact execLinkAtomic_done ..
  | linkMessage => exact execLinkMessage_done ..
  | linkData => exact execLinkData_done ..
  | linkAck => exact execLinkAck_done ..
  | linkError => exact execLinkError_done ..
  | linkCredit => exact execLinkCredit_done ..
  | vesperRestart => exact execVesperRestart_done ..
  | vesperRestartComplete => exact execVesperRestartComplete_done ..
  | almanacFlashWrite => exact execAlmanacFlashWrite_done ..
  | mailboxSubmit => exact execMailboxSubmit_done ..
  | mailboxDoneClear => exact execMailboxDoneClear_done ..
  | getInfo => exact execGetInfo_done ..
  | getTelemetryModule => exact execGetTelemetryModule_done ..
  | getTelemetryRegion => exact execGetTelemetryRegion_done ..
  | getCalibration => exact execGetCalibration_done ..
  | getUnitRecord => exact execGetUnitRecord_done ..
  | almanacRead => exact execAlmanacRead_done ..
  | almanacRelease => exact execAlmanacRelease_done ..
  | setPortConfig => exact execSetPortConfig_done ..
  | fenceUnit => exact execFenceUnit_done ..
  | releaseUnit => exact execReleaseUnit_done ..
  | capture => exact execCapture_done ..
  | bscanArm => exact execBscanArm_done ..
  | bscanDisarm => exact execBscanDisarm_done ..
  | serviceClearComplete => exact execServiceClearComplete_done ..
  | setEndpointId => exact execSetEndpointId_done ..
  | getEndpointId => exact execGetEndpointId_done ..
  | getEndpointUuid => exact execGetEndpointUuid_done ..
  | getMctpVersionSupport => exact execGetMctpVersionSupport_done ..
  | getMessageTypeSupport => exact execGetMessageTypeSupport_done ..
  | gettid => exact execGettid_done ..
  | settid => exact execSettid_done ..
  | getpldmversion => exact execGetpldmversion_done ..
  | getpldmtypes => exact execGetpldmtypes_done ..
  | getpldmcommands => exact execGetpldmcommands_done ..
  | sensorReading => exact execSensorReading_done ..
  | seteventreceiver => exact execSeteventreceiver_done ..
  | moduleCap => exact execModuleCap_done ..
  | regionCap => exact execRegionCap_done ..
  | facilityRelease => exact execFacilityRelease_done ..
  | unitService => exact execUnitService_done ..
  | captureEffecter => exact execCaptureEffecter_done ..
  | requestupdate => exact execRequestupdate_done ..
  | firmwareImageVerify => exact execFirmwareImageVerify_done ..
  | activatefirmware => exact execActivatefirmware_done ..
  | extest => exact execExtest_done ..
  | samplePreload => exact execSamplePreload_done ..
  | clamp => exact execClamp_done ..
  | highz => exact execHighz_done ..
  | bypass => exact execBypass_done ..
  | nop => exact execNop_done ..
  | movi => exact execMovi_done ..
  | alu => exact execAlu_done ..
  | alui => exact execAlui_done ..
  | rdid => exact execRdid_done ..
  | br => exact execBr_done ..
  | jr => exact execJr_done ..
  | loop => exact execLoop_done ..
  | seed => exact execSeed_done ..
  | end_ => exact execEnd_done ..
  | waitc => exact execWaitc_done ..
  | waitf => exact execWaitf_done ..
  | notify => exact execNotify_done ..
  | waitn => exact execWaitn_done ..
  | ld => exact execLd_done ..
  | st => exact execSt_done ..
  | ldg => exact execLdg_done ..
  | stg => exact execStg_done ..
  | dmag => exact execDmag_done ..
  | dmap => exact execDmap_done ..
  | dmaf => exact execDmaf_done ..
  | dmaTransferComplete => exact execDmaTransferComplete_done ..
  | tfill => exact execTfill_done ..
  | mma => exact execMma_done ..
  | accld => exact execAccld_done ..
  | accst => exact execAccst_done ..
  | vbin => exact execVbin_done ..
  | vun => exact execVun_done ..
  | vscale => exact execVscale_done ..
  | vfma => exact execVfma_done ..
  | vred => exact execVred_done ..
  | vcvt => exact execVcvt_done ..
  | vcmp => exact execVcmp_done ..
  | vsel => exact execVsel_done ..
  | send => exact execSend_done ..
  | qrd => exact execQrd_done ..
  | acq => exact execAcq_done ..
  | rel => exact execRel_done ..
  | fence => exact execFence_done ..
  | atom => exact execAtom_done ..
  | tatom => exact execTatom_done ..
  | gather => exact execGather_done ..
  | scatter => exact execScatter_done ..
  | undefinedOpcode => exact execUndefinedOpcode_done ..
  | pllLossOfLock => exact execPllLossOfLock_done ..
  | configurationWrite => exact execConfigurationWrite_done ..
  | platformEventAcknowledgement => exact execPlatformEventAcknowledgement_done ..
  | mctpVendorMessage e => exact execMctpVendorMessage_done e s

/-- Every command answers a next state. -/
theorem exec_runs (i : Instr) (s : State) : Runs i s := by
  obtain ⟨t, h⟩ := exec_done i s
  exact ⟨_, h⟩

/-- Bringing one vector into line: its bit reads its causes, every other bit stays. -/
theorem State.refreshVector_bitAt (s : State) (v u : Nat) (h : v < 8) :
    (s.refreshVector v).bitAt F.INT_PF_STATUS_STATUS u =
      if u = v then s.pfCause v else s.bitAt F.INT_PF_STATUS_STATUS u := by
  have e : ∀ b, (s.setBit F.INT_PF_STATUS_STATUS v b).bitAt F.INT_PF_STATUS_STATUS u =
      if u = v then b else s.bitAt F.INT_PF_STATUS_STATUS u := fun b =>
    State.bitAt_setBit s F.INT_PF_STATUS_STATUS v u b (by decide) (by simpa [F.INT_PF_STATUS_STATUS] using h)
  unfold State.refreshVector
  simp only []
  split
  · by_cases hu : u = v
    · subst hu; simp [*]
    · simp [hu]
  · split
    · simp only [State.bitAt, State.sendMsix_fld]; exact e _
    · exact e _

/-- The causes of the vectors do not depend on INT_PF_STATUS. -/
theorem State.pfCause_congr {s t : State} (h : ∀ off cold, off ≠ R.INT_PF_STATUS → t.word off cold = s.word off cold) (v : Nat) :
    t.pfCause v = s.pfCause v := by
  have w : ∀ off cold, off ≠ R.INT_PF_STATUS → t.word off cold = s.word off cold := h
  have f : ∀ f : Fld, f.off ≠ R.INT_PF_STATUS → t.on f = s.on f := fun f hf => by simp only [State.on, State.fld, w _ _ hf]
  unfold State.pfCause
  split <;> first
    | rfl
    | simp only [w _ _ (by decide : R.HOST_ERR ≠ R.INT_PF_STATUS), w _ _ (by decide : R.CLK_ERR ≠ R.INT_PF_STATUS),
        w _ _ (by decide : R.RST_ERR ≠ R.INT_PF_STATUS), w _ _ (by decide : R.PWR_ERR ≠ R.INT_PF_STATUS)]
    | simp only [w _ _ (by decide : R.INT_INTEG_STATUS ≠ R.INT_PF_STATUS)]
    | simp only [f F.PWR_FHALT_STATUS_HALTING (by decide), f F.PWR_FHALT_STATUS_HALTED (by decide),
        f F.PWR_FHALT_STATUS_DISCREPANCY (by decide)]
    | exact f _ (by decide)

/-- What `refreshPf` leaves is in line: every bit of INT_PF_STATUS below 8 reads its causes. -/
theorem State.refreshPf_inLine (s : State) : s.refreshPf.InLine := by
  intro v hv
  have hc : ∀ t : State, (∀ off cold, off ≠ R.INT_PF_STATUS → t.word off cold = s.word off cold) → t.pfCause v = s.pfCause v :=
    fun t h => State.pfCause_congr h v
  rw [hc _ fun _ _ h => s.refreshPf_word h _]
  have key : ∀ (l : List Nat) (t : State), (∀ u ∈ l, u < 8) → (∀ off cold, off ≠ R.INT_PF_STATUS → t.word off cold = s.word off cold) →
      (v ∈ l ∨ t.bitAt F.INT_PF_STATUS_STATUS v = s.pfCause v) →
      (overList l t State.refreshVector).bitAt F.INT_PF_STATUS_STATUS v = s.pfCause v := by
    intro l
    induction l with
    | nil => intro t _ _ h; simpa [overList] using h
    | cons u l ih =>
      intro t hl ht h
      refine ih (t.refreshVector u) (fun w hw => hl w (List.mem_cons_of_mem _ hw)) (fun off c h => by rw [State.refreshVector_word _ _ h, ht off c h]) ?_
      by_cases e : v = u
      · subst e; right; rw [State.refreshVector_bitAt _ _ _ hv, if_pos rfl]; exact hc _ ht
      · rcases h with h | h
        · rcases List.mem_cons.1 h with h | h
          · exact absurd h e
          · exact .inl h
        · right; rw [State.refreshVector_bitAt _ _ _ (hl u (by simp)), if_neg e]; exact h
  exact key _ s (by decide) (fun _ _ _ => rfl) (.inl (by clear key hc; revert hv; revert v; decide))

end Sys2Proof.Machine
end

