-- ==== Sys2Proof/Laws/HostWrite.lean ====
section
/-! SUPPORT. Laws of host writes: what a write that is carried out reduces to, and what its register takes. -/

namespace Sys2Proof.Machine

variable {s : State} {w : DwWrite} {off : Nat} {d : RegDesc}

theorem foldl_or_testBit (l : List FieldDesc) (m i : Nat) :
    (l.foldl (fun m f => m ||| maskBits f.lo (f.hi + 1 - f.lo)) m).testBit i =
      (m.testBit i || l.any fun f => decide (f.lo ≤ i) && decide (i < f.lo + (f.hi + 1 - f.lo))) := by
  induction l generalizing m with
  | nil => simp
  | cons f l ih =>
    rw [List.foldl_cons, ih, List.any_cons, Nat.testBit_or, maskBits]
    have e : ((2 ^ (f.hi + 1 - f.lo) - 1) * 2 ^ f.lo).testBit i =
        (decide (f.lo ≤ i) && decide (i < f.lo + (f.hi + 1 - f.lo))) := by
      rw [Nat.testBit_mul_two_pow, Nat.testBit_two_pow_sub_one]
      by_cases h : f.lo ≤ i
      · simp only [h, decide_true, Bool.true_and]
        rw [decide_eq_decide]; omega
      · simp [h]
    rw [e, Bool.or_assoc]

/-- A bit of a register's mask: it lies in a field whose access type passes. -/
theorem RegDesc.mask_testBit (d : RegDesc) (p : Access → Bool) (i : Nat) :
    (d.mask p).testBit i =
      d.fields.any fun f => p f.access && (decide (f.lo ≤ i) && decide (i < f.lo + (f.hi + 1 - f.lo))) := by
  rw [RegDesc.mask, foldl_or_testBit]
  simp [List.any_filter]

/-- While the module serves, a DW of the PF is carried out at once. -/
theorem hostWrite_serves (h : s.Serves) (hf : w.fn = .pf) (ho : off % 4 = 0) (hb : off < 0x1000000) (cs : List Crossing) :
    s.hostWrite off w cs = s.carryOut off w cs := by
  obtain ⟨hp, hs, hm, hh, hl, bar⟩ := h
  have e : off / 4 * 4 = off := by omega
  have wk : s.wakeBy 3 = s := by
    have h2 : s.fld F.PWR_STATE_STATE ≠ 2 := by omega
    simp [State.wakeBy, hp, h2, State.on, hm]
  have as : s.asleep = false := by
    have h2 : ¬ s.fld F.PWR_STATE_STATE = 2 := by omega
    simp [State.asleep, hl, h2]
  have bo : s.barOn w.fn = true := by simp [State.barOn, hf, State.pcieReleased, hp, fnIndex, bar]
  have ww : ∀ b : Bool, s.when b (fun t => t.wakeBy 3) = s := by intro b; cases b <;> simp [wk]
  simp only [hf] at bo
  simp [State.hostWrite, e, bo, hf, hintPage, ww, as, hh, Nat.not_le.2 hb]

/-- A plain write of a register with a writable field reaches the register. -/
theorem carryOut_reg (h : s.Serves) (hw : PlainWrite w off) (hr : regAt off = some d) (hl : landPf off = .reg off)
    (hm : d.mask Access.writable ≠ 0) (cs : List Crossing) :
    s.carryOut off w cs =
      (let out := s.writeReg .pf off d w.data.toNat cs
       if out.1 = 0 then out.2 else out.2.logWrite off out.1 w) := by
  obtain ⟨hf, hb, hp, hd⟩ := hw
  obtain ⟨h1, h2, -, -, -, -⟩ := h
  have h3 : ¬ s.fld F.PWR_STATE_STATE = 3 := by omega
  rw [hr] at hd
  simp only [Option.map_some, Option.getD_some] at hd
  have dc : s.dropCause off w = none := by
    simp [State.dropCause, hp, hb, hf, landing, hl, Landing.served, h1, State.inFlr, h3, hr, hm]
    exact hd
  simp [State.carryOut, hp, hb, dc, hf, landing, hl, hr]

theorem hostWrite_reg (h : s.Serves) (hw : PlainWrite w off) (ho : off % 4 = 0) (hb : off < 0x1000000) (hr : regAt off = some d)
    (hl : landPf off = .reg off) (hm : d.mask Access.writable ≠ 0) (cs : List Crossing) :
    s.hostWrite off w cs =
      (let out := s.writeReg .pf off d w.data.toNat cs
       if out.1 = 0 then out.2 else out.2.logWrite off out.1 w) := by
  rw [hostWrite_serves h hw.1 ho hb, carryOut_reg h hw hr hl hm]

/-- A write that nothing refuses and whose values are all defined: the register takes it, and what follows happens. -/
theorem writeReg_taken (v : Nat) (cs : List Crossing) (hb : d.base ≠ R.RING_ENABLE 0)
    (hw : s.wholeRefusal .pf d.base off v = none) (hbad : badFields d.base off v = []) :
    s.writeReg .pf off d v cs = (0, s.followWrite d.base off v cs (s.putReg off d v 0)) := by
  simp [State.writeReg, hb, hw, hbad, overList]

theorem testBit_not32 {x i : Nat} (hx : x < 2 ^ 32) (hi : i < 32) : (2 ^ 32 - 1 - x).testBit i = !x.testBit i := by
  rw [show 2 ^ 32 - 1 - x = 2 ^ 32 - (x + 1) by omega, Nat.testBit_two_pow_sub_succ hx]
  simp [hi]

/-- What a register reads, bit by bit, after it has taken a write. -/
theorem putReg_testBit {v : Nat} (hv : v < 2 ^ 32) {i : Nat} (hi : i < 32) :
    ((s.putReg off d v 0).word off d.cold).testBit i =
      ((if (d.mask Access.keeps).testBit i then v.testBit i else (s.word off d.cold).testBit i) &&
        !(v.testBit i && (d.mask fun a => a = .w1c).testBit i)) := by
  have all : (2 ^ 32 - 1 - 0).testBit i = true := by rw [testBit_not32 (by decide) hi]; simp
  have put : (d.mask Access.keeps &&& (2 ^ 32 - 1 - 0)) < 2 ^ 32 := lt_of_le_of_lt Nat.and_le_right (by decide)
  have w1 : v &&& (d.mask fun a => a = .w1c) < 2 ^ 32 := lt_of_le_of_lt Nat.and_le_left hv
  unfold State.putReg
  rw [State.word_setWord, if_pos rfl, Nat.testBit_mod_two_pow]
  simp only [Nat.testBit_and, Nat.testBit_or, testBit_not32 put hi, testBit_not32 w1 hi, all, hi, decide_true,
    Bool.true_and, Bool.and_true]
  cases (d.mask Access.keeps).testBit i <;> simp

/-- A field whose bits the register keeps reads what was written. -/
theorem putReg_fld {v : Nat} (hv : v < 2 ^ 32) (f : Fld) (ho : f.off = off) (hc : f.cold = d.cold)
    (hw : f.lo + f.width ≤ 32) (hk : ∀ i, i < f.width → (d.mask Access.keeps).testBit (f.lo + i) = true)
    (h1 : ∀ i, i < f.width → (d.mask fun a => a = .w1c).testBit (f.lo + i) = false) :
    (s.putReg off d v 0).fld f = bitsOf v f.lo f.width := by
  apply Nat.eq_of_testBit_eq
  intro i
  rw [State.fld, bitsOf_testBit, bitsOf_testBit]
  by_cases h : i < f.width
  · rw [ho, hc, putReg_testBit hv (by omega), hk i h, h1 i h]; simp
  · simp [h]

/-- A field of which a write keeps nothing and clears nothing reads as before. -/
theorem putReg_fld_other {v : Nat} (hv : v < 2 ^ 32) (f : Fld) (ho : f.off = off) (hc : f.cold = d.cold)
    (hw : f.lo + f.width ≤ 32) (hk : ∀ i, i < f.width → (d.mask Access.keeps).testBit (f.lo + i) = false)
    (h1 : ∀ i, i < f.width → (d.mask fun a => a = .w1c).testBit (f.lo + i) = false) :
    (s.putReg off d v 0).fld f = s.fld f := by
  apply Nat.eq_of_testBit_eq
  intro i
  rw [State.fld, State.fld, bitsOf_testBit, bitsOf_testBit]
  by_cases h : i < f.width
  · rw [ho, hc, putReg_testBit hv (by omega), hk i h, h1 i h]; simp
  · simp [h]

theorem putReg_frame (v hold : Nat) (r : List Nat) (p : List Part) (h : off ∈ r) :
    Frame s (s.putReg off d v hold) r p := frame_setWord _ _ _ _ h

end Sys2Proof.Machine
end

