-- ==== Sys2Proof/Laws/Issue.lean ====
section
/-! SUPPORT. What `issue` answers for an operation, and what a change of one core leaves alone. -/

namespace Sys2Proof.Machine

variable {s t : State}

/-- Two writes at one index are the second. -/
theorem smPut_smPut {α : Type} (m : SMap α) (i : Nat) (v w : α) : smPut (smPut m i v) i w = smPut m i w := by
  induction m with
  | nil => simp [smPut]
  | cons e m ih =>
    obtain ⟨k, x⟩ := e
    by_cases h1 : i < k
    · simp [smPut, h1]
    · by_cases h2 : i = k
      · simp [smPut, h2]
      · simp [smPut, h1, h2, ih]

theorem smMod_smMod {α : Type} (m : SMap α) (d : α) (i : Nat) (f h : α → α) :
    smMod (smMod m d i f) d i h = smMod m d i fun x => h (f x) := by
  simp [smMod, smPut_smPut]

/-- Two changes of one core are one. -/
theorem State.modCore_modCore (g : Nat) (f h : Core → Core) : (s.modCore g f).modCore g h = s.modCore g fun c => h (f c) := by
  simp [State.modCore, smMod_smMod]

/-- The state in which the core that issues waits for nothing. -/
def State.unwait (s : State) (g : Nat) : State := s.modCore g fun c => { c with wait := .none }

/-- An operation none of whose checks fails acts. -/
theorem issue_acts {g : Nat} {opc : BitVec 8} {o : OpFields} {n : Nat} {checks : Nat → Core → List Nat}
    {act : Nat → Core → State → OpEnd} (h : s.atOp g opc o = true) (hr : s.regionOfCore g = some n)
    (hc : lowest (checks n { s.core g with wait := .none }) = none) :
    issue g opc o s checks act = done (settleOp g (act n { s.core g with wait := .none } (s.unwait g))) := by
  simp [issue, h, hr, State.unwait, hc]

/-- An operation whose checks fail raises the lowest exception. -/
theorem issue_halts {g : Nat} {opc : BitVec 8} {o : OpFields} {n code : Nat} {checks : Nat → Core → List Nat}
    {act : Nat → Core → State → OpEnd} (h : s.atOp g opc o = true) (hr : s.regionOfCore g = some n)
    (hc : lowest (checks n { s.core g with wait := .none }) = some code) :
    issue g opc o s checks act = done ((s.unwait g).coreException n g code) := by
  simp [issue, h, hr, State.unwait, hc]

/-- A core of which only WAIT differs writes its register alike. -/
theorem Core.setReg_wait (c : Core) (i : Nat) (v : Word64) (b : Bool) (w : CoreWait) :
    ({ c with wait := w } : Core).setReg i v b = { c.setReg i v b with wait := w } := by
  unfold Core.setReg; split <;> rfl

/-- A register write leaves the program counter. -/
@[simp] theorem Core.setReg_pc (c : Core) (i : Nat) (v : Word64) (b : Bool) : (c.setReg i v b).pc = c.pc := by
  unfold Core.setReg; split <;> rfl

/-- A command whose only effect is on one core. -/
theorem oneCore_of_done {i : Instr} {g : Nat} {f : Core → Core} {c : Core}
    (h : exec i s = done (s.modCore g f)) (hc : f (s.core g) = c) : Answers i s fun t => OneCore s t g c := by
  refine answers_of_done h ⟨by simp [hc], ?_, ?_, ?_⟩
  · intro k hk; simp [State.core_modCore_ne _ _ hk]
  · refine Frame.pf ⟨fun _ _ _ _ => rfl, fun p hp => ?_⟩
    cases p <;> first | rfl | simp at hp
  · exact Sent.pf ⟨[], by simp [State.modCore], by simp⟩

/-- An operation of one core that goes on changes that core and nothing else. -/
theorem oneCore_of_next {i : Instr} {g : Nat} {f : Core → Core} {c : Core}
    (h : exec i s = done (settleOp g (.next ((s.unwait g).modCore g f))))
    (hc : { f { s.core g with wait := .none } with pc := (f { s.core g with wait := .none }).pc + 8 } = c) :
    Answers i s fun t => OneCore s t g c :=
  oneCore_of_done (by rw [h, settleOp, State.modCore_modCore, State.unwait, State.modCore_modCore]) hc

/-- An operation of one core, from what its act gives. -/
theorem oneCore_of_act {i : Instr} {g : Nat} {opc : BitVec 8} {o : OpFields} {n : Nat} {checks : Nat → Core → List Nat}
    {act : Nat → Core → State → OpEnd} {f : Core → Core} {c : Core} (hex : exec i s = issue g opc o s checks act)
    (h : s.atOp g opc o = true) (hr : s.regionOfCore g = some n)
    (hc : lowest (checks n { s.core g with wait := .none }) = none)
    (hact : settleOp g (act n { s.core g with wait := .none } (s.unwait g)) = (s.unwait g).modCore g f)
    (hcc : f { s.core g with wait := .none } = c) : Answers i s fun t => OneCore s t g c := by
  refine oneCore_of_done (f := fun c => f { c with wait := .none }) ?_ hcc
  rw [hex, issue_acts h hr hc, hact, State.unwait, State.modCore_modCore]

/-- How an operation ends after a change of its core. -/
theorem settleOp_next_modCore (g : Nat) (f : Core → Core) :
    settleOp g (.next (s.modCore g f)) = s.modCore g fun c => { f c with pc := (f c).pc + 8 } := by
  rw [settleOp, State.modCore_modCore]

theorem settleOp_jump_modCore (g : Nat) (f : Core → Core) (a : Nat) :
    settleOp g (.jump a (s.modCore g f)) = s.modCore g fun c => { f c with pc := a } := by
  rw [settleOp, State.modCore_modCore]

end Sys2Proof.Machine
end

