-- ==== Sys2Proof/Laws/Mem.lean ====
section
/-! SUPPORT. The laws of byte stores: a read after a write gives what was written, a write leaves every other byte alone, and
every operation keeps the canonical form `PMem.wf`. -/

namespace Sys2Proof.Machine

/-! ### Lists of poisoned words -/

theorem insertNat_mem (l : List Nat) (x y : Nat) : y ∈ insertNat l x ↔ y = x ∨ y ∈ l := by
  induction l with
  | nil => simp [insertNat]
  | cons a l ih =>
    unfold insertNat
    split
    · simp
    · split
      · rename_i h; subst h; simp
      · simp only [List.mem_cons, ih]; tauto

theorem insertNat_pairwise {l : List Nat} (x : Nat) (h : l.Pairwise (· < ·)) : (insertNat l x).Pairwise (· < ·) := by
  induction l with
  | nil => simp [insertNat]
  | cons a l ih =>
    have ⟨ha, hl⟩ := List.pairwise_cons.1 h
    unfold insertNat
    split
    · rename_i hx
      refine List.pairwise_cons.2 ⟨fun y hy => ?_, h⟩
      rcases List.mem_cons.1 hy with rfl | hy
      · exact hx
      · exact lt_trans hx (ha y hy)
    · split
      · exact h
      · refine List.pairwise_cons.2 ⟨fun y hy => ?_, ih hl⟩
        rcases (insertNat_mem l x y).1 hy with rfl | hy
        · omega
        · exact ha y hy

theorem eraseNat_pairwise {l : List Nat} (x : Nat) (h : l.Pairwise (· < ·)) : (eraseNat l x).Pairwise (· < ·) :=
  List.Pairwise.sublist (by unfold eraseNat; exact List.filter_sublist) h

theorem foldl_insertNat_pairwise {α : Type} (f : α → Nat) (ks : List α) {l : List Nat} (h : l.Pairwise (· < ·)) :
    (ks.foldl (fun p k => insertNat p (f k)) l).Pairwise (· < ·) := by
  induction ks generalizing l with
  | nil => exact h
  | cons k ks ih => exact ih (insertNat_pairwise _ h)

/-! ### The canonical form -/

theorem PMem.wf_iff (m : PMem) : m.wf = true ↔ smSorted m.bytes = true ∧ m.poison.Pairwise (· < ·) := by
  simp [PMem.wf]

@[simp] theorem PMem.wf_empty : PMem.wf {} = true := by decide

theorem PMem.notePoison_bytes (m : PMem) (w n : Nat) (bad : Bool) : (m.notePoison w n bad).bytes = m.bytes := by
  unfold PMem.notePoison; repeat' split
  all_goals rfl

theorem PMem.notePoison_wf {m : PMem} (w n : Nat) (bad : Bool) (h : m.wf = true) : (m.notePoison w n bad).wf = true := by
  rw [PMem.wf_iff] at *
  unfold PMem.notePoison; repeat' split
  · exact ⟨h.1, insertNat_pairwise _ h.2⟩
  · exact ⟨h.1, eraseNat_pairwise _ h.2⟩
  · exact h

theorem PMem.write_wf {m : PMem} (b : Mem) (bad : List Nat) (h : m.wf = true) : (m.write b bad).wf = true := by
  unfold PMem.write
  simp only []
  generalize (b.map fun e => e.1 / 8).eraseDups = ws
  have h1 : PMem.wf { m with bytes := b.foldl (fun acc e => smPut acc e.1 e.2) m.bytes } = true := by
    rw [PMem.wf_iff] at *; exact ⟨foldl_smPut_sorted _ h.1, h.2⟩
  generalize ({ m with bytes := b.foldl (fun acc e => smPut acc e.1 e.2) m.bytes } : PMem) = m1 at h1
  induction ws generalizing m1 with
  | nil => exact h1
  | cons w ws ih => exact ih _ (PMem.notePoison_wf _ _ _ h1)

theorem PMem.drop_wf {m : PMem} (lo len : Nat) (h : m.wf = true) : (m.drop lo len).wf = true := by
  rw [PMem.wf_iff] at *
  exact ⟨filter_sorted _ h.1, h.2.filter _⟩

theorem PMem.shift_wf {m : PMem} (b : Nat) (h : m.wf = true) : (m.shift b).wf = true := by
  rw [PMem.wf_iff, smSorted_iff] at *
  refine ⟨List.pairwise_map.2 (h.1.imp ?_), List.pairwise_map.2 (h.2.imp ?_)⟩ 
  · intro x y hxy; exact Nat.add_lt_add_left hxy b
  · intro x y hxy; exact Nat.add_lt_add_right hxy _

theorem hbmMerge_wf {m : PMem} (r : HReq) (h : m.wf = true) : (hbmMerge m r).wf = true := PMem.write_wf _ _ h

/-! ### Reading after writing -/

/-- What a write leaves at an address: the last byte written there, or the byte that was there. -/
theorem PMem.write_bytes (m : PMem) (b : Mem) (bad : List Nat) :
    (m.write b bad).bytes = b.foldl (fun acc e => smPut acc e.1 e.2) m.bytes := by
  unfold PMem.write
  simp only []
  generalize (b.map fun e => e.1 / 8).eraseDups = ws
  generalize hm : ({ m with bytes := b.foldl (fun acc e => smPut acc e.1 e.2) m.bytes } : PMem) = m1
  have h1 : m1.bytes = b.foldl (fun acc e => smPut acc e.1 e.2) m.bytes := by rw [← hm]
  rw [← h1]; clear hm h1
  induction ws generalizing m1 with
  | nil => rfl
  | cons w ws ih => rw [List.foldl_cons, ih, PMem.notePoison_bytes]

theorem foldl_smPut_other {α : Type} (b m : SMap α) (d : α) (a : Nat) (h : ∀ e ∈ b, e.1 ≠ a) :
    smGet (b.foldl (fun acc e => smPut acc e.1 e.2) m) d a = smGet m d a := by
  induction b generalizing m with
  | nil => rfl
  | cons e b ih =>
    rw [List.foldl_cons, ih _ fun x hx => h x (List.mem_cons_of_mem _ hx),
      smGet_smPut_ne _ _ _ (Ne.symm (h e (List.mem_cons_self ..)))]

/-- A byte that a write does not name reads as before. -/
theorem PMem.byte_write_other (m : PMem) (b : Mem) (bad : List Nat) (draw a : Nat) (h : ∀ e ∈ b, e.1 ≠ a) :
    (m.write b bad).byte draw a = m.byte draw a := by
  simp only [PMem.byte, PMem.write_bytes]; exact foldl_smPut_other _ _ _ _ h

/-- A byte that a write names once reads as written. -/
theorem PMem.byte_write_same (m : PMem) (b : Mem) (bad : List Nat) (draw a : Nat) (v : Byte) (hb : (a, v) ∈ b)
    (hu : (b.map (·.1)).Nodup) : (m.write b bad).byte draw a = v := by
  simp only [PMem.byte, PMem.write_bytes]
  generalize m.bytes = m'
  induction b generalizing m' with
  | nil => simp at hb
  | cons e b ih =>
    rw [List.map_cons, List.nodup_cons] at hu
    rw [List.foldl_cons]
    rcases List.mem_cons.1 hb with rfl | hb
    · rw [foldl_smPut_other, smGet_smPut, if_pos rfl]
      intro x hx hxa
      exact hu.1 (List.mem_map.2 ⟨x, hx, hxa⟩)
    · exact ih hb hu.2 _

end Sys2Proof.Machine
end

