-- ==== Sys2Proof/Laws/Plane.lean ====
section
/-! SUPPORT. What a run of the planes, the taking of a packet from them and the sending of one into them change: the packets, the
routers and the credits on their way, and nothing else. -/

namespace Sys2Proof.Machine

variable {s t u : State}

/-! ### The planes read the registers, the power state and the regions alone -/

theorem State.sweep_congr (hr : t.regs = s.regs) (hp : t.power = s.power) (hn : t.regions = s.regions) (pl : Plane) :
    t.sweep pl = s.sweep pl := by
  cases s; cases t; cases hr; cases hp; cases hn; rfl

theorem State.settleN_congr (hr : t.regs = s.regs) (hp : t.power = s.power) (hn : t.regions = s.regions) (k : Nat) (pl : Plane) :
    State.settleN k t pl = State.settleN k s pl := by
  induction k generalizing pl with
  | zero => rfl
  | succ k ih => simp only [State.settleN, State.sweep_congr hr hp hn, ih]

/-- A change of the state beside the registers, the power state, the regions and the planes leaves what a run of the planes does. -/
theorem State.backedUp_congr (hr : t.regs = s.regs) (hp : t.power = s.power) (hn : t.regions = s.regions) (h : t.net = s.net)
    (hm : t.mesh = s.mesh) (hc : t.ctl = s.ctl) (a : Agent) : t.backedUp a = s.backedUp a := by
  simp only [State.backedUp, State.settle, State.settleN_congr hr hp hn, h, hm, hc]

@[simp] theorem State.backedUp_modCore (g : Nat) (f : Core → Core) (a : Agent) : (s.modCore g f).backedUp a = s.backedUp a :=
  State.backedUp_congr (s := s) (t := s.modCore g f) rfl rfl rfl rfl rfl rfl a

@[simp] theorem State.mayIssue_modCore (g : Nat) (f : Core → Core) (n h : Nat) : (s.modCore g f).mayIssue n h = s.mayIssue n h := by
  unfold State.mayIssue; rw [State.backedUp_modCore]; rfl

/-! ### A run -/

/-- A run of the planes changes them alone. -/
theorem State.settle_planes (s : State) : ∃ pl : Plane, s.settle = { s with net := pl.net, mesh := pl.mesh, ctl := pl.ctl } :=
  ⟨_, rfl⟩

/-- What arrives: the state with the packet at its unit differs in the planes alone. -/
theorem State.arrive_planes {p : Packet} (h : s.arrive p = some u) :
    ∃ pl : Plane, u = { s with net := pl.net, mesh := pl.mesh, ctl := pl.ctl } := by
  unfold State.arrive at h
  split at h
  · cases h
  · split at h
    · cases h; exact ⟨⟨s.net, s.mesh, s.ctl⟩, rfl⟩
    · simp only at h
      split at h
      · cases h
      · obtain ⟨_, _, h⟩ := Option.map_eq_some_iff.mp h
        exact ⟨⟨_, _, _⟩, h.symm⟩

/-- A packet that has arrived is given to its unit, unless it is a response to a tile that is cut off. -/
theorem deliver_acts {id : Nat} {k : PacketKind} {act : Packet → State → Option State} {p : Packet} (hp : s.packet id k = some p)
    (hu : s.arrive p = some u) (hc : isResponse k = true → u.cutOff p.region p.dstTile = false) :
    deliver s id k act = done ((act p u).getD s) := by
  unfold deliver
  rw [hp]; simp only [hu]
  by_cases h : isResponse k = true
  · simp [hc h]
  · simp only [Bool.not_eq_true] at h; simp [h]

/-! ### Sources -/

/-- A request waits at its source. -/
theorem State.inject_request {p : Packet} (h : isResponse p.kind = false) : s.inject p = { s with net := s.net ++ [p] } := by
  simp [State.inject, h]

/-- A response waits at its source, for a tile that is not cut off. -/
theorem State.inject_response {p : Packet} (h : s.cutOff p.region p.dstTile = false) : s.inject p = { s with net := s.net ++ [p] } := by
  simp [State.inject, h]

@[simp] theorem State.inject_cores (p : Packet) : (s.inject p).cores = s.cores := by unfold State.inject; split <;> rfl
@[simp] theorem State.inject_slices (p : Packet) : (s.inject p).slices = s.slices := by unfold State.inject; split <;> rfl
@[simp] theorem State.inject_clusters (p : Packet) : (s.inject p).clusters = s.clusters := by unfold State.inject; split <;> rfl
@[simp] theorem State.inject_regions (p : Packet) : (s.inject p).regions = s.regions := by unfold State.inject; split <;> rfl
@[simp] theorem State.inject_ports (p : Packet) : (s.inject p).ports = s.ports := by unfold State.inject; split <;> rfl
@[simp] theorem State.inject_hbm (p : Packet) : (s.inject p).hbm = s.hbm := by unfold State.inject; split <;> rfl
@[simp] theorem State.inject_out (p : Packet) : (s.inject p).out = s.out := by unfold State.inject; split <;> rfl
@[simp] theorem State.inject_mesh (p : Packet) : (s.inject p).mesh = s.mesh := by unfold State.inject; split <;> rfl
@[simp] theorem State.inject_nextId (p : Packet) : (s.inject p).nextId = s.nextId := by unfold State.inject; split <;> rfl

@[simp] theorem State.take_net (p : Packet) : (s.take p).net = s.net.filter fun q => q.id != p.id := rfl
@[simp] theorem State.take_regs (p : Packet) : (s.take p).regs = s.regs := rfl
@[simp] theorem State.take_regions (p : Packet) : (s.take p).regions = s.regions := rfl
@[simp] theorem State.take_nextId (p : Packet) : (s.take p).nextId = s.nextId := rfl

end Sys2Proof.Machine
end

