-- ==== Sys2Proof/Laws/Rings.lean ====
section
/-! SUPPORT. Laws of the ring engine's shared operations. -/

namespace Sys2Proof.Machine

/-- A status record that is written, or waits, is all that a change of it brings. -/
theorem noteStatus_frame (s : State) (n i : Nat) (r : List Nat) : Frame s (s.noteStatus n i) r [.vfs] := by
  unfold State.noteStatus
  split
  · exact Frame.refl _ _ _
  · split
    · exact ⟨fun _ _ _ _ => rfl, fun p _ => by cases p <;> rfl⟩
    · exact ⟨fun _ _ _ _ => rfl, fun p h => by cases p <;> first | rfl | simp at h⟩

theorem noteStatus_fns (s : State) (n i : Nat) : (s.noteStatus n i).fns = s.fns := by
  unfold State.noteStatus; repeat' split
  all_goals rfl

theorem flushStatus_frame (s : State) (n : Nat) (r : List Nat) : Frame s (s.flushStatus n) r [.vfs] := by
  unfold State.flushStatus
  split
  · refine Frame.walk _ _ ?_ fun u a => noteStatus_frame u n a r
    exact ⟨fun _ _ _ _ => rfl, fun p h => by cases p <;> first | rfl | simp at h⟩
  · exact Frame.refl _ _ _

theorem flushStatus_fns (s : State) (n : Nat) : (s.flushStatus n).fns = s.fns := by
  unfold State.flushStatus
  split
  · exact (overList_same (·.fns) _ _ _ fun u a => noteStatus_fns u n a).trans rfl
  · rfl

theorem flushAll_frame (s : State) (r : List Nat) : Frame s s.flushAll r [.vfs] :=
  Frame.walk _ _ (Frame.refl _ _ _) fun u n => flushStatus_frame u n r

theorem flushAll_fns (s : State) : s.flushAll.fns = s.fns := overList_same (·.fns) _ _ _ fun u n => flushStatus_fns u n

end Sys2Proof.Machine
end

