-- ==== Sys2Proof/WellFormed.lean ====
section
/-! DEFINITION. Which commands are well formed: what the operand types alone do not say. A command that is not well formed
names no event of the spec; `exec` gives it the effect of the nearest one that is, and no statement rests on it. -/

namespace Sys2Proof

/-- A link width of HOST_STATUS.WIDTH (R205) and a rate of HOST_STATUS.SPEED. -/
def wfLink (width : BitVec 5) (speed : BitVec 4) : Bool :=
  decide (width.toNat ∈ [1, 4, 8, 16]) && decide (1 ≤ speed.toNat) && decide (speed.toNat ≤ 6)

/-- The command is well formed. -/
def Instr.wf : Instr → Bool
  | .pcieLinkTrained width speed _ => wfLink width speed
  | .junctionSensorRead temps => temps.length == 16
  | .copy _ data => decide (data.bytes.length ≤ 256)
  | .laneErrorWindow _ lanes => lanes.length == 16
  | .configurationWrite (.numVfs n) => decide (n ≤ 32)
  | .configurationWrite (.deviceControl c) => decide (c.maxPayload.toNat ≤ 2) && decide (c.maxRead.toNat ≤ 5)
  | .descriptorFetch _ _ _ words => words.length % 16 == 0
  | .ringWatchPoll _ r => decide (r.records.length ≤ 8) && decide (r.cq.length ≤ 4)
  | _ => true

end Sys2Proof
end

