-- ==== Sys2Proof/Tests/Slice0.lean ====
section
/-! SUPPORT. Tests: the well-formedness checks, worked cases of the spec, single steps; and for every clause of an obligation
that has hypotheses a state and operands that meet them all (the theorems `witness_<obligation>_<clause>`). -/

section

set_option linter.unusedVariables false
set_option Elab.async false

open Sys2Proof Sys2Proof.Machine

namespace Sys2Proof.Tests

/-! ### States -/

/-- The state with fields set. -/
def with_ (s : State) (l : List (Fld × Nat)) : State := l.foldl (fun t e => t.setFld e.1 e.2) s

/-- The module in service in M1, the PF's BAR decoded. -/
def run : State :=
  { power := { phase := .run, halves := true, perst := false, pwrgd := true }, fns := [(0, { memSpace := true, busMaster := true })] }

/-- With four VFs, all of them bus masters. -/
def vfs : State :=
  { with_ run [(F.HOST_STATUS_NUM_VFS, 4), (F.HOST_STATUS_VF_ENABLE, 1), (F.HOST_VF_BME_BME, 15)] with
    fns := (List.range 5).map fun i => (i, { memSpace := true, busMaster := true }) }

/-- Region 1 in a state, with columns 0 and 1 of the South rows; the islands there powered. -/
def region (st : Nat) : State :=
  with_ vfs [(F.RGN_STATE_STATE 1, st), (F.RGN_RECT_X0 1, 0), (F.RGN_RECT_X1 1, 1), (F.RGN_RECT_EXTENT 1, 1),
    (F.CLK_ISLAND_POWERED, 3)]

/-- A write of a whole DW by the PF. -/
def dw (v : Word) : DwWrite := { fn := .pf, data := v }

/-- Vector 7 of the PF has a message pending that nothing holds. -/
def held7 : State :=
  let e : MsixEntry := { addrLo := 0x1000, addrHi := 0, data := 5, masked := false }
  let f : FnState := { memSpace := true, busMaster := true, msixEnable := true, pendingBits := 128, table := [(7, e)] }
  { run with fns := [(0, f)] }

/-- Region 1 in a state, with the completion ring and ring 0 of VF 1 enabled and RUNNING, and ring 0 holding `ds`. -/
def ringed (st : Nat) (ds : List Desc) : State :=
  { with_ (region st) [(F.RING_ENABLE_CQ 1, 1), (F.RING_ENABLE_RING 1, 3), (F.RING_STATUS_STATE 1 0, 1),
      (F.RING_STATUS_STATE 1 1, 1), (F.RING_PRODUCER_SEEN_PRODUCER_SEEN 1 0, 1)] with
    vfs := [(1, { rings := { descs := ds } :: List.replicate 7 {} })] }

/-- The descriptor of index 0 of a type, with the words from word 2 on. -/
def dsc (type : Word) (ws : List Word) : Desc := { index := 0, words := type :: 0 :: ws ++ List.replicate (14 - ws.length) 0 }

/-- The first place of ring 0 of VF 1. -/
def first : DescRef := { vf := 1, ring := 0, index := 0 }

/-- What `begin` answers, where it answers. -/
def begun (s : State) (type : Nat) : Desc × State := (s.begin first type).getD (dsc 0 [], s)

/-- Ring 0 arrives at BARRIER 5 with a COUNT; ring 1 waits there with COUNT 2. -/
def atBarrier (count : Word) : State :=
  { ringed 2 [] with
    vfs := [(1, { rings := { descs := [dsc 7 [0x5 + 0x100 * count]] } :: { descs := [{ dsc 7 [0x205] with phase := .running }] } ::
                    List.replicate 6 {},
                  barriers := [{ id := 5, count := 2, ring := 1, index := 0 }] })] }

/-- An image of 304 bytes for the two columns of region 1: its header, an empty base table, no program, a proof of zeros. -/
def image (crc : Nat) : List Byte :=
  let sec (t off len : Nat) : List Byte := toBytes 4 t ++ toBytes 4 off ++ toBytes 4 len ++ toBytes 4 0
  toBytes 4 0x534E4C45 ++ toBytes 4 1 ++ toBytes 4 304 ++ toBytes 4 crc ++ toBytes 8 0x77 ++ [1, 2, 0xFF, 0] ++ toBytes 2 1 ++
    List.replicate 34 0 ++ sec 1 256 0 ++ sec 4 256 0 ++ sec 8 256 48 ++ List.replicate 192 0

/-- No operand. -/
def noFields : OpFields := { d := 0, a := 0, b := 0, c := 0, mod := 0, imm := 0 }

/-- A loaded image whose one program is of core 0 of the first cluster tile. -/
def loaded : Image :=
  { hostAddr := 0x10000, hostLen := 4096, bytes := 16, id := 0, signed := false, meridianDx := 255, variants := 0, frameSlots := 1,
    sets := [[]], programs := [{ dx := 0, dy := 0, core := 0, entry := 0, words := [encodeOp 0x00 noFields] }], channels := [],
    combiners := [], decls := [], proofLo := 0 }

/-- Region 1 RUNNING a launch of `loaded`, core 0 at the first word of its program. -/
def launched (l : Launch) : State :=
  { ringed 3 [{ dsc 4 [2] with phase := .running }] with
    regions := [(1, { image := some loaded, launch := some l })],
    cores := [(0, { program := [(0, encodeOp 0x00 noFields)], hasProgram := true, status := .running })] }

/-- The launch of `first`, sent to the cores. -/
def sentLaunch : Launch := { ring := 0, index := 0, frames := 2, watchdogUs := 100, args := [], start := 0, sent := true }

/-- Region 1 in state `st` with its controller's state `r`. -/
def controlled (st : Nat) (r : Region) : State := { region st with regions := [(1, r)] }

/-- The region has a fault to report. -/
def reported : State :=
  let r : Region := { image := some loaded, launch := some sentLaunch, reports := [{ cause := 8 }] }
  { launched sentLaunch with regions := [(1, r)] }

/-- A LAUNCH is next and the region's islands are gated. -/
def gated : State := { with_ (ringed 2 [dsc 4 [2]]) [(F.CLK_ISLAND_POWERED, 0)] with regions := [(1, { image := some loaded })] }

/-- Core 0 waits in WAITF before the first frame. -/
def waiting : State :=
  let c : Core := { program := [(0, encodeOp 0x0B noFields)], hasProgram := true, status := .running, wait := .frame }
  { with_ (launched sentLaunch) [(F.SCH_FRAME_FRAME 1, 0xFFFFFFFF)] with cores := [(0, c)] }

/-- The launch waits for its image to be read again. -/
def rebuilding : State :=
  let r : Region := { image := some loaded, launch := some { sentLaunch with sent := false }, needRebuild := true }
  { launched sentLaunch with regions := [(1, r)] }

/-- The module after LOSS, the last gasp still to be written or not. -/
def lost (gasp : Bool) : State := { power := { phase := .loss, lastGasp := gasp }, time := 5000 }

/-- The module in M3, its halves off. -/
def halted : State :=
  { with_ run [(F.PWR_STATE_STATE, 3), (F.PWR_FHALT_STATUS_HALTED, 1)] with
    power := { phase := .run, perst := false, pwrgd := true } }

/-- The module in M2, its halves off. -/
def asleep : State := { with_ run [(F.PWR_STATE_STATE, 2)] with power := { phase := .run, perst := false, pwrgd := true } }

/-- A warm reset of the module with its sequence due or done. -/
def warm (due : Bool) : State :=
  { region 6 with power := { phase := .warmReset, perst := false, pwrgd := true, halves := true, warmDue := due, keepHbm := true } }

/-- The module in service with Vesper's firmware running. -/
def alive : State := with_ vfs [(F.VSP_STATUS_ALIVE, 1)]

/-- Region 1 with window 0 over the first 4 KiB of its shared space, and an UP port assigned to it, with credits. -/
def linked (st : Nat) : State :=
  with_ (launched sentLaunch) [(F.RGN_STATE_STATE 1, st), (F.WIN_CTRL_VALID 1 0, 1), (F.WIN_SIZE_LO_SIZE_LO 1 0, 8),
    (F.HL_ASSIGN_VALID 1, 1), (F.HL_ASSIGN_REGION 1, 1), (F.HL_STATUS_STATE 1, 2), (F.HL_STATUS_WIDTH 1, 3),
    (F.HL_CREDITS_RSP_HELD 1, 17), (F.HL_CREDITS_REQ_HELD 1, 17)]

/-- The same with a packet first in the port's ingress buffer. -/
def received (st : Nat) (p : LinkPacket) : State := { linked st with ports := [(1, { ingress := [p] })] }

/-- Port 3 in a state, with its clocks running and an attempt at training under way. -/
def port3 (st : Nat) : State :=
  { with_ run [(F.CLK_STATUS_XREF_OK, 1), (F.CLK_STATUS_LINK_LOCK, 1), (F.HL_STATUS_STATE 3, st), (F.HL_CTRL_MIN_WIDTH 3, 2),
      (F.HL_STATUS_WIDTH 3, 3), (F.HL_MODULE_MODULE_ID, 2)] with
    ports := [(3, { attempt := st == 1, session := some (0, 0), lastRx := 17 })] }

/-- The last four lanes. -/
def topLanes : LaneGroup := { width := 1, group := 3, lanes := [12, 13, 14, 15] }

/-- A READ, a WRITE and an ATOMIC (ADD of 5 to a 32-bit integer, the old value asked for) of the region's window. -/
def linkReadOf : LinkPacket := { kind := .read, tag := 7, space := 1, addr := 0xFF0, size := 16 }
def linkWriteOf : LinkPacket :=
  { kind := .write, tag := 7, space := 1, addr := 0, bytes := List.replicate 32 9, mask := List.replicate 8 true ++ List.replicate 8 false }
def linkAtomicOf : LinkPacket :=
  { kind := .atomic, tag := 7, space := 1, addr := 8, op := 0x80 + 0x10 * 2, bytes := 5 :: List.replicate 15 0 }

/-- Region 1 with an IN channel 200 of the port into queue 3 of core 0, and the packet received. -/
def inbound (p : LinkPacket) : State :=
  let im : Image := { loaded with channels := [{ credit := false, credits := 0, src := .link 1 200, dst := .core 0 3 }] }
  { received 3 p with regions := [(1, { image := some im, launch := some sentLaunch })] }

/-- The packet received while `q`, of core 0, is out at the partner. -/
def answered (p : LinkPacket) (q : Packet) : State :=
  { linked 3 with
    ports := [(1, { ingress := [p], flight := [q] })],
    cores := [(0, { program := [(0, encodeOp 0x00 noFields)], hasProgram := true, status := .running, unackedLink := 1 })] }

/-- A request of core 0 on its way through the port. -/
def asked (k : PacketKind) : Packet := { id := 65536 + 7, kind := k, region := 1, src := .core 0, dst := .port 1, addr := 8, size := 4 }

/-- A mailbox request taken at a tick: its code and its words. -/
def mailed (code : Nat) (ws : List Nat) : State :=
  let t := with_ alive [(F.VSP_MBOX_STATUS_STATE, 1), (F.VSP_MBOX_CMD_CODE, code), (F.VSP_MBOX_CMD_REQ_WORDS, ws.length)]
  let u := with_ t (ws.zipIdx.map fun e => (F.VSP_MBOX_REQ_REQ e.2, e.1))
  { u with vesper := { mailDue := true, mailRecord := List.replicate 256 7 } }

/-- An entry of the Almanac that is KEPT. -/
def entry : AlmEntry := { type := 5, kept := true, seq := 9 }

/-- Core 15 of region 1 at an operation, the region RUNNING; the core's other state is `c`. -/
def issuing (opc : BitVec 8) (o : OpFields) (c : Core := {}) : State :=
  { linked 3 with
    cores := [(15, { c with program := [(0, encodeOp opc o)], hasProgram := true, status := .running })] }

/-- The operands of an operation. -/
def op (d a b c : Fin 32) (mod : BitVec 8) (imm : BitVec 28) : OpFields := { d := d, a := a, b := b, c := c, mod := mod, imm := imm }

/-- A tile descriptor of the register form. -/
def tileWord (base fmt rows cols stride : Nat) (trans : Bool := false) : Word64 :=
  BitVec.ofNat 64 (base + fmt * 2 ^ 21 + (rows - 1) * 2 ^ 24 + (cols - 1) * 2 ^ 32 + stride * 2 ^ 40 + bit trans * 2 ^ 56)

/-- Core 15 at an operation, its cluster's memory holding `l` from the lowest address on. -/
def issuingOn (l : List Byte) (opc : BitVec 8) (o : OpFields) (c : Core) : State :=
  { issuing opc o c with clusters := [(1, { mem := { bytes := memAt 0 l } })] }

/-- Channels of region 1: from core 15 to a core of its cluster, to a core of another one with credits, to a combining queue and
to a link; from that combining queue; and into a queue of core 15. -/
def channelled : Image :=
  let ch (src dst : ChanEnd) (credits : Nat) : Channel := { credit := credits != 0, credits := credits, src := src, dst := dst }
  { loaded with
    channels := [ch (.core 15 3) (.core 8 2) 0, ch (.core 15 4) (.core 0 5) 4, ch (.core 15 5) (.cq 1 2 0) 0,
      ch (.core 15 6) (.link 1 200) 0, ch (.cq 1 2 0) (.cq 0 3 0) 0, ch (.core 9 1) (.core 15 7) 0],
    combiners := [{ slice := 1, q := 2, int32 := true, expect := 2, deliveries := 1, tags := 4 }] }

/-- A state whose region 1 has those channels. -/
def wired (s : State) : State := { s with regions := [(1, { image := some channelled, launch := some sentLaunch })] }

/-- Core 15 sends on a channel. -/
def sending (num : BitVec 28) (c : Core) : State :=
  let s := wired (issuing 0x40 (op 0 1 2 0 0 num) c)
  { s with ports := [(1, { outCount := [(200, 3)] })] }

/-- A packet of core 15 to slice 0, for the region's window. -/
def crossing (k : PacketKind) : Packet :=
  { id := 7, kind := k, region := 1, src := .core 15, dst := .slice 0, addr := 2 ^ 46 + 8, size := 8 }

/-- The same, taken by its unit. -/
def arrived (k : PacketKind) : Packet := { crossing k with place := .unit }

/-- The plane of region 1 carries a packet. -/
def carried (p : Packet) : State := { linked 3 with net := [p], nextId := 9 }

/-- No channel. -/
def noChannel : Channel := { credit := false, credits := 0, src := .core 0 0, dst := .core 0 0 }

/-- The one delivery channel of combining queue 2 of slice 1, to `dst`. -/
def combined (dst : ChanEnd) : Channel :=
  let toCore := match dst with | .core _ _ => true | _ => false
  { credit := toCore, credits := bit toCore, src := .cq 1 2 0, dst := dst }

/-- That queue holds a complete entry behind one that is not, and a credit for a core and a count of the link. -/
def combining (dst : ChanEnd) : State :=
  let es : List CombEntry := [{ tag := 5, parts := [(15, 1, 2)] }, { tag := 6, parts := [(15, 0x7FFFFFFF, 2), (9, 1, 0xFFFFFFFF)] }]
  let im : Image := { channelled with channels := [combined dst] }
  { linked 3 with
    slices := [(1, { combs := [(2, es)], credits := [(0, 1)] })], ports := [(1, { outCount := [(200, 1)] })],
    regions := [(1, { image := some im, launch := some sentLaunch })] }

/-- Core 15 has a store-buffer entry. -/
def stored : SbEntry := { id := 5, addr := 2 ^ 46, bytes := [(0, 1), (9, 2), (63, 3)], poison := [1] }

/-- Its WRITE, and the state in which slice 0 has taken it. -/
def stores : Packet :=
  { arrived .write with id := 5, addr := 2 ^ 46, size := 64, bytes := [(0, 1), (9, 2), (63, 3)], poison := [1] }
def storing : State := { carried stores with cores := [(15, { store := [{ stored with sent := true }], status := .running })] }

/-- Core 15 stands at a load of a READ_ONLY window, whose line core 8 of its cluster is fetching. -/
def fetching : State :=
  let s := with_ (issuing 0x10 (op 31 1 0 0 2 0xFFC) { regs := [(1, 0x400000000000)] }) [(F.WIN_CTRL_READ_ONLY 1 0, 1)]
  { s with cores := (8, { loads := [{ tag := 3, dest := 1, addr := 2 ^ 46 + 0xF80, size := 8, fill := true }] }) :: s.cores }

/-- DATA for a load of core 15, some of whose bytes its own store buffer held. -/
def answer : Packet :=
  { arrived .data with src := .slice 0, dst := .core 15, tag := 3, bytes := (List.range 8).map fun k => (k, 0x80 + BitVec.ofNat 8 k) }
def answering : State :=
  let l : LoadOp := { tag := 3, dest := 31, addr := 2 ^ 46 + 12, size := 4, sext := true, overlay := [(1, 0x11)] }
  { carried answer with cores := [(15, { status := .running, loads := [l] })] }

theorem answering_alone : ∀ h, h ≠ 15 → h / 8 = 15 / 8 → ∀ x ∈ (answering.core h).loads, x.tag ≠ answer.tag := by
  intro h hne hc x hx
  obtain rfl | rfl | rfl | rfl | rfl | rfl | rfl : h = 8 ∨ h = 9 ∨ h = 10 ∨ h = 11 ∨ h = 12 ∨ h = 13 ∨ h = 14 := by omega
  · rw [show (answering.core 8).loads = [] by decide +kernel] at hx; cases hx
  · rw [show (answering.core 9).loads = [] by decide +kernel] at hx; cases hx
  · rw [show (answering.core 10).loads = [] by decide +kernel] at hx; cases hx
  · rw [show (answering.core 11).loads = [] by decide +kernel] at hx; cases hx
  · rw [show (answering.core 12).loads = [] by decide +kernel] at hx; cases hx
  · rw [show (answering.core 13).loads = [] by decide +kernel] at hx; cases hx
  · rw [show (answering.core 14).loads = [] by decide +kernel] at hx; cases hx

/-- A proxy asks slice 0 for line 3, which it holds in full. -/
def borrows : Packet := { arrived .read with src := .slice 16, addr := 2 ^ 47 + 3 * 128, size := 128, line := true, op := 1 }
def borrowing : State :=
  { carried borrows with slices := [(0, { lines := [{ line := 3, data := memAt 0 (List.replicate 128 9), present := 15 }] })] }

/-- Region 1's rings 0 to 4, of 16 entries, in service, the last of them STOPPED, at the last generation. -/
def polled : State :=
  let size (i : Nat) : Fld × Nat := (F.RING_SIZE_SIZE_LOG2 1 i, 4)
  with_ (ringed 2 []) ([(F.RING_STATUS_STATE 1 2, 1), (F.RING_STATUS_STATE 1 3, 1), (F.RING_STATUS_STATE 1 4, 3),
    (F.RING_GEN_VALUE 1 4, 0xFFFFFFFF)] ++ (List.range 5).map size)

/-- Five records: a torn one; one that is valid up to the ring's length; reserved flags; an overrun by one; the next generation. -/
def pollRecords : List (List Word) :=
  [[1, 0, 0, 0], [16, 0, 1, ~~~16], [1, 0, 2, ~~~1], [17, 0, 0, ~~~17], [16, 0, 0, ~~~16]]

/-- A request of channel 3 of the home slice of channel 3 for two sectors of line 5. -/
def asking (wr inj grant : Bool) : HReq :=
  { id := 7, chan := 3, cls := 1, region := 1, write := wr, line := 5, addr := 640, sectors := 5, injected := inj, granted := grant,
    data := if wr then [(3, 9), (64, 1)] else [] }

/-! ### Well-formed commands -/

theorem test_wf_link_width : (Instr.pcieLinkTrained 2 6 true).wf = false ∧ (Instr.pcieLinkTrained 16 6 true).wf = true := by decide
theorem test_wf_link_speed : (Instr.pcieLinkTrained 16 0 true).wf = false ∧ (Instr.pcieLinkTrained 16 7 true).wf = false := by decide
theorem test_wf_junction : (Instr.junctionSensorRead (List.replicate 15 30)).wf = false := by decide
theorem test_wf_copy : (Instr.copy first { bytes := List.replicate 257 0 }).wf = false := by decide +kernel
theorem test_wf_lanes : (Instr.laneErrorWindow 0 (List.replicate 17 0)).wf = false := by decide
theorem test_wf_num_vfs : (Instr.configurationWrite (.numVfs 33)).wf = false ∧ (Instr.configurationWrite (.numVfs 32)).wf = true := by
  decide
theorem test_wf_device_control : (Instr.configurationWrite (.deviceControl { maxPayload := 3 })).wf = false ∧
    (Instr.configurationWrite (.deviceControl { maxPayload := 2, maxRead := 5 })).wf = true ∧
    (Instr.configurationWrite (.deviceControl { maxRead := 6 })).wf = false := by decide
theorem test_wf_fetch : (Instr.descriptorFetch 0 0 .good (List.replicate 17 0)).wf = false := by decide
theorem test_wf_poll : (Instr.ringWatchPoll 0 { records := List.replicate 9 [] }).wf = false ∧
    (Instr.ringWatchPoll 0 { cq := List.replicate 5 0 }).wf = false := by decide

/-! ### Words: no word spells a command; the operation words of 09's worked program -/

theorem test_no_word_spells_a_command : decodeTableWord 32 0 = none ∧ decodeTableWord 64 0x14 = none := by decide
theorem test_words_scalar : encodeOp 0x01 (op 10 0 0 0 0 2) = 0x0000002000000A01 ∧ encodeOp 0x03 (op 8 0 0 0 0 256) = 0x0000100000000803 ∧
    encodeOp 0x04 (op 1 0 0 0 0 5) = 0x0000005000000104 ∧ encodeOp 0x0A (op 0 10 0 0 0 0) = 0x000000000001400A := by decide +kernel
theorem test_words_memory : encodeOp 0x10 (op 3 1 0 0 3 8) = 0x0000008030002310 ∧ encodeOp 0x14 (op 0 5 8 2 0 0) = 0x000000000120A014 ∧
    encodeOp 0x15 (op 0 7 9 4 0 0) = 0x000000000224E015 := by decide +kernel
theorem test_words_tensor : encodeOp 0x20 (op 0 2 3 0 1 0) = 0x00000000100C4020 ∧ encodeOp 0x22 (op 0 4 0 0 0 0) = 0x0000000000008022 ∧
    encodeOp 0x40 (op 0 2 3 0 0 5) = 0x00000050000C4040 := by decide +kernel
/-- TA of 09's worked case: 64 × 128 BF16 at 0, STRIDE 256. -/
theorem test_tile_descriptor : tileOf 0x0001007F3F200000 =
    { base := 0, fmt := 1, rows := 64, cols := 128, stride := 256, trans := false, reserved := false } := by decide +kernel

/-! ### The other worked cases of the spec -/

/-- 02: tile 0xB6 and cluster 90. -/
theorem test_die_map : sliceOfTile 0xB6 = 54 ∧ stackOfSlice 54 = 5 ∧ channelOfSlice 54 = 92 ∧ tileOfCluster 90 = 0x7A ∧
    islandOfTile 0x7A = 26 ∧ coresOfCluster 90 = [720, 721, 722, 723, 724, 725, 726, 727] := by decide +kernel
/-- 13: the word at shared-space offset 0x1_2345 of a HASHED window over slices 4, 5, 20, 21. -/
theorem test_hashed_window : placeOf [4, 5, 20, 21] 0x12345 = (5, 0x4845) := by decide +kernel
/-- 16: the line at external-space offset 0x0080_0000 of region 5. -/
theorem test_external_line :
    (with_ vfs [(F.RGN_STATE_STATE 5, 2), (F.RGN_RECT_X0 5, 4), (F.RGN_RECT_X1 5, 5), (F.RGN_RECT_EXTENT 5, 1)]).chanOf 5 0x800000 =
      (19, 0x100000) := by decide +kernel
/-- 08: 300.0, 500.0, 0.001 and −3.0 to E4M3; 70,000.0 to E5M2 with SAT 0 and 1. -/
theorem test_conversions : encodeFmt 3 .rne false (fp32.decode 0x43960000) = 0x79 ∧ encodeFmt 3 .rne false (fp32.decode 0x43FA0000) = 0x7E ∧
    encodeFmt 3 .rne false (fp32.decode 0x3A83126F) = 0x01 ∧ encodeFmt 3 .rne false (fp32.decode 0xC0400000) = 0xC4 ∧
    encodeFmt 4 .rne false (fp32.decode 0x4788B800) = 0x7C ∧ encodeFmt 4 .rne true (fp32.decode 0x4788B800) = 0x7B := by decide +kernel
/-- 08: the two MXFP4 blocks. -/
theorem test_blocks : blockScale ([0x40A00000, 0x3F333333, 0xC0266666, 0x3E4CCCCD].map fp32.decode) = 0x7F ∧
    [0x40A00000, 0x3F333333, 0xC0266666, 0x3E4CCCCD].map (fun x => blockElem 0x7F .rne (fp32.decode x)) = [0x6, 0x1, 0xD, 0x0] ∧
    blockScale ([0x42C80000, 0x42140000].map fp32.decode) = 0x83 ∧
    [0x42C80000, 0x42140000].map (fun x => blockElem 0x83 .rne (fp32.decode x)) = [0x7, 0x4] := by decide +kernel
/-- 10: the entry of tile (8,3). -/
theorem test_slot_entry : slotEntry 0x00001661_8000F06E 0x00001000_00000800 =
    { start := 110, count := 16, outN := 0, outE := 0, outS := 6, outW := 0, outL := 6, sumA := 4, sumB := 5, sumFmt := 0, injMode := 0,
      injAddr := 0x800, ejAddr := 0x1000 } := by decide +kernel
/-- 12: the sum of four contributions, whatever their order of arrival. -/
theorem test_combining : deliveryOf { slice := 20, q := 3, int32 := false, expect := 4, deliveries := 1, tags := 2 }
    { tag := 7, parts := [(418, 0xCB800000, 0x3E800000), (288, 0x3F800000, 0x3E800000), (175, 0x3F800000, 0x3E800000),
        (33, 0x4B800000, 0x3E800000)] } = (0x3F80000000000000, 0x04030007) := by decide +kernel
/-- 15: an EXACT store of POINT 64 after 2^24, 1, 1 and −2^24 holds 2^65 and reads 2.0. -/
theorem test_exact :
    let s := ([0x4B800000, 0x3F800000, 0x3F800000, 0xCB800000, 0x0DA24260].foldl (fun t v => t.exactAdd 1 0 3 0 v false)
      (with_ { region 2 with slices := [(0, { sram := { bytes := memAt 0 (List.replicate 16 0) } })] } [(F.WIN_CTRL_EXACT_POINT 1 3, 64)]))
    exactA (s.slice 0).sram 0 0 = 2 ^ 65 ∧ exactRead (2 ^ 65) 64 = 0x40000000 ∧ s.fld (F.MSL_EXACT_ROUNDED_ROUNDED 0) = 1 := by
  decide +kernel
/-- 10: SHA-384 of the bytes "abc", the example of FIPS 180-4. -/
theorem test_sha384 : bigEndian (sha384 [0x61, 0x62, 0x63]) =
    0xcb00753f45a35e8bb5a03d699ac65007272c32ab0eded1631a8b605a43ff5bed8086072ba1e7cc2358baeca134c825a7 := by decide +kernel
/-- 11, R530 and R548: the direct route goes west, then along y; the control network goes along x, then along y. -/
theorem test_routes : straightPath 0x33 0x11 = [0x33, 0x32, 0x31, 0x21, 0x11] ∧ straightPath 0x11 0x23 = [0x11, 0x21, 0x22, 0x23] ∧
    tileWay 0x11 0x23 = [0x12, 0x13, 0x23] := by decide
/-- 16: L over the windows of the worked case. -/
theorem test_latency : [3600, 3600, 400, 400, 400, 400, 400, 400].foldl nextLatency 1200 = 1009 ∧ nextLatency 1200 3600 = 1500 ∧
    nextLatency 1762 400 = 1591 := by decide +kernel
/-- 21: addresses of the map. -/
theorem test_register_addresses : R.MSL_BUSHEL_CFG 54 = 0x760114 ∧ R.HBM_CH_QUEUE 5 13 = 0x8A11A0 := by decide +kernel

/-! ### Steps -/

/-- A state's next one, where a step answers one. -/
def stepped (s : State) : State :=
  match step s with
  | .next t => t
  | _ => s

/-- The states after commands, each taken from the queue. -/
def after (l : List Instr) (s : State) : State := l.foldl (fun t _ => stepped t) { s with pending := l }

/-- 05: the burst of three DWs at PWR_CAP. -/
theorem test_burst :
    let t := after [.registerWrite 0x20050 { fn := .pf, data := 0x320, burst := true }, .registerWrite 0x20054 { fn := .pf, data := 0x44C, burst := true },
      .registerWrite 0x20058 { fn := .pf, data := 1, be := 3, burst := true }] (with_ run [(F.HOST_ACCESS_TOTAL_TOTAL, 37)])
    t.fld F.PWR_CAP_PF_CAP_W = 800 ∧ t.fld F.HOST_ACCESS_TOTAL_TOTAL = 39 ∧ t.fld (F.HOST_ACCESS_LOG_W0_CAUSE 5) = 4 ∧
      t.fld (F.HOST_ACCESS_LOG_W0_CAUSE 6) = 1 ∧ t.pending = [] := by decide +kernel
/-- 03: the fourth sample below 36 V declares DROPOUT and asks for a shed. -/
theorem test_dropout :
    let t := after (List.replicate 4 (.supplySample 35200 10000)) run
    t.fld F.PWR_STATUS_DROPOUT_ACTIVE = 1 ∧ t.fld F.PWR_STATUS_SAG_ACTIVE = 0 := by decide +kernel
/-- 01: an empty queue counts the timestamp; nothing is powered after reset, where it stands (log 1). -/
theorem test_idle : (stepped run).time = 1 ∧ stepped State.reset = State.reset := by decide +kernel
/-- 02, R62: the window's count is within 100 ppm of 64,000 from 63,994 to 64,006. -/
theorem test_aon_trimmed : (after [.aonTrimWindow 64006] run).fld F.CLK_STATUS_AON_TRIMMED = 1 ∧
    (after [.aonTrimWindow 64007] run).fld F.CLK_STATUS_AON_TRIMMED = 0 := by decide +kernel
/-- 04: from reset, the converters start and bring-up completes. -/
theorem test_bring_up : (after [.converterStart {}, .bringUpComplete] State.reset).power.phase = .run := by decide +kernel
/-- 18: a leak of an empty bushel leaves it empty. -/
theorem test_leak : (after [.bushelLeak 37] (with_ run [(F.MSL_BUSHEL_COUNT 37, 6)])).fld (F.MSL_BUSHEL_COUNT 37) = 5 ∧
    (after [.bushelLeak 37] run).fld (F.MSL_BUSHEL_COUNT 37) = 0 := by decide +kernel
/-- 09: ALU ADD wraps at 64 bits, and MOVI of the high part keeps the low. -/
theorem test_alu_wraps : ((after [.alu 15 (op 3 1 2 0 0 0)]
      (issuing 0x02 (op 3 1 2 0 0 0) { regs := [(1, 0xFFFFFFFFFFFFFFFF), (2, 3)] })).core 15).reg 3 = 2 := by decide +kernel
/-- 09: an undefined opcode halts the core with ILLEGAL_OP. -/
theorem test_undefined_opcode : let t := after [.undefinedOpcode 15] (issuing 0x7F noFields)
    (t.core 15).status = .halted ∧ (t.rgn 1).reports.map (·.excCode) = [1] := by decide +kernel

/-! ### Witnesses stated by hand -/

/-- The module with an update under way and an image verified in slot B. -/
def updating : State := { alive with vesper := { updater := some (.smbus 0x40), verified := some true } }

/-- What a poll finds in each of the five records. -/
theorem witness_RecordTaken : ∃ (s : State) (n : Nat) (rs : List (List Word)),
    let p (i : Nat) := ((rs.getD i []).getD 0 0).toNat
    let g (i : Nat) := ((rs.getD i []).getD 1 0).toNat
    let flags (i : Nat) := 2 ≤ ((rs.getD i []).getD 2 0).toNat
    let gen (i : Nat) := s.fld (F.RING_GEN_VALUE n i)
    let overrun (i : Nat) := s.ringLen n i < ahead (p i) (s.consumed n i)
    torn (rs.getD 0 []) = true ∧
      (torn (rs.getD 1 []) = false ∧ g 1 = gen 1 ∧ ¬flags 1 ∧ ¬overrun 1) ∧
      (torn (rs.getD 2 []) = false ∧ g 2 = gen 2 ∧ s.ringState n 2 ≠ 3 ∧ flags 2) ∧
      (torn (rs.getD 3 []) = false ∧ g 3 = gen 3 ∧ s.ringState n 3 ≠ 3 ∧ ¬flags 3 ∧ overrun 3) ∧
      (torn (rs.getD 4 []) = false ∧ s.ringState n 4 = 3 ∧ g 4 = (gen 4 + 1) % 2 ^ 32 ∧ ¬flags 4 ∧ ¬overrun 4) :=
  ⟨polled, 1, pollRecords, by decide +kernel⟩

theorem witness_StepKeepsInterruptStatus : ∃ s t : State, s.InLine ∧ step s = .next t :=
  ⟨{ run with pending := [.flrPf] }, _, by unfold State.InLine; decide +kernel, rfl⟩
theorem witness_StepKeepsCanonicalState : ∃ s t : State, s.Canonical ∧ step s = .next t :=
  ⟨{ run with pending := [.flrPf] }, _, by unfold State.Canonical; decide +kernel, rfl⟩

/-! ### Witnesses, by obligation and clause -/

theorem witness_StepRunsTheFrontCommand_1 : ∃ (c : Instr) (rest : List Instr) (s : State),
    s.pending = c :: rest :=
  ⟨.shed, [.unshed], { run with pending := [.shed, .unshed] }, by decide +kernel⟩

theorem witness_EmptyQueueCountsOneTick_1 : ∃ (s : State),
    s.pending = [] ∧ s.power.phase = .off :=
  ⟨State.reset, by decide +kernel⟩

theorem witness_EmptyQueueCountsOneTick_2 : ∃ (s : State),
    s.pending = [] ∧ s.power.phase ≠ .off :=
  ⟨run, by decide +kernel⟩

theorem witness_FunctionCommandsComplete_2 : ∃ (s : State),
    s.pcieReleased = true :=
  ⟨run, by decide +kernel⟩

theorem witness_FunctionCommandsComplete_3 : ∃ (s : State),
    s.fld F.HOST_STATUS_PF_D3HOT = 1 :=
  ⟨with_ run [(F.HOST_STATUS_PF_D3HOT, 1)], by decide +kernel⟩

theorem witness_FunctionCommandsComplete_4 : ∃ (vf : Fin 32) (on : Bool) (s : State),
    s.vfExists vf = true :=
  ⟨3, true, with_ vfs [(F.HOST_VF_BME_BME, 0)], by decide +kernel⟩

theorem witness_FunctionCommandsComplete_6 : ∃ (b : Bool) (s : State),
    s.pcieReleased = true :=
  ⟨true, run, by decide +kernel⟩

theorem witness_FunctionCommandsComplete_7 : ∃ (b : Bool) (s : State),
    s.pcieReleased = true :=
  ⟨true, run, by decide +kernel⟩

theorem witness_FunctionCommandsComplete_8 : ∃ (c : CfgWrite) (f : PfConfig → PfConfig) (s : State),
    s.pcieReleased = true ∧ ((∃ v, c = .completionTimeout v ∧
      f = fun x => { x with completionTimeout := v }) ∨ (∃ v, c = .deviceControl v ∧
      f = fun x => { x with dev := v }) ∨ (∃ b, c = .aspmL11 b ∧
      f = fun x => { x with aspmL11 := b }) ∨ (∃ g b, c = .ecrc g b ∧
      f = fun x => { x with ecrcGenerate := g, ecrcCheck := b }) ∨ (∃ b, c = .ariHierarchy b ∧
      f = fun x => { x with ariHierarchy := b }) ∨ (∃ v : Word, c = .bar false false v ∧
      f = fun x => { x with bar0 := v &&& 0xFF000000 }) ∨ (∃ v : Word, c = .bar false true v ∧
      f = fun x => { x with bar1 := v }) ∨ (∃ v : Word, c = .bar true false v ∧
      f = fun x => { x with vfBar0 := v &&& 0xFFFE0000 }) ∨ (∃ v : Word, c = .bar true true v ∧
      f = fun x => { x with vfBar1 := v })) :=
  ⟨.completionTimeout 15, fun x => { x with completionTimeout := 15 }, run, by decide +kernel, .inl ⟨15, rfl, rfl⟩⟩

theorem witness_FunctionCommandsComplete_9 : ∃ (fn : Fn) (c : CfgWrite) (f : FnState → FnState) (s : State),
    s.pcieReleased = true ∧ (∀ n, fn = .vf n → s.vfExists n = true) ∧ ((∃ b, c = .memorySpace fn b ∧
      f = fun x => { x with memSpace := b }) ∨ (∃ b, c = .msixEnable fn b ∧
      f = fun x => { x with msixEnable := b }) ∨ (∃ b, c = .msixFunctionMask fn b ∧
      f = fun x => { x with msixMask := b }) ∨ (∃ r v, c = .aer fn r v ∧
      f = fun x => { x with aer := x.aer.put r v }) ∨ (∃ v : BitVec 16, c = .acsControl fn v ∧
      f = fun x => { x with acs := v &&& 0x4C })) :=
  ⟨.vf 3, .acsControl (.vf 3) 0xFFFF, fun x => { x with acs := 0xFFFF &&& 0x4C }, vfs, by decide +kernel, by decide +kernel,
      .inr (.inr (.inr (.inr ⟨0xFFFF, rfl, rfl⟩)))⟩

theorem witness_FunctionCommandsComplete_10 : ∃ (c : CfgWrite) (s : State),
    s.power.phase = .bringUp ∧ s.pcieReleased = false ∧ s.power.perst = false :=
  ⟨.busMaster true, { power := { phase := .bringUp, perst := false } }, by decide +kernel⟩

theorem witness_FunctionCommandsComplete_11 : ∃ (v : Nat) (s : State),
    s.pcieReleased = true ∧ v ≠ 4096 :=
  ⟨8192, run, by decide +kernel⟩

theorem witness_FunctionCommandsComplete_12 : ∃ (n : Nat) (s : State),
    s.pcieReleased = true ∧ s.fld F.HOST_STATUS_VF_ENABLE = 1 ∧ n ≠ s.fld F.HOST_STATUS_NUM_VFS :=
  ⟨32, vfs, by decide +kernel⟩

theorem witness_FunctionCommandsComplete_13 : ∃ (n : Nat) (s : State),
    s.pcieReleased = true ∧ s.fld F.HOST_STATUS_VF_ENABLE = 0 ∧ n ≤ 32 :=
  ⟨32, run, by decide +kernel⟩

theorem witness_FunctionCommandsComplete_14 : ∃ (s : State),
    s.pcieReleased = true ∧ s.fld F.HOST_STATUS_VF_ENABLE = 0 :=
  ⟨with_ run [(F.HOST_STATUS_NUM_VFS, 32)], by decide +kernel⟩

theorem witness_RegisterWriteFollowsAccessTypes_1 : ∃ (s : State) (w : DwWrite) (off : Nat) (d : RegDesc),
    s.Serves ∧ PlainWrite w off ∧ off < 2 ^ 24 ∧ off % 4 = 0 ∧ regAt off = some d ∧ landPf off = .reg off ∧
      d.mask Access.writable ≠ 0 ∧ d.base ∉ writeActs ∧ s.wholeRefusal .pf d.base off w.data.toNat = none ∧
      badFields d.base off w.data.toNat = [] :=
  ⟨run, dw 0xFFFFFFFF, R.PWR_ISLAND_HOLD, (regAt R.PWR_ISLAND_HOLD).get (by decide +kernel), by decide +kernel⟩

theorem witness_DroppedWritesAreLogged_1 : ∃ (s : State) (w : DwWrite) (off : BitVec 24) (cause : Nat),
    s.Serves ∧ w.fn = .pf ∧ w.be ≠ 0 ∧ off.toNat % 4 = 0 ∧ (cause = 10 ∧ w.poisoned = true ∨ cause = 1 ∧ w.poisoned = false ∧
      w.be ≠ 0xF ∨ cause = 3 ∧ w.poisoned = false ∧ w.be = 0xF ∧ landPf off.toNat = .reserved) :=
  ⟨run, { fn := .pf, data := 0x12345678, be := 0x3 }, 0x40, 1, by decide +kernel⟩

theorem witness_DroppedWritesAreLogged_2 : ∃ (s : State) (w : DwWrite) (off : BitVec 24),
    s.Serves ∧ w.fn = .pf ∧ w.be = 0 ∧ w.poisoned = false :=
  ⟨run, { fn := .pf, data := 0x12345678, be := 0 }, 0xFFFFFC, by decide +kernel⟩

theorem witness_DroppedWritesAreLogged_3 : ∃ (s : State) (w : DwWrite) (off : BitVec 24),
    s.Serves ∧ w.fn = .pf ∧ w.be = 0xF ∧ w.poisoned = false ∧ off.toNat % 4 ≠ 0 ∧ off.toNat < 0xFFFFFC :=
  ⟨run, dw 5, 0xFFFFF9, by decide +kernel⟩

theorem witness_ControlWritesComplete_1 : ∃ (s : State) (w : DwWrite),
    s.Serves ∧ PlainWrite w R.INT_PF_ENABLE :=
  ⟨with_ run [(F.PWR_FHALT_STATUS_HALTING, 1)], dw 0xFF, by decide +kernel⟩

theorem witness_ControlWritesComplete_2 : ∃ (s : State) (w : DwWrite),
    s.Serves ∧ PlainWrite w R.CLK_SHED :=
  ⟨run, dw 1, by decide +kernel⟩

theorem witness_ControlWritesComplete_3 : ∃ (s : State) (w : DwWrite),
    s.Serves ∧ PlainWrite w R.CLK_TILE_FREQ ∧ 0x14 ≤ bitsOf w.data.toNat 0 7 ∧ bitsOf w.data.toNat 0 7 ≤ 0x50 :=
  ⟨run, dw 0x14, by decide +kernel⟩

theorem witness_ControlWritesComplete_4 : ∃ (s : State) (w : DwWrite) (k : Fin 8),
    s.Serves ∧ PlainWrite w (R.HBM_WATERMARK k) ∧ 8 ≤ bitsOf w.data.toNat 0 7 ∧
      bitsOf w.data.toNat 0 7 < bitsOf w.data.toNat 8 7 ∧ bitsOf w.data.toNat 8 7 ≤ 62 :=
  ⟨run, dw 0x0908, 7, by decide +kernel⟩

theorem witness_ControlWritesComplete_5 : ∃ (s : State) (w : DwWrite),
    s.Serves ∧ PlainWrite w R.SCH_KEY_VALID ∧
      (∀ i, i < 4 → s.bitAt F.SCH_KEY_VALID_VALID i = true → w.data.getLsbD i = false → s.keyUsed i = false) :=
  ⟨with_ run [(F.SCH_KEY_VALID_VALID, 15)], dw 7, by decide +kernel⟩

theorem witness_ControlWritesComplete_6 : ∃ (s : State) (w : DwWrite),
    s.Serves ∧ PlainWrite w R.HL_MODULE ∧ (∀ p, p < 4 → s.linkState p = 0) :=
  ⟨run, dw 0x0FFF000F, by decide +kernel⟩

theorem witness_ControlWritesComplete_7 : ∃ (s : State) (w : DwWrite) (v : Fin 8),
    s.Serves ∧ w.be = 0xF ∧ w.poisoned = false :=
  ⟨run, dw 0xFFFFFFFF, 7, by decide +kernel⟩

theorem witness_ControlWritesComplete_8 : ∃ (s : State) (w : DwWrite) (v : Fin 8),
    s.Serves ∧ w.be = 0xF ∧ w.poisoned = false :=
  ⟨run, dw 0xFFFFFFFF, 7, by decide +kernel⟩

theorem witness_ControlWritesComplete_9 : ∃ (s : State) (fn : Fn) (v : Fin 8),
    (s.fn (fnIndex fn)).pendingBits.testBit v = true ∧ s.msixHeld (fnIndex fn) v = false :=
  ⟨held7, .pf, 7, by decide +kernel⟩

theorem witness_ModuleResetsComplete_1 : ∃ (s : State),
    s.power.phase = .run ∧ s.power.perst = false :=
  ⟨region 3, by decide +kernel⟩

theorem witness_ModuleResetsComplete_2 : ∃ (s : State),
    s.power.phase = .run ∧ s.fld F.HOST_STATUS_WIDTH ≠ 0 :=
  ⟨with_ (region 3) [(F.HOST_STATUS_WIDTH, 16)], by decide +kernel⟩

theorem witness_ModuleResetsComplete_3 : ∃ (s : State),
    s.power.phase = .run :=
  ⟨with_ (region 2) [(F.HOST_STATUS_WIDTH, 16), (F.RST_CAUSE_WARM_COUNT, 0xFFFF)], by decide +kernel⟩

theorem witness_ModuleResetsComplete_4 : ∃ (s : State) (w : DwWrite),
    s.Serves ∧ PlainWrite w R.RST_CTRL ∧ bitsOf w.data.toNat 16 16 = 0xA5C3 ∧ w.data.getLsbD 0 = true ∧
      w.data.getLsbD 1 = false ∧ s.on F.RST_CTRL_WARM_KEEP_HBM = w.data.getLsbD 8 :=
  ⟨with_ (region 5) [(F.RST_CTRL_WARM_KEEP_HBM, 1)], dw 0xA5C30101, by decide +kernel⟩

theorem witness_ModuleResetsComplete_5 : ∃ (s : State) (w : DwWrite),
    s.Serves ∧ PlainWrite w R.RST_CTRL ∧ bitsOf w.data.toNat 16 16 = 0xA5C3 ∧ w.data.getLsbD 0 = false ∧
      w.data.getLsbD 1 = true :=
  ⟨region 3, dw 0xA5C30002, by decide +kernel⟩

theorem witness_ModuleResetsComplete_6 : ∃ (s : State) (w : DwWrite),
    s.Serves ∧ PlainWrite w R.RST_CTRL ∧ w.data.getLsbD 0 = false ∧ w.data.getLsbD 1 = false :=
  ⟨run, dw 0x100, by decide +kernel⟩

theorem witness_RegionCommandsComplete_1 : ∃ (s : State) (n : Fin 32) (w : DwWrite),
    s.Serves ∧ PlainWrite w (R.RGN_CMD n) ∧ bitsOf w.data.toNat 0 4 = 1 ∧ s.vfExists n = true ∧ s.rgnState n = rFREE :=
  ⟨vfs, 3, dw 1, by decide +kernel⟩

theorem witness_RegionCommandsComplete_2 : ∃ (s : State) (n : Fin 32) (w : DwWrite),
    s.Serves ∧ PlainWrite w (R.RGN_CMD n) ∧ bitsOf w.data.toNat 0 4 = 2 ∧ s.vfExists n = true ∧ s.rgnState n = rCONFIGURING ∧
      s.commitCode n = 0 :=
  ⟨region 1, 1, dw 2, by decide +kernel⟩

theorem witness_RegionCommandsComplete_3 : ∃ (s : State) (n : Fin 32) (w : DwWrite),
    s.Serves ∧ PlainWrite w (R.RGN_CMD n) ∧ bitsOf w.data.toNat 0 4 = 3 ∧ 2 ≤ s.rgnState n ∧ (s.rgn n).reset = none ∧
      (s.rgn n).faultStop = false ∧ (s.rgn n).clearing = false :=
  ⟨with_ (region 3) [(F.RGN_COUNTS_RESET_COUNT 1, 0xFFFF)], 1, dw 3, by decide +kernel⟩

theorem witness_RegionCommandsComplete_4 : ∃ (s : State) (n : Fin 32) (w : DwWrite),
    s.Serves ∧ PlainWrite w (R.RGN_CMD n) ∧ bitsOf w.data.toNat 0 4 = 4 ∧ 2 ≤ s.rgnState n ∧ (s.rgn n).reset = none ∧
      (s.rgn n).faultStop = false ∧ (s.rgn n).clearing = false :=
  ⟨region 2, 1, dw 4, by decide +kernel⟩

theorem witness_RegionCommandsComplete_5 : ∃ (s : State) (n : Fin 32) (w : DwWrite),
    s.Serves ∧ PlainWrite w (R.RGN_CMD n) ∧ bitsOf w.data.toNat 0 4 = 4 ∧ s.rgnState n = rCONFIGURING :=
  ⟨region 1, 1, dw 4, by decide +kernel⟩

theorem witness_RegionCommandsComplete_6 : ∃ (s : State) (n : Fin 32) (w : DwWrite),
    s.Serves ∧ PlainWrite w (R.RGN_RECT n) ∧ s.vfExists n = true ∧ s.rgnState n = rCONFIGURING ∧
      s.rectBad n w.data.toNat = false :=
  ⟨region 1, 1, dw 0x30F00, by decide +kernel⟩

theorem witness_RingEnableWritesComplete_1 : ∃ (s : State) (n : Fin 32) (i : Fin 8) (w : DwWrite),
    s.Serves ∧ PlainWrite w (ringEnableAt n) ∧ s.rgnState n ∈ [rREADY, rRUNNING, rFAULTED] ∧ s.fld (F.RING_ENABLE_CQ n) = 1 ∧
      w.data.getLsbD 8 = true ∧ s.bitAt (F.RING_ENABLE_RING n) i = false ∧ w.data.getLsbD i = true ∧ s.ringState n i = 0 ∧
      (∀ j, j < 8 → j ≠ i.val → w.data.getLsbD j = s.bitAt (F.RING_ENABLE_RING n) j) :=
  ⟨with_ (region 2) [(F.RING_ENABLE_CQ 1, 1)], 1, 7, dw 0x180, by decide +kernel⟩

theorem witness_RingEnableWritesComplete_2 : ∃ (s : State) (n : Fin 32) (i : Fin 8) (w : DwWrite),
    s.Serves ∧ PlainWrite w (ringEnableAt n) ∧ s.fld (F.RING_ENABLE_CQ n) = 1 ∧ w.data.getLsbD 8 = true ∧
      s.bitAt (F.RING_ENABLE_RING n) i = true ∧ w.data.getLsbD i = false ∧
      (∀ j, j < 8 → j ≠ i.val → w.data.getLsbD j = s.bitAt (F.RING_ENABLE_RING n) j) :=
  ⟨with_ (region 3) [(F.RING_ENABLE_CQ 1, 1), (F.RING_ENABLE_RING 1, 0x81), (F.RING_STATUS_STATE 1 7, 1)], 1, 7, dw 0x101,
      by decide +kernel⟩

theorem witness_RingEnableWritesComplete_3 : ∃ (s : State) (n : Fin 32) (w : DwWrite),
    s.Serves ∧ PlainWrite w (ringEnableAt n) ∧ s.fld (F.RING_ENABLE_CQ n) = 0 ∧ w.data.getLsbD 8 = true ∧
      (∀ j, j < 8 → w.data.getLsbD j = s.bitAt (F.RING_ENABLE_RING n) j) :=
  ⟨region 2, 1, dw 0x100, by decide +kernel⟩

theorem witness_RingEnableWritesComplete_4 : ∃ (s : State) (n : Fin 32) (w : DwWrite),
    s.Serves ∧ PlainWrite w (ringEnableAt n) ∧ w.data.getLsbD 8 = false ∧ (s.vf n).held = [] ∧
      (∀ j, j < 8 → s.ringState n j = 0 ∧ w.data.getLsbD j = false ∧ s.bitAt (F.RING_ENABLE_RING n) j = false) :=
  ⟨with_ (region 2) [(F.RING_ENABLE_CQ 1, 1)], 1, dw 0, by decide +kernel⟩

theorem witness_RingEngineStepsComplete_1 : ∃ (s : State) (n : Fin 32) (r : PollRead),
    s.polls n = true ∧ s.fld F.PWR_STATE_STATE ≠ 2 ∧ r.result ≠ .good :=
  ⟨ringed 2 [], 1, { result := .timeout }, by decide +kernel⟩

theorem witness_RingEngineStepsComplete_2 : ∃ (s : State) (n : Fin 32) (r : PollRead),
    s.polls n = true ∧ s.fld F.PWR_STATE_STATE ≠ 2 ∧ r.result = .good :=
  ⟨polled, 1, { records := pollRecords }, by decide +kernel⟩

theorem witness_RingEngineStepsComplete_3 : ∃ (s : State) (n : Fin 32) (i : Fin 8) (ws : List Word),
    Fetches s n i ∧ 1 ≤ ws.length / 16 ∧ ws.length / 16 ≤ s.fetchRoom n i ∧
      (∀ j, j < ws.length / 16 → s.checkDesc n (fetched s n i j ws) = 0) :=
  ⟨with_ (ringed 2 []) [(F.RING_PRODUCER_SEEN_PRODUCER_SEEN 1 0, 2)], 1, 0,
      ((dsc 0 []).words ++ 0x10000 :: List.replicate 15 0), by unfold Fetches; decide +kernel⟩

theorem witness_RingEngineStepsComplete_4 : ∃ (s : State) (n : Fin 32) (i : Fin 8) (ws : List Word) (k : _),
    Fetches s n i ∧ 1 ≤ ws.length / 16 ∧ ws.length / 16 ≤ s.fetchRoom n i ∧ k < ws.length / 16 ∧
      (∀ j, j < k → s.checkDesc n (fetched s n i j ws) = 0) ∧ s.checkDesc n (fetched s n i k ws) ≠ 0 :=
  ⟨with_ (ringed 2 []) [(F.RING_PRODUCER_SEEN_PRODUCER_SEEN 1 0, 2)], 1, 0,
      ((dsc 0 []).words ++ 0x20000 :: List.replicate 15 0), 1, by unfold Fetches; decide +kernel⟩

theorem witness_RingEngineStepsComplete_5 : ∃ (s : State) (n : Fin 32) (i : Fin 8) (r : FetchEnd) (ws : List Word),
    Fetches s n i ∧ 1 ≤ s.fetchRoom n i ∧ r ≠ .good :=
  ⟨ringed 2 [], 1, 0, .poisoned, [], by unfold Fetches; decide +kernel⟩

theorem witness_RingEngineStepsComplete_6 : ∃ (s : State) (d : DescRef) (x : Desc),
    s.desc? d = some x ∧ x.phase = .finished ∧ x.cr = false ∧ x.finalStatus = stSUCCESS :=
  ⟨ringed 2 [{ dsc 0 [] with phase := .finished }], first, { dsc 0 [] with phase := .finished }, by decide +kernel⟩

theorem witness_RingEngineStepsComplete_7 : ∃ (s : State) (d : DescRef) (x : Desc),
    s.desc? d = some x ∧ (x.cr = true ∨ x.finalStatus ≠ stSUCCESS) ∧
      (x.phase = .finished ∨ ((s.ring d.vf d.ring).descs.find? fun y => y.phase = .blocked) = some x) ∧
      s.recordRoom d.vf = true :=
  ⟨ringed 2 [{ dsc 0 [] with phase := .finished, status := stTIMEOUT }], first,
      { dsc 0 [] with phase := .finished, status := stTIMEOUT }, by decide +kernel⟩

theorem witness_RingEngineStepsComplete_8 : ∃ (s : State) (n : Fin 32),
    s.mayRequest (n + 1) = true ∧ ((s.vf n).held = [] → (s.vf n).waiting = []) :=
  ⟨{ ringed 2 [] with vfs := [(1, { held := [{ words := List.replicate 8 0, irq := false }] })] }, 1, by decide +kernel⟩

theorem witness_RingEngineStepsComplete_9 : ∃ (s : State) (n : Fin 32) (i : Fin 8),
    s.ringState n i = 2 ∧ (s.ring n i).descs = [] :=
  ⟨with_ (region 3) [(F.RING_STATUS_STATE 1 7, 2)], 1, 7, by decide +kernel⟩

theorem witness_SmallDescriptorsComplete_1 : ∃ (s : State) (u : State) (d : DescRef) (x : Desc),
    s.begin d tyNOP = some (x, u) :=
  ⟨ringed 2 [dsc 0 []], (begun (ringed 2 [dsc 0 []]) tyNOP).2, first, (begun (ringed 2 [dsc 0 []]) tyNOP).1,
      by decide +kernel⟩

theorem witness_SmallDescriptorsComplete_2 : ∃ (s : State) (u : State) (d : DescRef) (x : Desc),
    s.begin d tyFENCE = some (x, u) ∧ u.fenceClear d.vf d.ring x = true :=
  ⟨ringed 2 [dsc 6 [1]], (begun (ringed 2 [dsc 6 [1]]) tyFENCE).2, first, (begun (ringed 2 [dsc 6 [1]]) tyFENCE).1,
      by decide +kernel⟩

theorem witness_SmallDescriptorsComplete_3 : ∃ (s : State) (u : State) (d : DescRef) (x : Desc) (v : BitVec 64),
    s.begin d tyWAIT = some (x, u) ∧ u.polls d.vf = true ∧ waitHolds (x.w 8 % 2 ^ 8) v.toNat (x.q 4) (x.q 6) = true :=
  ⟨ringed 2 [dsc 5 [0, 0, 7, 0, 15, 0, 0, 0]], (begun (ringed 2 [dsc 5 [0, 0, 7, 0, 15, 0, 0, 0]]) tyWAIT).2, first,
      (begun (ringed 2 [dsc 5 [0, 0, 7, 0, 15, 0, 0, 0]]) tyWAIT).1, 0x17, by decide +kernel⟩

theorem witness_SmallDescriptorsComplete_4 : ∃ (s : State) (u : State) (d : DescRef) (x : Desc) (y : Desc),
    let id := bitsOf (x.w 2) 0 4
    let count := bitsOf (x.w 2) 8 4
    let here := (u.vf d.vf).barriers.filter fun b => b.id == id
    s.desc? d = some y ∧ y.phase = .fetched ∧ s.begin d tyBARRIER = some (x, u) ∧ here = [] ∧ 2 ≤ count :=
  ⟨ringed 2 [dsc 7 [0x205]], (begun (ringed 2 [dsc 7 [0x205]]) tyBARRIER).2, first,
      (begun (ringed 2 [dsc 7 [0x205]]) tyBARRIER).1, dsc 7 [0x205], by decide +kernel⟩

theorem witness_SmallDescriptorsComplete_5 : ∃ (s : State) (u : State) (d : DescRef) (x : Desc) (y : Desc) (b : BarrierWait) (e : DescRef),
    let id := bitsOf (x.w 2) 0 4
    let count := bitsOf (x.w 2) 8 4
    let here := (u.vf d.vf).barriers.filter fun b => b.id == id
    s.desc? d = some y ∧ y.phase = .fetched ∧ s.begin d tyBARRIER = some (x, u) ∧ here = [b] ∧ b.count = 2 ∧ count = 2 ∧
      e.vf = d.vf ∧ e.ring.val = b.ring ∧ e.index = b.index ∧ u.desc? e ≠ none :=
  ⟨atBarrier 2, (begun (atBarrier 2) tyBARRIER).2, first, (begun (atBarrier 2) tyBARRIER).1, dsc 7 [0x205],
      { id := 5, count := 2, ring := 1, index := 0 }, { first with ring := 1 }, by decide +kernel⟩

theorem witness_SmallDescriptorsComplete_6 : ∃ (s : State) (u : State) (d : DescRef) (x : Desc) (y : Desc) (b : _),
    let id := bitsOf (x.w 2) 0 4
    let count := bitsOf (x.w 2) 8 4
    let here := (u.vf d.vf).barriers.filter fun b => b.id == id
    s.desc? d = some y ∧ y.phase = .fetched ∧ s.begin d tyBARRIER = some (x, u) ∧ here.head? = some b ∧ b.count ≠ count :=
  ⟨atBarrier 3, (begun (atBarrier 3) tyBARRIER).2, first, (begun (atBarrier 3) tyBARRIER).1, dsc 7 [0x305],
      { id := 5, count := 2, ring := 1, index := 0 }, by decide +kernel⟩

theorem witness_SmallDescriptorsComplete_7 : ∃ (s : State) (u : State) (d : DescRef) (x : Desc),
    s.begin d tySIGNAL = some (x, u) ∧ (x.w 6).testBit 1 = false ∧ u.mayRequest (d.vf + 1) = true :=
  ⟨ringed 2 [dsc 8 [0x1000, 0, 0x55, 0, 0]], (begun (ringed 2 [dsc 8 [0x1000, 0, 0x55, 0, 0]]) tySIGNAL).2, first,
      (begun (ringed 2 [dsc 8 [0x1000, 0, 0x55, 0, 0]]) tySIGNAL).1, by decide +kernel⟩

theorem witness_SmallDescriptorsComplete_8 : ∃ (s : State) (u : State) (d : DescRef) (x : Desc),
    s.begin d tyQUERY = some (x, u) ∧ u.mayRequest (d.vf + 1) = true :=
  ⟨ringed 2 [dsc 9 [0x1000, 0, 2]], (begun (ringed 2 [dsc 9 [0x1000, 0, 2]]) tyQUERY).2, first,
      (begun (ringed 2 [dsc 9 [0x1000, 0, 2]]) tyQUERY).1, by decide +kernel⟩

theorem witness_SmallDescriptorsComplete_9 : ∃ (s : State) (u : State) (d : DescRef) (x : Desc),
    s.begin d tySNAPSHOT = some (x, u) ∧ u.mayRequest (d.vf + 1) = true ∧ x.snap ≠ [] :=
  ⟨ringed 2 [{ dsc 10 [0x1000, 0] with snap := [1, 2] }],
      (begun (ringed 2 [{ dsc 10 [0x1000, 0] with snap := [1, 2] }]) tySNAPSHOT).2, first,
      (begun (ringed 2 [{ dsc 10 [0x1000, 0] with snap := [1, 2] }]) tySNAPSHOT).1, by decide +kernel⟩

theorem witness_DescriptorsEndOnTimeoutOrHostError_1 : ∃ (s : State) (d : DescRef) (x : Desc),
    s.desc? d = some x ∧ x.type = tyWAIT ∧ x.phase = .running ∧ x.w 9 ≠ 0 :=
  ⟨ringed 2 [{ dsc 5 [0, 0, 7, 0, 15, 0, 0, 100] with phase := .running }], first,
      { dsc 5 [0, 0, 7, 0, 15, 0, 0, 100] with phase := .running }, by decide +kernel⟩

theorem witness_DescriptorsEndOnTimeoutOrHostError_2 : ∃ (s : State) (d : DescRef) (x : Desc),
    s.desc? d = some x ∧ x.type = tyBARRIER ∧ x.phase = .running ∧ x.w 3 ≠ 0 :=
  ⟨ringed 2 [{ dsc 7 [0x205, 100] with phase := .running }], first, { dsc 7 [0x205, 100] with phase := .running },
      by decide +kernel⟩

theorem witness_DescriptorsEndOnTimeoutOrHostError_3 : ∃ (s : State) (d : DescRef) (x : Desc) (c : Instr) (f : Fld) (code : Nat),
    s.desc? d = some x ∧
      (c, f, code) ∈ [(.hostDmaErrorResponse d .ur, F.HOST_ERR_DMA_UR, 1), (.hostDmaErrorResponse d .ca, F.HOST_ERR_DMA_CA, 2), (.hostReadTimeout d, F.HOST_ERR_DMA_TIMEOUT, 3)] ∧
      s.rebuilding d = false ∧ x.readsHost = true ∧ (s.begin d x.type).isSome = true :=
  ⟨ringed 2 [{ dsc 5 [0, 0, 7, 0, 15, 0, 0, 100] with phase := .running }], first,
      { dsc 5 [0, 0, 7, 0, 15, 0, 0, 100] with phase := .running }, .hostReadTimeout first, F.HOST_ERR_DMA_TIMEOUT, 3,
      by decide +kernel⟩

theorem witness_DescriptorsEndOnTimeoutOrHostError_4 : ∃ (s : State) (d : DescRef) (x : Desc) (c : Instr) (f : Fld) (code : Nat),
    s.desc? d = some x ∧
      (c, f, code) ∈ [(.hostDmaErrorResponse d .ur, F.HOST_ERR_DMA_UR, 1), (.hostDmaErrorResponse d .ca, F.HOST_ERR_DMA_CA, 2), (.hostReadTimeout d, F.HOST_ERR_DMA_TIMEOUT, 3)] ∧
      s.rebuilding d = true :=
  ⟨rebuilding, first, { dsc 4 [2] with phase := .running }, .hostDmaErrorResponse first .ca, F.HOST_ERR_DMA_CA, 2,
      by decide +kernel⟩

theorem witness_CopyAndFillBlocksComplete_1 : ∃ (s : State) (u : State) (d : DescRef) (x : Desc),
    s.begin d tyFILL = some (x, u) ∧ x.linkWriting = false ∧ u.blockGoes d.vf x = true :=
  ⟨ringed 2 [dsc 2 [0x10F8, 0, 0x10, 0, 0x01020304, 0x05060708, 0]],
      (begun (ringed 2 [dsc 2 [0x10F8, 0, 0x10, 0, 0x01020304, 0x05060708, 0]]) tyFILL).2, first,
      (begun (ringed 2 [dsc 2 [0x10F8, 0, 0x10, 0, 0x01020304, 0x05060708, 0]]) tyFILL).1, by decide +kernel⟩

theorem witness_CopyAndFillBlocksComplete_2 : ∃ (s : State) (u : State) (d : DescRef) (x : Desc),
    s.begin d tyFILL = some (x, u) ∧ x.linkWriting = true ∧ x.linkWait = 0 :=
  ⟨ringed 2 [{ dsc 2 [0, 0xC000, 0x10, 0, 1, 2, 2] with phase := .running, linkWriting := true }],
      ringed 2 [{ dsc 2 [0, 0xC000, 0x10, 0, 1, 2, 2] with phase := .running, linkWriting := true }], first,
      { dsc 2 [0, 0xC000, 0x10, 0, 1, 2, 2] with phase := .running, linkWriting := true }, by decide +kernel⟩

theorem witness_CopyAndFillBlocksComplete_3 : ∃ (s : State) (u : State) (d : DescRef) (x : Desc),
    s.begin d tyFILL = some (x, u) ∧ x.linkWriting = true ∧ x.linkWait ≠ 0 :=
  ⟨ringed 2 [{ dsc 2 [0, 0xC000, 0x10, 0, 1, 2, 2] with phase := .running, linkWriting := true, linkWait := 1 }],
      ringed 2 [{ dsc 2 [0, 0xC000, 0x10, 0, 1, 2, 2] with phase := .running, linkWriting := true, linkWait := 1 }], first,
      { dsc 2 [0, 0xC000, 0x10, 0, 1, 2, 2] with phase := .running, linkWriting := true, linkWait := 1 }, by decide +kernel⟩

theorem witness_CopyAndFillBlocksComplete_4 : ∃ (s : State) (u : State) (d : DescRef) (x : Desc) (h : HostData),
    let src := x.q 2 + x.done
    let dst := x.q 4 + x.done
    let k := blockLen dst (x.q 6 - x.done)
    let fromDevice := (x.w 8).testBit 0 = true
    s.begin d tyCOPY = some (x, u) ∧ x.linkWriting = false ∧ u.blockGoes d.vf x = true ∧ (fromDevice → spaceOf src = spLink ∧
      x.linkSent = true ∨ ∃ f, Pinned u d.vf src k f) :=
  ⟨ringed 2 [dsc 1 [0x1000, 0, 0x2000, 0, 0x100, 0, 0]],
      (begun (ringed 2 [dsc 1 [0x1000, 0, 0x2000, 0, 0x100, 0, 0]]) tyCOPY).2, first,
      (begun (ringed 2 [dsc 1 [0x1000, 0, 0x2000, 0, 0x100, 0, 0]]) tyCOPY).1, { bytes := List.replicate 256 7 },
      by decide +kernel, by decide +kernel, by decide +kernel, fun h => absurd h (by decide +kernel)⟩

theorem witness_CopyAndFillBlocksComplete_5 : ∃ (s : State) (u : State) (d : DescRef) (x : Desc) (h : HostData),
    let src := x.q 2 + x.done
    let fromDevice := (x.w 8).testBit 0 = true
    s.begin d tyCOPY = some (x, u) ∧ fromDevice ∧ spaceOf src = spLink ∧ x.linkSent = false ∧ x.linkWriting = false :=
  ⟨ringed 2 [{ dsc 1 [0, 0xC000, 0x2000, 0, 0x100, 0, 1] with phase := .running, linkSent := false }],
      ringed 2 [{ dsc 1 [0, 0xC000, 0x2000, 0, 0x100, 0, 1] with phase := .running, linkSent := false }], first,
      { dsc 1 [0, 0xC000, 0x2000, 0, 0x100, 0, 1] with phase := .running, linkSent := false }, { bytes := [] },
      by decide +kernel⟩

theorem witness_CopyAndFillBlocksComplete_6 : ∃ (s : State) (u : State) (d : DescRef) (x : Desc) (h : HostData),
    s.begin d tyCOPY = some (x, u) ∧ x.linkWriting = true ∧ x.linkWait = 0 :=
  ⟨ringed 2 [{ dsc 1 [0x1000, 0, 0, 0xC000, 0x100, 0, 2] with phase := .running, linkWriting := true }],
      ringed 2 [{ dsc 1 [0x1000, 0, 0, 0xC000, 0x100, 0, 2] with phase := .running, linkWriting := true }], first,
      { dsc 1 [0x1000, 0, 0, 0xC000, 0x100, 0, 2] with phase := .running, linkWriting := true }, { bytes := [] },
      by decide +kernel⟩

theorem witness_CopyAndFillBlocksComplete_7 : ∃ (s : State) (u : State) (d : DescRef) (x : Desc) (h : HostData),
    s.begin d tyCOPY = some (x, u) ∧ x.linkWriting = true ∧ x.linkWait ≠ 0 :=
  ⟨ringed 2 [{ dsc 1 [0x1000, 0, 0, 0xC000, 0x100, 0, 2] with phase := .running, linkWriting := true, linkWait := 1 }],
      ringed 2 [{ dsc 1 [0x1000, 0, 0, 0xC000, 0x100, 0, 2] with phase := .running, linkWriting := true, linkWait := 1 }],
      first, { dsc 1 [0x1000, 0, 0, 0xC000, 0x100, 0, 2] with phase := .running, linkWriting := true, linkWait := 1 },
      { bytes := [] }, by decide +kernel⟩

theorem witness_FaultStopsComplete_1 : ∃ (n : Fin 32) (f : FaultReport) (more : List FaultReport) (s : State),
    f ∈ (s.rgn n).reports ∧ f.cause ≤ 8 ∧ (∀ g ∈ more, g.cause ≤ 8) ∧ s.rgnState n = rRUNNING ∧ (s.rgn n).reset = none ∧
      (s.rgn n).clearing = false ∧ (s.rgn n).pendingFences = [] :=
  ⟨1, { cause := 8 }, [{ cause := 8, core := 7 }], reported, by decide +kernel⟩

theorem witness_FaultStopsComplete_2 : ∃ (n : Fin 32) (l : Launch) (s : State),
    (s.rgn n).launch = some l ∧ l.watchdogUs ≠ 0 ∧ s.rgnState n = rRUNNING ∧ (s.rgn n).reset = none ∧
      (s.rgn n).clearing = false ∧ (s.rgn n).pendingFences = [] :=
  ⟨1, sentLaunch, launched sentLaunch, by decide +kernel⟩

theorem witness_FaultStopsComplete_3 : ∃ (n : Fin 32) (s : State),
    (s.rgn n).faultStop = true ∧ s.clocksOut n = false ∧ s.settle.coresDrained n = true ∧
      s.settle.net.any (s.settle.stopWaits n) = false ∧ (s.rgn n).pendingReset = none ∧
      s.fld (F.RGN_CONFIG_FAULT_ACTION n) = 0 ∧ (s.rgn n).clockLost = false :=
  ⟨1, controlled 4 { faultStop := true, launch := some sentLaunch }, by decide +kernel⟩

theorem witness_RegionResetsComplete_1 : ∃ (n : Fin 32) (s : State) (x : ResetRun),
    (s.rgn n).reset = some x ∧ x.drainEnd = none ∧ s.clocksOut n = false :=
  ⟨1, controlled 4 { reset := some { why := .command, toFree := false, start := 0 }, launch := some sentLaunch },
      { why := .command, toFree := false, start := 0 }, by decide +kernel⟩

theorem witness_RegionResetsComplete_2 : ∃ (n : Fin 32) (s : State) (x : ResetRun) (d : Nat),
    (s.rgn n).reset = some x ∧ x.drainEnd = some d ∧ x.toFree = false :=
  ⟨1, controlled 6 { reset := some { why := .command, toFree := false, start := 0, drainEnd := some 5 } },
      { why := .command, toFree := false, start := 0, drainEnd := some 5 }, 5, by decide +kernel⟩

theorem witness_RegionResetsComplete_3 : ∃ (n : Fin 32) (s : State) (x : ResetRun) (d : Nat),
    (s.rgn n).reset = some x ∧ x.drainEnd = some d ∧ x.toFree = true :=
  ⟨1, controlled 6 { reset := some { why := .command, toFree := true, start := 0, drainEnd := some 5 } },
      { why := .command, toFree := true, start := 0, drainEnd := some 5 }, 5, by decide +kernel⟩

theorem witness_RegionResetsComplete_4 : ∃ (n : Fin 32) (s : State),
    (s.rgn n).clearing = true ∧ s.clocksOut n = false ∧ (∀ i ∈ s.slicesOf n, s.chanHeld (channelOfSlice i) = false) :=
  ⟨1, controlled 6 { clearing := true }, by decide +kernel⟩

theorem witness_RegionResetsComplete_5 : ∃ (n : Fin 32) (s : State),
    s.vfExists n = true ∧ s.power.phase = .run ∧ 2 ≤ s.rgnState n ∧ (s.rgn n).reset = none ∧ (s.rgn n).faultStop = false ∧
      (s.rgn n).clearing = false :=
  ⟨1, region 3, by decide +kernel⟩

theorem witness_RegionResetsComplete_6 : ∃ (s : State),
    s.fld F.HOST_STATUS_VF_ENABLE = 1 ∧ s.power.phase = .run :=
  ⟨region 3, by decide +kernel⟩

theorem witness_RegionResetsComplete_7 : ∃ (n : Fin 32) (s : State),
    s.vfExists n = true ∧ (s.fn (n + 1)).memSpace = true ∧ s.fld F.PWR_STATE_STATE ≠ 2 ∧ s.fld F.PWR_STATE_M2_ENTERING = 0 :=
  ⟨1, vfs, by decide +kernel⟩

set_option maxRecDepth 20000 in
theorem witness_ImageLoadsComplete_1 : ∃ (d : DescRef) (im : HostData) (s : State) (u : State) (x : Desc),
    s.begin d tyLOAD = some (x, u) ∧ u.rgnState d.vf = rFAULTED :=
  ⟨first, { bytes := image 631401823 }, ringed 5 [dsc 3 [0x10000, 0, 4096, 0]],
      (begun (ringed 5 [dsc 3 [0x10000, 0, 4096, 0]]) tyLOAD).2, (begun (ringed 5 [dsc 3 [0x10000, 0, 4096, 0]]) tyLOAD).1,
      by decide +kernel⟩

set_option maxRecDepth 20000 in
theorem witness_ImageLoadsComplete_2 : ∃ (d : DescRef) (im : HostData) (s : State) (u : State) (x : Desc),
    let n := d.vf.val
    let b := hostBytes (x.q 2) (x.q 4) im.bytes
    let len := imageRead b (x.q 4)
    let bad := im.poisoned.any (· < len)
    s.begin d tyLOAD = some (x, u) ∧ u.rgnState n = rREADY ∧ u.isNext n x = true ∧ u.mayRequest (n + 1) = true ∧
      x.stage = 0 ∧ u.checkImage n (x.q 4) b bad ≠ 0 :=
  ⟨first, { bytes := image 0 }, ringed 2 [dsc 3 [0x10000, 0, 4096, 0]],
      (begun (ringed 2 [dsc 3 [0x10000, 0, 4096, 0]]) tyLOAD).2, (begun (ringed 2 [dsc 3 [0x10000, 0, 4096, 0]]) tyLOAD).1,
      by decide +kernel⟩

set_option maxRecDepth 20000 in
theorem witness_ImageLoadsComplete_3 : ∃ (d : DescRef) (im : HostData) (s : State) (u : State) (x : Desc),
    let n := d.vf.val
    let b := hostBytes (x.q 2) (x.q 4) im.bytes
    let len := imageRead b (x.q 4)
    let bad := im.poisoned.any (· < len)
    s.begin d tyLOAD = some (x, u) ∧ u.rgnState n = rREADY ∧ u.isNext n x = true ∧ u.mayRequest (n + 1) = true ∧
      x.stage = 0 ∧ u.checkImage n (x.q 4) b bad = 0 :=
  ⟨first, { bytes := image 631401823, poisoned := [304] }, ringed 2 [dsc 3 [0x10000, 0, 4096, 0]],
      (begun (ringed 2 [dsc 3 [0x10000, 0, 4096, 0]]) tyLOAD).2, (begun (ringed 2 [dsc 3 [0x10000, 0, 4096, 0]]) tyLOAD).1,
      by decide +kernel⟩

set_option maxRecDepth 20000 in
theorem witness_ImageLoadsComplete_4 : ∃ (d : DescRef) (im : HostData) (s : State) (u : State) (x : Desc),
    let n := d.vf.val
    s.begin d tyLOAD = some (x, u) ∧ u.rgnState n = rREADY ∧ u.isNext n x = true ∧ u.mayRequest (n + 1) = true ∧ x.stage = 1 :=
  ⟨first, { bytes := image 631401823 }, ringed 2 [{ dsc 3 [0x10000, 0, 4096, 0] with stage := 1 }],
      (begun (ringed 2 [{ dsc 3 [0x10000, 0, 4096, 0] with stage := 1 }]) tyLOAD).2,
      (begun (ringed 2 [{ dsc 3 [0x10000, 0, 4096, 0] with stage := 1 }]) tyLOAD).1, by decide +kernel⟩

set_option maxRecDepth 20000 in
theorem witness_ImageLoadsComplete_5 : ∃ (d : DescRef) (im : HostData) (s : State) (u : State) (x : Desc),
    let n := d.vf.val
    let b := hostBytes (x.q 2) (x.q 4) im.bytes
    let len := imageRead b (x.q 4)
    let bad := im.poisoned.any (· < len)
    s.begin d tyLOAD = some (x, u) ∧ u.rgnState n = rREADY ∧ u.isNext n x = true ∧ u.mayRequest (n + 1) = true ∧
      x.stage = 2 ∧ bad = false :=
  ⟨first, { bytes := image 631401823 }, ringed 2 [{ dsc 3 [0x10000, 0, 4096, 0] with stage := 2 }],
      (begun (ringed 2 [{ dsc 3 [0x10000, 0, 4096, 0] with stage := 2 }]) tyLOAD).2,
      (begun (ringed 2 [{ dsc 3 [0x10000, 0, 4096, 0] with stage := 2 }]) tyLOAD).1, by decide +kernel⟩

set_option maxRecDepth 20000 in
theorem witness_ImageLoadsComplete_6 : ∃ (d : DescRef) (im : HostData) (s : State) (u : State) (x : Desc),
    let n := d.vf.val
    let b := hostBytes (x.q 2) (x.q 4) im.bytes
    let len := imageRead b (x.q 4)
    let bad := im.poisoned.any (· < len)
    s.begin d tyLOAD = some (x, u) ∧ u.rgnState n = rREADY ∧ u.isNext n x = true ∧ u.mayRequest (n + 1) = true ∧
      x.stage = 2 ∧ bad = true :=
  ⟨first, { bytes := image 631401823, poisoned := [303] }, ringed 2 [{ dsc 3 [0x10000, 0, 4096, 0] with stage := 2 }],
      (begun (ringed 2 [{ dsc 3 [0x10000, 0, 4096, 0] with stage := 2 }]) tyLOAD).2,
      (begun (ringed 2 [{ dsc 3 [0x10000, 0, 4096, 0] with stage := 2 }]) tyLOAD).1, by decide +kernel⟩

theorem witness_LaunchesComplete_1 : ∃ (d : DescRef) (s : State) (u : State) (x : Desc),
    s.begin d tyLAUNCH = some (x, u) ∧ u.rgnState d.vf = rFAULTED :=
  ⟨first, ringed 5 [dsc 4 [2]], (begun (ringed 5 [dsc 4 [2]]) tyLAUNCH).2, (begun (ringed 5 [dsc 4 [2]]) tyLAUNCH).1,
      by decide +kernel⟩

theorem witness_LaunchesComplete_2 : ∃ (d : DescRef) (s : State) (u : State) (x : Desc),
    s.begin d tyLAUNCH = some (x, u) ∧ u.rgnState d.vf = rREADY ∧ u.isNext d.vf x = true ∧ (u.rgn d.vf).image = none :=
  ⟨first, ringed 2 [dsc 4 [2]], (begun (ringed 2 [dsc 4 [2]]) tyLAUNCH).2, (begun (ringed 2 [dsc 4 [2]]) tyLAUNCH).1,
      by decide +kernel⟩

theorem witness_LaunchesComplete_3 : ∃ (d : DescRef) (s : State) (u : State) (x : Desc),
    s.begin d tyLAUNCH = some (x, u) ∧ u.rgnState d.vf = rREADY ∧ u.isNext d.vf x = true ∧ (u.rgn d.vf).image ≠ none ∧
      u.someGated d.vf = true :=
  ⟨first, gated, (begun (gated) tyLAUNCH).2, (begun (gated) tyLAUNCH).1, by decide +kernel⟩

theorem witness_LaunchesComplete_4 : ∃ (n : Fin 32) (s : State) (l : Launch) (im : Image),
    (s.rgn n).launch = some l ∧ (s.rgn n).image = some im ∧ l.checking = true ∧ s.rgnState n = rRUNNING ∧
      im.decls.any (s.rulesHeld n) = false ∧ (s.checkRuleBooks n im.decls).1 = none :=
  ⟨1, launched { sentLaunch with sent := false, checking := true }, { sentLaunch with sent := false, checking := true },
      loaded, by decide +kernel⟩

theorem witness_LaunchesComplete_5 : ∃ (n : Fin 32) (s : State) (l : Launch),
    (s.rgn n).launch = some l ∧ l.sent = true ∧ s.rgnState n = rRUNNING ∧ l.inFrame = false ∧ s.allEnded n = true ∧
      s.channelsAtRest n = true :=
  ⟨1, { launched sentLaunch with cores := [(0, { hasProgram := true, status := .ended })] }, sentLaunch, by decide +kernel⟩

theorem witness_FramesAndIslandsComplete_1 : ∃ (n : Fin 32) (s : State) (l : Launch) (im : Image),
    (s.rgn n).launch = some l ∧ (s.rgn n).image = some im ∧ s.rgnState n = rRUNNING ∧ l.sent = true ∧ l.inFrame = false ∧
      s.nextFrame n < l.frames ∧ s.gateHolds n = true ∧ s.allEnded n = false ∧ s.waitOver l = true ∧ s.clocksOut n = false :=
  ⟨1, waiting, sentLaunch, loaded, by decide +kernel⟩

theorem witness_FramesAndIslandsComplete_2 : ∃ (n : Fin 32) (s : State) (l : Launch),
    (s.rgn n).launch = some l ∧ l.inFrame = true ∧ s.clocksOut n = false ∧ (s.rgn n).pendingFences = [] ∧
      (∀ im, (s.rgn n).image = some im → s.setFits n im (s.fld (F.SCH_IMG_STATE_SET_IN_FORCE n)) = true) :=
  ⟨1, launched { sentLaunch with inFrame := true }, { sentLaunch with inFrame := true }, by decide +kernel,
      by decide +kernel, by decide +kernel, by decide +kernel, fun im h => by
    obtain rfl : loaded = im := Option.some.inj h
    decide +kernel⟩

theorem witness_FramesAndIslandsComplete_3 : ∃ (i : Fin 32) (n : Fin 32) (cs : List Crossing) (s : State),
    s.ownerOf ((tilesOfIsland i).headD 0) = some n.val ∧ s.bitAt F.CLK_ISLAND_POWERED i = false ∧ s.power.halves = true ∧
      s.wantsIslands n = true :=
  ⟨1, 1, [], with_ (launched { sentLaunch with sent := false }) [(F.CLK_ISLAND_POWERED, 1)], by decide +kernel⟩

theorem witness_FramesAndIslandsComplete_4 : ∃ (n : Fin 32) (s : State),
    s.rgnState n ∈ [rREADY, rFAULTED] ∧ s.launchQueued n = false ∧ s.bitAt F.PWR_ISLAND_HOLD_HOLD n = false ∧
      s.wantsIslands n = false ∧ (∃ i ∈ s.islandsOf n, s.bitAt F.CLK_ISLAND_POWERED i = true) :=
  ⟨1, { controlled 2 { image := some loaded } with cores := [(0, { hasProgram := true })] }, by decide +kernel⟩

theorem witness_FramesAndIslandsComplete_5 : ∃ (n : Fin 32) (s : State) (l : Launch) (im : Image) (h : HostData),
    (s.rgn n).launch = some l ∧ (s.rgn n).image = some im ∧ l.sent = false ∧ s.rgnState n = rRUNNING ∧
      s.someGated n = false ∧ (s.rgn n).needRebuild = true ∧ s.mayRequest (n + 1) = true ∧ (∀ k ∈ h.poisoned, im.bytes ≤ k) ∧
      crcHolds (hostBytes im.hostAddr im.bytes h.bytes) im.bytes = true :=
  ⟨1, rebuilding, { sentLaunch with sent := false }, loaded,
      { bytes := List.replicate 12 0 ++ toBytes 4 1114675946, poisoned := [16] }, by decide +kernel⟩

theorem witness_FramesAndIslandsComplete_6 : ∃ (n : Fin 32) (s : State),
    s.bitAt F.DYN_QUIESCING_QUIESCING n = true ∧ s.settle.inPlane n = false ∧ (s.rgn n).pendingFences = [] :=
  ⟨1, with_ (region 3) [(F.DYN_QUIESCING_QUIESCING, 2)], by decide +kernel⟩

theorem witness_SupplyEventsComplete_1 : ∃ (mv : BitVec 16) (ma : BitVec 16) (s : State),
    s.power.phase ≠ .off :=
  ⟨44000, 65535, { run with time := 2 ^ 48 - 1 }, by decide +kernel⟩

theorem witness_SupplyEventsComplete_2 : ∃ (mv : BitVec 16) (ma : BitVec 16) (s : State),
    s.power.phase = .run ∧ s.on F.PWR_ERR_METER_FAIL = false ∧ s.fld F.PWR_LOSS_SAMPLES ≤ s.supply.lossRun.count + 1 ∧
      mv.toNat < s.fld F.PWR_LOSS_MV :=
  ⟨29999, 10, { run with supply := { lossRun := { count := 0xFFFF } } }, by decide +kernel⟩

theorem witness_SupplyEventsComplete_3 : ∃ (mv : BitVec 16) (ma : BitVec 16) (s : State),
    s.power.phase = .run ∧ 0 < s.fld F.PWR_LOSS_SAMPLES ∧ s.fld F.PWR_LOSS_MV ≤ mv.toNat :=
  ⟨30000, 10, run, by decide +kernel⟩

theorem witness_SupplyEventsComplete_4 : ∃ (s : State),
    s.power.phase ≠ .off :=
  ⟨run, by decide +kernel⟩

theorem witness_SupplyEventsComplete_5 : ∃ (s : State),
    s.power.phase ≠ .off ∧ s.on F.PWR_ERR_METER_FAIL = false :=
  ⟨with_ run [(F.PWR_STATUS_METER_OK, 1), (F.PWR_STATUS_SAG_ACTIVE, 1)], by decide +kernel⟩

theorem witness_SupplyEventsComplete_6 : ∃ (l : List (BitVec 8)) (s : State),
    s.power.phase ≠ .off :=
  ⟨List.replicate 15 40 ++ [90], run, by decide +kernel⟩

theorem witness_SupplyEventsComplete_7 : ∃ (k : Fin 8) (c : BitVec 8) (s : State),
    s.power.phase ≠ .off :=
  ⟨7, 105, with_ run [(F.HBM_STATUS_TEMP_HOT 7, 1)], by decide +kernel⟩

theorem witness_LossCompletes_1 : ∃ (s : State),
    s.power.phase = .run :=
  ⟨with_ (region 3) [(F.PWR_STATUS_LG_ARMED, 1)], by decide +kernel⟩

theorem witness_LossCompletes_2 : ∃ (s : State),
    s.power.phase = .run ∧ s.on F.PWR_ERR_METER_FAIL = true :=
  ⟨with_ run [(F.PWR_ERR_METER_FAIL, 1)], by decide +kernel⟩

theorem witness_LossCompletes_3 : ∃ (s : State),
    s.power.phase = .loss ∧ s.power.lastGasp = true :=
  ⟨lost true, by decide +kernel⟩

theorem witness_LossCompletes_4 : ∃ (s : State),
    s.power.phase = .loss ∧ s.power.lastGasp = false :=
  ⟨lost false, by decide +kernel⟩

theorem witness_FacilityHaltCompletes_1 : ∃ (s : State),
    s.power.phase = .run ∧ s.power.releasing = false ∧ s.fld F.PWR_FHALT_STATUS_HALTING = 0 ∧
      s.fld F.PWR_FHALT_STATUS_HALTED = 0 :=
  ⟨region 3, by decide +kernel⟩

theorem witness_FacilityHaltCompletes_2 : ∃ (a : Bool) (s : State),
    s.power.phase ≠ .off ∧ s.fhalt.aloneMs + 1 ≤ s.fld F.PWR_FHALT_CTRL_TD_MS :=
  ⟨true, { run with fhalt := { aloneMs := 199 } }, by decide +kernel⟩

theorem witness_FacilityHaltCompletes_3 : ∃ (a : Bool) (s : State),
    s.power.phase = .run ∧ s.power.releasing = false ∧ s.fld F.PWR_FHALT_STATUS_HALTING = 0 ∧
      s.fld F.PWR_FHALT_STATUS_HALTED = 0 ∧ s.fld F.PWR_FHALT_CTRL_TD_MS < s.fhalt.aloneMs + 1 :=
  ⟨false, { region 3 with fhalt := { aloneMs := 200 } }, by decide +kernel⟩

theorem witness_FacilityHaltCompletes_4 : ∃ (s : State),
    s.fld F.PWR_FHALT_STATUS_HALTING = 1 ∧ s.drained = true ∧ s.flushWaits = false ∧ s.power.heldWrites = [] :=
  ⟨with_ run [(F.PWR_FHALT_STATUS_HALTING, 1)], by decide +kernel⟩

theorem witness_FacilityHaltCompletes_5 : ∃ (w : DwWrite) (cs : List Crossing) (s : State),
    s.power.phase = .run ∧ (s.fn 0).memSpace = true ∧ s.power.heldWrites = [] ∧ s.fld F.PWR_STATE_STATE = 3 ∧
      s.releaseAccepted = true ∧ PlainWrite w R.PWR_FHALT_CTRL ∧ w.data.getLsbD 31 = true ∧ 20 ≤ bitsOf w.data.toNat 0 11 ∧
      bitsOf w.data.toNat 0 11 ≤ 2000 :=
  ⟨dw 0x800007D0, [], halted, by decide +kernel⟩

theorem witness_FacilityHaltCompletes_6 : ∃ (p : PowerUp) (s : State),
    s.power.phase = .run ∧ s.power.releasing = true ∧ s.fhalt.held = false :=
  ⟨{}, { halted with power := { halted.power with halves := true, releasing := true } }, by decide +kernel⟩

theorem witness_SleepAndWakeComplete_1 : ∃ (l : List (Fin 32 × PollRead)) (s : State) (u : State),
    s.power.phase = .run ∧ s.fld F.PWR_STATE_M2_ENTERING = 1 ∧ s.flushWaits = false ∧ s.power.wakeLatched = none ∧
      s.pollAll l = (true, u) :=
  ⟨[(1, { result := .timeout })], with_ (ringed 2 []) [(F.PWR_STATE_M2_ENTERING, 1)],
      ((with_ (ringed 2 []) [(F.PWR_STATE_M2_ENTERING, 1)]).pollAll [(1, { result := .timeout })]).2, by decide +kernel⟩

theorem witness_SleepAndWakeComplete_2 : ∃ (l : List (Fin 32 × PollRead)) (s : State) (u : State),
    s.power.phase = .run ∧ s.fld F.PWR_STATE_M2_ENTERING = 1 ∧ s.flushWaits = false ∧ s.power.wakeLatched = none ∧
      s.pollAll l = (false, u) :=
  ⟨[], with_ (controlled 2 { image := some loaded }) [(F.PWR_STATE_M2_ENTERING, 1)],
      with_ (controlled 2 { image := some loaded }) [(F.PWR_STATE_M2_ENTERING, 1)], by decide +kernel⟩

theorem witness_SleepAndWakeComplete_3 : ∃ (s : State),
    s.power.phase = .run ∧ s.fld F.PWR_STATE_STATE = 2 ∧ s.power.waking = false :=
  ⟨asleep, by decide +kernel⟩

theorem witness_SleepAndWakeComplete_4 : ∃ (l : List (Fin 32 × PollRead)) (s : State) (u : State) (found : Bool),
    s.power.phase = .run ∧ s.fld F.PWR_STATE_STATE = 2 ∧ s.power.waking = false ∧ s.fld F.PWR_FHALT_STATUS_HALTING = 0 ∧
      (s.driveClkreq true).pollAll l = (found, u) :=
  ⟨[(1, { result := .timeout })], with_ (ringed 2 []) [(F.PWR_STATE_STATE, 2)],
      (((with_ (ringed 2 []) [(F.PWR_STATE_STATE, 2)]).driveClkreq true).pollAll [(1, { result := .timeout })]).2, true,
      by decide +kernel⟩

theorem witness_SleepAndWakeComplete_5 : ∃ (c : WakeCause) (cs : List Crossing) (s : State),
    s.power.phase = .run ∧ s.fld F.PWR_STATE_STATE = 2 ∧ s.power.waking = false ∧ s.fld F.PWR_FHALT_STATUS_HALTING = 0 :=
  ⟨.managementRequest, [{ tile := 96, dynamicPlane := true, retrained := false }], asleep, by decide +kernel⟩

theorem witness_SleepAndWakeComplete_6 : ∃ (p : PowerUp) (s : State),
    s.power.phase = .run ∧ s.power.waking = true ∧ s.power.heldWrites = [] :=
  ⟨{}, { asleep with power := { asleep.power with waking := true, wakeCode := 3 } }, by decide +kernel⟩

theorem witness_WarmResetsAndBringUpComplete_1 : ∃ (p : PowerUp) (s : State),
    s.power.phase = .warmReset ∧ s.power.warmDue = true :=
  ⟨{}, warm true, by decide +kernel⟩

theorem witness_WarmResetsAndBringUpComplete_2 : ∃ (s : State),
    s.power.phase = .warmReset ∧ s.power.warmDue = false ∧ s.power.fromM3 = false ∧ s.fhalt.held = false :=
  ⟨warm false, by decide +kernel⟩

theorem witness_WarmResetsAndBringUpComplete_3 : ∃ (p : PowerUp) (s : State),
    s.power.phase = .off ∧ s.flash.bscan = true :=
  ⟨{}, { flash := { bscan := true } }, by decide +kernel⟩

theorem witness_WarmResetsAndBringUpComplete_4 : ∃ (p : PowerUp) (s : State),
    s.power.phase = .off ∧ s.flash.bscan = false ∧ s.bootSlot = none :=
  ⟨{}, { flash := { slotA := { signatureOk := false }, slotB := { signatureOk := false } } }, by decide +kernel⟩

theorem witness_WarmResetsAndBringUpComplete_5 : ∃ (b : Bool) (p : PowerUp) (s : State),
    s.power.phase = .off ∧ s.flash.bscan = false ∧ s.bootSlot = some b :=
  ⟨true, {}, { flash := { slotA := { signatureOk := false } } }, by decide +kernel⟩

theorem witness_WarmResetsAndBringUpComplete_6 : ∃ (s : State),
    s.power.phase = .bringUp ∧ s.power.boardTest = false ∧ s.fhalt.held = false :=
  ⟨{ power := { phase := .bringUp, pwrgd := true, halves := true }, flash := { torn := 2 } }, by decide +kernel⟩

theorem witness_ClockEventsComplete_1 : ∃ (s : State),
    s.power.halves = true ∧ s.shedRequest = true ∧ s.fld F.CLK_STATUS_SHED = 0 :=
  ⟨with_ run [(F.CLK_SHED_FORCE_SHED, 1), (F.CLK_SHED_SHED_COUNT, 0xFFFF)], by decide +kernel⟩

theorem witness_ClockEventsComplete_2 : ∃ (s : State),
    s.fld F.CLK_STATUS_SHED = 1 ∧ s.shedRequest = false :=
  ⟨with_ run [(F.CLK_STATUS_SHED, 1)], by decide +kernel⟩

theorem witness_ClockEventsComplete_3 : ∃ (s : State),
    s.fld F.CLK_STATUS_SLEWING = 1 :=
  ⟨with_ run [(F.CLK_STATUS_SLEWING, 1), (F.CLK_TILE_FREQ_VESPER_MULT, 30)], by decide +kernel⟩

theorem witness_ClockEventsComplete_4 : ∃ (c : BitVec 20) (s : State),
    s.power.phase ≠ .off :=
  ⟨64001, run, by decide +kernel⟩

theorem witness_ClockEventsComplete_5 : ∃ (s : State),
    s.power.phase ≠ .off :=
  ⟨run, by decide +kernel⟩

theorem witness_ClockEventsComplete_6 : ∃ (s : State),
    s.power.waking = true :=
  ⟨{ asleep with power := { asleep.power with waking := true } }, by decide +kernel⟩

theorem witness_ClockEventsComplete_7 : ∃ (h : Half) (s : State),
    s.power.halves = true ∧ s.stopped h = false :=
  ⟨.west, run, by decide +kernel⟩

theorem witness_ClockEventsComplete_8 : ∃ (h : Half) (s : State),
    s.power.halves = true ∧ s.stopped h = true :=
  ⟨.east, { run with power := { run.power with eastStopped := true } }, by decide +kernel⟩

theorem witness_ClockEventsComplete_9 : ∃ (p : Pll) (s : State),
    s.power.phase ≠ .off :=
  ⟨.link, run, by decide +kernel⟩

theorem witness_ClockEventsComplete_10 : ∃ (w : BitVec 5) (v : BitVec 4) (s : State),
    s.pcieReleased = true ∧ s.power.perst = false ∧ w.toNat ∈ [1, 4, 8, 16] ∧ 1 ≤ v.toNat ∧ v.toNat ≤ 6 :=
  ⟨16, 6, run, by decide +kernel⟩

theorem witness_ClockEventsComplete_11 : ∃ (s : State),
    s.power.phase ≠ .off ∧ s.power.phase ≠ .recovery ∧ s.vesperRuns = true :=
  ⟨{ alive with time := 2 ^ 48 - 1 }, by decide +kernel⟩

theorem witness_ClockEventsComplete_12 : ∃ (s : State),
    s.power.phase ≠ .off ∧ s.vesperRuns = false :=
  ⟨run, by decide +kernel⟩

theorem witness_PortWritesComplete_1 : ∃ (p : Fin 4) (w : DwWrite) (s : State),
    s.Serves ∧ PlainWrite w (R.HL_CTRL p) ∧ bitsOf w.data.toNat 4 2 ≤ 2 ∧ w.data.getLsbD 0 = true ∧
      s.fld (F.HL_CTRL_ENABLE p) = 0 ∧ s.portFenced p = false ∧ s.linkState p = lDISABLED :=
  ⟨3, dw 0x21, run, by decide +kernel⟩

theorem witness_PortWritesComplete_2 : ∃ (p : Fin 4) (w : DwWrite) (s : State),
    s.Serves ∧ PlainWrite w (R.HL_CTRL p) ∧ bitsOf w.data.toNat 4 2 ≤ 2 ∧ w.data.getLsbD 0 = false ∧
      s.fld (F.HL_CTRL_ENABLE p) = 1 ∧ ((s.portRegion p).all fun n => s.rgnState n != rRUNNING) = true ∧
      s.linkState p ≠ lDISABLED :=
  ⟨3, dw 0x20, with_ run [(F.HL_CTRL_ENABLE 3, 1), (F.HL_STATUS_STATE 3, 1)], by decide +kernel⟩

theorem witness_PortWritesComplete_3 : ∃ (p : Fin 4) (w : DwWrite) (s : State),
    s.Serves ∧ PlainWrite w (R.HL_ASSIGN p) ∧ w.data.getLsbD 8 = true ∧ s.portRegion p = none ∧
      s.vfExists (bitsOf w.data.toNat 0 5) = true ∧ s.rgnState (bitsOf w.data.toNat 0 5) = rCONFIGURING ∧
      s.portFits (bitsOf w.data.toNat 0 5) p = true :=
  ⟨1, dw 0x101, region 1, by decide +kernel⟩

theorem witness_PortWritesComplete_4 : ∃ (p : Fin 4) (w : DwWrite) (s : State) (n : _),
    s.Serves ∧ PlainWrite w (R.HL_ASSIGN p) ∧ w.data.getLsbD 8 = false ∧ s.portRegion p = some n ∧ s.vfExists n = true ∧
      s.rgnState n = rCONFIGURING :=
  ⟨1, dw 0, with_ (region 1) [(F.HL_ASSIGN_VALID 1, 1), (F.HL_ASSIGN_REGION 1, 1)], 1, by decide +kernel⟩

theorem witness_LinkTrainingCompletes_1 : ∃ (p : Fin 4) (r : TrainResult) (s : State) (g : LaneGroup),
    s.linkState p = lTRAINING ∧ (s.port p).attempt = true ∧ s.linkClocks = true ∧ s.portFenced p = false ∧
      r.partnerFabric.toNat = s.fld F.HL_MODULE_FABRIC_ID ∧ r.partnerModule.toNat ≠ s.fld F.HL_MODULE_MODULE_ID ∧
      s.chooseWidth p r.lanesGood.toNat 0 = some g :=
  ⟨3, { lanesGood := 0xF000, partnerModule := 1, resumes := true }, with_ (port3 1) [(F.HL_CTRL_MIN_WIDTH 3, 2)], topLanes,
      by decide +kernel⟩

theorem witness_LinkTrainingCompletes_2 : ∃ (p : Fin 4) (r : TrainResult) (s : State),
    s.linkState p = lTRAINING ∧ (s.port p).attempt = true ∧ s.linkClocks = true ∧ s.portFenced p = false ∧
      (r.partnerFabric.toNat ≠ s.fld F.HL_MODULE_FABRIC_ID ∨ r.partnerModule.toNat = s.fld F.HL_MODULE_MODULE_ID) :=
  ⟨3, { partnerFabric := 0xFFF, partnerModule := 1 }, port3 1, by decide +kernel⟩

theorem witness_LinkTrainingCompletes_3 : ∃ (p : Fin 4) (s : State),
    s.linkState p = lTRAINING ∧ (s.port p).attempt = true :=
  ⟨3, port3 1, by decide +kernel⟩

theorem witness_LinkTrainingCompletes_4 : ∃ (p : Fin 4) (s : State),
    s.linkState p = lTRAINING ∧ (s.port p).attempt = false ∧ s.fld (F.HL_CTRL_ENABLE p) = 1 :=
  ⟨3, with_ { port3 1 with ports := [] } [(F.HL_CTRL_ENABLE 3, 1)], by decide +kernel⟩

theorem witness_LinkTrainingCompletes_5 : ∃ (p : Fin 4) (lanes : BitVec 16) (s : State),
    s.linkState p = lUP :=
  ⟨3, 0x8001, port3 2, by decide +kernel⟩

theorem witness_LinkTrainingCompletes_6 : ∃ (p : Fin 4) (l : List (BitVec 16)) (s : State),
    s.linkState p = lUP ∧ (∃ i ∈ s.lanesInUse p, s.fld (F.HL_LANE_LIMIT_LANE_ERR_LIMIT p) < (l.getD i 0).toNat) :=
  ⟨3, List.replicate 15 0 ++ [0xFFFF], port3 2, by decide +kernel⟩

theorem witness_LinkTrainingCompletes_7 : ∃ (p : Fin 4) (lanes : BitVec 16) (s : State) (g : LaneGroup),
    s.linkState p = lRETRAINING ∧ s.chooseWidth p lanes.toNat (s.port p).badLanes = some g :=
  ⟨3, 0xF000, port3 3, topLanes, by decide +kernel⟩

theorem witness_LinkTrainingCompletes_8 : ∃ (p : Fin 4) (lanes : BitVec 16) (s : State),
    s.linkState p = lRETRAINING :=
  ⟨3, 0, port3 3, by decide +kernel⟩

theorem witness_LinkTrainingCompletes_9 : ∃ (p : Fin 4) (s : State),
    (s.port p).disabling = true ∧ s.fld (F.HL_CTRL_ENABLE p) = 0 :=
  ⟨3, { port3 2 with ports := [(3, { disabling := true })] }, by decide +kernel⟩

theorem witness_LinkTrainingCompletes_10 : ∃ (p : Fin 4) (s : State),
    (s.port p).disabling = true ∧ s.fld (F.HL_CTRL_ENABLE p) = 1 :=
  ⟨3, with_ { port3 2 with ports := [(3, { disabling := true })] } [(F.HL_CTRL_ENABLE 3, 1)], by decide +kernel⟩

theorem witness_FlitsComplete_1 : ∃ (p : Fin 4) (f : Flit) (s : State),
    s.linkState p = lUP ∧ f.uncorrectable = false ∧ f.crcOk = true ∧ f.formatOk = true ∧ f.isData = true ∧ f.nak = false ∧
      f.seq.toNat = ((s.port p).lastRx + 1) % 4096 :=
  ⟨1, { seq := 0, packets := [{ kind := .credit }], creditsReq := 40, creditsRsp := 3 }, linked 3, by decide +kernel⟩

theorem witness_FlitsComplete_2 : ∃ (p : Fin 4) (f : Flit) (s : State),
    s.linkState p = lUP ∧ (f.uncorrectable = true ∨ f.crcOk = false ∨ f.formatOk = false) :=
  ⟨1, { formatOk := false }, linked 3, by decide +kernel⟩

theorem witness_FlitsComplete_3 : ∃ (p : Fin 4) (s : State),
    s.linkState p = lUP ∧ (s.port p).replay ≠ [] ∧ (s.port p).stuck < 7 :=
  ⟨1, { linked 3 with ports := [(1, { replay := [{ seq := 0, pkt := { kind := .ack } }], stuck := 6 })] }, by decide +kernel⟩

theorem witness_PartnerRequestsComplete_1 : ∃ (port : Fin 4) (p : LinkPacket) (s : State) (code : _) (i : _),
    s.headOf port p = true ∧ s.power.halves = true ∧ CanAnswer s port ∧ s.refusal port p = some code ∧
      (p.kind, i) ∈ [(PacketKind.read, Instr.linkRead port p), (.write, .linkWrite port p), (.atomic, .linkAtomic port p)] :=
  ⟨1, { linkReadOf with space := 3 }, received 3 ({ linkReadOf with space := 3 }), 3,
      .linkRead 1 ({ linkReadOf with space := 3 }), by decide +kernel⟩

theorem witness_PartnerRequestsComplete_2 : ∃ (port : Fin 4) (p : LinkPacket) (s : State) (n : _) (a : _),
    s.headOf port p = true ∧ s.power.halves = true ∧ CanAnswer s port ∧ s.refusal port p = none ∧
      s.portRegion port = some n ∧ s.localAddr n p = some a ∧ p.kind = .read ∧ LinkServes s port p n a p.size ∧
      s.rangeHeld n cLINKIN a p.size = false :=
  ⟨1, linkReadOf, received 3 linkReadOf, 1, 2 ^ 46 + 0xFF0, by decide +kernel⟩

theorem witness_PartnerRequestsComplete_3 : ∃ (port : Fin 4) (p : LinkPacket) (s : State) (n : _) (a : _) (i : _) (b : _),
    s.headOf port p = true ∧ s.power.halves = true ∧ CanAnswer s port ∧ s.refusal port p = none ∧
      s.portRegion port = some n ∧ s.localAddr n p = some a ∧ p.kind = .write ∧ LinkServes s port p n a p.bytes.length ∧
      s.rangeShut n a p.bytes.length = false ∧ s.locate n a = .pinned i b ∧ a % 64 = 0 ∧ p.bytes.length ≤ 64 ∧
      p.poison = [] ∧ b + 64 ≤ 0x600000 :=
  ⟨1, linkWriteOf, received 3 linkWriteOf, 1, 2 ^ 46, 0, 0, by decide +kernel⟩

theorem witness_PartnerRequestsComplete_4 : ∃ (port : Fin 4) (p : LinkPacket) (s : State) (n : _) (a : _) (i : _) (b : _),
    s.headOf port p = true ∧ s.power.halves = true ∧ CanAnswer s port ∧ s.refusal port p = none ∧
      s.portRegion port = some n ∧ s.localAddr n p = some a ∧ p.kind = .atomic ∧ s.crosses n port a = true ∧
      s.stopTurn (s.linkStop port p n a) = true ∧ s.pieceHeld n cLINKIN a (atomBytes (linkAfmt p)) = false ∧
      s.locate n a = .pinned i b ∧ p.poison = [] :=
  ⟨1, linkAtomicOf, received 3 linkAtomicOf, 1, 2 ^ 46 + 8, 0, 8, by decide +kernel⟩

theorem witness_PartnerAnswersComplete_1 : ∃ (port : Fin 4) (p : LinkPacket) (s : State) (n : _) (k : _) (c : _) (dst : _) (col : _),
    s.headOf port p = true ∧ p.kind = .message ∧ s.portRegion port = some n ∧ s.inChannel n port p.chan = some (k, c) ∧
      s.rgnState n = rRUNNING ∧ p.epoch = smGet (s.port port).inEpoch 0 p.chan ∧ ((∃ g q, c.dst = .core g q ∧
      dst = Agent.core g ∧ col = tileX (tileOfCore g)) ∨ (∃ i q d, c.dst = .cq i q d ∧ dst = Agent.slice i ∧ col = i % 16)) :=
  ⟨1, { kind := .message, chan := 200, bytes := List.replicate 16 3 },
      inbound { kind := .message, chan := 200, bytes := List.replicate 16 3 }, 1, 0,
      { credit := false, credits := 0, src := .link 1 200, dst := .core 0 3 }, .core 0, tileX (tileOfCore 0),
      by decide +kernel, by decide +kernel, by decide +kernel, by decide +kernel, by decide +kernel, by decide +kernel,
      .inl ⟨0, 3, rfl, rfl, rfl⟩⟩

theorem witness_PartnerAnswersComplete_2 : ∃ (port : Fin 4) (p : LinkPacket) (s : State) (n : _) (k : _) (c : _),
    s.headOf port p = true ∧ p.kind = .message ∧ s.portRegion port = some n ∧ s.inChannel n port p.chan = some (k, c) ∧
      (s.rgnState n ≠ rRUNNING ∨ p.epoch ≠ smGet (s.port port).inEpoch 0 p.chan) :=
  ⟨1, { kind := .message, chan := 200, epoch := 1, bytes := List.replicate 16 3 },
      inbound ({ kind := .message, chan := 200, epoch := 1, bytes := List.replicate 16 3 }), 1, 0,
      { credit := false, credits := 0, src := .link 1 200, dst := .core 0 3 }, by decide +kernel⟩

theorem witness_PartnerAnswersComplete_3 : ∃ (port : Fin 4) (p : LinkPacket) (s : State),
    s.headOf port p = true ∧ p.kind = .credit ∧ p.set = true :=
  ⟨1, { kind := .credit, chan := 200, set := true, count := 8, epoch := 2 },
      received 3 ({ kind := .credit, chan := 200, set := true, count := 8, epoch := 2 }), by decide +kernel⟩

theorem witness_PartnerAnswersComplete_4 : ∃ (port : Fin 4) (p : LinkPacket) (s : State),
    s.headOf port p = true ∧ p.kind = .credit ∧ p.set = false ∧ p.epoch = smGet (s.port port).outEpoch 0 p.chan :=
  ⟨1, { kind := .credit, chan := 200, count := 8 }, received 3 ({ kind := .credit, chan := 200, count := 8 }),
      by decide +kernel⟩

theorem witness_PartnerAnswersComplete_5 : ∃ (port : Fin 4) (p : LinkPacket) (s : State) (q : Packet) (g : Nat),
    let fetched := q.kind = .read ∨ q.kind = .atomic ∧ q.ret = true
    let o := if q.kind = .atomic then 0 else q.addr % 16
    s.headOf port p = true ∧ (s.port port).flight.find? (fun q => q.id % 65536 == p.tag) = some q ∧ q.src = .core g ∧
      q.dst = .port port ∧ q.region < 32 ∧ s.cutOff q.region (tileOfCore g) = false ∧ p.kind = .data ∧ fetched ∧
      o + q.size ≤ p.bytes.length :=
  ⟨1, { kind := .data, tag := 7, bytes := (List.range 16).map (BitVec.ofNat 8) },
      answered { kind := .data, tag := 7, bytes := (List.range 16).map (BitVec.ofNat 8) } (asked .read), asked .read, 0,
      by decide +kernel⟩

theorem witness_PartnerAnswersComplete_6 : ∃ (port : Fin 4) (p : LinkPacket) (s : State) (q : Packet) (g : Nat),
    let wrote := q.kind = .write ∨ q.kind = .atomic ∧ q.ret = false
    s.headOf port p = true ∧ (s.port port).flight.find? (fun q => q.id % 65536 == p.tag) = some q ∧ q.src = .core g ∧
      q.dst = .port port ∧ q.region < 32 ∧ s.cutOff q.region (tileOfCore g) = false ∧ p.kind = .ack ∧ wrote :=
  ⟨1, { kind := .ack, tag := 7 }, answered { kind := .ack, tag := 7 } (asked .write), asked .write, 0, by decide +kernel⟩

theorem witness_PartnerAnswersComplete_7 : ∃ (port : Fin 4) (p : LinkPacket) (s : State) (q : Packet) (g : Nat),
    s.headOf port p = true ∧ (s.port port).flight.find? (fun q => q.id % 65536 == p.tag) = some q ∧ q.src = .core g ∧
      q.dst = .port port ∧ q.region < 32 ∧ s.cutOff q.region (tileOfCore g) = false ∧ p.kind = .error :=
  ⟨1, { kind := .error, tag := 7, code := 3 }, answered { kind := .error, tag := 7, code := 3 } (asked .write), asked .write,
      0, by decide +kernel⟩

theorem witness_VesperStepsComplete_1 : ∃ (c : RestartCause) (s : State),
    s.vesperRuns = true ∧ (c = .activation → s.vesper.restartDue = true) :=
  ⟨.activation, { alive with vesper := { restartDue := true } }, by decide +kernel⟩

theorem witness_VesperStepsComplete_2 : ∃ (b : Bool) (s : State),
    s.fld F.VSP_STATUS_RESTARTING = 1 ∧ s.power.phase ≠ .loss ∧ s.bootSlot = some b ∧ s.vesper.queue.length < 4096 :=
  ⟨true, with_ { alive with flash := { selector := true } } [(F.VSP_STATUS_RESTARTING, 1)], by decide +kernel⟩

theorem witness_VesperStepsComplete_3 : ∃ (s : State) (e : AlmEntry) (rest : List AlmEntry),
    s.vesperRuns = true ∧ s.vesper.queue = e :: rest ∧ s.vesper.permDue = false ∧ s.vesper.dropped = 0 :=
  ⟨{ alive with vesper := { queue := [{ type := 5, seq := 1, tick := 3, time := 9 }], nextSeq := 2 } },
      { type := 5, seq := 1, tick := 3, time := 9 }, [], by decide +kernel⟩

theorem witness_VesperStepsComplete_4 : ∃ (s : State),
    s.vesperRuns = true ∧ s.vesper.queue = [] ∧ s.vesper.permDue = true :=
  ⟨{ alive with vesper := { permDue := true } }, by decide +kernel⟩

theorem witness_VesperStepsComplete_5 : ∃ (w : DwWrite) (s : State),
    s.Serves ∧ PlainWrite w R.VSP_MBOX_CMD ∧ w.data.getLsbD 31 = true ∧ bitsOf w.data.toNat 8 8 ≤ 64 ∧
      s.fld F.VSP_MBOX_STATUS_STATE = 0 :=
  ⟨dw 0x80004020, with_ run [(F.VSP_MBOX_STATUS_SEQ, 255)], by decide +kernel⟩

theorem witness_VesperStepsComplete_6 : ∃ (w : DwWrite) (s : State),
    s.Serves ∧ PlainWrite w R.VSP_MBOX_STATUS ∧ w.data.getLsbD 2 = true ∧ s.fld F.VSP_MBOX_STATUS_DONE = 1 :=
  ⟨dw 4, with_ run [(F.VSP_MBOX_STATUS_STATE, 2), (F.VSP_MBOX_STATUS_DONE, 1)], by decide +kernel⟩

theorem witness_VesperStepsComplete_7 : ∃ (i : Fin 192) (s : State),
    i.val ∈ s.clearing :=
  ⟨191, { run with clearing := [191] }, by decide +kernel⟩

theorem witness_MailboxCommandsComplete_1 : ∃ (s : State),
    s.vesper.mailRecord.length ≤ 256 ∧ Taken s 1 :=
  ⟨mailed 1 [], by decide +kernel⟩

theorem witness_MailboxCommandsComplete_2 : ∃ (s : State),
    s.vesper.mailRecord.length ≤ 256 ∧ Taken s 2 :=
  ⟨mailed 2 [], by decide +kernel⟩

theorem witness_MailboxCommandsComplete_3 : ∃ (s : State) (w : _),
    s.vesper.mailRecord.length ≤ 256 ∧ Taken s 3 ∧ s.reqWord? 0 = some w :=
  ⟨mailed 3 [31], 31, by decide +kernel⟩

theorem witness_MailboxCommandsComplete_4 : ∃ (s : State),
    s.vesper.mailRecord.length ≤ 256 ∧ Taken s 4 :=
  ⟨mailed 4 [], by decide +kernel⟩

theorem witness_MailboxCommandsComplete_5 : ∃ (s : State) (key : _),
    s.vesper.mailRecord.length ≤ 256 ∧ Taken s 5 ∧ s.reqUnit = some key :=
  ⟨mailed 5 [0x04000003], 1219, by decide +kernel⟩

theorem witness_MailboxCommandsComplete_6 : ∃ (s : State) (lo : _) (hi : _) (off : _) (e : _),
    s.vesper.mailRecord.length ≤ 256 ∧ Taken s 6 ∧ s.reqWord? 0 = some lo ∧ s.reqWord? 1 = some hi ∧
      s.reqWord? 2 = some off ∧ lo + hi * 2 ^ 32 ≠ 2 ^ 64 - 1 ∧ s.almAt (lo + hi * 2 ^ 32) = some e :=
  ⟨{ mailed 6 [9, 0, 30] with flash := { log := [[entry]] } }, 9, 0, 30, entry, by decide +kernel⟩

theorem witness_MailboxCommandsComplete_7 : ∃ (s : State) (lo : _) (hi : _) (off : _),
    s.vesper.mailRecord.length ≤ 256 ∧ Taken s 6 ∧ s.reqWord? 0 = some lo ∧ s.reqWord? 1 = some hi ∧
      s.reqWord? 2 = some off ∧ lo + hi * 2 ^ 32 ≠ 2 ^ 64 - 1 ∧ s.almAt (lo + hi * 2 ^ 32) = none :=
  ⟨mailed 6 [9, 0, 30], 9, 0, 30, by decide +kernel⟩

theorem witness_MailboxCommandsComplete_8 : ∃ (s : State) (lo : Nat) (hi : Nat) (e : AlmEntry),
    Taken s 7 ∧ s.reqWord? 0 = some lo ∧ s.reqWord? 1 = some hi ∧ e ∈ s.flash.log.flatten ∧ e.seq = lo + hi * 2 ^ 32 ∧
      e.kept = true :=
  ⟨{ mailed 7 [9, 0] with flash := { log := [[{ entry with seq := 8 }], [entry]] } }, 9, 0, entry, by decide +kernel⟩

theorem witness_MailboxCommandsComplete_9 : ∃ (s : State) (w : Nat),
    Taken s 8 ∧ s.reqWord? 0 = some w ∧ bitsOf w 4 4 = 0 ∧ bitsOf w 12 4 = 0 ∧ bitsOf w 28 4 = 0 :=
  ⟨mailed 8 [0x0F0F0F0F], 0x0F0F0F0F, by decide +kernel⟩

theorem witness_MailboxCommandsComplete_10 : ∃ (s : State) (key : Nat),
    Taken s 0x20 ∧ s.reqUnit = some key ∧ s.pathState key = 0 :=
  ⟨mailed 0x20 [0x010003FF], 1023, by decide +kernel⟩

theorem witness_MailboxCommandsComplete_11 : ∃ (s : State) (key : Nat),
    Taken s 0x21 ∧ s.reqUnit = some key ∧ s.fuseFenced key = false ∧ s.pathState key ≠ 0 :=
  ⟨with_ (mailed 0x21 [0x010003FF]) [(F.FLT_CORE_FENCED_FENCED 31, 0x80000000)], 1023, by decide +kernel⟩

theorem witness_MailboxCommandsComplete_12 : ∃ (s : State),
    Taken s 0x20 ∧ s.reqUnit = none :=
  ⟨mailed 0x20 [0x01000400], by decide +kernel⟩

theorem witness_MailboxCommandsComplete_13 : ∃ (s : State) (key : _),
    Taken s 0x21 ∧ s.reqUnit = some key ∧ s.fuseFenced key = true :=
  ⟨{ mailed 0x21 [0x010003FF] with hwCause := [(1023, 1)] }, 1023, by decide +kernel⟩

theorem witness_MailboxCommandsComplete_14 : ∃ (s : State) (w : Nat),
    Taken s 0x22 ∧ s.reqWord? 0 = some w ∧ bitsOf w 5 3 = 0 ∧ bitsOf w 10 22 = 0 ∧
      s.captureRefused (if w.testBit 8 then some (bitsOf w 0 5) else none) (w.testBit 9) = 0 :=
  ⟨mailed 0x22 [0x31F], 0x31F, by decide +kernel⟩

theorem witness_MailboxCommandsComplete_15 : ∃ (s : State),
    Taken s 0x23 ∧ s.reqWord? 0 = some 0xB5C1 :=
  ⟨mailed 0x23 [0xB5C1], by decide +kernel⟩

theorem witness_MailboxCommandsComplete_16 : ∃ (s : State),
    Taken s 0x24 :=
  ⟨mailed 0x24 [], by decide +kernel⟩

theorem witness_RequestsComplete_1 : ∃ (e : Endpoint) (i : Instr) (s : State),
    isRequest e i ∧ s.hears e = false :=
  ⟨.smbus 0x41, .gettid (.smbus 0x41), alive, .inl (by decide), by decide +kernel⟩

theorem witness_RequestsComplete_2 : ∃ (e : Endpoint) (s : State) (i : _),
    s.hears e = true ∧ s.power.phase ≠ .off ∧ s.power.phase ≠ .loss ∧ s.power.boardTest = false ∧ isRequest e i ∧
      s.fld F.VSP_STATUS_RESTARTING = 0 ∧ s.power.phase ≠ .recovery ∧ (s.vesper.requests.countP fun r => r.endpoint == e) < 4 :=
  ⟨.smbus 0x40,
      { alive with vesper := { requests := List.replicate 3 { endpoint := .smbus 0x40, request := .gettid (.smbus 0x40) } } },
      .getEndpointId (.smbus 0x40), by decide +kernel, by decide +kernel, by decide +kernel, by decide +kernel,
      .inl (by decide), by decide +kernel⟩

theorem witness_RequestsComplete_3 : ∃ (e : Endpoint) (s : State) (i : _),
    s.hears e = true ∧ s.power.phase ≠ .off ∧ s.power.phase ≠ .loss ∧ s.power.boardTest = false ∧ isRequest e i ∧
      s.fld F.VSP_STATUS_RESTARTING = 1 :=
  ⟨.vdm, with_ alive [(F.VSP_STATUS_RESTARTING, 1)], .unitService .vdm 0, by decide +kernel, by decide +kernel,
      by decide +kernel, by decide +kernel, .inr (.inr (.inr (.inr (.inr (.inl ⟨_, rfl⟩))))), by decide +kernel⟩

theorem witness_RequestsComplete_4 : ∃ (e : Endpoint) (s : State) (x : BitVec 8),
    s.hears e = true ∧ s.power.phase ≠ .off ∧ s.power.phase ≠ .loss ∧ s.power.boardTest = false ∧
      s.fld F.VSP_STATUS_RESTARTING = 0 ∧ s.power.phase = .recovery ∧ x ≠ 0 ∧ x ≠ 0xFF :=
  ⟨.smbus 0x40, { power := { phase := .recovery } }, 0xFE, by decide +kernel⟩

theorem witness_RequestsComplete_5 : ∃ (e : Endpoint) (s : State),
    s.hears e = true ∧ s.power.phase ≠ .off ∧ s.power.phase ≠ .loss ∧ s.power.boardTest = false ∧
      s.fld F.VSP_STATUS_RESTARTING = 0 ∧ s.power.phase = .recovery :=
  ⟨.vdm, { power := { phase := .recovery } }, by decide +kernel⟩

theorem witness_RequestsComplete_6 : ∃ (e : Endpoint) (s : State),
    s.hears e = true ∧ s.power.phase ≠ .off ∧ s.power.phase ≠ .loss ∧ s.power.boardTest = false ∧
      s.fld F.VSP_STATUS_RESTARTING = 0 ∧ s.power.phase = .recovery ∧ s.vesper.updater = none :=
  ⟨.smbus 0x40, { power := { phase := .recovery } }, by decide +kernel⟩

theorem witness_RequestsAreServed_1 : ∃ (e : Endpoint) (s : State) (x : BitVec 8),
    x ≠ 0 ∧ x ≠ 0xFF :=
  ⟨.vdm, alive, 1, by decide +kernel⟩

theorem witness_RequestsAreServed_4 : ∃ (e : Endpoint) (s : State) (w : _),
    (w = 0 ∨ 300 ≤ w ∧ w ≤ 1100) :=
  ⟨.vdm, alive, 1100, by decide +kernel⟩

theorem witness_RequestsAreServed_5 : ∃ (e : Endpoint) (s : State) (w : _),
    w ≠ 0 ∧ (w < 300 ∨ 1100 < w) :=
  ⟨.vdm, alive, 1101, by decide +kernel⟩

theorem witness_RequestsAreServed_6 : ∃ (e : Endpoint) (s : State) (n : Fin 32) (w : _),
    (w = 0 ∨ 5 ≤ w ∧ w ≤ 1100) :=
  ⟨.vdm, alive, 31, 5, by decide +kernel⟩

theorem witness_RequestsAreServed_7 : ∃ (e : Endpoint) (s : State) (v : _) (key : _),
    s.serviceUnit v = some (key, true) ∧ s.pathState key = 0 :=
  ⟨.vdm, alive, (0x010103FF : Word), 1023, by decide +kernel⟩

theorem witness_RequestsAreServed_8 : ∃ (e : Endpoint) (s : State),
    s.captureRefused none false = 0 :=
  ⟨.vdm, alive, by decide +kernel⟩

theorem witness_RequestsAreServed_9 : ∃ (e : Endpoint) (s : State),
    s.releaseAccepted = false :=
  ⟨.vdm, alive, by decide +kernel⟩

theorem witness_RequestsAreServed_10 : ∃ (e : Endpoint) (s : State),
    s.releaseAccepted = true :=
  ⟨.vdm, halted, by decide +kernel⟩

theorem witness_RequestsAreServed_11 : ∃ (e : Endpoint) (s : State),
    s.vesper.updater = none :=
  ⟨.vdm, alive, by decide +kernel⟩

theorem witness_RequestsAreServed_12 : ∃ (e : Endpoint) (s : State) (b : _),
    s.vesper.updater = some e ∧ s.vesper.verified = some b ∧ s.power.phase = .run :=
  ⟨.smbus 0x40, updating, true, by decide +kernel⟩

theorem witness_ManagementEventsComplete_1 : ∃ (im : FwImage) (e : Endpoint) (s : State),
    s.vesperRuns = true ∧ s.vesper.updater = some e ∧ im.classification = 0x000A ∧ im.identifier = 0x1612 :=
  ⟨{ svn := 0xFFFF }, .smbus 0x40, updating, by decide +kernel⟩

theorem witness_ManagementEventsComplete_2 : ∃ (e : Endpoint) (k : Nat) (r : BitVec 8) (s : State),
    s.hears e = true ∧ s.vesperRuns = true ∧ s.vesper.receiver = some (e, r) :=
  ⟨.vdm, 2, 5, { alive with vesper := { receiver := some (.vdm, 5), events := [{ id := 2, key := 0, state := 0 }] } },
      by decide +kernel⟩

theorem witness_ManagementEventsComplete_3 : ∃ (e : Endpoint) (s : State),
    s.hears e = true ∧ s.power.phase ≠ .off ∧ s.power.phase ≠ .loss :=
  ⟨.smbus 0x40, run, by decide +kernel⟩

theorem witness_ManagementEventsComplete_4 : ∃ (s : State),
    s.power.boardTest = true :=
  ⟨{ power := { phase := .bringUp, boardTest := true } }, by decide +kernel⟩

theorem witness_ManagementEventsComplete_5 : ∃ (s : State),
    s.power.boardTest = true :=
  ⟨{ power := { phase := .bringUp, boardTest := true } }, by decide +kernel⟩

theorem witness_ManagementEventsComplete_6 : ∃ (s : State),
    s.power.boardTest = true :=
  ⟨{ power := { phase := .bringUp, boardTest := true } }, by decide +kernel⟩

theorem witness_ManagementEventsComplete_7 : ∃ (s : State) (x : BitVec 11),
    s.power.boardTest = true :=
  ⟨{ power := { phase := .bringUp, boardTest := true } }, 0x7FF, by decide +kernel⟩

theorem witness_ManagementEventsComplete_8 : ∃ (s : State),
    s.power.boardTest = true :=
  ⟨{ power := { phase := .bringUp, boardTest := true } }, by decide +kernel⟩

theorem witness_ManagementEventsComplete_9 : ∃ (s : State) (c : BitVec 8),
    s.power.boardTest = true ∧ c ∉ [0x00, 0x01, 0x04, 0x05, 0xFF] :=
  ⟨{ power := { phase := .bringUp, boardTest := true } }, 0xFE, by decide +kernel⟩

theorem witness_FailedCheckHaltsTheCore_1 : ∃ (i : Instr) (s : State) (n : Nat) (p : Op) (code : Nat),
    AtOp i s n p ∧ lowest (p.checks n (s.core p.core)) = some code :=
  ⟨.movi 15 (op 31 1 0 0 0 0x10000), issuing 0x01 (op 31 1 0 0 0 0x10000), 1,
      { core := 15, opcode := 0x01, fields := op 31 1 0 0 0 0x10000, checks := moviChecks (op 31 1 0 0 0 0x10000) }, 2,
      ⟨rfl, by decide +kernel, by decide +kernel⟩, by decide +kernel⟩

theorem witness_ScalarOperationsComplete_1 : ∃ (g : Fin 1024) (o : OpFields) (s : State) (n : Nat),
    Ready (.nop g o) s n :=
  ⟨15, op 0 0 0 0 0 0, issuing 0x00 (op 0 0 0 0 0 0), 1, ⟨_, ⟨rfl, by decide +kernel, by decide +kernel⟩, by decide +kernel⟩⟩

theorem witness_ScalarOperationsComplete_2 : ∃ (g : Fin 1024) (o : OpFields) (s : State) (n : Nat),
    Ready (.movi g o) s n :=
  ⟨15, op 31 0 0 0 7 0xFFFF, issuing 0x01 (op 31 0 0 0 7 0xFFFF) { regs := [(31, 0x1234)] }, 1,
      ⟨_, ⟨rfl, by decide +kernel, by decide +kernel⟩, by decide +kernel⟩⟩

theorem witness_ScalarOperationsComplete_3 : ∃ (g : Fin 1024) (o : OpFields) (s : State) (n : Nat),
    Ready (.alu g o) s n :=
  ⟨15, op 31 1 2 0 0 0, issuing 0x02 (op 31 1 2 0 0 0) { regs := [(1, 0xFFFFFFFFFFFFFFFF), (2, 1)], regPoison := [2] }, 1,
      ⟨_, ⟨rfl, by decide +kernel, by decide +kernel⟩, by decide +kernel⟩⟩

theorem witness_ScalarOperationsComplete_4 : ∃ (g : Fin 1024) (o : OpFields) (s : State) (n : Nat),
    Ready (.alui g o) s n :=
  ⟨15, op 0 1 0 0 0 0xFFFFFFF, issuing 0x03 (op 0 1 0 0 0 0xFFFFFFF) { regs := [(1, 5)] }, 1,
      ⟨_, ⟨rfl, by decide +kernel, by decide +kernel⟩, by decide +kernel⟩⟩

theorem witness_ScalarOperationsComplete_5 : ∃ (g : Fin 1024) (o : OpFields) (s : State) (n : Nat),
    Ready (.rdid g o) s n :=
  ⟨15, op 31 0 0 0 0 0, issuing 0x04 (op 31 0 0 0 0 0), 1,
      ⟨_, ⟨rfl, by decide +kernel, by decide +kernel⟩, by decide +kernel⟩⟩

theorem witness_ScalarOperationsComplete_6 : ∃ (g : Fin 1024) (o : OpFields) (s : State) (n : Nat),
    Ready (.seed g o) s n :=
  ⟨15, op 0 0 0 0 0 0, issuing 0x08 (op 0 0 0 0 0 0), 1, ⟨_, ⟨rfl, by decide +kernel, by decide +kernel⟩, by decide +kernel⟩⟩

theorem witness_ScalarOperationsComplete_7 : ∃ (g : Fin 1024) (o : OpFields) (s : State) (n : Nat),
    Ready (.br g o) s n :=
  ⟨15, op 0 0 0 0 0 0x10, issuing 0x05 (op 0 0 0 0 0 0x10), 1,
      ⟨_, ⟨rfl, by decide +kernel, by decide +kernel⟩, by decide +kernel⟩⟩

theorem witness_ScalarOperationsComplete_8 : ∃ (g : Fin 1024) (o : OpFields) (s : State) (n : Nat),
    Ready (.jr g o) s n :=
  ⟨15, op 31 1 0 0 0 0, issuing 0x06 (op 31 1 0 0 0 0) { regs := [(1, 0xFFF8)] }, 1,
      ⟨_, ⟨rfl, by decide +kernel, by decide +kernel⟩, by decide +kernel⟩⟩

theorem witness_ScalarOperationsComplete_9 : ∃ (g : Fin 1024) (o : OpFields) (s : State) (n : Nat),
    Ready (.loop g o) s n :=
  ⟨15, op 0 1 0 0 0 0x8, issuing 0x07 (op 0 1 0 0 0 0x8) { regs := [(1, 1)] }, 1,
      ⟨_, ⟨rfl, by decide +kernel, by decide +kernel⟩, by decide +kernel⟩⟩

theorem witness_SynchronisationCompletes_1 : ∃ (g : Fin 1024) (o : OpFields) (s : State) (n : Nat),
    Ready (.end_ g o) s n ∧ s.released n g 3 true = true :=
  ⟨15, op 0 0 0 0 0 0, issuing 0x09 (op 0 0 0 0 0 0), 1, ⟨_, ⟨rfl, by decide +kernel, by decide +kernel⟩, by decide +kernel⟩,
      by decide +kernel⟩

theorem witness_SynchronisationCompletes_2 : ∃ (g : Fin 1024) (o : OpFields) (s : State) (n : Nat),
    Ready (.waitc g o) s n :=
  ⟨15, op 0 1 0 0 0 0, issuing 0x0A (op 0 1 0 0 0 0) { regs := [(1, 0xFFFFFFFF)], dmaDone := 0 }, 1,
      ⟨_, ⟨rfl, by decide +kernel, by decide +kernel⟩, by decide +kernel⟩⟩

theorem witness_SynchronisationCompletes_3 : ∃ (g : Fin 1024) (o : OpFields) (s : State) (n : Nat),
    Ready (.waitf g o) s n :=
  ⟨15, op 0 1 0 0 0 0, issuing 0x0B (op 0 1 0 0 0 0), 1, ⟨_, ⟨rfl, by decide +kernel, by decide +kernel⟩, by decide +kernel⟩⟩

theorem witness_SynchronisationCompletes_4 : ∃ (g : Fin 1024) (o : OpFields) (s : State) (n : Nat),
    let c := s.core g
    let mask : BitVec 16 := o.imm.setWidth 16
    Ready (.waitn g o) s n ∧ c.events &&& mask ≠ 0 :=
  ⟨15, op 31 0 0 0 5 0x8000, issuing 0x0D (op 31 0 0 0 5 0x8000) { events := 0x8001 }, 1,
      ⟨_, ⟨rfl, by decide +kernel, by decide +kernel⟩, by decide +kernel⟩, by decide +kernel⟩

theorem witness_SynchronisationCompletes_5 : ∃ (g : Fin 1024) (o : OpFields) (s : State) (n : Nat),
    let c := s.core g
    let mask : BitVec 16 := o.imm.setWidth 16
    Ready (.waitn g o) s n ∧ c.events &&& mask = 0 :=
  ⟨15, op 31 0 0 0 0 0x8000, issuing 0x0D (op 31 0 0 0 0 0x8000), 1,
      ⟨_, ⟨rfl, by decide +kernel, by decide +kernel⟩, by decide +kernel⟩, by decide +kernel⟩

theorem witness_SynchronisationCompletes_6 : ∃ (g : Fin 1024) (o : OpFields) (s : State) (n : Nat),
    let c := s.core g
    Ready (.notify g o) s n ∧ (o.mod.getLsbD 0 = true → s.released n g (o.mod.toNat / 2 % 4) false = true) ∧
      s.coreFenced (c.reg o.a).toNat = false ∧ s.tileFenced (tileOfCore (c.reg o.a).toNat) = false ∧
      (s.core (c.reg o.a).toNat).hasProgram = true :=
  ⟨15, op 0 1 0 0 7 15, issuing 0x0C (op 0 1 0 0 7 15) { regs := [(1, 15)] }, 1,
      ⟨_, ⟨rfl, by decide +kernel, by decide +kernel⟩, by decide +kernel⟩, by decide +kernel, by decide +kernel,
      by decide +kernel, by decide +kernel⟩

theorem witness_SynchronisationCompletes_7 : ∃ (g : Fin 1024) (o : OpFields) (s : State) (n : Nat),
    Ready (.acq g o) s n :=
  ⟨15, op 0 0 0 0 3 0, issuing 0x50 (op 0 0 0 0 3 0), 1, ⟨_, ⟨rfl, by decide +kernel, by decide +kernel⟩, by decide +kernel⟩⟩

theorem witness_SynchronisationCompletes_8 : ∃ (g : Fin 1024) (o : OpFields) (s : State) (n : Nat),
    Ready (.rel g o) s n ∧ s.released n g (o.mod.toNat % 4) (o.mod.getLsbD 2) = true :=
  ⟨15, op 0 0 0 0 7 0, issuing 0x51 (op 0 0 0 0 7 0), 1, ⟨_, ⟨rfl, by decide +kernel, by decide +kernel⟩, by decide +kernel⟩,
      by decide +kernel⟩

theorem witness_SynchronisationCompletes_9 : ∃ (g : Fin 1024) (o : OpFields) (s : State) (n : Nat),
    Ready (.fence g o) s n ∧ s.released n g (o.mod.toNat % 4) (o.mod.getLsbD 2) = true :=
  ⟨15, op 0 0 0 0 7 0, issuing 0x52 (op 0 0 0 0 7 0), 1, ⟨_, ⟨rfl, by decide +kernel, by decide +kernel⟩, by decide +kernel⟩,
      by decide +kernel⟩

theorem witness_CoreEventsComplete_1 : ∃ (g : Fin 1024) (s : State) (n : Nat),
    (s.core g).status = .running ∧ (∀ l ∈ (s.core g).loads, l.block = false) ∧ s.clockStopped (tileOfCore g) = false ∧
      s.regionOfCore g = some n ∧ (65536 ≤ (s.core g).pc ∨ (opcodeOf ((s.core g).wordAt (s.core g).pc)).toNat ∉ opcodes) :=
  ⟨15, issuing 0x7F (op 0 0 0 0 0 0), 1, by decide +kernel⟩

theorem witness_CoreEventsComplete_2 : ∃ (id : Nat) (k : Nat) (src : Nat) (dst : Nat) (ev : Nat) (way : CtlWay) (s : State),
    let stops := tileWay (tileOfCore src) (tileOfCore dst)
    s.ctl.find? (fun e => e.1 == id) = some (k, .notify src dst ev) ∧ ev < 16 ∧ s.wayOpen stops = true ∧
      s.haltAhead stops = false ∧ way.failedAt = none :=
  ⟨9, 9, 3, 15, 15, { resent := 99 }, { region 3 with ctl := [(9, .notify 3 15 15)] }, by decide +kernel⟩

theorem witness_CoreEventsComplete_3 : ∃ (id : Nat) (k : Nat) (src : Nat) (dst : Nat) (ev : Nat) (way : CtlWay) (s : State) (j : _) (tile : _),
    let stops := tileWay (tileOfCore src) (tileOfCore dst)
    s.ctl.find? (fun e => e.1 == id) = some (k, .notify src dst ev) ∧ ev < 16 ∧ s.wayOpen stops = true ∧
      s.haltAhead stops = false ∧ way.failedAt = some j ∧ stops[j]? = some tile :=
  ⟨9, 9, 3, 15, 15, { failedAt := some 0 }, { region 3 with ctl := [(9, .notify 3 15 15)] }, 0, tileOfCore 15,
      by decide +kernel⟩

theorem witness_CoreEventsComplete_4 : ∃ (g : Fin 1024) (way : CtlWay) (s : State),
    (s.core g).haltDue = true ∧ s.wayOpen (columnWay (tileOfCore g)) = true ∧ way.failedAt = none :=
  ⟨15, {}, issuing 0x00 noFields { haltDue := true }, by decide +kernel⟩

theorem witness_LoadsComplete_1 : ∃ (g : Fin 1024) (o : OpFields) (s : State) (n : Nat) (e : _),
    let c := s.core g
    let a := effAddr c o
    let size := 2 ^ (o.mod.toNat % 4)
    let mem := (s.cluster (g / 8)).mem
    Ready (.ld g o e) s n ∧ spaceOf a = spCluster ∧ (∀ i < size, mem.bytes.any (fun b => b.1 == a % 2 ^ 21 + i) = true) :=
  ⟨15, op 31 1 0 0 7 0xFFFFFF8, issuingOn (toBytes 8 0xFEDCBA9876543210) 0x10 (op 31 1 0 0 7 0xFFFFFF8) { regs := [(1, 8)] },
      1, .double 0xFF, ⟨_, ⟨rfl, by decide +kernel, by decide +kernel⟩, by decide +kernel⟩, by decide +kernel⟩

theorem witness_LoadsComplete_2 : ∃ (g : Fin 1024) (o : OpFields) (s : State) (n : Nat),
    let c := s.core g
    let a := effAddr c o
    Ready (.ld g o .none) s n ∧ spaceOf a = spCluster :=
  ⟨15, op 31 1 0 0 7 0xFFFFFF8, issuingOn (toBytes 8 0xFEDCBA9876543210) 0x10 (op 31 1 0 0 7 0xFFFFFF8) { regs := [(1, 8)] },
      1, ⟨_, ⟨rfl, by decide +kernel, by decide +kernel⟩, by decide +kernel⟩, by decide +kernel⟩

theorem witness_LoadsComplete_3 : ∃ (g : Fin 1024) (o : OpFields) (s : State) (n : Nat) (e : _),
    let c := s.core g
    let a := effAddr c o
    let vol := o.mod.getLsbD 3
    let mayGo := s.mayIssue n g = true ∧ s.crossWait n g a false = false
    Ready (.ld g o e) s n ∧ spaceOf a ≠ spCluster ∧ vol = false ∧ s.readOnlyAt n a = false ∧ mayGo :=
  ⟨15, op 31 1 0 0 7 0xFF8, issuing 0x10 (op 31 1 0 0 7 0xFF8) { regs := [(1, 0x400000000000)] }, 1, .tags,
      ⟨_, ⟨rfl, by decide +kernel, by decide +kernel⟩, by decide +kernel⟩, by decide +kernel⟩

theorem witness_LoadsComplete_4 : ∃ (g : Fin 1024) (o : OpFields) (s : State) (n : Nat) (e : _),
    let c := s.core g
    let a := effAddr c o
    let vol := o.mod.getLsbD 3
    Ready (.ld g o e) s n ∧ spaceOf a ≠ spCluster ∧ vol = true ∧ s.mayIssue n g = true ∧ s.crossWait n g a true = false :=
  ⟨15, op 31 1 0 0 15 0xFF8, issuing 0x10 (op 31 1 0 0 15 0xFF8) { regs := [(1, 0x400000000000)] }, 1, .none,
      ⟨_, ⟨rfl, by decide +kernel, by decide +kernel⟩, by decide +kernel⟩, by decide +kernel⟩

theorem witness_LoadsComplete_5 : ∃ (g : Fin 1024) (o : OpFields) (s : State) (n : Nat) (e : _) (r : _),
    let c := s.core g
    let a := effAddr c o
    let vol := o.mod.getLsbD 3
    Ready (.ld g o e) s n ∧ spaceOf a ≠ spCluster ∧ vol = false ∧ s.readOnlyAt n a = true ∧
      (s.cluster (g / 8)).roLine a = some r ∧ (match e with | .double _ => false | _ => true) = true :=
  ⟨15, op 31 1 0 0 2 0xFFC,
      { with_ (issuing 0x10 (op 31 1 0 0 2 0xFFC) { regs := [(1, 0x400000000000)] }) [(F.WIN_CTRL_READ_ONLY 1 0, 1)] with clusters := [(1, { ro := [{ line := 2 ^ 39 + 31, bytes := memAt 0 (List.replicate 128 9), poison := [15] }] })] },
      1, .checkBit 7, { line := 2 ^ 39 + 31, bytes := memAt 0 (List.replicate 128 9), poison := [15] },
      ⟨_, ⟨rfl, by decide +kernel, by decide +kernel⟩, by decide +kernel⟩, by decide +kernel⟩

theorem witness_LoadsComplete_6 : ∃ (g : Fin 1024) (o : OpFields) (s : State) (n : Nat) (e : _) (r : _) (syn : _),
    let c := s.core g
    let a := effAddr c o
    let vol := o.mod.getLsbD 3
    let mayGo := s.mayIssue n g = true ∧ s.crossWait n g a false = false
    Ready (.ld g o e) s n ∧ spaceOf a ≠ spCluster ∧ vol = false ∧ s.readOnlyAt n a = true ∧
      (s.cluster (g / 8)).roLine a = some r ∧ e = .double syn ∧ s.filling (g / 8) (a / 128) = none ∧ mayGo :=
  ⟨15, op 31 1 0 0 2 0xFFC,
      { with_ (issuing 0x10 (op 31 1 0 0 2 0xFFC) { regs := [(1, 0x400000000000)] }) [(F.WIN_CTRL_READ_ONLY 1 0, 1)] with clusters := [(1, { ro := [{ line := 2 ^ 39 + 31, bytes := memAt 0 (List.replicate 128 9), poison := [15] }] })] },
      1, .double 0xFF, { line := 2 ^ 39 + 31, bytes := memAt 0 (List.replicate 128 9), poison := [15] }, 0xFF,
      ⟨_, ⟨rfl, by decide +kernel, by decide +kernel⟩, by decide +kernel⟩, by decide +kernel⟩

theorem witness_LoadsComplete_7 : ∃ (g : Fin 1024) (o : OpFields) (s : State) (n : Nat) (e : _) (tag : _),
    let c := s.core g
    let a := effAddr c o
    let vol := o.mod.getLsbD 3
    Ready (.ld g o e) s n ∧ spaceOf a ≠ spCluster ∧ vol = false ∧ s.readOnlyAt n a = true ∧
      (s.cluster (g / 8)).roLine a = none ∧ s.filling (g / 8) (a / 128) = some tag :=
  ⟨15, op 31 1 0 0 2 0xFFC, fetching, 1, .none, 3, ⟨_, ⟨rfl, by decide +kernel, by decide +kernel⟩, by decide +kernel⟩,
      by decide +kernel⟩

theorem witness_LoadsComplete_8 : ∃ (g : Fin 1024) (o : OpFields) (s : State) (n : Nat) (e : _),
    let c := s.core g
    let a := effAddr c o
    let vol := o.mod.getLsbD 3
    let mayGo := s.mayIssue n g = true ∧ s.crossWait n g a false = false
    Ready (.ld g o e) s n ∧ spaceOf a ≠ spCluster ∧ vol = false ∧ s.readOnlyAt n a = true ∧
      (s.cluster (g / 8)).roLine a = none ∧ s.filling (g / 8) (a / 128) = none ∧ mayGo :=
  ⟨15, op 31 1 0 0 2 0xFFC,
      with_ (issuing 0x10 (op 31 1 0 0 2 0xFFC) { regs := [(1, 0x400000000000)] }) [(F.WIN_CTRL_READ_ONLY 1 0, 1)], 1,
      .double 1, ⟨_, ⟨rfl, by decide +kernel, by decide +kernel⟩, by decide +kernel⟩, by decide +kernel⟩

theorem witness_LoadsComplete_9 : ∃ (g : Fin 1024) (o : OpFields) (s : State) (n : Nat),
    let c := s.core g
    let a := effAddr c o
    let vol := o.mod.getLsbD 3
    let mayGo := s.mayIssue n g = true ∧ s.crossWait n g a false = false
    Ready (.ldg g o) s n ∧ vol = false ∧ s.readOnlyAt n a = false ∧ mayGo :=
  ⟨15, op 0 1 2 0 0 0xFC0, issuing 0x12 (op 0 1 2 0 0 0xFC0) { regs := [(1, 0x400000000000), (2, 0x40)] }, 1,
      ⟨_, ⟨rfl, by decide +kernel, by decide +kernel⟩, by decide +kernel⟩, by decide +kernel⟩

theorem witness_StoresComplete_1 : ∃ (g : Fin 1024) (o : OpFields) (s : State) (n : Nat),
    let c := s.core g
    let a := effAddr c o
    Ready (.st g o) s n ∧ spaceOf a = spCluster :=
  ⟨15, op 0 1 2 0 3 0, issuing 0x11 (op 0 1 2 0 3 0) { regs := [(2, 0x0102030405060708)] }, 1,
      ⟨_, ⟨rfl, by decide +kernel, by decide +kernel⟩, by decide +kernel⟩, by decide +kernel⟩

theorem witness_StoresComplete_2 : ∃ (g : Fin 1024) (o : OpFields) (s : State) (n : Nat),
    let c := s.core g
    let a := effAddr c o
    let base := a / 64 * 64
    let free := (∀ e ∈ c.store, e.addr = base → e.sent = true) ∧ c.store.length < 16
    Ready (.st g o) s n ∧ spaceOf a ≠ spCluster ∧ free :=
  ⟨15, op 0 1 2 0 2 0xFFC, issuing 0x11 (op 0 1 2 0 2 0xFFC) { regs := [(1, 0x400000000000), (2, 0x0102030405060708)] }, 1,
      ⟨_, ⟨rfl, by decide +kernel, by decide +kernel⟩, by decide +kernel⟩, by decide +kernel⟩

theorem witness_StoresComplete_3 : ∃ (g : Fin 1024) (o : OpFields) (s : State) (n : Nat),
    let c := s.core g
    let a := effAddr c o
    let base := a / 64 * 64
    let free := (∀ e ∈ c.store, e.addr = base → e.sent = true) ∧ c.store.length < 16
    Ready (.stg g o) s n ∧ free :=
  ⟨15, op 0 1 2 0 0 0, issuing 0x13 (op 0 1 2 0 0 0) { regs := [(1, 0x400000000000), (2, 0x40)] }, 1,
      ⟨_, ⟨rfl, by decide +kernel, by decide +kernel⟩, by decide +kernel⟩, by decide +kernel⟩

theorem witness_ScalarAtomicsComplete_1 : ∃ (g : Fin 1024) (o : OpFields) (s : State) (n : Nat),
    let c := s.core g
    let a := (c.reg o.a).toNat
    Ready (.atom g o) s n ∧ spaceOf a = spCluster :=
  ⟨15, op 31 1 2 0 0xA0 0, issuingOn (toBytes 4 0xFFFFFFFE) 0x60 (op 31 1 2 0 0xA0 0) { regs := [(2, 3)] }, 1,
      ⟨_, ⟨rfl, by decide +kernel, by decide +kernel⟩, by decide +kernel⟩, by decide +kernel⟩

theorem witness_ScalarAtomicsComplete_2 : ∃ (g : Fin 1024) (o : OpFields) (s : State) (n : Nat),
    let c := s.core g
    let a := (c.reg o.a).toNat
    let aop := o.mod.toNat % 16
    let fmt := o.mod.toNat / 16 % 8
    let ret := o.mod.getLsbD 7
    let scope := o.imm.toNat % 4
    let behind := (s.crossWait n g a true = false ∧ ∀ e ∈ c.store, e.addr ≠ a / 64 * 64) ∨ s.viaProxy n g a = false ∧
        ∀ e ∈ c.store, e.sent = true
    Ready (.atom g o) s n ∧ spaceOf a ≠ spCluster ∧ s.mayIssue n g = true ∧ behind ∧
      (mergeable aop fmt ret = false ∨ s.mergesWith g a aop fmt scope = none) :=
  ⟨15, op 0 1 2 0 0x20 0, issuing 0x60 (op 0 1 2 0 0x20 0) { regs := [(1, 0x400000000000), (2, 3)] }, 1,
      ⟨_, ⟨rfl, by decide +kernel, by decide +kernel⟩, by decide +kernel⟩, by decide +kernel⟩

theorem witness_ScalarAtomicsComplete_3 : ∃ (g : Fin 1024) (o : OpFields) (s : State) (n : Nat) (q : _),
    let c := s.core g
    let a := (c.reg o.a).toNat
    let aop := o.mod.toNat % 16
    let fmt := o.mod.toNat / 16 % 8
    let ret := o.mod.getLsbD 7
    let scope := o.imm.toNat % 4
    let behind := (s.crossWait n g a true = false ∧ ∀ e ∈ c.store, e.addr ≠ a / 64 * 64) ∨ s.viaProxy n g a = false ∧
        ∀ e ∈ c.store, e.sent = true
    Ready (.atom g o) s n ∧ spaceOf a ≠ spCluster ∧ s.mayIssue n g = true ∧ behind ∧ mergeable aop fmt ret = true ∧
      s.mergesWith g a aop fmt scope = some q :=
  ⟨15, op 0 1 2 0 0x10 0,
      { issuing 0x60 (op 0 1 2 0 0x10 0) { regs := [(1, 0x400000000000), (2, 3)] } with net := [{ crossing .atomic with src := .core 14, addr := 2 ^ 46, size := 4, fmt := 1, operand := 1, writers := [14] }] },
      1, { crossing .atomic with src := .core 14, addr := 2 ^ 46, size := 4, fmt := 1, operand := 1, writers := [14] },
      ⟨_, ⟨rfl, by decide +kernel, by decide +kernel⟩, by decide +kernel⟩, by decide +kernel⟩

theorem witness_TransfersAreQueued_1 : ∃ (g : Fin 1024) (o : OpFields) (s : State) (n : Nat) (i : Instr) (p : Op),
    i ∈ [.dmag g o, .dmap g o, .dmaf g o, .tatom g o, .gather g o, .scatter g o] ∧ AtOp i s n p ∧ Ready i s n ∧
      (s.cluster (g / 8)).dma.length < 16 :=
  ⟨15, op 0 1 2 3 0 0, issuing 0x14 (op 0 1 2 3 0 0) { regs := [(1, 0x400000000000), (2, 64), (3, tileWord 0 0 2 8 64)] }, 1,
      .dmag 15 (op 0 1 2 3 0 0),
      { core := 15, opcode := 0x14, fields := op 0 1 2 3 0 0, checks := dmagChecks (issuing 0x14 (op 0 1 2 3 0 0) { regs := [(1, 0x400000000000), (2, 64), (3, tileWord 0 0 2 8 64)] }) (op 0 1 2 3 0 0) },
      by simp, ⟨rfl, by decide +kernel, by decide +kernel⟩,
      ⟨_, ⟨rfl, by decide +kernel, by decide +kernel⟩, by decide +kernel⟩, by decide +kernel⟩

theorem witness_TransfersComplete_1 : ∃ (c : Fin 128) (k : Fin 16) (s : State) (x : Transfer) (n : Nat),
    k.val < 4 ∧ (s.cluster c).dma[k.val]? = some x ∧ s.ownerOf (tileOfCluster c) = some n ∧
      s.clockStopped (tileOfCluster c) = false ∧ s.mayInject n (tileOfCluster c) = true ∧
      s.transferHeld n x (s.transferRows n x).1 = false ∧ spaceOf x.remote ≠ spLink ∧ x.unanswered = 0 :=
  ⟨1, 0,
      { linked 3 with clusters := [(1, { dma := [{ id := 3, core := 15, opc := 0x14, a := 0x400000000000, b := 64, c := tileWord 0 0 2 8 64, d := 0, mod := 0, imm := 0 }] })] },
      { id := 3, core := 15, opc := 0x14, a := 0x400000000000, b := 64, c := tileWord 0 0 2 8 64, d := 0, mod := 0, imm := 0 },
      1, by decide +kernel⟩

theorem witness_TileAndAccumulatorOperationsComplete_1 : ∃ (g : Fin 1024) (o : OpFields) (s : State) (n : Nat),
    Ready (.tfill g o) s n :=
  ⟨15, op 0 1 2 0 0 0, issuing 0x17 (op 0 1 2 0 0 0) { regs := [(1, tileWord 0 7 2 32 64), (2, 0x0102030405060708)] }, 1,
      ⟨_, ⟨rfl, by decide +kernel, by decide +kernel⟩, by decide +kernel⟩⟩

theorem witness_TileAndAccumulatorOperationsComplete_2 : ∃ (g : Fin 1024) (o : OpFields) (s : State) (n : Nat),
    Ready (.mma g o) s n :=
  ⟨15, op 0 1 2 0 0 0,
      issuingOn ((List.range 4).flatMap fun k => toBytes 4 (0x3F800000 + 0x800000 * k) ++ List.replicate 60 0) 0x20 (op 0 1 2 0 0 0) { regs := [(1, tileWord 0 0 2 1 64), (2, tileWord 128 0 1 2 64)], acc := [(0, 0x3F800000)] },
      1, ⟨_, ⟨rfl, by decide +kernel, by decide +kernel⟩, by decide +kernel⟩⟩

theorem witness_TileAndAccumulatorOperationsComplete_3 : ∃ (g : Fin 1024) (o : OpFields) (s : State) (n : Nat),
    Ready (.accld g o) s n :=
  ⟨15, op 0 1 0 0 0 0x3EFB,
      issuingOn ((List.range 4).flatMap fun k => toBytes 4 (0x3F800000 + 0x800000 * k) ++ List.replicate 60 0) 0x21 (op 0 1 0 0 0 0x3EFB) { regs := [(1, tileWord 0 0 1 1 64)] },
      1, ⟨_, ⟨rfl, by decide +kernel, by decide +kernel⟩, by decide +kernel⟩⟩

theorem witness_TileAndAccumulatorOperationsComplete_4 : ∃ (g : Fin 1024) (o : OpFields) (s : State) (n : Nat),
    Ready (.accst g o) s n :=
  ⟨15, op 0 1 0 0 0 0,
      issuing 0x22 (op 0 1 0 0 0 0) { regs := [(1, tileWord 0 1 2 2 64)], acc := [(0, 0x3F800000), (65, 0x40490FDB)], sr := 7 },
      1, ⟨_, ⟨rfl, by decide +kernel, by decide +kernel⟩, by decide +kernel⟩⟩

theorem witness_ElementwiseOperationsComplete_1 : ∃ (g : Fin 1024) (o : OpFields) (s : State) (n : Nat),
    Ready (.vbin g o) s n :=
  ⟨15, op 4 1 2 0 0 0,
      issuingOn ((List.range 4).flatMap fun k => toBytes 4 (0x3F800000 + 0x800000 * k) ++ List.replicate 60 0) 0x30 (op 4 1 2 0 0 0) { regs := [(1, tileWord 0 0 2 1 64), (2, tileWord 128 0 1 2 64), (3, tileWord 128 0 1 1 64), (4, tileWord 256 0 2 2 64)], sr := 7 },
      1, ⟨_, ⟨rfl, by decide +kernel, by decide +kernel⟩, by decide +kernel⟩⟩

theorem witness_ElementwiseOperationsComplete_2 : ∃ (g : Fin 1024) (o : OpFields) (s : State) (n : Nat),
    Ready (.vun g o) s n :=
  ⟨15, op 4 1 0 0 2 0,
      issuingOn ((List.range 4).flatMap fun k => toBytes 4 (0x3F800000 + 0x800000 * k) ++ List.replicate 60 0) 0x31 (op 4 1 0 0 2 0) { regs := [(1, tileWord 0 0 2 1 64), (4, tileWord 256 2 2 1 64)], sr := 7 },
      1, ⟨_, ⟨rfl, by decide +kernel, by decide +kernel⟩, by decide +kernel⟩⟩

theorem witness_ElementwiseOperationsComplete_3 : ∃ (g : Fin 1024) (o : OpFields) (s : State) (n : Nat),
    Ready (.vscale g o) s n :=
  ⟨15, op 4 1 2 3 0x40 0,
      issuingOn ((List.range 4).flatMap fun k => toBytes 4 (0x3F800000 + 0x800000 * k) ++ List.replicate 60 0) 0x32 (op 4 1 2 3 0x40 0) { regs := [(1, tileWord 0 5 2 4 64), (2, 0xFFFFFFFF), (3, 7), (4, tileWord 256 5 2 4 64)], sr := 7 },
      1, ⟨_, ⟨rfl, by decide +kernel, by decide +kernel⟩, by decide +kernel⟩⟩

theorem witness_ElementwiseOperationsComplete_4 : ∃ (g : Fin 1024) (o : OpFields) (s : State) (n : Nat),
    Ready (.vfma g o) s n :=
  ⟨15, op 4 1 2 3 0 0,
      issuingOn ((List.range 4).flatMap fun k => toBytes 4 (0x3F800000 + 0x800000 * k) ++ List.replicate 60 0) 0x33 (op 4 1 2 3 0 0) { regs := [(1, tileWord 0 0 2 1 64), (2, tileWord 128 0 1 2 64), (3, tileWord 128 0 1 1 64), (4, tileWord 256 0 2 2 64)], sr := 7 },
      1, ⟨_, ⟨rfl, by decide +kernel, by decide +kernel⟩, by decide +kernel⟩⟩

theorem witness_ElementwiseOperationsComplete_5 : ∃ (g : Fin 1024) (o : OpFields) (s : State) (n : Nat),
    Ready (.vcmp g o) s n :=
  ⟨15, op 4 1 2 0 1 0,
      issuingOn ((List.range 4).flatMap fun k => toBytes 4 (0x3F800000 + 0x800000 * k) ++ List.replicate 60 0) 0x36 (op 4 1 2 0 1 0) { regs := [(1, tileWord 0 0 2 1 64), (2, tileWord 128 0 1 2 64), (4, tileWord 256 5 2 2 64)], sr := 7 },
      1, ⟨_, ⟨rfl, by decide +kernel, by decide +kernel⟩, by decide +kernel⟩⟩

theorem witness_ElementwiseOperationsComplete_6 : ∃ (g : Fin 1024) (o : OpFields) (s : State) (n : Nat),
    Ready (.vsel g o) s n :=
  ⟨15, op 4 1 2 3 0 0,
      issuingOn ((List.range 4).flatMap fun k => toBytes 4 (0x3F800000 + 0x800000 * k) ++ List.replicate 60 0) 0x37 (op 4 1 2 3 0 0) { regs := [(1, tileWord 0 0 2 1 64), (2, tileWord 128 0 1 2 64), (3, tileWord 3 5 1 1 64 |>.and (~~~63)), (4, tileWord 256 0 2 2 64)], sr := 7 },
      1, ⟨_, ⟨rfl, by decide +kernel, by decide +kernel⟩, by decide +kernel⟩⟩

theorem witness_ReductionAndConversionComplete_1 : ∃ (g : Fin 1024) (o : OpFields) (s : State) (n : Nat),
    Ready (.vred g o) s n :=
  ⟨15, op 4 1 0 0 0x10 0,
      issuingOn ((List.range 4).flatMap fun k => toBytes 4 (0x3F800000 + 0x800000 * k) ++ List.replicate 60 0) 0x34 (op 4 1 0 0 0x10 0) { regs := [(1, tileWord 0 0 2 1 64), (4, tileWord 256 0 1 1 64)], sr := 7 },
      1, ⟨_, ⟨rfl, by decide +kernel, by decide +kernel⟩, by decide +kernel⟩⟩

theorem witness_ReductionAndConversionComplete_2 : ∃ (g : Fin 1024) (o : OpFields) (s : State) (n : Nat),
    let c := s.core g
    let d := c.tile o.d
    let x := c.tile o.a
    Ready (.vcvt g o) s n ∧ x.fmt ≠ d.fmt :=
  ⟨15, op 4 1 0 0 0x80 0,
      issuingOn ((List.range 4).flatMap fun k => toBytes 4 (0x3F800000 + 0x800000 * k) ++ List.replicate 60 0) 0x35 (op 4 1 0 0 0x80 0) { regs := [(1, tileWord 0 0 2 1 64), (4, tileWord 256 1 2 1 64)], sr := 7 },
      1, ⟨_, ⟨rfl, by decide +kernel, by decide +kernel⟩, by decide +kernel⟩, by decide +kernel⟩

theorem witness_ReductionAndConversionComplete_3 : ∃ (g : Fin 1024) (o : OpFields) (s : State) (n : Nat),
    let c := s.core g
    let d := c.tile o.d
    let x := c.tile o.a
    Ready (.vcvt g o) s n ∧ x.fmt = d.fmt ∧ (x.fmt ≠ 7 ∨ x.trans = d.trans) :=
  ⟨15, op 4 1 0 0 0 0,
      issuingOn ((List.range 4).flatMap fun k => toBytes 4 (0x3F800000 + 0x800000 * k) ++ List.replicate 60 0) 0x35 (op 4 1 0 0 0 0) { regs := [(1, tileWord 0 5 2 4 64), (4, tileWord 256 5 2 4 64)], sr := 7 },
      1, ⟨_, ⟨rfl, by decide +kernel, by decide +kernel⟩, by decide +kernel⟩, by decide +kernel, by decide +kernel⟩

theorem witness_ReductionAndConversionComplete_4 : ∃ (g : Fin 1024) (o : OpFields) (s : State) (n : Nat),
    let c := s.core g
    let d := c.tile o.d
    let x := c.tile o.a
    Ready (.vcvt g o) s n ∧ x.fmt = 7 ∧ d.fmt = 7 ∧ x.trans ≠ d.trans :=
  ⟨15, op 4 1 0 0 0 0,
      issuingOn ((List.range 4).flatMap fun k => toBytes 4 (0x3F800000 + 0x800000 * k) ++ List.replicate 60 0) 0x35 (op 4 1 0 0 0 0) { regs := [(1, tileWord 0 7 32 32 64), (4, tileWord 4096 7 32 32 64 true)], sr := 7 },
      1, ⟨_, ⟨rfl, by decide +kernel, by decide +kernel⟩, by decide +kernel⟩, by decide +kernel, by decide +kernel,
      by decide +kernel⟩

theorem witness_SendsComplete_1 : ∃ (g : Fin 1024) (o : OpFields) (s : State) (n : Nat) (k : Nat) (ch : Channel) (g2 : _) (q : _),
    let c := s.core g
    let held := smGet c.credits 0 k
    Ready (.send g o) s n ∧ (o.mod.getLsbD 0 = true → s.released n g (o.mod.toNat / 2 % 4) false = true) ∧
      s.outChannel n (.core g (o.imm.toNat % 256)) = some k ∧ s.channel n k = some ch ∧ ch.dst = .core g2 q ∧
      g.val / 8 = g2 / 8 ∧ (if ch.credit then 0 < held else ((s.core g2).queue q).length < 8 ∧ s.sendTurn n g2 q g = true) :=
  ⟨15, op 0 1 2 0 0 3, sending 3 { regs := [(1, 7), (2, 0x123456789ABCDEF0)], regPoison := [2] }, 1, 0,
      channelled.channels.getD 0 noChannel, 8, 2, ⟨_, ⟨rfl, by decide +kernel, by decide +kernel⟩, by decide +kernel⟩,
      by decide +kernel⟩

theorem witness_SendsComplete_2 : ∃ (g : Fin 1024) (o : OpFields) (s : State) (n : Nat) (k : Nat) (ch : Channel) (g2 : _) (q : _),
    let c := s.core g
    let held := smGet c.credits 0 k
    Ready (.send g o) s n ∧ (o.mod.getLsbD 0 = true → s.released n g (o.mod.toNat / 2 % 4) false = true) ∧
      s.outChannel n (.core g (o.imm.toNat % 256)) = some k ∧ s.channel n k = some ch ∧ ch.dst = .core g2 q ∧
      g.val / 8 ≠ g2 / 8 ∧ 0 < held ∧ s.mayIssue n g = true :=
  ⟨15, op 0 1 2 0 0 4, sending 4 { regs := [(1, 7), (2, 0x123456789ABCDEF0)], regPoison := [2], credits := [(1, 4)] }, 1, 1,
      channelled.channels.getD 1 noChannel, 0, 5, ⟨_, ⟨rfl, by decide +kernel, by decide +kernel⟩, by decide +kernel⟩,
      by decide +kernel⟩

theorem witness_SendsComplete_3 : ∃ (g : Fin 1024) (o : OpFields) (s : State) (n : Nat) (k : Nat) (ch : Channel) (g2 : _) (q : _),
    let c := s.core g
    let held := smGet c.credits 0 k
    Ready (.send g o) s n ∧ (o.mod.getLsbD 0 = true → s.released n g (o.mod.toNat / 2 % 4) false = true) ∧
      s.outChannel n (.core g (o.imm.toNat % 256)) = some k ∧ s.channel n k = some ch ∧ ch.dst = .core g2 q ∧ held = 0 ∧
      (ch.credit = true ∨ g.val / 8 ≠ g2 / 8) :=
  ⟨15, op 0 1 2 0 0 4, sending 4 { regs := [(1, 7), (2, 0x123456789ABCDEF0)], regPoison := [2] }, 1, 1,
      channelled.channels.getD 1 noChannel, 0, 5, ⟨_, ⟨rfl, by decide +kernel, by decide +kernel⟩, by decide +kernel⟩,
      by decide +kernel⟩

theorem witness_SendsComplete_4 : ∃ (g : Fin 1024) (o : OpFields) (s : State) (n : Nat) (k : Nat) (ch : Channel) (i : _) (q : _) (d : _),
    let c := s.core g
    let m : Message := { lo := c.reg o.a, hi := c.reg o.b, poisonLo := c.regBad o.a, poisonHi := c.regBad o.b, key := g, chan := k }
    Ready (.send g o) s n ∧ (o.mod.getLsbD 0 = true → s.released n g (o.mod.toNat / 2 % 4) false = true) ∧
      s.outChannel n (.core g (o.imm.toNat % 256)) = some k ∧ s.channel n k = some ch ∧ ch.dst = .cq i q d ∧
      s.mayIssue n g = true ∧
      (s.sendMessage n (.core g) (.slice i) k g m.lo m.hi m.poisonLo m.poisonHi).backedUp (.core g) = false :=
  ⟨15, op 0 1 2 0 0 5, sending 5 { regs := [(1, 7), (2, 0x123456789ABCDEF0)], regPoison := [2] }, 1, 2,
      channelled.channels.getD 2 noChannel, 1, 2, 0, ⟨_, ⟨rfl, by decide +kernel, by decide +kernel⟩, by decide +kernel⟩,
      by decide +kernel⟩

theorem witness_SendsComplete_5 : ∃ (g : Fin 1024) (o : OpFields) (s : State) (n : Nat) (k : Nat) (ch : Channel) (p : _) (l : _),
    Ready (.send g o) s n ∧ (o.mod.getLsbD 0 = true → s.released n g (o.mod.toNat / 2 % 4) false = true) ∧
      s.outChannel n (.core g (o.imm.toNat % 256)) = some k ∧ s.channel n k = some ch ∧ ch.dst = .link p l ∧
      0 < smGet (s.port p).outCount 0 l ∧ s.mayIssue n g = true :=
  ⟨15, op 0 1 2 0 0 6, sending 6 { regs := [(1, 7), (2, 0x123456789ABCDEF0)], regPoison := [2] }, 1, 3,
      channelled.channels.getD 3 noChannel, 1, 200, ⟨_, ⟨rfl, by decide +kernel, by decide +kernel⟩, by decide +kernel⟩,
      by decide +kernel⟩

theorem witness_SendsComplete_6 : ∃ (g : Fin 1024) (o : OpFields) (s : State) (n : Nat) (k : Nat) (ch : Channel) (p : _) (l : _),
    Ready (.send g o) s n ∧ (o.mod.getLsbD 0 = true → s.released n g (o.mod.toNat / 2 % 4) false = true) ∧
      s.outChannel n (.core g (o.imm.toNat % 256)) = some k ∧ s.channel n k = some ch ∧ ch.dst = .link p l ∧
      smGet (s.port p).outCount 0 l = 0 :=
  ⟨15, op 0 1 2 0 0 6, { sending 6 { regs := [(1, 7), (2, 0x123456789ABCDEF0)], regPoison := [2] } with ports := [] }, 1, 3,
      channelled.channels.getD 3 noChannel, 1, 200, ⟨_, ⟨rfl, by decide +kernel, by decide +kernel⟩, by decide +kernel⟩,
      by decide +kernel⟩

theorem witness_QueueReadsComplete_1 : ∃ (g : Fin 1024) (o : OpFields) (s : State) (n : Nat),
    let kind := o.mod.toNat % 4
    Ready (.qrd g o) s n ∧ kind = 2 :=
  ⟨15, op 31 0 0 0 2 7,
      wired (issuing 0x41 (op 31 0 0 0 2 7) { queues := [(7, [{ lo := 3, hi := 4, poisonHi := true, key := 9, chan := 0 }])] }),
      1, ⟨_, ⟨rfl, by decide +kernel, by decide +kernel⟩, by decide +kernel⟩, by decide +kernel⟩

theorem witness_QueueReadsComplete_2 : ∃ (g : Fin 1024) (o : OpFields) (s : State) (n : Nat) (m : _) (rest : _),
    let c := s.core g
    let q := o.imm.toNat % 8
    let kind := o.mod.toNat % 4
    Ready (.qrd g o) s n ∧ c.queue q = m :: rest ∧ kind ≠ 2 :=
  ⟨15, op 30 0 0 0 0 7,
      wired (issuing 0x41 (op 30 0 0 0 0 7) { queues := [(7, [{ lo := 3, hi := 4, poisonHi := true, key := 9, chan := 0 }])] }),
      1, { lo := 3, hi := 4, poisonHi := true, key := 9, chan := 0 }, [],
      ⟨_, ⟨rfl, by decide +kernel, by decide +kernel⟩, by decide +kernel⟩, by decide +kernel, by decide +kernel⟩

theorem witness_QueueReadsComplete_3 : ∃ (g : Fin 1024) (o : OpFields) (s : State) (n : Nat),
    let c := s.core g
    let q := o.imm.toNat % 8
    let kind := o.mod.toNat % 4
    Ready (.qrd g o) s n ∧ c.queue q = [] ∧ kind ≠ 2 :=
  ⟨15, op 30 0 0 0 1 7, wired (issuing 0x41 (op 30 0 0 0 1 7) {}), 1,
      ⟨_, ⟨rfl, by decide +kernel, by decide +kernel⟩, by decide +kernel⟩, by decide +kernel, by decide +kernel⟩

theorem witness_CombiningQueuesComplete_1 : ∃ (i : Fin 64) (s : State) (n : Nat) (x : Contribution) (rest : List Contribution) (c : Combiner) (es : List CombEntry),
    s.ownerOf (tileOfSlice i) = some n ∧ (s.slice i).combIn = x :: rest ∧ x.badTag = false ∧ s.combiner n i x.q = some c ∧
      joinEntry (smGet (s.slice i).combs [] x.q) c x = some es ∧
      ((s.channel n x.chan).all fun ch => match ch.src with | .link _ _ => false | _ => true) = true :=
  ⟨1,
      wired { linked 3 with slices := [(1, { combIn := [{ q := 2, key := 15, tag := 6, e0 := 1, e1 := 2, bad := true, badTag := false, chan := 2 }] })] },
      1, { q := 2, key := 15, tag := 6, e0 := 1, e1 := 2, bad := true, badTag := false, chan := 2 }, [],
      { slice := 1, q := 2, int32 := true, expect := 2, deliveries := 1, tags := 4 },
      [{ tag := 6, parts := [(15, 1, 2)], poisoned := true }], by decide +kernel⟩

theorem witness_CombiningQueuesComplete_2 : ∃ (i : Fin 64) (q : Fin 16) (s : State) (n : Nat) (k : Nat) (c : Combiner) (e : CombEntry) (ahead : List CombEntry) (after : List CombEntry) (ch : Channel) (i2 : _) (q2 : _) (d : _),
    let lo := (deliveryOf c e).1
    let hi := (deliveryOf c e).2
    s.ownerOf (tileOfSlice i) = some n ∧ s.combiner n i q = some c ∧ c.deliveries = 1 ∧ e.sent = 0 ∧
      smGet (s.slice i).combs [] q = ahead ++ e :: after ∧ e.complete c = true ∧
      (∀ x ∈ ahead ++ after, x.complete c = false) ∧ s.outChannel n (.cq i q 0) = some k ∧ s.channel n k = some ch ∧
      s.mayInject n (tileOfSlice i) = true ∧ s.backedUp (.slice i) = false ∧ ch.dst = .cq i2 q2 d ∧
      (s.sendMessage n (.slice i) (.slice i2) k (cqKey i q) lo hi e.poisoned false).backedUp (.slice i) = false :=
  ⟨1, 2, combining (.cq 0 3 0), 1, 0, { slice := 1, q := 2, int32 := true, expect := 2, deliveries := 1, tags := 4 },
      { tag := 6, parts := [(15, 0x7FFFFFFF, 2), (9, 1, 0xFFFFFFFF)] }, [{ tag := 5, parts := [(15, 1, 2)] }], [],
      combined (.cq 0 3 0), 0, 3, 0, by decide +kernel⟩

theorem witness_CombiningQueuesComplete_3 : ∃ (i : Fin 64) (q : Fin 16) (s : State) (n : Nat) (k : Nat) (c : Combiner) (e : CombEntry) (ahead : List CombEntry) (after : List CombEntry) (ch : Channel) (g : _) (q2 : _),
    s.ownerOf (tileOfSlice i) = some n ∧ s.combiner n i q = some c ∧ c.deliveries = 1 ∧ e.sent = 0 ∧
      smGet (s.slice i).combs [] q = ahead ++ e :: after ∧ e.complete c = true ∧
      (∀ x ∈ ahead ++ after, x.complete c = false) ∧ s.outChannel n (.cq i q 0) = some k ∧ s.channel n k = some ch ∧
      s.mayInject n (tileOfSlice i) = true ∧ s.backedUp (.slice i) = false ∧ ch.dst = .core g q2 ∧
      0 < smGet (s.slice i).credits 0 k :=
  ⟨1, 2, combining (.core 0 5), 1, 0, { slice := 1, q := 2, int32 := true, expect := 2, deliveries := 1, tags := 4 },
      { tag := 6, parts := [(15, 0x7FFFFFFF, 2), (9, 1, 0xFFFFFFFF)] }, [{ tag := 5, parts := [(15, 1, 2)] }], [],
      combined (.core 0 5), 0, 5, by decide +kernel⟩

theorem witness_CombiningQueuesComplete_4 : ∃ (i : Fin 64) (q : Fin 16) (s : State) (n : Nat) (k : Nat) (c : Combiner) (e : CombEntry) (ahead : List CombEntry) (after : List CombEntry) (ch : Channel) (p : _) (l : _),
    s.ownerOf (tileOfSlice i) = some n ∧ s.combiner n i q = some c ∧ c.deliveries = 1 ∧ e.sent = 0 ∧
      smGet (s.slice i).combs [] q = ahead ++ e :: after ∧ e.complete c = true ∧
      (∀ x ∈ ahead ++ after, x.complete c = false) ∧ s.outChannel n (.cq i q 0) = some k ∧ s.channel n k = some ch ∧
      s.mayInject n (tileOfSlice i) = true ∧ s.backedUp (.slice i) = false ∧ ch.dst = .link p l ∧
      0 < smGet (s.port p).outCount 0 l :=
  ⟨1, 2, combining (.link 1 200), 1, 0, { slice := 1, q := 2, int32 := true, expect := 2, deliveries := 1, tags := 4 },
      { tag := 6, parts := [(15, 0x7FFFFFFF, 2), (9, 1, 0xFFFFFFFF)] }, [{ tag := 5, parts := [(15, 1, 2)] }], [],
      combined (.link 1 200), 1, 200, by decide +kernel⟩

theorem witness_PlaneRequestsComplete_1 : ∃ (id : Nat) (i : Nat) (s : State) (u : State) (p : Packet),
    Arrives s u id .read p ∧ p.dst = .slice i ∧ p.op ≠ 1 ∧
      (match u.locate p.region p.addr with | .ext _ _ => false | _ => true) = true ∧ u.behind p = false ∧ Answerable u p :=
  ⟨7, 0, carried (arrived .read), carried (arrived .read), arrived .read, by decide +kernel, by decide +kernel,
      by decide +kernel, by decide +kernel, by decide +kernel, ⟨nofun, by decide +kernel⟩⟩

theorem witness_PlaneRequestsComplete_2 : ∃ (id : Nat) (k : Nat) (s : State) (u : State) (p : Packet) (i : Instr) (kind : PacketKind),
    Arrives s u id kind p ∧ p.dst = .port k ∧
      (kind, i) ∈ [(PacketKind.read, Instr.dynRead id .none), (.atomic, .dynAtomic id .none), (.message, .dynMessage id)] :=
  ⟨7, 1, carried { arrived .atomic with dst := .port 1, addr := 8 },
      carried { arrived .atomic with dst := .port 1, addr := 8 }, { arrived .atomic with dst := .port 1, addr := 8 },
      .dynAtomic 7 .none, .atomic, by decide +kernel⟩

theorem witness_PlaneRequestsComplete_3 : ∃ (id : Nat) (g : Nat) (n : Nat) (i : Nat) (b : Nat) (s : State) (u : State) (x : SbEntry) (p : Packet),
    s.entryOf id = some (g, x) ∧ s.regionOfCore g = some n ∧ Arrives (s.sendEntries n g id) u id .write p ∧ p.src = .core g ∧
      p.dst = .slice i ∧ u.locate p.region p.addr = .pinned i b ∧ u.behind p = false ∧ Answerable u p ∧ p.addr % 64 = 0 ∧
      smSorted p.bytes = true ∧ (∀ e ∈ p.bytes, e.1 < 64) ∧ b + 64 ≤ 0x600000 :=
  ⟨5, 15, 1, 0, 0, storing, storing, { stored with sent := true }, stores, by decide +kernel, by decide +kernel,
      by decide +kernel, by decide +kernel, by decide +kernel, by decide +kernel, by decide +kernel,
      ⟨nofun, by decide +kernel⟩, by decide +kernel⟩

theorem witness_PlaneRequestsComplete_4 : ∃ (id : Nat) (i : Nat) (b : Nat) (s : State) (u : State) (p : Packet),
    Arrives s u id .atomic p ∧ p.dst = .slice i ∧ u.locate p.region p.addr = .pinned i b ∧ u.behind p = false ∧
      Answerable u p :=
  ⟨7, 0, 8, carried { arrived .atomic with fmt := 2, size := 4, operand := 5, ret := true },
      carried { arrived .atomic with fmt := 2, size := 4, operand := 5, ret := true },
      { arrived .atomic with fmt := 2, size := 4, operand := 5, ret := true }, by decide +kernel, by decide +kernel,
      by decide +kernel, by decide +kernel, ⟨nofun, by decide +kernel⟩⟩

theorem witness_MessagesAndCreditsComplete_1 : ∃ (id : Nat) (s : State) (u : State) (p : Packet) (c : Channel) (g : _) (q : _),
    Arrives s u id .message p ∧ (∀ k, p.dst ≠ .port k) ∧ u.channel p.region p.chan = some c ∧ c.dst = .core g q ∧
      ((u.core g).queue q).length < 8 ∧ Answerable u p :=
  ⟨7,
      wired (carried { arrived .message with dst := .core 0, addr := 0, size := 16, bytes := [(0, 4), (15, 5)], chan := 1, key := 15 }),
      wired (carried { arrived .message with dst := .core 0, addr := 0, size := 16, bytes := [(0, 4), (15, 5)], chan := 1, key := 15 }),
      { arrived .message with dst := .core 0, addr := 0, size := 16, bytes := [(0, 4), (15, 5)], chan := 1, key := 15 },
      channelled.channels.getD 1 noChannel, 0, 5, by decide +kernel, nofun, by decide +kernel, by decide +kernel,
      by decide +kernel, ⟨nofun, by decide +kernel⟩⟩

theorem witness_MessagesAndCreditsComplete_2 : ∃ (id : Nat) (s : State) (u : State) (p : Packet) (c : Channel) (i : _) (q : _) (d : _),
    Arrives s u id .message p ∧ (∀ k, p.dst ≠ .port k) ∧ u.channel p.region p.chan = some c ∧ c.dst = .cq i q d ∧
      (u.slice i).combIn.length < 16 :=
  ⟨7,
      wired (carried { arrived .message with dst := .slice 1, addr := 0, size := 16, bytes := [(0, 4), (15, 5)], chan := 2, key := 15 }),
      wired (carried { arrived .message with dst := .slice 1, addr := 0, size := 16, bytes := [(0, 4), (15, 5)], chan := 2, key := 15 }),
      { arrived .message with dst := .slice 1, addr := 0, size := 16, bytes := [(0, 4), (15, 5)], chan := 2, key := 15 },
      channelled.channels.getD 2 noChannel, 1, 2, 0, by decide +kernel, nofun, by decide +kernel, by decide +kernel,
      by decide +kernel⟩

theorem witness_MessagesAndCreditsComplete_3 : ∃ (id : Nat) (p : Fin 4) (s : State) (q : Packet),
    s.edge.find? (fun x => x.id == id) = some q ∧ q.dst = .port p ∧ q.region < 32 ∧ s.power.halves = true ∧
      s.edgeTurn q = true :=
  ⟨7, 1,
      with_ { linked 3 with edge := [{ crossing .read with dst := .port 1, addr := 8 }] } [(F.ER_OUT_TOTAL_VALUE 0, 0xFFFFFFFF)],
      { crossing .read with dst := .port 1, addr := 8 }, by decide +kernel⟩

theorem witness_MessagesAndCreditsComplete_4 : ∃ (id : Nat) (k : Nat) (src : Nat) (g : Nat) (c : Nat) (way : CtlWay) (s : State),
    s.ctl.find? (fun e => e.1 == id) = some (k, .chanCredit src (.core g) c) ∧
      s.wayOpen (tileWay src (tileOfCore g)) = true ∧ s.haltAhead (tileWay src (tileOfCore g)) = false ∧ way.failedAt = none :=
  ⟨9, 9, tileOfCore 0, 15, 1, { resent := 3 }, wired { linked 3 with ctl := [(9, .chanCredit (tileOfCore 0) (.core 15) 1)] },
      by decide +kernel⟩

theorem witness_MessagesAndCreditsComplete_5 : ∃ (id : Nat) (k : Nat) (src : Nat) (i : Nat) (c : Nat) (way : CtlWay) (s : State),
    s.ctl.find? (fun e => e.1 == id) = some (k, .chanCredit src (.slice i) c) ∧
      s.wayOpen (tileWay src (tileOfSlice i)) = true ∧ s.haltAhead (tileWay src (tileOfSlice i)) = false ∧
      way.failedAt = none :=
  ⟨9, 9, tileOfCore 0, 1, 4, {}, wired { linked 3 with ctl := [(9, .chanCredit (tileOfCore 0) (.slice 1) 4)] },
      by decide +kernel⟩

theorem witness_MessagesAndCreditsComplete_6 : ∃ (id : Nat) (k : Nat) (n : Nat) (src : Nat) (relay : Nat) (vc : Nat) (way : CtlWay) (s : State),
    s.ctl.find? (fun e => e.1 == id) = some (k, .relayCredit n src relay vc) ∧ s.wayOpen (tileWay relay src) = true ∧
      s.haltAhead (tileWay relay src) = false ∧ way.failedAt = none :=
  ⟨9, 9, 1, 19, 16, 1, {},
      { linked 3 with ctl := [(9, .relayCredit 1 19 16 1)], mesh := { credits := [(19, 16, 0), (19, 16, 1)] } },
      by decide +kernel⟩

theorem witness_PlaneResponsesComplete_1 : ∃ (id : Nat) (g : Nat) (s : State) (u : State) (p : Packet) (l : LoadOp),
    Arrives s u id .data p ∧ p.dst = .core g ∧ (s.core g).loads.filter (fun x => x.tag == p.tag) = [l] ∧
      (∀ h, h ≠ g → h / 8 = g / 8 → ∀ x ∈ (s.core h).loads, x.tag ≠ p.tag) ∧ l.granule = false ∧ l.dest ≠ 0 :=
  ⟨7, 15, answering, answering, answer,
      { tag := 3, dest := 31, addr := 2 ^ 46 + 12, size := 4, sext := true, overlay := [(1, 0x11)] }, by decide +kernel,
      by decide +kernel, by decide +kernel, answering_alone, by decide +kernel⟩

theorem witness_PlaneResponsesComplete_2 : ∃ (id : Nat) (g : Nat) (s : State) (u : State) (p : Packet),
    Arrives s u id .ack p ∧ p.dst = .core g :=
  ⟨7, 15,
      { carried { arrived .ack with src := .slice 0, dst := .core 15, tag := 3, writers := [15, 14] } with cores := [(14, { unacked := 1 }), (15, { status := .running, unacked := 2 })] },
      { carried { arrived .ack with src := .slice 0, dst := .core 15, tag := 3, writers := [15, 14] } with cores := [(14, { unacked := 1 }), (15, { status := .running, unacked := 2 })] },
      { arrived .ack with src := .slice 0, dst := .core 15, tag := 3, writers := [15, 14] }, by decide +kernel⟩

theorem witness_PlaneResponsesComplete_3 : ∃ (id : Nat) (i : Nat) (s : State) (u : State) (p : Packet),
    Arrives s u id .ack p ∧ p.dst = .slice i :=
  ⟨7, 1,
      { carried { arrived .ack with src := .core 0, dst := .slice 1, code := 1 } with slices := [(1, { msgUnacked := 1 })] },
      { carried { arrived .ack with src := .core 0, dst := .slice 1, code := 1 } with slices := [(1, { msgUnacked := 1 })] },
      { arrived .ack with src := .core 0, dst := .slice 1, code := 1 }, by decide +kernel⟩

theorem witness_PlaneResponsesComplete_4 : ∃ (id : Nat) (i : Nat) (s : State) (u : State) (p : Packet),
    Arrives s u id .error p ∧ p.dst = .slice i ∧ p.code = codeRETRY ∧ (∀ q ∈ u.net, q.line = false ∨ q.op ≠ 1 ∨ q.id = p.id) :=
  ⟨7, 0,
      carried { arrived .error with src := .slice 16, dst := .slice 0, tag := 3, code := codeRETRY, addr := 2 ^ 47 + 256, line := true, op := 1 },
      carried { arrived .error with src := .slice 16, dst := .slice 0, tag := 3, code := codeRETRY, addr := 2 ^ 47 + 256, line := true, op := 1 },
      { arrived .error with src := .slice 16, dst := .slice 0, tag := 3, code := codeRETRY, addr := 2 ^ 47 + 256, line := true, op := 1 },
      by decide +kernel⟩

theorem witness_BorrowingCompletes_1 : ∃ (h : Fin 64) (proxy : Fin 64) (line : BitVec 64) (n : Nat) (s : State) (u : State) (p : Packet) (w : Packet),
    s.ownerOf (tileOfSlice h) = some n ∧
      s.net.find? (fun p => p.kind == .read && p.line && p.op == 1 && p.dst == .slice h && p.src == .slice proxy.val && p.addr == 2 ^ 47 + line.toNat * 128) = some p ∧
      s.arrive p = some u ∧ u.borrowers n h line.toNat = [w] ∧ w.src = .slice proxy ∧ Answerable u w ∧
      (u.slice h).tracker = [] ∧ ((u.slice h).home line.toNat).missing 15 = 0 :=
  ⟨0, 16, 3, 1, borrowing, borrowing, borrows, borrows, by decide +kernel, by decide +kernel, by decide +kernel,
      by decide +kernel, by decide +kernel, ⟨nofun, by decide +kernel⟩, by decide +kernel⟩

theorem witness_BorrowingCompletes_2 : ∃ (h : Fin 64) (line : BitVec 64) (n : Nat) (b : Nat) (s : State) (e : Tracker) (l : CLine),
    s.ownerOf (tileOfSlice h) = some n ∧ (s.slice h).trackOf line.toNat = some e ∧ e.recalling = true ∧ e.borrower = some b ∧
      (s.slice b).find line.toNat = some l :=
  ⟨0, 3, 1, 16,
      { linked 3 with slices := [(0, { tracker := [{ line := 3, borrower := some 16, recalling := true }] }), (16, { lines := [{ line := 3, kind := .borrowed, data := memAt 0 (List.replicate 128 9), present := 15, dirty := [4, 5], writers := [15] }] })] },
      { line := 3, borrower := some 16, recalling := true },
      { line := 3, kind := .borrowed, data := memAt 0 (List.replicate 128 9), present := 15, dirty := [4, 5], writers := [15] },
      by decide +kernel⟩

theorem witness_BorrowingCompletes_3 : ∃ (h : Fin 64) (id : Nat) (s : State) (u : State) (p : Packet),
    Arrives s u id .write p ∧ p.line = true ∧ p.dst = .slice h :=
  ⟨0, 7,
      { carried { arrived .write with src := .slice 16, addr := 2 ^ 47 + 3 * 128, size := 128, line := true, bytes := [(4, 9)], writers := [15] } with slices := [(0, { tracker := [{ line := 3, borrower := some 16, recalling := true }] })] },
      { carried { arrived .write with src := .slice 16, addr := 2 ^ 47 + 3 * 128, size := 128, line := true, bytes := [(4, 9)], writers := [15] } with slices := [(0, { tracker := [{ line := 3, borrower := some 16, recalling := true }] })] },
      { arrived .write with src := .slice 16, addr := 2 ^ 47 + 3 * 128, size := 128, line := true, bytes := [(4, 9)], writers := [15] },
      by decide +kernel⟩

theorem witness_ChannelStepsComplete_1 : ∃ (c : Fin 128) (s : State) (r : HReq),
    s.chanHeld c = false ∧ s.stackReady c = true ∧
      (s.injectAll c).bestOf ((s.injectAll c).hreqs.filter fun r => r.chan == c && r.injected && !r.granted) = some r :=
  ⟨3, { linked 3 with hreqs := [asking true false false] }, asking true true false, by decide +kernel⟩

theorem witness_ChannelStepsComplete_2 : ∃ (id : Nat) (s : State) (r : HReq),
    s.hreqs.find? (fun r => r.id == id && r.granted && !r.write) = some r ∧
      ((s.slice (sliceOfChannel r.chan)).lines.filter fun m : CLine => m.line != r.line && Sys2Proof.Machine.setOf m.line == Sys2Proof.Machine.setOf r.line).length < s.cacheWays (sliceOfChannel r.chan) :=
  ⟨7, { linked 3 with hreqs := [asking false true true] }, asking false true true, by decide +kernel⟩

theorem witness_ChannelStepsComplete_4 : ∃ (id : Nat) (s : State) (r : HReq),
    s.hreqs.find? (fun r => r.id == id && !r.granted && !r.promoted) = some r :=
  ⟨7, { linked 3 with hreqs := [asking false false false] }, asking false false false, by decide +kernel⟩

theorem witness_ChannelStepsComplete_5 : ∃ (id : Nat) (s : State) (q : Packet),
    s.edge.find? (fun q => q.id == id && !q.promoted) = some q ∧ (edgeStop q).isSome = true :=
  ⟨7, { linked 3 with edge := [{ crossing .read with dst := .port 1, addr := 8, since := 5 }] },
      { crossing .read with dst := .port 1, addr := 8, since := 5 }, by decide +kernel⟩

theorem witness_ChannelStepsComplete_6 : ∃ (port : Fin 4) (place : Nat) (now : Nat) (n : Nat) (p : LinkPacket) (s : State),
    (s.port port).since[place]? = some now ∧ (s.port port).ingress[place]? = some p ∧ s.portRegion port = some n ∧
      isResponse p.kind = false ∧ (s.port port).aged.contains now = false :=
  ⟨1, 1, 9, 1, { kind := .write, bytes := [3] },
      { linked 3 with ports := [(1, { ingress := [{}, { kind := .write, bytes := [3] }], since := [8, 9] })] },
      by decide +kernel⟩

theorem witness_ChannelStepsComplete_7 : ∃ (d : DescRef) (x : Desc) (s : State),
    s.desc? d = some x ∧ x.phase = .running ∧ x.block.isSome = true ∧ x.linkWriting = false ∧ x.promoted = false :=
  ⟨first, { dsc 1 [0x1000, 0, 0x2000, 0, 0x100, 0, 0] with phase := .running },
      ringed 2 [{ dsc 1 [0x1000, 0, 0x2000, 0, 0x100, 0, 0] with phase := .running }], by decide +kernel⟩

theorem witness_ChannelStepsComplete_8 : ∃ (s : State),
    s.power.halves = true :=
  ⟨{ linked 3 with stops := [(3, 8)], chans := [(3, { used := [(1, 64)] })] }, by decide +kernel⟩

theorem witness_SliceStepsComplete_1 : ∃ (i : Fin 64) (s : State) (n : Nat),
    s.ownerOf (tileOfSlice i) = some n ∧ s.power.halves = true ∧ s.sliceBusy i = false ∧
      (∀ k ∈ s.islandsOf n, s.bitAt F.CLK_ISLAND_POWERED k = false) :=
  ⟨0, with_ (region 2) [(F.CLK_ISLAND_POWERED, 0)], 1, by decide +kernel⟩

theorem witness_SliceStepsComplete_3 : ∃ (i : Fin 64) (s : State) (n : Nat),
    s.ownerOf (tileOfSlice i) = some n ∧ s.scrubbed i n = true :=
  ⟨0, with_ (region 3) [(F.MSL_SCRUB_SRAM_POSITION 0, 49151)], 1, by decide +kernel⟩

theorem witness_SliceStepsComplete_4 : ∃ (i : Fin 64) (s : State) (n : Nat),
    s.ownerOf (tileOfSlice i) = some n ∧ s.scrubbed i n = true ∧ s.fld (F.MSL_SCRUB_CTRL_HBM_EN i) = 1 :=
  ⟨0, with_ (region 3) [(F.MSL_SCRUB_HBM_POS_POSITION 0, 25165823), (F.MSL_SCRUB_CTRL_HBM_EN 0, 1)], 1, by decide +kernel⟩

theorem witness_TileReadsBackWhatWasWritten_1 : ∃ (d : Tile) (m : PMem) (code : Nat → Nat → Nat) (scale : Nat → Nat → Nat) (bad : Bool),
    d.exc = [] ∧ d.fmt < 8 ∧ 0 < d.rows ∧ 0 < d.cols :=
  ⟨{ base := 0, fmt := 7, rows := 2, cols := 32, stride := 64, trans := false, reserved := false }, {},
      fun r c => r + c, fun i _ => 127 + i, true, by decide +kernel⟩

end Sys2Proof.Tests

end
end

section
/-! Writes that the host block drops (R237, R251, R255, R264, R265): what the access log holds after one, and what stays. -/

namespace Sys2Proof.Machine

variable {s t : State} {w : DwWrite} {off cause k : Nat}

/-! ### One entry of the access log (R264) -/

/-- The registers of entry k of HOST_ACCESS_LOG. -/
def logRegs (k : Nat) : List Nat :=
  [R.HOST_ACCESS_LOG_W0 k, R.HOST_ACCESS_LOG_W1 k, R.HOST_ACCESS_LOG_W2 k, R.HOST_ACCESS_LOG_W3 k]

/-- Entry k takes the 16 bytes at 0x40100 + 16 k. -/
theorem bounds_of_mem_logRegs {r : Nat} (hr : r ∈ logRegs k) : 0x40100 + 0x10 * k ≤ r ∧ r < 0x40110 + 0x10 * k := by
  simp only [logRegs, List.mem_cons, List.not_mem_nil, or_false] at hr
  rcases hr with rfl | rfl | rfl | rfl
  · unfold R.HOST_ACCESS_LOG_W0; omega
  · unfold R.HOST_ACCESS_LOG_W1; omega
  · unfold R.HOST_ACCESS_LOG_W2; omega
  · unfold R.HOST_ACCESS_LOG_W3; omega

theorem ne_total_of_mem_logRegs {r : Nat} (hr : r ∈ logRegs k) : r ≠ R.HOST_ACCESS_TOTAL := by
  have := bounds_of_mem_logRegs hr
  unfold R.HOST_ACCESS_TOTAL; omega

theorem ne_status_of_mem_logRegs {r : Nat} (hr : r ∈ logRegs k) (hk : k < 16) : r ≠ R.INT_PF_STATUS := by
  have := bounds_of_mem_logRegs hr
  unfold R.INT_PF_STATUS; omega

/-- Registers of different entries differ. -/
theorem not_mem_logRegs {j r : Nat} (hr : r ∈ logRegs j) (h : j ≠ k) : r ∉ logRegs k := by
  intro hr'
  have := bounds_of_mem_logRegs hr
  have := bounds_of_mem_logRegs hr'
  omega

/-- The registers of HOST below the log are none of those it writes. -/
theorem not_mem_logged {r : Nat} (h : r < R.HOST_ACCESS_TOTAL) : r ∉ R.HOST_ACCESS_TOTAL :: logRegs k := by
  unfold R.HOST_ACCESS_TOTAL at h
  intro hr
  rcases List.mem_cons.1 hr with rfl | hr
  · exact absurd h (by decide)
  · have := bounds_of_mem_logRegs hr
    omega

/-- Entry k of HOST_ACCESS_LOG is that of a DW of the PF at byte offset `off`, dropped for `cause` at `time`. -/
structure LogEntry (t : State) (k off cause : Nat) (w : DwWrite) (time : Nat) : Prop where
  cause : t.fld (F.HOST_ACCESS_LOG_W0_CAUSE k) = cause
  offset : t.fld (F.HOST_ACCESS_LOG_W0_OFFSET k) = off / 4
  isVf : t.fld (F.HOST_ACCESS_LOG_W1_IS_VF k) = 0
  be : t.fld (F.HOST_ACCESS_LOG_W1_BE k) = w.be.toNat
  data : t.fld (F.HOST_ACCESS_LOG_W2_DATA k) = w.data.toNat
  time : t.fld (F.HOST_ACCESS_LOG_W3_TIME k) = time % 2 ^ 32

/-- An entry stays while its four registers do. -/
theorem LogEntry.frame {time : Nat} {r p} (e : LogEntry s k off cause w time) (f : Frame s t r p) (hk : k < 16)
    (h : ∀ x ∈ logRegs k, x ∉ r) : LogEntry t k off cause w time := by
  have same (g : Fld) (hg : g.off ∈ logRegs k) : t.fld g = s.fld g := f.fld_eq g (ne_status_of_mem_logRegs hg hk) (h _ hg)
  obtain ⟨h1, h2, h3, h4, h5, h6⟩ := e
  constructor
  · rwa [same _ (by simp [logRegs, F.HOST_ACCESS_LOG_W0_CAUSE])]
  · rwa [same _ (by simp [logRegs, F.HOST_ACCESS_LOG_W0_OFFSET])]
  · rwa [same _ (by simp [logRegs, F.HOST_ACCESS_LOG_W1_IS_VF])]
  · rwa [same _ (by simp [logRegs, F.HOST_ACCESS_LOG_W1_BE])]
  · rwa [same _ (by simp [logRegs, F.HOST_ACCESS_LOG_W2_DATA])]
  · rwa [same _ (by simp [logRegs, F.HOST_ACCESS_LOG_W3_TIME])]

theorem LogEntry.pf {time : Nat} (e : LogEntry s k off cause w time) (hk : k < 16) :
    LogEntry s.refreshPf k off cause w time := e.frame (frame_refreshPf s [] []) hk (by simp)

/-! ### What logging a DW of the PF does -/

/-- The state with entry k written. -/
def State.putEntry (s : State) (k off cause : Nat) (w : DwWrite) : State :=
  s.setWords (R.HOST_ACCESS_LOG_W0 k) (logWords s off cause w)

theorem logWrite_pf (hf : w.fn = .pf) :
    s.logWrite off cause w =
      (s.putEntry (s.fld F.HOST_ACCESS_TOTAL_TOTAL % 16) off cause w).countMod F.HOST_ACCESS_TOTAL_TOTAL := by
  simp only [State.logWrite, hf, State.putEntry]

theorem setWords_four (s : State) (off a b c d : Nat) :
    s.setWords off [a, b, c, d] =
      (((s.setWord off a).setWord (off + 4) b).setWord (off + 8) c).setWord (off + 12) d := rfl

theorem logWords_pf (s : State) (off cause : Nat) (hf : w.fn = .pf) :
    logWords s off cause w =
      [cause * 2 ^ 24 + off % 2 ^ 24 / 4 * 4, w.be.toNat * 2 ^ 20 + bit w.burst * 2 ^ 19, w.data.toNat, s.time] := by
  simp only [logWords, hf, Nat.zero_add]

theorem putEntry_eq (s : State) (k off cause : Nat) (hf : w.fn = .pf) :
    s.putEntry k off cause w =
      (((s.setWord (R.HOST_ACCESS_LOG_W0 k) (cause * 2 ^ 24 + off % 2 ^ 24 / 4 * 4)).setWord (R.HOST_ACCESS_LOG_W1 k)
        (w.be.toNat * 2 ^ 20 + bit w.burst * 2 ^ 19)).setWord (R.HOST_ACCESS_LOG_W2 k) w.data.toNat).setWord
        (R.HOST_ACCESS_LOG_W3 k) s.time := by
  have e1 : R.HOST_ACCESS_LOG_W0 k + 4 = R.HOST_ACCESS_LOG_W1 k := by
    unfold R.HOST_ACCESS_LOG_W0 R.HOST_ACCESS_LOG_W1; omega
  have e2 : R.HOST_ACCESS_LOG_W0 k + 8 = R.HOST_ACCESS_LOG_W2 k := by
    unfold R.HOST_ACCESS_LOG_W0 R.HOST_ACCESS_LOG_W2; omega
  have e3 : R.HOST_ACCESS_LOG_W0 k + 12 = R.HOST_ACCESS_LOG_W3 k := by
    unfold R.HOST_ACCESS_LOG_W0 R.HOST_ACCESS_LOG_W3; omega
  rw [State.putEntry, logWords_pf s off cause hf, setWords_four, e1, e2, e3]

theorem frame_putEntry (s : State) (k off cause : Nat) (hf : w.fn = .pf) :
    Frame s (s.putEntry k off cause w) (logRegs k) [] := by
  rw [putEntry_eq s k off cause hf]
  exact (((frame_setWord s _ _ [] (by simp [logRegs])).setWord _ _ (by simp [logRegs])).setWord _ _
    (by simp [logRegs])).setWord _ _ (by simp [logRegs])

/-- The registers of entry k once it is written. -/
theorem putEntry_words (s : State) (k off cause : Nat) (hf : w.fn = .pf) :
    let t := s.putEntry k off cause w
    t.word (R.HOST_ACCESS_LOG_W0 k) 0 = (cause * 2 ^ 24 + off % 2 ^ 24 / 4 * 4) % 2 ^ 32 ∧
    t.word (R.HOST_ACCESS_LOG_W1 k) 0 = (w.be.toNat * 2 ^ 20 + bit w.burst * 2 ^ 19) % 2 ^ 32 ∧
    t.word (R.HOST_ACCESS_LOG_W2 k) 0 = w.data.toNat % 2 ^ 32 ∧
    t.word (R.HOST_ACCESS_LOG_W3 k) 0 = s.time % 2 ^ 32 := by
  rw [putEntry_eq s k off cause hf]
  simp [State.word_setWord, R.HOST_ACCESS_LOG_W0, R.HOST_ACCESS_LOG_W1, R.HOST_ACCESS_LOG_W2, R.HOST_ACCESS_LOG_W3]

theorem logEntry_putEntry (s : State) (k : Nat) (hf : w.fn = .pf) (ho : off < 2 ^ 24) (hc : cause < 2 ^ 8) :
    LogEntry (s.putEntry k off cause w) k off cause w s.time := by
  obtain ⟨w0, w1, w2, w3⟩ := putEntry_words s k off cause hf
  have hb := w.be.isLt
  have hd := w.data.isLt
  have hu : bit w.burst ≤ 1 := by cases w.burst <;> decide
  constructor
  · simp only [State.fld, F.HOST_ACCESS_LOG_W0_CAUSE, w0, bitsOf]; omega
  · simp only [State.fld, F.HOST_ACCESS_LOG_W0_OFFSET, w0, bitsOf]; omega
  · simp only [State.fld, F.HOST_ACCESS_LOG_W1_IS_VF, w1, bitsOf]; omega
  · simp only [State.fld, F.HOST_ACCESS_LOG_W1_BE, w1, bitsOf]; omega
  · simp only [State.fld, F.HOST_ACCESS_LOG_W2_DATA, w2, bitsOf]; omega
  · simp only [State.fld, F.HOST_ACCESS_LOG_W3_TIME, w3, bitsOf]; omega

theorem frame_logWrite (hf : w.fn = .pf) :
    Frame s (s.logWrite off cause w)
      (R.HOST_ACCESS_TOTAL :: logRegs (s.fld F.HOST_ACCESS_TOTAL_TOTAL % 16)) [] := by
  rw [logWrite_pf hf]
  exact ((frame_putEntry s _ off cause hf).mono (List.subset_cons_self ..) (List.Subset.refl _)).setFld _ _
    (List.mem_cons_self ..)

theorem logWrite_fns (hf : w.fn = .pf) : (s.logWrite off cause w).fns = s.fns := by rw [logWrite_pf hf]; rfl

/-- The log counts the DW. -/
theorem logWrite_total (hf : w.fn = .pf) :
    (s.logWrite off cause w).fld F.HOST_ACCESS_TOTAL_TOTAL = (s.fld F.HOST_ACCESS_TOTAL_TOTAL + 1) % 2 ^ 32 := by
  rw [logWrite_pf hf, State.countMod, State.fld_setFld_same _ _ _ (by decide),
    (frame_putEntry s _ off cause hf).fld_eq _ (by decide) fun h => ne_total_of_mem_logRegs h rfl]
  rfl

/-- The log holds the DW. -/
theorem logEntry_logWrite (hf : w.fn = .pf) (ho : off < 2 ^ 24) (hc : cause < 2 ^ 8) :
    LogEntry (s.logWrite off cause w) (s.fld F.HOST_ACCESS_TOTAL_TOTAL % 16) off cause w s.time := by
  rw [logWrite_pf hf]
  refine (logEntry_putEntry s _ hf ho hc).frame (frame_setFld _ F.HOST_ACCESS_TOTAL_TOTAL _ [] (List.mem_singleton.2 rfl))
    (Nat.mod_lt _ (by decide)) fun x hx e => ?_
  exact ne_total_of_mem_logRegs hx (List.mem_singleton.1 e)

/-- The log holds both of two DWs, in their order. -/
theorem logWrite_twice (s : State) {v w : DwWrite} {a b c d : Nat} (hv : v.fn = .pf) (hw : w.fn = .pf) (ha : a < 2 ^ 24)
    (hb : b < 2 ^ 24) (hc : c < 2 ^ 8) (hd : d < 2 ^ 8) :
    let n := s.fld F.HOST_ACCESS_TOTAL_TOTAL
    let t := (s.logWrite a c v).logWrite b d w
    t.fld F.HOST_ACCESS_TOTAL_TOTAL = (n + 2) % 2 ^ 32 ∧ LogEntry t (n % 16) a c v s.time ∧
      LogEntry t ((n + 1) % 16) b d w s.time ∧
      Frame s t (R.HOST_ACCESS_TOTAL :: (logRegs (n % 16) ++ logRegs ((n + 1) % 16))) [] := by
  intro n t
  have total : (s.logWrite a c v).fld F.HOST_ACCESS_TOTAL_TOTAL = (n + 1) % 2 ^ 32 := logWrite_total hv
  have wrap : (n + 1) % 2 ^ 32 % 16 = (n + 1) % 16 := by omega
  have su : Frame s (s.logWrite a c v) _ [] := frame_logWrite hv
  have ut : Frame (s.logWrite a c v) t _ [] := frame_logWrite hw
  have first : LogEntry (s.logWrite a c v) (n % 16) a c v s.time := logEntry_logWrite hv ha hc
  have second : LogEntry t _ b d w _ := logEntry_logWrite hw hb hd
  rw [total, wrap] at ut second
  rw [show (s.logWrite a c v).time = s.time from su.2 .time (by simp)] at second
  refine ⟨?_, first.frame ut (Nat.mod_lt _ (by decide)) fun x hx e => ?_, second, ?_⟩
  · rw [logWrite_total hw, total]; omega
  · rcases List.mem_cons.1 e with e | e
    · exact ne_total_of_mem_logRegs hx e
    · exact not_mem_logRegs hx (by omega) e
  · exact (su.mono (by simp [n]) (List.Subset.refl _)).trans (ut.mono (by simp) (List.Subset.refl _))

/-! ### What drops a DW of the PF -/

/-- What the model drops a DW of the PF for, whatever the state: poisoned (R237), partial byte enables (R251), a reserved
offset (R265), in the order of R265. -/
abbrev Drops (w : DwWrite) (off cause : Nat) : Prop :=
  cause = 10 ∧ w.poisoned = true ∨ cause = 1 ∧ w.poisoned = false ∧ w.be ≠ 0xF ∨
    cause = 3 ∧ w.poisoned = false ∧ w.be = 0xF ∧ landPf off = .reserved

theorem dropCause_of_drops (s : State) (hf : w.fn = .pf) (h : Drops w off cause) : s.dropCause off w = some cause := by
  obtain ⟨rfl, hp⟩ | ⟨rfl, hp, hb⟩ | ⟨rfl, hp, hb, hl⟩ := h
  · simp [State.dropCause, hp, caPOISONED]
  · rw [State.dropCause, hp, if_neg (by decide), if_pos hb]; rfl
  · simp [State.dropCause, hp, hb, hf, landing, hl, Landing.served, caRSVD_RANGE]

/-- The state with POISON_WRITE set when the DW is poisoned. -/
abbrev State.notePoison (s : State) (w : DwWrite) : State := s.when w.poisoned fun t => t.raise F.HOST_ERR_POISON_WRITE

theorem carryOut_of_drops (hf : w.fn = .pf) (hb : w.be ≠ 0) (h : Drops w off cause) (cs : List Crossing) :
    s.carryOut off w cs = (s.notePoison w).logWrite off cause w := by
  rw [State.carryOut, if_neg hb, dropCause_of_drops _ hf h]

theorem frame_notePoison (s : State) (w : DwWrite) : Frame s (s.notePoison w) [R.HOST_ERR] [] := by
  unfold State.notePoison State.when
  split
  · exact frame_setFld s F.HOST_ERR_POISON_WRITE 1 [] (List.mem_singleton.2 rfl)
  · exact .refl ..

theorem notePoison_fld (s : State) (w : DwWrite) :
    (s.notePoison w).fld F.HOST_ERR_POISON_WRITE = if w.poisoned then 1 else s.fld F.HOST_ERR_POISON_WRITE := by
  unfold State.notePoison State.when
  split
  · exact State.fld_setFld_same s _ 1 (by decide)
  · rfl

/-- The log leaves alone what serving rests on: PWR_STATE, the power state and the functions. -/
theorem serves_logWrite (h : s.Serves) (hf : w.fn = .pf) : (s.logWrite off cause w).Serves := by
  have fr : Frame s (s.logWrite off cause w) _ [] := frame_logWrite hf
  have pw : (s.logWrite off cause w).power = s.power := fr.2 .power (by simp)
  have st := fr.fld_eq F.PWR_STATE_STATE (by decide) (not_mem_logged (by decide))
  have me := fr.fld_eq F.PWR_STATE_M2_ENTERING (by decide) (not_mem_logged (by decide))
  have fn : (s.logWrite off cause w).fn 0 = s.fn 0 := by rw [State.fn, logWrite_fns hf]; rfl
  rwa [State.Serves, pw, st, me, fn]

/-! ### What REGISTER_WRITE reduces to -/

theorem hostWrite_of_drops (h : s.Serves) (hf : w.fn = .pf) (hb : w.be ≠ 0) (ho : off % 4 = 0) (hl : off < 2 ^ 24)
    (hd : Drops w off cause) : s.hostWrite off w = (s.notePoison w).logWrite off cause w := by
  rw [hostWrite_serves h hf ho hl, carryOut_of_drops hf hb hd]

/-- A DW with one, two or three byte enables is logged and does nothing else (R251). -/
theorem hostWrite_partial (h : s.Serves) (hf : w.fn = .pf) (hp : w.poisoned = false) (h0 : w.be ≠ 0) (hF : w.be ≠ 0xF)
    (ho : off % 4 = 0) (hl : off < 2 ^ 24) : s.hostWrite off w = s.logWrite off 1 w := by
  rw [hostWrite_of_drops h hf h0 ho hl (.inr (.inl ⟨rfl, hp, hF⟩)), State.notePoison, hp, State.when_false]

/-- A DW without byte enables does nothing (R251), within the BAR or past its end. -/
theorem hostWrite_no_enables (h : s.Serves) (hf : w.fn = .pf) (hb : w.be = 0) (hp : w.poisoned = false) (ho : off % 4 = 0) :
    s.hostWrite off w = s := by
  by_cases hl : off < 0x1000000
  · rw [hostWrite_serves h hf ho hl, State.carryOut, if_pos hb, hp, State.when_false]
  · have e : off / 4 * 4 = off := by omega
    simp [State.hostWrite, hf, e, Nat.not_lt.1 hl]

theorem exec_registerWrite_aligned (s : State) (w : DwWrite) {off : BitVec 24} (h : off.toNat % 4 = 0) :
    exec (.registerWrite off w) s = done (s.hostWrite off.toNat w) := if_pos h

theorem exec_registerWrite_unaligned (s : State) (w : DwWrite) {off : BitVec 24} (h : off.toNat % 4 ≠ 0) :
    exec (.registerWrite off w) s =
      done ((s.hostWrite (off.toNat - off.toNat % 4) (lowPart w (off.toNat % 4))).hostWrite
        (off.toNat - off.toNat % 4 + 4) (highPart w (off.toNat % 4))) := if_neg h

/-- Four bytes that do not begin on a 4-byte boundary reach each of two DWs in part (R255). -/
theorem parts_partial (hb : w.be = 0xF) (h0 : k ≠ 0) (h4 : k < 4) :
    ((lowPart w k).be ≠ 0 ∧ (lowPart w k).be ≠ 0xF) ∧ (highPart w k).be ≠ 0 ∧ (highPart w k).be ≠ 0xF := by
  simp only [lowPart, highPart, hb]
  have : k = 1 ∨ k = 2 ∨ k = 3 := by omega
  rcases this with rfl | rfl | rfl <;> decide

/-! ### The three clauses -/

theorem answers_dropped {off : BitVec 24} (h : s.Serves) (hf : w.fn = .pf) (hb : w.be ≠ 0) (ho : off.toNat % 4 = 0)
    (hd : Drops w off.toNat cause) :
    Answers (.registerWrite off w) s fun t =>
      let k := s.fld F.HOST_ACCESS_TOTAL_TOTAL % 16
      t.fld F.HOST_ACCESS_TOTAL_TOTAL = (s.fld F.HOST_ACCESS_TOTAL_TOTAL + 1) % 2 ^ 32 ∧
        LogEntry t k off.toNat cause w s.time ∧
        t.fld F.HOST_ERR_POISON_WRITE = (if w.poisoned then 1 else s.fld F.HOST_ERR_POISON_WRITE) ∧
        Frame s t (R.HOST_ERR :: R.HOST_ACCESS_TOTAL :: logRegs k) [] := by
  have exe := exec_registerWrite_aligned s w ho
  rw [hostWrite_of_drops h hf hb ho off.isLt hd] at exe
  have noted := frame_notePoison s w
  have total : (s.notePoison w).fld F.HOST_ACCESS_TOTAL_TOTAL = s.fld F.HOST_ACCESS_TOTAL_TOTAL :=
    noted.fld_eq _ (by decide) (by decide)
  have time : (s.notePoison w).time = s.time := noted.2 .time (by simp)
  have hc : cause < 2 ^ 8 := by omega
  have logged := frame_logWrite (s := s.notePoison w) (off := off.toNat) (cause := cause) hf
  have entry := logEntry_logWrite (s := s.notePoison w) hf off.isLt hc
  rw [total] at logged entry
  rw [time] at entry
  refine answers_of_done exe ⟨?_, entry.pf (Nat.mod_lt _ (by decide)), ?_, ?_⟩
  · rw [State.refreshPf_fld _ _ (by decide), logWrite_total hf, total]
  · rw [State.refreshPf_fld _ _ (by decide), logged.fld_eq _ (by decide) (not_mem_logged (by decide)), notePoison_fld]
  · exact ((noted.mono (by simp) (List.Subset.refl _)).trans
      (logged.mono (List.subset_cons_self ..) (List.Subset.refl _))).pf

theorem answers_no_enables (off : BitVec 24) (h : s.Serves) (hf : w.fn = .pf) (hb : w.be = 0) (hp : w.poisoned = false) :
    Answers (.registerWrite off w) s fun t => Frame s t [] [] ∧ ∀ i, SameFn s t i := by
  have exe : exec (.registerWrite off w) s = done s := by
    by_cases ho : off.toNat % 4 = 0
    · rw [exec_registerWrite_aligned s w ho, hostWrite_no_enables h hf hb hp ho]
    · rw [exec_registerWrite_unaligned s w ho,
        hostWrite_no_enables (w := lowPart w _) h hf (by simp [lowPart, hb]) hp (by omega),
        hostWrite_no_enables (w := highPart w _) h hf (by simp [highPart, hb]) hp (by omega)]
  exact answers_of_done exe ⟨frame_refreshPf .., sameFn_refreshPf s⟩

theorem answers_unaligned {off : BitVec 24} (h : s.Serves) (hf : w.fn = .pf) (hb : w.be = 0xF) (hp : w.poisoned = false)
    (ho : off.toNat % 4 ≠ 0) (hl : off.toNat < 0xFFFFFC) :
    Answers (.registerWrite off w) s fun t =>
      let n := s.fld F.HOST_ACCESS_TOTAL_TOTAL
      t.fld F.HOST_ACCESS_TOTAL_TOTAL = (n + 2) % 2 ^ 32 ∧
        LogEntry t (n % 16) (off.toNat - off.toNat % 4) 1 (lowPart w (off.toNat % 4)) s.time ∧
        LogEntry t ((n + 1) % 16) (off.toNat - off.toNat % 4 + 4) 1 (highPart w (off.toNat % 4)) s.time ∧
        Frame s t (R.HOST_ACCESS_TOTAL :: (logRegs (n % 16) ++ logRegs ((n + 1) % 16))) [] := by
  obtain ⟨⟨lo0, loF⟩, hi0, hiF⟩ := parts_partial hb ho (Nat.mod_lt off.toNat (by decide))
  have a4 : (off.toNat - off.toNat % 4) % 4 = 0 := by omega
  have b24 : off.toNat - off.toNat % 4 + 4 < 2 ^ 24 := by omega
  have exe := exec_registerWrite_unaligned s w ho
  rw [hostWrite_partial (w := lowPart w _) h hf hp lo0 loF a4 (by omega),
    hostWrite_partial (w := highPart w _) (serves_logWrite (w := lowPart w _) h hf) hf hp hi0 hiF (by omega) b24] at exe
  obtain ⟨total, lo, hi, frame⟩ := logWrite_twice s (v := lowPart w _) (w := highPart w _) hf hf
    (show off.toNat - off.toNat % 4 < 2 ^ 24 by omega) b24 (c := 1) (d := 1) (by decide) (by decide)
  refine answers_of_done exe ⟨?_, lo.pf (Nat.mod_lt _ (by decide)), hi.pf (Nat.mod_lt _ (by decide)), frame.pf⟩
  rw [State.refreshPf_fld _ _ (by decide), total]

/-- Settles O5: a dropped DW is carried out as one write of the access log, a DW without enables as none, and four unaligned bytes
as two. -/
theorem droppedWritesAreLogged : Obligations.DroppedWritesAreLogged := by
  unfold Obligations.DroppedWritesAreLogged
  refine ⟨?_, ?_, ?_⟩
  · intro s w off cause h hf hb ho hd
    obtain ⟨t, exe, total, e, poison, frame⟩ := answers_dropped h hf hb ho hd
    exact ⟨t, exe, total, e.cause, e.offset, e.isVf, e.be, e.data, e.time, poison, frame⟩
  · intro s w off h hf hb hp
    exact answers_no_enables off h hf hb hp
  · intro s w off h hf hb hp ho hl
    obtain ⟨t, exe, total, lo, hi, frame⟩ := answers_unaligned h hf hb hp ho hl
    refine ⟨t, exe, total, lo.cause, ?_, hi.cause, ?_, frame⟩
    · rw [lo.offset]; omega
    · rw [hi.offset]; omega

end Sys2Proof.Machine
end

section
/-! What an operation that fails a check leaves (R396 to R398). -/

namespace Sys2Proof.Machine

variable {s t : State} {i : Instr} {p : Op} {n code : Nat}

/-! ### Cores beside regions, and what is sent -/

@[simp] theorem State.core_modRgn (s : State) (n : Nat) (f : Region → Region) (g : Nat) : (s.modRgn n f).core g = s.core g := rfl
@[simp] theorem State.rgn_modCore (s : State) (g : Nat) (f : Core → Core) (n : Nat) : (s.modCore g f).rgn n = s.rgn n := rfl

theorem sent_of_out (h : t.out = s.out) : Sent s t [] := ⟨[], by simp [h], by simp⟩

theorem frame_modCore (s : State) (g : Nat) (f : Core → Core) {r : List Nat} {parts : List Part} (h : .cores ∈ parts) :
    Frame s (s.modCore g f) r parts :=
  ⟨fun _ _ _ _ => rfl, fun q hq => by cases q with | cores => exact absurd h hq | _ => rfl⟩

theorem frame_modRgn (s : State) (n : Nat) (f : Region → Region) {r : List Nat} {parts : List Part} (h : .regions ∈ parts) :
    Frame s (s.modRgn n f) r parts :=
  ⟨fun _ _ _ _ => rfl, fun q hq => by cases q with | regions => exact absurd h hq | _ => rfl⟩

/-! ### Operations are issued with their checks -/

/-- Every operation of the operation set is issued, and with its own checks (R381, R397). The meanings are unfolded by name: `rfl`
alone unfolds `issue` too, and does not end. -/
theorem exec_eq_issue (h : opOf s i = some p) : ∃ act, exec i s = issue p.core p.opcode p.fields s p.checks act := by
  cases i
  all_goals cases h
  all_goals
    delta exec
    dsimp only [execNop, execMovi, execAlu, execAlui, execRdid, execBr, execJr, execLoop, execSeed, execEnd, execWaitc, execWaitf,
      execNotify, execWaitn, execLd, execSt, execLdg, execStg, execDmag, execDmap, execDmaf, execTfill, execMma, execAccld,
      execAccst, execVbin, execVun, execVscale, execVfma, execVred, execVcvt, execVcmp, execVsel, execSend, execQrd, execAcq,
      execRel, execFence, execAtom, execTatom, execGather, execScatter]
    exact ⟨_, rfl⟩

/-- No check reads what the core waits for. -/
theorem checks_wait (h : opOf s i = some p) (n : Nat) (c : Core) (w : CoreWait) :
    p.checks n { c with wait := w } = p.checks n c := by
  cases i
  all_goals cases h
  all_goals rfl

/-- An operation that a core stands at and that fails a check raises the exception of the lowest code (R397). -/
theorem exec_of_failed_check (h : AtOp i s n p) (hc : lowest (p.checks n (s.core p.core)) = some code) :
    exec i s = done ((s.unwait p.core).coreException n p.core code) := by
  obtain ⟨op, stands, region⟩ := h
  obtain ⟨_, exe⟩ := exec_eq_issue op
  rw [exe, issue_halts stands region (by rwa [checks_wait op])]

/-! ### The exception -/

theorem coreException_core (s : State) (n g code : Nat) :
    (s.coreException n g code).core g = { s.core g with status := .halted, wait := .none } := by
  simp [State.coreException]

theorem coreException_core_ne {g h : Nat} (s : State) (n code : Nat) (hg : h ≠ g) :
    (s.coreException n g code).core h = s.core h := by
  simp [State.coreException, State.core_modCore_ne _ _ hg]

theorem coreException_rgn (s : State) (n g code : Nat) :
    (s.coreException n g code).rgn n = { s.rgn n with
      reports := (s.rgn n).reports ++
        [{ cause := 1, tile := tileOfCore g, core := g, excCode := code, opOffset := (s.core g).pc }] } := by
  simp [State.coreException]

theorem coreException_rgn_ne {n m : Nat} (s : State) (g code : Nat) (hm : m ≠ n) :
    (s.coreException n g code).rgn m = s.rgn m := by
  simp [State.coreException, State.rgn_modRgn_ne _ _ hm]

theorem frame_coreException (s : State) (n g code : Nat) : Frame s (s.coreException n g code) [] [.cores, .regions] :=
  (frame_modCore s g _ (by simp)).trans (frame_modRgn _ n _ (by simp))

/-- Settles O35: the operation is issued with its own checks, and a failed one raises its exception in place of the effect. -/
theorem failedCheckHaltsTheCore : Obligations.FailedCheckHaltsTheCore := by
  unfold Obligations.FailedCheckHaltsTheCore
  intro i s n p code h hc
  refine answers_of_done (exec_of_failed_check h hc) ⟨?_, fun k hk => ?_, ?_, fun m hm => ?_, ?_, Sent.pf (sent_of_out rfl)⟩
  · simp [coreException_core, State.unwait]
  · simp [coreException_core_ne _ _ _ hk, State.unwait, State.core_modCore_ne _ _ hk]
  · simp [coreException_rgn, State.unwait]
  · simp [coreException_rgn_ne _ _ _ hm, State.unwait]
  · exact ((frame_modCore s p.core _ (by simp)).trans (frame_coreException ..)).pf

end Sys2Proof.Machine
end

section
/-! An operation that is ready, a register written, and an acquire (R646). -/

namespace Sys2Proof.Machine

variable {s t : State} {g n : Nat} {o : OpFields}

/-! ### Operations that are ready, and registers of a core -/

/-- An operation that is ready is one that `issue` lets act (`issue_acts`). -/
theorem Ready.issues {i : Instr} {p : Op} (h : Ready i s n) (op : opOf s i = some p) :
    s.atOp p.core p.opcode p.fields = true ∧ s.regionOfCore p.core = some n ∧
      lowest (p.checks n { s.core p.core with wait := .none }) = none := by
  obtain ⟨p', ⟨op', stands, region⟩, pass⟩ := h
  cases op.symm.trans op'
  exact ⟨stands, region, (congrArg lowest (checks_wait op n _ _)).trans pass⟩

@[simp] theorem State.unwait_core (s : State) (g : Nat) : (s.unwait g).core g = { s.core g with wait := .none } :=
  s.core_modCore_same ..

theorem Core.reg_setReg_same (c : Core) {j : Nat} (v : Word64) (b : Bool) (h : j ≠ 0) : (c.setReg j v b).reg j = v := by
  simp [Core.setReg, Core.reg, h]

theorem Core.reg_setReg_ne (c : Core) {j k : Nat} (v : Word64) (b : Bool) (h : k ≠ j) : (c.setReg j v b).reg k = c.reg k := by
  unfold Core.setReg
  split
  · rfl
  · simp [Core.reg, smGet_smPut_ne _ _ _ h]

@[simp] theorem Core.setReg_queues (c : Core) (j : Nat) (v : Word64) (b : Bool) : (c.setReg j v b).queues = c.queues := by
  unfold Core.setReg; split <;> rfl

@[simp] theorem Core.setReg_loads (c : Core) (j : Nat) (v : Word64) (b : Bool) : (c.setReg j v b).loads = c.loads := by
  unfold Core.setReg; split <;> rfl

/-! ### Acquires (R646) -/

theorem frame_modCluster (s : State) (c : Nat) (f : Cluster → Cluster) {r : List Nat} {parts : List Part}
    (h : .clusters ∈ parts) : Frame s (s.modCluster c f) r parts :=
  ⟨fun _ _ _ _ => rfl, fun q hq => by cases q with | clusters => exact absurd h hq | _ => rfl⟩

/-- The core with no line that it fetches kept for the read-only cache of its cluster. -/
def Core.dropFills (c : Core) : Core := { c with loads := c.loads.map fun l => { l with fill := false } }

theorem Core.dropFills_idem (c : Core) : c.dropFills.dropFills = c.dropFills := by
  simp [Core.dropFills]

theorem Core.dropFills_of_none {c : Core} (h : c.loads.any (·.fill) = false) : c.dropFills = c := by
  have same : c.loads.map (fun l => { l with fill := false }) = c.loads := by
    refine List.map_congr_left (g := id) (fun l hl => ?_) |>.trans (List.map_id _)
    have : l.fill = false := by simpa using List.any_eq_false.1 h l hl
    cases l; cases this; rfl
  rw [Core.dropFills, same]

/-- The step of `State.stopFills`, for one core and every line. -/
def State.stopFill (s : State) (g : Nat) : State :=
  if (s.core g).loads.any fun l => l.fill && true then s.modCore g Core.dropFills else s

theorem stopFills_eq (s : State) (c : Nat) : s.stopFills c (fun _ => true) = overList (coresOfCluster c) s State.stopFill := rfl

theorem stopFill_core (s : State) (g h : Nat) : (s.stopFill g).core h = if h = g then (s.core h).dropFills else s.core h := by
  unfold State.stopFill
  by_cases e : h = g
  · subst e
    split
    · simp
    · next none => simp [Core.dropFills_of_none (by simpa using none)]
  · split
    · exact State.core_modCore_ne _ _ e
    · rfl

theorem overList_stopFill_core (l : List Nat) (s : State) (h : Nat) :
    (overList l s State.stopFill).core h = if h ∈ l then (s.core h).dropFills else s.core h := by
  induction l generalizing s with
  | nil => simp
  | cons g l ih =>
    rw [overList_cons, ih, stopFill_core]
    by_cases e : h = g
    · simp [e, Core.dropFills_idem]
    · simp [e]

theorem frame_stopFill (s : State) (g : Nat) (r : List Nat) : Frame s (s.stopFill g) r [.cores] := by
  unfold State.stopFill
  split
  · exact frame_modCore _ _ _ (by simp)
  · exact Frame.refl ..

theorem stopFill_clusters (s : State) (g : Nat) : (s.stopFill g).clusters = s.clusters := by
  unfold State.stopFill; split <;> rfl

theorem stopFill_out (s : State) (g : Nat) : (s.stopFill g).out = s.out := by unfold State.stopFill; split <;> rfl

theorem overList_stopFill_cluster (l : List Nat) (s : State) (k : Nat) :
    (overList l s State.stopFill).cluster k = s.cluster k := by
  simp only [State.cluster, overList_same (fun u : State => u.clusters) l s _ stopFill_clusters]

theorem mem_coresOfCluster {c h : Nat} : h ∈ coresOfCluster c ↔ h / 8 = c := by
  simp only [coresOfCluster, List.mem_map, List.mem_range]
  constructor
  · rintro ⟨k, hk, rfl⟩; omega
  · rintro rfl; exact ⟨h % 8, Nat.mod_lt _ (by decide), Nat.div_add_mod h 8⟩

theorem acquire_core (s : State) (g scope h : Nat) :
    (s.acquire g scope).core h = { s.core h with loads :=
      if 2 ≤ scope ∧ h / 8 = g / 8 then (s.core h).loads.map fun l => { l with fill := false } else (s.core h).loads } := by
  unfold State.acquire
  by_cases hs : 2 ≤ scope
  · rw [if_pos hs, stopFills_eq, overList_stopFill_core]
    simp only [mem_coresOfCluster, hs, true_and]
    split <;> rfl
  · simp [hs]

theorem acquire_cluster (s : State) (g scope : Nat) :
    (s.acquire g scope).cluster (g / 8) =
      { s.cluster (g / 8) with ro := if 2 ≤ scope then [] else (s.cluster (g / 8)).ro } := by
  unfold State.acquire
  by_cases hs : 2 ≤ scope
  · simp [hs, stopFills_eq, overList_stopFill_cluster]
  · simp [hs]

theorem acquire_cluster_ne {g k : Nat} (s : State) (scope : Nat) (h : k ≠ g / 8) :
    (s.acquire g scope).cluster k = s.cluster k := by
  unfold State.acquire
  split
  · rw [stopFills_eq, overList_stopFill_cluster, State.cluster_modCluster_ne _ _ h]
  · rfl

theorem frame_acquire (s : State) (g scope : Nat) (r : List Nat) : Frame s (s.acquire g scope) r [.cores, .clusters] := by
  unfold State.acquire
  split
  · exact (frame_modCluster s _ _ (by simp)).walk _ _ fun u a =>
      (frame_stopFill u a r).mono (List.Subset.refl _) (by simp)
  · exact Frame.refl ..

theorem acquire_out (s : State) (g scope : Nat) : (s.acquire g scope).out = s.out := by
  unfold State.acquire
  split
  · exact overList_same (fun u : State => u.out) _ _ _ stopFill_out
  · rfl

/-- A core that issues an operation which acquires has no load outstanding (R646). -/
theorem loads_of_acquires {opc : BitVec 8} (h : s.atOp g opc o = true) (ha : acquires opc.toNat o = true) :
    (s.core g).loads = [] := by
  simp only [State.atOp, Bool.and_eq_true, Bool.not_eq_true'] at h
  obtain ⟨⟨⟨⟨⟨⟨-, free⟩, -⟩, -⟩, -⟩, -⟩, -⟩ := h
  cases hl : (s.core g).loads with
  | nil => rfl
  | cons l ls => simp [hl, Core.loadHolds, ha] at free

/-- An operation that changes its core, which has no load outstanding, acquires and goes on. -/
theorem acquires_of_done {i : Instr} {f : Core → Core} {c : Core} {scope : Nat}
    (h : exec i s = done (settleOp g (.next ((s.modCore g f).acquire g scope)))) (hl : (f (s.core g)).loads = [])
    (hc : { f (s.core g) with pc := (f (s.core g)).pc + 8 } = c) : Answers i s fun t => Acquires s t g c scope := by
  refine answers_of_done h ⟨?_, fun k hk => ?_, ?_, fun k hk => ?_, ?_, Sent.pf (sent_of_out ?_)⟩
  · simp [settleOp, acquire_core, hl, ← hc]
  · simp [settleOp, acquire_core, State.core_modCore_ne _ _ hk]
  · have := acquire_cluster (s.modCore g f) g scope
    simpa [settleOp, State.cluster] using this
  · have := acquire_cluster_ne (s.modCore g f) scope hk
    simpa [settleOp, State.cluster] using this
  · exact ((frame_modCore s g f (by simp)).trans ((frame_acquire _ g scope []).trans (frame_modCore _ g _ (by simp)))).pf
  · exact acquire_out ..

end Sys2Proof.Machine
end

section
/-! QRD (R388, R464, R564): what a returned credit leaves of a core, and the reads of a receive queue. -/

namespace Sys2Proof.Machine

variable {s : State} {n : Nat} {o : OpFields}

/-! ### Credits that return (R564, R764) -/

theorem sendHead_cores (s : State) (p : Nat) (k : Packet) : (s.sendHead p k).cores = s.cores := by
  simp only [State.sendHead, State.actFlit]
  split <;> rfl

theorem pumpN_cores (fuel : Nat) (s : State) (p : Nat) : (State.pumpN fuel s p).cores = s.cores := by
  induction fuel generalizing s with
  | zero => rfl
  | succ fuel ih =>
    unfold State.pumpN
    split
    · rfl
    · split
      · rw [ih, sendHead_cores]
      · rfl

theorem toPort_cores {k : Packet} (s : State) (p : Nat) (h : k.kind = .credit) : (s.toPort p k).cores = s.cores := by
  unfold State.toPort
  split
  · simp [State.linkDown, h]
  · exact pumpN_cores ..

theorem sendLinkCredit_cores (s : State) (n p ch count : Nat) (set : Bool) :
    (s.sendLinkCredit n p ch count set).cores = s.cores := toPort_cores _ _ rfl

/-- A credit that returns changes no more of a core than its credits. -/
theorem returnCredit_core (s : State) (n tile k h : Nat) :
    ∃ cr, (s.returnCredit n tile k).core h = { s.core h with credits := cr } := by
  have same {u : State} (e : u.cores = s.cores) : ∃ cr, u.core h = { s.core h with credits := cr } :=
    ⟨_, by rw [State.core, e]; rfl⟩
  unfold State.returnCredit
  split
  · exact same rfl
  · split
    · exact same (sendLinkCredit_cores ..)
    · next g _ _ =>
      split
      · exact same rfl
      · split
        · by_cases e : h = g
          · subst e; exact ⟨_, State.core_modCore_same ..⟩
          · exact ⟨_, State.core_modCore_ne _ _ e⟩
        · exact same rfl
    · split <;> exact same rfl

/-! ### The checks of QRD -/

theorem lowest_eq_none {l : List Nat} : lowest l = none ↔ l = [] := List.min?_eq_none_iff

theorem check_eq_nil {code : Nat} {b : Bool} : check code b = [] ↔ b = false := by cases b <;> simp [check]

theorem modBits_eq (o : OpFields) (lo width : Nat) : modBits o lo width = o.mod.toNat / 2 ^ lo % 2 ^ width := rfl

theorem modBits_one_iff (o : OpFields) (i : Nat) : modBits o i 1 = 1 ↔ o.mod.getLsbD i = true := by
  simp [modBits_eq, BitVec.getLsbD, Nat.testBit_eq_decide_div_mod_eq]

/-- A QRD that passes its checks counts, or reads into a pair of registers that is not s0 and s1 (R464). -/
theorem qrd_kind {g : Fin 1024} (h : Ready (.qrd g o) s n) :
    modBits o 0 2 ≠ 3 ∧ (modBits o 0 2 ≠ 2 → o.d.val ≠ 0) := by
  obtain ⟨p, ⟨op, -, -⟩, pass⟩ := h
  cases op
  simp only [lowest_eq_none, qrdChecks, List.append_eq_nil_iff, check_eq_nil, Bool.or_eq_false_iff] at pass
  obtain ⟨⟨-, kind, pair⟩, -⟩ := pass
  refine ⟨by simpa using kind, fun hk => ?_⟩
  have : ¬ (o.d.val % 2 ≠ 0 ∨ o.d.val = 0) := by simpa [hk] using pair
  omega

/-! ### What QRD does -/

/-- The acquire that a QRD with ACQUIRE set makes. -/
def State.qrdAcquire (s : State) (g : Nat) (o : OpFields) : State :=
  if modBits o 2 1 = 1 then s.acquire g (modBits o 3 2) else s

/-- The core with the words of a message in a pair of registers. -/
def Core.setPair (c : Core) (j : Nat) (m : Message) : Core :=
  (c.setReg j m.lo (m.poisonLo || m.poisonHi)).setReg (j + 1) m.hi (m.poisonLo || m.poisonHi)

/-- The core with the head of queue q gone, of which `rest` is left. -/
def Core.popQueue (c : Core) (q : Nat) (rest : List Message) : Core :=
  { c with queues := smPut c.queues q rest, pops := smPut c.pops q ((smGet c.pops 0 q + 1) % 256) }

theorem exec_qrd (g : Fin 1024) (o : OpFields) (s : State) : exec (.qrd g o) s = execQrd g o s := rfl

section
variable {g : Fin 1024} (ready : Ready (.qrd g o) s n)
include ready

theorem exec_qrd_count (hk : modBits o 0 2 = 2) :
    exec (.qrd g o) s = done (settleOp g (.next (((s.unwait g).modCore g fun c =>
      c.setReg o.d (BitVec.ofNat 64 ((s.core g).queue (immBits o 0 3)).length) false).qrdAcquire g o))) := by
  obtain ⟨stands, region, pass⟩ := ready.issues rfl
  rw [exec_qrd, execQrd, issue_acts stands region pass, if_pos hk]; rfl

theorem exec_qrd_wait (hk : modBits o 0 2 ≠ 2) (hq : (s.core g).queue (immBits o 0 3) = []) :
    exec (.qrd g o) s = done (settleOp g (.wait .op (s.unwait g))) := by
  obtain ⟨stands, region, pass⟩ := ready.issues rfl
  rw [exec_qrd, execQrd, issue_acts stands region pass, if_neg hk]
  simp only [Core.queue] at hq ⊢
  rw [hq]

theorem exec_qrd_peek {m : Message} {rest : List Message} (hk : modBits o 0 2 = 1)
    (hq : (s.core g).queue (immBits o 0 3) = m :: rest) :
    exec (.qrd g o) s = done (settleOp g (.next (((s.unwait g).modCore g (·.setPair o.d m)).qrdAcquire g o))) := by
  obtain ⟨stands, region, pass⟩ := ready.issues rfl
  rw [exec_qrd, execQrd, issue_acts stands region pass, if_neg (by omega)]
  simp only [Core.queue] at hq ⊢
  rw [hq]; simp only [if_pos hk]; rfl

theorem exec_qrd_pop {m : Message} {rest : List Message} (hk : modBits o 0 2 = 0)
    (hq : (s.core g).queue (immBits o 0 3) = m :: rest) :
    exec (.qrd g o) s = done (settleOp g (.next (((((s.unwait g).modCore g (·.setPair o.d m)).modCore g
      (·.popQueue (immBits o 0 3) rest)).returnCredit n (tileOfCore g) m.chan).qrdAcquire g o))) := by
  obtain ⟨stands, region, pass⟩ := ready.issues rfl
  rw [exec_qrd, execQrd, issue_acts stands region pass, if_neg (by omega)]
  simp only [Core.queue] at hq ⊢
  rw [hq]; simp only [if_neg (show modBits o 0 2 ≠ 1 by omega)]; rfl

end

/-! ### What a QRD that reads leaves of its core -/

theorem Core.reg_setPair_lo (c : Core) {j : Nat} (m : Message) (h : j ≠ 0) : (c.setPair j m).reg j = m.lo := by
  rw [Core.setPair, Core.reg_setReg_ne _ _ _ (by omega), Core.reg_setReg_same _ _ _ h]

theorem Core.reg_setPair_hi (c : Core) (j : Nat) (m : Message) : (c.setPair j m).reg (j + 1) = m.hi := by
  rw [Core.setPair, Core.reg_setReg_same _ _ _ (by omega)]

theorem Core.reg_setPair_ne (c : Core) {j k : Nat} (m : Message) (h : k ≠ j) (h1 : k ≠ j + 1) :
    (c.setPair j m).reg k = c.reg k := by
  rw [Core.setPair, Core.reg_setReg_ne _ _ _ h1, Core.reg_setReg_ne _ _ _ h]

@[simp] theorem Core.setPair_pc (c : Core) (j : Nat) (m : Message) : (c.setPair j m).pc = c.pc := by simp [Core.setPair]

@[simp] theorem Core.setPair_queues (c : Core) (j : Nat) (m : Message) : (c.setPair j m).queues = c.queues := by
  simp [Core.setPair]

@[simp] theorem Core.popQueue_pc (c : Core) (q : Nat) (rest : List Message) : (c.popQueue q rest).pc = c.pc := rfl

@[simp] theorem Core.popQueue_queues (c : Core) (q : Nat) (rest : List Message) :
    (c.popQueue q rest).queues = smPut c.queues q rest := rfl

/-- Core `d` is core `c` once a QRD has read message `m` into registers j and j + 1 and left the receive queues `qs` (R464). -/
structure ReadInto (c d : Core) (j : Nat) (m : Message) (qs : SMap (List Message)) : Prop where
  lo : d.reg j = m.lo
  hi : d.reg (j + 1) = m.hi
  other : ∀ i, i ≠ j → i ≠ j + 1 → d.reg i = c.reg i
  pc : d.pc = c.pc + 8
  queues : d.queues = qs

/-- Going on after the acquire changes no more of the core than its program counter and its loads. -/
theorem settle_qrdAcquire_core (u : State) (g : Nat) (o : OpFields) :
    ∃ ls, (settleOp g (.next (u.qrdAcquire g o))).core g = { u.core g with pc := (u.core g).pc + 8, loads := ls } := by
  unfold State.qrdAcquire
  split
  · exact ⟨_, by rw [settleOp, State.core_modCore_same, acquire_core]⟩
  · exact ⟨(u.core g).loads, by rw [settleOp, State.core_modCore_same]⟩

theorem answers_read {g : Fin 1024} {u : State} {m : Message} {qs : SMap (List Message)} (hd : o.d.val ≠ 0)
    (exe : exec (.qrd g o) s = done (settleOp g (.next (u.qrdAcquire g o))))
    (reg : ∀ k, (u.core g).reg k = (({ s.core g with wait := .none } : Core).setPair o.d m).reg k)
    (pc : (u.core g).pc = (s.core g).pc) (queues : (u.core g).queues = qs) :
    Answers (.qrd g o) s fun t => ReadInto (s.core g) (t.core g) o.d m qs := by
  obtain ⟨ls, ht⟩ := settle_qrdAcquire_core u g o
  refine answers_of_done exe ?_
  rw [State.refreshPf_core, ht]
  exact ⟨(reg _).trans (Core.reg_setPair_lo _ m hd), (reg _).trans (Core.reg_setPair_hi _ _ m),
    fun i h h1 => (reg i).trans (Core.reg_setPair_ne _ m h h1), congrArg (· + 8) pc, queues⟩

/-! ### The three clauses -/

section
variable {g : Fin 1024} (ready : Ready (.qrd g o) s n)
include ready

theorem answers_qrd_count (hk : modBits o 0 2 = 2) :
    Answers (.qrd g o) s fun t =>
      let done := ((s.core g).setReg o.d (BitVec.ofNat 64 ((s.core g).queue (immBits o 0 3)).length) false).past
      if o.mod.getLsbD 2 then Acquires s t g done (modBits o 3 2) else OneCore s t g done := by
  have exe := exec_qrd_count ready hk
  by_cases ha : modBits o 2 1 = 1
  · obtain ⟨stands, -, -⟩ := ready.issues rfl
    have free : (s.core g).loads = [] := loads_of_acquires stands (by simp [acquires, ha])
    rw [State.qrdAcquire, if_pos ha, State.unwait, State.modCore_modCore] at exe
    simp only [if_pos ((modBits_one_iff o 2).1 ha)]
    exact acquires_of_done exe (by simpa using free) (by rw [Core.setReg_wait]; rfl)
  · rw [State.qrdAcquire, if_neg ha] at exe
    simp only [if_neg (mt (modBits_one_iff o 2).2 ha)]
    exact oneCore_of_next exe (by rw [Core.setReg_wait]; rfl)

theorem answers_qrd_head {m : Message} {rest : List Message} (hk : modBits o 0 2 ≠ 2)
    (hq : (s.core g).queue (immBits o 0 3) = m :: rest) :
    Answers (.qrd g o) s fun t => ReadInto (s.core g) (t.core g) o.d m
      (if modBits o 0 2 = 0 then smPut (s.core g).queues (immBits o 0 3) rest else (s.core g).queues) := by
  obtain ⟨not3, pair⟩ := qrd_kind ready
  by_cases h0 : modBits o 0 2 = 0
  · rw [if_pos h0]
    obtain ⟨cr, hc⟩ := returnCredit_core (((s.unwait g).modCore g (·.setPair o.d m)).modCore g
      (·.popQueue (immBits o 0 3) rest)) n (tileOfCore g) m.chan g
    rw [State.core_modCore_same, State.core_modCore_same, State.unwait_core] at hc
    exact answers_read (pair hk) (exec_qrd_pop ready h0 hq) (fun k => by rw [hc]; rfl) (by simp [hc])
      (by simp [hc])
  · have h1 : modBits o 0 2 = 1 := by
      have : modBits o 0 2 < 4 := Nat.mod_lt _ (by decide)
      omega
    rw [if_neg h0]
    have hc : ((s.unwait g).modCore g (·.setPair o.d m)).core g =
        ({ s.core g with wait := .none } : Core).setPair o.d m := by
      rw [State.core_modCore_same, State.unwait_core]
    exact answers_read (pair hk) (exec_qrd_peek ready h1 hq) (fun k => by rw [hc]) (by simp [hc]) (by simp [hc])

theorem answers_qrd_wait (hk : modBits o 0 2 ≠ 2) (hq : (s.core g).queue (immBits o 0 3) = []) :
    Answers (.qrd g o) s fun t => OneCore s t g { s.core g with wait := .op } :=
  oneCore_of_done (by rw [exec_qrd_wait ready hk hq, settleOp, State.unwait, State.modCore_modCore]) rfl

end

/-- Settles O49: QRD counts, reads or pops, or waits, by its kind and by what the queue holds. -/
theorem queueReadsComplete : Obligations.QueueReadsComplete := by
  unfold Obligations.QueueReadsComplete
  intro g o s n c q kind ready
  have hq : immBits o 0 3 = q := by simp [immBits, bitsOf, q]
  have hk : modBits o 0 2 = kind := by simp [modBits_eq, kind]
  have hs : modBits o 3 2 = o.mod.toNat / 8 % 4 := rfl
  rw [← hq, ← hk, ← hs]
  refine ⟨answers_qrd_count ready, fun m rest hm h2 => ?_, fun he h2 => answers_qrd_wait ready h2 he⟩
  obtain ⟨t, exe, read⟩ := answers_qrd_head ready h2 hm
  refine ⟨t, exe, read.lo, read.hi, read.other, read.pc, ?_⟩
  rw [Core.queue, read.queues]
  split
  · exact smGet_smPut_same ..
  · rfl

end Sys2Proof.Machine
end

section
/-! TFILL, MMA, ACCLD and ACCST (R407, R429, R449 to R455): what a fill leaves in a cluster memory, what a region of an accumulator
holds once written, and what stays. -/

namespace Sys2Proof.Machine

variable {s : State} {g n : Nat} {o : OpFields}

/-! ### Lists of cells put into a map -/

/-- An index that a list of cells names, always with one value, holds that value. -/
theorem foldl_smPut_agree {α : Type} (b m : SMap α) (d : α) {a : Nat} {v : α} (named : (a, v) ∈ b)
    (one : ∀ w, (a, w) ∈ b → w = v) : smGet (b.foldl (fun acc e => smPut acc e.1 e.2) m) d a = v := by
  induction b generalizing m with
  | nil => simp at named
  | cons e b ih =>
    rw [List.foldl_cons]
    by_cases again : ∃ w, (a, w) ∈ b
    · obtain ⟨w, hw⟩ := again
      cases one w (List.mem_cons_of_mem _ hw)
      exact ih _ hw fun w hw => one w (List.mem_cons_of_mem _ hw)
    · have last : e = (a, v) := by
        rcases List.mem_cons.1 named with h | h
        · exact h.symm
        · exact absurd ⟨v, h⟩ again
      rw [foldl_smPut_other _ _ _ _ fun x hx hxa => again ⟨x.2, by rwa [← hxa]⟩, last, smGet_smPut_same]

/-- A byte that a write names, always with one value, reads as written. -/
theorem PMem.byte_write_agree (m : PMem) {b : Mem} (bad : List Nat) (draw : Nat) {a : Nat} {v : Byte} (named : (a, v) ∈ b)
    (one : ∀ w, (a, w) ∈ b → w = v) : (m.write b bad).byte draw a = v := by
  rw [PMem.byte, PMem.write_bytes]
  exact foldl_smPut_agree b m.bytes _ named one

theorem mem_memAt {a x : Nat} {l : List Byte} {v : Byte} : (x, v) ∈ memAt a l ↔ ∃ j, l[j]? = some v ∧ x = a + j := by
  simp only [memAt, List.mem_map, Prod.mk.injEq, Prod.exists, List.mk_mem_zipIdx_iff_getElem?]
  constructor
  · rintro ⟨w, j, hw, rfl, rfl⟩; exact ⟨j, hw, rfl⟩
  · rintro ⟨j, hv, rfl⟩; exact ⟨v, j, hv, rfl, rfl⟩

/-- Byte k of a word. -/
theorem toBytes_getD (k v : Nat) {len : Nat} (h : k < len) : (toBytes len v).getD k 0 = BitVec.ofNat 8 (v / 256 ^ k) := by
  induction len generalizing k v with
  | zero => omega
  | succ len ih =>
    cases k with
    | zero => simp [toBytes]
    | succ k =>
      rw [toBytes, List.getD_cons_succ, ih _ _ (by omega), Nat.div_div_eq_div_mul, pow_succ']

/-! ### The storage of a tile (R424 to R426) -/

/-- A tile that passes its checks has room for a line between the starts of two lines (R426). -/
theorem Tile.lb_le_stride {d : Tile} (h : d.exc = []) : d.lb ≤ d.stride := by
  simp only [Tile.exc, List.append_eq_nil_iff, check_eq_nil, Bool.or_eq_false_iff] at h
  obtain ⟨⟨⟨-, room⟩, -⟩, -⟩ := h
  simpa using room

/-- Bytes of the lines of such a tile that share their address have the same place in their lines. -/
theorem Tile.lineAt_add_inj {d : Tile} (room : d.lb ≤ d.stride) {i i' j j' : Nat} (hj : j < d.lb) (hj' : j' < d.lb)
    (h : d.lineAt i + j = d.lineAt i' + j') : j = j' := by
  have sum : i * d.stride + j = i' * d.stride + j' := by unfold Tile.lineAt at h; omega
  have cut := congrArg (· % d.stride) sum
  simpa [Nat.mul_add_mod_self_right, Nat.mod_eq_of_lt (hj.trans_le room), Nat.mod_eq_of_lt (hj'.trans_le room)] using cut

/-- The scale bytes follow the lines (R425). -/
theorem Tile.lineAt_add_lt_scaleAt {d : Tile} (room : d.lb ≤ d.stride) {i j : Nat} (hi : i < d.lines) (hj : j < d.lb) (k : Nat) :
    d.lineAt i + j < d.scaleAt k := by
  have : (i + 1) * d.stride ≤ d.lines * d.stride := Nat.mul_le_mul_right _ hi
  rw [Nat.succ_mul] at this
  unfold Tile.lineAt Tile.scaleAt
  omega

theorem Tile.line_mem_pieces {d : Tile} {i : Nat} (hi : i < d.lines) : (d.lineAt i, d.lb) ∈ d.pieces :=
  List.mem_append_left _ (List.mem_map.2 ⟨i, List.mem_range.2 hi, rfl⟩)

theorem Tile.scales_mem_pieces {d : Tile} (h : d.fmt = 7) : (d.scaleAt 0, d.lines * d.scales) ∈ d.pieces :=
  List.mem_append_right _ (by simp [h])

/-! ### A tile filled with a pattern (R449) -/

/-- The cells of the lines of a tile that TFILL fills with a pattern. -/
def Tile.fillLines (d : Tile) (pat : List Byte) : Mem :=
  (List.range d.lines).flatMap fun i => memAt (d.lineAt i) ((List.range d.lb).map fun j => pat.getD (j % 8) 0)

/-- The cells of its scale bytes. -/
def Tile.fillScales (d : Tile) (pat : List Byte) : Mem :=
  memAt (d.scaleAt 0) (List.replicate (d.lines * d.scales) (pat.getD 0 0))

/-- The memory in which TFILL has filled the tile. -/
def Tile.fill (d : Tile) (m : PMem) (pat : List Byte) (bad : Bool) : PMem :=
  (m.write (d.fillLines pat) (if bad then wordsOf (d.fillLines pat) else [])).write (d.fillScales pat)
    (if bad then wordsOf (d.fillScales pat) else [])

variable {d : Tile} {pat : List Byte} {a : Nat} {v : Byte}

theorem Tile.mem_fillLines :
    (a, v) ∈ d.fillLines pat ↔ ∃ i j, i < d.lines ∧ j < d.lb ∧ a = d.lineAt i + j ∧ v = pat.getD (j % 8) 0 := by
  simp only [Tile.fillLines, List.mem_flatMap, List.mem_range, mem_memAt, List.getElem?_eq_some_iff,
    List.length_map, List.length_range, List.getElem_map, List.getElem_range]
  constructor
  · rintro ⟨i, hi, j, ⟨hj, rfl⟩, rfl⟩; exact ⟨i, j, hi, hj, rfl, rfl⟩
  · rintro ⟨i, j, hi, hj, rfl, rfl⟩; exact ⟨i, hi, j, ⟨hj, rfl⟩, rfl⟩

theorem Tile.mem_fillScales :
    (a, v) ∈ d.fillScales pat ↔ ∃ j < d.lines * d.scales, a = d.scaleAt 0 + j ∧ v = pat.getD 0 0 := by
  simp only [Tile.fillScales, mem_memAt, List.getElem?_replicate, Option.ite_none_right_eq_some, Option.some.injEq]
  constructor
  · rintro ⟨j, ⟨hj, rfl⟩, rfl⟩; exact ⟨j, hj, rfl, rfl⟩
  · rintro ⟨j, hj, rfl, rfl⟩; exact ⟨j, ⟨hj, rfl⟩, rfl⟩

/-- Byte j of every line takes byte j mod 8 of the pattern. -/
theorem Tile.byte_fill_line (m : PMem) (pat : List Byte) (bad : Bool) (room : d.lb ≤ d.stride) {i j : Nat} (hi : i < d.lines)
    (hj : j < d.lb) (draw : Nat) : (d.fill m pat bad).byte draw (d.lineAt i + j) = pat.getD (j % 8) 0 := by
  rw [Tile.fill, PMem.byte_write_other]
  · refine PMem.byte_write_agree _ _ _ (Tile.mem_fillLines.2 ⟨i, j, hi, hj, rfl, rfl⟩) fun w hw => ?_
    obtain ⟨i', j', -, hj', same, rfl⟩ := Tile.mem_fillLines.1 hw
    rw [Tile.lineAt_add_inj room hj hj' same]
  · intro e he same
    obtain ⟨k, -, at', -⟩ := Tile.mem_fillScales.1 he
    have := Tile.lineAt_add_lt_scaleAt room hi hj 0
    omega

/-- Every scale byte takes the first byte of the pattern. -/
theorem Tile.byte_fill_scale (m : PMem) (pat : List Byte) (bad : Bool) {j : Nat} (hj : j < d.lines * d.scales) (draw : Nat) :
    (d.fill m pat bad).byte draw (d.scaleAt 0 + j) = pat.getD 0 0 := by
  refine PMem.byte_write_agree _ _ _ (Tile.mem_fillScales.2 ⟨j, hj, rfl, rfl⟩) fun w hw => ?_
  obtain ⟨-, -, -, e⟩ := Tile.mem_fillScales.1 hw
  exact e

/-- A byte outside the tile's pieces stays. -/
theorem Tile.byte_fill_outside (m : PMem) (pat : List Byte) (bad : Bool) {b : Nat}
    (out : ∀ p ∈ d.pieces, b < p.1 ∨ p.1 + p.2 ≤ b) (draw : Nat) : (d.fill m pat bad).byte draw b = m.byte draw b := by
  rw [Tile.fill, PMem.byte_write_other, PMem.byte_write_other]
  · intro e he same
    obtain ⟨i, j, hi, hj, at', -⟩ := Tile.mem_fillLines.1 he
    have := out _ (Tile.line_mem_pieces hi)
    omega
  · intro e he same
    obtain ⟨j, hj, at', -⟩ := Tile.mem_fillScales.1 he
    by_cases mx : d.fmt = 7
    · have := out _ (Tile.scales_mem_pieces mx)
      omega
    · simp [Tile.scales, mx] at hj

/-! ### The memory of a cluster replaced -/

theorem frame_draws (s : State) (k : Nat) (r : List Nat) (parts : List Part) : Frame s { s with draws := k } r parts :=
  ⟨fun _ _ _ _ => rfl, fun q _ => by cases q <;> rfl⟩

theorem frame_launchPoison_when (s : State) (n : Nat) (b : Bool) {parts : List Part} (h : .regions ∈ parts) :
    Frame s (s.when b fun u => u.launchPoison n) [] parts := by
  cases b
  · exact Frame.refl ..
  · exact frame_modRgn s n _ h

@[simp] theorem launchPoison_when_core (s : State) (n : Nat) (b : Bool) (h : Nat) :
    (s.when b fun u => u.launchPoison n).core h = s.core h := by cases b <;> rfl

@[simp] theorem launchPoison_when_clusters (s : State) (n : Nat) (b : Bool) :
    (s.when b fun u => u.launchPoison n).clusters = s.clusters := by cases b <;> rfl

@[simp] theorem launchPoison_when_out (s : State) (n : Nat) (b : Bool) :
    (s.when b fun u => u.launchPoison n).out = s.out := by cases b <;> rfl

@[simp] theorem setMem_core (s : State) (n g : Nat) (m : PMem) (b : Bool) (h : Nat) : (s.setMem n g m b).core h = s.core h :=
  launchPoison_when_core s n b h

@[simp] theorem setMem_out (s : State) (n g : Nat) (m : PMem) (b : Bool) : (s.setMem n g m b).out = s.out :=
  launchPoison_when_out s n b

theorem setMem_cluster (s : State) (n g : Nat) (m : PMem) (b : Bool) :
    (s.setMem n g m b).cluster (g / 8) = { s.cluster (g / 8) with mem := m } := by
  simp [State.setMem, State.cluster, State.modCluster]

theorem setMem_cluster_ne {k : Nat} (s : State) (n : Nat) (m : PMem) (b : Bool) (h : k ≠ g / 8) :
    (s.setMem n g m b).cluster k = s.cluster k := by
  simp [State.setMem, State.cluster, State.modCluster, smGet_smMod_ne _ _ _ _ h]

theorem frame_setMem (s : State) (n g : Nat) (m : PMem) (b : Bool) {parts : List Part} (hr : .regions ∈ parts)
    (hc : .clusters ∈ parts) : Frame s (s.setMem n g m b) [] parts :=
  (frame_launchPoison_when s n b hr).trans
    ((frame_modCluster _ (g / 8) (fun c => { c with mem := m }) hc).trans (frame_draws _ (s.draws + 1) [] parts))

/-- An operation that replaces the memory of its core's cluster and changes no more of its core than the rounding state. -/
theorem memSet_of_done {i : Instr} {m : PMem} {bad : Bool} {f : Core → Core} {x : Word}
    (exe : exec i s = done (((s.unwait g).setMem n g m bad).modCore g f))
    (hf : f { s.core g with wait := .none } = { s.core g with sr := x }.past) : Answers i s fun t => MemSet s t g m x := by
  refine answers_of_done exe ⟨?_, fun k hk => ?_, ?_, fun k hk => ?_, ?_, Sent.pf (sent_of_out ?_)⟩
  · rw [State.refreshPf_cluster]
    exact congrArg Cluster.mem (setMem_cluster ..)
  · rw [State.refreshPf_cluster]
    exact setMem_cluster_ne (s.unwait g) n m bad hk
  · simp [hf]
  · simp [State.core_modCore_ne _ _ hk, State.unwait]
  · exact ((frame_modCore s g _ (by simp)).trans
      ((frame_setMem _ n g m bad (by simp) (by simp)).trans (frame_modCore _ g f (by simp)))).pf
  · rw [State.modCore_out, setMem_out]; rfl

/-! ### The region of an accumulator (R450) -/

theorem accCell_eq (o : OpFields) (i j : Nat) : accCell o i j = accAt (immBits o 0 2) (immBits o 2 6 + i) (immBits o 8 6 + j) := by
  simp [accCell, accAt, immBits, bitsOf]

theorem Core.accGet_eq (c : Core) (o : OpFields) (i j : Nat) : c.accGet o i j = (smGet c.acc 0 (accCell o i j)).toNat := by
  rw [accCell_eq]; rfl

/-- The region lies within the rows of 64 elements of its accumulator. -/
theorem accExc_eq_nil {rows cols : Nat} (h : accExc o rows cols = []) :
    immBits o 2 6 + rows ≤ 64 ∧ immBits o 8 6 + cols ≤ 64 := by
  simpa [accExc, check_eq_nil] using h

/-- Elements of such a region that share their cell are the same. -/
theorem accCell_inj {cols i i' j j' : Nat} (fits : immBits o 8 6 + cols ≤ 64) (hj : j < cols) (hj' : j' < cols)
    (h : accCell o i j = accCell o i' j') : i = i' ∧ j = j' := by
  rw [accCell_eq, accCell_eq] at h
  unfold accAt at h
  omega

/-- The cells of the region with their new values. -/
def accCells (o : OpFields) (rows cols : Nat) (v : Nat → Nat → Nat) : SMap Word :=
  (List.range rows).flatMap fun i => (List.range cols).map fun j => (accCell o i j, BitVec.ofNat 32 (v i j))

theorem mem_accCells {rows cols k : Nat} {v : Nat → Nat → Nat} {w : Word} :
    (k, w) ∈ accCells o rows cols v ↔ ∃ i j, i < rows ∧ j < cols ∧ k = accCell o i j ∧ w = BitVec.ofNat 32 (v i j) := by
  simp only [accCells, List.mem_flatMap, List.mem_map, List.mem_range, Prod.mk.injEq]
  constructor
  · rintro ⟨i, hi, j, hj, rfl, rfl⟩; exact ⟨i, j, hi, hj, rfl, rfl⟩
  · rintro ⟨i, j, hi, hj, rfl, rfl⟩; exact ⟨i, hi, j, hj, rfl, rfl⟩

theorem Core.setAcc_acc (c : Core) (o : OpFields) (rows cols : Nat) (v : Nat → Nat → Nat) (bad : Bool) :
    (c.setAcc o rows cols v bad).acc = (accCells o rows cols v).foldl (fun acc e => smPut acc e.1 e.2) c.acc := by
  simp only [Core.setAcc, accSel, accCells, accCell_eq, List.foldl_flatMap, List.foldl_map]

/-- Past an operation that sets the region, each element of the region holds its value, and no other element has changed. -/
theorem accSet_setAcc (c : Core) {rows cols : Nat} (v : Nat → Nat → Nat) (bad : Bool) (fits : immBits o 8 6 + cols ≤ 64) :
    AccSet c (c.setAcc o rows cols v bad).past o rows cols v := by
  refine ⟨fun i j hi hj => ?_, fun k hk => ?_, rfl, rfl, rfl⟩
  · rw [Core.past, Core.setAcc_acc]
    refine foldl_smPut_agree _ _ _ (mem_accCells.2 ⟨i, j, hi, hj, rfl, rfl⟩) fun w hw => ?_
    obtain ⟨i', j', -, hj', same, rfl⟩ := mem_accCells.1 hw
    obtain ⟨rfl, rfl⟩ := accCell_inj fits hj hj' same
    rfl
  · rw [Core.past, Core.setAcc_acc]
    refine foldl_smPut_other _ _ _ _ fun e he same => ?_
    obtain ⟨i, j, hi, hj, at', -⟩ := mem_accCells.1 he
    exact hk i j hi hj (same.symm.trans at')

/-- The state in which core g has set a region of its accumulators; a poisoned word that was read marks the launch (R782). -/
def State.setAcc (u : State) (n g : Nat) (o : OpFields) (rows cols : Nat) (v : Nat → Nat → Nat) (bad : Bool) : State :=
  ({ u with draws := u.draws + 1 }.when bad fun w => w.launchPoison n).modCore g fun c => c.setAcc o rows cols v bad

/-- An operation that sets a region of its core's accumulators, from a state `u` that differs from that at its issue in regions
alone. -/
theorem accSet_of_done {i : Instr} {u : State} {rows cols : Nat} {v : Nat → Nat → Nat} {bad : Bool}
    (exe : exec i s = done (settleOp g (.next (u.setAcc n g o rows cols v bad)))) (cores : u.cores = (s.unwait g).cores)
    (frame : Frame (s.unwait g) u [] [.cores, .regions]) (out : u.out = s.out) (fits : immBits o 8 6 + cols ≤ 64) :
    Answers i s fun t => AccSet (s.core g) (t.core g) o rows cols v ∧ (∀ h, h ≠ g → t.core h = s.core h) ∧
      Frame s t [] [.cores, .regions] ∧ Sent s t [] := by
  have core (h : Nat) : ({ u with draws := u.draws + 1 } : State).core h = (s.unwait g).core h := by
    simp only [State.core, cores]
  rw [State.setAcc, settleOp_next_modCore] at exe
  refine answers_of_done exe ⟨?_, fun h hg => ?_, ?_, Sent.pf (sent_of_out ?_)⟩
  · rw [State.refreshPf_core, State.core_modCore_same, launchPoison_when_core, core, State.unwait_core]
    exact accSet_setAcc (s.core g) v bad fits
  · rw [State.refreshPf_core, State.core_modCore_ne _ _ hg, launchPoison_when_core, core, State.unwait,
      State.core_modCore_ne _ _ hg]
  · exact ((frame_modCore s g _ (by simp)).trans (frame.trans ((frame_draws u (u.draws + 1) [] _).trans
      ((frame_launchPoison_when _ n bad (by simp)).trans (frame_modCore _ g _ (by simp)))))).pf
  · rw [State.modCore_out, launchPoison_when_out, out]

/-! ### The operations -/

theorem modBits_one_beq (o : OpFields) (i : Nat) : (modBits o i 1 == 1) = o.mod.getLsbD i := by
  rw [Bool.eq_iff_iff, beq_iff_eq, modBits_one_iff]

/-- No check of an operation that is ready fails. -/
theorem Ready.checks_eq_nil {i : Instr} {p : Op} (h : Ready i s n) (op : opOf s i = some p) :
    p.checks n (s.core p.core) = [] := by
  obtain ⟨p', ⟨op', -, -⟩, pass⟩ := h
  cases op.symm.trans op'
  exact lowest_eq_none.1 pass

section
variable {g : Fin 1024}

/-! #### What they do -/

theorem exec_tfill (ready : Ready (.tfill g o) s n) :
    exec (.tfill g o) s = done (settleOp g (.next ((s.unwait g).setMem n g
      (((s.core g).tile o.a).fill (s.mem g) (toBytes 8 ((s.core g).reg o.b).toNat) ((s.core g).regBad o.b))
      ((s.core g).regBad o.b)))) := by
  obtain ⟨stands, region, pass⟩ := ready.issues rfl
  delta exec
  dsimp only [execTfill]
  rw [issue_acts stands region pass]; rfl

/-- The element (i, j) of the accumulator region that MMA gives (R451). -/
def State.mmaCell (s : State) (g : Nat) (o : OpFields) (i j : Nat) : Nat :=
  mmaElem ((s.core g).tile o.a) ((s.core g).tile o.b) (s.mem g) s.draws i j
    (if o.mod.getLsbD 0 then 0 else (smGet (s.core g).acc 0 (accCell o i j)).toNat)

theorem exec_mma (ready : Ready (.mma g o) s n) :
    ∃ k c bad, exec (.mma g o) s = done (settleOp g (.next (((s.unwait g).act n k c).setAcc n g o
      ((s.core g).tile o.a).rows ((s.core g).tile o.b).cols (s.mmaCell g o) bad))) := by
  obtain ⟨stands, region, pass⟩ := ready.issues rfl
  delta exec
  dsimp only [execMma]
  rw [issue_acts stands region pass]
  simp only [modBits_one_beq, Core.accGet_eq]
  exact ⟨_, _, _, rfl⟩

/-- The element (i, j) of the accumulator region that ACCLD gives (R454). -/
def State.accldCell (s : State) (g : Nat) (o : OpFields) (i j : Nat) : Nat :=
  if o.mod.getLsbD 3 then ofSigned 32 (((s.core g).tile o.a).int (s.mem g) s.draws i j)
  else ((s.core g).tile o.a).fp (s.mem g) s.draws i j

theorem exec_accld (ready : Ready (.accld g o) s n) :
    ∃ bad, exec (.accld g o) s = done (settleOp g (.next ((s.unwait g).setAcc n g o
      ((s.core g).tile o.a).rows ((s.core g).tile o.a).cols (s.accldCell g o) bad))) := by
  obtain ⟨stands, region, pass⟩ := ready.issues rfl
  delta exec
  dsimp only [execAccld]
  rw [issue_acts stands region pass]
  simp only [modBits_one_beq]
  exact ⟨_, rfl⟩

/-- The element (i, j) that ACCST takes from the accumulator region (R455). -/
def Core.accstElem (c : Core) (o : OpFields) (i j : Nat) : Elem :=
  if o.mod.getLsbD 3 then .i (toSigned 32 (smGet c.acc 0 (accCell o i j)).toNat)
  else .f (smGet c.acc 0 (accCell o i j)).toNat

theorem exec_accst (ready : Ready (.accst g o) s n) :
    let c := s.core g
    let d := c.tile o.a
    let k := sinkOf c d (o.mod.getLsbD 0) (o.mod.getLsbD 1)
    exec (.accst g o) s = done (settleOp g (.next (((s.unwait g).setMem n g
      (d.put (s.mem g) k.1 (c.accstElem o) (c.accBad o d.rows d.cols)) (c.accBad o d.rows d.cols)).modCore g
        fun q => { q with sr := k.2 }))) := by
  obtain ⟨stands, region, pass⟩ := ready.issues rfl
  delta exec
  dsimp only [execAccst]
  rw [issue_acts stands region pass]
  simp only [modBits_one_beq, Core.accGet_eq]; rfl

/-! #### What they answer -/

theorem answers_tfill (ready : Ready (.tfill g o) s n) :
    Answers (.tfill g o) s fun t => MemSet s t g
      (((s.core g).tile o.a).fill (s.mem g) (toBytes 8 ((s.core g).reg o.b).toNat) ((s.core g).regBad o.b)) (s.core g).sr :=
  memSet_of_done (exec_tfill ready) rfl

theorem tfill_lb_le_stride (ready : Ready (.tfill g o) s n) : ((s.core g).tile o.a).lb ≤ ((s.core g).tile o.a).stride := by
  have pass := ready.checks_eq_nil rfl
  simp only [tfillChecks, List.append_eq_nil_iff] at pass
  obtain ⟨⟨-, tile⟩, -⟩ := pass
  exact Tile.lb_le_stride tile

theorem answers_mma (ready : Ready (.mma g o) s n) :
    Answers (.mma g o) s fun t =>
      AccSet (s.core g) (t.core g) o ((s.core g).tile o.a).rows ((s.core g).tile o.b).cols (s.mmaCell g o) ∧
        (∀ h, h ≠ g.val → t.core h = s.core h) ∧ Frame s t [] [.cores, .regions] ∧ Sent s t [] := by
  have pass := ready.checks_eq_nil rfl
  simp only [mmaChecks, List.append_eq_nil_iff] at pass
  obtain ⟨⟨⟨⟨-, fits⟩, -⟩, -⟩, -⟩ := pass
  obtain ⟨k, c, bad, exe⟩ := exec_mma ready
  exact accSet_of_done exe rfl (frame_modRgn _ n _ (by simp)) rfl (accExc_eq_nil fits).2

theorem answers_accld (ready : Ready (.accld g o) s n) :
    Answers (.accld g o) s fun t =>
      AccSet (s.core g) (t.core g) o ((s.core g).tile o.a).rows ((s.core g).tile o.a).cols (s.accldCell g o) ∧
        (∀ h, h ≠ g.val → t.core h = s.core h) ∧ Frame s t [] [.cores, .regions] ∧ Sent s t [] := by
  have pass := ready.checks_eq_nil rfl
  simp only [accldChecks, List.append_eq_nil_iff] at pass
  obtain ⟨⟨⟨-, fits⟩, -⟩, -⟩ := pass
  obtain ⟨bad, exe⟩ := exec_accld ready
  exact accSet_of_done exe rfl (Frame.refl ..) rfl (accExc_eq_nil fits).2

theorem answers_accst (ready : Ready (.accst g o) s n) :
    Answers (.accst g o) s fun t =>
      TileSet s t g ((s.core g).tile o.a) (o.mod.getLsbD 0) (o.mod.getLsbD 1) ((s.core g).accstElem o)
        ((s.core g).accBad o ((s.core g).tile o.a).rows ((s.core g).tile o.a).cols) :=
  memSet_of_done ((exec_accst ready).trans (congrArg done (settleOp_next_modCore ..))) rfl

end

/-- Settles O44: TFILL fills its tile's memory and ACCST writes it, MMA and ACCLD set their accumulator region, and the bytes of the
filled tile are those of the pattern. -/
theorem tileAndAccumulatorOperationsComplete : Obligations.TileAndAccumulatorOperationsComplete := by
  unfold Obligations.TileAndAccumulatorOperationsComplete
  refine ⟨?_, fun _ _ _ _ => ⟨answers_mma, answers_accld⟩, fun _ _ _ _ => answers_accst⟩
  intro g o s n c d ready
  have room := tfill_lb_le_stride ready
  obtain ⟨t, exe, mem, clusters, core, cores, frame, sent⟩ := answers_tfill ready
  refine ⟨t, exe, fun i j draw hi hj => ?_, fun j draw _ hj => ?_, fun b draw out => ?_, clusters, core, cores, frame, sent⟩
  · rw [mem, Tile.byte_fill_line _ _ _ room hi hj, toBytes_getD _ _ (Nat.mod_lt _ (by decide))]
  · rw [mem, Tile.byte_fill_scale _ _ _ hj, toBytes_getD _ _ (by decide), pow_zero, Nat.div_one]
  · rw [mem, Tile.byte_fill_outside _ _ _ out]; rfl

end Sys2Proof.Machine
end

section
/-! The block's own step, the operation words of R419, the invariant of INT_PF_STATUS, and the state after a cold reset. -/

namespace Sys2Proof.Machine

variable {s t : State}

/-! ### Operation words (R419) -/

theorem toNat_append_eq_add {m n : Nat} (x : BitVec m) (y : BitVec n) : (x ++ y).toNat = x.toNat * 2 ^ n + y.toNat := by
  rw [BitVec.toNat_append, ← Nat.shiftLeft_add_eq_or_of_lt y.isLt, Nat.shiftLeft_eq]

/-- The fields of a word in their places (R419). -/
theorem toNat_encodeOp (opc : BitVec 8) (o : OpFields) :
    (encodeOp opc o).toNat = opc.toNat + o.d.val * 2 ^ 8 + o.a.val * 2 ^ 13 + o.b.val * 2 ^ 18 + o.c.val * 2 ^ 23 +
      o.mod.toNat * 2 ^ 28 + o.imm.toNat * 2 ^ 36 := by
  have hd := o.d.isLt
  have ha := o.a.isLt
  have hb := o.b.isLt
  have hc := o.c.isLt
  simp only [encodeOp, toNat_append_eq_add, BitVec.toNat_ofNat]
  omega

theorem toNat_extract (w : Word64) (lo n : Nat) : (w.extractLsb' lo n).toNat = bitsOf w.toNat lo n := by
  rw [BitVec.extractLsb'_toNat, Nat.shiftRight_eq_div_pow]; rfl

theorem opcodeOf_encodeOp (opc : BitVec 8) (o : OpFields) : opcodeOf (encodeOp opc o) = opc := by
  have hopc := opc.isLt
  apply BitVec.eq_of_toNat_eq
  rw [opcodeOf, toNat_extract, toNat_encodeOp, bitsOf]
  omega

theorem fieldsOf_encodeOp (opc : BitVec 8) (o : OpFields) : fieldsOf (encodeOp opc o) = o := by
  obtain ⟨d, a, b, c, mod, imm⟩ := o
  have hopc := opc.isLt
  have hd := d.isLt
  have ha := a.isLt
  have hb := b.isLt
  have hc := c.isLt
  have hm := mod.isLt
  have hi := imm.isLt
  simp only [fieldsOf, toNat_extract, toNat_encodeOp, bitsOf, OpFields.mk.injEq, Fin.ext_iff, ← BitVec.toNat_inj]
  omega

theorem encodeOp_fieldsOf (w : Word64) : encodeOp (opcodeOf w) (fieldsOf w) = w := by
  have hw := w.isLt
  apply BitVec.eq_of_toNat_eq
  rw [toNat_encodeOp]
  simp only [opcodeOf, fieldsOf, toNat_extract, bitsOf]
  omega

/-- Settles O57: a word is the sum of its fields, each at its power of two. -/
theorem operationWordsRoundTrip : Obligations.OperationWordsRoundTrip := by
  unfold Obligations.OperationWordsRoundTrip
  refine ⟨fun opc o => ⟨opcodeOf_encodeOp opc o, fieldsOf_encodeOp opc o⟩, encodeOp_fieldsOf, fun w => ?_⟩
  simp only [opcodeOf, fieldsOf, toNat_extract, true_and]

/-! ### Steps -/

theorem step_of_pending {c : Instr} {rest : List Instr} (h : s.pending = c :: rest) : step s = exec c { s with pending := rest } := by
  rw [step, h]

theorem step_of_idle (h : s.pending = []) : step s = .next (idle s) := by rw [step, h]

/-- Settles O1: the queue's front is what `step` matches on. -/
theorem stepRunsTheFrontCommand : Obligations.StepRunsTheFrontCommand := by
  unfold Obligations.StepRunsTheFrontCommand
  exact fun _ _ _ => step_of_pending

/-! ### A cycle without a command (R82, R432) -/

/-- What the course of a transfer may change: cluster memory and the course itself, and the model's counter of draws. -/
structure CourseStep (s t : State) : Prop where
  ids : ∀ c, (t.cluster c).dma.map Transfer.id = (s.cluster c).dma.map Transfer.id
  ro : ∀ c, (t.cluster c).ro = (s.cluster c).ro
  rest : t = { s with clusters := t.clusters, draws := t.draws }

theorem CourseStep.refl (s : State) : CourseStep s s := ⟨fun _ => rfl, fun _ => rfl, rfl⟩

theorem CourseStep.trans {u : State} (h : CourseStep s t) (k : CourseStep t u) : CourseStep s u :=
  ⟨fun c => (k.ids c).trans (h.ids c), fun c => (k.ro c).trans (h.ro c), by rw [k.rest, h.rest]⟩

theorem CourseStep.walk {α : Type} (l : List α) (f : State → α → State) (s : State) (hf : ∀ u a, CourseStep u (f u a)) :
    CourseStep s (overList l s f) :=
  overList_keeps (fun u => CourseStep s u) l s f (.refl s) fun u a h => h.trans (hf u a)

/-- A change of a cluster's memory and of its transfers' courses. -/
theorem courseStep_modCluster (s : State) (d c : Nat) (f : Cluster → Cluster)
    (hi : ∀ k, (f k).dma.map Transfer.id = k.dma.map Transfer.id) (hr : ∀ k, (f k).ro = k.ro) :
    CourseStep s (({ s with draws := d } : State).modCluster c f) := by
  refine ⟨fun b => ?_, fun b => ?_, rfl⟩
  · by_cases h : b = c
    · subst h; rw [State.cluster_modCluster_same, hi]; rfl
    · rw [State.cluster_modCluster_ne _ _ h]; rfl
  · by_cases h : b = c
    · subst h; rw [State.cluster_modCluster_same, hr]; rfl
    · rw [State.cluster_modCluster_ne _ _ h]; rfl

theorem courseStep_progress (s : State) (n : Nat) (x : Transfer) : CourseStep s (s.progress n x) := by
  unfold State.progress
  extract_lets
  split
  split
  · exact .refl s
  · refine courseStep_modCluster s _ _ _ (fun k => ?_) fun _ => rfl
    rw [List.map_map]
    refine List.map_congr_left fun y _ => ?_
    simp only [Function.comp_apply]
    split <;> rfl

theorem courseStep_progressCluster (s : State) (c : Nat) : CourseStep s (s.progressCluster c) := by
  unfold State.progressCluster
  split
  · exact .refl s
  · split
    · exact .refl s
    · exact .walk _ _ _ fun u x => courseStep_progress u _ x

theorem courseStep_progressAll (s : State) : CourseStep s s.progressAll := .walk _ _ _ courseStep_progressCluster

theorem progressCluster_of_no_dma {c : Nat} (h : (s.cluster c).dma = []) : s.progressCluster c = s := by
  unfold State.progressCluster
  split
  · rfl
  · split
    · rfl
    · rw [h]; rfl

/-- Without a queued transfer nothing goes on. -/
theorem progressAll_of_no_dma (h : ∀ c, (s.cluster c).dma = []) : s.progressAll = s :=
  overList_keeps (fun u => u = s) _ _ _ rfl fun u c e => by rw [e]; exact progressCluster_of_no_dma (h c)

/-- Settles O2: `idle` is a walk over the queued transfers, which keeps their identifiers, and then one count of the timestamp. -/
theorem emptyQueueCountsOneTick : Obligations.EmptyQueueCountsOneTick := by
  unfold Obligations.EmptyQueueCountsOneTick
  intro s h
  rw [step_of_idle h]
  refine ⟨fun off => by rw [idle, if_pos off], fun on => ⟨_, rfl, ?_⟩⟩
  obtain ⟨ids, ro, rest⟩ := courseStep_progressAll s
  have fns : s.progressAll.fns = s.fns := by rw [rest]
  rw [idle, if_neg on]
  refine ⟨rfl, by rw [State.at_regs, rest], by rw [State.at_out, rest], fun c => ⟨ids c, ro c⟩,
    fun none => by rw [State.at_clusters, progressAll_of_no_dma none], ?_, fun i => SameFn.of_fns fns⟩
  rw [rest]
  exact ⟨fun _ _ _ _ => rfl, fun p hp => by
    cases p with
    | time | clusters => simp at hp
    | _ => rfl⟩

/-! ### The invariant of INT_PF_STATUS (R221, R224) -/

theorem State.InLine.congr (h : s.InLine) (r : t.regs = s.regs) : t.InLine := by
  have w (off cold : Nat) : t.word off cold = s.word off cold := by rw [State.word, r]; rfl
  intro v hv
  rw [State.pfCause_congr (fun off cold _ => w off cold), ← h v hv]
  simp only [State.bitAt, State.fld, w]

/-- Settles O58: a command ends in the refresh of INT_PF_STATUS, and a cycle without one changes no register. -/
theorem stepKeepsInterruptStatus : Obligations.StepKeepsInterruptStatus := by
  unfold Obligations.StepKeepsInterruptStatus
  intro s t h hs
  cases hp : s.pending with
  | nil =>
    rw [step_of_idle hp] at hs
    cases hs
    refine h.congr ?_
    rw [idle]
    split
    · rfl
    · rw [State.at_regs, (courseStep_progressAll s).rest]
  | cons c rest =>
    obtain ⟨u, hu⟩ := exec_done c { s with pending := rest }
    rw [step_of_pending hp, hu] at hs
    cases hs
    exact u.refreshPf_inLine

/-! ### After a cold reset -/

/-- A register that nothing has written reads its cold value. -/
theorem word_reset (off cold : Nat) : State.reset.word off cold = cold := rfl

theorem fld_reset (f : Fld) : State.reset.fld f = bitsOf f.cold f.lo f.width := rfl

/-- Settles O60: no register is listed, so each reads its cold value. -/
theorem stateAfterReset : Obligations.StateAfterReset := by
  unfold Obligations.StateAfterReset
  refine ⟨?_, ?_, rfl, rfl, rfl, fun off d _ => word_reset off d.cold, ?_⟩
  · unfold State.Canonical; decide
  · unfold State.InLine; decide
  · simp only [State.rgnState, State.ringState, State.linkState, fld_reset]
    decide

end Sys2Proof.Machine
end

section
/-! Events of the PCIe functions and configuration writes (05, R185, R205 to R238, R891). -/

namespace Sys2Proof.Machine

variable {s t : State}

/-! ### Frames and functions -/

/-- A change that no register sees is framed by the components it touches. -/
theorem frame_of_regs {parts : List Part} (h : t.regs = s.regs) (hp : ∀ p, p ∉ parts → p.same s t) (r : List Nat) :
    Frame s t r parts :=
  ⟨fun off cold _ _ => by simp only [State.word, h], hp⟩

theorem frame_modFn (s : State) (i : Nat) (f : FnState → FnState) (r : List Nat) (parts : List Part) :
    Frame s (s.modFn i f) r parts := frame_of_regs rfl (fun p _ => by cases p <;> rfl) r

theorem frame_emit (s : State) (o : Out) (r : List Nat) (parts : List Part) : Frame s (s.emit o) r parts :=
  frame_of_regs rfl (fun p _ => by cases p <;> rfl) r

theorem sameFn_modFn_ne {i j : Nat} (f : FnState → FnState) (h : j ≠ i) : SameFn s (s.modFn i f) j := by
  rw [SameFn, State.fn_modFn_ne s f h]

theorem fnBecomes_modFn (s : State) (i : Nat) (f : FnState → FnState) : FnBecomes s (s.modFn i f) i f :=
  ⟨by rw [State.fn_modFn_same], fun _ h => sameFn_modFn_ne f h⟩

theorem fnBecomes_trans {u : State} {i : Nat} {f : FnState → FnState} (h : FnBecomes s t i f) (k : ∀ j, SameFn t u j) :
    FnBecomes s u i f := ⟨Eq.trans (k i) h.1, fun j hj => (h.2 j hj).trans (k j)⟩

theorem fnBecomes_pf {i : Nat} {f : FnState → FnState} (h : FnBecomes s t i f) : FnBecomes s t.refreshPf i f :=
  fnBecomes_trans h (sameFn_refreshPf t)

theorem SameFn.busMaster (h : SameFn s t 0) : t.busMaster 0 = s.busMaster 0 := by
  rw [SameFn, FnState.mk.injEq] at h
  exact h.1

theorem frame_power (s : State) (p : Power) {r : List Nat} {parts : List Part} (h : .power ∈ parts) :
    Frame s { s with power := p } r parts :=
  ⟨fun _ _ _ _ => rfl, fun q hq => by cases q with | power => exact absurd h hq | _ => rfl⟩

theorem frame_pfConfig (s : State) (p : PfConfig) {r : List Nat} {parts : List Part} (h : .pfConfig ∈ parts) :
    Frame s { s with pfConfig := p } r parts :=
  ⟨fun _ _ _ _ => rfl, fun q hq => by cases q with | pfConfig => exact absurd h hq | _ => rfl⟩

/-! ### Single fields -/

theorem exec_configurationWrite (h : s.pcieReleased = true) (c : CfgWrite) :
    exec (.configurationWrite c) s = done (s.cfgWrite c) := if_pos h

/-- A one-bit field raised or lowered, with what the flush of waiting status records adds. -/
theorem answers_of_flush {i : Instr} {f : Fld} {v : Nat} (h : exec i s = done (s.setFld f v).flushAll) (hw : f.lo + f.width ≤ 32)
    (hp : f.off ≠ R.INT_PF_STATUS) :
    Answers i s fun t => t.fld f = v % 2 ^ f.width ∧ OtherBits s t f ∧ Frame s t [f.off] [.vfs] ∧ ∀ i, SameFn s t i := by
  have fr := flushAll_frame (s.setFld f v) []
  refine answers_of_done h ⟨?_, OtherBits.pf (fun i hi hf => ?_) hp, ?_, fun i => (SameFn.of_fns ?_).pf⟩
  · rw [State.refreshPf_fld _ _ hp, fr.fld_eq _ hp (by simp), State.fld_setFld_same _ _ _ hw]
  · rw [fr.1 _ _ hp (by simp)]; exact otherBits_setFld s f v i hi hf
  · exact ((frame_setFld s f v _ (by simp)).trans (fr.mono (by simp) (by simp))).pf
  · rw [flushAll_fns]; rfl

theorem answers_cfgIgnored {i : Instr} (h : exec i s = done s.cfgIgnored) :
    Answers i s fun t =>
      t.fld F.HOST_ERR_SRIOV_CFG_ERR = 1 ∧ OtherBits s t F.HOST_ERR_SRIOV_CFG_ERR ∧ Frame s t [R.HOST_ERR] [] := by
  obtain ⟨t, exe, fld, others, frame, -⟩ := answers_setFld h (by decide) (by decide)
  exact ⟨t, exe, fld, others, frame⟩

/-! ### The events of a function -/

theorem answers_unsupportedRequest (fn : Fn) (s : State) :
    Answers (.unsupportedRequest fn) s fun t =>
      Sent s t [.unsupported (fnIndex fn)] ∧ Frame s t [] [] ∧
        FnBecomes s t (fnIndex fn) fun x => { x with aer := x.aer.unsupported } :=
  answers_of_done rfl ⟨(sent_emit (s.modFn ..) _).pf, ((frame_modFn ..).trans (frame_emit ..)).pf,
    fnBecomes_pf (fnBecomes_trans (fnBecomes_modFn ..) fun _ => SameFn.of_fns rfl)⟩

theorem answers_vfBmeChange (vf : Fin 32) (on : Bool) (h : s.vfExists vf = true) :
    Answers (.vfBmeChange vf on) s fun t =>
      t.bitAt F.HOST_VF_BME_BME vf = on ∧ (∀ i, i ≠ vf.val → t.bitAt F.HOST_VF_BME_BME i = s.bitAt F.HOST_VF_BME_BME i) ∧
        Frame s t [R.HOST_VF_BME] [.vfs] ∧ ∀ i, SameFn s t i := by
  have exe : exec (.vfBmeChange vf on) s = done ((s.setBit F.HOST_VF_BME_BME vf on).flushStatus vf) := if_pos h
  have fr := flushStatus_frame (s.setBit F.HOST_VF_BME_BME vf on) vf []
  have bits (i : Nat) : ((s.setBit F.HOST_VF_BME_BME vf on).flushStatus vf).refreshPf.bitAt F.HOST_VF_BME_BME i =
      if i = vf.val then on else s.bitAt F.HOST_VF_BME_BME i := by
    rw [State.refreshPf_bitAt _ _ _ (by decide), fr.bitAt_eq _ _ (by decide) (by simp),
      State.bitAt_setBit _ _ _ _ _ (by decide) vf.isLt]
  refine answers_of_done exe ⟨by rw [bits, if_pos rfl], fun i hi => by rw [bits, if_neg hi], ?_, fun i => (SameFn.of_fns ?_).pf⟩
  · exact ((frame_setFld s F.HOST_VF_BME_BME _ _ (by decide)).trans (fr.mono (by simp) (by simp))).pf
  · rw [flushStatus_fns]; rfl

theorem answers_perstDeassert (s : State) :
    Answers .perstDeassert s fun t => t.power = { s.power with perst := false } ∧ Frame s t [] [.power] :=
  answers_of_done rfl ⟨by simp, (frame_power s _ (by simp)).pf⟩

/-! ### Configuration writes -/

theorem busMaster_modFn (s : State) (b : Bool) : (s.modFn 0 fun x => { x with busMaster := b }).busMaster 0 = b := by
  simp [State.busMaster]

theorem answers_busMaster (b : Bool) (h : s.pcieReleased = true) :
    Answers (.configurationWrite (.busMaster b)) s fun t =>
      t.busMaster 0 = b ∧ Frame s t [] [] ∧ FnBecomes s t 0 fun x => { x with busMaster := b } :=
  answers_of_done (exec_configurationWrite h _) ⟨(sameFn_refreshPf _ 0).busMaster.trans (busMaster_modFn s b),
    (frame_modFn ..).pf, fnBecomes_pf (fnBecomes_modFn ..)⟩

theorem answers_pfConfig {c : CfgWrite} {p : PfConfig} (h : s.pcieReleased = true) (e : s.cfgWrite c = { s with pfConfig := p }) :
    Answers (.configurationWrite c) s fun t => t.pfConfig = p ∧ Frame s t [] [.pfConfig] ∧ ∀ i, SameFn s t i :=
  answers_of_done ((exec_configurationWrite h c).trans (congrArg done e)) ⟨by simp,
    (frame_pfConfig s p (by simp)).pf, fun _ => SameFn.pf (SameFn.of_fns rfl)⟩

theorem cfgFn_exists {fn : Fn} (h : ∀ n, fn = .vf n → s.vfExists n = true) (g : FnState → FnState) :
    s.cfgFn fn g = s.modFn (fnIndex fn) g := by
  cases fn with
  | pf => rfl
  | vf n => exact if_pos (h n rfl)

theorem answers_cfgFn {c : CfgWrite} {fn : Fn} {f : FnState → FnState} (h : s.pcieReleased = true)
    (hv : ∀ n, fn = .vf n → s.vfExists n = true) (e : s.cfgWrite c = s.cfgFn fn f) :
    Answers (.configurationWrite c) s fun t => FnBecomes s t (fnIndex fn) f ∧ Frame s t [] [] := by
  have exe := exec_configurationWrite h c
  rw [e, cfgFn_exists hv] at exe
  exact answers_of_done exe ⟨fnBecomes_pf (fnBecomes_modFn ..), (frame_modFn ..).pf⟩

theorem answers_retry (c : CfgWrite) (hb : s.power.phase = .bringUp) (hr : s.pcieReleased = false) (hp : s.power.perst = false) :
    Answers (.configurationWrite c) s fun t => Sent s t [.requestRetry] ∧ Frame s t [] [] ∧ ∀ i, SameFn s t i := by
  have exe : exec (.configurationWrite c) s = done s.retryStatus := if_neg (by simp [hr])
  rw [State.retryStatus, hb, hp] at exe
  exact answers_of_done exe ⟨(sent_emit ..).pf, (frame_emit ..).pf, fun _ => SameFn.pf (SameFn.of_fns rfl)⟩

theorem answers_vfEnable (h : s.pcieReleased = true) (he : s.fld F.HOST_STATUS_VF_ENABLE = 0) :
    Answers (.configurationWrite .vfEnable) s fun t =>
      t.fld F.HOST_STATUS_VF_ENABLE = 1 ∧ t.fld F.HOST_STATUS_NUM_VFS = s.fld F.HOST_STATUS_NUM_VFS ∧
        t.fld F.HOST_VF_BME_BME = 0 ∧ Frame s t [R.HOST_STATUS, R.HOST_VF_BME] [] := by
  have exe := exec_configurationWrite h .vfEnable
  rw [State.cfgWrite, State.on_eq_false he, if_neg (by decide)] at exe
  have fr : Frame s s.resetVfs [R.HOST_VF_BME] [] :=
    (frame_setFld s F.HOST_VF_BME_BME 0 [] (by decide)).trans (frame_of_regs rfl (fun p _ => by cases p <;> rfl) _)
  have bme : s.resetVfs.fld F.HOST_VF_BME_BME = 0 := State.fld_setFld_same s F.HOST_VF_BME_BME 0 (by decide)
  refine answers_of_done exe ⟨?_, ?_, ?_, ?_⟩
  · rw [State.raise_eq, fld_setFld_pf _ _ _ (by decide) (by decide)]; rfl
  · rw [State.refreshPf_fld _ _ (by decide), State.raise_eq, State.fld_setFld_lo _ F.HOST_STATUS_VF_ENABLE F.HOST_STATUS_NUM_VFS _ rfl rfl (by decide) (by decide),
      fr.fld_eq _ (by decide) (by decide)]
  · rw [State.refreshPf_fld _ _ (by decide), State.raise_eq, State.fld_setFld_off _ _ _ _ (by decide), bme]
  · exact ((fr.mono (by simp) (by simp)).setFld _ _ (by decide)).pf

/-- Settles O3: each event and each write is one change of a field, of a function or of the PF's configuration. -/
theorem functionCommandsComplete : Obligations.FunctionCommandsComplete := by
  unfold Obligations.FunctionCommandsComplete
  refine ⟨answers_unsupportedRequest, fun s h => ?_, fun s h => ?_, fun vf on s h => answers_vfBmeChange vf on h,
    answers_perstDeassert, fun b s h => ?_, fun b s h => answers_busMaster b h, fun c f s h hc => ?_, fun fn c f s h hv hc => ?_,
    fun c s hb hr hp => answers_retry c hb hr hp, fun v s h hv => ?_, fun n s h he hn => ?_, fun n s h he hn => ?_,
    fun s h he => answers_vfEnable h he⟩
  · exact answers_setFld (f := F.HOST_STATUS_PF_D3HOT) (v := 1) (if_pos h) (by decide) (by decide)
  · exact answers_of_flush (f := F.HOST_STATUS_PF_D3HOT) (v := 0) (if_pos (State.on_eq_true (by omega))) (by decide) (by decide)
  · obtain ⟨t, exe, fld, others, frame, -⟩ :=
      answers_setFld (f := F.HOST_STATUS_L1_2_ENABLED) (exec_configurationWrite h (.aspmL12 b)) (by decide) (by decide)
    exact ⟨t, exe, fld.trans (by cases b <;> rfl), others, frame⟩
  · obtain ⟨v, rfl, rfl⟩ | ⟨v, rfl, rfl⟩ | ⟨b, rfl, rfl⟩ | ⟨g, b, rfl, rfl⟩ | ⟨b, rfl, rfl⟩ | ⟨v, rfl, rfl⟩ | ⟨v, rfl, rfl⟩ |
      ⟨v, rfl, rfl⟩ | ⟨v, rfl, rfl⟩ := hc
    all_goals exact answers_pfConfig h rfl
  · obtain ⟨b, rfl, rfl⟩ | ⟨b, rfl, rfl⟩ | ⟨b, rfl, rfl⟩ | ⟨r, v, rfl, rfl⟩ | ⟨v, rfl, rfl⟩ := hc
    all_goals exact answers_cfgFn h hv rfl
  · refine answers_cfgIgnored ?_
    have exe : exec (.sriovCfgWriteIgnored (.systemPageSize v)) s = done (s.cfgPageSize v) := if_neg (by simp [h])
    rwa [State.cfgPageSize, if_neg hv] at exe
  · refine answers_cfgIgnored ?_
    have exe : exec (.sriovCfgWriteIgnored (.numVfs n)) s = done (s.cfgNumVfs n) := if_neg (by simp [h])
    rwa [State.cfgNumVfs, if_pos (State.on_eq_true (by omega)), if_neg hn] at exe
  · have exe := exec_configurationWrite h (.numVfs n)
    rw [State.cfgWrite, State.cfgNumVfs, if_neg (by simp [State.on_eq_false he]), if_pos hn] at exe
    obtain ⟨t, exe, fld, others, frame, -⟩ := answers_setFld exe (by decide) (by decide)
    exact ⟨t, exe, fld.trans (Nat.mod_eq_of_lt (show n < 64 by omega)), others, frame⟩

end Sys2Proof.Machine
end

section
/-! Register writes that nothing refuses (05, R250; the control registers of R64, R110, R223, R510, R728, R769). -/

namespace Sys2Proof.Machine

variable {s t : State} {w : DwWrite} {off : Nat} {d : RegDesc}

/-! ### A write that acts on its register alone -/

theorem followWrite_plain {b : Nat} (h : b ∉ writeActs) (v : Nat) (cs : List Crossing) : s.followWrite b off v cs t = t := by
  simp only [writeActs, List.mem_cons, List.not_mem_nil, or_false, not_or] at h
  obtain ⟨freq, shed, err, cap, fhalt, rst, enable, cmd, rect, ctrl, mcmd, mstatus, -⟩ := h
  simp [State.followWrite, freq, shed, err, cap, fhalt, rst, enable, cmd, rect, ctrl, mcmd, mstatus]

/-- INT_PF_STATUS has no writable field. -/
theorem ne_status_of_writable (hr : regAt off = some d) (hm : d.mask Access.writable ≠ 0) : off ≠ R.INT_PF_STATUS := by
  rintro rfl
  have ro : (regAt R.INT_PF_STATUS).map (fun e => e.mask Access.writable) = some 0 := by decide +kernel
  rw [hr, Option.map_some, Option.some_inj] at ro
  exact hm ro

/-- A plain write that nothing refuses: the register takes it, and what follows happens. -/
theorem hostWrite_taken (h : s.Serves) (hw : PlainWrite w off) (ho : off % 4 = 0) (hb : off < 0x1000000) (hr : regAt off = some d)
    (hl : landPf off = .reg off) (hm : d.mask Access.writable ≠ 0) (ha : d.base ≠ R.RING_ENABLE 0)
    (hn : s.wholeRefusal .pf d.base off w.data.toNat = none) (hbad : badFields d.base off w.data.toNat = []) (cs : List Crossing) :
    s.hostWrite off w cs = s.followWrite d.base off w.data.toNat cs (s.putReg off d w.data.toNat 0) := by
  rw [hostWrite_reg h hw ho hb hr hl hm, writeReg_taken _ _ ha hn hbad]; rfl

/-- Settles O4: the register takes the write, and nothing follows from it. -/
theorem registerWriteFollowsAccessTypes : Obligations.RegisterWriteFollowsAccessTypes := by
  unfold Obligations.RegisterWriteFollowsAccessTypes
  intro s w off d h hw hb ho hr hl hm ha hn hbad
  have hoff : (BitVec.ofNat 24 off).toNat = off := by rw [BitVec.toNat_ofNat, Nat.mod_eq_of_lt hb]
  have ring : d.base ≠ R.RING_ENABLE 0 := fun e => ha (by simp [e, writeActs])
  have exe := exec_registerWrite_aligned s w (off := BitVec.ofNat 24 off) (by rw [hoff, ho])
  rw [hoff, hostWrite_taken h hw ho hb hr hl hm ring hn hbad, followWrite_plain ha] at exe
  refine answers_of_done exe ⟨fun i hi => ?_, (putReg_frame _ _ _ _ (by simp)).pf, fun i => SameFn.pf (SameFn.of_fns rfl)⟩
  rw [State.refreshPf_word _ (ne_status_of_writable hr hm), putReg_testBit w.data.isLt hi]; rfl

end Sys2Proof.Machine
end

section
/-! Writes of control registers and of MSI-X tables (02, R64; 03, R110; 05, R222 to R227, R890; 10, R510; 16, R728; 17, R769). -/

namespace Sys2Proof.Machine

variable {s t : State} {w : DwWrite} {off : Nat} {d : RegDesc}

/-! ### Registers that a write of the PF reaches -/

/-- The register of the map at an offset; one without fields at a reserved offset. -/
def descAt (off : Nat) : RegDesc := (regAt off).getD ⟨off, [], 0, []⟩

/-- The register at an offset of PF BAR0 has a writable field and takes a write as a whole; its array begins at `b`. -/
abbrev Takes (off b : Nat) : Prop :=
  (regAt off).isSome ∧ landPf off = .reg off ∧ (descAt off).mask Access.writable ≠ 0 ∧ off % 4 = 0 ∧ off < 0x1000000 ∧
    (descAt off).base = b ∧ b ≠ R.RING_ENABLE 0

theorem hostWrite_takes {b : Nat} (h : s.Serves) (hw : PlainWrite w off) (ht : Takes off b)
    (hn : s.wholeRefusal .pf b off w.data.toNat = none) (hbad : badFields b off w.data.toNat = []) (cs : List Crossing) :
    s.hostWrite off w cs = s.followWrite b off w.data.toNat cs (s.putReg off (descAt off) w.data.toNat 0) := by
  obtain ⟨hr, hl, hm, ho, hb, rfl, ring⟩ := ht
  exact hostWrite_taken h hw ho hb (Option.getD_of_ne_none (Option.isSome_iff_ne_none.1 hr) _ ▸ rfl) hl hm ring hn hbad cs

/-- The registers with refusals of the region, the supply, the resets, Ring Watch and the rings. -/
def earlierRefusals : List Nat :=
  setupRegs ++ thresholdRegs ++ [R.RGN_CMD 0, R.RST_CTRL, R.PWR_FHALT_CTRL, R.RWE_POLL, R.RING_DB_BASE_LO 0, R.RING_DB_BASE_HI 0,
    R.RING_CQ_BASE_LO 0, R.RING_CQ_BASE_HI 0, R.RING_CQ_SIZE 0, R.RING_BASE_LO 0 0, R.RING_BASE_HI 0 0, R.RING_SIZE 0 0, R.RING_GEN 0 0]

theorem wholeRefusal_unit {b : Nat} (h : b ∉ earlierRefusals) (f : Fn) (off v : Nat) :
    s.wholeRefusal f b off v = s.unitRefusal b off v := by
  simp only [earlierRefusals, List.mem_append, List.mem_cons, List.not_mem_nil, or_false, not_or] at h
  obtain ⟨⟨setup, thr⟩, cmd, rst, fhalt, poll, dbLo, dbHi, cqLo, cqHi, cqSize, lo, hi, size, gen⟩ := h
  simp [State.wholeRefusal, State.ringRefusal, setup, thr, cmd, rst, fhalt, poll, dbLo, dbHi, cqLo, cqHi, cqSize,
    lo, hi, size, gen]

/-- The registers with refusals of a unit. -/
def unitRefusals : List Nat :=
  [R.HBM_WATERMARK 0, R.HL_CTRL 0, R.HL_ASSIGN 0, R.HL_MODULE, R.SCH_KEY_VALID, R.SCH_KEY_DIGEST 0 0, R.VSP_MBOX_CMD, R.VSP_MBOX_REQ 0]

theorem unitRefusal_none {b : Nat} (h : b ∉ unitRefusals) (off v : Nat) : s.unitRefusal b off v = none := by
  simp only [unitRefusals, List.mem_cons, List.not_mem_nil, or_false, not_or] at h
  obtain ⟨mark, ctrl, assign, module, valid, digest, cmd, req⟩ := h
  simp [State.unitRefusal, mark, ctrl, assign, module, valid, digest, cmd, req]

theorem wholeRefusal_none {b : Nat} (h : b ∉ earlierRefusals) (hu : b ∉ unitRefusals) (f : Fn) (off v : Nat) :
    s.wholeRefusal f b off v = none := by rw [wholeRefusal_unit h, unitRefusal_none hu]

/-- The registers with fields of which some values are undefined encodings. -/
def encodedRegs : List Nat :=
  [R.CLK_TILE_FREQ, R.PWR_CAP, R.PWR_RGN_CAP 0, R.PWR_FHALT_CTRL, R.PWR_SAG, R.PWR_SAG_CLEAR, R.PWR_DROPOUT, R.PWR_LOSS, R.PWR_SWELL,
    R.PWR_TRANSIENT, R.PWR_RIPPLE, R.PWR_M2_CTRL, R.RWE_POLL, R.RING_CQ_SIZE 0, R.RING_SIZE 0 0, R.RGN_CMD 0, R.WIN_CTRL 0 0,
    R.RGN_MEM_CFG 0, R.RGN_LAT_TARGET 0 0, R.HBM_AGE 0, R.HL_CTRL 0, R.HL_LANE_LIMIT 0, R.MSL_BUSHEL_CFG 0, R.MSL_SCRUB_CTRL 0,
    R.VSP_MBOX_CMD, R.FLT_POLICY, R.FLT_LIMITS]

theorem badFields_nil {b : Nat} (h : b ∉ encodedRegs) (off v : Nat) : badFields b off v = [] := by
  simp only [encodedRegs, List.mem_cons, List.not_mem_nil, or_false, not_or] at h
  obtain ⟨freq, cap, rgnCap, fhalt, sag, sagClear, drop, loss, swell, transient, ripple, m2, poll, cq, size, cmd, win, mem, lat, age, ctrl,
    lane, bushel, scrub, mbox, policy, limits⟩ := h
  simp [badFields, badSupply, badRegion, badUnit, freq, cap, rgnCap, fhalt, sag, sagClear, drop, loss, swell, transient, ripple, m2, poll,
    cq, size, cmd, win, mem, lat, age, ctrl, lane, bushel, scrub, mbox, policy, limits]

/-- What a field that a register keeps reads once it has taken a plain write. -/
abbrev Keeps (d : RegDesc) (f : Fld) : Prop :=
  f.cold = d.cold ∧ f.lo + f.width ≤ 32 ∧ (∀ i, i < f.width → (d.mask Access.keeps).testBit (f.lo + i) = true) ∧
    ∀ i, i < f.width → (d.mask fun a => a = .w1c).testBit (f.lo + i) = false

/-- A field that a plain write leaves. -/
abbrev Leaves (d : RegDesc) (f : Fld) : Prop :=
  f.cold = d.cold ∧ f.lo + f.width ≤ 32 ∧ (∀ i, i < f.width → (d.mask Access.keeps).testBit (f.lo + i) = false) ∧
    ∀ i, i < f.width → (d.mask fun a => a = .w1c).testBit (f.lo + i) = false

theorem fld_putReg_keeps (s : State) (v : Word) (f : Fld) (ho : f.off = off) (hk : Keeps d f) :
    (s.putReg off d v.toNat 0).fld f = bitsOf v.toNat f.lo f.width := putReg_fld v.isLt f ho hk.1 hk.2.1 hk.2.2.1 hk.2.2.2

theorem fld_putReg_leaves (s : State) (v : Word) (f : Fld) (ho : f.off = off) (hk : Leaves d f) :
    (s.putReg off d v.toNat 0).fld f = s.fld f := putReg_fld_other v.isLt f ho hk.1 hk.2.1 hk.2.2.1 hk.2.2.2

/-- A command that is a plain write of a register that nothing refuses and from which nothing follows. -/
theorem answers_plainWrite {i : Instr} {b : Nat} (exe : exec i s = done (s.hostWrite off w)) (h : s.Serves) (hw : PlainWrite w off)
    (ht : Takes off b) (hn : s.wholeRefusal .pf b off w.data.toNat = none) (hb : b ∉ encodedRegs) (ha : b ∉ writeActs) :
    Answers i s fun t =>
      (∀ f : Fld, f.off = off → Keeps (descAt off) f → t.fld f = bitsOf w.data.toNat f.lo f.width) ∧ Frame s t [off] [] := by
  have hoff : off ≠ R.INT_PF_STATUS := by
    rintro rfl
    exact absurd ht.2.2.1 (by decide +kernel)
  rw [hostWrite_takes h hw ht hn (badFields_nil hb ..), followWrite_plain ha] at exe
  exact answers_of_done exe ⟨fun f ho hk => by rw [State.refreshPf_fld _ _ (ho ▸ hoff), fld_putReg_keeps s w.data f ho hk],
    (putReg_frame _ _ _ _ (by simp)).pf⟩

/-! ### The enables of the PF vectors (R223) -/

theorem frame_sendMsix (s : State) (i v : Nat) (r : List Nat) (p : List Part) : Frame s (s.sendMsix i v) r p :=
  ⟨fun off cold _ _ => s.sendMsix_word i v off cold, fun q _ => by cases q <;> simp [Part.same]⟩

theorem frame_enabledVectors (s t : State) (r : List Nat) (p : List Part) : Frame t (s.enabledVectors t) r p := by
  refine Frame.walk _ _ (.refl ..) fun u i => ?_
  unfold State.when
  split
  · exact frame_sendMsix ..
  · exact .refl ..

theorem answers_intPfEnableWrite (h : s.Serves) (hw : PlainWrite w R.INT_PF_ENABLE) :
    Answers (.intPfEnableWrite w) s fun t =>
      t.fld F.INT_PF_ENABLE_ENABLE = bitsOf w.data.toNat 0 8 ∧ Frame s t [R.INT_PF_ENABLE] [] := by
  have exe : exec (.intPfEnableWrite w) s = done (s.hostWrite R.INT_PF_ENABLE w) := rfl
  rw [hostWrite_takes h hw (by decide +kernel : Takes _ R.INT_PF_ENABLE) (wholeRefusal_none (by decide) (by decide) ..)
    (badFields_nil (by decide) ..), show ∀ t : State, s.followWrite R.INT_PF_ENABLE _ _ _ t = s.enabledVectors t from fun _ => rfl] at exe
  have put := fld_putReg_keeps s w.data F.INT_PF_ENABLE_ENABLE rfl (by decide +kernel : Keeps (descAt R.INT_PF_ENABLE) _)
  have fr := frame_enabledVectors s (s.putReg R.INT_PF_ENABLE (descAt R.INT_PF_ENABLE) w.data.toNat 0) [R.INT_PF_ENABLE] []
  refine answers_of_done exe ⟨?_, ((putReg_frame _ _ _ _ (by simp)).trans fr).pf⟩
  rw [State.refreshPf_fld _ _ (by decide), (frame_enabledVectors s _ [] []).fld_eq _ (by decide) (by simp)]
  exact put

/-! ### FORCE_SHED (R110) -/

theorem shedRequest_congr (h : ∀ f : Fld, f ∈ [F.PWR_STATUS_SAG_ACTIVE, F.PWR_STATUS_DROPOUT_ACTIVE, F.PWR_STATUS_LIMIT_ACTIVE,
    F.PWR_TEMP_THERMAL_REQ, F.PWR_ERR_METER_FAIL, F.CLK_SHED_FORCE_SHED] → t.fld f = s.fld f) : t.shedRequest = s.shedRequest := by
  simp only [List.forall_mem_cons, List.not_mem_nil, false_imp_iff, implies_true, and_true] at h
  obtain ⟨sag, drop, limit, thermal, meter, force⟩ := h
  simp only [State.shedRequest, State.on, sag, drop, limit, thermal, meter, force]

/-- SHED_REQ is in line; nothing else of PWR_STATUS changes, and of the supply's state only the request on its way. -/
theorem updateShed_eq (s : State) :
    ∃ u, s.updateShed = { s.setFld F.PWR_STATUS_SHED_REQ (bit s.shedRequest) with supply := u } := by
  unfold State.updateShed
  extract_lets now was t
  split
  · exact ⟨_, rfl⟩
  · exact ⟨s.supply, rfl⟩

theorem frame_supply (s : State) (u : Supply) {r : List Nat} {parts : List Part} (h : .supply ∈ parts) :
    Frame s { s with supply := u } r parts :=
  ⟨fun _ _ _ _ => rfl, fun q hq => by cases q with | supply => exact absurd h hq | _ => rfl⟩

theorem frame_updateShed (s : State) : Frame s s.updateShed [R.PWR_STATUS] [.supply] := by
  obtain ⟨u, e⟩ := updateShed_eq s
  rw [e]
  exact (frame_setFld s F.PWR_STATUS_SHED_REQ (bit s.shedRequest) _ (by decide)).trans (frame_supply _ u (by simp))

theorem updateShed_fld (s : State) (f : Fld) : s.updateShed.fld f = (s.setFld F.PWR_STATUS_SHED_REQ (bit s.shedRequest)).fld f := by
  obtain ⟨u, e⟩ := updateShed_eq s
  rw [e]; rfl

theorem updateShed_shedReq (s : State) : s.updateShed.fld F.PWR_STATUS_SHED_REQ = bit s.shedRequest := by
  rw [updateShed_fld, State.fld_setFld_same _ _ _ (by decide)]
  cases s.shedRequest <;> rfl

/-- The sources of the request stay. -/
theorem updateShed_shedRequest (s : State) : s.updateShed.shedRequest = s.shedRequest := by
  refine shedRequest_congr fun f hf => ?_
  rw [updateShed_fld]
  simp only [List.mem_cons, List.not_mem_nil, or_false] at hf
  obtain rfl | rfl | rfl | rfl | rfl | rfl := hf
  · exact State.fld_setFld_lo _ _ _ _ rfl rfl (by decide) (by decide)
  · exact State.fld_setFld_lo _ _ _ _ rfl rfl (by decide) (by decide)
  · exact State.fld_setFld_lo _ _ _ _ rfl rfl (by decide) (by decide)
  · exact State.fld_setFld_off _ _ _ _ (by decide)
  · exact State.fld_setFld_off _ _ _ _ (by decide)
  · exact State.fld_setFld_off _ _ _ _ (by decide)

theorem refreshPf_shedRequest (s : State) : s.refreshPf.shedRequest = s.shedRequest := by
  refine shedRequest_congr fun f hf => s.refreshPf_fld f ?_
  revert f
  decide

theorem answers_forceShedWrite (h : s.Serves) (hw : PlainWrite w R.CLK_SHED) :
    Answers (.forceShedWrite w) s fun t =>
      t.fld F.CLK_SHED_FORCE_SHED = bitsOf w.data.toNat 0 1 ∧ t.fld F.PWR_STATUS_SHED_REQ = bit t.shedRequest ∧
        t.fld F.CLK_SHED_SHED_COUNT = s.fld F.CLK_SHED_SHED_COUNT ∧ Frame s t [R.CLK_SHED, R.PWR_STATUS] [.supply] := by
  have exe : exec (.forceShedWrite w) s = done (s.hostWrite R.CLK_SHED w) := rfl
  rw [hostWrite_takes h hw (by decide +kernel : Takes _ R.CLK_SHED) (wholeRefusal_none (by decide) (by decide) ..)
    (badFields_nil (by decide) ..), show ∀ t : State, s.followWrite R.CLK_SHED _ _ _ t = t.updateShed from fun _ => rfl] at exe
  have force := fld_putReg_keeps s w.data F.CLK_SHED_FORCE_SHED rfl (by decide +kernel : Keeps (descAt R.CLK_SHED) _)
  have count := fld_putReg_leaves s w.data F.CLK_SHED_SHED_COUNT rfl (by decide +kernel : Leaves (descAt R.CLK_SHED) _)
  have fr := frame_updateShed (s.putReg R.CLK_SHED (descAt R.CLK_SHED) w.data.toNat 0)
  refine answers_of_done exe ⟨?_, ?_, ?_, ((putReg_frame _ _ _ _ (by simp)).trans (fr.mono (by simp) (by simp))).pf⟩
  · rw [State.refreshPf_fld _ _ (by decide), fr.fld_eq _ (by decide) (by decide)]; exact force
  · rw [State.refreshPf_fld _ _ (by decide), refreshPf_shedRequest, updateShed_shedReq, updateShed_shedRequest]
  · rw [State.refreshPf_fld _ _ (by decide), fr.fld_eq _ (by decide) (by decide)]; exact count

/-! ### The frequency ceiling (R64 to R66) -/

/-- Where the PLLs stand, or move to. -/
def State.slewGoal (s : State) : Nat := if s.on F.CLK_STATUS_SLEWING then s.power.slewTo else s.fld F.CLK_TILE_FREQ_IN_FORCE_MULT

theorem startSlew_of_ne (hh : s.power.halves = true) (hg : s.targetMult ≠ s.slewGoal) :
    s.startSlew = { (s.setFld F.CLK_TILE_FREQ_IN_FORCE_MULT s.inForceMult).raise F.CLK_STATUS_SLEWING with
      power := { s.power with slewSince := s.time, slewTo := s.targetMult } } :=
  if_pos (by simpa [State.tileClocks, hh, State.slewGoal] using hg)

theorem startSlew_of_stay (h : s.power.halves = true → s.targetMult = s.slewGoal) : s.startSlew = s :=
  if_neg (by simpa [State.tileClocks, State.slewGoal] using h)

theorem inForceMult_congr (hp : t.power = s.power) (ht : t.time = s.time)
    (hs : t.fld F.CLK_STATUS_SLEWING = s.fld F.CLK_STATUS_SLEWING)
    (hf : t.fld F.CLK_TILE_FREQ_IN_FORCE_MULT = s.fld F.CLK_TILE_FREQ_IN_FORCE_MULT) : t.inForceMult = s.inForceMult := by
  unfold State.inForceMult State.on
  rw [hp, ht, hs, hf]

theorem slewGoal_congr (hp : t.power = s.power) (hs : t.fld F.CLK_STATUS_SLEWING = s.fld F.CLK_STATUS_SLEWING)
    (hf : t.fld F.CLK_TILE_FREQ_IN_FORCE_MULT = s.fld F.CLK_TILE_FREQ_IN_FORCE_MULT) : t.slewGoal = s.slewGoal := by
  unfold State.slewGoal State.on
  rw [hp, hs, hf]

theorem stepMult_zero (m k : Nat) : stepMult m k 0 = m := by
  unfold stepMult
  split <;> omega

/-- A slew that begins at this moment has not yet moved the multiplier. -/
theorem inForceMult_of_started (hs : t.fld F.CLK_STATUS_SLEWING = 1) (hp : t.power.slewSince = t.time) :
    t.inForceMult = t.fld F.CLK_TILE_FREQ_IN_FORCE_MULT := by
  have none : (t.time + 2 ^ 48 - t.power.slewSince) % 2 ^ 48 * 125 / 2048 = 0 := by rw [hp, Nat.add_sub_cancel_left]; decide
  rw [State.inForceMult, State.on_eq_true (by omega), if_pos rfl, none, stepMult_zero]

theorem fld_power (s : State) (p : Power) (f : Fld) : ({ s with power := p } : State).fld f = s.fld f := rfl

/-- What a slew that begins from the multiplier `m` leaves. -/
structure SlewStarted (s t : State) (m : Nat) : Prop where
  slewing : t.fld F.CLK_STATUS_SLEWING = 1
  power : t.power = { s.power with slewSince := s.time, slewTo := s.targetMult }
  inForce : t.fld F.CLK_TILE_FREQ_IN_FORCE_MULT = m % 2 ^ 7
  ceiling : t.fld F.CLK_TILE_FREQ_CEILING_MULT = s.fld F.CLK_TILE_FREQ_CEILING_MULT
  vesper : t.fld F.CLK_TILE_FREQ_VESPER_MULT = s.fld F.CLK_TILE_FREQ_VESPER_MULT
  frame : Frame s t [R.CLK_TILE_FREQ, R.CLK_STATUS] [.power]

theorem slewStarted_of_writes (s : State) (m : Nat) :
    SlewStarted s { (s.setFld F.CLK_TILE_FREQ_IN_FORCE_MULT m).raise F.CLK_STATUS_SLEWING with
      power := { s.power with slewSince := s.time, slewTo := s.targetMult } } m := by
  let u := s.setFld F.CLK_TILE_FREQ_IN_FORCE_MULT m
  have other (f : Fld) (h : f.off ≠ R.CLK_STATUS) : (u.raise F.CLK_STATUS_SLEWING).fld f = u.fld f :=
    State.fld_setFld_off _ _ _ _ h
  have frame : Frame s (u.raise F.CLK_STATUS_SLEWING) [R.CLK_TILE_FREQ, R.CLK_STATUS] [.power] :=
    (frame_setFld s _ m _ (by decide)).setFld F.CLK_STATUS_SLEWING 1 (by decide)
  constructor
  · rw [fld_power]
    exact State.fld_setFld_same u F.CLK_STATUS_SLEWING 1 (by decide)
  · rfl
  · rw [fld_power, other _ (by decide)]
    exact State.fld_setFld_same s _ m (by decide)
  · rw [fld_power, other _ (by decide)]
    exact State.fld_setFld_lo s F.CLK_TILE_FREQ_IN_FORCE_MULT _ m rfl rfl (by decide) (by decide)
  · rw [fld_power, other _ (by decide)]
    exact State.fld_setFld_lo s F.CLK_TILE_FREQ_IN_FORCE_MULT _ m rfl rfl (by decide) (by decide)
  · exact frame.trans (frame_power _ _ (by simp))

theorem slewStarted_startSlew (hh : s.power.halves = true) (hg : s.targetMult ≠ s.slewGoal) :
    SlewStarted s s.startSlew s.inForceMult := by
  rw [startSlew_of_ne hh hg]
  exact slewStarted_of_writes s _

/-- What a change of the ceiling answers, from the state `u` in which its register has taken it. -/
theorem startSlew_spec (u : State) :
    let t := u.startSlew.refreshPf
    t.fld F.CLK_TILE_FREQ_CEILING_MULT = u.fld F.CLK_TILE_FREQ_CEILING_MULT ∧ t.targetMult = u.targetMult ∧
      (u.inForceMult ≤ 0x50 → t.inForceMult = u.inForceMult) ∧
      (u.power.halves = true → u.targetMult ≠ u.slewGoal →
        t.fld F.CLK_STATUS_SLEWING = 1 ∧ t.power.slewTo = u.targetMult ∧ t.power.slewSince = u.time) ∧
      (u.targetMult = u.slewGoal → t.power = u.power ∧ t.fld F.CLK_STATUS_SLEWING = u.fld F.CLK_STATUS_SLEWING) ∧
      Frame u t [R.CLK_TILE_FREQ, R.CLK_STATUS] [.power] := by
  intro t
  have fld (f : Fld) (h : f.off ≠ R.INT_PF_STATUS) : t.fld f = u.startSlew.fld f := State.refreshPf_fld _ f h
  have pw : t.power = u.startSlew.power := State.refreshPf_power _
  have slewing := fld F.CLK_STATUS_SLEWING (by decide)
  have inForce := fld F.CLK_TILE_FREQ_IN_FORCE_MULT (by decide)
  have ceiling := fld F.CLK_TILE_FREQ_CEILING_MULT (by decide)
  have vesper := fld F.CLK_TILE_FREQ_VESPER_MULT (by decide)
  by_cases hs : u.power.halves = true ∧ u.targetMult ≠ u.slewGoal
  · obtain ⟨hh, hg⟩ := hs
    have st := slewStarted_startSlew hh hg
    have time : t.time = u.time := st.frame.pf.2 .time (by simp)
    rw [st.slewing] at slewing
    rw [st.inForce] at inForce
    rw [st.ceiling] at ceiling
    rw [st.vesper] at vesper
    rw [st.power] at pw
    refine ⟨ceiling, by rw [State.targetMult, ceiling, vesper]; rfl, fun h => ?_, fun _ _ => ⟨slewing, by rw [pw], by rw [pw]⟩,
      fun e => absurd e hg, st.frame.pf⟩
    rw [inForceMult_of_started slewing (by rw [pw, time]), inForce, Nat.mod_eq_of_lt (by omega)]
  · have stay : u.startSlew = u := startSlew_of_stay fun hh => by_contra fun hg => hs ⟨hh, hg⟩
    rw [stay] at slewing inForce ceiling vesper pw
    refine ⟨ceiling, by rw [State.targetMult, ceiling, vesper]; rfl,
      fun _ => inForceMult_congr pw (by simp only [t, stay, State.refreshPf_time]) slewing inForce,
      fun hh hg => absurd ⟨hh, hg⟩ hs, fun _ => ⟨pw, slewing⟩, ?_⟩
    simp only [t, stay]
    exact frame_refreshPf ..

theorem answers_ceilingMultWrite (h : s.Serves) (hw : PlainWrite w R.CLK_TILE_FREQ) (lo : 0x14 ≤ bitsOf w.data.toNat 0 7)
    (hi : bitsOf w.data.toNat 0 7 ≤ 0x50) :
    Answers (.ceilingMultWrite w) s fun t =>
      t.fld F.CLK_TILE_FREQ_CEILING_MULT = bitsOf w.data.toNat 0 7 ∧
        t.targetMult = min (bitsOf w.data.toNat 0 7) (s.fld F.CLK_TILE_FREQ_VESPER_MULT) ∧
        (s.inForceMult ≤ 0x50 → t.inForceMult = s.inForceMult) ∧
        (s.power.halves = true → t.targetMult ≠ s.slewGoal →
          t.fld F.CLK_STATUS_SLEWING = 1 ∧ t.power.slewTo = t.targetMult ∧ t.power.slewSince = s.time) ∧
        (t.targetMult = s.slewGoal → t.power = s.power ∧ t.fld F.CLK_STATUS_SLEWING = s.fld F.CLK_STATUS_SLEWING) ∧
        Frame s t [R.CLK_TILE_FREQ, R.CLK_STATUS] [.power] := by
  have good : badFields R.CLK_TILE_FREQ R.CLK_TILE_FREQ w.data.toNat = [] := by
    have none : outside w.data.toNat F.CLK_TILE_FREQ_CEILING_MULT F.CLK_ERR_FREQ_ERR 0x14 0x50 = [] := if_pos ⟨lo, hi⟩
    simp only [badFields, badSupply, if_pos, none]
    rfl
  have exe : exec (.ceilingMultWrite w) s = done (s.hostWrite R.CLK_TILE_FREQ w) := rfl
  rw [hostWrite_takes h hw (by decide +kernel : Takes _ R.CLK_TILE_FREQ) (wholeRefusal_none (by decide) (by decide) ..) good,
    show ∀ t : State, s.followWrite R.CLK_TILE_FREQ _ _ _ t = t.startSlew from fun _ => rfl] at exe
  have ceiling := fld_putReg_keeps (off := R.CLK_TILE_FREQ) s w.data F.CLK_TILE_FREQ_CEILING_MULT rfl (by decide +kernel : Keeps (descAt R.CLK_TILE_FREQ) _)
  have vesper := fld_putReg_leaves (off := R.CLK_TILE_FREQ) s w.data F.CLK_TILE_FREQ_VESPER_MULT rfl (by decide +kernel : Leaves (descAt R.CLK_TILE_FREQ) _)
  have inForce := fld_putReg_leaves (off := R.CLK_TILE_FREQ) s w.data F.CLK_TILE_FREQ_IN_FORCE_MULT rfl (by decide +kernel : Leaves (descAt R.CLK_TILE_FREQ) _)
  have put : Frame s (s.putReg R.CLK_TILE_FREQ (descAt R.CLK_TILE_FREQ) w.data.toNat 0) [R.CLK_TILE_FREQ] [] :=
    putReg_frame _ _ _ _ (by simp)
  have slewing := put.fld_eq F.CLK_STATUS_SLEWING (by decide) (by decide)
  have pw : (s.putReg R.CLK_TILE_FREQ (descAt R.CLK_TILE_FREQ) w.data.toNat 0).power = s.power := rfl
  have tm : (s.putReg R.CLK_TILE_FREQ (descAt R.CLK_TILE_FREQ) w.data.toNat 0).time = s.time := rfl
  generalize s.putReg R.CLK_TILE_FREQ (descAt R.CLK_TILE_FREQ) w.data.toNat 0 = u at *
  obtain ⟨c, target, inF, started, stays, frame⟩ := startSlew_spec u
  rw [inForceMult_congr pw tm slewing inForce] at inF
  rw [slewGoal_congr pw slewing inForce, ← target, pw] at started stays
  rw [tm] at started
  rw [slewing] at stays
  refine answers_of_done exe ⟨c.trans ceiling, target.trans (congrArg₂ min ceiling vesper), inF, started, stays, ?_⟩
  exact (put.mono (by simp) (by simp)).trans frame

/-! ### MSI-X tables (R222, R225, R227, R890) -/

theorem frame_sendHeld (s : State) (i v : Nat) (r : List Nat) (p : List Part) : Frame s (s.sendHeld i v) r p := by
  unfold State.sendHeld
  split
  · exact frame_of_regs rfl (fun q _ => by cases q <;> rfl) r
  · exact .refl ..

/-- A held message that leaves takes its pending bit with it. -/
theorem sameFn_sendHeld (s : State) (i v j : Nat) : SameFn s (s.sendHeld i v) j := by
  unfold State.sendHeld
  split
  · by_cases h : j = i
    · subst h
      refine SameFn.trans (t := s.modFn j fun f => { f with pendingBits := putBits f.pendingBits v 1 0 }) ?_ rfl
      simp only [SameFn, State.fn_modFn_same]
    · exact SameFn.trans (t := s.modFn i fun f => { f with pendingBits := putBits f.pendingBits v 1 0 }) (sameFn_modFn_ne _ h) rfl
  · rfl

theorem SameFn.table {i : Nat} (h : SameFn s t i) : (t.fn i).table = (s.fn i).table := by
  rw [SameFn, FnState.mk.injEq] at h
  exact h.2.2.2.2.1

/-- A whole DW of the PF in its MSI-X table. -/
theorem hostWrite_msix (h : s.Serves) (hf : w.fn = .pf) (hb : w.be = 0xF) (hp : w.poisoned = false) (v : Fin 8) (k : Fin 4) :
    s.hostWrite (0x48000 + 16 * v + 4 * k) w = s.writeMsix 0 v k w.data := by
  have lands : landPf (0x48000 + 16 * v + 4 * k) = .msix 0 v k := by
    rw [landPf, if_pos (by omega)]
    congr 1 <;> omega
  have hr := h.1
  have m3 : ¬ s.fld F.PWR_STATE_STATE = 3 := by have := h.2.1; omega
  rw [hostWrite_serves h hf (by omega) (by omega), State.carryOut]
  simp [State.dropCause, hp, hb, hf, landing, lands, Landing.served, hr, m3, State.inFlr]

theorem writeMsix_eq (s : State) (v k : Nat) (x : Word) :
    ∃ f : MsixEntry → MsixEntry, s.writeMsix 0 v k x = (s.modFn 0 fun y => { y with table := smMod y.table {} v f }).sendHeld 0 v ∧
      (k = 2 → f = fun e => { e with data := x }) ∧ (k = 3 → f = fun e => { e with masked := x.getLsbD 0 }) := by
  refine ⟨_, rfl, ?_, ?_⟩
  · rintro rfl; rfl
  · rintro rfl; rfl

theorem answers_msixTableWrite (h : s.Serves) (hb : w.be = 0xF) (hp : w.poisoned = false) (v : Fin 8) (k : Fin 4) :
    ∃ f : MsixEntry → MsixEntry, (k.val = 2 → f = fun e => { e with data := w.data }) ∧
      (k.val = 3 → f = fun e => { e with masked := w.data.getLsbD 0 }) ∧
      Answers (.msixTableWrite .pf v k w) s fun t =>
        smGet (t.fn 0).table {} v = f (smGet (s.fn 0).table {} v) ∧
          (∀ u, u ≠ v.val → smGet (t.fn 0).table {} u = smGet (s.fn 0).table {} u) ∧ Frame s t [] [] := by
  obtain ⟨f, e, f2, f3⟩ := writeMsix_eq s v k w.data
  have exe : exec (.msixTableWrite .pf v k w) s = done (s.hostWrite (0x48000 + 16 * v + 4 * k) { w with fn := .pf }) := rfl
  rw [hostWrite_msix (w := { w with fn := .pf }) h rfl hb hp, e] at exe
  refine ⟨f, f2, f3, answers_of_done exe ?_⟩
  have table : ((((s.modFn 0 fun y => { y with table := smMod y.table {} v.val f }).sendHeld 0 v).refreshPf).fn 0).table =
      smMod (s.fn 0).table {} v.val f := by
    rw [(SameFn.trans (sameFn_sendHeld ..) (sameFn_refreshPf ..)).table, State.fn_modFn_same]
  rw [table]
  exact ⟨smGet_smMod_same .., fun u hu => smGet_smMod_ne _ _ _ _ hu, ((frame_modFn ..).trans (frame_sendHeld ..)).pf⟩

/-- The refresh of INT_PF_STATUS sends messages of the PF alone. -/
theorem refreshPf_fn_ne (s : State) {i : Nat} (h : i ≠ 0) : s.refreshPf.fn i = s.fn i := by
  refine overList_same (fun u : State => u.fn i) _ _ _ fun u v => ?_
  have send (x : State) : (x.sendMsix 0 v).fn i = x.fn i := by
    unfold State.sendMsix
    repeat' split
    · rfl
    · exact State.fn_modFn_ne _ _ h
    · rfl
  unfold State.refreshVector
  extract_lets now was t
  split
  · rfl
  · split
    · exact send t
    · rfl

theorem answers_msixPendingSend (fn : Fn) (v : Fin 8) (hb : (s.fn (fnIndex fn)).pendingBits.testBit v = true)
    (hh : s.msixHeld (fnIndex fn) v = false) :
    Answers (.msixPendingSend fn v) s fun t =>
      Sent s t [msixMessage (fnIndex fn) v (smGet (s.fn (fnIndex fn)).table {} v)] ∧
        (fn ≠ .pf → (t.fn (fnIndex fn)).pendingBits.testBit v = false) ∧ Frame s t [] [] ∧ ∀ i, SameFn s t i := by
  have exe : exec (.msixPendingSend fn v) s = done (s.sendHeld (fnIndex fn) v) := rfl
  refine answers_of_done exe ⟨?_, fun hf => ?_, (frame_sendHeld ..).pf, fun i => (sameFn_sendHeld ..).pf⟩
  · rw [State.sendHeld, hb, hh]
    exact Sent.pf (sent_emit (s.modFn ..) _)
  · have other : fnIndex fn ≠ 0 := by
      cases fn with
      | pf => exact absurd rfl hf
      | vf n => exact Nat.succ_ne_zero _
    rw [refreshPf_fn_ne _ other, State.sendHeld, hb, hh]
    have e : ((s.modFn (fnIndex fn) fun f => { f with pendingBits := putBits f.pendingBits v 1 0 }).fn (fnIndex fn)).pendingBits =
        putBits (s.fn (fnIndex fn)).pendingBits v 1 0 := by rw [State.fn_modFn_same]
    exact (congrArg (fun n => Nat.testBit n v) e).trans (by rw [putBits_testBit]; simp)

/-! ### The other control registers -/

theorem takes_watermark (k : Fin 8) : Takes (R.HBM_WATERMARK k) (R.HBM_WATERMARK 0) := by
  revert k
  decide +kernel

theorem keeps_watermark (k : Fin 8) :
    Keeps (descAt (R.HBM_WATERMARK k)) (F.HBM_WATERMARK_HIGH k) ∧ Keeps (descAt (R.HBM_WATERMARK k)) (F.HBM_WATERMARK_CRITICAL k) := by
  revert k
  decide +kernel

theorem answers_hbmWatermarkWrite (k : Fin 8) (h : s.Serves) (hw : PlainWrite w (R.HBM_WATERMARK k))
    (lo : 8 ≤ bitsOf w.data.toNat 0 7) (lt : bitsOf w.data.toNat 0 7 < bitsOf w.data.toNat 8 7) (hi : bitsOf w.data.toNat 8 7 ≤ 62) :
    Answers (.hbmWatermarkWrite k w) s fun t =>
      t.fld (F.HBM_WATERMARK_HIGH k) = bitsOf w.data.toNat 0 7 ∧ t.fld (F.HBM_WATERMARK_CRITICAL k) = bitsOf w.data.toNat 8 7 ∧
        Frame s t [R.HBM_WATERMARK k] [] := by
  have accepted : s.unitRefusal (R.HBM_WATERMARK 0) (R.HBM_WATERMARK k) w.data.toNat = none := if_pos ⟨lo, lt, hi⟩
  obtain ⟨t, exe, fld, frame⟩ := answers_plainWrite (i := .hbmWatermarkWrite k w) rfl h hw (takes_watermark k)
    ((wholeRefusal_unit (by decide) ..).trans accepted) (by decide) (by decide)
  obtain ⟨high, critical⟩ := keeps_watermark k
  exact ⟨t, exe, fld (F.HBM_WATERMARK_HIGH k) rfl high, fld (F.HBM_WATERMARK_CRITICAL k) rfl critical, frame⟩

theorem answers_keyValidWrite (h : s.Serves) (hw : PlainWrite w R.SCH_KEY_VALID)
    (hk : ∀ i, i < 4 → s.bitAt F.SCH_KEY_VALID_VALID i = true → w.data.getLsbD i = false → s.keyUsed i = false) :
    Answers (.keyValidWrite w) s fun t =>
      t.fld F.SCH_KEY_VALID_VALID = bitsOf w.data.toNat 0 4 ∧ Frame s t [R.SCH_KEY_VALID] [] := by
  have accepted : s.unitRefusal R.SCH_KEY_VALID R.SCH_KEY_VALID w.data.toNat = none := by
    have free : (List.range 4).any (fun i => s.bitAt F.SCH_KEY_VALID_VALID i && !w.data.toNat.testBit i && s.keyUsed i) = false := by
      rw [List.any_eq_false]
      intro i hi
      have := hk i (List.mem_range.1 hi)
      rw [show w.data.toNat.testBit i = w.data.getLsbD i from rfl]
      cases hv : s.bitAt F.SCH_KEY_VALID_VALID i <;> cases hd : w.data.getLsbD i <;> simp_all
    exact if_neg (by rw [free]; decide)
  obtain ⟨t, exe, fld, frame⟩ := answers_plainWrite (i := .keyValidWrite w) rfl h hw
    (by decide +kernel : Takes R.SCH_KEY_VALID R.SCH_KEY_VALID) ((wholeRefusal_unit (by decide) ..).trans accepted) (by decide) (by decide)
  exact ⟨t, exe, fld F.SCH_KEY_VALID_VALID rfl (by decide +kernel), frame⟩

theorem answers_hlModuleWrite (h : s.Serves) (hw : PlainWrite w R.HL_MODULE) (hp : ∀ p, p < 4 → s.linkState p = 0) :
    Answers (.hlModuleWrite w) s fun t =>
      t.fld F.HL_MODULE_MODULE_ID = bitsOf w.data.toNat 0 4 ∧ t.fld F.HL_MODULE_FABRIC_ID = bitsOf w.data.toNat 16 12 ∧
        Frame s t [R.HL_MODULE] [] := by
  have accepted : s.unitRefusal R.HL_MODULE R.HL_MODULE w.data.toNat = none :=
    if_pos (by simpa [lDISABLED] using fun p h => hp p h)
  obtain ⟨t, exe, fld, frame⟩ := answers_plainWrite (i := .hlModuleWrite w) rfl h hw
    (by decide +kernel : Takes R.HL_MODULE R.HL_MODULE) ((wholeRefusal_unit (by decide) ..).trans accepted) (by decide) (by decide)
  exact ⟨t, exe, fld F.HL_MODULE_MODULE_ID rfl (by decide +kernel), fld F.HL_MODULE_FABRIC_ID rfl (by decide +kernel), frame⟩

/-- Settles O6: each register takes the write, and the vectors' enables, the shed request and the slew follow it; a DW of a table
changes its entry alone. -/
theorem controlWritesComplete : Obligations.ControlWritesComplete := by
  unfold Obligations.ControlWritesComplete
  refine ⟨fun s w => answers_intPfEnableWrite, fun s w => answers_forceShedWrite, fun s w => answers_ceilingMultWrite,
    fun s w k => answers_hbmWatermarkWrite k, fun s w => answers_keyValidWrite, fun s w => answers_hlModuleWrite,
    fun s w v h hb hp => ?_, fun s w v h hb hp => ?_, fun s fn v => answers_msixPendingSend fn v⟩
  · obtain ⟨f, data, -, t, exe, entry, others, frame⟩ := answers_msixTableWrite h hb hp v 2
    rw [data rfl] at entry
    exact ⟨t, exe, by rw [entry], by rw [entry], others, frame⟩
  · obtain ⟨f, -, mask, t, exe, entry, others, frame⟩ := answers_msixTableWrite h hb hp v 3
    rw [mask rfl] at entry
    exact ⟨t, exe, by rw [entry], others, frame⟩

end Sys2Proof.Machine
end

section
/-! Resets of the module (04, R172 to R175, R180 to R182, R204, R212). -/

namespace Sys2Proof.Machine

variable {s t u : State} {w : DwWrite} {c : Fld}

/-! ### Registers at their cold values -/

theorem smGet_filter {α : Type} (m : SMap α) (d : α) (p : Nat → Bool) (i : Nat) :
    smGet (m.filter fun e => p e.1) d i = if p i then smGet m d i else d := by
  induction m with
  | nil => simp [smGet]
  | cons e m ih =>
    obtain ⟨k, v⟩ := e
    rw [List.filter_cons]
    by_cases hk : p k = true
    · rw [if_pos hk, smGet, smGet, ih]
      by_cases h : k = i
      · subst h; simp [hk]
      · simp [h]
    · rw [if_neg hk, ih, smGet]
      by_cases h : k = i
      · subst h; simp [hk]
      · simp [h]

theorem word_coldRange (s : State) (lo hi off cold : Nat) :
    (s.coldRange lo hi).word off cold = if lo ≤ off ∧ off < hi then cold else s.word off cold := by
  have e := smGet_filter s.regs cold (fun k => decide (k < lo) || decide (hi ≤ k)) off
  rw [State.word, State.coldRange]
  refine e.trans ?_
  by_cases h : lo ≤ off ∧ off < hi
  · rw [if_neg (by simp; omega), if_pos h]
  · rw [if_pos (by simp; omega), if_neg h]; rfl

theorem frame_coldRange (s : State) {lo hi : Nat} {r : List Nat} (p : List Part)
    (h : ∀ off, lo ≤ off → off < hi → off ∈ r) : Frame s (s.coldRange lo hi) r p :=
  ⟨fun off cold _ ho => by rw [word_coldRange, if_neg fun e => ho (h off e.1 e.2)], fun q _ => by cases q <;> rfl⟩

/-! ### The states of the regions -/

theorem rgnState_setFld (s : State) (n v m : Nat) :
    (s.setFld (F.RGN_STATE_STATE n) v).rgnState m = if m = n then v % 8 else s.rgnState m := by
  by_cases h : m = n
  · subst h; rw [if_pos rfl]; exact State.fld_setFld_same s _ v (show 0 + 3 ≤ 32 by decide)
  · rw [if_neg h]
    refine State.fld_setFld_off s _ _ v ?_
    simp only [F.RGN_STATE_STATE, R.RGN_STATE]; omega

theorem rgnState_walk (l : List Nat) (s : State) (v m : Nat) :
    (overList l s fun u n => u.setFld (F.RGN_STATE_STATE n) v).rgnState m = if m ∈ l then v % 8 else s.rgnState m := by
  induction l generalizing s with
  | nil => simp
  | cons n l ih =>
    rw [overList_cons, ih, rgnState_setFld]
    by_cases h : m ∈ l
    · simp [h]
    · simp [h]

theorem rgnState_congr {n : Nat} (h : ∀ cold, t.word (R.RGN_STATE n) cold = s.word (R.RGN_STATE n) cold) : t.rgnState n = s.rgnState n := by
  simp only [State.rgnState, State.fld, F.RGN_STATE_STATE, h]

theorem Frame.rgnState {r p} (h : Frame s t r p) {n : Nat} (hn : R.RGN_STATE n ∉ r) : t.rgnState n = s.rgnState n :=
  rgnState_congr fun cold => h.1 _ cold (by simp only [R.RGN_STATE, R.INT_PF_STATUS]; omega) hn

/-! ### What a warm reset leaves of the data path (R173) -/

/-- The path is gone and the ports are at their cold values; no region's state has changed yet. -/
def State.portsCold (s : State) : State := overList (List.range 4) s.dropPath fun u p => u.coldRange (R.HL_STATUS p) (R.HL_STATUS p + 4)

theorem word_portsCold (s : State) {off : Nat} (h : off < R.HL_STATUS 0 ∨ R.HL_STATUS 3 + 4 ≤ off) (cold : Nat) :
    s.portsCold.word off cold = s.word off cold := by
  have step (u : State) (p : Nat) (hp : p < 4) : (u.coldRange (R.HL_STATUS p) (R.HL_STATUS p + 4)).word off cold = u.word off cold := by
    rw [word_coldRange, if_neg]
    simp only [R.HL_STATUS] at h ⊢; omega
  have r : List.range 4 = [0, 1, 2, 3] := by decide
  rw [State.portsCold, r]
  simp only [overList_cons, overList_nil, step _ _ (by decide : (0 : Nat) < 4), step _ _ (by decide : (1 : Nat) < 4),
    step _ _ (by decide : (2 : Nat) < 4), step _ _ (by decide : (3 : Nat) < 4)]
  rfl

theorem portsCold_eq (s : State) : ∃ r, s.portsCold = { s.dropPath with regs := r } :=
  overList_keeps (fun u => ∃ r, u = { s.dropPath with regs := r }) _ _ _ ⟨_, rfl⟩ fun u p ⟨r, e⟩ => ⟨_, by rw [e]; rfl⟩

theorem resetAll_eq (s : State) : ∃ r, s.resetAll = { s.dropPath with regs := r } :=
  overList_keeps (fun u => ∃ r, u = { s.dropPath with regs := r }) _ _ _ (portsCold_eq s)
    fun u p ⟨r, e⟩ => ⟨_, by rw [e]; rfl⟩

theorem rgnState_resetAll (s : State) {n : Nat} (h : n < 32) :
    s.resetAll.rgnState n = if s.rgnState n = rFREE then rFREE else rRESETTING := by
  have cold : s.portsCold.rgnState n = s.rgnState n :=
    rgnState_congr fun c => word_portsCold s (.inl (by simp only [R.RGN_STATE, R.HL_STATUS]; omega)) c
  have e : s.resetAll.rgnState n = _ := rgnState_walk _ s.portsCold rRESETTING n
  rw [e, cold]
  by_cases hf : s.rgnState n = rFREE
  · simp [hf]
  · simp [hf, h, rRESETTING]

theorem word_resetAll (s : State) {off : Nat} (h : off < 0x100000) (cold : Nat) : s.resetAll.word off cold = s.word off cold := by
  refine (overList_same (fun u : State => u.word off cold) _ s.portsCold _ fun u n => ?_).trans
    (word_portsCold s (.inl (by simp only [R.HL_STATUS]; omega)) cold)
  exact State.word_setFld_ne _ _ _ _ _ (by simp only [F.RGN_STATE_STATE, R.RGN_STATE]; omega)

theorem fld_resetAll (s : State) (f : Fld) (h : f.off < 0x100000) : s.resetAll.fld f = s.fld f := by
  simp only [State.fld, word_resetAll s h]

/-! ### A warm reset event (R172, R180) -/

/-- The event is counted with its cause, and READY reads 0. -/
def State.warmNoted (s : State) (c : Fld) : State :=
  (((s.raise c).countSat F.RST_CAUSE_WARM_COUNT).lower F.RST_BOOT_STATUS_READY).setFld F.RST_BOOT_STATUS_PHASE 9

/-- The path is gone, and no entry into M2 goes on. -/
def State.warmDropped (s : State) (m2 : Prop) [Decidable m2] : State :=
  (s.resetAll.lower F.PWR_STATE_M2_ENTERING).when m2 fun u => u.setFld F.PWR_STATE_LAST_WAKE 6

/-- The causes of a warm reset. -/
def warmCauses : List Fld := [F.RST_CAUSE_PERST, F.RST_CAUSE_HOT_RESET, F.RST_CAUSE_PF_FLR, F.RST_CAUSE_WARM_CMD]

theorem warmEvent_eq (h : s.power.phase = .run) (c : Fld) :
    ∃ x : Fhalt, s.warmEvent c = { (s.warmNoted c).warmDropped (s.fld F.PWR_STATE_STATE = 2) with
      fhalt := x
      power := { ((s.warmNoted c).warmDropped (s.fld F.PWR_STATE_STATE = 2)).power with
        phase := .warmReset, warmDue := true, keepHbm := s.on F.RST_CTRL_WARM_KEEP_HBM
        fromM3 := s.fld F.PWR_STATE_STATE = 3, waking := false
        wakeXings := [], wakeLatched := none, heldWrites := [] } } := by
  unfold State.warmEvent
  extract_lets t m3 m2 halting t1 t2
  rw [if_neg (by simp [h])]
  exact ⟨_, rfl⟩

theorem fld_record (s : State) (x : Fhalt) (p : Power) (f : Fld) : ({ s with fhalt := x, power := p } : State).fld f = s.fld f := rfl

theorem fld_warmDropped (s : State) (m2 : Prop) [Decidable m2] (f : Fld) (h : f.off < 0x100000) (hp : f.off ≠ R.PWR_STATE) :
    (s.warmDropped m2).fld f = s.fld f := by
  have low : (s.resetAll.lower F.PWR_STATE_M2_ENTERING).fld f = s.fld f :=
    (State.fld_setFld_off _ _ _ _ hp).trans (fld_resetAll s f h)
  unfold State.warmDropped State.when
  split
  · exact (State.fld_setFld_off _ _ _ _ hp).trans low
  · exact low

theorem rgnState_warmDropped (s : State) (m2 : Prop) [Decidable m2] {n : Nat} (h : n < 32) :
    (s.warmDropped m2).rgnState n = if s.rgnState n = rFREE then rFREE else rRESETTING := by
  have other (u : State) (f : Fld) (v : Nat) (hf : f.off = R.PWR_STATE) : (u.setFld f v).rgnState n = u.rgnState n :=
    State.fld_setFld_off _ _ _ _ (by rw [hf]; simp only [F.RGN_STATE_STATE, R.RGN_STATE, R.PWR_STATE]; omega)
  rw [← rgnState_resetAll s h]
  unfold State.warmDropped State.when
  split
  · exact (other _ _ _ rfl).trans (other _ _ _ rfl)
  · exact other _ _ _ rfl

theorem warmDropped_eq (s : State) (m2 : Prop) [Decidable m2] : ∃ r, s.warmDropped m2 = { s.dropPath with regs := r } := by
  obtain ⟨r, e⟩ := resetAll_eq s
  unfold State.warmDropped State.when
  rw [e]
  split
  · exact ⟨_, rfl⟩
  · exact ⟨_, rfl⟩

theorem fld_warmNoted (s : State) (c f : Fld) (hc : c.off = R.RST_CAUSE) (h1 : f.off ≠ R.RST_CAUSE) (h2 : f.off ≠ R.RST_BOOT_STATUS) :
    (s.warmNoted c).fld f = s.fld f :=
  (State.fld_setFld_off _ _ _ _ h2).trans ((State.fld_setFld_off _ _ _ _ h2).trans ((State.fld_setFld_off _ _ _ _ h1).trans
    (State.fld_setFld_off _ _ _ _ (by rwa [hc]))))

theorem warmNoted_ready (s : State) (c : Fld) : (s.warmNoted c).fld F.RST_BOOT_STATUS_READY = 0 :=
  (State.fld_setFld_lo _ F.RST_BOOT_STATUS_PHASE F.RST_BOOT_STATUS_READY _ rfl rfl (by decide) (by decide)).trans (State.fld_setFld_same _ _ 0 (by decide))

theorem warmNoted_cause (s : State) (h : c ∈ warmCauses) :
    (s.warmNoted c).fld c = 1 ∧
      (s.warmNoted c).fld F.RST_CAUSE_WARM_COUNT = min (s.fld F.RST_CAUSE_WARM_COUNT + 1) 0xFFFF := by
  obtain ⟨hoff, hcold, hw, hone, below⟩ : c.off = R.RST_CAUSE ∧ c.cold = 0 ∧ c.lo + c.width ≤ 32 ∧ 2 ^ c.width = 2 ∧ c.lo + c.width ≤ 16 := by
    revert c
    decide
  have boot (f : Fld) (hf : f.off = R.RST_CAUSE) :
      (s.warmNoted c).fld f = ((s.raise c).countSat F.RST_CAUSE_WARM_COUNT).fld f :=
    (State.fld_setFld_off _ _ _ _ (by rw [hf]; decide)).trans (State.fld_setFld_off _ _ _ _ (by rw [hf]; decide))
  have count : (s.raise c).fld F.RST_CAUSE_WARM_COUNT = s.fld F.RST_CAUSE_WARM_COUNT :=
    State.fld_setFld_lo _ c _ _ hoff.symm hcold.symm (by decide) (.inr below)
  rw [boot c hoff, boot _ rfl]
  constructor
  · refine (State.fld_setFld_lo _ F.RST_CAUSE_WARM_COUNT c _ hoff hcold hw (.inl below)).trans ?_
    rw [State.raise_eq, State.fld_setFld_same _ _ _ hw, hone]
  · have lt := s.fld_lt F.RST_CAUSE_WARM_COUNT
    refine (State.fld_setFld_same _ _ _ (by decide)).trans ?_
    rw [count]
    exact Nat.mod_eq_of_lt (lt_of_le_of_lt (min_le_right _ _) (by decide))

theorem warmNoted_eq (s : State) (c : Fld) : ∃ r, s.warmNoted c = { s with regs := r } := ⟨_, rfl⟩

/-- What the event leaves, besides what `warmStarted` tells. -/
theorem warmEvent_spec (h : s.power.phase = .run) (hc : c ∈ warmCauses) :
    warmStarted s (s.warmEvent c) c ∧ (s.warmEvent c).fns = s.fns ∧ (s.warmEvent c).power.perst = s.power.perst ∧
      ∀ f : Fld, f.off = R.HOST_STATUS → (s.warmEvent c).fld f = s.fld f := by
  have hoff : c.off = R.RST_CAUSE := by
    revert c
    decide
  obtain ⟨cause, count⟩ := warmNoted_cause s hc
  have ready := warmNoted_ready s c
  have noted (f : Fld) (h1 : f.off ≠ R.RST_CAUSE) (h2 : f.off ≠ R.RST_BOOT_STATUS) := fld_warmNoted s c f hoff h1 h2
  obtain ⟨x, e⟩ := warmEvent_eq h c
  obtain ⟨r, en⟩ := warmNoted_eq s c
  obtain ⟨r', ed⟩ := warmDropped_eq (s.warmNoted c) (s.fld F.PWR_STATE_STATE = 2)
  have fld (f : Fld) (h1 : f.off < 0x100000) (h2 : f.off ≠ R.PWR_STATE) : (s.warmEvent c).fld f = (s.warmNoted c).fld f := by
    rw [e, fld_record, fld_warmDropped _ _ _ h1 h2]
  have same : (s.warmEvent c).net = [] ∧ (s.warmEvent c).cores = [] ∧ (s.warmEvent c).hbm = s.hbm ∧ (s.warmEvent c).flash = s.flash ∧
      (s.warmEvent c).fns = s.fns ∧ (s.warmEvent c).power.perst = s.power.perst := by
    rw [e, ed, en]
    exact ⟨rfl, rfl, rfl, rfl, rfl, rfl⟩
  obtain ⟨net, cores, hbm, flash, fns, perst⟩ := same
  refine ⟨⟨by rw [e], by rw [e], ?_, ?_, ?_, by rw [e], net, cores, hbm, flash, fun n hn => ?_⟩, fns, perst, fun f hf => ?_⟩
  · rw [fld _ (by decide) (by decide), ready]
  · rw [fld _ (by rw [hoff]; decide) (by rw [hoff]; decide), cause]
  · rw [fld _ (by decide) (by decide), count]
  · have rs := noted (F.RGN_STATE_STATE n) (by simp only [F.RGN_STATE_STATE, R.RGN_STATE, R.RST_CAUSE]; omega)
      (by simp only [F.RGN_STATE_STATE, R.RGN_STATE, R.RST_BOOT_STATUS]; omega)
    have drop := rgnState_warmDropped (s.warmNoted c) (s.fld F.PWR_STATE_STATE = 2) hn
    rw [show (s.warmNoted c).rgnState n = s.rgnState n from rs] at drop
    rw [← drop, e]
    rfl
  · rw [fld _ (by rw [hf]; decide) (by rw [hf]; decide), noted _ (by rw [hf]; decide) (by rw [hf]; decide)]

/-! ### The events -/

theorem warmCause_off (h : c ∈ warmCauses) : c.off = R.RST_CAUSE := by
  revert c
  decide

theorem warmStarted_pf (h : warmStarted s t c) (hc : c ∈ warmCauses) : warmStarted s t.refreshPf c := by
  obtain ⟨phase, due, ready, cause, count, keep, net, cores, hbm, flash, regions⟩ := h
  refine ⟨?_, ?_, ?_, ?_, ?_, ?_, ?_, ?_, ?_, ?_, fun n hn => ?_⟩
  · rw [State.refreshPf_power, phase]
  · rw [State.refreshPf_power, due]
  · rw [State.refreshPf_fld _ _ (by decide), ready]
  · rw [State.refreshPf_fld _ _ (by rw [warmCause_off hc]; decide), cause]
  · rw [State.refreshPf_fld _ _ (by decide), count]
  · rw [State.refreshPf_power, keep]
  · rw [State.refreshPf_net, net]
  · rw [State.refreshPf_cores, cores]
  · rw [State.refreshPf_hbm, hbm]
  · rw [State.refreshPf_flash, flash]
  · rw [← regions n hn]
    exact (frame_refreshPf t [] []).rgnState (by simp)

/-- What comes before the event, of the registers of HOST and of RST_CTRL, does not matter to it but for WARM_KEEP_HBM. -/
theorem warmStarted_of_prepared {r : List Nat} {p : List Part} (h : warmStarted u t c) (fr : Frame s u r p)
    (hr : ∀ x ∈ r, x = R.HOST_STATUS ∨ x = R.HOST_VF_BME ∨ x = R.RST_CTRL)
    (keep : u.on F.RST_CTRL_WARM_KEEP_HBM = s.on F.RST_CTRL_WARM_KEEP_HBM) (hp : .hbm ∉ p ∧ .flash ∉ p) : warmStarted s t c := by
  have other {x : Nat} (h1 : x ≠ R.HOST_STATUS) (h2 : x ≠ R.HOST_VF_BME) (h3 : x ≠ R.RST_CTRL) : x ∉ r := fun hx =>
    (hr x hx).elim h1 fun e => e.elim h2 h3
  obtain ⟨phase, due, ready, cause, count, kept, net, cores, hbm, flash, regions⟩ := h
  refine ⟨phase, due, ready, cause, ?_, kept.trans keep, net, cores, hbm.trans (fr.2 .hbm hp.1), flash.trans (fr.2 .flash hp.2),
    fun n hn => ?_⟩
  · rw [count, fr.fld_eq F.RST_CAUSE_WARM_COUNT (by decide) (other (by decide) (by decide) (by decide))]
  · rw [regions n hn, fr.rgnState (other (by simp only [R.RGN_STATE, R.HOST_STATUS]; omega)
      (by simp only [R.RGN_STATE, R.HOST_VF_BME]; omega) (by simp only [R.RGN_STATE, R.RST_CTRL]; omega))]

/-- A warm reset event that the command brings about from the state `u`. -/
theorem answers_warmEvent {i : Instr} {r : List Nat} {p : List Part} (exe : exec i s = done (u.warmEvent c))
    (hrun : u.power.phase = .run) (hc : c ∈ warmCauses) (fr : Frame s u r p)
    (hr : ∀ x ∈ r, x = R.HOST_STATUS ∨ x = R.HOST_VF_BME ∨ x = R.RST_CTRL)
    (keep : u.on F.RST_CTRL_WARM_KEEP_HBM = s.on F.RST_CTRL_WARM_KEEP_HBM) (hp : .hbm ∉ p ∧ .flash ∉ p) :
    Answers i s fun t => warmStarted s t c ∧ t.power.perst = u.power.perst ∧
      t.fld F.HOST_STATUS_WIDTH = u.fld F.HOST_STATUS_WIDTH ∧ ∀ i, SameFn u t i := by
  obtain ⟨started, fns, perst, host⟩ := warmEvent_spec hrun hc
  refine answers_of_done exe ⟨warmStarted_pf (warmStarted_of_prepared started fr hr keep hp) hc, ?_, ?_, fun i => ?_⟩
  · rw [State.refreshPf_power, perst]
  · rw [State.refreshPf_fld _ _ (by decide), host _ rfl]
  · exact SameFn.pf (SameFn.of_fns fns)

/-! ### The configuration spaces and the link -/

/-- The registers that show the configuration of the functions are at their reset values. -/
def State.configRegs (s : State) : State :=
  ((((s.lower F.HOST_STATUS_VF_ENABLE).setFld F.HOST_STATUS_NUM_VFS 0).lower F.HOST_STATUS_PF_D3HOT).lower
    F.HOST_STATUS_L1_2_ENABLED).setFld F.HOST_VF_BME_BME 0

theorem resetConfig_eq (s : State) : s.resetConfig = { s.configRegs with fns := [], pfConfig := {} } := rfl

theorem frame_noConfig (s : State) : Frame s { s with fns := [], pfConfig := {} } [] [.pfConfig] :=
  ⟨fun _ _ _ _ => rfl, fun q hq => by cases q with | pfConfig => simp at hq | _ => rfl⟩

theorem frame_configRegs (s : State) : Frame s s.configRegs [R.HOST_STATUS, R.HOST_VF_BME] [.pfConfig] :=
  ((((frame_setFld s F.HOST_STATUS_VF_ENABLE 0 _ (by decide)).setFld _ _ (by decide)).setFld _ _ (by decide)).setFld _ _
    (by decide)).setFld _ _ (by decide)

theorem frame_resetConfig (s : State) : Frame s s.resetConfig [R.HOST_STATUS, R.HOST_VF_BME] [.pfConfig] := by
  rw [resetConfig_eq]
  exact (frame_configRegs s).trans ((frame_noConfig _).mono (by simp) (by simp))

theorem frame_pcieDown (s : State) : Frame s s.pcieDown [R.HOST_STATUS, R.HOST_VF_BME] [.pfConfig] :=
  ((frame_setFld s F.HOST_STATUS_WIDTH 0 _ (by decide)).setFld _ _ (by decide)).setFld _ _ (by decide)

theorem pcieDown_width (s : State) : s.pcieDown.fld F.HOST_STATUS_WIDTH = 0 :=
  (State.fld_setFld_lo _ F.HOST_STATUS_FLIT_MODE F.HOST_STATUS_WIDTH _ rfl rfl (by decide) (by decide)).trans
    ((State.fld_setFld_lo _ F.HOST_STATUS_SPEED F.HOST_STATUS_WIDTH _ rfl rfl (by decide) (by decide)).trans
      (State.fld_setFld_same s _ 0 (by decide)))

theorem configRegs_width (s : State) : s.configRegs.fld F.HOST_STATUS_WIDTH = s.fld F.HOST_STATUS_WIDTH := by
  have lo (u : State) (f : Fld) (v : Nat) (ho : f.off = R.HOST_STATUS) (hc : f.cold = 0) (h : f.lo + f.width ≤ 11 ∨ 16 ≤ f.lo) :
      (u.setFld f v).fld F.HOST_STATUS_WIDTH = u.fld F.HOST_STATUS_WIDTH :=
    State.fld_setFld_lo u f _ v ho.symm hc.symm (by decide) h.symm
  exact (State.fld_setFld_off _ F.HOST_VF_BME_BME _ 0 (by decide)).trans ((lo _ _ _ rfl rfl (by decide)).trans
    ((lo _ _ _ rfl rfl (by decide)).trans ((lo _ _ _ rfl rfl (by decide)).trans (lo _ _ _ rfl rfl (by decide)))))

theorem fld_noConfig (s : State) (f : Fld) : ({ s with fns := [], pfConfig := {} } : State).fld f = s.fld f := rfl

theorem resetConfig_width (s : State) : s.resetConfig.fld F.HOST_STATUS_WIDTH = s.fld F.HOST_STATUS_WIDTH := by
  rw [resetConfig_eq, fld_noConfig, configRegs_width]

theorem resetConfig_fns (s : State) : s.resetConfig.fns = [] := rfl

theorem SameFn.of_reset (h : u.fns = []) (same : ∀ i, SameFn u t i) (i : Nat) :
    { t.fn i with pendingBits := 0 } = ({} : FnState) := by
  have e : u.fn i = {} := by rw [State.fn, h]; rfl
  rw [same i, e]

/-! ### Writes of RST_CTRL (R204) -/

theorem exec_resetWrite {i : Instr} (exe : exec i s = done (s.hostWrite R.RST_CTRL w)) (h : s.Serves) (hw : PlainWrite w R.RST_CTRL)
    (accepted : s.resetRefusal w.data.toNat = none) :
    exec i s = done (let t := s.putReg R.RST_CTRL (descAt R.RST_CTRL) w.data.toNat 0
      if w.data.toNat.testBit 0 then t.warmCommand else if w.data.toNat.testBit 1 then t.coldState .command else t) := by
  rw [exe, hostWrite_takes h hw (by decide +kernel : Takes _ R.RST_CTRL) accepted (badFields_nil (by decide) ..)]
  rfl

theorem resetRefusal_plain {v : Nat} (h0 : v.testBit 0 = false) (h1 : v.testBit 1 = false) : s.resetRefusal v = none := by
  rw [State.resetRefusal, h0, h1]
  rfl

theorem resetRefusal_keyed {v : Nat} (key : bitsOf v 16 16 = 0xA5C3) (h : v.testBit 0 = false ∨ v.testBit 1 = false) :
    s.resetRefusal v = none := by
  rw [State.resetRefusal, key]
  cases h0 : v.testBit 0 <;> cases h1 : v.testBit 1 <;> simp_all

theorem rstCtrl_keep (s : State) (v : Word) :
    (s.putReg R.RST_CTRL (descAt R.RST_CTRL) v.toNat 0).fld F.RST_CTRL_WARM_KEEP_HBM = bitsOf v.toNat 8 1 :=
  fld_putReg_keeps (off := R.RST_CTRL) s v F.RST_CTRL_WARM_KEEP_HBM rfl (by decide +kernel : Keeps (descAt R.RST_CTRL) _)

theorem rstCtrl_keep_on (s : State) (v : Word) :
    (s.putReg R.RST_CTRL (descAt R.RST_CTRL) v.toNat 0).on F.RST_CTRL_WARM_KEEP_HBM = v.getLsbD 8 := by
  rw [State.on, rstCtrl_keep]
  simp [bitsOf, BitVec.getLsbD, Nat.testBit, Nat.shiftRight_eq_div_pow]

theorem answers_cold {i : Instr} (exe : exec i s = done (u.coldState .command)) (flash : u.flash = s.flash) (fuses : u.fuses = s.fuses) :
    Answers i s fun t => t.flash = s.flash ∧ t.fuses = s.fuses ∧ t.power.phase = .off ∧ t.power.coldCause = .command ∧ t.time = 0 ∧
      t.hbm = {} ∧ Frame State.reset t [] [.pending, .fuses, .flash, .power, .tap] := by
  have fr : Frame State.reset (u.coldState .command) [] [.pending, .fuses, .flash, .power, .tap] :=
    ⟨fun _ _ _ _ => rfl, fun q hq => by
      cases q with
      | pending | fuses | flash | power | tap => simp at hq
      | _ => rfl⟩
  refine answers_of_done exe ⟨?_, ?_, ?_, ?_, ?_, ?_, fr.pf⟩
  · rw [State.refreshPf_flash]; exact flash
  · rw [State.refreshPf_fuses]; exact fuses
  · rw [State.refreshPf_power]; rfl
  · rw [State.refreshPf_power]; rfl
  · rw [State.refreshPf_time]; rfl
  · rw [State.refreshPf_hbm]; rfl

/-! ### The obligation -/

theorem exec_perstAssert (hrun : s.power.phase = .run) (h : s.power.perst = false) :
    exec .perstAssert s =
      done ((({ s with power := { s.power with perst := true } } : State).resetConfig.pcieDown).warmEvent F.RST_CAUSE_PERST) :=
  if_neg (by simp [h, hrun])

theorem exec_hotReset (hrun : s.power.phase = .run) (h : s.fld F.HOST_STATUS_WIDTH ≠ 0) :
    exec .hotReset s = done ((s.resetConfig.pcieDown).warmEvent F.RST_CAUSE_HOT_RESET) :=
  if_neg (by simp [h, hrun])

theorem exec_flrPf (hrun : s.power.phase = .run) : exec .flrPf s = done (s.resetConfig.warmEvent F.RST_CAUSE_PF_FLR) :=
  if_neg (by simp [hrun])

theorem pcieDown_power (s : State) : s.pcieDown.power = s.power := rfl

theorem pcieDown_fns (s : State) : s.pcieDown.fns = s.fns := rfl

theorem resetConfig_power (s : State) : s.resetConfig.power = s.power := by rw [resetConfig_eq]; rfl

/-- The link is down and the configuration spaces are reset. -/
theorem frame_linkDown (s : State) : Frame s s.resetConfig.pcieDown [R.HOST_STATUS, R.HOST_VF_BME] [.pfConfig] :=
  (frame_resetConfig s).trans (frame_pcieDown _)

/-- The event finds RST_CTRL as it was. -/
theorem keep_of_frame {r : List Nat} {p : List Part} (fr : Frame s u r p) (h : R.RST_CTRL ∉ r) :
    u.on F.RST_CTRL_WARM_KEEP_HBM = s.on F.RST_CTRL_WARM_KEEP_HBM := by
  rw [State.on, State.on, fr.fld_eq F.RST_CTRL_WARM_KEEP_HBM (by decide) h]

/-- Settles O7: the events reset the configuration and then stop the data path; the commands are writes of RST_CTRL. -/
theorem moduleResetsComplete : Obligations.ModuleResetsComplete := by
  refine ⟨fun s hrun hperst => ?_, fun s hrun hw => ?_, fun s hrun => ?_, fun s w h hw key h0 h1 keep => ?_,
    fun s w h hw key h0 h1 => ?_, fun s w h hw h0 h1 => ?_⟩
  · have fr : Frame s ({ s with power := { s.power with perst := true } } : State).resetConfig.pcieDown
        [R.HOST_STATUS, R.HOST_VF_BME] [.power, .pfConfig] :=
      (frame_power s _ (by decide)).trans ((frame_linkDown _).mono (by simp) (by simp))
    refine (answers_warmEvent (exec_perstAssert hrun hperst) ?_ (by decide) fr (by simp) (keep_of_frame fr (by decide))
      (by decide)).imp fun t ⟨exe, started, perst, _, same⟩ => ⟨exe, started, ?_, SameFn.of_reset ?_ same⟩
    · rw [pcieDown_power, resetConfig_power]; exact hrun
    · rw [perst, pcieDown_power, resetConfig_power]
    · rw [pcieDown_fns, resetConfig_fns]
  · have fr := frame_linkDown s
    refine (answers_warmEvent (exec_hotReset hrun hw) ?_ (by decide) fr (by simp) (keep_of_frame fr (by decide))
      (by decide)).imp fun t ⟨exe, started, _, width, same⟩ => ⟨exe, started, ?_, SameFn.of_reset ?_ same⟩
    · rw [pcieDown_power, resetConfig_power, hrun]
    · rw [width, pcieDown_width]
    · rw [pcieDown_fns, resetConfig_fns]
  · have fr := frame_resetConfig s
    refine (answers_warmEvent (exec_flrPf hrun) ?_ (by decide) fr (by simp) (keep_of_frame fr (by decide))
      (by decide)).imp fun t ⟨exe, started, _, width, same⟩ => ⟨exe, started, ?_, SameFn.of_reset (resetConfig_fns s) same⟩
    · rw [resetConfig_power, hrun]
    · rw [width, resetConfig_width]
  · have fr : Frame s (s.putReg R.RST_CTRL (descAt R.RST_CTRL) w.data.toNat 0) [R.RST_CTRL] [] := putReg_frame _ _ _ _ (by decide)
    have exe := exec_resetWrite (i := .warm w) rfl h hw (resetRefusal_keyed key (.inr h1))
    rw [show w.data.toNat.testBit 0 = true from h0, if_pos rfl] at exe
    exact (answers_warmEvent exe h.1 (by decide) fr (by simp) ((rstCtrl_keep_on s _).trans keep.symm) (by decide)).imp
      fun t ⟨exe, started, _, _, same⟩ => ⟨exe, started, same⟩
  · have exe := exec_resetWrite (i := .cold w) rfl h hw (resetRefusal_keyed key (.inl h0))
    rw [show w.data.toNat.testBit 0 = false from h0, show w.data.toNat.testBit 1 = true from h1, if_neg Bool.false_ne_true,
      if_pos rfl] at exe
    exact answers_cold exe rfl rfl
  · have exe := exec_resetWrite (i := .warmKeepHbmUpdate w) rfl h hw (resetRefusal_plain h0 h1)
    rw [show w.data.toNat.testBit 0 = false from h0, show w.data.toNat.testBit 1 = false from h1, if_neg Bool.false_ne_true,
      if_neg Bool.false_ne_true] at exe
    refine answers_of_done exe ⟨?_, (putReg_frame _ _ _ _ (by decide)).pf⟩
    rw [State.refreshPf_fld _ _ (by decide), rstCtrl_keep]

end Sys2Proof.Machine
end

section
/-! Region commands (07, R327, R334, R338, R347, R353; R135). -/

namespace Sys2Proof.Machine

variable {s t u : State} {w : DwWrite} {n off : Nat}

/-! ### Words that stay -/

theorem overList_keeps_mem {α σ : Type} (P : σ → Prop) (l : List α) (s : σ) (f : σ → α → σ) (h : P s)
    (hf : ∀ u a, a ∈ l → P u → P (f u a)) : P (overList l s f) := by
  induction l generalizing s with
  | nil => exact h
  | cons a l ih => exact ih _ (hf _ _ List.mem_cons_self h) fun u b hb => hf u b (List.mem_cons_of_mem _ hb)

theorem Frame.walk_mem {α : Type} {r p} (l : List α) (f : State → α → State) (h : Frame s t r p)
    (hf : ∀ u a, a ∈ l → Frame u (f u a) r p) : Frame s (overList l t f) r p :=
  overList_keeps_mem (fun u => Frame s u r p) l t f h fun u a ha k => k.trans (hf u a ha)

theorem Frame.when {r p} {b : Bool} {f : State → State} (h : Frame s t r p) (hf : Frame t (f t) r p) : Frame s (t.when b f) r p := by
  cases b
  · exact h
  · exact h.trans hf

/-- The register at `off` holds the word it held. -/
def SameWord (off : Nat) (s t : State) : Prop := ∀ cold, t.word off cold = s.word off cold

theorem SameWord.refl (off : Nat) (s : State) : SameWord off s s := fun _ => rfl

theorem SameWord.trans (h : SameWord off s t) (k : SameWord off t u) : SameWord off s u := fun cold => (k cold).trans (h cold)

theorem SameWord.of_regs (h : t.regs = s.regs) : SameWord off s t := fun _ => by simp only [State.word, h]

theorem SameWord.setFld (h : SameWord off s t) (f : Fld) (v : Nat) (ne : off ≠ f.off) : SameWord off s (t.setFld f v) :=
  h.trans fun cold => State.word_setFld_ne t f v off cold ne

theorem SameWord.setWord (h : SameWord off s t) (o v : Nat) (ne : off ≠ o) : SameWord off s (t.setWord o v) :=
  h.trans fun cold => by rw [State.word_setWord, if_neg ne]

theorem SameWord.coldRange (h : SameWord off s t) (lo hi : Nat) (ne : off < lo ∨ hi ≤ off) : SameWord off s (t.coldRange lo hi) :=
  h.trans fun cold => by rw [word_coldRange, if_neg (by omega)]

theorem SameWord.walk {α : Type} (h : SameWord off s t) (l : List α) (f : State → α → State)
    (hf : ∀ u a, a ∈ l → SameWord off u (f u a)) : SameWord off s (overList l t f) :=
  overList_keeps_mem (SameWord off s) l t f h fun u a ha k => k.trans (hf u a ha)

theorem SameWord.when {b : Bool} {f : State → State} (h : SameWord off s t) (hf : SameWord off t (f t)) :
    SameWord off s (t.when b f) := by
  cases b
  · exact h
  · exact h.trans hf

theorem SameWord.pf (h : SameWord off s t) (ne : off ≠ R.INT_PF_STATUS) : SameWord off s t.refreshPf :=
  h.trans fun cold => t.refreshPf_word ne cold

theorem SameWord.fld (h : SameWord off s t) (f : Fld) (hf : f.off = off) : t.fld f = s.fld f := by
  subst hf
  simp only [State.fld, h f.cold]

theorem Frame.sameWord {r p} (h : Frame s t r p) (h1 : off ≠ R.INT_PF_STATUS) (h2 : off ∉ r) : SameWord off s t :=
  fun cold => h.1 off cold h1 h2

/-! ### Writes of RGN_CMD and of RGN_RECT -/

theorem regionNumber_cmd (n : Nat) : R.RGN_CMD n / 0x10000 - 0x10 = n := by simp only [R.RGN_CMD]; omega

theorem regionNumber_rect (n : Nat) : R.RGN_RECT n / 0x10000 - 0x10 = n := by simp only [R.RGN_RECT]; omega

theorem takes_rgnCmd (n : Fin 32) : Takes (R.RGN_CMD n) (R.RGN_CMD 0) := by
  revert n
  decide +kernel

theorem takes_rgnRect (n : Fin 32) : Takes (R.RGN_RECT n) (R.RGN_RECT 0) := by
  revert n
  decide +kernel

theorem keeps_rgnRect (n : Fin 32) : Keeps (descAt (R.RGN_RECT n)) (F.RGN_RECT_X0 n) ∧ Keeps (descAt (R.RGN_RECT n)) (F.RGN_RECT_X1 n) ∧
    Keeps (descAt (R.RGN_RECT n)) (F.RGN_RECT_EXTENT n) := by
  revert n
  decide +kernel

theorem regionOffset_cmd (h : w.fn = .pf) (n : Nat) : regionOffset w.fn n 0x4 = R.RGN_CMD n := by
  rw [h, regionOffset, if_pos rfl]
  simp only [R.RGN_STATE, R.RGN_CMD]; omega

theorem regionOffset_rect (h : w.fn = .pf) (n : Nat) : regionOffset w.fn n 0x8 = R.RGN_RECT n := by
  rw [h, regionOffset, if_pos rfl]
  simp only [R.RGN_STATE, R.RGN_RECT]; omega

/-- What the commands and the rectangle write. -/
theorem exec_regionWrites (h : w.fn = .pf) (n : Fin 32) :
    (∀ i ∈ [Instr.configure n w, .commit n w, .reset n w, .release n w], exec i s = done (s.hostWrite (R.RGN_CMD n) w)) ∧
      exec (.rgnRectWrite n w) s = done (s.hostWrite (R.RGN_RECT n) w) := by
  rw [← regionOffset_cmd h n, ← regionOffset_rect h n]
  exact ⟨by simp only [List.forall_mem_cons]; exact ⟨rfl, rfl, rfl, rfl, by simp⟩, rfl⟩

theorem refreshPf_rgnState (s : State) (n : Nat) : s.refreshPf.rgnState n = s.rgnState n :=
  rgnState_congr ((SameWord.refl _ _).pf (by simp only [R.RGN_STATE, R.INT_PF_STATUS]; omega))

/-- The state with the command in RGN_CMD. -/
abbrev cmdPut (s : State) (n : Nat) (w : DwWrite) : State := s.putReg (R.RGN_CMD n) (descAt (R.RGN_CMD n)) w.data.toNat 0

theorem exec_regionCommand {i : Instr} (n : Fin 32) (exe : exec i s = done (s.hostWrite (R.RGN_CMD n) w)) (h : s.Serves)
    (hw : PlainWrite w (R.RGN_CMD n)) (hc : bitsOf w.data.toNat 0 4 ≤ 4) (hr : s.cmdRefusal .pf n w.data.toNat = none) :
    exec i s = done ((cmdPut s n w).regionCommand n (bitsOf w.data.toNat 0 4)) := by
  have accepted : s.wholeRefusal .pf (R.RGN_CMD 0) (R.RGN_CMD n) w.data.toNat = none := by
    rw [State.wholeRefusal, if_neg (by decide), if_pos rfl, regionNumber_cmd, hr]
  have bad : badFields (R.RGN_CMD 0) (R.RGN_CMD n) w.data.toNat = [] := by
    have e : badFields (R.RGN_CMD 0) (R.RGN_CMD n) w.data.toNat = outside w.data.toNat
        (F.RGN_CMD_CMD (R.RGN_CMD n / 0x10000 - 0x10)) (F.RGN_ERR_CMD_ERR (R.RGN_CMD n / 0x10000 - 0x10)) 0 4 ++ [] := rfl
    rw [e, List.append_nil]
    exact if_pos ⟨Nat.zero_le _, hc⟩
  rw [exe, hostWrite_takes h hw (takes_rgnCmd n) accepted bad]
  exact congrArg (fun k => done ((cmdPut s n w).regionCommand k (bitsOf w.data.toNat 0 4))) (regionNumber_cmd n)

theorem frame_cmdPut (s : State) (n : Nat) (w : DwWrite) {r : List Nat} (p : List Part) (h : R.RGN_CMD n ∈ r) :
    Frame s (cmdPut s n w) r p := putReg_frame _ _ _ _ h

theorem cmdPut_word (s : State) (n : Nat) (w : DwWrite) (h : off ≠ R.RGN_CMD n) : SameWord off s (cmdPut s n w) :=
  (SameWord.refl off s).setWord _ _ h

theorem cmdPut_state (s : State) (n m : Nat) (w : DwWrite) : (cmdPut s n w).rgnState m = s.rgnState m :=
  rgnState_congr (cmdPut_word s n w (by simp only [R.RGN_STATE, R.RGN_CMD]; omega))

theorem sliceOf_lt {i : Nat} (h : i ∈ s.slicesOf n) : i < 64 := List.mem_range.1 (List.mem_filter.1 h).1

theorem mem_rectRegs {i : Nat} (h : i < 64) : R.MSL_STATE i ∈ rectRegs n :=
  List.mem_append_right _ (List.mem_map_of_mem (List.mem_range.2 h))

theorem slicesNow_lt (s : State) (n : Nat) (b : Bool) : ∀ i ∈ (if b then s.slicesOf n else []), i < 64 := by
  cases b
  · simp
  · exact fun i h => sliceOf_lt h

/-- Which slices and islands the region holds shows in its own masks and in the slices' states. -/
theorem frame_noteRect (s : State) (n : Nat) (was : List Nat) (h : ∀ i ∈ was, i < 64) (p : List Part) :
    Frame s (s.noteRect n was) (rectRegs n) p := by
  have one (u : State) (v x i : Nat) (hi : i < 64) :
      Frame u ((u.setFld (F.MSL_STATE_OWNED i) v).setFld (F.MSL_STATE_REGION i) x) (rectRegs n) p :=
    (frame_setFld u (F.MSL_STATE_OWNED i) v p (mem_rectRegs hi)).setFld _ _ (mem_rectRegs hi)
  unfold State.noteRect
  refine Frame.walk_mem _ _ (Frame.walk_mem _ _ ?_ fun u i hi => one u 0 0 i (h i hi)) fun u i hi =>
    one u 1 n i (slicesNow_lt s n _ i hi)
  exact ((frame_setWord s (R.RGN_SLICE_MASK_LO n) _ p (by simp [rectRegs])).setWord _ _ (by simp [rectRegs])).setWord _ _
    (by simp [rectRegs])

/-! ### CONFIGURE (R334, R135) -/

theorem rgnState_setFld_same (s : State) (n v : Nat) (h : v < 8) : (s.setFld (F.RGN_STATE_STATE n) v).rgnState n = v := by
  rw [rgnState_setFld, if_pos rfl, Nat.mod_eq_of_lt h]

theorem frame_setPair (s : State) (lo hi v : Nat) {r : List Nat} (p : List Part) (h : lo ∈ r ∧ hi ∈ r) : Frame s (s.setPair lo hi v) r p :=
  (frame_setWord s lo _ p h.1).setWord _ _ h.2

theorem cmdRefusal_configure {v : Nat} (hc : bitsOf v 0 4 = 1) (hv : s.vfExists n = true) (hf : s.rgnState n = rFREE) :
    s.cmdRefusal .pf n v = none := by
  simp [State.cmdRefusal, hc, hv, hf]

/-- The registers that CONFIGURE changes beside RGN_CMD and the masks. -/
abbrev configureRegs (n : Nat) : List Nat := [R.RGN_CMD n, R.RGN_STATE n, R.PWR_RGN_ENERGY_LO n, R.PWR_RGN_ENERGY_HI n]

theorem energy_not_masks (n : Nat) (h : n < 32) (o : Nat) (ho : o = R.PWR_RGN_ENERGY_LO n ∨ o = R.PWR_RGN_ENERGY_HI n ∨ o = R.RGN_STATE n) :
    o ∉ rectRegs n := by
  simp only [rectRegs, List.mem_append, List.mem_cons, List.not_mem_nil, or_false, List.mem_map, List.mem_range, R.RGN_SLICE_MASK_LO,
    R.RGN_SLICE_MASK_HI, R.RGN_ISLAND_MASK, R.MSL_STATE, not_or, not_exists, not_and]
  simp only [R.PWR_RGN_ENERGY_LO, R.PWR_RGN_ENERGY_HI, R.RGN_STATE] at ho
  exact ⟨by omega, fun i hi => by omega⟩

theorem configureRegion_spec (u : State) (h : n < 32) :
    (u.configureRegion n).rgnState n = rCONFIGURING ∧ (u.configureRegion n).fld (F.PWR_RGN_ENERGY_LO_VALUE n) = 0 ∧
      (u.configureRegion n).fld (F.PWR_RGN_ENERGY_HI_VALUE n) = 0 ∧ Frame u (u.configureRegion n) (configureRegs n ++ rectRegs n) [] := by
  let x := (u.setFld (F.RGN_STATE_STATE n) rCONFIGURING).setPair (R.PWR_RGN_ENERGY_LO n) (R.PWR_RGN_ENERGY_HI n) 0
  have fr : Frame x (u.configureRegion n) (rectRegs n) [] := frame_noteRect x n [] (by simp) []
  have keeps (o : Nat) (ho : o = R.PWR_RGN_ENERGY_LO n ∨ o = R.PWR_RGN_ENERGY_HI n ∨ o = R.RGN_STATE n) :
      SameWord o x (u.configureRegion n) :=
    fr.sameWord (by simp only [R.PWR_RGN_ENERGY_LO, R.PWR_RGN_ENERGY_HI, R.RGN_STATE] at ho; simp only [R.INT_PF_STATUS]; omega)
      (energy_not_masks n h o ho)
  have hi (f : Fld) (hf : f.off = R.PWR_RGN_ENERGY_HI n) : x.fld f = 0 := by
    simp [x, State.fld, hf, State.setPair, State.word_setWord, bitsOf]
  have lo (f : Fld) (hf : f.off = R.PWR_RGN_ENERGY_LO n) : x.fld f = 0 := by
    have ne : R.PWR_RGN_ENERGY_LO n ≠ R.PWR_RGN_ENERGY_HI n := by simp only [R.PWR_RGN_ENERGY_LO, R.PWR_RGN_ENERGY_HI]; omega
    simp [x, State.fld, hf, State.setPair, State.word_setWord, bitsOf, ne]
  refine ⟨?_, ?_, ?_, ?_⟩
  · rw [rgnState_congr (keeps _ (.inr (.inr rfl))), ← rgnState_setFld_same u n rCONFIGURING (by decide)]
    exact rgnState_congr (((SameWord.refl _ _).setWord _ _ (by simp only [R.RGN_STATE, R.PWR_RGN_ENERGY_LO]; omega)).setWord _ _
      (by simp only [R.RGN_STATE, R.PWR_RGN_ENERGY_HI]; omega))
  · rw [(keeps _ (.inl rfl)).fld _ rfl, lo _ rfl]
  · rw [(keeps _ (.inr (.inl rfl))).fld _ rfl, hi _ rfl]
  · refine Frame.trans ?_ (fr.mono (List.subset_append_right _ _) (by simp))
    exact (frame_setFld u (F.RGN_STATE_STATE n) _ _ (by simp [F.RGN_STATE_STATE])).trans (frame_setPair _ _ _ _ _ (by simp))

theorem answers_configure (n : Fin 32) (h : s.Serves) (hw : PlainWrite w (R.RGN_CMD n)) (hc : bitsOf w.data.toNat 0 4 = 1)
    (hv : s.vfExists n = true) (hf : s.rgnState n = rFREE) :
    Answers (.configure n w) s fun t =>
      t.rgnState n = rCONFIGURING ∧ t.fld (F.PWR_RGN_ENERGY_LO_VALUE n) = 0 ∧ t.fld (F.PWR_RGN_ENERGY_HI_VALUE n) = 0 ∧
        Frame s t ([R.RGN_CMD n, R.RGN_STATE n, R.PWR_RGN_ENERGY_LO n, R.PWR_RGN_ENERGY_HI n] ++ rectRegs n) [] := by
  have exe := exec_regionCommand (i := .configure n w) n ((exec_regionWrites hw.1 n).1 _ (by simp)) h hw (by omega) (cmdRefusal_configure hc hv hf)
  rw [hc] at exe
  obtain ⟨state, lo, hi, fr⟩ := configureRegion_spec (cmdPut s n w) n.isLt
  refine answers_of_done exe ⟨?_, ?_, ?_, ((frame_cmdPut s n w _ (by simp)).trans fr).pf⟩
  · rw [refreshPf_rgnState]; exact state
  · rw [State.refreshPf_fld _ _ (by simp only [F.PWR_RGN_ENERGY_LO_VALUE, R.PWR_RGN_ENERGY_LO, R.INT_PF_STATUS]; omega)]; exact lo
  · rw [State.refreshPf_fld _ _ (by simp only [F.PWR_RGN_ENERGY_HI_VALUE, R.PWR_RGN_ENERGY_HI, R.INT_PF_STATUS]; omega)]; exact hi

/-! ### RESET and RELEASE of a region in service (R347, R353) -/

theorem haltCores_regs (s : State) (n : Nat) : (s.haltCores n).regs = s.regs := rfl

theorem frame_haltCores (s : State) (n : Nat) (r : List Nat) {p : List Part} (h : .cores ∈ p) : Frame s (s.haltCores n) r p :=
  frame_of_regs (s := s) (t := s.haltCores n) rfl (fun q hq => by cases q with | cores => exact absurd h hq | _ => rfl) r

/-- What a reset run that starts leaves, before a release shows. -/
def resetBegun (s : State) (n : Nat) (x : ResetRun) : State :=
  ((((s.modRgn n fun q => { q with reset := some x }).setFld (F.RGN_STATE_STATE n) rDRAINING).lower (F.RGN_STATE_RESET_PENDING n)).countSat
    (F.RGN_COUNTS_RESET_COUNT n)).haltCores n

theorem startReset_eq {why : ResetWhy} {toFree : Bool} (hs : 2 ≤ s.rgnState n) (hr : (s.rgn n).reset = none)
    (hf : (s.rgn n).faultStop = false) (hc : (s.rgn n).clearing = false) :
    s.startReset n why toFree = (resetBegun s n { why := why, toFree := toFree, start := s.time }).when toFree fun u =>
      u.raise (F.RGN_STATE_RELEASING n) := by
  rw [State.startReset, if_neg (by simp only [rFREE, rCONFIGURING]; omega), hc, if_neg (by decide), hr, hf]
  rfl

theorem frame_resetBegun (s : State) (n : Nat) (x : ResetRun) :
    Frame s (resetBegun s n x) [R.RGN_CMD n, R.RGN_STATE n, R.RGN_COUNTS n] [.regions, .cores] := by
  have fr := frame_modRgn s n (fun q => { q with reset := some x }) (r := [R.RGN_CMD n, R.RGN_STATE n, R.RGN_COUNTS n])
    (parts := [.regions, .cores]) (by simp)
  exact (((fr.setFld (F.RGN_STATE_STATE n) _ (by simp [F.RGN_STATE_STATE])).setFld (F.RGN_STATE_RESET_PENDING n) _
    (by simp [F.RGN_STATE_RESET_PENDING])).setFld (F.RGN_COUNTS_RESET_COUNT n) _ (by simp [F.RGN_COUNTS_RESET_COUNT])).trans
      (frame_haltCores _ _ _ (by simp))

theorem resetBegun_rgn (s : State) (n : Nat) (x : ResetRun) : ((resetBegun s n x).rgn n).reset = some x := by
  have e : (resetBegun s n x).rgn n = (s.modRgn n fun q => { q with reset := some x }).rgn n := rfl
  rw [e, State.rgn_modRgn_same]

theorem resetBegun_state (s : State) (n : Nat) (x : ResetRun) : (resetBegun s n x).rgnState n = rDRAINING := by
  let a := (s.modRgn n fun q => { q with reset := some x }).setFld (F.RGN_STATE_STATE n) rDRAINING
  have ha : a.rgnState n = rDRAINING := rgnState_setFld_same _ n rDRAINING (by decide)
  have hb : (a.lower (F.RGN_STATE_RESET_PENDING n)).rgnState n = a.rgnState n :=
    State.fld_setFld_lo a (F.RGN_STATE_RESET_PENDING n) (F.RGN_STATE_STATE n) 0 rfl rfl (by simp [F.RGN_STATE_STATE])
      (by simp [F.RGN_STATE_STATE, F.RGN_STATE_RESET_PENDING])
  rw [← ha, ← hb]
  exact rgnState_congr ((((SameWord.refl _ _).setFld _ _ (by simp only [F.RGN_COUNTS_RESET_COUNT, R.RGN_STATE, R.RGN_COUNTS]; omega))).trans
    (.of_regs rfl))

theorem resetBegun_count (s : State) (n : Nat) (x : ResetRun) :
    (resetBegun s n x).fld (F.RGN_COUNTS_RESET_COUNT n) = min (s.fld (F.RGN_COUNTS_RESET_COUNT n) + 1) 0xFFFF := by
  let a := ((s.modRgn n fun q => { q with reset := some x }).setFld (F.RGN_STATE_STATE n) rDRAINING).lower (F.RGN_STATE_RESET_PENDING n)
  have ne : (F.RGN_COUNTS_RESET_COUNT n).off ≠ R.RGN_STATE n := by simp only [F.RGN_COUNTS_RESET_COUNT, R.RGN_STATE, R.RGN_COUNTS]; omega
  have ha : a.fld (F.RGN_COUNTS_RESET_COUNT n) = s.fld (F.RGN_COUNTS_RESET_COUNT n) :=
    (State.fld_setFld_off _ _ _ _ ne).trans ((State.fld_setFld_off _ _ _ _ ne).trans rfl)
  have hb : (resetBegun s n x).fld (F.RGN_COUNTS_RESET_COUNT n) = (a.countSat (F.RGN_COUNTS_RESET_COUNT n)).fld (F.RGN_COUNTS_RESET_COUNT n) :=
    (SameWord.of_regs (haltCores_regs _ n)).fld _ rfl
  rw [hb, State.countSat, State.fld_setFld_same _ _ _ (by simp [F.RGN_COUNTS_RESET_COUNT]), ha]
  simp only [F.RGN_COUNTS_RESET_COUNT]
  omega

theorem cmdRefusal_reset {v : Nat} (hc : bitsOf v 0 4 = 3 ∨ bitsOf v 0 4 = 4) (hs : 2 ≤ s.rgnState n) : s.cmdRefusal .pf n v = none := by
  have h0 : s.rgnState n ≠ rFREE := by simp only [rFREE]; omega
  have h1 : s.rgnState n ≠ rCONFIGURING := by simp only [rCONFIGURING]; omega
  obtain hc | hc := hc <;> simp [State.cmdRefusal, hc, h0, h1]

theorem answers_reset (n : Fin 32) (h : s.Serves) (hw : PlainWrite w (R.RGN_CMD n)) (hc : bitsOf w.data.toNat 0 4 = 3)
    (hs : 2 ≤ s.rgnState n) (hr : (s.rgn n).reset = none) (hf : (s.rgn n).faultStop = false) (hcl : (s.rgn n).clearing = false) :
    Answers (.reset n w) s fun t =>
      t.rgnState n = rDRAINING ∧ t.fld (F.RGN_COUNTS_RESET_COUNT n) = min (s.fld (F.RGN_COUNTS_RESET_COUNT n) + 1) 0xFFFF ∧
        (t.rgn n).reset = some { why := .command, toFree := false, start := s.time } ∧
        Frame s t [R.RGN_CMD n, R.RGN_STATE n, R.RGN_COUNTS n] [.regions, .cores] := by
  have exe := exec_regionCommand (i := .reset n w) n ((exec_regionWrites hw.1 n).1 _ (by simp)) h hw (by omega)
    (cmdRefusal_reset (.inl hc) hs)
  have counts : (cmdPut s n w).fld (F.RGN_COUNTS_RESET_COUNT n) = s.fld (F.RGN_COUNTS_RESET_COUNT n) :=
    (cmdPut_word s n w (by simp only [F.RGN_COUNTS_RESET_COUNT, R.RGN_COUNTS, R.RGN_CMD]; omega)).fld _ rfl
  rw [hc, State.regionCommand, startReset_eq (s := cmdPut s n w) (by rwa [cmdPut_state]) hr hf hcl] at exe
  refine answers_of_done exe ⟨?_, ?_, ?_, ((frame_cmdPut s n w _ (by simp)).trans (frame_resetBegun _ n _)).pf⟩
  · rw [refreshPf_rgnState]; exact resetBegun_state ..
  · rw [State.refreshPf_fld _ _ (by simp only [F.RGN_COUNTS_RESET_COUNT, R.RGN_COUNTS, R.INT_PF_STATUS]; omega), ← counts]
    exact resetBegun_count ..
  · rw [State.refreshPf_rgn]; exact resetBegun_rgn ..

theorem answers_release (n : Fin 32) (h : s.Serves) (hw : PlainWrite w (R.RGN_CMD n)) (hc : bitsOf w.data.toNat 0 4 = 4)
    (hs : 2 ≤ s.rgnState n) (hr : (s.rgn n).reset = none) (hf : (s.rgn n).faultStop = false) (hcl : (s.rgn n).clearing = false) :
    Answers (.release n w) s fun t =>
      t.rgnState n = rDRAINING ∧ t.fld (F.RGN_STATE_RELEASING n) = 1 ∧
        (t.rgn n).reset = some { why := .command, toFree := true, start := s.time } ∧
        Frame s t [R.RGN_CMD n, R.RGN_STATE n, R.RGN_COUNTS n] [.regions, .cores] := by
  have exe := exec_regionCommand (i := .release n w) n ((exec_regionWrites hw.1 n).1 _ (by simp)) h hw (by omega)
    (cmdRefusal_reset (.inr hc) hs)
  rw [hc, State.regionCommand, if_neg (by rw [cmdPut_state]; simp only [rCONFIGURING]; omega),
    startReset_eq (s := cmdPut s n w) (by rwa [cmdPut_state]) hr hf hcl, State.when_true] at exe
  refine answers_of_done exe ⟨?_, ?_, ?_, (Frame.setFld ((frame_cmdPut s n w _ (by simp)).trans (frame_resetBegun _ n _))
    (F.RGN_STATE_RELEASING n) _ (by simp [F.RGN_STATE_RELEASING])).pf⟩
  · rw [refreshPf_rgnState]
    refine (State.fld_setFld_lo _ (F.RGN_STATE_RELEASING n) (F.RGN_STATE_STATE n) _ rfl rfl (by simp [F.RGN_STATE_STATE])
      (by simp [F.RGN_STATE_STATE, F.RGN_STATE_RELEASING])).trans ?_
    exact resetBegun_state ..
  · rw [State.refreshPf_fld _ _ (by simp only [F.RGN_STATE_RELEASING, R.RGN_STATE, R.INT_PF_STATUS]; omega)]
    exact State.fld_setFld_same _ _ _ (by simp [F.RGN_STATE_RELEASING])
  · rw [State.refreshPf_rgn, State.raise_eq, State.rgn_setFld]; exact resetBegun_rgn ..

/-! ### A valid rectangle (R327) -/

theorem answers_rgnRectWrite (n : Fin 32) (h : s.Serves) (hw : PlainWrite w (R.RGN_RECT n)) (hv : s.vfExists n = true)
    (hc : s.rgnState n = rCONFIGURING) (hr : s.rectBad n w.data.toNat = false) :
    Answers (.rgnRectWrite n w) s fun t =>
      t.fld (F.RGN_RECT_X0 n) = bitsOf w.data.toNat 0 4 ∧ t.fld (F.RGN_RECT_X1 n) = bitsOf w.data.toNat 8 4 ∧
        t.fld (F.RGN_RECT_EXTENT n) = bitsOf w.data.toNat 16 2 ∧ Frame s t (R.RGN_RECT n :: rectRegs n) [] := by
  have accepted : s.wholeRefusal .pf (R.RGN_RECT 0) (R.RGN_RECT n) w.data.toNat = none := by
    rw [State.wholeRefusal, if_pos (by decide), regionNumber_rect]
    simp [State.setupRefusal, hv, hc, hr]
  have exe := (exec_regionWrites (s := s) hw.1 n).2
  rw [hostWrite_takes h hw (takes_rgnRect n) accepted (badFields_nil (by decide) ..)] at exe
  let u := s.putReg (R.RGN_RECT n) (descAt (R.RGN_RECT n)) w.data.toNat 0
  have fr : Frame u (u.noteRect (R.RGN_RECT n / 0x10000 - 0x10) (s.slicesOf (R.RGN_RECT n / 0x10000 - 0x10))) (rectRegs n) [] := by
    rw [regionNumber_rect]
    exact frame_noteRect u n _ (fun i hi => sliceOf_lt hi) []
  have rect (f : Fld) (ho : f.off = R.RGN_RECT n) (hk : Keeps (descAt (R.RGN_RECT n)) f) :
      (u.noteRect (R.RGN_RECT n / 0x10000 - 0x10) (s.slicesOf (R.RGN_RECT n / 0x10000 - 0x10))).refreshPf.fld f =
        bitsOf w.data.toNat f.lo f.width := by
    have out : R.RGN_RECT n ∉ rectRegs n := by
      simp only [rectRegs, List.mem_append, List.mem_cons, List.not_mem_nil, or_false, List.mem_map, List.mem_range, R.RGN_SLICE_MASK_LO,
        R.RGN_SLICE_MASK_HI, R.RGN_ISLAND_MASK, R.MSL_STATE, R.RGN_RECT, not_or, not_exists, not_and]
      exact ⟨by omega, fun i hi => by omega⟩
    have pf : R.RGN_RECT n ≠ R.INT_PF_STATUS := by simp only [R.RGN_RECT, R.INT_PF_STATUS]; omega
    rw [((fr.sameWord pf out).pf pf).fld f ho]
    exact fld_putReg_keeps s w.data f ho hk
  obtain ⟨x0, x1, extent⟩ := keeps_rgnRect n
  exact answers_of_done exe ⟨rect _ rfl x0, rect _ rfl x1, rect _ rfl extent,
    ((putReg_frame w.data.toNat 0 _ _ (by simp)).trans (fr.mono (by simp) (by simp))).pf⟩

/-! ### The states of the regions through COMMIT and RELEASE -/

/-- Components that stay. -/
def SameParts (parts : List Part) (s t : State) : Prop := ∀ q, q ∉ parts → q.same s t

theorem Frame.sameParts {r p} (h : Frame s t r p) : SameParts p s t := h.2

theorem SameParts.refl (p : List Part) (s : State) : SameParts p s s := fun q _ => q.same_refl

theorem SameParts.trans {p} (h : SameParts p s t) (k : SameParts p t u) : SameParts p s u := fun q hq => Part.same_trans (h q hq) (k q hq)

theorem SameParts.setFld {p} (h : SameParts p s t) (f : Fld) (v : Nat) : SameParts p s (t.setFld f v) :=
  h.trans (frame_setFld t f v (r := [f.off]) p (by simp)).2

theorem SameParts.setWord {p} (h : SameParts p s t) (o v : Nat) : SameParts p s (t.setWord o v) :=
  h.trans (frame_setWord t o v (r := [o]) p (by simp)).2

theorem SameParts.coldRange {p} (h : SameParts p s t) (lo hi : Nat) : SameParts p s (t.coldRange lo hi) :=
  h.trans fun q _ => by cases q <;> rfl

theorem SameParts.walk {α : Type} {p} (h : SameParts p s t) (l : List α) (f : State → α → State)
    (hf : ∀ u a, SameParts p u (f u a)) : SameParts p s (overList l t f) :=
  overList_keeps (SameParts p s) l t f h fun u a k => k.trans (hf u a)

theorem SameParts.when {p} {b : Bool} {f : State → State} (h : SameParts p s t) (hf : SameParts p t (f t)) :
    SameParts p s (t.when b f) := by
  cases b
  · exact h
  · exact h.trans hf

/-- The word at `off` and the components but `p` stay. -/
def Stays (off : Nat) (p : List Part) (s t : State) : Prop := SameWord off s t ∧ SameParts p s t

section
variable {p : List Part}

theorem Stays.refl (off : Nat) (p : List Part) (s : State) : Stays off p s s := ⟨.refl off s, .refl p s⟩

theorem Stays.trans (h : Stays off p s t) (k : Stays off p t u) : Stays off p s u := ⟨h.1.trans k.1, h.2.trans k.2⟩

theorem Stays.setFld (h : Stays off p s t) (f : Fld) (v : Nat) (ne : off ≠ f.off) : Stays off p s (t.setFld f v) :=
  ⟨h.1.setFld f v ne, h.2.setFld f v⟩

theorem Stays.setWord (h : Stays off p s t) (o v : Nat) (ne : off ≠ o) : Stays off p s (t.setWord o v) :=
  ⟨h.1.setWord o v ne, h.2.setWord o v⟩

theorem Stays.coldRange (h : Stays off p s t) (lo hi : Nat) (ne : off < lo ∨ hi ≤ off) : Stays off p s (t.coldRange lo hi) :=
  ⟨h.1.coldRange lo hi ne, h.2.coldRange lo hi⟩

theorem Stays.walk {α : Type} (h : Stays off p s t) (l : List α) (f : State → α → State) (hf : ∀ u a, Stays off p u (f u a)) :
    Stays off p s (overList l t f) := overList_keeps (Stays off p s) l t f h fun u a k => k.trans (hf u a)

theorem Stays.when {b : Bool} {f : State → State} (h : Stays off p s t) (hf : Stays off p t (f t)) : Stays off p s (t.when b f) :=
  ⟨h.1.when hf.1, h.2.when hf.2⟩

theorem Stays.of_regs (h : t.regs = s.regs) (hp : SameParts p s t) : Stays off p s t := ⟨.of_regs h, hp⟩

end

/-- The offsets of the RGN blocks and those before them. -/
abbrev low (off : Nat) : Prop := off < 0x300000

/-- What a COMMIT changes beside registers. -/
abbrev commitParts : List Part := [.slices, .chans, .regions, .net, .ctl, .mesh]

theorem stays_zeroSlice {p : List Part} (h : Stays off p s t) (i : Nat) (hl : low off) : Stays off p s (t.zeroSlice i) :=
  (h.coldRange _ _ (.inl (by simp only [R.MSL_EXT_HITS]; omega))).coldRange _ _ (.inl (by simp only [R.MSL_ATOM_COUNT]; omega))

theorem stays_modSlice (h : Stays off commitParts s t) (i : Nat) (f : Slice → Slice) : Stays off commitParts s (t.modSlice i f) :=
  h.trans (.of_regs rfl fun q hq => by
    cases q with
    | slices => simp at hq
    | _ => rfl)

theorem stays_chans (h : Stays off commitParts s t) (c : SMap Chan) : Stays off commitParts s { t with chans := c } :=
  h.trans (.of_regs rfl fun q hq => by
    cases q with
    | chans => simp at hq
    | _ => rfl)

theorem stays_commitSlice (s : State) (n i : Nat) (hl : low off) : Stays off commitParts s (s.commitSlice n i) := by
  unfold State.commitSlice
  extract_lets ch maxOcc t1 t2 t3 t4
  have occ {u : State} (h : Stays off commitParts s u) (c : Nat) : Stays off commitParts s (maxOcc u c) :=
    h.setFld _ _ (by simp only [F.HBM_CH_QUEUE_MAX_OCC, R.HBM_CH_QUEUE]; omega)
  have h1 : Stays off commitParts s t1 := stays_zeroSlice (.refl ..) i hl
  have h2 : Stays off commitParts s t2 :=
    (h1.setFld _ _ (by simp only [F.MSL_STATE_PIN_WAYS, R.MSL_STATE]; omega)).setFld _ _
      (by simp only [F.MSL_STATE_EXT_SPLIT, R.MSL_STATE]; omega)
  have h3 : Stays off commitParts s t3 :=
    (h2.setFld _ _ (by simp only [F.MSL_SCRUB_CTRL_HBM_EN, R.MSL_SCRUB_CTRL]; omega)).setFld _ _
      (by simp only [F.MSL_SCRUB_SRAM_POSITION, R.MSL_SCRUB_SRAM]; omega)
  have h4 : Stays off commitParts s t4 :=
    stays_modSlice (h3.setFld _ _ (by simp only [F.MSL_SCRUB_HBM_POS_POSITION, R.MSL_SCRUB_HBM_POS]; omega)) i _
  exact occ (occ (stays_chans h4 _) _) _

theorem stays_installRoutes (s : State) (n : Nat) (m : RouteMap) (hl : low off) : Stays off commitParts s (s.installRoutes n m) := by
  have h0 (f : Region → Region) : Stays off commitParts s (s.modRgn n f) :=
    .of_regs rfl fun q hq => by
      cases q with
      | regions => simp at hq
      | _ => rfl
  unfold State.installRoutes
  extract_lets t
  have ht : Stays off commitParts s t := h0 _
  exact (((ht.setFld _ _ (by simp only [F.DYN_ROUTE_RELAYED, R.DYN_ROUTE]; omega)).setFld _ _
    (by simp only [F.DYN_ROUTE_ISOLATED, R.DYN_ROUTE]; omega)).setFld _ _ (by simp only [F.DYN_ISOLATED_VALID, R.DYN_ISOLATED]; omega)).setFld
    _ _ (by simp only [F.DYN_ISOLATED_FIRST_TILE, R.DYN_ISOLATED]; omega)

theorem stays_dropCutOff (s : State) (n : Nat) (hl : low off) : Stays off commitParts s (s.dropCutOff n) := by
  have h0 (l : List Packet) : Stays off commitParts s { s with net := l } :=
    .of_regs rfl fun q hq => by
      cases q with
      | net => simp at hq
      | _ => rfl
  exact (h0 _).setFld _ _ (by simp only [F.DYN_QUIESCE_DROP_FENCED, R.DYN_QUIESCE]; omega)

theorem stays_resetRoutes (s : State) (n : Nat) (hl : low off) : Stays off commitParts s (s.resetRoutes n) := by
  have h0 (c : List (Nat × CtlMsg)) (m : Mesh) : Stays off commitParts s { s with ctl := c, mesh := m } :=
    .of_regs rfl fun q hq => by
      cases q with
      | ctl | mesh => simp at hq
      | _ => rfl
  refine Stays.when ?_ ((Stays.refl ..).setFld _ _ (by simp only [F.DYN_ROUTE_EPOCH, R.DYN_ROUTE]; omega))
  refine Stays.trans (Stays.setFld (Stays.trans (h0 _ _) (stays_installRoutes _ n _ hl)) F.DYN_QUIESCING_QUIESCING _ ?_)
    (stays_dropCutOff _ n hl)
  simp only [F.DYN_QUIESCING_QUIESCING, R.DYN_QUIESCING]; omega

/-- COMMIT, but for the region's new state. -/
def commitBody (s : State) (n : Nat) : State :=
  let t := overList (s.slicesOf n) s fun u i => u.commitSlice n i
  let t := overList (List.range 16) t fun u w =>
    u.setFld (F.WIN_SLICES_N n w) (if u.on (F.WIN_CTRL_VALID n w) then (u.winSlices n w).length else 0)
  let t := ((t.coldRange (R.RGN_DLY_SERVED n 0) (R.RGN_AGE_PROMOTED n + 4)).setWord (R.RGN_OVF_LOST n) 0).setWord
    (R.DYN_ROUTE n) 0
  t.resetRoutes n

theorem commitRegion_eq (s : State) (n : Nat) : s.commitRegion n = (commitBody s n).setFld (F.RGN_STATE_STATE n) rREADY := rfl

theorem stays_commitBody (s : State) (n : Nat) {m : Nat} (hm : m < 32) : Stays (R.RGN_STATE m) commitParts s (commitBody s n) := by
  have hl : low (R.RGN_STATE m) := by simp only [low, R.RGN_STATE]; omega
  unfold commitBody
  extract_lets t1 t2 t3
  have h1 : Stays (R.RGN_STATE m) commitParts s t1 := (Stays.refl ..).walk _ _ fun u i => stays_commitSlice u n i hl
  have h2 : Stays (R.RGN_STATE m) commitParts s t2 := Stays.trans h1 (by
    refine overList_keeps_mem (Stays _ _ t1) _ _ _ (.refl ..) fun u w hw k => k.setFld _ _ ?_
    have := List.mem_range.1 hw
    simp only [F.WIN_SLICES_N, R.WIN_SLICES, R.RGN_STATE]; omega)
  have h3 : Stays (R.RGN_STATE m) commitParts s t3 :=
    ((h2.coldRange _ _ (by simp only [R.RGN_DLY_SERVED, R.RGN_AGE_PROMOTED, R.RGN_STATE]; omega)).setWord _ _
      (by simp only [R.RGN_OVF_LOST, R.RGN_STATE]; omega)).setWord _ _ (by simp only [R.DYN_ROUTE, R.RGN_STATE]; omega)
  exact h3.trans (stays_resetRoutes _ n hl)

theorem cmdRefusal_commit {v : Nat} (hc : bitsOf v 0 4 = 2) (hv : s.vfExists n = true) (hs : s.rgnState n = rCONFIGURING)
    (hz : s.commitCode n = 0) : s.cmdRefusal .pf n v = none := by
  simp [State.cmdRefusal, hc, hv, hs, hz]

theorem answers_commit (n : Fin 32) (h : s.Serves) (hw : PlainWrite w (R.RGN_CMD n)) (hc : bitsOf w.data.toNat 0 4 = 2)
    (hv : s.vfExists n = true) (hs : s.rgnState n = rCONFIGURING) (hz : s.commitCode n = 0) :
    Answers (.commit n w) s fun t =>
      t.rgnState n = rREADY ∧ (∀ m, m < 32 → m ≠ n.val → t.rgnState m = s.rgnState m) ∧ t.hbm = s.hbm ∧ t.cores = s.cores ∧
        t.vfs = s.vfs := by
  have exe := exec_regionCommand (i := .commit n w) n ((exec_regionWrites hw.1 n).1 _ (by simp)) h hw (by omega)
    (cmdRefusal_commit hc hv hs hz)
  rw [hc, State.regionCommand, commitRegion_eq] at exe
  have parts := (stays_commitBody (cmdPut s n w) n n.isLt).2.setFld (F.RGN_STATE_STATE n) rREADY
  refine answers_of_done exe ⟨?_, fun m hm ne => ?_, ?_, ?_, ?_⟩
  · rw [refreshPf_rgnState, rgnState_setFld_same _ _ _ (by decide)]
  · rw [refreshPf_rgnState, rgnState_setFld, if_neg ne, ← cmdPut_state s n m w]
    exact rgnState_congr (stays_commitBody _ n hm).1
  · rw [State.refreshPf_hbm]; exact parts .hbm (by decide)
  · rw [State.refreshPf_cores]; exact parts .cores (by decide)
  · rw [State.refreshPf_vfs]; exact parts .vfs (by decide)

/-! ### RELEASE in CONFIGURING (R353) -/

theorem low_lt (h : low off) : off < 0x400000 := by simp only [low] at h; omega

theorem word_putUnit (s : State) (k : UnitKind) (i st : Nat) (h : off < 0x400000) : SameWord off s (s.putUnit k i st) := by
  have bit (u : State) (f : Fld) (j : Nat) (b : Bool) (hu : SameWord off s u) (hf : 0x400000 ≤ f.off) : SameWord off s (u.setBit f j b) :=
    hu.setFld _ _ (by omega)
  have fenced : 0x400000 ≤ (fencedBit k i).1.off := by
    cases k <;> simp only [fencedBit, F.FLT_CORE_FENCED_FENCED, F.FLT_TILE_FENCED_FENCED, F.FLT_PORT_FENCED, R.FLT_CORE_FENCED,
      R.FLT_TILE_FENCED, R.FLT_PORT] <;> omega
  have standby : 0x400000 ≤ (standbyBit k i).1.off := by
    cases k <;> simp only [standbyBit, F.FLT_CORE_STANDBY_STANDBY, F.FLT_TILE_STANDBY_STANDBY, F.FLT_PORT_STANDBY, R.FLT_CORE_STANDBY,
      R.FLT_TILE_STANDBY, R.FLT_PORT] <;> omega
  unfold State.putUnit
  split
  · exact SameWord.refl _ _
  · extract_lets t u
    have hu : SameWord off s u :=
      (bit _ _ _ _ (bit _ _ _ _ (SameWord.refl _ _) fenced) standby).setFld _ _ (by simp only [F.FLT_STATUS_CHANGED, R.FLT_STATUS]; omega)
    split
    · exact hu
    · extract_lets ch
      refine bit _ _ _ _ (bit _ _ _ _ (hu.setFld _ _ ?_) ?_) ?_
      · simp only [F.MSL_STATE_FENCED, R.MSL_STATE]; omega
      · simp only [F.HBM_STATUS_CH_FENCED, R.HBM_STATUS]; omega
      · simp only [F.HBM_STATUS_CH_FENCED, R.HBM_STATUS]; omega

theorem word_endStandby (s : State) (n : Nat) (h : low off) : SameWord off s (s.endStandby n) := by
  have one (k : UnitKind) (u : State) (i : Nat) : SameWord off u (u.when (u.unitState k i == 2) fun v => v.putUnit k i 0) :=
    (SameWord.refl _ _).when (word_putUnit u k i 0 (low_lt h))
  exact ((SameWord.walk (SameWord.refl _ _) (s.coresOf n) _ fun u g _ => one .core u g).walk (s.portsOf n) _ fun u p _ => one .port u p).trans
    (.of_regs rfl)

/-- The region's own pages at their cold values, and its part of the masks of the plane. -/
def freePages (s : State) (n : Nat) : State :=
  let t := s.coldRange (R.RGN_RECT n) (R.RGN_ERR n)
  let t := (t.coldRange (R.RGN_FAULT n) (R.RGN_COUNTS n)).coldRange (R.WIN_CTRL n 0) (R.RGN_CMD n + 0x6FC)
  ((t.coldRange (R.DYN_ROUTE n) (R.DYN_ROUTE n + 16)).setBit F.DYN_QUIESCING_QUIESCING n false).regionEvent n false

/-- What the region held is returned; its state is not yet FREE. -/
def freeUnits (s : State) (n : Nat) : State :=
  let t := overList (s.slicesOf n) (s.endStandby n) fun u i =>
    ((u.setFld (F.MSL_STATE_PIN_WAYS i) 0).setFld (F.MSL_STATE_EXT_SPLIT i) 0).zeroSlice i
  let t := overList (s.portsOf n) t fun u p => (u.lower (F.HL_ASSIGN_VALID p)).setFld (F.HL_ASSIGN_REGION p) 0
  (t.dropImage n).modRgn n fun _ => {}

theorem freeRegion_eq (s : State) (n : Nat) :
    s.freeRegion n = freePages ((((freeUnits s n).setWord (R.RGN_STATE n) 0)).noteRect n (s.slicesOf n)) n := rfl

/-- A register that tells nothing of region n's image. -/
def NotImage (n off : Nat) : Prop := off < 0x301000 + 0x20 * n ∨ 0x301018 + 0x20 * n ≤ off

theorem low_notImage (h : low off) (n : Nat) : NotImage n off := by simp only [low] at h; simp only [NotImage]; omega

theorem word_dropImage (s : State) (n : Nat) (h : NotImage n off) (ho : off ≠ R.RGN_STATE n) : SameWord off s (s.dropImage n) := by
  have h0 (f : Region → Region) : SameWord off s (s.modRgn n f) := .of_regs rfl
  unfold State.dropImage
  extract_lets t k
  have ht : SameWord off s t := (h0 _).setFld (F.RGN_STATE_IMAGE_LOADED n) 0 ho
  refine (((((ht.setWord _ _ ?_).setWord _ _ ?_).setWord _ _ ?_).setWord _ _ ?_).setWord _ _ ?_).setWord _ _ ?_
  all_goals unfold NotImage at h; simp only [R.SCH_IMG_ID_LO, R.SCH_IMG_ID_HI, R.SCH_IMG_STATE, R.SCH_FRAME, R.SCH_COUNTS, R.SCH_PROOF_LO]; omega

theorem word_freeUnits (s : State) (n : Nat) (h : low off) (ho : off ≠ R.RGN_STATE n) : SameWord off s (freeUnits s n) := by
  unfold freeUnits
  extract_lets t1 t2
  have h1 : SameWord off s t1 := (word_endStandby s n h).walk _ _ fun u i _ => by
    refine SameWord.coldRange (SameWord.coldRange (((SameWord.refl _ _).setFld _ _ ?_).setFld _ _ ?_) _ _ (.inl ?_)) _ _ (.inl ?_)
    all_goals simp only [F.MSL_STATE_PIN_WAYS, F.MSL_STATE_EXT_SPLIT, R.MSL_STATE, R.MSL_EXT_HITS, R.MSL_ATOM_COUNT]; omega
  have h2 : SameWord off s t2 := h1.walk _ _ fun u p _ =>
    ((SameWord.refl _ _).setFld _ _ (by simp only [F.HL_ASSIGN_VALID, R.HL_ASSIGN]; omega)).setFld _ _
      (by simp only [F.HL_ASSIGN_REGION, R.HL_ASSIGN]; omega)
  exact (h2.trans (word_dropImage t2 n (low_notImage h n) ho)).trans (.of_regs rfl)

theorem word_freePages (s : State) (n : Nat) (h : low off)
    (ho : (off < R.RGN_RECT n ∨ R.RGN_ERR n ≤ off) ∧ (off < R.RGN_FAULT n ∨ R.RGN_COUNTS n ≤ off) ∧
      (off < R.WIN_CTRL n 0 ∨ R.RGN_CMD n + 0x6FC ≤ off)) : SameWord off s (freePages s n) := by
  obtain ⟨rect, fault, win⟩ := ho
  refine SameWord.setFld (SameWord.setFld (((((SameWord.refl _ _).coldRange _ _ rect).coldRange _ _ fault).coldRange _ _ win).coldRange
    _ _ (.inl ?_)) F.DYN_QUIESCING_QUIESCING _ ?_) F.INT_PF_EVENT_REGION _ ?_
  · simp only [R.DYN_ROUTE]; omega
  · simp only [F.DYN_QUIESCING_QUIESCING, R.DYN_QUIESCING]; omega
  · simp only [F.INT_PF_EVENT_REGION, R.INT_PF_EVENT]; omega

theorem freePages_rect (s : State) (h : n < 32) (cold : Nat) : (freePages s n).word (R.RGN_RECT n) cold = cold := by
  have hl : low (R.RGN_RECT n) := by simp only [low, R.RGN_RECT]; omega
  let a := s.coldRange (R.RGN_RECT n) (R.RGN_ERR n)
  have rest : SameWord (R.RGN_RECT n) a (freePages s n) := by
    refine SameWord.setFld (SameWord.setFld ((((SameWord.refl _ _).coldRange _ _ ?_).coldRange _ _ ?_).coldRange
      _ _ (.inl ?_)) F.DYN_QUIESCING_QUIESCING _ ?_) F.INT_PF_EVENT_REGION _ ?_
    all_goals simp only [R.RGN_RECT, R.RGN_FAULT, R.RGN_COUNTS, R.WIN_CTRL, R.RGN_CMD, R.DYN_ROUTE, F.DYN_QUIESCING_QUIESCING,
      R.DYN_QUIESCING, F.INT_PF_EVENT_REGION, R.INT_PF_EVENT]; omega
  rw [rest cold, word_coldRange, if_pos]
  simp only [R.RGN_RECT, R.RGN_ERR]; omega

theorem word_noteRect (s : State) (was : List Nat) {m : Nat} (hm : m < 32) (h : ∀ i ∈ was, i < 64) :
    SameWord (R.RGN_STATE m) s (s.noteRect n was) := by
  refine (frame_noteRect s n was h []).sameWord (by simp only [R.RGN_STATE, R.INT_PF_STATUS]; omega) ?_
  simp only [rectRegs, List.mem_append, List.mem_cons, List.not_mem_nil, or_false, List.mem_map, List.mem_range, R.RGN_SLICE_MASK_LO,
    R.RGN_SLICE_MASK_HI, R.RGN_ISLAND_MASK, R.MSL_STATE, R.RGN_STATE, not_or, not_exists, not_and]
  exact ⟨by omega, fun i hi => by omega⟩

theorem rgnState_freeRegion (s : State) {m : Nat} (hm : m < 32) :
    (s.freeRegion n).rgnState m = if m = n then rFREE else s.rgnState m := by
  have hl : low (R.RGN_STATE m) := by simp only [low, R.RGN_STATE]; omega
  rw [freeRegion_eq, rgnState_congr (word_freePages _ n hl
    (by simp only [R.RGN_STATE, R.RGN_RECT, R.RGN_ERR, R.RGN_FAULT, R.RGN_COUNTS, R.WIN_CTRL, R.RGN_CMD]; omega)),
    rgnState_congr (word_noteRect _ _ hm fun i hi => sliceOf_lt hi)]
  by_cases h : m = n
  · subst h
    rw [if_pos rfl, State.rgnState, State.fld, State.word_setWord, F.RGN_STATE_STATE, if_pos rfl]
    simp [bitsOf, rFREE]
  · have ne : R.RGN_STATE m ≠ R.RGN_STATE n := by simp only [R.RGN_STATE]; omega
    rw [if_neg h, rgnState_congr ((word_freeUnits s n hl ne).setWord _ _ ne)]

theorem cmdRefusal_release {v : Nat} (hc : bitsOf v 0 4 = 4) (hs : s.rgnState n = rCONFIGURING) : s.cmdRefusal .pf n v = none := by
  simp [State.cmdRefusal, hc, hs, rCONFIGURING, rFREE]

theorem answers_releaseConfiguring (n : Fin 32) (h : s.Serves) (hw : PlainWrite w (R.RGN_CMD n)) (hc : bitsOf w.data.toNat 0 4 = 4)
    (hs : s.rgnState n = rCONFIGURING) :
    Answers (.release n w) s fun t =>
      t.rgnState n = rFREE ∧ t.fld (F.RGN_RECT_X1 n) = 0 ∧ (∀ m, m < 32 → m ≠ n.val → t.rgnState m = s.rgnState m) := by
  have exe := exec_regionCommand (i := .release n w) n ((exec_regionWrites hw.1 n).1 _ (by simp)) h hw (by omega)
    (cmdRefusal_release hc hs)
  rw [hc, State.regionCommand, if_pos (by rwa [cmdPut_state])] at exe
  refine answers_of_done exe ⟨?_, ?_, fun m hm ne => ?_⟩
  · rw [refreshPf_rgnState, rgnState_freeRegion _ n.isLt, if_pos rfl]
  · rw [State.refreshPf_fld _ _ (by simp only [F.RGN_RECT_X1, R.RGN_RECT, R.INT_PF_STATUS]; omega), freeRegion_eq, State.fld,
      F.RGN_RECT_X1, freePages_rect _ n.isLt]
    simp [bitsOf]
  · rw [refreshPf_rgnState, rgnState_freeRegion _ hm, if_neg ne, cmdPut_state]

/-! ### The obligation -/

/-- Settles O8: each command is a write of RGN_CMD that nothing refuses. -/
theorem regionCommandsComplete : Obligations.RegionCommandsComplete := by
  unfold Obligations.RegionCommandsComplete
  exact ⟨fun s n w => answers_configure n, fun s n w => answers_commit n, fun s n w => answers_reset n, fun s n w => answers_release n,
    fun s n w => answers_releaseConfiguring n, fun s n w => answers_rgnRectWrite n⟩

end Sys2Proof.Machine
end

section
/-! Writes of RING_ENABLE (06, R316, R318, R324). -/

namespace Sys2Proof.Machine

variable {s t u : State} {w : DwWrite} {n i j v : Nat}

theorem overList_append {α σ : Type} (l m : List α) (s : σ) (f : σ → α → σ) : overList (l ++ m) s f = overList m (overList l s f) f := by
  induction l generalizing s with
  | nil => rfl
  | cons a l ih => exact ih (f s a)

/-! ### The registers of a ring setup page -/

theorem ringEnable_mem (n : Nat) : R.RING_ENABLE n ∈ ringRegs n := by simp [ringRegs]

theorem vfStatus_mem (n : Nat) : R.RING_VF_STATUS n ∈ ringRegs n := by simp [ringRegs]

theorem cqProduced_mem (n : Nat) : R.RING_CQ_PRODUCED n ∈ ringRegs n := by simp [ringRegs]

theorem ringRegs_mem (n : Nat) (h : i < 8) :
    R.RING_STATUS n i ∈ ringRegs n ∧ R.RING_CONSUMED n i ∈ ringRegs n ∧ R.RING_PRODUCER_SEEN n i ∈ ringRegs n := by
  have sub : ∀ x ∈ [R.RING_STATUS n i, R.RING_CONSUMED n i, R.RING_PRODUCER_SEEN n i], x ∈ ringRegs n := fun x hx =>
    List.mem_append_right _ (List.mem_flatMap.2 ⟨i, List.mem_range.2 h, hx⟩)
  exact ⟨sub _ (by simp), sub _ (by simp), sub _ (by simp)⟩

theorem frame_modVf (s : State) (n : Nat) (f : VfRings → VfRings) {r : List Nat} {p : List Part} (h : .vfs ∈ p) :
    Frame s (s.modVf n f) r p :=
  ⟨fun _ _ _ _ => rfl, fun q hq => by cases q with | vfs => exact absurd h hq | _ => rfl⟩

theorem noteStatus_word (s : State) (n i off : Nat) : SameWord off s (s.noteStatus n i) := by
  unfold State.noteStatus
  split
  · exact SameWord.refl _ _
  · split <;> exact .of_regs rfl

theorem noteStatus_consumer (s : State) (n i : Nat) : ((s.noteStatus n i).vf n).consumer = (s.vf n).consumer := by
  unfold State.noteStatus
  split
  · rfl
  · split
    · rfl
    · rw [State.vf_modVf_same]

/-! ### One ring -/

theorem ringOffs (n i j : Nat) :
    R.RING_STATUS n j ≠ R.RING_CONSUMED n i ∧ R.RING_STATUS n j ≠ R.RING_PRODUCER_SEEN n i ∧
      R.RING_CONSUMED n j ≠ R.RING_PRODUCER_SEEN n i ∧ (j ≠ i → R.RING_STATUS n j ≠ R.RING_STATUS n i) := by
  simp only [R.RING_STATUS, R.RING_CONSUMED, R.RING_PRODUCER_SEEN]; omega

theorem ringEnableOffs (n i : Nat) :
    R.RING_ENABLE n ≠ R.RING_STATUS n i ∧ R.RING_ENABLE n ≠ R.RING_CONSUMED n i ∧ R.RING_ENABLE n ≠ R.RING_PRODUCER_SEEN n i := by
  simp only [R.RING_ENABLE, R.RING_STATUS, R.RING_CONSUMED, R.RING_PRODUCER_SEEN]; omega

theorem enableRing_spec (s : State) (n : Nat) (h : i < 8) :
    (s.enableRing n i).ringState n i = 1 ∧ (s.enableRing n i).consumed n i = 0 ∧ (s.enableRing n i).producerSeen n i = 0 ∧
      (∀ j, j ≠ i → (s.enableRing n i).ringState n j = s.ringState n j) ∧ SameWord (R.RING_ENABLE n) s (s.enableRing n i) ∧
      Frame s (s.enableRing n i) (ringRegs n) [.vfs] := by
  obtain ⟨status, consumed, seen⟩ := ringRegs_mem n h
  obtain ⟨ne1, ne2, ne3⟩ := ringEnableOffs n i
  let a := s.setFld (F.RING_STATUS_STATE n i) qRUNNING
  let b := a.setFld (F.RING_CONSUMED_CONSUMED n i) 0
  let c := b.setFld (F.RING_PRODUCER_SEEN_PRODUCER_SEEN n i) 0
  have note (f : Fld) : (c.noteStatus n i).fld f = c.fld f := (noteStatus_word c n i f.off).fld f rfl
  have late (k : Nat) : c.ringState n k = a.ringState n k :=
    (State.fld_setFld_off b (F.RING_PRODUCER_SEEN_PRODUCER_SEEN n i) (F.RING_STATUS_STATE n k) 0 (ringOffs n i k).2.1).trans
      (State.fld_setFld_off a (F.RING_CONSUMED_CONSUMED n i) (F.RING_STATUS_STATE n k) 0 (ringOffs n i k).1)
  refine ⟨(note _).trans ((late i).trans ?_), (note _).trans ?_, (note _).trans ?_, fun j hj => (note _).trans ((late j).trans ?_), ?_, ?_⟩
  · exact State.fld_setFld_same s (F.RING_STATUS_STATE n i) qRUNNING (show 0 + 2 ≤ 32 by decide)
  · exact (State.fld_setFld_off b (F.RING_PRODUCER_SEEN_PRODUCER_SEEN n i) (F.RING_CONSUMED_CONSUMED n i) 0 (ringOffs n i i).2.2.1).trans
      (State.fld_setFld_same a (F.RING_CONSUMED_CONSUMED n i) 0 (show 0 + 32 ≤ 32 by decide))
  · exact State.fld_setFld_same b (F.RING_PRODUCER_SEEN_PRODUCER_SEEN n i) 0 (show 0 + 32 ≤ 32 by decide)
  · exact State.fld_setFld_off s (F.RING_STATUS_STATE n i) (F.RING_STATUS_STATE n j) qRUNNING ((ringOffs n i j).2.2.2 hj)
  · exact ((((SameWord.refl _ s).setFld (F.RING_STATUS_STATE n i) qRUNNING ne1).setFld (F.RING_CONSUMED_CONSUMED n i) 0 ne2).setFld
      (F.RING_PRODUCER_SEEN_PRODUCER_SEEN n i) 0 ne3).trans (noteStatus_word c n i _)
  · exact (((frame_setFld s (F.RING_STATUS_STATE n i) _ _ status).setFld (F.RING_CONSUMED_CONSUMED n i) _ consumed).setFld
      (F.RING_PRODUCER_SEEN_PRODUCER_SEEN n i) _ seen).trans (noteStatus_frame c n i _)

/-- The descriptors that disabling ends, and those that it leaves. -/
def disabled (d : Desc) : Desc := if d.phase = .fetched then d.abort acRING_DISABLED else d

theorem disableRing_eq (s : State) (n i : Nat) :
    s.disableRing n i = (((s.setFld (F.RING_STATUS_STATE n i) qSTOPPING).withdraw n i).modRing n i fun r =>
      { r with descs := r.descs.map disabled }).noteStatus n i := rfl

theorem disableRing_spec (s : State) (n : Nat) (h : i < 8) :
    (s.disableRing n i).ringState n i = 2 ∧ (∀ j, j ≠ i → (s.disableRing n i).ringState n j = s.ringState n j) ∧
      SameWord (R.RING_ENABLE n) s (s.disableRing n i) ∧ Frame s (s.disableRing n i) (ringRegs n) [.vfs] := by
  let a := s.setFld (F.RING_STATUS_STATE n i) qSTOPPING
  let c := (a.withdraw n i).modRing n i fun r => { r with descs := r.descs.map disabled }
  have rest (off : Nat) : SameWord off a (s.disableRing n i) := (SameWord.of_regs (t := c) rfl).trans (noteStatus_word c n i off)
  refine ⟨((rest _).fld _ rfl).trans ?_, fun j hj => ((rest _).fld _ rfl).trans ?_, SameWord.trans ?_ (rest _), ?_⟩
  · exact State.fld_setFld_same s (F.RING_STATUS_STATE n i) qSTOPPING (show 0 + 2 ≤ 32 by decide)
  · exact State.fld_setFld_off s (F.RING_STATUS_STATE n i) (F.RING_STATUS_STATE n j) qSTOPPING ((ringOffs n i j).2.2.2 hj)
  · exact (SameWord.refl _ s).setFld (F.RING_STATUS_STATE n i) qSTOPPING (ringEnableOffs n i).1
  · have ha : Frame s a (ringRegs n) [.vfs] := frame_setFld s _ _ _ (ringRegs_mem n h).1
    exact ((ha.trans (frame_modVf a n _ (by simp))).trans (frame_modVf _ n _ (by simp))).trans (noteStatus_frame c n i _)

/-! ### The walk over the rings -/

/-- Only bits of RING_ENABLE's rings change, and neither that of ring i nor CQ. -/
def BitsOnly (n i : Nat) (s t : State) : Prop :=
  t.bitAt (F.RING_ENABLE_RING n) i = s.bitAt (F.RING_ENABLE_RING n) i ∧ t.fld (F.RING_ENABLE_CQ n) = s.fld (F.RING_ENABLE_CQ n) ∧
    Frame s t [R.RING_ENABLE n] []

theorem bitsOnly_walk (v : Nat) (l : List Nat) (f : State → Nat → State) (hl : ∀ j ∈ l, j < 8 ∧ j ≠ i)
    (hf : ∀ u, ∀ j ∈ l, f u j = u.setBit (F.RING_ENABLE_RING n) j (v.testBit j)) : BitsOnly n i s (overList l s f) := by
  refine overList_keeps_mem (BitsOnly n i s) l s f ⟨rfl, rfl, .refl ..⟩ fun u j hj ⟨bit, cq, fr⟩ => ?_
  obtain ⟨hlt, ne⟩ := hl j hj
  rw [hf u j hj]
  refine ⟨?_, ?_, fr.setFld (F.RING_ENABLE_RING n) _ (by simp [F.RING_ENABLE_RING])⟩
  · rw [State.bitAt_setBit _ _ _ _ _ (show 0 + 8 ≤ 32 by decide) hlt, if_neg ne.symm, bit]
  · rw [State.setBit, State.fld_setFld_lo _ (F.RING_ENABLE_RING n) (F.RING_ENABLE_CQ n) _ rfl rfl (show 8 + 1 ≤ 32 by decide)
      (.inr (show 0 + 8 ≤ 8 by decide)), cq]

theorem BitsOnly.ringState (h : BitsOnly n i s t) (j : Nat) : t.ringState n j = s.ringState n j := by
  obtain ⟨-, -, fr⟩ := h
  have word : SameWord (R.RING_STATUS n j) s t := fr.sameWord (by simp only [R.RING_STATUS, R.INT_PF_STATUS]; omega)
    (by simp only [R.RING_STATUS, R.RING_ENABLE, List.mem_singleton]; omega)
  exact word.fld _ rfl

theorem range8_cut (h : i < 8) : ∃ l m, List.range 8 = l ++ i :: m ∧ ∀ j ∈ l ++ m, j < 8 ∧ j ≠ i := by
  refine ⟨(List.range 8).take i, (List.range 8).drop (i + 1), ?_⟩
  revert h
  revert i
  decide

/-- What the write does to ring i, of which `act` is what follows, and to no other ring. -/
theorem walk_one (h : i < 8) (f act : State → Nat → State)
    (hq : ∀ u j, j < 8 → j ≠ i → f u j = u.setBit (F.RING_ENABLE_RING n) j (v.testBit j))
    (ha : ∀ u, f u i = act (u.setBit (F.RING_ENABLE_RING n) i (v.testBit i)) i) :
    ∃ a b, BitsOnly n i s a ∧ b = act (a.setBit (F.RING_ENABLE_RING n) i (v.testBit i)) i ∧
      BitsOnly n i b (overList (List.range 8) s f) := by
  obtain ⟨l, m, cut, others⟩ := range8_cut h
  rw [cut, overList_append, overList_cons, ha]
  refine ⟨_, _, bitsOnly_walk v l f (fun j hj => others j (List.mem_append_left _ hj)) fun u j hj => ?_, rfl,
    bitsOnly_walk v m f (fun j hj => others j (List.mem_append_right _ hj)) fun u j hj => ?_⟩
  · obtain ⟨hlt, ne⟩ := others j (List.mem_append_left _ hj)
    exact hq u j hlt ne
  · obtain ⟨hlt, ne⟩ := others j (List.mem_append_right _ hj)
    exact hq u j hlt ne

/-! ### A write that nothing refuses -/

/-- What the write does to ring i in its turn. -/
def ringWrite (s : State) (n v : Nat) (u : State) (i : Nat) : State :=
  let w := u.setBit (F.RING_ENABLE_RING n) i (v.testBit i)
  if v.testBit i && !s.bitAt (F.RING_ENABLE_RING n) i then w.enableRing n i
  else if !v.testBit i && s.bitAt (F.RING_ENABLE_RING n) i then w.disableRing n i
  else w

/-- The completion ring is enabled: its index is 0. -/
def cqStart (n : Nat) (u : State) : State :=
  ((u.setFld (F.RING_CQ_PRODUCED_PRODUCED n) 0).modVf n fun x => { x with consumer := 0 }).noteStatus n 8

/-- The write's bit for the completion ring is taken. -/
def cqWrite (s : State) (n v : Nat) : State :=
  (s.setFld (F.RING_ENABLE_CQ n) (bit (v.testBit 8))).when (v.testBit 8 && !s.on (F.RING_ENABLE_CQ n)) (cqStart n)

theorem enableRings_accepted (hstay : v.testBit 8 = true ∨ (s.vf n).held = [] ∧ ∀ j, j < 8 → s.ringState n j = 0)
    (hbad : ∀ j, j < 8 → v.testBit j = true → s.bitAt (F.RING_ENABLE_RING n) j = false →
      s.rgnState n ∈ [rREADY, rRUNNING, rFAULTED] ∧ s.ringState n j ≠ qSTOPPING ∧ v.testBit 8 = true) :
    s.enableRings n v = (0, overList (List.range 8) (cqWrite s n v) (ringWrite s n v)) := by
  unfold State.enableRings
  extract_lets st up was stay cq old bad t1 t2 t3 refused
  have hs : stay = false := by
    obtain h8 | ⟨held, rings⟩ := hstay
    · simp [stay, h8]
    · have none : (List.range 8).any (fun i => s.ringState n i != qDISABLED) = false := by
        simp only [List.any_eq_false, List.mem_range, bne_iff_ne, ne_eq, not_not]
        exact rings
      simp [stay, held, none]
  have hc : cq = v.testBit 8 := by simp [cq, hs]
  have hb (j : Nat) (hj : j < 8) : bad j = false := by
    by_cases h1 : v.testBit j = true
    · by_cases h2 : s.bitAt (F.RING_ENABLE_RING n) j = true
      · simp [bad, old, h2]
      · obtain ⟨hup, hst, h8⟩ := hbad j hj h1 (by simpa using h2)
        have hup : up = true := by simpa [up, st, or_assoc] using hup
        simp [bad, hup, hst, hc, h8]
    · simp [bad, h1]
  have hr : refused = false := by
    simp only [refused, hs, Bool.false_or, List.any_eq_false, List.mem_range, Bool.not_eq_true]
    exact hb
  have h2 : t2 = cqWrite s n v := by simp only [t2, t1, hc]; rfl
  have walk (l : List Nat) (hl : ∀ j ∈ l, j < 8) (u : State) : overList l u (fun u i =>
      if bad i then u
      else
        let w := u.setBit (F.RING_ENABLE_RING n) i (v.testBit i)
        if v.testBit i && !old i then w.enableRing n i else if !v.testBit i && old i then w.disableRing n i else w) =
      overList l u (ringWrite s n v) := by
    induction l generalizing u with
    | nil => rfl
    | cons j l ih =>
      rw [overList_cons, overList_cons, hb j (hl j List.mem_cons_self), if_neg Bool.false_ne_true]
      exact ih (fun k hk => hl k (List.mem_cons_of_mem _ hk)) _
  have h3 : t3 = overList (List.range 8) (cqWrite s n v) (ringWrite s n v) := by
    rw [← h2]; exact walk _ (fun j hj => List.mem_range.1 hj) t2
  rw [hr, h3]
  rfl

theorem ringPageOffset_enable (h : w.fn = .pf) (n : Nat) : ringPageOffset w.fn n 0x18 = ringEnableAt n := by
  rw [h, ringPageOffset, if_pos rfl, ringEnableAt]

theorem ringEnable_register (n : Fin 32) :
    (regAt (ringEnableAt n)).isSome = true ∧ landPf (ringEnableAt n) = .reg (ringEnableAt n) ∧
      (descAt (ringEnableAt n)).mask Access.writable ≠ 0 ∧ ringEnableAt n % 4 = 0 ∧ ringEnableAt n < 0x1000000 ∧
      (descAt (ringEnableAt n)).base = R.RING_ENABLE 0 := by
  revert n
  decide +kernel

theorem hostWrite_ringEnable (n : Fin 32) (h : s.Serves) (hw : PlainWrite w (ringEnableAt n))
    (hstay : w.data.getLsbD 8 = true ∨ (s.vf n).held = [] ∧ ∀ j, j < 8 → s.ringState n j = 0)
    (hbad : ∀ j, j < 8 → w.data.getLsbD j = true → s.bitAt (F.RING_ENABLE_RING n) j = false →
      s.rgnState n ∈ [rREADY, rRUNNING, rFAULTED] ∧ s.ringState n j ≠ qSTOPPING ∧ w.data.getLsbD 8 = true) :
    s.hostWrite (ringEnableAt n) w = overList (List.range 8) (cqWrite s n w.data.toNat) (ringWrite s n w.data.toNat) := by
  obtain ⟨reg, lands, writable, aligned, inBar, base⟩ := ringEnable_register n
  have vf : (ringEnableAt n - 0x54000) / 0x200 = n := by simp only [ringEnableAt, R.RING_DB_BASE_LO]; omega
  have hr : regAt (ringEnableAt n) = some (descAt (ringEnableAt n)) :=
    Option.getD_of_ne_none (Option.isSome_iff_ne_none.1 reg) _ ▸ rfl
  have write (cs : List Crossing) : s.writeReg .pf (ringEnableAt n) (descAt (ringEnableAt n)) w.data.toNat cs =
      (0, overList (List.range 8) (cqWrite s n w.data.toNat) (ringWrite s n w.data.toNat)) := by
    rw [State.writeReg, if_pos base, vf, enableRings_accepted hstay hbad]
  rw [hostWrite_reg h hw aligned inBar hr lands writable, write]
  rfl

theorem ringWrite_same {u : State} (h : v.testBit j = s.bitAt (F.RING_ENABLE_RING n) j) :
    ringWrite s n v u j = u.setBit (F.RING_ENABLE_RING n) j (v.testBit j) := by
  rw [ringWrite, ← h]
  cases v.testBit j <;> rfl

theorem ringWrite_enable {u : State} (hv : v.testBit i = true) (h : s.bitAt (F.RING_ENABLE_RING n) i = false) :
    ringWrite s n v u i = (u.setBit (F.RING_ENABLE_RING n) i (v.testBit i)).enableRing n i := by
  rw [ringWrite, hv, h]
  exact if_pos rfl

theorem ringWrite_disable {u : State} (hv : v.testBit i = false) (h : s.bitAt (F.RING_ENABLE_RING n) i = true) :
    ringWrite s n v u i = (u.setBit (F.RING_ENABLE_RING n) i (v.testBit i)).disableRing n i := by
  rw [ringWrite, hv, h]
  exact (if_neg Bool.false_ne_true).trans (if_pos rfl)

theorem cqWrite_on (hv : v.testBit 8 = true) (h : s.fld (F.RING_ENABLE_CQ n) = 1) :
    cqWrite s n v = s.setFld (F.RING_ENABLE_CQ n) 1 := by
  rw [cqWrite, hv, State.on_eq_true (by omega), show (true && !true) = false from rfl, State.when_false, show bit true = 1 from rfl]

theorem BitsOnly.frame {p : List Part} (h : BitsOnly n i s t) : Frame s t (ringRegs n) p :=
  h.2.2.mono (by simp [ringRegs]) (by simp)

theorem frame_cqField (s : State) (n v : Nat) (p : List Part) : Frame s (s.setFld (F.RING_ENABLE_CQ n) v) (ringRegs n) p :=
  frame_setFld s (F.RING_ENABLE_CQ n) v p (ringEnable_mem n)

theorem frame_ringBit (s : State) (n i : Nat) (b : Bool) (p : List Part) :
    Frame s (s.setBit (F.RING_ENABLE_RING n) i b) (ringRegs n) p := frame_setFld s (F.RING_ENABLE_RING n) _ p (ringEnable_mem n)

theorem setFld_ringState (s : State) (f : Fld) (v n j : Nat) (h : f.off = R.RING_ENABLE n) : (s.setFld f v).ringState n j = s.ringState n j :=
  State.fld_setFld_off s f (F.RING_STATUS_STATE n j) v (by rw [h]; exact (ringEnableOffs n j).1.symm)

/-- A write that turns ring i alone on or off, of which `act` is what follows. -/
theorem ringWrite_walk {act : State → Nat → Nat → State} {k : Nat} (h : i < 8) (hv : v.testBit 8 = true)
    (cq : s.fld (F.RING_ENABLE_CQ n) = 1)
    (others : ∀ j, j < 8 → j ≠ i → v.testBit j = s.bitAt (F.RING_ENABLE_RING n) j)
    (one : ∀ u, ringWrite s n v u i = act (u.setBit (F.RING_ENABLE_RING n) i (v.testBit i)) n i)
    (spec : ∀ u, (act u n i).ringState n i = k ∧ (∀ j, j ≠ i → (act u n i).ringState n j = u.ringState n j) ∧
      SameWord (R.RING_ENABLE n) u (act u n i) ∧ Frame u (act u n i) (ringRegs n) [.vfs]) :
    ∃ b t : State, t = overList (List.range 8) (cqWrite s n v) (ringWrite s n v) ∧ BitsOnly n i (act b n i) t ∧
      t.ringState n i = k ∧ t.bitAt (F.RING_ENABLE_RING n) i = v.testBit i ∧
      (∀ j, j ≠ i → t.ringState n j = s.ringState n j) ∧ Frame s t (ringRegs n) [.vfs] := by
  obtain ⟨a, _, before, rfl, after⟩ := walk_one (s := cqWrite s n v) (f := ringWrite s n v) (act := fun u i => act u n i) h
    (fun u j hj ne => ringWrite_same (others j hj ne)) one
  let b := a.setBit (F.RING_ENABLE_RING n) i (v.testBit i)
  obtain ⟨at_i, at_j, enable, fr⟩ := spec b
  have hb : b.bitAt (F.RING_ENABLE_RING n) i = v.testBit i := by
    rw [State.bitAt_setBit _ _ _ _ _ (show 0 + 8 ≤ 32 by decide) h, if_pos rfl]
  have start (j : Nat) : b.ringState n j = s.ringState n j := by
    refine (setFld_ringState a (F.RING_ENABLE_RING n) _ n j rfl).trans ?_
    rw [before.ringState, cqWrite_on hv cq, setFld_ringState _ _ _ _ _ rfl]
  refine ⟨b, _, rfl, after, (after.ringState i).trans at_i, ?_, fun j hj => ?_, ?_⟩
  · rw [after.1]
    exact (congrArg (Nat.testBit · i) (enable.fld (F.RING_ENABLE_RING n) rfl)).trans hb
  · rw [after.ringState, at_j j hj, start]
  · refine Frame.trans (Frame.trans (Frame.trans ?_ before.frame) (frame_ringBit ..)) (fr.trans after.frame)
    rw [cqWrite_on hv cq]
    exact frame_cqField ..

theorem refreshPf_ring (s : State) (n : Nat) (f : Fld) (h : f.off ∈ ringRegs n) (hn : n < 32) : s.refreshPf.fld f = s.fld f := by
  refine State.refreshPf_fld _ _ fun e => ?_
  rw [e] at h
  simp only [ringRegs, List.mem_append, List.mem_cons, List.not_mem_nil, or_false, List.mem_flatMap, List.mem_range, R.INT_PF_STATUS,
    R.RING_ENABLE, R.RING_VF_STATUS, R.RING_CQ_PRODUCED, R.RING_STATUS, R.RING_CONSUMED, R.RING_PRODUCER_SEEN] at h
  obtain h | ⟨i, hi, h⟩ := h <;> omega

/-! ### The obligation -/

theorem answers_ringEnable (n : Fin 32) (i : Fin 8) (h : s.Serves) (hw : PlainWrite w (ringEnableAt n))
    (hr : s.rgnState n ∈ [rREADY, rRUNNING, rFAULTED]) (cq : s.fld (F.RING_ENABLE_CQ n) = 1) (h8 : w.data.getLsbD 8 = true)
    (off : s.bitAt (F.RING_ENABLE_RING n) i = false) (on : w.data.getLsbD i = true) (st : s.ringState n i = 0)
    (others : ∀ j, j < 8 → j ≠ i.val → w.data.getLsbD j = s.bitAt (F.RING_ENABLE_RING n) j) :
    Answers (.ringEnable n w) s fun t =>
      t.ringState n i = 1 ∧ t.bitAt (F.RING_ENABLE_RING n) i = true ∧ t.consumed n i = 0 ∧ t.producerSeen n i = 0 ∧
        (∀ j, j < 8 → j ≠ i.val → t.ringState n j = s.ringState n j) ∧ Frame s t (ringRegs n) [.vfs] := by
  have exe : exec (.ringEnable n w) s = done (s.hostWrite (ringEnableAt n) w) := by rw [← ringPageOffset_enable hw.1 n]; rfl
  rw [hostWrite_ringEnable n h hw (.inl h8) fun j hj hv hold => ⟨hr, ?_, h8⟩] at exe
  · obtain ⟨b, t, et, last, state, bit, states, fr⟩ := ringWrite_walk (act := State.enableRing) i.isLt h8 cq others
      (fun u => ringWrite_enable on off) fun u =>
        let ⟨a, _, _, b, c, d⟩ := enableRing_spec u n i.isLt
        ⟨a, b, c, d⟩
    rw [← et] at exe
    obtain ⟨-, consumed, seen, -, -, -⟩ := enableRing_spec b n i.isLt
    obtain ⟨status, cons, prod⟩ := ringRegs_mem n i.isLt
    have keeps (f : Fld) (hf : f.off = R.RING_CONSUMED n i ∨ f.off = R.RING_PRODUCER_SEEN n i) : t.fld f = (b.enableRing n i).fld f := by
      refine last.2.2.fld_eq f ?_ ?_
      all_goals
        simp only [R.RING_CONSUMED, R.RING_PRODUCER_SEEN] at hf
        simp only [R.INT_PF_STATUS, R.RING_ENABLE, List.mem_singleton]
        omega
    refine answers_of_done exe ⟨?_, ?_, ?_, ?_, fun j hj ne => ?_, fr.pf⟩
    · exact (refreshPf_ring t n _ status n.isLt).trans state
    · exact (congrArg (Nat.testBit · i) (refreshPf_ring t n _ (ringEnable_mem n) n.isLt)).trans (bit.trans on)
    · exact (refreshPf_ring t n _ cons n.isLt).trans ((keeps _ (.inl rfl)).trans consumed)
    · exact (refreshPf_ring t n _ prod n.isLt).trans ((keeps _ (.inr rfl)).trans seen)
    · exact (refreshPf_ring t n _ (ringRegs_mem n hj).1 n.isLt).trans (states j ne)
  · by_cases e : j = i
    · rw [e, st]; decide
    · exact absurd ((others j hj e).symm.trans hv) (by rw [hold]; decide)

theorem answers_ringDisable (n : Fin 32) (i : Fin 8) (h : s.Serves) (hw : PlainWrite w (ringEnableAt n))
    (cq : s.fld (F.RING_ENABLE_CQ n) = 1) (h8 : w.data.getLsbD 8 = true)
    (on : s.bitAt (F.RING_ENABLE_RING n) i = true) (off : w.data.getLsbD i = false)
    (others : ∀ j, j < 8 → j ≠ i.val → w.data.getLsbD j = s.bitAt (F.RING_ENABLE_RING n) j) :
    Answers (.ringDisable n w) s fun t =>
      t.ringState n i = 2 ∧ t.bitAt (F.RING_ENABLE_RING n) i = false ∧
        (∀ j, j < 8 → j ≠ i.val → t.ringState n j = s.ringState n j) ∧ Frame s t (ringRegs n) [.vfs] := by
  have exe : exec (.ringDisable n w) s = done (s.hostWrite (ringEnableAt n) w) := by rw [← ringPageOffset_enable hw.1 n]; rfl
  rw [hostWrite_ringEnable n h hw (.inl h8) fun j hj hv hold => ?_] at exe
  · obtain ⟨b, t, et, last, state, bit, states, fr⟩ := ringWrite_walk (act := State.disableRing) i.isLt h8 cq others
      (fun u => ringWrite_disable off on) fun u => disableRing_spec u n i.isLt
    rw [← et] at exe
    refine answers_of_done exe ⟨?_, ?_, fun j hj ne => ?_, fr.pf⟩
    · exact (refreshPf_ring t n _ (ringRegs_mem n i.isLt).1 n.isLt).trans state
    · exact (congrArg (Nat.testBit · i) (refreshPf_ring t n _ (ringEnable_mem n) n.isLt)).trans (bit.trans off)
    · exact (refreshPf_ring t n _ (ringRegs_mem n hj).1 n.isLt).trans (states j ne)
  · by_cases e : j = i
    · rw [e, off] at hv; exact absurd hv (by decide)
    · exact absurd ((others j hj e).symm.trans hv) (by rw [hold]; decide)

/-- A write that leaves every ring's bit. -/
theorem ringWrite_quiet (s : State) (h : ∀ k, k < 8 → v.testBit k = s.bitAt (F.RING_ENABLE_RING n) k) :
    BitsOnly n 8 (cqWrite s n v) (overList (List.range 8) (cqWrite s n v) (ringWrite s n v)) :=
  bitsOnly_walk v _ _ (fun j hj => ⟨List.mem_range.1 hj, (List.mem_range.1 hj).ne⟩) fun _ _ hj =>
    ringWrite_same (h _ (List.mem_range.1 hj))

theorem cqStart_spec (s : State) (n : Nat) :
    (cqStart n s).produced n = 0 ∧ ((cqStart n s).vf n).consumer = 0 ∧ SameWord (R.RING_ENABLE n) s (cqStart n s) ∧
      Frame s (cqStart n s) (ringRegs n) [.vfs] := by
  let a := s.setFld (F.RING_CQ_PRODUCED_PRODUCED n) 0
  let b := a.modVf n fun x => { x with consumer := 0 }
  have word (off : Nat) : SameWord off a (cqStart n s) := (SameWord.of_regs (t := b) rfl).trans (noteStatus_word b n 8 off)
  refine ⟨((word _).fld _ rfl).trans (State.fld_setFld_same s _ 0 (show 0 + 32 ≤ 32 by decide)), ?_, SameWord.trans ?_ (word _), ?_⟩
  · refine (noteStatus_consumer b n 8).trans ?_
    rw [State.vf_modVf_same]
  · exact (SameWord.refl _ s).setFld _ _ (by simp only [F.RING_CQ_PRODUCED_PRODUCED, R.RING_CQ_PRODUCED, R.RING_ENABLE]; omega)
  · exact ((frame_setFld s (F.RING_CQ_PRODUCED_PRODUCED n) 0 _ (cqProduced_mem n)).trans (frame_modVf a n _ (by simp))).trans
      (noteStatus_frame b n 8 _)

theorem answers_cqEnable (n : Fin 32) (h : s.Serves) (hw : PlainWrite w (ringEnableAt n)) (cq : s.fld (F.RING_ENABLE_CQ n) = 0)
    (h8 : w.data.getLsbD 8 = true) (same : ∀ j, j < 8 → w.data.getLsbD j = s.bitAt (F.RING_ENABLE_RING n) j) :
    Answers (.cqEnable n w) s fun t =>
      t.fld (F.RING_ENABLE_CQ n) = 1 ∧ t.produced n = 0 ∧ (t.vf n).consumer = 0 ∧ Frame s t (ringRegs n) [.vfs] := by
  have exe : exec (.cqEnable n w) s = done (s.hostWrite (ringEnableAt n) w) := by rw [← ringPageOffset_enable hw.1 n]; rfl
  rw [hostWrite_ringEnable n h hw (.inl h8) fun j hj hv hold => absurd ((same j hj).symm.trans hv) (by rw [hold]; decide)] at exe
  have quiet := ringWrite_quiet (n := n) (v := w.data.toNat) s same
  obtain ⟨-, cqKept, frQuiet⟩ := quiet
  have ecq : cqWrite s n w.data.toNat = cqStart n (s.setFld (F.RING_ENABLE_CQ n) 1) := by
    rw [cqWrite, show w.data.toNat.testBit 8 = true from h8, State.on_eq_false cq, show (true && !false) = true from rfl,
      State.when_true, show bit true = 1 from rfl]
  obtain ⟨produced, consumer, word, fr⟩ := cqStart_spec (s.setFld (F.RING_ENABLE_CQ n) 1) n
  rw [← ecq] at produced consumer word fr
  refine answers_of_done exe ⟨?_, ?_, ?_, ?_⟩
  · refine (refreshPf_ring _ n _ (ringEnable_mem n) n.isLt).trans (cqKept.trans ((word.fld _ rfl).trans ?_))
    exact State.fld_setFld_same s (F.RING_ENABLE_CQ n) 1 (show 8 + 1 ≤ 32 by decide)
  · refine (refreshPf_ring _ n _ (cqProduced_mem n) n.isLt).trans (Eq.trans ?_ produced)
    exact frQuiet.fld_eq _ (by simp only [F.RING_CQ_PRODUCED_PRODUCED, R.RING_CQ_PRODUCED, R.INT_PF_STATUS]; omega)
      (by simp only [F.RING_CQ_PRODUCED_PRODUCED, R.RING_CQ_PRODUCED, R.RING_ENABLE, List.mem_singleton]; omega)
  · rw [State.refreshPf_vf, State.vf, (frQuiet.2 .vfs (by simp) : _ = _)]
    exact consumer
  · exact (((frame_cqField s n 1 _).trans fr).trans (frQuiet.mono (by simp [ringRegs]) (by simp))).pf

theorem answers_cqDisable (n : Fin 32) (h : s.Serves) (hw : PlainWrite w (ringEnableAt n)) (h8 : w.data.getLsbD 8 = false)
    (held : (s.vf n).held = []) (rings : ∀ j, j < 8 → s.ringState n j = 0 ∧ w.data.getLsbD j = false ∧
      s.bitAt (F.RING_ENABLE_RING n) j = false) :
    Answers (.cqDisable n w) s fun t => t.fld (F.RING_ENABLE_CQ n) = 0 ∧ Frame s t (ringRegs n) [.vfs] := by
  have exe : exec (.cqDisable n w) s = done (s.hostWrite (ringEnableAt n) w) := by rw [← ringPageOffset_enable hw.1 n]; rfl
  rw [hostWrite_ringEnable n h hw (.inr ⟨held, fun j hj => (rings j hj).1⟩) fun j hj hv _ =>
    absurd ((rings j hj).2.1.symm.trans hv) (by decide)] at exe
  have quiet := ringWrite_quiet (n := n) (v := w.data.toNat) s fun j hj => (rings j hj).2.1.trans (rings j hj).2.2.symm
  obtain ⟨-, cqKept, frQuiet⟩ := quiet
  have ecq : cqWrite s n w.data.toNat = s.setFld (F.RING_ENABLE_CQ n) 0 := by
    rw [cqWrite, show w.data.toNat.testBit 8 = false from h8, Bool.false_and, State.when_false, show bit false = 0 from rfl]
  rw [ecq] at cqKept frQuiet exe
  refine answers_of_done exe ⟨?_, ?_⟩
  · refine (refreshPf_ring _ n _ (ringEnable_mem n) n.isLt).trans (cqKept.trans ?_)
    exact State.fld_setFld_same s (F.RING_ENABLE_CQ n) 0 (show 8 + 1 ≤ 32 by decide)
  · exact ((frame_cqField s n 0 _).trans (frQuiet.mono (by simp [ringRegs]) (by simp))).pf

/-- Settles O9: a write of RING_ENABLE treats each ring in its turn; here one ring at most changes. -/
theorem ringEnableWritesComplete : Obligations.RingEnableWritesComplete := by
  unfold Obligations.RingEnableWritesComplete
  exact ⟨fun s n i w => answers_ringEnable n i, fun s n i w => answers_ringDisable n i, fun s n w => answers_cqEnable n,
    fun s n w => answers_cqDisable n⟩

end Sys2Proof.Machine
end

section
/-! Ring Watch and the ring engine around a descriptor (05, R234; 06, R274 to R288, R303, R304, R311 to R316). -/

namespace Sys2Proof.Machine

variable {s t u : State} {n i j off : Nat}

/-! ### The shared operations: the words and the rings that they leave -/

theorem SameWord.setBit (h : SameWord off s t) (f : Fld) (k : Nat) (b : Bool) (ne : off ≠ f.off) : SameWord off s (t.setBit f k b) :=
  h.setFld f _ ne

theorem sameWord_sendMsix (s : State) (i v off : Nat) : SameWord off s (s.sendMsix i v) := fun cold => s.sendMsix_word i v off cold

theorem SameWord.modVf (h : SameWord off s t) (n : Nat) (f : VfRings → VfRings) : SameWord off s (t.modVf n f) := h.trans (.of_regs rfl)

theorem SameWord.withdraw (h : SameWord off s t) (n i : Nat) : SameWord off s (t.withdraw n i) := h.trans (.of_regs rfl)

theorem SameWord.noteStatus (h : SameWord off s t) (n i : Nat) : SameWord off s (t.noteStatus n i) := h.trans (noteStatus_word t n i off)

theorem SameWord.sendVf (h : SameWord off s t) (n v : Nat) : SameWord off s (t.sendVf n v) := h.trans (sameWord_sendMsix t (n + 1) v off)

/-- The rings of VF n, with their descriptors, are the same. -/
def SameRings (n : Nat) (s t : State) : Prop := (t.vf n).rings = (s.vf n).rings

theorem SameRings.refl (n : Nat) (s : State) : SameRings n s s := rfl

theorem SameRings.trans (h : SameRings n s t) (k : SameRings n t u) : SameRings n s u := Eq.trans k h

theorem SameRings.of_vfs (h : t.vfs = s.vfs) : SameRings n s t := by rw [SameRings, State.vf, State.vf, h]

theorem SameRings.ring (h : SameRings n s t) (i : Nat) : t.ring n i = s.ring n i := by rw [State.ring, State.ring, h]

theorem sameRings_modVf (s : State) (n : Nat) (f : VfRings → VfRings) (h : (f (s.vf n)).rings = (s.vf n).rings) :
    SameRings n s (s.modVf n f) := by rw [SameRings, State.vf_modVf_same, h]

theorem sameRings_noteStatus (s : State) (n i : Nat) : SameRings n s (s.noteStatus n i) := by
  unfold State.noteStatus
  split
  · rfl
  · split
    · exact .of_vfs rfl
    · exact sameRings_modVf s n _ rfl

theorem sameRings_sendMsix (s : State) (i v n : Nat) : SameRings n s (s.sendMsix i v) := .of_vfs (by simp)

theorem SameRings.setFld (h : SameRings n s t) (f : Fld) (v : Nat) : SameRings n s (t.setFld f v) := h.trans (.of_vfs rfl)

theorem SameRings.modVf (h : SameRings n s t) (f : VfRings → VfRings) (hf : ∀ v, (f v).rings = v.rings) : SameRings n s (t.modVf n f) :=
  h.trans (sameRings_modVf t n f (hf _))

theorem SameRings.setBit (h : SameRings n s t) (f : Fld) (k : Nat) (b : Bool) : SameRings n s (t.setBit f k b) := h.setFld f _

theorem SameRings.withdraw (h : SameRings n s t) (i : Nat) : SameRings n s (t.withdraw n i) := h.modVf _ fun _ => rfl

theorem SameRings.noteStatus (h : SameRings n s t) (i : Nat) : SameRings n s (t.noteStatus n i) := h.trans (sameRings_noteStatus t n i)

theorem SameRings.sendVf (h : SameRings n s t) (m v : Nat) : SameRings n s (t.sendVf m v) := h.trans (sameRings_sendMsix t (m + 1) v n)

theorem SameWord.noteHeld (h : SameWord off s t) (h1 : off ≠ R.RING_VF_STATUS n) (h2 : off ≠ R.RWE_STALL) : SameWord off s (t.noteHeld n) :=
  ((h.setFld (F.RING_VF_STATUS_HELD n) _ h1).setFld (F.RING_VF_STATUS_COMPLETION_STALL n) _ h1).setBit F.RWE_STALL_STALL n _ h2

theorem SameRings.noteHeld (h : SameRings n s t) : SameRings n s (t.noteHeld n) :=
  ((h.setFld (F.RING_VF_STATUS_HELD n) _).setFld (F.RING_VF_STATUS_COMPLETION_STALL n) _).setFld F.RWE_STALL_STALL _

theorem sameWord_writeRecord (s : State) (n : Nat) (r : Record) (h : off ≠ R.RING_CQ_PRODUCED n) : SameWord off s (s.writeRecord n r) := by
  unfold State.writeRecord
  extract_lets k words a b
  have ha : SameWord off s a := .of_regs rfl
  have hb : SameWord off s b := (ha.setFld (F.RING_CQ_PRODUCED_PRODUCED n) _ h).trans (noteStatus_word _ n 8 off)
  exact hb.when (sameWord_sendMsix b (n + 1) 0 off)

theorem sameRings_writeRecord (s : State) (n : Nat) (r : Record) : SameRings n s (s.writeRecord n r) := by
  unfold State.writeRecord State.when
  extract_lets k words a b
  have ha : SameRings n s a := .of_vfs rfl
  have hb : SameRings n s b := (ha.setFld (F.RING_CQ_PRODUCED_PRODUCED n) _).noteStatus 8
  split
  · exact hb.sendVf n 0
  · exact hb

/-- The registers that the entry of a record may change. -/
abbrev recordRegs (n : Nat) : List Nat := [R.RING_CQ_PRODUCED n, R.RING_VF_STATUS n, R.RWE_STALL]

theorem sameWord_enterRecord (s : State) (n : Nat) (r : Record) (h : off ∉ recordRegs n) : SameWord off s (s.enterRecord n r) := by
  simp only [recordRegs, List.mem_cons, List.not_mem_nil, or_false, not_or] at h
  obtain ⟨produced, status, stall⟩ := h
  unfold State.enterRecord
  extract_lets v
  split
  · exact sameWord_writeRecord s n r produced
  · split
    · exact (((SameWord.refl _ s).modVf n _).noteHeld status stall).noteStatus n 8
    · exact .of_regs rfl

theorem sameRings_enterRecord (s : State) (n : Nat) (r : Record) : SameRings n s (s.enterRecord n r) := by
  unfold State.enterRecord
  extract_lets v
  split
  · exact sameRings_writeRecord s n r
  · split
    · refine SameRings.noteStatus (SameRings.noteHeld ?_) 8
      exact sameRings_modVf s n _ rfl
    · exact sameRings_modVf s n _ rfl

/-- STATE and STOP_CAUSE of a ring that stops. -/
def stopFields (s : State) (n i cause : Nat) : State :=
  (s.setFld (F.RING_STATUS_STATE n i) qSTOPPED).setFld (F.RING_STATUS_STOP_CAUSE n i) cause

theorem stopRing_eq (s : State) (n i cause : Nat) :
    s.stopRing n i cause =
      ((((stopFields s n i cause).setBit F.RWE_STOPPED_STOPPED n true).withdraw n i).noteStatus n i).sendVf n 2 := rfl

theorem SameWord.stopTail (h : SameWord off s t) (n i : Nat) (ne : off ≠ R.RWE_STOPPED) :
    SameWord off s ((((t.setBit F.RWE_STOPPED_STOPPED n true).withdraw n i).noteStatus n i).sendVf n 2) :=
  (((h.setBit F.RWE_STOPPED_STOPPED n true ne).withdraw n i).noteStatus n i).sendVf n 2

theorem sameWord_stopRing (s : State) (n i cause : Nat) (h : off ≠ R.RING_STATUS n i ∧ off ≠ R.RWE_STOPPED) :
    SameWord off s (s.stopRing n i cause) := by
  rw [stopRing_eq]
  exact (((SameWord.refl _ s).setFld (F.RING_STATUS_STATE n i) _ h.1).setFld (F.RING_STATUS_STOP_CAUSE n i) _ h.1).stopTail n i h.2

theorem sameRings_stopRing (s : State) (n i cause : Nat) : SameRings n s (s.stopRing n i cause) := by
  rw [stopRing_eq]
  have h0 : SameRings n s (stopFields s n i cause) := .of_vfs rfl
  exact (((h0.setBit F.RWE_STOPPED_STOPPED n true).withdraw i).noteStatus i).sendVf n 2

theorem stopFields_spec (s : State) (n i cause : Nat) (h : cause < 256) :
    (stopFields s n i cause).fld (F.RING_STATUS_STATE n i) = 3 ∧ (stopFields s n i cause).fld (F.RING_STATUS_STOP_CAUSE n i) = cause ∧
      (stopFields s n i cause).fld (F.RING_STATUS_PAUSED n i) = s.fld (F.RING_STATUS_PAUSED n i) := by
  unfold stopFields
  refine ⟨?_, ?_, ?_⟩
  · rw [State.fld_setFld_lo _ (F.RING_STATUS_STOP_CAUSE n i) (F.RING_STATUS_STATE n i) cause rfl rfl (show 0 + 2 ≤ 32 by decide)
      (.inl (show 0 + 2 ≤ 8 by decide)), State.fld_setFld_same s _ qSTOPPED (show 0 + 2 ≤ 32 by decide)]
    simp [F.RING_STATUS_STATE, qSTOPPED]
  · rw [State.fld_setFld_same _ _ cause (show 8 + 8 ≤ 32 by decide)]
    exact Nat.mod_eq_of_lt h
  · rw [State.fld_setFld_lo _ (F.RING_STATUS_STOP_CAUSE n i) (F.RING_STATUS_PAUSED n i) cause rfl rfl (show 2 + 1 ≤ 32 by decide)
      (.inl (show 2 + 1 ≤ 8 by decide)), State.fld_setFld_lo s (F.RING_STATUS_STATE n i) (F.RING_STATUS_PAUSED n i) qSTOPPED rfl rfl
        (show 2 + 1 ≤ 32 by decide) (.inr (show 0 + 2 ≤ 2 by decide))]

/-- A ring that stops: its state and cause. -/
theorem stopRing_spec (s : State) (n i cause : Nat) (h : cause < 256) :
    (s.stopRing n i cause).ringState n i = 3 ∧ (s.stopRing n i cause).fld (F.RING_STATUS_STOP_CAUSE n i) = cause ∧
      (s.stopRing n i cause).fld (F.RING_STATUS_PAUSED n i) = s.fld (F.RING_STATUS_PAUSED n i) := by
  have late : SameWord (R.RING_STATUS n i) (stopFields s n i cause) (s.stopRing n i cause) := by
    rw [stopRing_eq]
    exact (SameWord.refl _ _).stopTail n i (by simp only [R.RING_STATUS, R.RWE_STOPPED]; omega)
  obtain ⟨state, why, paused⟩ := stopFields_spec s n i cause h
  exact ⟨(late.fld (F.RING_STATUS_STATE n i) rfl).trans state, (late.fld (F.RING_STATUS_STOP_CAUSE n i) rfl).trans why,
    (late.fld (F.RING_STATUS_PAUSED n i) rfl).trans paused⟩

/-! ### The examination of a ring's record (R274, R303) -/

/-- The registers of ring i that its record concerns. -/
abbrev ringWords (n i : Nat) : List Nat := [R.RING_STATUS n i, R.RING_GEN n i, R.RING_PRODUCER_SEEN n i, R.RING_CONSUMED n i, R.RING_SIZE n i]

/-- Ring i's registers stay. -/
def RingStays (n i : Nat) (s t : State) : Prop := ∀ off ∈ ringWords n i, SameWord off s t

theorem RingStays.trans (h : RingStays n i s t) (k : RingStays n i t u) : RingStays n i s u := fun o ho => (h o ho).trans (k o ho)

theorem RingStays.refl (n i : Nat) (s : State) : RingStays n i s s := fun o _ => .refl o s

theorem RingStays.of_regs (h : t.regs = s.regs) : RingStays n i s t := fun _ _ => .of_regs h

theorem RingStays.fields (h : RingStays n i s t) :
    t.ringState n i = s.ringState n i ∧ t.producerSeen n i = s.producerSeen n i ∧ t.consumed n i = s.consumed n i ∧
      t.ringLen n i = s.ringLen n i ∧ t.fld (F.RING_GEN_VALUE n i) = s.fld (F.RING_GEN_VALUE n i) ∧
      t.fld (F.RING_STATUS_PAUSED n i) = s.fld (F.RING_STATUS_PAUSED n i) ∧
      t.fld (F.RING_STATUS_STOP_CAUSE n i) = s.fld (F.RING_STATUS_STOP_CAUSE n i) := by
  have f (x : Fld) (hx : x.off ∈ ringWords n i) : t.fld x = s.fld x := (h x.off hx).fld x rfl
  refine ⟨f _ ?_, f _ ?_, f _ ?_, ?_, f _ ?_, f _ ?_, f _ ?_⟩
  case refine_4 => rw [State.ringLen, State.ringLen, f]; simp [F.RING_SIZE_SIZE_LOG2]
  all_goals simp [F.RING_STATUS_STATE, F.RING_PRODUCER_SEEN_PRODUCER_SEEN, F.RING_CONSUMED_CONSUMED, F.RING_GEN_VALUE,
    F.RING_STATUS_PAUSED, F.RING_STATUS_STOP_CAUSE]

/-- A ring's setup page apart from the ring itself. -/
theorem ringWords_apart (h : off ∈ ringWords n i) :
    off ∉ recordRegs n ∧ off ≠ R.RING_POLL_STATS n ∧ off ≠ R.RWE_STOPPED ∧ off ≠ R.INT_PF_STATUS ∨ ¬(n < 32 ∧ i < 8) := by
  simp only [ringWords, recordRegs, List.mem_cons, List.not_mem_nil, or_false, R.RING_STATUS, R.RING_GEN, R.RING_PRODUCER_SEEN,
    R.RING_CONSUMED, R.RING_SIZE, R.RING_CQ_PRODUCED, R.RING_VF_STATUS, R.RWE_STALL, R.RING_POLL_STATS, R.RWE_STOPPED,
    R.INT_PF_STATUS] at h ⊢
  omega

theorem ringWords_other (h : off ∈ ringWords n i) (ne : j ≠ i) :
    off ≠ R.RING_STATUS n j ∧ off ≠ R.RING_GEN n j ∧ off ≠ R.RING_PRODUCER_SEEN n j ∧ off ≠ R.RING_CONSUMED n j := by
  simp only [ringWords, List.mem_cons, List.not_mem_nil, or_false, R.RING_STATUS, R.RING_GEN, R.RING_PRODUCER_SEEN,
    R.RING_CONSUMED, R.RING_SIZE] at h ⊢
  omega

theorem sameWord_doorbellStop (s : State) (n j code : Nat) (h1 : off ∉ recordRegs n) (h2 : off ≠ R.RING_STATUS n j)
    (h3 : off ≠ R.RWE_STOPPED) : SameWord off s (s.doorbellStop n j code) :=
  (sameWord_stopRing s n j code ⟨h2, h3⟩).trans (sameWord_enterRecord _ n _ h1)

theorem sameWord_takeRecord (s : State) (n j : Nat) (r : List Word) (h1 : off ≠ R.RING_PRODUCER_SEEN n j) (h2 : off ≠ R.RING_STATUS n j) :
    SameWord off s (s.takeRecord n j r) := by
  unfold State.takeRecord
  extract_lets p pause t
  split
  · exact .refl _ s
  · exact (((SameWord.refl _ s).setFld (F.RING_PRODUCER_SEEN_PRODUCER_SEEN n j) p h1).setFld (F.RING_STATUS_PAUSED n j) pause
      h2).noteStatus n j

/-- What an examination of ring j leaves of a register that is neither of the ring nor of the records. -/
theorem sameWord_examine (s : State) (n j : Nat) (r : List Word) (h1 : off ∉ recordRegs n) (h2 : off ≠ R.RING_POLL_STATS n)
    (h3 : off ≠ R.RWE_STOPPED) (h4 : off ≠ R.RING_STATUS n j) (h5 : off ≠ R.RING_GEN n j) (h6 : off ≠ R.RING_PRODUCER_SEEN n j) :
    SameWord off s (s.examine n j r).state := by
  unfold State.examine
  extract_lets p gen g rsvdFlags overrun stopped t
  split
  · exact (SameWord.refl _ s).setFld (F.RING_POLL_STATS_TORN_COUNT n) _ h2
  · split
    · split
      · exact (((((SameWord.refl _ s).setFld (F.RING_GEN_VALUE n j) _ h5).setFld (F.RING_STATUS_STATE n j) _ h4).setFld
          (F.RING_PRODUCER_SEEN_PRODUCER_SEEN n j) _ h6).setFld (F.RING_STATUS_PAUSED n j) _ h4).noteStatus n j
      · exact (SameWord.refl _ s).setFld (F.RING_POLL_STATS_STALE_COUNT n) _ h2
    · split
      · show SameWord off s (if stopped then s else s.doorbellStop n j 14)
        split
        · exact .refl _ s
        · exact sameWord_doorbellStop s n j 14 h1 h4 h3
      · split
        · show SameWord off s (if stopped then s else s.doorbellStop n j 15)
          split
          · exact .refl _ s
          · exact sameWord_doorbellStop s n j 15 h1 h4 h3
        · exact sameWord_takeRecord s n j r h6 h4

/-- The fields of a ring after its doorbell stop. -/
theorem doorbellStop_spec (s : State) (hn : n < 32) (hi : i < 8) (code : Nat) (h : code < 256) :
    (s.doorbellStop n i code).ringState n i = 3 ∧ (s.doorbellStop n i code).fld (F.RING_STATUS_STOP_CAUSE n i) = code ∧
      (s.doorbellStop n i code).producerSeen n i = s.producerSeen n i ∧
      (s.doorbellStop n i code).fld (F.RING_GEN_VALUE n i) = s.fld (F.RING_GEN_VALUE n i) ∧
      (s.doorbellStop n i code).fld (F.RING_STATUS_PAUSED n i) = s.fld (F.RING_STATUS_PAUSED n i) := by
  have enter : RingStays n i (s.stopRing n i code) (s.doorbellStop n i code) := fun o ho =>
    sameWord_enterRecord _ n _ ((ringWords_apart ho).resolve_right (not_not.2 ⟨hn, hi⟩)).1
  have stop (o : Nat) (ho : o ∈ ringWords n i) (hs : o ≠ R.RING_STATUS n i) : SameWord o s (s.stopRing n i code) :=
    sameWord_stopRing s n i code ⟨hs, ((ringWords_apart ho).resolve_right (not_not.2 ⟨hn, hi⟩)).2.2.1⟩
  obtain ⟨state, seen, -, -, gen, paused, cause⟩ := enter.fields
  obtain ⟨state', cause', paused'⟩ := stopRing_spec s n i code h
  refine ⟨state.trans state', cause.trans cause', seen.trans ?_, gen.trans ?_, paused.trans paused'⟩
  · exact (stop (R.RING_PRODUCER_SEEN n i) (by simp) (by simp only [R.RING_PRODUCER_SEEN, R.RING_STATUS]; omega)).fld
      (F.RING_PRODUCER_SEEN_PRODUCER_SEEN n i) rfl
  · exact (stop (R.RING_GEN n i) (by simp) (by simp only [R.RING_GEN, R.RING_STATUS]; omega)).fld (F.RING_GEN_VALUE n i) rfl

/-- What a record's index and PAUSE bit leave of a ring. -/
theorem recordFields_spec (s : State) (n i p pause : Nat) (hp : p < 2 ^ 32) (hb : pause < 2) :
    let t := ((s.setFld (F.RING_PRODUCER_SEEN_PRODUCER_SEEN n i) p).setFld (F.RING_STATUS_PAUSED n i) pause).noteStatus n i
    t.producerSeen n i = p ∧ t.fld (F.RING_STATUS_PAUSED n i) = pause ∧ t.ringState n i = s.ringState n i ∧
      SameWord (R.RING_GEN n i) s t := by
  intro t
  let a := s.setFld (F.RING_PRODUCER_SEEN_PRODUCER_SEEN n i) p
  have late (o : Nat) : SameWord o (a.setFld (F.RING_STATUS_PAUSED n i) pause) t := noteStatus_word _ n i o
  have ne : R.RING_PRODUCER_SEEN n i ≠ R.RING_STATUS n i := by simp only [R.RING_PRODUCER_SEEN, R.RING_STATUS]; omega
  refine ⟨?_, ?_, ?_, ?_⟩
  · refine ((late _).fld (F.RING_PRODUCER_SEEN_PRODUCER_SEEN n i) rfl).trans ?_
    rw [State.fld_setFld_off a (F.RING_STATUS_PAUSED n i) (F.RING_PRODUCER_SEEN_PRODUCER_SEEN n i) pause ne]
    exact (State.fld_setFld_same s (F.RING_PRODUCER_SEEN_PRODUCER_SEEN n i) p (show 0 + 32 ≤ 32 by decide)).trans (Nat.mod_eq_of_lt hp)
  · refine ((late _).fld (F.RING_STATUS_PAUSED n i) rfl).trans ?_
    exact (State.fld_setFld_same a (F.RING_STATUS_PAUSED n i) pause (show 2 + 1 ≤ 32 by decide)).trans (Nat.mod_eq_of_lt hb)
  · refine ((late _).fld (F.RING_STATUS_STATE n i) rfl).trans ?_
    refine (State.fld_setFld_lo a (F.RING_STATUS_PAUSED n i) (F.RING_STATUS_STATE n i) pause rfl rfl (show 0 + 2 ≤ 32 by decide)
      (.inl (show 0 + 2 ≤ 2 by decide))).trans ?_
    exact State.fld_setFld_off s (F.RING_PRODUCER_SEEN_PRODUCER_SEEN n i) (F.RING_STATUS_STATE n i) p ne.symm
  · refine SameWord.trans (((SameWord.refl _ s).setFld (F.RING_PRODUCER_SEEN_PRODUCER_SEEN n i) p ?_).setFld (F.RING_STATUS_PAUSED n i)
      pause ?_) (late _)
    · simp only [F.RING_PRODUCER_SEEN_PRODUCER_SEEN, R.RING_GEN, R.RING_PRODUCER_SEEN]; omega
    · simp only [F.RING_STATUS_PAUSED, R.RING_GEN, R.RING_STATUS]; omega

theorem bit_lt (b : Bool) : bit b < 2 := by cases b <;> decide

theorem takeRecord_spec (s : State) (n i : Nat) (r : List Word) :
    (s.takeRecord n i r).producerSeen n i = (r.getD 0 0).toNat ∧
      (s.takeRecord n i r).fld (F.RING_STATUS_PAUSED n i) = bit ((r.getD 2 0).getLsbD 0) ∧
      (s.takeRecord n i r).ringState n i = s.ringState n i := by
  unfold State.takeRecord
  extract_lets p pause t
  split
  case isTrue h => exact ⟨h.1.symm, h.2.symm, rfl⟩
  case isFalse =>
    obtain ⟨seen, paused, state, -⟩ := recordFields_spec s n i p pause (r.getD 0 0).isLt (bit_lt _)
    exact ⟨seen, paused, state⟩

theorem restart_spec (s : State) (n i g p pause : Nat) (hg : g < 2 ^ 32) (hp : p < 2 ^ 32) (hb : pause < 2) :
    let t := ((((s.setFld (F.RING_GEN_VALUE n i) g).setFld (F.RING_STATUS_STATE n i) qRUNNING).setFld
      (F.RING_PRODUCER_SEEN_PRODUCER_SEEN n i) p).setFld (F.RING_STATUS_PAUSED n i) pause).noteStatus n i
    t.ringState n i = 1 ∧ t.fld (F.RING_GEN_VALUE n i) = g ∧ t.producerSeen n i = p ∧ t.fld (F.RING_STATUS_PAUSED n i) = pause := by
  intro t
  let a := s.setFld (F.RING_GEN_VALUE n i) g
  let b := a.setFld (F.RING_STATUS_STATE n i) qRUNNING
  obtain ⟨seen, paused, state, gen⟩ := recordFields_spec b n i p pause hp hb
  have running : b.ringState n i = 1 := State.fld_setFld_same a (F.RING_STATUS_STATE n i) qRUNNING (show 0 + 2 ≤ 32 by decide)
  refine ⟨state.trans running, (gen.fld (F.RING_GEN_VALUE n i) rfl).trans ?_, seen, paused⟩
  refine (State.fld_setFld_off a (F.RING_STATUS_STATE n i) (F.RING_GEN_VALUE n i) qRUNNING ?_).trans ?_
  · simp only [F.RING_GEN_VALUE, F.RING_STATUS_STATE, R.RING_GEN, R.RING_STATUS]; omega
  · exact (State.fld_setFld_same s (F.RING_GEN_VALUE n i) g (show 0 + 32 ≤ 32 by decide)).trans (Nat.mod_eq_of_lt hg)

/-! ### What a record leaves of its ring -/

/-- Nothing that a record may change of its ring has changed. -/
def RecordKept (s t : State) (n i : Nat) : Prop :=
  t.producerSeen n i = s.producerSeen n i ∧ t.fld (F.RING_GEN_VALUE n i) = s.fld (F.RING_GEN_VALUE n i) ∧
    t.fld (F.RING_STATUS_PAUSED n i) = s.fld (F.RING_STATUS_PAUSED n i)

theorem RingStays.kept (h : RingStays n i s t) : RecordKept s t n i ∧ t.ringState n i = s.ringState n i := by
  obtain ⟨state, seen, -, -, gen, paused, -⟩ := h.fields
  exact ⟨⟨seen, gen, paused⟩, state⟩

theorem ringStays_stats (s : State) (hn : n < 32) (hi : i < 8) (f : Fld) (v : Nat) (hf : f.off = R.RING_POLL_STATS n) :
    RingStays n i s (s.setFld f v) := fun o ho =>
  (SameWord.refl o s).setFld f v (hf ▸ ((ringWords_apart ho).resolve_right (not_not.2 ⟨hn, hi⟩)).2.1)

theorem examine_torn {r : List Word} (h : torn r = true) :
    (s.examine n i r).state = s.countSat (F.RING_POLL_STATS_TORN_COUNT n) := by
  rw [State.examine, if_pos h]

/-- The record restarts a STOPPED ring. -/
def Restarts (s : State) (n i : Nat) (r : List Word) : Prop :=
  s.ringState n i = 3 ∧ (r.getD 1 0).toNat = (s.fld (F.RING_GEN_VALUE n i) + 1) % 2 ^ 32 ∧ ¬2 ≤ (r.getD 2 0).toNat ∧
    ¬s.ringLen n i < ahead (r.getD 0 0).toNat (s.consumed n i)

theorem restarts_gen {r : List Word} (h : Restarts s n i r) : (r.getD 1 0).toNat ≠ s.fld (F.RING_GEN_VALUE n i) := by
  obtain ⟨-, hg, -, -⟩ := h
  have lt : s.fld (F.RING_GEN_VALUE n i) < 2 ^ 32 := State.fld_lt s (F.RING_GEN_VALUE n i)
  omega

theorem examine_restart {r : List Word} (ht : torn r = false) (h : Restarts s n i r) :
    (s.examine n i r).state = ((((s.setFld (F.RING_GEN_VALUE n i) (r.getD 1 0).toNat).setFld (F.RING_STATUS_STATE n i) qRUNNING).setFld
      (F.RING_PRODUCER_SEEN_PRODUCER_SEEN n i) (r.getD 0 0).toNat).setFld (F.RING_STATUS_PAUSED n i)
        (bit ((r.getD 2 0).getLsbD 0))).noteStatus n i := by
  have hg := restarts_gen h
  obtain ⟨hs, g, flags, room⟩ := h
  unfold State.examine
  extract_lets p gen g' rsvdFlags overrun stopped t
  have c : (stopped && g' == (gen + 1) % 2 ^ 32 && !rsvdFlags && !overrun) = true := by
    simp only [Bool.and_eq_true, beq_iff_eq, Bool.not_eq_true', decide_eq_false_iff_not, stopped, rsvdFlags, overrun, g', gen]
    exact ⟨⟨⟨hs, g⟩, flags⟩, room⟩
  rw [if_neg (by rw [ht]; decide), if_pos hg, if_pos c]

theorem examine_stale {r : List Word} (ht : torn r = false) (hg : (r.getD 1 0).toNat ≠ s.fld (F.RING_GEN_VALUE n i))
    (h : ¬Restarts s n i r) : (s.examine n i r).state = s.countSat (F.RING_POLL_STATS_STALE_COUNT n) := by
  unfold State.examine
  extract_lets p gen g' rsvdFlags overrun stopped t
  have c : ¬(stopped && g' == (gen + 1) % 2 ^ 32 && !rsvdFlags && !overrun) = true := by
    simp only [Bool.and_eq_true, beq_iff_eq, Bool.not_eq_true', decide_eq_false_iff_not, stopped, rsvdFlags, overrun, g', gen]
    exact fun ⟨⟨⟨hs, g⟩, flags⟩, room⟩ => h ⟨hs, g, flags, room⟩
  rw [if_neg (by rw [ht]; decide), if_pos hg, if_neg c]

/-- A record of the ring's generation that is refused: it stops the ring, unless it is STOPPED. -/
theorem examine_refused {r : List Word} (ht : torn r = false) (hg : (r.getD 1 0).toNat = s.fld (F.RING_GEN_VALUE n i))
    (h : 2 ≤ (r.getD 2 0).toNat ∨ s.ringLen n i < ahead (r.getD 0 0).toNat (s.consumed n i)) :
    (s.examine n i r).state = if s.ringState n i = 3 then s
      else s.doorbellStop n i (if 2 ≤ (r.getD 2 0).toNat then 14 else 15) := by
  unfold State.examine
  extract_lets p gen g' rsvdFlags overrun stopped t
  rw [if_neg (by rw [ht]; decide), if_neg (not_not.2 hg)]
  by_cases hf : 2 ≤ (r.getD 2 0).toNat
  · rw [if_pos (by simpa [rsvdFlags] using hf), if_pos hf]
    simp [stopped, qSTOPPED]
  · rw [if_neg (by simpa [rsvdFlags] using hf), if_neg hf, if_pos (by simpa [overrun, p] using h.resolve_left hf)]
    simp [stopped, qSTOPPED]

theorem examine_taken {r : List Word} (ht : torn r = false) (hg : (r.getD 1 0).toNat = s.fld (F.RING_GEN_VALUE n i))
    (hf : ¬2 ≤ (r.getD 2 0).toNat) (ho : ¬s.ringLen n i < ahead (r.getD 0 0).toNat (s.consumed n i)) :
    (s.examine n i r).state = s.takeRecord n i r := by
  unfold State.examine
  extract_lets p gen g' rsvdFlags overrun stopped t
  rw [if_neg (by rw [ht]; decide), if_neg (not_not.2 hg), if_neg (by simpa [rsvdFlags] using hf),
    if_neg (by simpa [overrun, p] using ho)]

theorem recordTaken_examine (s : State) (hn : n < 32) (hi : i < 8) (r : List Word) :
    RecordTaken s (s.examine n i r).state n i r := by
  unfold RecordTaken
  intro p g gen pause flags overrun stopped restart kept
  refine ⟨fun h => ?_, fun ht hg hf ho => ?_, fun ht hg hs hf => ?_, fun ht hg hs hf ho => ?_, fun ht h => ?_⟩
  · by_cases ht : torn r = true
    · rw [show kept ↔ RecordKept s _ n i from Iff.rfl, examine_torn ht]
      exact (ringStays_stats s hn hi _ _ rfl).kept
    · have ht' : torn r = false := by simpa using ht
      obtain h | ⟨hg, hr⟩ | ⟨hs, hg, h⟩ := h
      · exact absurd h ht
      · rw [show kept ↔ RecordKept s _ n i from Iff.rfl, examine_stale ht' hg hr]
        exact (ringStays_stats s hn hi _ _ rfl).kept
      · rw [show kept ↔ RecordKept s _ n i from Iff.rfl, examine_refused ht' hg h, if_pos hs]
        exact (RingStays.refl n i s).kept
  · rw [examine_taken ht hg hf ho]
    exact takeRecord_spec s n i r
  · rw [show kept ↔ RecordKept s _ n i from Iff.rfl, examine_refused ht hg (.inl hf), if_neg hs, if_pos hf]
    obtain ⟨state, cause, seen, gen, paused⟩ := doorbellStop_spec s hn hi 14 (by decide)
    exact ⟨⟨seen, gen, paused⟩, state, cause⟩
  · rw [show kept ↔ RecordKept s _ n i from Iff.rfl, examine_refused ht hg (.inr ho), if_neg hs, if_neg hf]
    obtain ⟨state, cause, seen, gen, paused⟩ := doorbellStop_spec s hn hi 15 (by decide)
    exact ⟨⟨seen, gen, paused⟩, state, cause⟩
  · rw [examine_restart ht h]
    exact restart_spec s n i _ _ _ (r.getD 1 0).isLt (r.getD 0 0).isLt (bit_lt _)

/-- What a record leaves speaks of the ring's registers alone. -/
theorem recordTaken_congr {s' t' : State} {r : List Word} (h : RecordTaken s' t' n i r) (hs : RingStays n i s s') (ht : RingStays n i t' t) :
    RecordTaken s t n i r := by
  obtain ⟨state, seen, cons, len, gen, paused, -⟩ := hs.fields
  obtain ⟨state', seen', -, -, gen', paused', cause'⟩ := ht.fields
  unfold RecordTaken at h ⊢
  simpa only [state, seen, cons, len, gen, paused, state', seen', gen', paused', cause'] using h

/-! ### A poll that reads the doorbell page (R274, R278) -/

/-- What a poll does with the record of ring i in its turn. -/
def pollStep (n : Nat) (r : PollRead) (f : Found) (i : Nat) : Found :=
  let st := f.state.ringState n i
  if st = qRUNNING ∨ st = qSTOPPED then
    let g := f.state.examine n i (r.records.getD i [])
    { fresh := f.fresh || g.fresh, torn := f.torn || g.torn, state := g.state }
  else f

theorem pollStep_examines {f : Found} {r : PollRead} (h : f.state.ringState n i ∈ [1, 3]) :
    (pollStep n r f i).state = (f.state.examine n i (r.records.getD i [])).state := by
  have c : f.state.ringState n i = qRUNNING ∨ f.state.ringState n i = qSTOPPED := by simpa [qRUNNING, qSTOPPED] using h
  rw [pollStep, if_pos c]

theorem pollStep_other (f : Found) (r : PollRead) (hn : n < 32) (hi : i < 8) (ne : j ≠ i) :
    RingStays n i f.state (pollStep n r f j).state := by
  intro o ho
  obtain ⟨records, stats, stopped, -⟩ := (ringWords_apart ho).resolve_right (not_not.2 ⟨hn, hi⟩)
  obtain ⟨status, gen, seen, -⟩ := ringWords_other ho ne
  unfold pollStep
  extract_lets st g
  split
  · exact sameWord_examine f.state n j _ records stats stopped status gen seen
  · exact .refl _ _

theorem pollWalk_other (r : PollRead) (hn : n < 32) (hi : i < 8) (l : List Nat) (hl : ∀ j ∈ l, j ≠ i) (f : Found) :
    RingStays n i f.state (l.foldl (pollStep n r) f).state := by
  induction l generalizing f with
  | nil => exact RingStays.refl n i f.state
  | cons j l ih =>
    exact (pollStep_other f r hn hi (hl j List.mem_cons_self)).trans (ih (fun k hk => hl k (List.mem_cons_of_mem _ hk)) _)

theorem pollWalk_ring (r : PollRead) (hn : n < 32) (hi : i < 8) (f : Found) (h : f.state.ringState n i ∈ [1, 3]) :
    RecordTaken f.state ((List.range 8).foldl (pollStep n r) f).state n i (r.records.getD i []) := by
  obtain ⟨l, m, cut, others⟩ := range8_cut hi
  rw [cut, List.foldl_append, List.foldl_cons]
  let g := l.foldl (pollStep n r) f
  have before : RingStays n i f.state g.state := pollWalk_other r hn hi l (fun j hj => (others j (List.mem_append_left _ hj)).2) f
  have after := pollWalk_other r hn hi m (fun j hj => (others j (List.mem_append_right _ hj)).2) (pollStep n r g i)
  have taken := recordTaken_examine g.state hn hi (r.records.getD i [])
  rw [← pollStep_examines (r := r) (by rw [before.fields.1]; exact h)] at taken
  exact recordTaken_congr taken before after

end Sys2Proof.Machine
end

section
/-! Polls, fetches and completions of the ring engine (05, R234; 06, R274 to R288, R304, R311 to R316). -/

namespace Sys2Proof.Machine

variable {s t u : State} {n i j off : Nat}

/-! ### A host read that fails (R234, R235) -/

theorem sameWord_integLog (s : State) (e : IntegError) (h : off < 0xa00000) : SameWord off s (s.integLog e) := by
  unfold State.integLog
  extract_lets k r w0
  refine (((((SameWord.refl _ s).setWord _ _ ?_).setWord _ _ ?_).setWord _ _ ?_).setWord _ _ ?_).setFld F.INT_INTEG_TOTAL_TOTAL _ ?_
  all_goals simp only [R.INT_INTEG_LOG_W0, R.INT_INTEG_LOG_W1, R.INT_INTEG_LOG_W2, R.INT_INTEG_LOG_W3, F.INT_INTEG_TOTAL_TOTAL,
    R.INT_INTEG_TOTAL]; omega

theorem integLog_regs (s : State) (e : IntegError) : ∃ r, s.integLog e = { s with regs := r } := ⟨_, rfl⟩

theorem sendMsix_vfs (s : State) (i v : Nat) : (s.sendMsix i v).vfs = s.vfs := by simp

theorem sameWord_integEvent (s : State) (c : Fld) (region : Option Nat) (h : off ≠ c.off) : SameWord off s (s.integEvent c region) := by
  unfold State.integEvent
  extract_lets a
  have ha : SameWord off s a := (SameWord.refl _ s).setFld c 1 h
  split
  · exact ha.sendVf _ 3
  · exact ha

theorem integEvent_vfs (s : State) (c : Fld) (region : Option Nat) : (s.integEvent c region).vfs = s.vfs := by
  unfold State.integEvent
  split
  · exact sendMsix_vfs _ _ _
  · rfl

theorem sameWord_poisonIn (s : State) (k v : Nat) (region : Option Nat) (h : off < 0xa00000) :
    SameWord off s (s.poisonIn k v region) :=
  (sameWord_integLog s _ h).trans (sameWord_integEvent _ _ _ (by simp only [F.INT_INTEG_STATUS_POISON_IN, R.INT_INTEG_STATUS]; omega))

theorem poisonIn_vfs (s : State) (k v : Nat) (region : Option Nat) : (s.poisonIn k v region).vfs = s.vfs :=
  (integEvent_vfs _ _ _).trans rfl

/-- What a host read that fails leaves beside HOST_ERR. -/
theorem readEnded_spec (s : State) (n : Nat) (e : FetchEnd) :
    (s.readEnded n e).vfs = s.vfs ∧ ∀ off, off < 0xa00000 → off ≠ R.HOST_ERR → SameWord off s (s.readEnded n e) := by
  cases e with
  | good => exact ⟨rfl, fun o _ _ => .refl o s⟩
  | error e => cases e <;> exact ⟨rfl, fun o _ h => (SameWord.refl o s).setFld _ 1 h⟩
  | timeout => exact ⟨rfl, fun o _ h => (SameWord.refl o s).setFld _ 1 h⟩
  | poisoned => exact ⟨poisonIn_vfs _ _ _ _, fun o ho h => ((SameWord.refl o s).setFld F.HOST_ERR_POISON_IN 1 h).trans
      (sameWord_poisonIn _ _ _ _ ho)⟩

theorem hostPoison_bit (s : State) (n : Nat) : (s.hostPoison n).fld F.HOST_ERR_POISON_IN = 1 :=
  ((sameWord_poisonIn _ _ _ _ (show R.HOST_ERR < 0xa00000 by decide)).fld F.HOST_ERR_POISON_IN rfl).trans
    (State.fld_setFld_same s F.HOST_ERR_POISON_IN 1 (by decide))

/-- The failures that a bit of HOST_ERR alone tells of. -/
abbrev readFailures : List (FetchEnd × Fld) :=
  [(.timeout, F.HOST_ERR_DMA_TIMEOUT), (.error .ur, F.HOST_ERR_DMA_UR), (.error .ca, F.HOST_ERR_DMA_CA)]

theorem readEnded_failure (s : State) (n : Nat) {e : FetchEnd} {f : Fld} (h : (e, f) ∈ readFailures) :
    s.readEnded n e = s.setFld f 1 ∧ f.off = R.HOST_ERR ∧ f.lo + f.width ≤ 32 ∧ f.width = 1 := by
  simp only [readFailures, List.mem_cons, Prod.mk.injEq, List.not_mem_nil, or_false] at h
  obtain ⟨rfl, rfl⟩ | ⟨rfl, rfl⟩ | ⟨rfl, rfl⟩ := h <;> exact ⟨rfl, rfl, by decide, rfl⟩

/-! ### Polls (R274, R278, R282) -/

/-- Ring Watch has read VF n's doorbell page. -/
abbrev pageRead (s : State) (n : Nat) : State := s.hostReadOut (n + 1) (s.dbBase n) 144

theorem exec_ringWatchPoll {n : Fin 32} {r : PollRead} (hp : s.polls n = true) (h2 : s.fld F.PWR_STATE_STATE ≠ 2) :
    exec (.ringWatchPoll n r) s = done (s.poll n r).2 := if_pos (by simp [hp, h2])

theorem poll_failed {r : PollRead} (h : r.result ≠ .good) :
    ∃ v, (s.poll n r).2 = ((pageRead s n).readEnded n r.result).modVf n fun x => { x with interval := v, hintPending := false } := by
  refine ⟨(pageRead s n).nextInterval n false false, ?_⟩
  rw [State.poll, if_pos h]

theorem answers_failedPoll (n : Fin 32) (r : PollRead) (hp : s.polls n = true) (h2 : s.fld F.PWR_STATE_STATE ≠ 2) (h : r.result ≠ .good) :
    Answers (.ringWatchPoll n r) s fun t =>
      (t.vf n).hintPending = false ∧ (t.vf n).rings = (s.vf n).rings ∧
        (r.result = .poisoned → t.fld F.HOST_ERR_POISON_IN = 1) ∧
        ∀ f, (r.result, f) ∈ [(FetchEnd.timeout, F.HOST_ERR_DMA_TIMEOUT), (.error .ur, F.HOST_ERR_DMA_UR),
            (.error .ca, F.HOST_ERR_DMA_CA)] →
          t.fld f = 1 ∧ Frame s t [R.HOST_ERR] [.vfs] ∧ Sent s t (s.readTlps (n + 1) (s.dbBase n) 144) := by
  obtain ⟨v, e⟩ := poll_failed (s := s) (n := n) h
  have exe := exec_ringWatchPoll (r := r) hp h2
  rw [e] at exe
  have vfs := (readEnded_spec (pageRead s n) n r.result).1
  refine answers_of_done exe ⟨?_, ?_, fun hr => ?_, fun f hf => ?_⟩
  · rw [State.refreshPf_vf, State.vf_modVf_same]
  · rw [State.refreshPf_vf, State.vf_modVf_same]
    exact (SameRings.of_vfs vfs : _ = _)
  · rw [State.refreshPf_fld _ _ (by decide), hr]
    exact hostPoison_bit (pageRead s n) n
  · obtain ⟨ends, ho, hw, h1⟩ := readEnded_failure (pageRead s n) n hf
    rw [ends]
    refine ⟨?_, ?_, ?_⟩
    · rw [State.refreshPf_fld _ _ (by rw [ho]; decide)]
      exact (State.fld_setFld_same _ f 1 hw).trans (by rw [h1]; rfl)
    · have read : Frame s (pageRead s n) [R.HOST_ERR] [.vfs] := frame_of_regs rfl (fun p _ => by cases p <;> rfl) _
      exact ((read.setFld f 1 (by rw [ho]; simp)).trans (frame_modVf _ _ _ (by simp))).pf
    · exact Sent.pf ⟨[], by simp [State.modVf, State.setFld, State.setWord, State.hostReadOut], by simp⟩

theorem sameWord_examineCq (s : State) (n : Nat) (r : List Word) (h1 : off ≠ R.RING_POLL_STATS n) (h2 : off ≠ R.RING_VF_STATUS n) :
    SameWord off s (s.examineCq n r).state := by
  have cqErr (u : State) (v : Nat) (k : SameWord off s u) : SameWord off s (u.setFld (F.RING_VF_STATUS_CQ_ERR n) v) := k.setFld _ _ h2
  unfold State.examineCq
  extract_lets c a
  have ha : SameWord off s a := .of_regs rfl
  split
  · exact (SameWord.refl _ s).setFld (F.RING_POLL_STATS_TORN_COUNT n) _ h1
  · split
    · show SameWord off s (if s.on (F.RING_VF_STATUS_CQ_ERR n) then s else (s.raise (F.RING_VF_STATUS_CQ_ERR n)).noteStatus n 8)
      split
      · exact .refl _ s
      · exact (cqErr s 1 (.refl _ s)).noteStatus n 8
    · show SameWord off s (if s.on (F.RING_VF_STATUS_CQ_ERR n) then (a.lower (F.RING_VF_STATUS_CQ_ERR n)).noteStatus n 8 else a)
      split
      · exact (cqErr a 0 ha).noteStatus n 8
      · exact ha

/-- What a poll does with the completion ring's record, after the rings'. -/
def pollCq (n : Nat) (r : PollRead) (f : Found) : Found :=
  if f.state.on (F.RING_ENABLE_CQ n) then
    let g := f.state.examineCq n r.cq
    { fresh := f.fresh || g.fresh, torn := f.torn || g.torn, state := g.state }
  else f

theorem poll_read {r : PollRead} (h : r.result = .good) :
    (s.poll n r).2 =
      (let f := pollCq n r ((List.range 8).foldl (pollStep n r) { state := pageRead s n })
       f.state.modVf n fun v =>
         { v with interval := f.state.nextInterval n f.fresh f.torn, tornLast := f.torn, hintPending := false }) := by
  rw [State.poll, if_neg (not_not.2 h)]
  rfl

theorem sameWord_pollCq (f : Found) (n : Nat) (r : PollRead) (h1 : off ≠ R.RING_POLL_STATS n) (h2 : off ≠ R.RING_VF_STATUS n) :
    SameWord off f.state (pollCq n r f).state := by
  unfold pollCq
  split
  · exact sameWord_examineCq f.state n r.cq h1 h2
  · exact .refl _ _

theorem answers_goodPoll (n : Fin 32) (r : PollRead) (hp : s.polls n = true) (h2 : s.fld F.PWR_STATE_STATE ≠ 2) (h : r.result = .good) :
    Answers (.ringWatchPoll n r) s fun t =>
      (t.vf n).hintPending = false ∧ ∀ i, i < 8 → s.ringState n i ∈ [1, 3] → RecordTaken s t n i (r.records.getD i []) := by
  have exe := exec_ringWatchPoll (r := r) hp h2
  rw [poll_read h] at exe
  refine answers_of_done exe ⟨?_, fun i hi hs => ?_⟩
  · rw [State.refreshPf_vf, State.vf_modVf_same]
  · have taken := pollWalk_ring r n.isLt hi { state := pageRead s n } hs
    refine recordTaken_congr taken (.of_regs rfl) fun o ho => ?_
    obtain ⟨records, stats, -, pf⟩ := (ringWords_apart ho).resolve_right (not_not.2 ⟨n.isLt, hi⟩)
    have status : o ≠ R.RING_VF_STATUS n := fun e => records (by simp [e])
    exact SameWord.pf (SameWord.modVf (sameWord_pollCq _ n r stats status) n _) pf

/-! ### The registers from the RGN blocks on -/

/-- Every register from the RGN blocks on reads what it read. -/
def Upper (s t : State) : Prop := ∀ f : Fld, 0x100000 ≤ f.off → t.fld f = s.fld f

theorem Upper.refl (s : State) : Upper s s := fun _ _ => rfl

theorem Upper.trans (h : Upper s t) (k : Upper t u) : Upper s u := fun f hf => (k f hf).trans (h f hf)

theorem Upper.of_regs (h : t.regs = s.regs) : Upper s t := fun f _ => (SameWord.of_regs h).fld f rfl

theorem Upper.of_words (h : ∀ off, 0x100000 ≤ off → SameWord off s t) : Upper s t := fun f hf => (h f.off hf).fld f rfl

theorem Upper.inRect (h : Upper s t) (n x : Nat) : t.inRect n x = s.inRect n x := by
  have off : 0x100000 ≤ R.RGN_RECT n := by simp only [R.RGN_RECT]; omega
  simp only [State.inRect, h (F.RGN_RECT_X0 n) off, h (F.RGN_RECT_X1 n) off, h (F.RGN_RECT_EXTENT n) off]

theorem Upper.slicesOf (h : Upper s t) (n : Nat) : t.slicesOf n = s.slicesOf n := by simp only [State.slicesOf, h.inRect]

theorem Upper.split (h : Upper s t) (n : Nat) : t.split n = s.split n := by
  simp only [State.split, State.on, h (F.RGN_MEM_CFG_EXT_MODE n) (by simp only [F.RGN_MEM_CFG_EXT_MODE, R.RGN_MEM_CFG]; omega)]

theorem Upper.chanList (h : Upper s t) (n off : Nat) : t.chanList n off = s.chanList n off := by
  simp only [State.chanList, h.inRect, h.split]

theorem Upper.extHolds (h : Upper s t) (n off last : Nat) : t.extHolds n off last = s.extHolds n off last := by
  simp only [State.extHolds, State.extBelongs, h.chanList, h.split]

theorem Upper.portsOf (h : Upper s t) (n : Nat) : t.portsOf n = s.portsOf n := by
  have off (p : Nat) : 0x100000 ≤ R.HL_ASSIGN p := by simp only [R.HL_ASSIGN]; omega
  simp only [State.portsOf, State.on, h (F.HL_ASSIGN_VALID _) (off _), h (F.HL_ASSIGN_REGION _) (off _)]

theorem Upper.window (h : Upper s t) (n w : Nat) :
    t.on (F.WIN_CTRL_VALID n w) = s.on (F.WIN_CTRL_VALID n w) ∧ t.winBase n w = s.winBase n w ∧ t.winSize n w = s.winSize n w := by
  have ctrl : 0x100000 ≤ R.WIN_CTRL n w := by simp only [R.WIN_CTRL]; omega
  have baseLo : 0x100000 ≤ R.WIN_BASE_LO n w := by simp only [R.WIN_BASE_LO]; omega
  have baseHi : 0x100000 ≤ R.WIN_BASE_HI n w := by simp only [R.WIN_BASE_HI]; omega
  have sizeLo : 0x100000 ≤ R.WIN_SIZE_LO n w := by simp only [R.WIN_SIZE_LO]; omega
  have sizeHi : 0x100000 ≤ R.WIN_SIZE_HI n w := by simp only [R.WIN_SIZE_HI]; omega
  simp only [State.on, State.winBase, State.winSize, h (F.WIN_CTRL_VALID n w) ctrl, h (F.WIN_BASE_LO_BASE_LO n w) baseLo,
    h (F.WIN_BASE_HI_BASE_HI n w) baseHi, h (F.WIN_SIZE_LO_SIZE_LO n w) sizeLo, h (F.WIN_SIZE_HI_SIZE_HI n w) sizeHi, true_and]

theorem Upper.windowAt (h : Upper s t) (n a : Nat) : t.windowAt n a = s.windowAt n a := by
  simp only [State.windowAt, State.windowOf, (h.window n _).1, (h.window n _).2.1, (h.window n _).2.2]

theorem Upper.rangeExc (h : Upper s t) (n : Nat) (l : List (Nat × Nat)) : t.rangeExc n l = s.rangeExc n l := by
  cases l with
  | nil => rfl
  | cons a l => simp only [State.rangeExc, h.windowAt, h.extHolds, h.portsOf]

theorem Upper.checkDesc (h : Upper s t) (n : Nat) (d : Desc) : t.checkDesc n d = s.checkDesc n d := by
  have e : t.rangesBad n d = s.rangesBad n d := by simp only [State.rangesBad, State.badRange, h.rangeExc]
  simp only [State.checkDesc, e]

/-! ### Fetches (R286, R288) -/

theorem groups16_eq (k : Nat) (l : List Word) : groups16 k l = (List.range k).map fun j => (l.drop (16 * j)).take 16 := by
  induction k generalizing l with
  | zero => rfl
  | succ k ih =>
    rw [groups16, ih, List.range_succ_eq_map, List.map_cons, List.map_map]
    refine congrArg₂ _ (by simp) (List.map_congr_left fun j _ => ?_)
    simp only [Function.comp_apply, List.drop_drop]
    congr 2
    omega

theorem modRing_rings (s : State) (n i : Nat) (f : Ring → Ring) :
    ((s.modRing n i f).vf n).rings = (s.vf n).rings.zipIdx.map fun e => if e.2 == i then f e.1 else e.1 := by
  rw [State.modRing, State.vf_modVf_same]

theorem modRing_length (s : State) (n i : Nat) (f : Ring → Ring) : ((s.modRing n i f).vf n).rings.length = (s.vf n).rings.length := by
  rw [modRing_rings, List.length_map, List.length_zipIdx]

theorem modRing_same (s : State) (n : Nat) (f : Ring → Ring) (h : i < (s.vf n).rings.length) :
    (s.modRing n i f).ring n i = f (s.ring n i) := by
  simp [State.ring, modRing_rings, List.getD_eq_getElem?_getD, h]

/-- The descriptors of the groups, from index c and fetch m on. -/
def descsFrom : Nat → Nat → List (List Word) → List Desc
  | _, _, [] => []
  | c, m, ws :: gs => { index := BitVec.ofNat 32 c, words := ws, fetchedAs := m } :: descsFrom (c + 1) (m + 1) gs

theorem descsFrom_congr {c c' : Nat} (h : c % 2 ^ 32 = c' % 2 ^ 32) (m : Nat) (gs : List (List Word)) :
    descsFrom c m gs = descsFrom c' m gs := by
  induction gs generalizing c c' m with
  | nil => rfl
  | cons ws gs ih =>
    have e : BitVec.ofNat 32 c = BitVec.ofNat 32 c' := BitVec.eq_of_toNat_eq (by simpa using h)
    rw [descsFrom, descsFrom, e, ih (c := c + 1) (c' := c' + 1) (by omega)]

theorem descsFrom_map (c m k : Nat) (f : Nat → List Word) :
    descsFrom c m ((List.range k).map f) =
      (List.range k).map fun j => { index := BitVec.ofNat 32 (c + j), words := f j, fetchedAs := m + j } := by
  induction k generalizing c m f with
  | zero => rfl
  | succ k ih =>
    rw [List.range_succ_eq_map, List.map_cons, List.map_map, descsFrom, ih, List.map_cons, List.map_map]
    refine congrArg₂ _ rfl (List.map_congr_left fun j _ => ?_)
    simp only [Function.comp_apply, Nat.add_assoc, Nat.add_comm 1]

/-- What the descriptors of the groups `gs` leave as they arrive, each having passed its checks. -/
structure Arrived (n i : Nat) (gs : List (List Word)) (s t : State) : Prop where
  consumed : t.consumed n i = (s.consumed n i + gs.length) % 2 ^ 32
  descs : (t.ring n i).descs = (s.ring n i).descs ++ descsFrom (s.consumed n i) s.nextId gs
  nextId : t.nextId = s.nextId + gs.length
  length : (t.vf n).rings.length = (s.vf n).rings.length
  frame : Frame s t [R.RING_CONSUMED n i] [.vfs]

/-- One descriptor that passes its checks arrives. -/
def arriveOne (s : State) (n i : Nat) (ws : List Word) : State :=
  (s.newId.2.modRing n i fun r =>
    { r with descs := r.descs ++ [{ index := BitVec.ofNat 32 (s.consumed n i), words := ws, fetchedAs := s.nextId }] }).countMod
      (F.RING_CONSUMED_CONSUMED n i)

theorem arriveDescs_cons {ws : List Word} {rest : List (List Word)}
    (h : s.checkDesc n { index := BitVec.ofNat 32 (s.consumed n i), words := ws } = 0) :
    State.arriveDescs (ws :: rest) n i s = State.arriveDescs rest n i (arriveOne s n i ws) := by
  rw [State.arriveDescs, h]
  exact if_pos rfl

theorem Upper.setFld (h : Upper s t) (f : Fld) (v : Nat) (hf : f.off < 0x100000) : Upper s (t.setFld f v) := fun g hg =>
  (State.fld_setFld_off t f g v (by omega)).trans (h g hg)

theorem ring_of_vfs (h : t.vfs = s.vfs) (n i : Nat) : t.ring n i = s.ring n i := by rw [State.ring, State.ring, State.vf, State.vf, h]

theorem upper_arriveOne (s : State) (hn : n < 32) (hi : i < 8) (ws : List Word) : Upper s (arriveOne s n i ws) :=
  Upper.setFld (Upper.of_regs rfl) (F.RING_CONSUMED_CONSUMED n i) _ (by simp only [F.RING_CONSUMED_CONSUMED, R.RING_CONSUMED]; omega)

theorem arrived_one (s : State) (n : Nat) (hi : i < (s.vf n).rings.length) (ws : List Word) : Arrived n i [ws] s (arriveOne s n i ws) := by
  let a := s.newId.2
  let b := a.modRing n i fun r =>
    { r with descs := r.descs ++ [{ index := BitVec.ofNat 32 (s.consumed n i), words := ws, fetchedAs := s.nextId }] }
  have hb : b.consumed n i = s.consumed n i := rfl
  refine ⟨?_, ?_, rfl, ?_, ?_⟩
  · refine (State.fld_setFld_same b (F.RING_CONSUMED_CONSUMED n i) (b.consumed n i + 1) (show 0 + 32 ≤ 32 by decide)).trans ?_
    rw [hb]
    rfl
  · have e : (arriveOne s n i ws).ring n i = b.ring n i := ring_of_vfs rfl n i
    rw [e, modRing_same a n _ hi]
    rfl
  · have e : ((arriveOne s n i ws).vf n).rings.length = (b.vf n).rings.length := rfl
    exact e.trans (modRing_length a n i _)
  · have hr : Frame s b [R.RING_CONSUMED n i] [.vfs] :=
      (frame_of_regs (s := s) (t := a) rfl (fun p _ => by cases p <;> rfl) _).trans (frame_modVf a n _ (by simp))
    exact hr.setFld (F.RING_CONSUMED_CONSUMED n i) _ (by simp [F.RING_CONSUMED_CONSUMED])

theorem Arrived.cons {ws : List Word} {gs : List (List Word)} (h : Arrived n i [ws] s t) (k : Arrived n i gs t u) :
    Arrived n i (ws :: gs) s u := by
  have c : t.consumed n i = (s.consumed n i + 1) % 2 ^ 32 := h.consumed
  have m : t.nextId = s.nextId + 1 := h.nextId
  refine ⟨?_, ?_, ?_, k.length.trans h.length, h.frame.trans k.frame⟩
  · rw [k.consumed, c, List.length_cons]; omega
  · rw [k.descs, h.descs, List.append_assoc, m, descsFrom_congr (c := t.consumed n i) (c' := s.consumed n i + 1) (by rw [c]; omega)]
    rfl
  · rw [k.nextId, m, List.length_cons]; omega

/-- Descriptors that pass their checks arrive, and then the others. -/
theorem arriveDescs_pass (gs rest : List (List Word)) (s : State) (hn : n < 32) (hi : i < 8) (hl : (s.vf n).rings.length = 8)
    (h : ∀ d ∈ descsFrom (s.consumed n i) s.nextId gs, s.checkDesc n d = 0) :
    ∃ t, State.arriveDescs (gs ++ rest) n i s = State.arriveDescs rest n i t ∧ Arrived n i gs s t ∧ Upper s t := by
  induction gs generalizing s with
  | nil =>
    have lt : s.consumed n i < 2 ^ 32 := State.fld_lt s (F.RING_CONSUMED_CONSUMED n i)
    exact ⟨s, rfl, ⟨(Nat.mod_eq_of_lt lt).symm, (List.append_nil _).symm, rfl, rfl, .refl ..⟩, .refl s⟩
  | cons ws gs ih =>
    have one := arrived_one (i := i) s n (by omega) ws
    have up := upper_arriveOne s hn hi ws
    have c : (arriveOne s n i ws).consumed n i = (s.consumed n i + 1) % 2 ^ 32 := one.consumed
    obtain ⟨t, run, arrived, high⟩ := ih (arriveOne s n i ws) (one.length.trans hl) fun d hd => by
      rw [descsFrom_congr (c' := s.consumed n i + 1) (by rw [c]; omega)] at hd
      rw [up.checkDesc]
      exact h d (List.mem_cons_of_mem _ hd)
    have first : s.checkDesc n { index := BitVec.ofNat 32 (s.consumed n i), words := ws, fetchedAs := s.nextId } = 0 :=
      h _ List.mem_cons_self
    refine ⟨t, ?_, one.cons arrived, up.trans high⟩
    rw [List.cons_append, arriveDescs_cons first, run]

/-- The words of a fetch, in the slots from CONSUMED on. -/
abbrev fetchedGroups (ws : List Word) : List (List Word) := groups16 (ws.length / 16) ws

theorem descsFrom_fetched (s : State) (n i k : Nat) (ws : List Word) :
    descsFrom (s.consumed n i) s.nextId ((List.range k).map fun j => (ws.drop (16 * j)).take 16) =
      (List.range k).map fun j => fetched s n i j ws := descsFrom_map ..

theorem frame_hostReadOut (s : State) (i addr len : Nat) (r : List Nat) (p : List Part) : Frame s (s.hostReadOut i addr len) r p :=
  frame_of_regs rfl (fun p _ => by cases p <;> rfl) r

/-- What a host read leaves beside the messages sent. -/
def OnlySent (s t : State) : Prop := Frame s t [] [] ∧ t.nextId = s.nextId ∧ t.regs = s.regs ∧ t.vfs = s.vfs

theorem onlySent_hostReadOut (s : State) (i addr len : Nat) : OnlySent s (s.hostReadOut i addr len) :=
  ⟨frame_hostReadOut s i addr len [] [], rfl, rfl, rfl⟩

theorem OnlySent.trans (h : OnlySent s t) (k : OnlySent t u) : OnlySent s u := by
  obtain ⟨fr, ids, regs, vfs⟩ := h
  obtain ⟨fr', ids', regs', vfs'⟩ := k
  exact ⟨fr.trans fr', ids'.trans ids, regs'.trans regs, vfs'.trans vfs⟩

/-- The slots have been read. -/
theorem readSlots_spec (s : State) (n i c k : Nat) : OnlySent s (s.readSlots n i c k) := by
  unfold State.readSlots State.when
  extract_lets left a
  split
  · exact (onlySent_hostReadOut ..).trans (onlySent_hostReadOut ..)
  · exact onlySent_hostReadOut ..

theorem exec_fetch {n : Fin 32} {i : Fin 8} {ws : List Word} (h : Fetches s n i) (hk : 1 ≤ ws.length / 16)
    (room : ws.length / 16 ≤ s.fetchRoom n i) :
    exec (.descriptorFetch n i .good ws) s =
      done ((State.arriveDescs (fetchedGroups ws) n i (s.readSlots n i (s.consumed n i) (ws.length / 16))).noteStatus n i) := by
  obtain ⟨region, running, may, engine, -⟩ := h
  have up : (s.rgnState n == rREADY || s.rgnState n == rRUNNING || s.rgnState n == rFAULTED) = true := by
    simpa [or_assoc] using region
  have go : exec (.descriptorFetch n i .good ws) s = execDescriptorFetch n i .good ws s := rfl
  rw [go]
  unfold execDescriptorFetch
  extract_lets n' i' k st
  have c : (s.ringState n' i' == qRUNNING && (st == rREADY || st == rRUNNING || st == rFAULTED) && s.mayRequest (n' + 1) &&
      s.engineRuns) = true := by
    rw [show (st == rREADY || st == rRUNNING || st == rFAULTED) = true from up, show s.ringState n' i' = qRUNNING from running,
      show s.mayRequest (n' + 1) = true from may, engine]
    rfl
  rw [c, if_neg (by decide), if_neg (by decide), if_neg (by simp only [k, n', i']; omega)]

theorem rejectDesc_spec (s : State) (hn : n < 32) (hi : i < 8) (code : Nat) (d : Desc) (hc : code < 256) :
    (s.rejectDesc n i code d).consumed n i = (s.consumed n i + 1) % 2 ^ 32 ∧ (s.rejectDesc n i code d).ringState n i = 3 ∧
      (s.rejectDesc n i code d).fld (F.RING_STATUS_STOP_CAUSE n i) = code ∧
      ((s.rejectDesc n i code d).ring n i).descs = (s.ring n i).descs := by
  unfold State.rejectDesc
  extract_lets a
  let b := s.countMod (F.RING_CONSUMED_CONSUMED n i)
  obtain ⟨state, cause, -⟩ := stopRing_spec b n i code hc
  have enter : RingStays n i a (a.enterRecord n (s.descRecord i { d with status := stFORMAT_ERROR, code := code })) := fun o ho =>
    sameWord_enterRecord _ n _ ((ringWords_apart ho).resolve_right (not_not.2 ⟨hn, hi⟩)).1
  obtain ⟨state', -, consumed', -, -, -, cause'⟩ := enter.fields
  refine ⟨consumed'.trans ?_, state'.trans state, cause'.trans cause, ?_⟩
  · have stop : SameWord (R.RING_CONSUMED n i) b a := sameWord_stopRing b n i code
      ⟨by simp only [R.RING_CONSUMED, R.RING_STATUS]; omega, by simp only [R.RING_CONSUMED, R.RWE_STOPPED]; omega⟩
    exact (stop.fld (F.RING_CONSUMED_CONSUMED n i) rfl).trans (State.fld_setFld_same s (F.RING_CONSUMED_CONSUMED n i) _
      (show 0 + 32 ≤ 32 by decide))
  · have rings : SameRings n s b := .of_vfs rfl
    rw [((rings.trans (sameRings_stopRing b n i code)).trans (sameRings_enterRecord a n _)).ring i]

theorem checkDesc_lt (s : State) (n : Nat) (d : Desc) : s.checkDesc n d < 256 := by
  unfold State.checkDesc
  repeat' split
  all_goals decide

theorem refreshPf_ring_eq (s : State) (n i : Nat) : s.refreshPf.ring n i = s.ring n i := ring_of_vfs (by simp) n i

/-- The fields of a ring after a fetch, once INT_PF_STATUS is in line. -/
theorem fetchEnd_fields (s : State) (hn : n < 32) (hi : i < 8) :
    (s.noteStatus n i).refreshPf.consumed n i = s.consumed n i ∧ (s.noteStatus n i).refreshPf.ringState n i = s.ringState n i ∧
      (s.noteStatus n i).refreshPf.fld (F.RING_STATUS_STOP_CAUSE n i) = s.fld (F.RING_STATUS_STOP_CAUSE n i) ∧
      ((s.noteStatus n i).refreshPf.ring n i).descs = (s.ring n i).descs := by
  have stays : RingStays n i s (s.noteStatus n i).refreshPf := fun o ho =>
    (noteStatus_word s n i o).pf ((ringWords_apart ho).resolve_right (not_not.2 ⟨hn, hi⟩)).2.2.2
  obtain ⟨state, -, consumed, -, -, -, cause⟩ := stays.fields
  exact ⟨consumed, state, cause, by rw [refreshPf_ring_eq, (sameRings_noteStatus s n i).ring]⟩

theorem answers_fetch (n : Fin 32) (i : Fin 8) (ws : List Word) (h : Fetches s n i) (hk : 1 ≤ ws.length / 16)
    (room : ws.length / 16 ≤ s.fetchRoom n i) (pass : ∀ j, j < ws.length / 16 → s.checkDesc n (fetched s n i j ws) = 0) :
    Answers (.descriptorFetch n i .good ws) s fun t =>
      t.consumed n i = (s.consumed n i + ws.length / 16) % 2 ^ 32 ∧
        (t.ring n i).descs = (s.ring n i).descs ++ (List.range (ws.length / 16)).map (fun j => fetched s n i j ws) ∧
        Frame s t [R.RING_CONSUMED n i] [.vfs] := by
  obtain ⟨read, ids, regs, vfs⟩ := readSlots_spec s n i (s.consumed n i) (ws.length / 16)
  have exe := exec_fetch h hk room
  let a := s.readSlots n i (s.consumed n i) (ws.length / 16)
  have c : a.consumed n i = s.consumed n i := (SameWord.of_regs regs).fld (F.RING_CONSUMED_CONSUMED n i) rfl
  have hl : (a.vf n).rings.length = 8 := by rw [State.vf, vfs]; exact h.2.2.2.2
  obtain ⟨t, run, arrived, -⟩ := arriveDescs_pass (fetchedGroups ws) [] a n.isLt i.isLt hl fun d hd => by
    rw [c, ids, fetchedGroups, groups16_eq, descsFrom_fetched] at hd
    obtain ⟨j, hj, rfl⟩ := List.mem_map.1 hd
    rw [(Upper.of_regs regs).checkDesc]
    exact pass j (List.mem_range.1 hj)
  rw [List.append_nil, State.arriveDescs] at run
  rw [run] at exe
  obtain ⟨consumed, state, -, descs⟩ := fetchEnd_fields t n.isLt i.isLt
  refine answers_of_done exe ⟨?_, ?_, ?_⟩
  · rw [consumed, arrived.consumed, c, fetchedGroups, groups16_eq, List.length_map, List.length_range]
  · rw [descs, arrived.descs, ring_of_vfs vfs, c, ids, fetchedGroups, groups16_eq, descsFrom_fetched]
  · exact (((read.mono (by simp) (by simp)).trans arrived.frame).trans (noteStatus_frame t n i _)).pf

theorem answers_rejectingFetch (n : Fin 32) (i : Fin 8) (ws : List Word) (h : Fetches s n i) (hk : 1 ≤ ws.length / 16)
    (room : ws.length / 16 ≤ s.fetchRoom n i) (k : Nat) (lt : k < ws.length / 16)
    (pass : ∀ j, j < k → s.checkDesc n (fetched s n i j ws) = 0) (bad : s.checkDesc n (fetched s n i k ws) ≠ 0) :
    Answers (.descriptorFetch n i .good ws) s fun t =>
      t.consumed n i = (s.consumed n i + k + 1) % 2 ^ 32 ∧ t.ringState n i = 3 ∧
        t.fld (F.RING_STATUS_STOP_CAUSE n i) = s.checkDesc n (fetched s n i k ws) ∧
        (t.ring n i).descs = (s.ring n i).descs ++ (List.range k).map fun j => fetched s n i j ws := by
  obtain ⟨read, ids, regs, vfs⟩ := readSlots_spec s n i (s.consumed n i) (ws.length / 16)
  have exe := exec_fetch h hk room
  let a := s.readSlots n i (s.consumed n i) (ws.length / 16)
  let group (j : Nat) : List Word := (ws.drop (16 * j)).take 16
  have c : a.consumed n i = s.consumed n i := (SameWord.of_regs regs).fld (F.RING_CONSUMED_CONSUMED n i) rfl
  have hl : (a.vf n).rings.length = 8 := by rw [State.vf, vfs]; exact h.2.2.2.2
  have cut : ∃ rest, fetchedGroups ws = (List.range k).map group ++ group k :: rest := by
    refine ⟨(List.range (ws.length / 16 - (k + 1))).map fun j => group (k + 1 + j), ?_⟩
    rw [fetchedGroups, groups16_eq, show ws.length / 16 = k + 1 + (ws.length / 16 - (k + 1)) by omega, List.range_add, List.map_append,
      List.range_succ, List.map_append, List.append_assoc, List.map_map]
    simp only [Nat.add_sub_cancel_left]
    rfl
  obtain ⟨rest, cut⟩ := cut
  obtain ⟨t, run, arrived, high⟩ := arriveDescs_pass ((List.range k).map group) (group k :: rest) a n.isLt i.isLt hl fun d hd => by
    rw [c, ids, descsFrom_fetched] at hd
    obtain ⟨j, hj, rfl⟩ := List.mem_map.1 hd
    rw [(Upper.of_regs regs).checkDesc]
    exact pass j (List.mem_range.1 hj)
  have tc : t.consumed n i = (s.consumed n i + k) % 2 ^ 32 := by
    rw [arrived.consumed, c, List.length_map, List.length_range]
  let d : Desc := { index := BitVec.ofNat 32 (t.consumed n i), words := group k }
  have code : t.checkDesc n d = s.checkDesc n (fetched s n i k ws) := by
    have index : BitVec.ofNat 32 (t.consumed n i) = BitVec.ofNat 32 (s.consumed n i + k) := by
      rw [tc]; exact BitVec.eq_of_toNat_eq (by simp)
    rw [high.checkDesc, (Upper.of_regs regs).checkDesc]
    simp only [d, index]
    rfl
  have stop : State.arriveDescs (group k :: rest) n i t = t.rejectDesc n i (t.checkDesc n d) d := by
    rw [State.arriveDescs]
    exact if_neg (by rw [code]; exact bad)
  rw [cut, run, stop, code] at exe
  obtain ⟨consumed, state, cause, descs⟩ := fetchEnd_fields (t.rejectDesc n i (s.checkDesc n (fetched s n i k ws)) d) n.isLt i.isLt
  obtain ⟨consumed', state', cause', descs'⟩ := rejectDesc_spec t n.isLt i.isLt _ d (checkDesc_lt s n (fetched s n i k ws))
  refine answers_of_done exe ⟨?_, state.trans state', cause.trans cause', ?_⟩
  · rw [consumed, consumed', tc]; omega
  · rw [descs, descs', arrived.descs, ring_of_vfs vfs, c, ids, descsFrom_fetched]

/-! ### A fetch that fails (R286, R234) -/

/-- What stands in the place of a descriptor that could not be read: its words are free values. -/
def unread (s : State) (n i : Nat) (v : Word64) : Desc :=
  { index := BitVec.ofNat 32 (s.consumed n i), words := [v.setWidth 32, (v >>> 32).setWidth 32] }

theorem exec_failedFetch {n : Fin 32} {i : Fin 8} {r : FetchEnd} {ws : List Word} (h : Fetches s n i) (room : 1 ≤ s.fetchRoom n i)
    (hr : r ≠ .good) :
    exec (.descriptorFetch n i r ws) s =
      done (((s.readSlots n i (s.consumed n i) 1).draw.2.readEnded n r).rejectDesc n i 1
        (unread s n i (s.readSlots n i (s.consumed n i) 1).draw.1)) := by
  obtain ⟨region, running, may, engine, -⟩ := h
  have up : (s.rgnState n == rREADY || s.rgnState n == rRUNNING || s.rgnState n == rFAULTED) = true := by
    simpa [or_assoc] using region
  have go : exec (.descriptorFetch n i r ws) s = execDescriptorFetch n i r ws s := rfl
  rw [go]
  unfold execDescriptorFetch
  extract_lets n' i' k st
  have c : (s.ringState n' i' == qRUNNING && (st == rREADY || st == rRUNNING || st == rFAULTED) && s.mayRequest (n' + 1) &&
      s.engineRuns) = true := by
    rw [show (st == rREADY || st == rRUNNING || st == rFAULTED) = true from up, show s.ringState n' i' = qRUNNING from running,
      show s.mayRequest (n' + 1) = true from may, engine]
    rfl
  rw [c, if_neg (by decide), if_pos hr, if_neg (by simp only [n', i']; omega)]
  rfl

theorem answers_failedFetch (n : Fin 32) (i : Fin 8) (r : FetchEnd) (ws : List Word) (h : Fetches s n i) (room : 1 ≤ s.fetchRoom n i)
    (hr : r ≠ .good) :
    Answers (.descriptorFetch n i r ws) s fun t =>
      t.consumed n i = (s.consumed n i + 1) % 2 ^ 32 ∧ t.ringState n i = 3 ∧ t.fld (F.RING_STATUS_STOP_CAUSE n i) = 1 ∧
        (t.ring n i).descs = (s.ring n i).descs := by
  have exe := exec_failedFetch (ws := ws) h room hr
  obtain ⟨-, -, regs, vfs⟩ := readSlots_spec s n i (s.consumed n i) 1
  let a := (s.readSlots n i (s.consumed n i) 1).draw.2
  obtain ⟨endVfs, endWords⟩ := readEnded_spec a n r
  have stays : RingStays n i s (a.readEnded n r) := fun o ho =>
    SameWord.trans (t := a) (.of_regs regs) (endWords o (by
      simp only [ringWords, List.mem_cons, List.not_mem_nil, or_false, R.RING_STATUS, R.RING_GEN, R.RING_PRODUCER_SEEN,
        R.RING_CONSUMED, R.RING_SIZE] at ho
      omega) (by
      simp only [ringWords, List.mem_cons, List.not_mem_nil, or_false, R.RING_STATUS, R.RING_GEN, R.RING_PRODUCER_SEEN,
        R.RING_CONSUMED, R.RING_SIZE] at ho
      simp only [R.HOST_ERR]
      omega))
  obtain ⟨consumed, state, cause, descs⟩ := rejectDesc_spec (a.readEnded n r) n.isLt i.isLt 1
    (unread s n i (s.readSlots n i (s.consumed n i) 1).draw.1) (by decide)
  have pf (u : State) : RingStays n i u u.refreshPf := fun o ho =>
    (SameWord.refl o _).pf ((ringWords_apart ho).resolve_right (not_not.2 ⟨n.isLt, i.isLt⟩)).2.2.2
  obtain ⟨state', -, consumed', -, -, -, cause'⟩ := (pf _).fields
  obtain ⟨-, -, start, -⟩ := stays.fields
  refine answers_of_done exe ⟨consumed'.trans (consumed.trans (by rw [start])), state'.trans state, cause'.trans cause, ?_⟩
  rw [refreshPf_ring_eq, descs, ring_of_vfs endVfs, ring_of_vfs (show a.vfs = s.vfs from vfs)]

/-! ### Completions (R304, R311, R314) -/

theorem modRing_of_large (s : State) (n : Nat) (f : Ring → Ring) (h : (s.vf n).rings.length ≤ i) : (s.modRing n i f).ring n i = {} := by
  simp [State.ring, modRing_rings, List.getD_eq_getElem?_getD, h]

theorem ring_of_large (s : State) (n : Nat) (h : (s.vf n).rings.length ≤ i) : s.ring n i = {} := by
  simp [State.ring, List.getD_eq_getElem?_getD, h]

/-- The descriptors of a ring after a change of each of them that keeps an empty ring empty. -/
theorem modRing_descs (s : State) (n i : Nat) (f : List Desc → List Desc) (h : f [] = []) :
    ((s.modRing n i fun r => { r with descs := f r.descs }).ring n i).descs = f (s.ring n i).descs := by
  by_cases hi : i < (s.vf n).rings.length
  · rw [modRing_same s n _ hi]
  · rw [modRing_of_large s n _ (by omega), ring_of_large s n (by omega)]
    exact h.symm

/-- The ring without its descriptors of an index. -/
abbrev without (s : State) (n i : Nat) (x : Desc) : State := s.modRing n i fun r => { r with descs := r.descs.filter fun y => y.index != x.index }

theorem retire_eq (s : State) (n i : Nat) (d : Desc) :
    s.retire n i d = (without s n i d).when (d.cr || d.finalStatus != stSUCCESS) fun u => u.enterRecord n (s.descRecord i d) := rfl

theorem desc?_index {d : DescRef} {x : Desc} (h : s.desc? d = some x) : x.index = d.index := by
  have e := List.find?_some h
  simpa using e

theorem desc?_without (s : State) (d : DescRef) (x : Desc) (hx : x.index = d.index) (h : SameRings d.vf (without s d.vf d.ring x) t) :
    t.desc? d = none := by
  rw [State.desc?, h.ring, modRing_descs s d.vf d.ring (fun l => l.filter fun y => y.index != x.index) rfl, hx]
  simp

theorem refreshPf_desc? (s : State) (d : DescRef) : s.refreshPf.desc? d = s.desc? d := by
  rw [State.desc?, State.desc?, refreshPf_ring_eq]

theorem faultedLaunch_false {d : Desc} (h : d.finalStatus = stSUCCESS) : s.faultedLaunch n d = false := by
  have st : d.status ≠ stREGION_FAULT := by
    intro e
    rw [Desc.finalStatus, e] at h
    revert h
    cases d.poison <;> decide
  simp [State.faultedLaunch, st]

theorem exec_complete {d : DescRef} {x : Desc} (h : s.desc? d = some x) (hp : x.phase = .finished)
    (room : (x.cr || x.finalStatus != stSUCCESS) = true → s.recordRoom d.vf = true) :
    exec (.descriptorComplete d) s =
      done ((s.when (s.faultedLaunch d.vf x) fun t => t.abortOrdered d.vf d.ring).retire d.vf d.ring x) := by
  have go : exec (.descriptorComplete d) s = execDescriptorComplete d s := rfl
  rw [go, execDescriptorComplete, h]
  simp only [hp]
  cases hr : (x.cr || x.finalStatus != stSUCCESS)
  · rfl
  · rw [room hr]; rfl

theorem answers_silentCompletion (d : DescRef) (x : Desc) (h : s.desc? d = some x) (hp : x.phase = .finished) (hc : x.cr = false)
    (hs : x.finalStatus = stSUCCESS) :
    Answers (.descriptorComplete d) s fun t => t.desc? d = none ∧ Frame s t [] [.vfs] := by
  have exe := exec_complete h hp (by rw [hc, hs]; exact fun e => absurd e (by decide))
  rw [faultedLaunch_false hs, State.when_false, retire_eq, hc, hs, show (false || stSUCCESS != stSUCCESS) = false from rfl,
    State.when_false] at exe
  refine answers_of_done exe ⟨?_, (frame_modVf s _ _ (by simp)).pf⟩
  rw [refreshPf_desc?]
  exact desc?_without s d x (desc?_index h) (.refl ..)

/-- The records that are held or wait, and the completion ring's CONSUMER, are the same. -/
def SameHeld (n : Nat) (s t : State) : Prop :=
  (t.vf n).held = (s.vf n).held ∧ (t.vf n).waiting = (s.vf n).waiting ∧ (t.vf n).consumer = (s.vf n).consumer

theorem SameHeld.refl (n : Nat) (s : State) : SameHeld n s s := ⟨rfl, rfl, rfl⟩

theorem SameHeld.trans (h : SameHeld n s t) (k : SameHeld n t u) : SameHeld n s u :=
  ⟨k.1.trans h.1, k.2.1.trans h.2.1, k.2.2.trans h.2.2⟩

theorem SameHeld.of_vfs (h : t.vfs = s.vfs) : SameHeld n s t := by simp [SameHeld, State.vf, h]

theorem sameHeld_noteStatus (s : State) (n i : Nat) : SameHeld n s (s.noteStatus n i) := by
  unfold State.noteStatus
  split
  · exact .refl n s
  · split
    · exact .of_vfs rfl
    · simp [SameHeld]

theorem sameHeld_modRing (s : State) (n i : Nat) (f : Ring → Ring) : SameHeld n s (s.modRing n i f) := by
  simp [SameHeld, State.modRing]

theorem writeRecord_spec (s : State) (n : Nat) (r : Record) :
    (s.writeRecord n r).produced n = (s.produced n + 1) % 2 ^ 32 ∧ SameHeld n s (s.writeRecord n r) := by
  unfold State.writeRecord State.when
  extract_lets k words a b
  have ha : a.produced n = s.produced n := rfl
  have count : (a.countMod (F.RING_CQ_PRODUCED_PRODUCED n)).produced n = (s.produced n + 1) % 2 ^ 32 := by
    refine (State.fld_setFld_same a (F.RING_CQ_PRODUCED_PRODUCED n) _ (show 0 + 32 ≤ 32 by decide)).trans ?_
    rw [← ha]
    rfl
  have hb : b.produced n = (s.produced n + 1) % 2 ^ 32 := ((noteStatus_word _ n 8 _).fld (F.RING_CQ_PRODUCED_PRODUCED n) rfl).trans count
  have held : SameHeld n s b :=
    SameHeld.trans (t := a.countMod (F.RING_CQ_PRODUCED_PRODUCED n)) (.of_vfs rfl) (sameHeld_noteStatus _ n 8)
  split
  · exact ⟨((sameWord_sendMsix b (n + 1) 0 _).fld (F.RING_CQ_PRODUCED_PRODUCED n) rfl).trans hb,
      held.trans (.of_vfs (sendMsix_vfs b (n + 1) 0))⟩
  · exact ⟨hb, held⟩

theorem enterRecord_written (r : Record) (h : (s.vf n).held = []) (hf : s.cqFull n = false) : s.enterRecord n r = s.writeRecord n r := by
  rw [State.enterRecord, h, hf]
  exact if_pos rfl

theorem enterRecord_held (s : State) (n : Nat) (r : Record) (h : (s.vf n).held ≠ [] ∨ s.cqFull n = true) (room : (s.vf n).held.length < 16) :
    (s.enterRecord n r).produced n = s.produced n ∧ ((s.enterRecord n r).vf n).held = (s.vf n).held ++ [r] := by
  have c : ¬((s.vf n).held.isEmpty && !s.cqFull n) = true := by
    obtain h | h := h
    · simp [h]
    · simp [h]
  unfold State.enterRecord
  extract_lets v
  rw [if_neg c, if_pos room]
  let a := s.modVf n fun v => { v with held := v.held ++ [r], interval := s.fld F.RWE_POLL_POLL_MIN_US }
  have start : SameWord (R.RING_CQ_PRODUCED n) s a := .of_regs rfl
  have word : SameWord (R.RING_CQ_PRODUCED n) s ((a.noteHeld n).noteStatus n 8) :=
    (start.noteHeld (by simp only [R.RING_CQ_PRODUCED, R.RING_VF_STATUS]; omega)
      (by simp only [R.RING_CQ_PRODUCED, R.RWE_STALL]; omega)).noteStatus n 8
  have note : SameHeld n a (a.noteHeld n) := .of_vfs rfl
  have held : SameHeld n a ((a.noteHeld n).noteStatus n 8) := note.trans (sameHeld_noteStatus _ n 8)
  refine ⟨word.fld (F.RING_CQ_PRODUCED_PRODUCED n) rfl, held.1.trans ?_⟩
  rw [State.vf_modVf_same]

theorem cqFull_congr (h : t.regs = s.regs) (hv : (t.vf n).consumer = (s.vf n).consumer) : t.cqFull n = s.cqFull n := by
  have f (x : Fld) : t.fld x = s.fld x := (SameWord.of_regs h).fld x rfl
  have len : t.cqLen n = s.cqLen n := by rw [State.cqLen, State.cqLen, f]
  have produced : t.produced n = s.produced n := f _
  rw [State.cqFull, State.cqFull, State.on, State.on, f, len, produced, hv]

/-- A record that is due goes out or is held. -/
theorem retire_record (d : DescRef) {x : Desc} (hx : x.index = d.index) (due : x.cr = true ∨ x.finalStatus ≠ stSUCCESS)
    (regs : u.regs = s.regs) (time : u.time = s.time) (held : SameHeld d.vf s u) (room : s.recordRoom d.vf = true) :
    let t := (u.retire d.vf d.ring x).refreshPf
    t.desc? d = none ∧
      ((s.vf d.vf).held = [] → s.cqFull d.vf = false → t.produced d.vf = (s.produced d.vf + 1) % 2 ^ 32 ∧ (t.vf d.vf).held = []) ∧
      ((s.vf d.vf).held ≠ [] ∨ s.cqFull d.vf = true →
        t.produced d.vf = s.produced d.vf ∧ (t.vf d.vf).held = (s.vf d.vf).held ++ [s.descRecord d.ring x]) := by
  intro t
  have c : (x.cr || x.finalStatus != stSUCCESS) = true := by simpa using due
  let a := without u d.vf d.ring x
  have e : u.retire d.vf d.ring x = a.enterRecord d.vf (s.descRecord d.ring x) := by
    rw [retire_eq, c, State.when_true]
    exact congrArg (a.enterRecord d.vf) (by simp only [State.descRecord, time])
  have aheld : SameHeld d.vf s a := held.trans (sameHeld_modRing u d.vf d.ring _)
  have aregs : a.regs = s.regs := regs
  have full : a.cqFull d.vf = s.cqFull d.vf := cqFull_congr aregs aheld.2.2
  have ap : a.produced d.vf = s.produced d.vf := (SameWord.of_regs aregs).fld (F.RING_CQ_PRODUCED_PRODUCED d.vf) rfl
  have pf (y : State) : y.refreshPf.produced d.vf = y.produced d.vf := State.refreshPf_fld y _ (by
    simp only [F.RING_CQ_PRODUCED_PRODUCED, R.RING_CQ_PRODUCED, R.INT_PF_STATUS]; omega)
  refine ⟨?_, fun h hf => ?_, fun h => ?_⟩
  · rw [refreshPf_desc?, e]
    exact desc?_without u d x hx (sameRings_enterRecord a d.vf _)
  · obtain ⟨produced, kept⟩ := writeRecord_spec a d.vf (s.descRecord d.ring x)
    rw [State.refreshPf_vf, pf, e, enterRecord_written _ (aheld.1.trans h) (full.trans hf), produced, kept.1, aheld.1, ap]
    exact ⟨rfl, h⟩
  · have lt : (s.vf d.vf).held.length < 16 := by
      rw [State.recordRoom] at room
      split at room
      case isTrue c => obtain h | h := h <;> simp [h] at c
      case isFalse => simp only [Bool.and_eq_true, decide_eq_true_eq] at room; exact room.1
    obtain ⟨produced, kept⟩ := enterRecord_held a d.vf (s.descRecord d.ring x) (by rwa [aheld.1, full]) (by rwa [aheld.1])
    rw [State.refreshPf_vf, pf, e, produced, kept, aheld.1, ap]
    exact ⟨rfl, rfl⟩

theorem abortOrdered_shape (s : State) (n i : Nat) (b : Bool) :
    let u := s.when b fun t => t.abortOrdered n i
    u.regs = s.regs ∧ u.time = s.time ∧ SameHeld n s u := by
  have aborted : SameHeld n s (s.abortOrdered n i) := by
    unfold State.abortOrdered
    exact sameHeld_modRing s n i _
  cases b
  · exact ⟨rfl, rfl, .refl n s⟩
  · exact ⟨rfl, rfl, aborted⟩

theorem exec_completeBlocked {d : DescRef} {x : Desc} (h : s.desc? d = some x) (hp : x.phase = .blocked)
    (first : ((s.ring d.vf d.ring).descs.find? fun y => y.phase = .blocked) = some x) (room : s.recordRoom d.vf = true) :
    exec (.descriptorComplete d) s = done (s.retire d.vf d.ring x) := by
  have go : exec (.descriptorComplete d) s = execDescriptorComplete d s := rfl
  rw [go, execDescriptorComplete, h]
  simp only [hp, first, room, Option.map_some, desc?_index h]
  exact if_pos (by simp)

theorem answers_recordedCompletion (d : DescRef) (x : Desc) (h : s.desc? d = some x) (due : x.cr = true ∨ x.finalStatus ≠ stSUCCESS)
    (hp : x.phase = .finished ∨ ((s.ring d.vf d.ring).descs.find? fun y => y.phase = .blocked) = some x)
    (room : s.recordRoom d.vf = true) :
    Answers (.descriptorComplete d) s fun t =>
      t.desc? d = none ∧
        ((s.vf d.vf).held = [] → s.cqFull d.vf = false →
          t.produced d.vf = (s.produced d.vf + 1) % 2 ^ 32 ∧ (t.vf d.vf).held = []) ∧
        ((s.vf d.vf).held ≠ [] ∨ s.cqFull d.vf = true →
          t.produced d.vf = s.produced d.vf ∧ (t.vf d.vf).held = (s.vf d.vf).held ++ [s.descRecord d.ring x]) := by
  obtain hp | first := hp
  · obtain ⟨regs, time, held⟩ := abortOrdered_shape s d.vf d.ring (s.faultedLaunch d.vf x)
    exact answers_of_done (exec_complete h hp fun _ => room) (retire_record d (desc?_index h) due regs time held room)
  · have blocked : x.phase = .blocked := by simpa using List.find?_some first
    exact answers_of_done (exec_completeBlocked h blocked first room)
      (retire_record d (desc?_index h) due rfl rfl (.refl d.vf s) room)

/-! ### Held records that go out (R315) -/

/-- How many records the completion ring has room for. -/
def cqRoom (s : State) (n : Nat) : Nat :=
  if s.on (F.RING_VF_STATUS_CQ_ERR n) then 0 else s.cqLen n - ahead (s.produced n) (s.vf n).consumer.toNat

theorem cqRoom_zero : cqRoom s n = 0 ↔ s.cqFull n = true := by
  rw [cqRoom, State.cqFull]
  by_cases e : s.on (F.RING_VF_STATUS_CQ_ERR n) = true
  · simp [e]
  · simp [e]; omega

/-- One held record goes out; a waiting one takes its place. -/
def flushOne (s : State) (n : Nat) (r : Record) (rest : List Record) : State :=
  ((s.modVf n fun v => { v with held := rest ++ v.waiting.take 1, waiting := v.waiting.drop 1 }).noteHeld n).writeRecord n r

theorem flushHeld_cons {fuel : Nat} {r : Record} {rest : List Record} (h : (s.vf n).held = r :: rest) :
    State.flushHeld (fuel + 1) n s = if s.cqFull n then s else State.flushHeld fuel n (flushOne s n r rest) := by
  rw [State.flushHeld]
  simp only [h]
  rfl

theorem noteHeld_fields (s : State) (n : Nat) :
    (s.noteHeld n).fld (F.RING_VF_STATUS_CQ_ERR n) = s.fld (F.RING_VF_STATUS_CQ_ERR n) ∧
      (s.noteHeld n).fld (F.RING_VF_STATUS_COMPLETION_STALL n) = bit (decide (0 < (s.vf n).held.length)) := by
  let a := s.setFld (F.RING_VF_STATUS_HELD n) (s.vf n).held.length
  let b := a.setFld (F.RING_VF_STATUS_COMPLETION_STALL n) (bit (decide (0 < (s.vf n).held.length)))
  have late : SameWord (R.RING_VF_STATUS n) b (s.noteHeld n) :=
    (SameWord.refl _ b).setBit F.RWE_STALL_STALL n (decide (0 < (s.vf n).held.length))
      (by simp only [R.RING_VF_STATUS, F.RWE_STALL_STALL, R.RWE_STALL]; omega)
  refine ⟨(late.fld (F.RING_VF_STATUS_CQ_ERR n) rfl).trans ?_, (late.fld (F.RING_VF_STATUS_COMPLETION_STALL n) rfl).trans ?_⟩
  · exact (State.fld_setFld_lo a (F.RING_VF_STATUS_COMPLETION_STALL n) (F.RING_VF_STATUS_CQ_ERR n) _ rfl rfl (show 1 + 1 ≤ 32 by decide)
      (.inr (show 0 + 1 ≤ 1 by decide))).trans (State.fld_setFld_lo s (F.RING_VF_STATUS_HELD n) (F.RING_VF_STATUS_CQ_ERR n) _ rfl rfl
        (show 1 + 1 ≤ 32 by decide) (.inl (show 1 + 1 ≤ 8 by decide)))
  · exact (State.fld_setFld_same a (F.RING_VF_STATUS_COMPLETION_STALL n) _ (show 0 + 1 ≤ 32 by decide)).trans
      (Nat.mod_eq_of_lt (bit_lt _))

theorem flushOne_spec {r : Record} {rest : List Record} (s : State) (n : Nat) :
    let t := flushOne s n r rest
    t.produced n = (s.produced n + 1) % 2 ^ 32 ∧ (t.vf n).held = rest ++ (s.vf n).waiting.take 1 ∧
      (t.vf n).waiting = (s.vf n).waiting.drop 1 ∧ (t.vf n).consumer = (s.vf n).consumer ∧ t.cqLen n = s.cqLen n ∧
      t.fld (F.RING_VF_STATUS_CQ_ERR n) = s.fld (F.RING_VF_STATUS_CQ_ERR n) ∧
      t.fld (F.RING_VF_STATUS_COMPLETION_STALL n) = bit (decide (0 < (rest ++ (s.vf n).waiting.take 1).length)) := by
  intro t
  let a := s.modVf n fun v => { v with held := rest ++ v.waiting.take 1, waiting := v.waiting.drop 1 }
  have av : a.vf n = { s.vf n with held := rest ++ (s.vf n).waiting.take 1, waiting := (s.vf n).waiting.drop 1 } := State.vf_modVf_same ..
  obtain ⟨produced, held, waiting, consumer⟩ := writeRecord_spec (a.noteHeld n) n r
  obtain ⟨cqErr, stall⟩ := noteHeld_fields a n
  have word (o : Nat) (h1 : o ≠ R.RING_CQ_PRODUCED n) : SameWord o (a.noteHeld n) t := sameWord_writeRecord _ n r h1
  have start (o : Nat) : SameWord o s a := .of_regs rfl
  have note (o : Nat) (h1 : o ≠ R.RING_VF_STATUS n) (h2 : o ≠ R.RWE_STALL) : SameWord o s (a.noteHeld n) := (start o).noteHeld h1 h2
  have noteVf : (a.noteHeld n).vf n = a.vf n := rfl
  have ne : R.RING_VF_STATUS n ≠ R.RING_CQ_PRODUCED n := by simp only [R.RING_VF_STATUS, R.RING_CQ_PRODUCED]; omega
  refine ⟨?_, ?_, ?_, ?_, ?_, ?_, ?_⟩
  · refine produced.trans ?_
    rw [State.produced, (note (R.RING_CQ_PRODUCED n) ne.symm (by simp only [R.RING_CQ_PRODUCED, R.RWE_STALL]; omega)).fld
      (F.RING_CQ_PRODUCED_PRODUCED n) rfl]
    rfl
  · exact held.trans (by rw [noteVf, av])
  · exact waiting.trans (by rw [noteVf, av])
  · exact consumer.trans (by rw [noteVf, av])
  · have size : t.fld (F.RING_CQ_SIZE_SIZE_LOG2 n) = s.fld (F.RING_CQ_SIZE_SIZE_LOG2 n) :=
      ((note (R.RING_CQ_SIZE n) (by simp only [R.RING_CQ_SIZE, R.RING_VF_STATUS]; omega)
        (by simp only [R.RING_CQ_SIZE, R.RWE_STALL]; omega)).trans (word (R.RING_CQ_SIZE n)
          (by simp only [R.RING_CQ_SIZE, R.RING_CQ_PRODUCED]; omega))).fld (F.RING_CQ_SIZE_SIZE_LOG2 n) rfl
    rw [State.cqLen, State.cqLen, size]
  · exact ((word _ ne).fld (F.RING_VF_STATUS_CQ_ERR n) rfl).trans cqErr
  · refine ((word _ ne).fld (F.RING_VF_STATUS_COMPLETION_STALL n) rfl).trans ?_
    rw [stall, av]

/-- A record that goes out takes one place of the room. -/
theorem cqRoom_flushOne {r : Record} {rest : List Record} (h : s.cqFull n = false) :
    cqRoom (flushOne s n r rest) n = cqRoom s n - 1 := by
  obtain ⟨produced, -, -, consumer, len, cqErr, -⟩ := flushOne_spec (r := r) (rest := rest) s n
  have lt : s.produced n < 2 ^ 32 := State.fld_lt s (F.RING_CQ_PRODUCED_PRODUCED n)
  have small : s.cqLen n ≤ 2 ^ 31 := Nat.pow_le_pow_right (by decide) (by
    have := State.fld_lt s (F.RING_CQ_SIZE_SIZE_LOG2 n)
    have : s.fld (F.RING_CQ_SIZE_SIZE_LOG2 n) < 2 ^ 5 := this
    omega)
  rw [State.cqFull, Bool.or_eq_false_iff, decide_eq_false_iff_not] at h
  obtain ⟨noErr, notFull⟩ := h
  have noErr' : (flushOne s n r rest).on (F.RING_VF_STATUS_CQ_ERR n) = false := by
    rw [State.on, cqErr]; exact noErr
  rw [cqRoom, cqRoom, noErr, noErr', if_neg Bool.false_ne_true, if_neg Bool.false_ne_true, produced, consumer, len]
  have lc := (s.vf n).consumer.isLt
  simp only [ahead] at *
  omega

/-- What a flush leaves of the records that are held or wait. -/
theorem flushHeld_spec (fuel : Nat) (s : State) (hf : fuel = (s.vf n).held.length + (s.vf n).waiting.length)
    (hw : (s.vf n).held = [] → (s.vf n).waiting = []) :
    let all := (s.vf n).held ++ (s.vf n).waiting
    let k := min (cqRoom s n) all.length
    let t := State.flushHeld fuel n s
    (t.vf n).held ++ (t.vf n).waiting = all.drop k ∧ t.produced n = (s.produced n + k) % 2 ^ 32 ∧
      (k = 0 → t = s) ∧ (1 ≤ k → t.fld (F.RING_VF_STATUS_COMPLETION_STALL n) = bit (decide (k < all.length))) := by
  have lt (u : State) : u.produced n % 2 ^ 32 = u.produced n := Nat.mod_eq_of_lt (State.fld_lt u (F.RING_CQ_PRODUCED_PRODUCED n))
  induction fuel generalizing s with
  | zero =>
    intro all k t
    have none : all = [] := List.eq_nil_of_length_eq_zero (by rw [List.length_append]; omega)
    have hk : k = 0 := by simp [k, none]
    exact ⟨by rw [hk]; rfl, by rw [hk]; exact (lt s).symm, fun _ => rfl, fun h => by omega⟩
  | succ fuel ih =>
    intro all k t
    cases hh : (s.vf n).held with
    | nil => rw [hh, hw hh] at hf; simp at hf
    | cons r rest =>
      have et : t = if s.cqFull n then s else State.flushHeld fuel n (flushOne s n r rest) := flushHeld_cons hh
      by_cases full : s.cqFull n = true
      · have hk : k = 0 := by simp [k, cqRoom_zero.2 full]
        rw [if_pos full] at et
        exact ⟨by rw [hk, et]; rfl, by rw [hk, et]; exact (lt s).symm, fun _ => et, fun h => by omega⟩
      · have full' : s.cqFull n = false := by simpa using full
        have room : 1 ≤ cqRoom s n := Nat.one_le_iff_ne_zero.2 fun e => full (cqRoom_zero.1 e)
        rw [if_neg full] at et
        obtain ⟨produced, held, waiting, -, -, -, stall⟩ := flushOne_spec (r := r) (rest := rest) s n
        have tail : ((flushOne s n r rest).vf n).held ++ ((flushOne s n r rest).vf n).waiting = all.tail := by
          rw [held, waiting, List.append_assoc, List.take_append_drop]
          simp only [all, hh, List.cons_append, List.tail_cons]
        have len : all.length = all.tail.length + 1 := by simp only [all, hh, List.cons_append, List.tail_cons, List.length_cons]
        obtain ⟨records, prod, stay, stalls⟩ := ih (flushOne s n r rest) (by
          have size : fuel + 1 = all.length := hf.trans List.length_append.symm
          rw [← List.length_append, tail]
          omega) (fun e => by
            rw [held, List.append_eq_nil_iff] at e
            rw [waiting]
            cases hww : (s.vf n).waiting with
            | nil => rfl
            | cons x xs => rw [hww] at e; simp at e)
        rw [tail, cqRoom_flushOne full'] at records prod stay stalls
        have hk : k = min (cqRoom s n - 1) all.tail.length + 1 := by simp only [k, len]; omega
        rw [et]
        refine ⟨?_, ?_, fun h => by omega, fun _ => ?_⟩
        · rw [records, hk]
          simp only [all, hh, List.cons_append, List.tail_cons, List.drop_succ_cons]
        · rw [prod, produced, hk]; omega
        · by_cases last : min (cqRoom s n - 1) all.tail.length = 0
          · rw [stay last, stall, hk, last]
            refine congrArg bit (decide_eq_decide.2 ?_)
            simp only [all, hh, List.cons_append, List.length_cons, List.length_append, List.length_take]
            omega
          · rw [stalls (by omega), hk, len]
            exact congrArg bit (decide_eq_decide.2 (by omega))

theorem answers_heldRecordsFlush (n : Fin 32) (may : s.mayRequest (n + 1) = true) (hw : (s.vf n).held = [] → (s.vf n).waiting = []) :
    Answers (.heldRecordsFlush n) s fun t =>
      let all := (s.vf n).held ++ (s.vf n).waiting
      let room := if s.on (F.RING_VF_STATUS_CQ_ERR n) then 0 else s.cqLen n - ahead (s.produced n) (s.vf n).consumer.toNat
      let k := min room all.length
      (t.vf n).held ++ (t.vf n).waiting = all.drop k ∧ t.produced n = (s.produced n + k) % 2 ^ 32 ∧
        (1 ≤ k → t.fld (F.RING_VF_STATUS_COMPLETION_STALL n) = bit (decide (k < all.length))) := by
  have exe : exec (.heldRecordsFlush n) s = done (State.flushHeld ((s.vf n).held.length + (s.vf n).waiting.length) n s) := if_pos may
  obtain ⟨records, produced, -, stall⟩ := flushHeld_spec _ s rfl hw
  have off (o : Nat) (h : o = R.RING_CQ_PRODUCED n ∨ o = R.RING_VF_STATUS n) : o ≠ R.INT_PF_STATUS := by
    simp only [R.RING_CQ_PRODUCED, R.RING_VF_STATUS] at h
    simp only [R.INT_PF_STATUS]
    omega
  refine answers_of_done exe ⟨?_, ?_, fun h => ?_⟩
  · rw [State.refreshPf_vf]; exact records
  · exact (State.refreshPf_fld _ _ (off _ (.inl rfl))).trans produced
  · exact (State.refreshPf_fld _ _ (off _ (.inr rfl))).trans (stall h)

theorem answers_ringStoppingEnd (n : Fin 32) (i : Fin 8) (hs : s.ringState n i = 2) (hd : (s.ring n i).descs = []) :
    Answers (.ringStoppingEnd n i) s fun t =>
      t.ringState n i = 0 ∧ OtherBits s t (F.RING_STATUS_STATE n i) ∧ Frame s t [R.RING_STATUS n i] [] := by
  have exe : exec (.ringStoppingEnd n i) s = done (s.setFld (F.RING_STATUS_STATE n i) 0) := if_pos ⟨hs, hd⟩
  have pf : (F.RING_STATUS_STATE n i).off ≠ R.INT_PF_STATUS := by simp only [F.RING_STATUS_STATE, R.RING_STATUS, R.INT_PF_STATUS]; omega
  exact answers_of_done exe ⟨fld_setFld_pf s _ 0 (show 0 + 2 ≤ 32 by decide) pf, (otherBits_setFld s _ 0).pf pf,
    (frame_setFld s _ 0 [] (by simp [F.RING_STATUS_STATE])).pf⟩

/-! ### The obligation -/

/-- Settles O10: a poll's record concerns its own ring alone; a fetch checks its descriptors in turn; a flush is by induction on the
records. -/
theorem ringEngineStepsComplete : Obligations.RingEngineStepsComplete := by
  unfold Obligations.RingEngineStepsComplete
  exact ⟨fun s n r => answers_failedPoll n r, fun s n r => answers_goodPoll n r,
    fun s n i ws h hk room => ⟨answers_fetch n i ws h hk room, answers_rejectingFetch n i ws h hk room⟩,
    fun s n i r ws => answers_failedFetch n i r ws, fun s d x => answers_silentCompletion d x, fun s d x => answers_recordedCompletion d x,
    fun s n => answers_heldRecordsFlush n, fun s n i => answers_ringStoppingEnd n i⟩

end Sys2Proof.Machine
end

section
/-! Descriptors that start, go on and finish (06, R289, R296 to R299, R302, R304). -/

namespace Sys2Proof.Machine

variable {s t u : State} {n i : Nat} {d : DescRef} {x : Desc}

/-! ### A change of the descriptors of an index -/

theorem modDesc_eq (s : State) (n i : Nat) (k : Word) (f : Desc → Desc) :
    s.modDesc n i k f = s.modRing n i fun r => { r with descs := (fun l : List Desc => l.map fun y => if y.index == k then f y else y) r.descs } := rfl

theorem modDesc_descs (s : State) (n i : Nat) (k : Word) (f : Desc → Desc) :
    ((s.modDesc n i k f).ring n i).descs = (s.ring n i).descs.map fun y => if y.index == k then f y else y := by
  rw [modDesc_eq, modRing_descs s n i (fun l => l.map fun y => if y.index == k then f y else y) rfl]

/-- What a change of the descriptors of an index keeps finds: the first of an index is the changed one. -/
theorem find?_mapIndex (l : List Desc) (k m : Word) (f : Desc → Desc) (h : ∀ y, y.index = k → (f y).index = k) :
    (l.map fun y => if y.index == k then f y else y).find? (fun y => y.index == m) =
      (l.find? fun y => y.index == m).map fun y => if y.index == k then f y else y := by
  rw [List.find?_map]
  congr 2
  funext y
  by_cases e : y.index = k
  · simp [e, h y e]
  · simp [e]

theorem desc?_modDesc (s : State) (d : DescRef) (k : Word) (f : Desc → Desc) (h : ∀ y, y.index = k → (f y).index = k) :
    (s.modDesc d.vf d.ring k f).desc? d = (s.desc? d).map fun y => if y.index == k then f y else y := by
  rw [State.desc?, modDesc_descs, find?_mapIndex _ _ _ _ h, State.desc?]

theorem desc?_modDesc_of (hd : s.desc? d = some x) (f : Desc → Desc) (h : ∀ y, y.index = x.index → (f y).index = x.index) :
    (s.modDesc d.vf d.ring x.index f).desc? d = some (f x) := by
  rw [desc?_modDesc s d _ f h, hd]
  simp

theorem modDesc_ring_ne (s : State) {m j : Nat} (k : Word) (f : Desc → Desc) (h : m ≠ n ∨ j ≠ i) :
    (s.modDesc n i k f).ring m j = s.ring m j := by
  by_cases e : m = n
  · subst e
    have hj : j ≠ i := h.resolve_left (not_not.2 rfl)
    rw [State.ring, State.ring, State.modDesc, State.vf_modVf_same]
    simp only [List.getD_eq_getElem?_getD, List.getElem?_map, List.getElem?_zipIdx]
    cases (s.vf m).rings[j]? with
    | none => rfl
    | some r => simp [hj]
  · rw [State.ring, State.ring, State.modDesc, State.vf_modVf_ne _ _ e]

theorem desc?_of_sameRings (h : SameRings d.vf s t) : t.desc? d = s.desc? d := by rw [State.desc?, State.desc?, h.ring]

theorem desc?_of_vfs (h : t.vfs = s.vfs) : t.desc? d = s.desc? d := desc?_of_sameRings (.of_vfs h)

theorem desc?_modVf (s : State) (d : DescRef) (f : VfRings → VfRings) (h : ∀ v, (f v).rings = v.rings) :
    (s.modVf d.vf f).desc? d = s.desc? d := desc?_of_sameRings ((SameRings.refl _ s).modVf f h)

/-! ### A descriptor that starts or goes on (R302) -/

/-- Nothing has changed but the rings' state and the identifiers given out. -/
def RingsOnly (s t : State) : Prop := ∃ v k, t = { s with vfs := v, nextId := k }

theorem RingsOnly.refl (s : State) : RingsOnly s s := ⟨s.vfs, s.nextId, rfl⟩

theorem RingsOnly.modVf (h : RingsOnly s t) (n : Nat) (f : VfRings → VfRings) : RingsOnly s (t.modVf n f) := by
  obtain ⟨v, k, rfl⟩ := h
  exact ⟨_, k, rfl⟩

theorem RingsOnly.frame (h : RingsOnly s t) (r : List Nat) {p : List Part} (hp : .vfs ∈ p) : Frame s t r p := by
  obtain ⟨v, k, rfl⟩ := h
  exact ⟨fun _ _ _ _ => rfl, fun q hq => by cases q with | vfs => exact absurd hp hq | _ => rfl⟩

theorem RingsOnly.out (h : RingsOnly s t) : t.out = s.out := by obtain ⟨v, k, rfl⟩ := h; rfl

theorem RingsOnly.regs (h : RingsOnly s t) : t.regs = s.regs := by obtain ⟨v, k, rfl⟩ := h; rfl

theorem RingsOnly.writeTlps (h : RingsOnly s t) : t.writeTlps = s.writeTlps := by obtain ⟨v, k, rfl⟩ := h; rfl

/-- What a descriptor that starts or goes on leaves: it runs, and nothing but its ring has changed. -/
theorem begin_spec {ty : Nat} (h : s.begin d ty = some (x, u)) :
    u.desc? d = some x ∧ x.type = ty ∧ x.phase = .running ∧ RingsOnly s u := by
  unfold State.begin at h
  extract_lets n i at h
  split at h
  · exact absurd h (by simp)
  · next y hy =>
    split at h
    · exact absurd h (by simp)
    · next hty =>
      split at h
      · next run =>
        obtain ⟨rfl, rfl⟩ := Prod.mk.inj (Option.some.inj h)
        exact ⟨hy, not_not.1 hty, run, .refl s⟩
      · split at h
        · obtain ⟨rfl, rfl⟩ := Prod.mk.inj (Option.some.inj h)
          refine ⟨?_, not_not.1 hty, rfl, ?_⟩
          · have moved : (s.newId.2.modDesc d.vf d.ring y.index fun _ =>
                { y with phase := .running, order := s.newId.1, since := s.newId.1, startTime := s.time }).desc? d =
              some { y with phase := .running, order := s.newId.1, since := s.newId.1, startTime := s.time } :=
              desc?_modDesc_of (s := s.newId.2) ((desc?_of_vfs rfl).trans hy) _ fun _ _ => rfl
            exact Eq.trans (desc?_modVf _ d _ (by intro; rfl)) moved
          · exact RingsOnly.modVf (RingsOnly.modVf ⟨s.vfs, s.nextId + 1, rfl⟩ _ _) _ _
        · exact absurd h (by simp)

/-! ### A descriptor that finishes (R304) -/

theorem finish_ringsOnly (h : RingsOnly s t) (n i : Nat) (k : Word) (st code : Nat) (f : Desc → Desc) :
    RingsOnly s (t.finish n i k st code f) := h.modVf _ _

theorem desc?_finish (h : s.desc? d = some x) (st code : Nat) (f : Desc → Desc) (hf : ∀ y : Desc, (f y).index = y.index) :
    (s.finish d.vf d.ring x.index st code f).desc? d = some { f x with phase := .finished, status := st, code := code } :=
  desc?_modDesc_of h _ fun y hy => (hf y).trans hy

theorem finished_finish (h : s.desc? d = some x) (st code : Nat) : Finished (s.finish d.vf d.ring x.index st code) d st :=
  ⟨_, desc?_finish h st code id fun _ => rfl, rfl, rfl⟩

/-- A descriptor stays finished when another one, or the same, finishes with that status. -/
theorem finished_finishAgain {st : Nat} (h : Finished s d st) (n i : Nat) (k : Word) (code : Nat) : Finished (s.finish n i k st code) d st := by
  obtain ⟨y, hy, phase, status⟩ := h
  by_cases e : d.vf.val ≠ n ∨ d.ring.val ≠ i
  · exact ⟨y, by rw [State.desc?, State.finish, modDesc_ring_ne s k _ e]; exact hy, phase, status⟩
  · obtain ⟨rfl, rfl⟩ := not_or.1 e |>.imp not_not.1 not_not.1
    have found := desc?_modDesc s d k (fun z => { z with phase := .finished, status := st, code := code }) fun _ hz => hz
    rw [hy, Option.map_some] at found
    refine ⟨_, found, ?_⟩
    split
    · exact ⟨rfl, rfl⟩
    · exact ⟨phase, status⟩

theorem finished_of_sameRings {st : Nat} (h : Finished s d st) (k : SameRings d.vf s t) : Finished t d st := by
  rwa [Finished, desc?_of_sameRings k]

theorem finished_refreshPf {st : Nat} (h : Finished s d st) : Finished s.refreshPf d st := by
  rwa [Finished, refreshPf_desc?]

/-! ### NOP, FENCE, WAIT (R289, R296, R297) -/

theorem answers_nopDescriptor (h : s.begin d tyNOP = some (x, u)) :
    Answers (.nopDescriptor d) s fun t => Finished t d stSUCCESS ∧ Frame s t [] [.vfs] := by
  obtain ⟨hd, -, -, only⟩ := begin_spec h
  have exe : exec (.nopDescriptor d) s = done (u.finish d.vf d.ring x.index stSUCCESS 0) := by
    show execNopDescriptor d s = _
    rw [execNopDescriptor, h]
  exact answers_of_done exe ⟨finished_refreshPf (finished_finish hd stSUCCESS 0), ((finish_ringsOnly only ..).frame [] (by simp)).pf⟩

theorem answers_fenceDescriptor (h : s.begin d tyFENCE = some (x, u)) (clear : u.fenceClear d.vf d.ring x = true) :
    Answers (.fenceDescriptor d) s fun t => Finished t d stSUCCESS ∧ Frame s t [] [.vfs] := by
  obtain ⟨hd, -, -, only⟩ := begin_spec h
  have exe : exec (.fenceDescriptor d) s = done (u.finish d.vf d.ring x.index stSUCCESS 0) := by
    show execFenceDescriptor d s = _
    rw [execFenceDescriptor, h]
    simp only [clear, State.when_true]
  exact answers_of_done exe ⟨finished_refreshPf (finished_finish hd stSUCCESS 0), ((finish_ringsOnly only ..).frame [] (by simp)).pf⟩

/-- Nothing has changed but the rings' state, the identifiers given out and the messages that left, `m` more. -/
def RingsAndSent (s t : State) (m : List Out) : Prop := RingsOnly { s with out := s.out ++ m } t

theorem RingsAndSent.frame {m : List Out} (h : RingsAndSent s t m) (r : List Nat) {p : List Part} (hp : .vfs ∈ p) : Frame s t r p := by
  obtain ⟨v, k, rfl⟩ := h
  exact ⟨fun _ _ _ _ => rfl, fun q hq => by cases q with | vfs => exact absurd hp hq | _ => rfl⟩

theorem RingsAndSent.sent {m : List Out} (h : RingsAndSent s t m) : Sent s t m := by
  obtain ⟨v, k, rfl⟩ := h
  exact ⟨[], by simp, by simp⟩

theorem RingsOnly.hostWriteOut (h : RingsOnly s t) (i a : Nat) (bytes : List Byte) (bad : List Nat) :
    RingsAndSent s (t.hostWriteOut i a bytes bad) (s.writeTlps i a bytes bad) := by
  obtain ⟨v, k, rfl⟩ := h
  exact ⟨v, k, rfl⟩

theorem RingsOnly.hostReadOut (h : RingsOnly s t) (i a len : Nat) : RingsAndSent s (t.hostReadOut i a len) (s.readTlps i a len) := by
  obtain ⟨v, k, rfl⟩ := h
  exact ⟨v, k, rfl⟩

theorem answers_waitHolds {v : BitVec 64} (h : s.begin d tyWAIT = some (x, u)) (polls : u.polls d.vf = true)
    (holds : waitHolds (x.w 8 % 2 ^ 8) v.toNat (x.q 4) (x.q 6) = true) :
    Answers (.wait d v) s fun t => Finished t d stSUCCESS ∧ Frame s t [] [.vfs] := by
  obtain ⟨hd, -, -, only⟩ := begin_spec h
  let a := (u.hostReadOut (d.vf + 1) (x.q 2) 8).modDesc d.vf d.ring x.index fun y => { y with result := v.toNat }
  have exe : exec (.wait d v) s = done (a.finish d.vf d.ring x.index stSUCCESS 0) := by
    show execWait d v s = _
    rw [execWait, h]
    simp only [polls, holds, State.when_true]
    rfl
  have ha : a.desc? d = some { x with result := v.toNat } :=
    desc?_modDesc_of (s := u.hostReadOut (d.vf + 1) (x.q 2) 8) ((desc?_of_vfs rfl).trans hd) _ fun _ hy => hy
  have sent : RingsAndSent s (a.finish d.vf d.ring x.index stSUCCESS 0) _ :=
    finish_ringsOnly (RingsOnly.modVf (only.hostReadOut (d.vf + 1) (x.q 2) 8) d.vf _) ..
  exact answers_of_done exe ⟨finished_refreshPf (finished_finish ha stSUCCESS 0), (sent.frame [] (by simp)).pf⟩

/-! ### SIGNAL, QUERY, TELEMETRY_SNAPSHOT (R289, R299) -/

/-- A descriptor that writes host memory and finishes. -/
theorem answers_writeAndFinish {c : Instr} {ty a : Nat} {bytes : List Byte} (h : s.begin d ty = some (x, u))
    (exe : exec c s = done ((u.hostWriteOut (d.vf + 1) a bytes).finish d.vf d.ring x.index stSUCCESS 0)) :
    Answers c s fun t => Finished t d stSUCCESS ∧ Sent s t (s.writeTlps (d.vf + 1) a bytes []) ∧ Frame s t [] [.vfs] := by
  obtain ⟨hd, -, -, only⟩ := begin_spec h
  have sent : RingsAndSent s ((u.hostWriteOut (d.vf + 1) a bytes).finish d.vf d.ring x.index stSUCCESS 0) _ :=
    finish_ringsOnly (only.hostWriteOut (d.vf + 1) a bytes []) ..
  have written : (u.hostWriteOut (d.vf + 1) a bytes).desc? d = some x := (desc?_of_vfs rfl).trans hd
  exact answers_of_done exe ⟨finished_refreshPf (finished_finish written stSUCCESS 0), sent.sent.pf, (sent.frame [] (by simp)).pf⟩

theorem answers_signal (h : s.begin d tySIGNAL = some (x, u)) (host : (x.w 6).testBit 1 = false) (may : u.mayRequest (d.vf + 1) = true) :
    Answers (.signal d) s fun t =>
      Finished t d stSUCCESS ∧ Sent s t (s.writeTlps (d.vf + 1) (x.q 2) (toBytes 8 (x.q 4)) []) ∧ Frame s t [] [.vfs] := by
  refine answers_writeAndFinish h ?_
  show execSignal d s = _
  rw [execSignal, h]
  simp only [host, may, Bool.not_false, if_true]

theorem answers_query (h : s.begin d tyQUERY = some (x, u)) (may : u.mayRequest (d.vf + 1) = true) :
    Answers (.query d) s fun t =>
      Finished t d stSUCCESS ∧ Sent s t (s.writeTlps (d.vf + 1) (x.q 2) (u.queryBlock d.vf (x.w 4)) []) ∧ Frame s t [] [.vfs] := by
  refine answers_writeAndFinish h ?_
  show execQuery d s = _
  rw [execQuery, h]
  simp only [may, if_true]

theorem answers_telemetrySnapshot (h : s.begin d tySNAPSHOT = some (x, u)) (may : u.mayRequest (d.vf + 1) = true) (hx : x.snap ≠ []) :
    Answers (.telemetrySnapshot d) s fun t =>
      Finished t d stSUCCESS ∧ Sent s t (s.writeTlps (d.vf + 1) (x.q 2) x.snap []) ∧ Frame s t [] [.vfs] := by
  refine answers_writeAndFinish h ?_
  show execTelemetrySnapshot d s = _
  rw [execTelemetrySnapshot, h]
  exact if_pos ⟨hx, may⟩

/-! ### BARRIER (R298) -/

theorem exec_barrier {y : Desc} (hy : s.desc? d = some y) (fetched : y.phase = .fetched) (h : s.begin d tyBARRIER = some (x, u)) :
    exec (.barrier d) s = done (u.arriveBarrier d.vf d.ring x) := by
  show execBarrier d s = _
  have go : ((s.desc? d).map Desc.phase != some .running) = true := by simp [hy, fetched]
  rw [execBarrier, h]
  simp only [go, State.when_true]

theorem answers_firstArrival {y : Desc} (hy : s.desc? d = some y) (fetched : y.phase = .fetched) (h : s.begin d tyBARRIER = some (x, u))
    (none : ((u.vf d.vf).barriers.filter fun b => b.id == bitsOf (x.w 2) 0 4) = []) (two : 2 ≤ bitsOf (x.w 2) 8 4) :
    Answers (.barrier d) s fun t =>
      (t.vf d.vf).barriers = (u.vf d.vf).barriers ++
          [{ id := bitsOf (x.w 2) 0 4, count := bitsOf (x.w 2) 8 4, ring := d.ring, index := x.index }] ∧
        t.desc? d = some x ∧ Frame s t [] [.vfs] := by
  obtain ⟨hd, -, -, only⟩ := begin_spec h
  have exe := exec_barrier hy fetched h
  rw [State.arriveBarrier, none] at exe
  simp only [List.head?_nil, Option.map_none, Option.getD_none, ne_eq, not_true_eq_false, if_false, List.length_nil] at exe
  rw [if_pos (by omega)] at exe
  refine answers_of_done exe ⟨?_, ?_, ((only.modVf _ _).frame [] (by simp)).pf⟩
  · rw [State.refreshPf_vf, State.vf_modVf_same]
  · rw [refreshPf_desc?]
    exact Eq.trans (desc?_modVf u d _ (by intro; rfl)) hd

theorem answers_barrierMismatch {y : Desc} {b : BarrierWait} (hy : s.desc? d = some y) (fetched : y.phase = .fetched)
    (h : s.begin d tyBARRIER = some (x, u))
    (first : ((u.vf d.vf).barriers.filter fun b => b.id == bitsOf (x.w 2) 0 4).head? = some b)
    (other : b.count ≠ bitsOf (x.w 2) 8 4) :
    Answers (.barrier d) s fun t =>
      Finished t d stBARRIER_MISMATCH ∧ (t.vf d.vf).barriers = (u.vf d.vf).barriers ∧ Frame s t [] [.vfs] := by
  obtain ⟨hd, -, -, only⟩ := begin_spec h
  have exe := exec_barrier hy fetched h
  rw [State.arriveBarrier] at exe
  simp only [first, Option.map_some, Option.getD_some] at exe
  rw [if_pos other] at exe
  refine answers_of_done exe ⟨finished_refreshPf (finished_finish hd _ 0), ?_, ((finish_ringsOnly only ..).frame [] (by simp)).pf⟩
  rw [State.refreshPf_vf, State.finish, State.modDesc, State.vf_modVf_same]

theorem answers_lastArrival {y : Desc} {b : BarrierWait} {e : DescRef} (hy : s.desc? d = some y) (fetched : y.phase = .fetched)
    (h : s.begin d tyBARRIER = some (x, u))
    (one : ((u.vf d.vf).barriers.filter fun b => b.id == bitsOf (x.w 2) 0 4) = [b])
    (two : b.count = 2) (count : bitsOf (x.w 2) 8 4 = 2) (vf : e.vf = d.vf) (ring : e.ring.val = b.ring) (index : e.index = b.index)
    (he : u.desc? e ≠ none) :
    Answers (.barrier d) s fun t =>
      Finished t d stSUCCESS ∧ Finished t e stSUCCESS ∧ (∀ w ∈ (t.vf d.vf).barriers, w.id ≠ bitsOf (x.w 2) 0 4) ∧ Frame s t [] [.vfs] := by
  obtain ⟨hd, -, -, only⟩ := begin_spec h
  have exe := exec_barrier hy fetched h
  let a := u.finish d.vf d.ring x.index stSUCCESS 0
  let c := a.finish d.vf b.ring b.index stSUCCESS 0
  rw [State.arriveBarrier, one] at exe
  simp only [List.head?_cons, Option.map_some, Option.getD_some, two, count, ne_eq, not_true_eq_false, if_false, List.length_singleton] at exe
  rw [if_neg (by decide)] at exe
  have walk : overList [b] a (fun u b => u.finish d.vf b.ring b.index stSUCCESS 0) = c := rfl
  rw [walk] at exe
  have same (w : Fin 32) (hw : w = d.vf) : SameRings w c (c.modVf d.vf fun v => { v with barriers := v.barriers.filter fun b => b.id != bitsOf (x.w 2) 0 4 }) := by
    subst hw
    exact (SameRings.refl _ _).modVf _ fun _ => rfl
  refine answers_of_done exe ⟨?_, ?_, fun w hw => ?_, ?_⟩
  · exact finished_refreshPf (finished_of_sameRings (finished_finishAgain (finished_finish hd stSUCCESS 0) d.vf b.ring b.index 0) (same _ rfl))
  · refine finished_refreshPf (finished_of_sameRings ?_ (same _ vf))
    obtain ⟨z, hz⟩ := Option.ne_none_iff_exists'.1 he
    have still : ∃ z, a.desc? e = some z := by
      by_cases r : e.vf.val ≠ d.vf.val ∨ e.ring.val ≠ d.ring.val
      · refine ⟨z, ?_⟩
        show ((u.modDesc d.vf d.ring x.index _).ring e.vf e.ring).descs.find? _ = _
        rw [modDesc_ring_ne u x.index _ r]
        exact hz
      · obtain ⟨r1, r2⟩ := not_or.1 r |>.imp not_not.1 not_not.1
        have found := desc?_modDesc u e x.index (fun z => { z with phase := .finished, status := stSUCCESS, code := 0 }) fun _ hz => hz
        rw [hz, Option.map_some, r1, r2] at found
        exact ⟨_, found⟩
    obtain ⟨z', hz'⟩ := still
    have fin := finished_finish hz' stSUCCESS 0
    rwa [desc?_index hz', vf, ring, index] at fin
  · rw [State.refreshPf_vf, State.vf_modVf_same, List.mem_filter] at hw
    simpa using hw.2
  · exact ((RingsOnly.modVf (finish_ringsOnly (finish_ringsOnly only ..) ..) _ _).frame [] (by simp)).pf

/-! ### The obligation -/

/-- Settles O11: each descriptor that starts runs alone in its ring, and finishes through the same change of its entry. -/
theorem smallDescriptorsComplete : Obligations.SmallDescriptorsComplete := by
  unfold Obligations.SmallDescriptorsComplete
  refine ⟨fun s u d x h => answers_nopDescriptor h, fun s u d x h c => answers_fenceDescriptor h c,
    fun s u d x v h p w => answers_waitHolds h p w, fun s u d x y hy hf h => ?_, fun s u d x h b m => answers_signal h b m,
    fun s u d x h m => answers_query h m, fun s u d x h m c => answers_telemetrySnapshot h m c⟩
  exact ⟨fun none two => answers_firstArrival hy hf h none two,
    fun b e one two count vf ring index he => answers_lastArrival hy hf h one two count vf ring index he,
    fun b first other => answers_barrierMismatch hy hf h first other⟩

end Sys2Proof.Machine
end

section
/-! Descriptors that end on a timeout or on a failed host request (05, R234; 06, R298, R306, R308). -/

namespace Sys2Proof.Machine

variable {s t u : State} {n i : Nat} {d : DescRef} {x : Desc}

/-! ### Timeouts (R298) -/

/-- The BARRIER that a descriptor waits at forgets it. -/
abbrev leftBarrier (s : State) (d : DescRef) : State :=
  s.modVf d.vf fun v => { v with barriers := v.barriers.filter fun b => !(b.ring == d.ring.val && b.index == d.index) }

/-- A descriptor past its timeout finishes, and is withdrawn from its BARRIER. -/
theorem timeOut_spec {ty : Nat} (h : s.desc? d = some x) (hty : x.type = ty) (hp : x.phase = .running)
    (hw : x.w (if ty = tyWAIT then 9 else 3) ≠ 0) :
    Finished (s.timeOut d ty) d stTIMEOUT ∧ RingsOnly s (s.timeOut d ty) ∧
      ∀ b ∈ ((s.timeOut d ty).vf d.vf).barriers, ¬ (b.ring = d.ring.val ∧ b.index = d.index) := by
  have e : s.timeOut d ty = (leftBarrier s d).finish d.vf d.ring x.index stTIMEOUT 0 := by
    rw [State.timeOut, h]
    exact (if_pos ⟨hty, hp, hw⟩).trans (by rw [desc?_index h])
  have hd : (leftBarrier s d).desc? d = some x := Eq.trans (desc?_modVf s d _ (by intro; rfl)) h
  rw [e]
  refine ⟨finished_finish hd stTIMEOUT 0, finish_ringsOnly ((RingsOnly.refl s).modVf _ _) .., fun b hb => ?_⟩
  rw [State.finish, State.modDesc, State.vf_modVf_same, State.vf_modVf_same, List.mem_filter] at hb
  obtain ⟨-, kept⟩ := hb
  simpa [← not_and_or] using kept

theorem answers_waitTimeout (h : s.desc? d = some x) (hty : x.type = tyWAIT) (hp : x.phase = .running) (hw : x.w 9 ≠ 0) :
    Answers (.waitTimeout d) s fun t => Finished t d stTIMEOUT ∧ Frame s t [] [.vfs] := by
  obtain ⟨fin, only, -⟩ := timeOut_spec h hty hp (by rwa [if_pos rfl])
  exact answers_of_done (t := s.timeOut d tyWAIT) rfl ⟨finished_refreshPf fin, (only.frame [] (by simp)).pf⟩

theorem answers_barrierTimeout (h : s.desc? d = some x) (hty : x.type = tyBARRIER) (hp : x.phase = .running) (hw : x.w 3 ≠ 0) :
    Answers (.barrierTimeout d) s fun t => Finished t d stTIMEOUT ∧ Frame s t [] [.vfs] ∧
      ∀ b ∈ (t.vf d.vf).barriers, ¬ (b.ring = d.ring.val ∧ b.index = d.index) := by
  obtain ⟨fin, only, left⟩ := timeOut_spec h hty hp (by rwa [if_neg (by decide)])
  refine answers_of_done (t := s.timeOut d tyBARRIER) rfl ⟨finished_refreshPf fin, (only.frame [] (by simp)).pf, ?_⟩
  rw [State.refreshPf_vf]
  exact left

/-! ### What a descriptor's start depends on (R300, R302) -/

/-- Which descriptor a ring would start next does not depend on HOST_ERR. -/
theorem startable_congr (hv : t.vfs = s.vfs) (hr : t.regions = s.regions) (hw : ∀ off, off ≠ R.HOST_ERR → SameWord off s t) :
    t.startable n i = s.startable n i := by
  have ring : t.ring n i = s.ring n i := (SameRings.of_vfs hv).ring i
  have rgn : t.rgn n = s.rgn n := by rw [State.rgn, State.rgn, hr]
  have vf : t.vf n = s.vf n := by rw [State.vf, State.vf, hv]
  have state : t.rgnState n = s.rgnState n := (hw (R.RGN_STATE n) (by simp only [R.RGN_STATE, R.HOST_ERR]; omega)).fld (F.RGN_STATE_STATE n) rfl
  have power : t.fld F.PWR_STATE_STATE = s.fld F.PWR_STATE_STATE := (hw _ (by decide)).fld F.PWR_STATE_STATE rfl
  have ringOff : R.RING_STATUS n i ≠ R.HOST_ERR := by simp only [R.RING_STATUS, R.HOST_ERR]; omega
  have ringState : t.ringState n i = s.ringState n i := (hw _ ringOff).fld (F.RING_STATUS_STATE n i) rfl
  have paused : t.on (F.RING_STATUS_PAUSED n i) = s.on (F.RING_STATUS_PAUSED n i) := by
    rw [State.on, State.on, (hw _ ringOff).fld (F.RING_STATUS_PAUSED n i) rfl]
  have starts : t.vfStarts n = s.vfStarts n := by rw [State.vfStarts, State.vfStarts, vf, state, power]
  have held (y : Desc) : t.ruleBookHeld n y = s.ruleBookHeld n y := by rw [State.ruleBookHeld, State.ruleBookHeld, rgn, state]
  rw [State.startable, State.startable, ring, ringState, paused, starts]
  simp only [held]

/-- A descriptor goes on, or starts: when it does. -/
theorem begin_isSome_iff {ty : Nat} (h : s.desc? d = some x) :
    (s.begin d ty).isSome = true ↔ x.type = ty ∧
      (x.phase = .running ∨
        x.phase = .fetched ∧ s.turn d.vf = some d.ring.val ∧ (s.startable d.vf d.ring).map Desc.index = some x.index) := by
  rw [State.begin, h]
  by_cases hty : x.type = ty <;> by_cases run : x.phase = .running
  · simp [hty, run]
  · by_cases go : x.phase = .fetched ∧ s.turn d.vf = some d.ring.val ∧ (s.startable d.vf d.ring).map Desc.index = some x.index
    · simp [hty, go]
    · simp [hty, run]
  · simp [hty]
  · simp [hty]

theorem begin_words {ty : Nat} {y : Desc} (hy : s.desc? d = some y) (h : s.begin d ty = some (x, u)) : x.words = y.words := by
  unfold State.begin at h
  rw [hy] at h
  simp only at h
  split at h
  · exact absurd h (by simp)
  · split at h
    · rw [← (Prod.mk.inj (Option.some.inj h)).1]
    · split at h
      · rw [← (Prod.mk.inj (Option.some.inj h)).1]
      · exact absurd h (by simp)

/-- A failed host request ends its descriptor, in a state that differs in HOST_ERR alone. -/
theorem hostFailed_spec (h : s.desc? d = some x) (reads : x.readsHost = true) (go : (s.begin d x.type).isSome = true) (code : Nat)
    (hv : t.vfs = s.vfs) (hr : t.regions = s.regions) (hw : ∀ off, off ≠ R.HOST_ERR → SameWord off s t) :
    (∃ y, (s.hostFailed d code t).desc? d = some y ∧ y.phase = .finished ∧ y.status = stHOST_DMA_ERROR ∧ y.code = code ∧
      y.aborted = true ∧ y.abortCause = acHOST_DMA_ERROR) ∧ ∃ m, RingsAndSent t (s.hostFailed d code t) m := by
  have ht : t.desc? d = some x := (desc?_of_vfs hv).trans h
  have turn : t.turn d.vf = s.turn d.vf := by
    rw [State.turn, State.turn, State.vf, State.vf, hv]
    congr 1
    exact funext fun i => by rw [startable_congr hv hr hw]
  have go' : (t.begin d x.type).isSome = true := by
    rw [begin_isSome_iff ht, turn, startable_congr hv hr hw]
    exact (begin_isSome_iff h).1 go
  obtain ⟨⟨x', u⟩, hb⟩ := Option.isSome_iff_exists.1 go'
  obtain ⟨hd, -, -, only⟩ := begin_spec hb
  have reads' : x'.readsHost = true := by
    have words := begin_words ht hb
    rw [← reads, Desc.readsHost, Desc.readsHost, Desc.type, Desc.type, Desc.w, Desc.w, Desc.w, Desc.w, words]
  let a := u.hostReadOut (d.vf + 1) x'.hostRead.1 x'.hostRead.2
  let f : Desc → Desc := fun y =>
    { y with aborted := true, abortCause := acHOST_DMA_ERROR, result := if y.type = tyWAIT then y.result else y.done }
  have e : s.hostFailed d code t = a.finish d.vf d.ring x'.index stHOST_DMA_ERROR code f := by
    rw [State.hostFailed, h]
    simp only [hb]
    exact if_pos reads'
  have ha : a.desc? d = some x' := (desc?_of_vfs rfl).trans hd
  rw [e]
  exact ⟨⟨_, desc?_finish ha stHOST_DMA_ERROR code f fun _ => rfl, rfl, rfl, rfl, rfl, rfl⟩, _,
    finish_ringsOnly (only.hostReadOut (d.vf + 1) x'.hostRead.1 x'.hostRead.2) ..⟩

/-! ### The image that a failed read drops (R308, R514) -/

@[simp] theorem rgn_setWord (s : State) (o w n : Nat) : (s.setWord o w).rgn n = s.rgn n := rfl

theorem dropImage_image (s : State) (n : Nat) : ((s.dropImage n).rgn n).image = none := by
  simp [State.dropImage, State.lower]

theorem dropImage_vfs (s : State) (n : Nat) : (s.dropImage n).vfs = s.vfs := by
  simp [State.dropImage, State.lower, State.modRgn]

/-! ### A failed host request (R234, R306) -/

theorem hostErr_ne (m : Nat) : R.HOST_ERR ≠ R.RGN_STATE m := by simp only [R.RGN_STATE, R.HOST_ERR]; omega


/-- The three ways a host request fails: its command, its bit of HOST_ERR, the code of its completion. -/
abbrev failures (d : DescRef) : List (Instr × Fld × Nat) :=
  [(.hostDmaErrorResponse d .ur, F.HOST_ERR_DMA_UR, 1), (.hostDmaErrorResponse d .ca, F.HOST_ERR_DMA_CA, 2),
    (.hostReadTimeout d, F.HOST_ERR_DMA_TIMEOUT, 3)]

theorem exec_failure {c : Instr} {f : Fld} {code : Nat} (h : (c, f, code) ∈ failures d) :
    exec c s = done (s.readFailed d code fun t => t.setFld f 1) ∧ f.off = R.HOST_ERR ∧ f.lo + f.width ≤ 32 ∧ f.width = 1 := by
  simp only [failures, List.mem_cons, Prod.mk.injEq, List.not_mem_nil, or_false] at h
  obtain ⟨rfl, rfl, rfl⟩ | ⟨rfl, rfl, rfl⟩ | ⟨rfl, rfl, rfl⟩ := h <;> exact ⟨rfl, rfl, by decide, rfl⟩

theorem answers_failedRead {c : Instr} {f : Fld} {code : Nat} (h : s.desc? d = some x) (hc : (c, f, code) ∈ failures d)
    (hn : s.rebuilding d = false) (reads : x.readsHost = true) (go : (s.begin d x.type).isSome = true) :
    Answers c s fun t =>
      (∃ y, t.desc? d = some y ∧ y.phase = .finished ∧ y.status = stHOST_DMA_ERROR ∧ y.code = code ∧ y.aborted = true ∧
        y.abortCause = acHOST_DMA_ERROR) ∧ t.fld f = 1 ∧
        (x.type = tyLOAD ∧ x.stage = 2 → (t.rgn d.vf).image = none) ∧
        (¬ (x.type = tyLOAD ∧ x.stage = 2) → Frame s t [R.HOST_ERR] [.vfs]) := by
  obtain ⟨exe, off, wide, one⟩ := exec_failure (s := s) hc
  let a := s.setFld f 1
  let b := s.hostFailed d code a
  have marked (o : Nat) (ho : o ≠ R.HOST_ERR) : SameWord o s a := (SameWord.refl _ s).setFld f 1 (by rwa [off])
  obtain ⟨ended, m, sent⟩ := hostFailed_spec h reads go code (t := a) rfl rfl marked
  have read : s.readFailed d code (fun t => t.setFld f 1) = b.when (x.type == tyLOAD && x.stage == 2) fun u => u.dropImage d.vf := by
    rw [State.readFailed, hn, h]
    exact (if_neg Bool.false_ne_true).trans (if_pos (by rw [reads, go]; rfl))
  have bit1 : b.fld f = 1 := by
    obtain ⟨v, k, e⟩ := sent
    have words : b.fld f = a.fld f := by
      show (s.hostFailed d code a).fld f = _
      rw [e]
      rfl
    rw [words]
    exact (State.fld_setFld_same s f 1 wide).trans (by rw [one]; rfl)
  have pf (y : State) : y.refreshPf.fld f = y.fld f := State.refreshPf_fld y f (by rw [off]; decide)
  rw [read] at exe
  refine answers_of_done exe ?_
  by_cases load : x.type = tyLOAD ∧ x.stage = 2
  · have cond : (x.type == tyLOAD && x.stage == 2) = true := by simp [load]
    have image := dropImage_image b d.vf
    have vfs := dropImage_vfs b d.vf
    have host : SameWord R.HOST_ERR b (b.dropImage d.vf) := word_dropImage b d.vf (low_notImage (by decide) _) (hostErr_ne d.vf)
    rw [cond, State.when_true, pf, refreshPf_desc?, desc?_of_vfs vfs, State.refreshPf_rgn]
    exact ⟨ended, (host.fld f off).trans bit1, fun _ => image, fun no => absurd load no⟩
  · have cond : (x.type == tyLOAD && x.stage == 2) = false := by simpa using load
    rw [cond, State.when_false, pf, refreshPf_desc?]
    refine ⟨ended, bit1, fun yes => absurd yes load, fun _ => Frame.pf ?_⟩
    exact ((Frame.refl s _ _).setFld f 1 (by rw [off]; simp)).trans (sent.frame _ (by simp))

/-! ### A failed read of a rebuild (log 150) -/

theorem rebuilding_launch (h : s.rebuilding d = true) : ∃ l, (s.rgn d.vf).launch = some l ∧ l.ring = d.ring.val ∧ l.index = d.index := by
  rw [State.rebuilding, Bool.and_eq_true, Option.any_eq_true] at h
  obtain ⟨-, l, hl, e⟩ := h
  simp only [Bool.and_eq_true, beq_iff_eq] at e
  exact ⟨l, hl, e.1⟩

theorem answers_failedRebuild {c : Instr} {f : Fld} {code : Nat} (h : s.desc? d = some x) (hc : (c, f, code) ∈ failures d)
    (hb : s.rebuilding d = true) :
    Answers c s fun t =>
      Finished t d stHOST_DMA_ERROR ∧ t.fld f = 1 ∧ t.rgnState d.vf = rREADY ∧ (t.rgn d.vf).launch = none ∧
        (t.rgn d.vf).image = (s.rgn d.vf).image ∧ ∀ m, m < 32 → m ≠ d.vf.val → t.rgnState m = s.rgnState m := by
  obtain ⟨exe, off, wide, one⟩ := exec_failure (s := s) hc
  obtain ⟨l, hl, ring, index⟩ := rebuilding_launch hb
  let g : Desc → Desc := fun y => { y with poison := y.poison || l.poison, result := l.framesDone }
  let fail : Desc → Desc := fun y => { y with aborted := true, abortCause := acHOST_DMA_ERROR }
  let a := s.setFld f 1
  let b := a.modRgn d.vf fun r => { r with launch := none }
  let c' := b.finish d.vf d.ring x.index stHOST_DMA_ERROR code g
  let e := c'.setFld (F.RGN_STATE_STATE d.vf) rREADY
  let w := e.modDesc d.vf d.ring x.index fail
  have read : s.readFailed d code (fun t => t.setFld f 1) = w := by
    have hl' : (a.rgn d.vf).launch = some l := hl
    have ends : a.endLaunch d.vf stHOST_DMA_ERROR code = c' := by
      rw [State.endLaunch, hl']
      simp only [ring, index, ← desc?_index h]
      rfl
    have fails : s.readFailed d code (fun t => t.setFld f 1) =
        (a.closeLaunch d.vf stHOST_DMA_ERROR code).modDesc d.vf d.ring d.index fail := if_pos hb
    rw [fails, State.closeLaunch, ends, ← desc?_index h]
  rw [read] at exe
  have hd : b.desc? d = some x := (desc?_of_vfs rfl).trans h
  have hd' : c'.desc? d = some { g x with phase := .finished, status := stHOST_DMA_ERROR, code := code } :=
    desc?_finish hd stHOST_DMA_ERROR code g fun _ => rfl
  have hd'' : e.desc? d = some { g x with phase := .finished, status := stHOST_DMA_ERROR, code := code } := (desc?_of_vfs rfl).trans hd'
  have hw : w.desc? d = some (fail { g x with phase := .finished, status := stHOST_DMA_ERROR, code := code }) :=
    desc?_modDesc_of hd'' fail fun _ hy => hy
  have rgn : w.rgn d.vf = { s.rgn d.vf with launch := none } := State.rgn_modRgn_same a d.vf fun r => { r with launch := none }
  have stateOff (m : Nat) : (F.RGN_STATE_STATE m).off ≠ R.INT_PF_STATUS := by simp only [F.RGN_STATE_STATE, R.RGN_STATE, R.INT_PF_STATUS]; omega
  refine answers_of_done exe ⟨finished_refreshPf ⟨_, hw, rfl, rfl⟩, ?_, ?_, ?_, ?_, fun m hm ne => ?_⟩
  · rw [State.refreshPf_fld _ _ (by rw [off]; decide)]
    have late : SameWord f.off a w := by
      have h0 : SameWord f.off a c' := .of_regs rfl
      have h1 : SameWord f.off a e := h0.setFld (F.RGN_STATE_STATE d.vf) rREADY (by rw [off]; exact hostErr_ne _)
      exact h1.trans (.of_regs rfl)
    exact (late.fld f rfl).trans ((State.fld_setFld_same s f 1 wide).trans (by rw [one]; rfl))
  · rw [refreshPf_rgnState]
    exact State.fld_setFld_same c' (F.RGN_STATE_STATE d.vf) rREADY (show 0 + 3 ≤ 32 by decide)
  · rw [State.refreshPf_rgn, rgn]
  · rw [State.refreshPf_rgn, rgn]
  · rw [refreshPf_rgnState]
    have other : SameWord (R.RGN_STATE m) s w := by
      have h0 : SameWord (R.RGN_STATE m) s a := (SameWord.refl _ s).setFld f 1 (by rw [off]; exact (hostErr_ne m).symm)
      have h1 : SameWord (R.RGN_STATE m) s c' := h0.trans (.of_regs rfl)
      have h2 : SameWord (R.RGN_STATE m) s e := h1.setFld (F.RGN_STATE_STATE d.vf) rREADY (by simp only [F.RGN_STATE_STATE, R.RGN_STATE]; omega)
      exact h2.trans (.of_regs rfl)
    exact other.fld (F.RGN_STATE_STATE m) rfl

/-! ### The obligation -/

/-- Settles O12: a failure marks HOST_ERR, which no start of a descriptor depends on. -/
theorem descriptorsEndOnTimeoutOrHostError : Obligations.DescriptorsEndOnTimeoutOrHostError := by
  unfold Obligations.DescriptorsEndOnTimeoutOrHostError
  exact ⟨fun s d x => answers_waitTimeout, fun s d x => answers_barrierTimeout,
    fun s d x c f code h hc => ⟨answers_failedRead h hc, answers_failedRebuild h hc⟩⟩

end Sys2Proof.Machine
end

section
/-! Every step keeps the state canonical (R6, R82): what each function of the model does to the registers, to HBM and to the
timestamp. One lemma per function of the model, in the order of their definitions; each is put together from those of the functions
that it calls, so that a proof reads as the function does. -/

namespace Sys2Proof.Machine

variable {s t u : State}

/-! ### What a change of the state keeps -/

/-- A change of other components than the registers, HBM and the timestamp. -/
theorem State.Canonical.keep {a1 a2 a3 a4 a5 a6 a7 a8 a9 a10 a11 a12 a13 a14 a15 a16 a17 a18 a19 a20 a21 a22 a23 a24 a25 a26 a27 a28 a29 a30 a31
      a32 a33} (h : s.Canonical) :
    State.Canonical (State.mk a1 s.time a2 s.regs a3 a4 a5 a6 a7 a8 a9 a10 a11 a12 a13 a14 a15 a16 a17 a18 a19 a20 s.hbm a21 a22 a23 a24 a25
      a26 a27 a28 a29 a30 a31 a32 a33) := h

theorem State.Canonical.ite {c : Prop} [Decidable c] (h : s.Canonical) (k : t.Canonical) : (if c then s else t).Canonical := by
  split
  · exact h
  · exact k

theorem State.Canonical.snd {α : Type} {p : α × State} {a : α} (h : p.2.Canonical) (e : p = (a, t)) : t.Canonical := by
  subst e
  exact h

theorem State.Canonical.snd2 {α β : Type} {p : α × β × State} {a : α} {b : β} (h : p.2.2.Canonical) (e : p = (a, b, t)) : t.Canonical := by
  subst e
  exact h

theorem State.Canonical.snd3 {α β γ : Type} {p : α × β × γ × State} {a : α} {b : β} {c : γ} (h : p.2.2.2.Canonical)
    (e : p = (a, b, c, t)) : t.Canonical := by
  subst e
  exact h

/-- What a walk over a list leaves, as `g` reads the state from it. -/
theorem foldl_canonical {α σ : Type} (g : σ → State) (f : σ → α → σ) (hf : ∀ x a, (g x).Canonical → (g (f x a)).Canonical) (l : List α) :
    ∀ b, (g b).Canonical → (g (l.foldl f b)).Canonical := by
  induction l with
  | nil => exact fun _ h => h
  | cons a l ih => exact fun b h => ih _ (hf b a h)

theorem State.Canonical.overList {α : Type} {l : List α} {f : State → α → State} (h : s.Canonical)
    (hf : ∀ u a, u.Canonical → (f u a).Canonical) : (Machine.overList l s f).Canonical := foldl_canonical id f hf l s h

theorem State.Canonical.foldl {α : Type} {l : List α} {f : State → α → State} (h : s.Canonical)
    (hf : ∀ u a, u.Canonical → (f u a).Canonical) : (l.foldl f s).Canonical := foldl_canonical id f hf l s h

/-- The next state of an outcome is canonical. -/
def CanonicalNext (o : Host.Outcome State Fault Refusal) : Prop := ∀ t, o = .next t → t.Canonical

theorem CanonicalNext.ite {c : Prop} [Decidable c] {o p : Host.Outcome State Fault Refusal} (h : CanonicalNext o) (k : CanonicalNext p) :
    CanonicalNext (if c then o else p) := by
  split
  · exact h
  · exact k

/-- The state that an operation ends with is canonical. -/
def CanonicalEnd : OpEnd → Prop
  | .next s => s.Canonical
  | .jump _ s => s.Canonical
  | .wait _ s => s.Canonical
  | .ended s => s.Canonical

theorem CanonicalEnd.next (h : s.Canonical) : CanonicalEnd (.next s) := h
theorem CanonicalEnd.jump {n : Nat} (h : s.Canonical) : CanonicalEnd (.jump n s) := h
theorem CanonicalEnd.wait {w : CoreWait} (h : s.Canonical) : CanonicalEnd (.wait w s) := h
theorem CanonicalEnd.ended (h : s.Canonical) : CanonicalEnd (.ended s) := h
theorem CanonicalEnd.ite {c : Prop} [Decidable c] {o p : OpEnd} (h : CanonicalEnd o) (k : CanonicalEnd p) :
    CanonicalEnd (if c then o else p) := by
  split
  · exact h
  · exact k

/-- The state that a request leaves, if it is served, is canonical. -/
def CanonicalSome : Option State → Prop
  | none => True
  | some s => s.Canonical

theorem CanonicalSome.none : CanonicalSome none := trivial
theorem CanonicalSome.some (h : s.Canonical) : CanonicalSome (some s) := h
theorem CanonicalSome.of_eq {o : Option State} (h : CanonicalSome o) (e : o = Option.some s) : s.Canonical := by
  subst e
  exact h
theorem CanonicalSome.ite {c : Prop} [Decidable c] {o p : Option State} (h : CanonicalSome o) (k : CanonicalSome p) :
    CanonicalSome (if c then o else p) := by
  split
  · exact h
  · exact k
theorem CanonicalSome.map {α : Type} {o : Option α} {f : α → State} (hf : ∀ a, (f a).Canonical) : CanonicalSome (o.map f) := by
  cases o
  · trivial
  · exact hf _
theorem State.Canonical.getD {o : Option State} (h : CanonicalSome o) (k : s.Canonical) : (o.getD s).Canonical := by
  cases o
  · exact k
  · exact h

/-- What a request that waits for a line leaves. -/
def CanonicalWait : LineWait → Prop
  | .waits s => s.Canonical
  | _ => True

theorem CanonicalWait.waits (h : s.Canonical) : CanonicalWait (.waits s) := h
theorem CanonicalWait.of_eq {o : LineWait} (h : CanonicalWait o) (e : o = .waits s) : s.Canonical := by
  subst e
  exact h
theorem CanonicalWait.ite {c : Prop} [Decidable c] {o p : LineWait} (h : CanonicalWait o) (k : CanonicalWait p) :
    CanonicalWait (if c then o else p) := by
  split
  · exact h
  · exact k

/-- What an accepted or waiting write leaves. -/
def CanonicalWrite : WriteEnd → Prop
  | .accepted s => s.Canonical
  | .waits s => s.Canonical
  | .full => True

theorem CanonicalWrite.accepted (h : s.Canonical) : CanonicalWrite (.accepted s) := h
theorem CanonicalWrite.waits (h : s.Canonical) : CanonicalWrite (.waits s) := h
theorem CanonicalWrite.of_accepted {o : WriteEnd} (h : CanonicalWrite o) (e : o = .accepted s) : s.Canonical := by
  subst e
  exact h
theorem CanonicalWrite.of_waits {o : WriteEnd} (h : CanonicalWrite o) (e : o = .waits s) : s.Canonical := by
  subst e
  exact h
theorem CanonicalWrite.ite {c : Prop} [Decidable c] {o p : WriteEnd} (h : CanonicalWrite o) (k : CanonicalWrite p) :
    CanonicalWrite (if c then o else p) := by
  split
  · exact h
  · exact k

/-- A register is written with 32 bits (R6). -/
theorem State.Canonical.setWord {off w : Nat} (h : s.Canonical) : (s.setWord off w).Canonical := by
  obtain ⟨sorted, words, hbm, time⟩ := h
  refine ⟨smPut_sorted _ _ sorted, fun e he => ?_, hbm, time⟩
  obtain rfl | he := mem_smPut he
  · exact Nat.mod_lt _ (by decide)
  · exact words e he

/-- Registers that return to their cold values. -/
theorem State.Canonical.filter {p : Nat × Nat → Bool} (h : s.Canonical) : ({ s with regs := s.regs.filter p } : State).Canonical := by
  obtain ⟨sorted, words, hbm, time⟩ := h
  exact ⟨filter_sorted p sorted, fun e he => words e (List.mem_of_mem_filter he), hbm, time⟩

/-- A change of HBM, and of other components than the registers and the timestamp. -/
theorem State.Canonical.keepHbm {a1 a2 a3 a4 a5 a6 a7 a8 a9 a10 a11 a12 a13 a14 a15 a16 a17 a18 a19 a20 a21 a22 a23 a24 a25 a26 a27 a28 a29 a30 a31
      a32 a33} {m : PMem} (h : s.Canonical) (hm : m.wf = true) :
    State.Canonical (State.mk a1 s.time a2 s.regs a3 a4 a5 a6 a7 a8 a9 a10 a11 a12 a13 a14 a15 a16 a17 a18 a19 a20 m a21 a22 a23 a24 a25 a26 a27
      a28 a29 a30 a31 a32 a33) := by
  obtain ⟨sorted, words, -, time⟩ := h
  exact ⟨sorted, words, hm, time⟩

/-- The module after a power-down: every register at its cold value, HBM empty. -/
theorem State.Canonical.reset : State.reset.Canonical := ⟨rfl, fun e he => absurd he List.not_mem_nil, by decide, by decide⟩

/-! ### The functions of the model -/

theorem State.Canonical.setFld {f : Fld} {v : Nat} (h : s.Canonical) : (s.setFld f v).Canonical := .setWord h

theorem State.Canonical.raise {f : Fld} (h : s.Canonical) : (s.raise f).Canonical := .setFld h

theorem State.Canonical.lower {f : Fld} (h : s.Canonical) : (s.lower f).Canonical := .setFld h

theorem State.Canonical.countSat {f : Fld} {k : Nat} (h : s.Canonical) : (s.countSat f k).Canonical := .setFld h

theorem State.Canonical.countMod {f : Fld} {k : Nat} (h : s.Canonical) : (s.countMod f k).Canonical := .setFld h

theorem State.Canonical.setBit {f : Fld} {i : Nat} {b : Bool} (h : s.Canonical) : (s.setBit f i b).Canonical := .setFld h

theorem State.Canonical.draw (h : s.Canonical) : (s.draw).2.Canonical := .keep h

theorem State.Canonical.emit {o : Out} (h : s.Canonical) : (s.emit o).Canonical := .keep h

theorem State.Canonical.newId (h : s.Canonical) : (s.newId).2.Canonical := .keep h

theorem State.Canonical.newIds {k : Nat} (h : s.Canonical) : (s.newIds k).2.Canonical := .keep h

theorem State.Canonical.modFn {i : Nat} {f : FnState → FnState} (h : s.Canonical) : (s.modFn i f).Canonical := .keep h

theorem State.Canonical.modVf {n : Nat} {f : VfRings → VfRings} (h : s.Canonical) : (s.modVf n f).Canonical := .keep h

theorem State.Canonical.modRgn {n : Nat} {f : Region → Region} (h : s.Canonical) : (s.modRgn n f).Canonical := .keep h

theorem State.Canonical.modCore {g : Nat} {f : Core → Core} (h : s.Canonical) : (s.modCore g f).Canonical := .keep h

theorem State.Canonical.modCluster {c : Nat} {f : Cluster → Cluster} (h : s.Canonical) : (s.modCluster c f).Canonical := .keep h

theorem State.Canonical.modPort {p : Nat} {f : Port → Port} (h : s.Canonical) : (s.modPort p f).Canonical := .keep h

theorem State.Canonical.when {b : Bool} {f : State → State} (h : s.Canonical) (hf : ∀ u, u.Canonical → (f u).Canonical) :
    (s.when b f).Canonical := .ite (hf _ h) h

theorem State.Canonical.act {n k c : Nat} (h : s.Canonical) : (s.act n k c).Canonical := .modRgn h

theorem State.Canonical.hostWriteOut {i addr : Nat} {bytes : List Byte} {bad : List Nat} (h : s.Canonical) :
    (s.hostWriteOut i addr bytes bad).Canonical := .keep h

theorem State.Canonical.hostReadOut {i addr len : Nat} (h : s.Canonical) : (s.hostReadOut i addr len).Canonical := .keep h

theorem State.Canonical.driveClkreq {low : Bool} (h : s.Canonical) : (s.driveClkreq low).Canonical := .ite h (.keep h)

theorem State.Canonical.sendMsix {i v : Nat} (h : s.Canonical) : (s.sendMsix i v).Canonical := .ite h (.ite (.modFn h) (.emit h))

theorem State.Canonical.sendHeld {i v : Nat} (h : s.Canonical) : (s.sendHeld i v).Canonical := .ite (.emit (.modFn h)) h

theorem State.Canonical.sendVf {n v : Nat} (h : s.Canonical) : (s.sendVf n v).Canonical := .sendMsix h

theorem State.Canonical.refreshVector {v : Nat} (h : s.Canonical) : (s.refreshVector v).Canonical :=
  .ite h (.ite (.sendMsix (.setBit h)) (.setBit h))

theorem State.Canonical.refreshPf (h : s.Canonical) : (s.refreshPf).Canonical := .overList h (fun _ _ hu => .refreshVector hu)

theorem CanonicalNext.done (h : s.Canonical) : CanonicalNext (Machine.done s) := by
  intro t e
  obtain rfl : s.refreshPf = t := by simpa [Machine.done] using e
  exact h.refreshPf

theorem State.Canonical.dropPath (h : s.Canonical) : (s.dropPath).Canonical := .keep h

theorem State.Canonical.at {k : Nat} (h : s.Canonical) : (s.at k).Canonical := by
  obtain ⟨sorted, words, hbm, -⟩ := h
  exact ⟨sorted, words, hbm, Nat.mod_lt _ (by decide)⟩

theorem State.Canonical.noteXings (h : s.Canonical) : (s.noteXings).Canonical := .setFld h

theorem State.Canonical.darkenXings (h : s.Canonical) : (s.darkenXings).Canonical := .noteXings (.keep h)

theorem State.Canonical.openEvent {c : SupplyClass} {start declare extreme : Nat} {why : LossWhy} (h : s.Canonical) :
    (s.openEvent c start declare extreme why).2.Canonical := by
  unfold State.openEvent
  extract_lets +onlyGivenNames i w0 t __src
  have ht : t.Canonical := .setWord (.setWord (.setWord (.setWord h)))
  exact .keep (.raise (.countMod ht))

theorem State.Canonical.updateEvent {e : OpenEvent} (h : s.Canonical) : (s.updateEvent e).Canonical := .ite (.setFld (.setFld h)) h

theorem State.Canonical.closeEvent {e : OpenEvent} (h : s.Canonical) : (s.closeEvent e).Canonical :=
  .raise (.when (.updateEvent h) (fun _ hu => .lower hu))

theorem State.Canonical.updateShed (h : s.Canonical) : (s.updateShed).Canonical := .ite (.keep (.setFld h)) (.setFld h)

theorem State.Canonical.applyShed (h : s.Canonical) : (s.applyShed).Canonical := .keep (.countSat (.raise h))

theorem State.Canonical.noteCap (h : s.Canonical) : (s.noteCap).Canonical := .setFld h

theorem State.Canonical.updateRefreshOnly (h : s.Canonical) : (s.updateRefreshOnly).Canonical :=
  .setFld (.overList h (fun _ _ hu => .setFld hu))

theorem State.Canonical.declareLoss {start declare extreme : Nat} {why : LossWhy} (h : s.Canonical) :
    (s.declareLoss start declare extreme why).Canonical := by
  unfold State.declareLoss
  split
  · exact h
  · exact .keepHbm (.draw (.dropPath (.setFld (.setFld (.lower (.lower (.lower (.lower (.lower (.openEvent h)))))))))) rfl

theorem State.Canonical.startSlew (h : s.Canonical) : (s.startSlew).Canonical := .ite (.keep (.raise (.setFld h))) h

theorem execShed_canonical (h : s.Canonical) : CanonicalNext (execShed s) := .ite (.done (.applyShed h)) (.done h)

theorem execUnshed_canonical (h : s.Canonical) : CanonicalNext (execUnshed s) := .ite (.done (.lower h)) (.done h)

theorem execSlewComplete_canonical (h : s.Canonical) : CanonicalNext (execSlewComplete s) := .ite (.done (.lower (.setFld h))) (.done h)

theorem execAonTrimWindow_canonical {count : BitVec 20} (h : s.Canonical) : CanonicalNext (execAonTrimWindow count s) := by
  unfold execAonTrimWindow
  split
  · exact .done h
  · extract_lets +onlyGivenNames c a
    have ha : a.Canonical := .setFld (.setFld (.raise h))
    exact .ite (.done (.setFld ha)) (.done ha)

theorem execXtal32Stop_canonical (h : s.Canonical) : CanonicalNext (execXtal32Stop s) :=
  .ite (.done h) (.done (.raise (.lower (.lower h))))

theorem execXrefQualifyTimeout_canonical (h : s.Canonical) : CanonicalNext (execXrefQualifyTimeout s) := by
  unfold execXrefQualifyTimeout
  split
  · extract_lets +onlyGivenNames t
    have ht : t.Canonical := .lower (.lower (.raise h))
    exact .done (.keep ht)
  · exact .done h

theorem execPllLossOfLock_canonical {pll : Pll} (h : s.Canonical) : CanonicalNext (execPllLossOfLock pll s) := by
  unfold execPllLossOfLock
  split
  · exact .done h
  · split
    next v t e =>
    have ht : t.Canonical := .snd (.draw h) e
    extract_lets +onlyGivenNames b
    split
    · exact .done (.setFld (.raise ht))
    · exact .done (.setFld (.raise ht))
    · exact .done (.setFld (.raise ht))

theorem State.Canonical.integLog {e : IntegError} (h : s.Canonical) : (s.integLog e).Canonical :=
  .countMod (.setWord (.setWord (.setWord (.setWord h))))

theorem State.Canonical.integEvent {cause : Fld} {region : Option Nat} (h : s.Canonical) : (s.integEvent cause region).Canonical := by
  unfold State.integEvent
  extract_lets +onlyGivenNames t
  split
  · exact .sendVf (.raise h)
  · exact .raise h

theorem State.Canonical.integRaise {e : IntegError} {cause : Fld} (h : s.Canonical) : (s.integRaise e cause).Canonical :=
  .integEvent (.integLog h)

theorem State.Canonical.logCe {e : IntegError} (h : s.Canonical) : (s.logCe e).Canonical := .ite h (.keep (.integLog h))

theorem State.Canonical.bushelAdd {i : Nat} (h : s.Canonical) : (s.bushelAdd i).Canonical :=
  .ite (.integEvent (.raise (.keep (.setFld h)))) (.setFld h)

theorem State.Canonical.count {f : Fld} {k : Nat} (h : s.Canonical) : (s.count f k).Canonical := .countSat h

theorem State.Canonical.sliceCe {i : Nat} {e : IntegError} (h : s.Canonical) : (s.sliceCe i e).Canonical := .bushelAdd (.logCe (.count h))

theorem State.Canonical.sliceUe {i : Nat} {e : IntegError} (h : s.Canonical) : (s.sliceUe i e).Canonical := .integRaise (.count h)

theorem State.Canonical.clusterUe {c : Nat} {e : IntegError} (h : s.Canonical) : (s.clusterUe c e).Canonical := .integRaise (.count h)

theorem State.Canonical.clusterCe {c : Nat} {e : IntegError} (h : s.Canonical) : (s.clusterCe c e).Canonical := .logCe (.count h)

theorem State.Canonical.poisonIn {kind unit : Nat} {region : Option Nat} (h : s.Canonical) : (s.poisonIn kind unit region).Canonical :=
  .integRaise h

theorem State.Canonical.launchPoison {n : Nat} (h : s.Canonical) : (s.launchPoison n).Canonical := .modRgn h

theorem State.Canonical.modChan {c : Nat} {f : Chan → Chan} (h : s.Canonical) : (s.modChan c f).Canonical := .keep h

theorem State.Canonical.countGrant {n cls parts used : Nat} {boosted promoted : Bool} (h : s.Canonical) :
    (s.countGrant n cls parts used boosted promoted).Canonical := by
  unfold State.countGrant
  exact .when (.when h (fun _ hu => .countSat hu)) (fun _ hu => .countSat hu)

theorem State.Canonical.modReq {id : Nat} {f : HReq → HReq} (h : s.Canonical) : (s.modReq id f).Canonical := .keep h

theorem State.Canonical.noteQueue {ch : Nat} (h : s.Canonical) : (s.noteQueue ch).Canonical := .setFld (.setFld (.setFld h))

theorem State.Canonical.countHeld {r : HReq} {byFeedback : Bool} (h : s.Canonical) : (s.countHeld r byFeedback).Canonical :=
  .ite h (.when (.countSat (.modReq h)) (fun _ hu => .countSat hu))

theorem State.Canonical.countHolds {n cls : Nat} {l : List (Nat × Bool)} (h : s.Canonical) : (s.countHolds n cls l).Canonical :=
  .overList h (fun _ _ hu => .when (.countSat hu) (fun _ hv => .countSat hv))

theorem State.Canonical.injectN {fuel ch : Nat} (h : s.Canonical) : (State.injectN fuel s ch).Canonical := by
  induction fuel generalizing s with
  | zero => exact h
  | succ fuel ih =>
    unfold State.injectN
    split
    · exact h
    · exact .ite h (ih (.modReq h))

theorem State.Canonical.injectAll {ch : Nat} (h : s.Canonical) : (s.injectAll ch).Canonical :=
  .noteQueue (.overList (.injectN h) (fun _ _ hu => .countHeld hu))

theorem State.Canonical.ask {r : HReq} (h : s.Canonical) : (s.ask r).Canonical := .injectAll (.keep (.newId h))

theorem State.Canonical.modSlice {i : Nat} {f : Slice → Slice} (h : s.Canonical) : (s.modSlice i f).Canonical := .keep h

theorem State.Canonical.sramWrite {i : Nat} {bytes : Mem} {bad : List Nat} (h : s.Canonical) : (s.sramWrite i bytes bad).Canonical :=
  .modSlice h

theorem State.Canonical.copySector {i sec k : Nat} (h : s.Canonical) : (s.copySector i sec k).Canonical := .modSlice h

theorem State.Canonical.noteMeridian {i : Nat} (h : s.Canonical) : (s.noteMeridian i).Canonical := .setFld (.setFld (.setFld h))

theorem State.Canonical.chargeBeats {n ch cls beats : Nat} (h : s.Canonical) : (s.chargeBeats n ch cls beats).Canonical :=
  .modChan (.act (.countMod (.countMod h)))

theorem State.Canonical.chargeFetch {n ch cls beats : Nat} (h : s.Canonical) : (s.chargeFetch n ch cls beats).Canonical :=
  .chargeBeats (.countGrant h)

theorem State.Canonical.queueWrite {n cls ch c : Nat} {l : CLine} (h : s.Canonical) : (s.queueWrite n cls ch c l).Canonical :=
  .ite h (.ask h)

theorem State.Canonical.writeBack {n i cls : Nat} {l : CLine} (h : s.Canonical) : (s.writeBack n i cls l).Canonical :=
  .ite h (.countMod (.queueWrite h))

theorem State.Canonical.putLineN {fuel n i cls : Nat} {l : CLine} (h : s.Canonical) : (State.putLineN fuel s n i cls l).Canonical := by
  induction fuel generalizing s i l with
  | zero => exact .noteMeridian (.modSlice h)
  | succ fuel ih =>
    unfold State.putLineN
    extract_lets sl inSet
    refine .ite (.writeBack h) (.ite (.noteMeridian (.modSlice h)) ?_)
    split
    · exact h
    · split
      · exact .noteMeridian (.modSlice h)
      · exact .noteMeridian (.writeBack (.modSlice h))
      · exact ih (.noteMeridian (.modSlice (.modSlice h)))

theorem State.Canonical.putLine {n i cls : Nat} {l : CLine} (h : s.Canonical) : (s.putLine n i cls l).Canonical := .putLineN h

theorem State.Canonical.settleLine {n home line : Nat} {dropCopies : Bool} (h : s.Canonical) :
    (s.settleLine n home line dropCopies).Canonical := by
  unfold State.settleLine
  split
  · exact h
  · extract_lets +onlyGivenNames s1 s2 e'
    have hs1 : s1.Canonical := by
        unfold s1
        split
        · exact h
        · split
          · exact h
          · exact .noteMeridian (.putLine (.countSat (.modSlice h)))
    exact .noteMeridian (.modSlice (.ite (.overList hs1 (fun _ _ hu => .noteMeridian (.modSlice hu))) hs1))

theorem State.Canonical.fetchLine {n i line mask cls : Nat} (h : s.Canonical) : (s.fetchLine n i line mask cls).Canonical := by
  unfold State.fetchLine
  extract_lets +onlyGivenNames l need
  split
  · exact .countMod (.modSlice h)
  · exact .ite (.modSlice (.chargeFetch (.countMod h))) (.putLine (.chargeFetch (.countMod h)))

theorem State.Canonical.dropStaged {i line : Nat} (h : s.Canonical) : (s.dropStaged i line).Canonical := .ite (.modSlice h) h

theorem State.Canonical.recompress {n i w line : Nat} (h : s.Canonical) : (s.recompress n i w line).Canonical :=
  .ite (.setFld (.modSlice h)) (.integRaise (.countSat (.setBit (.setFld (.modSlice h)))))

theorem State.Canonical.exactWrite {n i w byte : Nat} {v : Nat} {whole bad : Bool} (h : s.Canonical) :
    (s.exactWrite n i w byte v whole bad).Canonical := by
  unfold State.exactWrite
  extract_lets +onlyGivenNames byte m p
  split
  · exact .modSlice h
  · split
    · exact .setBit h
    · exact .ite (.countSat (.modSlice h)) (.modSlice h)

theorem State.Canonical.exactAdd {n i w byte : Nat} {v : Nat} {bad : Bool} (h : s.Canonical) :
    (s.exactAdd n i w byte v bad).Canonical := by
  unfold State.exactAdd
  extract_lets +onlyGivenNames byte m p t
  split
  · exact .modSlice (.countMod h)
  · split
    · exact .countSat (.setBit (.countMod h))
    · extract_lets +onlyGivenNames sum poisoned t1 t2
      have ht2 : t2.Canonical := .ite (.setBit (.modSlice (.countMod h))) (.modSlice (.countMod h))
      exact .ite (.countSat ht2) ht2

theorem State.Canonical.putGranule {n a cls : Nat} {pay : Payload} (h : s.Canonical) : (s.putGranule n a cls pay).Canonical := by
  unfold State.putGranule
  extract_lets +onlyGivenNames g
  split
  · exact h
  · exact .sramWrite h
  · exact .overList h (fun _ _ hu => .ite hu (.exactWrite hu))
  · exact .modSlice h
  · exact .dropStaged (.putLine h)

theorem State.Canonical.recompressAt {n a : Nat} (h : s.Canonical) : (s.recompressAt n a).Canonical := by
  unfold State.recompressAt
  split
  · exact .recompress h
  · exact h

theorem State.Canonical.writeGranule {n a cls : Nat} {pay : Payload} (h : s.Canonical) : (s.writeGranule n a cls pay).Canonical :=
  .recompressAt (.putGranule h)

theorem State.Canonical.settleFor {n a : Nat} {writing : Bool} (h : s.Canonical) : (s.settleFor n a writing).Canonical := by
  unfold State.settleFor
  split
  · exact .settleLine h
  · exact h

theorem State.Canonical.loadGranule {n a cls : Nat} (h : s.Canonical) : (s.loadGranule n a cls).2.Canonical := by
  unfold State.loadGranule
  split
  · extract_lets +onlyGivenNames t g __src
    have ht : t.Canonical := .fetchLine (.settleLine h)
    exact .keep (.dropStaged ht)
  · exact .keep h

theorem State.Canonical.storeGranule {n a cls : Nat} {pay : Payload} (h : s.Canonical) : (s.storeGranule n a cls pay).Canonical :=
  .writeGranule (.settleFor h)

theorem State.Canonical.loadPiece {n a len cls : Nat} (h : s.Canonical) : (s.loadPiece n a len cls).2.2.Canonical := by
  unfold State.loadPiece
  split
  · extract_lets +onlyGivenNames t r __src
    have ht : t.Canonical := .fetchLine (.settleLine h)
    exact .keep (.dropStaged ht)
  · exact .keep h

theorem State.Canonical.loadRange {n a len cls : Nat} (h : s.Canonical) : (s.loadRange n a len cls).2.2.Canonical := by
  refine foldl_canonical (fun acc : List Byte × List Nat × State => acc.2.2) _ (fun acc p hu => ?_) _ _ h
  exact .loadPiece hu

theorem State.Canonical.homeStore {n addr cls : Nat} {bytes : Mem} {poison : List Nat} (h : s.Canonical) :
    (s.homeStore n addr cls bytes poison).Canonical :=
  .overList (.overList h (fun _ _ hu => .putGranule (.settleFor hu))) (fun _ _ hu => .recompress hu)

theorem State.Canonical.storeRange {n a cls : Nat} {bytes : List Byte} {bad : List Nat} (h : s.Canonical) :
    (s.storeRange n a cls bytes bad).Canonical := .ite h (.homeStore h)

theorem State.Canonical.performAtomic {n a aop fmt x c : Nat} {bad : Bool} (h : s.Canonical) :
    (s.performAtomic n a aop fmt x c bad).2.2.Canonical := by
  unfold State.performAtomic
  extract_lets +onlyGivenNames count
  split
  · exact h
  · exact .countMod (.keep (.modSlice h))
  · exact .countMod (.recompress (.keep (.modSlice h)))
  · exact .countMod (.keep (.exactAdd h))
  · exact .countMod (.keep (.dropStaged (.putLine h)))

theorem State.Canonical.elementAtomic {n a aop fmt x cls : Nat} {bad : Bool} (h : s.Canonical) :
    (s.elementAtomic n a aop fmt x cls bad).Canonical := by
  unfold State.elementAtomic
  extract_lets +onlyGivenNames s s1
  have hs : s.Canonical := by
      unfold s
      split
      · exact .countMod h
      · exact h
  have hs1 : s1.Canonical := by
      unfold s1
      split
      · exact .fetchLine (.settleLine hs)
      · exact hs
  split
  · split
    · exact .exactAdd hs1
    · exact hs1
  · exact .keep (.writeGranule hs1)

theorem State.Canonical.installRoutes {n : Nat} {m : RouteMap} (h : s.Canonical) : (s.installRoutes n m).Canonical :=
  .setFld (.setFld (.setFld (.setFld (.modRgn h))))

theorem State.Canonical.settle (h : s.Canonical) : (s.settle).Canonical := .keep h

theorem State.Canonical.eject {p : Packet} {input : Nat} (h : s.Canonical) : (s.eject p input).Canonical := .keep h

theorem State.Canonical.clearPackets {gone : Packet → Bool} (h : s.Canonical) : (s.clearPackets gone).Canonical := .keep h

theorem State.Canonical.inject {p : Packet} (h : s.Canonical) : (s.inject p).Canonical := .ite (.countSat h) (.keep h)

theorem State.Canonical.dropCutOff {n : Nat} (h : s.Canonical) : (s.dropCutOff n).Canonical := .countSat (.keep h)

theorem State.Canonical.coreException {n g code : Nat} (h : s.Canonical) : (s.coreException n g code).Canonical := .modRgn (.modCore h)

theorem State.Canonical.settleOp {g : Nat} {e : OpEnd} (h : CanonicalEnd e) : (Machine.settleOp g e).Canonical := by
  cases e <;> exact .modCore h

theorem CanonicalNext.issue {g : Nat} {opc : BitVec 8} {o : OpFields} {checks : Nat → Core → List Nat}
    {act : Nat → Core → State → OpEnd} (h : s.Canonical) (hf : ∀ x0 x1 u, u.Canonical → CanonicalEnd (act x0 x1 u)) :
    CanonicalNext (Machine.issue g opc o s checks act) := by
  unfold Machine.issue
  split
  · split
    · exact .done h
    · extract_lets +onlyGivenNames t
      split
      · exact .done (.coreException (.modCore h))
      · exact .done (.settleOp (hf _ _ _ (.modCore h)))
  · exact .done h

theorem State.Canonical.returnLines {n g : Nat} (h : s.Canonical) : (s.returnLines n g).Canonical :=
  .overList h (fun _ _ hu => .overList hu (fun _ _ hv => .noteMeridian (.inject (.modSlice (.newId hv)))))

theorem State.Canonical.release {n g scope : Nat} (h : s.Canonical) : (s.release n g scope).Canonical := .ite (.returnLines h) h

theorem State.Canonical.stopFills {c : Nat} {p : LoadOp → Bool} (h : s.Canonical) : (s.stopFills c p).Canonical :=
  .overList h (fun _ _ hu => .ite (.modCore hu) hu)

theorem State.Canonical.acquire {g scope : Nat} (h : s.Canonical) : (s.acquire g scope).Canonical := .ite (.stopFills (.modCluster h)) h

theorem CanonicalEnd.whenReleased {n g scope : Nat} {async wanted : Bool} {act : State → OpEnd} (h : s.Canonical)
    (hf : ∀ u, u.Canonical → CanonicalEnd (act u)) :
    CanonicalEnd (Machine.whenReleased s n g scope async wanted act) := .ite (hf _ h) (.ite (hf _ h) (.wait (.release h)))

theorem State.Canonical.loadDone {n g : Nat} {l : LoadOp} {bytes : List Byte} {bad : Nat → Bool} (h : s.Canonical) :
    (s.loadDone n g l bytes bad).Canonical := by
  unfold State.loadDone
  extract_lets +onlyGivenNames val isBad poisoned t
  have ht : t.Canonical := .when h (fun _ hu => .launchPoison hu)
  exact .ite (.modCluster ht) (.modCore ht)

theorem State.Canonical.awaitLoad {g : Nat} {l : LoadOp} (h : s.Canonical) : (s.awaitLoad g l).Canonical := .modCore h

theorem CanonicalEnd.remoteLoad {n g a : Nat} {l : LoadOp} {vol : Bool} (h : s.Canonical) :
    CanonicalEnd (Machine.remoteLoad s n g a l vol) := by
  unfold Machine.remoteLoad
  extract_lets +onlyGivenNames cl
  split
  extract_lets +onlyGivenNames l ro
  split
  · exact .next (.loadDone (.modCluster h))
  · split
    · exact .next (.awaitLoad h)
    · split
      · exact .wait h
      · exact .next (.awaitLoad (.inject (.when (.newId h) (fun _ hu => .stopFills (.modCluster hu)))))

theorem State.Canonical.clusterError {n c off : Nat} {e : MemError} (h : s.Canonical) : (s.clusterError n c off e).Canonical := by
  unfold State.clusterError
  extract_lets +onlyGivenNames word
  split
  next v t e =>
  have ht : t.Canonical := .snd (.draw h) e
  extract_lets +onlyGivenNames base
  split
  · exact h
  · split
    · exact .clusterCe ht
    · exact .clusterCe ht
    · exact .modCluster (.clusterUe h)
    · exact h

theorem State.Canonical.roError {n c a : Nat} {e : MemError} (h : s.Canonical) : (s.roError n c a e).Canonical := by
  unfold State.roError
  split
  next v t e =>
  have ht : t.Canonical := .snd (.draw h) e
  extract_lets +onlyGivenNames base
  split
  · exact .clusterCe ht
  · exact .clusterCe ht
  · exact .modCluster (.clusterCe h)
  · exact h

theorem execLd_canonical {g : Fin 1024} {o : OpFields} {e : MemError} (h : s.Canonical) : CanonicalNext (execLd g o e s) := by
  unfold execLd
  exact .issue h (fun _ _ _ hu => by
        extract_lets +onlyGivenNames a l hit t
        have ht : t.Canonical := .ite (.clusterError hu) (.ite (.roError hu) hu)
        exact .ite (.next (.loadDone (.keep ht))) (.remoteLoad ht))

theorem execLdg_canonical {g : Fin 1024} {o : OpFields} (h : s.Canonical) : CanonicalNext (execLdg g o s) :=
  .issue h (fun _ _ _ hu => .remoteLoad hu)

theorem CanonicalEnd.bufferStore {n g a : Nat} {bytes : List Byte} {bad : List Nat} (h : s.Canonical) :
    CanonicalEnd (Machine.bufferStore s n g a bytes bad) := by
  unfold Machine.bufferStore
  extract_lets +onlyGivenNames c base m put t
  have ht : t.Canonical := .when h (fun _ hu => .launchPoison hu)
  exact .ite (.next (.modCore ht)) (.ite (.next (.modCore (.newId ht))) (.wait h))

theorem execSt_canonical {g : Fin 1024} {o : OpFields} (h : s.Canonical) : CanonicalNext (execSt g o s) := by
  unfold execSt
  exact .issue h (fun _ _ _ hu => .ite (.next (.modCluster (.when hu (fun _ hv => .launchPoison hv)))) (.bufferStore hu))

theorem execStg_canonical {g : Fin 1024} {o : OpFields} (h : s.Canonical) : CanonicalNext (execStg g o s) :=
  .issue h (fun _ _ _ hu => .bufferStore (.keep hu))

theorem State.Canonical.sendEntry {n g : Nat} {e : SbEntry} (h : s.Canonical) : (s.sendEntry n g e).Canonical := .inject (.modCore h)

theorem State.Canonical.sendEntries {n g id : Nat} (h : s.Canonical) : (s.sendEntries n g id).Canonical :=
  .overList h (fun _ _ hu => .ite (.sendEntry hu) hu)

theorem State.Canonical.sendAtomic {n g : Nat} {o : OpFields} {a x cmp : Nat} {bad : Bool} (h : s.Canonical) :
    (s.sendAtomic n g o a x cmp bad).Canonical := by
  unfold State.sendAtomic
  extract_lets +onlyGivenNames aop fmt ret scope own
  split
  · exact .ite (.awaitLoad (.inject (.newId h))) (.modCore (.inject (.newId h)))
  · exact .ite (.modCore (.keep (.draw h))) (.ite (.awaitLoad (.inject (.newId (.draw h)))) (.modCore (.inject (.newId (.draw h)))))

theorem execAtom_canonical {g : Fin 1024} {o : OpFields} (h : s.Canonical) : CanonicalNext (execAtom g o s) := by
  unfold execAtom
  exact .issue h (fun _ _ _ hu => by
        extract_lets +onlyGivenNames a x cmp bad
        split
        · exact .next (.ite (.modCore (.when (.modCluster (.keep hu)) (fun _ hv => .launchPoison hv))) (.when (.modCluster
            (.keep hu)) (fun _ hv => .launchPoison hv)))
        · split
          · exact .ite (.next (.sendAtomic hu)) (.wait hu)
          · exact .ite (.next (.sendAtomic (.sendEntries hu))) (.wait (.sendEntries hu)))

theorem State.Canonical.countTransfer {e col : Nat} {out : Bool} (h : s.Canonical) : (s.countTransfer e col out).Canonical :=
  .ite (.countMod (.countMod h)) (.countMod (.countMod h))

theorem State.Canonical.transfer {n cls e col bytes : Nat} {out : Bool} {promoted : Bool} (h : s.Canonical) :
    (s.transfer n cls e col bytes out promoted).Canonical := by
  unfold State.transfer
  extract_lets +onlyGivenNames key used t __src
  have h__src : __src.Canonical := .countTransfer (.countGrant h)
  exact .keep h__src

theorem State.Canonical.actFlit {p : Nat} (h : s.Canonical) : (s.actFlit p).Canonical := by
  unfold State.actFlit
  split
  · exact h
  · exact .act h

theorem State.Canonical.sendHead {p : Nat} {k : Packet} (h : s.Canonical) : (s.sendHead p k).Canonical :=
  .modPort (.actFlit (.emit (.setFld h)))

theorem State.Canonical.pumpN {fuel p : Nat} (h : s.Canonical) : (State.pumpN fuel s p).Canonical := by
  induction fuel generalizing s with
  | zero => exact h
  | succ fuel ih =>
    unfold State.pumpN
    split
    · exact h
    · exact .ite (ih (.sendHead h)) h

theorem State.Canonical.pump {p : Nat} (h : s.Canonical) : (s.pump p).Canonical := .pumpN h

theorem State.Canonical.modDesc {vf ring : Nat} {index : Word} {f : Desc → Desc} (h : s.Canonical) :
    (s.modDesc vf ring index f).Canonical := .modVf h

theorem State.Canonical.answerCore {q : Packet} {g port : Nat} {wrote : Bool} {data : List Byte} {bad : List Nat} (h : s.Canonical) :
    (s.answerCore q g port wrote data bad).Canonical := .ite (.inject (.newId h)) (.inject (.newId h))

theorem State.Canonical.answer {q : Packet} {a : Answer} (h : s.Canonical) : (s.answer q a).Canonical := by
  unfold State.answer
  extract_lets +onlyGivenNames o data bad s wrote s1
  have hs1 : s1.Canonical := .when (.keep h) (fun _ hu => .launchPoison hu)
  split
  · exact .answerCore hs1
  · exact .ite (.countSat hs1) (.modCluster hs1)
  · exact .modDesc hs1
  · exact hs1

theorem State.Canonical.linkDown {p : Nat} {q : Packet} (h : s.Canonical) : (s.linkDown p q).Canonical :=
  .ite h (.answer (.poisonIn (.countSat h)))

theorem State.Canonical.toPort {p : Nat} {k : Packet} (h : s.Canonical) : (s.toPort p k).Canonical :=
  .ite (.linkDown h) (.pump (.modPort h))

theorem State.Canonical.toEdge {k : Packet} (h : s.Canonical) : (s.toEdge k).Canonical := .keep (.newId h)

theorem State.Canonical.track {n home line seed : Nat} {f : Tracker → Tracker} (h : s.Canonical) :
    (s.track n home line seed f).Canonical := by
  unfold State.track
  extract_lets +onlyGivenNames tr
  split
  · exact .modSlice h
  · extract_lets +onlyGivenNames t
    have ht : t.Canonical := by
        unfold t
        split
        · exact .settleLine h
        · exact h
    exact .noteMeridian (.modSlice ht)

theorem State.Canonical.giveCopy {n home p line : Nat} (h : s.Canonical) : (s.giveCopy n home p line).Canonical := .putLine (.track h)

theorem State.Canonical.giveBorrow {n home p line : Nat} (h : s.Canonical) : (s.giveBorrow n home p line).Canonical := .putLine (.track h)

theorem State.Canonical.proxyFetch {n p line : Nat} {writing : Bool} (h : s.Canonical) : (s.proxyFetch n p line writing).Canonical := by
  unfold State.proxyFetch
  split
  · exact h
  · extract_lets +onlyGivenNames home t
    have ht : t.Canonical := .fetchLine (.settleLine h)
    exact .ite (.giveBorrow ht) (.giveCopy ht)

theorem State.Canonical.dmaLoadPiece {n tile a len : Nat} (h : s.Canonical) : (s.dmaLoadPiece n tile a len).2.2.Canonical := by
  unfold State.dmaLoadPiece
  split
  · exact .loadPiece h
  · extract_lets +onlyGivenNames line t l r __src
    have h__src : __src.Canonical := .modSlice (.proxyFetch h)
    exact .keep h__src

theorem State.Canonical.dmaStorePiece {n tile g a : Nat} {bytes : List Byte} {bad : List Nat} (h : s.Canonical) :
    (s.dmaStorePiece n tile g a bytes bad).Canonical := by
  unfold State.dmaStorePiece
  split
  · exact .storeRange h
  · exact .modSlice (.proxyFetch h)

theorem State.Canonical.dmaLoadRange {n tile a len : Nat} (h : s.Canonical) : (s.dmaLoadRange n tile a len).2.2.Canonical := by
  refine foldl_canonical (fun acc : List Byte × List Nat × State => acc.2.2) _ (fun acc p hu => ?_) _ _ h
  exact .dmaLoadPiece hu

theorem State.Canonical.dmaStoreRange {n tile g a : Nat} {bytes : List Byte} {bad : List Nat} (h : s.Canonical) :
    (s.dmaStoreRange n tile g a bytes bad).Canonical := .overList h (fun _ _ hu => .dmaStorePiece hu)

theorem CanonicalEnd.queueTransfer {g : Nat} {opc : Nat} {c : Core} {o : OpFields} (h : t.Canonical) :
    CanonicalEnd (Machine.queueTransfer t g opc c o) := .ite (.wait h) (.next (.modCluster (.newId h)))

theorem execDmag_canonical {g : Fin 1024} {o : OpFields} (h : s.Canonical) : CanonicalNext (execDmag g o s) :=
  .issue h (fun _ _ _ hu => .queueTransfer hu)

theorem execDmap_canonical {g : Fin 1024} {o : OpFields} (h : s.Canonical) : CanonicalNext (execDmap g o s) :=
  .issue h (fun _ _ _ hu => .queueTransfer hu)

theorem execDmaf_canonical {g : Fin 1024} {o : OpFields} (h : s.Canonical) : CanonicalNext (execDmaf g o s) :=
  .issue h (fun _ _ _ hu => .queueTransfer hu)

theorem execTatom_canonical {g : Fin 1024} {o : OpFields} (h : s.Canonical) : CanonicalNext (execTatom g o s) :=
  .issue h (fun _ _ _ hu => .queueTransfer hu)

theorem execGather_canonical {g : Fin 1024} {o : OpFields} (h : s.Canonical) : CanonicalNext (execGather g o s) :=
  .issue h (fun _ _ _ hu => .queueTransfer hu)

theorem execScatter_canonical {g : Fin 1024} {o : OpFields} (h : s.Canonical) : CanonicalNext (execScatter g o s) :=
  .issue h (fun _ _ _ hu => .queueTransfer hu)

theorem State.Canonical.intoCluster {c off : Nat} {bytes : List Byte} {bad : List Nat} (h : s.Canonical) :
    (s.intoCluster c off bytes bad).Canonical := .modCluster h

theorem State.Canonical.ruleEntries {n a k : Nat} (h : s.Canonical) : (s.ruleEntries n a k).2.Canonical := .loadRange h

theorem State.Canonical.transferRows {n : Nat} {t : Transfer} (h : s.Canonical) : (s.transferRows n t).2.Canonical := by
  unfold State.transferRows
  split
  · split
    · exact h
    · exact .when (.ruleEntries h) (fun _ hu => .launchPoison hu)
  · exact h

theorem State.Canonical.sendTraffic {n c : Nat} {t : Transfer} {f : Traffic} (h : s.Canonical) : (s.sendTraffic n c t f).Canonical :=
  .overList (.modCluster h) (fun _ _ hu => .toEdge (.newId hu))

theorem State.Canonical.remoteRead {n : Nat} {t : Transfer} {a len : Nat} (h : s.Canonical) : (s.remoteRead n t a len).2.2.Canonical := by
  unfold State.remoteRead
  extract_lets +onlyGivenNames c
  split
  · exact h
  · split
    · exact h
    · split
      · exact .dmaLoadRange h
      · exact .loadRange h

theorem State.Canonical.runTransfer {n : Nat} {t : Transfer} {rows : List (Option Nat)} (h : s.Canonical) :
    (s.runTransfer n t rows).Canonical := by
  unfold State.runTransfer
  extract_lets +onlyGivenNames c f link
  split
  · exact .overList h (fun _ _ hu => .intoCluster (.when (.remoteRead hu) (fun _ hv => .launchPoison hv)))
  · exact .overList h (fun _ _ hu => by
          extract_lets +onlyGivenNames v
          have hv : v.Canonical := .when hu (fun _ hv => .launchPoison hv)
          exact .ite hv (.dmaStoreRange hv))
  · exact .overList h (fun _ _ hu => by
          extract_lets +onlyGivenNames v
          have hv : v.Canonical := .when hu (fun _ hv => .launchPoison hv)
          exact .ite hv (.dmaStoreRange hv))
  · exact .overList h (fun _ _ hu => by
          split
          · exact .intoCluster (.keep hu)
          · exact .intoCluster (.when (.remoteRead hu) (fun _ hv => .launchPoison hv)))
  · exact .overList h (fun _ _ hu => by
          extract_lets +onlyGivenNames v
          have hv : v.Canonical := .when hu (fun _ hv => .launchPoison hv)
          exact .ite hv (.ite (.intoCluster (.keep hv)) (.elementAtomic hv)))

theorem State.Canonical.holdTransfer {n : Nat} {t : Transfer} {rows : List (Option Nat)} (h : s.Canonical) :
    (s.holdTransfer n t rows).Canonical := .ite h (.modCluster (.countHolds h))

theorem State.Canonical.countGather {t : Transfer} (h : s.Canonical) : (s.countGather t).Canonical :=
  .ite (.countMod h) (.ite (.countMod h) h)

theorem State.Canonical.endTransfer {n : Nat} {t : Transfer} {rows : List (Option Nat)} (h : s.Canonical) :
    (s.endTransfer n t rows).Canonical := .modCluster (.runTransfer h)

theorem State.Canonical.progress {n : Nat} {t : Transfer} (h : s.Canonical) : (s.progress n t).Canonical := .ite h (.modCluster (.keep h))

theorem State.Canonical.progressCluster {c : Nat} (h : s.Canonical) : (s.progressCluster c).Canonical := by
  unfold State.progressCluster
  split
  · exact h
  · exact .ite h (.overList h (fun _ _ hu => .progress hu))

theorem State.Canonical.progressAll (h : s.Canonical) : (s.progressAll).Canonical := .overList h (fun _ _ hu => .progressCluster hu)

theorem execDmaTransferComplete_canonical {cluster : Fin 128} {slot : Fin 16} (h : s.Canonical) :
    CanonicalNext (execDmaTransferComplete cluster slot s) := by
  unfold execDmaTransferComplete
  split
  · exact .ite (.done h) (.ite (.done (.holdTransfer h)) (.ite (.done (.sendTraffic (.transferRows h))) (.ite (.done h) (.done
      (.modCore (.modCluster (.countGather (.endTransfer (.transferRows h)))))))))
  · exact .done h

theorem State.Canonical.putUnit {k : UnitKind} {i st : Nat} (h : s.Canonical) : (s.putUnit k i st).Canonical := by
  unfold State.putUnit
  split
  · exact h
  · extract_lets +onlyGivenNames t u
    have hu : u.Canonical := .raise (.setBit (.setBit h))
    split
    · exact hu
    · exact .setBit (.setBit (.setFld hu))

theorem State.Canonical.dropCluster {c : Nat} (h : s.Canonical) : (s.dropCluster c).Canonical :=
  .overList (.modCluster h) (fun _ _ hu => .modCore hu)

theorem State.Canonical.stopUnit {k : UnitKind} {i : Nat} (h : s.Canonical) : (s.stopUnit k i).Canonical := by
  unfold State.stopUnit
  split
  · exact .modCore h
  · exact .ite h (.clearPackets (.dropCluster h))
  · exact h

theorem State.Canonical.applyFences {n : Nat} (h : s.Canonical) : (s.applyFences n).Canonical :=
  .overList (.modRgn h) (fun _ _ hu => .stopUnit (.putUnit hu))

theorem State.Canonical.wantCapture {n : Option Nat} (h : s.Canonical) : (s.wantCapture n).Canonical := .keep h

theorem State.Canonical.modRing {n i : Nat} {f : Ring → Ring} (h : s.Canonical) : (s.modRing n i f).Canonical := .modVf h

theorem State.Canonical.noteStatus {n i : Nat} (h : s.Canonical) : (s.noteStatus n i).Canonical :=
  .ite h (.ite (.hostWriteOut h) (.modVf h))

theorem State.Canonical.flushStatus {n : Nat} (h : s.Canonical) : (s.flushStatus n).Canonical :=
  .ite (.overList (.modVf h) (fun _ _ hu => .noteStatus hu)) h

theorem State.Canonical.noteHeld {n : Nat} (h : s.Canonical) : (s.noteHeld n).Canonical := .setBit (.setFld (.setFld h))

theorem State.Canonical.writeRecord {n : Nat} {r : Record} (h : s.Canonical) : (s.writeRecord n r).Canonical :=
  .when (.noteStatus (.countMod (.hostWriteOut h))) (fun _ hu => .sendVf hu)

theorem State.Canonical.enterRecord {n : Nat} {r : Record} (h : s.Canonical) : (s.enterRecord n r).Canonical :=
  .ite (.writeRecord h) (.ite (.noteStatus (.noteHeld (.modVf h))) (.modVf h))

theorem State.Canonical.finish {n i : Nat} {index : Word} {status code : Nat} {f : Desc → Desc} (h : s.Canonical) :
    (s.finish n i index status code f).Canonical := .modDesc h

theorem State.Canonical.retire {n i : Nat} {d : Desc} (h : s.Canonical) : (s.retire n i d).Canonical :=
  .when (.modRing h) (fun _ hu => .enterRecord hu)

theorem State.Canonical.withdraw {n i : Nat} (h : s.Canonical) : (s.withdraw n i).Canonical := .modVf h

theorem State.Canonical.stopRing {n i cause : Nat} (h : s.Canonical) : (s.stopRing n i cause).Canonical :=
  .sendVf (.noteStatus (.withdraw (.setBit (.setFld (.setFld h)))))

theorem State.Canonical.begin {r : DescRef} {type : Nat} {x : Desc} (h : s.Canonical) (e : s.begin r type = some (x, t)) :
    t.Canonical := by
  obtain ⟨-, -, -, v, k, rfl⟩ := begin_spec e
  exact .keep h

theorem State.Canonical.takeRecord {n i : Nat} {r : List Word} (h : s.Canonical) : (s.takeRecord n i r).Canonical :=
  .ite h (.noteStatus (.setFld (.setFld h)))

theorem State.Canonical.doorbellStop {n i code : Nat} (h : s.Canonical) : (s.doorbellStop n i code).Canonical :=
  .enterRecord (.stopRing h)

theorem State.Canonical.examine {n i : Nat} {r : List Word} (h : s.Canonical) : (s.examine n i r).state.Canonical := by
  unfold State.examine
  extract_lets +onlyGivenNames p gen g rsvdFlags overrun stopped
  split
  · exact .countSat h
  · split
    · split
      · exact .noteStatus (.setFld (.setFld (.setFld (.setFld h))))
      · exact .countSat h
    · split
      · exact .ite h (.doorbellStop h)
      · split
        · exact .ite h (.doorbellStop h)
        · exact .takeRecord h

theorem State.Canonical.examineCq {n : Nat} {r : List Word} (h : s.Canonical) : (s.examineCq n r).state.Canonical := by
  unfold State.examineCq
  extract_lets +onlyGivenNames c
  split
  · exact .countSat h
  · split
    · exact .ite h (.noteStatus (.raise h))
    · exact .ite (.noteStatus (.lower (.modVf h))) (.modVf h)

theorem State.Canonical.hostError {e : HostError} (h : s.Canonical) : (s.hostError e).Canonical := by
  unfold State.hostError
  split
  · exact .raise h
  · exact .raise h

theorem State.Canonical.hostPoison {n : Nat} (h : s.Canonical) : (s.hostPoison n).Canonical := .poisonIn (.raise h)

theorem State.Canonical.readEnded {n : Nat} {r : FetchEnd} (h : s.Canonical) : (s.readEnded n r).Canonical := by
  unfold State.readEnded
  split
  · exact h
  · exact .hostError h
  · exact .raise h
  · exact .hostPoison h

theorem State.Canonical.takeHint {n : Nat} (h : s.Canonical) : (s.takeHint n).Canonical := .modVf h

theorem State.Canonical.poll {n : Nat} {r : PollRead} (h : s.Canonical) : (s.poll n r).2.Canonical := by
  unfold State.poll
  extract_lets +onlyGivenNames a start rings
  have ha : a.Canonical := .hostReadOut h
  have hr : rings.state.Canonical := by
    refine foldl_canonical Found.state _ (fun f i hf => ?_) _ start ha
    dsimp only
    split
    · exact .examine hf
    · exact hf
  split
  · exact .modVf (.readEnded ha)
  · refine .modVf ?_
    split
    · exact .examineCq hr
    · exact hr

theorem execRingWatchPoll_canonical {vf : Fin 32} {r : PollRead} (h : s.Canonical) : CanonicalNext (execRingWatchPoll vf r s) :=
  .ite (.done (.poll h)) (.done h)

theorem State.Canonical.flushHeld {fuel n : Nat} (h : s.Canonical) : (State.flushHeld fuel n s).Canonical := by
  induction fuel generalizing s with
  | zero => exact h
  | succ fuel ih =>
    unfold State.flushHeld
    extract_lets v
    split
    · exact h
    · exact .ite h (ih (.writeRecord (.noteHeld (.modVf h))))

theorem execHeldRecordsFlush_canonical {vf : Fin 32} (h : s.Canonical) : CanonicalNext (execHeldRecordsFlush vf s) :=
  .ite (.done (.flushHeld h)) (.done h)

theorem State.Canonical.rejectDesc {n i code : Nat} {d : Desc} (h : s.Canonical) : (s.rejectDesc n i code d).Canonical :=
  .enterRecord (.stopRing (.countMod h))

theorem State.Canonical.arriveDescs {l : List (List Word)} {n i : Nat} (h : s.Canonical) : (State.arriveDescs l n i s).Canonical := by
  induction l generalizing s with
  | nil => exact h
  | cons ws rest ih =>
    unfold State.arriveDescs
    exact .ite (ih (.countMod (.modRing (.newId h)))) (.rejectDesc h)

theorem State.Canonical.readSlots {n i c k : Nat} (h : s.Canonical) : (s.readSlots n i c k).Canonical :=
  .when (.hostReadOut h) (fun _ hu => .hostReadOut hu)

theorem execDescriptorFetch_canonical {vf : Fin 32} {ring : Fin 8} {result : FetchEnd} {words : List Word} (h : s.Canonical) :
    CanonicalNext (execDescriptorFetch vf ring result words s) := by
  unfold execDescriptorFetch
  extract_lets +onlyGivenNames n i k st
  split
  · exact .done h
  · split
    · exact .ite (.done h) (.done (.rejectDesc (.readEnded (.draw (.readSlots h)))))
    · exact .ite (.done h) (.done (.noteStatus (.arriveDescs (.readSlots h))))

theorem State.Canonical.abortOrdered {n i : Nat} (h : s.Canonical) : (s.abortOrdered n i).Canonical := .modRing h

theorem execDescriptorComplete_canonical {d : DescRef} (h : s.Canonical) : CanonicalNext (execDescriptorComplete d s) := by
  unfold execDescriptorComplete
  split
  · exact .done h
  · extract_lets +onlyGivenNames record
    split
    · exact .ite (.done h) (.done (.retire (.when h (fun _ hu => .abortOrdered hu))))
    · exact .ite (.done (.retire h)) (.done h)
    · exact .done h

theorem State.Canonical.hostFailed {r : DescRef} {code : Nat} (h : t.Canonical) : (s.hostFailed r code t).Canonical := by
  unfold State.hostFailed
  split
  · exact h
  · split
    · next x u e =>
      have hu : u.Canonical := .begin h e
      exact .ite (.finish (.hostReadOut hu)) hu
    · exact h

theorem State.Canonical.disableRing {n i : Nat} (h : s.Canonical) : (s.disableRing n i).Canonical :=
  .noteStatus (.modRing (.withdraw (.setFld h)))

theorem State.Canonical.enableRing {n i : Nat} (h : s.Canonical) : (s.enableRing n i).Canonical :=
  .noteStatus (.setFld (.setFld (.setFld h)))

theorem execRingStoppingEnd_canonical {vf : Fin 32} {ring : Fin 8} (h : s.Canonical) : CanonicalNext (execRingStoppingEnd vf ring s) :=
  .ite (.done (.setFld h)) (.done h)

theorem State.Canonical.resetRings {n : Nat} {cold : Bool} (h : s.Canonical) : (s.resetRings n cold).Canonical := by
  have ht : ((s.modVf n fun v => { interval := v.interval, hintPending := v.hintPending }).setBit F.RWE_STALL_STALL n false).Canonical :=
    .setBit (.modVf h)
  exact .ite ht.filter (.overList (.lower (.setFld (.setWord ht))) fun _ _ hu => .setFld hu)

theorem State.Canonical.dropImage {n : Nat} (h : s.Canonical) : (s.dropImage n).Canonical :=
  .setWord (.setWord (.setWord (.setWord (.setWord (.setWord (.lower (.modRgn h)))))))

theorem State.Canonical.cutLoad {n : Nat} (h : s.Canonical) : (s.cutLoad n).Canonical := .when h (fun _ hu => .dropImage hu)

theorem State.Canonical.regionEvent {n : Nat} {vf : Bool} (h : s.Canonical) : (s.regionEvent n vf).Canonical :=
  .when (.raise h) (fun _ hu => .sendVf hu)

theorem State.Canonical.haltCores {n : Nat} (h : s.Canonical) : (s.haltCores n).Canonical := .keep h

theorem State.Canonical.startReset {n : Nat} {why : ResetWhy} {toFree : Bool} (h : s.Canonical) :
    (s.startReset n why toFree).Canonical := by
  unfold State.startReset
  extract_lets +onlyGivenNames r st free
  split
  · exact h
  · split
    · exact h
    · split
      · exact .when (.modRgn h) (fun _ hu => .raise hu)
      · split
        · exact .raise (.modRgn h)
        · exact .when (.haltCores (.countSat (.lower (.setFld (.modRgn h))))) (fun _ hu => .raise hu)

theorem State.Canonical.enterFaulted {n : Nat} (h : s.Canonical) : (s.enterFaulted n).Canonical := by
  unfold State.enterFaulted
  extract_lets +onlyGivenNames t
  have ht : t.Canonical := .regionEvent (.modRgn (.setFld h))
  exact .when ht (fun _ hu => .startReset (.modRgn hu))

theorem State.Canonical.latchFault {n : Nat} {f : FaultReport} (h : s.Canonical) : (s.latchFault n f).Canonical := by
  unfold State.latchFault
  extract_lets +onlyGivenNames exc w t t1
  have ht1 : t1.Canonical := .wantCapture (.countSat (.setWord (.setWord (.setWord (.setWord h)))))
  exact .ite (.keep ht1) ht1

theorem State.Canonical.abortLoad {n : Nat} (h : s.Canonical) : (s.abortLoad n).Canonical := .modVf (.cutLoad h)

theorem State.Canonical.regionFault {n : Nat} {f : FaultReport} (h : s.Canonical) : (s.regionFault n f).Canonical := by
  unfold State.regionFault
  extract_lets +onlyGivenNames st r clock t
  split
  · exact h
  · split
    · exact .applyFences (.haltCores (.setFld (.modRgn (.latchFault (.modRgn h)))))
    · split
      · exact .ite h (.enterFaulted (.abortLoad (.latchFault (.modRgn h))))
      · exact .ite (.raise (.modRgn h)) (.ite (.when (.raise h) (fun _ hu => .startReset hu)) h)

theorem State.Canonical.checkSet {n tile : Nat} (h : s.Canonical) : (s.checkSet n tile).Canonical := by
  unfold State.checkSet
  split
  · split
    · exact h
    · split
      · exact .countSat (.setFld h)
      · exact .regionFault h
  · exact h

theorem State.Canonical.applyPending {n : Nat} (h : s.Canonical) : (s.applyPending n).Canonical := .checkSet (.applyFences h)

theorem State.Canonical.fence {k : UnitKind} {i : Nat} (h : s.Canonical) : (s.fence k i).Canonical := by
  unfold State.fence
  split
  · exact .keep (.putUnit h)
  · split
    · exact .putUnit h
    · extract_lets +onlyGivenNames st
      split
      · exact .putUnit h
      · split
        · exact .regionFault (.putUnit h)
        · extract_lets +onlyGivenNames t
          have ht : t.Canonical := .when h (fun _ hu => .setBit (.settle hu))
          exact .ite (.ite (.modRgn ht) (.applyPending (.modRgn ht))) (.stopUnit (.putUnit ht))

theorem State.Canonical.hwFence {k : UnitKind} {i cause : Nat} (h : s.Canonical) : (s.hwFence k i cause).Canonical :=
  .keep (.wantCapture (.fence h))

theorem State.Canonical.tagLoss {i : Nat} (h : s.Canonical) : (s.tagLoss i).Canonical := .hwFence (.integRaise (.count h))

theorem State.Canonical.loseLines {i : Nat} (h : s.Canonical) : (s.loseLines i).Canonical := .noteMeridian (.modSlice h)

theorem State.Canonical.ctlFail {tile : Nat} (h : s.Canonical) : (s.ctlFail tile).Canonical := by
  unfold State.ctlFail
  extract_lets +onlyGivenNames t u
  have hu : u.Canonical := .integRaise (.setFld (.raise (.countSat h)))
  split
  · exact .regionFault hu
  · exact hu

theorem State.Canonical.carry {way : List Nat} {w : CtlWay} {act : State → State} (h : s.Canonical)
    (hf : ∀ u, u.Canonical → (act u).Canonical) :
    (s.carry way w act).Canonical := by
  unfold State.carry
  extract_lets +onlyGivenNames t
  split
  · split
    · exact .ctlFail (.countSat h)
    · exact hf _ (.countSat h)
  · exact hf _ (.countSat h)

theorem State.Canonical.changeRoutes {n : Nat} {m : RouteMap} (h : s.Canonical) : (s.changeRoutes n m).Canonical :=
  .dropCutOff (.setBit (.installRoutes (.keep h)))

theorem execRouteQuiesceEnd_canonical {region : Fin 32} (h : s.Canonical) : CanonicalNext (execRouteQuiesceEnd region s) := by
  unfold execRouteQuiesceEnd
  extract_lets +onlyGivenNames n s'
  split
  · exact .done (.when (.when (.setFld (.draw (.countSat (.changeRoutes (.settle h))))) (fun _ hu => .applyPending hu))
      (fun _ hu => .regionFault hu))
  · exact .done h

theorem execNop_canonical {g : Fin 1024} {o : OpFields} (h : s.Canonical) : CanonicalNext (execNop g o s) :=
  .issue h (fun _ _ _ hu => .next hu)

theorem execMovi_canonical {g : Fin 1024} {o : OpFields} (h : s.Canonical) : CanonicalNext (execMovi g o s) :=
  .issue h (fun _ _ _ hu => .next (.modCore hu))

theorem execAlu_canonical {g : Fin 1024} {o : OpFields} (h : s.Canonical) : CanonicalNext (execAlu g o s) :=
  .issue h (fun _ _ _ hu => .next (.modCore hu))

theorem execAlui_canonical {g : Fin 1024} {o : OpFields} (h : s.Canonical) : CanonicalNext (execAlui g o s) :=
  .issue h (fun _ _ _ hu => .next (.modCore hu))

theorem execRdid_canonical {g : Fin 1024} {o : OpFields} (h : s.Canonical) : CanonicalNext (execRdid g o s) :=
  .issue h (fun _ _ _ hu => .next (.modCore hu))

theorem execBr_canonical {g : Fin 1024} {o : OpFields} (h : s.Canonical) : CanonicalNext (execBr g o s) := by
  unfold execBr
  exact .issue h (fun _ _ _ hu => .ite (.jump hu) (.next hu))

theorem execJr_canonical {g : Fin 1024} {o : OpFields} (h : s.Canonical) : CanonicalNext (execJr g o s) :=
  .issue h (fun _ _ _ hu => .jump (.modCore hu))

theorem execLoop_canonical {g : Fin 1024} {o : OpFields} (h : s.Canonical) : CanonicalNext (execLoop g o s) :=
  .issue h (fun _ _ _ hu => .ite (.jump (.modCore hu)) (.next (.modCore hu)))

theorem execSeed_canonical {g : Fin 1024} {o : OpFields} (h : s.Canonical) : CanonicalNext (execSeed g o s) :=
  .issue h (fun _ _ _ hu => .next (.modCore hu))

theorem execEnd_canonical {g : Fin 1024} {o : OpFields} (h : s.Canonical) : CanonicalNext (execEnd g o s) :=
  .issue h (fun _ _ _ hu => .whenReleased hu (fun _ hv => .ended hv))

theorem execWaitc_canonical {g : Fin 1024} {o : OpFields} (h : s.Canonical) : CanonicalNext (execWaitc g o s) :=
  .issue h (fun _ _ _ hu => .ite (.next hu) (.wait hu))

theorem execWaitf_canonical {g : Fin 1024} {o : OpFields} (h : s.Canonical) : CanonicalNext (execWaitf g o s) :=
  .issue h (fun _ _ _ hu => .ite (.next hu) (.wait hu))

theorem execNotify_canonical {g : Fin 1024} {o : OpFields} (h : s.Canonical) : CanonicalNext (execNotify g o s) :=
  .issue h (fun _ _ _ hu => .whenReleased hu (fun _ hv => .ite (.next hv) (.next (.keep (.newId hv)))))

theorem execWaitn_canonical {g : Fin 1024} {o : OpFields} (h : s.Canonical) : CanonicalNext (execWaitn g o s) := by
  unfold execWaitn
  exact .issue h (fun _ _ _ hu => .ite (.wait hu) (.next (.ite (.acquire (.modCore hu)) (.modCore hu))))

theorem execAcq_canonical {g : Fin 1024} {o : OpFields} (h : s.Canonical) : CanonicalNext (execAcq g o s) :=
  .issue h (fun _ _ _ hu => .next (.acquire hu))

theorem execRel_canonical {g : Fin 1024} {o : OpFields} (h : s.Canonical) : CanonicalNext (execRel g o s) :=
  .issue h (fun _ _ _ hu => .whenReleased hu (fun _ hv => .next hv))

theorem execFence_canonical {g : Fin 1024} {o : OpFields} (h : s.Canonical) : CanonicalNext (execFence g o s) :=
  .issue h (fun _ _ _ hu => .whenReleased hu (fun _ hv => .next (.acquire hv)))

theorem execUndefinedOpcode_canonical {g : Fin 1024} (h : s.Canonical) : CanonicalNext (execUndefinedOpcode g s) := by
  unfold execUndefinedOpcode
  extract_lets +onlyGivenNames c
  split
  · split
    · exact .done (.coreException h)
    · exact .done h
  · exact .done h

theorem execNotifyDelivery_canonical {id : Nat} {way : CtlWay} (h : s.Canonical) : CanonicalNext (execNotifyDelivery id way s) := by
  unfold execNotifyDelivery
  split
  · exact .ite (.done h) (.done (.carry (.keep h) (fun _ hu => .modCore hu)))
  · exact .done h

theorem execHalt_canonical {core : Fin 1024} {way : CtlWay} (h : s.Canonical) : CanonicalNext (execHalt core way s) :=
  .ite (.done h) (.done (.carry h (fun _ hu => .modCore (.setFld (.draw hu)))))

theorem State.Canonical.enterQueue {n g q : Nat} {m : Message} (h : s.Canonical) : (s.enterQueue n g q m).Canonical :=
  .modCore (.when h (fun _ hu => .launchPoison hu))

theorem State.Canonical.sendMessage {n : Nat} {src dst : Agent} {k key : Nat} {lo hi : Word64} {badLo badHi : Bool} (h : s.Canonical) :
    (s.sendMessage n src dst k key lo hi badLo badHi).Canonical := .inject (.newId h)

theorem State.Canonical.enterInput {n i q : Nat} {m : Message} (h : s.Canonical) : (s.enterInput n i q m).Canonical :=
  .modSlice (.when h (fun _ hu => .launchPoison hu))

theorem State.Canonical.sendLinkMessage {n p ch : Nat} {src : Agent} {lo hi : Word64} {badLo badHi : Bool} (h : s.Canonical) :
    (s.sendLinkMessage n p ch src lo hi badLo badHi).Canonical := .inject (.modPort (.newId h))

theorem State.Canonical.sendLinkCredit {n p ch count : Nat} {set : Bool} (h : s.Canonical) :
    (s.sendLinkCredit n p ch count set).Canonical := .toPort (.newId h)

theorem State.Canonical.returnCredit {n : Nat} {dstTile k : Nat} (h : s.Canonical) : (s.returnCredit n dstTile k).Canonical := by
  unfold State.returnCredit
  split
  · exact h
  · split
    · exact .sendLinkCredit h
    · exact .ite h (.ite (.modCore h) (.keep (.newId h)))
    · exact .ite h (.keep (.newId h))

theorem CanonicalEnd.sendOn {n g k : Nat} {c : Channel} {lo hi : Word64} {badLo badHi : Bool} (h : u.Canonical) :
    CanonicalEnd (Machine.sendOn u n g k c lo hi badLo badHi) := by
  unfold Machine.sendOn
  extract_lets +onlyGivenNames m held useCredit
  split
  · split
    · split
      · exact .ite (.next (.enterQueue (.modCore h))) (.wait h)
      · exact .ite (.next (.modCore (.enterQueue h))) (.wait h)
    · exact .ite (.next (.sendMessage (.modCore (.modCore h)))) (.wait h)
  · exact .ite (.next (.sendMessage h)) (.wait h)
  · exact .ite (.next (.sendLinkMessage h)) (.wait h)

theorem execSend_canonical {g : Fin 1024} {o : OpFields} (h : s.Canonical) : CanonicalNext (execSend g o s) := by
  unfold execSend
  exact .issue h (fun _ _ _ hu => .whenReleased hu (fun _ hv => by
            split
            · exact .next hv
            · split
              · exact .next hv
              · exact .sendOn hv))

theorem execQrd_canonical {g : Fin 1024} {o : OpFields} (h : s.Canonical) : CanonicalNext (execQrd g o s) := by
  unfold execQrd
  exact .issue h (fun _ _ _ hu => by
        extract_lets +onlyGivenNames finish
        split
        · exact .next (.ite (.acquire (.modCore hu)) (.modCore hu))
        · split
          · exact .wait hu
          · extract_lets +onlyGivenNames bad u
            split
            · exact .next (.ite (.acquire (.modCore hu)) (.modCore hu))
            · exact .next (.ite (.acquire (.returnCredit (.modCore (.modCore hu)))) (.returnCredit (.modCore (.modCore hu)))))

theorem State.Canonical.takeCredit {m : CtlMsg} (h : s.Canonical) : (s.takeCredit m).Canonical := by
  unfold State.takeCredit
  split
  · exact .modCore h
  · exact .modSlice h
  · exact .keep h
  · exact h

theorem execCreditReturn_canonical {id : Nat} {way : CtlWay} (h : s.Canonical) : CanonicalNext (execCreditReturn id way s) := by
  unfold execCreditReturn
  split
  · exact .done h
  · exact .done h
  · exact .ite (.done h) (.done (.carry (.keep h) (fun _ hu => .takeCredit hu)))

theorem State.Canonical.leaveInput {n i : Nat} {x : Contribution} (h : s.Canonical) : (s.leaveInput n i x).Canonical := by
  unfold State.leaveInput
  extract_lets +onlyGivenNames t
  split
  · split
    · exact .returnCredit (.modSlice h)
    · exact .modSlice h
  · exact .modSlice h

theorem execCombiningAccept_canonical {slice : Fin 64} (h : s.Canonical) : CanonicalNext (execCombiningAccept slice s) := by
  unfold execCombiningAccept
  split
  · split
    · exact .done (.countSat (.leaveInput h))
    · split
      · exact .done h
      · split
        · exact .done h
        · exact .done (.modSlice (.leaveInput h))
  · exact .done h

theorem CanonicalSome.deliverOne {n : Nat} {c : Combiner} {e : CombEntry} {d : Nat} (h : s.Canonical) :
    CanonicalSome (s.deliverOne n c e d) := by
  unfold State.deliverOne
  split
  · exact .some h
  · split
    extract_lets +onlyGivenNames held
    split
    · extract_lets +onlyGivenNames key
      split
      · exact .none
      · split
        · exact .ite .none (.some (.sendMessage (.modSlice h)))
        · exact .ite .none (.some (.sendMessage h))
        · exact .ite .none (.some (.sendLinkMessage h))
    · exact .some h

theorem State.Canonical.deliverAll {n : Nat} {c : Combiner} {e : CombEntry} (h : s.Canonical) : (s.deliverAll n c e).2.Canonical := by
  refine foldl_canonical (fun acc : CombEntry × State => acc.2) _ (fun acc k hu => ?_) _ _ h
  dsimp only
  split
  · exact hu
  · split
    · exact hu
    · next t e => exact CanonicalSome.of_eq (.deliverOne hu) e

theorem State.Canonical.deliver {n i q : Nat} (h : s.Canonical) : (s.deliver n i q).Canonical := by
  unfold State.deliver
  split
  · exact h
  · refine .modSlice (foldl_canonical (fun acc : List CombEntry × State => acc.2) _ (fun acc e hu => ?_) _ _ h)
    dsimp only
    split
    · exact hu
    · exact .deliverAll hu

theorem execCombiningDelivery_canonical {slice : Fin 64} {queue : Fin 16} (h : s.Canonical) :
    CanonicalNext (execCombiningDelivery slice queue s) := by
  unfold execCombiningDelivery
  split
  · exact .done (.deliver h)
  · exact .done h

theorem CanonicalSome.arrive {p : Packet} (h : s.Canonical) : CanonicalSome (s.arrive p) := by
  unfold State.arrive
  refine .ite .none (.ite (.some h) ?_)
  extract_lets t
  split
  · exact .none
  · exact .map fun _ => .eject (.settle h)

theorem State.Canonical.take {p : Packet} (h : s.Canonical) : (s.take p).Canonical := .keep h

theorem CanonicalNext.deliver {id : Nat} {k : PacketKind} {act : Packet → State → Option State} (h : s.Canonical)
    (hf : ∀ x0 u, u.Canonical → CanonicalSome (act x0 u)) :
    CanonicalNext (Machine.deliver s id k act) := by
  unfold Machine.deliver
  split
  · exact .done h
  · split
    · exact .done h
    · next t e =>
        have ht : t.Canonical := CanonicalSome.of_eq (show CanonicalSome _ from .arrive h) e
        exact .ite (.done (.countSat (.take ht))) (.done (.getD (hf _ _ ht) h))

theorem State.Canonical.respond {p : Packet} {src : Agent} {k : PacketKind} {bytes : Mem} {poison : List Nat} (h : s.Canonical) :
    (s.respond p src k bytes poison).Canonical := .inject (.newId (.take h))

theorem State.Canonical.poisonWord {n a : Nat} (h : s.Canonical) : (s.poisonWord n a).Canonical := by
  unfold State.poisonWord
  split
  · exact h
  · exact .modSlice h
  · exact .modSlice h
  · exact .recompress (.modSlice h)
  · exact .modSlice h

theorem State.Canonical.poisonSector {n a : Nat} (h : s.Canonical) : (s.poisonSector n a).Canonical :=
  .overList h (fun _ _ hu => .poisonWord hu)

theorem State.Canonical.errorPlace {n a : Nat} {fetched : Bool} (h : s.Canonical) : (s.errorPlace n a fetched).2.2.2.Canonical := by
  unfold State.errorPlace
  split
  · exact h
  · exact h
  · split
    split
    · exact h
    · exact .draw h
  · exact .draw h
  · exact h

theorem State.Canonical.dropSector {i line o : Nat} (h : s.Canonical) : (s.dropSector i line o).Canonical := .modSlice h

theorem State.Canonical.modLine {i line : Nat} {f : CLine → CLine} (h : s.Canonical) : (s.modLine i line f).Canonical := .modSlice h

theorem State.Canonical.tagError {n i : Nat} {scrub : Bool} {e : MemError} (h : s.Canonical) : (s.tagError n i scrub e).Canonical := by
  unfold State.tagError
  split
  · exact .sliceCe (.draw h)
  · exact .tagLoss (.loseLines h)
  · exact h

theorem State.Canonical.lineError {n i line o : Nat} {scrub : Bool} {e : MemError} (h : s.Canonical) :
    (s.lineError n i line o scrub e).Canonical := by
  unfold State.lineError
  extract_lets +onlyGivenNames l
  split
  next v t e =>
  have ht : t.Canonical := .snd (.draw h) e
  split
  next w t e =>
  have ht : t.Canonical := .snd (.draw ht) e
  extract_lets +onlyGivenNames base
  split
  · exact h
  · exact .sliceCe ht
  · exact .sliceCe ht
  · exact .ite (.modSlice (.sliceCe ht)) (.ite (.dropSector (.sliceCe ht)) (.modLine (.sliceUe ht)))
  · exact .tagError h

theorem State.Canonical.rewriteSector {n i line o : Nat} (h : s.Canonical) : (s.rewriteSector n i line o).Canonical :=
  .ite (.modSlice h) (.writeBack h)

theorem State.Canonical.memError {n i a : Nat} {fetched scrub : Bool} {e : MemError} (h : s.Canonical) :
    (s.memError n i a fetched scrub e).Canonical := by
  unfold State.memError
  extract_lets corrected
  have hc {u : State} (b : IntegError) (cls : Nat) (hu : u.Canonical) : (corrected u b cls).Canonical := by
    unfold corrected
    split
    next v w ev =>
    have hw : w.Canonical := .snd (.draw hu) ev
    extract_lets x
    split
    · exact .rewriteSector (.sliceCe hw)
    · exact .sliceCe hw
  split
  · exact .tagError h
  · split
    · exact .lineError h
    · split
      next kind unit addr t ev =>
      have ht : t.Canonical := .snd3 (.errorPlace h) ev
      extract_lets base
      split
      · exact hc _ _ ht
      · exact hc _ _ ht
      · exact .ite (.poisonSector (.sliceUe ht)) (.poisonWord (.sliceUe ht))
      · exact .tagError h

theorem State.Canonical.askChannel {n line mask cls : Nat} (h : s.Canonical) : (s.askChannel n line mask cls).Canonical := .ite h (.ask h)

theorem State.Canonical.freeTrack {home line : Nat} (h : s.Canonical) : (s.freeTrack home line).Canonical := .noteMeridian (.modSlice h)

theorem State.Canonical.wantRecall {home line : Nat} (h : s.Canonical) : (s.wantRecall home line).Canonical := .modSlice h

theorem CanonicalWait.awaitLine {n home line mask cls : Nat} (h : s.Canonical) : CanonicalWait (s.awaitLine n home line mask cls) :=
  .ite (.waits (.wantRecall h)) (.ite trivial (.ite trivial (.waits (.askChannel h))))

theorem State.Canonical.noteMiss {home : Nat} {p : Packet} (h : s.Canonical) : (s.noteMiss home p).Canonical :=
  .ite h (.keep (.countMod h))

theorem CanonicalSome.homeRead {p : Packet} {i : Nat} {e : MemError} (h : s.Canonical) : CanonicalSome (s.homeRead p i e) := by
  unfold State.homeRead
  extract_lets +onlyGivenNames n give
  split
  · exact .some h
  · split
    · extract_lets +onlyGivenNames mask
      split
      · exact .none
      · next t e =>
          have ht : t.Canonical := CanonicalWait.of_eq (show CanonicalWait _ from .awaitLine h) e
          exact .some (.ite ht (.noteMiss ht))
      · extract_lets +onlyGivenNames t
        split
        · exact .some (.memError h)
        · extract_lets +onlyGivenNames t t1 t2
          have ht1 : t1.Canonical := .modSlice (.when (.memError h) (fun _ hu => .countMod hu))
          have ht2 : t2.Canonical := by
              unfold t2
              split
              · exact .ite (.track ht1) ht1
              · exact ht1
          exact .some (.dropStaged (.keep (.respond ht2)))
    · exact .some (.ite (.memError h) (.keep (.respond (.memError h))))

theorem State.Canonical.askHome {n i line key : Nat} {borrow : Bool} (h : s.Canonical) : (s.askHome n i line key borrow).Canonical :=
  .ite h (.inject (.newId h))

theorem State.Canonical.proxyRead {p : Packet} {i : Nat} {e : MemError} (h : s.Canonical) : (s.proxyRead p i e).Canonical := by
  unfold State.proxyRead
  extract_lets +onlyGivenNames line
  split
  · exact h
  · split
    · extract_lets +onlyGivenNames t
      split
      · exact .lineError h
      · split
        · exact .lineError h
        · extract_lets +onlyGivenNames r __src
          have h__src : __src.Canonical := .respond (.modSlice (.lineError h))
          exact .keep h__src
    · exact .askHome h

theorem CanonicalWrite.acceptWrite {p : Packet} {i g : Nat} {e : MemError} (h : s.Canonical) : CanonicalWrite (s.acceptWrite p i g e) := by
  unfold State.acceptWrite
  extract_lets +onlyGivenNames n line
  split
  · exact .waits h
  · split
    · split
      · exact .ite (.accepted (.modSlice h)) (.waits (.askHome h))
      · exact .waits (.askHome h)
    · extract_lets +onlyGivenNames first cut s
      have hs : s.Canonical := .ite (.memError h) (.tagError h)
      split
      · exact .waits hs
      · extract_lets +onlyGivenNames t
        split
        · split
          · exact .waits (.wantRecall hs)
          · split
            · exact trivial
            · exact .ite (.accepted (.homeStore hs)) (.ite (.waits hs) (.waits (.keep (.countHolds hs))))
        · exact .accepted (.homeStore hs)

theorem State.Canonical.ackStore {p : Packet} {i g : Nat} (h : s.Canonical) : (s.ackStore p i g).Canonical := .respond (.modCore h)

theorem State.Canonical.storeToPort {pk : Packet} {g port : Nat} (h : s.Canonical) : (s.storeToPort pk g port).Canonical :=
  .overList (.modCore (.take h)) (fun _ _ hu => .toEdge (.newId hu))

theorem CanonicalSome.sliceWrite {p : Packet} {i g : Nat} {e : MemError} (h : s.Canonical) : CanonicalSome (s.sliceWrite p i g e) := by
  unfold State.sliceWrite
  split
  · next t e =>
      have ht : t.Canonical := CanonicalWrite.of_accepted (show CanonicalWrite _ from .acceptWrite h) e
      exact .some (.ackStore ht)
  · next t e =>
      have ht : t.Canonical := CanonicalWrite.of_waits (show CanonicalWrite _ from .acceptWrite h) e
      exact .some ht
  · exact .none

theorem State.Canonical.combineHeld {i line : Nat} (h : s.Canonical) : (s.combineHeld i line).Canonical := by
  unfold State.combineHeld
  exact .overList h (fun _ _ hu => by
        split
        · exact .getD (.sliceWrite hu) hu
        · exact hu)

theorem State.Canonical.requestToPort {p : Packet} (h : s.Canonical) : (s.requestToPort p).Canonical := .toEdge (.take h)

theorem execDynRead_canonical {id : Nat} {e : MemError} (h : s.Canonical) : CanonicalNext (execDynRead id e s) := by
  unfold execDynRead
  exact .deliver h (fun _ _ hu => by
        split
        · exact .some (.requestToPort hu)
        · exact .ite (.some hu) (.ite (.some (.proxyRead hu)) (.homeRead hu))
        · exact .none)

theorem execDynWrite_canonical {id : Nat} {e : MemError} (h : s.Canonical) : CanonicalNext (execDynWrite id e s) := by
  unfold execDynWrite
  extract_lets +onlyGivenNames t
  have ht : t.Canonical := by
      unfold t
      split
      · exact h
      · split
        · exact h
        · exact .sendEntries h
  exact .deliver ht (fun _ _ hu => by
        split
        · exact .some (.storeToPort hu)
        · exact .sliceWrite hu
        · exact .none)

theorem CanonicalSome.stage {home line : Nat} (h : s.Canonical) : CanonicalSome (s.stage home line) :=
  .ite (.some h) (.ite (.some (.modSlice h)) .none)

theorem State.Canonical.sliceAtomic {p : Packet} {i : Nat} (h : s.Canonical) : (s.sliceAtomic p i).Canonical :=
  .ite (.respond (.when (.performAtomic h) (fun _ hu => .launchPoison hu))) (.respond (.when (.performAtomic h)
    (fun _ hu => .launchPoison hu)))

theorem execDynAtomic_canonical {id : Nat} {e : MemError} (h : s.Canonical) : CanonicalNext (execDynAtomic id e s) := by
  unfold execDynAtomic
  exact .deliver h (fun _ _ hu => by
        split
        · exact .some (.requestToPort hu)
        · split
          · exact .some hu
          · split
            · split
              · exact .none
              · next t e =>
                  have ht : t.Canonical := CanonicalSome.of_eq (show CanonicalSome _ from .stage hu) e
                  split
                  · exact .none
                  · next t e =>
                      have ht : t.Canonical := CanonicalWait.of_eq (show CanonicalWait _ from .awaitLine ht) e
                      exact .some ht
                  · exact .ite (.some (.memError ht)) (.some (.modSlice (.sliceAtomic (.settleLine (.memError ht)))))
            · exact .some (.ite (.memError hu) (.sliceAtomic (.memError hu)))
        · exact .none)

theorem execDynMessage_canonical {id : Nat} (h : s.Canonical) : CanonicalNext (execDynMessage id s) := by
  unfold execDynMessage
  exact .deliver h (fun _ _ hu => by
        split
        · exact .some (.requestToPort hu)
        · exact .some (.take hu)
        · split
          · split
            · exact .none
            · exact .some (by
                  split
                  · exact .take (.enterQueue hu)
                  · exact .ite (.respond (.enterQueue hu)) (.take (.enterQueue hu)))
          · exact .ite .none (.some (.take (.enterInput hu)))
          · exact .some (.take hu))

theorem State.Canonical.coreData {p : Packet} {c : Nat} (h : s.Canonical) : (s.coreData p c).Canonical := by
  unfold State.coreData
  extract_lets +onlyGivenNames waiting t t1
  have ht1 : t1.Canonical := .when (.overList h (fun _ _ hu => .modCore hu)) (fun _ hu => .modCluster hu)
  exact .overList ht1 (fun _ _ hu => .ite (.modCore (.when hu (fun _ hv => .launchPoison hv))) (.loadDone hu))

theorem State.Canonical.parityFails {p : Packet} {words : List Nat} (h : s.Canonical) : (s.parityFails p words).2.Canonical :=
  .overList h (fun _ _ hu => .integRaise hu)

theorem execDynData_canonical {id : Nat} {parity : List Nat} (h : s.Canonical) : CanonicalNext (execDynData id parity s) := by
  unfold execDynData
  exact .deliver h (fun _ _ hu => by
        split
        next p t e =>
        have ht : t.Canonical := .snd (.parityFails (.take hu)) e
        extract_lets +onlyGivenNames n
        split
        · exact .some (.coreData ht)
        · extract_lets +onlyGivenNames line home
          split
          · exact .some (.combineHeld (.putLine ht))
          · extract_lets +onlyGivenNames tracked u
            have hu : u.Canonical := .when ht (fun _ hv => .putLine hv)
            split
            · exact .some hu
            · exact .some (.respond hu)
        · exact .some ht)

theorem execDynAck_canonical {id : Nat} (h : s.Canonical) : CanonicalNext (execDynAck id s) := by
  unfold execDynAck
  exact .deliver h (fun _ _ hu => by
        extract_lets +onlyGivenNames t
        split
        · exact .some (.ite (.modCore (.take hu)) (.ite (.overList (.take hu) (fun _ _ hv => .modCore hv)) (.overList (.take hu)
            (fun _ _ hv => .modCore hv))))
        · exact .some (.modSlice (.take hu))
        · exact .some (.take hu))

theorem execDynError_canonical {id : Nat} (h : s.Canonical) : CanonicalNext (execDynError id s) := by
  unfold execDynError
  exact .deliver h (fun _ _ hu => by
        extract_lets +onlyGivenNames t
        split
        · exact .some (.ite (.askHome (.take hu)) (.take hu))
        · exact .some (.take hu))

theorem State.Canonical.retry {home line : Nat} {p : Packet} (h : s.Canonical) : (s.retry home line p).Canonical :=
  .inject (.newId (.take (.countSat (.modSlice h))))

theorem State.Canonical.retryAll {home line : Nat} {l : List Packet} (h : s.Canonical) : (s.retryAll home line l).Canonical := by
  unfold State.retryAll
  exact .overList h (fun _ _ hu => by
        split
        · exact .ite (.retry hu) (.ite (.modSlice hu) hu)
        · exact hu)

theorem State.Canonical.grantBorrow {n home line : Nat} {p : Packet} (h : s.Canonical) : (s.grantBorrow n home line p).Canonical :=
  .respond (.track (.settleLine h))

theorem execBorrowRequest_canonical {slice : Fin 64} {line : BitVec 64} {proxy : Fin 64} (h : s.Canonical) :
    CanonicalNext (execBorrowRequest slice line proxy s) := by
  unfold execBorrowRequest
  extract_lets +onlyGivenNames home ln
  split
  · exact .done h
  · split
    · exact .done h
    · next v ev =>
      obtain ⟨p, -, arrived⟩ := Option.bind_eq_some_iff.1 ev
      have hv : v.Canonical := CanonicalSome.of_eq (.arrive h) arrived
      extract_lets +onlyGivenNames reqs seed w
      have hw : w.Canonical := .track hv
      split
      · exact .done hw
      · extract_lets winner
        clear_value winner
        split
        · exact .done (.retryAll hw)
        · split
          · exact .done hw
          · next t e =>
            have ht : t.Canonical := CanonicalWait.of_eq (show CanonicalWait _ from .awaitLine hw) e
            exact .done ht
          · exact .done (.retryAll (.grantBorrow hw))

theorem execRecall_canonical {slice : Fin 64} {line : BitVec 64} (h : s.Canonical) : CanonicalNext (execRecall slice line s) := by
  unfold execRecall
  extract_lets +onlyGivenNames home ln
  split
  · split
    · split
      · exact .done h
      · exact .done (.noteMeridian (.modSlice (.inject (.modSlice (.newId (.countSat h))))))
    · exact .done h
  · exact .done h

theorem State.Canonical.applyReturn {p : Packet} {home : Nat} (h : s.Canonical) : (s.applyReturn p home).Canonical := by
  unfold State.applyReturn
  extract_lets +onlyGivenNames n ln t l u
  have hu : u.Canonical := .ite (.modSlice (.take h)) (.dropStaged (.putLine (.modSlice (.take h))))
  exact .freeTrack hu

theorem execLineReturn_canonical {slice : Fin 64} {id : Nat} (h : s.Canonical) : CanonicalNext (execLineReturn slice id s) :=
  .deliver h (fun _ _ hu => .ite (.some (.applyReturn hu)) .none)

theorem State.Canonical.measure {r : HReq} (h : s.Canonical) : (s.measure r).Canonical := .ite h (.modChan (.draw h))

theorem State.Canonical.grant {ch : Nat} {r : HReq} (h : s.Canonical) : (s.grant ch r).Canonical := by
  unfold State.grant
  extract_lets +onlyGivenNames n p part t t1
  have ht : t.Canonical := .when (.when h fun _ hu => .countSat hu) fun _ hu => .countSat hu
  have ht1 : t1.Canonical := .chargeBeats (.countMod ht)
  have wf : t1.hbm.wf = true := ht1.2.2.1
  exact .noteQueue (.ite (.measure (.keepHbm ht1 (hbmMerge_wf r wf))) (.modReq ht1))

theorem execHbmGrant_canonical {channel : Fin 128} (h : s.Canonical) : CanonicalNext (execHbmGrant channel s) := by
  unfold execHbmGrant
  extract_lets +onlyGivenNames ch
  split
  · exact .done (.overList h (fun _ _ hu => .countHeld hu))
  · split
    · exact .done h
    · extract_lets +onlyGivenNames t
      split
      · exact .done (.injectAll h)
      · exact .done (.injectAll (.grant (.injectAll h)))

theorem execHbmReadComplete_canonical {id : Nat} (h : s.Canonical) : CanonicalNext (execHbmReadComplete id s) := by
  unfold execHbmReadComplete
  split
  · exact .done h
  · exact .done (.measure (.ite (.modSlice (.keep h)) (.putLine (.keep h))))

theorem execHbmRefresh_canonical {_channel : Fin 128} {_bank : Fin 64} (h : s.Canonical) :
    CanonicalNext (execHbmRefresh _channel _bank s) := .done h

theorem State.Canonical.closeClass {n ch cls : Nat} (h : s.Canonical) : (s.closeClass n ch cls).Canonical := .ite h (.modChan h)

theorem State.Canonical.closeRegion {n : Nat} (h : s.Canonical) : (s.closeRegion n).Canonical := by
  unfold State.closeRegion
  exact .overList h (fun _ _ hu => by
        split
        · exact hu
        · extract_lets +onlyGivenNames u v
          have hu : u.Canonical := .overList hu (fun _ _ hv => .closeClass hv)
          exact .ite (.countSat (.setFld hu)) (.setFld hu))

theorem State.Canonical.noteStall {n : Nat} (h : s.Canonical) : (s.noteStall n).Canonical := .ite (.countMod (.draw h)) h

theorem execBudgetWindow_canonical (h : s.Canonical) : CanonicalNext (execBudgetWindow s) := by
  unfold execBudgetWindow
  split
  · exact .done h
  · extract_lets +onlyGivenNames live t
    have ht : t.Canonical := .overList (.overList h (fun _ _ hu => .closeRegion hu)) (fun _ _ hu => .noteStall hu)
    exact .done (.keep ht)

theorem execSliceRetentionEntry_canonical {slice : Fin 64} (h : s.Canonical) : CanonicalNext (execSliceRetentionEntry slice s) := by
  unfold execSliceRetentionEntry
  split
  · exact .done h
  · exact .ite (.done (.raise h)) (.done h)

theorem execSliceRetentionExit_canonical {slice : Fin 64} (h : s.Canonical) : CanonicalNext (execSliceRetentionExit slice s) :=
  .done (.lower h)

theorem State.Canonical.sweepEnd {i start : Nat} (h : s.Canonical) : (s.sweepEnd i start).Canonical := by
  unfold State.sweepEnd
  exact .when h (fun _ hu => .countSat hu)

theorem State.Canonical.scrubSram {n i pos : Nat} {e : MemError} (h : s.Canonical) : (s.scrubSram n i pos e).Canonical := by
  unfold State.scrubSram
  extract_lets +onlyGivenNames ways way
  refine .ite (.tagError h) (.ite ?_ ?_)
  · split
    · exact h
    · split
      next v t ev =>
      have ht : t.Canonical := .snd (.draw h) ev
      extract_lets +onlyGivenNames base
      split
      · exact .sliceCe ht
      · exact .sliceCe ht
      · exact .modSlice (.sliceUe ht)
      · exact h
  · split
    · exact h
    · split
      · exact h
      · exact .modSlice (.lineError h)

theorem State.Canonical.scrubHbm {n i pos : Nat} {e : MemError} (h : s.Canonical) : (s.scrubHbm n i pos e).Canonical := by
  have ht (ch : Nat) : (s.chargeBeats n ch cSCRUB 4).draw.2.Canonical := .draw (.chargeBeats h)
  have poisoned {u : State} (k : Nat) (hu : u.Canonical) :
      ({ u with
        hbm := { u.hbm with poison := (List.range 4).foldl (fun p j => insertNat p (k + j)) u.hbm.poison } } : State).Canonical := by
    obtain ⟨sorted, words, wf, time⟩ := hu
    rw [PMem.wf_iff] at wf
    exact ⟨sorted, words, (PMem.wf_iff _).2 ⟨wf.1, foldl_insertNat_pairwise _ _ wf.2⟩, time⟩
  unfold State.scrubHbm
  extract_lets ch key
  split
  next v t e =>
  have ht : t.Canonical := .snd (.draw (.chargeBeats h)) e
  split
  · exact .chargeBeats h
  · exact .ite ht (.sliceCe ht)
  · exact .ite ht (.sliceCe ht)
  · exact .ite ht (poisoned _ (.sliceUe ht))
  · exact .chargeBeats h

theorem execScrubStep_canonical {slice : Fin 64} {hbm : Bool} {e : MemError} (h : s.Canonical) :
    CanonicalNext (execScrubStep slice hbm e s) := by
  unfold execScrubStep
  extract_lets +onlyGivenNames i
  split
  · exact .done h
  · split
    · exact .done h
    · split
      · split
        · exact .done h
        · extract_lets +onlyGivenNames pos t
          split
          · exact .done (.setFld (.scrubHbm h))
          · exact .done (.modSlice (.sweepEnd (.countSat (.setFld (.scrubHbm h)))))
      · extract_lets +onlyGivenNames pos t
        split
        · exact .done (.setFld (.scrubSram h))
        · exact .done (.modSlice (.sweepEnd (.countSat (.setFld (.scrubSram h)))))

theorem execBushelLeak_canonical {slice : Fin 64} (h : s.Canonical) : CanonicalNext (execBushelLeak slice s) := .done (.setFld h)

theorem State.Canonical.setLink {p st : Nat} (h : s.Canonical) : (s.setLink p st).Canonical := .ite h (.raise (.setFld h))

theorem State.Canonical.setWidth {p : Nat} {g : LaneGroup} (h : s.Canonical) : (s.setWidth p g).Canonical := .setFld (.setFld h)

theorem State.Canonical.setEpochs {n : Nat} {running : Bool} {of : Nat → Bool} (h : s.Canonical) :
    (s.setEpochs n running of).Canonical := .overList h (fun _ _ hu => .sendLinkCredit (.modPort hu))

theorem State.Canonical.answerFlight {p : Nat} (h : s.Canonical) : (s.answerFlight p).Canonical :=
  .overList (.modPort h) (fun _ _ hu => .linkDown hu)

theorem State.Canonical.answerQueue {p : Nat} (h : s.Canonical) : (s.answerQueue p).Canonical :=
  .overList (.modPort h) (fun _ _ hu => .linkDown hu)

theorem State.Canonical.freshSession {p : Nat} (h : s.Canonical) : (s.freshSession p).Canonical :=
  .setFld (.setFld (.modPort (.answerFlight h)))

theorem State.Canonical.loseLink {p st : Nat} (h : s.Canonical) : (s.loseLink p st).Canonical := by
  unfold State.loseLink
  extract_lets +onlyGivenNames was t
  have ht : t.Canonical := .modPort (.setFld (.setLink h))
  split
  · extract_lets +onlyGivenNames u
    split
    · exact .when (.raise ht) (fun _ hu => .regionFault hu)
    · exact .raise ht
  · exact ht

theorem State.Canonical.disablePort {p : Nat} (h : s.Canonical) : (s.disablePort p).Canonical :=
  .answerQueue (.answerFlight (.modPort (.loseLink h)))

theorem State.Canonical.fencePort {p : Nat} (h : s.Canonical) : (s.fencePort p).Canonical := .ite h (.disablePort (.lower (.putUnit h)))

theorem State.Canonical.startTraining {p : Nat} (h : s.Canonical) : (s.startTraining p).Canonical := .ite (.modPort (.setLink h)) h

theorem State.Canonical.failTraining {p : Nat} (h : s.Canonical) : (s.failTraining p).Canonical := .modPort (.countSat h)

theorem execLinkTrainingComplete_canonical {port : Fin 4} {r : TrainResult} (h : s.Canonical) :
    CanonicalNext (execLinkTrainingComplete port r s) := by
  unfold execLinkTrainingComplete
  extract_lets +onlyGivenNames p
  split
  · exact .done h
  · extract_lets +onlyGivenNames fabric module t t1
    have ht1 : t1.Canonical := .modPort (.setFld (.setFld (.setFld (.setFld h))))
    split
    · exact .done (.failTraining (.raise ht1))
    · split
      · exact .done (.failTraining ht1)
      · extract_lets +onlyGivenNames who resumed u u1 u2 v
        have hu : u.Canonical := .modPort (.setFld (.setWidth ht1))
        have hu2 : u2.Canonical := .setLink (.ite hu (.freshSession hu))
        have hv : v.Canonical := by
            unfold v
            split
            · exact .ite hu2 (.setEpochs hu2)
            · exact hu2
        exact .done (.pump hv)

theorem execLinkTrainingFail_canonical {port : Fin 4} (h : s.Canonical) : CanonicalNext (execLinkTrainingFail port s) :=
  .ite (.done (.failTraining h)) (.done h)

theorem execLinkTrainingRetry_canonical {port : Fin 4} (h : s.Canonical) : CanonicalNext (execLinkTrainingRetry port s) :=
  .ite (.done (.modPort h)) (.done h)

theorem State.Canonical.retrain {p bad : Nat} (h : s.Canonical) : (s.retrain p bad).Canonical :=
  .ite (.modPort (.countSat (.setLink h))) h

theorem execLinkRetrain_canonical {port : Fin 4} {lanes : BitVec 16} (h : s.Canonical) : CanonicalNext (execLinkRetrain port lanes s) :=
  .done (.retrain h)

theorem execLaneErrorWindow_canonical {port : Fin 4} {lanes : List (BitVec 16)} (h : s.Canonical) :
    CanonicalNext (execLaneErrorWindow port lanes s) := .ite (.done h) (.done (.retrain h))

theorem execLinkRetrainComplete_canonical {port : Fin 4} {lanesGood : BitVec 16} {ok : Bool} (h : s.Canonical) :
    CanonicalNext (execLinkRetrainComplete port lanesGood ok s) := by
  unfold execLinkRetrainComplete
  extract_lets +onlyGivenNames p
  split
  · exact .done h
  · extract_lets +onlyGivenNames t
    split
    · exact .done (.pump (.setLink (.setWidth (.modPort (.setFld h)))))
    · exact .done (.loseLink (.modPort (.setFld h)))

theorem execLinkDisableComplete_canonical {port : Fin 4} (h : s.Canonical) : CanonicalNext (execLinkDisableComplete port s) :=
  .ite (.done (.when (.disablePort h) (fun _ hu => .startTraining hu))) (.done h)

theorem State.Canonical.resend {p : Nat} (h : s.Canonical) : (s.resend p).Canonical := by
  unfold State.resend
  extract_lets +onlyGivenNames q
  split
  · exact h
  · extract_lets +onlyGivenNames t k u
    have hu : u.Canonical := .modPort (.overList (.countSat h) (fun _ _ hu => .emit hu))
    exact .ite (.retrain hu) hu

theorem State.Canonical.takeAck {p : Nat} {f : Flit} (h : s.Canonical) : (s.takeAck p f).Canonical :=
  .when (.setFld (.setFld (.modPort h))) (fun _ hu => .resend hu)

theorem execFlitReceive_canonical {port : Fin 4} {f : Flit} (h : s.Canonical) : CanonicalNext (execFlitReceive port f s) := by
  unfold execFlitReceive
  extract_lets +onlyGivenNames p
  split
  · exact .done h
  · extract_lets +onlyGivenNames t
    have ht : t.Canonical := .when (.countSat h) (fun _ hu => .countSat hu)
    split
    · exact .done (.when (.when ht (fun _ hu => .countSat hu)) (fun _ hu => .modPort hu))
    · extract_lets +onlyGivenNames u q v
      have hu : u.Canonical := .when (.takeAck ht) (fun _ hu => .actFlit hu)
      exact .done (.pump (.ite (.modPort (.newIds hu)) hu))

theorem execReplayTimeout_canonical {port : Fin 4} (h : s.Canonical) : CanonicalNext (execReplayTimeout port s) :=
  .ite (.done (.resend h)) (.done h)

theorem State.Canonical.leaveIngress {port : Nat} {p : LinkPacket} (h : s.Canonical) : (s.leaveIngress port p).Canonical := .modPort h

theorem State.Canonical.reply {n port : Nat} {p : LinkPacket} {k : PacketKind} {bytes : List Byte} {poison : List Nat} {code : Nat}
    (h : s.Canonical) :
    (s.reply n port p k bytes poison code).Canonical := .toPort (.newId h)

theorem State.Canonical.linkTransfers {n port a bytesIn bytesOut : Nat} {aged : Bool} (h : s.Canonical) :
    (s.linkTransfers n port a bytesIn bytesOut aged).Canonical := .transfer (.transfer h)

theorem CanonicalSome.serveRead {port : Nat} {p : LinkPacket} {n a : Nat} (h : s.Canonical) : CanonicalSome (s.serveRead port p n a) :=
  .ite .none (.some (.reply (.linkTransfers (.loadRange (.leaveIngress h)))))

theorem CanonicalSome.serveWrite {port : Nat} {p : LinkPacket} {n a : Nat} (h : s.Canonical) :
    CanonicalSome (s.serveWrite port p n a) := by
  unfold State.serveWrite
  split
  · exact .none
  · extract_lets +onlyGivenNames u t
    have hu : u.Canonical := .when (.leaveIngress h) (fun _ hu => .launchPoison hu)
    exact .ite (.some (.reply (.linkTransfers (.homeStore hu)))) .none

theorem CanonicalSome.serveAtomic {port : Nat} {p : LinkPacket} {n a : Nat} (h : s.Canonical) :
    CanonicalSome (s.serveAtomic port p n a) := by
  unfold State.serveAtomic
  extract_lets +onlyGivenNames k
  split
  · exact .none
  · extract_lets +onlyGivenNames u x c
    have hu : u.Canonical := by
        unfold u
        split
        · exact .fetchLine (.settleLine h)
        · exact h
    exact .some (.ite (.reply (.linkTransfers (.when (.performAtomic (.leaveIngress hu)) (fun _ hu => .launchPoison hu)))) (.reply
      (.linkTransfers (.when (.performAtomic (.leaveIngress hu)) (fun _ hu => .launchPoison hu)))))

theorem CanonicalSome.serve {port : Nat} {p : LinkPacket} {n a : Nat} (h : s.Canonical) : CanonicalSome (s.serve port p n a) := by
  unfold State.serve
  split
  · exact .serveRead h
  · exact .serveWrite h
  · exact .serveAtomic h
  · exact .none

theorem State.Canonical.holdIngress {port : Nat} {p : LinkPacket} {n a : Nat} (h : s.Canonical) :
    (s.holdIngress port p n a).Canonical := .ite h (.modPort (.countHolds h))

theorem State.Canonical.messageIn {n port col : Nat} {dst : Agent} {k : Nat} {m : Message} {aged : Bool} (h : s.Canonical) :
    (s.messageIn n port col dst k m aged).Canonical := .sendMessage (.transfer h)

theorem execLinkMessage_canonical {port : Fin 4} {p : LinkPacket} (h : s.Canonical) : CanonicalNext (execLinkMessage port p s) := by
  unfold execLinkMessage
  split
  · exact .done h
  · extract_lets +onlyGivenNames stale
    have hstale : stale.Canonical := .countSat (.leaveIngress h)
    split
    · exact .done hstale
    · split
      · exact .done hstale
      · split
        · exact .done hstale
        · extract_lets +onlyGivenNames m
          split
          · exact .done (.messageIn (.leaveIngress h))
          · exact .done (.messageIn (.leaveIngress h))
          · exact .done hstale

theorem execLinkCredit_canonical {port : Fin 4} {p : LinkPacket} (h : s.Canonical) : CanonicalNext (execLinkCredit port p s) :=
  .ite (.done h) (.done (.modPort (.leaveIngress h)))

theorem State.Canonical.takeResponse {port : Nat} {k : PacketKind} {p : LinkPacket} {a : Answer} (h : s.Canonical) :
    (s.takeResponse port k p a).Canonical := by
  unfold State.takeResponse
  split
  · exact h
  · extract_lets +onlyGivenNames t
    split
    · exact .leaveIngress h
    · extract_lets +onlyGivenNames u v
      have hu : u.Canonical := .modPort (.leaveIngress h)
      have hv : v.Canonical := by
          unfold v
          split
          · exact .transfer hu
          · exact .transfer hu
          · exact .countMod hu
          · exact hu
      exact .answer hv

theorem execLinkData_canonical {port : Fin 4} {p : LinkPacket} (h : s.Canonical) : CanonicalNext (execLinkData port p s) :=
  .done (.takeResponse h)

theorem execLinkAck_canonical {port : Fin 4} {p : LinkPacket} (h : s.Canonical) : CanonicalNext (execLinkAck port p s) :=
  .done (.takeResponse h)

theorem execLinkError_canonical {port : Fin 4} {p : LinkPacket} (h : s.Canonical) : CanonicalNext (execLinkError port p s) :=
  .ite (.done h) (.done (.poisonIn (.countSat (.takeResponse h))))

theorem State.Canonical.portAccepts {q : Packet} (h : s.Canonical) : (s.portAccepts q).Canonical :=
  .ite (.overList h (fun _ _ hu => .modCore hu)) h

theorem execEdgeRingTransfer_canonical {id : Nat} {headerError : Bool} (h : s.Canonical) :
    CanonicalNext (execEdgeRingTransfer id headerError s) := by
  unfold execEdgeRingTransfer
  split
  · exact .done h
  · split
    · split
      · exact .done h
      · extract_lets +onlyGivenNames ev left t
        have ht : t.Canonical := by
            unfold t
            split
            · exact .countMod (.keep h)
            · exact .portAccepts (.transfer (.keep h))
        exact .ite (.done (.answer (.integRaise ht))) (.done (.toPort ht))
    · exact .done h

theorem State.Canonical.ageEdge {q : Packet} (h : s.Canonical) : (s.ageEdge q).Canonical := by
  unfold State.ageEdge
  split
  · exact h
  · exact .keep (.countSat h)

theorem State.Canonical.ageIngress {port place : Nat} (h : s.Canonical) : (s.ageIngress port place).Canonical := by
  unfold State.ageIngress
  extract_lets +onlyGivenNames q
  split
  · exact .ite h (.countSat (.modPort h))
  · exact h

theorem State.Canonical.ageBlock {d : DescRef} (h : s.Canonical) : (s.ageBlock d).Canonical := by
  unfold State.ageBlock
  split
  · exact h
  · exact .ite (.countSat (.modDesc h)) h

theorem execAgePromotion_canonical {who : Aging} (h : s.Canonical) : CanonicalNext (execAgePromotion who s) := by
  unfold execAgePromotion
  split
  · split
    · exact .done h
    · exact .done (.countSat (.modReq h))
  · split
    · exact .done h
    · exact .done (.ageEdge h)
  · exact .done (.ageIngress h)
  · exact .done (.ageBlock h)

theorem State.Canonical.serveLink {port : Nat} {k : PacketKind} {p : LinkPacket} (h : s.Canonical) : (s.serveLink port k p).Canonical := by
  unfold State.serveLink
  split
  · exact h
  · split
    · exact .reply (.countSat (.leaveIngress h))
    · split
      · exact h
      · split
        · exact h
        · split
          · exact .holdIngress h
          · next t e =>
              have ht : t.Canonical := CanonicalSome.of_eq (show CanonicalSome _ from .serve h) e
              exact .ite ht h

theorem execLinkRead_canonical {port : Fin 4} {p : LinkPacket} (h : s.Canonical) : CanonicalNext (execLinkRead port p s) :=
  .done (.serveLink h)

theorem execLinkWrite_canonical {port : Fin 4} {p : LinkPacket} (h : s.Canonical) : CanonicalNext (execLinkWrite port p s) :=
  .done (.serveLink h)

theorem execLinkAtomic_canonical {port : Fin 4} {p : LinkPacket} (h : s.Canonical) : CanonicalNext (execLinkAtomic port p s) :=
  .done (.serveLink h)

theorem State.Canonical.countEngine {n len : Nat} {promoted : Bool} (h : s.Canonical) : (s.countEngine n len promoted).Canonical :=
  .keep (.countGrant h)

theorem State.Canonical.countBlock {n a len : Nat} {out promoted : Bool} (h : s.Canonical) :
    (s.countBlock n a len out promoted).Canonical := .overList (.countEngine h) (fun _ _ hu => .transfer hu)

theorem State.Canonical.sendLink {n i : Nat} {index : Word} {l : List Packet} {f : Desc → Desc} (h : s.Canonical) :
    (s.sendLink n i index l f).Canonical := .overList (.modDesc h) (fun _ _ hu => .toEdge (.newId hu))

theorem State.Canonical.blockDone {n i : Nat} {index : Word} {len : Nat} (h : s.Canonical) : (s.blockDone n i index len).Canonical :=
  .modDesc (.newId h)

theorem State.Canonical.holdBlock {n i : Nat} {index : Word} {l : List (Nat × Bool)} (h : s.Canonical) :
    (s.holdBlock n i index l).Canonical := by
  unfold State.holdBlock
  split
  · exact h
  · exact .ite h (.modDesc (.countHolds h))

theorem State.Canonical.taken {n i : Nat} {index : Word} (h : s.Canonical) (h1 : t.Canonical) : (s.taken t n i index).Canonical :=
  .ite h1 (.holdBlock h)

theorem State.Canonical.noteDelayed {before n i : Nat} {index : Word} (h : s.Canonical) : (s.noteDelayed before n i index).Canonical :=
  .ite h (.modDesc h)

theorem State.Canonical.writeBlock {n i : Nat} {x : Desc} {dev : Bool} {dst : Nat} {bytes : List Byte} {bad : List Nat} (h : s.Canonical) :
    (s.writeBlock n i x dev dst bytes bad).Canonical := by
  unfold State.writeBlock
  extract_lets +onlyGivenNames index t
  have ht : t.Canonical := .when (.keep h) (fun _ hu => .modDesc hu)
  split
  · exact .blockDone (.hostWriteOut ht)
  · exact .ite (.sendLink ht) (.blockDone (.storeRange (.countBlock ht)))

theorem State.Canonical.readBlock {n : Nat} {x : Desc} {data : HostData} {src dst k : Nat} (h : s.Canonical) :
    (s.readBlock n x data src dst k).2.2.Canonical := by
  unfold State.readBlock
  split
  · exact .when (.hostReadOut h) (fun _ hu => .hostPoison hu)
  · split
    · exact .keep h
    · exact .loadRange (.countBlock h)

theorem execCopy_canonical {d : DescRef} {data : HostData} (h : s.Canonical) : CanonicalNext (execCopy d data s) := by
  unfold execCopy
  split
  · exact .done h
  · next _ t e =>
      have ht : t.Canonical := .begin h e
      extract_lets +onlyGivenNames n i src dst k before
      split
      · exact .done (.ite (.blockDone ht) ht)
      · split
        · exact .done (.sendLink ht)
        · exact .ite (.done (.holdBlock ht)) (.done (.taken ht (.noteDelayed (.writeBlock (.readBlock ht)))))

theorem execFill_canonical {d : DescRef} (h : s.Canonical) : CanonicalNext (execFill d s) := by
  unfold execFill
  split
  · exact .done h
  · next _ t e =>
      have ht : t.Canonical := .begin h e
      extract_lets +onlyGivenNames n i dst k pat before
      split
      · exact .done (.ite (.blockDone ht) ht)
      · exact .ite (.done ht) (.done (.taken ht (.noteDelayed (.writeBlock ht))))

theorem execNopDescriptor_canonical {d : DescRef} (h : s.Canonical) : CanonicalNext (execNopDescriptor d s) := by
  unfold execNopDescriptor
  split
  · exact .done h
  · next _ t e =>
      have ht : t.Canonical := .begin h e
      exact .done (.finish ht)

theorem execWait_canonical {d : DescRef} {value : BitVec 64} (h : s.Canonical) : CanonicalNext (execWait d value s) := by
  unfold execWait
  split
  · exact .done h
  · next _ t e =>
      have ht : t.Canonical := .begin h e
      exact .ite (.done ht) (.done (.when (.modDesc (.hostReadOut ht)) (fun _ hu => .finish hu)))

theorem State.Canonical.timeOut {d : DescRef} {type : Nat} (h : s.Canonical) : (s.timeOut d type).Canonical := by
  unfold State.timeOut
  split
  · exact h
  · exact .ite (.finish (.modVf h)) h

theorem execWaitTimeout_canonical {d : DescRef} (h : s.Canonical) : CanonicalNext (execWaitTimeout d s) := .done (.timeOut h)

theorem execBarrierTimeout_canonical {d : DescRef} (h : s.Canonical) : CanonicalNext (execBarrierTimeout d s) := .done (.timeOut h)

theorem execFenceDescriptor_canonical {d : DescRef} (h : s.Canonical) : CanonicalNext (execFenceDescriptor d s) := by
  unfold execFenceDescriptor
  split
  · exact .done h
  · next _ t e =>
      have ht : t.Canonical := .begin h e
      exact .done (.when ht (fun _ hu => .finish hu))

theorem State.Canonical.arriveBarrier {n i : Nat} {x : Desc} (h : s.Canonical) : (s.arriveBarrier n i x).Canonical :=
  .ite (.finish h) (.ite (.modVf h) (.modVf (.overList (.finish h) (fun _ _ hu => .finish hu))))

theorem execBarrier_canonical {d : DescRef} (h : s.Canonical) : CanonicalNext (execBarrier d s) := by
  unfold execBarrier
  split
  · exact .done h
  · next _ t e =>
      have ht : t.Canonical := .begin h e
      exact .done (.when ht (fun _ hu => .arriveBarrier hu))

theorem execSignal_canonical {d : DescRef} (h : s.Canonical) : CanonicalNext (execSignal d s) := by
  unfold execSignal
  split
  · exact .done h
  · next _ t e =>
      have ht : t.Canonical := .begin h e
      extract_lets +onlyGivenNames n i a bytes before
      split
      · exact .ite (.done (.finish (.hostWriteOut ht))) (.done ht)
      · split
        · exact .done (.ite (.finish ht) ht)
        · split
          · exact .done ht
          · split
            · exact .done (.sendLink (.keep ht))
            · exact .done (.taken ht (.finish (.noteDelayed (.storeRange (.countBlock (.keep ht))))))

theorem execQuery_canonical {d : DescRef} (h : s.Canonical) : CanonicalNext (execQuery d s) := by
  unfold execQuery
  split
  · exact .done h
  · next _ t e =>
      have ht : t.Canonical := .begin h e
      exact .ite (.done (.finish (.hostWriteOut ht))) (.done ht)

theorem execTelemetrySnapshot_canonical {d : DescRef} (h : s.Canonical) : CanonicalNext (execTelemetrySnapshot d s) := by
  unfold execTelemetrySnapshot
  split
  · exact .done h
  · next _ t e =>
      have ht : t.Canonical := .begin h e
      exact .ite (.done (.finish (.hostWriteOut ht))) (.done ht)

theorem State.Canonical.writePrograms {n : Nat} {im : Image} (h : s.Canonical) : (s.writePrograms n im).Canonical :=
  .overList (.overList h (fun _ _ hu => .modCore hu)) (fun _ _ hu => .modCore hu)

theorem State.Canonical.installImage {n : Nat} {im : Image} (h : s.Canonical) : (s.installImage n im).Canonical := by
  unfold State.installImage
  extract_lets +onlyGivenNames t t1 t2
  have ht2 : t2.Canonical := .setFld (.setFld (.setFld (.setFld (.setFld (.raise (.setWord (.setWord (.modRgn (.writePrograms h)))))))))
  exact .setWord (.setWord ht2)

theorem State.Canonical.rejectImage {n i : Nat} {index : Word} {code : Nat} {poison : Bool} (h : s.Canonical) :
    (s.rejectImage n i index code poison).Canonical := .finish (.setFld h)

theorem State.Canonical.readImage {n addr len : Nat} {bad : Bool} (h : s.Canonical) : (s.readImage n addr len bad).Canonical :=
  .when (.countEngine (.hostReadOut h)) (fun _ hu => .hostPoison hu)

theorem execLoadSchedule_canonical {d : DescRef} {image : HostData} (h : s.Canonical) : CanonicalNext (execLoadSchedule d image s) := by
  unfold execLoadSchedule
  split
  · exact .done h
  · next _ t e =>
      have ht : t.Canonical := .begin h e
      extract_lets +onlyGivenNames n i b len bad
      split
      · exact .done (.finish ht)
      · split
        · exact .done ht
        · split
          · exact .done (.modDesc ht)
          · extract_lets +onlyGivenNames u
            have hu : u.Canonical := .noteDelayed (.readImage ht)
            split
            · split
              · exact .done (.rejectImage (.dropImage hu))
              · exact .done (.finish (.setEpochs (.installImage (.setEpochs hu))))
            · exact .ite (.done (.rejectImage hu)) (.done (.modDesc hu))

theorem State.Canonical.stepClass {c : SupplyClass} {ev : Option OpenEvent} {quiet : Nat} {r : Run} {need clearAt v : Nat}
    {isQuiet : Bool} {extreme : Nat → Nat → Nat} {active : Fld} (h : s.Canonical) :
    (Machine.stepClass s c ev quiet r need clearAt v isQuiet extreme active).state.Canonical := by
  unfold Machine.stepClass
  split
  · split
    · exact .raise (.openEvent h)
    · exact h
  · extract_lets +onlyGivenNames q e'
    split
    · exact .lower (.closeEvent h)
    · exact .updateEvent h

theorem State.Canonical.stepSag {ts mv : Nat} (h : s.Canonical) : (s.stepSag ts mv).Canonical := .keep (.stepClass h)

theorem State.Canonical.stepDropout {ts mv : Nat} (h : s.Canonical) : (s.stepDropout ts mv).Canonical := .keep (.stepClass h)

theorem State.Canonical.stepSwell {ts mv : Nat} (h : s.Canonical) : (s.stepSwell ts mv).Canonical := .keep (.stepClass h)

theorem State.Canonical.stepTransient {ts mv : Nat} (h : s.Canonical) : (s.stepTransient ts mv).Canonical := by
  unfold State.stepTransient
  extract_lets +onlyGivenNames d isStep
  split
  · exact .ite (.keep (.openEvent h)) h
  · exact .ite (.keep (.closeEvent h)) (.keep (.updateEvent h))

theorem State.Canonical.stepRipple (h : s.Canonical) : (s.stepRipple).Canonical := by
  unfold State.stepRipple
  extract_lets +onlyGivenNames p exceeds
  split
  · exact .ite (.keep (.raise (.openEvent h))) h
  · exact .ite (.keep (.updateEvent h)) (.keep (.lower (.closeEvent h)))

theorem State.Canonical.stepLoss {ts mv : Nat} (h : s.Canonical) : (s.stepLoss ts mv).Canonical := .ite (.declareLoss (.keep h)) (.keep h)

theorem State.Canonical.stepLimiter {ts : Nat} (h : s.Canonical) : (s.stepLimiter ts).Canonical := by
  unfold State.stepLimiter
  extract_lets +onlyGivenNames a b
  split
  · exact .ite (.keep (.raise (.openEvent h))) h
  · exact .ite (.keep (.lower (.closeEvent h))) (.keep (.updateEvent h))

theorem State.Canonical.setPair {lo hi v : Nat} (h : s.Canonical) : (s.setPair lo hi v).Canonical := .setWord (.setWord h)

theorem State.Canonical.meter {ts mv ma : Nat} (h : s.Canonical) : (s.meter ts mv ma).Canonical := .setPair (.setFld (.setFld (.keep h)))

theorem State.Canonical.endTickMeter (h : s.Canonical) : (s.endTickMeter).Canonical := .setFld (.setFld (.setFld h))

theorem State.Canonical.countThermal (h : s.Canonical) : (s.countThermal).Canonical := by
  unfold State.countThermal
  split
  · exact h
  · exact .keep (.updateEvent h)

theorem State.Canonical.classify {ts mv : Nat} {lastOfTick : Bool} (h : s.Canonical) : (s.classify ts mv lastOfTick).Canonical := by
  unfold State.classify
  split
  · exact h
  · exact .stepLoss (.when (.stepSwell (.stepDropout (.stepSag (.stepTransient h)))) (fun _ hu => .stepRipple hu))

theorem execSupplySample_canonical {mv ma : BitVec 16} (h : s.Canonical) : CanonicalNext (execSupplySample mv ma s) := by
  unfold execSupplySample
  split
  · exact .done h
  · extract_lets +onlyGivenNames ts last a b c
    have hb : b.Canonical := .countThermal (.stepLimiter (.classify (.meter (.at h))))
    exact .done (.updateRefreshOnly (.updateShed (.when (.keep hb) (fun _ hu => .endTickMeter hu))))

theorem execOvervoltageTrip_canonical (h : s.Canonical) : CanonicalNext (execOvervoltageTrip s) := .ite (.done h) (.done (.declareLoss h))

theorem execUndervoltageComparator_canonical (h : s.Canonical) : CanonicalNext (execUndervoltageComparator s) :=
  .ite (.done (.declareLoss (.draw h))) (.done h)

theorem State.Canonical.meterFail (h : s.Canonical) : (s.meterFail).Canonical := by
  unfold State.meterFail
  extract_lets +onlyGivenNames t u v
  have ht : t.Canonical := .overList h (fun _ _ hu => .closeEvent hu)
  exact .updateRefreshOnly (.updateShed (.setFld (.raise (.lower (.lower (.lower (.lower (.keep ht))))))))

theorem execMeterSelfCheck_canonical {ok : Bool} (h : s.Canonical) : CanonicalNext (execMeterSelfCheck ok s) :=
  .ite (.done h) (.done (.ite (.setFld h) (.meterFail (.setFld h))))

theorem State.Canonical.stepThermal (h : s.Canonical) : (s.stepThermal).Canonical := by
  unfold State.stepThermal
  extract_lets +onlyGivenNames hbm die peak
  split
  · split
    · split
      next v t e =>
      have ht : t.Canonical := .snd (.draw h) e
      exact .keep (.raise (.updateEvent (.openEvent ht)))
    · exact h
  · exact .ite (.keep (.lower (.closeEvent h))) (.keep (.updateEvent h))

theorem execJunctionSensorRead_canonical {temps : List (BitVec 8)} (h : s.Canonical) : CanonicalNext (execJunctionSensorRead temps s) := by
  unfold execJunctionSensorRead
  split
  · exact .done h
  · extract_lets m hot n hi a supply b
    have hb : b.Canonical := .updateShed (.stepThermal (.keep (.setFld (.setFld h))))
    exact .ite (.done (.declareLoss (.draw hb))) (.done hb)

theorem execHbmTempReport_canonical {stack : Fin 8} {temp : BitVec 8} (h : s.Canonical) :
    CanonicalNext (execHbmTempReport stack temp s) := by
  unfold execHbmTempReport
  split
  · exact .done h
  · extract_lets +onlyGivenNames k c crit hot a b
    have ha : a.Canonical := .setFld (.setFld (.setFld h))
    exact .done (.updateRefreshOnly (.updateShed (.stepThermal (.setFld ha))))

theorem State.Canonical.noteIslands {n : Nat} (h : s.Canonical) : (s.noteIslands n).Canonical :=
  .ite (.setFld h) (.keep (.setFld (.setFld h)))

theorem State.Canonical.dropClusters {n : Nat} (h : s.Canonical) : (s.dropClusters n).Canonical := .keep h

theorem State.Canonical.gateIslands {n : Nat} (h : s.Canonical) : (s.gateIslands n).Canonical :=
  .darkenXings (.noteIslands (.modRgn (.dropClusters (.overList (.clearPackets h) (fun _ _ hu => .setBit hu)))))

theorem State.Canonical.noteRect {n : Nat} {was : List Nat} (h : s.Canonical) : (s.noteRect n was).Canonical := by
  unfold State.noteRect
  extract_lets +onlyGivenNames live now m t t1
  have ht1 : t1.Canonical := .overList (.setWord (.setWord (.setWord h))) (fun _ _ hu => .setFld (.setFld hu))
  exact .overList ht1 (fun _ _ hu => .setFld (.setFld hu))

theorem State.Canonical.endLaunch {n status code : Nat} (h : s.Canonical) : (s.endLaunch n status code).Canonical := by
  unfold State.endLaunch
  split
  · exact h
  · exact .finish (.modRgn h)

theorem State.Canonical.environmentFault {n : Nat} {f : FaultReport} (h : s.Canonical) : (s.environmentFault n f).Canonical :=
  .ite (.regionFault (.integRaise h)) (.ite (.regionFault (.modCore (.clusterUe (.draw h)))) h)

theorem execRegionFault_canonical {region : Fin 32} {f : FaultReport} {more : List FaultReport} (h : s.Canonical) :
    CanonicalNext (execRegionFault region f more s) := by
  unfold execRegionFault
  extract_lets +onlyGivenNames n l
  split
  · exact .done (.overList (.modRgn h) (fun _ _ hu => .regionFault hu))
  · exact .ite (.done h) (.done (.environmentFault h))

theorem execFaultStopEnd_canonical {region : Fin 32} (h : s.Canonical) : CanonicalNext (execFaultStopEnd region s) := by
  unfold execFaultStopEnd
  extract_lets +onlyGivenNames n r s'
  split
  · exact .done h
  · extract_lets +onlyGivenNames code t
    split
    · exact .done (.startReset (.modRgn (.endLaunch (.settle h))))
    · extract_lets +onlyGivenNames u u1
      have hu : u.Canonical := .modRgn (.endLaunch (.settle h))
      have hu1 : u1.Canonical := by
          unfold u1
          split
          · exact .abortOrdered hu
          · exact hu
      exact .done (.enterFaulted hu1)

theorem State.Canonical.writeOrLose {n : Nat} {r : Record} (h : s.Canonical) : (s.writeOrLose n r).Canonical :=
  .ite (.writeRecord h) (.countSat h)

theorem State.Canonical.abortAll {n cause : Nat} (h : s.Canonical) : (s.abortAll n cause).Canonical := by
  unfold State.abortAll
  extract_lets +onlyGivenNames stop v t w t1 t2
  have ht1 : t1.Canonical := .overList (.modVf (.ite (.flushHeld h) h)) (fun _ _ hu => .countSat hu)
  have ht2 : t2.Canonical := .overList (.noteHeld ht1) (fun _ _ hu => .overList (.modRing hu) (fun _ _ hv => .writeOrLose hv))
  exact .noteStatus ht2

theorem State.Canonical.discardTraffic {n : Nat} (h : s.Canonical) : (s.discardTraffic n).Canonical := .keep (.clearPackets h)

theorem State.Canonical.stopCores {n : Nat} (h : s.Canonical) : (s.stopCores n).Canonical := .keep h

theorem execRegionResetDrainEnd_canonical {region : Fin 32} (h : s.Canonical) : CanonicalNext (execRegionResetDrainEnd region s) := by
  unfold execRegionResetDrainEnd
  extract_lets +onlyGivenNames n
  split
  · exact .done h
  · split
    · exact .done h
    · extract_lets +onlyGivenNames t t1 t2
      have ht2 : t2.Canonical := .modRgn (.applyFences (.modRgn (.stopCores (.discardTraffic (.abortAll (.cutLoad h))))))
      exact .done (.setFld (.setFld ht2))

theorem State.Canonical.settleRegion {n : Nat} (h : s.Canonical) : (s.settleRegion n).Canonical := by
  unfold State.settleRegion
  extract_lets +onlyGivenNames t t1
  have ht : t.Canonical := by
      unfold t
      exact .overList h (fun _ _ hu => by
          split
          · exact .applyReturn hu
          · exact hu)
  have ht1 : t1.Canonical := .overList ht (fun _ _ hu => .overList hu (fun _ _ hv => .settleLine hv))
  exact .overList ht1 (fun _ _ hu => .noteMeridian (.modSlice hu))

theorem State.Canonical.emptyQueues {n : Nat} (h : s.Canonical) : (s.emptyQueues n).Canonical := by
  unfold State.emptyQueues
  extract_lets +onlyGivenNames t
  have ht : t.Canonical := .overList h (fun _ _ hu => .modSlice hu)
  exact .keep ht

theorem State.Canonical.dropControl {n : Nat} (h : s.Canonical) : (s.dropControl n).Canonical := .keep h

theorem State.Canonical.resetRoutes {n : Nat} (h : s.Canonical) : (s.resetRoutes n).Canonical :=
  .when (.changeRoutes h) (fun _ hu => .countSat hu)

theorem execRegionResetEnd_canonical {region : Fin 32} (h : s.Canonical) : CanonicalNext (execRegionResetEnd region s) := by
  unfold execRegionResetEnd
  extract_lets +onlyGivenNames n
  split
  · exact .done h
  · split
    · exact .done h
    · extract_lets +onlyGivenNames t t1 cold t2 t3
      have ht1 : t1.Canonical := .resetRoutes (.gateIslands (.dropControl (.setEpochs (.emptyQueues (.settleRegion h)))))
      have ht3 : t3.Canonical := .modRgn (.setFld (.modFn (.resetRings ht1)))
      exact .ite (.done ht3) (.done (.regionEvent (.setFld ht3)))

theorem State.Canonical.drainChannel {ch : Nat} (h : s.Canonical) : (s.drainChannel ch).Canonical := .overList h (fun _ _ hu => .grant hu)

theorem State.Canonical.flushSlice {n i : Nat} (h : s.Canonical) : (s.flushSlice n i).Canonical :=
  .drainChannel (.drainChannel (.modSlice (.overList h (fun _ _ hu => .writeBack hu))))

theorem State.Canonical.coldRange {lo hi : Nat} (h : s.Canonical) : (s.coldRange lo hi).Canonical := h.filter

theorem State.Canonical.zeroSlice {i : Nat} (h : s.Canonical) : (s.zeroSlice i).Canonical := .coldRange (.coldRange h)

theorem State.Canonical.endStandby {n : Nat} (h : s.Canonical) : (s.endStandby n).Canonical := by
  unfold State.endStandby
  extract_lets +onlyGivenNames tiles t t1
  have ht1 : t1.Canonical := .overList (.overList h (fun _ _ hu => .when hu (fun _ hv => .putUnit hv))) (fun _ _ hu => .when hu
    (fun _ hv => .putUnit hv))
  exact .keep ht1

theorem State.Canonical.freeRegion {n : Nat} (h : s.Canonical) : (s.freeRegion n).Canonical := by
  unfold State.freeRegion
  extract_lets +onlyGivenNames was t t1 t2 t3 t4
  have ht : t.Canonical := .overList (.endStandby h) (fun _ _ hu => .zeroSlice (.setFld (.setFld hu)))
  have ht2 : t2.Canonical := .setWord (.modRgn (.dropImage (.overList ht (fun _ _ hu => .setFld (.lower hu)))))
  exact .regionEvent (.setBit (.coldRange (.coldRange (.coldRange (.coldRange (.noteRect ht2))))))

theorem State.Canonical.clearStorage {n : Nat} (h : s.Canonical) : (s.clearStorage n).Canonical := .keep (.dropClusters h)

theorem execReleaseClearEnd_canonical {region : Fin 32} (h : s.Canonical) : CanonicalNext (execReleaseClearEnd region s) := by
  unfold execReleaseClearEnd
  extract_lets +onlyGivenNames n
  split
  · exact .done h
  · exact .done (.freeRegion (.clearStorage (.gateIslands (.overList h (fun _ _ hu => .flushSlice hu)))))

theorem State.Canonical.commitSlice {n i : Nat} (h : s.Canonical) : (s.commitSlice n i).Canonical := by
  unfold State.commitSlice
  extract_lets +onlyGivenNames ch maxOcc t t1 t2 t3
  have ht3 : t3.Canonical := .modSlice (.setFld (.setFld (.lower (.setFld (.setFld (.zeroSlice h))))))
  exact .setFld (.setFld (.keep ht3))

theorem State.Canonical.commitRegion {n : Nat} (h : s.Canonical) : (s.commitRegion n).Canonical := by
  unfold State.commitRegion
  extract_lets +onlyGivenNames t t1 t2
  have ht1 : t1.Canonical := .overList (.overList h (fun _ _ hu => .commitSlice hu)) (fun _ _ hu => .setFld hu)
  exact .setFld (.resetRoutes (.setWord (.setWord (.coldRange ht1))))

theorem State.Canonical.configureRegion {n : Nat} (h : s.Canonical) : (s.configureRegion n).Canonical := .noteRect (.setPair (.setFld h))

theorem State.Canonical.emptyCore {n g : Nat} (h : s.Canonical) : (s.emptyCore n g).Canonical := by
  unfold State.emptyCore
  exact .overList h (fun _ _ hu => by
        split
        · split
          · exact .sendLinkCredit hu
          · exact hu
        · exact hu)

theorem State.Canonical.startCore {n : Nat} {p : Program} (h : s.Canonical) : (s.startCore n p).Canonical := .modCore (.emptyCore h)

theorem State.Canonical.startSlice {n i : Nat} (h : s.Canonical) : (s.startSlice n i).Canonical := .modSlice h

theorem State.Canonical.sendLaunch {n : Nat} {im : Image} {entries : List Nat} (h : s.Canonical) :
    (s.sendLaunch n im entries).Canonical := by
  unfold State.sendLaunch
  extract_lets +onlyGivenNames t t1 t2 t3
  have ht : t.Canonical := .overList h (fun _ _ hu => .startCore hu)
  have ht1 : t1.Canonical := .overList ht (fun _ _ hu => .startSlice hu)
  exact .setEpochs (.modRgn (.setWord (.setWord (.overList ht1 (fun _ _ hu => .modCluster hu)))))

theorem State.Canonical.closeLaunch {n status code : Nat} (h : s.Canonical) : (s.closeLaunch n status code).Canonical :=
  .setFld (.endLaunch h)

theorem State.Canonical.advanceLaunch {n : Nat} (h : s.Canonical) : (s.advanceLaunch n).Canonical := by
  unfold State.advanceLaunch
  split
  · split
    · exact h
    · split
      · exact .closeLaunch h
      · exact .ite (.sendLaunch (.setFld h)) (.modRgn (.setFld h))
  · exact h

theorem execLaunch_canonical {d : DescRef} (h : s.Canonical) : CanonicalNext (execLaunch d s) := by
  unfold execLaunch
  split
  · exact .done h
  · next _ t e =>
      have ht : t.Canonical := .begin h e
      extract_lets +onlyGivenNames n i
      split
      · exact .done (.finish ht)
      · split
        · exact .done ht
        · split
          · exact .done (.finish ht)
          · exact .done (.advanceLaunch (.setWord (.setFld (.modRgn ht))))

theorem State.Canonical.crossingFailed {c : Crossing} (h : s.Canonical) : (s.crossingFailed c).Canonical := by
  unfold State.crossingFailed
  extract_lets +onlyGivenNames p
  split
  · exact .countSat (.keep h)
  · extract_lets +onlyGivenNames t t1
    have ht : t.Canonical := .setFld (.raise (.raise h))
    exact .hwFence (.setFld (.keep ht))

theorem State.Canonical.verifyXings {tiles : List Nat} {found : List Crossing} (h : s.Canonical) :
    (s.verifyXings tiles found).Canonical := .noteXings (.overList (.keep h) (fun _ _ hu => .crossingFailed hu))

theorem State.Canonical.trainXings (h : s.Canonical) : (s.trainXings).Canonical := .keep h

theorem execIslandUngateComplete_canonical {island : Fin 32} {crossings : List Crossing} (h : s.Canonical) :
    CanonicalNext (execIslandUngateComplete island crossings s) := by
  unfold execIslandUngateComplete
  split
  · exact .done h
  · exact .ite (.done h) (.done (.advanceLaunch (.verifyXings (.noteIslands (.setBit h)))))

theorem execIslandIdleGate_canonical {region : Fin 32} (h : s.Canonical) : CanonicalNext (execIslandIdleGate region s) :=
  .ite (.done (.gateIslands h)) (.done h)

theorem execImageRebuild_canonical {region : Fin 32} {image : HostData} (h : s.Canonical) :
    CanonicalNext (execImageRebuild region image s) := by
  unfold execImageRebuild
  extract_lets +onlyGivenNames n
  split
  · split
    · exact .done h
    · extract_lets +onlyGivenNames b bad u
      have hu : u.Canonical := .noteDelayed (.readImage h)
      exact .ite (.done (.regionFault hu)) (.done (.advanceLaunch (.modRgn (.writePrograms hu))))
  · exact .done h

theorem State.Canonical.readFailed {d : DescRef} {code : Nat} {mark : State → State} (h : s.Canonical)
    (hf : ∀ u, u.Canonical → (mark u).Canonical) : (s.readFailed d code mark).Canonical := by
  unfold State.readFailed
  extract_lets +onlyGivenNames fail
  split
  · exact .modDesc (.closeLaunch (hf _ h))
  · split
    · exact h
    · exact .ite (.when (.hostFailed (hf _ h)) fun _ hu => .dropImage hu) h

theorem execHostDmaErrorResponse_canonical {d : DescRef} {e : HostError} (h : s.Canonical) :
    CanonicalNext (execHostDmaErrorResponse d e s) := .done (.readFailed h (fun _ hu => .hostError hu))

theorem execHostReadTimeout_canonical {d : DescRef} (h : s.Canonical) : CanonicalNext (execHostReadTimeout d s) :=
  .done (.readFailed h (fun _ hu => .raise hu))

theorem State.Canonical.checkRuleBook {n : Nat} {d : GatherDecl} (h : s.Canonical) : (s.checkRuleBook n d).2.2.Canonical := by
  unfold State.checkRuleBook
  split
  next header bad t e =>
  have ht : t.Canonical := .snd2 (.loadRange h) e
  extract_lets +onlyGivenNames ev count
  split
  · exact ht
  · split
    · exact ht
    · exact .ruleEntries ht

theorem State.Canonical.checkRuleBooks {n : Nat} {decls : List GatherDecl}
    (h : s.Canonical) : (s.checkRuleBooks n decls).2.2.Canonical := by
  refine foldl_canonical (fun acc : Option (Nat × RuleFail) × List Nat × State => acc.2.2) _ (fun acc d hu => ?_) _ _ h
  exact .checkRuleBook hu

theorem execGatherCheckComplete_canonical {region : Fin 32} (h : s.Canonical) : CanonicalNext (execGatherCheckComplete region s) := by
  unfold execGatherCheckComplete
  extract_lets +onlyGivenNames n
  split
  · split
    · exact .done h
    · split
      next f entries t e =>
      have ht : t.Canonical := .snd2 (.checkRuleBooks h) e
      split
      · exact .done (.sendLaunch ht)
      · exact .done (.closeLaunch (.setWord (.setWord ht)))
  · exact .done h

theorem State.Canonical.wakeWaitf {n f : Nat} (h : s.Canonical) : (s.wakeWaitf n f).Canonical :=
  .overList h (fun _ _ hu => .ite (.modCore hu) hu)

theorem State.Canonical.planeRead {t a len : Nat} (h : s.Canonical) : (s.planeRead t a len).2.Canonical := .keep h

theorem State.Canonical.planeWrite {n t a : Nat} {f : PlaneFlit} (h : s.Canonical) : (s.planeWrite n t a f).Canonical := by
  unfold State.planeWrite
  extract_lets +onlyGivenNames bad u
  have hu : u.Canonical := .when h (fun _ hu => .launchPoison hu)
  exact .ite (.sramWrite hu) (.intoCluster hu)

theorem State.Canonical.routerSlot {n t slot : Nat} {e : SlotEntry} {m : PlaneLinks} (h : s.Canonical) :
    (s.routerSlot n t slot e m).2.Canonical := by
  have read (a len : Nat) : (s.planeRead t a len).2.Canonical := .planeRead h
  unfold State.routerSlot
  extract_lets k step
  split
  next inj u ev =>
  have hu : u.Canonical := by
    refine .snd ?_ ev
    split
    · exact read (32 * e.injAddr + step * k) step
    · exact h
  exact .ite hu (.planeWrite hu)

theorem State.Canonical.planeSlot {n slot : Nat} {set : List TileTable} {m : PlaneLinks} (h : s.Canonical) :
    (s.planeSlot n slot set m).2.Canonical := by
  refine foldl_canonical (fun acc : PlaneLinks × State => acc.2) _ (fun acc r hu => ?_) _ _ h
  split
  · exact hu
  · exact .routerSlot hu

theorem State.Canonical.planeFrame {n slots : Nat} {set : List TileTable} (h : s.Canonical) : (s.planeFrame n slots set).Canonical := by
  refine foldl_canonical (fun acc : PlaneLinks × State => acc.2) _ (fun acc k hu => ?_) _ _ h
  exact .planeSlot hu

theorem execFrameStart_canonical {region : Fin 32} (h : s.Canonical) : CanonicalNext (execFrameStart region s) := by
  unfold execFrameStart
  extract_lets +onlyGivenNames n
  split
  · exact .ite (.done h) (.done (.wakeWaitf (.planeFrame (.modRgn (.setWord h)))))
  · exact .done h

theorem State.Canonical.noteGate {n : Nat} {l : Launch} (h : s.Canonical) : (s.noteGate n l).Canonical :=
  .ite h (.ite (.countSat h) (.when (.draw h) (fun _ hu => .countSat hu)))

theorem execFrameEnd_canonical {region : Fin 32} (h : s.Canonical) : CanonicalNext (execFrameEnd region s) := by
  unfold execFrameEnd
  extract_lets +onlyGivenNames n
  split
  · exact .done h
  · exact .ite (.done h) (.done (.applyPending (.act (.noteGate (.modRgn h)))))

theorem State.Canonical.countLeft {n : Nat} (h : s.Canonical) : (s.countLeft n).Canonical := by
  unfold State.countLeft
  extract_lets +onlyGivenNames left unread t
  have ht : t.Canonical := .overList h (fun _ _ hu => .modSlice (.overList hu (fun _ _ hv => .leaveInput hv)))
  exact .countSat (.countSat ht)

theorem execLaunchEnd_canonical {region : Fin 32} (h : s.Canonical) : CanonicalNext (execLaunchEnd region s) := by
  unfold execLaunchEnd
  extract_lets +onlyGivenNames n
  split
  · exact .done h
  · exact .ite (.done h) (.done (.closeLaunch (.setEpochs (.countLeft h))))

theorem execLaunchWatchdog_canonical {region : Fin 32} (h : s.Canonical) : CanonicalNext (execLaunchWatchdog region s) :=
  .ite (.done (.regionFault h)) (.done h)

theorem State.Canonical.stopHalves (h : s.Canonical) : (s.stopHalves).Canonical := by
  unfold State.stopHalves
  extract_lets +onlyGivenNames t t1 u
  have ht1 : t1.Canonical := .setFld (.setFld (.lower (.lower (.lower (.lower (.lower (.lower h)))))))
  exact .overList (.keep ht1) (fun _ _ hu => .setFld hu)

theorem State.Canonical.freshSlices (h : s.Canonical) : (s.freshSlices).Canonical := by
  unfold State.freshSlices
  exact .overList h (fun _ _ hu => by
        extract_lets +onlyGivenNames v
        have hv : v.Canonical := .setFld (.setFld (.setFld hu))
        exact .when hv (fun _ hv => .modSlice hv))

theorem State.Canonical.repairFailed {e : UnitKind × Nat} (h : s.Canonical) : (s.repairFailed e).Canonical := by
  unfold State.repairFailed
  extract_lets +onlyGivenNames t
  split
  · exact .hwFence (.raise h)
  · exact .hwFence (.raise h)
  · exact h

theorem State.Canonical.powerUpFound {p : PowerUp} (h : s.Canonical) : (s.powerUpFound p).Canonical :=
  .overList (.verifyXings h) (fun _ _ hu => .repairFailed hu)

theorem State.Canonical.startHalves {m : Nat} {p : PowerUp} (h : s.Canonical) : (s.startHalves m p).Canonical := by
  unfold State.startHalves
  extract_lets +onlyGivenNames t t1 u
  have ht1 : t1.Canonical := .setFld (.raise (.raise (.raise (.raise (.raise h)))))
  exact .powerUpFound (.when (.freshSlices (.keep ht1)) (fun _ hu => .applyShed hu))

theorem State.Canonical.selfRefresh {on : Bool} (h : s.Canonical) : (s.selfRefresh on).Canonical := .overList h (fun _ _ hu => .setFld hu)

theorem State.Canonical.sleepHalves (h : s.Canonical) : (s.sleepHalves).Canonical := by
  unfold State.sleepHalves
  extract_lets +onlyGivenNames live t t1 t2 u
  have ht : t.Canonical := .overList h (fun _ _ hu => .overList (.settleRegion hu) (fun _ _ hv => .flushSlice hv))
  have ht2 : t2.Canonical := .overList (.overList ht (fun _ _ hu => .modRgn hu)) (fun _ _ hu => .lower (.setWord hu))
  exact .selfRefresh (.stopHalves (.keep ht2))

theorem State.Canonical.startHalt (h : s.Canonical) : (s.startHalt).Canonical :=
  .ite h (.ite (.keep h) (.overList (.raise (.keep (.lower h))) (fun _ _ hu => .startReset hu)))

theorem State.Canonical.startHeldHalt (h : s.Canonical) : (s.startHeldHalt).Canonical := .when h (fun _ hu => .startHalt hu)

theorem execFhaltSample_canonical {a b : Bool} (h : s.Canonical) : CanonicalNext (execFhaltSample a b s) := by
  unfold execFhaltSample
  split
  · exact .done h
  · extract_lets +onlyGivenNames t
    split
    · exact .done (.when (.keep (.setFld (.setFld h))) (fun _ hu => .startHalt (.raise hu)))
    · extract_lets +onlyGivenNames u v
      have hu : u.Canonical := .when (.setFld (.setFld h)) (fun _ hu => .countSat hu)
      exact .done (.when (.keep hu) (fun _ hu => .startHalt hu))

theorem State.Canonical.releaseM3 {crossings : List Crossing} (h : s.Canonical) : (s.releaseM3 crossings).Canonical :=
  .startHalves (.keep (.lower h))

theorem State.Canonical.moreFound {p : PowerUp} (h : s.Canonical) : (s.moreFound p).Canonical :=
  .noteXings (.overList (.overList h (fun _ _ hu => .crossingFailed hu)) (fun _ _ hu => .repairFailed hu))

theorem State.Canonical.resetIntervals (h : s.Canonical) : (s.resetIntervals).Canonical := .keep h

theorem State.Canonical.wakeRegion {n : Nat} (h : s.Canonical) : (s.wakeRegion n).Canonical := by
  unfold State.wakeRegion
  extract_lets +onlyGivenNames st
  split
  · exact h
  · split
    · exact h
    · exact .when (.setFld (.latchFault h)) (fun _ hu => .regionEvent hu)

theorem execM3ReleaseComplete_canonical {p : PowerUp} (h : s.Canonical) : CanonicalNext (execM3ReleaseComplete p s) := by
  unfold execM3ReleaseComplete
  split
  · exact .done h
  · extract_lets power t t1 t2 t3 t4
    have ht : t.Canonical := .keep h
    have ht1 : t1.Canonical := .resetIntervals (.moreFound ht)
    have ht2 : t2.Canonical := .setFld (.setFld (.selfRefresh ht1))
    have ht3 : t3.Canonical := .overList ht2 fun _ _ hu => .wakeRegion hu
    have ht4 : t4.Canonical := .overList ht3 fun _ _ hu => .when hu fun _ hv => .startTraining hv
    exact .done (.startHeldHalt ht4)

theorem State.Canonical.enterM2 (h : s.Canonical) : (s.enterM2).Canonical := by
  unfold State.enterM2
  extract_lets +onlyGivenNames ready t t1
  have ht1 : t1.Canonical := .countSat (.lower (.lower (.lower (.sleepHalves (.overList h (fun _ _ hu => .setBit hu))))))
  exact .driveClkreq (.setFld (.lower ht1))

theorem State.Canonical.startWake {code : Nat} (h : s.Canonical) : (s.startWake code).Canonical := .keep (.driveClkreq (.raise h))

theorem State.Canonical.abandonM2 (h : s.Canonical) : (s.abandonM2).Canonical := .keep (.lower h)

theorem State.Canonical.wakeBy {code : Nat} (h : s.Canonical) : (s.wakeBy code).Canonical :=
  .ite h (.ite (.ite h (.startWake h)) (.ite h (.ite (.keep (.draw h)) (.abandonM2 (.draw h)))))

theorem State.Canonical.pollAll {polls : List (Fin 32 × PollRead)} (h : s.Canonical) : (s.pollAll polls).2.Canonical := by
  refine foldl_canonical (fun acc : Bool × State => acc.2) _ (fun acc e hu => ?_) _ _ h
  dsimp only
  split
  · exact .poll hu
  · exact hu

theorem execM2EntryComplete_canonical {polls : List (Fin 32 × PollRead)} (h : s.Canonical) :
    CanonicalNext (execM2EntryComplete polls s) := by
  unfold execM2EntryComplete
  split
  · exact .done h
  · split
    · exact .done (.startWake (.enterM2 h))
    · exact .done (.ite (.abandonM2 (.pollAll h)) (.enterM2 (.pollAll h)))

theorem execM2PollExcursion_canonical {polls : List (Fin 32 × PollRead)} (h : s.Canonical) :
    CanonicalNext (execM2PollExcursion polls s) := by
  unfold execM2PollExcursion
  split
  · exact .done h
  · exact .done (.ite (.wakeBy (.pollAll (.driveClkreq h))) (.driveClkreq (.pollAll (.driveClkreq h))))

theorem execWakeCause_canonical {cause : WakeCause} {crossings : List Crossing} (h : s.Canonical) :
    CanonicalNext (execWakeCause cause crossings s) := .done (.ite (.keep (.wakeBy h)) (.wakeBy h))

theorem execWakeHint_canonical {vf : Fin 32} (h : s.Canonical) : CanonicalNext (execWakeHint vf s) :=
  .ite (.done h) (.done (.wakeBy (.takeHint h)))

theorem State.Canonical.endWake {p : PowerUp} (h : s.Canonical) : (s.endWake p).Canonical := by
  unfold State.endWake
  extract_lets power t t1 t2
  have ht : t.Canonical := .keep h
  have ht1 : t1.Canonical := .resetIntervals (.startHalves ht)
  have ht2 : t2.Canonical := .setFld (.setFld (.selfRefresh ht1))
  exact .overList ht2 fun _ _ hu => .noteIslands (.overList hu fun _ _ hv => .setBit hv)

theorem State.Canonical.setStopped {home : Half} {b : Bool} (h : s.Canonical) : (s.setStopped home b).Canonical := by
  unfold State.setStopped
  split
  · exact .keep h
  · exact .keep h

theorem execTilePllUnlock_canonical {half : Half} (h : s.Canonical) : CanonicalNext (execTilePllUnlock half s) :=
  .ite (.done h) (.done (.raise (.lower (.setStopped h))))

theorem execTilePllRelock_canonical {half : Half} (h : s.Canonical) : CanonicalNext (execTilePllRelock half s) :=
  .ite (.done h) (.done (.overList (.raise (.setStopped h)) (fun _ _ hu => .regionFault hu)))

theorem State.Canonical.resetConfig (h : s.Canonical) : (s.resetConfig).Canonical := by
  unfold State.resetConfig
  extract_lets +onlyGivenNames t __src
  have h__src : __src.Canonical := .setFld (.lower (.lower (.setFld (.lower h))))
  exact .keep h__src

theorem State.Canonical.pcieDown (h : s.Canonical) : (s.pcieDown).Canonical := .lower (.setFld (.setFld h))

theorem State.Canonical.resetAll (h : s.Canonical) : (s.resetAll).Canonical :=
  .overList (.overList (.dropPath h) (fun _ _ hu => .coldRange hu)) (fun _ _ hu => .setFld hu)

theorem State.Canonical.warmEvent {cause : Fld} (h : s.Canonical) : (s.warmEvent cause).Canonical := by
  unfold State.warmEvent
  extract_lets +onlyGivenNames t
  split
  · exact .countSat (.raise h)
  · extract_lets +onlyGivenNames m3 m2 halting t t1
    have ht1 : t1.Canonical := .when (.lower (.resetAll (.setFld (.lower (.countSat (.raise h)))))) (fun _ hu => .setFld hu)
    exact .keep ht1

theorem execPerstAssert_canonical (h : s.Canonical) : CanonicalNext (execPerstAssert s) :=
  .ite (.done (.keep h)) (.done (.warmEvent (.pcieDown (.resetConfig (.keep h)))))

theorem execPerstDeassert_canonical (h : s.Canonical) : CanonicalNext (execPerstDeassert s) := .done (.keep h)

theorem execHotReset_canonical (h : s.Canonical) : CanonicalNext (execHotReset s) :=
  .ite (.done h) (.done (.warmEvent (.pcieDown (.resetConfig h))))

theorem execFlrPf_canonical (h : s.Canonical) : CanonicalNext (execFlrPf s) := .ite (.done h) (.done (.warmEvent (.resetConfig h)))

theorem State.Canonical.warmCommand (h : s.Canonical) : (s.warmCommand).Canonical := .warmEvent h

theorem State.Canonical.resetTables (h : s.Canonical) : (s.resetTables).Canonical := .keep h

theorem State.Canonical.channelFailed {ch : Nat} (h : s.Canonical) : (s.channelFailed ch).Canonical := .hwFence (.raise h)

/-- A warm reset keeps the bits of a register that outlive it, and takes the cold value of the others: 32 bits again. -/
theorem warmWord_lt (off : Nat) {w : Nat} (h : w < 2 ^ 32) : warmWord off w < 2 ^ 32 :=
  Nat.or_lt_two_pow (Nat.lt_of_le_of_lt Nat.and_le_left h) (Nat.lt_of_le_of_lt Nat.and_le_right (by omega))

theorem State.Canonical.warmWords (h : s.Canonical) :
    ({ s with regs := s.regs.map fun e => (e.1, warmWord e.1 e.2), ceLogged := [] } : State).Canonical := by
  obtain ⟨sorted, words, hbm, time⟩ := h
  refine ⟨map_sorted warmWord sorted, fun e he => ?_, hbm, time⟩
  obtain ⟨e', he', rfl⟩ := List.mem_map.1 he
  exact warmWord_lt e'.1 (words e' he')

theorem execWarmReset_canonical {p : PowerUp} (h : s.Canonical) : CanonicalNext (execWarmReset p s) := by
  unfold execWarmReset
  split
  · exact .done h
  · extract_lets m3 live t t1 vesper power t2 t3 t4 t5 t6 t7 t8
    have ht : t.Canonical := .stopHalves (.resetTables (.dropPath h))
    have ht1 : t1.Canonical := .warmWords ht
    have wf : (if s.power.keepHbm then t1.hbm else {}).wf = true := by
      split
      · exact ht1.2.2.1
      · rfl
    have ht2 : t2.Canonical := .keepHbm ht1 wf
    have ht3 : t3.Canonical := .overList ht2 fun _ _ hu => .setFld hu
    have ht4 : t4.Canonical := .setFld (.setFld ht3)
    have ht5 : t5.Canonical := .when ht4 fun _ hu => .setFld hu
    have ht6 : t6.Canonical := .ite (.selfRefresh (.when ht5 fun _ hu => .raise hu)) (.raise ht5)
    have ht7 : t7.Canonical := .noteCap (.updateRefreshOnly (.updateShed ht6))
    have ht8 : t8.Canonical := .when ht7 fun _ hu => .startHalves hu
    exact .done (.overList ht8 fun _ _ hu => .channelFailed hu)

theorem State.Canonical.autoTrain (h : s.Canonical) : (s.autoTrain).Canonical :=
  .overList h (fun _ _ hu => .when hu (fun _ hv => .startTraining (.raise hv)))

theorem State.Canonical.endAllStandby (h : s.Canonical) : (s.endAllStandby).Canonical := by
  unfold State.endAllStandby
  extract_lets +onlyGivenNames s0 t t1 t2
  have ht1 : t1.Canonical := .overList (.overList (.keep h) (fun _ _ hu => .putUnit hu)) (fun _ _ hu => .when hu (fun _ hv => .putUnit hv))
  exact .overList (.overList ht1 (fun _ _ hu => .when hu (fun _ hv => .putUnit hv))) (fun _ _ hu => .when hu (fun _ hv => .putUnit hv))

theorem State.Canonical.becomeReady (h : s.Canonical) : (s.becomeReady).Canonical := .autoTrain (.setFld (.raise (.keep h)))

theorem execWarmResetComplete_canonical (h : s.Canonical) : CanonicalNext (execWarmResetComplete s) := by
  unfold execWarmResetComplete
  split
  · exact .done h
  · extract_lets +onlyGivenNames live t
    have ht : t.Canonical := .endAllStandby (.overList h (fun _ _ hu => .regionEvent (.setWord hu)))
    exact .ite (.done (.setFld (.raise (.keep ht)))) (.done (.startHeldHalt (.becomeReady (.keep ht))))

theorem State.Canonical.coldState {cause : ColdCause} : (s.coldState cause).Canonical := .keep .reset

theorem execPowerDown_canonical (h : s.Canonical) : CanonicalNext (execPowerDown s) := .ite (.done h) (.done .coldState)

theorem State.Canonical.startAon (h : s.Canonical) : (s.startAon).Canonical := by
  unfold State.startAon
  extract_lets t power t1 t2 w t3
  have ht1 : t1.Canonical := .keep (.setFld h)
  have ht2 : t2.Canonical := by
    unfold t2
    split
    · exact .raise ht1
    · exact .raise ht1
    · exact .raise ht1
  exact .setFld (.setFld (.overList ht2 fun _ _ hu => .setFld hu))

theorem execConverterStart_canonical {p : PowerUp} (h : s.Canonical) : CanonicalNext (execConverterStart p s) := by
  unfold execConverterStart
  split
  · exact .done h
  · extract_lets +onlyGivenNames t power t1
    have ht1 : t1.Canonical := .keep (.startAon h)
    split
    · exact .done (.setFld (.keep ht1))
    · split
      · exact .done (.raise (.raise (.setFld (.raise (.keep (.driveClkreq ht1))))))
      · extract_lets im back u u1 u2 power u3 u4 u5
        have hu : u.Canonical := .setFld (.setFld (.setFld ht1))
        have hu1 : u1.Canonical := .setFld (.raise (.setFld hu))
        have hu2 : u2.Canonical := .setFld (.setFld (.setFld hu1))
        have hu3 : u3.Canonical := .keep hu2
        have hu4 : u4.Canonical := .setFld (.startHalves (.trainXings (.driveClkreq hu3)))
        have hu5 : u5.Canonical := .overList hu4 fun _ _ hu => .channelFailed hu
        exact .done (.overList hu5 fun _ _ hu => .raise hu)

theorem State.Canonical.modVsp {f : Vesper → Vesper} (h : s.Canonical) : (s.modVsp f).Canonical := .keep h

theorem State.Canonical.noteQueued (h : s.Canonical) : (s.noteQueued).Canonical := .setFld h

theorem State.Canonical.queueAlm {type : Nat} {body : List Nat} {kept : Bool} (h : s.Canonical) :
    (s.queueAlm type body kept).Canonical := .ite (.countSat (.modVsp h)) (.noteQueued (.modVsp h))

theorem State.Canonical.noteDropped (h : s.Canonical) : (s.noteDropped).Canonical := .ite h (.queueAlm (.modVsp h))

theorem State.Canonical.noteLog (h : s.Canonical) : (s.noteLog).Canonical := .setFld (.setPair h)

theorem State.Canonical.writeAlm {e : AlmEntry} (h : s.Canonical) : (s.writeAlm e).Canonical := .noteLog (.keep h)

theorem execAlmanacFlashWrite_canonical (h : s.Canonical) : CanonicalNext (execAlmanacFlashWrite s) := by
  unfold execAlmanacFlashWrite
  split
  · exact .done h
  · extract_lets +onlyGivenNames table
    split
    · exact .done (.when h (fun _ hu => .modVsp (.keep hu)))
    · exact .ite (.done (.modVsp (.keep (.draw h)))) (.done (.writeAlm (.noteDropped (.noteQueued (.modVsp (.draw h))))))

theorem execLastGaspComplete_canonical (h : s.Canonical) : CanonicalNext (execLastGaspComplete s) :=
  .ite (.done h) (.done (.writeAlm (.keep h)))

theorem State.Canonical.buildUnit {key st : Nat} (h : s.Canonical) : (s.buildUnit key st).Canonical := .setFld (.putUnit h)

theorem State.Canonical.applyPerm {r : PermRec} (h : s.Canonical) : (s.applyPerm r).Canonical := by
  unfold State.applyPerm
  split
  · exact .ite h (.modVsp (.buildUnit h))
  · exact .setFld (.raise h)
  · exact .modVsp h

theorem State.Canonical.bootAlmanac (h : s.Canonical) : (s.bootAlmanac).Canonical := by
  unfold State.bootAlmanac
  extract_lets +onlyGivenNames changes t log t1 t2
  have ht : t.Canonical := .overList h (fun _ _ hu => .applyPerm hu)
  exact .queueAlm (.noteLog (.modVsp (.keep ht)))

theorem execBringUpComplete_canonical (h : s.Canonical) : CanonicalNext (execBringUpComplete s) :=
  .ite (.done h) (.done (.startHeldHalt (.becomeReady (.startSlew (.raise (.bootAlmanac h))))))

theorem State.Canonical.cfgIgnored (h : s.Canonical) : (s.cfgIgnored).Canonical := .raise h

theorem State.Canonical.cfgPageSize {v : Nat} (h : s.Canonical) : (s.cfgPageSize v).Canonical := .ite (.keep h) (.cfgIgnored h)

theorem State.Canonical.cfgNumVfs {n : Nat} (h : s.Canonical) : (s.cfgNumVfs n).Canonical :=
  .ite (.ite h (.cfgIgnored h)) (.ite (.setFld h) h)

theorem State.Canonical.resetVfs (h : s.Canonical) : (s.resetVfs).Canonical := .keep (.setFld h)

theorem State.Canonical.cfgFn {f : Fn} {g : FnState → FnState} (h : s.Canonical) : (s.cfgFn f g).Canonical := by
  unfold State.cfgFn
  split
  · exact .modFn h
  · exact .ite (.modFn h) h

theorem State.Canonical.cfgWrite {w : CfgWrite} (h : s.Canonical) : (s.cfgWrite w).Canonical := by
  unfold State.cfgWrite
  split
  · exact .ite h (.raise (.resetVfs h))
  · exact .cfgNumVfs h
  · exact .cfgPageSize h
  · exact .setFld h
  · exact .keep h
  · exact .modFn h
  · exact .cfgFn h
  · exact .cfgFn h
  · exact .cfgFn h
  · exact .keep h
  · exact .keep h
  · exact .keep h
  · exact .cfgFn h
  · exact .cfgFn h
  · exact .keep h
  · exact .keep h

theorem State.Canonical.retryStatus (h : s.Canonical) : (s.retryStatus).Canonical := .when h (fun _ hu => .emit hu)

theorem execConfigurationWrite_canonical {w : CfgWrite} (h : s.Canonical) : CanonicalNext (execConfigurationWrite w s) :=
  .ite (.done (.cfgWrite h)) (.done (.retryStatus h))

theorem execSriovCfgWriteIgnored_canonical {w : SriovWrite} (h : s.Canonical) : CanonicalNext (execSriovCfgWriteIgnored w s) := by
  unfold execSriovCfgWriteIgnored
  split
  · exact .done (.retryStatus h)
  · split
    · exact .done (.cfgPageSize h)
    · exact .done (.cfgNumVfs h)

theorem State.Canonical.clearVfLog {n : Nat} (h : s.Canonical) : (s.clearVfLog n).Canonical := .coldRange h

theorem State.Canonical.resetByFlr {n : Nat} (h : s.Canonical) : (s.resetByFlr n).Canonical :=
  .ite (.resetRings (.clearVfLog h)) (.startReset (.modFn (.clearVfLog h)))

theorem execFlrVf_canonical {vf : Fin 32} (h : s.Canonical) : CanonicalNext (execFlrVf vf s) := by
  unfold execFlrVf
  extract_lets +onlyGivenNames n
  split
  · exact .done h
  · exact .done (.ite (.clearVfLog (.modFn (.setBit h))) (.resetByFlr (.modFn (.setBit h))))

theorem execVfEnableClear_canonical (h : s.Canonical) : CanonicalNext (execVfEnableClear s) := by
  unfold execVfEnableClear
  split
  · exact .done h
  · extract_lets +onlyGivenNames k t
    split
    · exact .done (.overList (.lower (.resetVfs h)) (fun _ _ hu => .clearVfLog hu))
    · exact .done (.overList (.lower (.resetVfs h)) (fun _ _ hu => .ite (.resetByFlr hu) (.when hu (fun _ hv => .startReset hv))))

theorem execPfD3hotEntry_canonical (h : s.Canonical) : CanonicalNext (execPfD3hotEntry s) := .ite (.done (.raise h)) (.done h)

theorem State.Canonical.flushAll (h : s.Canonical) : (s.flushAll).Canonical := .overList h (fun _ _ hu => .flushStatus hu)

theorem execPfD0Entry_canonical (h : s.Canonical) : CanonicalNext (execPfD0Entry s) := .ite (.done (.flushAll (.lower h))) (.done h)

theorem execVfBmeChange_canonical {vf : Fin 32} {on : Bool} (h : s.Canonical) : CanonicalNext (execVfBmeChange vf on s) :=
  .ite (.done (.flushStatus (.setBit h))) (.done h)

theorem execMsixPendingSend_canonical {fn : Fn} {vector : Fin 8} (h : s.Canonical) : CanonicalNext (execMsixPendingSend fn vector s) :=
  .done (.sendHeld h)

theorem execPcieLinkTrained_canonical {width : BitVec 5} {speed : BitVec 4} {flitMode : Bool} (h : s.Canonical) :
    CanonicalNext (execPcieLinkTrained width speed flitMode s) :=
  .ite (.done h) (.done (.when (.setFld (.setFld (.setFld h))) (fun _ hu => .raise hu)))

theorem execUnsupportedRequest_canonical {fn : Fn} (h : s.Canonical) : CanonicalNext (execUnsupportedRequest fn s) :=
  .done (.emit (.modFn h))

theorem State.Canonical.countActivity (h : s.Canonical) : (s.countActivity).Canonical :=
  .overList h (fun _ _ hu => .overList hu (fun _ _ hv => .act (.draw hv)))

theorem State.Canonical.charge {n ticks e : Nat} (h : s.Canonical) : (s.charge n ticks e).Canonical := .modRgn (.setPair h)

theorem State.Canonical.capRegion {n : Nat} (h : s.Canonical) : (s.capRegion n).Canonical := .setFld (.setFld h)

theorem State.Canonical.enforceCaps (h : s.Canonical) : (s.enforceCaps).Canonical := by
  unfold State.enforceCaps
  extract_lets +onlyGivenNames t cap l m t1 k t2 t3
  have ht2 : t2.Canonical := .modVsp (.setFld (.setFld (.overList h (fun _ _ hu => .capRegion hu))))
  exact .startSlew (.ite (.lower ht2) (.when ht2 (fun _ hu => .raise hu)))

theorem State.Canonical.fillSnapshots (h : s.Canonical) : (s.fillSnapshots).Canonical := .keep h

theorem State.Canonical.latchRecord (h : s.Canonical) : (s.latchRecord).Canonical := .ite h (.modVsp h)

theorem State.Canonical.latchSensors (h : s.Canonical) : (s.latchSensors).Canonical := .modVsp h

theorem State.Canonical.setWords {off : Nat} {l : List Nat} (h : s.Canonical) : (s.setWords off l).Canonical :=
  .overList h (fun _ _ hu => .setWord hu)

theorem State.Canonical.logWrite {off cause : Nat} {w : DwWrite} (h : s.Canonical) : (s.logWrite off cause w).Canonical := by
  unfold State.logWrite
  extract_lets +onlyGivenNames l t
  split
  · exact .countMod (.setWords h)
  · exact .countMod (.setWords (.countMod (.setWords h)))

theorem State.Canonical.putReg {off : Nat} {d : RegDesc} {v hold : Nat} (h : s.Canonical) : (s.putReg off d v hold).Canonical :=
  .setWord h

theorem State.Canonical.enableRings {n v : Nat} (h : s.Canonical) : (s.enableRings n v).2.Canonical := by
  unfold State.enableRings
  extract_lets +onlyGivenNames st up was stay cq old bad t t1 t2 refused
  have ht2 : t2.Canonical := .overList (.when (.setFld h) (fun _ hu => .noteStatus (.modVf (.setFld hu)))) (fun _ _ hu => .ite hu (.ite
    (.enableRing (.setBit hu)) (.ite (.disableRing (.setBit hu)) (.setBit hu))))
  exact .when ht2 (fun _ hu => .raise hu)

theorem State.Canonical.regionCommand {n c : Nat} (h : s.Canonical) : (s.regionCommand n c).Canonical := by
  unfold State.regionCommand
  split
  · exact .configureRegion h
  · exact .commitRegion h
  · exact .startReset h
  · exact .ite (.freeRegion h) (.startReset h)
  · exact h

theorem State.Canonical.enabledVectors (h : t.Canonical) : (s.enabledVectors t).Canonical :=
  .overList h fun _ _ hu => .when hu fun _ hv => .sendMsix hv

theorem State.Canonical.enableChanged {p : Nat} (h : t.Canonical) : (s.enableChanged t p).Canonical :=
  .ite (.startTraining h) (.ite (.modPort h) h)

theorem State.Canonical.submitMail (h : s.Canonical) : (s.submitMail).Canonical := .countMod (.setFld h)

theorem State.Canonical.followWrite {b off v : Nat} {crossings : List Crossing} (h : t.Canonical) :
    (s.followWrite b off v crossings t).Canonical := by
  unfold State.followWrite
  extract_lets +onlyGivenNames n
  refine .ite (.startSlew h) (.ite (.updateShed h) (.ite ?_ (.ite (.noteCap h) (.ite ?_ (.ite ?_ (.ite (.enabledVectors h)
    (.ite (.regionCommand h) (.ite (.noteRect h) (.ite (.enableChanged h) (.ite ?_ (.ite ?_ h)))))))))))
  · exact .when h fun _ hu => .setFld (.lower (.lower hu))
  · exact .when h fun _ hu => .releaseM3 hu
  · exact .ite (.warmCommand h) (.ite .coldState h)
  · exact .when h fun _ hu => .submitMail hu
  · exact .when h fun _ hu => .setFld hu

/-- What a refused write leaves. -/
def CanonicalRefused : Refused → Prop
  | none => True
  | some r => r.2.Canonical

theorem CanonicalRefused.none : CanonicalRefused none := trivial
theorem CanonicalRefused.some {k : Nat} (h : s.Canonical) : CanonicalRefused (some (k, s)) := h
theorem CanonicalRefused.of_eq {o : Refused} {r : Nat × State} (h : CanonicalRefused o) (e : o = Option.some r) : r.2.Canonical := by
  subst e
  exact h
theorem CanonicalRefused.ite {c : Prop} [Decidable c] {o p : Refused} (h : CanonicalRefused o) (k : CanonicalRefused p) :
    CanonicalRefused (if c then o else p) := by
  split
  · exact h
  · exact k

theorem CanonicalRefused.setupRefusal {n : Nat} (h : s.Canonical) : CanonicalRefused (s.setupRefusal n) :=
  .ite (.some (.raise h)) (.ite (.some (.raise h)) .none)

theorem CanonicalRefused.cmdRefusal {f : Fn} {n v : Nat} (h : s.Canonical) : CanonicalRefused (s.cmdRefusal f n v) := by
  unfold State.cmdRefusal
  extract_lets c st no
  have hno (k : Nat) : CanonicalRefused (no k) := .some (.raise (.raise h))
  exact .ite (.ite (hno _) (.ite (hno _) (.ite (.some (.raise (.setFld h))) .none))) (.ite (.ite (hno _) .none) (.ite
    (.ite (hno _) .none) .none))

theorem CanonicalRefused.resetRefusal {v : Nat} (h : s.Canonical) : CanonicalRefused (s.resetRefusal v) :=
  .ite (.some (.when (.when h fun _ hu => .raise hu) fun _ hu => .raise hu)) .none

theorem CanonicalRefused.ringRefusal {b off : Nat} (h : s.Canonical) : CanonicalRefused (s.ringRefusal b off) := by
  unfold State.ringRefusal
  exact .ite (.some (.raise h)) .none

theorem CanonicalRefused.enableRefusal {p v : Nat} (h : s.Canonical) : CanonicalRefused (s.enableRefusal p v) := by
  unfold State.enableRefusal
  exact .ite (.some (.raise h)) .none

theorem CanonicalRefused.assignRefusal {p v : Nat} (h : s.Canonical) : CanonicalRefused (s.assignRefusal p v) := by
  unfold State.assignRefusal
  extract_lets n set
  split
  · exact .ite (.some (.raise h)) (.setupRefusal h)
  · refine .ite .none ?_
    split
    · next r e => exact CanonicalRefused.of_eq (.setupRefusal h) e
    · exact .ite .none (.some (.raise h))

theorem CanonicalRefused.unitRefusal {b off v : Nat} (h : s.Canonical) : CanonicalRefused (s.unitRefusal b off v) := by
  unfold State.unitRefusal
  exact .ite (.ite .none (.some (.raise h))) (.ite (.enableRefusal h) (.ite (.assignRefusal h) (.ite (.ite .none (.some (.raise h)))
    (.ite (.ite (.some (.raise h)) .none) (.ite (.ite (.some (.raise h)) .none) (.ite (.ite (.some (.raise h)) .none) .none))))))

theorem CanonicalRefused.wholeRefusal {f : Fn} {b off v : Nat} (h : s.Canonical) : CanonicalRefused (s.wholeRefusal f b off v) := by
  unfold State.wholeRefusal
  extract_lets n
  refine .ite ?_ (.ite (.cmdRefusal h) (.ite (.ite .none (.some (.raise h))) (.ite (.resetRefusal h) (.ite (.ite (.some (.raise h)) .none)
    (.ite (.ite (.some (.raise h)) .none) ?_)))))
  · split
    · next r e => exact CanonicalRefused.of_eq (.setupRefusal h) e
    · exact .ite (.some (.raise h)) .none
  · split
    · next r e => exact CanonicalRefused.of_eq (.ringRefusal h) e
    · exact .unitRefusal h

theorem State.Canonical.writeReg {f : Fn} {off : Nat} {d : RegDesc} {v : Nat} {crossings : List Crossing} (h : s.Canonical) :
    (s.writeReg f off d v crossings).2.Canonical := by
  unfold State.writeReg
  split
  · exact .enableRings h
  · split
    · next r refused => exact CanonicalRefused.of_eq (.wholeRefusal h) refused
    · exact .overList (.followWrite (.putReg h)) fun _ _ hu => .raise hu

theorem State.Canonical.writeMsix {i vector word : Nat} {v : Word} (h : s.Canonical) : (s.writeMsix i vector word v).Canonical :=
  .sendHeld (.modFn h)

theorem State.Canonical.carryOut {off : Nat} {w : DwWrite} {crossings : List Crossing} (h : s.Canonical) :
    (s.carryOut off w crossings).Canonical := by
  unfold State.carryOut
  extract_lets +onlyGivenNames s
  have hs : s.Canonical := .when h (fun _ hu => .raise hu)
  split
  · exact hs
  · split
    · exact .logWrite hs
    · split
      · exact .writeMsix hs
      · split
        · exact .ite (.writeReg hs) (.logWrite (.writeReg hs))
        · exact hs
      · exact hs

theorem State.Canonical.hostWrite {off : Nat} {w : DwWrite} {crossings : List Crossing} (h : s.Canonical) :
    (s.hostWrite off w crossings).Canonical := by
  unfold State.hostWrite
  extract_lets +onlyGivenNames o
  refine .ite h ?_
  split
  · exact .wakeBy (.takeHint h)
  · extract_lets +onlyGivenNames needs a
    have ha : a.Canonical := .when h fun _ hu => .wakeBy hu
    exact .ite (.keep ha) (.carryOut ha)

theorem execRegisterWrite_canonical {off : BitVec 24} {w : DwWrite} (h : s.Canonical) : CanonicalNext (execRegisterWrite off w s) :=
  .ite (.done (.hostWrite h)) (.done (.hostWrite (.hostWrite h)))

theorem execMsixTableWrite_canonical {fn : Fn} {vector : Fin 8} {word : Fin 4} {w : DwWrite} (h : s.Canonical) :
    CanonicalNext (execMsixTableWrite fn vector word w s) := .done (.hostWrite h)

theorem execIntPfEnableWrite_canonical {w : DwWrite} (h : s.Canonical) : CanonicalNext (execIntPfEnableWrite w s) := .done (.hostWrite h)

theorem execWarm_canonical {w : DwWrite} (h : s.Canonical) : CanonicalNext (execWarm w s) := .done (.hostWrite h)

theorem execCold_canonical {w : DwWrite} (h : s.Canonical) : CanonicalNext (execCold w s) := .done (.hostWrite h)

theorem execWarmKeepHbmUpdate_canonical {w : DwWrite} (h : s.Canonical) : CanonicalNext (execWarmKeepHbmUpdate w s) :=
  .done (.hostWrite h)

theorem execFhaltRelease_canonical {w : DwWrite} {crossings : List Crossing} (h : s.Canonical) :
    CanonicalNext (execFhaltRelease w crossings s) := .done (.hostWrite h)

theorem execForceShedWrite_canonical {w : DwWrite} (h : s.Canonical) : CanonicalNext (execForceShedWrite w s) := .done (.hostWrite h)

theorem execCeilingMultWrite_canonical {w : DwWrite} (h : s.Canonical) : CanonicalNext (execCeilingMultWrite w s) := .done (.hostWrite h)

theorem execKeyValidWrite_canonical {w : DwWrite} (h : s.Canonical) : CanonicalNext (execKeyValidWrite w s) := .done (.hostWrite h)

theorem execHlModuleWrite_canonical {w : DwWrite} (h : s.Canonical) : CanonicalNext (execHlModuleWrite w s) := .done (.hostWrite h)

theorem execMailboxSubmit_canonical {w : DwWrite} (h : s.Canonical) : CanonicalNext (execMailboxSubmit w s) := .done (.hostWrite h)

theorem execMailboxDoneClear_canonical {w : DwWrite} (h : s.Canonical) : CanonicalNext (execMailboxDoneClear w s) := .done (.hostWrite h)

theorem execRingEnable_canonical {vf : Fin 32} {w : DwWrite} (h : s.Canonical) : CanonicalNext (execRingEnable vf w s) :=
  .done (.hostWrite h)

theorem execRingDisable_canonical {vf : Fin 32} {w : DwWrite} (h : s.Canonical) : CanonicalNext (execRingDisable vf w s) :=
  .done (.hostWrite h)

theorem execCqEnable_canonical {vf : Fin 32} {w : DwWrite} (h : s.Canonical) : CanonicalNext (execCqEnable vf w s) := .done (.hostWrite h)

theorem execCqDisable_canonical {vf : Fin 32} {w : DwWrite} (h : s.Canonical) : CanonicalNext (execCqDisable vf w s) :=
  .done (.hostWrite h)

theorem execConfigure_canonical {region : Fin 32} {w : DwWrite} (h : s.Canonical) : CanonicalNext (execConfigure region w s) :=
  .done (.hostWrite h)

theorem execCommit_canonical {region : Fin 32} {w : DwWrite} (h : s.Canonical) : CanonicalNext (execCommit region w s) :=
  .done (.hostWrite h)

theorem execReset_canonical {region : Fin 32} {w : DwWrite} (h : s.Canonical) : CanonicalNext (execReset region w s) :=
  .done (.hostWrite h)

theorem execRelease_canonical {region : Fin 32} {w : DwWrite} (h : s.Canonical) : CanonicalNext (execRelease region w s) :=
  .done (.hostWrite h)

theorem execRgnRectWrite_canonical {region : Fin 32} {w : DwWrite} (h : s.Canonical) : CanonicalNext (execRgnRectWrite region w s) :=
  .done (.hostWrite h)

theorem execHbmWatermarkWrite_canonical {stack : Fin 8} {w : DwWrite} (h : s.Canonical) :
    CanonicalNext (execHbmWatermarkWrite stack w s) := .done (.hostWrite h)

theorem execLinkEnable_canonical {port : Fin 4} {w : DwWrite} (h : s.Canonical) : CanonicalNext (execLinkEnable port w s) :=
  .done (.hostWrite h)

theorem execLinkDisable_canonical {port : Fin 4} {w : DwWrite} (h : s.Canonical) : CanonicalNext (execLinkDisable port w s) :=
  .done (.hostWrite h)

theorem execPortAssign_canonical {port : Fin 4} {w : DwWrite} (h : s.Canonical) : CanonicalNext (execPortAssign port w s) :=
  .done (.hostWrite h)

theorem execPortUnassign_canonical {port : Fin 4} {w : DwWrite} (h : s.Canonical) : CanonicalNext (execPortUnassign port w s) :=
  .done (.hostWrite h)

theorem State.Canonical.carryHeld (h : s.Canonical) : (s.carryHeld).Canonical := by
  unfold State.carryHeld
  exact .overList (.keep h) (fun _ _ hu => by
        split
        · exact .hostWrite hu
        · exact hu)

theorem execWakeComplete_canonical {p : PowerUp} (h : s.Canonical) : CanonicalNext (execWakeComplete p s) :=
  .ite (.done (.carryHeld (.endWake h))) (.done h)

theorem execHaltDrainComplete_canonical (h : s.Canonical) : CanonicalNext (execHaltDrainComplete s) := by
  unfold execHaltDrainComplete
  split
  · exact .done h
  · extract_lets +onlyGivenNames up t t1 t2
    have ht1 : t1.Canonical := .raise (.raise (.sleepHalves (.overList h (fun _ _ hu => .disablePort hu))))
    exact .done (.carryHeld (.setFld (.raise (.lower (.when ht1 (fun _ hu => .driveClkreq (.raise hu)))))))

theorem State.Canonical.inService {key : Nat} (h : s.Canonical) : (s.inService key).Canonical := .keep (.putUnit h)

theorem State.Canonical.releaseUnit {key : Nat} (h : s.Canonical) : (s.releaseUnit key).Canonical :=
  .ite h (.ite (.putUnit h) (.ite (.keep h) (.inService h)))

theorem State.Canonical.fenceUnit {key : Nat} (h : s.Canonical) : (s.fenceUnit key).Canonical := .ite (.fencePort h) (.fence h)

theorem State.Canonical.order {key : Nat} {fence : Bool} (h : s.Canonical) : (s.order key fence).Canonical :=
  .ite (.fenceUnit (.modVsp h)) (.releaseUnit (.modVsp h))

theorem execServiceClearComplete_canonical {tile : Fin 192} (h : s.Canonical) : CanonicalNext (execServiceClearComplete tile s) :=
  .ite (.done h) (.done (.inService (.ite (.keep (.keep h)) (.keep (.keep h)))))

theorem State.Canonical.adopt {key cause type : Nat} {why : List Nat} (h : s.Canonical) : (s.adopt key cause type why).Canonical :=
  .modVsp (.queueAlm h)

theorem State.Canonical.reconcile {key : Nat} (h : s.Canonical) : (s.reconcile key).Canonical :=
  .ite (.adopt h) (.ite h (.ite (.adopt h) (.adopt (.countSat h))))

theorem State.Canonical.checkTrigger {g : TriggerKind × Nat} (h : s.Canonical) : (s.checkTrigger g).Canonical :=
  .ite h (.ite (.countSat h) (.modVsp h))

theorem State.Canonical.fenceDue {d : Nat × TriggerKind} (h : s.Canonical) : (s.fenceDue d).Canonical :=
  .ite (.modVsp h) (.ite (.countSat (.order (.modVsp h))) h)

theorem State.Canonical.autoFence (h : s.Canonical) : (s.autoFence).Canonical := by
  unfold State.autoFence
  extract_lets +onlyGivenNames fresh t t1
  have ht1 : t1.Canonical := .overList (.modVsp h) (fun _ _ hu => .checkTrigger hu)
  exact .overList ht1 (fun _ _ hu => .fenceDue hu)

theorem State.Canonical.reconcileAll (h : s.Canonical) : (s.reconcileAll).Canonical := by
  unfold State.reconcileAll
  extract_lets +onlyGivenNames t orders t1
  have ht : t.Canonical := .overList h (fun _ _ hu => .reconcile hu)
  exact .autoFence (.overList (.modVsp ht) (fun _ _ hu => .order hu))

theorem State.Canonical.trigger {kind : TriggerKind} {key : Nat} {sector : Nat} (h : s.Canonical) :
    (s.trigger kind key sector).Canonical := .modVsp h

theorem State.Canonical.noteSectorUe {i sec : Nat} (h : s.Canonical) : (s.noteSectorUe i sec).Canonical := by
  unfold State.noteSectorUe
  extract_lets +onlyGivenNames key
  split
  · exact .keep h
  · split
    · exact h
    · split
      · exact .modVsp (.queueAlm (.setFld (.raise (.copySector h))))
      · exact .ite (.trigger h) (.modVsp (.queueAlm (.trigger h)))

theorem State.Canonical.noteUe {kind i addr : Nat} (h : s.Canonical) : (s.noteUe kind i addr).Canonical :=
  .ite (.trigger h) (.ite (.trigger h) (.ite (.trigger h) (.ite (.noteSectorUe h) h)))

theorem State.Canonical.readInteg {q : Nat} (h : s.Canonical) : (s.readInteg q).Canonical :=
  .ite h (.when (.queueAlm h) (fun _ hu => .noteUe hu))

theorem State.Canonical.readIntegrity (h : s.Canonical) : (s.readIntegrity).Canonical := by
  unfold State.readIntegrity
  extract_lets +onlyGivenNames total n m t t1 t2
  have ht1 : t1.Canonical := .overList (.when h (fun _ hu => .queueAlm hu)) (fun _ _ hu => .readInteg hu)
  exact .modVsp (.overList ht1 (fun _ _ hu => .trigger (.queueAlm hu)))

theorem State.Canonical.appendSupply {q : Nat} (h : s.Canonical) : (s.appendSupply q).Canonical := .queueAlm h

theorem State.Canonical.readSupply (h : s.Canonical) : (s.readSupply).Canonical := by
  unfold State.readSupply
  extract_lets +onlyGivenNames total first fresh old isOpen t t1 t2
  have ht1 : t1.Canonical := .overList (.when h (fun _ hu => .queueAlm hu)) (fun _ _ hu => .appendSupply hu)
  exact .modVsp (.overList ht1 (fun _ _ hu => .appendSupply hu))

theorem State.Canonical.readHalts (h : s.Canonical) : (s.readHalts).Canonical := by
  unfold State.readHalts
  extract_lets +onlyGivenNames home d v t t1 t2
  have ht2 : t2.Canonical := .when (.when (.when h (fun _ hu => .queueAlm hu)) (fun _ hu => .queueAlm hu)) (fun _ hu => .queueAlm hu)
  exact .modVsp ht2

theorem State.Canonical.touch {path : Nat} (h : s.Canonical) : (s.touch path).Canonical := .modVsp (.setFld (.countSat (.raise h)))

theorem State.Canonical.readTouches (h : s.Canonical) : (s.readTouches).Canonical := by
  unfold State.readTouches
  split
  · exact h
  · exact .modVsp (.queueAlm h)

theorem State.Canonical.startCapture {region : Option Nat} {queues : Bool} (h : s.Canonical) :
    (s.startCapture region queues).Canonical := .modVsp (.raise h)

theorem State.Canonical.capturePart {c : Capture} (h : s.Canonical) : (s.capturePart c).Canonical :=
  .modVsp (.overList (.draw h) (fun _ _ hu => .queueAlm hu))

theorem State.Canonical.captureN {fuel : Nat} (h : s.Canonical) : (State.captureN fuel s).Canonical := by
  induction fuel generalizing s with
  | zero => exact h
  | succ fuel ih =>
    unfold State.captureN
    split
    · exact h
    · exact .ite h (.ite (.modVsp (.setFld (.setFld (.lower h)))) (.ite (ih (.capturePart (.draw h))) (.draw h)))

theorem State.Canonical.captureTick (h : s.Canonical) : (s.captureTick).Canonical := by
  unfold State.captureTick
  extract_lets wanted t soon t1
  have ht : t.Canonical := .modVsp h
  have ht1 : t1.Canonical := by
    unfold t1 wanted
    split
    · exact ht
    · exact .ite (.modVsp (.startCapture ht)) ht
  exact .captureN ht1

theorem State.Canonical.answerMail {result : Nat} {words : List Nat} (h : s.Canonical) : (s.answerMail result words).Canonical :=
  .modVsp (.raise (.setFld (.setFld (.setFld (.overList h (fun _ _ hu => .setWord hu))))))

theorem State.Canonical.takeMail (h : s.Canonical) : (s.takeMail).Canonical :=
  .ite h (.ite (.modVsp h) (.answerMail (.when h (fun _ hu => .touch hu))))

theorem CanonicalNext.mailCommand {code : Nat} {f : State → State} (h : s.Canonical) (hf : ∀ u, u.Canonical → (f u).Canonical) :
    CanonicalNext (Machine.mailCommand code f s) := .ite (.done (hf _ h)) (.done h)

theorem State.Canonical.badArgument (h : s.Canonical) : (s.badArgument).Canonical := .answerMail h

theorem execGetInfo_canonical (h : s.Canonical) : CanonicalNext (execGetInfo s) := .mailCommand h (fun _ hu => .answerMail hu)

theorem execGetTelemetryModule_canonical (h : s.Canonical) : CanonicalNext (execGetTelemetryModule s) :=
  .mailCommand h (fun _ hu => .answerMail hu)

theorem execGetTelemetryRegion_canonical (h : s.Canonical) : CanonicalNext (execGetTelemetryRegion s) := by
  unfold execGetTelemetryRegion
  exact .mailCommand h (fun _ hu => by
        split
        · exact .ite (.answerMail hu) (.badArgument hu)
        · exact .badArgument hu)

theorem execGetCalibration_canonical (h : s.Canonical) : CanonicalNext (execGetCalibration s) :=
  .mailCommand h (fun _ hu => .answerMail hu)

theorem execGetUnitRecord_canonical (h : s.Canonical) : CanonicalNext (execGetUnitRecord s) := by
  unfold execGetUnitRecord
  exact .mailCommand h (fun _ hu => by
        split
        · exact .answerMail hu
        · exact .badArgument hu)

/-- What three optional words decide. -/
theorem State.Canonical.ofThree {a b c : Option Nat} {f : Nat → Nat → Nat → State} (hf : ∀ x y z, (f x y z).Canonical) (h : s.Canonical) :
    (match a, b, c with
      | some x, some y, some z => f x y z
      | _, _, _ => s).Canonical := by
  split
  · exact hf _ _ _
  · exact h

theorem execAlmanacRead_canonical (h : s.Canonical) : CanonicalNext (execAlmanacRead s) := by
  unfold execAlmanacRead
  refine .mailCommand h fun u hu => .ofThree (fun lo hi off => ?_) (.badArgument hu)
  extract_lets want seq
  split
  · exact .answerMail hu
  · exact .answerMail hu

theorem execAlmanacRelease_canonical (h : s.Canonical) : CanonicalNext (execAlmanacRelease s) := by
  unfold execAlmanacRelease
  exact .mailCommand h (fun _ hu => by
        split
        · exact .ite (.answerMail (.noteLog (.keep hu))) (.answerMail hu)
        · exact .badArgument hu)

theorem execSetPortConfig_canonical (h : s.Canonical) : CanonicalNext (execSetPortConfig s) := by
  unfold execSetPortConfig
  exact .mailCommand h (fun _ hu => by
        split
        · exact .ite (.answerMail (.keep hu)) (.badArgument hu)
        · exact .badArgument hu)

theorem State.Canonical.wantFence {key : Nat} (h : s.Canonical) : (s.wantFence key).Canonical := .ite h (.modVsp h)

theorem State.Canonical.wantRelease {key : Nat} (h : s.Canonical) : (s.wantRelease key).Canonical := .ite h (.modVsp h)

theorem execFenceUnit_canonical (h : s.Canonical) : CanonicalNext (execFenceUnit s) := by
  unfold execFenceUnit
  exact .mailCommand h (fun _ hu => by
        split
        · exact .answerMail (.wantFence hu)
        · exact .badArgument hu)

theorem execReleaseUnit_canonical (h : s.Canonical) : CanonicalNext (execReleaseUnit s) := by
  unfold execReleaseUnit
  exact .mailCommand h (fun _ hu => by
        split
        · exact .ite (.badArgument hu) (.answerMail (.wantRelease hu))
        · exact .badArgument hu)

theorem execCapture_canonical (h : s.Canonical) : CanonicalNext (execCapture s) := by
  unfold execCapture
  exact .mailCommand h (fun _ hu => by
        split
        · split
          · exact .badArgument hu
          · extract_lets +onlyGivenNames region queues
            split
            · exact .answerMail (.startCapture hu)
            · exact .answerMail hu
        · exact .badArgument hu)

theorem State.Canonical.armBscan {b : Bool} (h : s.Canonical) : (s.armBscan b).Canonical := .keep (.setFld h)

theorem execBscanArm_canonical (h : s.Canonical) : CanonicalNext (execBscanArm s) :=
  .mailCommand h (fun _ hu => .ite (.answerMail (.armBscan hu)) (.badArgument hu))

theorem execBscanDisarm_canonical (h : s.Canonical) : CanonicalNext (execBscanDisarm s) :=
  .mailCommand h (fun _ hu => .answerMail (.armBscan hu))

theorem State.Canonical.mctpAnswer {e : Endpoint} {code : Nat} {l : List Nat} (h : s.Canonical) : (s.mctpAnswer e code l).Canonical :=
  .emit h

theorem State.Canonical.setEid {e : Endpoint} {x : BitVec 8} (h : s.Canonical) : (s.setEid e x).Canonical := .modVsp h

theorem State.Canonical.setTid {e : Endpoint} {x : BitVec 8} (h : s.Canonical) : (s.setTid e x).Canonical := .modVsp h

theorem State.Canonical.effecter {e : Endpoint} {valid : Bool} {f : State → Nat × State} (h : s.Canonical)
    (hf : ∀ u, u.Canonical → (f u).2.Canonical) :
    (s.effecter e valid f).Canonical := .ite (.mctpAnswer h) (.mctpAnswer (hf _ h))

theorem State.Canonical.pldmRelease (h : s.Canonical) : (s.pldmRelease).2.Canonical := by
  unfold State.pldmRelease
  split
  · exact .releaseM3 h
  · exact .raise h

theorem State.Canonical.pldmCapture (h : s.Canonical) : (s.pldmCapture).2.Canonical := by
  unfold State.pldmCapture
  split
  · exact .startCapture h
  · exact h

theorem State.Canonical.pldmService {value : BitVec 32} (h : s.Canonical) : (s.pldmService value).2.Canonical := by
  unfold State.pldmService
  split
  · exact .wantFence h
  · exact .wantRelease h
  · exact h

theorem State.Canonical.requestUpdate {e : Endpoint} (h : s.Canonical) : (s.requestUpdate e).Canonical :=
  .ite (.mctpAnswer h) (.mctpAnswer (.raise (.modVsp h)))

theorem State.Canonical.activate {e : Endpoint} {selfContained : Bool} (h : s.Canonical) : (s.activate e selfContained).Canonical := by
  unfold State.activate
  split
  · exact .mctpAnswer h
  · split
    · exact .mctpAnswer h
    · split
      · exact .mctpAnswer h
      · exact .ite .coldState (.modVsp (.lower (.queueAlm (.mctpAnswer (.keep h)))))

theorem State.Canonical.serveRequest {q : MctpReq} (h : s.Canonical) : (s.serveRequest q).Canonical := by
  unfold State.serveRequest
  extract_lets +onlyGivenNames ev
  split
  · exact .ite (.mctpAnswer (.setEid h)) (.mctpAnswer h)
  · exact .mctpAnswer h
  · exact .mctpAnswer h
  · exact .ite (.mctpAnswer h) (.mctpAnswer h)
  · exact .mctpAnswer h
  · exact .mctpAnswer h
  · exact .ite (.mctpAnswer (.setTid h)) (.mctpAnswer h)
  · exact .ite (.mctpAnswer h) (.mctpAnswer h)
  · exact .mctpAnswer h
  · exact .ite (.mctpAnswer h) (.ite (.mctpAnswer h) (.mctpAnswer h))
  · exact .mctpAnswer h
  · exact .mctpAnswer (.modVsp (.raise h))
  · exact .effecter h (fun _ hu => .noteCap (.setFld hu))
  · exact .effecter h (fun _ hu => .setFld hu)
  · exact .effecter h (fun _ hu => .pldmRelease hu)
  · exact .effecter h (fun _ hu => .pldmService hu)
  · exact .effecter h (fun _ hu => .pldmCapture hu)
  · exact .requestUpdate h
  · exact .activate h
  · exact h

theorem CanonicalNext.receive {e : Endpoint} {i : Instr} (h : s.Canonical) : CanonicalNext (Machine.receive e i s) :=
  .ite (.done h) (.ite (.done (.ite (.serveRequest h) h)) (.ite (.done h) (.done (.modVsp h))))

theorem State.Canonical.serveAll (h : s.Canonical) : (s.serveAll).Canonical := .overList (.modVsp h) (fun _ _ hu => .serveRequest hu)

theorem execSetEndpointId_canonical {e : Endpoint} {eid : BitVec 8} (h : s.Canonical) : CanonicalNext (execSetEndpointId e eid s) :=
  .receive h

theorem execGetEndpointId_canonical {e : Endpoint} (h : s.Canonical) : CanonicalNext (execGetEndpointId e s) := .receive h

theorem execGetEndpointUuid_canonical {e : Endpoint} (h : s.Canonical) : CanonicalNext (execGetEndpointUuid e s) := .receive h

theorem execGetMctpVersionSupport_canonical {e : Endpoint} {msgType : BitVec 8} (h : s.Canonical) :
    CanonicalNext (execGetMctpVersionSupport e msgType s) := .receive h

theorem execGetMessageTypeSupport_canonical {e : Endpoint} (h : s.Canonical) : CanonicalNext (execGetMessageTypeSupport e s) := .receive h

theorem execGettid_canonical {e : Endpoint} (h : s.Canonical) : CanonicalNext (execGettid e s) := .receive h

theorem execSettid_canonical {e : Endpoint} {tid : BitVec 8} (h : s.Canonical) : CanonicalNext (execSettid e tid s) := .receive h

theorem execGetpldmversion_canonical {e : Endpoint} {pldmType : BitVec 8} (h : s.Canonical) :
    CanonicalNext (execGetpldmversion e pldmType s) := .receive h

theorem execGetpldmtypes_canonical {e : Endpoint} (h : s.Canonical) : CanonicalNext (execGetpldmtypes e s) := .receive h

theorem execGetpldmcommands_canonical {e : Endpoint} {pldmType : BitVec 8} (h : s.Canonical) :
    CanonicalNext (execGetpldmcommands e pldmType s) := .receive h

theorem execSensorReading_canonical {e : Endpoint} {sensor : Sensor} (h : s.Canonical) : CanonicalNext (execSensorReading e sensor s) :=
  .receive h

theorem execSeteventreceiver_canonical {e : Endpoint} {receiver : BitVec 8} (h : s.Canonical) :
    CanonicalNext (execSeteventreceiver e receiver s) := .receive h

theorem execModuleCap_canonical {e : Endpoint} {watts : Nat} (h : s.Canonical) : CanonicalNext (execModuleCap e watts s) := .receive h

theorem execRegionCap_canonical {e : Endpoint} {region : Fin 32} {watts : Nat} (h : s.Canonical) :
    CanonicalNext (execRegionCap e region watts s) := .receive h

theorem execFacilityRelease_canonical {e : Endpoint} (h : s.Canonical) : CanonicalNext (execFacilityRelease e s) := .receive h

theorem execUnitService_canonical {e : Endpoint} {value : BitVec 32} (h : s.Canonical) : CanonicalNext (execUnitService e value s) :=
  .receive h

theorem execCaptureEffecter_canonical {e : Endpoint} (h : s.Canonical) : CanonicalNext (execCaptureEffecter e s) := .receive h

theorem execRequestupdate_canonical {e : Endpoint} (h : s.Canonical) : CanonicalNext (execRequestupdate e s) := .receive h

theorem execActivatefirmware_canonical {e : Endpoint} {selfContained : Bool} (h : s.Canonical) :
    CanonicalNext (execActivatefirmware e selfContained s) := .receive h

theorem execFirmwareImageVerify_canonical {image : FwImage} (h : s.Canonical) : CanonicalNext (execFirmwareImageVerify image s) := by
  unfold execFirmwareImageVerify
  split
  · exact .done h
  · split
    · exact .done h
    · exact .done (.mctpAnswer (.when (.modVsp (.ite (.keep h) h)) (fun _ hu => .queueAlm hu)))

theorem execMctpVendorMessage_canonical {e : Endpoint} (h : s.Canonical) : CanonicalNext (execMctpVendorMessage e s) :=
  .ite (.done h) (.done (.touch h))

theorem State.Canonical.sendEvent {x : PldmEvent} (h : s.Canonical) : (s.sendEvent x).Canonical := by
  unfold State.sendEvent
  split
  · exact .emit h
  · exact h

theorem State.Canonical.newEvent {key state : Nat} (h : s.Canonical) : (s.newEvent key state).Canonical := .ite h (.sendEvent (.modVsp h))

theorem State.Canonical.resendEvents (h : s.Canonical) : (s.resendEvents).Canonical :=
  .overList (.countSat (.modVsp h)) (fun _ _ hu => .sendEvent hu)

theorem State.Canonical.tickEvents {old : SMap Nat} {seen : Nat} (h : s.Canonical) : (s.tickEvents old seen).Canonical :=
  .overList (.overList (.resendEvents (.modVsp h)) (fun _ _ hu => .newEvent hu)) (fun _ _ hu => .newEvent hu)

theorem execPlatformEventAcknowledgement_canonical {e : Endpoint} {id : Nat} (h : s.Canonical) :
    CanonicalNext (execPlatformEventAcknowledgement e id s) := .ite (.done (.modVsp h)) (.done h)

theorem State.Canonical.tapSelect {code : BitVec 8} {f : Tap → Tap} (h : s.Canonical) : (s.tapSelect code f).Canonical := .ite (.keep h) h

theorem execExtest_canonical (h : s.Canonical) : CanonicalNext (execExtest s) := .done (.tapSelect h)

theorem execSamplePreload_canonical {cells : BitVec 11} (h : s.Canonical) : CanonicalNext (execSamplePreload cells s) :=
  .done (.tapSelect h)

theorem execClamp_canonical (h : s.Canonical) : CanonicalNext (execClamp s) := .done (.tapSelect h)

theorem execHighz_canonical (h : s.Canonical) : CanonicalNext (execHighz s) := .done (.tapSelect h)

theorem execBypass_canonical {code : BitVec 8} (h : s.Canonical) : CanonicalNext (execBypass code s) :=
  .ite (.done h) (.done (.ite (.tapSelect h) (.touch (.tapSelect h))))

theorem State.Canonical.setMem {n g : Nat} {m : PMem} {bad : Bool} (h : s.Canonical) : (s.setMem n g m bad).Canonical := by
  unfold State.setMem
  extract_lets +onlyGivenNames __src
  have h__src : __src.Canonical := .modCluster (.when h (fun _ hu => .launchPoison hu))
  exact .keep h__src

theorem execTfill_canonical {g : Fin 1024} {o : OpFields} (h : s.Canonical) : CanonicalNext (execTfill g o s) :=
  .issue h (fun _ _ _ hu => .next (.setMem hu))

theorem execMma_canonical {g : Fin 1024} {o : OpFields} (h : s.Canonical) : CanonicalNext (execMma g o s) := by
  unfold execMma
  exact .issue h (fun _ _ _ hu => .next (.modCore (.when (.keep (.act hu)) (fun _ hv => .launchPoison hv))))

theorem execAccld_canonical {g : Fin 1024} {o : OpFields} (h : s.Canonical) : CanonicalNext (execAccld g o s) := by
  unfold execAccld
  exact .issue h (fun _ _ _ hu => .next (.modCore (.when (.keep hu) (fun _ hv => .launchPoison hv))))

theorem execAccst_canonical {g : Fin 1024} {o : OpFields} (h : s.Canonical) : CanonicalNext (execAccst g o s) := by
  unfold execAccst
  exact .issue h (fun _ _ _ hu => .next (.modCore (.setMem hu)))

theorem CanonicalEnd.vecDone {n : Nat} {g : Nat} {c : Core} {o : OpFields} {srcs : List Tile} {more : Bool} {el : Nat → Nat → Elem}
    (h : t.Canonical) :
    CanonicalEnd (Machine.vecDone t n g c o srcs more el) := .next (.modCore (.setMem h))

theorem execVbin_canonical {g : Fin 1024} {o : OpFields} (h : s.Canonical) : CanonicalNext (execVbin g o s) := by
  unfold execVbin
  exact .issue h (fun _ _ _ hu => .vecDone hu)

theorem execVun_canonical {g : Fin 1024} {o : OpFields} (h : s.Canonical) : CanonicalNext (execVun g o s) := by
  unfold execVun
  exact .issue h (fun _ _ _ hu => .vecDone hu)

theorem execVscale_canonical {g : Fin 1024} {o : OpFields} (h : s.Canonical) : CanonicalNext (execVscale g o s) :=
  .issue h (fun _ _ _ hu => .vecDone hu)

theorem execVfma_canonical {g : Fin 1024} {o : OpFields} (h : s.Canonical) : CanonicalNext (execVfma g o s) :=
  .issue h (fun _ _ _ hu => .vecDone hu)

theorem execVred_canonical {g : Fin 1024} {o : OpFields} (h : s.Canonical) : CanonicalNext (execVred g o s) := by
  unfold execVred
  exact .issue h (fun _ _ _ hu => .vecDone hu)

theorem execVcvt_canonical {g : Fin 1024} {o : OpFields} (h : s.Canonical) : CanonicalNext (execVcvt g o s) :=
  .issue h (fun _ _ _ hu => .next (.modCore (.setMem hu)))

theorem execVcmp_canonical {g : Fin 1024} {o : OpFields} (h : s.Canonical) : CanonicalNext (execVcmp g o s) := by
  unfold execVcmp
  exact .issue h (fun _ _ _ hu => .vecDone hu)

theorem execVsel_canonical {g : Fin 1024} {o : OpFields} (h : s.Canonical) : CanonicalNext (execVsel g o s) :=
  .issue h (fun _ _ _ hu => .vecDone hu)

theorem State.Canonical.countM1 (h : s.Canonical) : (s.countM1).Canonical := .keep h

theorem State.Canonical.decideM2 (h : s.Canonical) : (s.decideM2).Canonical := .ite h (.ite (.raise h) (.setWord h))

theorem State.Canonical.latchTick (h : s.Canonical) : (s.latchTick).Canonical := .modVsp (.keep (.at h))

theorem State.Canonical.almanacStep (h : s.Canonical) : (s.almanacStep).Canonical := by
  unfold State.almanacStep
  extract_lets +onlyGivenNames t
  have ht : t.Canonical := .captureTick (.readTouches (.readHalts (.readSupply h)))
  exact .raise (.modVsp ht)

/-- The tick's work; the energy of the last tick is shared among the live regions in the middle of it (R134). -/
theorem State.Canonical.tickWork (h : s.Canonical) : (s.tickWork).Canonical := by
  unfold State.tickWork
  extract_lets +onlyGivenNames seen old t t1 t2
  have ht : t.Canonical := .latchRecord (.fillSnapshots (.countActivity (.decideM2 h)))
  have hr : t.readIntegrity.reconcileAll.Canonical := .reconcileAll (.readIntegrity ht)
  have ht1 : t1.Canonical := .latchSensors (.takeMail (.enforceCaps (.modVsp (.ite (.overList hr fun _ _ hu => .charge hu)
    (.setPair (.overList hr fun _ _ hu => .charge hu))))))
  exact .setFld (.when (.draw (.almanacStep (.serveAll (.tickEvents ht1)))) (fun _ hu => .countSat hu))

theorem execVesperTick_canonical (h : s.Canonical) : CanonicalNext (execVesperTick s) := by
  unfold execVesperTick
  split
  · exact .done h
  · extract_lets +onlyGivenNames t t1 u
    have ht1 : t1.Canonical := .ite (.tickWork (.countM1 (.latchTick h))) (.countM1 (.latchTick h))
    exact .done (.keep ht1)

theorem execVesperRestart_canonical {cause : RestartCause} (h : s.Canonical) : CanonicalNext (execVesperRestart cause s) :=
  .ite (.done h) (.done (.modVsp (.lower (.raise (.lower (.countSat h))))))

theorem execVesperRestartComplete_canonical (h : s.Canonical) : CanonicalNext (execVesperRestartComplete s) := by
  unfold execVesperRestartComplete
  split
  · exact .done h
  · extract_lets +onlyGivenNames b im back t t1 t2 t3 t4
    have ht2 : t2.Canonical := .when (.setFld (.setFld (.setFld (.setFld (.setFld (.setFld h)))))) (fun _ hu => .raise hu)
    have ht4 : t4.Canonical := .modVsp (.raise (.lower ht2))
    exact .done (.queueAlm ht4)

theorem exec_canonical (i : Instr) (h : s.Canonical) : CanonicalNext (exec i s) := by
  cases i with
  | registerWrite => exact execRegisterWrite_canonical h
  | unsupportedRequest => exact execUnsupportedRequest_canonical h
  | wakeHint => exact execWakeHint_canonical h
  | sriovCfgWriteIgnored => exact execSriovCfgWriteIgnored_canonical h
  | vfEnableClear => exact execVfEnableClear_canonical h
  | pfD3hotEntry => exact execPfD3hotEntry_canonical h
  | pfD0Entry => exact execPfD0Entry_canonical h
  | vfBmeChange => exact execVfBmeChange_canonical h
  | intPfEnableWrite => exact execIntPfEnableWrite_canonical h
  | msixTableWrite => exact execMsixTableWrite_canonical h
  | msixPendingSend => exact execMsixPendingSend_canonical h
  | pcieLinkTrained => exact execPcieLinkTrained_canonical h
  | hostDmaErrorResponse => exact execHostDmaErrorResponse_canonical h
  | hostReadTimeout => exact execHostReadTimeout_canonical h
  | perstAssert => exact execPerstAssert_canonical h
  | perstDeassert => exact execPerstDeassert_canonical h
  | hotReset => exact execHotReset_canonical h
  | flrPf => exact execFlrPf_canonical h
  | flrVf => exact execFlrVf_canonical h
  | warm => exact execWarm_canonical h
  | cold => exact execCold_canonical h
  | warmKeepHbmUpdate => exact execWarmKeepHbmUpdate_canonical h
  | warmReset => exact execWarmReset_canonical h
  | warmResetComplete => exact execWarmResetComplete_canonical h
  | converterStart => exact execConverterStart_canonical h
  | bringUpComplete => exact execBringUpComplete_canonical h
  | powerDown => exact execPowerDown_canonical h
  | supplySample => exact execSupplySample_canonical h
  | overvoltageTrip => exact execOvervoltageTrip_canonical h
  | undervoltageComparator => exact execUndervoltageComparator_canonical h
  | meterSelfCheck => exact execMeterSelfCheck_canonical h
  | lastGaspComplete => exact execLastGaspComplete_canonical h
  | junctionSensorRead => exact execJunctionSensorRead_canonical h
  | hbmTempReport => exact execHbmTempReport_canonical h
  | fhaltSample => exact execFhaltSample_canonical h
  | haltDrainComplete => exact execHaltDrainComplete_canonical h
  | fhaltRelease => exact execFhaltRelease_canonical h
  | m3ReleaseComplete => exact execM3ReleaseComplete_canonical h
  | shed => exact execShed_canonical h
  | unshed => exact execUnshed_canonical h
  | forceShedWrite => exact execForceShedWrite_canonical h
  | ceilingMultWrite => exact execCeilingMultWrite_canonical h
  | slewComplete => exact execSlewComplete_canonical h
  | aonTrimWindow => exact execAonTrimWindow_canonical h
  | xtal32Stop => exact execXtal32Stop_canonical h
  | xrefQualifyTimeout => exact execXrefQualifyTimeout_canonical h
  | tilePllUnlock => exact execTilePllUnlock_canonical h
  | tilePllRelock => exact execTilePllRelock_canonical h
  | vesperTick => exact execVesperTick_canonical h
  | m2EntryComplete => exact execM2EntryComplete_canonical h
  | m2PollExcursion => exact execM2PollExcursion_canonical h
  | wakeCause => exact execWakeCause_canonical h
  | wakeComplete => exact execWakeComplete_canonical h
  | islandIdleGate => exact execIslandIdleGate_canonical h
  | islandUngateComplete => exact execIslandUngateComplete_canonical h
  | imageRebuild => exact execImageRebuild_canonical h
  | sliceRetentionEntry => exact execSliceRetentionEntry_canonical h
  | sliceRetentionExit => exact execSliceRetentionExit_canonical h
  | ringWatchPoll => exact execRingWatchPoll_canonical h
  | heldRecordsFlush => exact execHeldRecordsFlush_canonical h
  | descriptorFetch => exact execDescriptorFetch_canonical h
  | descriptorComplete => exact execDescriptorComplete_canonical h
  | nopDescriptor => exact execNopDescriptor_canonical h
  | copy => exact execCopy_canonical h
  | fill => exact execFill_canonical h
  | loadSchedule => exact execLoadSchedule_canonical h
  | launch => exact execLaunch_canonical h
  | gatherCheckComplete => exact execGatherCheckComplete_canonical h
  | launchEnd => exact execLaunchEnd_canonical h
  | launchWatchdog => exact execLaunchWatchdog_canonical h
  | wait => exact execWait_canonical h
  | waitTimeout => exact execWaitTimeout_canonical h
  | fenceDescriptor => exact execFenceDescriptor_canonical h
  | barrier => exact execBarrier_canonical h
  | barrierTimeout => exact execBarrierTimeout_canonical h
  | signal => exact execSignal_canonical h
  | query => exact execQuery_canonical h
  | telemetrySnapshot => exact execTelemetrySnapshot_canonical h
  | ringEnable => exact execRingEnable_canonical h
  | ringDisable => exact execRingDisable_canonical h
  | cqEnable => exact execCqEnable_canonical h
  | cqDisable => exact execCqDisable_canonical h
  | ringStoppingEnd => exact execRingStoppingEnd_canonical h
  | configure => exact execConfigure_canonical h
  | commit => exact execCommit_canonical h
  | reset => exact execReset_canonical h
  | release => exact execRelease_canonical h
  | rgnRectWrite => exact execRgnRectWrite_canonical h
  | regionFault => exact execRegionFault_canonical h
  | faultStopEnd => exact execFaultStopEnd_canonical h
  | regionResetDrainEnd => exact execRegionResetDrainEnd_canonical h
  | regionResetEnd => exact execRegionResetEnd_canonical h
  | releaseClearEnd => exact execReleaseClearEnd_canonical h
  | frameStart => exact execFrameStart_canonical h
  | frameEnd => exact execFrameEnd_canonical h
  | keyValidWrite => exact execKeyValidWrite_canonical h
  | routeQuiesceEnd => exact execRouteQuiesceEnd_canonical h
  | dynRead => exact execDynRead_canonical h
  | dynWrite => exact execDynWrite_canonical h
  | dynAtomic => exact execDynAtomic_canonical h
  | dynMessage => exact execDynMessage_canonical h
  | dynData => exact execDynData_canonical h
  | dynAck => exact execDynAck_canonical h
  | dynError => exact execDynError_canonical h
  | edgeRingTransfer => exact execEdgeRingTransfer_canonical h
  | halt => exact execHalt_canonical h
  | notifyDelivery => exact execNotifyDelivery_canonical h
  | creditReturn => exact execCreditReturn_canonical h
  | combiningAccept => exact execCombiningAccept_canonical h
  | combiningDelivery => exact execCombiningDelivery_canonical h
  | borrowRequest => exact execBorrowRequest_canonical h
  | recallLine => exact execRecall_canonical h
  | lineReturn => exact execLineReturn_canonical h
  | hbmGrant => exact execHbmGrant_canonical h
  | hbmReadComplete => exact execHbmReadComplete_canonical h
  | hbmRefresh => exact .done h
  | budgetWindow => exact execBudgetWindow_canonical h
  | agePromotion => exact execAgePromotion_canonical h
  | hbmWatermarkWrite => exact execHbmWatermarkWrite_canonical h
  | scrubStep => exact execScrubStep_canonical h
  | bushelLeak => exact execBushelLeak_canonical h
  | linkEnable => exact execLinkEnable_canonical h
  | linkTrainingComplete => exact execLinkTrainingComplete_canonical h
  | linkTrainingFail => exact execLinkTrainingFail_canonical h
  | linkTrainingRetry => exact execLinkTrainingRetry_canonical h
  | linkRetrain => exact execLinkRetrain_canonical h
  | laneErrorWindow => exact execLaneErrorWindow_canonical h
  | linkRetrainComplete => exact execLinkRetrainComplete_canonical h
  | linkDisable => exact execLinkDisable_canonical h
  | linkDisableComplete => exact execLinkDisableComplete_canonical h
  | portAssign => exact execPortAssign_canonical h
  | portUnassign => exact execPortUnassign_canonical h
  | hlModuleWrite => exact execHlModuleWrite_canonical h
  | flitReceive => exact execFlitReceive_canonical h
  | replayTimeout => exact execReplayTimeout_canonical h
  | linkRead => exact execLinkRead_canonical h
  | linkWrite => exact execLinkWrite_canonical h
  | linkAtomic => exact execLinkAtomic_canonical h
  | linkMessage => exact execLinkMessage_canonical h
  | linkData => exact execLinkData_canonical h
  | linkAck => exact execLinkAck_canonical h
  | linkError => exact execLinkError_canonical h
  | linkCredit => exact execLinkCredit_canonical h
  | vesperRestart => exact execVesperRestart_canonical h
  | vesperRestartComplete => exact execVesperRestartComplete_canonical h
  | almanacFlashWrite => exact execAlmanacFlashWrite_canonical h
  | mailboxSubmit => exact execMailboxSubmit_canonical h
  | mailboxDoneClear => exact execMailboxDoneClear_canonical h
  | getInfo => exact execGetInfo_canonical h
  | getTelemetryModule => exact execGetTelemetryModule_canonical h
  | getTelemetryRegion => exact execGetTelemetryRegion_canonical h
  | getCalibration => exact execGetCalibration_canonical h
  | getUnitRecord => exact execGetUnitRecord_canonical h
  | almanacRead => exact execAlmanacRead_canonical h
  | almanacRelease => exact execAlmanacRelease_canonical h
  | setPortConfig => exact execSetPortConfig_canonical h
  | fenceUnit => exact execFenceUnit_canonical h
  | releaseUnit => exact execReleaseUnit_canonical h
  | capture => exact execCapture_canonical h
  | bscanArm => exact execBscanArm_canonical h
  | bscanDisarm => exact execBscanDisarm_canonical h
  | serviceClearComplete => exact execServiceClearComplete_canonical h
  | setEndpointId => exact execSetEndpointId_canonical h
  | getEndpointId => exact execGetEndpointId_canonical h
  | getEndpointUuid => exact execGetEndpointUuid_canonical h
  | getMctpVersionSupport => exact execGetMctpVersionSupport_canonical h
  | getMessageTypeSupport => exact execGetMessageTypeSupport_canonical h
  | gettid => exact execGettid_canonical h
  | settid => exact execSettid_canonical h
  | getpldmversion => exact execGetpldmversion_canonical h
  | getpldmtypes => exact execGetpldmtypes_canonical h
  | getpldmcommands => exact execGetpldmcommands_canonical h
  | sensorReading => exact execSensorReading_canonical h
  | seteventreceiver => exact execSeteventreceiver_canonical h
  | moduleCap => exact execModuleCap_canonical h
  | regionCap => exact execRegionCap_canonical h
  | facilityRelease => exact execFacilityRelease_canonical h
  | unitService => exact execUnitService_canonical h
  | captureEffecter => exact execCaptureEffecter_canonical h
  | requestupdate => exact execRequestupdate_canonical h
  | firmwareImageVerify => exact execFirmwareImageVerify_canonical h
  | activatefirmware => exact execActivatefirmware_canonical h
  | extest => exact execExtest_canonical h
  | samplePreload => exact execSamplePreload_canonical h
  | clamp => exact execClamp_canonical h
  | highz => exact execHighz_canonical h
  | bypass => exact execBypass_canonical h
  | nop => exact execNop_canonical h
  | movi => exact execMovi_canonical h
  | alu => exact execAlu_canonical h
  | alui => exact execAlui_canonical h
  | rdid => exact execRdid_canonical h
  | br => exact execBr_canonical h
  | jr => exact execJr_canonical h
  | loop => exact execLoop_canonical h
  | seed => exact execSeed_canonical h
  | end_ => exact execEnd_canonical h
  | waitc => exact execWaitc_canonical h
  | waitf => exact execWaitf_canonical h
  | notify => exact execNotify_canonical h
  | waitn => exact execWaitn_canonical h
  | ld => exact execLd_canonical h
  | st => exact execSt_canonical h
  | ldg => exact execLdg_canonical h
  | stg => exact execStg_canonical h
  | dmag => exact execDmag_canonical h
  | dmap => exact execDmap_canonical h
  | dmaf => exact execDmaf_canonical h
  | dmaTransferComplete => exact execDmaTransferComplete_canonical h
  | tfill => exact execTfill_canonical h
  | mma => exact execMma_canonical h
  | accld => exact execAccld_canonical h
  | accst => exact execAccst_canonical h
  | vbin => exact execVbin_canonical h
  | vun => exact execVun_canonical h
  | vscale => exact execVscale_canonical h
  | vfma => exact execVfma_canonical h
  | vred => exact execVred_canonical h
  | vcvt => exact execVcvt_canonical h
  | vcmp => exact execVcmp_canonical h
  | vsel => exact execVsel_canonical h
  | send => exact execSend_canonical h
  | qrd => exact execQrd_canonical h
  | acq => exact execAcq_canonical h
  | rel => exact execRel_canonical h
  | fence => exact execFence_canonical h
  | atom => exact execAtom_canonical h
  | tatom => exact execTatom_canonical h
  | gather => exact execGather_canonical h
  | scatter => exact execScatter_canonical h
  | undefinedOpcode => exact execUndefinedOpcode_canonical h
  | pllLossOfLock => exact execPllLossOfLock_canonical h
  | configurationWrite => exact execConfigurationWrite_canonical h
  | platformEventAcknowledgement => exact execPlatformEventAcknowledgement_canonical h
  | mctpVendorMessage => exact execMctpVendorMessage_canonical h

theorem State.Canonical.idle (h : s.Canonical) : (Machine.idle s).Canonical := .ite h (.at (.progressAll h))

/-- The block's step: the command at the front, or one tick. -/
theorem step_canonical (h : s.Canonical) : CanonicalNext (step s) := by
  unfold step
  split
  · intro t e
    obtain rfl : idle s = t := by simpa using e
    exact .idle h
  · exact exec_canonical _ (.keep h)

/-- Settles O59: by the lemma of every function that a command runs; registers are written with 32 bits, in order, HBM by its own
operations, and the timestamp modulo 2^48. -/
theorem stepKeepsCanonicalState : Obligations.StepKeepsCanonicalState := by
  unfold Obligations.StepKeepsCanonicalState
  exact fun _ t h e => step_canonical h t e

theorem State.Canonical.withFetchWord {nbits w : Nat} (h : s.Canonical) : (s.withFetchWord nbits w).Canonical := by
  unfold State.withFetchWord
  split
  · exact .keep h
  · exact h

theorem State.Canonical.unwait {g : Nat} (h : s.Canonical) : (s.unwait g).Canonical := .modCore h

theorem State.Canonical.putEntry {k off cause : Nat} {w : DwWrite} (h : s.Canonical) : (s.putEntry k off cause w).Canonical := .setWords h

theorem State.Canonical.notePoison {w : DwWrite} (h : s.Canonical) : (s.notePoison w).Canonical := .when h (fun _ hu => .raise hu)

theorem State.Canonical.stopFill {g : Nat} (h : s.Canonical) : (s.stopFill g).Canonical := .ite (.modCore h) h

theorem State.Canonical.qrdAcquire {g : Nat} {o : OpFields} (h : s.Canonical) : (s.qrdAcquire g o).Canonical := .ite (.acquire h) h

theorem State.Canonical.setAcc {n g : Nat} {o : OpFields} {rows cols : Nat} {v : Nat → Nat → Nat} {bad : Bool} (h : u.Canonical) :
    (State.setAcc u n g o rows cols v bad).Canonical := .modCore (.when (.keep h) (fun _ hu => .launchPoison hu))

end Sys2Proof.Machine
end

section
/-! Retention, scrub steps and the bushel's leak of a memory slice (04, 18): O56. -/

namespace Sys2Proof.Machine

variable {s t : State}

theorem ownerOf_lt {x n : Nat} (h : s.ownerOf x = some n) : n < 32 :=
  List.mem_range.1 (List.mem_of_find?_eq_some h)

/-- A scrub step of SRAM that finds no error touches no register: at most the slice's lines are written back in order. -/
theorem scrubSram_none (s : State) (n i pos : Nat) :
    ∃ sl d, s.scrubSram n i pos .none = { s with slices := sl, draws := d } := by
  unfold State.scrubSram
  extract_lets ways way
  rw [if_neg (by simp)]
  split
  · split
    · exact ⟨s.slices, s.draws, rfl⟩
    · exact ⟨s.slices, s.draws, rfl⟩
  · split
    · exact ⟨s.slices, s.draws, rfl⟩
    · split
      · exact ⟨s.slices, s.draws, rfl⟩
      · exact ⟨_, s.draws, rfl⟩

section
variable {off : Nat} {p : List Part}

theorem Stays.countMod (h : Stays off p s t) (f : Fld) (k : Nat) (ne : off ≠ f.off) : Stays off p s (t.countMod f k) :=
  h.setFld f _ ne

theorem Stays.countSat (h : Stays off p s t) (f : Fld) (k : Nat) (ne : off ≠ f.off) : Stays off p s (t.countSat f k) :=
  h.setFld f _ ne

theorem Stays.act (h : Stays off p s t) (n k c : Nat) (hp : .regions ∈ p) : Stays off p s (t.act n k c) :=
  h.trans (.of_regs rfl (frame_modRgn t n _ (r := []) hp).2)

theorem Stays.modChan (h : Stays off p s t) (c : Nat) (f : Chan → Chan) (hp : .chans ∈ p) : Stays off p s (t.modChan c f) :=
  h.trans (.of_regs rfl fun q hq => by
    cases q with
    | chans => exact absurd hp hq
    | _ => rfl)

theorem Stays.modSlice (h : Stays off p s t) (i : Nat) (f : Slice → Slice) (hp : .slices ∈ p) : Stays off p s (t.modSlice i f) :=
  h.trans (.of_regs rfl fun q hq => by
    cases q with
    | slices => exact absurd hp hq
    | _ => rfl)

theorem Stays.pf (h : Stays off p s t) (ne : off ≠ R.INT_PF_STATUS) : Stays off p s t.refreshPf :=
  ⟨h.1.pf ne, h.2.trans (frame_refreshPf t [] p).2⟩

/-- The beats of a read are charged to the channel and to the region. -/
theorem Stays.chargeBeats (h : Stays off p s t) (n ch cls beats : Nat) (hr : .regions ∈ p) (hc : .chans ∈ p)
    (h1 : off ≠ R.HBM_CH_SECTORS (ch / 16) (ch % 16)) (h2 : off ≠ R.RGN_DLY_SERVED n cls) :
    Stays off p s (t.chargeBeats n ch cls beats) := by
  unfold State.chargeBeats
  exact (((h.countMod _ beats h1).countMod _ beats h2).act n 7 beats hr).modChan ch _ hc

theorem Stays.sweepEnd (h : Stays off p s t) (i k : Nat) (ne : off ≠ R.MSL_SCRUB_HBM i) : Stays off p s (t.sweepEnd i k) := by
  unfold State.sweepEnd
  extract_lets period
  refine Stays.when h ?_
  exact (Stays.refl off p t).countSat (F.MSL_SCRUB_HBM_SWEEP_LATE i) 1 ne

end

theorem scrubHbm_none (s : State) (n i pos : Nat) :
    s.scrubHbm n i pos .none = s.chargeBeats n (channelOfSlice i + pos % 2) cSCRUB 4 := rfl

/-- A scrub step of HBM that finds no error charges its beats. -/
theorem stays_scrubHbm_none (s : State) {n i pos off : Nat} (hn : n < 32) (lo : 0x400000 ≤ off) (hi : off < 0x800000) :
    Stays off [.regions, .chans, .slices] s (s.scrubHbm n i pos .none) := by
  rw [scrubHbm_none]
  exact (Stays.refl off [.regions, .chans, .slices] s).chargeBeats n _ cSCRUB 4 (by simp) (by simp)
    (by simp only [R.HBM_CH_SECTORS]; omega) (by simp only [R.RGN_DLY_SERVED, cSCRUB]; omega)

/-! ### The commands -/

theorem sliceRetentionEntry_answers (i : Fin 64) (s : State) (n : Nat) (ho : s.ownerOf (tileOfSlice i) = some n)
    (hv : s.power.halves = true) (hb : s.sliceBusy i = false) (hi : ∀ k ∈ s.islandsOf n, s.bitAt F.CLK_ISLAND_POWERED k = false) :
    Answers (.sliceRetentionEntry i) s fun t =>
      t.fld (F.MSL_STATE_RETENTION i) = 1 ∧ OtherBits s t (F.MSL_STATE_RETENTION i) ∧ Frame s t [R.MSL_STATE i] [] := by
  have hall : (s.islandsOf n).all (fun k => !s.bitAt F.CLK_ISLAND_POWERED k) = true :=
    List.all_eq_true.2 fun k hk => by simp [hi k hk]
  have he : exec (.sliceRetentionEntry i) s = done (s.raise (F.MSL_STATE_RETENTION i)) := by
    show execSliceRetentionEntry i s = _
    unfold execSliceRetentionEntry
    simp [ho, hv, hb, hall]
  have ne : R.MSL_STATE i ≠ R.INT_PF_STATUS := by simp only [R.MSL_STATE, R.INT_PF_STATUS]; omega
  obtain ⟨t, ht, h1, h2, h3, -⟩ := answers_setFld (f := F.MSL_STATE_RETENTION i) (v := 1) he (show 26 + 1 ≤ 32 by decide) ne
  exact ⟨t, ht, h1, h2, h3⟩

theorem sliceRetentionExit_answers (i : Fin 64) (s : State) : Answers (.sliceRetentionExit i) s fun t =>
    t.fld (F.MSL_STATE_RETENTION i) = 0 ∧ OtherBits s t (F.MSL_STATE_RETENTION i) ∧ Frame s t [R.MSL_STATE i] [] := by
  have ne : R.MSL_STATE i ≠ R.INT_PF_STATUS := by simp only [R.MSL_STATE, R.INT_PF_STATUS]; omega
  obtain ⟨t, ht, h1, h2, h3, -⟩ := answers_setFld (i := .sliceRetentionExit i) (s := s) (f := F.MSL_STATE_RETENTION i) (v := 0)
    rfl (show 26 + 1 ≤ 32 by decide) ne
  exact ⟨t, ht, h1, h2, h3⟩

theorem bushelLeak_answers (i : Fin 64) (s : State) : Answers (.bushelLeak i) s fun t =>
    t.fld (F.MSL_BUSHEL_COUNT i) = s.fld (F.MSL_BUSHEL_COUNT i) - 1 ∧ Frame s t [R.MSL_BUSHEL i] [] := by
  have ne : R.MSL_BUSHEL i ≠ R.INT_PF_STATUS := by simp only [R.MSL_BUSHEL, R.INT_PF_STATUS]; omega
  have hlt : s.fld (F.MSL_BUSHEL_COUNT i) < 2 ^ 8 := State.fld_lt s (F.MSL_BUSHEL_COUNT i)
  obtain ⟨t, ht, h1, -, h3, -⟩ := answers_setFld (i := .bushelLeak i) (s := s) (f := F.MSL_BUSHEL_COUNT i)
    (v := s.fld (F.MSL_BUSHEL_COUNT i) - 1) rfl (show 0 + 8 ≤ 32 by decide) ne
  exact ⟨t, ht, h1.trans (Nat.mod_eq_of_lt (show _ < 2 ^ 8 by omega)), h3⟩

/-- The position after a scrub step is the next one, or the first again. -/
theorem scrubSram_answers (i : Fin 64) (s : State) (n : Nat) (ho : s.ownerOf (tileOfSlice i) = some n) (hs : s.scrubbed i n = true) :
    Answers (.scrubStep i false .none) s fun t =>
      let pos := s.fld (F.MSL_SCRUB_SRAM_POSITION i)
      t.fld (F.MSL_SCRUB_SRAM_POSITION i) = (if pos + 1 < 49152 then pos + 1 else 0) ∧ t.hbm = s.hbm ∧ t.cores = s.cores := by
  obtain ⟨sl, d, hsc⟩ := scrubSram_none s n i (s.fld (F.MSL_SCRUB_SRAM_POSITION i))
  have he : exec (.scrubStep i false .none) s = execScrubStep i false .none s := rfl
  unfold execScrubStep at he
  simp only [ho, hs, Bool.not_true, Bool.false_eq_true, if_false] at he
  generalize s.fld (F.MSL_SCRUB_SRAM_POSITION i) = pos at he hsc ⊢
  generalize s.scrubSram n i pos .none = t at he hsc
  have hnp : R.MSL_SCRUB_SRAM i ≠ R.INT_PF_STATUS := by simp only [R.MSL_SCRUB_SRAM, R.INT_PF_STATUS]; omega
  by_cases hp : pos + 1 < 49152
  · rw [if_pos hp] at he
    refine answers_of_done he ⟨?_, ?_, ?_⟩
    · rw [if_pos hp, fld_setFld_pf _ _ _ (show 0 + 16 ≤ 32 by decide) hnp]
      exact Nat.mod_eq_of_lt (show _ < 2 ^ 16 by omega)
    · rw [State.refreshPf_hbm, State.setFld_hbm, hsc]
    · rw [State.refreshPf_cores, State.setFld_cores, hsc]
  · rw [if_neg hp] at he
    have hz : ((t.setFld (F.MSL_SCRUB_SRAM_POSITION i) 0).countSat (F.MSL_SCRUB_SRAM_SWEEPS i)).fld (F.MSL_SCRUB_SRAM_POSITION i) = 0 := by
      generalize hu : t.setFld (F.MSL_SCRUB_SRAM_POSITION i) 0 = u
      unfold State.countSat
      rw [State.fld_setFld_lo u (F.MSL_SCRUB_SRAM_SWEEPS i) (F.MSL_SCRUB_SRAM_POSITION i) _ rfl rfl (show 0 + 16 ≤ 32 by decide)
        (Or.inl (show 0 + 16 ≤ 16 by decide)), ← hu]
      exact State.fld_setFld_same t (F.MSL_SCRUB_SRAM_POSITION i) 0 (show 0 + 16 ≤ 32 by decide)
    have hk := ((((Stays.refl (R.MSL_SCRUB_SRAM i) [.slices]
      ((t.setFld (F.MSL_SCRUB_SRAM_POSITION i) 0).countSat (F.MSL_SCRUB_SRAM_SWEEPS i))).sweepEnd i (s.slice i).sweepSram
        (by simp only [R.MSL_SCRUB_SRAM, R.MSL_SCRUB_HBM]; omega)).modSlice i (fun sl => { sl with sweepSram := s.time }) (by simp)).pf hnp)
    refine answers_of_done he ⟨?_, ?_, ?_⟩
    · rw [if_neg hp]
      exact (hk.1.fld (F.MSL_SCRUB_SRAM_POSITION i) rfl).trans hz
    · exact (hk.2 .hbm (by simp)).trans (by rw [State.countSat, State.setFld_hbm, State.setFld_hbm, hsc])
    · exact (hk.2 .cores (by simp)).trans (by rw [State.countSat, State.setFld_cores, State.setFld_cores, hsc])

theorem scrubHbm_answers (i : Fin 64) (s : State) (n : Nat) (ho : s.ownerOf (tileOfSlice i) = some n) (hs : s.scrubbed i n = true)
    (hen : s.fld (F.MSL_SCRUB_CTRL_HBM_EN i) = 1) : Answers (.scrubStep i true .none) s fun t =>
      let pos := s.fld (F.MSL_SCRUB_HBM_POS_POSITION i)
      t.fld (F.MSL_SCRUB_HBM_POS_POSITION i) = (if pos + 1 < 25165824 then pos + 1 else 0) ∧ t.hbm = s.hbm ∧ t.cores = s.cores := by
  have hon : s.on (F.MSL_SCRUB_CTRL_HBM_EN i) = true := State.on_eq_true (by omega)
  have he : exec (.scrubStep i true .none) s = execScrubStep i true .none s := rfl
  unfold execScrubStep at he
  simp only [ho, hs, hon, Bool.not_true, Bool.false_eq_true, if_false, if_true] at he
  generalize s.fld (F.MSL_SCRUB_HBM_POS_POSITION i) = pos at he ⊢
  have hst := stays_scrubHbm_none s (i := i) (pos := pos) (ownerOf_lt ho) (off := R.MSL_SCRUB_HBM_POS i)
    (by simp only [R.MSL_SCRUB_HBM_POS]; omega) (by simp only [R.MSL_SCRUB_HBM_POS]; omega)
  generalize s.scrubHbm n i pos .none = t at he hst
  have hnp : R.MSL_SCRUB_HBM_POS i ≠ R.INT_PF_STATUS := by simp only [R.MSL_SCRUB_HBM_POS, R.INT_PF_STATUS]; omega
  by_cases hp : pos + 1 < 25165824
  · rw [if_pos hp] at he
    refine answers_of_done he ⟨?_, ?_, ?_⟩
    · rw [if_pos hp, fld_setFld_pf _ _ _ (show 0 + 25 ≤ 32 by decide) hnp]
      exact Nat.mod_eq_of_lt (show _ < 2 ^ 25 by omega)
    · rw [State.refreshPf_hbm, State.setFld_hbm]; exact hst.2 .hbm (by simp)
    · rw [State.refreshPf_cores, State.setFld_cores]; exact hst.2 .cores (by simp)
  · rw [if_neg hp] at he
    have ne : R.MSL_SCRUB_HBM_POS i ≠ R.MSL_SCRUB_HBM i := by simp only [R.MSL_SCRUB_HBM_POS, R.MSL_SCRUB_HBM]; omega
    have hz := State.fld_setFld_same t (F.MSL_SCRUB_HBM_POS_POSITION i) 0 (show 0 + 25 ≤ 32 by decide)
    have hk := (((((Stays.refl (R.MSL_SCRUB_HBM_POS i) [.slices] (t.setFld (F.MSL_SCRUB_HBM_POS_POSITION i) 0)).countSat
      (F.MSL_SCRUB_HBM_SWEEPS i) 1 ne).sweepEnd i (s.slice i).sweepHbm ne).modSlice i (fun sl => { sl with sweepHbm := s.time })
        (by simp)).pf hnp)
    refine answers_of_done he ⟨?_, ?_, ?_⟩
    · rw [if_neg hp]
      exact (hk.1.fld (F.MSL_SCRUB_HBM_POS_POSITION i) rfl).trans hz
    · exact (hk.2 .hbm (by simp)).trans ((State.setFld_hbm t _ _).trans (hst.2 .hbm (by simp)))
    · exact (hk.2 .cores (by simp)).trans ((State.setFld_cores t _ _).trans (hst.2 .cores (by simp)))

/-- Settles O56: retention and the bushel's leak write one field each; a scrub step that finds no error moves its position on. -/
theorem sliceStepsComplete : Obligations.SliceStepsComplete :=
  ⟨sliceRetentionEntry_answers, sliceRetentionExit_answers, scrubSram_answers, scrubHbm_answers, bushelLeak_answers⟩

end Sys2Proof.Machine
end

section
/-! What Vesper's work of a tick leaves alone (19, R814): the timestamp, HBM, and the power phase as long as it is not recovery. One
lemma per function that the work calls, in the order of their definitions. -/

namespace Sys2Proof.Machine

variable {s t u z : State}

/-- The time and HBM of z, and not in recovery. -/
def State.Ticks (s z : State) : Prop := s.time = z.time ∧ s.hbm = z.hbm ∧ s.power.phase ≠ .recovery

theorem State.Ticks.keep {a1 a2 a3 a4 a5 a6 a7 a8 a9 a10 a11 a12 a13 a14 a15 a16 a17 a18 a19 a20 a21 a22 a23 a24 a25 a26 a27 a28 a29 a30 a31
      a32 a33 b1 b2 b3 b4 b5 b6 b7 b8 b9 b10 b11 b12 b13 b14 b15 b16 b17 b18 b19 b20 b21 b22 b23 b24 b25 b26} (h : s.Ticks z) : (State.mk a1
      s.time a2 a3 a4 a5 a6 a7 a8 (Power.mk s.power.phase b1 b2 b3 b4 b5 b6 b7 b8 b9 b10 b11 b12 b13 b14 b15 b16 b17 b18 b19 b20 b21 b22 b23
      b24 b25 b26) a9 a10 a11 a12 a13 a14 a15 a16 a17 a18 a19 a20 s.hbm a21 a22 a23 a24 a25 a26 a27 a28 a29 a30 a31 a32 a33).Ticks z :=
      h

theorem State.Ticks.setWord {off w : Nat} (h : s.Ticks z) : (s.setWord off w).Ticks z := h

theorem State.Ticks.ite {c : Prop} [Decidable c] (h : s.Ticks z) (k : t.Ticks z) : (if c then s else t).Ticks z := by
  split
  · exact h
  · exact k

/-- What a walk over a list leaves, as `g` reads the state from it. -/
theorem foldl_ticks {α σ : Type} (g : σ → State) (f : σ → α → σ) (hf : ∀ x a, (g x).Ticks z → (g (f x a)).Ticks z) (l : List α) :
    ∀ b, (g b).Ticks z → (g (l.foldl f b)).Ticks z := by
  induction l with
  | nil => exact fun _ h => h
  | cons a l ih => exact fun b h => ih _ (hf b a h)

theorem State.Ticks.overList {α : Type} {l : List α} {f : State → α → State} (h : s.Ticks z)
    (hf : ∀ u a, u.Ticks z → (f u a).Ticks z) : (Machine.overList l s f).Ticks z := foldl_ticks id f hf l s h

theorem State.Ticks.setFld {f : Fld} {v : Nat} (h : s.Ticks z) : (s.setFld f v).Ticks z := .setWord h

theorem State.Ticks.raise {f : Fld} (h : s.Ticks z) : (s.raise f).Ticks z := .setFld h

theorem State.Ticks.lower {f : Fld} (h : s.Ticks z) : (s.lower f).Ticks z := .setFld h

theorem State.Ticks.countSat {f : Fld} {k : Nat} (h : s.Ticks z) : (s.countSat f k).Ticks z := .setFld h

theorem State.Ticks.countMod {f : Fld} {k : Nat} (h : s.Ticks z) : (s.countMod f k).Ticks z := .setFld h

theorem State.Ticks.setBit {f : Fld} {i : Nat} {b : Bool} (h : s.Ticks z) : (s.setBit f i b).Ticks z := .setFld h

theorem State.Ticks.draw (h : s.Ticks z) : (s.draw).2.Ticks z := .keep h

theorem State.Ticks.emit {o : Out} (h : s.Ticks z) : (s.emit o).Ticks z := .keep h

theorem State.Ticks.newId (h : s.Ticks z) : (s.newId).2.Ticks z := .keep h

theorem State.Ticks.modFn {i : Nat} {f : FnState → FnState} (h : s.Ticks z) : (s.modFn i f).Ticks z := .keep h

theorem State.Ticks.modVf {n : Nat} {f : VfRings → VfRings} (h : s.Ticks z) : (s.modVf n f).Ticks z := .keep h

theorem State.Ticks.modRgn {n : Nat} {f : Region → Region} (h : s.Ticks z) : (s.modRgn n f).Ticks z := .keep h

theorem State.Ticks.modCore {g : Nat} {f : Core → Core} (h : s.Ticks z) : (s.modCore g f).Ticks z := .keep h

theorem State.Ticks.modCluster {c : Nat} {f : Cluster → Cluster} (h : s.Ticks z) : (s.modCluster c f).Ticks z := .keep h

theorem State.Ticks.modPort {p : Nat} {f : Port → Port} (h : s.Ticks z) : (s.modPort p f).Ticks z := .keep h

theorem State.Ticks.when {b : Bool} {f : State → State} (h : s.Ticks z) (hf : ∀ u, u.Ticks z → (f u).Ticks z) :
    (s.when b f).Ticks z := .ite (hf _ h) h

theorem State.Ticks.act {n k c : Nat} (h : s.Ticks z) : (s.act n k c).Ticks z := .modRgn h

theorem State.Ticks.sendMsix {i v : Nat} (h : s.Ticks z) : (s.sendMsix i v).Ticks z := .ite h (.ite (.modFn h) (.emit h))

theorem State.Ticks.sendVf {n v : Nat} (h : s.Ticks z) : (s.sendVf n v).Ticks z := .sendMsix h

theorem State.Ticks.noteXings (h : s.Ticks z) : (s.noteXings).Ticks z := .setFld h

theorem State.Ticks.applyShed (h : s.Ticks z) : (s.applyShed).Ticks z := .keep (.countSat (.raise h))

theorem State.Ticks.noteCap (h : s.Ticks z) : (s.noteCap).Ticks z := .setFld h

theorem State.Ticks.startSlew (h : s.Ticks z) : (s.startSlew).Ticks z := .ite (.keep (.raise (.setFld h))) h

theorem State.Ticks.integLog {e : IntegError} (h : s.Ticks z) : (s.integLog e).Ticks z :=
  .countMod (.setWord (.setWord (.setWord (.setWord h))))

theorem State.Ticks.integEvent {cause : Fld} {region : Option Nat} (h : s.Ticks z) : (s.integEvent cause region).Ticks z := by
  unfold State.integEvent
  extract_lets +onlyGivenNames t
  split
  · exact .sendVf (.raise h)
  · exact .raise h

theorem State.Ticks.integRaise {e : IntegError} {cause : Fld} (h : s.Ticks z) : (s.integRaise e cause).Ticks z :=
  .integEvent (.integLog h)

theorem State.Ticks.poisonIn {kind unit : Nat} {region : Option Nat} (h : s.Ticks z) : (s.poisonIn kind unit region).Ticks z :=
  .integRaise h

theorem State.Ticks.launchPoison {n : Nat} (h : s.Ticks z) : (s.launchPoison n).Ticks z := .modRgn h

theorem State.Ticks.modSlice {i : Nat} {f : Slice → Slice} (h : s.Ticks z) : (s.modSlice i f).Ticks z := .keep h

theorem State.Ticks.copySector {i sec k : Nat} (h : s.Ticks z) : (s.copySector i sec k).Ticks z := .modSlice h

theorem State.Ticks.settle (h : s.Ticks z) : (s.settle).Ticks z := .keep h

theorem State.Ticks.clearPackets {gone : Packet → Bool} (h : s.Ticks z) : (s.clearPackets gone).Ticks z := .keep h

theorem State.Ticks.inject {p : Packet} (h : s.Ticks z) : (s.inject p).Ticks z := .ite (.countSat h) (.keep h)

theorem State.Ticks.modDesc {vf ring : Nat} {index : Word} {f : Desc → Desc} (h : s.Ticks z) :
    (s.modDesc vf ring index f).Ticks z := .modVf h

theorem State.Ticks.answerCore {q : Packet} {g port : Nat} {wrote : Bool} {data : List Byte} {bad : List Nat} (h : s.Ticks z) :
    (s.answerCore q g port wrote data bad).Ticks z := .ite (.inject (.newId h)) (.inject (.newId h))

theorem State.Ticks.answer {q : Packet} {a : Answer} (h : s.Ticks z) : (s.answer q a).Ticks z := by
  unfold State.answer
  extract_lets +onlyGivenNames o data bad s wrote s1
  have hs1 : s1.Ticks z := .when (.keep h) (fun _ hu => .launchPoison hu)
  split
  · exact .answerCore hs1
  · exact .ite (.countSat hs1) (.modCluster hs1)
  · exact .modDesc hs1
  · exact hs1

theorem State.Ticks.linkDown {p : Nat} {q : Packet} (h : s.Ticks z) : (s.linkDown p q).Ticks z :=
  .ite h (.answer (.poisonIn (.countSat h)))

theorem State.Ticks.putUnit {k : UnitKind} {i st : Nat} (h : s.Ticks z) : (s.putUnit k i st).Ticks z := by
  unfold State.putUnit
  split
  · exact h
  · extract_lets +onlyGivenNames t u
    have hu : u.Ticks z := .raise (.setBit (.setBit h))
    split
    · exact hu
    · exact .setBit (.setBit (.setFld hu))

theorem State.Ticks.dropCluster {c : Nat} (h : s.Ticks z) : (s.dropCluster c).Ticks z :=
  .overList (.modCluster h) (fun _ _ hu => .modCore hu)

theorem State.Ticks.stopUnit {k : UnitKind} {i : Nat} (h : s.Ticks z) : (s.stopUnit k i).Ticks z := by
  unfold State.stopUnit
  split
  · exact .modCore h
  · exact .ite h (.clearPackets (.dropCluster h))
  · exact h

theorem State.Ticks.applyFences {n : Nat} (h : s.Ticks z) : (s.applyFences n).Ticks z :=
  .overList (.modRgn h) (fun _ _ hu => .stopUnit (.putUnit hu))

theorem State.Ticks.wantCapture {n : Option Nat} (h : s.Ticks z) : (s.wantCapture n).Ticks z := .keep h

theorem State.Ticks.dropImage {n : Nat} (h : s.Ticks z) : (s.dropImage n).Ticks z :=
  .setWord (.setWord (.setWord (.setWord (.setWord (.setWord (.lower (.modRgn h)))))))

theorem State.Ticks.cutLoad {n : Nat} (h : s.Ticks z) : (s.cutLoad n).Ticks z := .when h (fun _ hu => .dropImage hu)

theorem State.Ticks.regionEvent {n : Nat} {vf : Bool} (h : s.Ticks z) : (s.regionEvent n vf).Ticks z :=
  .when (.raise h) (fun _ hu => .sendVf hu)

theorem State.Ticks.haltCores {n : Nat} (h : s.Ticks z) : (s.haltCores n).Ticks z := .keep h

theorem State.Ticks.startReset {n : Nat} {why : ResetWhy} {toFree : Bool} (h : s.Ticks z) :
    (s.startReset n why toFree).Ticks z := by
  unfold State.startReset
  extract_lets +onlyGivenNames r st free
  split
  · exact h
  · split
    · exact h
    · split
      · exact .when (.modRgn h) (fun _ hu => .raise hu)
      · split
        · exact .raise (.modRgn h)
        · exact .when (.haltCores (.countSat (.lower (.setFld (.modRgn h))))) (fun _ hu => .raise hu)

theorem State.Ticks.enterFaulted {n : Nat} (h : s.Ticks z) : (s.enterFaulted n).Ticks z := by
  unfold State.enterFaulted
  extract_lets +onlyGivenNames t
  have ht : t.Ticks z := .regionEvent (.modRgn (.setFld h))
  exact .when ht (fun _ hu => .startReset (.modRgn hu))

theorem State.Ticks.latchFault {n : Nat} {f : FaultReport} (h : s.Ticks z) : (s.latchFault n f).Ticks z := by
  unfold State.latchFault
  extract_lets +onlyGivenNames exc w t t1
  have ht1 : t1.Ticks z := .wantCapture (.countSat (.setWord (.setWord (.setWord (.setWord h)))))
  exact .ite (.keep ht1) ht1

theorem State.Ticks.abortLoad {n : Nat} (h : s.Ticks z) : (s.abortLoad n).Ticks z := .modVf (.cutLoad h)

theorem State.Ticks.regionFault {n : Nat} {f : FaultReport} (h : s.Ticks z) : (s.regionFault n f).Ticks z := by
  unfold State.regionFault
  extract_lets +onlyGivenNames st r clock t
  split
  · exact h
  · split
    · exact .applyFences (.haltCores (.setFld (.modRgn (.latchFault (.modRgn h)))))
    · split
      · exact .ite h (.enterFaulted (.abortLoad (.latchFault (.modRgn h))))
      · exact .ite (.raise (.modRgn h)) (.ite (.when (.raise h) (fun _ hu => .startReset hu)) h)

theorem State.Ticks.checkSet {n tile : Nat} (h : s.Ticks z) : (s.checkSet n tile).Ticks z := by
  unfold State.checkSet
  split
  · split
    · exact h
    · split
      · exact .countSat (.setFld h)
      · exact .regionFault h
  · exact h

theorem State.Ticks.applyPending {n : Nat} (h : s.Ticks z) : (s.applyPending n).Ticks z := .checkSet (.applyFences h)

theorem State.Ticks.fence {k : UnitKind} {i : Nat} (h : s.Ticks z) : (s.fence k i).Ticks z := by
  unfold State.fence
  split
  · exact .keep (.putUnit h)
  · split
    · exact .putUnit h
    · extract_lets +onlyGivenNames st
      split
      · exact .putUnit h
      · split
        · exact .regionFault (.putUnit h)
        · extract_lets +onlyGivenNames t
          have ht : t.Ticks z := .when h (fun _ hu => .setBit (.settle hu))
          exact .ite (.ite (.modRgn ht) (.applyPending (.modRgn ht))) (.stopUnit (.putUnit ht))

theorem State.Ticks.hwFence {k : UnitKind} {i cause : Nat} (h : s.Ticks z) : (s.hwFence k i cause).Ticks z :=
  .keep (.wantCapture (.fence h))

theorem State.Ticks.setLink {p st : Nat} (h : s.Ticks z) : (s.setLink p st).Ticks z := .ite h (.raise (.setFld h))

theorem State.Ticks.answerFlight {p : Nat} (h : s.Ticks z) : (s.answerFlight p).Ticks z :=
  .overList (.modPort h) (fun _ _ hu => .linkDown hu)

theorem State.Ticks.answerQueue {p : Nat} (h : s.Ticks z) : (s.answerQueue p).Ticks z :=
  .overList (.modPort h) (fun _ _ hu => .linkDown hu)

theorem State.Ticks.loseLink {p st : Nat} (h : s.Ticks z) : (s.loseLink p st).Ticks z := by
  unfold State.loseLink
  extract_lets +onlyGivenNames was t
  have ht : t.Ticks z := .modPort (.setFld (.setLink h))
  split
  · extract_lets +onlyGivenNames u
    split
    · exact .when (.raise ht) (fun _ hu => .regionFault hu)
    · exact .raise ht
  · exact ht

theorem State.Ticks.disablePort {p : Nat} (h : s.Ticks z) : (s.disablePort p).Ticks z :=
  .answerQueue (.answerFlight (.modPort (.loseLink h)))

theorem State.Ticks.fencePort {p : Nat} (h : s.Ticks z) : (s.fencePort p).Ticks z := .ite h (.disablePort (.lower (.putUnit h)))

theorem State.Ticks.setPair {lo hi v : Nat} (h : s.Ticks z) : (s.setPair lo hi v).Ticks z := .setWord (.setWord h)

theorem State.Ticks.crossingFailed {c : Crossing} (h : s.Ticks z) : (s.crossingFailed c).Ticks z := by
  unfold State.crossingFailed
  extract_lets +onlyGivenNames p
  split
  · exact .countSat (.keep h)
  · extract_lets +onlyGivenNames t t1
    have ht : t.Ticks z := .setFld (.raise (.raise h))
    exact .hwFence (.setFld (.keep ht))

theorem State.Ticks.verifyXings {tiles : List Nat} {found : List Crossing} (h : s.Ticks z) :
    (s.verifyXings tiles found).Ticks z := .noteXings (.overList (.keep h) (fun _ _ hu => .crossingFailed hu))

theorem State.Ticks.freshSlices (h : s.Ticks z) : (s.freshSlices).Ticks z := by
  unfold State.freshSlices
  exact .overList h (fun _ _ hu => by
        extract_lets +onlyGivenNames v
        have hv : v.Ticks z := .setFld (.setFld (.setFld hu))
        exact .when hv (fun _ hv => .modSlice hv))

theorem State.Ticks.repairFailed {e : UnitKind × Nat} (h : s.Ticks z) : (s.repairFailed e).Ticks z := by
  unfold State.repairFailed
  extract_lets +onlyGivenNames t
  split
  · exact .hwFence (.raise h)
  · exact .hwFence (.raise h)
  · exact h

theorem State.Ticks.powerUpFound {p : PowerUp} (h : s.Ticks z) : (s.powerUpFound p).Ticks z :=
  .overList (.verifyXings h) (fun _ _ hu => .repairFailed hu)

theorem State.Ticks.startHalves {m : Nat} {p : PowerUp} (h : s.Ticks z) : (s.startHalves m p).Ticks z := by
  unfold State.startHalves
  extract_lets +onlyGivenNames t t1 u
  have ht1 : t1.Ticks z := .setFld (.raise (.raise (.raise (.raise (.raise h)))))
  exact .powerUpFound (.when (.freshSlices (.keep ht1)) (fun _ hu => .applyShed hu))

theorem State.Ticks.releaseM3 {crossings : List Crossing} (h : s.Ticks z) : (s.releaseM3 crossings).Ticks z :=
  .startHalves (.keep (.lower h))

theorem State.Ticks.modVsp {f : Vesper → Vesper} (h : s.Ticks z) : (s.modVsp f).Ticks z := .keep h

theorem State.Ticks.noteQueued (h : s.Ticks z) : (s.noteQueued).Ticks z := .setFld h

theorem State.Ticks.queueAlm {type : Nat} {body : List Nat} {kept : Bool} (h : s.Ticks z) :
    (s.queueAlm type body kept).Ticks z := .ite (.countSat (.modVsp h)) (.noteQueued (.modVsp h))

theorem State.Ticks.countActivity (h : s.Ticks z) : (s.countActivity).Ticks z :=
  .overList h (fun _ _ hu => .overList hu (fun _ _ hv => .act (.draw hv)))

theorem State.Ticks.charge {n ticks e : Nat} (h : s.Ticks z) : (s.charge n ticks e).Ticks z := .modRgn (.setPair h)

theorem State.Ticks.capRegion {n : Nat} (h : s.Ticks z) : (s.capRegion n).Ticks z := .setFld (.setFld h)

theorem State.Ticks.enforceCaps (h : s.Ticks z) : (s.enforceCaps).Ticks z := by
  unfold State.enforceCaps
  extract_lets +onlyGivenNames t cap l m t1 k t2 t3
  have ht2 : t2.Ticks z := .modVsp (.setFld (.setFld (.overList h (fun _ _ hu => .capRegion hu))))
  exact .startSlew (.ite (.lower ht2) (.when ht2 (fun _ hu => .raise hu)))

theorem State.Ticks.fillSnapshots (h : s.Ticks z) : (s.fillSnapshots).Ticks z := .keep h

theorem State.Ticks.latchRecord (h : s.Ticks z) : (s.latchRecord).Ticks z := .ite h (.modVsp h)

theorem State.Ticks.latchSensors (h : s.Ticks z) : (s.latchSensors).Ticks z := .modVsp h

/-- What a refused write leaves. -/
def TicksRefused (z : State) : Refused → Prop
  | none => True
  | some r => r.2.Ticks z

theorem TicksRefused.none : TicksRefused z none := trivial
theorem TicksRefused.some {k : Nat} (h : s.Ticks z) : TicksRefused z (some (k, s)) := h
theorem TicksRefused.of_eq {o : Refused} {r : Nat × State} (h : TicksRefused z o) (e : o = Option.some r) : r.2.Ticks z := by
  subst e
  exact h
theorem TicksRefused.ite {c : Prop} [Decidable c] {o p : Refused} (h : TicksRefused z o) (k : TicksRefused z p) :
    TicksRefused z (if c then o else p) := by
  split
  · exact h
  · exact k

theorem State.Ticks.inService {key : Nat} (h : s.Ticks z) : (s.inService key).Ticks z := .keep (.putUnit h)

theorem State.Ticks.releaseUnit {key : Nat} (h : s.Ticks z) : (s.releaseUnit key).Ticks z :=
  .ite h (.ite (.putUnit h) (.ite (.keep h) (.inService h)))

theorem State.Ticks.fenceUnit {key : Nat} (h : s.Ticks z) : (s.fenceUnit key).Ticks z := .ite (.fencePort h) (.fence h)

theorem State.Ticks.order {key : Nat} {fence : Bool} (h : s.Ticks z) : (s.order key fence).Ticks z :=
  .ite (.fenceUnit (.modVsp h)) (.releaseUnit (.modVsp h))

theorem State.Ticks.adopt {key cause type : Nat} {why : List Nat} (h : s.Ticks z) : (s.adopt key cause type why).Ticks z :=
  .modVsp (.queueAlm h)

theorem State.Ticks.reconcile {key : Nat} (h : s.Ticks z) : (s.reconcile key).Ticks z :=
  .ite (.adopt h) (.ite h (.ite (.adopt h) (.adopt (.countSat h))))

theorem State.Ticks.checkTrigger {g : TriggerKind × Nat} (h : s.Ticks z) : (s.checkTrigger g).Ticks z :=
  .ite h (.ite (.countSat h) (.modVsp h))

theorem State.Ticks.fenceDue {d : Nat × TriggerKind} (h : s.Ticks z) : (s.fenceDue d).Ticks z :=
  .ite (.modVsp h) (.ite (.countSat (.order (.modVsp h))) h)

theorem State.Ticks.autoFence (h : s.Ticks z) : (s.autoFence).Ticks z := by
  unfold State.autoFence
  extract_lets +onlyGivenNames fresh t t1
  have ht1 : t1.Ticks z := .overList (.modVsp h) (fun _ _ hu => .checkTrigger hu)
  exact .overList ht1 (fun _ _ hu => .fenceDue hu)

theorem State.Ticks.reconcileAll (h : s.Ticks z) : (s.reconcileAll).Ticks z := by
  unfold State.reconcileAll
  extract_lets +onlyGivenNames t orders t1
  have ht : t.Ticks z := .overList h (fun _ _ hu => .reconcile hu)
  exact .autoFence (.overList (.modVsp ht) (fun _ _ hu => .order hu))

theorem State.Ticks.trigger {kind : TriggerKind} {key : Nat} {sector : Nat} (h : s.Ticks z) :
    (s.trigger kind key sector).Ticks z := .modVsp h

theorem State.Ticks.noteSectorUe {i sec : Nat} (h : s.Ticks z) : (s.noteSectorUe i sec).Ticks z := by
  unfold State.noteSectorUe
  extract_lets +onlyGivenNames key
  split
  · exact .keep h
  · split
    · exact h
    · split
      · exact .modVsp (.queueAlm (.setFld (.raise (.copySector h))))
      · exact .ite (.trigger h) (.modVsp (.queueAlm (.trigger h)))

theorem State.Ticks.noteUe {kind i addr : Nat} (h : s.Ticks z) : (s.noteUe kind i addr).Ticks z :=
  .ite (.trigger h) (.ite (.trigger h) (.ite (.trigger h) (.ite (.noteSectorUe h) h)))

theorem State.Ticks.readInteg {q : Nat} (h : s.Ticks z) : (s.readInteg q).Ticks z :=
  .ite h (.when (.queueAlm h) (fun _ hu => .noteUe hu))

theorem State.Ticks.readIntegrity (h : s.Ticks z) : (s.readIntegrity).Ticks z := by
  unfold State.readIntegrity
  extract_lets +onlyGivenNames total n m t t1 t2
  have ht1 : t1.Ticks z := .overList (.when h (fun _ hu => .queueAlm hu)) (fun _ _ hu => .readInteg hu)
  exact .modVsp (.overList ht1 (fun _ _ hu => .trigger (.queueAlm hu)))

theorem State.Ticks.appendSupply {q : Nat} (h : s.Ticks z) : (s.appendSupply q).Ticks z := .queueAlm h

theorem State.Ticks.readSupply (h : s.Ticks z) : (s.readSupply).Ticks z := by
  unfold State.readSupply
  extract_lets +onlyGivenNames total first fresh old isOpen t t1 t2
  have ht1 : t1.Ticks z := .overList (.when h (fun _ hu => .queueAlm hu)) (fun _ _ hu => .appendSupply hu)
  exact .modVsp (.overList ht1 (fun _ _ hu => .appendSupply hu))

theorem State.Ticks.readHalts (h : s.Ticks z) : (s.readHalts).Ticks z := by
  unfold State.readHalts
  extract_lets +onlyGivenNames home d v t t1 t2
  have ht2 : t2.Ticks z := .when (.when (.when h (fun _ hu => .queueAlm hu)) (fun _ hu => .queueAlm hu)) (fun _ hu => .queueAlm hu)
  exact .modVsp ht2

theorem State.Ticks.touch {path : Nat} (h : s.Ticks z) : (s.touch path).Ticks z := .modVsp (.setFld (.countSat (.raise h)))

theorem State.Ticks.readTouches (h : s.Ticks z) : (s.readTouches).Ticks z := by
  unfold State.readTouches
  split
  · exact h
  · exact .modVsp (.queueAlm h)

theorem State.Ticks.startCapture {region : Option Nat} {queues : Bool} (h : s.Ticks z) :
    (s.startCapture region queues).Ticks z := .modVsp (.raise h)

theorem State.Ticks.capturePart {c : Capture} (h : s.Ticks z) : (s.capturePart c).Ticks z :=
  .modVsp (.overList (.draw h) (fun _ _ hu => .queueAlm hu))

theorem State.Ticks.captureN {fuel : Nat} (h : s.Ticks z) : (State.captureN fuel s).Ticks z := by
  induction fuel generalizing s with
  | zero => exact h
  | succ fuel ih =>
    unfold State.captureN
    split
    · exact h
    · exact .ite h (.ite (.modVsp (.setFld (.setFld (.lower h)))) (.ite (ih (.capturePart (.draw h))) (.draw h)))

theorem State.Ticks.captureTick (h : s.Ticks z) : (s.captureTick).Ticks z := by
  unfold State.captureTick
  extract_lets wanted t soon t1
  have ht : t.Ticks z := .modVsp h
  have ht1 : t1.Ticks z := by
    unfold t1 wanted
    split
    · exact ht
    · exact .ite (.modVsp (.startCapture ht)) ht
  exact .captureN ht1

theorem State.Ticks.answerMail {result : Nat} {words : List Nat} (h : s.Ticks z) : (s.answerMail result words).Ticks z :=
  .modVsp (.raise (.setFld (.setFld (.setFld (.overList h (fun _ _ hu => .setWord hu))))))

theorem State.Ticks.takeMail (h : s.Ticks z) : (s.takeMail).Ticks z :=
  .ite h (.ite (.modVsp h) (.answerMail (.when h (fun _ hu => .touch hu))))

theorem State.Ticks.wantFence {key : Nat} (h : s.Ticks z) : (s.wantFence key).Ticks z := .ite h (.modVsp h)

theorem State.Ticks.wantRelease {key : Nat} (h : s.Ticks z) : (s.wantRelease key).Ticks z := .ite h (.modVsp h)

theorem State.Ticks.mctpAnswer {e : Endpoint} {code : Nat} {l : List Nat} (h : s.Ticks z) : (s.mctpAnswer e code l).Ticks z :=
  .emit h

theorem State.Ticks.setEid {e : Endpoint} {x : BitVec 8} (h : s.Ticks z) : (s.setEid e x).Ticks z := .modVsp h

theorem State.Ticks.setTid {e : Endpoint} {x : BitVec 8} (h : s.Ticks z) : (s.setTid e x).Ticks z := .modVsp h

theorem State.Ticks.effecter {e : Endpoint} {valid : Bool} {f : State → Nat × State} (h : s.Ticks z)
    (hf : ∀ u, u.Ticks z → (f u).2.Ticks z) :
    (s.effecter e valid f).Ticks z := .ite (.mctpAnswer h) (.mctpAnswer (hf _ h))

theorem State.Ticks.pldmRelease (h : s.Ticks z) : (s.pldmRelease).2.Ticks z := by
  unfold State.pldmRelease
  split
  · exact .releaseM3 h
  · exact .raise h

theorem State.Ticks.pldmCapture (h : s.Ticks z) : (s.pldmCapture).2.Ticks z := by
  unfold State.pldmCapture
  split
  · exact .startCapture h
  · exact h

theorem State.Ticks.pldmService {value : BitVec 32} (h : s.Ticks z) : (s.pldmService value).2.Ticks z := by
  unfold State.pldmService
  split
  · exact .wantFence h
  · exact .wantRelease h
  · exact h

theorem State.Ticks.requestUpdate {e : Endpoint} (h : s.Ticks z) : (s.requestUpdate e).Ticks z :=
  .ite (.mctpAnswer h) (.mctpAnswer (.raise (.modVsp h)))

theorem State.Ticks.activate {e : Endpoint} {selfContained : Bool} (h : s.Ticks z) : (s.activate e selfContained).Ticks z := by
  unfold State.activate
  split
  · exact .mctpAnswer h
  · split
    · exact .mctpAnswer h
    · split
      · exact .mctpAnswer h
      · exact (if_neg h.2.2).symm ▸ .modVsp (.lower (.queueAlm (.mctpAnswer (.keep h))))

theorem State.Ticks.serveRequest {q : MctpReq} (h : s.Ticks z) : (s.serveRequest q).Ticks z := by
  unfold State.serveRequest
  extract_lets +onlyGivenNames ev
  split
  · exact .ite (.mctpAnswer (.setEid h)) (.mctpAnswer h)
  · exact .mctpAnswer h
  · exact .mctpAnswer h
  · exact .ite (.mctpAnswer h) (.mctpAnswer h)
  · exact .mctpAnswer h
  · exact .mctpAnswer h
  · exact .ite (.mctpAnswer (.setTid h)) (.mctpAnswer h)
  · exact .ite (.mctpAnswer h) (.mctpAnswer h)
  · exact .mctpAnswer h
  · exact .ite (.mctpAnswer h) (.ite (.mctpAnswer h) (.mctpAnswer h))
  · exact .mctpAnswer h
  · exact .mctpAnswer (.modVsp (.raise h))
  · exact .effecter h (fun _ hu => .noteCap (.setFld hu))
  · exact .effecter h (fun _ hu => .setFld hu)
  · exact .effecter h (fun _ hu => .pldmRelease hu)
  · exact .effecter h (fun _ hu => .pldmService hu)
  · exact .effecter h (fun _ hu => .pldmCapture hu)
  · exact .requestUpdate h
  · exact .activate h
  · exact h

theorem State.Ticks.serveAll (h : s.Ticks z) : (s.serveAll).Ticks z := .overList (.modVsp h) (fun _ _ hu => .serveRequest hu)

theorem State.Ticks.sendEvent {x : PldmEvent} (h : s.Ticks z) : (s.sendEvent x).Ticks z := by
  unfold State.sendEvent
  split
  · exact .emit h
  · exact h

theorem State.Ticks.newEvent {key state : Nat} (h : s.Ticks z) : (s.newEvent key state).Ticks z := .ite h (.sendEvent (.modVsp h))

theorem State.Ticks.resendEvents (h : s.Ticks z) : (s.resendEvents).Ticks z :=
  .overList (.countSat (.modVsp h)) (fun _ _ hu => .sendEvent hu)

theorem State.Ticks.tickEvents {old : SMap Nat} {seen : Nat} (h : s.Ticks z) : (s.tickEvents old seen).Ticks z :=
  .overList (.overList (.resendEvents (.modVsp h)) (fun _ _ hu => .newEvent hu)) (fun _ _ hu => .newEvent hu)

theorem State.Ticks.decideM2 (h : s.Ticks z) : (s.decideM2).Ticks z := .ite h (.ite (.raise h) (.setWord h))

theorem State.Ticks.almanacStep (h : s.Ticks z) : (s.almanacStep).Ticks z := by
  unfold State.almanacStep
  extract_lets +onlyGivenNames t
  have ht : t.Ticks z := .captureTick (.readTouches (.readHalts (.readSupply h)))
  exact .raise (.modVsp ht)

/-- The tick's work; the energy of the last tick is shared among the live regions in the middle of it (R134). -/
theorem State.Ticks.tickWork (h : s.Ticks z) : (s.tickWork).Ticks z := by
  unfold State.tickWork
  extract_lets +onlyGivenNames seen old t t1 t2
  have ht : t.Ticks z := .latchRecord (.fillSnapshots (.countActivity (.decideM2 h)))
  have hr : t.readIntegrity.reconcileAll.Ticks z := .reconcileAll (.readIntegrity ht)
  have ht1 : t1.Ticks z := .latchSensors (.takeMail (.enforceCaps (.modVsp (.ite (.overList hr fun _ _ hu => .charge hu)
    (.setPair (.overList hr fun _ _ hu => .charge hu))))))
  exact .setFld (.when (.draw (.almanacStep (.serveAll (.tickEvents ht1)))) (fun _ hu => .countSat hu))

end Sys2Proof.Machine
end

section
/-! What a fault of a region leaves: the registers and components that it does not touch (R295, R341, R344). -/

namespace Sys2Proof.Machine

variable {s t u : State} {off n : Nat} {p : List Part}

theorem Stays.mono {q : List Part} (h : Stays off p s t) (hp : p ⊆ q) : Stays off q s t := ⟨h.1, fun x hx => h.2 x fun k => hx (hp k)⟩

theorem Stays.modRgn (h : Stays off p s t) (n : Nat) (f : Region → Region) (hp : .regions ∈ p) : Stays off p s (t.modRgn n f) :=
  h.trans (.of_regs rfl (frame_modRgn t n f (r := []) hp).2)

theorem Stays.modVf (h : Stays off p s t) (n : Nat) (f : VfRings → VfRings) (hp : .vfs ∈ p) : Stays off p s (t.modVf n f) :=
  h.trans (.of_regs rfl (frame_modVf t n f hp (r := [])).2)

theorem Stays.modCore (h : Stays off p s t) (g : Nat) (f : Core → Core) (hp : .cores ∈ p) : Stays off p s (t.modCore g f) :=
  h.trans (.of_regs rfl fun q hq => by
    cases q with
    | cores => exact absurd hp hq
    | _ => rfl)

theorem Stays.modCluster (h : Stays off p s t) (c : Nat) (f : Cluster → Cluster) (hp : .clusters ∈ p) : Stays off p s (t.modCluster c f) :=
  h.trans (.of_regs rfl fun q hq => by
    cases q with
    | clusters => exact absurd hp hq
    | _ => rfl)

theorem Stays.modVsp (h : Stays off p s t) (f : Vesper → Vesper) (hp : .vesper ∈ p) : Stays off p s (t.modVsp f) :=
  h.trans (.of_regs rfl fun q hq => by
    cases q with
    | vesper => exact absurd hp hq
    | _ => rfl)

theorem Stays.haltCores (h : Stays off p s t) (n : Nat) (hp : .cores ∈ p) : Stays off p s (t.haltCores n) :=
  h.trans (.of_regs rfl (frame_haltCores t n [] hp).2)

theorem Stays.setBit (h : Stays off p s t) (f : Fld) (i : Nat) (b : Bool) (ne : off ≠ f.off) : Stays off p s (t.setBit f i b) :=
  h.setFld f _ ne

theorem Stays.sendVf (h : Stays off p s t) (n v : Nat) : Stays off p s (t.sendVf n v) :=
  h.trans ⟨sameWord_sendMsix t (n + 1) v off, fun q _ => by cases q <;> simp [Part.same, State.sendVf]⟩

theorem Stays.clearPackets (h : Stays off p s t) (gone : Packet → Bool) (hn : .net ∈ p) (hm : .mesh ∈ p) :
    Stays off p s (t.clearPackets gone) :=
  h.trans (.of_regs rfl fun q hq => by
    cases q with
    | net => exact absurd hn hq
    | mesh => exact absurd hm hq
    | _ => rfl)

theorem Stays.dropCluster (h : Stays off p s t) (c : Nat) (hc : .clusters ∈ p) (hg : .cores ∈ p) : Stays off p s (t.dropCluster c) :=
  (h.modCluster c (fun _ => {}) hc).walk _ _ fun u g => (Stays.refl off p u).modCore g _ hg

/-- The registers of a region that a fault, the fault stop or a reset writes. -/
def faultRegs (n : Nat) : List Nat :=
  [R.RGN_STATE n, R.RGN_FAULT n, R.RGN_FAULT_TIME_LO n, R.RGN_FAULT_TIME_HI n, R.RGN_FAULT_OP n, R.RGN_COUNTS n]

theorem putUnit_parts (s : State) (k : UnitKind) (i st : Nat) (p : List Part) : SameParts p s (s.putUnit k i st) := by
  unfold State.putUnit
  split
  · exact .refl p s
  · extract_lets t u
    have hu : SameParts p s u := (((SameParts.refl p s).setFld _ _).setFld _ _).setFld _ _
    split
    · exact hu
    · exact ((hu.setFld _ _).setFld _ _).setFld _ _

theorem Stays.putUnit (h : Stays off p s t) (hl : off < 0x400000) (k : UnitKind) (i st : Nat) : Stays off p s (t.putUnit k i st) :=
  h.trans ⟨word_putUnit t k i st hl, putUnit_parts t k i st p⟩

theorem Stays.stopUnit (h : Stays off p s t) (k : UnitKind) (i : Nat) (hg : .cores ∈ p) (hc : .clusters ∈ p) (hn : .net ∈ p)
    (hm : .mesh ∈ p) : Stays off p s (t.stopUnit k i) := by
  unfold State.stopUnit
  split
  · exact h.modCore i _ hg
  · split
    · exact h
    · exact (h.dropCluster _ hc hg).clearPackets _ hn hm
  · exact h

theorem Stays.applyFences (h : Stays off p s t) (hl : off < 0x400000) (n : Nat) (hr : .regions ∈ p) (hg : .cores ∈ p) (hc : .clusters ∈ p)
    (hn : .net ∈ p) (hm : .mesh ∈ p) : Stays off p s (t.applyFences n) :=
  (h.modRgn n (fun r => { r with pendingFences := [] }) hr).walk _ _ fun u e =>
    ((Stays.refl off p u).putUnit hl e.1 e.2 1).stopUnit e.1 e.2 hg hc hn hm

theorem Stays.wantCapture (h : Stays off p s t) (o : Option Nat) (hv : .vesper ∈ p) : Stays off p s (t.wantCapture o) :=
  h.trans (.of_regs rfl fun q hq => by
    cases q with
    | vesper => exact absurd hv hq
    | _ => rfl)

theorem Stays.latchFault (h : Stays off p s t) (hf : off ∉ faultRegs n) (f : FaultReport) (hv : .vesper ∈ p) :
    Stays off p s (t.latchFault n f) := by
  simp only [faultRegs, List.mem_cons, List.not_mem_nil, or_false, not_or] at hf
  obtain ⟨-, cause, lo, hi, op, counts⟩ := hf
  unfold State.latchFault
  extract_lets exc w t1 t2 g
  have h1 : Stays off p s t1 := ((h.setWord _ _ cause).setWord _ _ lo).setWord _ _ hi
  have h2 : Stays off p s t2 := ((h1.setWord _ _ op).countSat _ 1 counts).wantCapture _ hv
  split
  · exact h2.modVsp (fun v => { v with fresh := v.fresh ++ [g] }) hv
  · exact h2

theorem Stays.regionEvent (h : Stays off p s t) (hl : off < 0x400000) (n : Nat) (vf : Bool) : Stays off p s (t.regionEvent n vf) :=
  (h.setFld F.INT_PF_EVENT_REGION 1 (by simp only [F.INT_PF_EVENT_REGION, R.INT_PF_EVENT]; omega)).when
    ((Stays.refl off p _).sendVf n 1)

theorem Stays.startReset (h : Stays off p s t) (hf : off ∉ faultRegs n) (why : ResetWhy) (toFree : Bool) (hr : .regions ∈ p)
    (hg : .cores ∈ p) : Stays off p s (t.startReset n why toFree) := by
  simp only [faultRegs, List.mem_cons, List.not_mem_nil, or_false, not_or] at hf
  obtain ⟨state, -, -, -, -, counts⟩ := hf
  have free (u : State) (hu : Stays off p s u) : Stays off p s (u.when toFree fun v => v.raise (F.RGN_STATE_RELEASING n)) :=
    hu.when ((Stays.refl off p u).setFld (F.RGN_STATE_RELEASING n) 1 state)
  unfold State.startReset
  extract_lets r st fr t1
  split
  · exact h
  · split
    · exact h
    · split
      · exact free _ (h.modRgn n _ hr)
      · split
        · exact (h.modRgn n _ hr).setFld (F.RGN_STATE_RESET_PENDING n) 1 state
        · exact free _ ((((h.modRgn n _ hr).setFld (F.RGN_STATE_STATE n) rDRAINING state).setFld (F.RGN_STATE_RESET_PENDING n) 0
            state).countSat (F.RGN_COUNTS_RESET_COUNT n) 1 counts |>.haltCores n hg)

theorem Stays.enterFaulted (h : Stays off p s t) (hl : off < 0x400000) (hf : off ∉ faultRegs n) (hr : .regions ∈ p) (hg : .cores ∈ p) :
    Stays off p s (t.enterFaulted n) := by
  have state : off ≠ R.RGN_STATE n := fun k => hf (by simp [faultRegs, k])
  unfold State.enterFaulted
  extract_lets a
  have ha : Stays off p s a := ((h.setFld (F.RGN_STATE_STATE n) rFAULTED state).modRgn n _ hr).regionEvent hl n true
  exact ha.when (((Stays.refl off p a).modRgn n _ hr).startReset hf .fault false hr hg)

theorem Stays.dropImage (h : Stays off p s t) (hl : NotImage n off) (state : off ≠ R.RGN_STATE n) (hr : .regions ∈ p) :
    Stays off p s (t.dropImage n) := by
  refine h.trans ⟨word_dropImage t n hl state, ?_⟩
  unfold State.dropImage
  extract_lets a k
  have ha : SameParts p t a := (Frame.sameParts (frame_modRgn t n _ (r := []) hr)).setFld _ _
  exact (((((ha.setWord _ _).setWord _ _).setWord _ _).setWord _ _).setWord _ _).setWord _ _

theorem Stays.abortLoad (h : Stays off p s t) (hl : NotImage n off) (state : off ≠ R.RGN_STATE n) (hr : .regions ∈ p) (hv : .vfs ∈ p) :
    Stays off p s (t.abortLoad n) :=
  (h.when ((Stays.refl off p t).dropImage hl state hr)).modVf n _ hv

/-- The components that a fault can change. -/
def faultParts : List Part := [.regions, .cores, .clusters, .vesper, .vfs, .net, .mesh]

theorem stays_regionFault_of_lt (s : State) (f : FaultReport) (hl : off < 0x400000) (hi : NotImage n off) (hf : off ∉ faultRegs n) :
    Stays off faultParts s (s.regionFault n f) := by
  have state : off ≠ R.RGN_STATE n := fun k => hf (by simp [faultRegs, k])
  have fault : off ≠ R.RGN_FAULT n := fun k => hf (by simp [faultRegs, k])
  have hr : Part.regions ∈ faultParts := by decide
  have hg : Part.cores ∈ faultParts := by decide
  have hv : Part.vesper ∈ faultParts := by decide
  unfold State.regionFault
  extract_lets st r clock t ring a
  have ht : Stays off faultParts s t := (Stays.refl off _ s).modRgn n _ hr
  split
  · exact .refl off _ s
  · split
    · exact (((((ht.latchFault hf f hv).modRgn n _ hr).setFld (F.RGN_STATE_STATE n) rDRAINING state).haltCores n hg).applyFences hl n
        hr hg (by decide) (by decide) (by decide))
    · split
      · split
        · exact .refl off _ s
        · exact ((ht.latchFault hf f hv).abortLoad hi state hr (by decide)).enterFaulted hl hf hr hg
      · split
        · exact ht.setFld (F.RGN_FAULT_MULTI n) 1 fault
        · split
          · have hm := (Stays.refl off faultParts s).setFld (F.RGN_FAULT_MULTI n) 1 fault
            exact hm.when ((Stays.refl off _ _).startReset hf .fault false hr hg)
          · exact .refl off _ s

theorem stays_regionFault (s : State) (f : FaultReport) (hl : low off) (hf : off ∉ faultRegs n) :
    Stays off faultParts s (s.regionFault n f) := stays_regionFault_of_lt s f (low_lt hl) (low_notImage hl n) hf

end Sys2Proof.Machine
end

section
/-! The clocks' events and the Vesper tick (02, 19): O24. -/

namespace Sys2Proof.Machine

variable {s t u : State}

/-! ### Sheds, slews, the RC trim -/

theorem shed_answers (s : State) (hh : s.power.halves = true) (hr : s.shedRequest = true) (h0 : s.fld F.CLK_STATUS_SHED = 0) :
    Answers .shed s fun t =>
      t.fld F.CLK_STATUS_SHED = 1 ∧ t.fld F.CLK_SHED_SHED_COUNT = min (s.fld F.CLK_SHED_SHED_COUNT + 1) 0xFFFF ∧
        Frame s t [R.CLK_STATUS, R.CLK_SHED] [.supply] := by
  have hc : ((s.supply.shedAsked || s.shedRequest) && s.tileClocks && !s.on F.CLK_STATUS_SHED) = true := by
    simp [hr, State.tileClocks, hh, State.on, h0]
  let a := (s.raise F.CLK_STATUS_SHED).countSat F.CLK_SHED_SHED_COUNT
  have he : exec .shed s = done { a with supply := { a.supply with shedAsked := false, shedInTick := true } } :=
    (if_pos hc : execShed s = done s.applyShed)
  have seen : a.fld F.CLK_STATUS_SHED = 1 :=
    (State.fld_setFld_off (s.raise F.CLK_STATUS_SHED) F.CLK_SHED_SHED_COUNT F.CLK_STATUS_SHED _ (by decide)).trans
      (State.fld_setFld_same s F.CLK_STATUS_SHED 1 (by decide))
  have count : a.fld F.CLK_SHED_SHED_COUNT = min (s.fld F.CLK_SHED_SHED_COUNT + 1) 0xFFFF := by
    refine (State.fld_setFld_same (s.raise F.CLK_STATUS_SHED) F.CLK_SHED_SHED_COUNT _ (by decide)).trans ?_
    rw [State.raise, State.fld_setFld_off s F.CLK_STATUS_SHED F.CLK_SHED_SHED_COUNT _ (by decide)]
    simp only [F.CLK_SHED_SHED_COUNT]
    omega
  have fr : Frame s a [R.CLK_STATUS, R.CLK_SHED] [.supply] :=
    ((Frame.refl s _ _).setFld F.CLK_STATUS_SHED 1 (by decide)).setFld F.CLK_SHED_SHED_COUNT _ (by decide)
  clear_value a
  have last := frame_supply a { a.supply with shedAsked := false, shedInTick := true } (r := []) (parts := [.supply]) (by decide)
  have last' := frame_supply a { a.supply with shedAsked := false, shedInTick := true } (r := [R.CLK_STATUS, R.CLK_SHED])
    (parts := [.supply]) (by decide)
  generalize ({ a with supply := { a.supply with shedAsked := false, shedInTick := true } } : State) = b at *
  exact answers_of_done he ⟨(last.pf.fld_eq _ (by decide) (by decide)).trans seen, (last.pf.fld_eq _ (by decide) (by decide)).trans count,
    (fr.trans last').pf⟩

theorem unshed_answers (s : State) (h1 : s.fld F.CLK_STATUS_SHED = 1) (hr : s.shedRequest = false) : Answers .unshed s fun t =>
    t.fld F.CLK_STATUS_SHED = 0 ∧ OtherBits s t F.CLK_STATUS_SHED ∧ Frame s t [R.CLK_STATUS] [] := by
  have he : exec .unshed s = done (s.lower F.CLK_STATUS_SHED) :=
    (if_pos (by simp [State.on, h1, hr]) : execUnshed s = _)
  obtain ⟨t, ht, h2, h3, h4, -⟩ := answers_setFld (f := F.CLK_STATUS_SHED) (v := 0) he (by decide) (by decide)
  exact ⟨t, ht, h2, h3, h4⟩

theorem slewComplete_answers (s : State) (h1 : s.fld F.CLK_STATUS_SLEWING = 1) : Answers .slewComplete s fun t =>
    t.fld F.CLK_TILE_FREQ_IN_FORCE_MULT = min (s.fld F.CLK_TILE_FREQ_CEILING_MULT) (s.fld F.CLK_TILE_FREQ_VESPER_MULT) ∧
      t.fld F.CLK_STATUS_SLEWING = 0 ∧ Frame s t [R.CLK_TILE_FREQ, R.CLK_STATUS] [] := by
  have he : exec .slewComplete s = done ((s.setFld F.CLK_TILE_FREQ_IN_FORCE_MULT s.targetMult).lower F.CLK_STATUS_SLEWING) :=
    (if_pos (by simp [State.on, h1]) : execSlewComplete s = _)
  have hlt : s.fld F.CLK_TILE_FREQ_CEILING_MULT < 2 ^ 7 := State.fld_lt s F.CLK_TILE_FREQ_CEILING_MULT
  refine answers_of_done he ⟨?_, ?_, ?_⟩
  · rw [State.refreshPf_fld _ _ (by decide), State.lower, State.fld_setFld_off _ F.CLK_STATUS_SLEWING F.CLK_TILE_FREQ_IN_FORCE_MULT _ (by decide),
      State.fld_setFld_same _ _ _ (by decide)]
    exact Nat.mod_eq_of_lt (show min _ _ < 2 ^ 7 by omega)
  · exact fld_setFld_pf _ F.CLK_STATUS_SLEWING 0 (by decide) (by decide)
  · exact (((Frame.refl s _ _).setFld F.CLK_TILE_FREQ_IN_FORCE_MULT _ (by decide)).setFld F.CLK_STATUS_SLEWING _ (by decide)).pf

theorem trimStep_near (code : Nat) (fast : Bool) (h : code < 1024) :
    trimStep code fast ≤ code + 1 ∧ code ≤ trimStep code fast + 1 ∧ trimStep code fast < 1024 := by
  unfold trimStep
  split <;> omega

/-- What the end of a window writes, but for the trim code. -/
def windowEnded (s : State) (c : Nat) : State :=
  ((s.raise F.CLK_STATUS_XTAL32_OK).setFld F.CLK_STATUS_AON_TRIMMED (bit (trimmedCount c))).setFld F.CLK_AON_TRIM_LAST_ERR_PPM (trimErrorPpm c)

theorem windowEnded_spec (s : State) (c : Nat) :
    (windowEnded s c).fld F.CLK_STATUS_AON_TRIMMED = bit (trimmedCount c) ∧ (windowEnded s c).fld F.CLK_STATUS_XTAL32_OK = 1 ∧
      (windowEnded s c).fld F.CLK_AON_TRIM_TRIM_CODE = s.fld F.CLK_AON_TRIM_TRIM_CODE ∧
      Frame s (windowEnded s c) [R.CLK_STATUS, R.CLK_AON_TRIM] [] := by
  have hb : bit (trimmedCount c) % 2 ^ 1 = bit (trimmedCount c) := by cases trimmedCount c <;> rfl
  refine ⟨?_, ?_, ?_, ?_⟩
  · rw [windowEnded, State.fld_setFld_off _ F.CLK_AON_TRIM_LAST_ERR_PPM F.CLK_STATUS_AON_TRIMMED _ (by decide),
      State.fld_setFld_same _ _ _ (by decide)]
    exact hb
  · rw [windowEnded, State.fld_setFld_off _ F.CLK_AON_TRIM_LAST_ERR_PPM F.CLK_STATUS_XTAL32_OK _ (by decide),
      State.fld_setFld_lo _ F.CLK_STATUS_AON_TRIMMED F.CLK_STATUS_XTAL32_OK _ rfl rfl (by decide) (by decide), State.raise,
      State.fld_setFld_same _ _ _ (by decide)]
    rfl
  · rw [windowEnded, State.fld_setFld_lo _ F.CLK_AON_TRIM_LAST_ERR_PPM F.CLK_AON_TRIM_TRIM_CODE _ rfl rfl (by decide) (by decide),
      State.fld_setFld_off _ F.CLK_STATUS_AON_TRIMMED F.CLK_AON_TRIM_TRIM_CODE _ (by decide), State.raise,
      State.fld_setFld_off _ F.CLK_STATUS_XTAL32_OK F.CLK_AON_TRIM_TRIM_CODE _ (by decide)]
  · exact (((Frame.refl s _ _).setFld F.CLK_STATUS_XTAL32_OK 1 (by decide)).setFld F.CLK_STATUS_AON_TRIMMED _ (by decide)).setFld
      F.CLK_AON_TRIM_LAST_ERR_PPM _ (by decide)

theorem aonTrimWindow_answers (c : BitVec 20) (s : State) (hp : s.power.phase ≠ .off) : Answers (.aonTrimWindow c) s fun t =>
    t.fld F.CLK_STATUS_AON_TRIMMED = bit (decide (63994 ≤ c.toNat ∧ c.toNat ≤ 64006)) ∧ t.fld F.CLK_STATUS_XTAL32_OK = 1 ∧
      (63999 ≤ c.toNat → c.toNat ≤ 64001 → t.fld F.CLK_AON_TRIM_TRIM_CODE = s.fld F.CLK_AON_TRIM_TRIM_CODE) ∧
      t.fld F.CLK_AON_TRIM_TRIM_CODE ≤ s.fld F.CLK_AON_TRIM_TRIM_CODE + 1 ∧
      s.fld F.CLK_AON_TRIM_TRIM_CODE ≤ t.fld F.CLK_AON_TRIM_TRIM_CODE + 1 ∧
      Frame s t [R.CLK_STATUS, R.CLK_AON_TRIM] [] := by
  obtain ⟨trimmed, ok, code, fr⟩ := windowEnded_spec s c.toNat
  have ht : bit (trimmedCount c.toNat) = bit (decide (63994 ≤ c.toNat ∧ c.toNat ≤ 64006)) := by
    rw [trimmedCount, Bool.decide_and]
  have he : exec (.aonTrimWindow c) s = if 64001 < c.toNat ∨ c.toNat < 63999 then
      done ((windowEnded s c.toNat).setFld F.CLK_AON_TRIM_TRIM_CODE (trimStep (s.fld F.CLK_AON_TRIM_TRIM_CODE) (64001 < c.toNat)))
    else done (windowEnded s c.toNat) := (if_neg hp : execAonTrimWindow c s = _)
  generalize windowEnded s c.toNat = a at *
  have np : ∀ f : Fld, f.off = R.CLK_STATUS ∨ f.off = R.CLK_AON_TRIM → f.off ≠ R.INT_PF_STATUS := by
    rintro f (h | h) <;> rw [h] <;> decide
  by_cases hw : 64001 < c.toNat ∨ c.toNat < 63999
  · rw [if_pos hw] at he
    obtain ⟨up, down, lt⟩ := trimStep_near (s.fld F.CLK_AON_TRIM_TRIM_CODE) (decide (64001 < c.toNat)) (State.fld_lt s F.CLK_AON_TRIM_TRIM_CODE)
    generalize trimStep (s.fld F.CLK_AON_TRIM_TRIM_CODE) (decide (64001 < c.toNat)) = v at *
    have hv : (a.setFld F.CLK_AON_TRIM_TRIM_CODE v).refreshPf.fld F.CLK_AON_TRIM_TRIM_CODE = v :=
      (fld_setFld_pf a F.CLK_AON_TRIM_TRIM_CODE v (by decide) (by decide)).trans (Nat.mod_eq_of_lt lt)
    have other : ∀ f : Fld, f.off = R.CLK_STATUS → (a.setFld F.CLK_AON_TRIM_TRIM_CODE v).refreshPf.fld f = a.fld f := fun f hf => by
      rw [State.refreshPf_fld _ _ (np f (.inl hf)), State.fld_setFld_off a F.CLK_AON_TRIM_TRIM_CODE f v (by rw [hf]; decide)]
    refine answers_of_done he ⟨(other _ rfl).trans (trimmed.trans ht), (other _ rfl).trans ok, fun h1 h2 => by omega, ?_, ?_,
      (fr.setFld F.CLK_AON_TRIM_TRIM_CODE v (by decide)).pf⟩
    · rw [hv]; exact up
    · rw [hv]; exact down
  · rw [if_neg hw] at he
    have hc : a.refreshPf.fld F.CLK_AON_TRIM_TRIM_CODE = s.fld F.CLK_AON_TRIM_TRIM_CODE :=
      (State.refreshPf_fld a _ (np _ (.inr rfl))).trans code
    refine answers_of_done he ⟨(State.refreshPf_fld a _ (np _ (.inl rfl))).trans (trimmed.trans ht),
      (State.refreshPf_fld a _ (np _ (.inl rfl))).trans ok, fun _ _ => hc, ?_, ?_, fr.pf⟩
    · rw [hc]; omega
    · rw [hc]; omega

/-! ### Lost references and PLLs -/

theorem xtal32Stop_answers (s : State) (hp : s.power.phase ≠ .off) : Answers .xtal32Stop s fun t =>
    t.fld F.CLK_STATUS_XTAL32_OK = 0 ∧ t.fld F.CLK_STATUS_AON_TRIMMED = 0 ∧ t.fld F.CLK_ERR_XTAL32_FAIL = 1 ∧
      Frame s t [R.CLK_STATUS, R.CLK_ERR] [] := by
  have he : exec .xtal32Stop s =
    done (((s.lower F.CLK_STATUS_XTAL32_OK).lower F.CLK_STATUS_AON_TRIMMED).raise F.CLK_ERR_XTAL32_FAIL) := (if_neg hp : execXtal32Stop s = _)
  refine answers_of_done he ⟨?_, ?_, fld_setFld_pf _ F.CLK_ERR_XTAL32_FAIL 1 (by decide) (by decide),
    ((((Frame.refl s _ _).setFld F.CLK_STATUS_XTAL32_OK 0 (by decide)).setFld F.CLK_STATUS_AON_TRIMMED 0 (by decide)).setFld
      F.CLK_ERR_XTAL32_FAIL 1 (by decide)).pf⟩
  · rw [State.refreshPf_fld _ _ (by decide), State.raise, State.fld_setFld_off _ F.CLK_ERR_XTAL32_FAIL F.CLK_STATUS_XTAL32_OK _ (by decide),
      State.lower, State.fld_setFld_lo _ F.CLK_STATUS_AON_TRIMMED F.CLK_STATUS_XTAL32_OK _ rfl rfl (by decide) (by decide), State.lower,
      State.fld_setFld_same _ _ _ (by decide)]
    rfl
  · rw [State.refreshPf_fld _ _ (by decide), State.raise, State.fld_setFld_off _ F.CLK_ERR_XTAL32_FAIL F.CLK_STATUS_AON_TRIMMED _ (by decide),
      State.lower, State.fld_setFld_same _ _ _ (by decide)]
    rfl

theorem xrefQualifyTimeout_answers (s : State) (hw : s.power.waking = true) : Answers .xrefQualifyTimeout s fun t =>
    t.power = { s.power with waking := false, wakeXings := [] } ∧ t.fld F.CLK_ERR_XREF_FAIL = 1 ∧
      t.fld F.CLK_STATUS_XREF_OK = 0 ∧ t.fld F.CLK_STATUS_HOST_LOCK = 0 ∧
      Frame s t [R.CLK_ERR, R.CLK_STATUS] [.power] := by
  let a := ((s.raise F.CLK_ERR_XREF_FAIL).lower F.CLK_STATUS_XREF_OK).lower F.CLK_STATUS_HOST_LOCK
  have he : exec .xrefQualifyTimeout s = done { a with power := { s.power with waking := false, wakeXings := [] } } :=
    (if_pos hw : execXrefQualifyTimeout s = _)
  have fr : Frame s a [R.CLK_ERR, R.CLK_STATUS] [.power] :=
    (((Frame.refl s _ _).setFld F.CLK_ERR_XREF_FAIL 1 (by decide)).setFld F.CLK_STATUS_XREF_OK 0 (by decide)).setFld F.CLK_STATUS_HOST_LOCK 0
      (by decide)
  have h1 : a.fld F.CLK_ERR_XREF_FAIL = 1 := by
    unfold a State.lower State.raise
    rw [State.fld_setFld_off _ F.CLK_STATUS_HOST_LOCK F.CLK_ERR_XREF_FAIL _ (by decide),
      State.fld_setFld_off _ F.CLK_STATUS_XREF_OK F.CLK_ERR_XREF_FAIL _ (by decide), State.fld_setFld_same _ _ _ (by decide)]
    rfl
  have h2 : a.fld F.CLK_STATUS_XREF_OK = 0 := by
    unfold a State.lower
    rw [State.fld_setFld_lo _ F.CLK_STATUS_HOST_LOCK F.CLK_STATUS_XREF_OK _ rfl rfl (by decide) (by decide),
      State.fld_setFld_same _ _ _ (by decide)]
    rfl
  have h3 : a.fld F.CLK_STATUS_HOST_LOCK = 0 := by
    unfold a State.lower
    rw [State.fld_setFld_same _ _ _ (by decide)]
    rfl
  clear_value a
  refine answers_of_done he ⟨State.refreshPf_power _, ?_, ?_, ?_, (fr.trans (frame_power a _ (by decide))).pf⟩
  · exact (State.refreshPf_fld _ _ (by decide)).trans h1
  · exact (State.refreshPf_fld _ _ (by decide)).trans h2
  · exact (State.refreshPf_fld _ _ (by decide)).trans h3

theorem frame_draw (s : State) (r : List Nat) (p : List Part) : Frame s s.draw.2 r p :=
  frame_of_regs rfl (fun q _ => by cases q <;> rfl) r

/-- A PLL's loss of lock: the error bit, and the lock as the free value says. -/
theorem lossOfLock_spec (s : State) {f g : Fld} (b : Nat) (hf : f.off = R.CLK_ERR) (hg : g.off = R.CLK_STATUS) (hw : f.lo + f.width ≤ 32)
    (h1 : 1 < 2 ^ f.width) : ((s.draw.2.raise f).setFld g b).refreshPf.fld f = 1 ∧
      Frame s ((s.draw.2.raise f).setFld g b).refreshPf [R.CLK_ERR, R.CLK_STATUS] [] := by
  refine ⟨?_, (((frame_draw s _ _).setFld f 1 (by rw [hf]; decide)).setFld g b (by rw [hg]; decide)).pf⟩
  rw [State.refreshPf_fld _ _ (by rw [hf]; decide), State.fld_setFld_off _ g f _ (by rw [hf, hg]; decide), State.raise,
    State.fld_setFld_same _ _ _ hw, Nat.mod_eq_of_lt h1]

theorem pllLossOfLock_answers (p : Pll) (s : State) (hp : s.power.phase ≠ .off) : Answers (.pllLossOfLock p) s fun t =>
    t.fld (match p with | .host => F.CLK_ERR_UNLOCK_HOST | .ctl => F.CLK_ERR_UNLOCK_CTL | .link => F.CLK_ERR_UNLOCK_LINK) = 1 ∧
      Frame s t [R.CLK_ERR, R.CLK_STATUS] [] := by
  have he : exec (.pllLossOfLock p) s = _ := (if_neg hp : execPllLossOfLock p s = _)
  cases p with
  | host => exact answers_of_done he (lossOfLock_spec s _ rfl rfl (by decide) (by decide))
  | ctl => exact answers_of_done he (lossOfLock_spec s _ rfl rfl (by decide) (by decide))
  | link => exact answers_of_done he (lossOfLock_spec s _ rfl rfl (by decide) (by decide))

/-! ### The tile PLLs -/

theorem stopped_setStopped (s : State) (h : Half) (b : Bool) : (s.setStopped h b).stopped h = b := by cases h <;> rfl

theorem frame_setStopped (s : State) (h : Half) (b : Bool) (r : List Nat) : Frame s (s.setStopped h b) r [.power] := by
  cases h <;> exact frame_power s _ (by decide)

theorem stopped_congr (hp : t.power = s.power) (h : Half) : t.stopped h = s.stopped h := by simp only [State.stopped, hp]

theorem tilePllUnlock_answers (h : Half) (s : State) (hv : s.power.halves = true) (hs : s.stopped h = false) :
    Answers (.tilePllUnlock h) s fun t =>
      t.stopped h = true ∧ t.fld (lockOf h) = 0 ∧ t.fld (unlockOf h) = 1 ∧ Frame s t [R.CLK_STATUS, R.CLK_ERR] [.power] := by
  have he : exec (.tilePllUnlock h) s = done (((s.setStopped h true).lower (lockOf h)).raise (unlockOf h)) :=
    (if_neg (by simp [hv, hs]) : execTilePllUnlock h s = _)
  have hst := stopped_setStopped s h true
  have fr := frame_setStopped s h true [R.CLK_STATUS, R.CLK_ERR]
  generalize s.setStopped h true = a at *
  refine answers_of_done he ⟨?_, ?_, ?_, ?_⟩
  · rw [stopped_congr (State.refreshPf_power _)]
    exact hst
  · rw [State.refreshPf_fld _ _ (by cases h <;> decide), State.raise, State.fld_setFld_off _ (unlockOf h) (lockOf h) _ (by cases h <;> decide),
      State.lower, State.fld_setFld_same _ _ _ (by cases h <;> decide)]
    exact Nat.zero_mod _
  · rw [State.raise, fld_setFld_pf _ _ _ (by cases h <;> decide) (by cases h <;> decide)]
    cases h <;> rfl
  · exact ((fr.setFld (lockOf h) 0 (by cases h <;> decide)).setFld (unlockOf h) 1 (by cases h <;> decide)).pf

theorem tilesOf_congr (h : ∀ f : Fld, f.off = R.RGN_RECT n → t.fld f = s.fld f) : t.tilesOf n = s.tilesOf n := by
  refine congrArg (fun g => (List.range 192).filter g) (funext fun x => ?_)
  simp only [State.inRect, h (F.RGN_RECT_X0 n) rfl, h (F.RGN_RECT_X1 n) rfl, h (F.RGN_RECT_EXTENT n) rfl]

theorem rgnState_notin_faultRegs {m k : Nat} (ne : m ≠ k) : R.RGN_STATE m ∉ faultRegs k := by
  simp only [faultRegs, R.RGN_STATE, R.RGN_FAULT, R.RGN_FAULT_TIME_LO, R.RGN_FAULT_TIME_HI, R.RGN_FAULT_OP, R.RGN_COUNTS, List.mem_cons,
    List.not_mem_nil, or_false, not_or]
  omega

theorem clkStatus_notin_faultRegs (k : Nat) : R.CLK_STATUS ∉ faultRegs k := by
  simp only [faultRegs, R.CLK_STATUS, R.RGN_STATE, R.RGN_FAULT, R.RGN_FAULT_TIME_LO, R.RGN_FAULT_TIME_HI, R.RGN_FAULT_OP, R.RGN_COUNTS,
    List.mem_cons, List.not_mem_nil, or_false, not_or]
  omega

theorem Stays.walk_mem {α : Type} {off : Nat} {p : List Part} (h : Stays off p s t) (l : List α) (f : State → α → State)
    (hf : ∀ u a, a ∈ l → Stays off p u (f u a)) : Stays off p s (overList l t f) :=
  overList_keeps_mem (Stays off p s) l t f h fun u a ha k => k.trans (hf u a ha)

theorem tilePllRelock_answers (h : Half) (s : State) (hv : s.power.halves = true) (hs : s.stopped h = true) :
    Answers (.tilePllRelock h) s fun t =>
      t.stopped h = false ∧ t.fld (lockOf h) = 1 ∧ t.hbm = s.hbm ∧
        ∀ n, n < 32 → ((s.tilesOf n).any fun x => halfOfTile x = h) = false → t.rgnState n = s.rgnState n := by
  let a := (s.setStopped h false).raise (lockOf h)
  let hit := (List.range 32).filter fun n => (a.tilesOf n).any fun x => halfOfTile x = h
  have he : exec (.tilePllRelock h) s = done (overList hit a fun u n => u.regionFault n { cause := fcCLOCK_LOST }) :=
    (if_neg (by simp [hv, hs]) : execTilePllRelock h s = _)
  have hlock : (lockOf h).off = R.CLK_STATUS := by cases h <;> rfl
  have fr : Frame s a [R.CLK_STATUS] [.power] := (frame_setStopped s h false _).setFld (lockOf h) 1 (by rw [hlock]; decide)
  have hst : a.stopped h = false := (stopped_congr rfl h).trans (stopped_setStopped s h false)
  have ha : a.fld (lockOf h) = 1 := by
    unfold a State.raise
    rw [State.fld_setFld_same _ _ _ (by cases h <;> decide)]
    cases h <;> rfl
  have tiles : ∀ n, n < 32 → a.tilesOf n = s.tilesOf n := fun n hn => tilesOf_congr fun f hf =>
    fr.fld_eq f (by rw [hf]; simp only [R.RGN_RECT, R.INT_PF_STATUS]; omega)
      (by rw [hf]; simp only [R.RGN_RECT, R.CLK_STATUS, List.mem_singleton]; omega)
  have clock : Stays R.CLK_STATUS faultParts a (overList hit a fun u n => u.regionFault n { cause := fcCLOCK_LOST }) :=
    (Stays.refl _ _ a).walk _ _ fun u n => stays_regionFault u _ (by simp only [low, R.CLK_STATUS]; omega) (clkStatus_notin_faultRegs n)
  have other : ∀ m, m < 32 → m ∉ hit → SameWord (R.RGN_STATE m) a (overList hit a fun u n => u.regionFault n { cause := fcCLOCK_LOST }) :=
    fun m hm nm => ((Stays.refl _ faultParts a).walk_mem hit _ fun u n hn => stays_regionFault u _
      (by simp only [low, R.RGN_STATE]; omega)
      (rgnState_notin_faultRegs (m := m) (k := n) fun e => nm (by rw [e]; exact hn))).1
  have mem : ∀ m, m < 32 → ((s.tilesOf m).any fun x => halfOfTile x = h) = false → m ∉ hit := fun m hm hx hmem => by
    have := (List.mem_filter.1 hmem).2
    rw [tiles m hm, hx] at this
    exact absurd this (by decide)
  generalize overList hit a _ = b at *
  clear_value a hit
  refine answers_of_done he ⟨?_, ?_, ?_, fun m hm hx => ?_⟩
  · rw [stopped_congr (State.refreshPf_power b), stopped_congr (clock.2 .power (by decide)), hst]
  · rw [State.refreshPf_fld _ _ (by rw [hlock]; decide), clock.1.fld _ hlock, ha]
  · rw [State.refreshPf_hbm]
    exact (clock.2 .hbm (by decide)).trans (fr.2 .hbm (by decide))
  · rw [refreshPf_rgnState, rgnState_congr (other m hm (mem m hm hx))]
    exact fr.fld_eq (F.RGN_STATE_STATE m) (by simp only [F.RGN_STATE_STATE, R.RGN_STATE, R.INT_PF_STATUS]; omega)
      (by simp only [F.RGN_STATE_STATE, R.RGN_STATE, R.CLK_STATUS, List.mem_singleton]; omega)

/-! ### The host link -/

theorem pcieLinkTrained_answers (w : BitVec 5) (v : BitVec 4) (s : State) (hr : s.pcieReleased = true) (hp : s.power.perst = false)
    (hw : w.toNat ∈ [1, 4, 8, 16]) (lo : 1 ≤ v.toNat) (hi : v.toNat ≤ 6) : Answers (.pcieLinkTrained w v true) s fun t =>
      t.fld F.HOST_STATUS_WIDTH = w.toNat ∧ t.fld F.HOST_STATUS_SPEED = v.toNat ∧ t.fld F.HOST_STATUS_FLIT_MODE = 1 ∧
        (w.toNat < 16 ∨ v.toNat < 6 → t.fld F.HOST_ERR_LINK_DEGRADED = 1) ∧
        Frame s t [R.HOST_STATUS, R.HOST_ERR] [] := by
  let a := ((s.setFld F.HOST_STATUS_WIDTH w.toNat).setFld F.HOST_STATUS_SPEED v.toNat).setFld F.HOST_STATUS_FLIT_MODE 1
  have he : exec (.pcieLinkTrained w v true) s = done (a.when (w.toNat < 16 || v.toNat < 6) fun u => u.raise F.HOST_ERR_LINK_DEGRADED) :=
    (if_neg (by simp only [hr, hp, List.contains_iff_mem.2 hw]; simp; omega) : execPcieLinkTrained w v true s = _)
  have fr : Frame s a [R.HOST_STATUS, R.HOST_ERR] [] :=
    (((Frame.refl s _ _).setFld F.HOST_STATUS_WIDTH _ (by decide)).setFld F.HOST_STATUS_SPEED _ (by decide)).setFld F.HOST_STATUS_FLIT_MODE 1
      (by decide)
  have h1 : a.fld F.HOST_STATUS_WIDTH = w.toNat := by
    unfold a
    rw [State.fld_setFld_lo _ F.HOST_STATUS_FLIT_MODE F.HOST_STATUS_WIDTH _ rfl rfl (by decide) (by decide),
      State.fld_setFld_lo _ F.HOST_STATUS_SPEED F.HOST_STATUS_WIDTH _ rfl rfl (by decide) (by decide), State.fld_setFld_same _ _ _ (by decide)]
    exact Nat.mod_eq_of_lt w.isLt
  have h2 : a.fld F.HOST_STATUS_SPEED = v.toNat := by
    unfold a
    rw [State.fld_setFld_lo _ F.HOST_STATUS_FLIT_MODE F.HOST_STATUS_SPEED _ rfl rfl (by decide) (by decide),
      State.fld_setFld_same _ _ _ (by decide)]
    exact Nat.mod_eq_of_lt v.isLt
  have h3 : a.fld F.HOST_STATUS_FLIT_MODE = 1 := State.fld_setFld_same _ _ _ (by decide)
  clear_value a
  have st : ∀ b : Bool, ∀ f : Fld, f.off = R.HOST_STATUS → (a.when b fun u => u.raise F.HOST_ERR_LINK_DEGRADED).refreshPf.fld f = a.fld f :=
    fun b f hf => by
      rw [State.refreshPf_fld _ _ (by rw [hf]; decide)]
      cases b
      · rfl
      · exact State.fld_setFld_off a F.HOST_ERR_LINK_DEGRADED f 1 (by rw [hf]; decide)
  refine answers_of_done he ⟨(st _ _ rfl).trans h1, (st _ _ rfl).trans h2, (st _ _ rfl).trans h3, fun hd => ?_, ?_⟩
  · have hb : (decide (w.toNat < 16) || decide (v.toNat < 6)) = true := by simpa using hd
    rw [hb, State.when_true]
    exact fld_setFld_pf a F.HOST_ERR_LINK_DEGRADED 1 (by decide) (by decide)
  · exact (fr.trans ((Frame.refl a _ _).when ((Frame.refl a _ _).setFld F.HOST_ERR_LINK_DEGRADED 1 (by decide)))).pf

/-! ### The tick (R813, R814) -/

/-- What the hardware does at a boundary (R159, R804, R813). -/
theorem boundary_spec (s : State) : s.latchTick.countM1.time = s.nextBoundary * 8192 % 2 ^ 48 ∧
    (∀ f, s.latchTick.countM1.fld f = s.fld f) ∧ s.latchTick.countM1.power.phase = s.power.phase ∧
    Frame s s.latchTick.countM1 [] [.time, .supply, .power, .vesper, .ceLogged] :=
  ⟨rfl, fun _ => rfl, rfl, fun _ _ _ _ => rfl, fun q hq => by
    cases q with
    | time => exact absurd (by decide) hq
    | supply => exact absurd (by decide) hq
    | power => exact absurd (by decide) hq
    | vesper => exact absurd (by decide) hq
    | ceLogged => exact absurd (by decide) hq
    | _ => rfl⟩

theorem almanacStep_spec (s : State) : s.almanacStep.vesper.lastTick = some s.almanacStep.tick ∧ s.almanacStep.fld F.PWR_STATUS_LG_ARMED = 1 := by
  unfold State.almanacStep
  extract_lets t
  exact ⟨rfl, State.fld_setFld_same _ F.PWR_STATUS_LG_ARMED 1 (by decide)⟩

/-- A tick's work ends with the Almanac's step; whether it overran is drawn, and LAST_TICK is written. -/
theorem tickWork_end (s : State) : ∃ u : State, s.tickWork =
    (u.almanacStep.draw.2.when (u.almanacStep.draw.1.getLsbD 0) fun v => v.countSat F.VSP_COUNTS_TICK_OVERRUNS).setFld F.VSP_LAST_TICK_TICK
      u.almanacStep.draw.2.tick := ⟨_, rfl⟩

theorem tickWork_spec (s : State) : s.tickWork.fld F.VSP_LAST_TICK_TICK = s.tickWork.tick ∧
    s.tickWork.vesper.lastTick = some s.tickWork.tick ∧ s.tickWork.fld F.PWR_STATUS_LG_ARMED = 1 := by
  obtain ⟨u, hu⟩ := tickWork_end s
  obtain ⟨last, armed⟩ := almanacStep_spec u
  rw [hu]
  generalize u.almanacStep = a at *
  generalize a.draw.1.getLsbD 0 = b
  let w := a.draw.2.when b fun v => v.countSat F.VSP_COUNTS_TICK_OVERRUNS
  have hv : w.vesper = a.vesper ∧ w.time = a.time ∧ w.fld F.PWR_STATUS_LG_ARMED = 1 := by
    cases b
    · exact ⟨rfl, rfl, armed⟩
    · exact ⟨rfl, rfl, (State.fld_setFld_off a.draw.2 F.VSP_COUNTS_TICK_OVERRUNS F.PWR_STATUS_LG_ARMED _ (by decide)).trans armed⟩
  obtain ⟨vesper, time, lg⟩ := hv
  change (w.setFld F.VSP_LAST_TICK_TICK a.tick).fld _ = (w.setFld F.VSP_LAST_TICK_TICK a.tick).tick ∧
    (w.setFld F.VSP_LAST_TICK_TICK a.tick).vesper.lastTick = some (w.setFld F.VSP_LAST_TICK_TICK a.tick).tick ∧
    (w.setFld F.VSP_LAST_TICK_TICK a.tick).fld _ = 1
  have tick : (w.setFld F.VSP_LAST_TICK_TICK a.tick).tick = a.tick := by simp only [State.tick, State.setFld_time, time]
  clear_value w
  rw [tick]
  refine ⟨?_, ?_, ?_⟩
  · rw [State.fld_setFld_same _ _ _ (by decide)]
    exact Nat.mod_eq_of_lt (show _ < 2 ^ 32 from Nat.mod_lt _ (by decide))
  · rw [State.setFld_vesper, vesper]
    exact last
  · rw [State.fld_setFld_off _ F.VSP_LAST_TICK_TICK F.PWR_STATUS_LG_ARMED _ (by decide)]
    exact lg

theorem vesperRuns_congr (h : ∀ f, t.fld f = s.fld f) (hp : t.power.phase = s.power.phase) : t.vesperRuns = s.vesperRuns := by
  simp only [State.vesperRuns, State.on, h, hp]

theorem tick_congr (h : t.time = s.time) : t.tick = s.tick := by simp only [State.tick, h]

/-- The tick's last change is of the supply: whether a shed was in force. -/
def tickEnd (t : State) : State := { t with supply := { t.supply with shedInTick := t.on F.CLK_STATUS_SHED } }

theorem exec_vesperTick (hp : s.power.phase ≠ .off) : exec .vesperTick s =
    done (tickEnd (if s.latchTick.countM1.vesperRuns then s.latchTick.countM1.tickWork else s.latchTick.countM1)) := if_neg hp

theorem frame_tickEnd (t : State) {r : List Nat} {p : List Part} (h : .supply ∈ p) : Frame t (tickEnd t) r p := frame_supply t _ h

theorem vesperTick_answers (s : State) (hp : s.power.phase ≠ .off) (hr : s.power.phase ≠ .recovery) (hv : s.vesperRuns = true) :
    Answers .vesperTick s fun t =>
      t.time = s.nextBoundary * 8192 % 2 ^ 48 ∧ t.fld F.VSP_LAST_TICK_TICK = t.tick ∧ t.vesper.lastTick = some t.tick ∧
        t.fld F.PWR_STATUS_LG_ARMED = 1 ∧ t.hbm = s.hbm := by
  obtain ⟨time, fld, phase, fr⟩ := boundary_spec s
  have hb : s.latchTick.countM1.hbm = s.hbm := fr.2 .hbm (by decide)
  have hruns : s.latchTick.countM1.vesperRuns = true := (vesperRuns_congr fld phase).trans hv
  generalize hl : s.latchTick.countM1 = l at *
  obtain ⟨wt, wh, -⟩ : l.tickWork.Ticks l := State.Ticks.tickWork ⟨rfl, rfl, by rw [phase]; exact hr⟩
  obtain ⟨tick, last, armed⟩ := tickWork_spec l
  have he := exec_vesperTick hp
  rw [hl, if_pos hruns] at he
  generalize l.tickWork = w at *
  have endTick : (tickEnd w).refreshPf.tick = w.tick := tick_congr (State.refreshPf_time _)
  refine answers_of_done he ⟨?_, ?_, ?_, ?_, ?_⟩
  · exact (State.refreshPf_time _).trans (wt.trans time)
  · rw [State.refreshPf_fld _ _ (by decide)]
    exact tick.trans endTick.symm
  · rw [State.refreshPf_vesper]
    exact last.trans (congrArg some endTick.symm)
  · exact (State.refreshPf_fld _ _ (by decide)).trans armed
  · exact (State.refreshPf_hbm _).trans (wh.trans hb)

theorem vesperTick_idle_answers (s : State) (hp : s.power.phase ≠ .off) (hv : s.vesperRuns = false) : Answers .vesperTick s fun t =>
    t.time = s.nextBoundary * 8192 % 2 ^ 48 ∧ Frame s t [] [.time, .supply, .power, .vesper, .ceLogged] := by
  obtain ⟨time, fld, phase, fr⟩ := boundary_spec s
  have hruns : s.latchTick.countM1.vesperRuns = false := (vesperRuns_congr fld phase).trans hv
  generalize hl : s.latchTick.countM1 = l at *
  have he := exec_vesperTick hp
  rw [hl, if_neg (by rw [hruns]; decide)] at he
  exact answers_of_done he ⟨(State.refreshPf_time _).trans time, (fr.trans (frame_tickEnd l (by decide))).pf⟩

/-- Settles O24: each event of the clocks writes its few fields; the tick's work is `State.Ticks.tickWork` and `tickWork_spec`. -/
theorem clockEventsComplete : Obligations.ClockEventsComplete :=
  ⟨shed_answers, unshed_answers, slewComplete_answers, aonTrimWindow_answers, xtal32Stop_answers, xrefQualifyTimeout_answers,
    tilePllUnlock_answers, tilePllRelock_answers, pllLossOfLock_answers, pcieLinkTrained_answers, vesperTick_answers, vesperTick_idle_answers⟩

end Sys2Proof.Machine
end

section
/-! The measurement front end (03): what a sample, the self-check and a temperature reading keep and write. O19. -/

namespace Sys2Proof.Machine

variable {s t u : State} {f : Fld}

/-! ### Fields apart from a written one -/

/-- A write of g leaves f as it is. -/
def Apart (f g : Fld) : Prop :=
  f.off ≠ g.off ∨ (f.off = g.off ∧ f.cold = g.cold ∧ f.lo + f.width ≤ 32 ∧ (f.lo + f.width ≤ g.lo ∨ g.lo + g.width ≤ f.lo))

theorem fld_setFld_apart {g : Fld} (s : State) (v : Nat) (h : Apart f g) : (s.setFld g v).fld f = s.fld f := by
  obtain h | ⟨ho, hc, hw, hb⟩ := h
  · exact State.fld_setFld_off s g f v h
  · exact State.fld_setFld_lo s g f v ho hc hw hb

theorem fld_setWord_ne (s : State) (o v : Nat) (h : f.off ≠ o) : (s.setWord o v).fld f = s.fld f := by
  simp only [State.fld, State.word_setWord, if_neg h]

/-- A field that the event log, the classes and the limiter never write. -/
def Quiet (f : Fld) : Prop :=
  (f.off < R.PWR_EVT_W0 0 ∨ R.PWR_EVT_W0 32 ≤ f.off) ∧ f.off ≠ R.PWR_EVT_TOTAL ∧ f.off ≠ R.INT_PF_EVENT ∧ f.off ≠ R.PWR_STATUS ∧
    Apart f F.PWR_TEMP_THERMAL_REQ

/-- What a step of the front end keeps: a quiet field, every component but the supply, the energy, the last sample and the run of
samples below LOSS_MV. -/
structure Sampled (f : Fld) (s t : State) : Prop where
  fld : t.fld f = s.fld f
  parts : SameParts [.supply] s t
  energy : t.supply.energy = s.supply.energy
  lastSample : t.supply.lastSample = s.supply.lastSample
  lossRun : t.supply.lossRun = s.supply.lossRun

theorem Sampled.refl (f : Fld) (s : State) : Sampled f s s := ⟨rfl, .refl _ s, rfl, rfl, rfl⟩

theorem Sampled.trans (h : Sampled f s t) (k : Sampled f t u) : Sampled f s u :=
  ⟨k.fld.trans h.fld, h.parts.trans k.parts, k.energy.trans h.energy, k.lastSample.trans h.lastSample, k.lossRun.trans h.lossRun⟩

theorem Sampled.setFld {g : Fld} (h : Sampled f s t) (v : Nat) (ha : Apart f g) : Sampled f s (t.setFld g v) :=
  ⟨(fld_setFld_apart t v ha).trans h.fld, h.parts.setFld g v, h.energy, h.lastSample, h.lossRun⟩

theorem Sampled.setWord (h : Sampled f s t) (o v : Nat) (ha : f.off ≠ o) : Sampled f s (t.setWord o v) :=
  ⟨(fld_setWord_ne t o v ha).trans h.fld, h.parts.setWord o v, h.energy, h.lastSample, h.lossRun⟩

theorem Sampled.supply (h : Sampled f s t) (x : Supply) (he : x.energy = t.supply.energy) (hl : x.lastSample = t.supply.lastSample)
    (hr : x.lossRun = t.supply.lossRun) : Sampled f s { t with supply := x } :=
  ⟨h.fld, h.parts.trans (frame_supply t x (r := []) (by simp)).2, he.trans h.energy, hl.trans h.lastSample, hr.trans h.lossRun⟩

theorem Sampled.draw (h : Sampled f s t) : Sampled f s t.draw.2 :=
  ⟨h.fld, h.parts.trans (frame_draw t [] _).2, h.energy, h.lastSample, h.lossRun⟩

theorem Sampled.when {b : Bool} {g : State → State} (h : Sampled f s t) (hg : Sampled f t (g t)) : Sampled f s (t.when b g) := by
  cases b
  · exact h
  · exact h.trans hg

/-! ### The log -/

/-- The words of an entry stand in the log. -/
theorem evt_range (e : Nat) : (R.PWR_EVT_W0 0 ≤ R.PWR_EVT_W0 (e % 32) ∧ R.PWR_EVT_W0 (e % 32) < R.PWR_EVT_W0 32) ∧
    (R.PWR_EVT_W0 0 ≤ R.PWR_EVT_W1 (e % 32) ∧ R.PWR_EVT_W1 (e % 32) < R.PWR_EVT_W0 32) ∧
    (R.PWR_EVT_W0 0 ≤ R.PWR_EVT_W2 (e % 32) ∧ R.PWR_EVT_W2 (e % 32) < R.PWR_EVT_W0 32) ∧
    (R.PWR_EVT_W0 0 ≤ R.PWR_EVT_W3 (e % 32) ∧ R.PWR_EVT_W3 (e % 32) < R.PWR_EVT_W0 32) := by
  simp only [R.PWR_EVT_W0, R.PWR_EVT_W1, R.PWR_EVT_W2, R.PWR_EVT_W3]
  omega

section
variable (hq : Quiet f)
include hq

theorem Quiet.log {o : Nat} (ho : R.PWR_EVT_W0 0 ≤ o ∧ o < R.PWR_EVT_W0 32) : f.off ≠ o := by
  obtain ⟨h, -⟩ := hq
  omega

theorem Quiet.apart_event : Apart f F.INT_PF_EVENT_SUPPLY := by
  obtain ⟨-, -, h, -, -⟩ := hq
  exact .inl h

theorem Quiet.apart_status {g : Fld} (hg : g.off = R.PWR_STATUS) : Apart f g := by
  obtain ⟨-, -, -, h, -⟩ := hq
  exact .inl (hg ▸ h)

theorem Quiet.apart_thermal : Apart f F.PWR_TEMP_THERMAL_REQ := by
  obtain ⟨-, -, -, -, h⟩ := hq
  exact h

theorem Sampled.openEvent (h : Sampled f s t) (c : SupplyClass) (start declare extreme : Nat) (why : LossWhy) :
    Sampled f s (t.openEvent c start declare extreme why).2 := by
  unfold State.openEvent
  extract_lets i w0 a
  obtain ⟨h0, h1, h2, h3⟩ := evt_range t.supply.events
  have ha : Sampled f s a := (((h.setWord _ _ (hq.log h0)).setWord _ _ (hq.log h1)).setWord _ _ (hq.log h2)).setWord _ _ (hq.log h3)
  have total : Apart f F.PWR_EVT_TOTAL_TOTAL := by
    obtain ⟨-, h, -⟩ := hq
    exact .inl h
  exact ((ha.setFld (g := F.PWR_EVT_TOTAL_TOTAL) _ total).setFld (g := F.INT_PF_EVENT_SUPPLY) 1 hq.apart_event).supply _ rfl rfl rfl

theorem Sampled.updateEvent (h : Sampled f s t) (e : OpenEvent) : Sampled f s (t.updateEvent e) := by
  unfold State.updateEvent
  extract_lets i
  obtain ⟨h0, -, -, h3⟩ := evt_range e.seq
  split
  · exact (h.setFld (g := F.PWR_EVT_W0_EXTREME_MV i) _ (.inl (hq.log h0))).setFld (g := F.PWR_EVT_W3_DURATION i) _ (.inl (hq.log h3))
  · exact h

theorem Sampled.closeEvent (h : Sampled f s t) (e : OpenEvent) : Sampled f s (t.closeEvent e) := by
  unfold State.closeEvent
  extract_lets a
  have ha : Sampled f s a := h.updateEvent hq e
  exact (ha.when ((Sampled.refl f a).setFld (g := F.PWR_EVT_W0_OPEN (e.seq % 32)) 0 (.inl (hq.log (evt_range e.seq).1)))).setFld
    (g := F.INT_PF_EVENT_SUPPLY) 1 hq.apart_event

/-! ### The classes, the limiter and the thermal request -/

theorem Sampled.stepClass (c : SupplyClass) (ev : Option OpenEvent) (quiet : Nat) (r : Run) (need clearAt v : Nat)
    (isQuiet : Bool) (extreme : Nat → Nat → Nat) (active : Fld) (ha : active.off = R.PWR_STATUS) :
    Sampled f s (Machine.stepClass s c ev quiet r need clearAt v isQuiet extreme active).state := by
  unfold Machine.stepClass
  split
  · split
    · exact ((Sampled.refl f s).openEvent hq c r.start r.count r.extreme .voltage).setFld 1 (hq.apart_status ha)
    · exact .refl f s
  · extract_lets q e'
    split
    · exact ((Sampled.refl f s).closeEvent hq e').setFld 0 (hq.apart_status ha)
    · exact (Sampled.refl f s).updateEvent hq e'

theorem sampled_stepTransient (s : State) (ts mv : Nat) : Sampled f s (s.stepTransient ts mv) := by
  unfold State.stepTransient
  extract_lets d isStep
  split
  · split
    · exact ((Sampled.refl f s).openEvent hq .transient ts 1 d .voltage).supply _ rfl rfl rfl
    · exact .refl f s
  · extract_lets e' q a b
    split
    · exact ((Sampled.refl f s).closeEvent hq e').supply _ rfl rfl rfl
    · exact ((Sampled.refl f s).updateEvent hq e').supply _ rfl rfl rfl

theorem sampled_stepSag (s : State) (ts mv : Nat) : Sampled f s (s.stepSag ts mv) :=
  (Sampled.stepClass hq .sag s.supply.sag s.supply.sagQuiet _ _ _ mv _ min F.PWR_STATUS_SAG_ACTIVE rfl).supply _ rfl rfl rfl

theorem sampled_stepDropout (s : State) (ts mv : Nat) : Sampled f s (s.stepDropout ts mv) :=
  (Sampled.stepClass hq .dropout s.supply.dropout s.supply.dropoutQuiet _ _ _ mv _ min F.PWR_STATUS_DROPOUT_ACTIVE rfl).supply _ rfl rfl rfl

theorem sampled_stepSwell (s : State) (ts mv : Nat) : Sampled f s (s.stepSwell ts mv) :=
  (Sampled.stepClass hq .swell s.supply.swell s.supply.swellQuiet _ _ _ mv _ max F.PWR_STATUS_SWELL_ACTIVE rfl).supply _ rfl rfl rfl

theorem sampled_stepRipple (s : State) : Sampled f s s.stepRipple := by
  unfold State.stepRipple
  extract_lets p exceeds
  split
  · split
    · exact (((Sampled.refl f s).openEvent hq .ripple s.supply.tickStart s.supply.tickSamples p .voltage).setFld
        (g := F.PWR_STATUS_RIPPLE_ACTIVE) 1 (hq.apart_status rfl)).supply _ rfl rfl rfl
    · exact .refl f s
  · extract_lets e' a
    split
    · have hu := (Sampled.refl f s).updateEvent hq e'
      exact hu.supply _ hu.energy.symm hu.lastSample.symm hu.lossRun.symm
    · exact (((Sampled.refl f s).closeEvent hq e').setFld (g := F.PWR_STATUS_RIPPLE_ACTIVE) 0 (hq.apart_status rfl)).supply _ rfl rfl rfl

theorem Sampled.stepLimiter (h : Sampled f s t) (ts : Nat) : Sampled f s (t.stepLimiter ts) := by
  unfold State.stepLimiter
  extract_lets a b
  split
  · split
    · exact ((h.openEvent hq .limit ts 1 0 .voltage).setFld (g := F.PWR_STATUS_LIMIT_ACTIVE) 1 (hq.apart_status rfl)).supply _ rfl rfl rfl
    · exact h
  · extract_lets e' q x y
    split
    · exact ((h.closeEvent hq e').setFld (g := F.PWR_STATUS_LIMIT_ACTIVE) 0 (hq.apart_status rfl)).supply _ rfl rfl rfl
    · exact (h.updateEvent hq e').supply _ rfl rfl rfl

theorem Sampled.countThermal (h : Sampled f s t) : Sampled f s t.countThermal := by
  unfold State.countThermal
  split
  · exact h
  · extract_lets e'
    have hu := (Sampled.refl f t).updateEvent hq e'
    exact h.trans (hu.supply _ hu.energy.symm hu.lastSample.symm hu.lossRun.symm)

theorem Sampled.stepThermal (h : Sampled f s t) : Sampled f s t.stepThermal := by
  unfold State.stepThermal
  extract_lets hbm die peak
  split
  · split
    · have ho := h.draw.openEvent hq .thermal t.time (t.draw.1.toNat % 2 ^ 16) peak .voltage
      generalize hx : t.draw.2.openEvent .thermal t.time (t.draw.1.toNat % 2 ^ 16) peak .voltage = x at ho
      have hu := (Sampled.refl f x.2).updateEvent hq { x.1 with samples := 0 }
      have hr := hu.setFld (g := F.PWR_TEMP_THERMAL_REQ) 1 hq.apart_thermal
      have hv := ho.trans (hr.supply { x.2.supply with thermal := some { x.1 with samples := 0 } } hr.energy.symm hr.lastSample.symm
        hr.lossRun.symm)
      subst hx
      exact hv
    · exact h
  · extract_lets e' a b
    split
    · exact ((h.closeEvent hq e').setFld (g := F.PWR_TEMP_THERMAL_REQ) 0 hq.apart_thermal).supply _ rfl rfl rfl
    · exact (h.updateEvent hq e').supply _ rfl rfl rfl

end

/-- SHED_REQ follows its sources. -/
theorem Sampled.updateShed (h : Sampled f s t) (ha : f.off ≠ R.PWR_STATUS) : Sampled f s t.updateShed := by
  unfold State.updateShed
  extract_lets now was a
  have hn : Sampled f s a := h.setFld (g := F.PWR_STATUS_SHED_REQ) _ (.inl ha)
  split
  · exact hn.supply _ rfl rfl rfl
  · exact hn

/-- REFRESH_ONLY of the stacks follows. -/
theorem Sampled.updateRefreshOnly (h : Sampled f s t) (ha : f.off ≠ R.PWR_STATUS)
    (hk : ∀ k, k < 8 → Apart f (F.HBM_STATUS_REFRESH_ONLY k)) : Sampled f s t.updateRefreshOnly := by
  unfold State.updateRefreshOnly
  extract_lets a
  have hn : Sampled f s a := overList_keeps_mem (Sampled f s) _ t _ h fun u k hmem hu =>
    hu.setFld (g := F.HBM_STATUS_REFRESH_ONLY k) _ (hk k (List.mem_range.1 hmem))
  exact hn.setFld (g := F.PWR_STATUS_HBM_REFRESH_ONLY) _ (.inl ha)

/-! ### LOSS -/

/-- The registers of the clocks that stop. -/
def lossRegs (t : State) : State :=
  ((((((t.lower F.CLK_STATUS_TW_LOCK).lower F.CLK_STATUS_TE_LOCK).lower F.CLK_STATUS_LINK_LOCK).lower
    F.CLK_STATUS_SHED).lower F.CLK_STATUS_SLEWING).setFld F.CLK_TILE_FREQ_IN_FORCE_MULT 0).setFld F.CLK_ISLAND_POWERED 0

/-- Everything on the die and in HBM is lost; a flash write may be torn. -/
def lossEnd (t s : State) (start extreme : Nat) : State :=
  let (v, u) := t.dropPath.draw
  let torn := bit (v.getLsbD 0 && (!u.vesper.queue.isEmpty || u.vesper.permDue))
  { u with
    hbm := {}
    flash := { u.flash with torn := u.flash.torn + torn }
    power := { u.power with
      phase := .loss, lastGasp := s.on F.PWR_STATUS_LG_ARMED, halves := false
      lossStart := start, lossMin := extreme, lossShed := s.shedSources } }

theorem declareLoss_eq (hp : s.power.phase ≠ .loss) (start declare extreme : Nat) (why : LossWhy) :
    s.declareLoss start declare extreme why = lossEnd (lossRegs (s.openEvent .loss start declare extreme why).2) s start extreme := by
  rw [State.declareLoss, if_neg hp]
  generalize (s.openEvent .loss start declare extreme why).2 = t
  rfl

theorem sampled_lossRegs (t : State) (hc : f.off ≠ R.CLK_STATUS ∧ f.off ≠ R.CLK_TILE_FREQ ∧ f.off ≠ R.CLK_ISLAND) :
    Sampled f t (lossRegs t) := by
  obtain ⟨status, freq, island⟩ := hc
  exact (((((((Sampled.refl f t).setFld (g := F.CLK_STATUS_TW_LOCK) 0 (.inl status)).setFld (g := F.CLK_STATUS_TE_LOCK) 0
    (.inl status)).setFld (g := F.CLK_STATUS_LINK_LOCK) 0 (.inl status)).setFld (g := F.CLK_STATUS_SHED) 0 (.inl status)).setFld
    (g := F.CLK_STATUS_SLEWING) 0 (.inl status)).setFld (g := F.CLK_TILE_FREQ_IN_FORCE_MULT) 0 (.inl freq)).setFld
    (g := F.CLK_ISLAND_POWERED) 0 (.inl island)

theorem lossEnd_spec (t s : State) (a b : Nat) : (∀ f, (lossEnd t s a b).fld f = t.fld f) ∧ (lossEnd t s a b).supply = t.supply ∧
    (lossEnd t s a b).time = t.time ∧ (lossEnd t s a b).power.phase = .loss := ⟨fun _ => rfl, rfl, rfl, rfl⟩

theorem lossEnd_parts (t s : State) (a b : Nat) : (lossEnd t s a b).power.halves = false ∧
    (lossEnd t s a b).power.lastGasp = s.on F.PWR_STATUS_LG_ARMED ∧ (lossEnd t s a b).hbm = {} ∧ (lossEnd t s a b).cores = [] ∧
    (lossEnd t s a b).net = [] ∧ (lossEnd t s a b).slices = [] ∧ (lossEnd t s a b).regions = [] ∧
    (lossEnd t s a b).flash.log = t.flash.log ∧ (lossEnd t s a b).flash.perm = t.flash.perm :=
  ⟨rfl, rfl, rfl, rfl, rfl, rfl, rfl, rfl, rfl⟩

/-- What a declared LOSS keeps of the front end and of the fields outside the clocks' registers. -/
theorem declareLoss_keeps (s : State) (hq : Quiet f) (hc : f.off ≠ R.CLK_STATUS ∧ f.off ≠ R.CLK_TILE_FREQ ∧ f.off ≠ R.CLK_ISLAND)
    (hp : s.power.phase ≠ .loss) (start declare extreme : Nat) (why : LossWhy) :
    let t := s.declareLoss start declare extreme why
    t.fld f = s.fld f ∧ t.supply.energy = s.supply.energy ∧ t.supply.lastSample = s.supply.lastSample ∧ t.time = s.time ∧
      t.power.phase = .loss := by
  have h := ((Sampled.refl f s).openEvent hq .loss start declare extreme why).trans (sampled_lossRegs _ hc)
  rw [declareLoss_eq hp]
  obtain ⟨fld, supply, time, phase⟩ := lossEnd_spec (lossRegs (s.openEvent .loss start declare extreme why).2) s start extreme
  generalize lossRegs (s.openEvent .loss start declare extreme why).2 = t at *
  generalize lossEnd t s start extreme = v at *
  exact ⟨(fld f).trans h.fld, (congrArg Supply.energy supply).trans h.energy, (congrArg Supply.lastSample supply).trans h.lastSample,
    time.trans (h.parts .time (by simp)), phase⟩

theorem declareLoss_of_loss (h : s.power.phase = .loss) (start declare extreme : Nat) (why : LossWhy) :
    s.declareLoss start declare extreme why = s := if_pos h

/-- A step that keeps the front end's own, with everything but the supply or with the LOSS declared. -/
structure Judged (f : Fld) (s t : State) : Prop where
  fld : t.fld f = s.fld f
  energy : t.supply.energy = s.supply.energy
  lastSample : t.supply.lastSample = s.supply.lastSample
  time : t.time = s.time
  outcome : SameParts [.supply] s t ∨ (s.power.phase ≠ .loss ∧ t.power.phase = .loss)

theorem Sampled.judged (h : Sampled f s t) : Judged f s t := ⟨h.fld, h.energy, h.lastSample, h.parts .time (by simp), .inl h.parts⟩

theorem Judged.sampled (h : Judged f s t) (k : Sampled f t u) : Judged f s u :=
  ⟨k.fld.trans h.fld, k.energy.trans h.energy, k.lastSample.trans h.lastSample, (k.parts .time (by simp)).trans h.time,
    h.outcome.imp (fun p => p.trans k.parts) fun ⟨a, b⟩ => ⟨a, (congrArg Power.phase (k.parts .power (by simp))).trans b⟩⟩

theorem Sampled.then (h : Sampled f s t) (k : Judged f t u) : Judged f s u :=
  ⟨k.fld.trans h.fld, k.energy.trans h.energy, k.lastSample.trans h.lastSample, k.time.trans (h.parts .time (by simp)),
    k.outcome.imp (fun p => h.parts.trans p) fun ⟨a, b⟩ => ⟨by rwa [h.parts .power (by simp)] at a, b⟩⟩

/-- A declared LOSS, or the one that stands. -/
theorem judged_declareLoss (s : State) (hq : Quiet f) (hc : f.off ≠ R.CLK_STATUS ∧ f.off ≠ R.CLK_TILE_FREQ ∧ f.off ≠ R.CLK_ISLAND)
    (start declare extreme : Nat) (why : LossWhy) : Judged f s (s.declareLoss start declare extreme why) := by
  by_cases hp : s.power.phase = .loss
  · rw [declareLoss_of_loss hp]
    exact (Sampled.refl f s).judged
  · obtain ⟨fld, energy, last, time, phase⟩ := declareLoss_keeps s hq hc hp start declare extreme why
    exact ⟨fld, energy, last, time, .inr ⟨hp, phase⟩⟩

/-- A judged state whose phase is the old one has kept every component but the supply. -/
theorem Judged.parts (h : Judged f s t) (hp : t.power.phase = s.power.phase) : SameParts [.supply] s t := by
  obtain k | ⟨a, b⟩ := h.outcome
  · exact k
  · exact absurd (hp.symm.trans b) a

/-! ### Samples -/

/-- The run of samples below LOSS_MV with this one. -/
def lossRunOf (s : State) (ts mv : Nat) : Run := stepRun s.supply.lossRun (mv < s.fld F.PWR_LOSS_MV) ts mv min

theorem stepLoss_eq (s : State) (ts mv : Nat) : s.stepLoss ts mv =
    if s.fld F.PWR_LOSS_SAMPLES ≤ (lossRunOf s ts mv).count then
      ({ s with supply := { s.supply with lossRun := lossRunOf s ts mv } } : State).declareLoss (lossRunOf s ts mv).start
        (lossRunOf s ts mv).count (lossRunOf s ts mv).extreme .voltage
    else { s with supply := { s.supply with lossRun := lossRunOf s ts mv } } := rfl

/-- A change of the run alone. -/
theorem judged_lossRun (s : State) (r : Run) : Judged f s { s with supply := { s.supply with lossRun := r } } :=
  ⟨rfl, rfl, rfl, rfl, .inl (Frame.sameParts (frame_supply s _ (r := []) (by simp)))⟩

theorem Judged.trans (h : Judged f s t) (hp : t.power = s.power) (ht : SameParts [.supply] s t) (k : Judged f t u) : Judged f s u :=
  ⟨k.fld.trans h.fld, k.energy.trans h.energy, k.lastSample.trans h.lastSample, k.time.trans h.time,
    k.outcome.imp (fun p => ht.trans p) fun ⟨a, b⟩ => ⟨by rwa [hp] at a, b⟩⟩

theorem judged_stepLoss (s : State) (hq : Quiet f) (hc : f.off ≠ R.CLK_STATUS ∧ f.off ≠ R.CLK_TILE_FREQ ∧ f.off ≠ R.CLK_ISLAND)
    (ts mv : Nat) : Judged f s (s.stepLoss ts mv) := by
  rw [stepLoss_eq]
  have h := judged_lossRun (f := f) s (lossRunOf s ts mv)
  have hp : ({ s with supply := { s.supply with lossRun := lossRunOf s ts mv } } : State).power = s.power := rfl
  have hs : SameParts [.supply] s { s with supply := { s.supply with lossRun := lossRunOf s ts mv } } :=
    Frame.sameParts (frame_supply s _ (r := []) (by simp))
  generalize ({ s with supply := { s.supply with lossRun := lossRunOf s ts mv } } : State) = t at *
  split
  · exact h.trans hp hs (judged_declareLoss t hq hc _ _ _ _)
  · exact h

/-- The classes judge a sample before LOSS does. -/
def judgeClasses (s : State) (ts mv : Nat) (lastOfTick : Bool) : State :=
  ((((s.stepTransient ts mv).stepSag ts mv).stepDropout ts mv).stepSwell ts mv).when lastOfTick State.stepRipple

theorem classify_eq (h : s.on F.PWR_ERR_METER_FAIL = false) (ts mv : Nat) (b : Bool) :
    s.classify ts mv b = (judgeClasses s ts mv b).stepLoss ts mv := if_neg (by simp [h])

theorem sampled_judgeClasses (s : State) (hq : Quiet f) (ts mv : Nat) (b : Bool) : Sampled f s (judgeClasses s ts mv b) :=
  ((((sampled_stepTransient hq s ts mv).trans (sampled_stepSag hq _ ts mv)).trans (sampled_stepDropout hq _ ts mv)).trans
    (sampled_stepSwell hq _ ts mv)).when (sampled_stepRipple hq _)

theorem judged_classify (s : State) (hq : Quiet f) (hc : f.off ≠ R.CLK_STATUS ∧ f.off ≠ R.CLK_TILE_FREQ ∧ f.off ≠ R.CLK_ISLAND)
    (ts mv : Nat) (b : Bool) : Judged f s (s.classify ts mv b) := by
  cases hm : s.on F.PWR_ERR_METER_FAIL with
  | false =>
    rw [classify_eq hm]
    exact (sampled_judgeClasses s hq ts mv b).then (judged_stepLoss _ hq hc ts mv)
  | true =>
    rw [State.classify, if_pos hm]
    exact (Sampled.refl f s).judged

/-- What follows the classes. -/
def sampleEnd (b : State) (ts mv : Nat) (last : Bool) : State :=
  let c := (b.stepLimiter ts).countThermal
  (({ c with supply := { c.supply with lastMv := some mv } } : State).when last State.endTickMeter).updateShed.updateRefreshOnly

theorem exec_supplySample (hp : s.power.phase ≠ .off) (mv ma : BitVec 16) : exec (.supplySample mv ma) s =
    done (sampleEnd (((s.at s.nextSample).meter s.nextSample mv.toNat ma.toNat).classify s.nextSample mv.toNat
      (decide (s.nextSample % 8192 = 8176))) s.nextSample mv.toNat (decide (s.nextSample % 8192 = 8176))) := if_neg hp

theorem Sampled.endTickMeter (h : Sampled f s t) (h1 : Apart f F.PWR_VIN_TICK_EXTREME) (h2 : Apart f F.PWR_IIN_TICK_EXTREME)
    (h3 : Apart f F.PWR_TICK_POWER_POWER) : Sampled f s t.endTickMeter :=
  ((h.setFld (g := F.PWR_VIN_TICK_EXTREME) _ h1).setFld (g := F.PWR_IIN_TICK_EXTREME) _ h2).setFld (g := F.PWR_TICK_POWER_POWER) _ h3

theorem sampled_sampleEnd (b : State) (hq : Quiet f) (ha : f.off < R.HBM_STATUS 0) (h1 : Apart f F.PWR_VIN_TICK_EXTREME)
    (h2 : Apart f F.PWR_IIN_TICK_EXTREME) (h3 : Apart f F.PWR_TICK_POWER_POWER) (ts mv : Nat) (last : Bool) :
    Sampled f b (sampleEnd b ts mv last) := by
  have hs : f.off ≠ R.PWR_STATUS := by
    obtain ⟨-, -, -, h, -⟩ := hq
    exact h
  unfold sampleEnd
  extract_lets c
  have hc : Sampled f b c := ((Sampled.refl f b).stepLimiter hq ts).countThermal hq
  have hl := hc.supply { c.supply with lastMv := some mv } rfl rfl rfl
  generalize ({ c with supply := { c.supply with lastMv := some mv } } : State) = d at *
  exact ((hl.when ((Sampled.refl f d).endTickMeter h1 h2 h3)).updateShed hs).updateRefreshOnly hs fun k _ =>
    .inl (by simp only [F.HBM_STATUS_REFRESH_ONLY, R.HBM_STATUS] at ha ⊢; omega)

/-- The readings of a sample. -/
theorem meter_spec (s : State) (ts mv ma : Nat) (hv : mv < 2 ^ 16) (ha : ma < 2 ^ 16) :
    let t := s.meter ts mv ma
    t.fld F.PWR_VIN_LAST = mv ∧ t.fld F.PWR_IIN_LAST = ma ∧ t.supply.lastSample = some ts ∧
      t.supply.energy = (if s.on F.PWR_ERR_METER_FAIL then s.supply.energy else s.supply.energy + mv * ma) ∧
      t.supply.lossRun = s.supply.lossRun ∧
      Frame s t [R.PWR_VIN, R.PWR_IIN, R.PWR_ENERGY_LO, R.PWR_ENERGY_HI] [.supply] := by
  unfold State.meter State.setPair
  extract_lets u fresh failed e sup
  have fr := frame_supply s sup (r := [R.PWR_VIN, R.PWR_IIN, R.PWR_ENERGY_LO, R.PWR_ENERGY_HI]) (parts := [.supply]) (by decide)
  have last : sup.lastSample = some ts := rfl
  have energy : sup.energy = (if s.on F.PWR_ERR_METER_FAIL then s.supply.energy else s.supply.energy + mv * ma) := rfl
  have run : sup.lossRun = s.supply.lossRun := rfl
  clear_value sup e
  refine ⟨?_, ?_, ?_, ?_, ?_, ?_⟩
  · rw [fld_setWord_ne _ _ _ (by decide), fld_setWord_ne _ _ _ (by decide), State.fld_setFld_off _ F.PWR_IIN_LAST F.PWR_VIN_LAST _ (by decide),
      State.fld_setFld_same _ _ _ (by decide)]
    exact Nat.mod_eq_of_lt hv
  · rw [fld_setWord_ne _ _ _ (by decide), fld_setWord_ne _ _ _ (by decide), State.fld_setFld_same _ _ _ (by decide)]
    exact Nat.mod_eq_of_lt ha
  · rw [State.setWord_supply, State.setWord_supply, State.setFld_supply, State.setFld_supply]; exact last
  · rw [State.setWord_supply, State.setWord_supply, State.setFld_supply, State.setFld_supply]; exact energy
  · rw [State.setWord_supply, State.setWord_supply, State.setFld_supply, State.setFld_supply]; exact run
  · exact (((fr.setFld F.PWR_VIN_LAST _ (by decide)).setFld F.PWR_IIN_LAST _ (by decide)).setWord _ _ (by decide)).setWord _ _ (by decide)

theorem at_frame (s : State) (ts : Nat) (r : List Nat) : Frame s (s.at ts) r [.time] :=
  ⟨fun _ _ _ _ => rfl, fun q hq => by
    cases q with
    | time => exact absurd (by simp) hq
    | _ => rfl⟩

theorem at_time_lt (s : State) {ts : Nat} (h : ts < 2 ^ 48) : (s.at ts).time = ts := Nat.mod_eq_of_lt h

theorem nextSample_lt (s : State) : s.nextSample < 2 ^ 48 := by
  unfold State.nextSample
  extract_lets c
  split
  · exact Nat.mod_lt _ (by decide)
  · exact Nat.mod_lt _ (by decide)

theorem quiet_vin : Quiet F.PWR_VIN_LAST := by unfold Quiet Apart; decide
theorem quiet_iin : Quiet F.PWR_IIN_LAST := by unfold Quiet Apart; decide

theorem supplySample_answers (mv ma : BitVec 16) (s : State) (hp : s.power.phase ≠ .off) : Answers (.supplySample mv ma) s fun t =>
    t.time = s.nextSample ∧ t.fld F.PWR_VIN_LAST = mv.toNat ∧ t.fld F.PWR_IIN_LAST = ma.toNat ∧
      t.supply.lastSample = some s.nextSample ∧
      t.supply.energy = (if s.on F.PWR_ERR_METER_FAIL then s.supply.energy else s.supply.energy + mv.toNat * ma.toNat) ∧
      (t.power.phase = s.power.phase → ∀ p, p ∉ [Part.time, Part.supply] → p.same s t) := by
  have he := exec_supplySample hp mv ma
  have hat := at_frame s s.nextSample []
  have time := at_time_lt s (nextSample_lt s)
  have on : (s.at s.nextSample).on F.PWR_ERR_METER_FAIL = s.on F.PWR_ERR_METER_FAIL := rfl
  have energy0 : (s.at s.nextSample).supply.energy = s.supply.energy := rfl
  generalize s.nextSample = ts at *
  generalize s.at ts = a at *
  obtain ⟨vin, iin, last, energy, -, fr⟩ := meter_spec a ts mv.toNat ma.toNat mv.isLt ma.isLt
  generalize a.meter ts mv.toNat ma.toNat = m at *
  generalize decide (ts % 8192 = 8176) = b at *
  have kv := (judged_classify m quiet_vin (by decide) ts mv.toNat b).sampled
    (sampled_sampleEnd _ quiet_vin (by decide) (by unfold Apart; decide) (by unfold Apart; decide) (by unfold Apart; decide) ts mv.toNat b)
  have ki := (judged_classify m quiet_iin (by decide) ts mv.toNat b).sampled
    (sampled_sampleEnd _ quiet_iin (by decide) (by unfold Apart; decide) (by unfold Apart; decide) (by unfold Apart; decide) ts mv.toNat b)
  generalize sampleEnd (m.classify ts mv.toNat b) ts mv.toNat b = w at *
  have parts : SameParts [.time, .supply] s m := fun q hq =>
    Part.same_trans (hat.2 q fun k => hq (by simp_all)) (fr.2 q fun k => hq (by simp_all))
  refine answers_of_done he ⟨?_, ?_, ?_, ?_, ?_, fun hph q hq => ?_⟩
  · rw [State.refreshPf_time, kv.time]
    exact (fr.2 .time (by decide)).trans time
  · rw [State.refreshPf_fld _ _ (by decide), kv.fld, vin]
  · rw [State.refreshPf_fld _ _ (by decide), ki.fld, iin]
  · rw [State.refreshPf_supply, kv.lastSample, last]
  · rw [State.refreshPf_supply, kv.energy, energy, on, energy0]
  · rw [State.refreshPf_power] at hph
    have hm : m.power = s.power := parts .power (by decide)
    have hw := kv.parts (hph.trans (congrArg Power.phase hm).symm)
    exact Part.same_trans (parts q hq) (Part.same_trans (hw q fun k => hq (by simp_all)) ((frame_refreshPf w [] []).2 q (by simp)))

/-! ### LOSS by a sample -/

theorem quiet_lossMv : Quiet F.PWR_LOSS_MV := by unfold Quiet Apart; decide
theorem quiet_lossSamples : Quiet F.PWR_LOSS_SAMPLES := by unfold Quiet Apart; decide

theorem sampleEnd_phase (b : State) (ts mv : Nat) (last : Bool) : (sampleEnd b ts mv last).power.phase = b.power.phase :=
  congrArg Power.phase ((sampled_sampleEnd b quiet_vin (by decide) (by unfold Apart; decide) (by unfold Apart; decide) (by unfold Apart; decide)
    ts mv last).parts .power (by simp))

/-- The state that a sample brings to the LOSS step. -/
theorem sample_before_loss (s : State) (ts mv ma : Nat) (hv : mv < 2 ^ 16) (ha : ma < 2 ^ 16) (b : Bool) :
    let p := judgeClasses ((s.at ts).meter ts mv ma) ts mv b
    p.fld F.PWR_LOSS_MV = s.fld F.PWR_LOSS_MV ∧ p.fld F.PWR_LOSS_SAMPLES = s.fld F.PWR_LOSS_SAMPLES ∧
      p.supply.lossRun = s.supply.lossRun ∧ p.power.phase = s.power.phase := by
  obtain ⟨-, -, -, -, run, fr⟩ := meter_spec (s.at ts) ts mv ma hv ha
  have h1 := sampled_judgeClasses ((s.at ts).meter ts mv ma) quiet_lossMv ts mv b
  have h2 := sampled_judgeClasses ((s.at ts).meter ts mv ma) quiet_lossSamples ts mv b
  exact ⟨h1.fld.trans (fr.fld_eq _ (by decide) (by decide)), h2.fld.trans (fr.fld_eq _ (by decide) (by decide)), h1.lossRun.trans run,
    congrArg Power.phase ((h1.parts .power (by simp)).trans (fr.2 .power (by decide)))⟩

theorem stepLoss_declares (hp : s.power.phase ≠ .loss) (ts mv : Nat) (hc : s.fld F.PWR_LOSS_SAMPLES ≤ (lossRunOf s ts mv).count) :
    (s.stepLoss ts mv).power.phase = .loss := by
  rw [stepLoss_eq, if_pos hc]
  have hq : ({ s with supply := { s.supply with lossRun := lossRunOf s ts mv } } : State).power = s.power := rfl
  generalize ({ s with supply := { s.supply with lossRun := lossRunOf s ts mv } } : State) = t at *
  obtain ⟨-, -, -, -, phase⟩ := declareLoss_keeps t quiet_vin (by decide) (by rwa [hq]) (lossRunOf s ts mv).start
    (lossRunOf s ts mv).count (lossRunOf s ts mv).extreme .voltage
  exact phase

theorem stepRun_count (r : Run) (ts v : Nat) (g : Nat → Nat → Nat) : (stepRun r true ts v g).count = r.count + 1 := by
  unfold stepRun
  split
  · split
    · show 1 = r.count + 1
      omega
    · rfl
  · contradiction

theorem supplySample_loss_answers (mv ma : BitVec 16) (s : State) (hp : s.power.phase = .run) (hm : s.on F.PWR_ERR_METER_FAIL = false)
    (hc : s.fld F.PWR_LOSS_SAMPLES ≤ s.supply.lossRun.count + 1) (hv : mv.toNat < s.fld F.PWR_LOSS_MV) :
    Answers (.supplySample mv ma) s fun t => t.power.phase = .loss := by
  have he := exec_supplySample (s := s) (by rw [hp]; decide) mv ma
  obtain ⟨mvs, cnt, run, phase⟩ := sample_before_loss s s.nextSample mv.toNat ma.toNat mv.isLt ma.isLt (decide (s.nextSample % 8192 = 8176))
  obtain ⟨-, -, -, -, -, fr⟩ := meter_spec (s.at s.nextSample) s.nextSample mv.toNat ma.toNat mv.isLt ma.isLt
  have hon : ((s.at s.nextSample).meter s.nextSample mv.toNat ma.toNat).on F.PWR_ERR_METER_FAIL = false := by
    have h1 := fr.fld_eq F.PWR_ERR_METER_FAIL (by decide) (by decide)
    rw [State.on, h1]
    exact hm
  rw [classify_eq hon] at he
  generalize judgeClasses _ _ _ _ = p at *
  refine answers_of_done he ?_
  rw [State.refreshPf_power, sampleEnd_phase]
  refine stepLoss_declares (by rw [phase, hp]; decide) _ _ ?_
  rw [lossRunOf, mvs, decide_eq_true hv, stepRun_count, cnt, run]
  exact hc

theorem supplySample_calm_answers (mv ma : BitVec 16) (s : State) (hp : s.power.phase = .run) (hc : 0 < s.fld F.PWR_LOSS_SAMPLES)
    (hv : s.fld F.PWR_LOSS_MV ≤ mv.toNat) : Answers (.supplySample mv ma) s fun t => t.power.phase = .run := by
  have he := exec_supplySample (s := s) (by rw [hp]; decide) mv ma
  obtain ⟨mvs, cnt, -, phase⟩ := sample_before_loss s s.nextSample mv.toNat ma.toNat mv.isLt ma.isLt (decide (s.nextSample % 8192 = 8176))
  obtain ⟨-, -, -, -, -, fr⟩ := meter_spec (s.at s.nextSample) s.nextSample mv.toNat ma.toNat mv.isLt ma.isLt
  have power : ((s.at s.nextSample).meter s.nextSample mv.toNat ma.toNat).power = s.power := fr.2 .power (by decide)
  refine answers_of_done he ?_
  rw [State.refreshPf_power, sampleEnd_phase]
  generalize (s.at s.nextSample).meter s.nextSample mv.toNat ma.toNat = m at *
  cases hon : m.on F.PWR_ERR_METER_FAIL with
  | true =>
    rw [State.classify, if_pos hon, power, hp]
  | false =>
    rw [classify_eq hon, stepLoss_eq]
    generalize judgeClasses _ _ _ _ = p at *
    have hr : (lossRunOf p s.nextSample mv.toNat).count = 0 := by
      rw [lossRunOf, mvs, decide_eq_false (by omega)]
      rfl
    rw [if_neg (by rw [hr, cnt]; omega)]
    exact phase.trans hp

/-! ### The self-check (R102) -/

theorem on_congr (h : t.fld f = s.fld f) : t.on f = s.on f := by simp only [State.on, h]

/-- What METER_FAIL writes before SHED_REQ and REFRESH_ONLY follow. -/
def meterFailed (s : State) : State :=
  let t := overList s.supply.openFive s State.closeEvent
  let u := { t with supply := { t.supply with
    sag := none, dropout := none, swell := none, transient := none, ripple := none
    sagRun := {}, dropoutRun := {}, swellRun := {}, lossRun := {}
    sagQuiet := 0, dropoutQuiet := 0, swellQuiet := 0, transientQuiet := 0 } }
  let v := ((((u.lower F.PWR_STATUS_SAG_ACTIVE).lower F.PWR_STATUS_DROPOUT_ACTIVE).lower
    F.PWR_STATUS_SWELL_ACTIVE).lower F.PWR_STATUS_RIPPLE_ACTIVE).raise F.PWR_ERR_METER_FAIL
  v.setFld F.PWR_TICK_POWER_POWER 0xFFFF

theorem meterFail_eq (s : State) : s.meterFail = (meterFailed s).updateShed.updateRefreshOnly := rfl

theorem closeEvents_parts (s : State) (l : List OpenEvent) : SameParts [.supply] s (overList l s State.closeEvent) :=
  (SameParts.refl _ s).walk l _ fun u e => ((Sampled.refl F.PWR_VIN_LAST u).closeEvent quiet_vin e).parts

theorem meterFailed_spec (s : State) : (meterFailed s).fld F.PWR_ERR_METER_FAIL = 1 ∧ (meterFailed s).fld F.PWR_TICK_POWER_POWER = 0xFFFF ∧
    (meterFailed s).fld F.PWR_STATUS_SAG_ACTIVE = 0 ∧ (meterFailed s).fld F.PWR_STATUS_DROPOUT_ACTIVE = 0 ∧
    (meterFailed s).supply.sag = none ∧ (meterFailed s).supply.dropout = none ∧ (meterFailed s).supply.transient = none ∧
    SameParts [.supply] s (meterFailed s) := by
  unfold meterFailed
  extract_lets t old u v
  have ht : SameParts [.supply] s t := closeEvents_parts s _
  have hu : SameParts [.supply] s u := ht.trans (Frame.sameParts (frame_supply t _ (r := []) (by simp)))
  have sag : u.supply.sag = none := rfl
  have drop : u.supply.dropout = none := rfl
  have tran : u.supply.transient = none := rfl
  have vsag : v.fld F.PWR_STATUS_SAG_ACTIVE = 0 := by
    unfold v State.lower State.raise
    rw [State.fld_setFld_off _ F.PWR_ERR_METER_FAIL F.PWR_STATUS_SAG_ACTIVE _ (by decide),
      State.fld_setFld_lo _ F.PWR_STATUS_RIPPLE_ACTIVE F.PWR_STATUS_SAG_ACTIVE _ rfl rfl (by decide) (by decide),
      State.fld_setFld_lo _ F.PWR_STATUS_SWELL_ACTIVE F.PWR_STATUS_SAG_ACTIVE _ rfl rfl (by decide) (by decide),
      State.fld_setFld_lo _ F.PWR_STATUS_DROPOUT_ACTIVE F.PWR_STATUS_SAG_ACTIVE _ rfl rfl (by decide) (by decide),
      State.fld_setFld_same _ _ _ (by decide)]
    rfl
  have vdrop : v.fld F.PWR_STATUS_DROPOUT_ACTIVE = 0 := by
    unfold v State.lower State.raise
    rw [State.fld_setFld_off _ F.PWR_ERR_METER_FAIL F.PWR_STATUS_DROPOUT_ACTIVE _ (by decide),
      State.fld_setFld_lo _ F.PWR_STATUS_RIPPLE_ACTIVE F.PWR_STATUS_DROPOUT_ACTIVE _ rfl rfl (by decide) (by decide),
      State.fld_setFld_lo _ F.PWR_STATUS_SWELL_ACTIVE F.PWR_STATUS_DROPOUT_ACTIVE _ rfl rfl (by decide) (by decide),
      State.fld_setFld_same _ _ _ (by decide)]
    rfl
  have vfail : v.fld F.PWR_ERR_METER_FAIL = 1 := State.fld_setFld_same _ F.PWR_ERR_METER_FAIL 1 (by decide)
  have vs : v.supply = u.supply := rfl
  have vp : SameParts [.supply] s v := ((((hu.setFld F.PWR_STATUS_SAG_ACTIVE 0).setFld F.PWR_STATUS_DROPOUT_ACTIVE 0).setFld
    F.PWR_STATUS_SWELL_ACTIVE 0).setFld F.PWR_STATUS_RIPPLE_ACTIVE 0).setFld F.PWR_ERR_METER_FAIL 1
  clear_value v u
  refine ⟨?_, ?_, ?_, ?_, ?_, ?_, ?_, vp.setFld _ _⟩
  · rw [State.fld_setFld_off v F.PWR_TICK_POWER_POWER F.PWR_ERR_METER_FAIL _ (by decide), vfail]
  · exact State.fld_setFld_same v F.PWR_TICK_POWER_POWER _ (by decide)
  · rw [State.fld_setFld_off v F.PWR_TICK_POWER_POWER F.PWR_STATUS_SAG_ACTIVE _ (by decide), vsag]
  · rw [State.fld_setFld_off v F.PWR_TICK_POWER_POWER F.PWR_STATUS_DROPOUT_ACTIVE _ (by decide), vdrop]
  · rw [State.setFld_supply, vs, sag]
  · rw [State.setFld_supply, vs, drop]
  · rw [State.setFld_supply, vs, tran]

theorem updateShed_supply (s : State) : s.updateShed.supply.sag = s.supply.sag ∧ s.updateShed.supply.dropout = s.supply.dropout ∧
    s.updateShed.supply.transient = s.supply.transient := by
  unfold State.updateShed
  extract_lets now was t
  split <;> exact ⟨rfl, rfl, rfl⟩

theorem updateRefreshOnly_supply (s : State) : s.updateRefreshOnly.supply = s.supply := by
  unfold State.updateRefreshOnly
  extract_lets t
  exact overList_keeps (fun u : State => u.supply = s.supply) _ s _ rfl fun u k h => h

/-- What SHED_REQ and REFRESH_ONLY following leave of PWR_STATUS. -/
theorem follow_fld (s : State) (h1 : Apart f F.PWR_STATUS_SHED_REQ) (h2 : Apart f F.PWR_STATUS_HBM_REFRESH_ONLY)
    (hk : ∀ k, k < 8 → Apart f (F.HBM_STATUS_REFRESH_ONLY k)) : s.updateShed.updateRefreshOnly.fld f = s.fld f := by
  have hs : s.updateShed.fld f = s.fld f := (updateShed_fld s f).trans (fld_setFld_apart s _ h1)
  unfold State.updateRefreshOnly
  extract_lets t
  have ht : t.fld f = s.fld f := overList_keeps_mem (fun u : State => u.fld f = s.fld f) _ _ _ hs fun u k hm hu =>
    (fld_setFld_apart u _ (hk k (List.mem_range.1 hm))).trans hu
  exact (fld_setFld_apart t _ h2).trans ht

theorem updateRefreshOnly_keeps (s : State) (h2 : Apart f F.PWR_STATUS_HBM_REFRESH_ONLY)
    (hk : ∀ k, k < 8 → Apart f (F.HBM_STATUS_REFRESH_ONLY k)) : s.updateRefreshOnly.fld f = s.fld f := by
  unfold State.updateRefreshOnly
  extract_lets t
  have ht : t.fld f = s.fld f := overList_keeps_mem (fun u : State => u.fld f = s.fld f) _ _ _ rfl fun u k hm hu =>
    (fld_setFld_apart u _ (hk k (List.mem_range.1 hm))).trans hu
  exact (fld_setFld_apart t _ h2).trans ht

theorem apart_refreshOnly (h : f.off < R.HBM_STATUS 0) (k : Nat) : Apart f (F.HBM_STATUS_REFRESH_ONLY k) :=
  .inl (by simp only [F.HBM_STATUS_REFRESH_ONLY, R.HBM_STATUS] at h ⊢; omega)

theorem follow_parts (s : State) : SameParts [.supply] s s.updateShed.updateRefreshOnly :=
  (((Sampled.refl F.PWR_VIN_LAST s).updateShed (by decide)).updateRefreshOnly (by decide) fun k _ => apart_refreshOnly (by decide) k).parts

theorem meterSelfCheck_ok_answers (s : State) (hp : s.power.phase ≠ .off) : Answers (.meterSelfCheck true) s fun t =>
    t.fld F.PWR_STATUS_METER_OK = 1 ∧ OtherBits s t F.PWR_STATUS_METER_OK ∧ Frame s t [R.PWR_STATUS] [] := by
  have he : exec (.meterSelfCheck true) s = done (s.setFld F.PWR_STATUS_METER_OK 1) := (if_neg hp : execMeterSelfCheck true s = _)
  obtain ⟨t, ht, h1, h2, h3, -⟩ := answers_setFld he (by decide) (by decide)
  exact ⟨t, ht, h1, h2, h3⟩

theorem shedRequest_of_meterFail (h : s.fld F.PWR_ERR_METER_FAIL = 1) : s.shedRequest = true := by
  simp [State.shedRequest, State.on, h]

/-- An entry that closes touches no bit of PWR_STATUS. -/
theorem closeEvent_status (s : State) (e : OpenEvent) : (s.closeEvent e).fld F.PWR_STATUS_METER_OK = s.fld F.PWR_STATUS_METER_OK := by
  obtain ⟨h0, -, -, h3⟩ := evt_range e.seq
  have log : ∀ o, R.PWR_EVT_W0 0 ≤ o ∧ o < R.PWR_EVT_W0 32 → F.PWR_STATUS_METER_OK.off ≠ o := fun o h => by
    simp only [R.PWR_EVT_W0, F.PWR_STATUS_METER_OK, R.PWR_STATUS] at h ⊢
    omega
  unfold State.closeEvent
  extract_lets t
  have ht : t.fld F.PWR_STATUS_METER_OK = s.fld F.PWR_STATUS_METER_OK := by
    unfold t State.updateEvent
    extract_lets i
    split
    · exact (State.fld_setFld_off _ (F.PWR_EVT_W3_DURATION i) _ _ (log _ h3)).trans
        (State.fld_setFld_off s (F.PWR_EVT_W0_EXTREME_MV i) _ _ (log _ h0))
    · rfl
  refine (State.fld_setFld_off _ F.INT_PF_EVENT_SUPPLY _ _ (by decide)).trans (Eq.trans ?_ ht)
  generalize decide (t.supply.events ≤ e.seq + 32) = b
  cases b
  · rfl
  · exact State.fld_setFld_off t (F.PWR_EVT_W0_OPEN (e.seq % 32)) _ _ (log _ h0)

theorem meterSelfCheck_fail_answers (s : State) (hp : s.power.phase ≠ .off) (hm : s.on F.PWR_ERR_METER_FAIL = false) :
    Answers (.meterSelfCheck false) s fun t =>
      t.fld F.PWR_STATUS_METER_OK = 0 ∧ t.fld F.PWR_ERR_METER_FAIL = 1 ∧ t.fld F.PWR_TICK_POWER_POWER = 0xFFFF ∧
        t.fld F.PWR_STATUS_SHED_REQ = 1 ∧ t.fld F.PWR_STATUS_SAG_ACTIVE = 0 ∧ t.fld F.PWR_STATUS_DROPOUT_ACTIVE = 0 ∧
        t.supply.sag = none ∧ t.supply.dropout = none ∧ t.supply.transient = none ∧
        ∀ p, p ≠ Part.supply → p.same s t := by
  let a := s.setFld F.PWR_STATUS_METER_OK 0
  have he : exec (.meterSelfCheck false) s = done a.meterFail :=
    (if_neg hp : execMeterSelfCheck false s = _).trans (congrArg done (if_neg (by simp [hm])))
  have ok : a.fld F.PWR_STATUS_METER_OK = 0 := State.fld_setFld_same s F.PWR_STATUS_METER_OK 0 (by decide)
  have pa : SameParts [.supply] s a := (SameParts.refl _ s).setFld F.PWR_STATUS_METER_OK 0
  clear_value a
  rw [meterFail_eq] at he
  have ok' : (meterFailed a).fld F.PWR_STATUS_METER_OK = 0 := by
    have hl : (overList a.supply.openFive a State.closeEvent).fld F.PWR_STATUS_METER_OK = a.fld F.PWR_STATUS_METER_OK :=
      overList_keeps (fun u : State => u.fld F.PWR_STATUS_METER_OK = a.fld F.PWR_STATUS_METER_OK) _ a _ rfl fun u e hu =>
        (closeEvent_status u e).trans hu
    unfold meterFailed
    extract_lets t old u v
    have hv : v.fld F.PWR_STATUS_METER_OK = 0 := by
      unfold v State.lower State.raise
      rw [State.fld_setFld_off _ F.PWR_ERR_METER_FAIL F.PWR_STATUS_METER_OK _ (by decide),
        State.fld_setFld_lo _ F.PWR_STATUS_RIPPLE_ACTIVE F.PWR_STATUS_METER_OK _ rfl rfl (by decide) (by decide),
        State.fld_setFld_lo _ F.PWR_STATUS_SWELL_ACTIVE F.PWR_STATUS_METER_OK _ rfl rfl (by decide) (by decide),
        State.fld_setFld_lo _ F.PWR_STATUS_DROPOUT_ACTIVE F.PWR_STATUS_METER_OK _ rfl rfl (by decide) (by decide),
        State.fld_setFld_lo _ F.PWR_STATUS_SAG_ACTIVE F.PWR_STATUS_METER_OK _ rfl rfl (by decide) (by decide)]
      exact hl.trans ok
    rw [State.fld_setFld_off v F.PWR_TICK_POWER_POWER F.PWR_STATUS_METER_OK _ (by decide), hv]
  obtain ⟨fail, power, sag, drop, ssag, sdrop, stran, parts⟩ := meterFailed_spec a
  generalize meterFailed a = m at *
  obtain ⟨us, ud, ut⟩ := updateShed_supply m
  have far : ∀ g : Fld, g.off < R.HBM_STATUS 0 → ∀ k, k < 8 → Apart g (F.HBM_STATUS_REFRESH_ONLY k) := fun g hg k _ => apart_refreshOnly hg k
  have keep : ∀ g : Fld, g.off < R.HBM_STATUS 0 → g.off ≠ R.INT_PF_STATUS → Apart g F.PWR_STATUS_SHED_REQ → Apart g F.PWR_STATUS_HBM_REFRESH_ONLY →
      m.updateShed.updateRefreshOnly.refreshPf.fld g = m.fld g := fun g hg hi h1 h2 =>
    (State.refreshPf_fld _ _ hi).trans (follow_fld m h1 h2 (far g hg))
  refine answers_of_done he ⟨?_, ?_, ?_, ?_, ?_, ?_, ?_, ?_, ?_, fun p hp => ?_⟩
  · exact (keep _ (by decide) (by decide) (by unfold Apart; decide) (by unfold Apart; decide)).trans ok'
  · exact (keep _ (by decide) (by decide) (by unfold Apart; decide) (by unfold Apart; decide)).trans fail
  · exact (keep _ (by decide) (by decide) (by unfold Apart; decide) (by unfold Apart; decide)).trans power
  · rw [State.refreshPf_fld _ _ (by decide), updateRefreshOnly_keeps _ (by unfold Apart; decide) (far _ (by decide)), updateShed_shedReq,
      shedRequest_of_meterFail fail]
    rfl
  · exact (keep _ (by decide) (by decide) (by unfold Apart; decide) (by unfold Apart; decide)).trans sag
  · exact (keep _ (by decide) (by decide) (by unfold Apart; decide) (by unfold Apart; decide)).trans drop
  · rw [State.refreshPf_supply, updateRefreshOnly_supply, us, ssag]
  · rw [State.refreshPf_supply, updateRefreshOnly_supply, ud, sdrop]
  · rw [State.refreshPf_supply, updateRefreshOnly_supply, ut, stran]
  · have hp' : p ∉ [Part.supply] := by simpa using hp
    exact Part.same_trans (pa p hp') (Part.same_trans (parts p hp') (Part.same_trans (follow_parts m p hp')
      ((frame_refreshPf m.updateShed.updateRefreshOnly [] []).2 p (by simp))))

/-! ### Temperatures (R115 to R117) -/

theorem foldl_max_lt (l : List (BitVec 8)) (b : Nat) (hb : b < 256) : (l.map BitVec.toNat).foldl max b < 256 := by
  induction l generalizing b with
  | nil => exact hb
  | cons x l ih => exact ih _ (max_lt hb x.isLt)

/-- A reading of the die before a trip. -/
def dieRead (s : State) (m : Nat) (n hi : Nat) : State :=
  let a := (s.setFld F.PWR_TEMP_DIE_MAX_C m).setFld F.PWR_TEMP_DIE_PEAK_C (max m (s.fld F.PWR_TEMP_DIE_PEAK_C))
  ({ a with supply := { a.supply with hotReads := n, hotMax := hi } } : State).stepThermal.updateShed

theorem dieRead_spec (s : State) (m n hi : Nat) (hm : m < 256) : (dieRead s m n hi).fld F.PWR_TEMP_DIE_MAX_C = m ∧
    (dieRead s m n hi).fld F.PWR_TEMP_DIE_PEAK_C = max m (s.fld F.PWR_TEMP_DIE_PEAK_C) ∧ SameParts [.supply] s (dieRead s m n hi) := by
  unfold dieRead
  extract_lets a
  have peak := State.fld_lt s F.PWR_TEMP_DIE_PEAK_C
  have h1 : a.fld F.PWR_TEMP_DIE_MAX_C = m := by
    unfold a
    rw [State.fld_setFld_lo _ F.PWR_TEMP_DIE_PEAK_C F.PWR_TEMP_DIE_MAX_C _ rfl rfl (by decide) (by decide),
      State.fld_setFld_same _ _ _ (by decide)]
    exact Nat.mod_eq_of_lt hm
  have h2 : a.fld F.PWR_TEMP_DIE_PEAK_C = max m (s.fld F.PWR_TEMP_DIE_PEAK_C) := by
    unfold a
    rw [State.fld_setFld_same _ _ _ (by decide)]
    exact Nat.mod_eq_of_lt (max_lt hm peak)
  have pa : SameParts [.supply] s a := ((SameParts.refl _ s).setFld _ _).setFld _ _
  have f1 : ({ a with supply := { a.supply with hotReads := n, hotMax := hi } } : State).fld F.PWR_TEMP_DIE_MAX_C = m := h1
  have f2 : ({ a with supply := { a.supply with hotReads := n, hotMax := hi } } : State).fld F.PWR_TEMP_DIE_PEAK_C = _ := h2
  have fp := pa.trans (Frame.sameParts (frame_supply a { a.supply with hotReads := n, hotMax := hi } (r := []) (by simp)))
  generalize ({ a with supply := { a.supply with hotReads := n, hotMax := hi } } : State) = b at *
  have step : ∀ f : Fld, Quiet f → Sampled f b b.stepThermal.updateShed := fun f hq =>
    ((Sampled.refl f b).stepThermal hq).updateShed hq.2.2.2.1
  exact ⟨(step _ (by unfold Quiet Apart; decide)).fld.trans f1, (step _ (by unfold Quiet Apart; decide)).fld.trans f2,
    fp.trans (step F.PWR_VIN_LAST quiet_vin).parts⟩

theorem junctionSensorRead_answers (l : List (BitVec 8)) (s : State) (hp : s.power.phase ≠ .off) : Answers (.junctionSensorRead l) s fun t =>
    t.fld F.PWR_TEMP_DIE_MAX_C = (l.map BitVec.toNat).foldl max 0 ∧
      t.fld F.PWR_TEMP_DIE_PEAK_C = max ((l.map BitVec.toNat).foldl max 0) (s.fld F.PWR_TEMP_DIE_PEAK_C) ∧
      (t.power.phase = s.power.phase → ∀ p, p ≠ Part.supply → p.same s t) := by
  have hm : (l.map BitVec.toNat).foldl max 0 < 256 := foldl_max_lt l 0 (by decide)
  have he : exec (.junctionSensorRead l) s = execJunctionSensorRead l s := rfl
  unfold execJunctionSensorRead at he
  rw [if_neg hp] at he
  generalize (l.map BitVec.toNat).foldl max 0 = m at *
  extract_lets +onlyGivenNames top hot n hi a old b at he
  obtain ⟨die, peak, parts⟩ := dieRead_spec s m n hi hm
  change b.fld _ = _ at die
  change b.fld _ = _ at peak
  change SameParts _ s b at parts
  clear_value b
  -- what a state that judges b answers
  have finish : ∀ w : State, Judged F.PWR_TEMP_DIE_MAX_C b w → Judged F.PWR_TEMP_DIE_PEAK_C b w →
      w.refreshPf.fld F.PWR_TEMP_DIE_MAX_C = m ∧ w.refreshPf.fld F.PWR_TEMP_DIE_PEAK_C = max m (s.fld F.PWR_TEMP_DIE_PEAK_C) ∧
        (w.refreshPf.power.phase = s.power.phase → ∀ p, p ≠ Part.supply → p.same s w.refreshPf) := fun w h1 h2 =>
    ⟨by rw [State.refreshPf_fld _ _ (by decide), h1.fld, die], by rw [State.refreshPf_fld _ _ (by decide), h2.fld, peak], fun hph p hne => by
      have hb : b.power = s.power := parts .power (by decide)
      rw [State.refreshPf_power] at hph
      have hn : p ∉ [Part.supply] := by simpa using hne
      exact Part.same_trans (parts p hn) (Part.same_trans (h1.parts (hph.trans (congrArg Power.phase hb).symm) p hn)
        ((frame_refreshPf w [] []).2 p (by simp)))⟩
  have hq1 : Quiet F.PWR_TEMP_DIE_MAX_C := by unfold Quiet Apart; decide
  have hq2 : Quiet F.PWR_TEMP_DIE_PEAK_C := by unfold Quiet Apart; decide
  by_cases h2 : 2 ≤ n
  · rw [if_pos h2] at he
    exact answers_of_done he (finish _ ((Sampled.refl _ b).draw.then (judged_declareLoss _ hq1 (by decide) _ _ _ _))
      ((Sampled.refl _ b).draw.then (judged_declareLoss _ hq2 (by decide) _ _ _ _)))
  · rw [if_neg h2] at he
    exact answers_of_done he (finish b (Sampled.refl _ b).judged (Sampled.refl _ b).judged)

theorem bit_on (s : State) {f : Fld} (hw : f.width = 1) : bit (s.on f) = s.fld f := by
  have h := State.fld_lt s f
  rw [hw] at h
  unfold State.on
  interval_cases s.fld f <;> rfl

/-- The fields of a stack's status are quiet, and apart from REFRESH_ONLY. -/
theorem quiet_hbm {k : Nat} (ho : f.off = R.HBM_STATUS k) : Quiet f := by
  simp only [Quiet, Apart, ho, R.HBM_STATUS, R.PWR_EVT_W0, R.PWR_EVT_TOTAL, R.INT_PF_EVENT, R.PWR_STATUS, F.PWR_TEMP_THERMAL_REQ, R.PWR_TEMP]
  omega

theorem apart_hbm {k : Nat} (ho : f.off = R.HBM_STATUS k) (hc : f.cold = 0) (hw : f.lo + f.width ≤ 32) (hl : 4 ≤ f.lo) (j : Nat) :
    Apart f (F.HBM_STATUS_REFRESH_ONLY j) := by
  by_cases h : j = k
  · subst h
    exact .inr ⟨ho, hc, hw, .inr hl⟩
  · exact .inl (by rw [ho]; simp only [F.HBM_STATUS_REFRESH_ONLY, R.HBM_STATUS]; omega)

theorem hbmTempReport_answers (k : Fin 8) (c : BitVec 8) (s : State) (hp : s.power.phase ≠ .off) : Answers (.hbmTempReport k c) s fun t =>
    t.fld (F.HBM_STATUS_TEMP_C k) = c.toNat ∧
      t.fld (F.HBM_STATUS_TEMP_CRITICAL k) = (if 105 ≤ c.toNat then 1 else if c.toNat ≤ 100 then 0
        else s.fld (F.HBM_STATUS_TEMP_CRITICAL k)) ∧
      t.fld (F.HBM_STATUS_TEMP_HOT k) = (if 95 ≤ c.toNat then 1 else if c.toNat ≤ 90 then 0
        else s.fld (F.HBM_STATUS_TEMP_HOT k)) ∧ ∀ p, p ≠ Part.supply → p.same s t := by
  have he : exec (.hbmTempReport k c) s = execHbmTempReport k c s := rfl
  unfold execHbmTempReport at he
  rw [if_neg hp] at he
  extract_lets +onlyGivenNames i x crit hot a b at he
  have hx : x < 256 := c.isLt
  have hcrit : bit crit = if 105 ≤ x then 1 else if x ≤ 100 then 0 else s.fld (F.HBM_STATUS_TEMP_CRITICAL i) := by
    rw [← bit_on s (f := F.HBM_STATUS_TEMP_CRITICAL i) rfl]
    unfold crit
    split
    · rfl
    · split <;> rfl
  have hhot : bit hot = if 95 ≤ x then 1 else if x ≤ 90 then 0 else s.fld (F.HBM_STATUS_TEMP_HOT i) := by
    rw [← bit_on s (f := F.HBM_STATUS_TEMP_HOT i) rfl]
    unfold hot
    split
    · rfl
    · split <;> rfl
  have bl : ∀ y : Bool, bit y < 2 ^ 1 := fun y => by cases y <;> decide
  have a1 : a.fld (F.HBM_STATUS_TEMP_C i) = x := by
    unfold a
    rw [State.fld_setFld_lo _ (F.HBM_STATUS_TEMP_CRITICAL i) (F.HBM_STATUS_TEMP_C i) _ rfl rfl (show 8 + 8 ≤ 32 by decide) (.inr (show 5 + 1 ≤ 8 by decide)),
      State.fld_setFld_lo _ (F.HBM_STATUS_TEMP_HOT i) (F.HBM_STATUS_TEMP_C i) _ rfl rfl (show 8 + 8 ≤ 32 by decide) (.inr (show 4 + 1 ≤ 8 by decide)),
      State.fld_setFld_same _ _ _ (show 8 + 8 ≤ 32 by decide)]
    exact Nat.mod_eq_of_lt hx
  have a2 : a.fld (F.HBM_STATUS_TEMP_CRITICAL i) = bit crit := by
    unfold a
    rw [State.fld_setFld_same _ _ _ (show 5 + 1 ≤ 32 by decide)]
    exact Nat.mod_eq_of_lt (bl crit)
  have a3 : a.fld (F.HBM_STATUS_TEMP_HOT i) = bit hot := by
    unfold a
    rw [State.fld_setFld_lo _ (F.HBM_STATUS_TEMP_CRITICAL i) (F.HBM_STATUS_TEMP_HOT i) _ rfl rfl (show 4 + 1 ≤ 32 by decide)
      (.inl (show 4 + 1 ≤ 5 by decide)), State.fld_setFld_same _ _ _ (show 4 + 1 ≤ 32 by decide)]
    exact Nat.mod_eq_of_lt (bl hot)
  have pb : SameParts [.supply] s b := ((((SameParts.refl _ s).setFld _ _).setFld _ _).setFld _ _).setFld _ _
  have fb : ∀ f : Fld, f.off = R.HBM_STATUS i → b.fld f = a.fld f := fun f hf =>
    State.fld_setFld_off a F.PWR_TEMP_HBM_MAX_C f _ (by rw [hf]; simp only [R.HBM_STATUS, F.PWR_TEMP_HBM_MAX_C, R.PWR_TEMP]; omega)
  clear_value a b crit hot
  have keep : ∀ f : Fld, f.off = R.HBM_STATUS i → f.cold = 0 → f.lo + f.width ≤ 32 → 4 ≤ f.lo →
      b.stepThermal.updateShed.updateRefreshOnly.refreshPf.fld f = a.fld f := fun f ho hc hw hl => by
    have hs : f.off ≠ R.PWR_STATUS := by rw [ho]; simp only [R.HBM_STATUS, R.PWR_STATUS]; omega
    rw [State.refreshPf_fld _ _ (by rw [ho]; simp only [R.HBM_STATUS, R.INT_PF_STATUS]; omega), ← fb f ho]
    exact ((((Sampled.refl f b).stepThermal (quiet_hbm ho)).updateShed hs).updateRefreshOnly hs fun j _ => apart_hbm ho hc hw hl j).fld
  refine answers_of_done he ⟨?_, ?_, ?_, fun p hne => ?_⟩
  · exact (keep (F.HBM_STATUS_TEMP_C i) rfl rfl (show 8 + 8 ≤ 32 by decide) (show 4 ≤ 8 by decide)).trans a1
  · exact (keep (F.HBM_STATUS_TEMP_CRITICAL i) rfl rfl (show 5 + 1 ≤ 32 by decide) (show 4 ≤ 5 by decide)).trans (a2.trans hcrit)
  · exact (keep (F.HBM_STATUS_TEMP_HOT i) rfl rfl (show 4 + 1 ≤ 32 by decide) (show 4 ≤ 4 by decide)).trans (a3.trans hhot)
  · have hn : p ∉ [Part.supply] := by simpa using hne
    have k := (((Sampled.refl F.PWR_VIN_LAST b).stepThermal quiet_vin).updateShed (by decide)).updateRefreshOnly (by decide) fun j _ =>
      apart_refreshOnly (by decide) j
    exact Part.same_trans (pb p hn) (Part.same_trans (k.parts p hn) ((frame_refreshPf _ [] []).2 p (by simp)))

/-- Settles O19: samples by `Judged`, what the front end keeps while its classes are judged; the self-check and the temperatures by what
they write. -/
theorem supplyEventsComplete : Obligations.SupplyEventsComplete :=
  ⟨supplySample_answers, supplySample_loss_answers, supplySample_calm_answers, meterSelfCheck_ok_answers, meterSelfCheck_fail_answers,
    junctionSensorRead_answers, hbmTempReport_answers⟩

end Sys2Proof.Machine
end

section
/-! LOSS, the last gasp and the power-down (03, 04, 20): O20. -/

namespace Sys2Proof.Machine

variable {s t u : State}

/-! ### The entry of a LOSS -/

/-- The first word of an entry. -/
def entryWord (ovp therm code extreme : Nat) : Nat := 2 ^ 31 + ovp * 2 ^ 30 + therm * 2 ^ 29 + code * 2 ^ 24 + extreme % 2 ^ 16

theorem entryWord_bits {ovp therm code : Nat} (extreme : Nat) (ho : ovp < 2) (ht : therm < 2) (hc : code < 16) :
    bitsOf (entryWord ovp therm code extreme % 2 ^ 32) 24 4 = code ∧ bitsOf (entryWord ovp therm code extreme % 2 ^ 32) 30 1 = ovp ∧
      bitsOf (entryWord ovp therm code extreme % 2 ^ 32) 29 1 = therm ∧
      bitsOf (entryWord ovp therm code extreme % 2 ^ 32) 0 16 = extreme % 2 ^ 16 := by
  simp only [bitsOf, entryWord]
  omega

/-- The registers as an event leaves them that took entry i with the words w0 to w3. -/
def entered (s : State) (i w0 w1 w2 w3 : Nat) : State :=
  (((((s.setWord (R.PWR_EVT_W0 i) w0).setWord (R.PWR_EVT_W1 i) w1).setWord (R.PWR_EVT_W2 i) w2).setWord (R.PWR_EVT_W3 i) w3).countMod
    F.PWR_EVT_TOTAL_TOTAL).raise F.INT_PF_EVENT_SUPPLY

theorem openEvent_eq (s : State) (c : SupplyClass) (start declare extreme : Nat) (why : LossWhy) :
    ∃ w1 w2 w3 x, (s.openEvent c start declare extreme why).2 =
      { entered s (s.supply.events % 32) (entryWord (bit (why = .overvoltage)) (bit (why = .thermal)) (supplyCode c) extreme) w1 w2 w3 with
        supply := x } := ⟨_, _, _, _, rfl⟩

theorem entered_spec (s : State) {i : Nat} (hi : i < 32) (w0 w1 w2 w3 : Nat) :
    (entered s i w0 w1 w2 w3).word (R.PWR_EVT_W0 i) 0 = w0 % 2 ^ 32 ∧
      (entered s i w0 w1 w2 w3).fld F.PWR_EVT_TOTAL_TOTAL = (s.fld F.PWR_EVT_TOTAL_TOTAL + 1) % 2 ^ 32 := by
  let a := (((s.setWord (R.PWR_EVT_W0 i) w0).setWord (R.PWR_EVT_W1 i) w1).setWord (R.PWR_EVT_W2 i) w2).setWord (R.PWR_EVT_W3 i) w3
  have ha : a.word (R.PWR_EVT_W0 i) 0 = w0 % 2 ^ 32 := by
    unfold a
    rw [State.word_setWord, if_neg (by simp only [R.PWR_EVT_W0, R.PWR_EVT_W3]; omega), State.word_setWord,
      if_neg (by simp only [R.PWR_EVT_W0, R.PWR_EVT_W2]; omega), State.word_setWord,
      if_neg (by simp only [R.PWR_EVT_W0, R.PWR_EVT_W1]; omega), State.word_setWord, if_pos rfl]
  have tot : a.fld F.PWR_EVT_TOTAL_TOTAL = s.fld F.PWR_EVT_TOTAL_TOTAL := by
    unfold a
    rw [fld_setWord_ne _ _ _ (by simp only [F.PWR_EVT_TOTAL_TOTAL, R.PWR_EVT_TOTAL, R.PWR_EVT_W3]; omega),
      fld_setWord_ne _ _ _ (by simp only [F.PWR_EVT_TOTAL_TOTAL, R.PWR_EVT_TOTAL, R.PWR_EVT_W2]; omega),
      fld_setWord_ne _ _ _ (by simp only [F.PWR_EVT_TOTAL_TOTAL, R.PWR_EVT_TOTAL, R.PWR_EVT_W1]; omega),
      fld_setWord_ne _ _ _ (by simp only [F.PWR_EVT_TOTAL_TOTAL, R.PWR_EVT_TOTAL, R.PWR_EVT_W0]; omega)]
  change ((a.countMod F.PWR_EVT_TOTAL_TOTAL).raise F.INT_PF_EVENT_SUPPLY).word _ _ = _ ∧
    ((a.countMod F.PWR_EVT_TOTAL_TOTAL).raise F.INT_PF_EVENT_SUPPLY).fld _ = _
  clear_value a
  constructor
  · have keep := ((SameWord.refl (R.PWR_EVT_W0 i) a).setFld F.PWR_EVT_TOTAL_TOTAL (a.fld F.PWR_EVT_TOTAL_TOTAL + 1)
      (by simp only [F.PWR_EVT_TOTAL_TOTAL, R.PWR_EVT_TOTAL, R.PWR_EVT_W0]; omega)).setFld F.INT_PF_EVENT_SUPPLY 1
      (by simp only [F.INT_PF_EVENT_SUPPLY, R.INT_PF_EVENT, R.PWR_EVT_W0]; omega)
    exact (keep 0).trans ha
  · rw [State.raise, State.fld_setFld_off _ F.INT_PF_EVENT_SUPPLY F.PWR_EVT_TOTAL_TOTAL _ (by decide), State.countMod,
      State.fld_setFld_same _ _ _ (by decide), tot]
    rfl

/-- The entry that an event takes, and the count of events. -/
theorem openEvent_entry (s : State) (c : SupplyClass) (start declare extreme : Nat) (why : LossWhy) :
    (s.openEvent c start declare extreme why).2.word (R.PWR_EVT_W0 (s.supply.events % 32)) 0 =
      entryWord (bit (why = .overvoltage)) (bit (why = .thermal)) (supplyCode c) extreme % 2 ^ 32 ∧
    (s.openEvent c start declare extreme why).2.fld F.PWR_EVT_TOTAL_TOTAL = (s.fld F.PWR_EVT_TOTAL_TOTAL + 1) % 2 ^ 32 := by
  obtain ⟨w1, w2, w3, x, he⟩ := openEvent_eq s c start declare extreme why
  obtain ⟨word, total⟩ := entered_spec s (Nat.mod_lt s.supply.events (show 0 < 32 by decide))
    (entryWord (bit (why = .overvoltage)) (bit (why = .thermal)) (supplyCode c) extreme) w1 w2 w3
  generalize entryWord _ _ _ _ = w0 at *
  rw [he]
  have fr := frame_supply (entered s (s.supply.events % 32) w0 w1 w2 w3) x (r := []) (parts := [.supply]) (by simp)
  generalize entered s (s.supply.events % 32) w0 w1 w2 w3 = b at *
  exact ⟨(fr.1 _ 0 (by simp only [R.PWR_EVT_W0, R.INT_PF_STATUS]; omega) (by simp)).trans word, (fr.fld_eq _ (by decide) (by simp)).trans total⟩

theorem lossRegs_same (t : State) {off : Nat} (hc : off ≠ R.CLK_STATUS ∧ off ≠ R.CLK_TILE_FREQ ∧ off ≠ R.CLK_ISLAND) : SameWord off t (lossRegs t) := by
  obtain ⟨status, freq, island⟩ := hc
  exact (((((((SameWord.refl off t).setFld F.CLK_STATUS_TW_LOCK 0 status).setFld F.CLK_STATUS_TE_LOCK 0 status).setFld F.CLK_STATUS_LINK_LOCK 0
    status).setFld F.CLK_STATUS_SHED 0 status).setFld F.CLK_STATUS_SLEWING 0 status).setFld F.CLK_TILE_FREQ_IN_FORCE_MULT 0 freq).setFld
    F.CLK_ISLAND_POWERED 0 island

theorem openEvent_flash (s : State) (c : SupplyClass) (start declare extreme : Nat) (why : LossWhy) :
    (s.openEvent c start declare extreme why).2.flash = s.flash :=
  ((Sampled.refl F.PWR_VIN_LAST s).openEvent quiet_vin c start declare extreme why).parts .flash (by simp)

theorem lossRegs_flash (t : State) : (lossRegs t).flash = t.flash :=
  (sampled_lossRegs (f := F.PWR_VIN_LAST) t (by decide)).parts .flash (by simp)

/-- LOSS as it was declared (R119, R122, R124). -/
theorem declareLoss_started (hp : s.power.phase ≠ .loss) (start declare extreme : Nat) (why : LossWhy) (hw : why ≠ .thermal) :
    LossStarted s (s.declareLoss start declare extreme why).refreshPf (bit (why = .overvoltage)) ∧
      (s.declareLoss start declare extreme why).refreshPf.fld (F.PWR_EVT_W0_EXTREME_MV (s.supply.events % 32)) = extreme % 2 ^ 16 := by
  have hi : s.supply.events % 32 < 32 := Nat.mod_lt _ (by decide)
  obtain ⟨entry, total⟩ := openEvent_entry s .loss start declare extreme why
  have flash := (lossRegs_flash _).trans (openEvent_flash s .loss start declare extreme why)
  have same := lossRegs_same (s.openEvent .loss start declare extreme why).2 (off := R.PWR_EVT_W0 (s.supply.events % 32))
    (by simp only [R.PWR_EVT_W0, R.CLK_STATUS, R.CLK_TILE_FREQ, R.CLK_ISLAND]; omega)
  have sameTotal := (lossRegs_same (s.openEvent .loss start declare extreme why).2 (off := R.PWR_EVT_TOTAL) (by decide)).fld
    F.PWR_EVT_TOTAL_TOTAL rfl
  rw [declareLoss_eq hp]
  generalize (s.openEvent .loss start declare extreme why).2 = o at *
  generalize lossRegs o = l at *
  obtain ⟨fld, -, -, phase⟩ := lossEnd_spec l s start extreme
  obtain ⟨halves, gasp, hbm, cores, net, slices, regions, log, perm⟩ := lossEnd_parts l s start extreme
  generalize lossEnd l s start extreme = e at *
  obtain ⟨bits6, bitsOvp, bitsTherm, bitsMv⟩ := entryWord_bits (ovp := bit (why = .overvoltage)) (therm := bit (why = .thermal)) (code := 6) extreme
    (by cases why <;> decide) (by cases why <;> decide) (by decide)
  have word : ∀ f : Fld, f.off = R.PWR_EVT_W0 (s.supply.events % 32) → f.cold = 0 → e.refreshPf.fld f =
      bitsOf (entryWord (bit (why = .overvoltage)) (bit (why = .thermal)) 6 extreme % 2 ^ 32) f.lo f.width := fun f ho hc => by
    rw [State.refreshPf_fld _ _ (by rw [ho]; simp only [R.PWR_EVT_W0, R.INT_PF_STATUS]; omega), fld, State.fld, ho, hc, same 0, entry]
    rfl
  refine ⟨⟨?_, ?_, ?_, ?_, ?_, ?_, ?_, ?_, ?_, ?_, ?_, ?_, ?_, ?_⟩, ?_⟩
  · rw [State.refreshPf_power, phase]
  · rw [State.refreshPf_power, halves]
  · rw [State.refreshPf_power, gasp]
  · rw [State.refreshPf_hbm, hbm]
  · rw [State.refreshPf_cores, cores]
  · rw [State.refreshPf_net, net]
  · rw [State.refreshPf_slices, slices]
  · rw [State.refreshPf_regions, regions]
  · rw [State.refreshPf_flash, log, flash]
  · rw [State.refreshPf_flash, perm, flash]
  · exact (word (F.PWR_EVT_W0_CLASS _) rfl rfl).trans bits6
  · exact (word (F.PWR_EVT_W0_OVP _) rfl rfl).trans bitsOvp
  · exact (word (F.PWR_EVT_W0_THERM _) rfl rfl).trans (bitsTherm.trans (by
      cases why with
      | thermal => exact absurd rfl hw
      | _ => rfl))
  · rw [State.refreshPf_fld _ _ (by decide), fld, sameTotal, total]
  · exact (word (F.PWR_EVT_W0_EXTREME_MV _) rfl rfl).trans bitsMv

theorem overvoltageTrip_answers (s : State) (hp : s.power.phase = .run) : Answers .overvoltageTrip s fun t => LossStarted s t 1 := by
  have he : exec .overvoltageTrip s = _ := (if_neg (by rw [hp]; decide) : execOvervoltageTrip s = _)
  exact answers_of_done he (declareLoss_started (by rw [hp]; decide) _ _ _ .overvoltage (by decide)).1

theorem undervoltageComparator_answers (s : State) (hp : s.power.phase = .run) (hm : s.on F.PWR_ERR_METER_FAIL = true) :
    Answers .undervoltageComparator s fun t =>
      LossStarted s t 0 ∧ t.fld (F.PWR_EVT_W0_EXTREME_MV (s.supply.events % 32)) = 0 := by
  have he : exec .undervoltageComparator s = done (s.draw.2.declareLoss s.time (s.draw.1.toNat % 2 ^ 16) 0 .voltage) :=
    (if_pos ⟨by rw [hp]; decide, hm⟩ : execUndervoltageComparator s = _)
  exact answers_of_done he (declareLoss_started (s := s.draw.2) (by rw [State.draw_snd]; show s.power.phase ≠ _; rw [hp]; decide) _ _ _ .voltage (by decide))

/-! ### The last gasp and the power-down -/

theorem placeAlm_mem (log : List (List AlmEntry)) (e : AlmEntry) : e ∈ (placeAlm log e).flatten := by
  unfold placeAlm
  split <;> simp

theorem frame_noteLog (s : State) : Frame s s.noteLog [R.VSP_ALM_SEQ_LO, R.VSP_ALM_SEQ_HI, R.VSP_ALMANAC] [] :=
  (((Frame.refl s _ _).setWord R.VSP_ALM_SEQ_LO _ (by decide)).setWord R.VSP_ALM_SEQ_HI _ (by decide)).setFld F.VSP_ALMANAC_KEPT_MIB _ (by decide)

theorem frame_flash_power (s : State) (x : Flash) (y : Power) (r : List Nat) : Frame s { s with flash := x, power := y } r [.power, .flash] :=
  ⟨fun _ _ _ _ => rfl, fun q hq => by
    cases q with
    | power => exact absurd (by decide) hq
    | flash => exact absurd (by decide) hq
    | _ => rfl⟩

theorem lastGaspComplete_answers (s : State) (hp : s.power.phase = .loss) (hg : s.power.lastGasp = true) : Answers .lastGaspComplete s fun t =>
    t.power = { s.power with lastGasp := false } ∧
      (∃ e, e ∈ t.flash.log.flatten ∧ e.type = 3 ∧ e.seq = s.flash.newestSeq + 1 ∧ e.changes = s.vesper.staged) ∧
      Frame s t [R.VSP_ALM_SEQ_LO, R.VSP_ALM_SEQ_HI, R.VSP_ALMANAC] [.power, .flash] := by
  let e : AlmEntry :=
    { type := alLOSS_FINAL, seq := s.flash.newestSeq + 1, tick := s.tick, time := s.time, boot := s.flash.boots % 65536
      body := [s.power.lossStart, s.power.lossMin, s.power.lossShed, s.tick] ++ (List.range 32).map s.rgnState, changes := s.vesper.staged }
  let a : State := { s with flash := { s.flash with log := placeAlm (makeRoom s.flash.log e) e }, power := { s.power with lastGasp := false } }
  have he : exec .lastGaspComplete s = done a.noteLog :=
    (if_neg (by simp [hp, hg]) : execLastGaspComplete s = done (State.writeAlm { s with power := { s.power with lastGasp := false } } e))
  have fr : Frame s a [R.VSP_ALM_SEQ_LO, R.VSP_ALM_SEQ_HI, R.VSP_ALMANAC] [.power, .flash] := frame_flash_power s _ _ _
  have hpow : a.power = { s.power with lastGasp := false } := rfl
  have hlog : e ∈ a.flash.log.flatten := placeAlm_mem _ e
  have hn := frame_noteLog a
  clear_value a
  refine answers_of_done he ⟨?_, ⟨e, ?_, rfl, rfl, rfl⟩, (fr.trans (hn.mono (by simp) (by simp))).pf⟩
  · rw [State.refreshPf_power]
    exact (hn.2 .power (by simp)).trans hpow
  · rw [State.refreshPf_flash, show a.noteLog.flash = a.flash from hn.2 .flash (by simp)]
    exact hlog

theorem powerDown_answers (s : State) (hp : s.power.phase = .loss) (hg : s.power.lastGasp = false) : Answers .powerDown s fun t =>
    t.flash = s.flash ∧ t.fuses = s.fuses ∧ t.power.phase = .off ∧ t.power.coldCause = .loss ∧ t.time = 0 ∧ t.hbm = {} ∧
      Frame State.reset t [] [.pending, .fuses, .flash, .power, .tap] := by
  have he : exec .powerDown s = done (s.coldState .loss) := (if_neg (by simp [hp, hg]) : execPowerDown s = _)
  have fr : Frame State.reset (s.coldState .loss) [] [.pending, .fuses, .flash, .power, .tap] :=
    ⟨fun _ _ _ _ => rfl, fun q hq => by
      cases q with
      | pending | fuses | flash | power | tap => simp at hq
      | _ => rfl⟩
  have facts : (s.coldState .loss).flash = s.flash ∧ (s.coldState .loss).fuses = s.fuses ∧ (s.coldState .loss).power.phase = .off ∧
      (s.coldState .loss).power.coldCause = .loss ∧ (s.coldState .loss).time = 0 ∧ (s.coldState .loss).hbm = {} := ⟨rfl, rfl, rfl, rfl, rfl, rfl⟩
  obtain ⟨flash, fuses, phase, cause, time, hbm⟩ := facts
  generalize s.coldState .loss = c at *
  refine answers_of_done he ⟨?_, ?_, ?_, ?_, ?_, ?_, fr.pf⟩
  · rw [State.refreshPf_flash, flash]
  · rw [State.refreshPf_fuses, fuses]
  · rw [State.refreshPf_power, phase]
  · rw [State.refreshPf_power, cause]
  · rw [State.refreshPf_time, time]
  · rw [State.refreshPf_hbm, hbm]

/-- Settles O20: LOSS by `declareLoss_started`, the entry that it takes and what is lost; the last gasp is one entry of the log. -/
theorem lossCompletes : Obligations.LossCompletes :=
  ⟨overvoltageTrip_answers, undervoltageComparator_answers, lastGaspComplete_answers, powerDown_answers⟩

end Sys2Proof.Machine
end

section
/-! Fences by hardware and the power-up of the halves (R71, R72, R193 to R195): the registers below the regions' pages and the
components that they leave alone. -/

namespace Sys2Proof.Machine

variable {s t u : State} {off n : Nat} {p : List Part}

/-! ### A fence by hardware -/

/-- The components that a fence by hardware can change. -/
def fenceParts : List Part := [.regions, .cores, .clusters, .vesper, .vfs, .net, .mesh, .ctl, .hwCause, .clearing]

theorem base_low (hb : off < 0x100000) : low off := by simp only [low]; omega

theorem base_notin_faultRegs (hb : off < 0x100000) (n : Nat) : off ∉ faultRegs n := by
  simp only [faultRegs, R.RGN_STATE, R.RGN_FAULT, R.RGN_FAULT_TIME_LO, R.RGN_FAULT_TIME_HI, R.RGN_FAULT_OP, R.RGN_COUNTS, List.mem_cons,
    List.not_mem_nil, or_false, not_or]
  omega

theorem Stays.of_parts {q : List Part} (h : t.regs = s.regs) (hs : ∀ x : Part, x ∉ q → x.same s t) (hq : q ⊆ p) : Stays off p s t :=
  .of_regs h fun x hx => hs x fun k => hx (hq k)

theorem Stays.regionFault (h : Stays off p s t) (hb : off < 0x100000) (n : Nat) (f : FaultReport) (hp : faultParts ⊆ p) :
    Stays off p s (t.regionFault n f) :=
  h.trans ((stays_regionFault t f (base_low hb) (base_notin_faultRegs hb n)).mono hp)

theorem Stays.checkSet (h : Stays off p s t) (hb : off < 0x100000) (n tile : Nat) (hp : faultParts ⊆ p) :
    Stays off p s (t.checkSet n tile) := by
  unfold State.checkSet
  split
  · split
    · exact h
    · split
      · exact (h.setFld (F.SCH_IMG_STATE_SET_IN_FORCE n) _ (by simp only [F.SCH_IMG_STATE_SET_IN_FORCE, R.SCH_IMG_STATE]; omega)).countSat
          (F.SCH_COUNTS_SWITCHES n) 1 (by simp only [F.SCH_COUNTS_SWITCHES, R.SCH_COUNTS]; omega)
      · exact h.regionFault hb n _ hp
  · exact h

theorem Stays.applyPending (h : Stays off p s t) (hb : off < 0x100000) (n : Nat) (hp : faultParts ⊆ p) : Stays off p s (t.applyPending n) :=
  (h.applyFences (low_lt (base_low hb)) n (hp (by decide)) (hp (by decide)) (hp (by decide)) (hp (by decide)) (hp (by decide))).checkSet hb n _ hp

theorem Stays.settle (h : Stays off p s t) (hp : [.net, .mesh, .ctl] ⊆ p) : Stays off p s t.settle :=
  h.trans (.of_parts (q := [.net, .mesh, .ctl]) rfl (fun x hx => by
    cases x with
    | net => exact absurd (by decide) hx
    | mesh => exact absurd (by decide) hx
    | ctl => exact absurd (by decide) hx
    | _ => rfl) hp)

theorem stays_clearing (s : State) (l : List Nat) : Stays off [.clearing] s { s with clearing := l } :=
  .of_regs rfl fun x hx => by
    cases x with
    | clearing => exact absurd (by decide) hx
    | _ => rfl

theorem stays_hwCause (s : State) (m : SMap Nat) : Stays off [.hwCause] s { s with hwCause := m } :=
  .of_regs rfl fun x hx => by
    cases x with
    | hwCause => exact absurd (by decide) hx
    | _ => rfl

theorem Stays.fence (h : Stays off p s t) (hb : off < 0x100000) (k : UnitKind) (i : Nat) (hp : fenceParts ⊆ p) : Stays off p s (t.fence k i) := by
  have hf : faultParts ⊆ p := fun x hx => hp ((by decide : faultParts ⊆ fenceParts) hx)
  unfold State.fence
  split
  · exact (h.putUnit (low_lt (base_low hb)) k i 1).trans ((stays_clearing _ _).mono fun x hx => hp ((by decide : [Part.clearing] ⊆ fenceParts) hx))
  · split
    · exact h.putUnit (low_lt (base_low hb)) k i 1
    · next n hn =>
      extract_lets st a b
      have ha : Stays off p s a := h.when (((Stays.refl off p t).settle
        fun x hx => hp ((by decide : [Part.net, .mesh, .ctl] ⊆ fenceParts) hx)).setBit F.DYN_QUIESCING_QUIESCING n true
          (by simp only [F.DYN_QUIESCING_QUIESCING, R.DYN_QUIESCING]; omega))
      split
      · exact h.putUnit (low_lt (base_low hb)) k i 1
      · split
        · exact (h.putUnit (low_lt (base_low hb)) k i 1).regionFault hb n _ hf
        · split
          · have hu : Stays off p s b := ha.modRgn n _ (hf (by decide))
            split
            · exact hu
            · exact hu.applyPending hb n hf
          · exact (ha.putUnit (low_lt (base_low hb)) k i 1).stopUnit k i (hf (by decide)) (hf (by decide)) (hf (by decide)) (hf (by decide))

theorem Stays.hwFence (h : Stays off p s t) (hb : off < 0x100000) (k : UnitKind) (i cause : Nat) (hp : fenceParts ⊆ p) :
    Stays off p s (t.hwFence k i cause) :=
  ((h.fence hb k i hp).wantCapture _ (hp (by decide))).trans
    ((stays_hwCause _ _).mono fun x hx => hp ((by decide : [Part.hwCause] ⊆ fenceParts) hx))

/-! ### Crossings and repairs -/

theorem stays_xings (s : State) (x : Xings) (d : Nat) : Stays off [.xings] s { s with xings := x, draws := d } :=
  .of_regs rfl fun x hx => by
    cases x with
    | xings => exact absurd (by decide) hx
    | _ => rfl

theorem stays_xings' (s : State) (x : Xings) : Stays off [.xings] s { s with xings := x } := stays_xings s x s.draws

/-- The components that crossings and repairs found to fail can change. -/
def foundParts : List Part := .xings :: fenceParts

/-- The registers below the regions' pages that they write. -/
def foundRegs : List Nat := [R.CLK_STATUS, R.CLK_ERR, R.CLK_XING_LOG, R.RST_ERR]

theorem stays_crossingFailed (s : State) (c : Crossing) (hb : off < 0x100000) (hr : off ∉ foundRegs) :
    Stays off foundParts s (s.crossingFailed c) := by
  simp only [foundRegs, List.mem_cons, List.not_mem_nil, or_false, not_or] at hr
  obtain ⟨-, err, log, -⟩ := hr
  unfold State.crossingFailed
  extract_lets d put oldStore trained a oldFailed b
  split
  · exact ((stays_xings s _ _).mono (by decide)).countSat F.CLK_XING_LOG_RETRAIN_COUNT 1 log
  · have ha : Stays off foundParts s a := (((Stays.refl off foundParts s).setFld F.CLK_ERR_XING_FAIL 1 err).setFld F.CLK_XING_LOG_VALID 1
      log).setFld F.CLK_XING_LOG_PLANE _ log
    have hab : Stays off foundParts a b := (stays_xings' a _).mono (by decide)
    have hb2 := ha.trans hab
    clear_value b
    exact (hb2.setFld F.CLK_XING_LOG_TILE_ID _ log).hwFence hb .tile _ 3 (by decide)

theorem stays_repairFailed (s : State) (e : UnitKind × Nat) (hb : off < 0x100000) (hr : off ∉ foundRegs) :
    Stays off foundParts s (s.repairFailed e) := by
  simp only [foundRegs, List.mem_cons, List.not_mem_nil, or_false, not_or] at hr
  obtain ⟨-, -, -, err⟩ := hr
  have ht := (Stays.refl off foundParts s).setFld F.RST_ERR_REPAIR_FAIL 1 err
  unfold State.repairFailed
  extract_lets a
  split
  · exact Stays.hwFence ht hb .slice _ 1 (by decide)
  · exact Stays.hwFence ht hb .tile _ 1 (by decide)
  · exact .refl off _ s

theorem Stays.channelFailed (h : Stays off p s t) (ch : Nat) (hb : off < 0x100000) (hr : off ≠ R.RST_ERR) (hp : fenceParts ⊆ p) :
    Stays off p s (t.channelFailed ch) :=
  (h.setFld F.RST_ERR_HBM_TRAIN_FAIL 1 hr).hwFence hb .slice _ 2 hp

theorem stays_verifyXings (s : State) (tiles : List Nat) (found : List Crossing) (hb : off < 0x100000) (hr : off ∉ foundRegs) :
    Stays off foundParts s (s.verifyXings tiles found) := by
  have hc : off ≠ R.CLK_STATUS := fun k => hr (by rw [k]; decide)
  unfold State.verifyXings
  extract_lets old x
  have hx : Stays off foundParts s { s with xings := x } := (stays_xings' s x).mono (by decide)
  exact (hx.walk _ _ fun u c => stays_crossingFailed u c hb hr).setFld F.CLK_STATUS_XING_TRAINED _ hc

theorem Stays.powerUpFound (h : Stays off p s t) (x : PowerUp) (hb : off < 0x100000) (hr : off ∉ foundRegs) (hp : foundParts ⊆ p) :
    Stays off p s (t.powerUpFound x) :=
  h.trans (((stays_verifyXings t sliceXings x.crossings hb hr).walk _ _ fun u e => stays_repairFailed u e hb hr).mono hp)

/-! ### The halves -/

theorem Stays.freshSlices (h : Stays off p s t) (hb : off < 0x400000) (hp : .slices ∈ p) : Stays off p s t.freshSlices := by
  refine h.walk _ _ fun u i => ?_
  have h1 := (((Stays.refl off p u).setFld (F.MSL_BUSHEL_COUNT i) 0 (by simp only [F.MSL_BUSHEL_COUNT, R.MSL_BUSHEL]; omega)).setFld
    (F.MSL_SCRUB_SRAM_POSITION i) 0 (by simp only [F.MSL_SCRUB_SRAM_POSITION, R.MSL_SCRUB_SRAM]; omega)).setFld
    (F.MSL_SCRUB_HBM_POS_POSITION i) 0 (by simp only [F.MSL_SCRUB_HBM_POS_POSITION, R.MSL_SCRUB_HBM_POS]; omega)
  exact h1.when ((Stays.refl off p _).modSlice i _ hp)

theorem stays_power (s : State) (x : Power) : Stays off [.power] s { s with power := x } :=
  .of_regs rfl fun q hq => by
    cases q with
    | power => exact absurd (by decide) hq
    | _ => rfl

theorem stays_supply (s : State) (x : Supply) : Stays off [.supply] s { s with supply := x } :=
  .of_regs rfl fun q hq => by
    cases q with
    | supply => exact absurd (by decide) hq
    | _ => rfl

theorem stays_applyShed (s : State) (h1 : off ≠ R.CLK_STATUS) (h2 : off ≠ R.CLK_SHED) : Stays off [.supply] s s.applyShed := by
  have h := ((Stays.refl off [.supply] s).setFld F.CLK_STATUS_SHED 1 h1).countSat F.CLK_SHED_SHED_COUNT 1 h2
  unfold State.applyShed
  extract_lets a
  exact h.trans (stays_supply a _)

/-- What the start of the halves writes before slices, a shed and what is found to fail. -/
def halvesOn (s : State) (m : Nat) : State :=
  let t := (((((s.raise F.CLK_STATUS_XREF_OK).raise F.CLK_STATUS_CTL_LOCK).raise F.CLK_STATUS_TW_LOCK).raise
    F.CLK_STATUS_TE_LOCK).raise F.CLK_STATUS_LINK_LOCK).setFld F.CLK_TILE_FREQ_IN_FORCE_MULT m
  { t with power := { t.power with halves := true, westStopped := false, eastStopped := false, repair := t.power.fuseCopy } }

theorem startHalves_eq (s : State) (m : Nat) (x : PowerUp) : s.startHalves m x =
    ((halvesOn s m).freshSlices.when (halvesOn s m).shedRequest State.applyShed).powerUpFound x := rfl

theorem halvesOn_power (s : State) (m : Nat) : (halvesOn s m).power =
    { s.power with halves := true, westStopped := false, eastStopped := false, repair := s.power.fuseCopy } := rfl

theorem halvesOn_mult (s : State) {m : Nat} (h : m < 128) : (halvesOn s m).fld F.CLK_TILE_FREQ_IN_FORCE_MULT = m := by
  have hs := State.fld_setFld_same (((((s.raise F.CLK_STATUS_XREF_OK).raise F.CLK_STATUS_CTL_LOCK).raise F.CLK_STATUS_TW_LOCK).raise
    F.CLK_STATUS_TE_LOCK).raise F.CLK_STATUS_LINK_LOCK) F.CLK_TILE_FREQ_IN_FORCE_MULT m (by decide)
  unfold halvesOn
  extract_lets a
  exact ((frame_power a _ (r := []) (parts := [.power]) (by decide)).fld_eq _ (by decide) (by simp)).trans (hs.trans (Nat.mod_eq_of_lt h))

theorem stays_halvesOn (s : State) (m : Nat) (h1 : off ≠ R.CLK_STATUS) (h2 : off ≠ R.CLK_TILE_FREQ) :
    Stays off [.power] s (halvesOn s m) := by
  unfold halvesOn
  extract_lets a
  have ha : Stays off [.power] s a := ((((((Stays.refl off _ s).setFld F.CLK_STATUS_XREF_OK 1 h1).setFld F.CLK_STATUS_CTL_LOCK 1 h1).setFld
    F.CLK_STATUS_TW_LOCK 1 h1).setFld F.CLK_STATUS_TE_LOCK 1 h1).setFld F.CLK_STATUS_LINK_LOCK 1 h1).setFld F.CLK_TILE_FREQ_IN_FORCE_MULT m h2
  exact ha.trans (stays_power a _)

/-- What the start of the halves changes beside power: what a fence can, the shed, the slices, the crossings. -/
def startParts : List Part := .supply :: .slices :: foundParts

def startRegs : List Nat := R.CLK_TILE_FREQ :: R.CLK_SHED :: foundRegs

/-- After the clocks run, only a shed, the slices' records and what is found to fail follow. -/
theorem stays_startHalves_tail (s : State) (m : Nat) (x : PowerUp) (hb : off < 0x100000) (hf : off ∉ foundRegs) (h2 : off ≠ R.CLK_SHED) :
    Stays off startParts (halvesOn s m) (s.startHalves m x) := by
  have h1 : off ≠ R.CLK_STATUS := fun k => hf (by rw [k]; decide)
  rw [startHalves_eq]
  generalize halvesOn s m = a
  exact (((Stays.refl off startParts a).freshSlices (hb.trans (by decide)) (by decide)).when ((stays_applyShed _ h1 h2).mono (by decide))).powerUpFound x hb hf
    (by decide)

theorem stays_startHalves (s : State) (m : Nat) (x : PowerUp) (hb : off < 0x100000) (hr : off ∉ startRegs) :
    Stays off (.power :: startParts) s (s.startHalves m x) := by
  simp only [startRegs, List.mem_cons, not_or] at hr
  obtain ⟨freq, shed, found⟩ := hr
  exact ((stays_halvesOn s m (fun k => found (by rw [k]; decide)) freq).mono (by decide)).trans
    ((stays_startHalves_tail s m x hb found shed).mono (by decide))

theorem startHalves_power (s : State) (m : Nat) (x : PowerUp) : (s.startHalves m x).power =
    { s.power with halves := true, westStopped := false, eastStopped := false, repair := s.power.fuseCopy } :=
  ((stays_startHalves_tail s m x (off := 0) (by decide) (by decide) (by decide)).2 .power (by decide)).trans (halvesOn_power s m)

theorem startHalves_mult (s : State) {m : Nat} (x : PowerUp) (h : m < 128) : (s.startHalves m x).fld F.CLK_TILE_FREQ_IN_FORCE_MULT = m :=
  ((stays_startHalves_tail s m x (off := R.CLK_TILE_FREQ) (by decide) (by decide) (by decide)).1.fld _ rfl).trans (halvesOn_mult s h)

end Sys2Proof.Machine
end

section
/-! The halt's drain and the entry into M2 write every ungranted write of a slice's channels back (R161, R169) and count each
for its region and class. A state may hold a request of a class that R709 does not have; the count of such a class is another register. -/

namespace Sys2Proof.Machine

/-- The state that a command leaves; the state before it when it has none. -/
def after (i : Instr) (s : State) : State :=
  match exec i s with
  | .next t => t
  | _ => s

theorem Answers.after {i : Instr} {s : State} {P : State → Prop} (h : Answers i s P) : P (after i s) := by
  obtain ⟨t, he, hp⟩ := h
  unfold Machine.after
  rw [he]
  exact hp

/-- A request to write no byte of one sector, of a class that does not exist. -/
def strayRequest (region cls : Nat) : HReq :=
  { id := 0, chan := 0, cls := cls, region := region, write := true, line := 0, addr := 0, sectors := 1 }

/-- After reset, with region 0 READY on column 0 and one stray request in channel 0. -/
def strayState (r : HReq) : State :=
  { (State.reset.setFld (F.RGN_STATE_STATE 0) rREADY).setFld (F.RGN_RECT_EXTENT 0) 1 with hreqs := [r] }

/-! ### The facility halt -/

/-- The count of this class of region 1 is the register HL_STATUS of port 0. -/
def portClass : Nat := 416077

theorem portClass_counts : R.RGN_DLY_SERVED 1 portClass = R.HL_STATUS 0 := by decide

/-- A facility halt drains. -/
def haltState : State := (strayState (strayRequest 1 portClass)).setFld F.PWR_FHALT_STATUS_HALTING 1

/-- The beat that is counted leaves port 0 in another state than DISABLED. -/
theorem haltState_link : (after .haltDrainComplete haltState).linkState 0 = lTRAINING := by decide +kernel

/-- Refutes O21: the halt's drain grants a request of region 1 and class 416077, whose count of beats is the register HL_STATUS of port
0; the port then reads TRAINING, not DISABLED. -/
theorem not_facilityHaltCompletes : ¬ Obligations.FacilityHaltCompletes := by
  unfold Obligations.FacilityHaltCompletes
  intro ⟨_, _, _, drain, _⟩
  obtain ⟨-, -, -, -, -, link, -⟩ := (drain haltState (by decide +kernel) (by decide +kernel) (by decide +kernel) rfl).after
  exact absurd (haltState_link.symm.trans (link 0 (by decide))) (by decide)

/-! ### The entry into M2 -/

/-- The count of this class of region 0 is the register RGN_STATE of region 1. -/
def stateClass : Nat := 3200

theorem stateClass_counts : R.RGN_DLY_SERVED 0 stateClass = R.RGN_STATE 1 := by decide

/-- The module runs and enters M2. -/
def entryState : State :=
  { (strayState (strayRequest 0 stateClass)).setFld F.PWR_STATE_M2_ENTERING 1 with power := { phase := .run } }

/-- The beat that is counted leaves region 1 in another state than FREE. -/
theorem entryState_region : (after (.m2EntryComplete []) entryState).rgnState 1 = rCONFIGURING := by decide +kernel

/-- Refutes O22: the entry into M2 grants a request of region 0 and class 3200, whose count of beats is the register RGN_STATE of region
1; the region then reads CONFIGURING, where it was FREE. -/
theorem not_sleepAndWakeComplete : ¬ Obligations.SleepAndWakeComplete := by
  unfold Obligations.SleepAndWakeComplete
  intro ⟨_, enter, _⟩
  obtain ⟨-, -, -, -, states, -⟩ :=
    (enter [] entryState entryState (by decide +kernel) (by decide +kernel) (by decide +kernel) rfl rfl).after
  exact absurd (entryState_region.symm.trans (states 1 (by decide))) (by decide +kernel)

end Sys2Proof.Machine
end

section
/-! Bring-up and the warm reset (R173, R177 to R195). -/

namespace Sys2Proof.Machine

variable {s t u : State} {off n : Nat} {p : List Part}

/-! ### AON starts (R62, R193) -/

/-- The start of AON changes registers, the sampled position and the copy of the fuse map. -/
theorem startAon_eq (s : State) : ∃ r, s.startAon =
    { s with regs := r, modulePos := s.tap.modulePos, power := { s.power with fuseCopy := s.fuses.repair } } := by
  let z : State := { s with modulePos := s.tap.modulePos, power := { s.power with fuseCopy := s.fuses.repair } }
  have one {x : State} (f : Fld) (v : Nat) (h : ∃ r, x = { z with regs := r }) : ∃ r, x.setFld f v = { z with regs := r } := by
    obtain ⟨r, rfl⟩ := h
    exact ⟨_, rfl⟩
  unfold State.startAon
  extract_lets a old b c w d
  have hb : ∃ r, b = { z with regs := r } := ⟨_, rfl⟩
  have hc : ∃ r, c = { z with regs := r } := by
    unfold c
    cases s.power.coldCause with
    | powerOn => exact one _ _ hb
    | command => exact one _ _ hb
    | loss => exact one _ _ hb
  exact one _ _ (one _ _ (overList_keeps (fun x => ∃ r, x = { z with regs := r }) _ _ _ hc fun x q hx => one _ _ hx))

theorem converterStart_boardTest (q : PowerUp) (s : State) (hp : s.power.phase = .off) (hb : s.flash.bscan = true) :
    Answers (.converterStart q) s fun t =>
      t.power.phase = .bringUp ∧ t.power.boardTest = true ∧ t.flash = { s.flash with bscan := false } ∧
        t.fld F.RST_BOOT_STATUS_PHASE = 1 ∧ t.power.halves = s.power.halves := by
  obtain ⟨r, ha⟩ := startAon_eq s
  have he : exec (.converterStart q) s = _ := (if_neg (by rw [hp]; decide) : execConverterStart q s = _)
  rw [ha] at he
  refine answers_of_done (he.trans (if_pos hb)) ⟨?_, ?_, ?_, ?_, ?_⟩
  · rw [State.refreshPf_power]; rfl
  · rw [State.refreshPf_power]; rfl
  · rw [State.refreshPf_flash]; rfl
  · exact fld_setFld_pf _ F.RST_BOOT_STATUS_PHASE 1 (by decide) (by decide)
  · rw [State.refreshPf_power]; rfl

theorem driveClkreq_power (s : State) (b : Bool) : (s.driveClkreq b).power = { s.power with clkreq := b } ∧ (s.driveClkreq b).flash = s.flash ∧
    (s.driveClkreq b).regs = s.regs := by
  unfold State.driveClkreq
  split
  · next h => exact ⟨by rw [← h], rfl, rfl⟩
  · exact ⟨rfl, rfl, rfl⟩

/-- What recovery shows in the registers. -/
def recoveryShown (s : State) : State :=
  (((s.raise F.RST_BOOT_STATUS_RECOVERY).setFld F.RST_BOOT_STATUS_PHASE 10).raise F.RST_ERR_IMAGE_SLOT_FAIL).raise F.CLK_STATUS_HOST_LOCK

theorem recoveryShown_spec (s : State) :
    (recoveryShown s).fld F.RST_BOOT_STATUS_RECOVERY = 1 ∧ (recoveryShown s).fld F.RST_BOOT_STATUS_PHASE = 10 ∧
      (recoveryShown s).fld F.RST_ERR_IMAGE_SLOT_FAIL = 1 ∧ (recoveryShown s).power = s.power ∧ (recoveryShown s).flash = s.flash := by
  unfold recoveryShown
  refine ⟨?_, ?_, ?_, rfl, rfl⟩
  · exact (fld_setFld_apart _ 1 (by unfold Apart; decide)).trans ((fld_setFld_apart _ 1 (by unfold Apart; decide)).trans
      ((fld_setFld_apart _ 10 (by unfold Apart; decide)).trans (State.fld_setFld_same _ F.RST_BOOT_STATUS_RECOVERY 1 (by decide))))
  · exact (fld_setFld_apart _ 1 (by unfold Apart; decide)).trans ((fld_setFld_apart _ 1 (by unfold Apart; decide)).trans
      (State.fld_setFld_same _ F.RST_BOOT_STATUS_PHASE 10 (by decide)))
  · exact (fld_setFld_apart _ 1 (by unfold Apart; decide)).trans (State.fld_setFld_same _ F.RST_ERR_IMAGE_SLOT_FAIL 1 (by decide))

/-- The state that CONVERTER_START goes on from when board test was not armed. -/
def aonStarted (s : State) : State := { s.startAon with power := { s.startAon.power with phase := .bringUp } }

theorem aonStarted_spec (s : State) : (aonStarted s).power = { s.power with fuseCopy := s.fuses.repair, phase := .bringUp } ∧
    (aonStarted s).flash = s.flash ∧ (aonStarted s).fuses = s.fuses := by
  obtain ⟨r, ha⟩ := startAon_eq s
  unfold aonStarted
  rw [ha]
  exact ⟨rfl, rfl, rfl⟩

theorem aonStarted_bootSlot (s : State) : (aonStarted s).bootSlot = s.bootSlot := by
  obtain ⟨-, flash, fuses⟩ := aonStarted_spec s
  unfold State.bootSlot State.slotPasses
  rw [flash, fuses]

/-- The module before its clocks start: the slot, the version, the phase. -/
def slotShown (s : State) (b : Bool) : State :=
  let im := if b then s.flash.slotB else s.flash.slotA
  let back := bit (b != s.flash.selector)
  let u := ((s.setFld F.RST_BOOT_STATUS_SLOT (bit b)).setFld F.RST_BOOT_STATUS_FALLBACK back).setFld F.RST_BOOT_STATUS_FW_SVN im.svn.toNat
  let u := ((u.setFld F.RST_ERR_IMAGE_SLOT_FAIL back).raise F.CLK_STATUS_HOST_LOCK).setFld F.RST_BOOT_STATUS_PHASE 7
  ((u.setFld F.VSP_FW_MAJOR im.major.toNat).setFld F.VSP_FW_MINOR im.minor.toNat).setFld F.VSP_FW_PATCH im.patch.toNat

/-- The clocks start at M = 40, and the channels train. -/
def firstClocks (s : State) (q : PowerUp) : State :=
  let u : State := { s with power := { s.power with pwrgd := true } }
  let u := ((u.driveClkreq true).trainXings.startHalves 40 q).setFld F.FLT_CAPTURE_LAST_ID u.flash.lastCapture
  let u := overList q.failedChannels u fun v c => v.channelFailed c.val
  overList (List.range 8) u fun v k => v.raise (F.HBM_STATUS_TRAINED k)

/-- The module in recovery (R190, R191). -/
def recoveryStarted (s : State) : State :=
  let u : State := { s.driveClkreq true with power := { s.power with phase := .recovery, pwrgd := true, clkreq := true } }
  recoveryShown u

/-- What CONVERTER_START goes on with by the slot that passes. -/
def bootFrom (t : State) (q : PowerUp) : Option Bool → Host.Outcome State Fault Refusal
  | none => done (recoveryStarted t)
  | some b => done (firstClocks (slotShown t b) q)

theorem exec_converterStart (q : PowerUp) (s : State) (hp : s.power.phase = .off) (hb : s.flash.bscan = false) :
    exec (.converterStart q) s = bootFrom (aonStarted s) q s.bootSlot := by
  have he : exec (.converterStart q) s = _ := (if_neg (by rw [hp]; decide) : execConverterStart q s = _)
  have hs := aonStarted_bootSlot s
  replace he := he.trans (if_neg (by rw [hb]; decide))
  rw [← hs, he]
  unfold aonStarted
  generalize ({ s.startAon with power := { s.startAon.power with phase := .bringUp } } : State) = c
  cases c.bootSlot
  · rfl
  · rfl

theorem converterStart_recovery (q : PowerUp) (s : State) (hp : s.power.phase = .off) (hb : s.flash.bscan = false) (hs : s.bootSlot = none) :
    Answers (.converterStart q) s fun t =>
      t.power.phase = .recovery ∧ t.fld F.RST_BOOT_STATUS_RECOVERY = 1 ∧ t.fld F.RST_BOOT_STATUS_PHASE = 10 ∧
        t.fld F.RST_ERR_IMAGE_SLOT_FAIL = 1 ∧ t.flash = s.flash ∧ t.power.halves = s.power.halves := by
  obtain ⟨power, flash, -⟩ := aonStarted_spec s
  refine answers_of_done ((exec_converterStart q s hp hb).trans (by rw [hs]; rfl)) ?_
  generalize aonStarted s = x at power flash
  obtain ⟨-, flash', -⟩ := driveClkreq_power x true
  unfold recoveryStarted
  extract_lets v old u
  obtain ⟨shown, phase, slots, power', flash''⟩ := recoveryShown_spec u
  refine ⟨?_, ?_, ?_, ?_, ?_, ?_⟩
  · rw [State.refreshPf_power, power']
  · exact (State.refreshPf_fld _ _ (by decide)).trans shown
  · exact (State.refreshPf_fld _ _ (by decide)).trans phase
  · exact (State.refreshPf_fld _ _ (by decide)).trans slots
  · rw [State.refreshPf_flash, flash'']
    exact flash'.trans flash
  · rw [State.refreshPf_power, power']
    exact (congrArg Power.halves power :)

theorem slotShown_spec (s : State) (b : Bool) :
    (slotShown s b).fld F.RST_BOOT_STATUS_SLOT = bit b ∧ (slotShown s b).fld F.RST_BOOT_STATUS_FALLBACK = bit (b != s.flash.selector) ∧
      (slotShown s b).power = s.power ∧ (slotShown s b).flash = s.flash := by
  have lt (x : Bool) : bit x % 2 ^ 1 = bit x := by cases x <;> rfl
  have late {f : Fld} (u : State) (h : f.off = R.RST_BOOT_STATUS) (ha : Apart f F.RST_BOOT_STATUS_PHASE) (v x1 x2 x3 : Nat) :
      ((((((u.setFld F.RST_ERR_IMAGE_SLOT_FAIL v).raise F.CLK_STATUS_HOST_LOCK).setFld F.RST_BOOT_STATUS_PHASE 7).setFld F.VSP_FW_MAJOR
        x1).setFld F.VSP_FW_MINOR x2).setFld F.VSP_FW_PATCH x3).fld f = u.fld f := by
    have fw {g : Fld} (y : State) (v : Nat) (hg : g.off = R.VSP_FW) : (y.setFld g v).fld f = y.fld f :=
      State.fld_setFld_off y g f v (by rw [h, hg]; decide)
    refine (fw _ x3 rfl).trans ((fw _ x2 rfl).trans ((fw _ x1 rfl).trans ((fld_setFld_apart _ 7 ha).trans ?_)))
    exact (State.fld_setFld_off _ F.CLK_STATUS_HOST_LOCK f 1 (by rw [h]; decide)).trans
      (State.fld_setFld_off u F.RST_ERR_IMAGE_SLOT_FAIL f v (by rw [h]; decide))
  unfold slotShown
  extract_lets im back u1 u2
  have h1 : SameParts [] s u1 := (((SameParts.refl [] s).setFld F.RST_BOOT_STATUS_SLOT _).setFld F.RST_BOOT_STATUS_FALLBACK _).setFld
    F.RST_BOOT_STATUS_FW_SVN _
  have h2 := (((h1.setFld F.RST_ERR_IMAGE_SLOT_FAIL back).setFld F.CLK_STATUS_HOST_LOCK 1).setFld F.RST_BOOT_STATUS_PHASE 7).setFld
    F.VSP_FW_MAJOR im.major.toNat
  have h3 := (h2.setFld F.VSP_FW_MINOR im.minor.toNat).setFld F.VSP_FW_PATCH im.patch.toNat
  refine ⟨?_, ?_, h3 .power (by decide), h3 .flash (by decide)⟩
  · refine (late u1 rfl (by unfold Apart; decide) _ _ _ _).trans ?_
    exact (fld_setFld_apart _ _ (by unfold Apart; decide)).trans ((fld_setFld_apart _ _ (by unfold Apart; decide)).trans
      ((State.fld_setFld_same s F.RST_BOOT_STATUS_SLOT (bit b) (by decide)).trans (lt b)))
  · refine (late u1 rfl (by unfold Apart; decide) _ _ _ _).trans ?_
    exact (fld_setFld_apart _ _ (by unfold Apart; decide)).trans
      ((State.fld_setFld_same _ F.RST_BOOT_STATUS_FALLBACK back (by decide)).trans (lt _))

/-- The module with its crossings trained, before its clocks start. -/
def poweredGood (s : State) : State :=
  let u : State := { s with power := { s.power with pwrgd := true } }
  (u.driveClkreq true).trainXings

theorem poweredGood_spec (s : State) : (poweredGood s).regs = s.regs ∧ (poweredGood s).flash = s.flash ∧
    (poweredGood s).power = { s.power with pwrgd := true, clkreq := true } := by
  obtain ⟨power, flash, regs⟩ := driveClkreq_power { s with power := { s.power with pwrgd := true } } true
  exact ⟨regs, flash, power⟩

/-- After the halves have started, only failed channels and the channels' own status follow. -/
theorem stays_firstClocks (s : State) (q : PowerUp) (hb : off < 0x100000) (hr : off ≠ R.RST_ERR) :
    Stays off fenceParts ((poweredGood s).startHalves 40 q) (firstClocks s q) := by
  unfold firstClocks
  extract_lets old u v w
  have hv : Stays off fenceParts ((poweredGood s).startHalves 40 q) v :=
    (Stays.refl off _ _).setFld F.FLT_CAPTURE_LAST_ID _ (by simp only [F.FLT_CAPTURE_LAST_ID, R.FLT_CAPTURE]; omega)
  exact (hv.walk _ _ fun x c => (Stays.refl off _ x).channelFailed _ hb hr (fun _ h => h)).walk _ _ fun x k =>
    (Stays.refl off _ x).setFld (F.HBM_STATUS_TRAINED k) 1 (by simp only [F.HBM_STATUS_TRAINED, R.HBM_STATUS]; omega)

/-- A field of each of a list's registers, once raised, stays so. -/
theorem fld_raised (f : Nat → Fld) (hf : ∀ i, (f i).lo + (f i).width ≤ 32 ∧ 0 < (f i).width) (apart : ∀ i j, i ≠ j → (f i).off ≠ (f j).off)
    (l : List Nat) (s : State) {k : Nat} (hk : k ∈ l) : (overList l s fun u i => u.raise (f i)).fld (f k) = 1 := by
  have one (u : State) : (u.raise (f k)).fld (f k) = 1 := by
    obtain ⟨h32, hw⟩ := hf k
    refine (State.fld_setFld_same u (f k) 1 h32).trans (Nat.mod_eq_of_lt ?_)
    exact Nat.one_lt_two_pow hw.ne'
  induction l generalizing s with
  | nil => exact absurd hk (by simp)
  | cons i l ih =>
    rw [overList_cons]
    by_cases hl : k ∈ l
    · exact ih _ hl
    · obtain rfl : k = i := by simpa [hl] using hk
      refine overList_keeps_mem (fun u : State => u.fld (f k) = 1) l _ _ (one s) fun u j hj hu => ?_
      exact (State.fld_setFld_off u (f j) (f k) 1 (apart k j fun e => hl (e ▸ hj))).trans hu

theorem firstClocks_trained (s : State) (q : PowerUp) {k : Nat} (hk : k < 8) : (firstClocks s q).fld (F.HBM_STATUS_TRAINED k) = 1 := by
  unfold firstClocks
  extract_lets old u v w
  refine fld_raised F.HBM_STATUS_TRAINED (fun i => ⟨show 0 + 1 ≤ 32 by decide, show 0 < 1 by decide⟩) (fun i j ne => ?_) _ _
    (List.mem_range.2 hk)
  simp only [F.HBM_STATUS_TRAINED, R.HBM_STATUS]
  omega

theorem firstClocks_spec (s : State) (q : PowerUp) :
    (firstClocks s q).power.phase = s.power.phase ∧ (firstClocks s q).power.pwrgd = true ∧ (firstClocks s q).power.halves = true ∧
      (firstClocks s q).fld F.CLK_TILE_FREQ_IN_FORCE_MULT = 40 ∧ (firstClocks s q).flash = s.flash ∧
      SameWord R.RST_BOOT_STATUS s (firstClocks s q) := by
  obtain ⟨regs, flash, power⟩ := poweredGood_spec s
  have late {off : Nat} (hb : off < 0x100000) (hr : off ≠ R.RST_ERR) := stays_firstClocks (off := off) s q hb hr
  have hp : (firstClocks s q).power = _ := ((late (off := 0) (by decide) (by decide)).2 .power (by decide)).trans
    (startHalves_power (poweredGood s) 40 q)
  have boot := stays_startHalves (off := R.RST_BOOT_STATUS) (poweredGood s) 40 q (by decide) (by decide)
  have all := boot.trans ((late (off := R.RST_BOOT_STATUS) (by decide) (by decide)).mono (q := .power :: startParts) (by decide))
  refine ⟨?_, ?_, ?_, ?_, ?_, (SameWord.of_regs regs).trans all.1⟩
  · rw [hp, power]
  · rw [hp, power]
  · rw [hp]
  · exact ((late (off := R.CLK_TILE_FREQ) (by decide) (by decide)).1.fld _ rfl).trans (startHalves_mult _ q (by decide))
  · exact (all.2 .flash (by decide)).trans flash

theorem converterStart_slot (b : Bool) (q : PowerUp) (s : State) (hp : s.power.phase = .off) (hb : s.flash.bscan = false)
    (hs : s.bootSlot = some b) : Answers (.converterStart q) s fun t =>
      t.power.phase = .bringUp ∧ t.power.pwrgd = true ∧ t.power.halves = true ∧ t.fld F.RST_BOOT_STATUS_SLOT = bit b ∧
        t.fld F.RST_BOOT_STATUS_FALLBACK = bit (b != s.flash.selector) ∧ t.fld F.CLK_TILE_FREQ_IN_FORCE_MULT = 40 ∧
        (∀ k, k < 8 → t.fld (F.HBM_STATUS_TRAINED k) = 1) ∧ t.flash = s.flash := by
  obtain ⟨power, flash, -⟩ := aonStarted_spec s
  refine answers_of_done ((exec_converterStart q s hp hb).trans (by rw [hs]; rfl)) ?_
  obtain ⟨slot, back, power', flash'⟩ := slotShown_spec (aonStarted s) b
  obtain ⟨phase, good, halves, mult, flash'', boot⟩ := firstClocks_spec (slotShown (aonStarted s) b) q
  refine ⟨?_, ?_, ?_, ?_, ?_, ?_, ?_, ?_⟩
  · rw [State.refreshPf_power, phase, power', power]
  · rw [State.refreshPf_power, good]
  · rw [State.refreshPf_power, halves]
  · exact (State.refreshPf_fld _ _ (by decide)).trans ((boot.fld _ rfl).trans slot)
  · rw [← flash]
    exact (State.refreshPf_fld _ _ (by decide)).trans ((boot.fld _ rfl).trans back)
  · exact (State.refreshPf_fld _ _ (by decide)).trans mult
  · intro k hk
    exact (State.refreshPf_fld _ _ (by simp only [F.HBM_STATUS_TRAINED, R.HBM_STATUS, R.INT_PF_STATUS]; omega)).trans
      (firstClocks_trained _ q hk)
  · rw [State.refreshPf_flash, flash'', flash', flash]

/-! ### READY reads 1 (R173, R183) -/

/-- The registers that training at READY writes. -/
def portRegs : List Nat := R.INT_PF_EVENT :: (List.range 4).flatMap fun p => [R.HL_CTRL p, R.HL_STATUS p]

theorem frame_modPort (s : State) (q : Nat) (f : Port → Port) {r : List Nat} {p : List Part} (h : .ports ∈ p) : Frame s (s.modPort q f) r p :=
  frame_of_regs (s := s) (t := s.modPort q f) rfl (fun x hx => by
    cases x with
    | ports => exact absurd h hx
    | _ => rfl) r

theorem frame_startTraining (s : State) {q : Nat} (hq : q < 4) : Frame s (s.startTraining q) portRegs [.ports] := by
  have hs : R.HL_STATUS q ∈ portRegs := List.mem_cons_of_mem _ (List.mem_flatMap.2 ⟨q, List.mem_range.2 hq, by simp⟩)
  unfold State.startTraining
  split
  · have hl : Frame s (s.setLink q lTRAINING) portRegs [.ports] := by
      unfold State.setLink
      split
      · exact Frame.refl ..
      · exact ((Frame.refl s _ _).setFld (F.HL_STATUS_STATE q) _ hs).setFld F.INT_PF_EVENT_LINK 1 (by decide)
    exact hl.trans (frame_modPort _ q _ (by decide))
  · exact Frame.refl ..

theorem frame_autoTrain (s : State) : Frame s s.autoTrain portRegs [.ports] := by
  refine Frame.walk_mem _ _ (Frame.refl s _ _) fun u q hq => ?_
  have hc : R.HL_CTRL q ∈ portRegs := List.mem_cons_of_mem _ (List.mem_flatMap.2 ⟨q, hq, by simp⟩)
  exact (Frame.refl u _ _).when (((Frame.refl u _ _).setFld (F.HL_CTRL_ENABLE q) 1 hc).trans (frame_startTraining _ (List.mem_range.1 hq)))

theorem becomeReady_spec (s : State) : s.becomeReady.power = { s.power with phase := .run, m1Ticks := 0 } ∧
    s.becomeReady.fld F.RST_BOOT_STATUS_READY = 1 ∧ s.becomeReady.fld F.RST_BOOT_STATUS_PHASE = 8 ∧
    Frame s s.becomeReady (R.RST_BOOT_STATUS :: portRegs) [.power, .ports] := by
  unfold State.becomeReady
  extract_lets old a
  let b := (a.raise F.RST_BOOT_STATUS_READY).setFld F.RST_BOOT_STATUS_PHASE 8
  have hb := frame_autoTrain b
  have fr : Frame s a (R.RST_BOOT_STATUS :: portRegs) [.power, .ports] := frame_power s _ (by decide)
  refine ⟨hb.2 .power (by decide), ?_, ?_, ?_⟩
  · refine (hb.fld_eq F.RST_BOOT_STATUS_READY (by decide) (by decide)).trans ?_
    exact (fld_setFld_apart _ 8 (by unfold Apart; decide)).trans (State.fld_setFld_same a F.RST_BOOT_STATUS_READY 1 (by decide))
  · exact (hb.fld_eq F.RST_BOOT_STATUS_PHASE (by decide) (by decide)).trans (State.fld_setFld_same _ F.RST_BOOT_STATUS_PHASE 8 (by decide))
  · exact (((fr.setFld F.RST_BOOT_STATUS_READY 1 (by simp [F.RST_BOOT_STATUS_READY])).setFld F.RST_BOOT_STATUS_PHASE 8
      (by simp [F.RST_BOOT_STATUS_PHASE])).trans (hb.mono (by simp) (by simp)))

/-! ### The end of bring-up (R183) -/

theorem SameParts.modVsp {q : List Part} (h : SameParts q s t) (f : Vesper → Vesper) (hq : .vesper ∈ q) : SameParts q s (t.modVsp f) :=
  h.trans fun x hx => by
    cases x with
    | vesper => exact absurd hq hx
    | _ => rfl

theorem SameParts.queueAlm {q : List Part} (h : SameParts q s t) (type : Nat) (body : List Nat) (kept : Bool) (hq : .vesper ∈ q) :
    SameParts q s (t.queueAlm type body kept) := by
  unfold State.queueAlm
  split
  · exact (h.modVsp _ hq).setFld F.VSP_ALM_LOST_LOST _
  · exact (h.modVsp _ hq).setFld F.VSP_ALMANAC_QUEUED _

theorem sameParts_applyPerm (s : State) (r : PermRec) : SameParts [.vesper] s (s.applyPerm r) := by
  cases r with
  | unit key state cause seq =>
    change SameParts _ s (if state ≠ 1 then s else _)
    split
    · exact .refl _ s
    · exact ((putUnit_parts s _ _ 1 [.vesper]).setFld F.FLT_STATUS_CHANGED _).modVsp _ (by decide)
  | remap slice entry sector =>
    exact ((SameParts.refl _ s).setFld (F.MSL_REMAP_VALID slice entry) 1).setFld (F.MSL_REMAP_SECTOR slice entry) sector
  | full slice => exact (SameParts.refl _ s).modVsp _ (by decide)

/-- A boot changes the Almanac's own components and registers alone, and counts itself. -/
theorem bootAlmanac_spec (s : State) : SameParts [.flash, .vesper] s s.bootAlmanac ∧ s.bootAlmanac.flash.boots = s.flash.boots + 1 ∧
    s.bootAlmanac.flash.torn = 0 := by
  unfold State.bootAlmanac
  extract_lets changes a log old b c
  have ha : SameParts [.vesper] s a := (SameParts.refl _ s).walk _ _ fun u r => sameParts_applyPerm u r
  have hab : SameParts [.flash] a b := fun x hx => by
    cases x with
    | flash => exact absurd (by decide) hx
    | _ => rfl
  have hb : SameParts [.flash, .vesper] s b := fun x hx => Part.same_trans (ha x (by simp_all)) (hab x (by simp_all))
  have hbo : b.flash.boots = s.flash.boots + 1 ∧ b.flash.torn = 0 := ⟨congrArg (fun f : Flash => f.boots + 1) (ha .flash (by decide)), rfl⟩
  clear_value b
  have late : SameParts [.vesper] b (c.noteLog.queueAlm alBOOT [c.word R.RST_CAUSE 0, c.word R.RST_BOOT_STATUS 0, 0, s.flash.torn]) :=
    (((((SameParts.refl _ b).modVsp _ (by decide)).setWord _ _).setWord _ _).setFld F.VSP_ALMANAC_KEPT_MIB _).queueAlm _ _ _ (by decide)
  have hf := late .flash (by decide)
  exact ⟨fun x hx => Part.same_trans (hb x hx) (late x (by simp_all)), (congrArg Flash.boots hf).trans hbo.1,
    (congrArg Flash.torn hf).trans hbo.2⟩

theorem startSlew_frame (s : State) : Frame s s.startSlew [R.CLK_TILE_FREQ, R.CLK_STATUS] [.power] := by
  by_cases h : s.power.halves = true ∧ s.targetMult ≠ s.slewGoal
  · obtain ⟨halves, goal⟩ := h
    rw [startSlew_of_ne halves goal]
    exact (((Frame.refl s _ _).setFld F.CLK_TILE_FREQ_IN_FORCE_MULT _ (by decide)).setFld F.CLK_STATUS_SLEWING 1 (by decide)).trans
      (frame_power _ _ (by decide))
  · rw [startSlew_of_stay fun hh => by_contra fun hg => h ⟨hh, hg⟩]
    exact Frame.refl ..

theorem bringUpComplete_answers (s : State) (hp : s.power.phase = .bringUp) (hb : s.power.boardTest = false) (hh : s.fhalt.held = false) :
    Answers .bringUpComplete s fun t =>
      t.power.phase = .run ∧ t.fld F.RST_BOOT_STATUS_READY = 1 ∧ t.fld F.VSP_STATUS_ALIVE = 1 ∧
        t.flash.boots = s.flash.boots + 1 ∧ t.flash.torn = 0 := by
  obtain ⟨parts, boots, torn⟩ := bootAlmanac_spec s
  let a := s.bootAlmanac.raise F.VSP_STATUS_ALIVE
  have slew := startSlew_frame a
  obtain ⟨power, ready, -, late⟩ := becomeReady_spec a.startSlew
  have all := (slew.mono (r' := R.CLK_TILE_FREQ :: R.CLK_STATUS :: R.RST_BOOT_STATUS :: portRegs) (p' := [.power, .ports]) (by simp)
    (by decide)).trans (late.mono (by simp) (by decide))
  have held : a.startSlew.becomeReady.fhalt.held = false :=
    (congrArg Fhalt.held ((all.2 .fhalt (by decide)).trans (parts .fhalt (by decide)))).trans hh
  have he : exec .bringUpComplete s = done a.startSlew.becomeReady := by
    have h1 : exec .bringUpComplete s = done a.startSlew.becomeReady.startHeldHalt :=
      (if_neg (by rw [hp, hb]; decide) : execBringUpComplete s = _)
    rw [h1, State.startHeldHalt, held, State.when_false]
  have flash : a.startSlew.becomeReady.flash = s.bootAlmanac.flash := all.2 .flash (by decide)
  refine answers_of_done he ⟨?_, ?_, ?_, ?_, ?_⟩
  · rw [State.refreshPf_power, power]
  · exact (State.refreshPf_fld _ _ (by decide)).trans ready
  · refine (State.refreshPf_fld _ _ (by decide)).trans ((all.fld_eq _ (by decide) (by decide)).trans ?_)
    exact State.fld_setFld_same _ F.VSP_STATUS_ALIVE 1 (by decide)
  · rw [State.refreshPf_flash, flash, boots]
  · rw [State.refreshPf_flash, flash, torn]

/-! ### The end of a warm reset (R173, R177, R862) -/

theorem Stays.endAllStandby (h : Stays off p s t) (hl : low off) (hp : .clearing ∈ p) : Stays off p s t.endAllStandby := by
  have one (k : UnitKind) (u : State) (i : Nat) : Stays off p u (u.when (u.unitState k i == 2) fun v => v.putUnit k i 0) :=
    (Stays.refl off p u).when ((Stays.refl off p u).putUnit (low_lt hl) k i 0)
  have h0 : Stays off p s { t with clearing := [] } := h.trans ((stays_clearing t []).mono (by simpa using hp))
  unfold State.endAllStandby
  extract_lets s0 a b c
  have ha : Stays off p s a := Stays.walk h0 _ _ fun u i => (Stays.refl off p u).putUnit (low_lt hl) .tile i 0
  exact ((ha.walk _ _ fun u i => one .tile u i).walk _ _ fun u i => one .core u i).walk _ _ fun u i => one .port u i

/-- A region becomes FREE. -/
def freeOne (u : State) (n : Nat) : State := (u.setWord (R.RGN_STATE n) 0).regionEvent n false

theorem rgnState_freed (l : List Nat) (s : State) (m : Nat) : (overList l s freeOne).rgnState m = if m ∈ l then rFREE else s.rgnState m := by
  induction l generalizing s with
  | nil => simp
  | cons n l ih =>
    have one : (freeOne s n).rgnState m = if m = n then rFREE else s.rgnState m := by
      refine (State.fld_setFld_off _ F.INT_PF_EVENT_REGION _ 1 (by simp only [F.RGN_STATE_STATE, R.RGN_STATE, F.INT_PF_EVENT_REGION, R.INT_PF_EVENT]; omega)).trans ?_
      by_cases h : m = n
      · subst h
        rw [if_pos rfl]
        simp only [State.fld, State.word_setWord, F.RGN_STATE_STATE, if_pos]
        rfl
      · rw [if_neg h]
        exact fld_setWord_ne s _ 0 (by simp only [F.RGN_STATE_STATE, R.RGN_STATE]; omega)
    rw [overList_cons, ih, one]
    by_cases h : m ∈ l
    · simp [h]
    · simp [h]

theorem sameParts_freed (s : State) (l : List Nat) : SameParts [] s (overList l s freeOne) :=
  (SameParts.refl [] s).walk _ _ fun u _ => ((SameParts.refl [] u).setWord _ _).setFld F.INT_PF_EVENT_REGION 1

/-- The regions that a warm reset frees. -/
def liveRegions (s : State) : List Nat := (List.range 32).filter fun n => s.rgnState n != rFREE

/-- The module before READY: no region lives. -/
def warmEnded (s : State) : State :=
  let t := (overList (liveRegions s) s freeOne).endAllStandby
  { t with power := { t.power with fromM3 := false } }

theorem warmEnded_spec (s : State) : (warmEnded s).fhalt = s.fhalt ∧ ∀ n, n < 32 → (warmEnded s).rgnState n = rFREE := by
  have standby {off : Nat} (hl : low off) : Stays off [.clearing] (overList (liveRegions s) s freeOne)
    (overList (liveRegions s) s freeOne).endAllStandby := (Stays.refl off _ _).endAllStandby hl (by decide)
  have ends {off : Nat} (hl : low off) : Stays off [.clearing, .power] (overList (liveRegions s) s freeOne) (warmEnded s) :=
    ((standby hl).mono (by decide)).trans ((stays_power _ _).mono (by decide))
  refine ⟨((ends (off := 0) (by decide)).2 .fhalt (by decide)).trans (sameParts_freed s _ .fhalt (by decide)), fun n hn => ?_⟩
  have hl : low (R.RGN_STATE n) := by simp only [low, R.RGN_STATE]; omega
  have hb : (warmEnded s).rgnState n = (overList (liveRegions s) s freeOne).rgnState n := rgnState_congr (ends hl).1
  rw [hb, rgnState_freed]
  by_cases hf : s.rgnState n = rFREE
  · simp [hf]
  · rw [if_pos (by simp [liveRegions, hn, hf])]

theorem exec_warmResetComplete (s : State) (hp : s.power.phase = .warmReset) (hd : s.power.warmDue = false) (hm : s.power.fromM3 = false) :
    exec .warmResetComplete s = done (warmEnded s).becomeReady.startHeldHalt := by
  have h0 : exec .warmResetComplete s = _ := (if_neg (by rw [hp, hd]; decide) : execWarmResetComplete s = _)
  exact h0.trans (if_neg (by rw [hm]; simp))

theorem warmResetComplete_answers (s : State) (hp : s.power.phase = .warmReset) (hd : s.power.warmDue = false)
    (hm : s.power.fromM3 = false) (hh : s.fhalt.held = false) : Answers .warmResetComplete s fun t =>
      t.power.phase = .run ∧ t.fld F.RST_BOOT_STATUS_READY = 1 ∧ t.fld F.RST_BOOT_STATUS_PHASE = 8 ∧
        ∀ n, n < 32 → t.rgnState n = rFREE := by
  obtain ⟨fhalt, states⟩ := warmEnded_spec s
  have he := exec_warmResetComplete s hp hd hm
  generalize warmEnded s = b at he fhalt states
  obtain ⟨power, ready, phase, late⟩ := becomeReady_spec b
  have held : b.becomeReady.fhalt.held = false := (congrArg Fhalt.held ((late.2 .fhalt (by decide)).trans fhalt)).trans hh
  rw [State.startHeldHalt, held, State.when_false] at he
  refine answers_of_done he ⟨?_, ?_, ?_, fun n hn => ?_⟩
  · rw [State.refreshPf_power, power]
  · exact (State.refreshPf_fld _ _ (by decide)).trans ready
  · exact (State.refreshPf_fld _ _ (by decide)).trans phase
  · have hr : R.RGN_STATE n ∉ R.RST_BOOT_STATUS :: portRegs := by
      simp only [portRegs, List.mem_cons, List.mem_flatMap, List.mem_range, List.not_mem_nil, or_false, not_or, not_exists, not_and,
        R.RGN_STATE, R.RST_BOOT_STATUS, R.INT_PF_EVENT, R.HL_CTRL, R.HL_STATUS]
      exact ⟨by omega, by omega, fun q _ => by omega⟩
    rw [refreshPf_rgnState, late.rgnState hr, states n hn]

/-! ### The warm reset itself (R128, R173, R174) -/

theorem smGet_mapWord (m : SMap Nat) (g : Nat → Nat → Nat) (d i : Nat) :
    smGet (m.map fun e => (e.1, g e.1 e.2)) d i = g i (smGet m d i) ∨
      smGet m d i = d ∧ smGet (m.map fun e => (e.1, g e.1 e.2)) d i = d := by
  induction m with
  | nil => exact .inr ⟨rfl, rfl⟩
  | cons e m ih =>
    obtain ⟨k, v⟩ := e
    rw [List.map_cons, smGet, smGet]
    by_cases h : k = i
    · subst h
      rw [if_pos rfl, if_pos rfl]
      exact .inl rfl
    · rw [if_neg h, if_neg h]
      exact ih

theorem warmWord_cap (w : Nat) : bitsOf (warmWord R.PWR_CAP w) 0 11 = 0 ∧ bitsOf (warmWord R.PWR_CAP w) 16 11 = bitsOf w 16 11 := by
  have hk : keptMask R.PWR_CAP ||| rwsMask R.PWR_CAP = 134152192 := by decide +kernel
  have hc : coldWord R.PWR_CAP = 0 := by decide +kernel
  unfold warmWord
  extract_lets k
  have e : k = 134152192 := hk
  rw [e, hc, Nat.zero_and, Nat.or_zero]
  have kept (i : Nat) (hi : i < 11) : Nat.testBit 134152192 (0 + i) = false ∧ Nat.testBit 134152192 (16 + i) = true := by
    interval_cases i <;> decide
  refine ⟨Nat.eq_of_testBit_eq fun i => ?_, Nat.eq_of_testBit_eq fun i => ?_⟩
  · rw [bitsOf_testBit, Nat.testBit_and]
    by_cases hi : i < 11
    · rw [(kept i hi).1]; simp
    · simp [hi]
  · rw [bitsOf_testBit, bitsOf_testBit, Nat.testBit_and]
    by_cases hi : i < 11
    · rw [(kept i hi).2]; simp
    · simp [hi]

/-- What is kept of the components and of the registers. -/
def warmKept (s t : State) : State :=
  let t : State := { t with regs := t.regs.map fun e => (e.1, warmWord e.1 e.2), ceLogged := [] }
  { t with
    hbm := if s.power.keepHbm then t.hbm else {}
    vesper := { t.vesper with integSeen := 0, mailDue := false, captureWanted := [] }
    power := { t.power with warmDue := false, m1Ticks := 0 } }

/-- Data-path state and registers after the first part of a warm reset. -/
def warmCleared (s : State) : State := warmKept s s.dropPath.resetTables.stopHalves

/-- What the warm reset shows of itself, in M3 or not. -/
def warmShown (s t : State) : State :=
  let m3 := s.power.fromM3
  let live := (List.range 32).filter fun n => s.rgnState n != rFREE
  let t := overList live t fun u n => u.setFld (F.RGN_STATE_STATE n) rRESETTING
  let t := (t.setFld F.RST_BOOT_STATUS_PHASE 9).setFld F.PWR_STATE_STATE (if m3 then 3 else 1)
  let t := t.when (s.fld F.PWR_STATE_LAST_WAKE == 6) fun u => u.setFld F.PWR_STATE_LAST_WAKE 6
  if m3 then ((t.when (s.on F.PWR_FHALT_STATUS_HALTED) fun u => u.raise F.PWR_FHALT_STATUS_HALTED).selfRefresh true)
    else t.raise F.CLK_STATUS_HOST_LOCK

/-- The halves start again, but in M3. -/
def warmPowered (s t : State) (q : PowerUp) : State :=
  let t := t.updateShed.updateRefreshOnly.noteCap
  let t := t.when (!s.power.fromM3 || s.power.releasing) fun u => u.startHalves u.targetMult q
  overList q.failedChannels t fun u c => u.channelFailed c.val

theorem exec_warmReset (q : PowerUp) (s : State) (hp : s.power.phase = .warmReset) (hd : s.power.warmDue = true) :
    exec (.warmReset q) s = done (warmPowered s (warmShown s (warmCleared s)) q) :=
  (if_neg (by rw [hp, hd]; decide) : execWarmReset q s = _)

theorem stays_stopHalves (s : State) (h : off < 0x100000) (hc : off ≠ R.CLK_STATUS ∧ off ≠ R.CLK_TILE_FREQ ∧ off ≠ R.CLK_ISLAND) :
    Stays off [.power, .xings] s s.stopHalves := by
  obtain ⟨status, freq, island⟩ := hc
  unfold State.stopHalves
  extract_lets a b old1 old2 c
  have hb : Stays off [.power, .xings] s b := (((((((Stays.refl off _ s).setFld F.CLK_STATUS_TW_LOCK 0 status).setFld F.CLK_STATUS_TE_LOCK 0
    status).setFld F.CLK_STATUS_LINK_LOCK 0 status).setFld F.CLK_STATUS_SHED 0 status).setFld F.CLK_STATUS_SLEWING 0 status).setFld
    F.CLK_STATUS_XING_TRAINED 0 status).setFld F.CLK_TILE_FREQ_IN_FORCE_MULT 0 freq |>.setFld F.CLK_ISLAND_POWERED 0 island
  have hc : Stays off [.power, .xings] b c := .of_regs rfl fun x hx => by
    cases x with
    | power => exact absurd (by decide) hx
    | xings => exact absurd (by decide) hx
    | _ => rfl
  exact (hb.trans hc).walk _ _ fun u n =>
    (Stays.refl off _ u).setFld (F.RGN_STATE_ISLANDS_POWERED n) 0 (by simp only [F.RGN_STATE_ISLANDS_POWERED, R.RGN_STATE]; omega)

theorem stopHalves_power (s : State) : s.stopHalves.power =
    { s.power with halves := false, westStopped := false, eastStopped := false, repair := [] } ∧ s.stopHalves.xings.failed = [] := by
  unfold State.stopHalves
  extract_lets a b old1 old2 c
  refine overList_keeps (fun u : State => u.power = { s.power with halves := false, westStopped := false, eastStopped := false, repair := [] } ∧
    u.xings.failed = []) _ _ _ ⟨rfl, rfl⟩ fun u n h => h

theorem warmKept_spec (s t : State) : (warmKept s t).power = { t.power with warmDue := false, m1Ticks := 0 } ∧
    (warmKept s t).hbm = (if s.power.keepHbm then t.hbm else {}) ∧ (warmKept s t).flash = t.flash ∧ (warmKept s t).net = t.net ∧
    (warmKept s t).cores = t.cores ∧ (warmKept s t).xings = t.xings ∧
    (warmKept s t).regs = t.regs.map fun e => (e.1, warmWord e.1 e.2) := ⟨rfl, rfl, rfl, rfl, rfl, rfl, rfl⟩

theorem warmKept_cap (s t : State) : (warmKept s t).fld F.PWR_CAP_PF_CAP_W = 0 ∧
    (warmKept s t).fld F.PWR_CAP_PLDM_CAP_W = t.fld F.PWR_CAP_PLDM_CAP_W := by
  obtain ⟨-, -, -, -, -, -, regs⟩ := warmKept_spec s t
  have pf (t : State) : t.fld F.PWR_CAP_PF_CAP_W = bitsOf (smGet t.regs 0 R.PWR_CAP) 0 11 := rfl
  have pldm (t : State) : t.fld F.PWR_CAP_PLDM_CAP_W = bitsOf (smGet t.regs 0 R.PWR_CAP) 16 11 := rfl
  rw [pf, pldm, pldm, regs]
  obtain h | ⟨h0, h⟩ := smGet_mapWord t.regs warmWord 0 R.PWR_CAP
  · rw [h]
    exact warmWord_cap _
  · rw [h, h0]
    exact ⟨rfl, rfl⟩

theorem warmCleared_spec (s : State) :
    (warmCleared s).power =
      { s.power with halves := false, westStopped := false, eastStopped := false, repair := [], warmDue := false, m1Ticks := 0 } ∧
    (warmCleared s).hbm = (if s.power.keepHbm then s.hbm else {}) ∧ (warmCleared s).flash = s.flash ∧ (warmCleared s).net = [] ∧
    (warmCleared s).cores = [] ∧ (warmCleared s).xings.failed = [] ∧ (warmCleared s).fld F.PWR_CAP_PF_CAP_W = 0 ∧
    (warmCleared s).fld F.PWR_CAP_PLDM_CAP_W = s.fld F.PWR_CAP_PLDM_CAP_W := by
  obtain ⟨power, failed⟩ := stopHalves_power s.dropPath.resetTables
  obtain ⟨cap, parts⟩ := stays_stopHalves (off := R.PWR_CAP) s.dropPath.resetTables (by decide) (by decide)
  unfold warmCleared
  generalize s.dropPath.resetTables.stopHalves = x at power failed cap parts
  obtain ⟨power', hbm', flash', net', cores', xings', -⟩ := warmKept_spec s x
  obtain ⟨pf, pldm⟩ := warmKept_cap s x
  refine ⟨?_, ?_, flash'.trans (parts .flash (by decide)), net'.trans (parts .net (by decide)), cores'.trans (parts .cores (by decide)), ?_,
    pf, pldm.trans (cap.fld F.PWR_CAP_PLDM_CAP_W rfl)⟩
  · rw [power', power]
    rfl
  · rw [hbm', show x.hbm = s.hbm from parts .hbm (by decide)]
  · rw [xings', failed]

theorem Stays.selfRefresh (h : Stays off p s t) (hb : off < 0x800000) (b : Bool) : Stays off p s (t.selfRefresh b) :=
  h.walk _ _ fun u k => (Stays.refl off p u).setFld (F.HBM_STATUS_SELF_REFRESH k) _ (by
    simp only [F.HBM_STATUS_SELF_REFRESH, R.HBM_STATUS]; omega)

theorem selfRefresh_fld (s : State) {k : Nat} (hk : k < 8) : (s.selfRefresh true).fld (F.HBM_STATUS_SELF_REFRESH k) = 1 := by
  refine fld_raised F.HBM_STATUS_SELF_REFRESH (fun i => ⟨show 2 + 1 ≤ 32 by decide, show 0 < 1 by decide⟩) (fun i j ne => ?_) _ _
    (List.mem_range.2 hk)
  simp only [F.HBM_STATUS_SELF_REFRESH, R.HBM_STATUS]
  omega

/-- The registers in which a warm reset shows itself. -/
def shownRegs : List Nat := [R.RST_BOOT_STATUS, R.PWR_STATE, R.PWR_FHALT_STATUS, R.CLK_STATUS]

theorem stays_warmShown (s t : State) (hb : off < 0x800000) (hs : off ∉ shownRegs) (hr : ∀ n, n < 32 → off ≠ R.RGN_STATE n) :
    Stays off [] t (warmShown s t) := by
  simp only [shownRegs, List.mem_cons, List.not_mem_nil, or_false, not_or] at hs
  obtain ⟨boot, state, fhalt, clk⟩ := hs
  unfold warmShown
  extract_lets m3 live a b c
  have ha : Stays off [] t a := ⟨(SameWord.refl off t).walk live _ fun u n hn => (SameWord.refl off u).setFld (F.RGN_STATE_STATE n) _
    (hr n (List.mem_range.1 (List.mem_filter.1 hn).1)), (SameParts.refl [] t).walk live _ fun u n => (SameParts.refl [] u).setFld _ _⟩
  have hc : Stays off [] t c := ((ha.setFld F.RST_BOOT_STATUS_PHASE 9 boot).setFld F.PWR_STATE_STATE _ state).when
    ((Stays.refl off [] _).setFld F.PWR_STATE_LAST_WAKE 6 state)
  split
  · exact (hc.when ((Stays.refl off [] _).setFld F.PWR_FHALT_STATUS_HALTED 1 fhalt)).selfRefresh hb true
  · exact hc.setFld F.CLK_STATUS_HOST_LOCK 1 clk

theorem warmShown_state (s t : State) : (warmShown s t).fld F.PWR_STATE_STATE = if s.power.fromM3 then 3 else 1 := by
  unfold warmShown
  extract_lets m3 live a b c
  have hb : b.fld F.PWR_STATE_STATE = if m3 then 3 else 1 := by
    refine (State.fld_setFld_same _ F.PWR_STATE_STATE _ (by decide)).trans ?_
    cases m3 <;> rfl
  have hc : c.fld F.PWR_STATE_STATE = if m3 then 3 else 1 := by
    unfold c
    cases s.fld F.PWR_STATE_LAST_WAKE == 6
    · exact hb
    · exact (fld_setFld_apart b 6 (by unfold Apart; decide)).trans hb
  have hw (c : State) : Stays R.PWR_STATE [] c
      ((c.when (s.on F.PWR_FHALT_STATUS_HALTED) fun u => u.raise F.PWR_FHALT_STATUS_HALTED).selfRefresh true) :=
    ((Stays.refl _ [] c).when ((Stays.refl _ [] c).setFld F.PWR_FHALT_STATUS_HALTED 1 (by decide))).selfRefresh (by decide) true
  refine Eq.trans ?_ hc
  by_cases hm : m3 = true
  · rw [if_pos hm]
    exact (hw c).1.fld _ rfl
  · rw [if_neg hm]
    exact fld_setFld_apart c 1 (by unfold Apart; decide)

theorem warmShown_regions (s t : State) {n : Nat} (hn : n < 32) (hl : s.rgnState n ≠ rFREE) : (warmShown s t).rgnState n = rRESETTING := by
  have hlow : R.RGN_STATE n < 0x800000 := by simp only [R.RGN_STATE]; omega
  have ne {f : Fld} (hf : f.off < 0x100000) : R.RGN_STATE n ≠ f.off := by simp only [R.RGN_STATE]; omega
  unfold warmShown
  extract_lets m3 live a b c
  have ha : a.rgnState n = rRESETTING := by
    unfold a
    rw [rgnState_walk, if_pos (by simp [live, hn, hl])]
    rfl
  have hc : Stays (R.RGN_STATE n) [] a c := (((Stays.refl _ [] a).setFld F.RST_BOOT_STATUS_PHASE 9 (ne (by decide))).setFld F.PWR_STATE_STATE _
    (ne (by decide))).when ((Stays.refl _ [] b).setFld F.PWR_STATE_LAST_WAKE 6 (ne (by decide)))
  split
  · exact (rgnState_congr ((hc.when ((Stays.refl _ [] _).setFld F.PWR_FHALT_STATUS_HALTED 1 (ne (by decide)))).selfRefresh hlow true).1).trans ha
  · exact (rgnState_congr (hc.setFld F.CLK_STATUS_HOST_LOCK 1 (ne (by decide))).1).trans ha

theorem warmShown_selfRefresh (s t : State) (hm : s.power.fromM3 = true) {k : Nat} (hk : k < 8) :
    (warmShown s t).fld (F.HBM_STATUS_SELF_REFRESH k) = 1 := by
  unfold warmShown
  extract_lets m3 live a b c
  have e : m3 = true := hm
  rw [if_pos e]
  exact selfRefresh_fld _ hk

/-! ### Supply and clocks at the end of the warm reset -/

/-- The shed request, refresh-only and the cap in force, brought into line. -/
def supplyAligned (t : State) : State := t.updateShed.updateRefreshOnly.noteCap

theorem stays_supplyAligned (t : State) (hb : off < 0x800000) (h1 : off ≠ R.PWR_STATUS) (h2 : off ≠ R.PWR_CAP_STATUS) :
    Stays off [.supply] t (supplyAligned t) := by
  have shed : Stays off [.supply] t t.updateShed := by
    obtain ⟨u, e⟩ := updateShed_eq t
    rw [e]
    exact ((Stays.refl off _ t).setFld F.PWR_STATUS_SHED_REQ _ h1).trans (stays_supply _ u)
  have refresh : Stays off [.supply] t t.updateShed.updateRefreshOnly :=
    (shed.walk _ _ fun u k => (Stays.refl off _ u).setFld (F.HBM_STATUS_REFRESH_ONLY k) _ (by
      simp only [F.HBM_STATUS_REFRESH_ONLY, R.HBM_STATUS]; omega)).setFld F.PWR_STATUS_HBM_REFRESH_ONLY _ h1
  exact refresh.setFld F.PWR_CAP_STATUS_ENFORCED_W _ h2

theorem supplyAligned_cap (t : State) : (supplyAligned t).fld F.PWR_CAP_STATUS_ENFORCED_W =
    enforcedCap (t.fld F.PWR_CAP_PF_CAP_W) (t.fld F.PWR_CAP_PLDM_CAP_W) := by
  have kept {f : Fld} (hf : f.off = R.PWR_CAP) : t.updateShed.updateRefreshOnly.fld f = t.fld f := by
    refine (updateRefreshOnly_keeps _ (.inl (by rw [hf]; decide)) fun k _ => apart_refreshOnly (by rw [hf]; decide) k).trans ?_
    exact (frame_updateShed t).fld_eq f (by rw [hf]; decide) (by rw [hf]; decide)
  refine (State.fld_setFld_same _ F.PWR_CAP_STATUS_ENFORCED_W _ (by decide)).trans ?_
  rw [kept rfl, kept rfl]
  exact Nat.mod_eq_of_lt (show enforcedCap _ _ < 2 ^ 11 by unfold enforcedCap; omega)

theorem supplyAligned_selfRefresh (t : State) (k : Nat) :
    (supplyAligned t).fld (F.HBM_STATUS_SELF_REFRESH k) = t.fld (F.HBM_STATUS_SELF_REFRESH k) := by
  have high {o : Nat} (h : o < 0x100000) : (F.HBM_STATUS_SELF_REFRESH k).off ≠ o := by
    simp only [F.HBM_STATUS_SELF_REFRESH, R.HBM_STATUS]; omega
  refine (State.fld_setFld_off _ _ _ _ (high (by decide))).trans ?_
  refine (updateRefreshOnly_keeps _ (.inl (high (by decide))) fun j _ => ?_).trans
    ((frame_updateShed t).fld_eq _ (by simp only [F.HBM_STATUS_SELF_REFRESH, R.HBM_STATUS, R.INT_PF_STATUS]; omega)
      (by simpa using high (o := R.PWR_STATUS) (by decide)))
  by_cases h : j = k
  · subst h
    exact .inr ⟨rfl, rfl, show 2 + 1 ≤ 32 by decide, .inl (show 2 + 1 ≤ 3 by decide)⟩
  · exact .inl (by simp only [F.HBM_STATUS_SELF_REFRESH, F.HBM_STATUS_REFRESH_ONLY, R.HBM_STATUS]; omega)

/-! ### Halves that start with nothing found to fail -/

theorem verifyXings_nil (s : State) (tiles : List Nat) (hh : s.power.halves = true) (hf : s.xings.failed = []) :
    (s.verifyXings tiles []).fld F.CLK_STATUS_XING_TRAINED = 1 ∧ (off ≠ R.CLK_STATUS → Stays off [.xings] s (s.verifyXings tiles [])) := by
  unfold State.verifyXings
  extract_lets old x
  have hx : x.failed = [] := by
    have e : x.failed = s.xings.failed.filter fun e => !tiles.contains (e / 2) := rfl
    rw [e, hf, List.filter_nil]
  refine ⟨?_, fun hc => (stays_xings' s x).setFld F.CLK_STATUS_XING_TRAINED _ hc⟩
  refine (State.fld_setFld_same _ F.CLK_STATUS_XING_TRAINED _ (by decide)).trans ?_
  have e : (s.power.halves && x.failed.all fun k => ({ s with xings := x } : State).xingDark (k / 2)) = true := by rw [hh, hx]; rfl
  exact congrArg (fun b => bit b % 2) e

/-- What then changes beside the clocks' registers. -/
def quietParts : List Part := [.power, .supply, .slices, .xings]

theorem startHalves_nil (s : State) (m : Nat) (hf : s.xings.failed = []) : (s.startHalves m {}).fld F.CLK_STATUS_XING_TRAINED = 1 ∧
    (off < 0x400000 → off ≠ R.CLK_STATUS → off ≠ R.CLK_TILE_FREQ → off ≠ R.CLK_SHED → Stays off quietParts s (s.startHalves m {})) := by
  let b := (halvesOn s m).freshSlices.when (halvesOn s m).shedRequest State.applyShed
  have he : s.startHalves m {} = b.verifyXings sliceXings [] := startHalves_eq s m {}
  have fresh {off : Nat} (hb : off < 0x400000) (h1 : off ≠ R.CLK_STATUS) (h3 : off ≠ R.CLK_SHED) : Stays off [.slices, .supply] (halvesOn s m) b :=
    ((Stays.refl off _ _).freshSlices hb (by decide)).when ((stays_applyShed _ h1 h3).mono (by decide))
  have parts := (fresh (off := 0) (by decide) (by decide) (by decide)).2
  have halves : b.power.halves = true := (congrArg Power.halves (parts .power (by decide))).trans rfl
  have failed : b.xings.failed = [] := (congrArg Xings.failed (parts .xings (by decide))).trans hf
  rw [he]
  refine ⟨(verifyXings_nil (off := 0) b sliceXings halves failed).1, fun hb h1 h2 h3 => ?_⟩
  exact (((stays_halvesOn s m h1 h2).mono (by decide)).trans ((fresh hb h1 h3).mono (by decide))).trans
    (((verifyXings_nil b sliceXings halves failed).2 h1).mono (by decide))

theorem warmPowered_channels (s t : State) (q : PowerUp) (hb : off < 0x100000) (hr : off ≠ R.RST_ERR) :
    Stays off fenceParts ((supplyAligned t).when (!s.power.fromM3 || s.power.releasing) fun u => u.startHalves u.targetMult q)
      (warmPowered s t q) :=
  (Stays.refl off _ _).walk _ _ fun u _ => (Stays.refl off _ u).channelFailed _ hb hr (fun _ h => h)

/-- What a warm reset keeps once it has shown itself. -/
theorem stays_warmPowered (s t : State) (q : PowerUp) (hb : off < 0x100000) (hr : off ∉ startRegs) (h1 : off ≠ R.PWR_STATUS)
    (h2 : off ≠ R.PWR_CAP_STATUS) : Stays off (.power :: startParts) t (warmPowered s t q) := by
  have he : off ≠ R.RST_ERR := fun e => hr (by rw [e]; decide)
  have aligned := stays_supplyAligned t (hb.trans (by decide)) h1 h2
  refine Stays.trans ?_ ((warmPowered_channels s t q hb he).mono (by decide))
  exact (aligned.mono (by decide)).when (stays_startHalves _ _ q hb hr)

theorem warmPowered_power (s t : State) (q : PowerUp) :
    (warmPowered s t q).power = if !s.power.fromM3 || s.power.releasing then
      { t.power with halves := true, westStopped := false, eastStopped := false, repair := t.power.fuseCopy } else t.power := by
  have aligned : (supplyAligned t).power = t.power :=
    (stays_supplyAligned (off := 0) t (by decide) (by decide) (by decide)).2 .power (by decide)
  refine ((warmPowered_channels (off := 0) s t q (by decide) (by decide)).2 .power (by decide)).trans ?_
  cases hb : (!s.power.fromM3 || s.power.releasing)
  · exact aligned
  · refine (startHalves_power _ _ q).trans ?_
    rw [aligned, if_pos rfl]

/-- With nothing found to fail, what remains as it was, the crossings and the cap. -/
theorem warmPowered_nil (s t : State) (hf : t.xings.failed = []) :
    (s.power.fromM3 = false → (warmPowered s t {}).fld F.CLK_STATUS_XING_TRAINED = 1) ∧
    (warmPowered s t {}).fld F.PWR_CAP_STATUS_ENFORCED_W = enforcedCap (t.fld F.PWR_CAP_PF_CAP_W) (t.fld F.PWR_CAP_PLDM_CAP_W) ∧
    (∀ n, n < 32 → (warmPowered s t {}).rgnState n = t.rgnState n) ∧ SameParts quietParts t (warmPowered s t {}) := by
  have he : warmPowered s t {} = (supplyAligned t).when (!s.power.fromM3 || s.power.releasing) fun u => u.startHalves u.targetMult {} := rfl
  have failed : (supplyAligned t).xings.failed = [] := (congrArg Xings.failed
    ((stays_supplyAligned (off := 0) t (by decide) (by decide) (by decide)).2 .xings (by decide))).trans hf
  have capShown := supplyAligned_cap t
  have regions (n : Nat) (hn : n < 32) : (supplyAligned t).rgnState n = t.rgnState n := rgnState_congr
    (stays_supplyAligned (off := R.RGN_STATE n) t (by simp only [R.RGN_STATE]; omega) (by simp only [R.RGN_STATE, R.PWR_STATUS]; omega)
      (by simp only [R.RGN_STATE, R.PWR_CAP_STATUS]; omega)).1
  have alignedParts := ((stays_supplyAligned (off := 0) t (by decide) (by decide) (by decide)).mono (q := quietParts) (by decide)).2
  rw [he]
  generalize supplyAligned t = a at failed capShown regions alignedParts
  have start {off : Nat} := startHalves_nil (off := off) a a.targetMult failed
  have late {off : Nat} (h0 : off < 0x400000) (h1 : off ≠ R.CLK_STATUS) (h2 : off ≠ R.CLK_TILE_FREQ) (h3 : off ≠ R.CLK_SHED) :
      Stays off quietParts a (a.when (!s.power.fromM3 || s.power.releasing) fun u => u.startHalves u.targetMult {}) :=
    (Stays.refl off _ a).when (start.2 h0 h1 h2 h3)
  refine ⟨fun hm => ?_, ?_, fun n hn => ?_, alignedParts.trans (late (off := 0) (by decide) (by decide) (by decide) (by decide)).2⟩
  · rw [hm, Bool.not_false, Bool.true_or, State.when_true]
    exact (start (off := 0)).1
  · exact ((late (off := R.PWR_CAP_STATUS) (by decide) (by decide) (by decide) (by decide)).1.fld _ rfl).trans capShown
  · exact (rgnState_congr (late (by simp only [R.RGN_STATE]; omega) (by simp only [R.RGN_STATE, R.CLK_STATUS]; omega)
      (by simp only [R.RGN_STATE, R.CLK_TILE_FREQ]; omega) (by simp only [R.RGN_STATE, R.CLK_SHED]; omega)).1).trans (regions n hn)

theorem warmPowered_m3 (s t : State) (q : PowerUp) (hm : s.power.fromM3 = true) (hr : s.power.releasing = false) (hq : q.failedChannels = []) :
    warmPowered s t q = supplyAligned t := by
  unfold warmPowered
  rw [hq, hm, hr]
  rfl

theorem warmReset_answers (q : PowerUp) (s : State) (hp : s.power.phase = .warmReset) (hd : s.power.warmDue = true) :
    Answers (.warmReset q) s fun t =>
      t.power.phase = .warmReset ∧ t.power.warmDue = false ∧ t.hbm = (if s.power.keepHbm then s.hbm else {}) ∧ t.flash = s.flash ∧
        (s.power.fromM3 = false → t.power.halves = true ∧ t.fld F.PWR_STATE_STATE = 1) ∧
        (s.power.fromM3 = true → s.power.releasing = false → q.failedChannels = [] →
          t.power.halves = false ∧ t.fld F.PWR_STATE_STATE = 3 ∧ ∀ k, k < 8 → t.fld (F.HBM_STATUS_SELF_REFRESH k) = 1) ∧
        (q = {} → t.net = [] ∧ t.cores = [] ∧ (s.power.fromM3 = false → t.fld F.CLK_STATUS_XING_TRAINED = 1) ∧
          t.fld F.PWR_CAP_STATUS_ENFORCED_W = enforcedCap 0 (s.fld F.PWR_CAP_PLDM_CAP_W) ∧
          ∀ n, n < 32 → s.rgnState n ≠ rFREE → t.rgnState n = rRESETTING) := by
  obtain ⟨power, hbm, flash, net, cores, failed, pf, pldm⟩ := warmCleared_spec s
  have he := exec_warmReset q s hp hd
  generalize warmCleared s = c at he power hbm flash net cores failed pf pldm
  have shownState := warmShown_state s c
  have shownRegions := fun n (hn : n < 32) hl => warmShown_regions s c hn hl
  have shownRefresh := fun hm k (hk : k < 8) => warmShown_selfRefresh s c hm hk
  have shown {off : Nat} := stays_warmShown (off := off) s c
  have shownParts := (shown (off := 0) (by decide) (by decide) (fun n _ => by simp only [R.RGN_STATE]; omega)).2
  have cap := shown (off := R.PWR_CAP) (by decide) (by decide) (fun n _ => by simp only [R.RGN_STATE, R.PWR_CAP]; omega)
  generalize warmShown s c = d at he shownState shownRegions shownRefresh shownParts cap
  have powered {off : Nat} := stays_warmPowered (off := off) s d q
  have parts := (powered (off := 0) (by decide) (by decide) (by decide) (by decide)).2
  have dpower : d.power = _ := (shownParts .power (by decide)).trans power
  have state : (warmPowered s d q).fld F.PWR_STATE_STATE = if s.power.fromM3 then 3 else 1 :=
    ((powered (off := R.PWR_STATE) (by decide) (by decide) (by decide) (by decide)).1.fld _ rfl).trans shownState
  have wpower := warmPowered_power s d q
  refine answers_of_done he ⟨?_, ?_, ?_, ?_, fun hm => ⟨?_, ?_⟩, fun hm hr hq => ⟨?_, ?_, fun k hk => ?_⟩, fun hq => ⟨?_, ?_, fun hm => ?_,
    ?_, fun n hn hl => ?_⟩⟩
  · rw [State.refreshPf_power, wpower, dpower]
    split <;> exact hp
  · rw [State.refreshPf_power, wpower, dpower]
    split <;> rfl
  · exact (State.refreshPf_hbm _).trans ((parts .hbm (by decide)).trans ((shownParts .hbm (by decide)).trans hbm))
  · exact (State.refreshPf_flash _).trans ((parts .flash (by decide)).trans ((shownParts .flash (by decide)).trans flash))
  · rw [State.refreshPf_power, wpower, hm]
    rfl
  · refine (State.refreshPf_fld _ _ (by decide)).trans (state.trans ?_)
    rw [hm]
    rfl
  · rw [State.refreshPf_power, wpower, hm, hr, dpower]
    rfl
  · refine (State.refreshPf_fld _ _ (by decide)).trans (state.trans ?_)
    rw [hm]
    rfl
  · refine (State.refreshPf_fld _ _ (by simp only [F.HBM_STATUS_SELF_REFRESH, R.HBM_STATUS, R.INT_PF_STATUS]; omega)).trans ?_
    rw [warmPowered_m3 s d q hm hr hq, supplyAligned_selfRefresh]
    exact shownRefresh hm k hk
  all_goals
    subst hq
    have nil := warmPowered_nil s d ((congrArg Xings.failed (shownParts .xings (by decide))).trans failed)
    obtain ⟨trained, capShown, regions, quiet⟩ := nil
  · exact (State.refreshPf_net _).trans ((quiet .net (by decide)).trans ((shownParts .net (by decide)).trans net))
  · exact (State.refreshPf_cores _).trans ((quiet .cores (by decide)).trans ((shownParts .cores (by decide)).trans cores))
  · exact (State.refreshPf_fld _ _ (by decide)).trans (trained hm)
  · refine (State.refreshPf_fld _ _ (by decide)).trans (capShown.trans ?_)
    rw [cap.1.fld F.PWR_CAP_PF_CAP_W rfl, cap.1.fld F.PWR_CAP_PLDM_CAP_W rfl, pf, pldm]
  · exact (refreshPf_rgnState _ n).trans ((regions n hn).trans (shownRegions n hn hl))

/-- Settles O23, part by part: each sequence keeps the registers below the regions' pages but the few that it writes. -/
theorem warmResetsAndBringUpComplete : Obligations.WarmResetsAndBringUpComplete := by
  unfold Obligations.WarmResetsAndBringUpComplete
  exact ⟨warmReset_answers, warmResetComplete_answers, converterStart_boardTest, converterStart_recovery, converterStart_slot,
    bringUpComplete_answers⟩

end Sys2Proof.Machine
end

section
/-! The clearing of a released region (R353) writes its slices' channels back as well: the stray request of the entry into M2 counts in
another region's register here too. -/

namespace Sys2Proof.Machine

/-- Region 0 is being cleared, and a stray request waits in channel 0. -/
def clearingState : State :=
  { strayState (strayRequest 0 stateClass) with regions := [(0, { clearing := true })], power := { halves := true } }

/-- The beat that is counted leaves region 1 in another state than FREE. -/
theorem clearingState_region : (after (.releaseClearEnd 0) clearingState).rgnState 1 = rCONFIGURING := by decide +kernel

/-- Refutes O15: the clearing of region 0 grants a request of region 0 and class 3200, whose count of beats is the register RGN_STATE of
region 1; that region then reads CONFIGURING, where it was FREE. -/
theorem not_regionResetsComplete : ¬ Obligations.RegionResetsComplete := by
  unfold Obligations.RegionResetsComplete
  intro ⟨_, _, _, clear, _⟩
  obtain ⟨-, -, -, -, others⟩ := (clear 0 clearingState (by decide +kernel) (by decide +kernel) (by decide +kernel)).after
  exact absurd (clearingState_region.symm.trans (others 1 (by decide) (by decide))) (by decide +kernel)

end Sys2Proof.Machine
end

section
/-! Writes of a port's registers (17, R734, R751, R760). -/

namespace Sys2Proof.Machine

variable {s t : State} {w : DwWrite}

/-! ### HL_CTRL -/

theorem takes_hlCtrl (p : Fin 4) : Takes (R.HL_CTRL p) (R.HL_CTRL 0) := by
  revert p
  decide +kernel

theorem takes_hlAssign (p : Fin 4) : Takes (R.HL_ASSIGN p) (R.HL_ASSIGN 0) := by
  revert p
  decide +kernel

theorem keeps_hlCtrl (p : Fin 4) : Keeps (descAt (R.HL_CTRL p)) (F.HL_CTRL_MIN_WIDTH p) ∧
    Keeps (descAt (R.HL_CTRL p)) (F.HL_CTRL_AUTO_TRAIN p) ∧ Keeps (descAt (R.HL_CTRL p)) (F.HL_CTRL_ENABLE p) := by
  revert p
  decide +kernel

theorem keeps_hlAssign (p : Fin 4) : Keeps (descAt (R.HL_ASSIGN p)) (F.HL_ASSIGN_VALID p) ∧
    Keeps (descAt (R.HL_ASSIGN p)) (F.HL_ASSIGN_REGION p) := by
  revert p
  decide +kernel

theorem portNumber_ctrl (p : Nat) : R.HL_CTRL p / 0x10000 - 0x90 = p := by simp only [R.HL_CTRL]; omega

theorem portNumber_assign (p : Nat) : R.HL_ASSIGN p / 0x10000 - 0x90 = p := by simp only [R.HL_ASSIGN]; omega

/-- The state with HL_CTRL written. -/
def ctrlPut (s : State) (p : Nat) (w : DwWrite) : State := s.putReg (R.HL_CTRL p) (descAt (R.HL_CTRL p)) w.data.toNat 0

theorem frame_ctrlPut (s : State) (p : Nat) (w : DwWrite) {r : List Nat} (q : List Part) (h : R.HL_CTRL p ∈ r) :
    Frame s (ctrlPut s p w) r q := putReg_frame _ _ _ _ h

theorem bitsOf_one (v i : Nat) : bitsOf v i 1 = bit (v.testBit i) := by
  simp only [bitsOf, Nat.pow_one, Nat.testBit_eq_decide_div_mod_eq]
  obtain h | h := Nat.mod_two_eq_zero_or_one (v / 2 ^ i) <;> simp [h, bit]

theorem ctrlPut_fields (s : State) (p : Fin 4) (w : DwWrite) :
    (ctrlPut s p w).fld (F.HL_CTRL_MIN_WIDTH p) = bitsOf w.data.toNat 4 2 ∧
      (ctrlPut s p w).fld (F.HL_CTRL_AUTO_TRAIN p) = bitsOf w.data.toNat 1 1 ∧
      (ctrlPut s p w).fld (F.HL_CTRL_ENABLE p) = bit (w.data.getLsbD 0) := by
  obtain ⟨width, auto, enable⟩ := keeps_hlCtrl p
  exact ⟨fld_putReg_keeps s w.data _ rfl width, fld_putReg_keeps s w.data _ rfl auto,
    (fld_putReg_keeps s w.data _ rfl enable).trans (bitsOf_one _ 0)⟩

theorem unitRefusal_ctrl (s : State) (off v : Nat) :
    s.unitRefusal (R.HL_CTRL 0) off v = s.enableRefusal (off / 0x10000 - 0x90) v := rfl

theorem badFields_ctrl (off v : Nat) : badFields (R.HL_CTRL 0) off v =
    outside v (F.HL_CTRL_MIN_WIDTH (off / 0x10000 - 0x90)) (F.HL_ERR_CFG_ERR (off / 0x10000 - 0x90)) 0 2 := rfl

theorem followWrite_ctrl (s t : State) (off v : Nat) (cs : List Crossing) :
    s.followWrite (R.HL_CTRL 0) off v cs t = s.enableChanged t (off / 0x10000 - 0x90) := rfl

/-- A write of HL_CTRL that no check refuses: the register takes it, and the change of ENABLE follows. -/
theorem hostWrite_ctrl (p : Fin 4) (h : s.Serves) (hw : PlainWrite w (R.HL_CTRL p)) (hm : bitsOf w.data.toNat 4 2 ≤ 2)
    (hr : s.enableRefusal p w.data.toNat = none) : s.hostWrite (R.HL_CTRL p) w = s.enableChanged (ctrlPut s p w) p := by
  have good : badFields (R.HL_CTRL 0) (R.HL_CTRL p) w.data.toNat = [] := by
    have none : outside w.data.toNat (F.HL_CTRL_MIN_WIDTH p) (F.HL_ERR_CFG_ERR p) 0 2 = [] := if_pos ⟨Nat.zero_le _, hm⟩
    rw [badFields_ctrl, portNumber_ctrl]
    exact none
  have accepted : s.wholeRefusal .pf (R.HL_CTRL 0) (R.HL_CTRL p) w.data.toNat = none := by
    rw [wholeRefusal_unit (by decide)]
    rw [unitRefusal_ctrl, portNumber_ctrl, hr]
  rw [hostWrite_takes h hw (takes_hlCtrl p) accepted good, followWrite_ctrl, portNumber_ctrl]
  rfl

theorem answers_linkEnable (p : Fin 4) (h : s.Serves) (hw : PlainWrite w (R.HL_CTRL p)) (hm : bitsOf w.data.toNat 4 2 ≤ 2)
    (hd : w.data.getLsbD 0 = true) (he : s.fld (F.HL_CTRL_ENABLE p) = 0) (hf : s.portFenced p = false) (hl : s.linkState p = lDISABLED) :
    Answers (.linkEnable p w) s fun t =>
      t.linkState p = lTRAINING ∧ (t.port p).attempt = true ∧ t.fld (F.HL_CTRL_ENABLE p) = 1 ∧
        (t.fld (F.HL_CTRL_MIN_WIDTH p) = bitsOf w.data.toNat 4 2 ∧ t.fld (F.HL_CTRL_AUTO_TRAIN p) = bitsOf w.data.toNat 1 1) ∧
        t.fld F.INT_PF_EVENT_LINK = 1 ∧ Frame s t [R.HL_CTRL p, R.HL_STATUS p, R.INT_PF_EVENT] [.ports] := by
  have refused : s.enableRefusal p w.data.toNat = none := by
    have hv : w.data.toNat.testBit 0 = true := hd
    simp [State.enableRefusal, hv, hf]
  have exe : exec (.linkEnable p w) s = done (s.hostWrite (R.HL_CTRL p) w) := rfl
  rw [hostWrite_ctrl p h hw hm refused] at exe
  obtain ⟨width, auto, enable⟩ := ctrlPut_fields s p w
  have put : Frame s (ctrlPut s p w) [R.HL_CTRL p, R.HL_STATUS p, R.INT_PF_EVENT] [.ports] := frame_ctrlPut s p w _ (by simp)
  have link : (ctrlPut s p w).linkState p = lDISABLED := by
    refine Eq.trans ?_ hl
    exact (frame_ctrlPut s p w (r := [R.HL_CTRL p]) [] (by simp)).fld_eq _ (by simp only [F.HL_STATUS_STATE, R.HL_STATUS, R.INT_PF_STATUS]; omega)
      (by simp only [F.HL_STATUS_STATE, R.HL_STATUS, R.HL_CTRL, List.mem_cons, List.not_mem_nil, or_false]; omega)
  generalize ctrlPut s p w = u at exe width auto enable put link
  rw [hd] at enable
  let v := (u.setFld (F.HL_STATUS_STATE p) lTRAINING).raise F.INT_PF_EVENT_LINK
  have changed : s.enableChanged u p = v.modPort p fun q => { q with attempt := true } := by
    have on1 : u.on (F.HL_CTRL_ENABLE p) = true := by simp [State.on, enable, bit]
    have on0 : s.on (F.HL_CTRL_ENABLE p) = false := by simp [State.on, he]
    simp only [State.enableChanged, on1, on0, State.startTraining, State.setLink, link]
    rfl
  rw [changed] at exe
  have fv : Frame u v [R.HL_CTRL p, R.HL_STATUS p, R.INT_PF_EVENT] [.ports] :=
    ((Frame.refl u _ _).setFld (F.HL_STATUS_STATE p) _ (by simp [F.HL_STATUS_STATE])).setFld F.INT_PF_EVENT_LINK 1 (by simp [F.INT_PF_EVENT_LINK])
  have late : Frame v (v.modPort p fun q => { q with attempt := true }) [] [.ports] := frame_modPort v p _ (by simp)
  have ctrl {f : Fld} (hf : f.off = R.HL_CTRL p) : (v.modPort p fun q => { q with attempt := true }).refreshPf.fld f = u.fld f := by
    refine (State.refreshPf_fld _ _ (by rw [hf]; simp only [R.HL_CTRL, R.INT_PF_STATUS]; omega)).trans ((late.fld_eq f (by
      rw [hf]; simp only [R.HL_CTRL, R.INT_PF_STATUS]; omega) (by simp)).trans ?_)
    exact (State.fld_setFld_off _ _ _ _ (by rw [hf]; simp only [R.HL_CTRL, F.INT_PF_EVENT_LINK, R.INT_PF_EVENT]; omega)).trans
      (State.fld_setFld_off _ _ _ _ (by rw [hf]; simp only [R.HL_CTRL, F.HL_STATUS_STATE, R.HL_STATUS]; omega))
  refine answers_of_done exe ⟨?_, ?_, (ctrl rfl).trans enable, ⟨(ctrl rfl).trans width, (ctrl rfl).trans auto⟩, ?_,
    ((put.trans fv).trans (late.mono (by simp) (by simp))).pf⟩
  · refine (State.refreshPf_fld _ (F.HL_STATUS_STATE p) (by simp only [F.HL_STATUS_STATE, R.HL_STATUS, R.INT_PF_STATUS]; omega)).trans ?_
    refine (late.fld_eq (F.HL_STATUS_STATE p) (by simp only [F.HL_STATUS_STATE, R.HL_STATUS, R.INT_PF_STATUS]; omega) (by simp)).trans ?_
    refine (State.fld_setFld_off _ F.INT_PF_EVENT_LINK (F.HL_STATUS_STATE p) _ (by
      simp only [F.HL_STATUS_STATE, R.HL_STATUS, F.INT_PF_EVENT_LINK, R.INT_PF_EVENT]; omega)).trans ?_
    exact State.fld_setFld_same u (F.HL_STATUS_STATE p) lTRAINING (show 0 + 2 ≤ 32 by decide)
  · rw [State.refreshPf_port]
    simp
  · refine (State.refreshPf_fld _ F.INT_PF_EVENT_LINK (by decide)).trans ?_
    exact (late.fld_eq F.INT_PF_EVENT_LINK (by decide) (by simp)).trans (State.fld_setFld_same _ F.INT_PF_EVENT_LINK 1 (by decide))

theorem answers_linkDisable (p : Fin 4) (h : s.Serves) (hw : PlainWrite w (R.HL_CTRL p)) (hm : bitsOf w.data.toNat 4 2 ≤ 2)
    (hd : w.data.getLsbD 0 = false) (he : s.fld (F.HL_CTRL_ENABLE p) = 1)
    (hr : ((s.portRegion p).all fun n => s.rgnState n != rRUNNING) = true) (hl : s.linkState p ≠ lDISABLED) :
    Answers (.linkDisable p w) s fun t =>
      t.port p = { s.port p with disabling := true } ∧ t.fld (F.HL_CTRL_ENABLE p) = 0 ∧
        (t.fld (F.HL_CTRL_MIN_WIDTH p) = bitsOf w.data.toNat 4 2 ∧ t.fld (F.HL_CTRL_AUTO_TRAIN p) = bitsOf w.data.toNat 1 1) ∧
        Frame s t [R.HL_CTRL p] [.ports] := by
  have refused : s.enableRefusal p w.data.toNat = none := by
    have hv : w.data.toNat.testBit 0 = false := hd
    cases hp : s.portRegion p with
    | none => simp [State.enableRefusal, hv, hp]
    | some n =>
      have hn : s.rgnState n ≠ rRUNNING := by simpa [hp] using hr
      simp [State.enableRefusal, hv, hp, hn]
  have exe : exec (.linkDisable p w) s = done (s.hostWrite (R.HL_CTRL p) w) := rfl
  rw [hostWrite_ctrl p h hw hm refused] at exe
  obtain ⟨width, auto, enable⟩ := ctrlPut_fields s p w
  have put : Frame s (ctrlPut s p w) [R.HL_CTRL p] [.ports] := frame_ctrlPut s p w _ (by simp)
  have link : (ctrlPut s p w).linkState p ≠ lDISABLED := by
    rw [State.linkState, put.fld_eq _ (by simp only [F.HL_STATUS_STATE, R.HL_STATUS, R.INT_PF_STATUS]; omega)
      (by simp only [F.HL_STATUS_STATE, R.HL_STATUS, R.HL_CTRL, List.mem_cons, List.not_mem_nil, or_false]; omega)]
    exact hl
  have port : (ctrlPut s p w).port p = s.port p := rfl
  generalize ctrlPut s p w = u at exe width auto enable put link port
  rw [hd] at enable
  have changed : s.enableChanged u p = u.modPort p fun q => { q with disabling := true } := by
    have on0 : u.on (F.HL_CTRL_ENABLE p) = false := by simp [State.on, enable, bit]
    have on1 : s.on (F.HL_CTRL_ENABLE p) = true := by simp [State.on, he]
    simp [State.enableChanged, on1, on0, link]
  rw [changed] at exe
  have late : Frame u (u.modPort p fun q => { q with disabling := true }) [R.HL_CTRL p] [.ports] := frame_modPort u p _ (by simp)
  have ctrl {f : Fld} (hf : f.off = R.HL_CTRL p) : (u.modPort p fun q => { q with disabling := true }).refreshPf.fld f = u.fld f :=
    (State.refreshPf_fld _ _ (by rw [hf]; simp only [R.HL_CTRL, R.INT_PF_STATUS]; omega)).trans rfl
  refine answers_of_done exe ⟨?_, (ctrl rfl).trans enable, ⟨(ctrl rfl).trans width, (ctrl rfl).trans auto⟩, (put.trans late).pf⟩
  rw [State.refreshPf_port, State.port_modPort_same, port]

/-! ### HL_ASSIGN -/

theorem unitRefusal_assign (s : State) (off v : Nat) :
    s.unitRefusal (R.HL_ASSIGN 0) off v = s.assignRefusal (off / 0x10000 - 0x90) v := rfl

/-- A write of HL_ASSIGN that no check refuses changes that register alone, and the port's region is the one that it names. -/
theorem answers_assign {i : Instr} (p : Fin 4) (exe : exec i s = done (s.hostWrite (R.HL_ASSIGN p) w)) (h : s.Serves)
    (hw : PlainWrite w (R.HL_ASSIGN p)) (hr : s.assignRefusal p w.data.toNat = none) : Answers i s fun t =>
      t.portRegion p = (if w.data.getLsbD 8 then some (bitsOf w.data.toNat 0 5) else none) ∧ Frame s t [R.HL_ASSIGN p] [] := by
  have accepted : s.wholeRefusal .pf (R.HL_ASSIGN 0) (R.HL_ASSIGN p) w.data.toNat = none := by
    rw [wholeRefusal_unit (by decide), unitRefusal_assign, portNumber_assign, hr]
  obtain ⟨t, he, fields, fr⟩ := answers_plainWrite exe h hw (takes_hlAssign p) accepted (by decide) (by decide)
  obtain ⟨valid, region⟩ := keeps_hlAssign p
  have hv : t.fld (F.HL_ASSIGN_VALID p) = bit (w.data.getLsbD 8) := (fields _ rfl valid).trans (bitsOf_one _ 8)
  refine ⟨t, he, ?_, fr⟩
  unfold State.portRegion State.on
  rw [hv, fields _ rfl region]
  cases w.data.getLsbD 8 <;> rfl

theorem answers_portAssign (p : Fin 4) (h : s.Serves) (hw : PlainWrite w (R.HL_ASSIGN p)) (hd : w.data.getLsbD 8 = true)
    (hp : s.portRegion p = none) (hv : s.vfExists (bitsOf w.data.toNat 0 5) = true)
    (hc : s.rgnState (bitsOf w.data.toNat 0 5) = rCONFIGURING) (hf : s.portFits (bitsOf w.data.toNat 0 5) p = true) :
    Answers (.portAssign p w) s fun t => t.portRegion p = some (bitsOf w.data.toNat 0 5) ∧ Frame s t [R.HL_ASSIGN p] [] := by
  have accepted : s.assignRefusal p w.data.toNat = none := by
    have hb : w.data.toNat.testBit 8 = true := hd
    simp [State.assignRefusal, hp, hb, State.setupRefusal, hv, hc, hf]
  obtain ⟨t, he, ht, fr⟩ := answers_assign (i := .portAssign p w) p rfl h hw accepted
  exact ⟨t, he, by rw [ht, if_pos hd], fr⟩

theorem answers_portUnassign (p : Fin 4) (h : s.Serves) (hw : PlainWrite w (R.HL_ASSIGN p)) (n : Nat) (hd : w.data.getLsbD 8 = false)
    (hp : s.portRegion p = some n) (hv : s.vfExists n = true) (hc : s.rgnState n = rCONFIGURING) :
    Answers (.portUnassign p w) s fun t => t.portRegion p = none ∧ Frame s t [R.HL_ASSIGN p] [] := by
  have accepted : s.assignRefusal p w.data.toNat = none := by
    have hb : w.data.toNat.testBit 8 = false := hd
    simp [State.assignRefusal, hp, hb, State.setupRefusal, hv, hc]
  obtain ⟨t, he, ht, fr⟩ := answers_assign (i := .portUnassign p w) p rfl h hw accepted
  exact ⟨t, he, by rw [ht, hd]; rfl, fr⟩

/-- Settles O25, by the write of each of the two registers that no check refuses. -/
theorem portWritesComplete : Obligations.PortWritesComplete := by
  unfold Obligations.PortWritesComplete
  intro p w s h
  exact ⟨fun hw hm => ⟨answers_linkEnable p h hw hm, answers_linkDisable p h hw hm⟩, fun hw => ⟨answers_portAssign p h hw,
    fun n => answers_portUnassign p h hw n⟩⟩

end Sys2Proof.Machine
end

section
/-! The scalar operations NOP, MOVI, ALU, ALUI, RDID, SEED, BR, JR and LOOP (R434 to R437): each changes its core alone. -/

namespace Sys2Proof.Machine

variable {s : State} {n : Nat} {g : Fin 1024} {o : OpFields}

/-! ### How an operation of one core ends -/

/-- An operation without an effect of its own moves its core to the next word. -/
theorem oneCore_of_past {i : Instr} {g : Nat} (h : exec i s = done (settleOp g (.next (s.unwait g)))) :
    Answers i s fun t => OneCore s t g (s.core g).past :=
  oneCore_of_done (f := Core.past) (by rw [h, settleOp, State.unwait, State.modCore_modCore]; rfl) rfl

/-- An operation whose condition does not hold leaves its core at its word. -/
theorem oneCore_of_wait {i : Instr} {g : Nat} {w : CoreWait} (h : exec i s = done (settleOp g (.wait w (s.unwait g)))) :
    Answers i s fun t => OneCore s t g { s.core g with wait := w } :=
  oneCore_of_done (f := fun c => { c with wait := w }) (by rw [h, settleOp, State.unwait, State.modCore_modCore]) rfl

/-- A jump of one core changes that core and nothing else. -/
theorem oneCore_of_jump {i : Instr} {g a : Nat} {f : Core → Core} {c : Core}
    (h : exec i s = done (settleOp g (.jump a ((s.unwait g).modCore g f))))
    (hc : { f { s.core g with wait := .none } with pc := a } = c) : Answers i s fun t => OneCore s t g c :=
  oneCore_of_done (by rw [h, settleOp, State.modCore_modCore, State.unwait, State.modCore_modCore]) hc

/-- A jump without another effect. -/
theorem oneCore_of_bare_jump {i : Instr} {g a : Nat} (h : exec i s = done (settleOp g (.jump a (s.unwait g)))) :
    Answers i s fun t => OneCore s t g { s.core g with wait := .none, pc := a } :=
  oneCore_of_done (f := fun c => { c with wait := .none, pc := a })
    (by rw [h, settleOp, State.unwait, State.modCore_modCore]) rfl

/-- An operation that writes one register goes on past it. -/
theorem oneCore_of_setReg {i : Instr} {g j : Nat} {v : Word64} {b : Bool}
    (h : exec i s = done (settleOp g (.next ((s.unwait g).modCore g fun c => c.setReg j v b)))) :
    Answers i s fun t => OneCore s t g ((s.core g).setReg j v b).past :=
  oneCore_of_next h (by simp only [Core.setReg_wait, Core.setReg_pc, Core.past])

/-- Of a check that does not fail, the value it asks for is there. -/
theorem eq_some_of_check {α : Type} {code : Nat} {v : Option α} (d : α) (h : check code v.isNone = []) :
    v = some (v.getD d) := by
  cases v with
  | none => simp [check] at h
  | some v => rfl

/-- An answer that says more. -/
theorem Answers.mono {i : Instr} {P Q : State → Prop} (h : Answers i s P) (hpq : ∀ t, P t → Q t) : Answers i s Q :=
  Exists.imp (fun t ht => ⟨ht.1, hpq t ht.2⟩) h

/-! ### The operations -/

theorem exec_nop (ready : Ready (.nop g o) s n) : exec (.nop g o) s = done (settleOp g (.next (s.unwait g))) := by
  obtain ⟨stands, region, pass⟩ := ready.issues rfl
  delta exec
  dsimp only [execNop]
  rw [issue_acts stands region pass]

theorem exec_movi (ready : Ready (.movi g o) s n) :
    exec (.movi g o) s = done (settleOp g (.next ((s.unwait g).modCore g fun c =>
      c.setReg o.d (setLane (if modBits o 2 1 == 1 then (s.core g).reg o.d else 0) (modBits o 0 2) (immBits o 0 16))
        (modBits o 2 1 == 1 && (s.core g).regBad o.d)))) := by
  obtain ⟨stands, region, pass⟩ := ready.issues rfl
  delta exec
  dsimp only [execMovi]
  rw [issue_acts stands region pass]; rfl

theorem exec_alu (ready : Ready (.alu g o) s n) :
    exec (.alu g o) s = done (settleOp g (.next ((s.unwait g).modCore g fun c =>
      c.setReg o.d ((aluFn (modBits o 0 4) ((s.core g).reg o.a) ((s.core g).reg o.b)).getD 0)
        ((s.core g).regBad o.a || (s.core g).regBad o.b)))) := by
  obtain ⟨stands, region, pass⟩ := ready.issues rfl
  delta exec
  dsimp only [execAlu]
  rw [issue_acts stands region pass]; rfl

theorem exec_alui (ready : Ready (.alui g o) s n) :
    exec (.alui g o) s = done (settleOp g (.next ((s.unwait g).modCore g fun c =>
      c.setReg o.d ((aluFn (modBits o 0 4) ((s.core g).reg o.a) (sextImm o.imm)).getD 0) ((s.core g).regBad o.a)))) := by
  obtain ⟨stands, region, pass⟩ := ready.issues rfl
  delta exec
  dsimp only [execAlui]
  rw [issue_acts stands region pass]; rfl

/-- An identity does not tell whether its core waits. -/
theorem State.identity_unwait (s : State) (n sel : Nat) (g : Nat) : (s.unwait g).identity n g sel = s.identity n g sel := by
  unfold State.identity
  simp only [State.unwait_core]; rfl

theorem exec_rdid (ready : Ready (.rdid g o) s n) :
    exec (.rdid g o) s = done (settleOp g (.next ((s.unwait g).modCore g fun c =>
      c.setReg o.d (BitVec.ofNat 64 ((s.identity n g o.imm.toNat).getD 0)) false))) := by
  obtain ⟨stands, region, pass⟩ := ready.issues rfl
  delta exec
  dsimp only [execRdid]
  rw [issue_acts stands region pass, State.identity_unwait]

theorem exec_seed (ready : Ready (.seed g o) s n) :
    exec (.seed g o) s = done (settleOp g (.next ((s.unwait g).modCore g fun c =>
      { c with sr := if ((s.core g).reg o.a).setWidth 32 = (0 : Word) then 1 else ((s.core g).reg o.a).setWidth 32 }))) := by
  obtain ⟨stands, region, pass⟩ := ready.issues rfl
  delta exec
  dsimp only [execSeed]
  rw [issue_acts stands region pass]; rfl

/-- BR is taken (R435). -/
def Core.takes (c : Core) (o : OpFields) : Bool := (brCond (modBits o 0 3) (c.reg o.a) (c.reg o.b)).getD false

theorem exec_br (ready : Ready (.br g o) s n) :
    exec (.br g o) s = done (settleOp g (if (s.core g).takes o then .jump (relTarget (s.core g) o).toNat (s.unwait g)
      else .next (s.unwait g))) := by
  obtain ⟨stands, region, pass⟩ := ready.issues rfl
  delta exec
  dsimp only [execBr]
  rw [issue_acts stands region pass]; rfl

theorem exec_jr (ready : Ready (.jr g o) s n) :
    exec (.jr g o) s = done (settleOp g (.jump ((s.core g).reg o.a).toNat ((s.unwait g).modCore g fun c =>
      c.setReg o.d (BitVec.ofNat 64 ((s.core g).pc + 8)) false))) := by
  obtain ⟨stands, region, pass⟩ := ready.issues rfl
  delta exec
  dsimp only [execJr]
  rw [issue_acts stands region pass]; rfl

theorem exec_loop (ready : Ready (.loop g o) s n) :
    exec (.loop g o) s = done (settleOp g (
      let u := (s.unwait g).modCore g fun c => c.setReg o.a (loopValue (s.core g) o.a) false
      if loopValue (s.core g) o.a != 0 then .jump (relTarget (s.core g) o).toNat u else .next u)) := by
  obtain ⟨stands, region, pass⟩ := ready.issues rfl
  delta exec
  dsimp only [execLoop]
  rw [issue_acts stands region pass]; rfl

/-! ### What they do -/

/-- The value that MOVI writes (R434). -/
theorem movi_value (o : OpFields) (keep : Bool) (r : Word64) :
    setLane (if keep then r else 0) (modBits o 0 2) (immBits o 0 16) =
      BitVec.ofNat 64 (putBits (if keep then r.toNat else 0) (16 * (o.mod.toNat % 4)) 16 (o.imm.toNat % 65536)) := by
  have low : immBits o 0 16 = o.imm.toNat % 65536 := by simp [immBits, bitsOf]
  have lane : modBits o 0 2 = o.mod.toNat % 4 := by simp [modBits_eq]
  cases keep <;> simp [setLane, low, lane]

theorem answers_alu (ready : Ready (.alu g o) s n) :
    Answers (.alu g o) s fun t =>
      let c := s.core g
      ∃ v, aluFn (o.mod.toNat % 16) (c.reg o.a) (c.reg o.b) = some v ∧
        OneCore s t g (c.setReg o.d v (c.regBad o.a || c.regBad o.b)).past := by
  have known := eq_some_of_check 0 (List.append_eq_nil_iff.1 (ready.checks_eq_nil rfl)).2
  have fn : modBits o 0 4 = o.mod.toNat % 16 := by simp [modBits_eq]
  exact (oneCore_of_setReg (exec_alu ready)).mono fun t h => ⟨_, fn ▸ known, h⟩

theorem answers_alui (ready : Ready (.alui g o) s n) :
    Answers (.alui g o) s fun t =>
      let c := s.core g
      ∃ v, aluFn (o.mod.toNat % 16) (c.reg o.a) (o.imm.signExtend 64) = some v ∧
        OneCore s t g (c.setReg o.d v (c.regBad o.a)).past := by
  have known := eq_some_of_check 0 (List.append_eq_nil_iff.1 (ready.checks_eq_nil rfl)).2
  have fn : modBits o 0 4 = o.mod.toNat % 16 := by simp [modBits_eq]
  exact (oneCore_of_setReg (exec_alui ready)).mono fun t h => ⟨_, fn ▸ known, h⟩

theorem answers_rdid (ready : Ready (.rdid g o) s n) :
    Answers (.rdid g o) s fun t =>
      ∃ v, s.identity n g o.imm.toNat = some v ∧
        OneCore s t g ((s.core g).setReg o.d (BitVec.ofNat 64 v) false).past := by
  have known := eq_some_of_check 0 (List.append_eq_nil_iff.1 (ready.checks_eq_nil rfl)).2
  exact (oneCore_of_setReg (exec_rdid ready)).mono fun t h => ⟨_, known, h⟩

theorem answers_br (ready : Ready (.br g o) s n) :
    Answers (.br g o) s fun t =>
      let c := s.core g
      let taken := (brCond (o.mod.toNat % 8) (c.reg o.a) (c.reg o.b)).getD false
      OneCore s t g { c with wait := .none, pc := if taken then ((c.pc : Int) + o.imm.toInt).toNat else c.pc + 8 } := by
  have takes : (s.core g).takes o = (brCond (o.mod.toNat % 8) ((s.core g).reg o.a) ((s.core g).reg o.b)).getD false := by
    simp [Core.takes, modBits_eq]
  have h := exec_br ready
  rw [takes] at h
  dsimp only
  split at h
  · rename_i taken
    rw [if_pos taken]; exact oneCore_of_bare_jump h
  · rename_i taken
    rw [if_neg taken]; exact oneCore_of_past h

theorem answers_loop (ready : Ready (.loop g o) s n) :
    Answers (.loop g o) s fun t =>
      let c := s.core g
      let v := loopValue c o.a
      OneCore s t g { c.setReg o.a v false with
        wait := .none, pc := if v = 0 then c.pc + 8 else ((c.pc : Int) + o.imm.toInt).toNat } := by
  have h := exec_loop ready
  dsimp only at h ⊢
  by_cases last : loopValue (s.core g) o.a = 0
  · rw [if_neg (by simp [last])] at h
    rw [if_pos last]
    exact oneCore_of_next h (by simp only [Core.setReg_wait, Core.setReg_pc])
  · rw [if_pos (by simpa using last)] at h
    rw [if_neg last]
    exact oneCore_of_jump h (by simp only [Core.setReg_wait]; rfl)

/-- Settles O36: each operation writes its register and moves its program counter, and nothing else. -/
theorem scalarOperationsComplete : Obligations.ScalarOperationsComplete := by
  unfold Obligations.ScalarOperationsComplete
  intro g o s n c target
  refine ⟨fun ready => oneCore_of_past (exec_nop ready), fun ready => ?_, answers_alu, answers_alui, answers_rdid,
    fun ready => oneCore_of_next (exec_seed ready) rfl, answers_br,
    fun ready => oneCore_of_jump (exec_jr ready) (by simp only [Core.setReg_wait]; rfl), answers_loop⟩
  have h := exec_movi ready
  rw [modBits_one_beq, movi_value] at h
  exact oneCore_of_setReg h

end Sys2Proof.Machine
end

section
/-! The operations of cluster DMA join their cluster's queue (R373, R374, R447, R470, R471). -/

namespace Sys2Proof.Machine

variable {s : State} {n : Nat} {o : OpFields}

/-- The transfer that core g's operation starts. -/
def State.transferOf (s : State) (g opc : Nat) (o : OpFields) : Transfer :=
  let c := s.core g
  { id := s.nextId, core := g, opc := opc, a := c.reg o.a, b := c.reg o.b, c := c.reg o.c, d := c.reg o.d, mod := o.mod, imm := o.imm }

/-- The queue of a cluster with the transfer at its end. -/
def Cluster.queued (k : Cluster) (x : Transfer) : Cluster := { k with dma := k.dma ++ [x] }

theorem queueTransfer_room {g opc : Nat} (room : (s.cluster (g / 8)).dma.length < 16) :
    queueTransfer (s.unwait g) g opc { s.core g with wait := .none } o =
      .next ((s.unwait g).newId.2.modCluster (g / 8) (·.queued (s.transferOf g opc o))) := by
  unfold queueTransfer
  exact if_neg (Nat.not_le.2 room)

theorem frame_newId (s : State) (r : List Nat) (parts : List Part) : Frame s s.newId.2 r parts :=
  ⟨fun _ _ _ _ => rfl, fun q _ => by cases q <;> rfl⟩

/-- A state in which core g is past its operation and its cluster has one transfer more. -/
theorem oneCoreCluster_of_queued {i : Instr} {g opc : Nat}
    (h : exec i s = done (settleOp g (.next ((s.unwait g).newId.2.modCluster (g / 8) (·.queued (s.transferOf g opc o)))))) :
    Answers i s fun t => OneCoreCluster s t g (s.core g).past (g / 8) ((s.cluster (g / 8)).queued (s.transferOf g opc o)) := by
  refine answers_of_done h ⟨?_, fun k hk => ?_, ?_, fun k hk => ?_, ?_, ?_⟩
  · rw [State.refreshPf_core, settleOp, State.core_modCore_same]
    exact congrArg (fun c : Core => { c with pc := c.pc + 8 }) (s.unwait_core g)
  · rw [State.refreshPf_core, settleOp, State.core_modCore_ne _ _ hk]
    have kept : (s.unwait g).core k = s.core k := State.core_modCore_ne _ _ hk
    exact kept
  · rw [State.refreshPf_cluster, settleOp, State.cluster, State.modCore_clusters]
    exact (State.cluster_modCluster_same (s := (s.unwait g).newId.2) ..)
  · rw [State.refreshPf_cluster, settleOp, State.cluster, State.modCore_clusters]
    exact (State.cluster_modCluster_ne (s := (s.unwait g).newId.2) _ hk)
  · exact ((((frame_modCore s g _ (by simp)).trans (frame_newId _ [] _)).trans
      (frame_modCluster _ _ _ (by simp))).trans (frame_modCore _ _ _ (by simp))).pf
  · exact Sent.pf (sent_of_out rfl)

/-- Settles O42: each of the six operations puts its transfer at the end of the queue. -/
theorem transfersAreQueued : Obligations.TransfersAreQueued := by
  unfold Obligations.TransfersAreQueued
  intro g o s n i p hi hat ready room
  have queues {i : Instr} {p : Op} (op : opOf s i = some p) (core : p.core = g)
      (hex : exec i s = issue p.core p.opcode p.fields s p.checks fun _ c t => queueTransfer t g p.opcode.toNat c o)
      (ready : Ready i s n) : Answers i s fun t => OneCoreCluster s t g (s.core g).past (g / 8)
        ((s.cluster (g / 8)).queued (s.transferOf g p.opcode.toNat o)) := by
    obtain ⟨stands, region, pass⟩ := ready.issues op
    refine oneCoreCluster_of_queued ?_
    rw [hex, issue_acts stands region pass, core, queueTransfer_room room]
  obtain ⟨op, -, -⟩ := hat
  simp only [List.mem_cons, List.not_mem_nil, or_false] at hi
  rcases hi with rfl | rfl | rfl | rfl | rfl | rfl <;> cases op <;> exact queues rfl rfl rfl ready

end Sys2Proof.Machine
end

section
/-! The vector operations (R457 to R461): each writes its destination tile element by element. -/

namespace Sys2Proof.Machine

variable {s : State} {n : Nat} {g : Fin 1024} {o : OpFields}

theorem modBits_zero (o : OpFields) (width : Nat) : modBits o 0 width = o.mod.toNat % 2 ^ width := by simp [modBits_eq]

/-- A vector operation's end writes its destination and the rounding state. -/
theorem settle_vecDone (u : State) (n g : Nat) (c : Core) (o : OpFields) (srcs : List Tile) (more : Bool)
    (el : Nat → Nat → Elem) :
    settleOp g (vecDone u n g c o srcs more el) =
      (u.setMem n g ((c.tile o.d).put (u.mem g) (sinkOf c (c.tile o.d) (o.mod.getLsbD 6) (o.mod.getLsbD 7)).1 el
        (more || srcs.any fun t => t.bad (u.mem g))) (more || srcs.any fun t => t.bad (u.mem g))).modCore g
        fun q => { q with sr := (sinkOf c (c.tile o.d) (o.mod.getLsbD 6) (o.mod.getLsbD 7)).2, pc := q.pc + 8 } := by
  unfold vecDone
  simp only [modBits_one_beq]
  exact settleOp_next_modCore ..

/-- The memory of a core's cluster does not tell whether the core waits. -/
theorem mem_unwait (s : State) (g : Nat) : (s.unwait g).mem g = s.mem g := rfl

/-- A vector operation sets its destination tile. -/
theorem tileSet_of_vecDone {i : Instr} {g : Nat} {srcs : List Tile} {more bad : Bool} {el el' : Nat → Nat → Elem}
    (h : exec i s = done (settleOp g (vecDone (s.unwait g) n g { s.core g with wait := .none } o srcs more el)))
    (hel : el = el') (hbad : (more || srcs.any fun t => t.bad (s.mem g)) = bad) :
    Answers i s fun t => TileSet s t g ((s.core g).tile o.d) (o.mod.getLsbD 6) (o.mod.getLsbD 7) el' bad := by
  subst hel hbad
  rw [settle_vecDone] at h
  exact memSet_of_done h rfl

/-! ### The element (i, j) that each operation gives -/

/-- VBIN: one of eight functions of two elements (R458, R461). -/
def State.vbinElem (s : State) (g : Nat) (o : OpFields) (i j : Nat) : Elem :=
  let m := s.mem g
  let d := (s.core g).tile o.d
  let x := (s.core g).tile o.a
  let y := (s.core g).tile o.b
  if intDomain [d, x, y] then .i (vbinI (o.mod.toNat % 16) (x.intAt m s.draws i j) (y.intAt m s.draws i j))
  else .f (vbinF (o.mod.toNat % 16) (x.fpAt m s.draws i j) (y.fpAt m s.draws i j))

/-- VUN: a function of one element (R460). -/
def State.vunElem (s : State) (g : Nat) (o : OpFields) (i j : Nat) : Elem :=
  let m := s.mem g
  let d := (s.core g).tile o.d
  let x := (s.core g).tile o.a
  if intDomain [d, x] then .i (vunI (o.mod.toNat % 16) (x.intAt m s.draws i j))
  else .f (vunF (o.mod.toNat % 16) (x.fpAt m s.draws i j))

/-- VSCALE: an element times one scalar plus another. -/
def State.vscaleElem (s : State) (g : Nat) (o : OpFields) (i j : Nat) : Elem :=
  let m := s.mem g
  let d := (s.core g).tile o.d
  let x := (s.core g).tile o.a
  let p := ((s.core g).reg o.b).toNat % 2 ^ 32
  let q := ((s.core g).reg o.c).toNat % 2 ^ 32
  if intDomain [d, x] then .i (wrap32 (x.intAt m s.draws i j * toSigned 32 p + toSigned 32 q))
  else .f (fma32 (x.fpAt m s.draws i j) p q)

/-- VFMA: an element times another plus a third. -/
def State.vfmaElem (s : State) (g : Nat) (o : OpFields) (i j : Nat) : Elem :=
  let m := s.mem g
  let d := (s.core g).tile o.d
  let x := (s.core g).tile o.a
  let y := (s.core g).tile o.b
  let z := (s.core g).tile o.c
  if intDomain [d, x, y, z] then .i (wrap32 (x.intAt m s.draws i j * y.intAt m s.draws i j + z.intAt m s.draws i j))
  else .f (fma32 (x.fpAt m s.draws i j) (y.fpAt m s.draws i j) (z.fpAt m s.draws i j))

/-- VCMP: 1 where the condition holds, else 0 (R461). -/
def State.vcmpElem (s : State) (g : Nat) (o : OpFields) (i j : Nat) : Elem :=
  let m := s.mem g
  let x := (s.core g).tile o.a
  let y := (s.core g).tile o.b
  .i (if (if intDomain [x, y] then vcmpI (o.mod.toNat % 4) (x.intAt m s.draws i j) (y.intAt m s.draws i j)
    else vcmpF (o.mod.toNat % 4) (x.fpAt m s.draws i j) (y.fpAt m s.draws i j)) then 1 else 0)

/-- VSEL: the first element where the mask is not 0, else the second. -/
def State.vselElem (s : State) (g : Nat) (o : OpFields) (i j : Nat) : Elem :=
  let m := s.mem g
  let d := (s.core g).tile o.d
  let x := (s.core g).tile o.a
  let y := (s.core g).tile o.b
  let z := (s.core g).tile o.c
  if intDomain [d, x, y] then .i (if z.intAt m s.draws i j ≠ 0 then x.intAt m s.draws i j else y.intAt m s.draws i j)
  else .f (if z.intAt m s.draws i j ≠ 0 then x.fpAt m s.draws i j else y.fpAt m s.draws i j)

theorem bit_int (b : Bool) : ((bit b : Nat) : Int) = if b then 1 else 0 := by cases b <;> rfl

/-! ### The operations -/

theorem answers_vbin (ready : Ready (.vbin g o) s n) :
    Answers (.vbin g o) s fun t =>
      TileSet s t g ((s.core g).tile o.d) (o.mod.getLsbD 6) (o.mod.getLsbD 7) (s.vbinElem g o) (((s.core g).tile o.a).bad (s.mem g) || ((s.core g).tile o.b).bad (s.mem g)) := by
  obtain ⟨stands, region, pass⟩ := ready.issues rfl
  refine tileSet_of_vecDone (n := n) (el := s.vbinElem g o) (srcs := [(s.core g).tile o.a, (s.core g).tile o.b])
    (more := false) ?_ rfl (by simp)
  delta exec
  dsimp only [execVbin]
  rw [issue_acts stands region pass]
  simp only [modBits_zero]; rfl

theorem answers_vun (ready : Ready (.vun g o) s n) :
    Answers (.vun g o) s fun t =>
      TileSet s t g ((s.core g).tile o.d) (o.mod.getLsbD 6) (o.mod.getLsbD 7) (s.vunElem g o) (((s.core g).tile o.a).bad (s.mem g)) := by
  obtain ⟨stands, region, pass⟩ := ready.issues rfl
  refine tileSet_of_vecDone (n := n) (el := s.vunElem g o) (srcs := [(s.core g).tile o.a])
    (more := false) ?_ rfl (by simp)
  delta exec
  dsimp only [execVun]
  rw [issue_acts stands region pass]
  simp only [modBits_zero]; rfl

theorem answers_vscale (ready : Ready (.vscale g o) s n) :
    Answers (.vscale g o) s fun t =>
      TileSet s t g ((s.core g).tile o.d) (o.mod.getLsbD 6) (o.mod.getLsbD 7) (s.vscaleElem g o) ((s.core g).regBad o.b || (s.core g).regBad o.c || ((s.core g).tile o.a).bad (s.mem g)) := by
  obtain ⟨stands, region, pass⟩ := ready.issues rfl
  refine tileSet_of_vecDone (n := n) (el := s.vscaleElem g o) (srcs := [(s.core g).tile o.a])
    (more := (s.core g).regBad o.b || (s.core g).regBad o.c) ?_ rfl (by simp)
  delta exec
  dsimp only [execVscale]
  rw [issue_acts stands region pass]
  rfl

theorem answers_vfma (ready : Ready (.vfma g o) s n) :
    Answers (.vfma g o) s fun t =>
      TileSet s t g ((s.core g).tile o.d) (o.mod.getLsbD 6) (o.mod.getLsbD 7) (s.vfmaElem g o) (((s.core g).tile o.a).bad (s.mem g) || ((s.core g).tile o.b).bad (s.mem g) || ((s.core g).tile o.c).bad (s.mem g)) := by
  obtain ⟨stands, region, pass⟩ := ready.issues rfl
  refine tileSet_of_vecDone (n := n) (el := s.vfmaElem g o) (srcs := [(s.core g).tile o.a, (s.core g).tile o.b, (s.core g).tile o.c])
    (more := false) ?_ rfl (by simp [Bool.or_assoc])
  delta exec
  dsimp only [execVfma]
  rw [issue_acts stands region pass]
  rfl

theorem answers_vcmp (ready : Ready (.vcmp g o) s n) :
    Answers (.vcmp g o) s fun t =>
      TileSet s t g ((s.core g).tile o.d) (o.mod.getLsbD 6) (o.mod.getLsbD 7) (s.vcmpElem g o) (((s.core g).tile o.a).bad (s.mem g) || ((s.core g).tile o.b).bad (s.mem g)) := by
  obtain ⟨stands, region, pass⟩ := ready.issues rfl
  refine tileSet_of_vecDone (n := n) (el := s.vcmpElem g o) (srcs := [(s.core g).tile o.a, (s.core g).tile o.b])
    (more := false) ?_ rfl (by simp)
  delta exec
  dsimp only [execVcmp]
  rw [issue_acts stands region pass]
  simp only [modBits_zero, bit_int]; rfl

theorem answers_vsel (ready : Ready (.vsel g o) s n) :
    Answers (.vsel g o) s fun t =>
      TileSet s t g ((s.core g).tile o.d) (o.mod.getLsbD 6) (o.mod.getLsbD 7) (s.vselElem g o) (((s.core g).tile o.a).bad (s.mem g) || ((s.core g).tile o.b).bad (s.mem g) || ((s.core g).tile o.c).bad (s.mem g)) := by
  obtain ⟨stands, region, pass⟩ := ready.issues rfl
  refine tileSet_of_vecDone (n := n) (el := s.vselElem g o) (srcs := [(s.core g).tile o.a, (s.core g).tile o.b, (s.core g).tile o.c])
    (more := false) ?_ rfl (by simp [Bool.or_assoc])
  delta exec
  dsimp only [execVsel]
  rw [issue_acts stands region pass]
  simp only [bne_iff_ne]; rfl

/-- Settles O45: each operation writes its element function over the destination. -/
theorem elementwiseOperationsComplete : Obligations.ElementwiseOperationsComplete := by
  unfold Obligations.ElementwiseOperationsComplete
  intro g o s n c d x y z m f sr sat p q xi yi xf yf
  exact ⟨answers_vbin, answers_vun, answers_vscale, answers_vfma, answers_vcmp, answers_vsel⟩

end Sys2Proof.Machine
end

section
/-! VRED and VCVT (R458). -/

namespace Sys2Proof.Machine

variable {s : State} {n : Nat} {g : Fin 1024} {o : OpFields}

/-! ### VRED -/

/-- The elements that VRED reduces to the element (i, j): a row, or with AXIS a column. -/
def Core.vredLine (c : Core) (o : OpFields) (i j : Nat) : List (Nat × Nat) :=
  if o.mod.getLsbD 4 then (List.range (c.tile o.a).rows).map fun r => (r, j)
  else (List.range (c.tile o.a).cols).map fun k => (i, k)

/-- The element (i, j) of VRED. -/
def State.vredElem (s : State) (g : Nat) (o : OpFields) (i j : Nat) : Elem :=
  let c := s.core g
  let x := c.tile o.a
  if intDomain [c.tile o.d, x] then
    .i (reduceI (o.mod.toNat % 4) ((c.vredLine o i j).map fun p => x.int (s.mem g) s.draws p.1 p.2))
  else .f (reduceF (o.mod.toNat % 4) ((c.vredLine o i j).map fun p => x.fp (s.mem g) s.draws p.1 p.2))

/-- AXIS of VRED as the model reads it. -/
theorem axis_ite {α : Type} (o : OpFields) (a b : α) :
    (if modBits o 4 1 = 0 then a else b) = if o.mod.getLsbD 4 then b else a := by
  have two : modBits o 4 1 < 2 := Nat.mod_lt _ (by decide)
  have one := modBits_one_iff o 4
  by_cases h : modBits o 4 1 = 0
  · rw [if_pos h, if_neg fun e => by have := one.2 e; omega]
  · rw [if_neg h, if_pos (one.1 (by omega))]

theorem answers_vred (ready : Ready (.vred g o) s n) :
    Answers (.vred g o) s fun t =>
      TileSet s t g ((s.core g).tile o.d) (o.mod.getLsbD 6) (o.mod.getLsbD 7) (s.vredElem g o)
        (((s.core g).tile o.a).bad (s.mem g)) := by
  obtain ⟨stands, region, pass⟩ := ready.issues rfl
  refine tileSet_of_vecDone (n := n) (el := s.vredElem g o) (srcs := [(s.core g).tile o.a]) (more := false) ?_ rfl (by simp)
  delta exec
  dsimp only [execVred]
  rw [issue_acts stands region pass]
  simp only [modBits_zero, axis_ite]; rfl

/-! ### VCVT -/

/-- The memory that VCVT leaves (R458): the codes within one format, blocks formed again for an MXFP4 transpose, else each
element converted. -/
def State.vcvtMem (s : State) (g : Nat) (o : OpFields) : PMem :=
  let c := s.core g
  let d := c.tile o.d
  let x := c.tile o.a
  let m := s.mem g
  let k := (sinkOf c d (o.mod.getLsbD 6) (o.mod.getLsbD 7)).1
  if x.fmt = d.fmt ∧ (x.fmt ≠ 7 ∨ x.trans = d.trans) then
    d.write m (fun i j => x.code m s.draws (x.pick i j).1 (x.pick i j).2)
      (fun i b => let p := if d.trans then x.pick (32 * b) i else x.pick i (32 * b); x.scale m s.draws p.1 p.2) (x.bad m)
  else if x.fmt = 7 ∧ d.fmt = 7 then
    d.putBlocks m k (fun i j => x.value m s.draws (x.pick i j).1 (x.pick i j).2) (x.bad m)
  else if intDomain [d, x] then d.put m k (fun i j => .i (x.intAt m s.draws i j)) (x.bad m)
  else d.put m k (fun i j => .f (x.fpAt m s.draws i j)) (x.bad m)

theorem answers_vcvt (ready : Ready (.vcvt g o) s n) :
    Answers (.vcvt g o) s fun t =>
      MemSet s t g (s.vcvtMem g o) (sinkOf (s.core g) ((s.core g).tile o.d) (o.mod.getLsbD 6) (o.mod.getLsbD 7)).2 := by
  obtain ⟨stands, region, pass⟩ := ready.issues rfl
  have exe : exec (.vcvt g o) s = done (settleOp g (.next (((s.unwait g).setMem n g (s.vcvtMem g o)
      (((s.core g).tile o.a).bad (s.mem g))).modCore g fun q => { q with
        sr := (sinkOf (s.core g) ((s.core g).tile o.d) (o.mod.getLsbD 6) (o.mod.getLsbD 7)).2 }))) := by
    delta exec
    dsimp only [execVcvt]
    rw [issue_acts stands region pass]
    simp only [modBits_one_beq]; rfl
  exact memSet_of_done (exe.trans (congrArg done (settleOp_next_modCore ..))) rfl

/-- Elements of two formats are converted one by one. -/
theorem vcvtMem_converts (s : State) (g : Nat) (o : OpFields) (h : ((s.core g).tile o.a).fmt ≠ ((s.core g).tile o.d).fmt) :
    s.vcvtMem g o = ((s.core g).tile o.d).put (s.mem g)
      (sinkOf (s.core g) ((s.core g).tile o.d) (o.mod.getLsbD 6) (o.mod.getLsbD 7)).1
      (fun i j => if intDomain [(s.core g).tile o.d, (s.core g).tile o.a] then .i (((s.core g).tile o.a).intAt (s.mem g) s.draws i j)
        else .f (((s.core g).tile o.a).fpAt (s.mem g) s.draws i j)) (((s.core g).tile o.a).bad (s.mem g)) := by
  unfold State.vcvtMem
  dsimp only
  rw [if_neg fun e => h e.1, if_neg fun e => h (e.1.trans e.2.symm)]
  split
  · rfl
  · rfl

/-- Settles O46: VRED writes its reductions; VCVT copies codes, forms blocks again or converts. -/
theorem reductionAndConversionComplete : Obligations.ReductionAndConversionComplete := by
  unfold Obligations.ReductionAndConversionComplete
  intro g o s n c d x m sr sat line
  refine ⟨answers_vred, fun ready other => ?_, fun ready same kept => ?_, fun ready mx mxd turned => ?_⟩
  · have h := answers_vcvt ready
    rw [vcvtMem_converts s g o other] at h
    exact h
  · have h := answers_vcvt ready
    rw [State.vcvtMem, if_pos ⟨same, kept⟩] at h
    exact h
  · have h := answers_vcvt ready
    rw [State.vcvtMem, if_neg fun e => e.2.elim (fun no => no mx) turned, if_pos ⟨mx, mxd⟩] at h
    exact h

end Sys2Proof.Machine
end

section
/-! END, the waits, NOTIFY, ACQ, REL and FENCE (R439 to R441, R466, R467, R646, R647). -/

namespace Sys2Proof.Machine

variable {s : State} {n : Nat} {g : Fin 1024} {o : OpFields}

/-! ### Releases -/

/-- What a release waits for does not tell whether its core waits. -/
theorem released_unwait (s : State) (n g scope : Nat) (async : Bool) :
    (s.unwait g).released n g scope async = s.released n g scope async := by
  unfold State.released
  simp only [State.unwait_core]; rfl

theorem whenReleased_done {u : State} {scope : Nat} {async wanted : Bool} {act : State → OpEnd}
    (h : wanted = true → u.released n g scope async = true) : whenReleased u n g scope async wanted act = act u := by
  unfold whenReleased
  cases wanted with
  | false => rfl
  | true => exact if_pos (h rfl)

/-- An operation that ends its program changes its core and nothing else. -/
theorem oneCore_of_ended {i : Instr} {g : Nat} (h : exec i s = done (settleOp g (.ended (s.unwait g)))) :
    Answers i s fun t => OneCore s t g { s.core g with wait := .none, status := .ended } :=
  oneCore_of_done (f := fun c => { c with wait := .none, status := .ended })
    (by rw [h, settleOp, State.unwait, State.modCore_modCore]) rfl

theorem exec_end (ready : Ready (.end_ g o) s n) (done' : s.released n g 3 true = true) :
    exec (.end_ g o) s = done (settleOp g (.ended (s.unwait g))) := by
  obtain ⟨stands, region, pass⟩ := ready.issues rfl
  delta exec
  dsimp only [execEnd]
  rw [issue_acts stands region pass]
  exact congrArg (fun e => done (settleOp g e)) (whenReleased_done fun _ => (released_unwait s n g 3 true).trans done')

theorem exec_rel (ready : Ready (.rel g o) s n)
    (done' : s.released n g (o.mod.toNat % 4) (o.mod.getLsbD 2) = true) :
    exec (.rel g o) s = done (settleOp g (.next (s.unwait g))) := by
  obtain ⟨stands, region, pass⟩ := ready.issues rfl
  delta exec
  dsimp only [execRel]
  rw [issue_acts stands region pass, modBits_zero, modBits_one_beq]
  exact congrArg (fun e => done (settleOp g e)) (whenReleased_done fun _ => (released_unwait s n g _ _).trans done')

theorem exec_fence (ready : Ready (.fence g o) s n)
    (done' : s.released n g (o.mod.toNat % 4) (o.mod.getLsbD 2) = true) :
    exec (.fence g o) s = done (settleOp g (.next ((s.unwait g).acquire g (o.mod.toNat % 4)))) := by
  obtain ⟨stands, region, pass⟩ := ready.issues rfl
  delta exec
  dsimp only [execFence]
  rw [issue_acts stands region pass, modBits_zero, modBits_one_beq]
  exact congrArg (fun e => done (settleOp g e)) (whenReleased_done fun _ => (released_unwait s n g _ _).trans done')

theorem exec_acq (ready : Ready (.acq g o) s n) :
    exec (.acq g o) s = done (settleOp g (.next ((s.unwait g).acquire g (o.mod.toNat % 4)))) := by
  obtain ⟨stands, region, pass⟩ := ready.issues rfl
  delta exec
  dsimp only [execAcq]
  rw [issue_acts stands region pass, modBits_zero]; rfl

theorem answers_acq (ready : Ready (.acq g o) s n) :
    Answers (.acq g o) s fun t => Acquires s t g (s.core g).past (o.mod.toNat % 4) := by
  obtain ⟨stands, -, -⟩ := ready.issues rfl
  exact acquires_of_done (exec_acq ready) (loads_of_acquires stands rfl) rfl

theorem answers_fence (ready : Ready (.fence g o) s n)
    (done' : s.released n g (o.mod.toNat % 4) (o.mod.getLsbD 2) = true) :
    Answers (.fence g o) s fun t => Acquires s t g (s.core g).past (o.mod.toNat % 4) := by
  obtain ⟨stands, -, -⟩ := ready.issues rfl
  exact acquires_of_done (exec_fence ready done') (loads_of_acquires stands rfl) rfl

/-! ### Waits -/

theorem exec_waitc (ready : Ready (.waitc g o) s n) :
    exec (.waitc g o) s = done (settleOp g (if reached (s.core g).dmaDone.toNat ((s.core g).reg o.a).toNat
      then .next (s.unwait g) else .wait .op (s.unwait g))) := by
  obtain ⟨stands, region, pass⟩ := ready.issues rfl
  delta exec
  dsimp only [execWaitc]
  rw [issue_acts stands region pass]; rfl

theorem exec_waitf (ready : Ready (.waitf g o) s n) :
    exec (.waitf g o) s = done (settleOp g (if reached (s.fld (F.SCH_FRAME_FRAME n)) ((s.core g).reg o.a).toNat
      then .next (s.unwait g) else .wait .frame (s.unwait g))) := by
  obtain ⟨stands, region, pass⟩ := ready.issues rfl
  delta exec
  dsimp only [execWaitf]
  rw [issue_acts stands region pass]; rfl

/-- An operation that goes on when its condition holds and waits otherwise. -/
theorem oneCore_of_condition {i : Instr} {g : Nat} {b : Bool} {w : CoreWait}
    (h : exec i s = done (settleOp g (if b then .next (s.unwait g) else .wait w (s.unwait g)))) :
    Answers i s fun t => OneCore s t g (if b then (s.core g).past else { s.core g with wait := w }) := by
  cases b with
  | false => exact oneCore_of_wait h
  | true => exact oneCore_of_past h

/-- The core that WAITN leaves: its register has the bits, which are cleared (R441). -/
def Core.waitnDone (c : Core) (o : OpFields) : Core :=
  { c.setReg o.d ((c.events &&& o.imm.setWidth 16).setWidth 64) false with events := c.events &&& ~~~(o.imm.setWidth 16) }

/-- The mask of WAITN. -/
theorem waitn_mask (o : OpFields) : BitVec.ofNat 16 (immBits o 0 16) = o.imm.setWidth 16 := by
  apply BitVec.eq_of_toNat_eq
  simp [immBits, bitsOf]

theorem exec_waitn (ready : Ready (.waitn g o) s n) :
    exec (.waitn g o) s = done (settleOp g (
      if (s.core g).events &&& o.imm.setWidth 16 = 0 then .wait .op (s.unwait g)
      else
        let u := (s.unwait g).modCore g fun k =>
          { k.setReg o.d (((s.core g).events &&& o.imm.setWidth 16).setWidth 64) false with
            events := (s.core g).events &&& ~~~(o.imm.setWidth 16) }
        .next (if o.mod.getLsbD 0 = true then u.acquire g (o.mod.toNat / 2 % 4) else u))) := by
  obtain ⟨stands, region, pass⟩ := ready.issues rfl
  delta exec
  dsimp only [execWaitn]
  rw [issue_acts stands region pass]
  simp only [waitn_mask, modBits_one_iff]; rfl

theorem answers_waitn (ready : Ready (.waitn g o) s n) (came : (s.core g).events &&& o.imm.setWidth 16 ≠ 0) :
    Answers (.waitn g o) s fun t =>
      if o.mod.getLsbD 0 then Acquires s t g ((s.core g).waitnDone o).past (o.mod.toNat / 2 % 4)
      else OneCore s t g ((s.core g).waitnDone o).past := by
  obtain ⟨stands, -, -⟩ := ready.issues rfl
  have h := exec_waitn ready
  rw [if_neg came] at h
  cases acq : o.mod.getLsbD 0 with
  | false =>
    simp only [acq] at h
    exact oneCore_of_next h (by simp only [Core.setReg_wait, Core.setReg_pc, Core.waitnDone, Core.past])
  | true =>
    simp only [acq, if_true] at h
    rw [State.unwait, State.modCore_modCore] at h
    have idle : (s.core g).loads = [] := loads_of_acquires stands (by simp [acquires, modBits_one_beq, acq])
    refine acquires_of_done h ?_ ?_
    · rw [Core.setReg_wait]; exact (Core.setReg_loads ..).trans idle
    · simp only [Core.setReg_wait, Core.setReg_pc, Core.waitnDone, Core.past]

theorem answers_waitn_wait (ready : Ready (.waitn g o) s n) (none : (s.core g).events &&& o.imm.setWidth 16 = 0) :
    Answers (.waitn g o) s fun t => OneCore s t g { s.core g with wait := .op } := by
  have h := exec_waitn ready
  rw [if_pos none] at h
  exact oneCore_of_wait h

/-! ### NOTIFY -/

/-- The state with the event of a NOTIFY on its way (R440). -/
def State.notifies (s : State) (g dst ev : Nat) : State :=
  { s with nextId := s.nextId + 1, ctl := smPut s.ctl s.nextId (.notify g dst ev) }

theorem unwait_hasProgram (s : State) (g dst : Nat) : ((s.unwait g).core dst).hasProgram = (s.core dst).hasProgram := by
  by_cases h : dst = g
  · subst h; rw [State.unwait_core]
  · rw [State.unwait, State.core_modCore_ne _ _ h]

theorem exec_notify (ready : Ready (.notify g o) s n)
    (done' : o.mod.getLsbD 0 = true → s.released n g (o.mod.toNat / 2 % 4) false = true)
    (core : s.coreFenced ((s.core g).reg o.a).toNat = false)
    (tile : s.tileFenced (tileOfCore ((s.core g).reg o.a).toNat) = false)
    (runs : (s.core ((s.core g).reg o.a).toNat).hasProgram = true) :
    exec (.notify g o) s = done (settleOp g (.next ((s.unwait g).notifies g ((s.core g).reg o.a).toNat (o.imm.toNat % 16)))) := by
  obtain ⟨stands, region, pass⟩ := ready.issues rfl
  have event : immBits o 0 4 = o.imm.toNat % 16 := by simp [immBits, bitsOf]
  have free : ((s.unwait g).coreFenced ((s.core g).reg o.a).toNat
      || (s.unwait g).tileFenced (tileOfCore ((s.core g).reg o.a).toNat)
      || !((s.unwait g).core ((s.core g).reg o.a).toNat).hasProgram) = false := by
    rw [unwait_hasProgram, runs]
    exact Bool.or_eq_false_iff.2 ⟨Bool.or_eq_false_iff.2 ⟨core, tile⟩, rfl⟩
  delta exec
  dsimp only [execNotify]
  rw [issue_acts stands region pass, modBits_one_beq, event]
  exact congrArg (fun e => done (settleOp g e))
    ((whenReleased_done fun b => (released_unwait s n g _ _).trans (done' b)).trans (if_neg (Bool.eq_false_iff.1 free)))

theorem answers_notify (ready : Ready (.notify g o) s n)
    (done' : o.mod.getLsbD 0 = true → s.released n g (o.mod.toNat / 2 % 4) false = true)
    (core : s.coreFenced ((s.core g).reg o.a).toNat = false)
    (tile : s.tileFenced (tileOfCore ((s.core g).reg o.a).toNat) = false)
    (runs : (s.core ((s.core g).reg o.a).toNat).hasProgram = true) : Answers (.notify g o) s fun t =>
      t.core g = (s.core g).past ∧ (∀ h, h ≠ g.val → t.core h = s.core h) ∧
        t.ctl = smPut s.ctl s.nextId (.notify g ((s.core g).reg o.a).toNat (o.imm.toNat % 16)) ∧
        Frame s t [] [.cores, .ctl] := by
  refine answers_of_done (exec_notify ready done' core tile runs) ⟨?_, fun k hk => ?_, ?_, ?_⟩
  · rw [State.refreshPf_core, settleOp, State.core_modCore_same]
    exact congrArg (fun c : Core => { c with pc := c.pc + 8 }) (s.unwait_core g)
  · rw [State.refreshPf_core, settleOp, State.core_modCore_ne _ _ hk]
    have kept : (s.unwait g).core k = s.core k := State.core_modCore_ne _ _ hk
    exact kept
  · rw [State.refreshPf_ctl]; rfl
  · have sent (u : State) (dst ev : Nat) : Frame u (u.notifies g dst ev) [] [.cores, .ctl] :=
      ⟨fun _ _ _ _ => rfl, fun q hq => by
        cases q with
        | ctl => simp at hq
        | _ => rfl⟩
    exact (((frame_modCore s g _ (by simp)).trans (sent _ _ _)).trans (frame_modCore _ _ _ (by simp))).pf

/-- Settles O37: the waits, NOTIFY, ACQ, REL, FENCE and END once what they wait for holds, and the waits until then. -/
theorem synchronisationCompletes : Obligations.SynchronisationCompletes := by
  unfold Obligations.SynchronisationCompletes
  intro g o s n c mask
  exact ⟨fun ready d => oneCore_of_ended (exec_end ready d), fun ready => oneCore_of_condition (exec_waitc ready),
    fun ready => oneCore_of_condition (exec_waitf ready), answers_waitn, answers_waitn_wait, answers_notify, answers_acq,
    fun ready d => oneCore_of_past (exec_rel ready d), answers_fence⟩

end Sys2Proof.Machine
end

section
/-! What reaches a core over the control network (R438, R441, R473, R475, R549 to R553). -/

namespace Sys2Proof.Machine

variable {s t : State} {n : Nat}

/-! ### An undefined opcode -/

theorem coreException_rgn_reports (s : State) (n g code : Nat) :
    ((s.coreException n g code).rgn n).reports = (s.rgn n).reports ++
      [{ cause := 1, tile := tileOfCore g, core := g, excCode := code, opOffset := (s.core g).pc }] := by
  rw [coreException_rgn]

theorem exec_undefinedOpcode {g : Fin 1024} (run : (s.core g).status = .running) (free : ∀ l ∈ (s.core g).loads, l.block = false)
    (clock : s.clockStopped (tileOfCore g) = false) (region : s.regionOfCore g = some n)
    (none : 65536 ≤ (s.core g).pc ∨ (opcodeOf ((s.core g).wordAt (s.core g).pc)).toNat ∉ opcodes) :
    exec (.undefinedOpcode g) s = done (s.coreException n g 1) := by
  have idle : (s.core g).loads.any LoadOp.block = false := List.any_eq_false.2 fun l hl => by simp [free l hl]
  have reserved : (decide (65536 ≤ (s.core g).pc) || !opcodes.contains (opcodeOf ((s.core g).wordAt (s.core g).pc)).toNat) = true := by
    simpa using none
  have goes : ((s.core g).status == .running && !((s.core g).loads.any LoadOp.block) && !s.clockStopped (tileOfCore g)
      && (decide (65536 ≤ (s.core g).pc) || !opcodes.contains (opcodeOf ((s.core g).wordAt (s.core g).pc)).toNat)) = true := by
    rw [run, idle, clock, reserved]; rfl
  delta exec
  dsimp only [execUndefinedOpcode]
  rw [if_pos goes, region]; rfl

/-! ### A message on the control network -/

/-- The state whose message has left with its words sent again counted. -/
def State.resentOn (s : State) (way : List Nat) (w : CtlWay) : State :=
  s.countSat F.CTL_STATUS_RETRIES (min w.resent (12 * way.length))

theorem carry_arrives (s : State) (way : List Nat) {w : CtlWay} (act : State → State) (h : w.failedAt = none) :
    s.carry way w act = act (s.resentOn way w) := by
  unfold State.carry
  rw [h]; rfl

theorem carry_fails (s : State) {way : List Nat} {w : CtlWay} (act : State → State) {j tile : Nat} (h : w.failedAt = some j)
    (hj : way[j]? = some tile) : s.carry way w act = (s.resentOn way w).ctlFail tile := by
  have lt : j < way.length := (List.getElem?_eq_some_iff.1 hj).1
  have place : min j (way.length - 1) = j := by omega
  unfold State.carry
  rw [h]
  dsimp only
  rw [place, hj]; rfl

theorem frame_resentOn (s : State) (way : List Nat) (w : CtlWay) (p : List Part) : Frame s (s.resentOn way w) [R.CTL_STATUS] p :=
  frame_setFld s F.CTL_STATUS_RETRIES _ p (by decide)

theorem resentOn_retries (s : State) (way : List Nat) (w : CtlWay) :
    (s.resentOn way w).fld F.CTL_STATUS_RETRIES = min (s.fld F.CTL_STATUS_RETRIES + min w.resent (12 * way.length)) 0xFFFF := by
  refine (State.fld_setFld_same s F.CTL_STATUS_RETRIES _ (by decide)).trans (Nat.mod_eq_of_lt ?_)
  simp only [F.CTL_STATUS_RETRIES]; omega

/-- A register of the control network is none of those of a fault. -/
theorem ctl_notin_faultRegs {off n : Nat} (h : 0x320000 ≤ off) (hn : n < 32) : off ∉ faultRegs n := by
  simp only [faultRegs, R.RGN_STATE, R.RGN_FAULT, R.RGN_FAULT_TIME_LO, R.RGN_FAULT_TIME_HI, R.RGN_FAULT_OP, R.RGN_COUNTS, List.mem_cons,
    List.not_mem_nil, or_false, not_or]
  omega

/-- An integrity error that is logged changes no component. -/
theorem integRaise_part (s : State) (e : IntegError) (cause : Fld) (q : Part) : q.same s (s.integRaise e cause) := by
  have logged : Stays 0 [] s (s.integLog e) := ⟨sameWord_integLog s e (by decide), fun q _ => by cases q <;> rfl⟩
  unfold State.integRaise State.integEvent
  extract_lets t
  have ht : SameParts [] s t := logged.2.setFld cause 1
  split
  · exact ht.trans ((Stays.refl 0 [] t).sendVf _ 3).2 q (by simp)
  · exact ht q (by simp)

/-- A word that fails four times is named in CTL_ERR, whatever the fault then does (R553). -/
theorem ctlFail_spec (s : State) (tile : Nat) :
    (s.ctlFail tile).fld F.CTL_ERR_FLAGS_RETRY_FAIL = 1 ∧ (s.ctlFail tile).fld F.CTL_ERR_FAIL_TILE = tile % 256 ∧
      (s.ctlFail tile).ctl = s.ctl := by
  unfold State.ctlFail
  extract_lets a b
  have flag : a.fld F.CTL_ERR_FLAGS_RETRY_FAIL = 1 :=
    (State.fld_setFld_off _ F.CTL_ERR_FAIL_TILE F.CTL_ERR_FLAGS_RETRY_FAIL _ (by decide)).trans
      (State.fld_setFld_same _ F.CTL_ERR_FLAGS_RETRY_FAIL 1 (by decide))
  have name : a.fld F.CTL_ERR_FAIL_TILE = tile % 256 := State.fld_setFld_same _ F.CTL_ERR_FAIL_TILE tile (by decide)
  have logged {off : Nat} (h : off < 0xa00000) : Stays off faultParts a b :=
    ⟨(sameWord_integLog a _ h).trans (sameWord_integEvent _ _ _ (by
      simp only [F.INT_INTEG_STATUS_CONFIG_UE, R.INT_INTEG_STATUS]; omega)), fun q hq => integRaise_part a _ _ q⟩
  have kept {u : State} (h : ∀ off, 0x320000 ≤ off → off < 0x400000 → Stays off faultParts a u) :
      u.fld F.CTL_ERR_FLAGS_RETRY_FAIL = 1 ∧ u.fld F.CTL_ERR_FAIL_TILE = tile % 256 ∧ u.ctl = s.ctl :=
    ⟨((h _ (by decide) (by decide)).1.fld F.CTL_ERR_FLAGS_RETRY_FAIL rfl).trans flag,
      ((h _ (by decide) (by decide)).1.fld F.CTL_ERR_FAIL_TILE rfl).trans name,
      (h R.CTL_ERR (by decide) (by decide)).2 .ctl (by decide)⟩
  split
  · rename_i n owner
    have hn : n < 32 := ownerOf_lt owner
    exact kept fun off lo hi => (logged (by omega)).trans
      (stays_regionFault_of_lt b _ hi (by simp only [NotImage]; omega) (ctl_notin_faultRegs lo hn))
  · exact kept fun off _ hi => logged (by omega)

/-! ### A NOTIFY (R441) -/

theorem exec_notifyDelivery {id k src dst ev : Nat} (way : CtlWay)
    (found : s.ctl.find? (fun e => e.1 == id) = some (k, .notify src dst ev))
    (powered : s.wayOpen (tileWay (tileOfCore src) (tileOfCore dst)) = true)
    (free : s.haltAhead (tileWay (tileOfCore src) (tileOfCore dst)) = false) :
    exec (.notifyDelivery id way) s =
      done (({ s with ctl := smDel s.ctl id } : State).carry (tileWay (tileOfCore src) (tileOfCore dst)) way fun t =>
        t.modCore dst fun c => { c with events := c.events ||| BitVec.ofNat 16 (2 ^ (ev % 16)) }) := by
  delta exec
  dsimp only [execNotifyDelivery]
  rw [found]
  dsimp only
  rw [powered, free]; rfl

/-- The bit of an event. -/
theorem event_bit {ev : Nat} (h : ev < 16) : BitVec.ofNat 16 (2 ^ (ev % 16)) = 1#16 <<< ev := by
  rw [Nat.mod_eq_of_lt h]
  apply BitVec.eq_of_toNat_eq
  simp [Nat.shiftLeft_eq]

/-- The control network without a message. -/
theorem frame_ctl (s : State) (m : SMap CtlMsg) (r : List Nat) {p : List Part} (h : .ctl ∈ p) : Frame s { s with ctl := m } r p :=
  ⟨fun _ _ _ _ => rfl, fun q hq => by
    cases q with
    | ctl => exact absurd h hq
    | _ => rfl⟩

theorem answers_notifyDelivery {id k src dst ev : Nat} {way : CtlWay}
    (found : s.ctl.find? (fun e => e.1 == id) = some (k, .notify src dst ev)) (small : ev < 16)
    (powered : s.wayOpen (tileWay (tileOfCore src) (tileOfCore dst)) = true)
    (free : s.haltAhead (tileWay (tileOfCore src) (tileOfCore dst)) = false) (comes : way.failedAt = none) :
    Answers (.notifyDelivery id way) s fun t =>
      t.core dst = { s.core dst with events := (s.core dst).events ||| (1#16 <<< ev) } ∧
        (∀ h, h ≠ dst → t.core h = s.core h) ∧ t.ctl = smDel s.ctl id ∧
        t.fld F.CTL_STATUS_RETRIES = min (s.fld F.CTL_STATUS_RETRIES
          + min way.resent (12 * (tileWay (tileOfCore src) (tileOfCore dst)).length)) 0xFFFF ∧
        Frame s t [R.CTL_STATUS] [.cores, .ctl] := by
  have h := exec_notifyDelivery way found powered free
  rw [carry_arrives _ _ _ comes, event_bit small] at h
  refine answers_of_done h ⟨?_, fun k hk => ?_, ?_, ?_, ?_⟩
  · rw [State.refreshPf_core, State.core_modCore_same]; rfl
  · rw [State.refreshPf_core, State.core_modCore_ne _ _ hk]; rfl
  · rw [State.refreshPf_ctl]; rfl
  · exact (State.refreshPf_fld _ F.CTL_STATUS_RETRIES (by decide)).trans (resentOn_retries _ _ _)
  · exact (((frame_ctl s _ _ (by simp)).trans (frame_resentOn _ _ _ _)).trans (frame_modCore _ _ _ (by simp))).pf

theorem answers_notifyFails {id k src dst ev j tile : Nat} {way : CtlWay}
    (found : s.ctl.find? (fun e => e.1 == id) = some (k, .notify src dst ev))
    (powered : s.wayOpen (tileWay (tileOfCore src) (tileOfCore dst)) = true)
    (free : s.haltAhead (tileWay (tileOfCore src) (tileOfCore dst)) = false) (fails : way.failedAt = some j)
    (at' : (tileWay (tileOfCore src) (tileOfCore dst))[j]? = some tile) : Answers (.notifyDelivery id way) s fun t =>
      t.fld F.CTL_ERR_FLAGS_RETRY_FAIL = 1 ∧ t.fld F.CTL_ERR_FAIL_TILE = tile % 256 ∧ t.ctl = smDel s.ctl id := by
  have h := exec_notifyDelivery way found powered free
  rw [carry_fails _ _ fails at'] at h
  obtain ⟨flag, name, ctl⟩ := ctlFail_spec (({ s with ctl := smDel s.ctl id } : State).resentOn
    (tileWay (tileOfCore src) (tileOfCore dst)) way) tile
  exact answers_of_done h ⟨(State.refreshPf_fld _ _ (by decide)).trans flag, (State.refreshPf_fld _ _ (by decide)).trans name,
    (State.refreshPf_ctl _).trans ctl⟩

/-! ### A HALT (R473, R551) -/

/-- The core that a HALT reaches. -/
def Core.haltedNow (c : Core) : Core :=
  { c with haltDue := false, wait := .none, status := if c.status = .running then .halted else c.status }

/-- The state with the longest HALT noted, as the free value has it (R551). -/
def State.haltTimed (u : State) : State :=
  u.draw.2.setFld F.CTL_STATUS_HALT_MAX_NS (max (u.draw.2.fld F.CTL_STATUS_HALT_MAX_NS) (u.draw.1.toNat % 301))

theorem frame_haltTimed (u : State) (p : List Part) : Frame u u.haltTimed [R.CTL_STATUS] p :=
  (frame_draw u _ _).trans (frame_setFld _ F.CTL_STATUS_HALT_MAX_NS _ _ (by decide))

theorem haltTimed_le (u : State) : u.haltTimed.fld F.CTL_STATUS_HALT_MAX_NS ≤ max (u.fld F.CTL_STATUS_HALT_MAX_NS) 300 := by
  have written : u.haltTimed.fld F.CTL_STATUS_HALT_MAX_NS =
      max (u.fld F.CTL_STATUS_HALT_MAX_NS) (u.draw.1.toNat % 301) % 2 ^ 16 := State.fld_setFld_same _ F.CTL_STATUS_HALT_MAX_NS _ (by decide)
  have longest := Nat.mod_lt u.draw.1.toNat (show 0 < 301 by decide)
  rw [written]
  exact (Nat.mod_le _ _).trans (max_le_max (le_refl _) (by omega))

theorem answers_halt {g : Fin 1024} {way : CtlWay} (due : (s.core g).haltDue = true)
    (powered : s.wayOpen (columnWay (tileOfCore g)) = true) (comes : way.failedAt = none) : Answers (.halt g way) s fun t =>
    t.core g = (s.core g).haltedNow ∧ (∀ h, h ≠ g.val → t.core h = s.core h) ∧
      t.fld F.CTL_STATUS_HALT_MAX_NS ≤ max (s.fld F.CTL_STATUS_HALT_MAX_NS) 300 ∧ Frame s t [R.CTL_STATUS] [.cores] := by
  have h : exec (.halt g way) s = done (s.carry (columnWay (tileOfCore g)) way fun u =>
      u.haltTimed.modCore g Core.haltedNow) := by
    delta exec
    dsimp only [execHalt]
    rw [due, powered]; rfl
  rw [carry_arrives _ _ _ comes] at h
  have same : (s.resentOn (columnWay (tileOfCore g)) way).fld F.CTL_STATUS_HALT_MAX_NS = s.fld F.CTL_STATUS_HALT_MAX_NS :=
    State.fld_setFld_lo s F.CTL_STATUS_RETRIES F.CTL_STATUS_HALT_MAX_NS _ rfl rfl (by decide) (.inl (by decide))
  refine answers_of_done h ⟨?_, fun k hk => ?_, ?_, ?_⟩
  · rw [State.refreshPf_core, State.core_modCore_same]; rfl
  · rw [State.refreshPf_core, State.core_modCore_ne _ _ hk]; rfl
  · rw [State.refreshPf_fld _ F.CTL_STATUS_HALT_MAX_NS (by decide), ← same]
    exact haltTimed_le _
  · exact (((frame_resentOn s _ _ _).trans (frame_haltTimed _ _)).trans (frame_modCore _ _ _ (by simp))).pf

/-- Settles O38: an undefined opcode halts its core with ILLEGAL_OP; a NOTIFY sets its bit or is named as failed; a HALT stops its core. -/
theorem coreEventsComplete : Obligations.CoreEventsComplete := by
  unfold Obligations.CoreEventsComplete
  refine ⟨fun g s n run free clock region none => ?_, ?_, fun g way s => answers_halt⟩
  · refine answers_of_done (exec_undefinedOpcode run free clock region none) ⟨?_, fun h hh => ?_, ?_,
      (frame_coreException s n g 1).pf, Sent.pf (sent_of_out rfl)⟩
    · rw [State.refreshPf_core, coreException_core]
    · rw [State.refreshPf_core, coreException_core_ne _ _ _ hh]
    · rw [State.refreshPf_rgn, coreException_rgn_reports]
  · intro id k src dst ev way s found small stops powered free
    refine ⟨answers_notifyDelivery found small powered free, fun j tile fails at' => answers_notifyFails found powered free fails at'⟩

end Sys2Proof.Machine
end

section
/-! What a management request changes and answers when it is served (R823, R825 to R832, R868). -/

namespace Sys2Proof.Machine

variable {s : State} {e : Endpoint}

/-- A request as it is served. -/
def State.serves (s : State) (e : Endpoint) (i : Instr) : State :=
  s.serveRequest { endpoint := e, request := i, valid := s.valueOk i }

/-! ### Caps (R825, R828) -/

theorem capInRange_iff {low w : Nat} : capInRange low w = true ↔ w = 0 ∨ low ≤ w ∧ w ≤ 1100 := by
  simp [capInRange]

/-- An effecter's value in its range is applied and answered. -/
theorem effecter_valid (f : State → Nat × State) : s.effecter e true f = (f s).2.mctpAnswer e (f s).1 := rfl

theorem serves_moduleCap {w : Nat} (h : w = 0 ∨ 300 ≤ w ∧ w ≤ 1100) :
    s.serves e (.moduleCap e w) = (s.setFld F.PWR_CAP_PLDM_CAP_W w).noteCap.mctpAnswer e 0 := by
  have valid : s.valueOk (.moduleCap e w) = true := capInRange_iff.2 h
  unfold State.serves
  rw [valid]; rfl

theorem serves_moduleCap_refused {w : Nat} (h0 : w ≠ 0) (h : w < 300 ∨ 1100 < w) :
    s.serves e (.moduleCap e w) = s.emit (.mctp e 2 []) := by
  have valid : s.valueOk (.moduleCap e w) = false := Bool.eq_false_iff.2 fun k => by
    have := capInRange_iff.1 k
    omega
  unfold State.serves
  rw [valid]; rfl

theorem serves_regionCap {n : Fin 32} {w : Nat} (h : w = 0 ∨ 5 ≤ w ∧ w ≤ 1100) :
    s.serves e (.regionCap e n w) = (s.setFld (F.PWR_RGN_CAP_CAP_W n) w).mctpAnswer e 0 := by
  have valid : s.valueOk (.regionCap e n w) = true := capInRange_iff.2 h
  unfold State.serves
  rw [valid]; rfl

/-- The caps once Vesper's is written (R128). -/
theorem noteCap_spec {w : Nat} (h : w ≤ 1100) :
    (s.setFld F.PWR_CAP_PLDM_CAP_W w).noteCap.fld F.PWR_CAP_PLDM_CAP_W = w ∧
      (s.setFld F.PWR_CAP_PLDM_CAP_W w).noteCap.fld F.PWR_CAP_STATUS_ENFORCED_W = enforcedCap (s.fld F.PWR_CAP_PF_CAP_W) w := by
  have pldm : (s.setFld F.PWR_CAP_PLDM_CAP_W w).fld F.PWR_CAP_PLDM_CAP_W = w :=
    (State.fld_setFld_same s _ w (by decide)).trans (Nat.mod_eq_of_lt (by simp only [F.PWR_CAP_PLDM_CAP_W]; omega))
  have pf : (s.setFld F.PWR_CAP_PLDM_CAP_W w).fld F.PWR_CAP_PF_CAP_W = s.fld F.PWR_CAP_PF_CAP_W :=
    State.fld_setFld_lo s F.PWR_CAP_PLDM_CAP_W F.PWR_CAP_PF_CAP_W w rfl rfl (by decide) (.inl (by decide))
  have most (a b : Nat) : enforcedCap a b < 2 ^ 11 := (min_le_left _ _).trans_lt (by decide)
  unfold State.noteCap
  rw [pldm, pf]
  exact ⟨(State.fld_setFld_off _ F.PWR_CAP_STATUS_ENFORCED_W F.PWR_CAP_PLDM_CAP_W _ (by decide)).trans pldm,
    (State.fld_setFld_same _ F.PWR_CAP_STATUS_ENFORCED_W _ (by decide)).trans (Nat.mod_eq_of_lt (most _ _))⟩

theorem regionCap_spec (n : Nat) {w : Nat} (h : w ≤ 1100) :
    (s.setFld (F.PWR_RGN_CAP_CAP_W n) w).fld (F.PWR_RGN_CAP_CAP_W n) = w :=
  (State.fld_setFld_same s (F.PWR_RGN_CAP_CAP_W n) w (show 0 + 11 ≤ 32 by decide)).trans
    (Nat.mod_eq_of_lt (show w < 2 ^ 11 by omega))

/-! ### Releases, captures and orders (R144, R866, R868) -/

theorem serves_release_refused (h : s.releaseAccepted = false) :
    s.serves e (.facilityRelease e) = (s.raise F.PWR_ERR_RELEASE_REFUSED).mctpAnswer e ccNOT_READY := by
  unfold State.serves State.serveRequest
  dsimp only [State.valueOk]
  rw [effecter_valid, State.pldmRelease, h]; rfl

theorem serves_release (h : s.releaseAccepted = true) :
    s.serves e (.facilityRelease e) = (s.releaseM3 []).mctpAnswer e 0 := by
  unfold State.serves State.serveRequest
  dsimp only [State.valueOk]
  rw [effecter_valid, State.pldmRelease, h]; rfl

/-- The module leaves M3. -/
def releasing (s : State) : State :=
  { s.lower F.PWR_FHALT_STATUS_HALTED with power := { s.power with releasing := true } }

theorem releasing_halted (s : State) : (releasing s).fld F.PWR_FHALT_STATUS_HALTED = 0 :=
  State.fld_setFld_same s F.PWR_FHALT_STATUS_HALTED 0 (by decide)

theorem releaseM3_eq (s : State) (l : List Crossing) :
    s.releaseM3 l = (releasing s).startHalves (releasing s).targetMult { crossings := l } := rfl

theorem releaseM3_spec (s : State) (l : List Crossing) :
    (s.releaseM3 l).power.releasing = true ∧ (s.releaseM3 l).fld F.PWR_FHALT_STATUS_HALTED = 0 := by
  have power : (releasing s).power.releasing = true := rfl
  have halted := releasing_halted s
  rw [releaseM3_eq]
  generalize releasing s = t at power halted ⊢
  exact ⟨by rw [startHalves_power]; exact power,
    ((stays_startHalves t _ _ (off := R.PWR_FHALT_STATUS) (by decide) (by decide)).1.fld F.PWR_FHALT_STATUS_HALTED rfl).trans halted⟩

theorem mctpAnswer_fld (s : State) (e : Endpoint) (code : Nat) (l : List Nat) (f : Fld) : (s.mctpAnswer e code l).fld f = s.fld f := rfl

theorem mctpAnswer_power (s : State) (e : Endpoint) (code : Nat) (l : List Nat) : (s.mctpAnswer e code l).power = s.power := rfl

theorem serves_capture (h : s.captureRefused none false = 0) :
    s.serves e (.captureEffecter e) = (s.startCapture none false).mctpAnswer e 0 := by
  unfold State.serves State.serveRequest
  dsimp only [State.valueOk]
  rw [effecter_valid, State.pldmCapture, if_pos h]; rfl

theorem startCapture_busy (s : State) (r : Option Nat) (b : Bool) : (s.startCapture r b).fld F.FLT_STATUS_CAPTURE_BUSY = 1 :=
  State.fld_setFld_same s F.FLT_STATUS_CAPTURE_BUSY 1 (by decide)

/-- A unit in service is ordered to be fenced. -/
theorem wantFence_inService {key : Nat} (h : s.pathState key = 0) :
    s.wantFence key = s.modVsp fun v => { v with orders := v.orders ++ [(key, true)] } := by
  unfold State.wantFence
  rw [h]; rfl

theorem serves_fence {v : BitVec 32} {key : Nat} (unit : s.serviceUnit v = some (key, true)) :
    s.serves e (.unitService e v) = (s.wantFence key).mctpAnswer e 0 := by
  unfold State.serves State.serveRequest
  dsimp only [State.valueOk]
  rw [unit]
  dsimp only [Option.isSome]
  rw [effecter_valid, State.pldmService, unit]; rfl

/-! ### Firmware update (R830 to R832) -/

theorem serves_requestUpdate (h : s.vesper.updater = none) :
    s.serves e (.requestupdate e) =
      ((s.modVsp fun v => { v with updater := some e, verified := none }).raise F.VSP_STATUS_UPDATE).mctpAnswer e 0 := by
  unfold State.serves State.serveRequest
  dsimp only
  rw [State.requestUpdate, h]; rfl

theorem queueAlm_selector (s : State) (type : Nat) (body : List Nat) : (s.queueAlm type body).flash = s.flash := by
  unfold State.queueAlm
  split <;> rfl

theorem serves_activate {b : Bool} (mine : s.vesper.updater = some e) (good : s.vesper.verified = some b)
    (run : s.power.phase = .run) :
    (s.serves e (.activatefirmware e true)).flash.selector = b ∧ (s.serves e (.activatefirmware e true)).vesper.restartDue = true := by
  unfold State.serves State.serveRequest
  dsimp only
  unfold State.activate
  rw [if_neg (by simp [mine]), if_neg (by decide), good]
  dsimp only
  rw [if_neg (by rw [run]; decide)]
  exact ⟨congrArg Flash.selector (queueAlm_selector _ _ _), rfl⟩

/-! ### IDs (R823) -/

theorem assignable_of_ne {x : BitVec 8} (h0 : x ≠ 0) (h1 : x ≠ 0xFF) : assignable x = true := by
  simp only [assignable, Bool.and_eq_true, bne_iff_ne]
  exact ⟨h0, h1⟩

theorem serves_setEid {x : BitVec 8} (h : assignable x = true) :
    s.serves e (.setEndpointId e x) = (s.setEid e x).mctpAnswer e 0 [x.toNat] := if_pos h

theorem serves_setTid {x : BitVec 8} (h : assignable x = true) : s.serves e (.settid e x) = (s.setTid e x).mctpAnswer e 0 :=
  if_pos h

theorem setEid_eid (s : State) (e : Endpoint) (x : BitVec 8) : (s.setEid e x).eid e = x := by cases e <;> rfl

theorem setTid_tid (s : State) (e : Endpoint) (x : BitVec 8) : (s.setTid e x).tid e = x := by cases e <;> rfl

theorem mctpAnswer_eid (s : State) (e f : Endpoint) (code : Nat) (l : List Nat) : (s.mctpAnswer f code l).eid e = s.eid e := by
  cases e <;> rfl

theorem mctpAnswer_tid (s : State) (e f : Endpoint) (code : Nat) (l : List Nat) : (s.mctpAnswer f code l).tid e = s.tid e := by
  cases e <;> rfl

/-- Settles O33: each request is followed to the state that it leaves. -/
theorem requestsAreServed : Obligations.RequestsAreServed := by
  unfold Obligations.RequestsAreServed
  intro e s serve tells
  refine ⟨fun x h0 h1 => ?_, ⟨rfl, rfl, rfl, rfl⟩, fun _ => rfl, fun w h => ?_, fun w h0 h => serves_moduleCap_refused h0 h,
    fun n w h => ?_, fun v key unit free => ?_, fun free => ?_, fun no => ?_, fun yes => ?_, fun none => ?_,
    fun b mine good run => serves_activate mine good run⟩
  · have ok := assignable_of_ne h0 h1
    have eid : serve (.setEndpointId e x) = _ := serves_setEid ok
    have tid : serve (.settid e x) = _ := serves_setTid ok
    rw [eid, tid]
    exact ⟨(mctpAnswer_eid ..).trans (setEid_eid ..), (mctpAnswer_tid ..).trans (setTid_tid ..), rfl, rfl⟩
  · have t : serve (.moduleCap e w) = _ := serves_moduleCap h
    obtain ⟨pldm, enforced⟩ := noteCap_spec (s := s) (w := w) (by omega)
    rw [t, mctpAnswer_fld, mctpAnswer_fld]
    exact ⟨pldm, enforced, rfl⟩
  · have t : serve (.regionCap e n w) = _ := serves_regionCap h
    rw [t, mctpAnswer_fld]
    exact ⟨regionCap_spec n (by omega), rfl⟩
  · have t : serve (.unitService e v) = _ := serves_fence unit
    rw [t, wantFence_inService free]
    exact ⟨rfl, rfl⟩
  · have t : serve (.captureEffecter e) = _ := serves_capture free
    rw [t, mctpAnswer_fld]
    exact ⟨startCapture_busy s none false, rfl⟩
  · have t : serve (.facilityRelease e) = _ := serves_release_refused no
    rw [t, mctpAnswer_fld]
    exact State.fld_setFld_same s F.PWR_ERR_RELEASE_REFUSED 1 (by decide)
  · have t : serve (.facilityRelease e) = _ := serves_release yes
    rw [t, mctpAnswer_power, mctpAnswer_fld]
    exact releaseM3_spec s []
  · have t : serve (.requestupdate e) = _ := serves_requestUpdate none
    rw [t]
    exact ⟨rfl, rfl⟩

end Sys2Proof.Machine
end

section
/-! Requests of the MCTP endpoints as they are received (R192, R811, R821, R824), and the module's own management events. -/

namespace Sys2Proof.Machine

variable {s : State} {e : Endpoint} {i : Instr}

/-! ### Receipt -/

/-- A request's command receives it. -/
theorem exec_of_isRequest (h : isRequest e i) : exec i s = receive e i s := by
  rcases h with h | ⟨x, h⟩ | ⟨x, rfl⟩ | ⟨w, rfl⟩ | ⟨n, w, rfl⟩ | ⟨v, rfl⟩ | ⟨b, rfl⟩
  · simp only [List.mem_cons, List.not_mem_nil, or_false] at h
    rcases h with rfl | rfl | rfl | rfl | rfl | rfl | rfl | rfl <;> rfl
  · simp only [List.mem_cons, List.not_mem_nil, or_false] at h
    rcases h with rfl | rfl | rfl | rfl | rfl | rfl <;> rfl
  · rfl
  · rfl
  · rfl
  · rfl
  · rfl

/-- Nothing is served: the endpoint does not answer the address, or Vesper restarts. -/
theorem receive_unheard (h : s.hears e = false ∨ s.fld F.VSP_STATUS_RESTARTING = 1) : receive e i s = done s := by
  unfold receive
  extract_lets p q
  refine if_pos ?_
  rcases h with no | restarts
  · exact .inl (by rw [no]; rfl)
  · exact .inr (.inr (.inr (.inr (by simp [State.on, restarts]))))

/-- What lets an endpoint hear a request. -/
structure Listens (s : State) (e : Endpoint) : Prop where
  hears : s.hears e = true
  on : s.power.phase ≠ .off
  powered : s.power.phase ≠ .loss
  notTest : s.power.boardTest = false
  runs : s.fld F.VSP_STATUS_RESTARTING = 0

theorem Listens.receive_eq (h : Listens s e) : receive e i s =
    if s.power.phase = .recovery then done (if servedInRecovery i then s.serves e i else s)
    else if 4 ≤ s.vesper.requests.countP fun r => r.endpoint == e then done s
    else done (s.modVsp fun v => { v with requests := v.requests ++ [{ endpoint := e, request := i, valid := s.valueOk i }] }) := by
  unfold receive
  extract_lets p q
  refine if_neg ?_
  rintro (no | off | loss | test | restarts)
  · exact absurd no (by simp [h.hears])
  · exact h.on off
  · exact h.powered loss
  · exact absurd test (by simp [h.notTest])
  · exact absurd restarts (by simp [State.on, h.runs])

theorem nothing_of_done (h : exec i s = done s) : Answers i s fun t => Frame s t [] [] ∧ Sent s t [] :=
  answers_of_done h ⟨(Frame.refl ..).pf, Sent.pf (sent_of_out rfl)⟩

theorem frame_modVsp (s : State) (f : Vesper → Vesper) (r : List Nat) {p : List Part} (h : .vesper ∈ p) : Frame s (s.modVsp f) r p :=
  ⟨fun _ _ _ _ => rfl, fun q hq => by
    cases q with
    | vesper => exact absurd h hq
    | _ => rfl⟩

theorem answers_held (h : Listens s e) (req : isRequest e i) (phase : s.power.phase ≠ .recovery)
    (room : (s.vesper.requests.countP fun r => r.endpoint == e) < 4) : Answers i s fun t =>
      t.vesper = { s.vesper with requests := s.vesper.requests ++ [{ endpoint := e, request := i, valid := s.valueOk i }] } ∧
        Frame s t [] [.vesper] ∧ Sent s t [] := by
  have exe := exec_of_isRequest (s := s) req
  rw [h.receive_eq, if_neg phase, if_neg (by omega)] at exe
  refine answers_of_done exe ⟨?_, (frame_modVsp s _ [] (by simp)).pf, Sent.pf (sent_of_out rfl)⟩
  rw [State.refreshPf_vesper]; rfl

/-- In recovery the boot ROM serves a request at once (R192). -/
theorem exec_inRecovery (h : Listens s e) (req : isRequest e i) (phase : s.power.phase = .recovery) (mine : servedInRecovery i = true) :
    exec i s = done (s.serves e i) := by
  rw [exec_of_isRequest (s := s) req, h.receive_eq, if_pos phase, if_pos mine]

theorem sent_mctpAnswer {t : State} (f : Endpoint) (code : Nat) (l : List Nat) (h : t.out = s.out) :
    Sent s (t.mctpAnswer f code l) [.mctp f code l] := ⟨[], by simp [State.mctpAnswer, State.emit, h], by simp⟩

theorem frame_mctpAnswer (s : State) (f : Endpoint) (code : Nat) (l : List Nat) (r : List Nat) (p : List Part) :
    Frame s (s.mctpAnswer f code l) r p := frame_emit s _ r p

theorem frame_setEid (s : State) (e : Endpoint) (x : BitVec 8) : Frame s (s.setEid e x) [] [.vesper] := frame_modVsp s _ [] (by simp)

theorem refreshPf_eid (s : State) (e : Endpoint) : s.refreshPf.eid e = s.eid e := by
  cases e <;> simp only [State.eid, State.refreshPf_vesper]

theorem answers_setEid (h : Listens s e) (phase : s.power.phase = .recovery) {x : BitVec 8} (ok : assignable x = true) :
    Answers (.setEndpointId e x) s fun t => t.eid e = x ∧ Sent s t [.mctp e 0 [x.toNat]] ∧ Frame s t [] [.vesper] := by
  have exe := exec_inRecovery h (i := .setEndpointId e x) (.inr (.inl ⟨x, by simp⟩)) phase rfl
  rw [serves_setEid ok] at exe
  refine answers_of_done exe ⟨?_, Sent.pf (sent_mctpAnswer e 0 _ rfl), ((frame_setEid s e x).trans (frame_mctpAnswer _ _ _ _ _ _)).pf⟩
  rw [refreshPf_eid, mctpAnswer_eid, setEid_eid]

theorem answers_getEid (h : Listens s e) (phase : s.power.phase = .recovery) :
    Answers (.getEndpointId e) s fun t => Sent s t [.mctp e 0 [(s.eid e).toNat]] ∧ Frame s t [] [] := by
  have exe := exec_inRecovery h (i := .getEndpointId e) (.inl (by simp)) phase rfl
  have t : s.serves e (.getEndpointId e) = s.mctpAnswer e 0 [(s.eid e).toNat] := rfl
  rw [t] at exe
  exact answers_of_done exe ⟨Sent.pf (sent_mctpAnswer e 0 _ rfl), (frame_mctpAnswer ..).pf⟩

/-- An update has begun at an endpoint. -/
def State.updating (s : State) (e : Endpoint) : State :=
  (s.modVsp fun v => { v with updater := some e, verified := none }).raise F.VSP_STATUS_UPDATE

theorem frame_updating (s : State) (e : Endpoint) : Frame s (s.updating e) [R.VSP_STATUS] [.vesper] :=
  (frame_modVsp s _ _ (by simp)).trans (frame_setFld _ F.VSP_STATUS_UPDATE 1 _ (by decide))

theorem updating_spec (s : State) (e : Endpoint) :
    (s.updating e).vesper.updater = some e ∧ (s.updating e).fld F.VSP_STATUS_UPDATE = 1 :=
  ⟨rfl, State.fld_setFld_same _ F.VSP_STATUS_UPDATE 1 (by decide)⟩

theorem answers_requestUpdate (h : Listens s e) (phase : s.power.phase = .recovery) (none : s.vesper.updater = none) :
    Answers (.requestupdate e) s fun t => t.vesper.updater = some e ∧ t.fld F.VSP_STATUS_UPDATE = 1 ∧ Sent s t [.mctp e 0 []] ∧
      Frame s t [R.VSP_STATUS] [.vesper] := by
  have exe := exec_inRecovery h (i := .requestupdate e) (.inl (by simp)) phase rfl
  have t : s.serves e (.requestupdate e) = (s.updating e).mctpAnswer e 0 := serves_requestUpdate none
  rw [t] at exe
  obtain ⟨updater, update⟩ := updating_spec s e
  refine answers_of_done exe ⟨?_, ?_, Sent.pf (sent_mctpAnswer e 0 _ rfl),
    ((frame_updating s e).trans (frame_mctpAnswer _ _ _ _ _ _)).pf⟩
  · rw [State.refreshPf_vesper]; exact updater
  · rw [State.refreshPf_fld _ _ (by decide), mctpAnswer_fld]; exact update

/-- Settles O32: a request is dropped, held, or in recovery served. -/
theorem requestsComplete : Obligations.RequestsComplete := by
  unfold Obligations.RequestsComplete
  refine ⟨fun e i s req no => nothing_of_done ((exec_of_isRequest req).trans (receive_unheard (.inl no))),
    fun e s hears on powered test => ⟨fun i req runs phase room => answers_held ⟨hears, on, powered, test, runs⟩ req phase room,
      fun i req restarts => nothing_of_done ((exec_of_isRequest req).trans (receive_unheard (.inr restarts))), fun runs phase => ?_⟩⟩
  have h : Listens s e := ⟨hears, on, powered, test, runs⟩
  exact ⟨fun x h0 h1 => answers_setEid h phase (assignable_of_ne h0 h1), answers_getEid h phase, answers_requestUpdate h phase⟩

end Sys2Proof.Machine
end

section
/-! Firmware images, event acknowledgements, vendor messages and TAP instructions (R829, R831, R875, R878, R879). -/

namespace Sys2Proof.Machine

variable {s : State} {e : Endpoint}

/-! ### A firmware image (R831) -/

/-- The image passes its checks. -/
def State.imageGood (s : State) (im : FwImage) : Bool := im.signatureOk && decide (s.fuses.minSvn ≤ im.svn)

/-- The flash with the image in the idle slot. -/
def State.imageFlash (s : State) (im : FwImage) : Flash :=
  if s.idleSlot then { s.flash with slotB := im } else { s.flash with slotA := im }

/-- The state with the image written and verified. -/
def State.imageWritten (s : State) (im : FwImage) : State :=
  ({ s with flash := s.imageFlash im } : State).modVsp fun v =>
    { v with verified := if s.imageGood im then some s.idleSlot else none }

theorem queueAlm_verified (s : State) (type : Nat) (body : List Nat) : (s.queueAlm type body).vesper.verified = s.vesper.verified := by
  unfold State.queueAlm
  split <;> rfl

theorem queueAlm_out (s : State) (type : Nat) (body : List Nat) : (s.queueAlm type body).out = s.out := by
  unfold State.queueAlm
  split <;> rfl

theorem exec_firmwareImageVerify {im : FwImage} (runs : s.vesperRuns = true) (updater : s.vesper.updater = some e)
    (cls : im.classification = 0x000A) (ident : im.identifier = 0x1612) : ∃ body, exec (.firmwareImageVerify im) s =
      done (((s.imageWritten im).when (s.power.phase != .recovery) fun u => u.queueAlm alFW_UPDATE body).mctpAnswer e 0
        [bit !(s.imageGood im)]) := by
  have ours : (im.classification == 0x000A && im.identifier == 0x1612) = true := by simp [cls, ident]
  delta exec
  dsimp only [execFirmwareImageVerify]
  rw [runs, updater]
  simp only [ours]
  exact ⟨_, rfl⟩

/-- What the log entry of an image leaves alone. -/
theorem imageLogged_spec (t : State) (b : Bool) (body : List Nat) :
    let u := t.when b fun u => u.queueAlm alFW_UPDATE body
    u.flash = t.flash ∧ u.vesper.verified = t.vesper.verified ∧ u.out = t.out := by
  cases b with
  | false => exact ⟨rfl, rfl, rfl⟩
  | true => exact ⟨queueAlm_selector .., queueAlm_verified .., queueAlm_out ..⟩

theorem answers_firmwareImageVerify {im : FwImage} (runs : s.vesperRuns = true) (updater : s.vesper.updater = some e)
    (cls : im.classification = 0x000A) (ident : im.identifier = 0x1612) : Answers (.firmwareImageVerify im) s fun t =>
      t.flash = s.imageFlash im ∧ (t.vesper.verified = if s.imageGood im then some s.idleSlot else none) ∧
        Sent s t [.mctp e 0 [bit !(s.imageGood im)]] := by
  obtain ⟨body, exe⟩ := exec_firmwareImageVerify runs updater cls ident
  obtain ⟨flash, verified, out⟩ := imageLogged_spec (s.imageWritten im) (s.power.phase != .recovery) body
  refine answers_of_done exe ⟨?_, ?_, Sent.pf (sent_mctpAnswer e 0 _ (out.trans rfl))⟩
  · rw [State.refreshPf_flash]; exact flash
  · rw [State.refreshPf_vesper]; exact verified

/-! ### Acknowledgements and touches (R829, R875) -/

theorem exec_acknowledgement {k : Nat} {r : BitVec 8} (hears : s.hears e = true) (runs : s.vesperRuns = true)
    (receiver : s.vesper.receiver = some (e, r)) : exec (.platformEventAcknowledgement e k) s =
      done (s.modVsp fun v => { v with events := v.events.filter fun x => x.id != k }) := by
  delta exec
  dsimp only [execPlatformEventAcknowledgement]
  exact if_pos ⟨hears, runs, by rw [receiver]; rfl⟩

theorem modVsp_fld (s : State) (f : Vesper → Vesper) (x : Fld) : (s.modVsp f).fld x = s.fld x := rfl

/-- A touch of a locked test mode is counted and named, and nothing else (R875). -/
theorem touch_spec (s : State) {path : Nat} (h : path < 4) :
    (s.touch path).fld F.FLT_STATUS_TEST_LOCK_TOUCH = 1 ∧ (s.touch path).fld F.FLT_TEST_LOCK_LAST_PATH = path ∧
      (s.touch path).fld F.FLT_TEST_LOCK_TOUCHES = min (s.fld F.FLT_TEST_LOCK_TOUCHES + 1) 0xFFFF ∧
      Frame s (s.touch path) [R.FLT_STATUS, R.FLT_TEST_LOCK] [.vesper] := by
  have touch : ((s.raise F.FLT_STATUS_TEST_LOCK_TOUCH).countSat F.FLT_TEST_LOCK_TOUCHES).fld F.FLT_STATUS_TEST_LOCK_TOUCH = 1 :=
    (State.fld_setFld_off _ F.FLT_TEST_LOCK_TOUCHES F.FLT_STATUS_TEST_LOCK_TOUCH _ (by decide)).trans
      (State.fld_setFld_same _ F.FLT_STATUS_TEST_LOCK_TOUCH 1 (by decide))
  have before : (s.raise F.FLT_STATUS_TEST_LOCK_TOUCH).fld F.FLT_TEST_LOCK_TOUCHES = s.fld F.FLT_TEST_LOCK_TOUCHES :=
    State.fld_setFld_off s F.FLT_STATUS_TEST_LOCK_TOUCH F.FLT_TEST_LOCK_TOUCHES 1 (by decide)
  have count : ((s.raise F.FLT_STATUS_TEST_LOCK_TOUCH).countSat F.FLT_TEST_LOCK_TOUCHES).fld F.FLT_TEST_LOCK_TOUCHES =
      min (s.fld F.FLT_TEST_LOCK_TOUCHES + 1) 0xFFFF := by
    rw [State.countSat, State.fld_setFld_same _ F.FLT_TEST_LOCK_TOUCHES _ (by decide), before]
    exact Nat.mod_eq_of_lt (show min _ 0xFFFF < 2 ^ 16 by omega)
  unfold State.touch
  extract_lets t
  rw [modVsp_fld, modVsp_fld, modVsp_fld]
  refine ⟨(State.fld_setFld_off _ F.FLT_TEST_LOCK_LAST_PATH F.FLT_STATUS_TEST_LOCK_TOUCH _ (by decide)).trans touch,
    (State.fld_setFld_same _ F.FLT_TEST_LOCK_LAST_PATH path (by decide)).trans (Nat.mod_eq_of_lt (show path < 2 ^ 8 by omega)),
    (State.fld_setFld_lo _ F.FLT_TEST_LOCK_LAST_PATH F.FLT_TEST_LOCK_TOUCHES _ rfl rfl (by decide) (.inr (by decide))).trans count, ?_⟩
  exact (((frame_setFld s F.FLT_STATUS_TEST_LOCK_TOUCH 1 _ (by decide)).trans
    (frame_setFld _ F.FLT_TEST_LOCK_TOUCHES _ _ (by decide))).trans
    (frame_setFld _ F.FLT_TEST_LOCK_LAST_PATH _ _ (by decide))).trans (frame_modVsp _ _ _ (by simp))

theorem touch_out (s : State) (path : Nat) : (s.touch path).out = s.out := rfl

theorem exec_vendorMessage (hears : s.hears e = true) (on : s.power.phase ≠ .off) (powered : s.power.phase ≠ .loss) :
    exec (.mctpVendorMessage e) s = done (s.touch 3) := by
  delta exec
  dsimp only [execMctpVendorMessage]
  exact if_neg fun h => h.elim (fun no => absurd no (by simp [hears])) fun h => h.elim on powered

theorem answers_vendorMessage (hears : s.hears e = true) (on : s.power.phase ≠ .off) (powered : s.power.phase ≠ .loss) :
    Answers (.mctpVendorMessage e) s fun t =>
      t.fld F.FLT_STATUS_TEST_LOCK_TOUCH = 1 ∧ t.fld F.FLT_TEST_LOCK_LAST_PATH = 3 ∧
        t.fld F.FLT_TEST_LOCK_TOUCHES = min (s.fld F.FLT_TEST_LOCK_TOUCHES + 1) 0xFFFF ∧
        Frame s t [R.FLT_STATUS, R.FLT_TEST_LOCK] [.vesper] ∧ Sent s t [] := by
  obtain ⟨touch, path, count, frame⟩ := touch_spec s (path := 3) (by decide)
  refine answers_of_done (exec_vendorMessage hears on powered) ⟨?_, ?_, ?_, frame.pf, Sent.pf (sent_of_out (touch_out s 3))⟩
  · rw [State.refreshPf_fld _ _ (by decide)]; exact touch
  · rw [State.refreshPf_fld _ _ (by decide)]; exact path
  · rw [State.refreshPf_fld _ _ (by decide)]; exact count

/-! ### TAP instructions (R878, R879) -/

theorem tapSelect_eq (test : s.power.boardTest = true) (code : BitVec 8) (f : Tap → Tap) :
    s.tapSelect code f = { s with tap := f { s.tap with instruction := code } } := if_pos test

/-- The test access port changes. -/
theorem frame_tap (s : State) (x : Tap) (r : List Nat) {p : List Part} (h : .tap ∈ p) : Frame s { s with tap := x } r p :=
  ⟨fun _ _ _ _ => rfl, fun q hq => by
    cases q with
    | tap => exact absurd h hq
    | _ => rfl⟩

/-- A command that puts the test access port into a state. -/
theorem answers_tap {i : Instr} {x : Tap} (h : exec i s = done { s with tap := x }) :
    Answers i s fun t => t.tap = x ∧ t.power = s.power ∧ Frame s t [] [.tap] :=
  answers_of_done h ⟨by rw [State.refreshPf_tap], by rw [State.refreshPf_power], (frame_tap s x [] (by simp)).pf⟩

/-- What EXTEST and CLAMP drive. -/
theorem driven_of_latches {t : State} {code : BitVec 8} (test : t.power.boardTest = true)
    (tap : t.tap = { s.tap with instruction := code }) (h : code = 0x00 ∨ code = 0x04) :
    t.driven = some (s.tap.latches.extractLsb' 7 4) := by
  unfold State.driven
  rw [if_pos ⟨test, by rw [tap]; exact h⟩, tap]

theorem driven_none {t : State} (h0 : t.tap.instruction ≠ 0x00) (h4 : t.tap.instruction ≠ 0x04) : t.driven = none :=
  if_neg fun h => h.2.elim h0 h4

theorem answers_drives {i : Instr} {code : BitVec 8} (test : s.power.boardTest = true) (h : exec i s = done (s.tapSelect code))
    (drives : code = 0x00 ∨ code = 0x04) : Answers i s fun t => t.tap = { s.tap with instruction := code } ∧
      t.driven = some (s.tap.latches.extractLsb' 7 4) ∧ Frame s t [] [.tap] := by
  rw [tapSelect_eq test] at h
  exact (answers_tap h).mono fun t ⟨tap, power, frame⟩ =>
    ⟨tap, driven_of_latches (by rw [power]; exact test) tap drives, frame⟩

theorem exec_bypass (test : s.power.boardTest = true) : exec (.bypass 0xFF) s = done (s.tapSelect 0xFF) := by
  delta exec
  dsimp only [execBypass]
  rw [test]; rfl

theorem exec_bypass_other {c : BitVec 8} (test : s.power.boardTest = true) (h : c ∉ [0x00, 0x01, 0x04, 0x05, 0xFF]) :
    exec (.bypass c) s = done ((s.tapSelect 0xFF).touch 1) := by
  simp only [List.mem_cons, List.not_mem_nil, or_false, not_or] at h
  obtain ⟨h0, h1, h4, h5, hF⟩ := h
  have goes : ¬ (!s.power.boardTest ∨ c = 0x00 ∨ c = 0x01 ∨ c = 0x04 ∨ c = 0x05) := by
    rw [test]
    simpa using ⟨h0, h1, h4, h5⟩
  delta exec
  dsimp only [execBypass]
  exact (if_neg goes).trans (congrArg done (if_neg hF))

theorem answers_bypass_other {c : BitVec 8} (test : s.power.boardTest = true) (h : c ∉ [0x00, 0x01, 0x04, 0x05, 0xFF]) :
    Answers (.bypass c) s fun t =>
      t.tap = { s.tap with instruction := 0xFF } ∧ t.fld F.FLT_STATUS_TEST_LOCK_TOUCH = 1 ∧
        t.fld F.FLT_TEST_LOCK_LAST_PATH = 1 ∧ Frame s t [R.FLT_STATUS, R.FLT_TEST_LOCK] [.vesper, .tap] := by
  have exe := exec_bypass_other test h
  rw [tapSelect_eq test] at exe
  obtain ⟨touch, path, -, frame⟩ := touch_spec ({ s with tap := { s.tap with instruction := 0xFF } }) (path := 1) (by decide)
  refine answers_of_done exe ⟨?_, ?_, ?_, ((frame_tap s _ _ (by simp)).trans (frame.mono (List.Subset.refl _) (by simp))).pf⟩
  · rw [State.refreshPf_tap]; exact frame.2 .tap (by simp)
  · rw [State.refreshPf_fld _ _ (by decide)]; exact touch
  · rw [State.refreshPf_fld _ _ (by decide)]; exact path

/-- Settles O34: each event to the state that it leaves. -/
theorem managementEventsComplete : Obligations.ManagementEventsComplete := by
  unfold Obligations.ManagementEventsComplete
  refine ⟨fun im e s runs updater cls ident => (answers_firmwareImageVerify runs updater cls ident).mono fun t ⟨flash, ver, sent⟩ => ?_,
    fun e k r s hears runs receiver => answers_of_done (exec_acknowledgement hears runs receiver)
      ⟨by rw [State.refreshPf_vesper]; rfl, (frame_modVsp s _ [] (by simp)).pf, Sent.pf (sent_of_out rfl)⟩,
    fun e s => answers_vendorMessage, fun s test => ⟨answers_drives test rfl (.inl rfl), answers_drives test rfl (.inr rfl), ?_, fun x => ?_, ?_,
      fun c => answers_bypass_other test⟩⟩
  · refine ⟨?_, ver, sent⟩
    rw [flash, State.imageFlash]
    split
    · rfl
    · rfl
  · have h : exec .highz s = done (s.tapSelect 0x05) := rfl
    rw [tapSelect_eq test] at h
    exact (answers_tap h).mono fun t ⟨tap, _, frame⟩ => ⟨tap, driven_none (by rw [tap]; exact (by decide : (0x05 : BitVec 8) ≠ 0x00))
      (by rw [tap]; exact (by decide : (0x05 : BitVec 8) ≠ 0x04)), frame⟩
  · have h : exec (.samplePreload x) s = done (s.tapSelect 0x01 fun t => { t with captured := s.boundary, latches := x }) := rfl
    rw [tapSelect_eq test] at h
    exact (answers_tap h).mono fun t ⟨tap, _, frame⟩ => ⟨tap, frame⟩
  · have h := exec_bypass test
    rw [tapSelect_eq test] at h
    exact (answers_tap h).mono fun t ⟨tap, _, frame⟩ => ⟨tap, frame⟩

end Sys2Proof.Machine
end

section
/-! Vesper's restarts, flash writes and the mailbox's registers (R810 to R812, R835, R836, R842, R845). -/

namespace Sys2Proof.Machine

variable {s : State} {w : DwWrite}

/-! ### A restart (R810, R811) -/

/-- VSP_STATUS of a module whose firmware stops. -/
def State.vspStops (s : State) : State :=
  (((s.countSat F.VSP_STATUS_RESTARTS).lower F.VSP_STATUS_ALIVE).raise F.VSP_STATUS_RESTARTING).lower F.VSP_STATUS_UPDATE

theorem frame_vspStops (s : State) : Frame s s.vspStops [R.VSP_STATUS] [] :=
  (((frame_setFld s F.VSP_STATUS_RESTARTS _ _ (by decide)).trans (frame_setFld _ F.VSP_STATUS_ALIVE 0 _ (by decide))).trans
    (frame_setFld _ F.VSP_STATUS_RESTARTING 1 _ (by decide))).trans (frame_setFld _ F.VSP_STATUS_UPDATE 0 _ (by decide))

/-- The fields of VSP_STATUS do not overlap. -/
theorem vspStatus_apart : Apart F.VSP_STATUS_RESTARTS F.VSP_STATUS_ALIVE ∧ Apart F.VSP_STATUS_RESTARTS F.VSP_STATUS_RESTARTING ∧
    Apart F.VSP_STATUS_RESTARTS F.VSP_STATUS_UPDATE ∧ Apart F.VSP_STATUS_ALIVE F.VSP_STATUS_RESTARTING ∧
    Apart F.VSP_STATUS_ALIVE F.VSP_STATUS_UPDATE ∧ Apart F.VSP_STATUS_RESTARTING F.VSP_STATUS_UPDATE ∧
    Apart F.VSP_STATUS_RESTARTING F.VSP_STATUS_ALIVE := by unfold Apart; decide

theorem vspStops_spec (s : State) : s.vspStops.fld F.VSP_STATUS_ALIVE = 0 ∧ s.vspStops.fld F.VSP_STATUS_RESTARTING = 1 ∧
    s.vspStops.fld F.VSP_STATUS_UPDATE = 0 ∧ s.vspStops.fld F.VSP_STATUS_RESTARTS = min (s.fld F.VSP_STATUS_RESTARTS + 1) 0xFFFF := by
  obtain ⟨restartsAlive, restartsRestarting, restartsUpdate, aliveRestarting, aliveUpdate, restartingUpdate, -⟩ := vspStatus_apart
  unfold State.vspStops State.lower State.raise State.countSat
  refine ⟨?_, ?_, State.fld_setFld_same _ _ 0 (by decide), ?_⟩
  · rw [fld_setFld_apart _ _ aliveUpdate, fld_setFld_apart _ _ aliveRestarting]
    exact State.fld_setFld_same _ _ 0 (by decide)
  · rw [fld_setFld_apart _ _ restartingUpdate]
    exact State.fld_setFld_same _ _ 1 (by decide)
  · rw [fld_setFld_apart _ _ restartsUpdate, fld_setFld_apart _ _ restartsRestarting, fld_setFld_apart _ _ restartsAlive,
      State.fld_setFld_same _ F.VSP_STATUS_RESTARTS _ (by decide)]
    exact Nat.mod_eq_of_lt (show min _ 0xFFFF < 2 ^ 16 by omega)

/-- What Vesper forgets when its firmware stops (R811). -/
def Vesper.restarting (v : Vesper) (c : RestartCause) : Vesper :=
  { v with restart := some c, restartDue := false, restartCode := restartCodeOf c, requests := [], updater := none
           verified := none, mailDue := false }

theorem exec_vesperRestart {c : RestartCause} (runs : s.vesperRuns = true) (due : c = .activation → s.vesper.restartDue = true) :
    exec (.vesperRestart c) s = done (s.vspStops.modVsp (·.restarting c)) := by
  delta exec
  dsimp only [execVesperRestart]
  refine if_neg ?_
  rintro (no | ⟨act, no⟩)
  · exact absurd no (by simp [runs])
  · exact absurd no (by simp [due act])

theorem answers_vesperRestart {c : RestartCause} (runs : s.vesperRuns = true) (due : c = .activation → s.vesper.restartDue = true) :
    Answers (.vesperRestart c) s fun t =>
      t.fld F.VSP_STATUS_ALIVE = 0 ∧ t.fld F.VSP_STATUS_RESTARTING = 1 ∧ t.fld F.VSP_STATUS_UPDATE = 0 ∧
        t.fld F.VSP_STATUS_RESTARTS = min (s.fld F.VSP_STATUS_RESTARTS + 1) 0xFFFF ∧ t.vesper.restart = some c ∧
        t.vesper.requests = [] ∧ t.vesper.queue = s.vesper.queue ∧ Frame s t [R.VSP_STATUS] [.vesper] ∧ Sent s t [] := by
  obtain ⟨alive, restarting, update, restarts⟩ := vspStops_spec s
  have field (f : Fld) (h : f.off ≠ R.INT_PF_STATUS) :
      (s.vspStops.modVsp (·.restarting c)).refreshPf.fld f = s.vspStops.fld f :=
    (State.refreshPf_fld _ f h).trans (modVsp_fld _ _ f)
  refine answers_of_done (exec_vesperRestart runs due) ⟨(field _ (by decide)).trans alive, (field _ (by decide)).trans restarting,
    (field _ (by decide)).trans update, (field _ (by decide)).trans restarts, ?_, ?_, ?_,
    ((frame_vspStops s).mono (List.Subset.refl _) (by simp)).trans (frame_modVsp _ _ _ (by simp)) |>.pf, Sent.pf (sent_of_out rfl)⟩
  · rw [State.refreshPf_vesper]; rfl
  · rw [State.refreshPf_vesper]; rfl
  · rw [State.refreshPf_vesper]; rfl

/-! ### Firmware starts again (R812) -/

/-- The registers that tell of the slot that firmware starts from. -/
def State.slotShown (s : State) (b : Bool) : State :=
  let im := if b then s.flash.slotB else s.flash.slotA
  let back := bit (b != s.flash.selector)
  let t := ((s.setFld F.RST_BOOT_STATUS_SLOT (bit b)).setFld F.RST_BOOT_STATUS_FALLBACK back).setFld F.RST_BOOT_STATUS_FW_SVN im.svn.toNat
  let t := ((t.setFld F.VSP_FW_MAJOR im.major.toNat).setFld F.VSP_FW_MINOR im.minor.toNat).setFld F.VSP_FW_PATCH im.patch.toNat
  t.when (back == 1) fun u => u.raise F.RST_ERR_IMAGE_SLOT_FAIL

/-- Firmware runs. -/
def State.vspAlive (s : State) : State := (s.lower F.VSP_STATUS_RESTARTING).raise F.VSP_STATUS_ALIVE

/-- What Vesper keeps when its firmware has started again (R812). -/
def Vesper.restarted (v : Vesper) : Vesper :=
  { v with restart := none, orders := [], due := [], records := v.records.map fun e => (e.1, e.2.rebuilt) }

theorem frame_slotShown (s : State) (b : Bool) : Frame s (s.slotShown b) [R.RST_BOOT_STATUS, R.VSP_FW, R.RST_ERR] [] := by
  unfold State.slotShown
  extract_lets im back t u
  have ht : Frame s t [R.RST_BOOT_STATUS, R.VSP_FW, R.RST_ERR] [] :=
    ((frame_setFld s F.RST_BOOT_STATUS_SLOT _ _ (by decide)).trans (frame_setFld _ F.RST_BOOT_STATUS_FALLBACK _ _ (by decide))).trans
      (frame_setFld _ F.RST_BOOT_STATUS_FW_SVN _ _ (by decide))
  have hu : Frame s u [R.RST_BOOT_STATUS, R.VSP_FW, R.RST_ERR] [] :=
    ((ht.trans (frame_setFld _ F.VSP_FW_MAJOR _ _ (by decide))).trans (frame_setFld _ F.VSP_FW_MINOR _ _ (by decide))).trans
      (frame_setFld _ F.VSP_FW_PATCH _ _ (by decide))
  exact hu.when (frame_setFld _ F.RST_ERR_IMAGE_SLOT_FAIL 1 _ (by decide))

theorem slotShown_slot (s : State) (b : Bool) : (s.slotShown b).fld F.RST_BOOT_STATUS_SLOT = bit b := by
  have slot : (s.setFld F.RST_BOOT_STATUS_SLOT (bit b)).fld F.RST_BOOT_STATUS_SLOT = bit b := by
    rw [State.fld_setFld_same _ _ _ (by decide)]; cases b <;> rfl
  have apart : Apart F.RST_BOOT_STATUS_SLOT F.RST_BOOT_STATUS_FALLBACK ∧ Apart F.RST_BOOT_STATUS_SLOT F.RST_BOOT_STATUS_FW_SVN ∧
      Apart F.RST_BOOT_STATUS_SLOT F.VSP_FW_MAJOR ∧ Apart F.RST_BOOT_STATUS_SLOT F.VSP_FW_MINOR ∧
      Apart F.RST_BOOT_STATUS_SLOT F.VSP_FW_PATCH ∧ Apart F.RST_BOOT_STATUS_SLOT F.RST_ERR_IMAGE_SLOT_FAIL := by
    unfold Apart; decide
  obtain ⟨back, svn, major, minor, patch, fail⟩ := apart
  have shown (t : State) (c : Bool) : (t.when c fun u => u.raise F.RST_ERR_IMAGE_SLOT_FAIL).fld F.RST_BOOT_STATUS_SLOT =
      t.fld F.RST_BOOT_STATUS_SLOT := by
    cases c
    · rfl
    · exact fld_setFld_apart t 1 fail
  unfold State.slotShown
  rw [shown, fld_setFld_apart _ _ patch, fld_setFld_apart _ _ minor, fld_setFld_apart _ _ major, fld_setFld_apart _ _ svn,
    fld_setFld_apart _ _ back, slot]

theorem vspAlive_spec (s : State) : s.vspAlive.fld F.VSP_STATUS_ALIVE = 1 ∧ s.vspAlive.fld F.VSP_STATUS_RESTARTING = 0 := by
  obtain ⟨-, -, -, -, -, -, restartingAlive⟩ := vspStatus_apart
  refine ⟨State.fld_setFld_same _ F.VSP_STATUS_ALIVE 1 (by decide), ?_⟩
  unfold State.vspAlive State.raise
  rw [fld_setFld_apart _ _ restartingAlive]
  exact State.fld_setFld_same s F.VSP_STATUS_RESTARTING 0 (by decide)

/-- An entry joins the queue, with the next SEQ (R842). -/
theorem queueAlm_room (s : State) (type : Nat) (body : List Nat) (room : s.vesper.queue.length < 4096) :
    ∃ e, (s.queueAlm type body).vesper = { s.vesper with queue := s.vesper.queue ++ [e], nextSeq := s.vesper.nextSeq + 1 } ∧
      e.type = type ∧ e.seq = s.vesper.nextSeq := by
  unfold State.queueAlm
  rw [if_neg (by omega)]
  exact ⟨_, rfl, rfl, rfl⟩

theorem frame_queueAlm (s : State) (type : Nat) (body : List Nat) (room : s.vesper.queue.length < 4096) :
    Frame s (s.queueAlm type body) [R.VSP_ALMANAC] [.vesper] := by
  unfold State.queueAlm
  rw [if_neg (by omega)]
  exact (frame_modVsp s _ _ (by simp)).trans (frame_setFld _ F.VSP_ALMANAC_QUEUED _ _ (by decide))

/-- The state that a restart leaves before its BOOT entry. -/
def State.vspRestarted (s : State) (b : Bool) : State := (s.slotShown b).vspAlive.modVsp Vesper.restarted

theorem exec_vesperRestartComplete {b : Bool} (restarting : s.fld F.VSP_STATUS_RESTARTING = 1) (on : s.power.phase ≠ .loss)
    (slot : s.bootSlot = some b) : ∃ body, exec .vesperRestartComplete s = done ((s.vspRestarted b).queueAlm alBOOT body) := by
  have goes : ¬ (!s.on F.VSP_STATUS_RESTARTING ∨ s.power.phase = .loss) := by simp [State.on, restarting, on]
  delta exec
  dsimp only [execVesperRestartComplete]
  rw [if_neg goes, slot]
  exact ⟨_, rfl⟩

theorem answers_vesperRestartComplete {b : Bool} (restarting : s.fld F.VSP_STATUS_RESTARTING = 1) (on : s.power.phase ≠ .loss)
    (slot : s.bootSlot = some b) (room : s.vesper.queue.length < 4096) : Answers .vesperRestartComplete s fun t =>
      t.fld F.VSP_STATUS_ALIVE = 1 ∧ t.fld F.VSP_STATUS_RESTARTING = 0 ∧ t.fld F.RST_BOOT_STATUS_SLOT = bit b ∧
        t.vesper.restart = none ∧ t.vesper.orders = [] ∧
        (∃ e, t.vesper.queue = s.vesper.queue ++ [e] ∧ e.type = 1 ∧ e.seq = s.vesper.nextSeq) ∧
        Frame s t [R.VSP_STATUS, R.RST_BOOT_STATUS, R.VSP_FW, R.RST_ERR, R.VSP_ALMANAC] [.vesper] := by
  obtain ⟨body, exe⟩ := exec_vesperRestartComplete restarting on slot
  have shown := frame_slotShown s b
  obtain ⟨alive, ended⟩ := vspAlive_spec (s.slotShown b)
  have slotKept : (s.slotShown b).vspAlive.fld F.RST_BOOT_STATUS_SLOT = bit b := by
    refine (Frame.fld_eq (r := [R.VSP_STATUS]) (p := []) ?_ F.RST_BOOT_STATUS_SLOT (by decide) (by decide)).trans (slotShown_slot s b)
    exact (frame_setFld _ F.VSP_STATUS_RESTARTING 0 _ (by decide)).trans (frame_setFld _ F.VSP_STATUS_ALIVE 1 _ (by decide))
  have before : (s.vspRestarted b).vesper = s.vesper.restarted := congrArg Vesper.restarted (shown.2 .vesper (by simp))
  have frame : Frame s (s.vspRestarted b) [R.VSP_STATUS, R.RST_BOOT_STATUS, R.VSP_FW, R.RST_ERR, R.VSP_ALMANAC] [.vesper] :=
    (((shown.mono (by simp) (by simp)).trans (frame_setFld _ F.VSP_STATUS_RESTARTING 0 _ (by decide))).trans
      (frame_setFld _ F.VSP_STATUS_ALIVE 1 _ (by decide))).trans (frame_modVsp _ _ _ (by simp))
  have here : (s.vspRestarted b).vesper.queue.length < 4096 := by rw [before]; exact room
  obtain ⟨e, vesper, type, seq⟩ := queueAlm_room (s.vspRestarted b) alBOOT body here
  have logged := frame_queueAlm (s.vspRestarted b) alBOOT body here
  have field (f : Fld) (h : f.off ≠ R.INT_PF_STATUS) (ha : f.off ∉ [R.VSP_ALMANAC]) :
      ((s.vspRestarted b).queueAlm alBOOT body).refreshPf.fld f = (s.slotShown b).vspAlive.fld f :=
    (State.refreshPf_fld _ f h).trans ((logged.fld_eq f h ha).trans (modVsp_fld _ _ f))
  refine answers_of_done exe ⟨(field _ (by decide) (by decide)).trans alive, (field _ (by decide) (by decide)).trans ended,
    (field _ (by decide) (by decide)).trans slotKept, ?_, ?_, ⟨e, ?_, type, ?_⟩, (frame.trans (logged.mono (by simp) (by simp))).pf⟩
  · rw [State.refreshPf_vesper, vesper, before]; rfl
  · rw [State.refreshPf_vesper, vesper, before]; rfl
  · rw [State.refreshPf_vesper, vesper, before]; rfl
  · rw [seq, before]; rfl

/-! ### Writes of the flash (R842, R845) -/

/-- The state in which the oldest queued entry has left the queue. -/
def State.dequeued (s : State) (rest : List AlmEntry) : State := (s.draw.2.modVsp fun x => { x with queue := rest }).noteQueued

theorem exec_flashWrite_entry {e : AlmEntry} {rest : List AlmEntry} (runs : s.vesperRuns = true) (queue : s.vesper.queue = e :: rest)
    (perm : s.vesper.permDue = false) (dropped : s.vesper.dropped = 0) :
    exec .almanacFlashWrite s = done ((s.dequeued rest).writeAlm e) := by
  have none : (s.dequeued rest).noteDropped = s.dequeued rest := if_pos (.inl dropped)
  delta exec
  dsimp only [execAlmanacFlashWrite]
  rw [runs, queue]
  simp only [perm]
  exact congrArg (fun t : State => done (t.writeAlm e)) none

/-- The log with one entry more. -/
def State.logged (s : State) (e : AlmEntry) : State :=
  { s with flash := { s.flash with log := placeAlm (makeRoom s.flash.log e) e } }

theorem frame_flash (s : State) (x : Flash) (r : List Nat) {p : List Part} (h : .flash ∈ p) : Frame s { s with flash := x } r p :=
  ⟨fun _ _ _ _ => rfl, fun q hq => by
    cases q with
    | flash => exact absurd h hq
    | _ => rfl⟩

theorem answers_flashWrite_entry {e : AlmEntry} {rest : List AlmEntry} (runs : s.vesperRuns = true)
    (queue : s.vesper.queue = e :: rest) (perm : s.vesper.permDue = false) (dropped : s.vesper.dropped = 0) :
    Answers .almanacFlashWrite s fun t =>
      t.vesper.queue = rest ∧ e ∈ t.flash.log.flatten ∧ t.flash.perm = s.flash.perm ∧
        Frame s t [R.VSP_ALMANAC, R.VSP_ALM_SEQ_LO, R.VSP_ALM_SEQ_HI] [.vesper, .flash] ∧ Sent s t [] := by
  have exe : exec .almanacFlashWrite s = done ((s.dequeued rest).logged e).noteLog := exec_flashWrite_entry runs queue perm dropped
  have note := frame_noteLog ((s.dequeued rest).logged e)
  have frame : Frame s ((s.dequeued rest).logged e) [R.VSP_ALMANAC, R.VSP_ALM_SEQ_LO, R.VSP_ALM_SEQ_HI] [.vesper, .flash] :=
    (((frame_draw s _ _).trans (frame_modVsp _ _ _ (by simp))).trans (frame_setFld _ F.VSP_ALMANAC_QUEUED _ _ (by decide))).trans
      (frame_flash _ _ _ (by simp))
  refine answers_of_done exe ⟨?_, ?_, ?_, (frame.trans (note.mono (by simp) (by simp))).pf, Sent.pf (sent_of_out rfl)⟩
  · rw [State.refreshPf_vesper]; rfl
  · rw [State.refreshPf_flash, note.2 .flash (by simp)]; exact placeAlm_mem _ e
  · rw [State.refreshPf_flash, note.2 .flash (by simp)]; rfl

theorem answers_flashWrite_table (runs : s.vesperRuns = true) (queue : s.vesper.queue = []) (perm : s.vesper.permDue = true) :
    Answers .almanacFlashWrite s fun t =>
      t.flash = { s.flash with perm := s.permTable, generation := s.flash.generation + 1 } ∧ t.vesper.permDue = false ∧
        Frame s t [] [.vesper, .flash] ∧ Sent s t [] := by
  have exe : exec .almanacFlashWrite s =
      done (({ s with flash := { s.flash with perm := s.permTable, generation := s.flash.generation + 1 } } : State).modVsp fun v =>
        { v with permDue := false }) := by
    delta exec
    dsimp only [execAlmanacFlashWrite]
    rw [runs, queue]
    simp only [perm]; rfl
  refine answers_of_done exe ⟨?_, ?_, ((frame_flash s _ _ (by simp)).trans (frame_modVsp _ _ _ (by simp))).pf, Sent.pf (sent_of_out rfl)⟩
  · rw [State.refreshPf_flash]; rfl
  · rw [State.refreshPf_vesper]; rfl

/-! ### The mailbox's registers (R835) -/

theorem takes_mbox : Takes R.VSP_MBOX_CMD R.VSP_MBOX_CMD ∧ Takes R.VSP_MBOX_STATUS R.VSP_MBOX_STATUS := by
  decide +kernel

theorem keeps_mboxCmd : Keeps (descAt R.VSP_MBOX_CMD) F.VSP_MBOX_CMD_CODE ∧ Keeps (descAt R.VSP_MBOX_CMD) F.VSP_MBOX_CMD_REQ_WORDS := by
  decide +kernel

theorem leaves_mboxStatus : Leaves (descAt R.VSP_MBOX_STATUS) F.VSP_MBOX_STATUS_SEQ := by
  decide +kernel

theorem mboxStatus_apart : Apart F.VSP_MBOX_STATUS_STATE F.VSP_MBOX_STATUS_SEQ ∧ Apart F.VSP_MBOX_STATUS_SEQ F.VSP_MBOX_STATUS_STATE ∧
    Apart F.VSP_MBOX_STATUS_DONE F.VSP_MBOX_STATUS_STATE ∧ Apart F.VSP_MBOX_CMD_CODE F.VSP_MBOX_STATUS_STATE ∧
    Apart F.VSP_MBOX_CMD_CODE F.VSP_MBOX_STATUS_SEQ ∧ Apart F.VSP_MBOX_CMD_REQ_WORDS F.VSP_MBOX_STATUS_STATE ∧
    Apart F.VSP_MBOX_CMD_REQ_WORDS F.VSP_MBOX_STATUS_SEQ := by unfold Apart; decide

/-- The state with a register of the mailbox written. -/
def mboxPut (s : State) (off : Nat) (w : DwWrite) : State := s.putReg off (descAt off) w.data.toNat 0

theorem unitRefusal_mbox (s : State) (off v : Nat) : s.unitRefusal R.VSP_MBOX_CMD off v =
    if s.fld F.VSP_MBOX_STATUS_STATE != 0 then some (caRWQ_REFUSED, s.raise F.VSP_ERR_MBOX_REFUSED) else none := rfl

theorem badFields_mbox (off v : Nat) :
    badFields R.VSP_MBOX_CMD off v = outside v F.VSP_MBOX_CMD_REQ_WORDS F.VSP_ERR_MBOX_REFUSED 0 64 := rfl

theorem followWrite_mbox (s t : State) (off v : Nat) (cs : List Crossing) :
    s.followWrite R.VSP_MBOX_CMD off v cs t = t.when (v.testBit 31) State.submitMail := rfl

theorem followWrite_mboxStatus (s t : State) (off v : Nat) (cs : List Crossing) : s.followWrite R.VSP_MBOX_STATUS off v cs t =
    t.when (v.testBit 2 && s.on F.VSP_MBOX_STATUS_DONE) fun u => u.setFld F.VSP_MBOX_STATUS_STATE 0 := rfl

theorem hostWrite_mbox (h : s.Serves) (hw : PlainWrite w R.VSP_MBOX_CMD) (go : w.data.getLsbD 31 = true)
    (words : bitsOf w.data.toNat 8 8 ≤ 64) (free : s.fld F.VSP_MBOX_STATUS_STATE = 0) :
    s.hostWrite R.VSP_MBOX_CMD w = (mboxPut s R.VSP_MBOX_CMD w).submitMail := by
  have good : badFields R.VSP_MBOX_CMD R.VSP_MBOX_CMD w.data.toNat = [] := (badFields_mbox _ _).trans (if_pos ⟨Nat.zero_le _, words⟩)
  have accepted : s.wholeRefusal .pf R.VSP_MBOX_CMD R.VSP_MBOX_CMD w.data.toNat = none := by
    rw [wholeRefusal_unit (by decide), unitRefusal_mbox, free]; rfl
  have bit : w.data.toNat.testBit 31 = true := go
  rw [hostWrite_takes h hw takes_mbox.1 accepted good, followWrite_mbox, bit]; rfl

theorem answers_mailboxSubmit (h : s.Serves) (hw : PlainWrite w R.VSP_MBOX_CMD) (go : w.data.getLsbD 31 = true)
    (words : bitsOf w.data.toNat 8 8 ≤ 64) (free : s.fld F.VSP_MBOX_STATUS_STATE = 0) : Answers (.mailboxSubmit w) s fun t =>
      t.fld F.VSP_MBOX_STATUS_STATE = 1 ∧ t.fld F.VSP_MBOX_STATUS_SEQ = (s.fld F.VSP_MBOX_STATUS_SEQ + 1) % 256 ∧
        t.fld F.VSP_MBOX_CMD_CODE = bitsOf w.data.toNat 0 8 ∧ t.fld F.VSP_MBOX_CMD_REQ_WORDS = bitsOf w.data.toNat 8 8 ∧
        Frame s t [R.VSP_MBOX_CMD, R.VSP_MBOX_STATUS] [] := by
  have exe : exec (.mailboxSubmit w) s = done (mboxPut s R.VSP_MBOX_CMD w).submitMail :=
    congrArg done (hostWrite_mbox h hw go words free)
  have code : (mboxPut s R.VSP_MBOX_CMD w).fld F.VSP_MBOX_CMD_CODE = bitsOf w.data.toNat 0 8 :=
    fld_putReg_keeps s w.data _ rfl keeps_mboxCmd.1
  have reqWords : (mboxPut s R.VSP_MBOX_CMD w).fld F.VSP_MBOX_CMD_REQ_WORDS = bitsOf w.data.toNat 8 8 :=
    fld_putReg_keeps s w.data _ rfl keeps_mboxCmd.2
  have put : Frame s (mboxPut s R.VSP_MBOX_CMD w) [R.VSP_MBOX_CMD] [] := putReg_frame _ _ _ _ (by simp)
  have seq := put.fld_eq F.VSP_MBOX_STATUS_SEQ (by decide) (by decide)
  generalize mboxPut s R.VSP_MBOX_CMD w = u at exe code reqWords put seq
  obtain ⟨stateSeq, seqState, -, codeState, codeSeq, wordsState, wordsSeq⟩ := mboxStatus_apart
  unfold State.submitMail State.countMod at exe
  refine answers_of_done exe ⟨?_, ?_, ?_, ?_, ?_⟩
  · rw [State.refreshPf_fld _ _ (by decide), fld_setFld_apart _ _ stateSeq, State.fld_setFld_same _ _ _ (by decide)]; rfl
  · rw [State.refreshPf_fld _ _ (by decide), State.fld_setFld_same _ _ _ (by decide), fld_setFld_apart _ _ seqState, seq]; rfl
  · rw [State.refreshPf_fld _ _ (by decide), fld_setFld_apart _ _ codeSeq, fld_setFld_apart _ _ codeState, code]
  · rw [State.refreshPf_fld _ _ (by decide), fld_setFld_apart _ _ wordsSeq, fld_setFld_apart _ _ wordsState, reqWords]
  · exact (((put.mono (by simp) (by simp)).setFld F.VSP_MBOX_STATUS_STATE 1 (by decide)).setFld F.VSP_MBOX_STATUS_SEQ _ (by decide)).pf

theorem hostWrite_mboxStatus (h : s.Serves) (hw : PlainWrite w R.VSP_MBOX_STATUS) (clear : w.data.getLsbD 2 = true)
    (done : s.fld F.VSP_MBOX_STATUS_DONE = 1) :
    s.hostWrite R.VSP_MBOX_STATUS w = (mboxPut s R.VSP_MBOX_STATUS w).setFld F.VSP_MBOX_STATUS_STATE 0 := by
  have bit : w.data.toNat.testBit 2 = true := clear
  have on : s.on F.VSP_MBOX_STATUS_DONE = true := by simp [State.on, done]
  rw [hostWrite_takes h hw takes_mbox.2 (wholeRefusal_none (by decide) (by decide) _ _ _) (badFields_nil (by decide) _ _),
    followWrite_mboxStatus, bit, on]; rfl

/-- A W1C bit is cleared by a 1 (R250). -/
theorem mboxPut_done (clear : w.data.getLsbD 2 = true) : (mboxPut s R.VSP_MBOX_STATUS w).fld F.VSP_MBOX_STATUS_DONE = 0 := by
  have w1c : ((descAt R.VSP_MBOX_STATUS).mask fun a => a = .w1c).testBit 2 = true := by decide +kernel
  have bit : w.data.toNat.testBit 2 = true := clear
  have cleared := putReg_testBit (s := s) (off := R.VSP_MBOX_STATUS) (d := descAt R.VSP_MBOX_STATUS) w.data.isLt
    (show 2 < 32 by decide)
  rw [w1c, bit, show (descAt R.VSP_MBOX_STATUS).cold = 0 by decide +kernel] at cleared
  have low : ((mboxPut s R.VSP_MBOX_STATUS w).word R.VSP_MBOX_STATUS 0).testBit 2 = false := cleared.trans (by simp)
  exact (bitsOf_one _ 2).trans (congrArg Machine.bit low)

theorem answers_mailboxDoneClear (h : s.Serves) (hw : PlainWrite w R.VSP_MBOX_STATUS) (clear : w.data.getLsbD 2 = true)
    (ended : s.fld F.VSP_MBOX_STATUS_DONE = 1) : Answers (.mailboxDoneClear w) s fun t =>
      t.fld F.VSP_MBOX_STATUS_STATE = 0 ∧ t.fld F.VSP_MBOX_STATUS_DONE = 0 ∧
        t.fld F.VSP_MBOX_STATUS_SEQ = s.fld F.VSP_MBOX_STATUS_SEQ ∧ Frame s t [R.VSP_MBOX_STATUS] [] := by
  have exe : exec (.mailboxDoneClear w) s = done ((mboxPut s R.VSP_MBOX_STATUS w).setFld F.VSP_MBOX_STATUS_STATE 0) :=
    congrArg done (hostWrite_mboxStatus h hw clear ended)
  have seq : (mboxPut s R.VSP_MBOX_STATUS w).fld F.VSP_MBOX_STATUS_SEQ = s.fld F.VSP_MBOX_STATUS_SEQ :=
    fld_putReg_leaves s w.data _ rfl leaves_mboxStatus
  have put : Frame s (mboxPut s R.VSP_MBOX_STATUS w) [R.VSP_MBOX_STATUS] [] := putReg_frame _ _ _ _ (by simp)
  have cleared := mboxPut_done (s := s) clear
  generalize mboxPut s R.VSP_MBOX_STATUS w = u at exe seq put cleared
  obtain ⟨-, seqState, doneState, -⟩ := mboxStatus_apart
  refine answers_of_done exe ⟨?_, ?_, ?_, (put.setFld F.VSP_MBOX_STATUS_STATE 0 (by decide)).pf⟩
  · rw [State.refreshPf_fld _ _ (by decide), State.fld_setFld_same _ _ _ (by decide)]; rfl
  · rw [State.refreshPf_fld _ _ (by decide), fld_setFld_apart _ _ doneState, cleared]
  · rw [State.refreshPf_fld _ _ (by decide), fld_setFld_apart _ _ seqState, seq]

/-! ### The clearing of a tile ends (R863) -/

theorem unitState_eq_zero {k : UnitKind} {i : Nat} (fenced : s.bitAt (fencedBit k i).1 (fencedBit k i).2 = false)
    (standby : s.bitAt (standbyBit k i).1 (standbyBit k i).2 = false) : s.unitState k i = 0 := by
  simp [State.unitState, fenced, standby, bit]

theorem bitAt_of_off (s : State) (f g : Fld) (j : Nat) (v : Nat) (h : f.off ≠ g.off) : (s.setFld g v).bitAt f j = s.bitAt f j :=
  congrArg (·.testBit j) (State.fld_setFld_off s g f v h)

/-- The registers FENCED and STANDBY of a tile are no other's. -/
theorem tileBits_off {i : Nat} (h : i < 192) :
    F.FLT_STATUS_CHANGED.off ≠ (fencedBit .tile i).1.off ∧ F.FLT_STATUS_CHANGED.off ≠ (standbyBit .tile i).1.off ∧
      (fencedBit .tile i).1.off ≠ (standbyBit .tile i).1.off := by
  simp only [fencedBit, standbyBit, F.FLT_TILE_FENCED_FENCED, F.FLT_TILE_STANDBY_STANDBY, F.FLT_STATUS_CHANGED, R.FLT_STATUS,
    R.FLT_TILE_FENCED, R.FLT_TILE_STANDBY]
  omega

/-- What a step on a slice's own registers leaves of the bits of a tile. -/
theorem bitAt_slice (s : State) (f : Fld) (j n : Nat) (v : Nat) (b c : Bool) (h : 0xa20000 ≤ f.off) (hn : n < 64) :
    (((s.setFld (F.MSL_STATE_FENCED n) v).setBit (F.HBM_STATUS_CH_FENCED (channelOfSlice n / 16)) (channelOfSlice n % 16) b).setBit
      (F.HBM_STATUS_CH_FENCED (channelOfSlice n / 16)) (channelOfSlice n % 16 + 1) c).bitAt f j = s.bitAt f j := by
  have hbm : f.off ≠ (F.HBM_STATUS_CH_FENCED (channelOfSlice n / 16)).off := by
    simp only [F.HBM_STATUS_CH_FENCED, R.HBM_STATUS, channelOfSlice, stackOfSlice]; split <;> omega
  unfold State.setBit
  rw [bitAt_of_off _ _ _ _ _ hbm, bitAt_of_off _ _ _ _ _ hbm, bitAt_of_off _ _ _ _ _ (by simp only [F.MSL_STATE_FENCED, R.MSL_STATE]; omega)]

theorem sliceOfTile_lt {i : Nat} (h : i < 192) : sliceOfTile i < 64 := by
  simp only [sliceOfTile]
  split <;> omega

/-- A tile put in service is in service. -/
theorem unitState_putUnit {i : Nat} (h : i < 192) : (s.putUnit .tile i 0).unitState .tile i = 0 := by
  unfold State.putUnit
  split
  · next same => exact same
  · extract_lets t u
    obtain ⟨changedFenced, changedStandby, offs⟩ := tileBits_off h
    have fenced : u.bitAt (fencedBit .tile i).1 (fencedBit .tile i).2 = false := by
      refine (bitAt_of_off _ _ _ _ _ changedFenced.symm).trans ((bitAt_of_off _ _ _ _ _ offs).trans ?_)
      refine (State.bitAt_setBit s (fencedBit .tile i).1 (fencedBit .tile i).2 (fencedBit .tile i).2 (0 != 0) (show 0 + 32 ≤ 32 by decide)
        (Nat.mod_lt _ (by decide))).trans (if_pos rfl)
    have standby : u.bitAt (standbyBit .tile i).1 (standbyBit .tile i).2 = false := by
      refine (bitAt_of_off _ _ _ _ _ changedStandby.symm).trans ?_
      exact (State.bitAt_setBit _ (standbyBit .tile i).1 (standbyBit .tile i).2 (standbyBit .tile i).2 (0 == 2)
        (show 0 + 32 ≤ 32 by decide) (Nat.mod_lt _ (by decide))).trans (if_pos rfl)
    split
    · exact unitState_eq_zero fenced standby
    · next j slice =>
      obtain ⟨kind, rfl⟩ : isSliceTile i = true ∧ sliceOfTile i = j := by
        simpa [sliceOf] using slice
      have lt := sliceOfTile_lt h
      refine unitState_eq_zero ((bitAt_slice _ _ _ _ _ _ _ ?_ lt).trans fenced) ((bitAt_slice _ _ _ _ _ _ _ ?_ lt).trans standby)
      · exact Nat.le_add_right _ _
      · simp only [standbyBit, F.FLT_TILE_STANDBY_STANDBY, R.FLT_TILE_STANDBY]; omega

/-- The content of a tile is gone, and its clearing with it. -/
def State.tileCleared (s : State) (i : Nat) : State :=
  let t : State := { s with clearing := s.clearing.filter (· != i) }
  if isSliceTile i then { t with slices := smDel t.slices (sliceOfTile i) } else { t with clusters := smDel t.clusters (clusterOfTile i) }

theorem tileCleared_spec (s : State) (i : Nat) : i ∉ (s.tileCleared i).clearing ∧
    (isSliceTile i = true → (s.tileCleared i).slice (sliceOfTile i) = {}) ∧
    (isSliceTile i = false → (s.tileCleared i).cluster (clusterOfTile i) = {}) ∧ (s.tileCleared i).cores = s.cores ∧
    (s.tileCleared i).hbm = s.hbm := by
  unfold State.tileCleared
  extract_lets t
  have gone : i ∉ t.clearing := by simp [t]
  cases kind : isSliceTile i
  · refine ⟨gone, fun no => absurd no (by decide), fun _ => ?_, rfl, rfl⟩
    exact (smGet_filter t.clusters {} (fun e => decide (e ≠ clusterOfTile i)) _).trans (if_neg (by simp))
  · refine ⟨gone, fun _ => ?_, fun no => absurd no (by decide), rfl, rfl⟩
    exact (smGet_filter t.slices {} (fun e => decide (e ≠ sliceOfTile i)) _).trans (if_neg (by simp))

theorem exec_serviceClear (i : Fin 192) (h : i.val ∈ s.clearing) :
    exec (.serviceClearComplete i) s = done ((s.tileCleared i).inService (1024 + i)) := by
  have has : (!s.clearing.contains i.val) = false := by simpa using h
  delta exec
  dsimp only [execServiceClearComplete]
  exact if_neg (by rw [has]; decide)

theorem answers_serviceClear (i : Fin 192) (h : i.val ∈ s.clearing) : Answers (.serviceClearComplete i) s fun t =>
      i.val ∉ t.clearing ∧ t.unitState .tile i = 0 ∧ (isSliceTile i = true → t.slice (sliceOfTile i) = {}) ∧
        (isSliceTile i = false → t.cluster (clusterOfTile i) = {}) ∧ t.cores = s.cores ∧ t.hbm = s.hbm := by
  have exe := exec_serviceClear i h
  have unit : unitOf (1024 + i.val) = (.tile, i.val) := by
    unfold unitOf
    rw [if_neg (by omega), if_pos (by omega), Nat.add_sub_cancel_left]
  obtain ⟨gone, slice, cluster, cores, hbm⟩ := tileCleared_spec s i
  generalize s.tileCleared i = u at exe gone slice cluster cores hbm
  unfold State.inService at exe
  rw [unit] at exe
  have parts := putUnit_parts u .tile i 0 []
  have inService : (u.putUnit .tile i 0).unitState .tile i = 0 := unitState_putUnit i.isLt
  generalize u.putUnit .tile i 0 = v at exe parts inService
  let t : State := { v with hwCause := smDel v.hwCause (1024 + i.val) }
  have same (q : Part) (hq : q ≠ .hwCause) : q.same u t.refreshPf := by
    refine Part.same_trans (parts q (by simp)) (Part.same_trans ?_ ((Frame.refl t [] []).pf.2 q (by simp)))
    cases q with
    | hwCause => exact absurd rfl hq
    | _ => rfl
  have word (f : Fld) (j : Nat) (hf : f.off ≠ R.INT_PF_STATUS) : t.refreshPf.bitAt f j = v.bitAt f j :=
    congrArg (·.testBit j) (State.refreshPf_fld t f hf)
  have clearing : t.refreshPf.clearing = u.clearing := same .clearing (by decide)
  have slices : t.refreshPf.slices = u.slices := same .slices (by decide)
  have clusters : t.refreshPf.clusters = u.clusters := same .clusters (by decide)
  refine answers_of_done exe ⟨clearing ▸ gone, ?_, fun k => ?_, fun k => ?_, ?_, ?_⟩
  · have state : t.refreshPf.unitState .tile i = v.unitState .tile i := by
      unfold State.unitState
      rw [word _ _ (by simp only [standbyBit, F.FLT_TILE_STANDBY_STANDBY, R.FLT_TILE_STANDBY, R.INT_PF_STATUS]; omega),
        word _ _ (by simp only [fencedBit, F.FLT_TILE_FENCED_FENCED, R.FLT_TILE_FENCED, R.INT_PF_STATUS]; omega)]
    exact state.trans inService
  · exact (congrArg (fun m : SMap Slice => smGet m {} (sliceOfTile i)) slices).trans (slice k)
  · exact (congrArg (fun m : SMap Cluster => smGet m {} (clusterOfTile i)) clusters).trans (cluster k)
  · exact Eq.trans (same .cores (by decide)) cores
  · exact Eq.trans (same .hbm (by decide)) hbm

/-- Settles O30: Vesper's restarts, the writes of its log, and the mailbox's registers. -/
theorem vesperStepsComplete : Obligations.VesperStepsComplete :=
  ⟨fun _ _ runs due => answers_vesperRestart runs due,
   fun _ _ restarting on slot room => answers_vesperRestartComplete restarting on slot room,
   fun _ _ _ runs queue perm dropped => answers_flashWrite_entry runs queue perm dropped,
   fun _ runs queue perm => answers_flashWrite_table runs queue perm,
   fun _ _ h hw go words free => answers_mailboxSubmit h hw go words free,
   fun _ _ h hw clear ended => answers_mailboxDoneClear h hw clear ended,
   fun i _ h => answers_serviceClear i h⟩

end Sys2Proof.Machine
end

section
/-! The mailbox commands (R833, R834, R837, R844, R854, R866, R867, R869, R876). -/

namespace Sys2Proof.Machine

variable {s : State}

/-! ### The answer (R835, R836) -/

/-- The response words written from word k on. -/
def State.mailWords (s : State) (words : List Nat) (k : Nat) : State :=
  overList (words.zipIdx k) s fun u e => u.setWord (R.VSP_MBOX_RESP e.2) e.1

theorem mailWords_word_before (words : List Nat) (s : State) {k j : Nat} (h : j < k) :
    (s.mailWords words k).word (R.VSP_MBOX_RESP j) 0 = s.word (R.VSP_MBOX_RESP j) 0 := by
  induction words generalizing s k with
  | nil => rfl
  | cons w ws ih =>
    refine (ih (s.setWord (R.VSP_MBOX_RESP k) w) (Nat.lt_succ_of_lt h)).trans ?_
    rw [State.word_setWord, if_neg (by simp only [R.VSP_MBOX_RESP]; omega)]

theorem mailWords_word (words : List Nat) (s : State) (k : Nat) {i : Nat} (h : i < words.length) :
    (s.mailWords words k).word (R.VSP_MBOX_RESP (k + i)) 0 = words.getD i 0 % 2 ^ 32 := by
  induction words generalizing s k i with
  | nil => exact absurd h (by simp)
  | cons w ws ih =>
    cases i with
    | zero =>
      refine (mailWords_word_before ws (s.setWord (R.VSP_MBOX_RESP k) w) (Nat.lt_succ_self k)).trans ?_
      rw [State.word_setWord, if_pos rfl]; rfl
    | succ i =>
      have later := ih (s.setWord (R.VSP_MBOX_RESP k) w) (k + 1) (Nat.lt_of_succ_lt_succ h)
      rw [Nat.add_right_comm k 1 i] at later
      exact later

theorem frame_mailWords (s : State) (words : List Nat) (room : words.length ≤ 64) : Frame s (s.mailWords words 0) mailRegs [] := by
  refine (Frame.refl s _ _).walk_mem _ _ fun u e he => (Frame.refl u _ _).setWord _ _ ?_
  obtain ⟨-, lt, -⟩ := List.mem_zipIdx he
  exact List.mem_cons_of_mem _ (List.mem_map_of_mem (List.mem_range.2 (by omega)))

/-- VSP_MBOX_STATUS of an answer. -/
def State.mailStatus (s : State) (result n : Nat) : State :=
  (((s.setFld F.VSP_MBOX_STATUS_RESP_WORDS n).setFld F.VSP_MBOX_STATUS_RESULT result).setFld F.VSP_MBOX_STATUS_STATE 2).raise
    F.VSP_MBOX_STATUS_DONE

theorem frame_mailStatus (s : State) (result n : Nat) : Frame s (s.mailStatus result n) [R.VSP_MBOX_STATUS] [] :=
  ((((Frame.refl s _ _).setFld F.VSP_MBOX_STATUS_RESP_WORDS n (by decide)).setFld F.VSP_MBOX_STATUS_RESULT result (by decide)).setFld
    F.VSP_MBOX_STATUS_STATE 2 (by decide)).setFld F.VSP_MBOX_STATUS_DONE 1 (by decide)

theorem mailStatus_spec (s : State) {result n : Nat} (hr : result < 256) (hn : n < 256) :
    (s.mailStatus result n).fld F.VSP_MBOX_STATUS_STATE = 2 ∧ (s.mailStatus result n).fld F.VSP_MBOX_STATUS_DONE = 1 ∧
      (s.mailStatus result n).fld F.VSP_MBOX_STATUS_RESULT = result ∧ (s.mailStatus result n).fld F.VSP_MBOX_STATUS_RESP_WORDS = n := by
  have apart : Apart F.VSP_MBOX_STATUS_STATE F.VSP_MBOX_STATUS_DONE ∧ Apart F.VSP_MBOX_STATUS_RESULT F.VSP_MBOX_STATUS_DONE ∧
      Apart F.VSP_MBOX_STATUS_RESP_WORDS F.VSP_MBOX_STATUS_DONE ∧ Apart F.VSP_MBOX_STATUS_RESULT F.VSP_MBOX_STATUS_STATE ∧
      Apart F.VSP_MBOX_STATUS_RESP_WORDS F.VSP_MBOX_STATUS_STATE ∧ Apart F.VSP_MBOX_STATUS_RESP_WORDS F.VSP_MBOX_STATUS_RESULT := by
    unfold Apart; decide
  obtain ⟨stateDone, resultDone, wordsDone, resultState, wordsState, wordsResult⟩ := apart
  unfold State.mailStatus State.raise
  refine ⟨?_, State.fld_setFld_same _ F.VSP_MBOX_STATUS_DONE 1 (by decide), ?_, ?_⟩
  · rw [fld_setFld_apart _ _ stateDone, State.fld_setFld_same _ _ _ (by decide)]; rfl
  · rw [fld_setFld_apart _ _ resultDone, fld_setFld_apart _ _ resultState, State.fld_setFld_same _ _ _ (by decide)]
    exact Nat.mod_eq_of_lt hr
  · rw [fld_setFld_apart _ _ wordsDone, fld_setFld_apart _ _ wordsState, fld_setFld_apart _ _ wordsResult,
      State.fld_setFld_same _ _ _ (by decide)]
    exact Nat.mod_eq_of_lt hn

/-- What Vesper forgets with an answer. -/
def Vesper.mailed (v : Vesper) : Vesper := { v with mailDue := false, mailRecord := [] }

theorem answerMail_eq (s : State) (r : Nat) (words : List Nat) :
    s.answerMail r words = ((s.mailWords words 0).mailStatus r words.length).modVsp Vesper.mailed := rfl

/-- The words of the answer are those of `l`, each modulo 2^32. -/
abbrev SameWords (l words : List Nat) : Prop := l.map (· % 2 ^ 32) = words.map (· % 2 ^ 32)

theorem SameWords.length {l words : List Nat} (h : SameWords l words) : l.length = words.length := by
  simpa using congrArg List.length h

theorem SameWords.getD {l words : List Nat} (h : SameWords l words) (i : Nat) : l.getD i 0 % 2 ^ 32 = words.getD i 0 % 2 ^ 32 := by
  rw [← List.getD_map (f := (· % 2 ^ 32)), ← List.getD_map (f := (· % 2 ^ 32)), h]

/-- A command that answers: the mailbox is DONE with its words, and nothing else changes. -/
theorem answers_answer {i : Instr} {u : State} {r : Nat} {words l : List Nat} (exe : exec i s = done (u.answerMail r words))
    (hr : r < 256) (room : words.length ≤ 64) (same : SameWords l words) :
    Answers i s fun t => Mailed t r l ∧ Frame u t mailRegs [.vesper] ∧ t.vesper = u.vesper.mailed := by
  have wrote := frame_mailWords u words room
  have kept := wrote.2 .vesper (by simp)
  have word {i : Nat} (h : i < words.length) : (u.mailWords words 0).word (R.VSP_MBOX_RESP i) 0 = words.getD i 0 % 2 ^ 32 := by
    simpa using mailWords_word words u 0 h
  rw [answerMail_eq] at exe
  generalize u.mailWords words 0 = v at exe wrote kept word
  obtain ⟨state, done, result, count⟩ := mailStatus_spec v hr (show words.length < 256 by omega)
  have status := frame_mailStatus v r words.length
  generalize v.mailStatus r words.length = x at exe state done result count status
  have field (f : Fld) (h : f.off ≠ R.INT_PF_STATUS) : (x.modVsp Vesper.mailed).refreshPf.fld f = x.fld f :=
    (State.refreshPf_fld _ f h).trans (modVsp_fld _ _ f)
  have vesper : (x.modVsp Vesper.mailed).refreshPf.vesper = u.vesper.mailed :=
    (State.refreshPf_vesper _).trans (congrArg Vesper.mailed (Eq.trans (status.2 .vesper (by simp)) kept))
  have frame : Frame v (x.modVsp Vesper.mailed).refreshPf [R.VSP_MBOX_STATUS] [.vesper] :=
    ((status.mono (List.Subset.refl _) (List.nil_subset _)).trans (frame_modVsp _ _ _ (by simp))).pf
  refine answers_of_done exe ⟨⟨(field _ (by decide)).trans state, (field _ (by decide)).trans done, (field _ (by decide)).trans result,
    (field _ (by decide)).trans (count.trans same.length.symm), fun i hi => ?_, ?_⟩, ?_, vesper⟩
  · have off : R.VSP_MBOX_RESP i ≠ R.INT_PF_STATUS := by simp only [R.VSP_MBOX_RESP, R.INT_PF_STATUS]; omega
    have other : R.VSP_MBOX_RESP i ∉ [R.VSP_MBOX_STATUS] := by
      simp only [R.VSP_MBOX_RESP, R.VSP_MBOX_STATUS, List.mem_singleton]; omega
    exact (frame.1 _ 0 off other).trans ((word (same.length ▸ hi)).trans (same.getD i).symm)
  · rw [vesper]; rfl
  · exact (wrote.mono (List.Subset.refl _) (List.nil_subset _)).trans (frame.mono (by simp [mailRegs]) (List.Subset.refl _))

theorem mailCommand_taken {code : Nat} (h : Taken s code) (f : State → State) : mailCommand code f s = done (f s) := by
  obtain ⟨due, runs, pending, same⟩ := h
  exact if_pos (by simp [due, runs, pending, same])

/-- A command that answers from the state as it stands. -/
theorem answers_mailRead {i : Instr} {r : Nat} {words l : List Nat} (exe : exec i s = done (s.answerMail r words))
    (hr : r < 256) (room : words.length ≤ 64) (same : SameWords l words) :
    Answers i s fun t => Mailed t r l ∧ Frame s t mailRegs [.vesper] :=
  (answers_answer exe hr room same).mono fun _ ⟨mailed, frame, _⟩ => ⟨mailed, frame⟩

/-- A refused argument: nothing changes but the answer (R867). -/
theorem answers_refused {i : Instr} {r : Nat} (exe : exec i s = done (s.answerMail r [])) (hr : r < 256) :
    Answers i s fun t => Mailed t r [] ∧ Frame s t mailRegs [.vesper] ∧ t.vesper.orders = s.vesper.orders :=
  (answers_answer exe hr (Nat.zero_le _) rfl).mono fun _ ⟨mailed, frame, vesper⟩ => ⟨mailed, frame, vesper ▸ rfl⟩

/-! ### Commands that read (R833, R834, R837) -/

theorem toWords_length (l : List Byte) : (toWords l).length = ceilDiv l.length 4 := by simp [toWords]

theorem answers_getInfo (h : Taken s 1) : Answers .getInfo s fun t =>
    Mailed t 0 [s.word R.VSP_FW 0, s.fld F.RST_BOOT_STATUS_FW_SVN, s.fld F.RST_BOOT_STATUS_SLOT, s.flash.newestSeq % 2 ^ 32,
        s.flash.newestSeq / 2 ^ 32 % 2 ^ 32] ∧ Frame s t mailRegs [.vesper] := by
  have exe : exec .getInfo s = execGetInfo s := rfl
  rw [execGetInfo, mailCommand_taken h] at exe
  exact answers_mailRead exe (by decide) (by simp) rfl

theorem answers_telemetryModule (short : s.vesper.mailRecord.length ≤ 256) (h : Taken s 2) : Answers .getTelemetryModule s fun t =>
    Mailed t 0 (toWords s.vesper.mailRecord) ∧ Frame s t mailRegs [.vesper] := by
  have exe : exec .getTelemetryModule s = execGetTelemetryModule s := rfl
  rw [execGetTelemetryModule, mailCommand_taken h] at exe
  exact answers_mailRead exe (by decide) (by rw [toWords_length, ceilDiv]; omega) rfl

theorem answers_telemetryRegion (short : s.vesper.mailRecord.length ≤ 256) {w : Nat} (h : Taken s 3) (word : s.reqWord? 0 = some w) :
    Answers .getTelemetryRegion s fun t =>
      (if w < 32 then Mailed t 0 (toWords s.vesper.mailRecord) else Mailed t 2 []) ∧ Frame s t mailRegs [.vesper] := by
  have exe : exec .getTelemetryRegion s = execGetTelemetryRegion s := rfl
  rw [execGetTelemetryRegion, mailCommand_taken h] at exe
  rw [word] at exe
  dsimp only at exe
  by_cases lt : w < 32
  · rw [if_pos lt] at exe
    exact (answers_mailRead exe (by decide) (by rw [toWords_length, ceilDiv]; omega) rfl).mono fun _ ⟨mailed, frame⟩ =>
      ⟨(if_pos lt).mpr mailed, frame⟩
  · rw [if_neg lt] at exe
    exact (answers_mailRead exe (by decide) (by simp) rfl).mono fun _ ⟨mailed, frame⟩ => ⟨(if_neg lt).mpr mailed, frame⟩

theorem answers_calibration (h : Taken s 4) : Answers .getCalibration s fun t =>
    Mailed t 0 (Config.staticIsland :: Config.staticSlice :: (List.range 11).map Config.eventEnergy) ∧
      Frame s t mailRegs [.vesper] := by
  have exe : exec .getCalibration s = execGetCalibration s := rfl
  rw [execGetCalibration, mailCommand_taken h] at exe
  exact answers_mailRead exe (by decide) (by simp) (by simp [SameWords, lo32])

theorem answers_unitRecord {key : Nat} (h : Taken s 5) (unit : s.reqUnit = some key) : Answers .getUnitRecord s fun t =>
    let r := s.record key
    Mailed t 0 [r.state + s.pathState key * 2 ^ 8 + r.cause * 2 ^ 16, r.tick, r.seq, r.seq / 2 ^ 32] ∧ Frame s t mailRegs [.vesper] := by
  have exe : exec .getUnitRecord s = execGetUnitRecord s := rfl
  rw [execGetUnitRecord, mailCommand_taken h] at exe
  rw [unit] at exe
  dsimp only at exe
  exact answers_mailRead exe (by decide) (by simp) (by simp [SameWords, lo32, hi32])

/-! ### The Almanac and the port configuration (R837, R844) -/

variable {lo hi off : Nat} {e : AlmEntry}

/-- What ALMANAC_READ answers for an entry, from an offset on (R837). -/
def State.almData (s : State) (off : Nat) (e : AlmEntry) : State :=
  let data := (e.bytes.drop off).take 236
  let next := (s.seqFrom (e.seq + 1)).getD (e.seq + 1)
  s.answerMail 0 ([lo32 e.seq, hi32 e.seq, data.length, lo32 next, hi32 next] ++ toWords data)

theorem exec_almanacRead (h : Taken s 6) (h0 : s.reqWord? 0 = some lo) (h1 : s.reqWord? 1 = some hi) (h2 : s.reqWord? 2 = some off)
    (one : lo + hi * 2 ^ 32 ≠ 2 ^ 64 - 1) : exec .almanacRead s =
      done (((s.almAt (lo + hi * 2 ^ 32)).map (s.almData off)).getD (s.answerMail 3 [])) := by
  have exe : exec .almanacRead s = execAlmanacRead s := rfl
  -- the test of a SEQ for 2^64 - 1 is kept out of what the match's reduction evaluates
  obtain ⟨wanted, hwanted⟩ : ∃ wanted : Nat → Option Nat, ∀ want,
      (if want = 2 ^ 64 - 1 then s.seqFrom 0 else some want) = wanted want := ⟨_, fun _ => rfl⟩
  rw [execAlmanacRead, mailCommand_taken h] at exe
  simp only [hwanted] at exe
  rw [h0, h1, h2] at exe
  dsimp only at exe
  rw [← hwanted, if_neg one, Option.bind_some] at exe
  refine exe.trans (congrArg done ?_)
  generalize _ + _ * 2 ^ 32 = want
  cases s.almAt want <;> rfl

theorem answers_almanacRead (h : Taken s 6) (h0 : s.reqWord? 0 = some lo) (h1 : s.reqWord? 1 = some hi) (h2 : s.reqWord? 2 = some off)
    (one : lo + hi * 2 ^ 32 ≠ 2 ^ 64 - 1) (found : s.almAt (lo + hi * 2 ^ 32) = some e) : Answers .almanacRead s fun t =>
      let data := (e.bytes.drop off).take 236
      let next := (s.seqFrom (e.seq + 1)).getD (e.seq + 1)
      Mailed t 0 ([e.seq, e.seq / 2 ^ 32, data.length, next, next / 2 ^ 32] ++ toWords data) ∧ Frame s t mailRegs [.vesper] := by
  have exe := exec_almanacRead h h0 h1 h2 one
  rw [found, Option.map_some, Option.getD_some, State.almData] at exe
  have short : ((e.bytes.drop off).take 236).length ≤ 236 := List.length_take_le _ _
  generalize (e.bytes.drop off).take 236 = data at exe short
  generalize (s.seqFrom (e.seq + 1)).getD (e.seq + 1) = next at exe
  refine answers_mailRead exe (by decide) ?_ (by simp [SameWords, lo32, hi32])
  rw [List.length_append, toWords_length, ceilDiv]
  simp only [List.length_cons, List.length_nil]
  omega

theorem answers_almanacRead_none (h : Taken s 6) (h0 : s.reqWord? 0 = some lo) (h1 : s.reqWord? 1 = some hi)
    (h2 : s.reqWord? 2 = some off) (one : lo + hi * 2 ^ 32 ≠ 2 ^ 64 - 1) (found : s.almAt (lo + hi * 2 ^ 32) = none) :
    Answers .almanacRead s fun t => Mailed t 3 [] ∧ Frame s t mailRegs [.vesper] :=
  answers_mailRead ((exec_almanacRead h h0 h1 h2 one).trans (by rw [found]; rfl)) (by decide) (by simp) rfl

/-- An entry of this SEQ is no longer KEPT. -/
def AlmEntry.released (e : AlmEntry) (seq : Nat) : AlmEntry := if e.seq = seq then { e with kept := false } else e

theorem released_seq (e : AlmEntry) (seq : Nat) : (e.released seq).seq = e.seq := by
  unfold AlmEntry.released
  split <;> rfl

/-- The log with the entry of a SEQ released. -/
def State.almReleased (s : State) (seq : Nat) : State :=
  { s with flash := { s.flash with log := s.flash.log.map fun b => b.map fun e => e.released seq } }

theorem mem_almReleased {x : AlmEntry} {seq : Nat} :
    x ∈ (s.almReleased seq).flash.log.flatten ↔ ∃ y ∈ s.flash.log.flatten, y.released seq = x := by
  have map : (s.almReleased seq).flash.log.flatten = s.flash.log.flatten.map fun e => e.released seq := (List.map_flatten ..).symm
  rw [map, List.mem_map]

theorem exec_almanacRelease (h : Taken s 7) (h0 : s.reqWord? 0 = some lo) (h1 : s.reqWord? 1 = some hi)
    (mem : e ∈ s.flash.log.flatten) (seq : e.seq = lo + hi * 2 ^ 32) (kept : e.kept = true) :
    exec .almanacRelease s = done ((s.almReleased (lo + hi * 2 ^ 32)).noteLog.answerMail 0 []) := by
  have exe : exec .almanacRelease s = execAlmanacRelease s := rfl
  rw [execAlmanacRelease, mailCommand_taken h] at exe
  dsimp only at exe
  rw [h0, h1] at exe
  have has : (s.flash.log.flatten.any fun x => x.seq == lo + hi * 2 ^ 32 && x.kept) = true :=
    List.any_eq_true.2 ⟨e, mem, by simp [seq, kept]⟩
  exact exe.trans (congrArg done (if_pos has))

theorem answers_almanacRelease (h : Taken s 7) (h0 : s.reqWord? 0 = some lo) (h1 : s.reqWord? 1 = some hi)
    (mem : e ∈ s.flash.log.flatten) (seq : e.seq = lo + hi * 2 ^ 32) (kept : e.kept = true) : Answers .almanacRelease s fun t =>
      Mailed t 0 [] ∧ (∀ x ∈ t.flash.log.flatten, x.seq = e.seq → x.kept = false) ∧
        (∀ x ∈ s.flash.log.flatten, x.seq ≠ e.seq → x ∈ t.flash.log.flatten) ∧
        Frame s t ([R.VSP_ALM_SEQ_LO, R.VSP_ALM_SEQ_HI, R.VSP_ALMANAC] ++ mailRegs) [.vesper, .flash] := by
  refine (answers_answer (exec_almanacRelease h h0 h1 mem seq kept) (by decide) (by simp) rfl).mono fun t ⟨mailed, frame, _⟩ => ?_
  have noted := frame_noteLog (s.almReleased (lo + hi * 2 ^ 32))
  have flash : t.flash = (s.almReleased (lo + hi * 2 ^ 32)).flash := (frame.2 .flash (by simp)).trans (noted.2 .flash (by simp))
  rw [flash, seq]
  refine ⟨mailed, fun x hx same => ?_, fun x hx other => mem_almReleased.2 ⟨x, hx, if_neg other⟩, ?_⟩
  · obtain ⟨y, -, rfl⟩ := mem_almReleased.1 hx
    rw [released_seq] at same
    rw [AlmEntry.released, if_pos same]
  · exact ((frame_flash s _ _ (by simp)).trans (noted.mono (List.subset_append_left ..) (by simp))).trans
      (frame.mono (List.subset_append_right ..) (by simp))

theorem answers_portConfig {w : Nat} (h : Taken s 8) (word : s.reqWord? 0 = some w) (h4 : bitsOf w 4 4 = 0) (h12 : bitsOf w 12 4 = 0)
    (h28 : bitsOf w 28 4 = 0) : Answers .setPortConfig s fun t =>
      Mailed t 0 [] ∧ t.flash = { s.flash with portConfig := w } ∧ Frame s t mailRegs [.vesper, .flash] := by
  have exe : exec .setPortConfig s = execSetPortConfig s := rfl
  rw [execSetPortConfig, mailCommand_taken h] at exe
  dsimp only at exe
  rw [word] at exe
  dsimp only at exe
  rw [if_pos ⟨h4, h12, h28⟩] at exe
  refine (answers_answer exe (by decide) (by simp) rfl).mono fun t ⟨mailed, frame, _⟩ => ⟨mailed, frame.2 .flash (by simp), ?_⟩
  exact (frame_flash s _ _ (by simp)).trans (frame.mono (List.Subset.refl _) (by simp))

/-! ### Fences and releases (R866, R867) -/

variable {key : Nat}

/-- A fence or a release ordered. -/
def State.ordered (s : State) (key : Nat) (b : Bool) : State := s.modVsp fun v => { v with orders := v.orders ++ [(key, b)] }

theorem answers_ordered {i : Instr} {b : Bool} (exe : exec i s = done ((s.ordered key b).answerMail 0 [(s.record key).state])) :
    Answers i s fun t => Mailed t 0 [(s.record key).state] ∧ t.vesper.orders = s.vesper.orders ++ [(key, b)] ∧
      Frame s t mailRegs [.vesper] :=
  (answers_answer exe (by decide) (by simp) rfl).mono fun _ ⟨mailed, frame, vesper⟩ =>
    ⟨mailed, vesper ▸ rfl, (frame_modVsp s _ _ (by simp)).trans frame⟩

theorem answers_fenceUnit (h : Taken s 0x20) (unit : s.reqUnit = some key) (path : s.pathState key = 0) :
    Answers .fenceUnit s fun t =>
      Mailed t 0 [(s.record key).state] ∧ t.vesper.orders = s.vesper.orders ++ [(key, true)] ∧ Frame s t mailRegs [.vesper] := by
  have exe : exec .fenceUnit s = execFenceUnit s := rfl
  rw [execFenceUnit, mailCommand_taken h] at exe
  rw [unit] at exe
  dsimp only at exe
  rw [wantFence_inService path] at exe
  exact answers_ordered exe

theorem answers_releaseUnit (h : Taken s 0x21) (unit : s.reqUnit = some key) (fuse : s.fuseFenced key = false) (path : s.pathState key ≠ 0) :
    Answers .releaseUnit s fun t =>
      Mailed t 0 [(s.record key).state] ∧ t.vesper.orders = s.vesper.orders ++ [(key, false)] ∧ Frame s t mailRegs [.vesper] := by
  have exe : exec .releaseUnit s = execReleaseUnit s := rfl
  have wanted : s.wantRelease key = s.ordered key false := if_neg fun no => path no.1
  rw [execReleaseUnit, mailCommand_taken h] at exe
  rw [unit] at exe
  dsimp only at exe
  rw [fuse, wanted] at exe
  exact answers_ordered exe

theorem answers_fenceUnit_none (h : Taken s 0x20) (unit : s.reqUnit = none) : Answers .fenceUnit s fun t =>
    Mailed t 2 [] ∧ Frame s t mailRegs [.vesper] ∧ t.vesper.orders = s.vesper.orders := by
  have exe : exec .fenceUnit s = execFenceUnit s := rfl
  rw [execFenceUnit, mailCommand_taken h] at exe
  rw [unit] at exe
  exact answers_refused exe (by decide)

theorem answers_releaseUnit_fuse (h : Taken s 0x21) (unit : s.reqUnit = some key) (fuse : s.fuseFenced key = true) :
    Answers .releaseUnit s fun t => Mailed t 2 [] ∧ Frame s t mailRegs [.vesper] ∧ t.vesper.orders = s.vesper.orders := by
  have exe : exec .releaseUnit s = execReleaseUnit s := rfl
  rw [execReleaseUnit, mailCommand_taken h] at exe
  rw [unit] at exe
  dsimp only at exe
  rw [fuse] at exe
  exact answers_refused exe (by decide)

/-! ### Captures and board test (R869, R876) -/

/-- The region of CAPTURE's request word. -/
abbrev captureOf (w : Nat) : Option Nat := if w.testBit 8 then some (bitsOf w 0 5) else none

theorem exec_capture {w : Nat} (h : Taken s 0x22) (word : s.reqWord? 0 = some w) (h5 : bitsOf w 5 3 = 0) (h10 : bitsOf w 10 22 = 0)
    (goes : s.captureRefused (captureOf w) (w.testBit 9) = 0) :
    exec .capture s = done ((s.startCapture (captureOf w) (w.testBit 9)).answerMail 0 [s.nextCapture]) := by
  have exe : exec .capture s = execCapture s := rfl
  rw [execCapture, mailCommand_taken h] at exe
  dsimp only at exe
  rw [word] at exe
  dsimp only at exe
  rw [if_neg (by simp [h5, h10]), goes] at exe
  exact exe

theorem answers_capture {w : Nat} (h : Taken s 0x22) (word : s.reqWord? 0 = some w) (h5 : bitsOf w 5 3 = 0) (h10 : bitsOf w 10 22 = 0)
    (goes : s.captureRefused (captureOf w) (w.testBit 9) = 0) : Answers .capture s fun t =>
      Mailed t 0 [(s.fld F.FLT_CAPTURE_LAST_ID + 1) % 65536] ∧ t.fld F.FLT_STATUS_CAPTURE_BUSY = 1 ∧
        (∃ c, t.vesper.capture = some c ∧ c.id = (s.fld F.FLT_CAPTURE_LAST_ID + 1) % 65536 ∧ c.queues = w.testBit 9 ∧
          c.region = captureOf w ∧ c.start = s.tick) ∧ Frame s t (R.FLT_STATUS :: mailRegs) [.vesper] := by
  refine (answers_answer (exec_capture h word h5 h10 goes) (by decide) (by simp) rfl).mono fun t ⟨mailed, frame, vesper⟩ => ?_
  refine ⟨mailed, ?_, ⟨_, congrArg Vesper.capture vesper, rfl, rfl, rfl, rfl⟩, ?_⟩
  · exact (frame.fld_eq F.FLT_STATUS_CAPTURE_BUSY (by decide) (by decide)).trans (startCapture_busy s _ _)
  · exact (((Frame.refl s _ _).setFld F.FLT_STATUS_CAPTURE_BUSY 1 (List.mem_cons_self ..)).trans (frame_modVsp _ _ _ (by simp))).trans
      (frame.mono (List.subset_cons_self _ _) (List.Subset.refl _))

theorem frame_armBscan (s : State) (b : Bool) : Frame s (s.armBscan b) (R.FLT_STATUS :: mailRegs) [.vesper, .flash] :=
  ((Frame.refl s _ _).setFld F.FLT_STATUS_BSCAN_ARMED (bit b) (List.mem_cons_self ..)).trans (frame_flash _ _ _ (by simp))

theorem armBscan_armed (s : State) (b : Bool) : (s.armBscan b).fld F.FLT_STATUS_BSCAN_ARMED = bit b :=
  (State.fld_setFld_same s F.FLT_STATUS_BSCAN_ARMED (bit b) (by decide)).trans (by cases b <;> rfl)

theorem answers_bscan {i : Instr} {b : Bool} (exe : exec i s = done ((s.armBscan b).answerMail 0 [])) : Answers i s fun t =>
    Mailed t 0 [] ∧ t.flash = { s.flash with bscan := b } ∧ t.fld F.FLT_STATUS_BSCAN_ARMED = bit b ∧
      Frame s t (R.FLT_STATUS :: mailRegs) [.vesper, .flash] :=
  (answers_answer exe (by decide) (by simp) rfl).mono fun _ ⟨mailed, frame, _⟩ =>
    ⟨mailed, frame.2 .flash (by simp), (frame.fld_eq F.FLT_STATUS_BSCAN_ARMED (by decide) (by decide)).trans (armBscan_armed s b),
      (frame_armBscan s b).trans (frame.mono (List.subset_cons_self _ _) (by simp))⟩

theorem exec_bscanArm (h : Taken s 0x23) (key : s.reqWord? 0 = some 0xB5C1) :
    exec .bscanArm s = done ((s.armBscan true).answerMail 0 []) := by
  have exe : exec .bscanArm s = execBscanArm s := rfl
  rw [execBscanArm, mailCommand_taken h] at exe
  exact exe.trans (congrArg done (if_pos key))

theorem exec_bscanDisarm (h : Taken s 0x24) : exec .bscanDisarm s = done ((s.armBscan false).answerMail 0 []) := by
  have exe : exec .bscanDisarm s = execBscanDisarm s := rfl
  rw [execBscanDisarm, mailCommand_taken h] at exe
  exact exe

/-- Settles O31: what each mailbox command changes and answers. -/
theorem mailboxCommandsComplete : Obligations.MailboxCommandsComplete :=
  ⟨fun _ short => ⟨answers_getInfo, answers_telemetryModule short, fun _ h word => answers_telemetryRegion short h word,
     answers_calibration, fun _ h unit => answers_unitRecord h unit,
     fun _ _ _ _ h h0 h1 h2 one found => answers_almanacRead h h0 h1 h2 one found,
     fun _ _ _ h h0 h1 h2 one found => answers_almanacRead_none h h0 h1 h2 one found⟩,
   fun _ _ _ _ h h0 h1 mem seq kept => answers_almanacRelease h h0 h1 mem seq kept,
   fun _ _ h word h4 h12 h28 => answers_portConfig h word h4 h12 h28,
   fun _ _ h unit path => answers_fenceUnit h unit path,
   fun _ _ h unit fuse path => answers_releaseUnit h unit fuse path,
   fun _ => ⟨fun h => answers_fenceUnit_none h.1 h.2, fun _ h unit fuse => answers_releaseUnit_fuse h unit fuse⟩,
   fun _ _ h word h5 h10 goes => answers_capture h word h5 h10 goes,
   fun _ h key => answers_bscan (exec_bscanArm h key),
   fun _ h => answers_bscan (exec_bscanDisarm h)⟩

end Sys2Proof.Machine
end

section
/-! The fault stop of a region (R295, R341, R344). -/

namespace Sys2Proof.Machine

variable {s t u : State} {n : Nat} {f g : FaultReport}

/-! ### The faults of one cycle (R344) -/

theorem firstFault_cons (f g : FaultReport) (rest : List FaultReport) : firstFault f (g :: rest) =
    if faultOrder (firstFault g rest).1 < faultOrder f then ((firstFault g rest).1, f :: (firstFault g rest).2)
    else (f, g :: rest) := rfl

theorem firstFault_least (f : FaultReport) (l : List FaultReport) : ∀ g ∈ f :: l, faultOrder (firstFault f l).1 ≤ faultOrder g := by
  induction l generalizing f with
  | nil => simp [firstFault]
  | cons g rest ih =>
    intro x hx
    rw [firstFault_cons]
    split <;> rename_i lt <;> rcases List.mem_cons.1 hx with rfl | hx
    · exact Nat.le_of_lt lt
    · exact ih g x hx
    · exact Nat.le_refl _
    · exact (Nat.le_of_not_lt lt).trans (ih g x hx)

theorem firstFault_mem (f : FaultReport) (l : List FaultReport) :
    (firstFault f l).1 ∈ f :: l ∧ ∀ g ∈ (firstFault f l).2, g ∈ f :: l := by
  induction l generalizing f with
  | nil => simp [firstFault]
  | cons g rest ih =>
    obtain ⟨first, others⟩ := ih g
    rw [firstFault_cons]
    split
    · refine ⟨List.mem_cons_of_mem _ first, fun x hx => ?_⟩
      rcases List.mem_cons.1 hx with rfl | hx
      · exact List.mem_cons_self ..
      · exact List.mem_cons_of_mem _ (others x hx)
    · exact ⟨List.mem_cons_self .., fun x hx => List.mem_cons_of_mem _ hx⟩

/-! ### The first fault: the stop begins (R341) -/

/-- A HALT is on its way to every core that ran. -/
theorem core_haltCores (s : State) {c : Nat} (here : s.inRect n (tileOfCore c) = true) (runs : (s.core c).status = .running) :
    ((s.haltCores n).core c).haltDue = true := by
  unfold State.core State.haltCores at *
  generalize s.cores = l at runs ⊢
  induction l with
  | nil => exact absurd runs (by simp [smGet])
  | cons e rest ih =>
    obtain ⟨k, v⟩ := e
    by_cases same : k = c
    · have now : v.status = .running := by simpa [smGet, same] using runs
      simp [smGet, same, here, now]
    · have later : (smGet rest {} c).status = .running := by simpa [smGet, same] using runs
      have step := ih later
      simp only [List.map_cons]
      split <;> simpa [smGet, same] using step

/-- A fault latched with the words after it (R345). -/
theorem latchFault_cause (s : State) (n : Nat) (small : f.cause < 256) : (s.latchFault n f).fld (F.RGN_FAULT_CAUSE n) = f.cause := by
  unfold State.latchFault
  extract_lets exc w a b trigger
  have word : (s.setWord (R.RGN_FAULT n) w).fld (F.RGN_FAULT_CAUSE n) = f.cause := by
    simp only [State.fld, F.RGN_FAULT_CAUSE, State.word_setWord, if_pos, bitsOf, w]
    split <;> omega
  have ha : SameWord (R.RGN_FAULT n) (s.setWord (R.RGN_FAULT n) w) a :=
    ((SameWord.refl _ _).setWord _ _ (by simp only [R.RGN_FAULT, R.RGN_FAULT_TIME_LO]; omega)).setWord _ _
      (by simp only [R.RGN_FAULT, R.RGN_FAULT_TIME_HI]; omega)
  have hb : SameWord (R.RGN_FAULT n) (s.setWord (R.RGN_FAULT n) w) b :=
    ((ha.setWord _ _ (by simp only [R.RGN_FAULT, R.RGN_FAULT_OP]; omega)).setFld _ _
      (by simp only [R.RGN_FAULT, F.RGN_COUNTS_FAULT_COUNT, R.RGN_COUNTS]; omega)).trans (.of_regs rfl)
  split
  · exact ((hb.trans (.of_regs rfl)).fld _ rfl).trans word
  · exact (hb.fld _ rfl).trans word

/-- A loss of clock is remembered. -/
def Region.clocked (r : Region) (f : FaultReport) : Region := { r with clockLost := r.clockLost || f.cause == fcCLOCK_LOST }

/-- What the region controller keeps of a region whose fault stop begins, beside a lost clock. -/
def Region.stopping (r : Region) (ring : Option Nat) : Region :=
  { r with faultStop := true, faultRing := ring, launch := r.launch.map fun l => { l with inFrame := false } }

/-- The state in which region n's fault stop has begun, before the fences that waited. -/
def State.stopBegun (s : State) (n : Nat) (f : FaultReport) : State :=
  ((((s.modRgn n (·.clocked f)).latchFault n f).modRgn n (·.stopping ((s.rgn n).launch.map Launch.ring))).setFld (F.RGN_STATE_STATE n)
    rDRAINING).haltCores n

theorem regionFault_running (run : s.rgnState n = rRUNNING) (reset : (s.rgn n).reset = none) (clearing : (s.rgn n).clearing = false) :
    s.regionFault n f = (s.stopBegun n f).applyFences n := by
  unfold State.regionFault
  rw [if_neg (by simp [reset, clearing]), if_pos run]
  rfl

/-- A fault of a region whose fault stop runs: MULTI shows it (R344). -/
theorem regionFault_stopping (drain : s.rgnState n = rDRAINING) (reset : (s.rgn n).reset = none) (clearing : (s.rgn n).clearing = false)
    (stop : (s.rgn n).faultStop = true) : s.regionFault n f =
      (s.modRgn n (·.clocked f)).raise (F.RGN_FAULT_MULTI n) := by
  unfold State.regionFault
  rw [if_neg (by simp [reset, clearing]), if_neg (by simp [drain, rDRAINING, rRUNNING]), if_neg (by simp [drain, rDRAINING, rREADY]),
    if_pos stop]
  rfl

/-- Region n's fault stop runs in `t`, which came from `s` by faults of which `f` was the first. -/
structure Stopping (s t : State) (n : Nat) (f : FaultReport) : Prop where
  state : t.rgnState n = rDRAINING
  reset : (t.rgn n).reset = none
  clearing : (t.rgn n).clearing = false
  stop : (t.rgn n).faultStop = true
  reports : (t.rgn n).reports = (s.rgn n).reports
  cause : t.fld (F.RGN_FAULT_CAUSE n) = f.cause
  halted : ∀ c, s.inRect n (tileOfCore c) = true → (s.core c).status = .running → (t.core c).haltDue = true
  parts : SameParts [.regions, .cores, .vesper] s t

theorem zero_notin_faultRegs (n : Nat) : 0 ∉ faultRegs n := by
  simp only [faultRegs, R.RGN_STATE, R.RGN_FAULT, R.RGN_FAULT_TIME_LO, R.RGN_FAULT_TIME_HI, R.RGN_FAULT_OP,
    R.RGN_COUNTS, List.mem_cons, List.not_mem_nil, or_false, not_or]
  omega

theorem rect_notin_faultRegs (n : Nat) : R.RGN_RECT n ∉ faultRegs n := by
  simp only [faultRegs, R.RGN_STATE, R.RGN_FAULT, R.RGN_FAULT_TIME_LO, R.RGN_FAULT_TIME_HI, R.RGN_FAULT_OP,
    R.RGN_COUNTS, R.RGN_RECT, List.mem_cons, List.not_mem_nil, or_false, not_or]
  omega

theorem inRect_congr (h : SameWord (R.RGN_RECT n) s t) (c : Nat) : t.inRect n c = s.inRect n c := by
  unfold State.inRect
  rw [h.fld (F.RGN_RECT_X0 n) rfl, h.fld (F.RGN_RECT_X1 n) rfl, h.fld (F.RGN_RECT_EXTENT n) rfl]

theorem rgn_congr (h : t.regions = s.regions) (n : Nat) : t.rgn n = s.rgn n := congrArg (fun m : SMap Region => smGet m {} n) h

theorem core_congr (h : t.cores = s.cores) (c : Nat) : t.core c = s.core c := congrArg (fun m : SMap Core => smGet m {} c) h

theorem stopBegun_spec (s : State) (n : Nat) (small : f.cause < 256) (reset : (s.rgn n).reset = none)
    (clearing : (s.rgn n).clearing = false) : Stopping s (s.stopBegun n f) n f ∧
      ((s.stopBegun n f).rgn n).pendingFences = (s.rgn n).pendingFences := by
  unfold State.stopBegun
  have first := frame_modRgn s n (·.clocked f) (r := []) (parts := [.regions]) (by simp)
  have rgn : (s.modRgn n (·.clocked f)).rgn n = (s.rgn n).clocked f := State.rgn_modRgn_same ..
  generalize s.modRgn n (·.clocked f) = a at *
  have latched (off : Nat) (h : off ∉ faultRegs n) := (Stays.refl off [.vesper] a).latchFault h f (by simp)
  have cause := latchFault_cause a n small
  generalize a.latchFault n f = b at *
  have quiet := (latched 0 (zero_notin_faultRegs n)).2
  have rect := (latched _ (rect_notin_faultRegs n)).1
  have rgn : b.rgn n = (s.rgn n).clocked f := (rgn_congr (quiet .regions (by simp)) n).trans rgn
  have cores : b.cores = s.cores := Eq.trans (quiet .cores (by simp)) (first.2 .cores (by simp))
  have inside (k : Nat) : b.inRect n k = s.inRect n k :=
    (inRect_congr rect k).trans (inRect_congr (first.sameWord (by simp only [R.RGN_RECT, R.INT_PF_STATUS]; omega) (by simp)) k)
  generalize (s.rgn n).launch.map Launch.ring = ring
  have same : ((b.modRgn n (·.stopping ring)).setFld (F.RGN_STATE_STATE n) rDRAINING).rgn n = (b.rgn n).stopping ring :=
    (State.rgn_setFld ..).trans (State.rgn_modRgn_same ..)
  have state : ((b.modRgn n (·.stopping ring)).setFld (F.RGN_STATE_STATE n) rDRAINING).rgnState n = rDRAINING :=
    rgnState_setFld_same _ n rDRAINING (by decide)
  have set : Stays (R.RGN_FAULT n) [.regions] b ((b.modRgn n (·.stopping ring)).setFld (F.RGN_STATE_STATE n) rDRAINING) :=
    ((Stays.refl _ _ b).modRgn n _ (by simp)).setFld _ _ (by simp only [F.RGN_STATE_STATE, R.RGN_STATE, R.RGN_FAULT]; omega)
  have box : Stays (R.RGN_RECT n) [.regions] b ((b.modRgn n (·.stopping ring)).setFld (F.RGN_STATE_STATE n) rDRAINING) :=
    ((Stays.refl _ _ b).modRgn n _ (by simp)).setFld _ _ (by simp only [F.RGN_STATE_STATE, R.RGN_STATE, R.RGN_RECT]; omega)
  generalize (b.modRgn n (·.stopping ring)).setFld (F.RGN_STATE_STATE n) rDRAINING = d at *
  have halt := frame_haltCores d n [] (p := [.cores]) (by simp)
  have rgn : (d.haltCores n).rgn n = ((s.rgn n).clocked f).stopping ring :=
    ((rgn_congr (halt.2 .regions (by simp)) n).trans same).trans (by rw [rgn])
  refine ⟨⟨(rgnState_congr fun _ => rfl).trans state, by rw [rgn]; exact reset, by rw [rgn]; exact clearing, by rw [rgn]; rfl,
    by rw [rgn]; rfl, ?_, fun k here runs => ?_, ?_⟩, by rw [rgn]; rfl⟩
  · exact ((set.1.trans (.of_regs rfl)).fld _ rfl).trans cause
  · refine core_haltCores d ((inRect_congr box.1 _).trans ((inside _).trans here)) ?_
    rw [core_congr (Eq.trans (set.2 .cores (by simp)) cores)]
    exact runs
  · refine SameParts.trans (fun q hq => first.2 q fun h => hq ?_) (SameParts.trans (fun q hq => quiet q fun h => hq ?_) (SameParts.trans (fun q hq => set.2 q fun h => hq ?_)
      fun q hq => halt.2 q fun h => hq ?_))
    · simp_all
    · simp_all
    · simp_all
    · simp_all

/-! ### The later faults, and the fences that waited -/

theorem Stopping.later (h : Stopping s t n f) (g : FaultReport) : Stopping s (t.regionFault n g) n f ∧
    (t.regionFault n g).fld (F.RGN_FAULT_MULTI n) = 1 := by
  rw [regionFault_stopping h.state h.reset h.clearing h.stop]
  have rgn : ((t.modRgn n (·.clocked g)).raise (F.RGN_FAULT_MULTI n)).rgn n = (t.rgn n).clocked g :=
    (State.rgn_setFld ..).trans (State.rgn_modRgn_same ..)
  have fr := (frame_modRgn t n (·.clocked g) (r := [R.RGN_FAULT n]) (parts := [.regions]) (by simp)).setFld (F.RGN_FAULT_MULTI n) 1
    (by simp [F.RGN_FAULT_MULTI])
  refine ⟨⟨?_, by rw [rgn]; exact h.reset, by rw [rgn]; exact h.clearing, by rw [rgn]; exact h.stop, by rw [rgn]; exact h.reports, ?_, ?_, ?_⟩, ?_⟩
  · exact (fr.rgnState (by simp only [R.RGN_STATE, R.RGN_FAULT, List.mem_singleton]; omega)).trans h.state
  · exact (State.fld_setFld_lo _ (F.RGN_FAULT_MULTI n) (F.RGN_FAULT_CAUSE n) 1 rfl rfl (show 0 + 8 ≤ 32 by decide)
      (.inl (show 0 + 8 ≤ 31 by decide))).trans h.cause
  · exact h.halted
  · exact h.parts.trans fun q hq => fr.2 q fun k => hq (by simp_all)
  · exact State.fld_setFld_same _ (F.RGN_FAULT_MULTI n) 1 (show 31 + 1 ≤ 32 by decide)

theorem Stopping.walk (h : Stopping s t n f) (l : List FaultReport) : Stopping s (overList l t fun u g => u.regionFault n g) n f ∧
    (l ≠ [] → (overList l t fun u g => u.regionFault n g).fld (F.RGN_FAULT_MULTI n) = 1) := by
  induction l generalizing t with
  | nil => exact ⟨h, fun no => absurd rfl no⟩
  | cons g rest ih =>
    obtain ⟨step, multi⟩ := h.later g
    obtain ⟨all, more⟩ := ih step
    refine ⟨all, fun _ => ?_⟩
    by_cases one : rest = []
    · rw [one]; exact multi
    · exact more one

/-- No fence waited. -/
theorem Stopping.applyFences (h : Stopping s t n f) (none : (t.rgn n).pendingFences = []) : Stopping s (t.applyFences n) n f := by
  have same : t.applyFences n = t.modRgn n fun r => { r with pendingFences := [] } := by
    unfold State.applyFences
    rw [none]; rfl
  have rgn : (t.applyFences n).rgn n = t.rgn n := by
    rw [same, State.rgn_modRgn_same, ← none]
  have fr : Frame t (t.applyFences n) [] [.regions] := by
    rw [same]
    exact frame_modRgn t n _ (by simp)
  exact ⟨(fr.rgnState (by simp)).trans h.state, rgn ▸ h.reset, rgn ▸ h.clearing, rgn ▸ h.stop, rgn ▸ h.reports,
    (fr.fld_eq (F.RGN_FAULT_CAUSE n) (by simp only [F.RGN_FAULT_CAUSE, R.RGN_FAULT, R.INT_PF_STATUS]; omega) (by simp)).trans h.cause,
    fun c here runs => (congrArg Core.haltDue (core_congr (fr.2 .cores (by simp)) c)).trans (h.halted c here runs),
    h.parts.trans fun q hq => fr.2 q fun k => hq (by simp_all)⟩

theorem stopping_regionFault (run : s.rgnState n = rRUNNING) (reset : (s.rgn n).reset = none) (clearing : (s.rgn n).clearing = false)
    (fences : (s.rgn n).pendingFences = []) (small : f.cause < 256) : Stopping s (s.regionFault n f) n f := by
  rw [regionFault_running run reset clearing]
  obtain ⟨begun, kept⟩ := stopBegun_spec s n small reset clearing
  exact begun.applyFences (kept.trans fences)

theorem otherRegions_regionFault (s : State) (n : Nat) (f : FaultReport) : OtherRegions s (s.regionFault n f) n := fun m _ ne =>
  rgnState_congr (stays_regionFault s f (by simp only [R.RGN_STATE]; omega) (rgnState_notin_faultRegs ne)).1

theorem otherRegions_trans (h : OtherRegions s t n) (k : OtherRegions t u n) : OtherRegions s u n := fun m hm ne =>
  (k m hm ne).trans (h m hm ne)

theorem otherRegions_pf (h : OtherRegions s t n) : OtherRegions s t.refreshPf n := fun m hm ne =>
  (refreshPf_rgnState t m).trans (h m hm ne)

theorem otherRegions_of_regs (h : t.regs = s.regs) : OtherRegions s t n := fun _ _ _ => rgnState_congr fun _ => by simp only [State.word, h]

/-! ### The commands -/

theorem exec_regionFault (n : Fin 32) {more : List FaultReport} (mem : f ∈ (s.rgn n).reports) :
    exec (.regionFault n f more) s = done (overList
      ((firstFault f (more.filter fun g => ((s.rgn n).reports.erase f).contains g)).1 ::
        (firstFault f (more.filter fun g => ((s.rgn n).reports.erase f).contains g)).2)
      (s.modRgn n fun r => { r with reports := more.foldl List.erase ((s.rgn n).reports.erase f) }) fun u g => u.regionFault n g) := by
  delta exec
  dsimp only [execRegionFault]
  exact if_pos (by simpa using mem)

theorem answers_regionFault (n : Fin 32) {more : List FaultReport} (mem : f ∈ (s.rgn n).reports) (small : f.cause ≤ 8)
    (smalls : ∀ g ∈ more, g.cause ≤ 8) (run : s.rgnState n = rRUNNING) (reset : (s.rgn n).reset = none)
    (clearing : (s.rgn n).clearing = false) (fences : (s.rgn n).pendingFences = []) : Answers (.regionFault n f more) s fun t =>
      let r := firstFault f (more.filter fun g => ((s.rgn n).reports.erase f).contains g)
      (∀ g ∈ r.2, faultOrder r.1 ≤ faultOrder g) ∧
      t.rgnState n = rDRAINING ∧ (t.rgn n).faultStop = true ∧
        (t.rgn n).reports = more.foldl List.erase ((s.rgn n).reports.erase f) ∧ t.fld (F.RGN_FAULT_CAUSE n) = r.1.cause ∧
        (r.2 ≠ [] → t.fld (F.RGN_FAULT_MULTI n) = 1) ∧
        (∀ g, s.inRect n (tileOfCore g) = true → (s.core g).status = .running → (t.core g).haltDue = true) ∧
        OtherRegions s t n ∧ t.net = s.net ∧ t.slices = s.slices ∧ t.hbm = s.hbm := by
  have exe := exec_regionFault n (more := more) mem
  have from_ : ∀ g ∈ f :: more.filter (fun g => ((s.rgn n).reports.erase f).contains g), g.cause < 256 := fun g hg => by
    rcases List.mem_cons.1 hg with rfl | hg
    · omega
    · have := smalls g (List.mem_of_mem_filter hg); omega
  obtain ⟨first, -⟩ := firstFault_mem f (more.filter fun g => ((s.rgn n).reports.erase f).contains g)
  have order := fun g hg => firstFault_least f (more.filter fun g => ((s.rgn n).reports.erase f).contains g) g
    ((firstFault_mem f (more.filter fun g => ((s.rgn n).reports.erase f).contains g)).2 g hg)
  have small := from_ _ first
  generalize firstFault f (more.filter fun g => ((s.rgn n).reports.erase f).contains g) = r at *
  generalize more.foldl List.erase ((s.rgn n).reports.erase f) = left at *
  have rgn : (s.modRgn n fun r => { r with reports := left }).rgn n = { s.rgn n with reports := left } := State.rgn_modRgn_same ..
  have fr := frame_modRgn s n (fun r => { r with reports := left }) (r := []) (parts := [.regions]) (by simp)
  have rect (c : Nat) : (s.modRgn n fun r => { r with reports := left }).inRect n c = s.inRect n c := rfl
  have core (c : Nat) : (s.modRgn n fun r => { r with reports := left }).core c = s.core c := rfl
  have regs : (s.modRgn n fun r => { r with reports := left }).regs = s.regs := rfl
  generalize (s.modRgn n fun r => { r with reports := left }) = a at *
  have begun : Stopping a (a.regionFault n r.1) n r.1 :=
    stopping_regionFault ((fr.rgnState (by simp)).trans run) (by rw [rgn]; exact reset) (by rw [rgn]; exact clearing)
      (by rw [rgn]; exact fences) small
  obtain ⟨all, multi⟩ := begun.walk r.2
  have others : OtherRegions s (overList (r.1 :: r.2) a fun u g => u.regionFault n g) n :=
    overList_keeps (fun u => OtherRegions s u n) _ a _ (otherRegions_of_regs regs) fun u g h =>
      otherRegions_trans h (otherRegions_regionFault u n g)
  refine answers_of_done exe ⟨order, ?_, ?_, ?_, ?_, ?_, ?_, otherRegions_pf others, ?_, ?_, ?_⟩
  · exact (refreshPf_rgnState _ _).trans all.state
  · rw [State.refreshPf_rgn]; exact all.stop
  · rw [State.refreshPf_rgn]; exact all.reports.trans (by rw [rgn])
  · exact (State.refreshPf_fld _ _ (by simp only [F.RGN_FAULT_CAUSE, R.RGN_FAULT, R.INT_PF_STATUS]; omega)).trans all.cause
  · exact fun k => (State.refreshPf_fld _ _ (by simp only [F.RGN_FAULT_MULTI, R.RGN_FAULT, R.INT_PF_STATUS]; omega)).trans (multi k)
  · intro c here runs
    rw [State.refreshPf_core]
    exact all.halted c ((rect _).trans here) (by rw [core]; exact runs)
  · rw [State.refreshPf_net]; exact Eq.trans (all.parts .net (by simp)) (fr.2 .net (by simp))
  · rw [State.refreshPf_slices]; exact Eq.trans (all.parts .slices (by simp)) (fr.2 .slices (by simp))
  · rw [State.refreshPf_hbm]; exact Eq.trans (all.parts .hbm (by simp)) (fr.2 .hbm (by simp))

theorem answers_launchWatchdog (n : Fin 32) {l : Launch} (launch : (s.rgn n).launch = some l) (dog : l.watchdogUs ≠ 0)
    (run : s.rgnState n = rRUNNING) (reset : (s.rgn n).reset = none) (clearing : (s.rgn n).clearing = false)
    (fences : (s.rgn n).pendingFences = []) : Answers (.launchWatchdog n) s fun t =>
      t.rgnState n = rDRAINING ∧ (t.rgn n).faultStop = true ∧ t.fld (F.RGN_FAULT_CAUSE n) = 2 ∧ OtherRegions s t n ∧
        t.net = s.net ∧ t.hbm = s.hbm := by
  have exe : exec (.launchWatchdog n) s = done (s.regionFault n { cause := fcWATCHDOG }) := by
    delta exec
    dsimp only [execLaunchWatchdog]
    exact if_pos (by simp [launch, dog, run])
  have all : Stopping s (s.regionFault n { cause := fcWATCHDOG }) n { cause := fcWATCHDOG } :=
    stopping_regionFault run reset clearing fences (show 2 < 256 by decide)
  have others := otherRegions_regionFault s n { cause := fcWATCHDOG }
  refine answers_of_done exe ⟨(refreshPf_rgnState _ _).trans all.state, ?_, ?_, otherRegions_pf others, ?_, ?_⟩
  · rw [State.refreshPf_rgn]; exact all.stop
  · exact (State.refreshPf_fld _ _ (by simp only [F.RGN_FAULT_CAUSE, R.RGN_FAULT, R.INT_PF_STATUS]; omega)).trans all.cause
  · rw [State.refreshPf_net]; exact all.parts .net (by simp)
  · rw [State.refreshPf_hbm]; exact all.parts .hbm (by simp)

/-! ### The end of the stop (R341, R346) -/

theorem stays_endLaunch (s : State) (n status code off : Nat) : Stays off [.regions, .vfs] s (s.endLaunch n status code) := by
  unfold State.endLaunch
  split
  · exact .refl off _ s
  · exact ((Stays.refl off _ s).modRgn n _ (by simp)).modVf n _ (by simp)

theorem finish_rgn (s : State) (n i : Nat) (k : Word) (st code : Nat) (f : Desc → Desc) (m : Nat) :
    (s.finish n i k st code f).rgn m = s.rgn m := rfl

theorem endLaunch_rgn (s : State) (n status code : Nat) : (s.endLaunch n status code).rgn n = { s.rgn n with launch := none } := by
  unfold State.endLaunch
  split
  · next none => rw [← none]
  · exact (finish_rgn ..).trans (State.rgn_modRgn_same ..)

theorem stays_abortOrdered (s : State) (n i off : Nat) : Stays off [.vfs] s (s.abortOrdered n i) :=
  (Stays.refl off _ s).modVf n _ (by simp)

/-- The descriptors that a fault stop ends: the LAUNCH, and the ORDERED ones behind it. -/
def State.stopEnded (s : State) (n code : Nat) (ring : Option Nat) : State :=
  let u := (s.endLaunch n stREGION_FAULT code).modRgn n fun q => { q with faultRing := none }
  match ring with
  | some i => u.abortOrdered n i
  | none => u

theorem stays_stopEnded (s : State) (n code : Nat) (ring : Option Nat) (off : Nat) :
    Stays off [.regions, .vfs] s (s.stopEnded n code ring) := by
  unfold State.stopEnded
  extract_lets u
  have hu : Stays off [.regions, .vfs] s u := (stays_endLaunch s n stREGION_FAULT code off).modRgn n _ (by simp)
  cases ring
  · exact hu
  · exact hu.trans ((stays_abortOrdered u n _ off).mono (by simp))

theorem stopEnded_rgn (s : State) (n code : Nat) (ring : Option Nat) :
    (s.stopEnded n code ring).rgn n = { s.rgn n with launch := none, faultRing := none } := by
  have base : ((s.endLaunch n stREGION_FAULT code).modRgn n fun q => { q with faultRing := none }).rgn n =
      { s.rgn n with launch := none, faultRing := none } := by
    rw [State.rgn_modRgn_same, endLaunch_rgn]
  unfold State.stopEnded
  cases ring
  · exact base
  · exact (rgn_congr ((stays_abortOrdered _ n _ 0).2 .regions (by simp)) n).trans base

/-- The region is FAULTED, and its event set (R341). -/
def State.faulted (s : State) (n : Nat) : State :=
  ((s.setFld (F.RGN_STATE_STATE n) rFAULTED).modRgn n fun r => { r with faultStop := false }).regionEvent n true

theorem stays_faulted (s : State) {off : Nat} (low : off < 0x400000) (other : off ≠ R.RGN_STATE n) : Stays off [.regions] s (s.faulted n) :=
  (((Stays.refl off _ s).setFld (F.RGN_STATE_STATE n) rFAULTED other).modRgn n _ (by simp)).regionEvent low n true

theorem faulted_rgn (s : State) (n : Nat) : (s.faulted n).rgn n = { s.rgn n with faultStop := false } := by
  have before : ((s.setFld (F.RGN_STATE_STATE n) rFAULTED).modRgn n fun r => { r with faultStop := false }).rgn n =
      { s.rgn n with faultStop := false } := State.rgn_modRgn_same ..
  exact (rgn_congr (((Stays.refl 0 [] _).regionEvent (by decide) n true).2 .regions (by simp)) n).trans before

theorem faulted_state (s : State) (hn : n < 32) : (s.faulted n).rgnState n = rFAULTED := by
  refine (rgnState_congr ((Stays.refl (R.RGN_STATE n) [] _).regionEvent (by simp only [R.RGN_STATE]; omega) n true).1).trans ?_
  exact (rgnState_congr fun _ => rfl).trans (rgnState_setFld_same s n rFAULTED (by decide))

theorem faulted_event (s : State) (n : Nat) : (s.faulted n).fld F.INT_PF_EVENT_REGION = 1 :=
  (((SameWord.refl R.INT_PF_EVENT _).sendVf n 1).fld F.INT_PF_EVENT_REGION rfl).trans
    (State.fld_setFld_same _ F.INT_PF_EVENT_REGION 1 (by decide))

/-- No reset follows at once without FAULT_ACTION RESET and CLOCK_LOST (R343). -/
theorem enterFaulted_eq (hn : n < 32) (stay : s.fld (F.RGN_CONFIG_FAULT_ACTION n) = 0) (clock : (s.rgn n).clockLost = false) :
    s.enterFaulted n = s.faulted n := by
  have action : (s.faulted n).on (F.RGN_CONFIG_FAULT_ACTION n) = false := by
    have word := (stays_faulted s (n := n) (off := R.RGN_CONFIG n) (by simp only [R.RGN_CONFIG]; omega)
      (by simp only [R.RGN_CONFIG, R.RGN_STATE]; omega)).1
    rw [State.on, word.fld _ rfl, stay]; rfl
  have lost : ((s.faulted n).rgn n).clockLost = false := by rw [faulted_rgn]; exact clock
  unfold State.enterFaulted
  change (s.faulted n).when ((s.faulted n).on (F.RGN_CONFIG_FAULT_ACTION n) || ((s.faulted n).rgn n).clockLost) _ = s.faulted n
  rw [action, lost]
  rfl

theorem exec_faultStopEnd (n : Fin 32) (stop : (s.rgn n).faultStop = true) (clocks : s.clocksOut n = false)
    (drained : s.settle.coresDrained n = true) (empty : s.settle.net.any (s.settle.stopWaits n) = false)
    (pending : (s.rgn n).pendingReset = none) : exec (.faultStopEnd n) s =
      done ((s.settle.stopEnded n (s.fld (F.RGN_FAULT_CAUSE n)) (s.rgn n).faultRing).enterFaulted n) := by
  delta exec
  dsimp only [execFaultStopEnd]
  rw [if_neg (by simp [stop, clocks, drained, empty]), pending]
  rfl

/-- The plane that runs changes the components of the network alone. -/
theorem settle_parts (s : State) : SameParts [.regions, .vfs, .net, .mesh, .ctl] s s.settle := fun q hq => by
  cases q with
  | regions => exact absurd hq (by simp)
  | vfs => exact absurd hq (by simp)
  | net => exact absurd hq (by simp)
  | mesh => exact absurd hq (by simp)
  | ctl => exact absurd hq (by simp)
  | _ => rfl

theorem answers_faultStopEnd (n : Fin 32) (stop : (s.rgn n).faultStop = true) (clocks : s.clocksOut n = false)
    (drained : s.settle.coresDrained n = true) (empty : s.settle.net.any (s.settle.stopWaits n) = false)
    (pending : (s.rgn n).pendingReset = none) (stay : s.fld (F.RGN_CONFIG_FAULT_ACTION n) = 0) (clock : (s.rgn n).clockLost = false) :
    Answers (.faultStopEnd n) s fun t =>
      t.rgnState n = rFAULTED ∧ (t.rgn n).faultStop = false ∧ (t.rgn n).launch = none ∧
        t.fld F.INT_PF_EVENT_REGION = 1 ∧ OtherRegions s t n ∧ t.cores = s.cores ∧ t.hbm = s.hbm := by
  have exe := exec_faultStopEnd n stop clocks drained empty pending
  generalize s.fld (F.RGN_FAULT_CAUSE n) = code at exe
  generalize (s.rgn n).faultRing = ring at exe
  have ended (off : Nat) : Stays off [.regions, .vfs, .net, .mesh, .ctl] s (s.settle.stopEnded n code ring) :=
    Stays.trans (t := s.settle) (.of_regs rfl (settle_parts s)) ((stays_stopEnded s.settle n code ring off).mono (q := [.regions, .vfs, .net, .mesh, .ctl])
      (by simp))
  have rgn : (s.settle.stopEnded n code ring).rgn n = { s.rgn n with launch := none, faultRing := none } :=
    stopEnded_rgn s.settle n code ring
  generalize s.settle.stopEnded n code ring = u at exe ended rgn
  rw [enterFaulted_eq n.isLt (((ended _).1.fld _ rfl).trans stay) (by rw [rgn]; exact clock)] at exe
  have off (m : Nat) (ne : m ≠ n) : R.RGN_STATE m ≠ R.RGN_STATE n := by simp only [R.RGN_STATE]; omega
  have quiet := (stays_faulted u (n := n) (off := 0) (by decide) (by simp only [R.RGN_STATE]; omega)).2
  refine answers_of_done exe ⟨(refreshPf_rgnState _ _).trans (faulted_state u n.isLt), ?_, ?_, ?_, ?_, ?_, ?_⟩
  · rw [State.refreshPf_rgn, faulted_rgn]
  · rw [State.refreshPf_rgn, faulted_rgn, rgn]
  · exact (State.refreshPf_fld _ _ (by decide)).trans (faulted_event u n)
  · exact fun m lt ne => (refreshPf_rgnState _ m).trans (rgnState_congr
      ((ended _).trans ((stays_faulted u (by simp only [R.RGN_STATE]; omega) (off m ne)).mono (by simp))).1)
  · rw [State.refreshPf_cores]; exact Eq.trans (quiet .cores (by simp)) ((ended 0).2 .cores (by simp))
  · rw [State.refreshPf_hbm]; exact Eq.trans (quiet .hbm (by simp)) ((ended 0).2 .hbm (by simp))

/-- Settles O14: the fault stop begins with the first of the faults of a cycle, or with the watchdog's, and ends in FAULTED. -/
theorem faultStopsComplete : Obligations.FaultStopsComplete :=
  ⟨fun n _ _ _ mem small smalls run reset clearing fences => answers_regionFault n mem small smalls run reset clearing fences,
   fun n _ _ launch dog run reset clearing fences => answers_launchWatchdog n launch dog run reset clearing fences,
   fun n _ stop clocks drained empty pending stay clock => answers_faultStopEnd n stop clocks drained empty pending stay clock⟩

end Sys2Proof.Machine
end

section
/-! A read of an external line that a neighbour has borrowed recalls it, and a slice without cache ways writes it back at once (R612, R618):
its request joins the channel's, and each of those that feedback keeps out counts as held (R721). A state may hold one of a class that
R709 does not have; its count is another register. -/

namespace Sys2Proof.Machine

/-- Slice 0 keeps no line but two it holds in full, one of them lent to slice 1; its channel has a request in the queue, which is more
than its watermark, and a stray one outside. -/
def strayLender (s : State) (region cls : Nat) : State :=
  let zeros : CLine := { line := 0, present := 15, data := memAt 0 (List.replicate 128 0) }
  { (s.setFld (F.MSL_STATE_PIN_WAYS 0) 24).setFld (F.HBM_WATERMARK_CRITICAL 0) 0 with
    slices := [(0, { tracker := [{ line := 0, borrower := some 1 }], lines := [zeros, { zeros with line := 1 }] }),
      (1, { lines := [{ line := 0, kind := .borrowed, data := [(0, 1)], dirty := [0] }] })]
    hreqs := [{ strayRequest 0 0 with injected := true }, strayRequest region cls]
    power := { phase := .run, halves := true, perst := false, pwrgd := true } }

/-! ### The launch check of a rule book -/

/-- The count of requests of this class of region 0 that were held is the register RGN_STATE of region 4. -/
def launchClass : Nat := 13030

theorem launchClass_counts : R.RGN_DLY_QUEUE 0 launchClass = R.RGN_STATE 4 := by decide

/-- An image whose rule book, of no entries, begins at the first line of external space. -/
def lentImage : Image :=
  { hostAddr := 0, hostLen := 0, bytes := 0, id := 0, signed := false, meridianDx := 255, variants := 0, frameSlots := 1, sets := []
    programs := [], channels := [], combiners := [], proofLo := 0
    decls := [{ rbAddr := 2 ^ 47, maxEntries := 0, noff := 1, maxPerOffset := 0, inRows := 1, outRows := 1, inStride := 32, outStride := 32 }] }

/-- The launch that checks it. -/
def checkingLaunch : Launch := { ring := 0, index := 0, frames := 1, watchdogUs := 0, args := [], start := 0, checking := true }

/-- Region 4 runs the launch, on column 0. -/
def checkingState : State :=
  { strayLender ((State.reset.setFld (F.RGN_STATE_STATE 4) rRUNNING).setFld (F.RGN_RECT_EXTENT 4) 1) 0 launchClass with
    regions := [(4, { image := some lentImage, launch := some checkingLaunch })] }

/-- The request that is counted as held leaves region 4 in another state than RUNNING. -/
theorem checkingState_region : (after (.gatherCheckComplete 4) checkingState).rgnState 4 = rDRAINING := by decide +kernel

/-- Refutes O17: the check of a rule book recalls a lent line, and a request of region 0 and class 13030 that feedback keeps out is counted
in RGN_STATE of region 4, which then reads DRAINING, not RUNNING. -/
theorem not_launchesComplete : ¬ Obligations.LaunchesComplete := by
  unfold Obligations.LaunchesComplete
  intro ⟨_, _, _, check, _⟩
  obtain ⟨-, -, state⟩ := (check 4 checkingState checkingLaunch lentImage rfl rfl rfl (by decide +kernel) (by decide +kernel)
    (by decide +kernel)).after
  exact absurd (checkingState_region.symm.trans state) (by decide)

/-! ### A partner's READ -/

/-- The count of requests of this class of region 4 that were held is the register HL_STATUS of port 1. -/
def answerClass : Nat := 409523

theorem answerClass_counts : R.RGN_DLY_QUEUE 4 answerClass = R.HL_STATUS 1 := by decide

/-- A READ of the first 16 bytes of external space. -/
def lentRead : LinkPacket := { kind := .read, tag := 7, space := 2, addr := 0, size := 16 }

/-- Port 1 is UP, region 1 RUNNING on column 0, and the READ has arrived. -/
def lentReadState : State :=
  let t := ((State.reset.setFld (F.RGN_STATE_STATE 1) rRUNNING).setFld (F.RGN_RECT_EXTENT 1) 1).setFld (F.HL_ASSIGN_VALID 1) 1
  let t := ((t.setFld (F.HL_ASSIGN_REGION 1) 1).setFld (F.HL_STATUS_STATE 1) lUP).setFld (F.HL_CREDITS_RSP_HELD 1) 17
  { strayLender t 4 answerClass with ports := [(1, { ingress := [lentRead] })] }

/-- The request that is counted as held leaves the port RETRAINING: the answer waits. -/
theorem lentReadState_out : (after (.linkRead 1 lentRead) lentReadState).out = [] := by decide +kernel

/-- Refutes O28: a READ recalls a lent line, and a request of region 4 and class 409523 that feedback keeps out is counted in HL_STATUS of
port 1, which then reads RETRAINING: no answer leaves. -/
theorem not_partnerRequestsComplete : ¬ Obligations.PartnerRequestsComplete := by
  unfold Obligations.PartnerRequestsComplete
  intro h
  obtain ⟨-, served⟩ := h 1 lentRead lentReadState (by decide +kernel) rfl (by decide +kernel)
  obtain ⟨read, -⟩ := served 1 (2 ^ 47) (by decide +kernel) (by decide +kernel) (by decide +kernel)
  obtain ⟨⟨x, sent, -⟩, -⟩ := (read rfl (by decide +kernel) (by decide +kernel)).after
  rw [lentReadState_out] at sent
  exact absurd sent (by simp)

end Sys2Proof.Machine
end

section
/-! A fresh session of a port answers every request in flight with LINK_DOWN (R758), and an answer to a tile that is cut off counts as
dropped (R539). A state may hold a request of a region that the module does not have; its count of dropped responses is another register. -/

namespace Sys2Proof.Machine

/-- The count of responses that this region dropped is the register HL_PARTNER of port 0. -/
def partnerRegion : Nat := 0x5EF00

theorem partnerRegion_counts : R.DYN_QUIESCE partnerRegion = R.HL_PARTNER 0 := by decide

/-- A READ of that region, sent for a transfer of cluster 0. -/
def cutOffRead : Packet := { id := 0, kind := .read, region := partnerRegion, src := .dma 0 0, dst := .port 0, addr := 2 ^ 46, size := 16 }

/-- Port 0 trains, four READs of its last session are in flight, and the tile they answer to is isolated. -/
def cutOffState : State :=
  { ((State.reset.setFld (F.HL_STATUS_STATE 0) lTRAINING).setFld F.CLK_STATUS_XREF_OK 1).setFld F.CLK_STATUS_LINK_LOCK 1 with
    regions := [(partnerRegion, { isolated := [tileOfCluster 0] })]
    ports := [(0, { attempt := true, flight := List.replicate 4 cutOffRead })] }

/-- Port 0 of module 1 is the partner, and every lane is good. -/
def partnerFound : TrainResult := { lanesGood := 0xFFFF, partnerModule := 1 }

/-- The four answers that are dropped change the partner's port from 0 to 1. -/
theorem cutOffState_partner : (after (.linkTrainingComplete 0 partnerFound) cutOffState).fld (F.HL_PARTNER_PORT 0) = 1 := by
  decide +kernel

/-- Refutes O26: training ends in a fresh session, which answers four requests of a region the module does not have, for an isolated tile;
they count in HL_PARTNER of port 0, which then names port 1 as the partner's, not port 0. -/
theorem not_linkTrainingCompletes : ¬ Obligations.LinkTrainingCompletes := by
  unfold Obligations.LinkTrainingCompletes
  intro ⟨complete, _⟩
  obtain ⟨-, -, -, -, partner, -⟩ := (complete 0 partnerFound cutOffState ⟨3, 0, List.range 16⟩ (by decide +kernel) rfl (by decide +kernel)
    (by decide +kernel) (by decide +kernel) (by decide +kernel) (by decide +kernel)).after
  exact absurd (cutOffState_partner.symm.trans partner) (by decide)

end Sys2Proof.Machine
end

section
/-! What a port receives is apart from what it sends (R739 to R746): the packets that leave change neither. -/

namespace Sys2Proof.Machine

variable {s t u : State} {p : Nat}

/-! ### What a port sends changes its link credits, and no part of what it has received -/

/-- What has come in at a port is as before: the packets, the flits in order, the link credits seen. -/
def SameReceived (a b : Port) : Prop :=
  b.ingress = a.ingress ∧ b.lastRx = a.lastRx ∧ b.nak = a.nak ∧ b.seenReq = a.seenReq ∧ b.seenRsp = a.seenRsp

theorem SameReceived.refl (a : Port) : SameReceived a a := ⟨rfl, rfl, rfl, rfl, rfl⟩

theorem SameReceived.trans {a b c : Port} (h : SameReceived a b) (k : SameReceived b c) : SameReceived a c := by
  obtain ⟨h1, h2, h3, h4, h5⟩ := h
  obtain ⟨k1, k2, k3, k4, k5⟩ := k
  exact ⟨k1.trans h1, k2.trans h2, k3.trans h3, k4.trans h4, k5.trans h5⟩

@[simp] theorem State.act_port (s : State) (n k c q : Nat) : (s.act n k c).port q = s.port q := rfl
@[simp] theorem State.setFld_port (s : State) (f : Fld) (v q : Nat) : (s.setFld f v).port q = s.port q := rfl
@[simp] theorem State.countSat_port (s : State) (f : Fld) (k q : Nat) : (s.countSat f k).port q = s.port q := rfl
@[simp] theorem State.emit_port (s : State) (o : Out) (q : Nat) : (s.emit o).port q = s.port q := rfl

@[simp] theorem State.actFlit_port (s : State) (p q : Nat) : (s.actFlit p).port q = s.port q := by
  unfold State.actFlit
  split <;> rfl

theorem frame_actFlit (s : State) (p : Nat) {r : List Nat} {q : List Part} (h : .regions ∈ q) : Frame s (s.actFlit p) r q := by
  unfold State.actFlit
  split
  · exact .refl ..
  · exact frame_modRgn s _ _ h

theorem creditFld_off (p : Nat) (k : PacketKind) : (creditFld p k).off = R.HL_CREDITS p := by
  unfold creditFld
  split <;> rfl

theorem frame_sendHead (s : State) (p : Nat) (k : Packet) : Frame s (s.sendHead p k) [R.HL_CREDITS p] [.ports, .regions] :=
  ((frame_setFld s (creditFld p k.kind) _ _ (by simp [creditFld_off])).trans (frame_emit _ _ _ _)).trans
    ((frame_actFlit _ p (by simp)).trans (frame_modPort _ p _ (by simp)))

theorem sameReceived_sendHead (s : State) (p : Nat) (k : Packet) : SameReceived (s.port p) ((s.sendHead p k).port p) := by
  simp only [State.sendHead, State.port_modPort_same, State.actFlit_port, State.emit_port, State.setFld_port]
  exact .refl _

theorem pumpN_spec (k : Nat) (s : State) (p : Nat) :
    SameReceived (s.port p) ((State.pumpN k s p).port p) ∧ Frame s (State.pumpN k s p) [R.HL_CREDITS p] [.ports, .regions] := by
  induction k generalizing s with
  | zero => exact ⟨.refl _, .refl ..⟩
  | succ k ih =>
    unfold State.pumpN
    split
    · exact ⟨.refl _, .refl ..⟩
    · split
      · obtain ⟨same, fr⟩ := ih (s.sendHead p _)
        exact ⟨(sameReceived_sendHead s p _).trans same, (frame_sendHead s p _).trans fr⟩
      · exact ⟨.refl _, .refl ..⟩

theorem pump_spec (s : State) (p : Nat) :
    SameReceived (s.port p) ((s.pump p).port p) ∧ Frame s (s.pump p) [R.HL_CREDITS p] [.ports, .regions] := pumpN_spec _ s p

/-! ### Counters that saturate -/

theorem fld_countSat (s : State) (f : Fld) (k : Nat) (h : f.lo + f.width ≤ 32) :
    (s.countSat f k).fld f = min (s.fld f + k) (2 ^ f.width - 1) := by
  have pos : 0 < 2 ^ f.width := Nat.two_pow_pos _
  rw [State.countSat, State.fld_setFld_same _ _ _ h]
  exact Nat.mod_eq_of_lt (by omega)

theorem frame_countSat (s : State) (f : Fld) (k : Nat) {r : List Nat} (q : List Part) (h : f.off ∈ r) : Frame s (s.countSat f k) r q :=
  frame_setFld s f _ q h

theorem Frame.countSat {r : List Nat} {q : List Part} (h : Frame s t r q) (f : Fld) (k : Nat) (hf : f.off ∈ r) :
    Frame s (t.countSat f k) r q := h.trans (frame_countSat t f k q hf)

/-! ### Flits that arrive -/

/-- The acknowledgement of a flit without NAK sets what the port has seen of its partner's credits, and nothing else that came in. -/
theorem takeAck_port (s : State) (p : Nat) (f : Flit) (h : f.nak = false) :
    ((s.takeAck p f).port p).ingress = (s.port p).ingress ∧ ((s.takeAck p f).port p).lastRx = (s.port p).lastRx ∧
      ((s.takeAck p f).port p).seenReq = f.creditsReq % 16384 ∧ ((s.takeAck p f).port p).seenRsp = f.creditsRsp % 16384 := by
  simp only [State.takeAck, State.when, h, Bool.false_eq_true, if_false, State.setFld_port, State.port_modPort_same, and_self]

theorem frame_takeAck (s : State) (p : Nat) (f : Flit) (h : f.nak = false) : Frame s (s.takeAck p f) [R.HL_CREDITS p] [.ports] := by
  simp only [State.takeAck, State.when, h, Bool.false_eq_true, if_false]
  exact ((frame_modPort s p _ (by simp)).setFld _ _ (by simp [F.HL_CREDITS_REQ_HELD])).setFld _ _ (by simp [F.HL_CREDITS_RSP_HELD])

/-- The packets of a flit join the ingress buffer, in order. -/
def Port.deliver (f : Flit) (now : List Nat) (q : Port) : Port :=
  { q with lastRx := f.seq.toNat, nak := false, ingress := q.ingress ++ f.packets, since := q.since ++ now }

/-- The state with a flit's packets delivered, each with the time at which it came. -/
def State.ingest (s : State) (p : Nat) (f : Flit) : State :=
  State.modPort { s with nextId := s.nextId + f.packets.length } p (Port.deliver f (s.newIds f.packets.length).1)

theorem State.ingest_port (s : State) (p : Nat) (f : Flit) :
    (s.ingest p f).port p = (s.port p).deliver f (s.newIds f.packets.length).1 := State.port_modPort_same ..

theorem State.ingest_fld (s : State) (p : Nat) (f : Flit) (g : Fld) : (s.ingest p f).fld g = s.fld g := rfl

theorem flitReceive_next (p : Fin 4) (f : Flit) (s : State) (up : s.linkState p = lUP) (unc : f.uncorrectable = false)
    (crc : f.crcOk = true) (fmt : f.formatOk = true) (data : f.isData = true)
    (next : f.seq.toNat = ((((s.countSat (F.HL_FEC_CORR_CORRECTED p) f.corrected).takeAck p f).port p).lastRx + 1) % 4096) :
    execFlitReceive p f s =
      done (((((s.countSat (F.HL_FEC_CORR_CORRECTED p) f.corrected).takeAck p f).actFlit p).ingest p f).pump p) := by
  simp only [execFlitReceive, up, ne_eq, not_true_eq_false, if_false, unc, crc, fmt, data, State.when, Bool.false_eq_true, Bool.or_self,
    Bool.not_true, Bool.and_false, if_true, Bool.true_and, State.actFlit_port, ← next, beq_self_eq_true]
  rfl

theorem answers_flitReceive (p : Fin 4) (f : Flit) (s : State) (up : s.linkState p = lUP) (unc : f.uncorrectable = false)
    (crc : f.crcOk = true) (fmt : f.formatOk = true) (data : f.isData = true) (nak : f.nak = false)
    (next : f.seq.toNat = ((s.port p).lastRx + 1) % 4096) : Answers (.flitReceive p f) s fun t =>
      (t.port p).ingress = (s.port p).ingress ++ f.packets ∧ (t.port p).lastRx = f.seq.toNat ∧ (t.port p).nak = false ∧
        t.fld (F.HL_FEC_CORR_CORRECTED p) = min (s.fld (F.HL_FEC_CORR_CORRECTED p) + f.corrected) 0xFFFFFFFF ∧
        (t.port p).seenReq = f.creditsReq % 16384 ∧ (t.port p).seenRsp = f.creditsRsp % 16384 := by
  have counted := takeAck_port (s.countSat (F.HL_FEC_CORR_CORRECTED p) f.corrected) p f nak
  have acked := frame_takeAck (s.countSat (F.HL_FEC_CORR_CORRECTED p) f.corrected) p f nak
  have exe : exec (.flitReceive p f) s = execFlitReceive p f s := rfl
  rw [flitReceive_next p f s up unc crc fmt data (by rw [next, counted.2.1]; rfl)] at exe
  generalize hc : (s.countSat (F.HL_FEC_CORR_CORRECTED p) f.corrected).takeAck p f = c at *
  obtain ⟨ingress, -, req, rsp⟩ := counted
  obtain ⟨⟨pin, prx, pnak, preq, prsp⟩, sent⟩ := pump_spec ((c.actFlit p).ingest p f) p
  have field : c.fld (F.HL_FEC_CORR_CORRECTED p) = min (s.fld (F.HL_FEC_CORR_CORRECTED p) + f.corrected) 0xFFFFFFFF := by
    rw [acked.fld_eq _ (by simp only [F.HL_FEC_CORR_CORRECTED, R.HL_FEC_CORR, R.INT_PF_STATUS]; omega)
      (by simp only [F.HL_FEC_CORR_CORRECTED, R.HL_FEC_CORR, R.HL_CREDITS, List.mem_singleton]; omega)]
    exact fld_countSat _ _ _ (show 0 + 32 ≤ 32 by decide)
  have kept : (((c.actFlit p).ingest p f).pump p).fld (F.HL_FEC_CORR_CORRECTED p) = c.fld (F.HL_FEC_CORR_CORRECTED p) := by
    rw [sent.fld_eq _ (by simp only [F.HL_FEC_CORR_CORRECTED, R.HL_FEC_CORR, R.INT_PF_STATUS]; omega)
      (by simp only [F.HL_FEC_CORR_CORRECTED, R.HL_FEC_CORR, R.HL_CREDITS, List.mem_singleton]; omega), State.ingest_fld]
    exact (frame_actFlit (r := []) (q := [.regions]) c p (by simp)).fld_eq _
      (by simp only [F.HL_FEC_CORR_CORRECTED, R.HL_FEC_CORR, R.INT_PF_STATUS]; omega) (by simp)
  rw [State.ingest_port, State.actFlit_port] at pin prx pnak preq prsp
  refine answers_of_done exe ⟨?_, ?_, ?_, ?_, ?_, ?_⟩
  · rw [State.refreshPf_port, pin, Port.deliver, ingress]; rfl
  · rw [State.refreshPf_port, prx]; rfl
  · rw [State.refreshPf_port, pnak]; rfl
  · rw [State.refreshPf_fld _ _ (by simp only [F.HL_FEC_CORR_CORRECTED, R.HL_FEC_CORR, R.INT_PF_STATUS]; omega), kept, field]
  · rw [State.refreshPf_port, preq]; exact req
  · rw [State.refreshPf_port, prsp]; exact rsp

/-! ### Flits that fail -/

/-- A flit that fails its checks sets NAK when it is DATA. -/
theorem flitReceive_bad (p : Fin 4) (f : Flit) (s : State) (up : s.linkState p = lUP)
    (bad : f.uncorrectable = true ∨ f.crcOk = false ∨ f.formatOk = false) :
    execFlitReceive p f s = done ((((s.countSat (F.HL_FEC_CORR_CORRECTED p) f.corrected).when f.uncorrectable fun u =>
      u.countSat (F.HL_FEC_UNCORR_UNCORRECTED p)).when (!f.uncorrectable && !f.crcOk) fun v =>
        v.countSat (F.HL_CRC_FAIL_CRC_FAIL p)).when f.isData fun v => v.modPort p fun q => { q with nak := true }) := by
  have fails : (f.uncorrectable || !f.crcOk || !f.formatOk) = true := by
    rcases bad with h | h | h <;> simp [h]
  simp only [execFlitReceive, up, ne_eq, not_true_eq_false, if_false, fails, if_true]

/-- A counter of the port that the flit's checks count in, beside the other two. -/
theorem fld_countSat_ne (s : State) (f g : Fld) (k : Nat) (h : g.off ≠ f.off) : (s.countSat f k).fld g = s.fld g :=
  State.fld_setFld_off s f _ _ h

theorem answers_flitReceive_bad (p : Fin 4) (f : Flit) (s : State) (up : s.linkState p = lUP)
    (bad : f.uncorrectable = true ∨ f.crcOk = false ∨ f.formatOk = false) : Answers (.flitReceive p f) s fun t =>
      t.port p = { s.port p with nak := f.isData || (s.port p).nak } ∧
        (f.uncorrectable = true → t.fld (F.HL_FEC_UNCORR_UNCORRECTED p) =
          min (s.fld (F.HL_FEC_UNCORR_UNCORRECTED p) + 1) 0xFFFFFFFF) ∧
        (f.uncorrectable = false → f.crcOk = false →
          t.fld (F.HL_CRC_FAIL_CRC_FAIL p) = min (s.fld (F.HL_CRC_FAIL_CRC_FAIL p) + 1) 0xFFFFFFFF) ∧
        (f.uncorrectable = true ∨ f.crcOk = true → t.fld (F.HL_CRC_FAIL_CRC_FAIL p) = s.fld (F.HL_CRC_FAIL_CRC_FAIL p)) ∧
        Frame s t [R.HL_FEC_CORR p, R.HL_FEC_UNCORR p, R.HL_CRC_FAIL p] [.ports] ∧ Sent s t [] := by
  have exe : exec (.flitReceive p f) s = execFlitReceive p f s := rfl
  rw [flitReceive_bad p f s up bad] at exe
  have status : (F.HL_FEC_UNCORR_UNCORRECTED p).off ≠ R.INT_PF_STATUS ∧ (F.HL_CRC_FAIL_CRC_FAIL p).off ≠ R.INT_PF_STATUS := by
    simp only [F.HL_FEC_UNCORR_UNCORRECTED, F.HL_CRC_FAIL_CRC_FAIL, R.HL_FEC_UNCORR, R.HL_CRC_FAIL, R.INT_PF_STATUS]; omega
  have apart : (F.HL_FEC_UNCORR_UNCORRECTED p).off ≠ (F.HL_FEC_CORR_CORRECTED p).off ∧
      (F.HL_CRC_FAIL_CRC_FAIL p).off ≠ (F.HL_FEC_CORR_CORRECTED p).off ∧
      (F.HL_CRC_FAIL_CRC_FAIL p).off ≠ (F.HL_FEC_UNCORR_UNCORRECTED p).off := by
    simp only [F.HL_FEC_UNCORR_UNCORRECTED, F.HL_CRC_FAIL_CRC_FAIL, F.HL_FEC_CORR_CORRECTED, R.HL_FEC_UNCORR, R.HL_CRC_FAIL,
      R.HL_FEC_CORR]; omega
  obtain ⟨uncorr, crc⟩ := status
  obtain ⟨ne1, ne2, ne3⟩ := apart
  have marked (u : State) : (u.when f.isData fun v => v.modPort p fun q => { q with nak := true }).port p =
      { u.port p with nak := f.isData || (u.port p).nak } := by
    cases f.isData
    · rfl
    · exact State.port_modPort_same ..
  have fields (u : State) (g : Fld) : (u.when f.isData fun v => v.modPort p fun q => { q with nak := true }).fld g = u.fld g := by
    cases f.isData <;> rfl
  refine answers_of_done exe ⟨?_, ?_, ?_, ?_, ?_, ?_⟩
  · rw [State.refreshPf_port, marked]
    cases f.uncorrectable <;> cases f.crcOk <;> rfl
  · intro unc
    rw [State.refreshPf_fld _ _ uncorr, fields]
    simp only [unc, State.when, if_true, Bool.not_true, Bool.false_and, Bool.false_eq_true, if_false]
    rw [fld_countSat _ _ _ (show 0 + 32 ≤ 32 by decide), fld_countSat_ne _ _ _ _ ne1]
    rfl
  · intro unc failed
    rw [State.refreshPf_fld _ _ crc, fields]
    simp only [unc, failed, State.when, if_true, Bool.not_false, Bool.and_self, Bool.false_eq_true, if_false]
    rw [fld_countSat _ _ _ (show 0 + 32 ≤ 32 by decide), fld_countSat_ne _ _ _ _ ne2]
    rfl
  · intro ok
    have no : (!f.uncorrectable && !f.crcOk) = false := by rcases ok with h | h <;> simp [h]
    rw [State.refreshPf_fld _ _ crc, fields, no]
    cases f.uncorrectable
    · exact fld_countSat_ne _ _ _ _ ne2
    · exact (fld_countSat_ne _ _ _ _ ne3).trans (fld_countSat_ne _ _ _ _ ne2)
  · refine (Frame.when (.when (.when (.countSat (.refl ..) _ _ (by simp [F.HL_FEC_CORR_CORRECTED])) ?_) ?_) ?_).pf
    · exact frame_countSat _ _ _ _ (by simp [F.HL_FEC_UNCORR_UNCORRECTED])
    · exact frame_countSat _ _ _ _ (by simp [F.HL_CRC_FAIL_CRC_FAIL])
    · exact frame_modPort _ _ _ (by simp)
  · refine Sent.pf (sent_of_out ?_)
    cases f.uncorrectable <;> cases f.crcOk <;> cases f.isData <;> rfl

/-! ### A time-out sends again -/

theorem overList_emit (l : List TxFlit) (g : TxFlit → Out) (s : State) :
    overList l s (fun u f => u.emit (g f)) = { s with out := s.out ++ l.map g } := by
  induction l generalizing s with
  | nil => simp
  | cons f l ih => rw [overList_cons, ih]; simp [State.emit]

/-- The replay buffer is sent again; before the eighth time the port goes on. -/
theorem resend_eq (s : State) (p : Nat) (waiting : (s.port p).replay ≠ []) (few : (s.port p).stuck < 7) :
    s.resend p = (State.modPort (overList (s.port p).replay (s.countSat (F.HL_REPLAYS_REPLAYS p)) fun u f => u.emit (.link p f.pkt)) p
      fun r => { r with stuck := (s.port p).stuck + 1 }) := by
  have early : ¬ 8 ≤ (s.port p).stuck + 1 := by omega
  unfold State.resend
  simp only [early, if_false]

theorem answers_replayTimeout (p : Fin 4) (s : State) (up : s.linkState p = lUP) (waiting : (s.port p).replay ≠ [])
    (few : (s.port p).stuck < 7) : Answers (.replayTimeout p) s fun t =>
      t.port p = { s.port p with stuck := (s.port p).stuck + 1 } ∧
        t.fld (F.HL_REPLAYS_REPLAYS p) = min (s.fld (F.HL_REPLAYS_REPLAYS p) + 1) 0xFFFFFFFF ∧
        Sent s t ((s.port p).replay.map fun f => .link p f.pkt) ∧ Frame s t [R.HL_REPLAYS p] [.ports] := by
  have exe : exec (.replayTimeout p) s = execReplayTimeout p s := rfl
  rw [execReplayTimeout, if_pos up, resend_eq s p waiting few, overList_emit] at exe
  refine answers_of_done exe ⟨?_, ?_, Sent.pf ⟨[], by simp; rfl, by simp⟩, Frame.pf ?_⟩
  · rw [State.refreshPf_port, State.port_modPort_same]; rfl
  · rw [State.refreshPf_fld _ _ (by simp only [F.HL_REPLAYS_REPLAYS, R.HL_REPLAYS, R.INT_PF_STATUS]; omega)]
    exact fld_countSat _ _ _ (show 0 + 32 ≤ 32 by decide)
  · refine ((frame_countSat s (F.HL_REPLAYS_REPLAYS p) 1 [.ports] (by simp [F.HL_REPLAYS_REPLAYS])).trans ?_).trans
      (frame_modPort _ _ _ (by simp))
    exact ⟨fun _ _ _ _ => rfl, fun q _ => by cases q <;> rfl⟩

/-- Settles O27, by the three events: what a good flit delivers stays through what the port sends after it. -/
theorem flitsComplete : Obligations.FlitsComplete := by
  unfold Obligations.FlitsComplete
  exact ⟨fun p f s up unc crc fmt data nak next => answers_flitReceive p f s up unc crc fmt data nak next,
    answers_flitReceive_bad, answers_replayTimeout⟩

end Sys2Proof.Machine
end

section
/-! ST and STG (R384, R443, R444): the bytes go into the cluster's memory, or into a new entry of the store buffer. -/

namespace Sys2Proof.Machine

variable {s u : State} {n : Nat} {o : OpFields} {g : Fin 1024}

@[simp] theorem State.cluster_modCore (s : State) (h : Nat) (f : Core → Core) (k : Nat) : (s.modCore h f).cluster k = s.cluster k := rfl
@[simp] theorem State.core_modCluster (s : State) (k : Nat) (f : Cluster → Cluster) (h : Nat) : (s.modCluster k f).core h = s.core h := rfl

/-! ### Bytes written in a row -/

/-- Bytes written in a row read back. -/
theorem PMem.byte_write_memAt (m : PMem) (x : Nat) (l : List Byte) (bad : List Nat) (draw : Nat) {i : Nat} (hi : i < l.length) :
    (m.write (memAt x l) bad).byte draw (x + i) = l.getD i 0 := by
  refine PMem.byte_write_agree m bad draw (mem_memAt.2 ⟨i, by simp [hi], rfl⟩) fun w hw => ?_
  obtain ⟨j, hj, e⟩ := mem_memAt.1 hw
  obtain rfl : i = j := by omega
  simp [List.getD_eq_getElem?_getD, hj]

/-- No other byte changes. -/
theorem PMem.byte_write_memAt_other (m : PMem) {x : Nat} {l : List Byte} (bad : List Nat) (draw : Nat) {b : Nat}
    (out : b < x ∨ x + l.length ≤ b) : (m.write (memAt x l) bad).byte draw b = m.byte draw b := by
  refine PMem.byte_write_other m _ bad draw b fun e he same => ?_
  obtain ⟨j, hj, at'⟩ := mem_memAt.1 (show (e.1, e.2) ∈ _ from he)
  have := (List.getElem?_eq_some_iff.1 hj).1
  omega

theorem toBytes_length (k v : Nat) : (toBytes k v).length = k := by
  induction k generalizing v with
  | zero => rfl
  | succ k ih => simp [toBytes, ih]

/-! ### Cluster space -/

/-- The cluster with bytes written in a row, as poison when `bad`. -/
def Cluster.stored (k : Cluster) (x : Nat) (bytes : List Byte) (bad : Bool) : Cluster :=
  { k with mem := k.mem.write (memAt x bytes) (if bad then [x / 8] else []) }

theorem exec_st_cluster (ready : Ready (.st g o) s n) (space : spaceOf ((s.core g).address o) = spCluster) :
    exec (.st g o) s = done (settleOp g (.next (((s.unwait g).when ((s.core g).regBad o.b) fun u => u.launchPoison n).modCluster (g / 8)
      (·.stored ((s.core g).address o % 2 ^ 21) (toBytes (2 ^ modBits o 0 2) ((s.core g).reg o.b).toNat) ((s.core g).regBad o.b))))) := by
  obtain ⟨stands, region, pass⟩ := ready.issues rfl
  delta exec
  dsimp only [execSt]
  rw [issue_acts stands region pass]
  exact congrArg (fun x => done (settleOp g x)) (if_pos space)

theorem answers_st_cluster (ready : Ready (.st g o) s n) (space : spaceOf (effAddr (s.core g) o) = spCluster) :
    Answers (.st g o) s fun t =>
      let size := 2 ^ (o.mod.toNat % 4)
      let x := effAddr (s.core g) o % 2 ^ 21
      let m := (t.cluster (g / 8)).mem
      (∀ i draw, i < size → m.byte draw (x + i) = BitVec.ofNat 8 (((s.core g).reg o.b).toNat / 256 ^ i)) ∧
        (∀ draw b, b < x ∨ x + size ≤ b → m.byte draw b = (s.cluster (g / 8)).mem.byte draw b) ∧
        (∀ h, h ≠ g.val / 8 → t.cluster h = s.cluster h) ∧ t.core g = (s.core g).past ∧ (∀ h, h ≠ g.val → t.core h = s.core h) ∧
        Frame s t [] [.cores, .clusters, .regions] ∧ Sent s t [] := by
  have exe := exec_st_cluster ready space
  have address : (s.core g).address o = effAddr (s.core g) o := rfl
  have size : modBits o 0 2 = o.mod.toNat % 4 := by simp [modBits_eq]
  rw [address, size] at exe
  generalize (s.core g).regBad o.b = bad at exe
  have cluster (h : Nat) : ((s.unwait g).when bad fun u => u.launchPoison n).cluster h = s.cluster h := by cases bad <;> rfl
  refine answers_of_done exe ⟨fun i draw hi => ?_, fun draw b out => ?_, fun h hg => ?_, ?_, fun h hg => ?_, ?_, Sent.pf (sent_of_out ?_)⟩
  · rw [State.refreshPf_cluster, settleOp, State.cluster_modCore, State.cluster_modCluster_same,
      Cluster.stored, PMem.byte_write_memAt _ _ _ _ _ (by rwa [toBytes_length]), toBytes_getD _ _ hi]
  · rw [State.refreshPf_cluster, settleOp, State.cluster_modCore, State.cluster_modCluster_same,
      Cluster.stored, PMem.byte_write_memAt_other _ _ _ (by rwa [toBytes_length]), cluster]
  · rw [State.refreshPf_cluster, settleOp, State.cluster_modCore, State.cluster_modCluster_ne _ _ hg, cluster]
  · rw [State.refreshPf_core, settleOp, State.core_modCore_same, State.core_modCluster, launchPoison_when_core, State.unwait_core]; rfl
  · rw [State.refreshPf_core, settleOp, State.core_modCore_ne _ _ hg, State.core_modCluster, launchPoison_when_core]
    exact State.core_modCore_ne _ _ hg
  · exact ((frame_modCore s g _ (by simp)).trans ((frame_launchPoison_when _ n bad (by simp)).trans
      ((frame_modCluster _ _ _ (by simp)).trans (frame_modCore _ g _ (by simp))))).pf
  · cases bad <;> rfl

/-! ### The store buffer -/

/-- The entry of a store of `bytes` at `a`. -/
def SbEntry.holding (id a : Nat) (bytes : List Byte) (bad : List Nat) : SbEntry :=
  { id := id, addr := a / 64 * 64, bytes := (PMem.write {} (memAt (a - a / 64 * 64) bytes) bad).bytes
    poison := (PMem.write {} (memAt (a - a / 64 * 64) bytes) bad).poison }

theorem buffers_holding (id a : Nat) (bytes : List Byte) (bad : List Nat) :
    Buffers (.holding id a bytes bad) (a / 64 * 64) (a - a / 64 * 64) bytes := by
  refine ⟨rfl, rfl, fun i hi => ?_⟩
  rw [SbEntry.holding, PMem.write_bytes]
  refine foldl_smPut_agree _ _ _ (mem_memAt.2 ⟨i, by simp [hi], rfl⟩) fun w hw => ?_
  obtain ⟨j, hj, e⟩ := mem_memAt.1 hw
  obtain rfl : i = j := by omega
  simp [List.getD_eq_getElem?_getD, hj]

/-- The core with one entry more. -/
def Core.holds (c : Core) (e : SbEntry) : Core := { c with store := c.store ++ [e] }

theorem bufferStore_new {a : Nat} {bytes : List Byte} {bad : List Nat}
    (fresh : ∀ e ∈ (u.core g).store, e.addr = a / 64 * 64 → e.sent = true) (room : (u.core g).store.length < 16) :
    bufferStore u n g a bytes bad = .next ((u.when (!bad.isEmpty) fun v => v.launchPoison n).newId.2.modCore g
      (·.holds (.holding u.nextId a bytes bad))) := by
  have none : ((u.core g).store.any fun e => e.addr == a / 64 * 64 && !e.sent) = false := by
    rw [List.any_eq_false]
    intro e he
    by_cases at' : e.addr = a / 64 * 64
    · simp [fresh e he at']
    · simp [at']
  have id : (u.when (!bad.isEmpty) fun v => v.launchPoison n).nextId = u.nextId := by cases !bad.isEmpty <;> rfl
  rw [← id]
  simp only [bufferStore, none, Bool.false_eq_true, if_false, room, if_true]
  rfl

theorem answers_buffered {i : Instr} {a : Nat} {bytes : List Byte} {bad : List Nat}
    (exe : exec i s = done (settleOp g (bufferStore u n g a bytes bad))) (core : u.core g = { s.core g with wait := .none })
    (cores : ∀ h, h ≠ g.val → u.core h = s.core h) (frame : Frame s u [] [.cores, .regions]) (out : u.out = s.out)
    (id : u.nextId = s.nextId) (fresh : ∀ e ∈ (s.core g).store, e.addr = a / 64 * 64 → e.sent = true)
    (room : (s.core g).store.length < 16) : Answers i s fun t =>
      (∃ e, t.core g = { s.core g with store := (s.core g).store ++ [e] }.past ∧ e.id = s.nextId ∧
        Buffers e (a / 64 * 64) (a - a / 64 * 64) bytes) ∧ (∀ h, h ≠ g.val → t.core h = s.core h) ∧
        Frame s t [] [.cores, .regions] ∧ Sent s t [] := by
  rw [bufferStore_new (by rwa [core]) (by rwa [core]), id, settleOp_next_modCore] at exe
  have marked (h : Nat) : (u.when (!bad.isEmpty) fun v => v.launchPoison n).newId.2.core h = u.core h := launchPoison_when_core ..
  refine answers_of_done exe ⟨⟨_, ?_, ?_, buffers_holding s.nextId a bytes bad⟩, fun h hg => ?_, ?_, Sent.pf (sent_of_out ?_)⟩
  · rw [State.refreshPf_core, State.core_modCore_same, marked, core]; rfl
  · rfl
  · rw [State.refreshPf_core, State.core_modCore_ne _ _ hg, marked, cores h hg]
  · exact (frame.trans ((frame_launchPoison_when _ n _ (by simp)).trans ((frame_newId _ _ _).trans
      (frame_modCore _ g _ (by simp))))).pf
  · rw [State.modCore_out]; exact (launchPoison_when_out ..).trans out

theorem exec_st_remote (ready : Ready (.st g o) s n) (space : spaceOf ((s.core g).address o) ≠ spCluster) :
    ∃ bad, exec (.st g o) s = done (settleOp g (bufferStore (s.unwait g) n g ((s.core g).address o)
      (toBytes (2 ^ modBits o 0 2) ((s.core g).reg o.b).toNat) bad)) := by
  obtain ⟨stands, region, pass⟩ := ready.issues rfl
  delta exec
  dsimp only [execSt]
  rw [issue_acts stands region pass]
  exact ⟨_, congrArg (fun x => done (settleOp g x)) (if_neg space)⟩

theorem exec_stg (ready : Ready (.stg g o) s n) :
    exec (.stg g o) s = done (settleOp g (bufferStore { s.unwait g with draws := s.draws + 1 } n g ((s.core g).address o)
      ((s.cluster (g / 8)).mem.read s.draws ((s.core g).reg o.b).toNat 64).1
      ((s.cluster (g / 8)).mem.read s.draws ((s.core g).reg o.b).toNat 64).2)) := by
  obtain ⟨stands, region, pass⟩ := ready.issues rfl
  delta exec
  dsimp only [execStg]
  rw [issue_acts stands region pass]
  rfl

/-- Settles O40, by the space of the address. -/
theorem storesComplete : Obligations.StoresComplete := by
  unfold Obligations.StoresComplete
  intro g o s n c a size base free
  refine ⟨answers_st_cluster, fun ready space room => ?_, fun ready room => ?_⟩
  · obtain ⟨bad, exe⟩ := exec_st_remote ready space
    have width : modBits o 0 2 = o.mod.toNat % 4 := by simp [modBits_eq]
    rw [width] at exe
    exact answers_buffered exe (s.unwait_core g) (fun h hg => State.core_modCore_ne _ _ hg) (frame_modCore s g _ (by simp)) rfl rfl
      room.1 room.2
  · have pass := ready.checks_eq_nil rfl
    simp only [stgChecks, List.append_eq_nil_iff, check_eq_nil, Bool.or_eq_false_iff, decide_eq_false_iff_not, not_not] at pass
    obtain ⟨⟨⟨-, aligned, -⟩, -⟩, -⟩ := pass
    have first : a - a / 64 * 64 = 0 := by
      have : a % 64 = 0 := aligned
      omega
    have kept (h : Nat) (hg : h ≠ g) : (s.unwait g).core h = s.core h := State.core_modCore_ne _ _ hg
    have held := answers_buffered (exec_stg ready) (s.unwait_core g) kept
      ((frame_modCore s g _ (by simp)).trans (frame_draws ..)) rfl rfl room.1 room.2
    exact first ▸ held

end Sys2Proof.Machine
end

section
/-! ATOM (R377, R378, R387, R446, R466, R468): at the bank of cluster space, or as a packet to the unit that serves the address. -/

namespace Sys2Proof.Machine

variable {s u : State} {n : Nat} {o : OpFields} {g : Fin 1024}

/-! ### The fields of the operation -/

/-- Its operation, format and scope, and whether it returns the old value (R466, R468). -/
def atomOp (o : OpFields) : Nat := o.mod.toNat % 16
def atomFmt (o : OpFields) : Nat := o.mod.toNat / 16 % 8
def atomScope (o : OpFields) : Nat := o.imm.toNat % 4
def atomRet (o : OpFields) : Bool := o.mod.getLsbD 7

/-- The poison of its operands. -/
def Core.atomBad (c : Core) (o : OpFields) : Bool := c.regBad o.b || (atomOp o == 7 && c.regBad o.c)

theorem atomOp_eq (o : OpFields) : modBits o 0 4 = atomOp o := by simp [modBits_eq, atomOp]
theorem atomFmt_eq (o : OpFields) : modBits o 4 3 = atomFmt o := by simp [modBits_eq, atomFmt]
theorem atomScope_eq (o : OpFields) : immBits o 0 2 = atomScope o := by simp [immBits, bitsOf, atomScope]
theorem atomRet_eq (o : OpFields) : (modBits o 7 1 == 1) = atomRet o := modBits_one_beq o 7

/-! ### Cluster space (R377) -/

/-- The word at the bank, and the word that the atomic leaves there. -/
def State.atomOld (s : State) (g : Nat) (o : OpFields) : Nat :=
  fromBytes ((List.range (atomBytes (atomFmt o))).map fun i => (s.cluster (g / 8)).mem.byte s.draws (((s.core g).reg o.a).toNat % 2 ^ 21 + i))

def State.atomNew (s : State) (g : Nat) (o : OpFields) : Nat :=
  atomicNew (atomOp o) (atomFmt o) (s.atomOld g o) ((s.core g).reg o.b).toNat ((s.core g).reg o.c).toNat

/-- The poison of the operands or of the word. -/
def State.atomPoison (s : State) (g : Nat) (o : OpFields) : Bool :=
  (s.core g).atomBad o || (s.cluster (g / 8)).mem.poisoned (((s.core g).reg o.a).toNat % 2 ^ 21 / 8)

/-- The bank's word takes the new value. -/
def State.atomDone (s : State) (n g x : Nat) (bytes : List Byte) (bad : Bool) : State :=
  (({ s with draws := s.draws + 1 } : State).modCluster (g / 8) (·.stored x bytes bad)).when bad fun w => w.launchPoison n

/-- The register of a returning atomic takes the old value. -/
def State.returned (s : State) (g : Nat) (o : OpFields) (v : Word64) (bad : Bool) : State :=
  if atomRet o then s.modCore g fun k => k.setReg o.d v bad else s

theorem exec_atom_cluster (ready : Ready (.atom g o) s n) (space : spaceOf ((s.core g).reg o.a).toNat = spCluster) :
    exec (.atom g o) s = done (settleOp g (.next (((s.unwait g).atomDone n g (((s.core g).reg o.a).toNat % 2 ^ 21)
      (toBytes (atomBytes (atomFmt o)) (s.atomNew g o)) (s.atomPoison g o)).returned g o (atomicOld (atomFmt o) (s.atomOld g o))
        (s.atomPoison g o)))) := by
  obtain ⟨stands, region, pass⟩ := ready.issues rfl
  delta exec
  dsimp only [execAtom]
  rw [issue_acts stands region pass]
  simp only [atomOp_eq, atomFmt_eq, atomRet_eq]
  exact congrArg (fun x => done (settleOp g x)) (if_pos space)

theorem State.returned_core (s : State) (g : Nat) (o : OpFields) (v : Word64) (bad : Bool) :
    (s.returned g o v bad).core g = if atomRet o then (s.core g).setReg o.d v bad else s.core g := by
  unfold State.returned
  split
  · exact State.core_modCore_same ..
  · rfl

theorem State.returned_core_ne {h : Nat} (s : State) (g : Nat) (o : OpFields) (v : Word64) (bad : Bool) (hg : h ≠ g) :
    (s.returned g o v bad).core h = s.core h := by
  unfold State.returned
  split
  · exact State.core_modCore_ne _ _ hg
  · rfl

theorem State.returned_cluster (s : State) (g : Nat) (o : OpFields) (v : Word64) (bad : Bool) (k : Nat) :
    (s.returned g o v bad).cluster k = s.cluster k := by
  unfold State.returned
  split <;> rfl

theorem State.returned_out (s : State) (g : Nat) (o : OpFields) (v : Word64) (bad : Bool) : (s.returned g o v bad).out = s.out := by
  unfold State.returned
  split <;> rfl

theorem frame_returned (s : State) (g : Nat) (o : OpFields) (v : Word64) (bad : Bool) {q : List Part} (h : .cores ∈ q) :
    Frame s (s.returned g o v bad) [] q := by
  unfold State.returned
  split
  · exact frame_modCore _ _ _ h
  · exact .refl ..

@[simp] theorem launchPoison_when_cluster (s : State) (n : Nat) (b : Bool) (k : Nat) :
    (s.when b fun u => u.launchPoison n).cluster k = s.cluster k := by cases b <;> rfl

theorem State.atomDone_core (s : State) (n g x : Nat) (bytes : List Byte) (bad : Bool) (h : Nat) :
    (s.atomDone n g x bytes bad).core h = s.core h := launchPoison_when_core ..

theorem State.atomDone_cluster (s : State) (n g x : Nat) (bytes : List Byte) (bad : Bool) :
    (s.atomDone n g x bytes bad).cluster (g / 8) = (s.cluster (g / 8)).stored x bytes bad := by
  rw [State.atomDone, launchPoison_when_cluster, State.cluster_modCluster_same]; rfl

theorem frame_atomDone (s : State) (n g x : Nat) (bytes : List Byte) (bad : Bool) :
    Frame s (s.atomDone n g x bytes bad) [] [.cores, .clusters, .regions] :=
  (frame_draws s (s.draws + 1) [] _).trans ((frame_modCluster _ _ _ (by simp)).trans (frame_launchPoison_when _ n bad (by simp)))

theorem answers_atom_cluster (ready : Ready (.atom g o) s n) (space : spaceOf ((s.core g).reg o.a).toNat = spCluster) :
    Answers (.atom g o) s fun t =>
      let x := ((s.core g).reg o.a).toNat % 2 ^ 21
      let m := (t.cluster (g / 8)).mem
      (∀ i draw, i < atomBytes (atomFmt o) → m.byte draw (x + i) = BitVec.ofNat 8 (s.atomNew g o / 256 ^ i)) ∧
        (∀ draw b, b < x ∨ x + atomBytes (atomFmt o) ≤ b → m.byte draw b = (s.cluster (g / 8)).mem.byte draw b) ∧
        (atomRet o = true → o.d.val ≠ 0 → (t.core g).reg o.d = atomicOld (atomFmt o) (s.atomOld g o)) ∧
        (∀ i, (atomRet o = false ∨ i ≠ o.d.val) → (t.core g).reg i = (s.core g).reg i) ∧
        (t.core g).pc = (s.core g).pc + 8 ∧ (∀ h, h ≠ g.val → t.core h = s.core h) ∧
        Frame s t [] [.cores, .clusters, .regions] ∧ Sent s t [] := by
  have exe := exec_atom_cluster ready space
  generalize s.atomPoison g o = bad at exe
  refine answers_of_done exe ⟨fun i draw hi => ?_, fun draw b out => ?_, fun ret hd => ?_, fun i h => ?_, ?_, fun h hg => ?_, ?_,
    Sent.pf (sent_of_out ?_)⟩
  · rw [State.refreshPf_cluster, settleOp, State.cluster_modCore, State.returned_cluster, State.atomDone_cluster, Cluster.stored,
      PMem.byte_write_memAt _ _ _ _ _ (by rwa [toBytes_length]), toBytes_getD _ _ hi]
  · rw [State.refreshPf_cluster, settleOp, State.cluster_modCore, State.returned_cluster, State.atomDone_cluster, Cluster.stored,
      PMem.byte_write_memAt_other _ _ _ (by rwa [toBytes_length])]
    rfl
  · rw [State.refreshPf_core, settleOp, State.core_modCore_same, State.returned_core, if_pos ret]
    exact Core.reg_setReg_same _ _ _ hd
  · rw [State.refreshPf_core, settleOp, State.core_modCore_same, State.returned_core, State.atomDone_core, State.unwait_core]
    split
    case isTrue ret => exact Core.reg_setReg_ne _ _ _ (h.resolve_left (by simp [ret]))
    case isFalse => rfl
  · rw [State.refreshPf_core, settleOp, State.core_modCore_same, State.returned_core, State.atomDone_core, State.unwait_core]
    split
    · exact congrArg (· + 8) (Core.setReg_pc ..)
    · rfl
  · rw [State.refreshPf_core, settleOp, State.core_modCore_ne _ _ hg, State.returned_core_ne _ _ _ _ _ hg, State.atomDone_core]
    exact State.core_modCore_ne _ _ hg
  · exact ((frame_modCore s g _ (by simp)).trans ((frame_atomDone ..).trans ((frame_returned _ _ _ _ _ (by simp)).trans
      (frame_modCore _ g _ (by simp))))).pf
  · rw [settleOp, State.modCore_out, State.returned_out]
    exact launchPoison_when_out ..

/-! ### The packet of its own (R377) -/

/-- The ATOMIC that core g sends. -/
def State.atomPacket (s : State) (n g : Nat) (o : OpFields) (a x cmp : Nat) (bad : Bool) : Packet :=
  { id := s.nextId, kind := .atomic, region := n, src := .core g, dst := s.server n (tileOfCore g) a true
    addr := a, size := atomBytes (atomFmt o), op := atomOp o, fmt := atomFmt o, scope := atomScope o, operand := x, compare := cmp
    ret := atomRet o, bad := bad, writers := if atomRet o then [] else [g] }

/-- The load that waits for its old value. -/
def atomLoad (id : Nat) (o : OpFields) (a : Nat) : LoadOp :=
  { tag := id, dest := o.d, addr := a, size := atomBytes (atomFmt o), sext := atomFmt o == 0, block := true }

/-- The core awaits that load, or one acknowledgement more. -/
def Core.atomSent (c : Core) (id : Nat) (o : OpFields) (a : Nat) : Core :=
  if atomRet o then { c with loads := c.loads ++ [atomLoad id o a] } else { c with unacked := c.unacked + 1 }

/-- The ATOMIC is in the plane. -/
def State.atomLeft (s : State) (n g : Nat) (o : OpFields) (a x cmp : Nat) (bad : Bool) : State :=
  { s with nextId := s.nextId + 1, net := s.net ++ [s.atomPacket n g o a x cmp bad] }

/-- The ATOMIC leaves. -/
def State.sendOwn (s : State) (n g : Nat) (o : OpFields) (a x cmp : Nat) (bad : Bool) : State :=
  (s.atomLeft n g o a x cmp bad).modCore g (·.atomSent s.nextId o a)

/-- The contribution of core g is in the waiting request `q`. -/
def State.atomJoined (s : State) (g : Nat) (q : Packet) (x : Nat) (bad : Bool) : State :=
  { s with net := s.net.map fun p => if p.id == q.id then p.merge g x bad else p }

/-- The contribution of core g joins the waiting request `q`. -/
def State.joinAtomic (s : State) (g : Nat) (q : Packet) (x : Nat) (bad : Bool) : State :=
  (s.atomJoined g q x bad).modCore g fun k => { k with unacked := k.unacked + 1 }

theorem modCore_atomSent (v : State) (g id a : Nat) (o : OpFields) :
    (if atomRet o = true then v.awaitLoad g (atomLoad id o a) else v.modCore g fun k => { k with unacked := k.unacked + 1 }) =
      v.modCore g (·.atomSent id o a) := by
  unfold Core.atomSent
  cases atomRet o <;> rfl

theorem sendAtomic_alone {a x cmp : Nat} {bad : Bool}
    (h : mergeable (atomOp o) (atomFmt o) (atomRet o) = false ∨ s.mergesWith g a (atomOp o) (atomFmt o) (atomScope o) = none) :
    s.sendAtomic n g o a x cmp bad = s.sendOwn n g o a x cmp bad := by
  have no : (if mergeable (atomOp o) (atomFmt o) (atomRet o) then s.mergesWith g a (atomOp o) (atomFmt o) (atomScope o) else none) =
      none := by
    rcases h with h | h <;> simp [h]
  simp only [State.sendAtomic, atomOp_eq, atomFmt_eq, atomRet_eq, atomScope_eq, no]
  exact modCore_atomSent ..

theorem sendAtomic_merging {a x cmp : Nat} {bad : Bool} {q : Packet} (h : mergeable (atomOp o) (atomFmt o) (atomRet o) = true)
    (hq : s.mergesWith g a (atomOp o) (atomFmt o) (atomScope o) = some q) :
    s.sendAtomic n g o a x cmp bad = (if s.draw.1.getLsbD 0 then s.draw.2.joinAtomic g q x bad else s.draw.2.sendOwn n g o a x cmp bad) := by
  simp only [State.sendAtomic, atomOp_eq, atomFmt_eq, atomRet_eq, atomScope_eq, h, hq, if_true]
  exact if_congr Iff.rfl rfl (modCore_atomSent ..)

/-! ### When it may leave (R387, R639) -/

/-- The core's stores to the granule have been sent, and no access to it at another unit is on its way. -/
def State.AtomBehind (s : State) (n g a : Nat) : Prop :=
  (s.crossWait n g a true = false ∧ ∀ e ∈ (s.core g).store, e.addr ≠ a / 64 * 64) ∨
    s.viaProxy n g a = false ∧ ∀ e ∈ (s.core g).store, e.sent = true

theorem sendEntries_of_sent {k : Nat} (h : ∀ e ∈ (s.core g).store, e.sent = true) : s.sendEntries n g k = s := by
  have none : ((s.core g).store.filter fun e => !e.sent && e.id ≤ k) = [] :=
    List.filter_eq_nil_iff.2 fun e he => by simp [h e he]
  rw [State.sendEntries, none]; rfl

/-- What ATOM of another space does: it sends, or waits. -/
def State.atomRemote (s : State) (c : Core) (n g : Nat) (o : OpFields) (a x cmp : Nat) (bad : Bool) : OpEnd :=
  match c.lastEntry (a / 64 * 64) with
  | none => if s.mayIssue n g && !s.crossWait n g a true then .next (s.sendAtomic n g o a x cmp bad) else .wait .op s
  | some e =>
    let u := s.sendEntries n g e.id
    if u.mayIssue n g && !u.viaProxy n g a && (u.core g).store.all (fun y => y.addr != a / 64 * 64 || y.sent) then
      .next (u.sendAtomic n g o a x cmp bad)
    else .wait .op u

theorem atomRemote_sends {a x cmp : Nat} {bad : Bool} (issues : s.mayIssue n g = true) (behind : s.AtomBehind n g a) :
    s.atomRemote (s.core g) n g o a x cmp bad = .next (s.sendAtomic n g o a x cmp bad) := by
  unfold State.atomRemote
  split
  case h_1 =>
    have free : s.crossWait n g a true = false := by
      rcases behind with ⟨free, -⟩ | ⟨direct, -⟩
      · exact free
      · rw [State.crossWait, direct, Bool.false_and]
    simp [issues, free]
  case h_2 e last =>
    rcases behind with ⟨-, apart⟩ | ⟨direct, sent⟩
    · have none : (s.core g).lastEntry (a / 64 * 64) = none := by
        have : ((s.core g).store.filter fun e => e.addr == a / 64 * 64) = [] :=
          List.filter_eq_nil_iff.2 fun e he => by simp [apart e he]
        rw [Core.lastEntry, this]; rfl
      rw [none] at last
      cases last
    · rw [sendEntries_of_sent sent]
      have all : (s.core g).store.all (fun y => y.addr != a / 64 * 64 || y.sent) = true :=
        List.all_eq_true.2 fun e he => by simp [sent e he]
      simp [issues, direct, all]

theorem exec_atom_remote (ready : Ready (.atom g o) s n) (space : spaceOf ((s.core g).reg o.a).toNat ≠ spCluster)
    (issues : s.mayIssue n g = true) (behind : s.AtomBehind n g ((s.core g).reg o.a).toNat) :
    exec (.atom g o) s = done (settleOp g (.next ((s.unwait g).sendAtomic n g o ((s.core g).reg o.a).toNat ((s.core g).reg o.b).toNat
      ((s.core g).reg o.c).toNat ((s.core g).atomBad o)))) := by
  have behind' : (s.unwait g).AtomBehind n g ((s.core g).reg o.a).toNat := by
    unfold State.AtomBehind
    rw [State.unwait_core]
    exact behind
  rw [← atomRemote_sends (s := s.unwait g) ((State.mayIssue_modCore (s := s) g _ n g).trans issues) behind', State.unwait_core]
  obtain ⟨stands, region, pass⟩ := ready.issues rfl
  delta exec
  dsimp only [execAtom]
  rw [issue_acts stands region pass]
  refine congrArg (fun x => done (settleOp g x)) ((if_neg space).trans ?_)
  simp only [atomOp_eq]
  rfl

/-! ### What it leaves -/

theorem frame_net (s : State) (l : List Packet) (r : List Nat) {q : List Part} (h : .net ∈ q) : Frame s { s with net := l } r q :=
  ⟨fun _ _ _ _ => rfl, fun p hp => by cases p with | net => exact absurd h hp | _ => rfl⟩

theorem frame_atomLeft (s : State) (n g : Nat) (o : OpFields) (a x cmp : Nat) (bad : Bool) :
    Frame s (s.atomLeft n g o a x cmp bad) [] [.cores, .net] := (frame_newId s _ _).trans (frame_net _ _ _ (by simp))

theorem frame_atomJoined (s : State) (g : Nat) (q : Packet) (x : Nat) (bad : Bool) :
    Frame s (s.atomJoined g q x bad) [] [.cores, .net] := frame_net s _ _ (by simp)

/-- A state in which core g has sent, from the one in which it waits for nothing. -/
theorem answers_sent {i : Instr} {f : Core → Core} {p : List Packet} (exe : exec i s = done (settleOp g (.next (u.modCore g f))))
    (core : u.core g = { s.core g with wait := .none }) (cores : ∀ h, h ≠ g.val → u.core h = s.core h) (net : u.net = p)
    (frame : Frame s u [] [.cores, .net]) (out : u.out = s.out) : Answers i s fun t =>
      t.net = p ∧ t.core g = { f { s.core g with wait := .none } with pc := (f { s.core g with wait := .none }).pc + 8 } ∧
        (∀ h, h ≠ g.val → t.core h = s.core h) ∧ Frame s t [] [.cores, .net] ∧ Sent s t [] := by
  rw [settleOp_next_modCore] at exe
  refine answers_of_done exe ⟨?_, ?_, fun h hg => ?_, ?_, Sent.pf (sent_of_out ?_)⟩
  · rw [State.refreshPf_net]; exact net
  · rw [State.refreshPf_core, State.core_modCore_same, core]
  · rw [State.refreshPf_core, State.core_modCore_ne _ _ hg, cores h hg]
  · exact (frame.trans (frame_modCore _ g _ (by simp))).pf
  · exact out

/-- Settles O41, by the space of the address; where a request may be joined, the free bit decides. -/
theorem scalarAtomicsComplete : Obligations.ScalarAtomicsComplete := by
  unfold Obligations.ScalarAtomicsComplete
  intro g o s n c a aop fmt ret scope size mem bad sent behind
  have waits (h : Nat) (hg : h ≠ g) : (s.unwait g).core h = s.core h := State.core_modCore_ne _ _ hg
  have unwait := frame_modCore (r := []) (parts := [.cores, .net]) s g (fun c => { c with wait := .none }) (by simp)
  have own (t : State) (k : Nat) (net : t.net = s.net ++ [({ s.unwait g with draws := k } : State).atomPacket n g o a (c.reg o.b).toNat
      (c.reg o.c).toNat (c.atomBad o)]) : sent t :=
    ⟨_, ⟨net, rfl, rfl, rfl, rfl, rfl, rfl, rfl⟩, rfl, rfl, rfl, rfl, rfl, rfl, rfl, rfl⟩
  have joins : (s.unwait g).mergesWith g a (atomOp o) (atomFmt o) (atomScope o) = s.mergesWith g a aop fmt scope := by
    unfold State.mergesWith
    rw [State.unwait_core]
    rfl
  refine ⟨answers_atom_cluster, fun ready space issues apart alone => ?_, fun q ready space issues apart merges hq => ?_⟩
  · have exe := exec_atom_remote ready space issues apart
    rw [sendAtomic_alone (alone.imp id fun h => joins.trans h)] at exe
    obtain ⟨t, he, net, core, cores, fr, out⟩ := answers_sent exe (s.unwait_core g) waits rfl (unwait.trans (frame_atomLeft ..)) rfl
    refine ⟨t, he, own t s.draws net, ?_, cores, fr, out⟩
    have which : ret = atomRet o := rfl
    rw [core, Core.atomSent, which]
    split
    · exact ⟨atomLoad s.nextId o a, rfl, rfl, rfl, rfl, rfl⟩
    · rfl
  · have exe := exec_atom_remote ready space issues apart
    rw [sendAtomic_merging merges (joins.trans hq)] at exe
    have alone : atomRet o = false := by
      simp only [mergeable, Bool.and_eq_true, Bool.not_eq_true'] at merges
      exact merges.1.1
    split at exe
    · obtain ⟨t, he, net, core, cores, fr, out⟩ := answers_sent exe (s.unwait_core g) waits rfl
        (unwait.trans ((frame_draw _ _ _).trans (frame_atomJoined ..))) rfl
      refine ⟨t, he, .inr (net.trans ?_), core, cores, fr, out⟩
      simp only [State.atomJoined, beq_iff_eq]
      rfl
    · obtain ⟨t, he, net, core, cores, fr, out⟩ := answers_sent exe (s.unwait_core g) waits rfl
        (unwait.trans ((frame_draw _ _ _).trans (frame_atomLeft ..))) rfl
      refine ⟨t, he, .inl (own t (s.draws + 1) net), ?_, cores, fr, out⟩
      rw [core, Core.atomSent, alone]
      rfl

end Sys2Proof.Machine
end

section
/-! What the planes read of the state (R530 to R540): the power state, the regions' routes and rectangles, the quiesces and the islands'
power. A change of other registers leaves what a run of the planes does. -/

namespace Sys2Proof.Machine

variable {s t u : State}

/-- The two states agree in what the planes read beside the packets. -/
structure SamePlane (s t : State) : Prop where
  power : t.power = s.power
  regions : t.regions = s.regions
  quiesce : ∀ n, t.bitAt F.DYN_QUIESCING_QUIESCING n = s.bitAt F.DYN_QUIESCING_QUIESCING n
  islands : ∀ i, t.bitAt F.CLK_ISLAND_POWERED i = s.bitAt F.CLK_ISLAND_POWERED i
  tiles : ∀ n, t.tilesOf n = s.tilesOf n

/-- So do states whose words of those registers are the same. -/
theorem SamePlane.of_words (power : t.power = s.power) (regions : t.regions = s.regions) (quiesce : SameWord R.DYN_QUIESCING s t)
    (islands : SameWord R.CLK_ISLAND s t) (rect : ∀ n, SameWord (R.RGN_RECT n) s t) : SamePlane s t where
  power := power
  regions := regions
  quiesce n := by simp only [State.bitAt, quiesce.fld F.DYN_QUIESCING_QUIESCING rfl]
  islands i := by simp only [State.bitAt, islands.fld F.CLK_ISLAND_POWERED rfl]
  tiles n := tilesOf_congr (rect n).fld

theorem SamePlane.clockStopped (h : SamePlane s t) (x : Nat) : t.clockStopped x = s.clockStopped x := by
  simp only [State.clockStopped, h.power]

theorem SamePlane.rgn (h : SamePlane s t) (n : Nat) : t.rgn n = s.rgn n := by simp only [State.rgn, h.regions]

theorem SamePlane.directPath (h : SamePlane s t) (n a b : Nat) : t.directPath n a b = s.directPath n a b := by
  simp only [State.directPath, h.rgn, h.tiles]

theorem SamePlane.route (h : SamePlane s t) (n a b : Nat) : t.route n a b = s.route n a b := by
  simp only [State.route, h.directPath, h.rgn]

theorem SamePlane.pathOpen (h : SamePlane s t) (l : List Nat) : t.pathOpen l = s.pathOpen l := by
  simp only [State.pathOpen, h.clockStopped, h.islands]

theorem SamePlane.mayEnter (h : SamePlane s t) (pl : Plane) (p : Packet) : t.mayEnter pl p = s.mayEnter pl p := by
  simp only [State.mayEnter, h.quiesce, h.rgn, h.route, h.pathOpen]

theorem SamePlane.enter (h : SamePlane s t) (pl : Plane) (p : Packet) : t.enter pl p = s.enter pl p := by
  simp only [State.enter, h.mayEnter, h.directPath, h.pathOpen]

theorem SamePlane.hop (h : SamePlane s t) (pl : Plane) (tile out : Nat) : t.hop pl tile out = s.hop pl tile out := by
  simp only [State.hop, State.hopVc, h.clockStopped]

theorem SamePlane.sweep (h : SamePlane s t) (pl : Plane) : t.sweep pl = s.sweep pl := by
  unfold State.sweep
  simp only [h.hop, h.enter]

theorem SamePlane.settleN (h : SamePlane s t) (k : Nat) (pl : Plane) : State.settleN k t pl = State.settleN k s pl := by
  induction k generalizing pl with
  | zero => rfl
  | succ k ih => simp only [State.settleN, h.sweep, ih]

theorem SamePlane.settle_net (h : SamePlane s t) (net : t.net = s.net) (mesh : t.mesh = s.mesh) (ctl : t.ctl = s.ctl) :
    t.settle.net = s.settle.net := by
  simp only [State.settle, h.settleN, net, mesh, ctl]

theorem SamePlane.mayIssue (h : SamePlane s t) (net : t.net = s.net) (mesh : t.mesh = s.mesh) (ctl : t.ctl = s.ctl) (n g : Nat) :
    t.mayIssue n g = s.mayIssue n g := by
  simp only [State.mayIssue, State.mayInject, State.backedUp, h.quiesce, h.rgn, h.settle_net net mesh ctl]

end Sys2Proof.Machine
end

section
/-! LD and LDG (R443, R444, R446): what the read of an array finds (R770), what a load that has its bytes leaves, and the READ that leaves
for the others. -/

namespace Sys2Proof.Machine

variable {s t u : State} {n : Nat} {o : OpFields} {g : Fin 1024} {off : Nat}

/-! ### Errors of a cluster's arrays (R770, R775, R777) -/

/-- A register that no corrected error of cluster c writes. -/
def CeApart (c off : Nat) : Prop := off ≠ R.INT_INTEG_TOTAL ∧ (off < 0xa00100 ∨ 0xa00500 ≤ off) ∧ off ≠ R.INT_CLU_ECC c

theorem sameWord_integLog_apart {c : Nat} (h : CeApart c off) (s : State) (e : IntegError) : SameWord off s (s.integLog e) := by
  obtain ⟨total, log, -⟩ := h
  unfold State.integLog
  extract_lets k r w0
  have hk : k < 64 := Nat.mod_lt _ (by decide)
  refine (((((SameWord.refl _ s).setWord _ _ ?_).setWord _ _ ?_).setWord _ _ ?_).setWord _ _ ?_).setFld F.INT_INTEG_TOTAL_TOTAL _ total
  all_goals simp only [R.INT_INTEG_LOG_W0, R.INT_INTEG_LOG_W1, R.INT_INTEG_LOG_W2, R.INT_INTEG_LOG_W3]; omega

theorem sameWord_clusterCe {c : Nat} (h : CeApart c off) (s : State) (e : IntegError) : SameWord off s (s.clusterCe c e) := by
  have counted : SameWord off s (s.count (F.INT_CLU_ECC_CE c)) := (SameWord.refl off s).setFld (F.INT_CLU_ECC_CE c) _ h.2.2
  unfold State.clusterCe State.logCe
  split
  · exact counted
  · exact counted.trans ((sameWord_integLog_apart h _ _).trans (.of_regs rfl))

/-- The count of a cluster's corrected errors is none of the registers that the log of an error writes. -/
theorem eccOff_apart (c : Nat) : R.INT_CLU_ECC c ≠ R.INT_INTEG_TOTAL ∧ (R.INT_CLU_ECC c < 0xa00100 ∨ 0xa00500 ≤ R.INT_CLU_ECC c) := by
  simp only [R.INT_CLU_ECC, R.INT_INTEG_TOTAL]; omega

theorem sameWord_integLog_ecc (c : Nat) (s : State) (e : IntegError) : SameWord (R.INT_CLU_ECC c) s (s.integLog e) :=
  sameWord_integLog_apart (c := c + 1) ⟨(eccOff_apart c).1, (eccOff_apart c).2, by simp only [R.INT_CLU_ECC]; omega⟩ s e

theorem sameWord_logCe_ecc (c : Nat) (s : State) (e : IntegError) : SameWord (R.INT_CLU_ECC c) s (s.logCe e) := by
  unfold State.logCe
  split
  · exact SameWord.refl _ s
  · exact (sameWord_integLog_ecc c s e).trans (.of_regs rfl)

theorem clusterCe_count (s : State) (c : Nat) (e : IntegError) :
    (s.clusterCe c e).fld (F.INT_CLU_ECC_CE c) = min (s.fld (F.INT_CLU_ECC_CE c) + 1) 0xFFFF := by
  have counted : (s.count (F.INT_CLU_ECC_CE c)).fld (F.INT_CLU_ECC_CE c) = min (s.fld (F.INT_CLU_ECC_CE c) + 1) 0xFFFF :=
    fld_countSat _ _ _ (show 0 + 16 ≤ 32 by decide)
  rw [State.clusterCe, (sameWord_logCe_ecc c _ e).fld _ rfl, counted]

theorem clusterUe_count (s : State) (c : Nat) (e : IntegError) :
    (s.clusterUe c e).fld (F.INT_CLU_ECC_UE c) = min (s.fld (F.INT_CLU_ECC_UE c) + 1) 0xFFFF := by
  have raised (u : State) : (u.integRaise e F.INT_INTEG_STATUS_UE).fld (F.INT_CLU_ECC_UE c) = u.fld (F.INT_CLU_ECC_UE c) :=
    ((sameWord_integLog_ecc c u e).trans (sameWord_integEvent _ _ _ (by
      simp only [R.INT_CLU_ECC, F.INT_INTEG_STATUS_UE, R.INT_INTEG_STATUS]; omega))).fld _ rfl
  have top : 2 ^ (F.INT_CLU_ECC_UE c).width - 1 = 0xFFFF := rfl
  rw [State.clusterUe, raised, State.count, fld_countSat _ _ _ (show 16 + 16 ≤ 32 by decide), top]

/-- A corrected error changes registers and what has been logged, and no component. -/
theorem sameParts_clusterCe (s : State) (c : Nat) (e : IntegError) : SameParts [.ceLogged] s (s.clusterCe c e) := by
  unfold State.clusterCe State.logCe
  split
  · exact fun q _ => by cases q <;> rfl
  · exact fun q hq => by cases q with | ceLogged => exact absurd hq (by simp) | _ => rfl

theorem sameParts_clusterUe (s : State) (c : Nat) (e : IntegError) : SameParts [] s (s.clusterUe c e) := fun q _ =>
  Part.same_trans (t := s.count (F.INT_CLU_ECC_UE c)) (by cases q <;> rfl) (integRaise_part _ e _ q)

/-! ### Cluster memory -/

/-- The error of a read is uncorrectable. -/
def isDouble (e : MemError) : Bool := match e with | .double _ => true | _ => false

/-- The error of a read is one that is corrected. -/
def Corrected (e : MemError) : Prop := ∃ b, e = .dataBit b ∨ e = .checkBit b

theorem clusterError_poisoned {c x : Nat} {e : MemError} (h : (s.cluster c).mem.poisoned (x / 8) = true) :
    s.clusterError n c x e = s := if_pos h

theorem clusterError_none (s : State) (n c x : Nat) : s.clusterError n c x .none = s := by
  unfold State.clusterError
  exact ite_self _

/-- A corrected error is counted, and the memory stays. -/
theorem clusterError_corrected {c x : Nat} {e : MemError} (h : (s.cluster c).mem.poisoned (x / 8) = false) (he : Corrected e) :
    ∃ i, s.clusterError n c x e = s.draw.2.clusterCe c i := by
  unfold State.clusterError
  obtain ⟨b, rfl | rfl⟩ := he
  · exact ⟨_, if_neg (by simp [h])⟩
  · exact ⟨_, if_neg (by simp [h])⟩

/-- The cluster with a word of its memory poisoned. -/
def Cluster.poison (k : Cluster) (w : Nat) : Cluster := { k with mem := { k.mem with poison := insertNat k.mem.poison w } }

/-- An uncorrectable one is counted, and poisons the word. -/
theorem clusterError_double {c x : Nat} {syn : BitVec 8} (h : (s.cluster c).mem.poisoned (x / 8) = false) :
    ∃ i, s.clusterError n c x (.double syn) = (s.clusterUe c i).modCluster c (·.poison (x / 8)) := by
  unfold State.clusterError
  exact ⟨_, if_neg (by simp [h])⟩

theorem insertNat_contains (l : List Nat) (x : Nat) : (insertNat l x).contains x = true := by
  induction l with
  | nil => simp [insertNat]
  | cons y l ih =>
    unfold insertNat
    split
    · simp
    · split
      · simp_all
      · rw [List.contains_cons, ih, Bool.or_true]

theorem core_of_cores (h : t.cores = s.cores) (k : Nat) : t.core k = s.core k := by simp only [State.core, h]
theorem cluster_of_clusters (h : t.clusters = s.clusters) (k : Nat) : t.cluster k = s.cluster k := by simp only [State.cluster, h]

/-- What the read of cluster memory finds changes no byte and no core; the word is poisoned that was, or has an uncorrectable error. -/
theorem clusterError_spec (s : State) (n c x : Nat) (e : MemError) :
    let t := s.clusterError n c x e
    t.cores = s.cores ∧ (t.cluster c).mem.bytes = (s.cluster c).mem.bytes ∧
      (t.cluster c).mem.poisoned (x / 8) = ((s.cluster c).mem.poisoned (x / 8) || isDouble e) := by
  intro t
  cases h : (s.cluster c).mem.poisoned (x / 8)
  case true =>
    have same : t = s := clusterError_poisoned h
    rw [same, h]
    exact ⟨rfl, rfl, rfl⟩
  case false =>
    have corrected (he : Corrected e) : t.cores = s.cores ∧ t.clusters = s.clusters := by
      obtain ⟨i, ht⟩ := clusterError_corrected (n := n) h he
      have parts := sameParts_clusterCe s.draw.2 c i
      exact ⟨(congrArg State.cores ht).trans (parts .cores (by simp)), (congrArg State.clusters ht).trans (parts .clusters (by simp))⟩
    cases e with
    | double syn =>
      obtain ⟨i, ht⟩ := clusterError_double (n := n) (syn := syn) h
      have same : (s.clusterUe c i).cluster c = s.cluster c := cluster_of_clusters (sameParts_clusterUe s c i .clusters (by simp)) c
      have at' : t.cluster c = (s.cluster c).poison (x / 8) := (congrArg (State.cluster · c) ht).trans
        ((State.cluster_modCluster_same ..).trans (congrArg (Cluster.poison · (x / 8)) same))
      refine ⟨(congrArg State.cores ht).trans (sameParts_clusterUe s c i .cores (by simp)), (congrArg (fun k : Cluster => k.mem.bytes) at').trans rfl, ?_⟩
      rw [at']
      exact insertNat_contains ..
    | dataBit b =>
      obtain ⟨cores, clusters⟩ := corrected ⟨b, .inl rfl⟩
      rw [cluster_of_clusters clusters, h]
      exact ⟨cores, rfl, rfl⟩
    | checkBit b =>
      obtain ⟨cores, clusters⟩ := corrected ⟨b, .inr rfl⟩
      rw [cluster_of_clusters clusters, h]
      exact ⟨cores, rfl, rfl⟩
    | _ =>
      have same : t = s := by
        show s.clusterError n c x _ = s
        unfold State.clusterError
        exact ite_self _
      rw [same, h]
      exact ⟨rfl, rfl, rfl⟩

/-! ### A load that has its bytes -/

/-- The bytes of a load, those of its core's own store buffer first (R386). -/
def LoadOp.value (l : LoadOp) (bytes : List Byte) : List Byte := (List.range l.size).map fun i => smGet l.overlay (bytes.getD i 0) i

/-- Whether one of them is poisoned. -/
def LoadOp.bad (l : LoadOp) (bad : Nat → Bool) : Bool :=
  (List.range l.size).any fun i =>
    if l.overlay.any fun e => e.1 == i then l.overlayBad.contains ((l.addr + i) / 8) else bad i

theorem loadDone_register {l : LoadOp} (h : l.granule = false) (s : State) (n g : Nat) (bytes : List Byte) (bad : Nat → Bool) :
    s.loadDone n g l bytes bad = (s.when (l.bad bad) fun u => u.launchPoison n).modCore g fun c =>
      c.setReg l.dest (extend (l.value bytes) l.sext) (l.bad bad) := by
  unfold State.loadDone
  simp only [h, Bool.false_eq_true, if_false]
  rfl

theorem LoadOp.bad_plain {l : LoadOp} (h : l.overlay = []) (pos : 0 < l.size) (b : Bool) : l.bad (fun _ => b) = b := by
  unfold LoadOp.bad
  simp only [h, List.any_nil, Bool.false_eq_true, if_false]
  cases b
  · simp
  · exact List.any_eq_true.2 ⟨0, List.mem_range.2 pos, rfl⟩

theorem LoadOp.value_plain {l : LoadOp} (h : l.overlay = []) (f : Nat → Byte) :
    l.value ((List.range l.size).map f) = (List.range l.size).map f := by
  unfold LoadOp.value
  refine List.map_congr_left fun i hi => ?_
  simp [h, List.mem_range.1 hi]

/-- A byte that the memory holds does not depend on the draw. -/
theorem smGet_of_any {α : Type} (m : SMap α) (d e : α) {a : Nat} (h : (m.any fun b => b.1 == a) = true) : smGet m d a = smGet m e a := by
  induction m with
  | nil => simp at h
  | cons b m ih =>
    unfold smGet
    split
    · rfl
    · simp only [List.any_cons, Bool.or_eq_true, beq_iff_eq] at h
      exact ih (h.resolve_left ‹_›)

/-! ### LD of cluster space -/

/-- The load that an LD asks for. -/
def ldLoad (o : OpFields) (a : Nat) : LoadOp :=
  { tag := 0, dest := o.d, addr := a, size := 2 ^ (o.mod.toNat % 4), sext := o.mod.getLsbD 2 }

/-- A load of cluster space reads the memory after what the read finds. -/
def State.clusterLoad (s : State) (n g : Nat) (o : OpFields) (a : Nat) (e : MemError) : State :=
  let t := s.clusterError n (g / 8) (a % 2 ^ 21) e
  let m := (t.cluster (g / 8)).mem
  State.loadDone { t with draws := t.draws + 1 } n g (ldLoad o a) (m.read t.draws (a % 2 ^ 21) (2 ^ (o.mod.toNat % 4))).1 fun _ =>
    m.poisoned (a % 2 ^ 21 / 8)

theorem exec_ld_cluster {e : MemError} (ready : Ready (.ld g o e) s n) (space : spaceOf (effAddr (s.core g) o) = spCluster) :
    exec (.ld g o e) s = done (settleOp g (.next ((s.unwait g).clusterLoad n g o (effAddr (s.core g) o) e))) := by
  obtain ⟨stands, region, pass⟩ := ready.issues rfl
  have size : modBits o 0 2 = o.mod.toNat % 4 := by simp [modBits_eq]
  have sext : (modBits o 2 1 == 1) = o.mod.getLsbD 2 := modBits_one_beq o 2
  delta exec
  dsimp only [execLd]
  rw [issue_acts stands region pass]
  have at' : Core.address { s.core g with wait := .none } o = effAddr (s.core g) o := rfl
  simp only [at', space, if_true, size, sext]
  rfl

theorem ldLoad_value (m : PMem) (draw : Nat) (o : OpFields) (a x : Nat) :
    (ldLoad o a).value (m.read draw x (2 ^ (o.mod.toNat % 4))).1 = (List.range (2 ^ (o.mod.toNat % 4))).map fun i => m.byte draw (x + i) :=
  LoadOp.value_plain (l := ldLoad o a) rfl _

theorem clusterLoad_eq (s : State) (n g : Nat) (o : OpFields) (a : Nat) (e : MemError) :
    let t := s.clusterError n (g / 8) (a % 2 ^ 21) e
    let bad := (t.cluster (g / 8)).mem.poisoned (a % 2 ^ 21 / 8)
    s.clusterLoad n g o a e = (t.draw.2.when bad fun u => u.launchPoison n).modCore g fun c =>
      c.setReg o.d (extend ((List.range (2 ^ (o.mod.toNat % 4))).map fun i => (t.cluster (g / 8)).mem.byte t.draws (a % 2 ^ 21 + i))
        (o.mod.getLsbD 2)) bad := by
  intro t bad
  unfold State.clusterLoad
  rw [loadDone_register rfl, LoadOp.bad_plain rfl (Nat.two_pow_pos _), ldLoad_value]
  rfl

/-- Past a load of cluster space the destination holds the bytes, with the poison of their word. -/
theorem answers_ld_cluster {e : MemError} {found : State} (ready : Ready (.ld g o e) s n) (space : spaceOf (effAddr (s.core g) o) = spCluster)
    (bytes : (∀ i < 2 ^ (o.mod.toNat % 4), (s.cluster (g / 8)).mem.bytes.any
      (fun b => b.1 == effAddr (s.core g) o % 2 ^ 21 + i) = true) ∨ e = .none)
    (finds : (s.unwait g).clusterError n (g / 8) (effAddr (s.core g) o % 2 ^ 21) e = found) :
    Answers (.ld g o e) s fun t =>
      let x := effAddr (s.core g) o % 2 ^ 21
      t.core g = ((s.core g).setReg o.d (extend ((List.range (2 ^ (o.mod.toNat % 4))).map fun i =>
          (s.cluster (g / 8)).mem.byte s.draws (x + i)) (o.mod.getLsbD 2))
            ((s.cluster (g / 8)).mem.poisoned (x / 8) || isDouble e)).past ∧
        (∀ h, h ≠ g.val → t.core h = s.core h) ∧ Frame found t [] [.cores, .regions] ∧ Sent found t [] := by
  have exe := exec_ld_cluster ready space
  obtain ⟨cores, same, poison⟩ := clusterError_spec (s.unwait g) n (g / 8) (effAddr (s.core g) o % 2 ^ 21) e
  have read : (List.range (2 ^ (o.mod.toNat % 4))).map (fun i => (found.cluster (g / 8)).mem.byte found.draws
      (effAddr (s.core g) o % 2 ^ 21 + i)) =
      (List.range (2 ^ (o.mod.toNat % 4))).map fun i => (s.cluster (g / 8)).mem.byte s.draws (effAddr (s.core g) o % 2 ^ 21 + i) := by
    refine List.map_congr_left fun i hi => ?_
    rcases bytes with bytes | rfl
    · rw [PMem.byte, ← finds, same]
      exact smGet_of_any _ _ _ (bytes i (List.mem_range.1 hi))
    · rw [← finds, clusterError_none]; rfl
  rw [clusterLoad_eq, settleOp_next_modCore] at exe
  rw [finds] at exe cores poison
  rw [show (s.unwait g).cluster (g / 8) = s.cluster (g / 8) from rfl] at poison
  rw [read, poison] at exe
  have core (h : Nat) : found.draw.2.core h = (s.unwait g).core h := core_of_cores cores h
  refine answers_of_done exe ⟨?_, fun h hg => ?_, ?_, Sent.pf (sent_of_out ?_)⟩
  · rw [State.refreshPf_core, State.core_modCore_same, launchPoison_when_core, core, State.unwait_core]
    simp only [Core.setReg_wait, Core.setReg_pc, Core.past]
  · rw [State.refreshPf_core, State.core_modCore_ne _ _ hg, launchPoison_when_core, core]
    exact State.core_modCore_ne _ _ hg
  · exact ((frame_draw found _ _).trans ((frame_launchPoison_when _ n _ (by simp)).trans (frame_modCore _ g _ (by simp)))).pf
  · rw [State.modCore_out, launchPoison_when_out]; rfl

/-- What the read of a word found, beside the load. -/
theorem answers_ld_array {e : MemError} (ready : Ready (.ld g o e) s n) (space : spaceOf (effAddr (s.core g) o) = spCluster)
    (bytes : ∀ i < 2 ^ (o.mod.toNat % 4), (s.cluster (g / 8)).mem.bytes.any
      (fun b => b.1 == effAddr (s.core g) o % 2 ^ 21 + i) = true) :
    Answers (.ld g o e) s fun t =>
      let x := effAddr (s.core g) o % 2 ^ 21
      let mem := (s.cluster (g / 8)).mem
      t.core g = ((s.core g).setReg o.d (extend ((List.range (2 ^ (o.mod.toNat % 4))).map fun i => mem.byte s.draws (x + i))
          (o.mod.getLsbD 2)) (mem.poisoned (x / 8) || isDouble e)).past ∧ (∀ h, h ≠ g.val → t.core h = s.core h) ∧
        (mem.poisoned (x / 8) = false → Corrected e →
          t.fld (F.INT_CLU_ECC_CE (g / 8)) = min (s.fld (F.INT_CLU_ECC_CE (g / 8)) + 1) 0xFFFF ∧ t.clusters = s.clusters) ∧
        (mem.poisoned (x / 8) = false → (∃ syn, e = .double syn) →
          t.fld (F.INT_CLU_ECC_UE (g / 8)) = min (s.fld (F.INT_CLU_ECC_UE (g / 8)) + 1) 0xFFFF ∧
            (t.cluster (g / 8)).mem.poisoned (x / 8) = true) := by
  have status : R.INT_CLU_ECC (g / 8) ≠ R.INT_PF_STATUS := by simp only [R.INT_CLU_ECC, R.INT_PF_STATUS]; omega
  obtain ⟨t, he, core, cores, fr, -⟩ := answers_ld_cluster ready space (.inl bytes) rfl
  have clusters := fr.2 .clusters (by simp)
  refine ⟨t, he, core, cores, fun clean corrected => ?_, fun clean ⟨syn, double⟩ => ?_⟩
  · obtain ⟨i, found⟩ := clusterError_corrected (s := s.unwait g) (n := n) (c := g / 8) (x := effAddr (s.core g) o % 2 ^ 21) clean corrected
    rw [found] at fr clusters
    refine ⟨(fr.fld_eq _ status (by simp)).trans (clusterCe_count ..), clusters.trans (sameParts_clusterCe _ _ i .clusters (by simp))⟩
  · rw [double] at fr clusters
    obtain ⟨i, found⟩ := clusterError_double (s := s.unwait g) (n := n) (c := g / 8) (x := effAddr (s.core g) o % 2 ^ 21) (syn := syn) clean
    rw [found] at fr clusters
    refine ⟨(fr.fld_eq _ status (by simp)).trans (clusterUe_count ..), ?_⟩
    rw [cluster_of_clusters clusters, State.cluster_modCluster_same]
    exact insertNat_contains ..

/-! ### The READ of the others (R446) -/

/-- The line leaves the cluster's read-only cache, and a fetch of it is not kept. -/
def State.dropRo (s : State) (g a : Nat) : State :=
  (s.modCluster (g / 8) fun c => { c with ro := c.ro.filter fun r => r.line != a / 128 }).stopFills (g / 8) fun x => x.addr / 128 == a / 128

/-- The READ of a load: of its bytes, or of the line. -/
def State.readPacket (s : State) (n g a size : Nat) (vol line : Bool) : Packet :=
  { id := s.nextId, kind := .read, region := n, src := .core g, dst := s.server n (tileOfCore g) a vol
    addr := if line then a / 128 * 128 else a, size := if line then 128 else size }

/-- A packet waits at its source. -/
def State.withPacket (s : State) (p : Packet) : State := { s with net := s.net ++ [p] }

theorem State.withPacket_core (s : State) (p : Packet) (k : Nat) : (s.withPacket p).core k = s.core k := rfl
theorem State.withPacket_cluster (s : State) (p : Packet) (k : Nat) : (s.withPacket p).cluster k = s.cluster k := rfl
theorem State.withPacket_net (s : State) (p : Packet) : (s.withPacket p).net = s.net ++ [p] := rfl
theorem State.withPacket_out (s : State) (p : Packet) : (s.withPacket p).out = s.out := rfl

theorem frame_withPacket (s : State) (p : Packet) {r : List Nat} {q : List Part} (h : .net ∈ q) : Frame s (s.withPacket p) r q :=
  frame_net s _ r h

/-- The READ has left. -/
def State.readLeft (s : State) (n g a size : Nat) (vol line : Bool) : State :=
  (s.newId.2.when vol (·.dropRo g a)).withPacket (s.readPacket n g a size vol line)

/-- The load as it waits. -/
def LoadOp.awaiting (l : LoadOp) (ov : Mem × List Nat) (tag : Nat) (fill : Bool) : LoadOp :=
  { l with overlay := ov.1, overlayBad := ov.2, tag := tag, fill := fill }

theorem remoteLoad_sends {a : Nat} {l : LoadOp} {vol : Bool} (line : Bool) (ro : (!vol && s.readOnlyAt n a) = line)
    (miss : line = true → (s.cluster (g / 8)).roLine a = none ∧ s.filling (g / 8) (a / 128) = none) (go : s.mayIssue n g = true)
    (order : s.crossWait n g a vol = false) :
    remoteLoad s n g a l vol = .next ((s.readLeft n g a l.size vol line).modCore g fun c =>
      { c with loads := c.loads ++ [l.awaiting (s.buffered g a l.size) s.nextId line] }) := by
  have h1 : (if line = true then (s.cluster (g / 8)).roLine a else none) = none := by
    cases line
    · rfl
    · exact (miss rfl).1
  have h2 : (if line = true then s.filling (g / 8) (a / 128) else none) = none := by
    cases line
    · rfl
    · exact (miss rfl).2
  unfold remoteLoad
  simp only [ro, h1, h2, go, order, Bool.not_true, Bool.or_self, Bool.false_eq_true, if_false]
  rfl

theorem remoteLoad_joins {a tag : Nat} {l : LoadOp} (ro : s.readOnlyAt n a = true) (miss : (s.cluster (g / 8)).roLine a = none)
    (fetch : s.filling (g / 8) (a / 128) = some tag) :
    remoteLoad s n g a l false = .next (s.modCore g fun c =>
      { c with loads := c.loads ++ [l.awaiting (s.buffered g a l.size) tag true] }) := by
  unfold remoteLoad
  simp only [ro, miss, fetch, Bool.not_false, Bool.and_self, if_true]
  rfl

theorem remoteLoad_hits {a : Nat} {l : LoadOp} {r : RoLine} (ro : s.readOnlyAt n a = true) (hit : (s.cluster (g / 8)).roLine a = some r)
    (h : l.granule = false) : ∃ bad, remoteLoad s n g a l false = .next (((s.modCluster (g / 8) fun c => c.putRo r).when bad fun u =>
      u.launchPoison n).modCore g fun c => c.setReg l.dest (extend ((List.range l.size).map fun i =>
        smGet (s.buffered g a l.size).1 (smGet r.bytes 0 (a % 128 + i)) i) l.sext) bad) := by
  unfold remoteLoad
  simp only [ro, hit, Bool.not_false, Bool.and_self, if_true]
  have value : LoadOp.value { l with overlay := (s.buffered g a l.size).1, overlayBad := (s.buffered g a l.size).2 }
      ((List.range l.size).map fun i => smGet r.bytes 0 (a % 128 + i)) =
      (List.range l.size).map fun i => smGet (s.buffered g a l.size).1 (smGet r.bytes 0 (a % 128 + i)) i := by
    refine List.map_congr_left fun i hi => ?_
    simp [List.mem_range.1 hi]
  rw [loadDone_register (l := { l with overlay := (s.buffered g a l.size).1, overlayBad := (s.buffered g a l.size).2 }) h, value]
  exact ⟨_, rfl⟩

/-! ### What the state of its issue shows -/

theorem unwait_buffered (s : State) (g a k : Nat) : (s.unwait g).buffered g a k = s.buffered g a k := by
  unfold State.buffered State.forwarding
  rw [State.unwait_core]
  rfl

theorem filling_congr (h : ∀ k, (t.core k).loads = (s.core k).loads) (c line : Nat) : t.filling c line = s.filling c line := by
  unfold State.filling
  simp only [h]

theorem unwait_filling (s : State) (g c line : Nat) : (s.unwait g).filling c line = s.filling c line := by
  refine filling_congr (fun k => ?_) c line
  by_cases hk : k = g
  · rw [hk, State.unwait_core]
  · exact congrArg Core.loads (State.core_modCore_ne _ _ hk)

theorem unwait_mayIssue (s : State) (n g : Nat) : (s.unwait g).mayIssue n g = s.mayIssue n g := State.mayIssue_modCore ..

/-- The load that an LDG asks for. -/
def ldgLoad (c : Core) (o : OpFields) : LoadOp :=
  { tag := 0, granule := true, dest := (c.reg o.b).toNat, addr := effAddr c o, size := 64 }

theorem exec_ldg (ready : Ready (.ldg g o) s n) :
    exec (.ldg g o) s = done (settleOp g (remoteLoad (s.unwait g) n g (effAddr (s.core g) o)
      (ldgLoad (s.core g) o) (o.mod.getLsbD 3))) := by
  obtain ⟨stands, region, pass⟩ := ready.issues rfl
  have vol : (modBits o 3 1 == 1) = o.mod.getLsbD 3 := modBits_one_beq o 3
  delta exec
  dsimp only [execLdg]
  rw [issue_acts stands region pass, vol]
  rfl

theorem modBits_zero_beq (o : OpFields) (i : Nat) : (modBits o i 1 == 0) = !o.mod.getLsbD i := by
  have one := modBits_one_beq o i
  have two : modBits o i 1 < 2 := Nat.mod_lt _ (by decide)
  rw [← one, Bool.eq_iff_iff]
  simp only [beq_iff_eq, Bool.not_eq_true', beq_eq_false_iff_ne, ne_eq]
  omega

/-- The array that a load of another space reads first is its line in the read-only cache. -/
def State.ldHit (s : State) (n g a : Nat) (vol : Bool) : Bool := !vol && s.readOnlyAt n a && ((s.cluster (g / 8)).roLine a).isSome

theorem exec_ld_remote {e : MemError} (ready : Ready (.ld g o e) s n) (space : spaceOf (effAddr (s.core g) o) ≠ spCluster) :
    exec (.ld g o e) s = done (settleOp g (remoteLoad (if s.ldHit n g (effAddr (s.core g) o) (o.mod.getLsbD 3) then
      (s.unwait g).roError n (g / 8) (effAddr (s.core g) o) e else s.unwait g) n g (effAddr (s.core g) o)
        (ldLoad o (effAddr (s.core g) o)) (o.mod.getLsbD 3))) := by
  obtain ⟨stands, region, pass⟩ := ready.issues rfl
  have size : modBits o 0 2 = o.mod.toNat % 4 := by simp [modBits_eq]
  have sext : (modBits o 2 1 == 1) = o.mod.getLsbD 2 := modBits_one_beq o 2
  have vol : (modBits o 3 1 == 1) = o.mod.getLsbD 3 := modBits_one_beq o 3
  delta exec
  dsimp only [execLd]
  rw [issue_acts stands region pass]
  have at' : Core.address { s.core g with wait := .none } o = effAddr (s.core g) o := rfl
  simp only [at', space, if_false, size, sext, vol, modBits_zero_beq, ne_eq, not_false_eq_true, decide_true, Bool.true_and]
  rfl

/-- A load that finds no line in the read-only cache goes on from the state of its issue. -/
theorem exec_ld_miss {e : MemError} (ready : Ready (.ld g o e) s n) (space : spaceOf (effAddr (s.core g) o) ≠ spCluster)
    (miss : o.mod.getLsbD 3 = true ∨ s.readOnlyAt n (effAddr (s.core g) o) = false ∨
      (s.cluster (g / 8)).roLine (effAddr (s.core g) o) = none) :
    exec (.ld g o e) s = done (settleOp g (remoteLoad (s.unwait g) n g (effAddr (s.core g) o) (ldLoad o (effAddr (s.core g) o))
      (o.mod.getLsbD 3))) := by
  have no : s.ldHit n g (effAddr (s.core g) o) (o.mod.getLsbD 3) = false := by
    rcases miss with h | h | h <;> simp [State.ldHit, h]
  rw [exec_ld_remote ready space, no]
  rfl

/-- One that finds it reads its line. -/
theorem exec_ld_hit {e : MemError} {r : RoLine} (ready : Ready (.ld g o e) s n) (space : spaceOf (effAddr (s.core g) o) ≠ spCluster)
    (vol : o.mod.getLsbD 3 = false) (ro : s.readOnlyAt n (effAddr (s.core g) o) = true)
    (hit : (s.cluster (g / 8)).roLine (effAddr (s.core g) o) = some r) :
    exec (.ld g o e) s = done (settleOp g (remoteLoad ((s.unwait g).roError n (g / 8) (effAddr (s.core g) o) e) n g
      (effAddr (s.core g) o) (ldLoad o (effAddr (s.core g) o)) false)) := by
  have yes : s.ldHit n g (effAddr (s.core g) o) false = true := by simp [State.ldHit, ro, hit]
  rw [exec_ld_remote ready space, vol, yes]
  rfl

/-! ### Loads that leave -/

theorem frame_readLeft (s : State) (n g a k : Nat) (line : Bool) : Frame s (s.readLeft n g a k false line) [] [.cores, .net] :=
  (frame_newId s _ _).trans (frame_withPacket _ _ (by simp))

theorem injected_readLeft {a k : Nat} {vol line : Bool} (u : State) (net : t.net = s.net ++ [u.readPacket n g a k vol line])
    (id : u.nextId = s.nextId) (server : u.server n (tileOfCore g) a vol = s.server n (tileOfCore g) a vol) :
    ∃ p, Injected s t n (.core g) (s.server n (tileOfCore g) a vol) .read (if line then a / 128 * 128 else a) (if line then 128 else k) p :=
  ⟨_, net, id, rfl, rfl, rfl, server, rfl, rfl⟩

theorem awaits_awaiting (l : LoadOp) (tag : Nat) (fill : Bool) (h : l.block = false) :
    Awaits s g (l.awaiting (s.buffered g l.addr l.size) tag fill) tag l.dest l.addr l.size := ⟨rfl, rfl, rfl, rfl, h, rfl, rfl⟩

/-- A load that is not VOLATILE leaves as a READ, and the core goes on. -/
theorem answers_readLeft {i : Instr} {l : LoadOp} (line : Bool)
    (exe : exec i s = done (settleOp g (remoteLoad (s.unwait g) n g l.addr l false)))
    (ro : s.readOnlyAt n l.addr = line) (miss : line = true → (s.cluster (g / 8)).roLine l.addr = none ∧
      s.filling (g / 8) (l.addr / 128) = none) (block : l.block = false)
    (go : s.mayIssue n g = true ∧ s.crossWait n g l.addr false = false) : Answers i s fun t =>
      (∃ p, Injected s t n (.core g) (s.server n (tileOfCore g) l.addr false) .read (if line then l.addr / 128 * 128 else l.addr)
        (if line then 128 else l.size) p) ∧
        (∃ m, t.core g = { s.core g with loads := (s.core g).loads ++ [m] }.past ∧ Awaits s g m s.nextId l.dest l.addr l.size ∧
          m.granule = l.granule ∧ m.sext = l.sext ∧ m.fill = line) ∧
        (∀ h, h ≠ g.val → t.core h = s.core h) ∧ Frame s t [] [.cores, .net] ∧ Sent s t [] := by
  rw [remoteLoad_sends (s := s.unwait g) line (show (!false && _) = line from ro) (fun h => ⟨(miss h).1, (unwait_filling ..).trans (miss h).2⟩)
    ((unwait_mayIssue s n g).trans go.1) go.2, unwait_buffered] at exe
  obtain ⟨t, he, net, core, cores, fr, out⟩ := answers_sent exe (s.unwait_core g)
    (fun h hg => show (s.unwait g).core h = _ from State.core_modCore_ne _ _ hg) rfl
    ((frame_modCore s g _ (by simp)).trans (frame_readLeft ..)) rfl
  exact ⟨t, he, injected_readLeft (s.unwait g) net rfl rfl, ⟨_, core, awaits_awaiting l _ line block, rfl, rfl, rfl⟩, cores, fr, out⟩

/-! ### VOLATILE loads -/

/-- What stays where the fetches of a cluster are not kept: each core but for what its loads fill. -/
structure FillsStopped (s t : State) : Prop where
  regs : ∀ k, (t.core k).regs = (s.core k).regs
  pc : ∀ k, (t.core k).pc = (s.core k).pc
  frame : Frame s t [] [.cores]
  out : t.out = s.out

theorem fillsStopped (s : State) (c : Nat) (p : LoadOp → Bool) : FillsStopped s (s.stopFills c p) := by
  unfold State.stopFills
  refine overList_keeps (FillsStopped s) _ _ _ ⟨fun _ => rfl, fun _ => rfl, .refl .., rfl⟩ fun u k h => ?_
  split
  · refine ⟨fun j => ?_, fun j => ?_, h.frame.trans (frame_modCore _ _ _ (by simp)), h.out⟩
    · by_cases hj : j = k
      · rw [hj, State.core_modCore_same]; exact h.regs k
      · rw [State.core_modCore_ne _ _ hj]; exact h.regs j
    · by_cases hj : j = k
      · rw [hj, State.core_modCore_same]; exact h.pc k
      · rw [State.core_modCore_ne _ _ hj]; exact h.pc j
  · exact h

theorem dropRo_spec (s : State) (g a : Nat) : (∀ k, ((s.dropRo g a).core k).regs = (s.core k).regs) ∧
    (∀ k, ((s.dropRo g a).core k).pc = (s.core k).pc) ∧ ((s.dropRo g a).cluster (g / 8)).roLine a = none ∧
    (s.dropRo g a).net = s.net ∧ Frame s (s.dropRo g a) [] [.cores, .clusters, .net] ∧ (s.dropRo g a).out = s.out := by
  obtain ⟨regs, pc, fr, out⟩ := fillsStopped (s.modCluster (g / 8) fun c => { c with ro := c.ro.filter fun r => r.line != a / 128 }) (g / 8)
    fun x => x.addr / 128 == a / 128
  refine ⟨regs, pc, ?_, fr.2 .net (by simp), (frame_modCluster s _ _ (by simp)).trans (fr.mono (by simp) (by simp)), out⟩
  unfold State.dropRo
  rw [cluster_of_clusters (fr.2 .clusters (by simp)), State.cluster_modCluster_same]
  unfold Cluster.roLine
  simp

/-- The READ of a VOLATILE load has left, and the line has left the read-only cache. -/
theorem readLeft_volatile (s : State) (n g a k : Nat) :
    let t := s.readLeft n g a k true false
    (∀ k, (t.core k).regs = (s.core k).regs) ∧ (∀ k, (t.core k).pc = (s.core k).pc) ∧ (t.cluster (g / 8)).roLine a = none ∧
      t.net = s.net ++ [s.readPacket n g a k true false] ∧ Frame s t [] [.cores, .clusters, .net] ∧ t.out = s.out := by
  obtain ⟨regs, pc, line, net, fr, out⟩ := dropRo_spec s.newId.2 g a
  have left : s.readLeft n g a k true false = (s.newId.2.dropRo g a).withPacket (s.readPacket n g a k true false) := rfl
  rw [left]
  refine ⟨fun j => ?_, fun j => ?_, ?_, ?_, (frame_newId s _ _).trans (fr.trans (frame_withPacket _ _ (by simp))), ?_⟩
  · rw [State.withPacket_core, regs]; rfl
  · rw [State.withPacket_core, pc]; rfl
  · rw [State.withPacket_cluster, line]
  · rw [State.withPacket_net, net]; rfl
  · rw [State.withPacket_out, out]; rfl

/-- A VOLATILE load leaves as a READ of its own, and the line leaves the read-only cache. -/
theorem answers_ld_volatile {e : MemError} (ready : Ready (.ld g o e) s n) (space : spaceOf (effAddr (s.core g) o) ≠ spCluster)
    (vol : o.mod.getLsbD 3 = true) (go : s.mayIssue n g = true) (order : s.crossWait n g (effAddr (s.core g) o) true = false) :
    Answers (.ld g o e) s fun t =>
      (∃ p, Injected s t n (.core g) (s.server n (tileOfCore g) (effAddr (s.core g) o) true) .read (effAddr (s.core g) o)
        (2 ^ (o.mod.toNat % 4)) p) ∧ (t.cluster (g / 8)).roLine (effAddr (s.core g) o) = none ∧
        (∃ l, (t.core g).loads.getLast? = some l ∧ Awaits s g l s.nextId o.d (effAddr (s.core g) o) (2 ^ (o.mod.toNat % 4)) ∧
          l.granule = false ∧ l.sext = o.mod.getLsbD 2 ∧ l.fill = false) ∧ (t.core g).regs = (s.core g).regs ∧
        (t.core g).pc = (s.core g).pc + 8 ∧ Frame s t [] [.cores, .clusters, .net] ∧ Sent s t [] := by
  have exe := exec_ld_miss ready space (.inl vol)
  have awaits := awaits_awaiting (s := s) (g := g) (ldLoad o (effAddr (s.core g) o)) s.nextId false rfl
  generalize effAddr (s.core g) o = a at *
  rw [vol, remoteLoad_sends (s := s.unwait g) false (vol := true) rfl (fun h => absurd h (by simp)) ((unwait_mayIssue s n g).trans go)
    order, unwait_buffered, settleOp_next_modCore] at exe
  obtain ⟨regs, pc, line, net, fr, out⟩ := readLeft_volatile (s.unwait g) n g a (ldLoad o a).size
  generalize (s.unwait g).readLeft n g a (ldLoad o a).size true false = u at *
  generalize hl : (ldLoad o a).awaiting (s.buffered g a (ldLoad o a).size) (s.unwait g).nextId false = l at *
  have waiting : l.granule = false ∧ l.sext = o.mod.getLsbD 2 ∧ l.fill = false := hl ▸ ⟨rfl, rfl, rfl⟩
  refine answers_of_done exe ⟨injected_readLeft (k := (ldLoad o a).size) (line := false) (s.unwait g) ?_ rfl rfl, ?_, ⟨l, ?_, hl ▸ awaits, waiting⟩, ?_, ?_,
    ((frame_modCore s g _ (by simp)).trans (fr.trans (frame_modCore _ g _ (by simp)))).pf, Sent.pf (sent_of_out out)⟩
  · rw [State.refreshPf_net]
    exact net
  · rw [State.refreshPf_cluster, State.cluster_modCore, line]
  · rw [State.refreshPf_core, State.core_modCore_same]
    exact List.getLast?_concat
  · rw [State.refreshPf_core, State.core_modCore_same]
    exact (regs g).trans (by rw [State.unwait_core])
  · rw [State.refreshPf_core, State.core_modCore_same]
    exact congrArg (· + 8) ((pc g).trans (by rw [State.unwait_core]))

/-! ### Loads of a READ_ONLY window -/

/-- What the windows of a region show depends on the registers of the region alone. -/
theorem readOnlyAt_congr (h : ∀ f : Fld, 0x100100 + 0x10000 * n ≤ f.off → f.off < 0x100300 + 0x10000 * n → t.fld f = s.fld f) (a : Nat) :
    t.readOnlyAt n a = s.readOnlyAt n a := by
  have window (w : Nat) (hw : w ∈ List.range 16) (f : Fld) (lo : R.WIN_CTRL n w ≤ f.off) (hi : f.off < R.WIN_CTRL n w + 0x20) :
      t.fld f = s.fld f := by
    have := List.mem_range.1 hw
    unfold R.WIN_CTRL at lo hi
    exact h f (by omega) (by omega)
  have same : t.windowAt n a = s.windowAt n a := by
    unfold State.windowAt State.windowOf
    refine List.find?_congr fun w hw => ?_
    have at' (f : Fld) (k : Nat) (hk : k < 0x20) (hf : f.off = R.WIN_CTRL n w + k) : t.fld f = s.fld f :=
      window w hw f (by omega) (by omega)
    have valid : t.on (F.WIN_CTRL_VALID n w) = s.on (F.WIN_CTRL_VALID n w) :=
      congrArg (· != 0) (at' (F.WIN_CTRL_VALID n w) 0 (by decide) rfl)
    have base : t.winBase n w = s.winBase n w := by
      rw [State.winBase, at' (F.WIN_BASE_LO_BASE_LO n w) 4 (by decide) (by simp only [F.WIN_BASE_LO_BASE_LO, R.WIN_BASE_LO, R.WIN_CTRL]; omega),
        at' (F.WIN_BASE_HI_BASE_HI n w) 8 (by decide) (by simp only [F.WIN_BASE_HI_BASE_HI, R.WIN_BASE_HI, R.WIN_CTRL]; omega)]
      rfl
    have size : t.winSize n w = s.winSize n w := by
      rw [State.winSize, at' (F.WIN_SIZE_LO_SIZE_LO n w) 12 (by decide) (by simp only [F.WIN_SIZE_LO_SIZE_LO, R.WIN_SIZE_LO, R.WIN_CTRL]; omega),
        at' (F.WIN_SIZE_HI_SIZE_HI n w) 16 (by decide) (by simp only [F.WIN_SIZE_HI_SIZE_HI, R.WIN_SIZE_HI, R.WIN_CTRL]; omega)]
      rfl
    simp only [valid, base, size]
  unfold State.readOnlyAt
  rw [same]
  cases found : s.windowAt n a with
  | none => rfl
  | some w =>
    unfold State.windowAt State.windowOf at found
    have ro : t.on (F.WIN_CTRL_READ_ONLY n w) = s.on (F.WIN_CTRL_READ_ONLY n w) :=
      congrArg (· != 0) (window w (List.mem_of_find?_eq_some found) (F.WIN_CTRL_READ_ONLY n w) (Nat.le_refl _) (Nat.lt_add_of_pos_right (by decide)))
    simp only [ro]

/-- A corrected error keeps them. -/
theorem readOnlyAt_clusterCe (hn : n < 32) (s : State) (c : Nat) (i : IntegError) (a : Nat) :
    (s.clusterCe c i).readOnlyAt n a = s.readOnlyAt n a := by
  refine readOnlyAt_congr (fun f _ hi => (sameWord_clusterCe (c := c) ⟨?_, ?_, ?_⟩ s i).fld f rfl) a
  · unfold R.INT_INTEG_TOTAL; omega
  · omega
  · unfold R.INT_CLU_ECC; omega

/-! #### What the read of the cached line finds -/

theorem roError_none (s : State) (n c a : Nat) : s.roError n c a .none = s := rfl

theorem roError_corrected {e : MemError} (s : State) (n c a : Nat) (h : Corrected e) :
    ∃ i, s.roError n c a e = s.draw.2.clusterCe c i := by
  obtain ⟨b, rfl | rfl⟩ := h <;> exact ⟨_, rfl⟩

/-- The cluster without a line in its read-only cache. -/
def Cluster.dropLine (k : Cluster) (line : Nat) : Cluster := { k with ro := k.ro.filter fun l => l.line != line }

theorem roLine_dropLine (k : Cluster) (a : Nat) : (k.dropLine (a / 128)).roLine a = none := by
  unfold Cluster.roLine Cluster.dropLine
  simp

theorem roError_double (s : State) (n c a : Nat) (syn : BitVec 8) :
    ∃ i, s.roError n c a (.double syn) = (s.clusterCe c i).modCluster c (·.dropLine (a / 128)) := ⟨_, rfl⟩

/-- What a corrected error leaves of the core, its cluster and the planes. -/
structure ReadKept (n : Nat) (s t : State) : Prop where
  cores : t.cores = s.cores
  clusters : t.clusters = s.clusters
  net : t.net = s.net
  edge : t.edge = s.edge
  readOnly : ∀ a, t.readOnlyAt n a = s.readOnlyAt n a

theorem readKept_clusterCe (hn : n < 32) (s : State) (c : Nat) (i : IntegError) : ReadKept n s (s.clusterCe c i) where
  cores := sameParts_clusterCe s c i .cores (by simp)
  clusters := sameParts_clusterCe s c i .clusters (by simp)
  net := sameParts_clusterCe s c i .net (by simp)
  edge := sameParts_clusterCe s c i .edge (by simp)
  readOnly := readOnlyAt_clusterCe hn s c i

/-- A read that is not uncorrectable leaves what the load needs. -/
theorem readKept_roError {e : MemError} (hn : n < 32) (s : State) (c a : Nat) (h : isDouble e = false) :
    ReadKept n s (s.roError n c a e) := by
  have corrected (he : Corrected e) : ReadKept n s (s.roError n c a e) := by
    obtain ⟨i, eq⟩ := roError_corrected s n c a he
    rw [eq]
    obtain ⟨cores, clusters, net, edge, readOnly⟩ := readKept_clusterCe hn s.draw.2 c i
    exact ⟨cores, clusters, net, edge, readOnly⟩
  cases e with
  | double syn => exact absurd h Bool.noConfusion
  | dataBit b => exact corrected ⟨b, .inl rfl⟩
  | checkBit b => exact corrected ⟨b, .inr rfl⟩
  | _ => exact ⟨rfl, rfl, rfl, rfl, fun _ => rfl⟩

theorem buffered_congr (cores : t.cores = s.cores) (net : t.net = s.net) (edge : t.edge = s.edge) (g a k : Nat) :
    t.buffered g a k = s.buffered g a k := by
  unfold State.buffered State.forwarding
  rw [core_of_cores cores, net, edge]

/-- The load of a line that the cache holds has its bytes at once. -/
theorem answers_ld_hit {e : MemError} {r : RoLine} (ready : Ready (.ld g o e) s n) (space : spaceOf (effAddr (s.core g) o) ≠ spCluster)
    (vol : o.mod.getLsbD 3 = false) (ro : s.readOnlyAt n (effAddr (s.core g) o) = true)
    (hit : (s.cluster (g / 8)).roLine (effAddr (s.core g) o) = some r) (he : isDouble e = false) :
    Answers (.ld g o e) s fun t =>
      let a := effAddr (s.core g) o
      let size := 2 ^ (o.mod.toNat % 4)
      (∃ bad, t.core g = ((s.core g).setReg o.d (extend ((List.range size).map fun i => smGet (s.buffered g a size).1
          (smGet r.bytes 0 (a % 128 + i)) i) (o.mod.getLsbD 2)) bad).past) ∧ (∀ h, h ≠ g.val → t.core h = s.core h) ∧
        (e = .none → Frame s t [] [.cores, .clusters, .regions] ∧ Sent s t []) ∧
        (Corrected e → t.fld (F.INT_CLU_ECC_CE (g / 8)) = min (s.fld (F.INT_CLU_ECC_CE (g / 8)) + 1) 0xFFFF) := by
  obtain ⟨-, region, -⟩ := ready.issues rfl
  have exe := exec_ld_hit ready space vol ro hit
  have kept := readKept_roError (n := n) (ownerOf_lt region) (s.unwait g) (g / 8) (effAddr (s.core g) o) he
  have plain : e = .none → (s.unwait g).roError n (g / 8) (effAddr (s.core g) o) e = s.unwait g := fun h => by rw [h]; rfl
  have counted (h : Corrected e) : ((s.unwait g).roError n (g / 8) (effAddr (s.core g) o) e).fld (F.INT_CLU_ECC_CE (g / 8)) =
      min (s.fld (F.INT_CLU_ECC_CE (g / 8)) + 1) 0xFFFF := by
    obtain ⟨i, eq⟩ := roError_corrected (s.unwait g) n (g / 8) (effAddr (s.core g) o) h
    rw [eq]
    exact clusterCe_count ..
  generalize (s.unwait g).roError n (g / 8) (effAddr (s.core g) o) e = u at *
  generalize effAddr (s.core g) o = a at *
  obtain ⟨cores, clusters, net, edge, readOnly⟩ := kept
  obtain ⟨bad, value⟩ := remoteLoad_hits (s := u) (l := ldLoad o a) ((readOnly a).trans ro) ((congrArg (Cluster.roLine · a)
    (cluster_of_clusters clusters _)).trans hit) rfl
  rw [value, buffered_congr cores net edge, unwait_buffered, settleOp_next_modCore] at exe
  refine answers_of_done exe ⟨⟨bad, ?_⟩, fun h hg => ?_, fun h => ⟨?_, Sent.pf (sent_of_out ?_)⟩, fun h => ?_⟩
  · rw [State.refreshPf_core, State.core_modCore_same, launchPoison_when_core, State.core_modCluster, core_of_cores cores,
      State.unwait_core]
    simp only [Core.setReg_wait, Core.setReg_pc, Core.past]
    rfl
  · rw [State.refreshPf_core, State.core_modCore_ne _ _ hg, launchPoison_when_core, State.core_modCluster, core_of_cores cores]
    exact State.core_modCore_ne _ _ hg
  · rw [plain h]
    exact ((frame_modCore s g _ (by simp)).trans ((frame_modCluster _ _ _ (by simp)).trans
      ((frame_launchPoison_when _ n bad (by simp)).trans (frame_modCore _ g _ (by simp))))).pf
  · rw [State.modCore_out, launchPoison_when_out, plain h]
    rfl
  · have later : Frame u (((u.modCluster (g / 8) fun c => c.putRo r).when bad fun v => v.launchPoison n)) [] [.clusters, .regions] :=
      (frame_modCluster _ _ _ (by simp)).trans (frame_launchPoison_when _ n bad (by simp))
    have ne : R.INT_CLU_ECC (g / 8) ≠ R.INT_PF_STATUS := by simp only [R.INT_CLU_ECC, R.INT_PF_STATUS]; omega
    rw [State.refreshPf_fld _ _ ne]
    exact (later.fld_eq (F.INT_CLU_ECC_CE (g / 8)) ne (by simp)).trans (counted h)

/-! #### A line dropped for its error -/

/-- A line of shared space is served by its home slice alone. -/
theorem crossWait_shared {a : Nat} (h : spaceOf a = spShared) (s : State) (n k : Nat) (atHome : Bool) : s.crossWait n k a atHome = false := by
  have direct : s.viaProxy n k a = false := by
    simp [State.viaProxy, State.server, h, spShared, spLink, spExternal]
  rw [State.crossWait, direct, Bool.false_and]

theorem shared_of_readOnlyAt {a : Nat} (h : s.readOnlyAt n a = true) : spaceOf a = spShared := by
  unfold State.readOnlyAt at h
  exact beq_iff_eq.1 (Bool.and_eq_true_iff.1 h).1

/-- What the planes read is none of the registers of a corrected error. -/
theorem samePlane_clusterCe {c : Nat} (hc : c < 128) (s : State) (i : IntegError) : SamePlane s (s.clusterCe c i) := by
  refine .of_words (sameParts_clusterCe s c i .power (by simp)) (sameParts_clusterCe s c i .regions (by simp))
    (sameWord_clusterCe (c := c) ⟨?_, ?_, ?_⟩ s i) (sameWord_clusterCe (c := c) ⟨?_, ?_, ?_⟩ s i)
    fun n => sameWord_clusterCe (c := c) ⟨?_, ?_, ?_⟩ s i
  all_goals simp only [R.DYN_QUIESCING, R.CLK_ISLAND, R.RGN_RECT, R.INT_INTEG_TOTAL, R.INT_CLU_ECC]; omega

theorem SamePlane.trans (h : SamePlane s t) (k : SamePlane t u) : SamePlane s u :=
  ⟨k.power.trans h.power, k.regions.trans h.regions, fun n => (k.quiesce n).trans (h.quiesce n),
    fun n => (k.islands n).trans (h.islands n), fun n => (k.tiles n).trans (h.tiles n)⟩

theorem clusterCe_nextId (s : State) (c : Nat) (i : IntegError) : (s.clusterCe c i).nextId = s.nextId := by
  unfold State.clusterCe State.logCe
  split <;> rfl

/-- The line of an uncorrectable error is dropped, and fetched again. -/
theorem answers_ld_refetch {syn : BitVec 8} {r : RoLine} (ready : Ready (.ld g o (.double syn)) s n)
    (space : spaceOf (effAddr (s.core g) o) ≠ spCluster) (vol : o.mod.getLsbD 3 = false)
    (ro : s.readOnlyAt n (effAddr (s.core g) o) = true) (hit : (s.cluster (g / 8)).roLine (effAddr (s.core g) o) = some r)
    (idle : s.filling (g / 8) (effAddr (s.core g) o / 128) = none) (go : s.mayIssue n g = true) :
    Answers (.ld g o (.double syn)) s fun t =>
      let a := effAddr (s.core g) o
      t.fld (F.INT_CLU_ECC_CE (g / 8)) = min (s.fld (F.INT_CLU_ECC_CE (g / 8)) + 1) 0xFFFF ∧ (t.cluster (g / 8)).roLine a = none ∧
        (∃ l, t.core g = { s.core g with loads := (s.core g).loads ++ [l] }.past ∧
          Awaits s g l s.nextId o.d a (2 ^ (o.mod.toNat % 4)) ∧ l.fill = true) ∧
        ∃ p ∈ t.net, p.id = s.nextId ∧ p.kind = .read ∧ p.addr = a / 128 * 128 ∧ p.size = 128 := by
  obtain ⟨-, region, -⟩ := ready.issues rfl
  have exe := exec_ld_hit ready space vol ro hit
  have awaits := awaits_awaiting (s := s) (g := g) (ldLoad o (effAddr (s.core g) o)) s.nextId true rfl
  obtain ⟨i, dropped⟩ := roError_double (s.unwait g) n (g / 8) (effAddr (s.core g) o) syn
  rw [dropped] at exe
  generalize effAddr (s.core g) o = a at *
  have shared := shared_of_readOnlyAt ro
  have counted : ((s.unwait g).clusterCe (g / 8) i).fld (F.INT_CLU_ECC_CE (g / 8)) = min (s.fld (F.INT_CLU_ECC_CE (g / 8)) + 1) 0xFFFF :=
    clusterCe_count ..
  have plane := samePlane_clusterCe (c := g / 8) (by omega) (s.unwait g) i
  have parts := sameParts_clusterCe (s.unwait g) (g / 8) i
  have readOnly := readOnlyAt_clusterCe (ownerOf_lt region) (s.unwait g) (g / 8) i a
  have id : ((s.unwait g).clusterCe (g / 8) i).nextId = s.nextId := clusterCe_nextId ..
  generalize (s.unwait g).clusterCe (g / 8) i = u at *
  have cores := parts .cores (by simp)
  have issues : (u.modCluster (g / 8) (·.dropLine (a / 128))).mayIssue n g = true :=
    ((SamePlane.mayIssue (s := s.unwait g) (t := u.modCluster (g / 8) (·.dropLine (a / 128)))
      (plane.trans ⟨rfl, rfl, fun _ => rfl, fun _ => rfl, fun _ => rfl⟩) (parts .net (by simp)) (parts .mesh (by simp))
        (parts .ctl (by simp)) n g).trans (unwait_mayIssue s n g)).trans go
  have gone : ((u.modCluster (g / 8) (·.dropLine (a / 128))).cluster (g / 8)).roLine a = none := by
    rw [State.cluster_modCluster_same]
    exact roLine_dropLine ..
  have fetch : (u.modCluster (g / 8) (·.dropLine (a / 128))).filling (g / 8) (a / 128) = none :=
    (filling_congr (fun k => congrArg Core.loads (core_of_cores cores k)) _ _).trans ((unwait_filling ..).trans idle)
  have overlay : (u.modCluster (g / 8) (·.dropLine (a / 128))).buffered g a (ldLoad o a).size = s.buffered g a (ldLoad o a).size :=
    (buffered_congr (s := s.unwait g) cores (parts .net (by simp)) (parts .edge (by simp)) ..).trans (unwait_buffered ..)
  rw [remoteLoad_sends (s := u.modCluster (g / 8) (·.dropLine (a / 128))) true (vol := false) (readOnly.trans ro) (fun _ => ⟨gone, fetch⟩)
    issues (crossWait_shared shared ..), overlay, show (u.modCluster (g / 8) (·.dropLine (a / 128))).nextId = s.nextId from id,
    settleOp_next_modCore] at exe
  have ne : R.INT_CLU_ECC (g / 8) ≠ R.INT_PF_STATUS := by simp only [R.INT_CLU_ECC, R.INT_PF_STATUS]; omega
  have left := (frame_modCluster (r := []) (parts := [.cores, .clusters, .net]) u (g / 8) (·.dropLine (a / 128)) (by simp)).trans
    ((frame_readLeft (u.modCluster (g / 8) (·.dropLine (a / 128))) n g a (ldLoad o a).size true).mono (by simp) (by simp))
  refine answers_of_done exe ⟨?_, ?_, ⟨_, ?_, awaits, rfl⟩, ?_⟩
  · rw [State.refreshPf_fld _ _ ne]
    exact (left.fld_eq (F.INT_CLU_ECC_CE (g / 8)) ne (by simp)).trans counted
  · rw [State.refreshPf_cluster]
    exact gone
  · rw [State.refreshPf_core, State.core_modCore_same]
    have issued : ((u.modCluster (g / 8) (·.dropLine (a / 128))).readLeft n g a (ldLoad o a).size false true).core g =
        { s.core g with wait := .none } := (core_of_cores cores g).trans (s.unwait_core g)
    rw [issued]
    rfl
  · rw [State.refreshPf_net]
    exact ⟨(u.modCluster (g / 8) (·.dropLine (a / 128))).readPacket n g a (ldLoad o a).size false true, by simp [State.readLeft, State.withPacket], id, rfl, rfl, rfl⟩

/-- A load of a line that the cluster is fetching waits for that fetch. -/
theorem answers_ld_joins {e : MemError} {tag : Nat} (ready : Ready (.ld g o e) s n) (space : spaceOf (effAddr (s.core g) o) ≠ spCluster)
    (vol : o.mod.getLsbD 3 = false) (ro : s.readOnlyAt n (effAddr (s.core g) o) = true)
    (miss : (s.cluster (g / 8)).roLine (effAddr (s.core g) o) = none) (fetch : s.filling (g / 8) (effAddr (s.core g) o / 128) = some tag) :
    Answers (.ld g o e) s fun t => ∃ l, OneCore s t g { s.core g with loads := (s.core g).loads ++ [l] }.past ∧
      Awaits s g l tag o.d (effAddr (s.core g) o) (2 ^ (o.mod.toNat % 4)) ∧ l.fill = true := by
  have exe := exec_ld_miss ready space (.inr (.inr miss))
  rw [vol, remoteLoad_joins (s := s.unwait g) ro miss ((unwait_filling ..).trans fetch), unwait_buffered] at exe
  obtain ⟨t, he, one⟩ := oneCore_of_next exe rfl
  exact ⟨t, he, _, one, awaits_awaiting (s := s) (g := g) (ldLoad o (effAddr (s.core g) o)) tag true rfl, rfl⟩

/-- Settles O39, by the space of the address and, in a READ_ONLY window, by what the read-only cache and the cluster's fetches hold. -/
theorem loadsComplete : Obligations.LoadsComplete := by
  unfold Obligations.LoadsComplete
  intro g o s n c a size mem vol sent mayGo word
  refine ⟨fun e ready space bytes => ?_, fun ready space => ?_, fun e ready space plain writable go => ?_, fun e ready space vol go order => ?_,
    fun e ready space plain ro => ⟨fun r hit he => ?_, fun r syn hit he idle go => ?_, fun tag miss fetch => ?_, fun miss idle go => ?_⟩,
    fun ready plain writable go => ?_⟩
  · obtain ⟨t, he, core, cores, ce, ue⟩ := answers_ld_array ready space bytes
    refine ⟨t, he, ?_, cores, ce, ue⟩
    cases e <;> exact core
  · obtain ⟨t, he, core, cores, fr, out⟩ := answers_ld_cluster ready space (.inr rfl) (clusterError_none ..)
    rw [show isDouble .none = false from rfl, Bool.or_false] at core
    exact ⟨t, he, core, cores, ((frame_modCore s g _ (by simp)).trans fr), (sent_of_out (t := s.unwait g) rfl).trans out⟩
  · have exe := exec_ld_miss ready space (.inr (.inl writable))
    rw [show o.mod.getLsbD 3 = false from plain] at exe
    obtain ⟨t, he, p, ⟨l, core, awaits, granule, sext, fill⟩, rest⟩ := answers_readLeft (l := ldLoad o a) false exe writable
      (fun h => absurd h (by simp)) rfl go
    exact ⟨t, he, p, ⟨l, core, awaits, granule, sext, fill⟩, rest⟩
  · exact answers_ld_volatile ready space vol go order
  · have ok : isDouble e = false := by
      cases e with
      | double => exact absurd he Bool.noConfusion
      | _ => rfl
    obtain ⟨t, he, core, cores, fr, ce⟩ := answers_ld_hit ready space plain ro hit ok
    exact ⟨t, he, core, cores, fr, fun b hb => ce ⟨b, hb⟩⟩
  · subst he
    exact answers_ld_refetch ready space plain ro hit idle go.1
  · exact answers_ld_joins ready space plain ro miss fetch
  · have exe := exec_ld_miss ready space (.inr (.inr miss))
    rw [show o.mod.getLsbD 3 = false from plain] at exe
    obtain ⟨t, he, p, ⟨l, core, awaits, -, -, fill⟩, rest⟩ := answers_readLeft (l := ldLoad o a) true exe ro (fun _ => ⟨miss, idle⟩) rfl go
    exact ⟨t, he, p, ⟨l, core, awaits, fill⟩, rest⟩
  · have exe := exec_ldg ready
    rw [show o.mod.getLsbD 3 = false from plain] at exe
    obtain ⟨t, he, p, ⟨l, core, awaits, granule, -, fill⟩, rest⟩ := answers_readLeft (l := ldgLoad (s.core g) o) false exe writable (fun h => absurd h (by simp)) rfl go
    exact ⟨t, he, p, ⟨l, core, awaits, granule, fill⟩, rest⟩

end Sys2Proof.Machine
end

section
/-! A tile written and read back (R405, R424 to R426): the bytes of a line of codes, where the lines and the scale bytes lie, and what a
write leaves of them. -/

namespace Sys2Proof.Machine

/-! ### The bytes of a line -/

theorem fromBytes_toBytes (k v : Nat) : fromBytes (toBytes k v) = v % 256 ^ k := by
  induction k generalizing v with
  | zero => simp [toBytes, fromBytes, Nat.mod_one]
  | succ k ih =>
    have cut : v % 256 ^ (k + 1) = v % 256 + 256 * (v / 256 % 256 ^ k) := by rw [pow_succ', Nat.mod_mul]
    rw [toBytes, fromBytes, ih, cut, BitVec.toNat_ofNat]

theorem toBytes_eq_map (k v : Nat) : toBytes k v = (List.range k).map fun i => BitVec.ofNat 8 (v / 256 ^ i) := by
  refine List.ext_getElem (by simp [toBytes_length]) fun i h _ => ?_
  have hi : i < k := by rwa [toBytes_length] at h
  have at' := toBytes_getD i v hi
  rw [List.getD_eq_getElem _ _ h] at at'
  simp [at']

/-- Codes of whole bytes stand one after another. -/
theorem flatMap_toBytes_getD (k : Nat) (l : List Nat) {i j : Nat} (hj : j < l.length) (hi : i < k) :
    (l.flatMap (toBytes k)).getD (j * k + i) 0 = BitVec.ofNat 8 (l.getD j 0 / 256 ^ i) := by
  induction l generalizing j with
  | nil => simp at hj
  | cons v l ih =>
    rw [List.flatMap_cons]
    cases j with
    | zero =>
      rw [Nat.zero_mul, Nat.zero_add, List.getD_append _ _ _ _ (by rwa [toBytes_length]), toBytes_getD _ _ hi, List.getD_cons_zero]
    | succ j =>
      have past : (toBytes k v).length ≤ (j + 1) * k + i := by rw [toBytes_length, Nat.succ_mul]; omega
      have rest : (j + 1) * k + i - (toBytes k v).length = j * k + i := by rw [toBytes_length, Nat.succ_mul]; omega
      rw [List.getD_append_right _ _ _ _ past, rest, ih (by simpa using hj), List.getD_cons_succ]

theorem flatMap_toBytes_length (k : Nat) (l : List Nat) : (l.flatMap (toBytes k)).length = l.length * k := by
  induction l with
  | nil => simp
  | cons v l ih => rw [List.flatMap_cons, List.length_append, ih, toBytes_length, List.length_cons, Nat.succ_mul, Nat.add_comm]

theorem pairs_length (l : List Nat) : (packLine.pairs l).length = (l.length + 1) / 2 := by
  induction l using packLine.pairs.induct with
  | case1 a b l ih => simp only [packLine.pairs, List.length_cons, ih]; omega
  | case2 a => simp [packLine.pairs]
  | case3 => rfl

/-- Codes of 4 bits stand two in a byte. -/
theorem pairs_getD (l : List Nat) {j : Nat} (hj : j < l.length) :
    ((packLine.pairs l).getD (j / 2) 0).toNat / 2 ^ (j * 4 % 8) % 2 ^ 4 = l.getD j 0 % 2 ^ 4 := by
  induction l using packLine.pairs.induct generalizing j with
  | case1 a b l ih =>
    match j with
    | 0 =>
      have low : (BitVec.ofNat 8 (a % 16 + 16 * (b % 16))).toNat / 1 % 16 = a % 16 := by rw [BitVec.toNat_ofNat]; omega
      rw [packLine.pairs]
      exact low
    | 1 =>
      have high : (BitVec.ofNat 8 (a % 16 + 16 * (b % 16))).toNat / 16 % 16 = b % 16 := by rw [BitVec.toNat_ofNat]; omega
      rw [packLine.pairs]
      exact high
    | j + 2 =>
      have half : (j + 2) / 2 = j / 2 + 1 := by omega
      have place : (j + 2) * 4 % 8 = j * 4 % 8 := by omega
      rw [packLine.pairs, half, place, List.getD_cons_succ, ih (by simpa using hj)]
      rfl
  | case2 a =>
    obtain rfl : j = 0 := by simpa using hj
    have low : (BitVec.ofNat 8 (a % 16)).toNat / 1 % 16 = a % 16 := by rw [BitVec.toNat_ofNat]; omega
    rw [packLine.pairs]
    exact low
  | case3 => simp at hj

/-! ### The lines and the scale bytes of a tile -/

variable {d : Tile} {m : PMem} {code scale : Nat → Nat → Nat} {a i j : Nat} {v : Byte}

theorem fmtBits_cases (f : Nat) : fmtBits f = 4 ∨ ∃ k, 0 < k ∧ fmtBits f = 8 * k := by
  unfold fmtBits
  split
  · exact .inr ⟨4, by decide, rfl⟩
  · split
    · exact .inr ⟨2, by decide, rfl⟩
    · split
      · exact .inr ⟨1, by decide, rfl⟩
      · exact .inl rfl

/-- The bytes of line i. -/
def Tile.lineBytes (d : Tile) (code : Nat → Nat → Nat) (i : Nat) : List Byte :=
  packLine (fmtBits d.fmt) ((List.range d.lineLen).map fun j => if d.trans then code j i else code i j)

theorem packLine_bytes {k : Nat} (l : List Nat) : packLine (8 * k) l = l.flatMap (toBytes k) := by
  have whole : 8 * k / 8 = k := by omega
  unfold packLine
  split
  case h_1 four => omega
  case h_2 => rw [whole]

theorem Tile.lineBytes_length (code : Nat → Nat → Nat) (i : Nat) : (d.lineBytes code i).length = d.lb := by
  rcases fmtBits_cases d.fmt with four | ⟨k, -, bytes⟩
  · rw [Tile.lineBytes, Tile.lb, four]
    refine (pairs_length _).trans ?_
    rw [List.length_map, List.length_range, ceilDiv]
    omega
  · rw [Tile.lineBytes, Tile.lb, bytes, packLine_bytes, flatMap_toBytes_length, List.length_map, List.length_range, ceilDiv]
    have : d.lineLen * (8 * k) = 8 * (d.lineLen * k) := by ring
    rw [this]
    omega

/-- An element's bytes in its line give the code that was put there, cut to the format's width. -/
theorem Tile.lineBytes_code (code : Nat → Nat → Nat) (i : Nat) (hj : j < d.lineLen) :
    let w := fmtBits d.fmt
    fromBytes ((List.range (if w < 8 then 1 else w / 8)).map fun k => (d.lineBytes code i).getD (j * w / 8 + k) 0) / 2 ^ (j * w % 8) % 2 ^ w =
      (if d.trans then code j i else code i j) % 2 ^ w := by
  intro w
  have len : ((List.range d.lineLen).map fun j => if d.trans then code j i else code i j).length = d.lineLen := by simp
  have elem : ((List.range d.lineLen).map fun j => if d.trans then code j i else code i j).getD j 0 =
      if d.trans then code j i else code i j := by simp [hj]
  rcases fmtBits_cases d.fmt with four | ⟨k, pos, bytes⟩
  · have hw : w = 4 := four
    have first : j * 4 / 8 + 0 = j / 2 := by omega
    rw [hw, if_pos (by decide), List.range_one, List.map_singleton, first, ← elem, ← pairs_getD _ (by rwa [len])]
    unfold Tile.lineBytes
    rw [four]
    simp [fromBytes, packLine]
  · have hw : w = 8 * k := bytes
    have first : j * (8 * k) / 8 = j * k := by rw [Nat.mul_left_comm]; omega
    have aligned : j * (8 * k) % 8 = 0 := by rw [Nat.mul_left_comm]; omega
    have width : (256 : Nat) ^ k = 2 ^ (8 * k) := by rw [pow_mul]; norm_num
    have wide : ¬ 8 * k < 8 := by omega
    have whole : 8 * k / 8 = k := by omega
    have bytesOf : (List.range k).map (fun x => (d.lineBytes code i).getD (j * k + x) 0) =
        toBytes k (if d.trans then code j i else code i j) := by
      rw [toBytes_eq_map]
      refine List.map_congr_left fun x hx => ?_
      rw [Tile.lineBytes, bytes, packLine_bytes, flatMap_toBytes_getD _ _ (by rwa [len]) (List.mem_range.1 hx), elem]
    rw [hw, if_neg wide, whole, first, aligned, bytesOf, fromBytes_toBytes, width, pow_zero, Nat.div_one, Nat.mod_mod]

/-- An element's bytes lie in its line. -/
theorem Tile.elem_lt_lb {k : Nat} (hj : j < d.lineLen) (hk : k < if fmtBits d.fmt < 8 then 1 else fmtBits d.fmt / 8) :
    j * fmtBits d.fmt / 8 + k < d.lb := by
  unfold Tile.lb ceilDiv
  rcases fmtBits_cases d.fmt with four | ⟨q, pos, bytes⟩
  · rw [four] at hk ⊢
    have : k = 0 := by simpa using hk
    omega
  · have wide : ¬ 8 * q < 8 := by omega
    rw [bytes, if_neg wide] at hk
    have lines : (j + 1) * q ≤ d.lineLen * q := Nat.mul_le_mul_right _ hj
    rw [Nat.succ_mul] at lines
    rw [bytes, Nat.mul_left_comm, Nat.mul_left_comm d.lineLen]
    omega

/-- The cells of the lines, and of the scale bytes. -/
def Tile.lineCells (d : Tile) (code : Nat → Nat → Nat) : Mem := (List.range d.lines).flatMap fun i => memAt (d.lineAt i) (d.lineBytes code i)
def Tile.scaleCells (d : Tile) (scale : Nat → Nat → Nat) : Mem :=
  (List.range d.lines).flatMap fun i => memAt (d.scaleAt i) ((List.range d.scales).map fun b => BitVec.ofNat 8 (scale i b))

theorem Tile.write_eq (d : Tile) (m : PMem) (code scale : Nat → Nat → Nat) (bad : Bool) :
    d.write m code scale bad = (m.write (d.lineCells code) (if bad then wordsOf (d.lineCells code) else [])).write (d.scaleCells scale)
      (if bad then wordsOf (d.scaleCells scale) else []) := rfl

theorem Tile.mem_lineCells : (a, v) ∈ d.lineCells code ↔ ∃ i j, i < d.lines ∧ (d.lineBytes code i)[j]? = some v ∧ a = d.lineAt i + j := by
  simp only [Tile.lineCells, List.mem_flatMap, List.mem_range, mem_memAt]
  constructor
  · rintro ⟨i, hi, j, hj, at'⟩; exact ⟨i, j, hi, hj, at'⟩
  · rintro ⟨i, j, hi, hj, at'⟩; exact ⟨i, hi, j, hj, at'⟩

theorem Tile.mem_scaleCells (h : (a, v) ∈ d.scaleCells scale) : ∃ i b, i < d.lines ∧ b < d.scales ∧ a = d.scaleAt i + b := by
  simp only [Tile.scaleCells, List.mem_flatMap, List.mem_range, mem_memAt] at h
  obtain ⟨i, hi, b, hb, at'⟩ := h
  have := (List.getElem?_eq_some_iff.1 hb).1
  exact ⟨i, b, hi, by simpa using this, at'⟩

/-- A byte of a line reads as written. -/
theorem Tile.byte_write_line (room : d.lb ≤ d.stride) (hi : i < d.lines) (hj : j < d.lb) (bad : Bool) (draw : Nat) :
    (d.write m code scale bad).byte draw (d.lineAt i + j) = (d.lineBytes code i).getD j 0 := by
  have inLine : j < (d.lineBytes code i).length := by rwa [Tile.lineBytes_length]
  rw [Tile.write_eq, PMem.byte_write_other]
  · refine PMem.byte_write_agree _ _ _ (Tile.mem_lineCells.2 ⟨i, j, hi, by simp [inLine], rfl⟩) fun w hw => ?_
    obtain ⟨i', j', -, hj', same⟩ := Tile.mem_lineCells.1 hw
    have inLine' : j' < d.lb := by
      rw [← Tile.lineBytes_length code i']
      exact (List.getElem?_eq_some_iff.1 hj').1
    obtain rfl := Tile.lineAt_add_inj room hj inLine' same
    have line : i = i' := by
      unfold Tile.lineAt at same
      have : 0 < d.stride := by omega
      exact Nat.eq_of_mul_eq_mul_right this (by omega)
    subst line
    simp [List.getD_eq_getElem?_getD, hj']
  · intro e he same
    obtain ⟨i', b, -, -, at'⟩ := Tile.mem_scaleCells (a := e.1) (v := e.2) he
    have := Tile.lineAt_add_lt_scaleAt room hi hj i'
    omega

/-- A byte outside the tile's pieces stays. -/
theorem Tile.byte_write_outside {b : Nat} (out : ∀ p ∈ d.pieces, b < p.1 ∨ p.1 + p.2 ≤ b) (bad : Bool) (draw : Nat) :
    (d.write m code scale bad).byte draw b = m.byte draw b := by
  rw [Tile.write_eq, PMem.byte_write_other, PMem.byte_write_other]
  · intro e he same
    obtain ⟨i, j, hi, hj, at'⟩ := Tile.mem_lineCells.1 (show (e.1, e.2) ∈ _ from he)
    have := (List.getElem?_eq_some_iff.1 hj).1
    rw [Tile.lineBytes_length] at this
    have := out _ (Tile.line_mem_pieces hi)
    omega
  · intro e he same
    obtain ⟨i, b', hi, hb, at'⟩ := Tile.mem_scaleCells (a := e.1) (v := e.2) he
    have mx : d.fmt = 7 := by
      by_contra other
      simp [Tile.scales, other] at hb
    have := out _ (Tile.scales_mem_pieces mx)
    have : (i + 1) * d.scales ≤ d.lines * d.scales := Nat.mul_le_mul_right _ hi
    rw [Nat.succ_mul] at this
    unfold Tile.scaleAt at *
    omega

/-- Settles O47: each element's bytes lie in one line, where nothing else is written. -/
theorem tileReadsBackWhatWasWritten : Obligations.TileReadsBackWhatWasWritten := by
  unfold Obligations.TileReadsBackWhatWasWritten
  intro d m code scale bad pass _ _ _
  have room := Tile.lb_le_stride pass
  refine ⟨fun r c draw hr hc => ?_, fun b draw out => Tile.byte_write_outside out bad draw⟩
  obtain ⟨i, j, place, hi, hj, which⟩ : ∃ i j, d.place r c = (i, j) ∧ i < d.lines ∧ j < d.lineLen ∧
      code r c = if d.trans then code j i else code i j := by
    unfold Tile.place Tile.lines Tile.lineLen
    cases d.trans
    · exact ⟨r, c, rfl, hr, hc, rfl⟩
    · exact ⟨c, r, rfl, hc, hr, rfl⟩
  rw [which, ← Tile.lineBytes_code code i hj]
  unfold Tile.code
  rw [place]
  simp only []
  congr 3
  refine List.map_congr_left fun k hk => ?_
  rw [Nat.add_assoc, Tile.byte_write_line room hi (Tile.elem_lt_lb hj (List.mem_range.1 hk))]

end Sys2Proof.Machine
end

section
/-! SEND (R463, R558, R563, R566 to R569, R765): into a queue of its own cluster, as a packet, or a wait for a credit. -/

namespace Sys2Proof.Machine

variable {s t u v : State} {n k : Nat} {o : OpFields} {g : Fin 1024} {ch : Channel}

/-! ### The operation as it is issued -/

/-- The message of a SEND. -/
def sentMessage (c : Core) (o : OpFields) (g k : Nat) : Message :=
  { lo := c.reg o.a, hi := c.reg o.b, poisonLo := c.regBad o.a, poisonHi := c.regBad o.b, key := g, chan := k }

/-- What a SEND on channel k does. -/
def State.sendEnd (s : State) (n g k : Nat) (ch : Channel) (o : OpFields) (c : Core) : OpEnd :=
  sendOn s n g k ch (c.reg o.a) (c.reg o.b) (c.regBad o.a) (c.regBad o.b)

theorem exec_send (ready : Ready (.send g o) s n)
    (released : o.mod.getLsbD 0 = true → s.released n g (o.mod.toNat / 2 % 4) false = true)
    (out : s.outChannel n (.core g (o.imm.toNat % 256)) = some k) (chan : s.channel n k = some ch) :
    exec (.send g o) s = done (settleOp g ((s.unwait g).sendEnd n g k ch o (s.core g))) := by
  obtain ⟨stands, region, pass⟩ := ready.issues rfl
  have scope : modBits o 1 2 = o.mod.toNat / 2 % 4 := by simp [modBits_eq]
  have sub : immBits o 0 8 = o.imm.toNat % 256 := by simp [immBits, bitsOf]
  delta exec
  dsimp only [execSend]
  rw [issue_acts stands region pass, scope, modBits_one_beq, sub,
    whenReleased_done fun h => (released_unwait s n g _ _).trans (released h)]
  have out' : (s.unwait g).outChannel n (.core g (o.imm.toNat % 256)) = some k := out
  have chan' : (s.unwait g).channel n k = some ch := chan
  simp only [out', chan']
  rfl

/-! ### Packets that leave -/

/-- The packet of a message. -/
def messagePacket (id n : Nat) (src dst : Agent) (k key : Nat) (m : Message) : Packet :=
  { id := id, kind := .message, region := n, src := src, dst := dst, size := 16, bytes := messageBytes m.lo m.hi
    poison := messagePoison m.poisonLo m.poisonHi, chan := k, key := key }

theorem sendMessage_eq (s : State) (n : Nat) (src dst : Agent) (k key : Nat) (m : Message) :
    s.sendMessage n src dst k key m.lo m.hi m.poisonLo m.poisonHi = s.newId.2.withPacket (messagePacket s.nextId n src dst k key m) := rfl

/-- A core has sent a packet and goes on. -/
theorem answers_packet {i : Instr} {c : Core} {p : Packet} {q : List Part} (exe : exec i s = done (settleOp g (.next v))) (core : v.core g = c)
    (cores : ∀ h, h ≠ g.val → v.core h = s.core h) (net : v.net = s.net ++ [p]) (frame : Frame s v [] q) (hq : .cores ∈ q)
    (out : v.out = s.out) : Answers i s fun t =>
      t.net = s.net ++ [p] ∧ t.core g = { c with pc := c.pc + 8 } ∧ (∀ h, h ≠ g.val → t.core h = s.core h) ∧ t.ports = v.ports ∧
        Frame s t [] q ∧ Sent s t [] := by
  refine answers_of_done exe ⟨?_, ?_, fun h hg => ?_, ?_, (frame.trans (frame_modCore _ g _ hq)).pf, Sent.pf (sent_of_out ?_)⟩
  · rw [State.refreshPf_net]; exact net
  · rw [State.refreshPf_core, settleOp, State.core_modCore_same, core]
  · rw [State.refreshPf_core, settleOp, State.core_modCore_ne _ _ hg, cores h hg]
  · rw [State.refreshPf_ports]; rfl
  · exact out

theorem unwait_core_ne {h : Nat} (s : State) (hg : h ≠ g.val) : (s.unwait g).core h = s.core h := State.core_modCore_ne _ _ hg

/-! ### Another cluster -/

/-- The core with one credit of channel k less than it held, and one message more to be acknowledged. -/
def Core.creditSpent (c : Core) (k held : Nat) : Core := { c with credits := smPut c.credits k (held - 1), msgUnacked := c.msgUnacked + 1 }

theorem sendEnd_away {g2 q : Nat} {c : Core} (dst : ch.dst = .core g2 q) (away : g.val / 8 ≠ g2 / 8) (credit : 0 < smGet (s.core g).credits 0 k)
    (issues : s.mayIssue n g = true) :
    s.sendEnd n g k ch o c = .next ((s.modCore g (·.creditSpent k (smGet (s.core g).credits 0 k))).newId.2.withPacket
      (messagePacket s.nextId n (.core g) (.core g2) k g (sentMessage c o g k))) := by
  simp only [State.sendEnd, sendOn, dst, if_neg away, if_pos (And.intro credit issues), State.modCore_modCore]
  rfl

theorem answers_send_away {g2 q : Nat} (exe : exec (.send g o) s = done (settleOp g ((s.unwait g).sendEnd n g k ch o (s.core g))))
    (dst : ch.dst = .core g2 q) (away : g.val / 8 ≠ g2 / 8)
    (credit : 0 < smGet (s.core g).credits 0 k) (issues : s.mayIssue n g = true) : Answers (.send g o) s fun t =>
      (∃ p, Injected s t n (.core g) (.core g2) .message 0 16 p ∧ p.chan = k ∧ p.key = g ∧
        p.bytes = memAt 0 (toBytes 8 ((s.core g).reg o.a).toNat ++ toBytes 8 ((s.core g).reg o.b).toNat)) ∧
        t.core g = ((s.core g).creditSpent k (smGet (s.core g).credits 0 k)).past ∧
        (∀ h, h ≠ g.val → t.core h = s.core h) ∧ Frame s t [] [.cores, .net] ∧ Sent s t [] := by
  have held : smGet ((s.unwait g).core g).credits 0 k = smGet (s.core g).credits 0 k := by rw [State.unwait_core]
  rw [sendEnd_away dst away (held ▸ credit) ((unwait_mayIssue s n g).trans issues), held] at exe
  let spent := (s.unwait g).modCore g (·.creditSpent k (smGet (s.core g).credits 0 k))
  obtain ⟨t, he, net, core, cores, -, fr, out⟩ := answers_packet exe
    (c := ({ s.core g with wait := .none } : Core).creditSpent k (smGet (s.core g).credits 0 k)) (q := [.cores, .net])
    (show (spent.core g) = _ by rw [State.core_modCore_same, State.unwait_core])
    (fun h hg => show spent.core h = _ by rw [State.core_modCore_ne _ _ hg, unwait_core_ne s hg]) rfl
    ((frame_modCore s g _ (by simp)).trans ((frame_modCore _ g _ (by simp)).trans ((frame_newId _ _ _).trans (frame_withPacket _ _ (by simp)))))
    (by simp) rfl
  exact ⟨t, he, ⟨_, ⟨net, rfl, rfl, rfl, rfl, rfl, rfl, rfl⟩, rfl, rfl, rfl⟩, core, cores, fr, out⟩

/-! ### A combining queue and a link -/

theorem answers_send_combining {i q d : Nat} (exe : exec (.send g o) s = done (settleOp g ((s.unwait g).sendEnd n g k ch o (s.core g))))
    (dst : ch.dst = .cq i q d) (issues : s.mayIssue n g = true)
    (taken : (s.newId.2.withPacket (messagePacket s.nextId n (.core g) (.slice i) k g (sentMessage (s.core g) o g k))).backedUp (.core g) = false) :
    Answers (.send g o) s fun t =>
      (∃ p, Injected s t n (.core g) (.slice i) .message 0 16 p ∧ p.chan = k ∧ p.key = g ∧
        p.bytes = memAt 0 (toBytes 8 ((s.core g).reg o.a).toNat ++ toBytes 8 ((s.core g).reg o.b).toNat)) ∧
        t.core g = (s.core g).past ∧ (∀ h, h ≠ g.val → t.core h = s.core h) ∧ Frame s t [] [.cores, .net] ∧ Sent s t [] := by
  have taken' : ((s.unwait g).newId.2.withPacket (messagePacket s.nextId n (.core g) (.slice i) k g (sentMessage (s.core g) o g k))).backedUp
      (.core g) = false := by
    rw [← taken]
    apply State.backedUp_congr <;> rfl
  have sends : (s.unwait g).sendEnd n g k ch o (s.core g) =
      .next ((s.unwait g).newId.2.withPacket (messagePacket s.nextId n (.core g) (.slice i) k g (sentMessage (s.core g) o g k))) := by
    simp only [State.sendEnd, sendOn, dst]
    exact if_pos ⟨(unwait_mayIssue s n g).trans issues, by rw [Bool.not_eq_true']; exact taken'⟩
  rw [sends] at exe
  obtain ⟨t, he, net, core, cores, -, fr, out⟩ := answers_packet exe (c := { s.core g with wait := .none }) (q := [.cores, .net])
    (State.unwait_core s g) (fun h hg => unwait_core_ne s hg) rfl
    ((frame_modCore s g _ (by simp)).trans ((frame_newId _ _ _).trans (frame_withPacket _ _ (by simp)))) (by simp) rfl
  exact ⟨t, he, ⟨_, ⟨net, rfl, rfl, rfl, rfl, rfl, rfl, rfl⟩, rfl, rfl, rfl⟩, core, cores, fr, out⟩

/-- A port with one message less that the partner takes on a channel. -/
def Port.countTaken (r : Port) (l : Nat) : Port := { r with outCount := smPut r.outCount l (smGet r.outCount 0 l - 1) }

/-- The packet of a message to the partner. -/
def linkPacket (id n p l epoch : Nat) (src : Agent) (m : Message) : Packet :=
  { id := id, kind := .message, region := n, src := src, dst := .port p, size := 16, bytes := messageBytes m.lo m.hi
    poison := messagePoison m.poisonLo m.poisonHi, chan := l, code := epoch }

theorem sendLinkMessage_eq (s : State) (n p l : Nat) (src : Agent) (m : Message) :
    s.sendLinkMessage n p l src m.lo m.hi m.poisonLo m.poisonHi =
      (s.newId.2.modPort p (·.countTaken l)).withPacket (linkPacket s.nextId n p l (smGet (s.port p).outEpoch 0 l) src m) := rfl

theorem answers_send_link {p l : Nat} (exe : exec (.send g o) s = done (settleOp g ((s.unwait g).sendEnd n g k ch o (s.core g))))
    (dst : ch.dst = .link p l) (count : 0 < smGet (s.port p).outCount 0 l) (issues : s.mayIssue n g = true) :
    Answers (.send g o) s fun t =>
      (∃ x, Injected s t n (.core g) (.port p) .message 0 16 x ∧ x.chan = l ∧
        x.bytes = memAt 0 (toBytes 8 ((s.core g).reg o.a).toNat ++ toBytes 8 ((s.core g).reg o.b).toNat) ∧
        x.code = smGet (s.port p).outEpoch 0 l) ∧
        smGet (t.port p).outCount 0 l = smGet (s.port p).outCount 0 l - 1 ∧ t.core g = (s.core g).past ∧
        (∀ h, h ≠ g.val → t.core h = s.core h) ∧ Frame s t [] [.cores, .net, .ports] ∧ Sent s t [] := by
  have sends : (s.unwait g).sendEnd n g k ch o (s.core g) = .next (((s.unwait g).newId.2.modPort p (·.countTaken l)).withPacket
      (linkPacket s.nextId n p l (smGet (s.port p).outEpoch 0 l) (.core g) (sentMessage (s.core g) o g k))) := by
    simp only [State.sendEnd, sendOn, dst]
    exact if_pos ⟨count, (unwait_mayIssue s n g).trans issues⟩
  rw [sends] at exe
  obtain ⟨t, he, net, core, cores, ports, fr, out⟩ := answers_packet exe (c := { s.core g with wait := .none }) (q := [.cores, .net, .ports])
    (State.unwait_core s g) (fun h hg => unwait_core_ne s hg) rfl
    ((frame_modCore s g _ (by simp)).trans ((frame_newId _ _ _).trans ((frame_modPort _ p _ (by simp)).trans (frame_withPacket _ _ (by simp)))))
    (by simp) rfl
  refine ⟨t, he, ⟨_, ⟨net, rfl, rfl, rfl, rfl, rfl, rfl, rfl⟩, rfl, rfl, rfl⟩, ?_, core, cores, fr, out⟩
  have port : t.port p = ((s.unwait g).newId.2.modPort p (·.countTaken l)).port p := congrArg (fun ports => smGet ports ({} : Port) p) ports
  rw [port, State.port_modPort_same]
  exact smGet_smPut_same ..

/-! ### A queue of its own cluster -/

theorem project_core_modCore {β : Type} (π : Core → β) (s : State) (g h : Nat) (f : Core → Core) (keeps : ∀ c, π (f c) = π c) :
    π ((s.modCore g f).core h) = π (s.core h) := by
  by_cases same : h = g
  · subst same; rw [State.core_modCore_same, keeps]
  · rw [State.core_modCore_ne _ _ same]

theorem project_enterQueue {β : Type} (π : Core → β) (s : State) (n g h q : Nat) (m : Message)
    (keeps : ∀ (c : Core) l, π { c with queues := smPut c.queues q l } = π c) :
    π ((s.enterQueue n g q m).core h) = π (s.core h) := by
  rw [State.enterQueue, project_core_modCore π _ g h _ (fun c => keeps c _), launchPoison_when_core]

theorem enterQueue_queue (s : State) (n g q : Nat) (m : Message) :
    ((s.enterQueue n g q m).core g).queue q = (s.core g).queue q ++ [m] := by
  rw [State.enterQueue, State.core_modCore_same, launchPoison_when_core]
  exact smGet_smPut_same ..

theorem frame_enterQueue (s : State) (n g q : Nat) (m : Message) : Frame s (s.enterQueue n g q m) [] [.cores, .regions] :=
  (frame_launchPoison_when s n _ (by simp)).trans (frame_modCore _ g _ (by simp))

theorem unwait_queue (s : State) (g h q : Nat) : ((s.unwait g).core h).queue q = (s.core h).queue q :=
  project_core_modCore (fun c => c.queue q) s g h _ fun _ => rfl

theorem unwait_sendTurn (s : State) (n g2 q g : Nat) : (s.unwait g).sendTurn n g2 q g = s.sendTurn n g2 q g := by
  have last : ((s.unwait g).core g2).lastSender = (s.core g2).lastSender := project_core_modCore Core.lastSender s g g2 _ fun _ => rfl
  have wants (x : Nat) (other : x ≠ g) : (s.unwait g).wantsRoom n g2 q x = s.wantsRoom n g2 q x := by
    have core : (s.unwait g).core x = s.core x := State.core_modCore_ne _ _ other
    simp only [State.wantsRoom, core]
    rfl
  simp only [State.sendTurn, last]
  refine List.all_congr rfl fun x => ?_
  by_cases self : x = g
  · subst self; simp
  · rw [wants x self]

/-- What a SEND into a queue of its own cluster leaves of its core, and adds to the queue. -/
structure Enqueues (s t : State) (g g2 q k credits : Nat) (m : Message) : Prop where
  queue : (t.core g2).queue q = (s.core g2).queue q ++ [m]
  pc : (t.core g).pc = (s.core g).pc
  regs : (t.core g).regs = (s.core g).regs
  credits : smGet (t.core g).credits 0 k = credits
  frame : Frame s t [] [.cores, .regions]
  out : t.out = s.out

/-- With a credit, which the core has one less of. -/
theorem enqueues_credit (s : State) (n g g2 q k held : Nat) (m : Message) :
    Enqueues s ((s.modCore g fun x => { x with credits := smPut x.credits k held }).enterQueue n g2 q m) g g2 q k held m where
  queue := by
    rw [enterQueue_queue, project_core_modCore (fun c => c.queue q)]
    all_goals intros; rfl
  pc := by
    rw [project_enterQueue Core.pc, project_core_modCore Core.pc]
    all_goals intros; rfl
  regs := by
    rw [project_enterQueue Core.regs, project_core_modCore Core.regs]
    all_goals intros; rfl
  credits := by
    rw [project_enterQueue Core.credits _ _ _ _ _ _ fun _ _ => rfl, State.core_modCore_same]
    exact smGet_smPut_same ..
  frame := (frame_modCore s g _ (by simp)).trans (frame_enterQueue _ n g2 q m)
  out := launchPoison_when_out ..

/-- Without one, noted as the queue's last sender. -/
theorem enqueues_turn (s : State) (n g g2 q k : Nat) (m : Message) :
    Enqueues s ((s.enterQueue n g2 q m).modCore g2 fun x => { x with lastSender := smPut x.lastSender q g }) g g2 q k
      (smGet (s.core g).credits 0 k) m where
  queue := by
    rw [project_core_modCore (fun c => c.queue q), enterQueue_queue]
    all_goals intros; rfl
  pc := by
    rw [project_core_modCore Core.pc, project_enterQueue Core.pc]
    all_goals intros; rfl
  regs := by
    rw [project_core_modCore Core.regs, project_enterQueue Core.regs]
    all_goals intros; rfl
  credits := by
    rw [project_core_modCore Core.credits, project_enterQueue Core.credits]
    all_goals intros; rfl
  frame := (frame_enterQueue s n g2 q m).trans (frame_modCore _ g2 _ (by simp))
  out := launchPoison_when_out ..

theorem answers_enqueued {i : Instr} {g2 q credits : Nat} {m : Message} (exe : exec i s = done (settleOp g (.next v)))
    (enq : Enqueues (s.unwait g) v g g2 q k credits m) : Answers i s fun t =>
      (t.core g2).queue q = (s.core g2).queue q ++ [m] ∧ (t.core g).pc = (s.core g).pc + 8 ∧ (t.core g).regs = (s.core g).regs ∧
        smGet (t.core g).credits 0 k = credits ∧ Frame s t [] [.cores, .regions] ∧ Sent s t [] := by
  refine answers_of_done exe ⟨?_, ?_, ?_, ?_, ((frame_modCore s g _ (by simp)).trans (enq.frame.trans (frame_modCore _ g _ (by simp)))).pf,
    Sent.pf (sent_of_out enq.out)⟩
  · rw [State.refreshPf_core, settleOp, project_core_modCore (fun c => c.queue q), enq.queue, unwait_queue]
    intros; rfl
  · rw [State.refreshPf_core, settleOp, State.core_modCore_same]
    exact congrArg (· + 8) (enq.pc.trans (by rw [State.unwait_core]))
  · rw [State.refreshPf_core, settleOp, State.core_modCore_same]
    exact enq.regs.trans (by rw [State.unwait_core])
  · rw [State.refreshPf_core, settleOp, State.core_modCore_same]
    exact enq.credits

theorem answers_send_near {g2 q : Nat} (exe : exec (.send g o) s = done (settleOp g ((s.unwait g).sendEnd n g k ch o (s.core g))))
    (dst : ch.dst = .core g2 q) (near : g.val / 8 = g2 / 8)
    (room : if ch.credit then 0 < smGet (s.core g).credits 0 k else ((s.core g2).queue q).length < 8 ∧ s.sendTurn n g2 q g = true) :
    Answers (.send g o) s fun t =>
      (t.core g2).queue q = (s.core g2).queue q ++ [sentMessage (s.core g) o g k] ∧ (t.core g).pc = (s.core g).pc + 8 ∧
        (t.core g).regs = (s.core g).regs ∧
        smGet (t.core g).credits 0 k = (if ch.credit then smGet (s.core g).credits 0 k - 1 else smGet (s.core g).credits 0 k) ∧
        Frame s t [] [.cores, .regions] ∧ Sent s t [] := by
  have held : smGet ((s.unwait g).core g).credits 0 k = smGet (s.core g).credits 0 k := by rw [State.unwait_core]
  simp only [State.sendEnd, sendOn, dst, if_pos near, held] at exe
  cases credit : ch.credit
  case true =>
    rw [credit, if_pos rfl] at room
    rw [credit, if_pos rfl, if_pos room] at exe
    exact answers_enqueued exe (enqueues_credit (s.unwait g) n g g2 q k _ _)
  case false =>
    rw [credit, if_neg Bool.false_ne_true] at room
    rw [credit, if_neg Bool.false_ne_true, if_pos (by rwa [unwait_queue, unwait_sendTurn])] at exe
    exact held ▸ answers_enqueued exe (enqueues_turn (s.unwait g) n g g2 q k _)

/-! ### Without a credit -/

theorem sendEnd_without_credit {g2 q : Nat} {c : Core} (dst : ch.dst = .core g2 q) (none : smGet (s.core g).credits 0 k = 0)
    (needs : ch.credit = true ∨ g.val / 8 ≠ g2 / 8) : s.sendEnd n g k ch o c = .wait .op s := by
  have not : ¬ 0 < smGet (s.core g).credits 0 k := by omega
  simp only [State.sendEnd, sendOn, dst]
  by_cases near : g.val / 8 = g2 / 8
  · rw [if_pos near, if_pos (needs.resolve_right fun h => h near), if_neg not]
  · rw [if_neg near, if_neg fun h => not h.1]

/-- Settles O48: each clause is the branch of `sendOn` that its destination and its credits choose. -/
theorem sendsComplete : Obligations.SendsComplete := by
  unfold Obligations.SendsComplete
  intro g o s n k ch c m bytes held ready released out chan
  have exe := exec_send ready released out chan
  refine ⟨fun g2 q dst near room => answers_send_near exe dst near room,
    fun g2 q dst away credit issues => answers_send_away exe dst away credit issues, fun g2 q dst none needs => ?_,
    fun i q d dst issues taken => answers_send_combining exe dst issues (Bool.eq_false_iff.mpr fun h => ?_),
    fun p l dst count issues => answers_send_link exe dst count issues, fun p l dst none => ?_⟩
  · rw [sendEnd_without_credit dst (by rw [State.unwait_core]; exact none) needs] at exe
    exact oneCore_of_wait exe
  · exact Bool.noConfusion (h.symm.trans taken)
  · have waits : (s.unwait g).sendEnd n g k ch o c = .wait .op (s.unwait g) := by
      simp only [State.sendEnd, sendOn, dst]
      exact if_neg fun h => absurd h.1 (by show ¬ 0 < smGet (s.port p).outCount 0 l; omega)
    rw [waits] at exe
    exact oneCore_of_wait exe

end Sys2Proof.Machine
end

section
/-! A stack's channel (R608, R695, R696, R702, R703, R706, R717): grants, fetches, promotions and windows. -/

namespace Sys2Proof.Machine

variable {s t u : State} {n ch : Nat}

/-! ### What the injection of requests keeps -/

/-- Requests are marked, none of them granted or removed; nothing else but registers changes. -/
structure Marks (s t : State) : Prop where
  reqs : ∃ f : HReq → HReq, (∀ q, (f q).id = q.id ∧ (f q).granted = q.granted) ∧ t.hreqs = s.hreqs.map f
  parts : SameParts [.hreqs] s t

theorem Marks.of_hreqs (h : t.hreqs = s.hreqs) (parts : SameParts [] s t) : Marks s t :=
  ⟨⟨id, fun _ => ⟨rfl, rfl⟩, by rw [h, List.map_id]⟩, fun q _ => parts q (by simp)⟩

theorem Marks.refl (s : State) : Marks s s := .of_hreqs rfl (.refl _ s)

theorem Marks.trans (h : Marks s t) (k : Marks t u) : Marks s u := by
  obtain ⟨⟨f, keepf, hf⟩, partsf⟩ := h
  obtain ⟨⟨g, keepg, hg⟩, partsg⟩ := k
  refine ⟨⟨g ∘ f, fun q => ⟨(keepg _).1.trans (keepf q).1, (keepg _).2.trans (keepf q).2⟩, ?_⟩, partsf.trans partsg⟩
  rw [hg, hf, List.map_map]

theorem marks_setFld (s : State) (f : Fld) (v : Nat) : Marks s (s.setFld f v) := .of_hreqs rfl ((SameParts.refl _ s).setFld f v)

theorem marks_modReq (s : State) (i : Nat) (f : HReq → HReq) (keeps : ∀ q, (f q).id = q.id ∧ (f q).granted = q.granted) :
    Marks s (s.modReq i f) :=
  ⟨⟨fun r => if r.id == i then f r else r, fun q => by dsimp only; split; exacts [keeps q, ⟨rfl, rfl⟩], rfl⟩,
    fun q hq => by cases q with | hreqs => exact absurd (by simp) hq | _ => rfl⟩

theorem marks_when {b : Bool} {f : State → State} (h : Marks s (f s)) : Marks s (s.when b f) := by
  cases b
  · exact .refl s
  · exact h

theorem marks_countHeld (s : State) (r : HReq) (b : Bool) : Marks s (s.countHeld r b) := by
  unfold State.countHeld
  split
  · exact .refl s
  · have held : Marks s (s.modReq r.id fun q => { q with heldCounted := true }) := marks_modReq s r.id _ fun _ => ⟨rfl, rfl⟩
    exact (held.trans (marks_setFld _ _ _)).trans (marks_when (marks_setFld _ _ _))

theorem marks_noteQueue (s : State) (ch : Nat) : Marks s (s.noteQueue ch) :=
  ((marks_setFld ..).trans (marks_setFld ..)).trans (marks_setFld ..)

theorem marks_injectN (s : State) (fuel ch : Nat) : Marks s (State.injectN fuel s ch) := by
  induction fuel generalizing s with
  | zero => exact .refl s
  | succ fuel ih =>
    rw [State.injectN]
    split
    · exact .refl s
    · split
      · exact .refl s
      · exact Marks.trans (marks_modReq s _ _ (by intro _; exact ⟨rfl, rfl⟩)) (ih _)

theorem marks_injectAll (s : State) (ch : Nat) : Marks s (s.injectAll ch) :=
  ((marks_injectN s _ ch).trans (overList_keeps (Marks _) _ _ _ (.refl _) fun u r k => k.trans (marks_countHeld u r true))).trans
    (marks_noteQueue _ ch)

/-! ### A grant -/

theorem bestOf_mem {l : List HReq} {r : HReq} (s : State) (h : s.bestOf l = some r) : r ∈ l := by
  have step (l : List HReq) (b : Option HReq) : ∀ r, l.foldl (fun best r => match best with
      | none => some r
      | some b => if s.reqPriority b < s.reqPriority r then some r else best) b = some r → b = some r ∨ r ∈ l := by
    induction l generalizing b with
    | nil => exact fun r h => .inl h
    | cons x l ih =>
      intro r h
      rcases ih _ r h with now | later
      · cases b with
        | none => exact .inr (by simp_all)
        | some b =>
          dsimp only at now
          split at now
          · exact .inr (by simp_all)
          · exact .inl now
      · exact .inr (List.mem_cons_of_mem _ later)
  exact (step l none r h).resolve_left nofun

theorem sameParts_countMod {p : List Part} (s : State) (f : Fld) (k : Nat) : SameParts p s (s.countMod f k) := (SameParts.refl p s).setFld _ _

theorem sameParts_countSat {p : List Part} (s : State) (f : Fld) (k : Nat) : SameParts p s (s.countSat f k) := (SameParts.refl p s).setFld _ _

theorem sameParts_modChan (s : State) (c : Nat) (f : Chan → Chan) : SameParts [.chans] s (s.modChan c f) :=
  fun q hq => by cases q with | chans => exact absurd (by simp) hq | _ => rfl

theorem SameParts.mono {p q : List Part} (h : SameParts p s t) (hp : p ⊆ q) : SameParts q s t := fun x hx => h x fun k => hx (hp k)

theorem sameParts_chargeBeats (s : State) (n ch cls beats : Nat) : SameParts [.regions, .chans] s (s.chargeBeats n ch cls beats) :=
  SameParts.trans (SameParts.trans (SameParts.trans (sameParts_countMod _ _ _) (sameParts_countMod _ _ _))
    (frame_modRgn _ n _ (r := []) (by simp)).sameParts) (SameParts.mono (sameParts_modChan _ _ _) (by simp))

theorem sameParts_measure (s : State) (r : HReq) : SameParts [.chans] s (s.measure r) := by
  unfold State.measure
  split
  · exact .refl _ s
  · exact SameParts.trans (frame_draw s [] _).sameParts (sameParts_modChan _ _ _)

/-- What the counters of a grant leave. -/
def State.grantCounts (s : State) (ch : Nat) (r : HReq) : State :=
  let n := r.region
  let p := s.reqPriority r
  let part := if r.write then partialSectors (r.data.map (·.1)) else 0
  let t := (s.when (decide (p < s.fullPriority r)) fun u => u.countSat (F.RGN_DLY_BUDGET_DELAYED_BUDGET n r.cls)).when (p == 3)
    fun u => u.countSat (F.RGN_URGENT_URGENT n)
  (t.countMod (F.HBM_CH_RMW_RMW (ch / 16) (ch % 16)) part).chargeBeats n ch r.cls (popCount4 r.sectors + part)

theorem sameParts_grantCounts (s : State) (ch : Nat) (r : HReq) : SameParts [.regions, .chans] s (s.grantCounts ch r) :=
  ((((SameParts.refl _ s).when (sameParts_countSat _ _ _)).when (sameParts_countSat _ _ _)).trans (sameParts_countMod _ _ _)).trans
    (sameParts_chargeBeats _ _ _ _ _)

/-- A write-back that is served: it is in HBM and no request any more. -/
def State.served (s : State) (r : HReq) : State := { s with hbm := hbmMerge s.hbm r, hreqs := s.hreqs.filter fun q => q.id != r.id }

theorem grant_write (s : State) (ch : Nat) {r : HReq} (write : r.write = true) :
    s.grant ch r = (((s.grantCounts ch r).served r).measure r).noteQueue ch := by
  unfold State.grant
  simp only [write, if_true]
  rw [State.grantCounts, State.served]
  simp only [write, if_true]

theorem grant_read (s : State) (ch : Nat) {r : HReq} (read : ¬ r.write = true) :
    s.grant ch r = ((s.grantCounts ch r).modReq r.id fun q => { q with granted := true }).noteQueue ch := by
  unfold State.grant
  simp only [read, if_false, Bool.false_eq_true]
  rw [State.grantCounts]
  simp only [read, if_false, Bool.false_eq_true]

theorem exec_hbmGrant (c : Fin 128) (s : State) (r : HReq) (free : s.chanHeld c = false) (serves : s.stackReady c = true)
    (best : (s.injectAll c).bestOf ((s.injectAll c).hreqs.filter fun r => r.chan == c && r.injected && !r.granted) = some r) :
    exec (.hbmGrant c) s = done (((s.injectAll c).grant c r).injectAll c) := by
  have exe : exec (.hbmGrant c) s = execHbmGrant c s := rfl
  rw [execHbmGrant] at exe
  simp only [free, serves, best] at exe
  exact exe

theorem sameParts_noteQueue {p : List Part} (s : State) (ch : Nat) : SameParts p s (s.noteQueue ch) :=
  (((SameParts.refl p s).setFld _ _).setFld _ _).setFld _ _

/-- A grant of a write-back brings it into HBM. -/
theorem grant_write_spec (s : State) (ch : Nat) {r : HReq} (write : r.write = true) :
    (s.grant ch r).hbm = hbmMerge s.hbm r ∧ ∀ q ∈ (s.grant ch r).hreqs, q.id ≠ r.id := by
  have hbm : (s.grantCounts ch r).hbm = s.hbm := sameParts_grantCounts s ch r .hbm (by simp)
  have parts := SameParts.trans (sameParts_measure ((s.grantCounts ch r).served r) r) (sameParts_noteQueue _ ch)
  rw [grant_write _ _ write, show (State.noteQueue _ ch).hbm = _ from parts .hbm (by simp),
    show (State.noteQueue _ ch).hreqs = _ from parts .hreqs (by simp), ← hbm]
  exact ⟨rfl, fun q hq => by simpa using (List.mem_filter.mp hq).2⟩

theorem modReq_hbm (s : State) (i : Nat) (f : HReq → HReq) : (s.modReq i f).hbm = s.hbm := rfl

theorem modReq_hreqs (s : State) (i : Nat) (f : HReq → HReq) : (s.modReq i f).hreqs = s.hreqs.map fun r => if r.id == i then f r else r := rfl

/-- A grant of a read marks it. -/
theorem grant_read_spec (s : State) (ch : Nat) {r : HReq} (read : ¬ r.write = true) (here : r ∈ s.hreqs) :
    (s.grant ch r).hbm = s.hbm ∧ ∃ q ∈ (s.grant ch r).hreqs, q.id = r.id ∧ q.granted = true := by
  have counts := sameParts_grantCounts s ch r
  have hbm : (s.grantCounts ch r).hbm = s.hbm := counts .hbm (by simp)
  have hreqs : (s.grantCounts ch r).hreqs = s.hreqs := counts .hreqs (by simp)
  have parts := sameParts_noteQueue (p := []) ((s.grantCounts ch r).modReq r.id fun q => { q with granted := true }) ch
  rw [grant_read _ _ read, parts .hbm (by simp), parts .hreqs (by simp), modReq_hbm, modReq_hreqs, hbm, hreqs]
  refine ⟨rfl, _, List.mem_map_of_mem here, ?_, ?_⟩ <;> simp

theorem answers_hbmGrant (c : Fin 128) (s : State) (r : HReq) (free : s.chanHeld c = false) (serves : s.stackReady c = true)
    (best : (s.injectAll c).bestOf ((s.injectAll c).hreqs.filter fun r => r.chan == c && r.injected && !r.granted) = some r) :
    Answers (.hbmGrant c) s fun t =>
      if r.write then t.hbm = hbmMerge s.hbm r ∧ ∀ q ∈ t.hreqs, q.id ≠ r.id
      else t.hbm = s.hbm ∧ ∃ q ∈ t.hreqs, q.id = r.id ∧ q.granted = true := by
  have before : (s.injectAll c).hbm = s.hbm := (marks_injectAll s c).parts .hbm (by simp)
  have here : r ∈ (s.injectAll c).hreqs := (List.mem_filter.mp (bestOf_mem _ best)).1
  obtain ⟨⟨f, keeps, reqs⟩, stays⟩ := marks_injectAll ((s.injectAll c).grant c r) c
  refine answers_of_done (exec_hbmGrant c s r free serves best) ?_
  rw [State.refreshPf_hbm, State.refreshPf_hreqs, reqs, show (State.injectAll _ c).hbm = _ from stays .hbm (by simp)]
  by_cases write : r.write = true
  · obtain ⟨hbm, gone⟩ := grant_write_spec (s.injectAll c) c write
    rw [if_pos write, hbm, before]
    refine ⟨rfl, fun q hq => ?_⟩
    obtain ⟨x, hx, rfl⟩ := List.mem_map.mp hq
    rw [(keeps x).1]
    exact gone x hx
  · obtain ⟨hbm, x, hx, name, granted⟩ := grant_read_spec (s.injectAll c) c write here
    rw [if_neg write, hbm, before]
    exact ⟨rfl, f x, List.mem_map_of_mem hx, (keeps x).1.trans name, (keeps x).2.trans granted⟩

/-! ### A fetch -/

theorem putLine_eq (s : State) (n i cls : Nat) (l : CLine) (ways : ¬ s.cacheWays i = 0)
    (room : (((s.slice i).put l).lines.filter fun m => setOf m.line == setOf l.line).length ≤ s.cacheWays i) :
    s.putLine n i cls l = (s.modSlice i fun _ => (s.slice i).put l).noteMeridian i := by
  have fuel : ∃ k, (s.slices.map fun e => e.2.lines.countP fun x => x.kind == .borrowed).foldl (· + ·) 2 = k + 1 := by
    have grows (l : List Nat) (a : Nat) : a ≤ l.foldl (· + ·) a := by
      induction l generalizing a with
      | nil => exact Nat.le_refl a
      | cons x l ih => exact (Nat.le_add_right a x).trans (ih _)
    exact ⟨_, (Nat.sub_add_cancel ((by decide : 1 ≤ 2).trans (grows _ 2))).symm⟩
  obtain ⟨k, hk⟩ := fuel
  rw [State.putLine, hk, State.putLineN]
  simp only [if_neg ways, if_pos room]

theorem put_room (sl : Slice) (l : CLine) :
    ((sl.put l).lines.filter fun m => setOf m.line == setOf l.line).length =
      (sl.lines.filter fun m => m.line != l.line && setOf m.line == setOf l.line).length + 1 := by
  simp only [Slice.put, List.filter_cons, BEq.rfl, if_true, List.length_cons, List.filter_filter, Bool.and_comm]

theorem home_line (sl : Slice) (line : Nat) : (sl.home line).line = line := by
  unfold Slice.home
  cases found : sl.find line with
  | none => rfl
  | some l => simpa using List.find?_some found

theorem noteMeridian_slices (s : State) (i : Nat) : (s.noteMeridian i).slices = s.slices := rfl

theorem sameParts_noteMeridian {p : List Part} (s : State) (i : Nat) : SameParts p s (s.noteMeridian i) :=
  (((SameParts.refl p s).setFld _ _).setFld _ _).setFld _ _

/-- The state with a fetch off the list of requests. -/
def State.fetched (s : State) (id : Nat) : State := { s with hreqs := s.hreqs.filter fun q => q.id != id }

/-- The line that a fetch fills. -/
def State.filledLine (s : State) (id : Nat) (r : HReq) : CLine :=
  (((s.fetched id).slice (sliceOfChannel r.chan)).home r.line).fill ((s.fetched id).hbmView r.chan) (hbmKey r.chan r.addr) r.sectors

theorem filledLine_line (s : State) (id : Nat) (r : HReq) : (s.filledLine id r).line = r.line := home_line _ _

theorem answers_hbmReadComplete (id : Nat) (s : State) (r : HReq)
    (found : s.hreqs.find? (fun r => r.id == id && r.granted && !r.write) = some r)
    (room : ((s.slice (sliceOfChannel r.chan)).lines.filter fun m : CLine => m.line != r.line && setOf m.line == setOf r.line).length <
      s.cacheWays (sliceOfChannel r.chan)) : Answers (.hbmReadComplete id) s fun t =>
      t.hreqs = (s.hreqs.filter fun q => q.id != id) ∧ t.hbm = s.hbm ∧
        ∃ l, (t.slice (sliceOfChannel r.chan)).find r.line = some l ∧ ∀ k, k < 4 → r.sectors.testBit k = true →
          l.present.testBit k = true := by
  have exe : exec (.hbmReadComplete id) s = execHbmReadComplete id s := rfl
  have ways : ¬ (s.fetched id).cacheWays (sliceOfChannel r.chan) = 0 := fun h => absurd (h ▸ room) (Nat.not_lt_zero _)
  have fits : ((((s.fetched id).slice (sliceOfChannel r.chan)).put (s.filledLine id r)).lines.filter fun m =>
      setOf m.line == setOf (s.filledLine id r).line).length ≤ (s.fetched id).cacheWays (sliceOfChannel r.chan) := by
    rw [put_room, filledLine_line]
    exact room
  have placed : execHbmReadComplete id s = done (((s.fetched id).putLine r.region (sliceOfChannel r.chan) r.cls (s.filledLine id r)).measure r) := by
    rw [execHbmReadComplete, found]
    exact congrArg (fun u : State => done (u.measure r)) (if_neg ways)
  rw [placed, putLine_eq _ _ _ _ _ ways fits] at exe
  let put := (s.fetched id).modSlice (sliceOfChannel r.chan) fun _ => ((s.fetched id).slice (sliceOfChannel r.chan)).put (s.filledLine id r)
  have parts := (sameParts_noteMeridian put (sliceOfChannel r.chan)).trans (sameParts_measure _ r)
  refine answers_of_done exe ⟨?_, ?_, s.filledLine id r, ?_, fun k _ hk => ?_⟩
  · rw [State.refreshPf_hreqs]; exact parts .hreqs (by simp)
  · rw [State.refreshPf_hbm]; exact parts .hbm (by simp)
  · have slices : (State.refreshPf ((put.noteMeridian (sliceOfChannel r.chan)).measure r)).slice (sliceOfChannel r.chan) =
        ((s.fetched id).slice (sliceOfChannel r.chan)).put (s.filledLine id r) := by
      rw [State.slice, State.refreshPf_slices, show (State.measure _ r).slices = put.slices from parts .slices (by simp)]
      exact smGet_smPut_same ..
    rw [slices]
    simp [Slice.find, Slice.put, filledLine_line]
  · show (((s.fetched id).slice _).home r.line).present ||| r.sectors |>.testBit k
    rw [Nat.testBit_or, hk, Bool.or_true]

/-! ### Promotions by age -/

theorem promoted_fld (s : State) (n : Nat) :
    (s.countSat (F.RGN_AGE_PROMOTED_PROMOTED n)).refreshPf.fld (F.RGN_AGE_PROMOTED_PROMOTED n) =
      min (s.fld (F.RGN_AGE_PROMOTED_PROMOTED n) + 1) 0xFFFFFFFF := by
  have off : (F.RGN_AGE_PROMOTED_PROMOTED n).off ≠ R.INT_PF_STATUS := by
    simp only [F.RGN_AGE_PROMOTED_PROMOTED, R.RGN_AGE_PROMOTED, R.INT_PF_STATUS]; omega
  rw [State.refreshPf_fld _ _ off]
  exact fld_countSat _ _ _ (show 0 + 32 ≤ 32 by decide)

theorem frame_promoted (s : State) (n : Nat) (p : List Part) :
    Frame s (s.countSat (F.RGN_AGE_PROMOTED_PROMOTED n)) [R.RGN_AGE_PROMOTED n] p := frame_countSat _ _ _ _ (List.mem_singleton_self _)

theorem frame_modReq (s : State) (i : Nat) (f : HReq → HReq) (r : List Nat) : Frame s (s.modReq i f) r [.hreqs] :=
  ⟨fun _ _ _ _ => rfl, fun q hq => by cases q with | hreqs => exact absurd (by simp) hq | _ => rfl⟩

theorem answers_promote_request (id : Nat) (s : State) (r : HReq)
    (found : s.hreqs.find? (fun r => r.id == id && !r.granted && !r.promoted) = some r) :
    Answers (.agePromotion (.request id)) s fun t =>
      (∀ q ∈ t.hreqs, q.id = id → q.promoted = true) ∧
        t.fld (F.RGN_AGE_PROMOTED_PROMOTED r.region) = min (s.fld (F.RGN_AGE_PROMOTED_PROMOTED r.region) + 1) 0xFFFFFFFF ∧
        Frame s t [R.RGN_AGE_PROMOTED r.region] [.hreqs] ∧ Sent s t [] := by
  have exe : exec (.agePromotion (.request id)) s = execAgePromotion (.request id) s := rfl
  rw [execAgePromotion, found] at exe
  refine answers_of_done exe ⟨fun q hq name => ?_, promoted_fld (s.modReq id _) _,
    ((frame_modReq s id _ _).trans (frame_promoted _ _ _)).pf, Sent.pf (sent_of_out rfl)⟩
  rw [State.refreshPf_hreqs] at hq
  obtain ⟨x, -, rfl⟩ := List.mem_map.mp (show q ∈ (s.modReq id _).hreqs from hq)
  split at name
  · next same => rw [if_pos same]
  · next other => exact absurd (by simpa using name) other

/-- The state with the requests of the Edge Rings. -/
def State.withEdge (s : State) (l : List Packet) : State := { s with edge := l }

theorem frame_withEdge (s : State) (l : List Packet) (r : List Nat) : Frame s (s.withEdge l) r [.edge] :=
  ⟨fun _ _ _ _ => rfl, fun q hq => by cases q with | edge => exact absurd (by simp) hq | _ => rfl⟩

/-- A request at the column stop of w that came with q or before it. -/
def agesWith (q : Packet) (w : RingWait) (x : Packet) : Bool :=
  !x.promoted && x.since ≤ q.since && x.region == q.region && (edgeStop x).any fun v => v.ring == w.ring && v.col == w.col

theorem ageEdge_eq {q : Packet} {w : RingWait} (s : State) (stop : edgeStop q = some w) :
    s.ageEdge q = (s.countSat (F.RGN_AGE_PROMOTED_PROMOTED q.region) (s.edge.countP (agesWith q w))).withEdge
      (s.edge.map fun x => if agesWith q w x then { x with promoted := true } else x) := by
  rw [State.ageEdge, stop]
  rfl

theorem answers_promote_edge (id : Nat) (s : State) (q : Packet) (found : s.edge.find? (fun q => q.id == id && !q.promoted) = some q)
    (stops : (edgeStop q).isSome = true) : Answers (.agePromotion (.edge id)) s fun t =>
      (∀ x ∈ t.edge, x.id = id → x.since = q.since → x.region = q.region → edgeStop { x with promoted := false } = edgeStop q →
        x.promoted = true) ∧
        t.edge.map (fun x => { x with promoted := false }) = s.edge.map (fun x => { x with promoted := false }) ∧
        Frame s t [R.RGN_AGE_PROMOTED q.region] [.edge] ∧ Sent s t [] := by
  obtain ⟨w, stop⟩ := Option.isSome_iff_exists.mp stops
  have exe : exec (.agePromotion (.edge id)) s = execAgePromotion (.edge id) s := rfl
  rw [execAgePromotion, found] at exe
  dsimp only at exe
  rw [ageEdge_eq s stop] at exe
  refine answers_of_done exe ⟨fun x hx _ since region same => ?_, ?_,
    ((frame_countSat s (F.RGN_AGE_PROMOTED_PROMOTED q.region) _ _ (List.mem_singleton_self _)).trans (frame_withEdge _ _ _)).pf, Sent.pf (sent_of_out rfl)⟩
  · rw [State.refreshPf_edge] at hx
    obtain ⟨y, -, rfl⟩ := List.mem_map.mp (show x ∈ s.edge.map _ from hx)
    split
    · rfl
    · next stays =>
      rw [if_neg stays] at since region same
      by_contra young
      refine stays ?_
      have asIs : { y with promoted := false } = y := by
        cases y
        simp_all
      rw [asIs, stop] at same
      simp [agesWith, young, since, region, same]
  · rw [State.refreshPf_edge]
    show (s.edge.map _).map _ = _
    rw [List.map_map]
    refine List.map_congr_left fun x _ => ?_
    dsimp only [Function.comp]
    split <;> rfl

theorem answers_promote_ingress (port : Fin 4) (place now n : Nat) (p : LinkPacket) (s : State)
    (since : (s.port port).since[place]? = some now) (packet : (s.port port).ingress[place]? = some p)
    (region : s.portRegion port = some n) (request : isResponse p.kind = false) (young : (s.port port).aged.contains now = false) :
    Answers (.agePromotion (.ingress port place)) s fun t =>
      now ∈ (t.port port).aged ∧ (t.port port).ingress = (s.port port).ingress ∧
        t.fld (F.RGN_AGE_PROMOTED_PROMOTED n) = min (s.fld (F.RGN_AGE_PROMOTED_PROMOTED n) + 1) 0xFFFFFFFF ∧
        Frame s t [R.RGN_AGE_PROMOTED n] [.ports] ∧ Sent s t [] := by
  have exe : exec (.agePromotion (.ingress port place)) s = execAgePromotion (.ingress port place) s := rfl
  rw [execAgePromotion, State.ageIngress] at exe
  simp only [since, packet, region, request, young, Bool.or_self, Bool.false_eq_true, if_false] at exe
  refine answers_of_done exe ⟨?_, ?_, promoted_fld (s.modPort port _) n,
    ((frame_modPort s port _ (by simp)).trans (frame_promoted _ _ _)).pf, Sent.pf (sent_of_out rfl)⟩
  all_goals rw [State.refreshPf_port, State.countSat_port, State.port_modPort_same]
  exact (insertNat_mem _ _ _).mpr (.inl rfl)

theorem answers_promote_block (d : DescRef) (x : Desc) (s : State) (desc : s.desc? d = some x) (running : x.phase = .running)
    (block : x.block.isSome = true) (writing : x.linkWriting = false) (young : x.promoted = false) :
    Answers (.agePromotion (.block d)) s fun t =>
      t.desc? d = some { x with promoted := true } ∧
        t.fld (F.RGN_AGE_PROMOTED_PROMOTED d.vf) = min (s.fld (F.RGN_AGE_PROMOTED_PROMOTED d.vf) + 1) 0xFFFFFFFF ∧
        Frame s t [R.RGN_AGE_PROMOTED d.vf] [.vfs] ∧ Sent s t [] := by
  have exe : exec (.agePromotion (.block d)) s = execAgePromotion (.block d) s := rfl
  rw [execAgePromotion, State.ageBlock, desc] at exe
  simp only [running, block, writing, young, BEq.rfl, Bool.not_false, Bool.and_self, if_true] at exe
  refine answers_of_done exe ⟨?_, promoted_fld (s.modDesc d.vf d.ring x.index _) d.vf,
    ((frame_modVf s d.vf _ (by simp)).trans (frame_promoted _ _ _)).pf, Sent.pf (sent_of_out rfl)⟩
  rw [desc?_of_vfs (State.refreshPf_vfs _)]
  exact (desc?_of_vfs rfl).trans (desc?_modDesc_of desc _ fun _ h => h)

/-! ### The end of a window -/

theorem sameParts_closeClass (s : State) (n ch cls : Nat) : SameParts [.chans] s (s.closeClass n ch cls) := by
  unfold State.closeClass
  extract_lets c t k l boosted
  split
  · exact .refl _ s
  · exact sameParts_modChan _ _ _

theorem sameParts_closeRegion (s : State) (n : Nat) : SameParts [.chans] s (s.closeRegion n) := by
  unfold State.closeRegion
  extract_lets chs
  refine (SameParts.refl _ s).walk _ _ fun t cls => ?_
  split
  · exact .refl _ t
  · have closed := ((SameParts.refl [.chans] t).walk chs (fun v ch => v.closeClass n ch cls) fun v ch => sameParts_closeClass v n ch cls)
    have noted := closed.setFld (F.RGN_DLY_LAT_LAT_AVG n cls)
      (min ((chs.map fun ch => smGet ((overList chs t fun v ch => v.closeClass n ch cls).chan ch).lat 0 cls).foldl max 0) 0xFFFFF)
    dsimp only
    split
    · exact noted.trans (sameParts_countSat _ _ _)
    · exact noted

theorem sameParts_noteStall (s : State) (n : Nat) : SameParts [] s (s.noteStall n) := by
  unfold State.noteStall
  split
  · exact SameParts.trans (frame_draw s [] _).sameParts (sameParts_countMod _ _ _)
  · exact .refl _ s

/-- The counters of every channel as a window begins. -/
def State.freshWindow (s : State) : State :=
  { s with
    stops := []
    chans := s.chans.map fun e => (e.1, { e.2 with used := [], latSum := [], latCount := [] }) }

theorem sameParts_freshWindow (s : State) : SameParts [.stops, .chans] s s.freshWindow := fun q hq => by
  cases q with
  | stops => exact absurd (by simp) hq
  | chans => exact absurd (by simp) hq
  | _ => rfl

theorem freshWindow_used (s : State) (c : Nat) : (s.freshWindow.chan c).used = [] := by
  rw [State.chan, State.freshWindow]
  generalize s.chans = l
  induction l with
  | nil => rfl
  | cons e l ih =>
    rw [List.map_cons, smGet]
    split
    · rfl
    · exact ih

theorem answers_budgetWindow (s : State) (powered : s.power.halves = true) : Answers .budgetWindow s fun t =>
    t.stops = [] ∧ (∀ c, (t.chan c).used = []) ∧ ∀ p, p ∉ [Part.stops, .chans] → p.same s t := by
  have exe : exec .budgetWindow s = execBudgetWindow s := rfl
  rw [execBudgetWindow, powered] at exe
  let live := (List.range 32).filter fun n => s.rgnState n != rFREE && s.rgnState n != rCONFIGURING
  let closed := overList live (overList live s State.closeRegion) State.noteStall
  have parts : SameParts [.chans] s closed :=
    ((SameParts.refl _ s).walk live _ sameParts_closeRegion).walk live _ fun u n => (sameParts_noteStall u n).mono (by simp)
  refine answers_of_done (t := closed.freshWindow) exe ⟨?_, fun c => ?_, SameParts.trans
    (SameParts.trans (parts.mono (by simp)) (sameParts_freshWindow closed)) (frame_refreshPf _ [] _).sameParts⟩
  · rw [State.refreshPf_stops]; rfl
  · rw [State.chan, State.refreshPf_chans]
    exact freshWindow_used closed c

/-- Settles O55: each step of a channel, and each promotion, by its own lemma. -/
theorem channelStepsComplete : Obligations.ChannelStepsComplete := by
  unfold Obligations.ChannelStepsComplete
  exact ⟨answers_hbmGrant, answers_hbmReadComplete, fun c b s => answers_of_done (t := s) rfl ⟨(Frame.refl s [] []).pf, Sent.pf (sent_of_out rfl)⟩,
    answers_promote_request, answers_promote_edge, answers_promote_ingress, answers_promote_block, answers_budgetWindow⟩

end Sys2Proof.Machine
end

section
/-! A pass over an image counts at the ring engine as urgent when the VF's completion holding buffer is nearly full (R713, RGN_URGENT):
O16 leaves that register out of what the pass may change. -/

namespace Sys2Proof.Machine

/-- A LOAD_SCHEDULE in its first pass, of an image of no bytes. -/
def emptyLoad : Desc := { index := 0, words := tyLOAD :: List.replicate 15 0, phase := .running }

/-- Region 0 is READY, its VF may request, and 15 records are held for its completion ring. -/
def urgentLoadState : State :=
  { (State.reset.setFld (F.RGN_STATE_STATE 0) rREADY).setFld F.HOST_VF_BME_BME 1 with
    vfs := [(0, { rings := [{ descs := [emptyLoad] }], held := List.replicate 15 ⟨[], false⟩ })] }

/-- The descriptor of that LOAD_SCHEDULE. -/
def emptyLoadRef : DescRef := { vf := 0, ring := 0, index := 0 }

theorem urgentLoadState_begin : urgentLoadState.begin emptyLoadRef tyLOAD = some (emptyLoad, urgentLoadState) := by decide +kernel

/-- The pass counts in RGN_URGENT. -/
theorem urgentLoadState_urgent : (after (.loadSchedule emptyLoadRef { bytes := [] }) urgentLoadState).fld (F.RGN_URGENT_URGENT 0) = 1 := by decide +kernel

/-- Refutes O16: with 15 records held, the rejected first pass of an image counts one urgent grant in RGN_URGENT of region 0, where the
statement lets SCH_IMG_STATE and RGN_DLY_BUDGET alone change. -/
theorem not_imageLoadsComplete : ¬ Obligations.ImageLoadsComplete := by
  unfold Obligations.ImageLoadsComplete
  intro ⟨_, passes⟩
  obtain ⟨rejects, -⟩ := passes emptyLoadRef { bytes := [] } urgentLoadState urgentLoadState emptyLoad urgentLoadState_begin (by decide +kernel)
    (by decide +kernel) (by decide +kernel)
  obtain ⟨-, -, -, good⟩ := (rejects rfl (by decide +kernel)).after
  obtain ⟨-, frame⟩ := good rfl
  have same := frame.fld_eq (F.RGN_URGENT_URGENT 0) (by decide) (by decide)
  exact absurd (urgentLoadState_urgent.symm.trans same) (by decide +kernel)

end Sys2Proof.Machine
end

section
/-! A message of the partner takes the ring as urgent when its port's ingress buffer is nearly full (R713, RGN_URGENT): O29 leaves that
register out of what the message may change. -/

namespace Sys2Proof.Machine

/-- A MESSAGE on LINK_CHANNEL 0. -/
def partnerMessage : LinkPacket := { kind := .message, bytes := List.replicate 16 0 }

/-- A WRITE of 256 bytes, which takes 17 link credits. -/
def partnerWrite : LinkPacket := { kind := .write, bytes := List.replicate 256 0 }

/-- The IN channel of port 0 to queue 0 of core 0. -/
def partnerChannel : Channel := { src := .link 0 0, dst := .core 0 0, credits := 1, credit := true }

/-- An image with that channel. -/
def partnerImage : Image :=
  { hostAddr := 0, hostLen := 0, bytes := 0, id := 0, signed := false, meridianDx := 0xFF, variants := 0, frameSlots := 0, sets := []
    programs := [], channels := [partnerChannel], combiners := [], decls := [], proofLo := 0 }

/-- Region 0 runs, port 0 is its own, and behind the MESSAGE 422 WRITEs hold 7174 of the port's link credits. -/
def fullIngressState : State :=
  { ((State.reset.setFld (F.RGN_STATE_STATE 0) rRUNNING).setFld (F.HL_ASSIGN_VALID 0) 1).setFld (F.HL_ASSIGN_REGION 0) 0 with
    regions := [(0, { image := some partnerImage })]
    ports := [(0, { ingress := partnerMessage :: List.replicate 422 partnerWrite })] }

/-- The message counts in RGN_URGENT. -/
theorem fullIngressState_urgent : (after (.linkMessage 0 partnerMessage) fullIngressState).fld (F.RGN_URGENT_URGENT 0) = 1 := by
  decide +kernel

/-- Refutes O29: with 7174 link credits' worth of requests behind it, a message of the current epoch counts one urgent grant in RGN_URGENT
of its region, where the statement lets the ring's counters and RGN_DLY_BUDGET alone change. -/
theorem not_partnerAnswersComplete : ¬ Obligations.PartnerAnswersComplete := by
  unfold Obligations.PartnerAnswersComplete
  intro h
  obtain ⟨message, -⟩ := h 0 partnerMessage fullIngressState (by decide +kernel)
  obtain ⟨-, -, frame, -⟩ := (message 0 0 partnerChannel (.core 0) 0 rfl (by decide +kernel) (by decide +kernel) (by decide +kernel)
    (by decide +kernel) (.inl ⟨0, 0, rfl, rfl, by decide⟩)).after
  have same := frame.fld_eq (F.RGN_URGENT_URGENT 0) (by decide) (by decide)
  exact absurd (fullIngressState_urgent.symm.trans same) (by decide +kernel)

end Sys2Proof.Machine
end

section
/-! Combining queues (R562, R569, R573 to R577): a contribution joins its entry; a complete entry is delivered and freed. -/

namespace Sys2Proof.Machine

variable {s t : State} {n k : Nat} {i : Fin 64} {q : Fin 16} {c : Combiner} {e : CombEntry} {ch : Channel}

/-! ### Contributions -/

theorem frame_modSlice (s : State) (i : Nat) (f : Slice → Slice) {r : List Nat} {p : List Part} (h : .slices ∈ p) :
    Frame s (s.modSlice i f) r p :=
  ⟨fun _ _ _ _ => rfl, fun x hx => by cases x with | slices => exact absurd h hx | _ => rfl⟩

/-- The slice with the head of its input in an entry. -/
def Slice.joined (sl : Slice) (q : Nat) (es : List CombEntry) : Slice := { sl with combIn := sl.combIn.tail, combs := smPut sl.combs q es }

theorem leaveInput_eq (s : State) (n i : Nat) (x : Contribution)
    (near : ((s.channel n x.chan).all fun ch => match ch.src with | .link _ _ => false | _ => true) = true) :
    s.leaveInput n i x = s.modSlice i fun sl => { sl with combIn := sl.combIn.tail } := by
  unfold State.leaveInput
  extract_lets t
  have chan : t.channel n x.chan = s.channel n x.chan := rfl
  rw [chan]
  cases found : s.channel n x.chan with
  | none => rfl
  | some ch =>
    rw [found] at near
    cases src : ch.src with
    | link p l => simp [src] at near
    | _ => simp only [src]; rfl

theorem answers_combiningAccept (i : Fin 64) (s : State) (n : Nat) (x : Contribution) (rest : List Contribution) (c : Combiner)
    (es : List CombEntry) (owner : s.ownerOf (tileOfSlice i) = some n) (input : (s.slice i).combIn = x :: rest) (tag : x.badTag = false)
    (combiner : s.combiner n i x.q = some c) (joins : joinEntry (smGet (s.slice i).combs [] x.q) c x = some es)
    (near : ((s.channel n x.chan).all fun ch => match ch.src with | .link _ _ => false | _ => true) = true) :
    Answers (.combiningAccept i) s fun t =>
      (t.slice i).combIn = rest ∧ smGet (t.slice i).combs [] x.q = es ∧
        (∀ q, q ≠ x.q → smGet (t.slice i).combs [] q = smGet (s.slice i).combs [] q) ∧
        (∀ j, j ≠ i.val → t.slice j = s.slice j) ∧ Frame s t [] [.slices] ∧ Sent s t [] := by
  have exe : exec (.combiningAccept i) s = execCombiningAccept i s := rfl
  rw [execCombiningAccept] at exe
  simp only [input, owner, tag, combiner, joins, leaveInput_eq s n i x near, Bool.false_eq_true, if_false] at exe
  have slice : ((s.modSlice i fun sl => { sl with combIn := sl.combIn.tail }).modSlice i fun sl =>
      { sl with combs := smPut sl.combs x.q es }).slice i = (s.slice i).joined x.q es := by
    rw [State.slice_modSlice_same, State.slice_modSlice_same]
    rfl
  refine answers_of_done exe ⟨?_, ?_, fun q hq => ?_, fun j hj => ?_,
    ((frame_modSlice s i _ (by simp)).trans (frame_modSlice _ i _ (by simp))).pf, Sent.pf (sent_of_out rfl)⟩
  · rw [State.refreshPf_slice, slice, Slice.joined, input]; rfl
  · rw [State.refreshPf_slice, slice]; exact smGet_smPut_same ..
  · rw [State.refreshPf_slice, slice]; exact smGet_smPut_ne _ _ _ hq
  · rw [State.refreshPf_slice, State.slice_modSlice_ne _ _ hj, State.slice_modSlice_ne _ _ hj]

/-! ### A delivery -/

/-- The message that an entry sends. -/
def deliveryMessage (i q : Nat) (c : Combiner) (e : CombEntry) (k : Nat) : Message :=
  { lo := (deliveryOf c e).1, hi := (deliveryOf c e).2, poisonLo := e.poisoned, poisonHi := false, key := cqKey i q, chan := k }

/-- The entries of a queue, and the state, once one of them has been looked at. -/
def State.deliverStep (n : Nat) (c : Combiner) (acc : List CombEntry × State) (e : CombEntry) : List CombEntry × State :=
  if !e.complete c then (acc.1 ++ [e], acc.2)
  else
    let (e', t) := acc.2.deliverAll n c { e with begun := true }
    (if e'.sent = 2 ^ c.deliveries - 1 then acc.1 else acc.1 ++ [e'], t)

theorem deliverStep_open (acc : List CombEntry × State) (l : List CombEntry) (unfinished : ∀ x ∈ l, x.complete c = false) :
    l.foldl (State.deliverStep n c) acc = (acc.1 ++ l, acc.2) := by
  induction l generalizing acc with
  | nil => simp
  | cons x l ih =>
    have now : State.deliverStep n c acc x = (acc.1 ++ [x], acc.2) := by simp [State.deliverStep, unfinished x List.mem_cons_self]
    rw [List.foldl_cons, now, ih _ fun y hy => unfinished y (List.mem_cons_of_mem _ hy)]
    simp

theorem deliverAll_one (one : c.deliveries = 1) (unsent : e.sent = 0) (sends : s.deliverOne n c e 0 = some t) :
    s.deliverAll n c e = ({ e with sent := 1 }, t) := by
  unfold State.deliverAll
  rw [one]
  simp [unsent, sends]

theorem deliverStep_complete (acc : List CombEntry × State) (complete : e.complete c = true) (one : c.deliveries = 1) (unsent : e.sent = 0)
    (sends : acc.2.deliverOne n c { e with begun := true } 0 = some t) : State.deliverStep n c acc e = (acc.1, t) := by
  have delivered := deliverAll_one (e := { e with begun := true }) one unsent sends
  simp [State.deliverStep, complete, delivered, one]

theorem combiner_place (combiner : s.combiner n i q = some c) : c.slice = i ∧ c.q = q := by
  obtain ⟨im, -, found⟩ := Option.bind_eq_some_iff.mp combiner
  simpa using List.find?_some found

/-- The state with the entries of a queue. -/
def State.withEntries (r : List CombEntry × State) (i q : Nat) : State :=
  r.2.modSlice i fun sl => { sl with combs := smPut sl.combs q r.1 }

theorem deliver_eq (s : State) {n i q : Nat} {c : Combiner} (combiner : s.combiner n i q = some c) :
    s.deliver n i q = State.withEntries ((smGet (s.slice i).combs [] q).foldl (State.deliverStep n c) ([], s)) i q := by
  rw [State.deliver, combiner]
  rfl

/-- The only delivery of the only complete entry of a queue goes, and the entry is freed. -/
theorem exec_combiningDelivery {ahead after : List CombEntry} (owner : s.ownerOf (tileOfSlice i) = some n)
    (combiner : s.combiner n i q = some c) (one : c.deliveries = 1) (unsent : e.sent = 0)
    (entries : smGet (s.slice i).combs [] q = ahead ++ e :: after) (complete : e.complete c = true)
    (others : ∀ x ∈ ahead ++ after, x.complete c = false) (sends : s.deliverOne n c { e with begun := true } 0 = some t) :
    exec (.combiningDelivery i q) s = done (State.withEntries (ahead ++ after, t) i q) := by
  have exe : exec (.combiningDelivery i q) s = execCombiningDelivery i q s := rfl
  have walk : (ahead ++ e :: after).foldl (State.deliverStep n c) ([], s) = (ahead ++ after, t) := by
    rw [List.foldl_append, deliverStep_open _ _ fun x hx => others x (List.mem_append_left _ hx), List.foldl_cons,
      deliverStep_complete _ complete one unsent sends, deliverStep_open _ _ fun x hx => others x (List.mem_append_right _ hx)]
    simp
  rw [execCombiningDelivery, owner] at exe
  dsimp only at exe
  rw [deliver_eq s combiner, entries, walk] at exe
  exact exe

/-- What a queue's delivery leaves of its slice and of the others, with the credits and the messages not acknowledged as `f` leaves them. -/
structure Freed (s t : State) (i q : Nat) (l : List CombEntry) (f : Slice → Slice) : Prop where
  entries : smGet (t.slice i).combs [] q = l
  queues : ∀ r, r ≠ q → smGet (t.slice i).combs [] r = smGet (s.slice i).combs [] r
  slices : ∀ j, j ≠ i → t.slice j = s.slice j
  credits : (t.slice i).credits = (f (s.slice i)).credits
  unacked : (t.slice i).msgUnacked = (f (s.slice i)).msgUnacked

theorem withEntries_slice (v : State) (l : List CombEntry) (i q : Nat) :
    (State.withEntries (l, v) i q).slice i = { v.slice i with combs := smPut (v.slice i).combs q l } := State.slice_modSlice_same ..

/-- A delivery has sent a packet, and its slice is as `f` leaves it but for the entries of the queue. -/
theorem answers_delivered {x : Instr} {v : State} {l : List CombEntry} {p : Packet} {f : Slice → Slice} {r : List Part}
    (exe : exec x s = done (State.withEntries (l, v) i q)) (slice : v.slice i = f (s.slice i))
    (slices : ∀ j, j ≠ i.val → v.slice j = s.slice j) (combs : (f (s.slice i)).combs = (s.slice i).combs) (net : v.net = s.net ++ [p])
    (frame : Frame s v [] r) (hr : .slices ∈ r) (out : v.out = s.out) :
    Answers x s fun t => t.net = s.net ++ [p] ∧ Freed s t i q l f ∧ t.ports = v.ports ∧ Frame s t [] r ∧ Sent s t [] := by
  have here : (State.withEntries (l, v) i q).slice i = { f (s.slice i) with combs := smPut (s.slice i).combs q l } := by
    rw [withEntries_slice, slice, combs]
  refine answers_of_done exe ⟨?_, ⟨?_, fun r hr => ?_, fun j hj => ?_, ?_, ?_⟩, ?_, (frame.trans (frame_modSlice _ i _ hr)).pf,
    Sent.pf (sent_of_out out)⟩
  · rw [State.refreshPf_net]; exact net
  · rw [State.refreshPf_slice, here]; exact smGet_smPut_same ..
  · rw [State.refreshPf_slice, here]; exact smGet_smPut_ne _ _ _ hr
  · rw [State.refreshPf_slice, State.withEntries, State.slice_modSlice_ne _ _ hj]; exact slices j hj
  · rw [State.refreshPf_slice, here]
  · rw [State.refreshPf_slice, here]
  · rw [State.refreshPf_ports]; rfl

/-- The delivery may leave its slice. -/
structure Delivers (s : State) (n k : Nat) (i : Fin 64) (q : Fin 16) (c : Combiner) (ch : Channel) : Prop where
  combiner : s.combiner n i q = some c
  out : s.outChannel n (.cq i q 0) = some k
  channel : s.channel n k = some ch
  injects : s.mayInject n (tileOfSlice i) = true
  free : s.backedUp (.slice i) = false

/-- The slice with one credit of channel k less, and one message more to be acknowledged. -/
def Slice.creditSpent (sl : Slice) (k held : Nat) : Slice := { sl with credits := smPut sl.credits k (held - 1), msgUnacked := sl.msgUnacked + 1 }

theorem deliverOne_core {g q2 : Nat} (h : Delivers s n k i q c ch) (dst : ch.dst = .core g q2) (credit : 0 < smGet (s.slice i).credits 0 k) :
    s.deliverOne n c e 0 = some ((s.modSlice i (·.creditSpent k (smGet (s.slice i).credits 0 k))).newId.2.withPacket
      (messagePacket s.nextId n (.slice i) (.core g) k (cqKey i q) (deliveryMessage i q c e k))) := by
  obtain ⟨hslice, hq⟩ := combiner_place h.combiner
  unfold State.deliverOne
  simp only [hslice, hq, h.out, h.channel, h.injects, h.free, dst, Bool.not_true, Bool.or_self, Bool.false_eq_true, if_false,
    if_neg (Nat.pos_iff_ne_zero.mp credit)]
  rfl

theorem deliverOne_combining {i2 q2 d : Nat} (h : Delivers s n k i q c ch) (dst : ch.dst = .cq i2 q2 d)
    (taken : (s.newId.2.withPacket (messagePacket s.nextId n (.slice i) (.slice i2) k (cqKey i q) (deliveryMessage i q c e k))).backedUp
      (.slice i) = false) :
    s.deliverOne n c e 0 = some (s.newId.2.withPacket
      (messagePacket s.nextId n (.slice i) (.slice i2) k (cqKey i q) (deliveryMessage i q c e k))) := by
  obtain ⟨hslice, hq⟩ := combiner_place h.combiner
  unfold State.deliverOne
  simp only [hslice, hq, h.out, h.channel, h.injects, h.free, dst, Bool.not_true, Bool.or_self, Bool.false_eq_true, if_false]
  exact if_neg fun k => Bool.noConfusion (taken.symm.trans k)

theorem deliverOne_link {p l : Nat} (h : Delivers s n k i q c ch) (dst : ch.dst = .link p l) (count : 0 < smGet (s.port p).outCount 0 l) :
    s.deliverOne n c e 0 = some ((s.newId.2.modPort p (·.countTaken l)).withPacket
      (linkPacket s.nextId n p l (smGet (s.port p).outEpoch 0 l) (.slice i) (deliveryMessage i q c e k))) := by
  obtain ⟨hslice, hq⟩ := combiner_place h.combiner
  unfold State.deliverOne
  simp only [hslice, hq, h.out, h.channel, h.injects, h.free, dst, Bool.not_true, Bool.or_self, Bool.false_eq_true, if_false,
    if_neg (Nat.pos_iff_ne_zero.mp count)]
  rfl

/-- Settles O50: the contribution joins its entry; each delivery is the branch of `deliverOne` of its destination. -/
theorem combiningQueuesComplete : Obligations.CombiningQueuesComplete := by
  unfold Obligations.CombiningQueuesComplete
  refine ⟨answers_combiningAccept, fun i q s n k c e ahead after ch owner combiner one unsent entries complete others out channel injects free =>
    ?_⟩
  intro lo hi bytes freed
  have leaves : Delivers s n k i q c ch := ⟨combiner, out, channel, injects, free⟩
  have goes {t : State} := exec_combiningDelivery (t := t) owner combiner one unsent entries complete others
  refine ⟨fun i2 q2 d dst taken => ?_, fun g q2 dst credit => ?_, fun p l dst count => ?_⟩
  · have exe := goes (deliverOne_combining leaves dst (Bool.eq_false_iff.mpr fun h => Bool.noConfusion (h.symm.trans taken)))
    obtain ⟨t, he, net, fr, -, frame, sent⟩ := answers_delivered (f := id) (r := [.slices, .net]) exe rfl (fun j _ => rfl) rfl rfl
      ((frame_newId _ _ _).trans (frame_withPacket _ _ (by simp))) (by simp) rfl
    exact ⟨t, he, ⟨_, ⟨net, rfl, rfl, rfl, rfl, rfl, rfl, rfl⟩, rfl, rfl, rfl⟩, ⟨fr.entries, fr.queues, fr.slices⟩, fr.credits, frame, sent⟩
  · have exe := goes (deliverOne_core leaves dst credit)
    let spent := s.modSlice i (·.creditSpent k (smGet (s.slice i).credits 0 k))
    obtain ⟨t, he, net, fr, -, frame, sent⟩ := answers_delivered (f := (·.creditSpent k (smGet (s.slice i).credits 0 k)))
      (r := [.slices, .net]) exe (show spent.slice i = _ from State.slice_modSlice_same _ _ _)
      (fun j hj => show spent.slice j = _ from State.slice_modSlice_ne _ _ hj) rfl rfl
      ((frame_modSlice _ i _ (by simp)).trans ((frame_newId _ _ _).trans (frame_withPacket _ _ (by simp)))) (by simp) rfl
    exact ⟨t, he, ⟨_, ⟨net, rfl, rfl, rfl, rfl, rfl, rfl, rfl⟩, rfl, rfl, rfl⟩, ⟨fr.entries, fr.queues, fr.slices⟩, fr.credits, fr.unacked,
      frame, sent⟩
  · have exe := goes (deliverOne_link leaves dst count)
    obtain ⟨t, he, net, fr, ports, frame, sent⟩ := answers_delivered (f := id) (r := [.slices, .net, .ports]) exe rfl (fun j _ => rfl) rfl rfl
      ((frame_newId _ _ _).trans ((frame_modPort _ p _ (by simp)).trans (frame_withPacket _ _ (by simp)))) (by simp) rfl
    refine ⟨t, he, ⟨_, ⟨net, rfl, rfl, rfl, rfl, rfl, rfl, rfl⟩, rfl, rfl, rfl⟩, ⟨fr.entries, fr.queues, fr.slices⟩, ?_, frame, sent⟩
    have port : t.port p = (s.newId.2.modPort p (·.countTaken l)).port p := congrArg (fun ports => smGet ports ({} : Port) p) ports
    rw [port, State.port_modPort_same]
    exact smGet_smPut_same ..

end Sys2Proof.Machine
end

section
/-! What the plane delivers (R525 to R527): a packet at its unit, and the answer to it. -/

namespace Sys2Proof.Machine

variable {s t u v : State} {p : Packet} {id : Nat} {k : PacketKind}

/-! ### A packet at its unit -/

theorem packet_spec (h : s.packet id k = some p) : p.id = id ∧ p.kind = k := by
  simpa using List.find?_some h

theorem frame_arrive (h : s.arrive p = some u) {parts : List Part} (hn : .net ∈ parts) (hm : .mesh ∈ parts) (hc : .ctl ∈ parts) :
    Frame s u [] parts := by
  obtain ⟨pl, rfl⟩ := State.arrive_planes h
  exact ⟨fun _ _ _ _ => rfl, fun x hx => by
    cases x with
    | net => exact absurd hn hx
    | mesh => exact absurd hm hx
    | ctl => exact absurd hc hx
    | _ => rfl⟩

theorem arrive_core (h : s.arrive p = some u) (g : Nat) : u.core g = s.core g := by
  obtain ⟨pl, rfl⟩ := State.arrive_planes h; rfl

theorem arrive_slice (h : s.arrive p = some u) (i : Nat) : u.slice i = s.slice i := by
  obtain ⟨pl, rfl⟩ := State.arrive_planes h; rfl

theorem frame_take (s : State) (p : Packet) {parts : List Part} (h : .net ∈ parts) : Frame s (s.take p) [] parts :=
  ⟨fun _ _ _ _ => rfl, fun x hx => by cases x with | net => exact absurd h hx | _ => rfl⟩

/-! ### Its answer -/

/-- The response to a request. -/
def responseTo (p : Packet) (id : Nat) (src : Agent) (k : PacketKind) (bytes : Mem) (poison : List Nat) : Packet :=
  { id := id, kind := k, region := p.region, src := src, dst := p.src, tag := p.id, addr := p.addr, size := p.size
    bytes := bytes, poison := poison, line := p.line, key := p.key, op := p.op, fmt := p.fmt
    ret := p.kind == .atomic, code := bit (p.kind == .message), writers := if p.kind = .atomic then p.writers else [] }

theorem responseTo_dstTile (inPlane : ∀ q, p.src ≠ .port q) (id : Nat) (src : Agent) (k : PacketKind) (bytes : Mem) (poison : List Nat) :
    (responseTo p id src k bytes poison).dstTile = agentTile p.src := by
  cases at' : p.src with
  | port q => exact absurd at' (inPlane q)
  | _ => simp [Packet.dstTile, responseTo, at']

theorem respond_eq (answerable : Answerable u p) (src : Agent) (k : PacketKind) (bytes : Mem) (poison : List Nat) :
    u.respond p src k bytes poison = (u.take p).newId.2.withPacket (responseTo p u.nextId src k bytes poison) := by
  obtain ⟨inPlane, near⟩ := answerable
  exact State.inject_response (s := (u.take p).newId.2) (p := responseTo p u.nextId src k bytes poison)
    ((congrArg (u.cutOff p.region) (responseTo_dstTile inPlane ..)).trans near)

theorem replied_respond (answerable : Answerable v p) (net : v.net = u.net) (ids : v.nextId = u.nextId) (src : Agent) (k : PacketKind)
    (bytes : Mem) (poison : List Nat) :
    Replied u (v.respond p src k bytes poison) p (responseTo p u.nextId src k bytes poison) k := by
  rw [respond_eq answerable, ids]
  exact ⟨congrArg (fun l : List Packet => l.filter (fun q => q.id != p.id) ++ _) net, rfl, rfl, rfl, rfl, rfl, rfl, rfl⟩

theorem frame_respond (answerable : Answerable v p) (src : Agent) (k : PacketKind) (bytes : Mem) (poison : List Nat) {parts : List Part}
    (h : .net ∈ parts) : Frame v (v.respond p src k bytes poison) [] parts := by
  rw [respond_eq answerable]
  exact (frame_take v p h).trans ((frame_newId _ _ _).trans (frame_withPacket _ _ h))

theorem respond_core (answerable : Answerable v p) (src : Agent) (k : PacketKind) (bytes : Mem) (poison : List Nat) (g : Nat) :
    (v.respond p src k bytes poison).core g = v.core g := by rw [respond_eq answerable]; rfl

theorem respond_slice (answerable : Answerable v p) (src : Agent) (k : PacketKind) (bytes : Mem) (poison : List Nat) (i : Nat) :
    (v.respond p src k bytes poison).slice i = v.slice i := by rw [respond_eq answerable]; rfl

theorem Replied.pf {q : Packet} (h : Replied u t p q k) : Replied u t.refreshPf p q k := by
  unfold Replied
  rw [State.refreshPf_net]
  exact h

/-- Whether a tile is cut off from a region depends on the registers, the fences that are due and the isolated tiles. -/
theorem cutOff_congr {n : Nat} (regs : t.regs = s.regs) (due : (t.rgn n).pendingFences = (s.rgn n).pendingFences)
    (isolated : (t.rgn n).isolated = (s.rgn n).isolated) (tile : Nat) : t.cutOff n tile = s.cutOff n tile := by
  have fenced : t.tileFenced tile = s.tileFenced tile := by simp only [State.tileFenced, State.bitAt, State.fld, State.word, regs]
  simp only [State.cutOff, due, isolated, fenced]

theorem launchPoison_when_rgn {β : Type} (π : Region → β) (keeps : ∀ (r : Region) l, π { r with launch := l } = π r) (s : State) (n m : Nat)
    (b : Bool) : π ((s.when b fun u => u.launchPoison n).rgn m) = π (s.rgn m) := by
  cases b
  · rfl
  · by_cases same : m = n
    · subst same
      exact (congrArg π (State.rgn_modRgn_same ..)).trans (keeps _ _)
    · exact congrArg π (State.rgn_modRgn_ne _ _ same)

theorem launchPoison_when_cutOff (s : State) (n : Nat) (b : Bool) (m tile : Nat) :
    (s.when b fun u => u.launchPoison n).cutOff m tile = s.cutOff m tile :=
  cutOff_congr (by cases b <;> rfl) (launchPoison_when_rgn Region.pendingFences (fun _ _ => rfl) s n m b)
    (launchPoison_when_rgn Region.isolated (fun _ _ => rfl) s n m b) tile

end Sys2Proof.Machine
end

section
/-! MESSAGEs, Edge Ring transfers and credits (R388, R532, R545 to R550, R558, R564 to R569). -/

namespace Sys2Proof.Machine

variable {s t u : State} {p : Packet} {id : Nat} {c : Channel}

/-! ### A MESSAGE at its queue -/

/-- The channel's messages are acknowledged: it counts credits, and its sender is on this module. -/
def acknowledged (c : Channel) : Bool := c.credit && (match c.src with | .link _ _ => false | _ => true)

theorem exec_dynMessage_core {g q : Nat} (arrives : Arrives s u id .message p) (inPlane : ∀ k, p.dst ≠ .port k)
    (chan : u.channel p.region p.chan = some c) (dst : c.dst = .core g q) (room : ((u.core g).queue q).length < 8) :
    exec (.dynMessage id) s = done (if acknowledged c then (u.enterQueue p.region g q p.message).respond p (.core g) .ack [] []
      else (u.enterQueue p.region g q p.message).take p) := by
  obtain ⟨packet, arrived, near⟩ := arrives
  have exe : exec (.dynMessage id) s = execDynMessage id s := rfl
  rw [execDynMessage, deliver_acts packet arrived near] at exe
  rw [exe]
  have full : ¬ 8 ≤ ((u.core g).queue q).length := by omega
  cases at' : p.dst with
  | port k => exact absurd at' (inPlane k)
  | _ =>
    obtain ⟨credit, credits, src, _⟩ := c
    subst dst
    cases src <;> simp only [chan, if_neg full, Option.getD_some, acknowledged, Bool.and_true, Bool.and_false, Bool.false_eq_true, if_false]

theorem answers_dynMessage_core {g q : Nat} (arrives : Arrives s u id .message p) (inPlane : ∀ k, p.dst ≠ .port k)
    (chan : u.channel p.region p.chan = some c) (dst : c.dst = .core g q) (room : ((u.core g).queue q).length < 8)
    (answerable : Answerable u p) : Answers (.dynMessage id) s fun t =>
      (t.core g).queue q = (s.core g).queue q ++ [p.message] ∧
        (if acknowledged c then ∃ a, Replied u t p a .ack ∧ a.code = 1 else t.net = u.net.filter fun x => x.id != p.id) ∧
        (∀ h, h ≠ g → t.core h = s.core h) ∧ Frame s t [] (.cores :: planeParts) := by
  have exe := exec_dynMessage_core arrives inPlane chan dst room
  obtain ⟨packet, arrived, -⟩ := arrives
  let v := u.enterQueue p.region g q p.message
  have queue : (v.core g).queue q = (s.core g).queue q ++ [p.message] := by rw [enterQueue_queue, arrive_core arrived]
  have others (h : Nat) (hg : h ≠ g) : v.core h = s.core h := by
    rw [← arrive_core arrived h]
    exact (State.core_modCore_ne _ _ hg).trans (launchPoison_when_core ..)
  have still : Answerable v p := ⟨answerable.1, (launchPoison_when_cutOff ..).trans answerable.2⟩
  have net : v.net = u.net := (frame_enterQueue u p.region g q p.message).2 .net (by simp)
  have ids : v.nextId = u.nextId := by
    show (State.when _ _ _).nextId = _
    cases p.message.poisonLo || p.message.poisonHi <;> rfl
  have frame : Frame s v [] (.cores :: planeParts) :=
    (frame_arrive arrived (by simp) (by simp) (by simp)).trans ((frame_enterQueue u p.region g q p.message).mono (by simp) (by simp))
  refine answers_of_done exe ?_
  cases acknowledged c with
  | true =>
    simp only [if_true]
    refine ⟨?_, ⟨_, Replied.pf (replied_respond still net ids (.core g) .ack [] []), ?_⟩, fun h hg => ?_,
      (frame.trans (frame_respond still _ _ _ _ (by simp))).pf⟩
    · rw [State.refreshPf_core, respond_core still]; exact queue
    · have kind : p.kind = .message := (packet_spec packet).2
      simp [responseTo, kind, bit]
    · rw [State.refreshPf_core, respond_core still]; exact others h hg
  | false =>
    simp only [Bool.false_eq_true, if_false]
    refine ⟨?_, ?_, fun h hg => ?_, (frame.trans (frame_take v p (by simp))).pf⟩
    · rw [State.refreshPf_core]; exact queue
    · rw [State.refreshPf_net, State.take_net]; exact congrArg _ net
    · rw [State.refreshPf_core]; exact others h hg

theorem exec_dynMessage_combining {i q d : Nat} (arrives : Arrives s u id .message p) (inPlane : ∀ k, p.dst ≠ .port k)
    (chan : u.channel p.region p.chan = some c) (dst : c.dst = .cq i q d) (room : (u.slice i).combIn.length < 16) :
    exec (.dynMessage id) s = done ((u.enterInput p.region i q p.message).take p) := by
  obtain ⟨packet, arrived, near⟩ := arrives
  have exe : exec (.dynMessage id) s = execDynMessage id s := rfl
  rw [execDynMessage, deliver_acts packet arrived near] at exe
  rw [exe]
  have full : ¬ 16 ≤ (u.slice i).combIn.length := by omega
  cases at' : p.dst with
  | port k => exact absurd at' (inPlane k)
  | _ => simp only [chan, dst, if_neg full, Option.getD_some]

theorem launchPoison_when_slice (s : State) (n : Nat) (b : Bool) (i : Nat) : (s.when b fun u => u.launchPoison n).slice i = s.slice i := by
  cases b <;> rfl

theorem frame_enterInput (s : State) (n i q : Nat) (m : Message) : Frame s (s.enterInput n i q m) [] [.slices, .regions] :=
  (frame_launchPoison_when s n _ (by simp)).trans (frame_modSlice _ i _ (by simp))

theorem enterInput_slice (s : State) (n i q : Nat) (m : Message) :
    (s.enterInput n i q m).slice i = { s.slice i with combIn := (s.slice i).combIn ++ [m.contribution q] } := by
  rw [State.enterInput, State.slice_modSlice_same, launchPoison_when_slice]

theorem enterInput_slice_ne (s : State) (n q : Nat) (m : Message) {i j : Nat} (h : j ≠ i) : (s.enterInput n i q m).slice j = s.slice j := by
  rw [State.enterInput, State.slice_modSlice_ne _ _ h, launchPoison_when_slice]

theorem take_slice (s : State) (p : Packet) (i : Nat) : (s.take p).slice i = s.slice i := rfl

theorem answers_dynMessage_combining {i q d : Nat} (arrives : Arrives s u id .message p) (inPlane : ∀ k, p.dst ≠ .port k)
    (chan : u.channel p.region p.chan = some c) (dst : c.dst = .cq i q d) (room : (u.slice i).combIn.length < 16) :
    Answers (.dynMessage id) s fun t =>
      (t.slice i).combIn = (s.slice i).combIn ++ [p.message.contribution q] ∧ t.net = (u.net.filter fun x => x.id != p.id) ∧
        (∀ j, j ≠ i → t.slice j = s.slice j) ∧ Frame s t [] (.slices :: planeParts) := by
  have exe := exec_dynMessage_combining arrives inPlane chan dst room
  obtain ⟨packet, arrived, -⟩ := arrives
  have entered := frame_enterInput u p.region i q p.message
  have net : (u.enterInput p.region i q p.message).net = u.net := entered.2 .net (by simp)
  refine answers_of_done exe ⟨?_, ?_, fun j hj => ?_,
    (((frame_arrive arrived (by simp) (by simp) (by simp)).trans (entered.mono (by simp) (by simp))).trans (frame_take _ p (by simp))).pf⟩
  · rw [State.refreshPf_slice, take_slice, enterInput_slice, arrive_slice arrived]
  · rw [State.refreshPf_net, State.take_net, net]
  · rw [State.refreshPf_slice, take_slice, enterInput_slice_ne _ _ _ _ hj, arrive_slice arrived]

/-! ### A request that leaves its column stop -/

/-- What a request that leaves its stop can change, beside registers. -/
abbrev edgeParts : List Part := [.stops, .ringTurn, .cores, .ports, .regions, .net, .clusters, .vfs]

section
variable {off : Nat} {parts : List Part}

theorem Stays.net (h : Stays off parts s t) (l : List Packet) (hn : .net ∈ parts) : Stays off parts s { t with net := l } :=
  h.trans (.of_regs rfl fun q hq => by cases q with | net => exact absurd hn hq | _ => rfl)

theorem Stays.inject (h : Stays off parts s t) (q : Packet) (ne : off ≠ R.DYN_QUIESCE q.region) (hn : .net ∈ parts) :
    Stays off parts s (t.inject q) := by
  unfold State.inject
  split
  · exact h.countSat (F.DYN_QUIESCE_DROP_FENCED q.region) 1 ne
  · exact h.net _ hn

theorem Stays.newId (h : Stays off parts s t) : Stays off parts s t.newId.2 := h.trans (.of_regs rfl fun q _ => by cases q <;> rfl)

theorem Stays.launchPoison (h : Stays off parts s t) (b : Bool) (n : Nat) (hr : .regions ∈ parts) :
    Stays off parts s (t.when b fun u => u.launchPoison n) := h.when ((Stays.refl off parts t).modRgn n _ hr)

theorem Stays.answer (h : Stays off parts s t) (q : Packet) (a : Answer) (ne : off ≠ R.DYN_QUIESCE q.region) (hp : edgeParts ⊆ parts) :
    Stays off parts s (t.answer q a) := by
  unfold State.answer
  extract_lets o data bad t1 wrote t2
  have h1 : Stays off parts s t1 := h.trans (.of_regs rfl fun q _ => by cases q <;> rfl)
  have h2 : Stays off parts s t2 := h1.launchPoison _ _ (hp (by simp))
  split
  · unfold State.answerCore
    dsimp only
    split
    · exact h2.newId.inject _ ne (hp (by simp))
    · exact h2.newId.inject _ ne (hp (by simp))
  · split
    · exact h2.countSat (F.DYN_QUIESCE_DROP_FENCED q.region) 1 ne
    · exact h2.modCluster _ _ (hp (by simp))
  · exact h2.modVf _ _ (hp (by simp))
  · exact h2

theorem Stays.poisonIn (h : Stays off parts s t) (k i : Nat) (region : Option Nat) (low : off < 0xa00000) :
    Stays off parts s (t.poisonIn k i region) := h.trans ⟨sameWord_poisonIn t k i region low, fun q _ => integRaise_part t _ _ q⟩

theorem Stays.modPort (h : Stays off parts s t) (p : Nat) (f : Port → Port) (hp : .ports ∈ parts) : Stays off parts s (t.modPort p f) :=
  h.trans (.of_regs rfl (frame_modPort t p f (r := []) hp).2)

theorem Stays.toPort (h : Stays off parts s t) (p : Nat) (k : Packet) (low : off < 0x900000) (ne : off ≠ R.DYN_QUIESCE k.region)
    (hp : edgeParts ⊆ parts) : Stays off parts s (t.toPort p k) := by
  unfold State.toPort
  split
  · unfold State.linkDown
    split
    · exact h
    · exact ((h.countSat (F.HL_REFUSED_REFUSED_OUT p) 1 (by simp only [F.HL_REFUSED_REFUSED_OUT, R.HL_REFUSED]; omega)).poisonIn _ _ _
        (by omega)).answer k _ ne hp
  · obtain ⟨-, frame⟩ := pump_spec (t.modPort p fun q => { q with outq := q.outq ++ [k] }) p
    have kept : Stays off parts (t.modPort p fun q => { q with outq := q.outq ++ [k] }) (State.pump _ p) :=
      ⟨frame.sameWord (by simp only [R.INT_PF_STATUS]; omega) (by simp only [R.HL_CREDITS, List.mem_singleton]; omega),
        fun x hx => frame.2 x fun hmem => hx (by
          simp only [List.mem_cons, List.not_mem_nil, or_false] at hmem
          rcases hmem with rfl | rfl <;> exact hp (by simp))⟩
    exact (h.modPort p _ (hp (by simp))).trans kept

theorem Stays.portAccepts (h : Stays off parts s t) (q : Packet) (hc : .cores ∈ parts) : Stays off parts s (t.portAccepts q) := by
  unfold State.portAccepts
  split
  · exact h.walk _ _ fun u g => (Stays.refl off parts u).modCore g _ hc
  · exact h

theorem Stays.countGrant (h : Stays off parts s t) (n cls k used : Nat) (boosted promoted : Bool) (h1 : off ≠ R.RGN_DLY_BUDGET n cls)
    (h2 : off ≠ R.RGN_URGENT n) : Stays off parts s (t.countGrant n cls k used boosted promoted) := by
  unfold State.countGrant
  extract_lets pr
  refine Stays.when (Stays.when h ?_) ?_
  · exact Stays.countSat (Stays.refl ..) _ 1 h1
  · exact Stays.countSat (Stays.refl ..) _ 1 h2

end

theorem fld_countMod (s : State) (f : Fld) (k : Nat) (h : f.lo + f.width ≤ 32) : (s.countMod f k).fld f = (s.fld f + k) % 2 ^ f.width := by
  rw [State.countMod, State.fld_setFld_same _ _ _ h]

theorem frame_countTransfer (s : State) (e col : Nat) (out : Bool) : SameParts [] s (s.countTransfer e col out) := by
  unfold State.countTransfer
  split
  · exact SameParts.trans (sameParts_countMod _ _ _) (sameParts_countMod _ _ _)
  · exact SameParts.trans (sameParts_countMod _ _ _) (sameParts_countMod _ _ _)

/-- The state with the marks of a turn at a column stop. -/
def State.withTurn (s : State) (stops turn : SMap Nat) : State := { s with stops := stops, ringTurn := turn }

theorem stays_withTurn {off : Nat} (s : State) (stops turn : SMap Nat) : Stays off [.stops, .ringTurn] s (s.withTurn stops turn) :=
  .of_regs rfl fun x hx => by
    cases x with
    | stops => exact absurd (by simp) hx
    | ringTurn => exact absurd (by simp) hx
    | _ => rfl

/-- A transfer out at a column counts in the ring's total. -/
theorem outTotal_transfer (s : State) {n cls e : Nat} (hn : n < 32) (hc : cls < 6) (he : e < 2) (col bytes : Nat) (aged : Bool) :
    (s.transfer n cls e col bytes true aged).fld (F.ER_OUT_TOTAL_VALUE e) = (s.fld (F.ER_OUT_TOTAL_VALUE e) + 1) % 2 ^ 32 ∧
      SameParts edgeParts s (s.transfer n cls e col bytes true aged) := by
  unfold State.transfer
  extract_lets key used t
  have granted : Stays (R.ER_OUT_TOTAL e) edgeParts s t := Stays.countGrant (Stays.refl ..) n cls _ used false aged
    (by simp only [R.ER_OUT_TOTAL, R.RGN_DLY_BUDGET]; omega) (by simp only [R.ER_OUT_TOTAL, R.RGN_URGENT]; omega)
  have counted : (t.countTransfer e col true).fld (F.ER_OUT_TOTAL_VALUE e) = (t.fld (F.ER_OUT_TOTAL_VALUE e) + 1) % 2 ^ 32 :=
    (State.fld_setFld_off _ (F.ER_COL_OUT_VALUE e col) (F.ER_OUT_TOTAL_VALUE e) _ (by
      simp only [F.ER_COL_OUT_VALUE, F.ER_OUT_TOTAL_VALUE, R.ER_COL_OUT, R.ER_OUT_TOTAL]; omega)).trans
      (fld_countMod _ _ _ (show 0 + 32 ≤ 32 by decide))
  have turned := stays_withTurn (off := R.ER_OUT_TOTAL e) (t.countTransfer e col true) (smPut t.stops key (used + bytes))
    (smPut t.ringTurn (2 * e + bit true) col)
  refine ⟨(turned.1.fld (F.ER_OUT_TOTAL_VALUE e) rfl).trans (counted.trans ?_),
    SameParts.trans (SameParts.trans granted.2 (SameParts.mono (frame_countTransfer _ _ _ _) (by simp))) (SameParts.mono turned.2 (by simp))⟩
  rw [granted.1.fld (F.ER_OUT_TOTAL_VALUE e) rfl]

/-- The state without a request at the stops. -/
def State.leftEdge (s : State) (id : Nat) : State := s.withEdge (s.edge.filter fun x => x.id != id)

/-- The state as a request has left its stop for the ring. -/
def State.onRing (s : State) (q : Packet) (p : Nat) : State :=
  match q.src with
  | .ring _ _ => (s.leftEdge q.id).countMod (F.ER_OUT_TOTAL_VALUE (ringOfPort p))
  | _ => ((s.leftEdge q.id).transfer q.region cDYN (ringOfPort p) (tileX (agentTile q.src)) q.size true q.promoted).portAccepts q

theorem onRing_spec (s : State) {q : Packet} {p : Nat} (hq : q.region < 32) (hp : p < 4) :
    (s.onRing q p).fld (F.ER_OUT_TOTAL_VALUE (ringOfPort p)) = (s.fld (F.ER_OUT_TOTAL_VALUE (ringOfPort p)) + 1) % 2 ^ 32 ∧
      SameParts edgeParts (s.leftEdge q.id) (s.onRing q p) := by
  have ring : ringOfPort p < 2 := by unfold ringOfPort; omega
  unfold State.onRing
  split
  · exact ⟨fld_countMod _ _ _ (show 0 + 32 ≤ 32 by decide), sameParts_countMod _ _ _⟩
  · obtain ⟨total, parts⟩ := outTotal_transfer (s.leftEdge q.id) hq (show cDYN < 6 by decide) ring (tileX (agentTile q.src)) q.size q.promoted
    have accepted := (Stays.refl (R.ER_OUT_TOTAL (ringOfPort p)) edgeParts
      ((s.leftEdge q.id).transfer q.region cDYN (ringOfPort p) (tileX (agentTile q.src)) q.size true q.promoted)).portAccepts q (by simp)
    exact ⟨(accepted.1.fld (F.ER_OUT_TOTAL_VALUE (ringOfPort p)) rfl).trans total, SameParts.trans parts accepted.2⟩

theorem exec_edgeRingTransfer {q : Packet} (p : Fin 4) (found : s.edge.find? (fun x => x.id == id) = some q) (dst : q.dst = .port p)
    (powered : s.power.halves = true) (turn : s.edgeTurn q = true) :
    exec (.edgeRingTransfer id false) s = done ((s.onRing q p).toPort p q) := by
  have exe : exec (.edgeRingTransfer id false) s = execEdgeRingTransfer id false s := rfl
  have name : q.id = id := by simpa using List.find?_some found
  rw [execEdgeRingTransfer] at exe
  simp only [found, dst, powered, turn, Bool.not_true, Bool.or_self, Bool.false_eq_true, if_false] at exe
  rw [exe, State.onRing, name]
  rfl

theorem answers_edgeRingTransfer (id : Nat) (p : Fin 4) (s : State) (q : Packet) (found : s.edge.find? (fun x => x.id == id) = some q)
    (dst : q.dst = .port p) (region : q.region < 32) (powered : s.power.halves = true) (turn : s.edgeTurn q = true) :
    Answers (.edgeRingTransfer id false) s fun t =>
      t.edge = (s.edge.filter fun x => x.id != id) ∧
        t.fld (F.ER_OUT_TOTAL_VALUE (ringOfPort p)) = (s.fld (F.ER_OUT_TOTAL_VALUE (ringOfPort p)) + 1) % 2 ^ 32 := by
  obtain ⟨total, parts⟩ := onRing_spec s region p.isLt
  have ring : ringOfPort p < 2 := by unfold ringOfPort; omega
  have sent := (Stays.refl (R.ER_OUT_TOTAL (ringOfPort p)) edgeParts (s.onRing q p)).toPort p q
    (by simp only [R.ER_OUT_TOTAL]; omega) (by simp only [R.ER_OUT_TOTAL, R.DYN_QUIESCE]; omega) (fun _ h => h)
  have name : q.id = id := by simpa using List.find?_some found
  refine answers_of_done (exec_edgeRingTransfer p found dst powered turn) ⟨?_, ?_⟩
  · rw [State.refreshPf_edge]
    exact (sent.2 .edge (by simp)).trans ((parts .edge (by simp)).trans (by rw [name]; rfl))
  · exact (State.refreshPf_fld _ _ (by simp only [F.ER_OUT_TOTAL_VALUE, R.ER_OUT_TOTAL, R.INT_PF_STATUS]; omega)).trans
      ((sent.1.fld (F.ER_OUT_TOTAL_VALUE (ringOfPort p)) rfl).trans total)

/-! ### Credits that return -/

/-- The state without a message of the control network. -/
def State.leftCtl (s : State) (id : Nat) : State := { s with ctl := smDel s.ctl id }

theorem exec_creditReturn {k : Nat} {m : CtlMsg} {way : CtlWay} (found : s.ctl.find? (fun e => e.1 == id) = some (k, m))
    (credit : ∀ src dst event, m ≠ .notify src dst event)
    (powered : s.wayOpen m.creditWay = true) (free : s.haltAhead m.creditWay = false) (comes : way.failedAt = none) :
    exec (.creditReturn id way) s = done (((s.leftCtl id).resentOn m.creditWay way).takeCredit m) := by
  have exe : exec (.creditReturn id way) s = execCreditReturn id way s := rfl
  rw [execCreditReturn, found] at exe
  cases m with
  | notify src dst event => exact absurd rfl (credit src dst event)
  | _ =>
    dsimp only at exe
    rw [powered, free, carry_arrives _ _ _ comes] at exe
    exact exe

theorem frame_leftCtl (s : State) (id : Nat) (m : CtlMsg) (way : CtlWay) {p : List Part} (h : .ctl ∈ p) :
    Frame s ((s.leftCtl id).resentOn m.creditWay way) [R.CTL_STATUS] p := (frame_ctl s _ _ h).trans (frame_resentOn _ _ _ _)

theorem answers_creditReturn_core (id k src g c : Nat) (way : CtlWay) (s : State)
    (found : s.ctl.find? (fun e => e.1 == id) = some (k, .chanCredit src (.core g) c))
    (powered : s.wayOpen (tileWay src (tileOfCore g)) = true) (free : s.haltAhead (tileWay src (tileOfCore g)) = false)
    (comes : way.failedAt = none) : Answers (.creditReturn id way) s fun t =>
      smGet (t.core g).credits 0 c = smGet (s.core g).credits 0 c + 1 ∧ (∀ h, h ≠ g → t.core h = s.core h) ∧
        t.ctl = smDel s.ctl id ∧ Frame s t [R.CTL_STATUS] [.cores, .ctl] := by
  have exe := exec_creditReturn found (fun _ _ _ => nofun) powered free comes
  refine answers_of_done exe ⟨?_, fun h hg => ?_, ?_, ((frame_leftCtl s id _ way (by simp)).trans (frame_modCore _ g _ (by simp))).pf⟩
  · rw [State.refreshPf_core, State.takeCredit, State.core_modCore_same]
    exact smGet_smMod_same ..
  · rw [State.refreshPf_core, State.takeCredit, State.core_modCore_ne _ _ hg]; rfl
  · rw [State.refreshPf_ctl]; rfl

theorem answers_creditReturn_slice (id k src i c : Nat) (way : CtlWay) (s : State)
    (found : s.ctl.find? (fun e => e.1 == id) = some (k, .chanCredit src (.slice i) c))
    (powered : s.wayOpen (tileWay src (tileOfSlice i)) = true) (free : s.haltAhead (tileWay src (tileOfSlice i)) = false)
    (comes : way.failedAt = none) : Answers (.creditReturn id way) s fun t =>
      smGet (t.slice i).credits 0 c = smGet (s.slice i).credits 0 c + 1 ∧ (∀ j, j ≠ i → t.slice j = s.slice j) ∧
        t.ctl = smDel s.ctl id ∧ Frame s t [R.CTL_STATUS] [.slices, .ctl] := by
  have exe := exec_creditReturn found (fun _ _ _ => nofun) powered free comes
  refine answers_of_done exe ⟨?_, fun j hj => ?_, ?_, ((frame_leftCtl s id _ way (by simp)).trans (frame_modSlice _ i _ (by simp))).pf⟩
  · rw [State.refreshPf_slice, State.takeCredit, State.slice_modSlice_same]
    exact smGet_smMod_same ..
  · rw [State.refreshPf_slice, State.takeCredit, State.slice_modSlice_ne _ _ hj]; rfl
  · rw [State.refreshPf_ctl]; rfl

theorem answers_creditReturn_relay (id k n src relay vc : Nat) (way : CtlWay) (s : State)
    (found : s.ctl.find? (fun e => e.1 == id) = some (k, .relayCredit n src relay vc))
    (powered : s.wayOpen (tileWay relay src) = true) (free : s.haltAhead (tileWay relay src) = false)
    (comes : way.failedAt = none) : Answers (.creditReturn id way) s fun t =>
      t.mesh = { s.mesh with credits := s.mesh.credits.filter fun x => x != (src, relay, vc) } ∧ t.ctl = smDel s.ctl id ∧
        Frame s t [R.CTL_STATUS] [.mesh, .ctl] := by
  have exe := exec_creditReturn found (fun _ _ _ => nofun) powered free comes
  have freed (u : State) : Frame u (u.takeCredit (.relayCredit n src relay vc)) [R.CTL_STATUS] [.mesh, .ctl] :=
    ⟨fun _ _ _ _ => rfl, fun x hx => by cases x with | mesh => exact absurd (by simp) hx | _ => rfl⟩
  refine answers_of_done exe ⟨?_, ?_, ((frame_leftCtl s id _ way (by simp)).trans (freed _)).pf⟩
  · rw [State.refreshPf_mesh]
    simp only [State.takeCredit, bne]
    rfl
  · rw [State.refreshPf_ctl]; rfl

/-- Settles O52: a message enters its queue or its slice's input; a transfer counts; a credit is its sender's again. -/
theorem messagesAndCreditsComplete : Obligations.MessagesAndCreditsComplete := by
  unfold Obligations.MessagesAndCreditsComplete
  exact ⟨fun id s u p c arrives inPlane chan =>
      ⟨fun g q dst room answerable => answers_dynMessage_core arrives inPlane chan dst room answerable,
        fun i q d dst room => answers_dynMessage_combining arrives inPlane chan dst room⟩,
    answers_edgeRingTransfer, answers_creditReturn_core, answers_creditReturn_slice, answers_creditReturn_relay⟩

end Sys2Proof.Machine
end

section
/-! Responses at their requesters (R370, R379, R386, R431, R525, R567, R624, R634). -/

namespace Sys2Proof.Machine

variable {s t u : State} {p : Packet} {id g : Nat} {l : LoadOp}

/-! ### DATA at a core -/

theorem flatMap_one {α β : Type} {xs : List α} {f : α → List β} {a : α} {b : β} (nodup : xs.Nodup) (here : a ∈ xs) (one : f a = [b])
    (others : ∀ x ∈ xs, x ≠ a → f x = []) : xs.flatMap f = [b] := by
  induction xs with
  | nil => cases here
  | cons x xs ih =>
    obtain ⟨notin, nodup⟩ := List.nodup_cons.mp nodup
    rw [List.flatMap_cons]
    by_cases same : x = a
    · subst same
      have rest : xs.flatMap f = [] := List.flatMap_eq_nil_iff.mpr fun y hy =>
        others y (List.mem_cons_of_mem _ hy) fun e => notin (e ▸ hy)
      rw [one, rest, List.append_nil]
    · rw [others x List.mem_cons_self same, List.nil_append]
      exact ih nodup ((List.mem_cons.mp here).resolve_left fun e => same e.symm) fun y hy => others y (List.mem_cons_of_mem _ hy)

theorem coresOfCluster_nodup (c : Nat) : (coresOfCluster c).Nodup :=
  List.Nodup.map (fun _ _ h => Nat.add_left_cancel h) List.nodup_range

/-- The loads of a cluster that wait for an answer, each with its core. -/
def State.waitingFor (s : State) (tag c : Nat) : List (Nat × LoadOp) :=
  (coresOfCluster c).flatMap fun g => ((s.core g).loads.filter fun l => l.tag == tag).map fun l => (g, l)

theorem waitingFor_one {tag : Nat} (one : (s.core g).loads.filter (fun x => x.tag == tag) = [l])
    (others : ∀ h, h ≠ g → h / 8 = g / 8 → ∀ x ∈ (s.core h).loads, x.tag ≠ tag) : s.waitingFor tag (g / 8) = [(g, l)] := by
  refine flatMap_one (coresOfCluster_nodup _) (mem_coresOfCluster.mpr rfl) (by rw [one]; rfl) fun h hm hg => ?_
  have nothing : (s.core h).loads.filter (fun x => x.tag == tag) = [] :=
    List.filter_eq_nil_iff.mpr fun x hx => by simpa using others h hg (mem_coresOfCluster.mp hm) x hx
  rw [nothing]
  rfl

/-- The bytes that a DATA packet brings a load. -/
def loadBytes (p : Packet) (l : LoadOp) : List Byte := (List.range l.size).map fun k => smGet p.bytes 0 (l.addr - p.addr + k)

/-- What a load's register takes from a DATA packet. -/
def loadResult (p : Packet) (l : LoadOp) : Word64 :=
  if p.ret then atomicOld p.fmt (fromBytes (loadBytes p l)) else extend (l.value (loadBytes p l)) l.sext

/-- The core without the loads of a tag. -/
def Core.dropLoads (c : Core) (tag : Nat) : Core := { c with loads := c.loads.filter fun l => l.tag != tag }

/-- The state with a load no longer outstanding, and its line in the read-only cache when it fetched one. -/
def State.landed (s : State) (p : Packet) (g : Nat) (l : LoadOp) : State :=
  (s.modCore g (·.dropLoads p.tag)).when l.fill fun u => u.modCluster (g / 8) fun k =>
    k.putRo { line := p.addr / 128, bytes := p.bytes, poison := p.poison }

/-- A waiting load has its bytes, or a returning atomic its old value. -/
def State.takeData (p : Packet) (u : State) (e : Nat × LoadOp) : State :=
  let l := e.2
  let bytes := (List.range l.size).map fun k => smGet p.bytes 0 (l.addr - p.addr + k)
  if p.ret then
    let bad := p.poison.contains 0
    (u.when bad fun v => v.launchPoison p.region).modCore e.1 fun k => k.setReg l.dest (atomicOld p.fmt (fromBytes bytes)) bad
  else u.loadDone p.region e.1 l bytes fun k => p.poison.contains ((l.addr + k) / 8 - p.addr / 8)

theorem coreData_eq (s : State) (p : Packet) (c : Nat) : s.coreData p c =
    overList (s.waitingFor p.tag c) ((overList (s.waitingFor p.tag c) s fun u e => u.modCore e.1 (·.dropLoads p.tag)).when
      ((s.waitingFor p.tag c).any fun e => e.2.fill) fun u => u.modCluster c fun k =>
        k.putRo { line := p.addr / 128, bytes := p.bytes, poison := p.poison }) (State.takeData p) := rfl

theorem coreData_one (one : (s.core g).loads.filter (fun x => x.tag == p.tag) = [l])
    (others : ∀ h, h ≠ g → h / 8 = g / 8 → ∀ x ∈ (s.core h).loads, x.tag ≠ p.tag) (register : l.granule = false) :
    ∃ bad, s.coreData p (g / 8) = ((s.landed p g l).when bad fun w => w.launchPoison p.region).modCore g fun c =>
      c.setReg l.dest (loadResult p l) bad := by
  have landed : s.coreData p (g / 8) = State.takeData p (s.landed p g l) (g, l) := by
    rw [coreData_eq, waitingFor_one one others]
    simp only [overList_cons, overList_nil, List.any_cons, List.any_nil, Bool.or_false, State.landed]
  rw [landed, State.takeData, loadResult]
  cases p.ret with
  | true => exact ⟨_, rfl⟩
  | false => exact ⟨_, loadDone_register register ..⟩

theorem landed_core (s : State) (p : Packet) (g : Nat) (l : LoadOp) (h : Nat) :
    (s.landed p g l).core h = (s.modCore g (·.dropLoads p.tag)).core h := by
  unfold State.landed
  cases l.fill <;> rfl

theorem frame_landed (s : State) (p : Packet) (g : Nat) (l : LoadOp) {r : List Nat} {parts : List Part} (hg : .cores ∈ parts)
    (hc : .clusters ∈ parts) : Frame s (s.landed p g l) r parts := by
  unfold State.landed
  exact (frame_modCore s g _ hg).when (frame_modCluster _ _ _ hc)

theorem setReg_keeps_wait (c : Core) (i : Nat) (v : Word64) (bad : Bool) : (c.setReg i v bad).wait = c.wait := by
  unfold Core.setReg
  split <;> rfl

theorem exec_dynData_core (arrives : Arrives s u id .data p) (dst : p.dst = .core g) :
    exec (.dynData id []) s = done ((u.take p).coreData p (g / 8)) := by
  obtain ⟨packet, arrived, near⟩ := arrives
  have exe : exec (.dynData id []) s = execDynData id [] s := rfl
  have intact : (u.take p).parityFails p [] = (p, u.take p) := rfl
  rw [execDynData, deliver_acts packet arrived near] at exe
  rw [exe, intact]
  simp only [dst, Option.getD_some]

theorem answers_dynData_core (id g : Nat) (s u : State) (p : Packet) (l : LoadOp) (arrives : Arrives s u id .data p) (dst : p.dst = .core g)
    (one : (s.core g).loads.filter (fun x => x.tag == p.tag) = [l])
    (others : ∀ h, h ≠ g → h / 8 = g / 8 → ∀ x ∈ (s.core h).loads, x.tag ≠ p.tag) (register : l.granule = false) (dest : l.dest ≠ 0) :
    Answers (.dynData id []) s fun t =>
      (t.core g).loads = ((s.core g).loads.filter fun x => x.tag != p.tag) ∧ (t.core g).wait = (s.core g).wait ∧
        (t.core g).pc = (s.core g).pc ∧ (t.core g).reg l.dest = loadResult p l ∧
        (∀ i, i ≠ l.dest → (t.core g).reg i = (s.core g).reg i) ∧ (∀ h, h ≠ g → t.core h = s.core h) ∧
        t.net = (u.net.filter fun x => x.id != p.id) ∧ Frame s t [] (.cores :: .clusters :: planeParts) := by
  have exe := exec_dynData_core arrives dst
  obtain ⟨packet, arrived, -⟩ := arrives
  have cores (h : Nat) : (u.take p).core h = s.core h := arrive_core arrived h
  obtain ⟨bad, data⟩ := coreData_one (s := u.take p) (by rw [cores]; exact one) (fun h hg hc => by rw [cores]; exact others h hg hc) register
  rw [data] at exe
  let v := ((u.take p).landed p g l).when bad fun w => w.launchPoison p.region
  have before (h : Nat) : v.core h = ((u.take p).modCore g (·.dropLoads p.tag)).core h := (launchPoison_when_core ..).trans (landed_core ..)
  have here : v.core g = (s.core g).dropLoads p.tag := (before g).trans (by rw [State.core_modCore_same, cores])
  have frame : Frame u v [] (.cores :: .clusters :: planeParts) :=
    (frame_take u p (by simp)).trans ((frame_landed _ p g l (by simp) (by simp)).trans (frame_launchPoison_when _ _ _ (by simp)))
  have net : v.net = (u.take p).net :=
    ((frame_landed (r := []) (parts := [.cores, .clusters, .regions]) (u.take p) p g l (by simp) (by simp)).trans
      (frame_launchPoison_when _ _ _ (by simp))).2 .net (by simp)
  have after : (v.modCore g fun c => c.setReg l.dest (loadResult p l) bad).refreshPf.core g =
      ((s.core g).dropLoads p.tag).setReg l.dest (loadResult p l) bad := by
    rw [State.refreshPf_core, State.core_modCore_same, here]
  refine answers_of_done exe ⟨?_, ?_, ?_, ?_, fun i hi => ?_, fun h hg => ?_, ?_,
    ((frame_arrive arrived (by simp) (by simp) (by simp)).trans (frame.trans (frame_modCore _ g _ (by simp)))).pf⟩
  · exact (congrArg Core.loads after).trans (Core.setReg_loads ..)
  · exact (congrArg Core.wait after).trans (setReg_keeps_wait ..)
  · exact (congrArg Core.pc after).trans (Core.setReg_pc ..)
  · exact (congrArg (Core.reg · l.dest) after).trans (Core.reg_setReg_same _ _ _ dest)
  · exact (congrArg (Core.reg · i) after).trans (Core.reg_setReg_ne _ _ _ hi)
  · rw [State.refreshPf_core, State.core_modCore_ne _ _ hg]
    exact (before h).trans ((State.core_modCore_ne _ _ hg).trans (cores h))
  · rw [State.refreshPf_net]; exact net

/-! ### ACK (R379, R525, R567, R634) -/

/-- What an ACK of a code counts off at its cores. -/
def State.countAck (s : State) (p : Packet) (g : Nat) : State :=
  if p.code = 1 then s.modCore g fun c => { c with msgUnacked := c.msgUnacked - 1 }
  else if p.code = 2 then overList p.writers s fun u w => u.modCore w fun c => { c with unackedLink := c.unackedLink - 1 }
  else overList (if p.writers.isEmpty then [g] else p.writers) s fun u w => u.modCore w fun c => { c with unacked := c.unacked - 1 }

theorem exec_dynAck_core (arrives : Arrives s u id .ack p) (dst : p.dst = .core g) :
    exec (.dynAck id) s = done ((u.take p).countAck p g) := by
  obtain ⟨packet, arrived, near⟩ := arrives
  have exe : exec (.dynAck id) s = execDynAck id s := rfl
  rw [execDynAck, deliver_acts packet arrived near] at exe
  rw [exe]
  simp only [dst, Option.getD_some]
  rfl

theorem exec_dynAck_slice {i : Nat} (arrives : Arrives s u id .ack p) (dst : p.dst = .slice i) :
    exec (.dynAck id) s = done ((u.take p).modSlice i fun sl => { sl with msgUnacked := sl.msgUnacked - 1 }) := by
  obtain ⟨packet, arrived, near⟩ := arrives
  have exe : exec (.dynAck id) s = execDynAck id s := rfl
  rw [execDynAck, deliver_acts packet arrived near] at exe
  rw [exe]
  simp only [dst, Option.getD_some]

/-- A change of one core for each of a list of cores changes each as often as it is in the list. -/
theorem core_walk {f : Nat → Core → Core} (start : ∀ c, f 0 c = c) (step : ∀ k c, f k (f 1 c) = f (k + 1) c) (l : List Nat) (s : State)
    (h : Nat) : (overList l s fun u w => u.modCore w (f 1)).core h = f (l.count h) (s.core h) := by
  induction l generalizing s with
  | nil => exact (start _).symm
  | cons w l ih =>
    rw [overList_cons, ih]
    by_cases same : w = h
    · subst same
      rw [State.core_modCore_same, List.count_cons_self, step]
    · rw [State.core_modCore_ne _ _ fun e => same e.symm, List.count_cons_of_ne same]

theorem countAck_core (s : State) (p : Packet) (g h : Nat) : (s.countAck p g).core h =
    if p.code = 1 then (if h = g then { s.core g with msgUnacked := (s.core g).msgUnacked - 1 } else s.core h)
    else if p.code = 2 then { s.core h with unackedLink := (s.core h).unackedLink - p.writers.count h }
    else { s.core h with unacked := (s.core h).unacked - (if p.writers.isEmpty then [g] else p.writers).count h } := by
  unfold State.countAck
  split
  · split
    · next same => subst same; exact State.core_modCore_same ..
    · next other => exact State.core_modCore_ne _ _ other
  · split
    · exact core_walk (f := fun k c => { c with unackedLink := c.unackedLink - k }) (fun _ => rfl) (fun k c => by
        simp only [Nat.sub_sub, Nat.add_comm]) _ s h
    · exact core_walk (f := fun k c => { c with unacked := c.unacked - k }) (fun _ => rfl) (fun k c => by
        simp only [Nat.sub_sub, Nat.add_comm]) _ s h

theorem frame_countAck (s : State) (p : Packet) (g : Nat) : Frame s (s.countAck p g) [] [.cores] := by
  have walk (l : List Nat) (f : Core → Core) : Frame s (overList l s fun u w => u.modCore w f) [] [.cores] :=
    overList_keeps (fun u => Frame s u [] [.cores]) l s _ (.refl ..) fun u w h => h.trans (frame_modCore u w f (by simp))
  unfold State.countAck
  split
  · exact frame_modCore s g _ (by simp)
  · split
    · exact walk _ _
    · exact walk _ _

theorem answers_dynAck_core (id g : Nat) (s u : State) (p : Packet) (arrives : Arrives s u id .ack p) (dst : p.dst = .core g) :
    Answers (.dynAck id) s fun t =>
      (∀ h, t.core h = (if p.code = 1 then (if h = g then { s.core g with msgUnacked := (s.core g).msgUnacked - 1 } else s.core h)
        else if p.code = 2 then { s.core h with unackedLink := (s.core h).unackedLink - p.writers.count h }
        else { s.core h with unacked := (s.core h).unacked - (if p.writers.isEmpty then [g] else p.writers).count h })) ∧
        t.net = (u.net.filter fun x => x.id != p.id) ∧ Frame s t [] (.cores :: planeParts) := by
  have exe := exec_dynAck_core arrives dst
  obtain ⟨packet, arrived, -⟩ := arrives
  have counted := frame_countAck (u.take p) p g
  refine answers_of_done exe ⟨fun h => ?_, ?_, ((frame_arrive arrived (by simp) (by simp) (by simp)).trans
    ((frame_take u p (by simp)).trans (counted.mono (by simp) (by simp)))).pf⟩
  · have cores (h : Nat) : (u.take p).core h = s.core h := arrive_core arrived h
    rw [State.refreshPf_core, countAck_core, cores, cores]
  · rw [State.refreshPf_net]; exact counted.2 .net (by simp)

theorem answers_dynAck_slice (id i : Nat) (s u : State) (p : Packet) (arrives : Arrives s u id .ack p) (dst : p.dst = .slice i) :
    Answers (.dynAck id) s fun t =>
      t.slice i = { s.slice i with msgUnacked := (s.slice i).msgUnacked - 1 } ∧ (∀ j, j ≠ i → t.slice j = s.slice j) ∧
        t.net = (u.net.filter fun x => x.id != p.id) ∧ Frame s t [] (.slices :: planeParts) := by
  have exe := exec_dynAck_slice arrives dst
  obtain ⟨packet, arrived, -⟩ := arrives
  refine answers_of_done exe ⟨?_, fun j hj => ?_, ?_, ((frame_arrive arrived (by simp) (by simp) (by simp)).trans
    ((frame_take u p (by simp)).trans (frame_modSlice _ i _ (by simp)))).pf⟩
  · rw [State.refreshPf_slice, State.slice_modSlice_same, take_slice, arrive_slice arrived]
  · rw [State.refreshPf_slice, State.slice_modSlice_ne _ _ hj, take_slice, arrive_slice arrived]
  · rw [State.refreshPf_net]; rfl

/-! ### RETRY (R624) -/

theorem exec_dynError_retry {i : Nat} (arrives : Arrives s u id .error p) (dst : p.dst = .slice i) (code : p.code = codeRETRY) :
    exec (.dynError id) s = done ((u.take p).askHome p.region i (offsetOf p.addr / 128) 0 true) := by
  obtain ⟨packet, arrived, near⟩ := arrives
  have exe : exec (.dynError id) s = execDynError id s := rfl
  rw [execDynError, deliver_acts packet arrived near] at exe
  rw [exe]
  simp only [dst, code, if_true, Option.getD_some]

/-- The request of a proxy for a line. -/
def borrowPacket (id n i h line key : Nat) (borrow : Bool) : Packet :=
  { id := id, kind := .read, region := n, src := .slice i, dst := .slice h, addr := 2 ^ 47 + line * 128
    size := 128, line := true, op := bit borrow, key := key }

theorem askHome_asks (s : State) (n i line key : Nat) (none : ∀ q ∈ s.net, q.line = false ∨ q.op ≠ 1) :
    s.askHome n i line key true = s.newId.2.withPacket (borrowPacket s.nextId n i (s.homeOf n (line * 128)) line key true) := by
  have quiet : (s.net.any fun q => q.line && q.op == bit true && q.addr == 2 ^ 47 + line * 128 && q.kind != .write
      && (q.src == .slice i || q.dst == .slice i)) = false :=
    List.any_eq_false.mpr fun q hq => by
      rcases none q hq with h | h
      · simp [h]
      · simp [bit, h]
  unfold State.askHome
  rw [quiet]
  rfl

theorem answers_dynError_retry (id i : Nat) (s u : State) (p : Packet) (arrives : Arrives s u id .error p) (dst : p.dst = .slice i)
    (code : p.code = codeRETRY) (none : ∀ q ∈ u.net, q.line = false ∨ q.op ≠ 1 ∨ q.id = p.id) : Answers (.dynError id) s fun t =>
      ∃ q, t.net = (u.net.filter fun x => x.id != p.id) ++ [q] ∧ q.kind = .read ∧ q.line = true ∧ q.op = 1 ∧ q.src = .slice i ∧
        q.addr = 2 ^ 47 + p.addr % 2 ^ 46 / 128 * 128 ∧ Frame s t [] planeParts := by
  have exe := exec_dynError_retry arrives dst code
  have quiet : ∀ q ∈ (u.take p).net, q.line = false ∨ q.op ≠ 1 := fun q hq => by
    obtain ⟨here, other⟩ := List.mem_filter.mp hq
    rcases none q here with h | h | h
    · exact .inl h
    · exact .inr h
    · simp [h] at other
  rw [askHome_asks _ _ _ _ _ quiet] at exe
  obtain ⟨packet, arrived, -⟩ := arrives
  refine answers_of_done exe ⟨borrowPacket (u.take p).nextId p.region i ((u.take p).homeOf p.region (offsetOf p.addr / 128 * 128))
    (offsetOf p.addr / 128) 0 true, ?_, rfl, rfl, rfl, rfl, rfl, ((frame_arrive arrived (by simp) (by simp) (by simp)).trans
    ((frame_take u p (by simp)).trans ((frame_newId _ _ _).trans (frame_withPacket _ _ (by simp))))).pf⟩
  rw [State.refreshPf_net]
  rfl

/-- Settles O53: each response by its own lemma. -/
theorem planeResponsesComplete : Obligations.PlaneResponsesComplete := by
  unfold Obligations.PlaneResponsesComplete
  exact ⟨answers_dynData_core, answers_dynAck_core, answers_dynAck_slice, answers_dynError_retry⟩

end Sys2Proof.Machine
end

section
/-! Borrowing (R617, R618, R621 to R624): a line is granted, recalled and returned. -/

namespace Sys2Proof.Machine

variable {s t u v : State} {h ln n : Nat} {p w : Packet}

/-! ### A slice's tracker -/

/-- Slice h tracks other lines, and nothing else but registers of the slices has changed. -/
structure Retracked (s t : State) (h : Nat) (tr : List Tracker) : Prop where
  slice : t.slice h = { s.slice h with tracker := tr }
  others : ∀ j, j ≠ h → t.slice j = s.slice j
  net : t.net = s.net
  nextId : t.nextId = s.nextId
  regions : t.regions = s.regions
  words : ∀ off, off < 0x400000 ∨ 0x800000 ≤ off → SameWord off s t

theorem sameWord_noteMeridian (s : State) {i off : Nat} (hi : i < 64) (apart : off < 0x400000 ∨ 0x800000 ≤ off) :
    SameWord off s (s.noteMeridian i) := by
  unfold State.noteMeridian
  refine (((SameWord.refl off s).setFld _ _ ?_).setFld _ _ ?_).setFld _ _ ?_
  all_goals simp only [F.MSL_MERIDIAN_BORROWED, F.MSL_MERIDIAN_COPIES, F.MSL_TRACKER_USE_IN_USE, R.MSL_MERIDIAN, R.MSL_TRACKER_USE]; omega

theorem noteMeridian_slice (s : State) (i j : Nat) : (s.noteMeridian i).slice j = s.slice j := rfl

theorem noteMeridian_net (s : State) (i : Nat) : (s.noteMeridian i).net = s.net := rfl

theorem noteMeridian_nextId (s : State) (i : Nat) : (s.noteMeridian i).nextId = s.nextId := rfl

theorem noteMeridian_regions (s : State) (i : Nat) : (s.noteMeridian i).regions = s.regions := rfl

theorem sameWord_modSlice (s : State) (i : Nat) (f : Slice → Slice) {off : Nat} : SameWord off s (s.modSlice i f) := .of_regs rfl

theorem retracked_modSlice (s : State) (hh : h < 64) (f : List Tracker → List Tracker) :
    Retracked s ((s.modSlice h fun sl => { sl with tracker := f sl.tracker }).noteMeridian h) h (f (s.slice h).tracker) where
  slice := by rw [noteMeridian_slice, State.slice_modSlice_same]
  others := fun _ hj => by rw [noteMeridian_slice, State.slice_modSlice_ne _ _ hj]
  net := by rw [noteMeridian_net]; rfl
  nextId := by rw [noteMeridian_nextId]; rfl
  regions := by rw [noteMeridian_regions]; rfl
  words := fun _ apart => SameWord.trans (sameWord_modSlice s h _) (sameWord_noteMeridian _ hh apart)

theorem Retracked.trans {tr tr' : List Tracker} (a : Retracked s t h tr) (b : Retracked t u h tr') : Retracked s u h tr' where
  slice := by rw [b.slice, a.slice]
  others := fun j hj => (b.others j hj).trans (a.others j hj)
  net := b.net.trans a.net
  nextId := b.nextId.trans a.nextId
  regions := b.regions.trans a.regions
  words := fun off low => (a.words off low).trans (b.words off low)

/-- A line is tracked by a slice that tracks none. -/
theorem retracked_track (hh : h < 64) (none : (s.slice h).tracker = []) (n ln seed : Nat) (f : Tracker → Tracker) :
    Retracked s (s.track n h ln seed f) h [f { line := ln, pointer := seed }] := by
  have added := retracked_modSlice s hh fun tr => tr ++ [f { line := ln, pointer := seed }]
  rw [none] at added
  have same : s.track n h ln seed f =
      (s.modSlice h fun sl => { sl with tracker := sl.tracker ++ [f { line := ln, pointer := seed }] }).noteMeridian h := by
    unfold State.track
    rw [none]
    rfl
  rw [same]
  exact added

/-- A line that is not borrowed and has no copies is settled: the slice tracks it no more. -/
theorem retracked_settleLine (hh : h < 64) {e : Tracker} (one : (s.slice h).tracker = [e]) (line : e.line = ln) (free : e.borrower = none)
    (single : e.copies = []) (open' : e.reserved = none) : Retracked s (s.settleLine n h ln true) h [] := by
  have dropped := retracked_modSlice s hh fun tr => tr.filter fun x => x.line != ln
  have gone : ([e].filter fun x => x.line != ln) = [] := by simp [line]
  rw [one, gone] at dropped
  have same : s.settleLine n h ln true =
      (s.modSlice h fun sl => { sl with tracker := sl.tracker.filter fun x => x.line != ln }).noteMeridian h := by
    have found : (s.slice h).tracker.find? (fun x => x.line == ln) = some e := by simp [one, line]
    unfold State.settleLine
    rw [found]
    simp only [free, single, open', overList_nil, if_true, List.isEmpty_nil, Option.isNone_none, Bool.and_self]
  rw [same]
  exact dropped

theorem Retracked.home {tr : List Tracker} (a : Retracked s t h tr) (line : Nat) : (t.slice h).home line = (s.slice h).home line := by
  rw [a.slice]; rfl

theorem Retracked.cutOff {tr : List Tracker} (a : Retracked s t h tr) (n : Nat) (tile : Nat) :
    t.cutOff n tile = s.cutOff n tile := by
  have rgn : t.rgn n = s.rgn n := by simp only [State.rgn, a.regions]
  have fenced : t.fld (F.FLT_TILE_FENCED_FENCED (tile / 32)) = s.fld (F.FLT_TILE_FENCED_FENCED (tile / 32)) :=
    (a.words (R.FLT_TILE_FENCED (tile / 32)) (by simp only [R.FLT_TILE_FENCED]; omega)).fld _ rfl
  simp only [State.cutOff, State.tileFenced, State.bitAt, fenced, rgn]

/-! ### A grant -/

/-- The tracker entry of a line whose only request is granted. -/
def grantedEntry (ln : Nat) (w : Packet) : Tracker :=
  { line := ln, pointer := agentTile w.src + 1, borrower := some (proxySlice w) }

/-- The tracker's change at a grant. -/
def grantEntry (w : Packet) (e : Tracker) : Tracker :=
  { e with borrower := some (proxySlice w), pointer := agentTile w.src + 1, recalling := false
           reserved := if e.reserved = some (proxySlice w) then none else e.reserved, retries := smDel e.retries (proxySlice w) }

theorem grantBorrow_eq (s : State) (n h ln : Nat) (w : Packet) : s.grantBorrow n h ln w =
    (((s.settleLine n h ln true).track n h ln (agentTile w.src) (grantEntry w)).respond w (.slice h) .data
      ((((s.settleLine n h ln true).track n h ln (agentTile w.src) (grantEntry w)).slice h).home ln).data
      ((((s.settleLine n h ln true).track n h ln (agentTile w.src) (grantEntry w)).slice h).home ln).poison) := rfl

/-- The state in which a line's only request is granted, but for the answer. -/
theorem retracked_grant {e : Tracker} (hh : h < 64) (one : (s.slice h).tracker = [e]) (line : e.line = ln) (free : e.borrower = none)
    (single : e.copies = []) (open' : e.reserved = none) :
    Retracked s ((s.settleLine n h ln true).track n h ln (agentTile w.src) (grantEntry w)) h [grantedEntry ln w] := by
  have settled := retracked_settleLine (n := n) hh one line free single open'
  have empty : ((s.settleLine n h ln true).slice h).tracker = [] := by rw [settled.slice]
  have granted := retracked_track hh empty n ln (agentTile w.src) (grantEntry w)
  exact settled.trans granted

theorem exec_borrowRequest {h proxy : Fin 64} {line : BitVec 64} (owner : s.ownerOf (tileOfSlice h) = some n)
    (arrives : ((s.net.find? fun p => p.kind == .read && p.line && p.op == 1 && p.dst == .slice h && p.src == .slice proxy.val
      && p.addr == 2 ^ 47 + line.toNat * 128).bind fun p => s.arrive p) = some u) (one : u.borrowers n h line.toNat = [w])
    (untracked : (u.slice h).tracker = []) (full : ((u.slice h).home line.toNat).missing 15 = 0) :
    exec (.borrowRequest h line proxy) s = done ((u.track n h line.toNat (agentTile w.src) id).grantBorrow n h line.toNat w) := by
  have tracked := retracked_track h.isLt untracked n line.toNat (agentTile w.src) id
  have entry : ((u.track n h line.toNat (agentTile w.src) id).slice h).trackOf line.toNat =
      some { line := line.toNat, pointer := agentTile w.src } := by
    rw [tracked.slice]
    simp [Slice.trackOf]
  have ready : (u.track n h line.toNat (agentTile w.src) id).awaitLine n h line.toNat 15 cDYN = .ready := by
    unfold State.awaitLine State.isBorrowed
    rw [entry, tracked.home, full]
    rfl
  have exe : exec (.borrowRequest h line proxy) s = execBorrowRequest h line proxy s := rfl
  rw [execBorrowRequest, owner] at exe
  dsimp only at exe
  rw [arrives] at exe
  dsimp only at exe
  rw [one] at exe
  simp only [List.map_cons, List.map_nil, List.min?_singleton, Option.getD_some, entry, firstFrom, List.foldl_cons, List.foldl_nil, ready,
    List.filter_cons, List.filter_nil, bne_self_eq_false, Bool.false_eq_true, if_false] at exe
  exact exe

theorem answers_borrowRequest (h proxy : Fin 64) (line : BitVec 64) (n : Nat) (s u : State) (p w : Packet)
    (owner : s.ownerOf (tileOfSlice h) = some n)
    (found : s.net.find? (fun p => p.kind == .read && p.line && p.op == 1 && p.dst == .slice h && p.src == .slice proxy.val &&
      p.addr == 2 ^ 47 + line.toNat * 128) = some p) (arrived : s.arrive p = some u) (one : u.borrowers n h line.toNat = [w])
    (src : w.src = .slice proxy) (answerable : Answerable u w) (untracked : (u.slice h).tracker = [])
    (full : ((u.slice h).home line.toNat).missing 15 = 0) : Answers (.borrowRequest h line proxy) s fun t =>
      (∃ q, Replied u t w q .data ∧ q.bytes = ((u.slice h).home line.toNat).data) ∧
        ∃ e, (t.slice h).trackOf line.toNat = some e ∧ e.borrower = some proxy.val ∧ e.pointer = tileOfSlice proxy + 1 := by
  have exe := exec_borrowRequest owner (by rw [found]; exact arrived) one untracked full
  have tracked := retracked_track h.isLt untracked n line.toNat (agentTile w.src) id
  have granted := retracked_grant (n := n) (w := w) (ln := line.toNat) (e := { line := line.toNat, pointer := agentTile w.src }) h.isLt
    (by rw [tracked.slice]; rfl) rfl rfl rfl rfl
  have all := tracked.trans granted
  rw [grantBorrow_eq] at exe
  have still := And.intro answerable.1 ((all.cutOff w.region (agentTile w.src)).trans answerable.2)
  refine answers_of_done exe ⟨⟨_, Replied.pf (replied_respond still all.net all.nextId _ _ _ _), ?_⟩, grantedEntry line.toNat w, ?_, ?_, ?_⟩
  · exact congrArg CLine.data (all.home line.toNat)
  · rw [State.refreshPf_slice, respond_slice still, all.slice]
    simp [Slice.trackOf, grantedEntry]
  · simp [grantedEntry, proxySlice, src]
  · simp [grantedEntry, src, agentTile]

/-! ### A recall -/

/-- The packet with which a borrower gives a line back. -/
def returnPacket (id n b h ln : Nat) (l : CLine) : Packet :=
  { id := id, kind := .write, region := n, src := .slice b, dst := .slice h, addr := 2 ^ 47 + ln * 128, size := 128
    line := true, writers := l.writers, bytes := l.data.filter fun x => l.dirty.contains x.1
    poison := l.poison.filter fun k => l.dirty.any fun o => o / 8 == k }

/-- The state of a recall: the borrower's line gone, the packet sent, the recall no longer due. -/
def State.recalled (s : State) (n b h ln : Nat) (l : CLine) : State :=
  ((((s.countSat (F.MSL_TRACKER_RECALLS h)).newId.2.modSlice b fun sl => sl.remove ln).withPacket (returnPacket s.nextId n b h ln l)).modSlice h
    fun sl => sl.modTrack ln fun e => { e with recalling := false }).noteMeridian b

theorem answers_recallLine (h : Fin 64) (line : BitVec 64) (n b : Nat) (s : State) (e : Tracker) (l : CLine)
    (owner : s.ownerOf (tileOfSlice h) = some n) (tracked : (s.slice h).trackOf line.toNat = some e) (recalling : e.recalling = true)
    (borrower : e.borrower = some b) (held : (s.slice b).find line.toNat = some l) : Answers (.recallLine h line) s fun t =>
      (t.slice b).find line.toNat = none ∧
        ∃ q, t.net = s.net ++ [q] ∧ q.kind = .write ∧ q.line = true ∧ q.src = .slice b ∧ q.dst = .slice h ∧
          q.addr = 2 ^ 47 + line.toNat * 128 ∧ q.writers = l.writers ∧ q.bytes = l.data.filter fun x => l.dirty.contains x.1 := by
  have exe : exec (.recallLine h line) s = execRecall h line s := rfl
  have recalled : execRecall h line s = done (s.recalled n b h line.toNat l) := by
    rw [execRecall]
    simp only [owner, tracked, recalling, borrower, held]
    rfl
  rw [recalled] at exe
  refine answers_of_done exe ⟨?_, returnPacket s.nextId n b h line.toNat l, ?_, rfl, rfl, rfl, rfl, rfl, rfl, rfl⟩
  · have lines (f : Tracker → Tracker) (v : State) (j : Nat) :
        ((v.modSlice h fun sl => sl.modTrack line.toNat f).slice j).lines = (v.slice j).lines := by
      by_cases same : j = h
      · subst same; rw [State.slice_modSlice_same]; rfl
      · rw [State.slice_modSlice_ne _ _ same]
    rw [State.refreshPf_slice, State.recalled, noteMeridian_slice, Slice.find, lines]
    show (((State.modSlice _ b fun sl => sl.remove line.toNat).slice b).lines.find? _) = none
    rw [State.slice_modSlice_same]
    exact List.find?_eq_none.mpr fun x hx => by simpa using (List.mem_filter.mp hx).2
  · rw [State.refreshPf_net, State.recalled, noteMeridian_net]
    rfl

/-! ### A return -/

/-- No tracker has gained an entry or a borrower, and the packets are as before. -/
structure Looser (s t : State) : Prop where
  net : t.net = s.net
  trackers : ∀ j, ∃ f : Tracker → Tracker, (∀ e, (f e).line = e.line ∧ ((f e).borrower = e.borrower ∨ (f e).borrower = none)) ∧
    (t.slice j).tracker = (s.slice j).tracker.map f

theorem Looser.refl (s : State) : Looser s s := ⟨rfl, fun _ => ⟨id, fun _ => ⟨rfl, .inl rfl⟩, (List.map_id _).symm⟩⟩

theorem Looser.of_parts {q : List Part} (h : SameParts q s t) (hn : .net ∉ q) (hs : .slices ∉ q) : Looser s t where
  net := h .net hn
  trackers := fun j => ⟨id, fun _ => ⟨rfl, .inl rfl⟩, by rw [List.map_id, State.slice, h .slices hs]; rfl⟩

theorem Looser.trans (a : Looser s t) (b : Looser t u) : Looser s u where
  net := b.net.trans a.net
  trackers := fun j => by
    obtain ⟨f, keepsf, hf⟩ := a.trackers j
    obtain ⟨g, keepsg, hg⟩ := b.trackers j
    refine ⟨g ∘ f, fun e => ⟨(keepsg _).1.trans (keepsf e).1, ?_⟩, by rw [hg, hf, List.map_map]⟩
    rcases (keepsg (f e)).2 with h | h
    · rcases (keepsf e).2 with k | k
      · exact .inl (h.trans k)
      · exact .inr (h.trans k)
    · exact .inr h

theorem looser_modSlice (s : State) (i : Nat) (g : Slice → Slice) {f : Tracker → Tracker}
    (keeps : ∀ e, (f e).line = e.line ∧ ((f e).borrower = e.borrower ∨ (f e).borrower = none))
    (tracker : (g (s.slice i)).tracker = (s.slice i).tracker.map f) : Looser s (s.modSlice i g) where
  net := rfl
  trackers := fun j => by
    by_cases same : j = i
    · subst same
      exact ⟨f, keeps, by rw [State.slice_modSlice_same, tracker]⟩
    · exact ⟨id, fun _ => ⟨rfl, .inl rfl⟩, by rw [State.slice_modSlice_ne _ _ same, List.map_id]⟩

theorem looser_lines (s : State) (i : Nat) (g : Slice → Slice) (tracker : (g (s.slice i)).tracker = (s.slice i).tracker) :
    Looser s (s.modSlice i g) := looser_modSlice s i g (f := id) (fun _ => ⟨rfl, .inl rfl⟩) (by rw [tracker, List.map_id])

theorem looser_noteMeridian (s : State) (i : Nat) : Looser s (s.noteMeridian i) :=
  .of_parts (sameParts_noteMeridian (p := []) s i) (by simp) (by simp)

theorem sameParts_ask (s : State) (r : HReq) : SameParts [.hreqs] s (s.ask r) :=
  SameParts.trans (fun q hq => by cases q with | hreqs => exact absurd (by simp) hq | _ => rfl) (marks_injectAll _ _).parts

theorem looser_writeBack (s : State) (n i cls : Nat) (l : CLine) : Looser s (s.writeBack n i cls l) := by
  unfold State.writeBack
  split
  · exact .refl s
  · unfold State.queueWrite
    dsimp only
    split
    · exact .of_parts (sameParts_countMod (p := []) _ _ _) (by simp) (by simp)
    · exact .of_parts (SameParts.trans (sameParts_ask _ _) (sameParts_countMod _ _ _)) (by simp) (by simp)

/-- A line that is borrowed no more. -/
theorem looser_unborrow (s : State) (h line : Nat) : Looser s (s.modSlice h fun hs =>
    { hs with tracker := hs.tracker.map fun e => if e.line == line then { e with borrower := none } else e }) :=
  looser_modSlice s h _ (fun e => by split; exacts [⟨rfl, .inr rfl⟩, ⟨rfl, .inl rfl⟩]) rfl

theorem looser_putLineN (k : Nat) (s : State) (n i cls : Nat) (l : CLine) : Looser s (State.putLineN k s n i cls l) := by
  induction k generalizing s n i cls l with
  | zero => exact (looser_lines s i (fun x => x.put l) rfl).trans (looser_noteMeridian _ i)
  | succ k ih =>
    rw [State.putLineN]
    dsimp only
    split
    · exact looser_writeBack s n i cls l
    · split
      · exact (looser_lines s i (fun _ => (s.slice i).put l) rfl).trans (looser_noteMeridian _ i)
      · split
        · exact .refl s
        · next v _ =>
          have out : Looser s (s.modSlice i fun _ => ((s.slice i).put l).remove v.line) := looser_lines s i _ rfl
          split
          · exact out.trans (looser_noteMeridian _ i)
          · exact (out.trans (looser_writeBack _ n i cls v)).trans (looser_noteMeridian _ i)
          · exact ((out.trans (looser_unborrow _ _ v.line)).trans (looser_noteMeridian _ i)).trans (ih ..)

theorem looser_putLine (s : State) (n i cls : Nat) (l : CLine) : Looser s (s.putLine n i cls l) := looser_putLineN _ s n i cls l

/-- The tracker holds no borrower of a line. -/
def Slice.unborrowed (sl : Slice) (line : Nat) : Prop := ∀ e ∈ sl.tracker, e.line = line → e.borrower = none

theorem Looser.unborrowed (a : Looser s t) (i : Nat) {line : Nat} (free : (s.slice i).unborrowed line) : (t.slice i).unborrowed line := by
  obtain ⟨f, keeps, trackers⟩ := a.trackers i
  intro e he hl
  obtain ⟨x, hx, rfl⟩ := List.mem_map.mp (trackers ▸ he)
  have before := free x hx ((keeps x).1.symm.trans hl)
  rcases (keeps x).2 with h | h
  · exact h.trans before
  · exact h

/-- The state of a return, its packet taken and the line not borrowed. -/
def State.takenBack (s : State) (p : Packet) (h ln : Nat) : State :=
  (s.take p).modSlice h fun sl => sl.modTrack ln fun e => { e with borrower := none, recalling := false }

theorem takenBack_unborrowed (s : State) (p : Packet) (h ln : Nat) : ((s.takenBack p h ln).slice h).unborrowed ln := by
  rw [State.takenBack, State.slice_modSlice_same]
  intro e he hl
  obtain ⟨x, -, rfl⟩ := List.mem_map.mp he
  split at hl
  · next same => rw [if_pos same]
  · next other => exact absurd (by simpa using hl) other

/-- The line with what was written into it while it was borrowed. -/
def returnedLine (p : Packet) (ln : Nat) : CLine := { line := ln, data := p.bytes, poison := p.poison, dirty := p.bytes.map (·.1) }

/-- The state of a return, its bytes in the line. -/
def State.mergedReturn (s : State) (p : Packet) (h ln : Nat) : State :=
  if p.bytes.isEmpty then s.takenBack p h ln
  else ((s.takenBack p h ln).putLine p.region h cDYN ((((s.takenBack p h ln).slice h).home ln).merge (returnedLine p ln))).dropStaged h ln

theorem applyReturn_eq (s : State) (p : Packet) (h : Nat) : s.applyReturn p h =
    (s.mergedReturn p h (offsetOf p.addr / 128)).freeTrack h (offsetOf p.addr / 128) := rfl

theorem looser_mergedReturn (s : State) (p : Packet) (h ln : Nat) : Looser (s.takenBack p h ln) (s.mergedReturn p h ln) := by
  unfold State.mergedReturn
  split
  · exact .refl _
  · refine (looser_putLine _ p.region h cDYN ((((s.takenBack p h ln).slice h).home ln).merge (returnedLine p ln))).trans ?_
    unfold State.dropStaged
    split
    · exact looser_lines _ h _ rfl
    · exact .refl _

theorem freeTrack_unborrowed (s : State) (h ln : Nat) (free : (s.slice h).unborrowed ln) : ((s.freeTrack h ln).slice h).unborrowed ln := by
  rw [State.freeTrack, noteMeridian_slice, State.slice_modSlice_same]
  exact fun e he hl => free e (List.mem_filter.mp he).1 hl

theorem exec_lineReturn {h : Fin 64} {id : Nat} (arrives : Arrives s u id .write p) (line : p.line = true) (dst : p.dst = .slice h) :
    exec (.lineReturn h id) s = done (u.applyReturn p h) := by
  obtain ⟨packet, arrived, near⟩ := arrives
  have exe : exec (.lineReturn h id) s = execLineReturn h id s := rfl
  rw [execLineReturn, deliver_acts packet arrived near] at exe
  rw [exe]
  simp [line, dst]

theorem answers_lineReturn (h : Fin 64) (id : Nat) (s u : State) (p : Packet) (arrives : Arrives s u id .write p) (line : p.line = true)
    (dst : p.dst = .slice h) : Answers (.lineReturn h id) s fun t =>
      t.net = (u.net.filter fun x => x.id != p.id) ∧
        ∀ e, (t.slice h).trackOf (p.addr % 2 ^ 46 / 128) = some e → e.borrower = none := by
  have exe := exec_lineReturn arrives line dst
  have merged := looser_mergedReturn u p h (offsetOf p.addr / 128)
  rw [applyReturn_eq] at exe
  refine answers_of_done exe ⟨?_, fun e he => ?_⟩
  · rw [State.refreshPf_net]
    exact merged.net
  · rw [State.refreshPf_slice] at he
    have free := freeTrack_unborrowed _ _ _ (merged.unborrowed h (takenBack_unborrowed u p h (offsetOf p.addr / 128)))
    rw [Slice.trackOf] at he
    exact free e (List.mem_of_find?_eq_some he) (eq_of_beq (List.find?_some (p := fun e : Tracker => e.line == p.addr % 2 ^ 46 / 128) he))

/-- Settles O54: a grant tracks its borrower, a recall takes the line from it, a return leaves no borrower. -/
theorem borrowingCompletes : Obligations.BorrowingCompletes := by
  unfold Obligations.BorrowingCompletes
  exact ⟨answers_borrowRequest, answers_recallLine, answers_lineReturn⟩

end Sys2Proof.Machine
end

section
/-! Requests of the dynamic plane at the units that serve them (R525, R590, R609, R634, R655, R662). -/

namespace Sys2Proof.Machine

variable {s t u v : State} {p : Packet} {id : Nat} {k : PacketKind}

/-- A unit that takes a packet is not fenced. -/
theorem arrive_notFenced {i : Nat} (arrived : s.arrive p = some u) (dst : p.dst = .slice i) : u.sliceFenced i = false := by
  have ready : s.agentReady (.slice i) = true := by
    rw [← dst]
    by_contra no
    rw [State.arrive, Bool.eq_false_of_not_eq_true no] at arrived
    exact absurd arrived (by simp)
  obtain ⟨pl, rfl⟩ := State.arrive_planes arrived
  simp only [State.agentReady, State.sliceServes, Bool.and_eq_true, Bool.not_eq_true'] at ready
  exact ready.1.2

/-- A read that no error meets changes nothing. -/
theorem memError_none (s : State) (n i a : Nat) (fetched scrub : Bool) : s.memError n i a fetched scrub .none = s := by
  simp [State.memError, State.tagError]

/-! ### READ -/

/-- The answer to a READ served at pinned ways. -/
def State.readAnswered (u : State) (p : Packet) (i : Nat) : State :=
  { u.respond p (.slice i) .data (memAt 0 (u.homeBytes p.region p.addr p.size).1) (u.homeBytes p.region p.addr p.size).2 with
    draws := u.draws + 1 }

theorem homeRead_answers {i : Nat} (place : (match u.locate p.region p.addr with | .ext _ _ => false | _ => true) = true)
    (first : u.behind p = false) (free : u.sliceFenced i = false) : u.homeRead p i .none = some (u.readAnswered p i) := by
  rw [State.homeRead]
  simp only [first, Bool.false_eq_true, if_false, memError_none, free]
  cases at' : u.locate p.region p.addr with
  | ext h line => simp [at'] at place
  | _ => rfl

theorem exec_dynRead_slice {i : Nat} (arrives : Arrives s u id .read p) (dst : p.dst = .slice i) (plain : p.op ≠ 1)
    (place : (match u.locate p.region p.addr with | .ext _ _ => false | _ => true) = true) (first : u.behind p = false) :
    exec (.dynRead id .none) s = done (u.readAnswered p i) := by
  obtain ⟨packet, arrived, near⟩ := arrives
  have exe : exec (.dynRead id .none) s = execDynRead id .none s := rfl
  rw [execDynRead, deliver_acts packet arrived near] at exe
  rw [exe]
  have near : u.isProxy p.region i p.addr = false := by
    rw [State.isProxy]
    cases at' : u.locate p.region p.addr with
    | ext h line => simp [at'] at place
    | _ => rfl
  simp only [dst, if_neg plain, near, Bool.false_eq_true, if_false,
    homeRead_answers place first (arrive_notFenced arrived dst), Option.getD_some]

theorem answers_dynRead (id i : Nat) (s u : State) (p : Packet) (arrives : Arrives s u id .read p) (dst : p.dst = .slice i)
    (plain : p.op ≠ 1) (place : (match u.locate p.region p.addr with | .ext _ _ => false | _ => true) = true)
    (first : u.behind p = false) (answerable : Answerable u p) : Answers (.dynRead id .none) s fun t =>
      (∃ q, Replied u t p q .data ∧ q.bytes = memAt 0 (u.homeBytes p.region p.addr p.size).1 ∧
        q.poison = (u.homeBytes p.region p.addr p.size).2) ∧ Frame s t [] planeParts := by
  have exe := exec_dynRead_slice arrives dst plain place first
  refine answers_of_done exe ⟨⟨_, Replied.pf (replied_respond answerable rfl rfl (.slice i) .data _ _), rfl, rfl⟩, ?_⟩
  exact (((frame_arrive arrives.2.1 (by simp) (by simp) (by simp)).trans (frame_respond answerable _ _ _ _ (by simp))).trans
    (frame_draws _ _ _ _)).pf

/-! ### The link window -/

theorem requestToPort_edge (u : State) (p : Packet) :
    (u.requestToPort p).edge = u.edge ++ [{ p with since := u.nextId, promoted := false }] := rfl

theorem answers_toPort {i : Instr} (arrived : s.arrive p = some u) (exe : exec i s = done (u.requestToPort p)) : Answers i s fun t =>
    t.edge = u.edge ++ [{ p with since := u.nextId, promoted := false }] ∧ t.net = (u.net.filter fun x => x.id != p.id) ∧
      Frame s t [] (.edge :: planeParts) := by
  refine answers_of_done exe ⟨?_, ?_, ?_⟩
  · rw [State.refreshPf_edge, requestToPort_edge]
  · rw [State.refreshPf_net]; rfl
  · exact (((frame_arrive arrived (by simp) (by simp) (by simp)).trans (frame_take u p (by simp))).trans
      ((frame_newId _ _ _).trans ((frame_withEdge _ _ []).mono (by simp) (by simp)))).pf

theorem answers_requestToPort (id q : Nat) (s u : State) (p : Packet) (i : Instr) (k : PacketKind) (arrives : Arrives s u id k p)
    (dst : p.dst = .port q)
    (kind : (k, i) ∈ [(PacketKind.read, Instr.dynRead id .none), (.atomic, .dynAtomic id .none), (.message, .dynMessage id)]) :
    Answers i s fun t =>
      t.edge = u.edge ++ [{ p with since := u.nextId, promoted := false }] ∧ t.net = (u.net.filter fun x => x.id != p.id) ∧
        Frame s t [] (.edge :: planeParts) := by
  obtain ⟨packet, arrived, near⟩ := arrives
  refine answers_toPort arrived ?_
  simp only [List.mem_cons, Prod.mk.injEq, List.not_mem_nil, or_false] at kind
  obtain ⟨rfl, rfl⟩ | ⟨rfl, rfl⟩ | ⟨rfl, rfl⟩ := kind
  · have exe : exec (.dynRead id .none) s = execDynRead id .none s := rfl
    rw [exe, execDynRead, deliver_acts packet arrived near]
    simp only [dst, Option.getD_some]
  · have exe : exec (.dynAtomic id .none) s = execDynAtomic id .none s := rfl
    rw [exe, execDynAtomic, deliver_acts packet arrived near]
    simp only [dst, Option.getD_some]
  · have exe : exec (.dynMessage id) s = execDynMessage id s := rfl
    rw [exe, execDynMessage, deliver_acts packet arrived near]
    simp only [dst, Option.getD_some]

/-! ### ATOMIC -/

/-- The slice with its arrays changed, by an operation that has drawn. -/
def State.sramDone (u : State) (i : Nat) (m : PMem) : State := { u.modSlice i fun y => { y with sram := m } with draws := u.draws + 1 }

theorem sramDone_slice (u : State) (i : Nat) (m : PMem) : ((u.sramDone i m).slice i).sram = m :=
  congrArg Slice.sram (State.slice_modSlice_same u i fun y => { y with sram := m })

theorem sramDone_slice_ne (u : State) {i j : Nat} (m : PMem) (h : j ≠ i) : (u.sramDone i m).slice j = u.slice j :=
  State.slice_modSlice_ne u (fun y => { y with sram := m }) h

theorem frame_sramDone (u : State) (i : Nat) (m : PMem) {r : List Nat} {parts : List Part} (h : .slices ∈ parts) :
    Frame u (u.sramDone i m) r parts := (frame_modSlice u i (fun y => { y with sram := m }) h).trans (frame_draws _ _ _ _)

/-- The slice with a word of pinned ways changed, counted, and poisoned when the word or an operand is. -/
def State.pinnedAtomic (u : State) (p : Packet) (i b : Nat) : State :=
  let r := atomicOn (u.slice i).sram u.draws (u.cell i b) p.op p.fmt p.operand p.compare p.bad
  ((u.sramDone i r.2.2).countMod (F.MSL_ATOM_COUNT_ATOMS i)).when r.2.1 fun w => w.launchPoison p.region

/-- Its answer. -/
def State.atomicAnswered (u t : State) (p : Packet) (i b : Nat) : State :=
  let r := atomicOn (u.slice i).sram u.draws (u.cell i b) p.op p.fmt p.operand p.compare p.bad
  if p.ret then t.respond p (.slice i) .data (memAt 0 (toBytes p.size r.1)) (if r.2.1 then [0] else []) else t.respond p (.slice i) .ack [] []

theorem sliceAtomic_pinned {i b : Nat} (place : u.locate p.region p.addr = .pinned i b) :
    u.sliceAtomic p i = u.atomicAnswered (u.pinnedAtomic p i b) p i b := by
  rw [State.sliceAtomic, State.performAtomic]
  simp only [place]
  rfl

theorem exec_dynAtomic_pinned {i b : Nat} (arrives : Arrives s u id .atomic p) (dst : p.dst = .slice i)
    (place : u.locate p.region p.addr = .pinned i b) (first : u.behind p = false) :
    exec (.dynAtomic id .none) s = done (u.atomicAnswered (u.pinnedAtomic p i b) p i b) := by
  obtain ⟨packet, arrived, near⟩ := arrives
  have exe : exec (.dynAtomic id .none) s = execDynAtomic id .none s := rfl
  rw [exe, execDynAtomic, deliver_acts packet arrived near]
  simp only [dst, first, place, Bool.false_eq_true, if_false, memError_none, arrive_notFenced arrived dst, sliceAtomic_pinned place,
    Option.getD_some]

theorem pinnedAtomic_slice (u : State) (p : Packet) (i b : Nat) : ((u.pinnedAtomic p i b).slice i).sram =
    (atomicOn (u.slice i).sram u.draws (u.cell i b) p.op p.fmt p.operand p.compare p.bad).2.2 := by
  rw [State.pinnedAtomic, launchPoison_when_slice]
  exact sramDone_slice ..

theorem pinnedAtomic_slice_ne (u : State) (p : Packet) {i j : Nat} (b : Nat) (h : j ≠ i) : (u.pinnedAtomic p i b).slice j = u.slice j := by
  rw [State.pinnedAtomic, launchPoison_when_slice]
  exact sramDone_slice_ne _ _ h

theorem frame_pinnedAtomic (u : State) (p : Packet) (i b : Nat) :
    Frame u (u.pinnedAtomic p i b) [R.MSL_ATOM_COUNT i] (.slices :: planeParts) := by
  have written (m : PMem) : Frame u ((u.sramDone i m).countMod (F.MSL_ATOM_COUNT_ATOMS i)) [R.MSL_ATOM_COUNT i] (.slices :: planeParts) :=
    (frame_sramDone u i m (by simp)).trans (frame_setFld _ (F.MSL_ATOM_COUNT_ATOMS i) _ _ (List.mem_singleton.2 rfl))
  exact (written _).trans ((frame_launchPoison_when _ p.region _ (parts := [.regions]) (by simp)).mono (List.nil_subset _) (by simp))

theorem pinnedAtomic_count (u : State) (p : Packet) (i b : Nat) :
    (u.pinnedAtomic p i b).fld (F.MSL_ATOM_COUNT_ATOMS i) = (u.fld (F.MSL_ATOM_COUNT_ATOMS i) + 1) % 2 ^ 32 := by
  have kept (v : State) (c : Bool) : (v.when c fun w => w.launchPoison p.region).fld (F.MSL_ATOM_COUNT_ATOMS i) =
      v.fld (F.MSL_ATOM_COUNT_ATOMS i) := by cases c <;> rfl
  exact (kept _ _).trans (fld_countMod _ _ _ (show 0 + 32 ≤ 32 by decide))

theorem placeOf_lt {l : List Nat} (small : ∀ x ∈ l, x < 64) (o : Nat) : (placeOf l o).1 < 64 := by
  rw [placeOf, List.getD_eq_getElem?_getD]
  cases at' : l[(o / 256 % l.length + mix (o / 256 / l.length)) % l.length]? with
  | none => simp
  | some x => simpa [at'] using small x (List.mem_of_getElem? at')

/-- Pinned ways are those of a slice of the module. -/
theorem locate_pinned_lt {n a i b : Nat} (h : s.locate n a = .pinned i b) : i < 64 := by
  have small (w : Nat) : ∀ x ∈ s.winSlices n w, x < 64 := fun x hx => by
    have := (List.mem_filter.1 (List.mem_filter.1 hx).1).1
    exact List.mem_range.1 this
  rw [State.locate] at h
  dsimp only at h
  split at h
  · split at h
    · cases h
    · next w _ =>
      split at h
      · cases h
      · split at h
        · cases h
        · cases h
          exact placeOf_lt (small w) _
  · split at h
    · cases h
    · cases h

/-- Whether a tile is cut off does not depend on the counts of a slice. -/
theorem cutOff_countMod (s : State) {i : Nat} (hi : i < 64) (n tile : Nat) :
    (s.countMod (F.MSL_ATOM_COUNT_ATOMS i)).cutOff n tile = s.cutOff n tile := by
  have fenced : (s.countMod (F.MSL_ATOM_COUNT_ATOMS i)).tileFenced tile = s.tileFenced tile :=
    congrArg (fun v : Nat => v.testBit (tile % 32)) (State.fld_setFld_off s _ (F.FLT_TILE_FENCED_FENCED (tile / 32)) _ (by
      simp only [F.FLT_TILE_FENCED_FENCED, F.MSL_ATOM_COUNT_ATOMS, R.FLT_TILE_FENCED, R.MSL_ATOM_COUNT]; omega))
  exact congrArg (fun f => f || (s.rgn n).pendingFences.contains (.tile, tile) || (s.rgn n).isolated.contains tile) fenced

theorem pinnedAtomic_answerable (u : State) (p : Packet) {i : Nat} (b : Nat) (hi : i < 64) (answerable : Answerable u p) :
    Answerable (u.pinnedAtomic p i b) p := by
  refine ⟨answerable.1, ?_⟩
  rw [State.pinnedAtomic, launchPoison_when_cutOff, cutOff_countMod _ hi]
  exact answerable.2

theorem frame_atomicAnswered (u : State) (i b : Nat) (answerable : Answerable t p) :
    Frame t (u.atomicAnswered t p i b) [] (.slices :: planeParts) := by
  rw [State.atomicAnswered]
  split
  · exact frame_respond answerable _ _ _ _ (by simp)
  · exact frame_respond answerable _ _ _ _ (by simp)

theorem atomicAnswered_slice (u : State) (i b j : Nat) (answerable : Answerable t p) : (u.atomicAnswered t p i b).slice j = t.slice j := by
  rw [State.atomicAnswered]
  split
  · exact respond_slice answerable ..
  · exact respond_slice answerable ..

theorem replied_atomic (u : State) (b : Nat) (request : p.kind = .atomic) (answerable : Answerable v p) (net : v.net = u.net)
    (ids : v.nextId = u.nextId) (i : Nat) :
    let r := atomicOn (u.slice i).sram u.draws (u.cell i b) p.op p.fmt p.operand p.compare p.bad
    ∃ q, Replied u (u.atomicAnswered v p i b) p q (if p.ret then .data else .ack) ∧
      (p.ret = true → q.bytes = memAt 0 (toBytes p.size r.1)) ∧ (p.ret = false → q.writers = p.writers) := by
  dsimp only
  rw [State.atomicAnswered]
  cases p.ret with
  | true => exact ⟨_, replied_respond answerable net ids (.slice i) .data _ _, fun _ => rfl, fun no => absurd no (by decide)⟩
  | false => exact ⟨_, replied_respond answerable net ids (.slice i) .ack _ _, fun no => absurd no (by decide), fun _ => if_pos request⟩

theorem answers_dynAtomic (id i b : Nat) (s u : State) (p : Packet) (arrives : Arrives s u id .atomic p) (dst : p.dst = .slice i)
    (place : u.locate p.region p.addr = .pinned i b) (first : u.behind p = false) (answerable : Answerable u p) :
    Answers (.dynAtomic id .none) s fun t =>
      let r := atomicOn (u.slice i).sram u.draws (u.cell i b) p.op p.fmt p.operand p.compare p.bad
      (t.slice i).sram = r.2.2 ∧ (∀ j, j ≠ i → t.slice j = s.slice j) ∧
        t.fld (F.MSL_ATOM_COUNT_ATOMS i) = (s.fld (F.MSL_ATOM_COUNT_ATOMS i) + 1) % 2 ^ 32 ∧
        (∃ q, Replied u t p q (if p.ret then .data else .ack) ∧ (p.ret = true → q.bytes = memAt 0 (toBytes p.size r.1)) ∧
          (p.ret = false → q.writers = p.writers)) ∧
        Frame s t [R.MSL_ATOM_COUNT i] (.slices :: planeParts) := by
  have exe := exec_dynAtomic_pinned arrives dst place first
  have small := locate_pinned_lt place
  have still := pinnedAtomic_answerable u p b small answerable
  obtain ⟨packet, arrived, -⟩ := arrives
  have served := frame_pinnedAtomic u p i b
  have answered := frame_atomicAnswered u i b still
  have apart : R.MSL_ATOM_COUNT i ≠ R.INT_PF_STATUS := by simp only [R.MSL_ATOM_COUNT, R.INT_PF_STATUS]; omega
  have ids : (u.pinnedAtomic p i b).nextId = u.nextId := by
    rw [State.pinnedAtomic]
    generalize (atomicOn _ _ _ _ _ _ _ _).2.1 = bad
    cases bad <;> rfl
  have net : (u.pinnedAtomic p i b).net = u.net := by
    rw [State.pinnedAtomic]
    generalize (atomicOn _ _ _ _ _ _ _ _).2.1 = bad
    cases bad <;> rfl
  refine answers_of_done exe ⟨?_, fun j hj => ?_, ?_, ?_, ?_⟩
  · rw [State.refreshPf_slice, atomicAnswered_slice u i b i still]
    exact pinnedAtomic_slice u p i b
  · rw [State.refreshPf_slice, atomicAnswered_slice u i b j still, pinnedAtomic_slice_ne u p b hj, arrive_slice arrived]
  · have before : u.fld (F.MSL_ATOM_COUNT_ATOMS i) = s.fld (F.MSL_ATOM_COUNT_ATOMS i) := by
      obtain ⟨pl, rfl⟩ := State.arrive_planes arrived; rfl
    have after := answered.fld_eq (F.MSL_ATOM_COUNT_ATOMS i) apart List.not_mem_nil
    refine (State.refreshPf_fld _ (F.MSL_ATOM_COUNT_ATOMS i) apart).trans ?_
    rw [after, pinnedAtomic_count, before]
  · obtain ⟨q, replied, data, ack⟩ := replied_atomic u b (packet_spec packet).2 still net ids i
    exact ⟨q, Replied.pf replied, data, ack⟩
  · have came : Frame s u [] (.slices :: planeParts) := frame_arrive arrived (by simp) (by simp) (by simp)
    have regs : [] ⊆ [R.MSL_ATOM_COUNT i] := List.nil_subset _
    exact (((came.mono regs (List.Subset.refl _)).trans served).trans (answered.mono regs (List.Subset.refl _))).pf

/-! ### Cells of pinned ways -/

/-- Bytes of different places stand in different cells. -/
theorem cellOf_inj {sp : List (Nat × Nat)} (spares : ∀ e ∈ sp, ∀ e' ∈ sp, e.2 = e'.2 → e.1 = e'.1) {x y : Nat} (hx : x < 0x600000)
    (hy : y < 0x600000) (h : cellOf sp x = cellOf sp y) : x = y := by
  unfold cellOf at h
  split at h
  · next e he =>
    split at h
    · next e' he' =>
      have atx : e.1 = x / 32 := by simpa using List.find?_some he
      have aty : e'.1 = y / 32 := by simpa using List.find?_some he'
      have := spares e (List.mem_of_find?_eq_some he) e' (List.mem_of_find?_eq_some he') (by omega)
      omega
    · omega
  · split at h
    · omega
    · exact h

theorem cell_inj (s : State) (i : Nat) {x y : Nat} (hx : x < 0x600000) (hy : y < 0x600000) (h : s.cell i x = s.cell i y) : x = y := by
  refine cellOf_inj (fun e he e' he' same => ?_) hx hy h
  obtain ⟨k, -, rfl⟩ := List.mem_map.1 he
  obtain ⟨k', -, rfl⟩ := List.mem_map.1 he'
  obtain rfl : k = k' := same
  rfl

/-- Pinned ways read by the slice and the words of its spares. -/
theorem Frame.sramByte {parts : List Part} (h : Frame s t [] parts) (i d a : Nat) (slice : t.slice i = s.slice i) :
    t.sramByte i d a = s.sramByte i d a := by
  have apart (k : Nat) (hk : k ∈ List.range 8) : R.MSL_REMAP i k ≠ R.INT_PF_STATUS := by
    have := List.mem_range.1 hk
    simp only [R.MSL_REMAP, R.INT_PF_STATUS]; omega
  have valid (k : Nat) (hk : k ∈ List.range 8) : t.on (F.MSL_REMAP_VALID i k) = s.on (F.MSL_REMAP_VALID i k) := by
    simp only [State.on, h.fld_eq (F.MSL_REMAP_VALID i k) (apart k hk) List.not_mem_nil]
  have spares : t.spares i = s.spares i := by
    rw [State.spares, State.spares, List.filter_congr valid]
    exact List.map_congr_left fun k hk =>
      congrArg (·, k) (h.fld_eq (F.MSL_REMAP_SECTOR i k) (apart k (List.mem_filter.1 hk).1) List.not_mem_nil)
  rw [State.sramByte, State.sramByte, slice, State.cell, State.cell, spares]

/-- The state with bytes in pinned ways of slice i, from place b on; a byte at no place of theirs is as it was. -/
structure PinnedWrite (u t : State) (i b : Nat) (bytes : Mem) : Prop where
  only : ∃ l, t = { u with slices := l }
  others : ∀ j, j ≠ i → t.slice j = u.slice j
  named : ∀ e ∈ bytes, ∀ d, t.sramByte i d (b + e.1) = e.2
  rest : ∀ a d, a < 0x600000 → (∀ e ∈ bytes, a ≠ b + e.1) → t.sramByte i d a = u.sramByte i d a

theorem sramWrite_byte (u : State) (i : Nat) (bytes : Mem) (bad : List Nat) (d x : Nat) :
    (u.sramWrite i bytes bad).sramByte i d x =
      ((u.slice i).sram.write (bytes.map fun e => (u.cell i e.1, e.2)) (bad.map fun w => u.cell i (8 * w) / 8)).byte d (u.cell i x) := by
  rw [State.sramByte, State.sramWrite, State.slice_modSlice_same]
  rfl

theorem pinnedWrite_sramWrite (u : State) (i b : Nat) (bytes : Mem) (bad : List Nat) (sorted : smSorted bytes = true)
    (fits : ∀ e ∈ bytes, b + e.1 < 0x600000) :
    PinnedWrite u (u.sramWrite i (bytes.map fun e => (b + e.1, e.2)) bad) i b bytes := by
  refine ⟨⟨_, rfl⟩, fun j hj => State.slice_modSlice_ne _ _ hj, fun e he d => ?_, fun a d ha out => ?_⟩
  · rw [sramWrite_byte]
    refine PMem.byte_write_agree _ _ _ (List.mem_map.2 ⟨_, List.mem_map.2 ⟨e, he, rfl⟩, rfl⟩) fun w hw => ?_
    obtain ⟨_, hx, eq⟩ := List.mem_map.1 hw
    obtain ⟨e', he', rfl⟩ := List.mem_map.1 hx
    simp only [Prod.mk.injEq] at eq
    have place := cell_inj u i (fits e' he') (fits e he) eq.1
    have keys : (bytes.map (·.1)).Nodup := List.pairwise_map.2 (((smSorted_iff _).1 sorted).imp Nat.ne_of_lt)
    rw [← eq.2, List.inj_on_of_nodup_map keys he' he (by omega)]
  · rw [sramWrite_byte]
    refine PMem.byte_write_other _ _ _ _ _ fun x hx same => ?_
    obtain ⟨_, hy, rfl⟩ := List.mem_map.1 hx
    obtain ⟨e, he, rfl⟩ := List.mem_map.1 hy
    exact out e he (cell_inj u i (fits e he) ha same).symm

/-! ### A write of the store buffer -/

/-- Bytes of one granule are its payload. -/
theorem granulePay_bytes {a : Nat} {bytes : Mem} (granule : a % 64 = 0) (inside : ∀ e ∈ bytes, e.1 < 64) (poison : List Nat) :
    (granulePay a bytes poison a).bytes = bytes := by
  have all : bytes.filter (fun e => (a + e.1) / 64 == a / 64) = bytes :=
    List.filter_eq_self.2 fun e he => by have := inside e he; simp only [beq_iff_eq]; omega
  rw [granulePay, all]
  exact (List.map_congr_left fun e _ => by rw [Nat.add_sub_cancel_left]).trans (List.map_id' bytes)

theorem granulesOf_one {a n : Nat} (granule : a % 64 = 0) (inside : n < 64) : granulesOf a (n + 1) = [a] := by
  have count : (a + (n + 1) - 1) / 64 - a / 64 + 1 = 1 := by omega
  have first : a / 64 * 64 = a := by omega
  rw [granulesOf, if_neg (by omega), count]
  simpa using first

/-- A granule's bytes stored in pinned ways. -/
theorem homeStore_pinned {n a cls i b : Nat} {bytes : Mem} (poison : List Nat) (place : u.locate n a = .pinned i b) (granule : a % 64 = 0)
    (inside : ∀ e ∈ bytes, e.1 < 64) (some' : bytes ≠ []) :
    ∃ bad, u.homeStore n a cls bytes poison = u.sramWrite i (bytes.map fun e => (b + e.1, e.2)) bad := by
  have last : ((bytes.getLast?.map (·.1)).getD 0) < 64 := by
    rw [List.getLast?_eq_some_getLast some']
    exact inside _ (List.getLast_mem some')
  have first : a / 64 * 64 = a := by omega
  have settled : u.settleFor n a true = u := by rw [State.settleFor, place]
  have plain : u.compLine n a = none := by rw [State.compLine, place]
  rw [State.homeStore, granulesOf_one granule last, List.filter_cons_of_pos (by simp [granulePay_bytes granule inside, some'])]
  simp only [List.filter_nil, overList_cons, overList_nil, settled, List.filterMap_cons, plain, List.filterMap_nil, List.eraseDups_nil]
  simp only [State.putGranule, first, place]
  refine ⟨_, congrArg (fun l => u.sramWrite i l _) ?_⟩
  rw [PMem.shift, granulePay_bytes granule inside]

theorem pinnedWrite_homeStore {n a cls i b : Nat} {bytes : Mem} (poison : List Nat) (place : u.locate n a = .pinned i b)
    (granule : a % 64 = 0) (sorted : smSorted bytes = true) (inside : ∀ e ∈ bytes, e.1 < 64) (fits : b + 64 ≤ 0x600000) :
    PinnedWrite u (u.homeStore n a cls bytes poison) i b bytes := by
  cases bytes with
  | nil =>
    have nothing (g : Nat) : (granulePay a [] poison g).bytes.isEmpty = true := rfl
    have kept : u.homeStore n a cls [] poison = u := by
      rw [State.homeStore, List.filter_eq_nil_iff.2 fun g _ => by rw [nothing]; simp]
      rfl
    rw [kept]
    exact ⟨⟨_, rfl⟩, fun _ _ => rfl, fun e he => absurd he List.not_mem_nil, fun _ _ _ _ => rfl⟩
  | cons e l =>
    obtain ⟨bad, stored⟩ := homeStore_pinned (cls := cls) poison place granule inside (List.cons_ne_nil e l)
    rw [stored]
    exact pinnedWrite_sramWrite u i b _ bad sorted fun x hx => by have := inside x hx; omega

/-- What the entries that leave a core's store buffer change. -/
structure EntriesSent (s t : State) (g : Nat) : Prop where
  slices : t.slices = s.slices
  regs : t.regs = s.regs
  unacked : (t.core g).unacked = (s.core g).unacked
  others : ∀ h, h ≠ g → t.core h = s.core h
  frame : Frame s t [] [.cores, .net]

/-- The core with an entry marked as sent. -/
def Core.markSent (c : Core) (id : Nat) : Core := { c with store := c.store.map fun x => if x.id == id then { x with sent := true } else x }

theorem sendEntry_eq (s : State) (n g : Nat) (e : SbEntry) : ∃ q, s.sendEntry n g e = (s.modCore g fun c => c.markSent e.id).withPacket q :=
  ⟨{ id := e.id, kind := .write, region := n, src := .core g, dst := s.server n (tileOfCore g) e.addr false
     addr := e.addr, size := 64, bytes := e.bytes, poison := e.poison }, State.inject_request rfl⟩

theorem entriesSent_sendEntries (s : State) (n g id : Nat) : EntriesSent s (s.sendEntries n g id) g := by
  refine overList_keeps (fun u => EntriesSent s u g) _ s _ ⟨rfl, rfl, rfl, fun _ _ => rfl, .refl ..⟩ fun u e h => ?_
  obtain ⟨slices, regs, unacked, others, frame⟩ := h
  split
  · obtain ⟨q, sent⟩ := sendEntry_eq u n g e
    rw [sent]
    refine ⟨slices, regs, ?_, fun k hk => ?_, frame.trans ((frame_modCore u g _ (by simp)).trans (frame_withPacket _ q (by simp)))⟩
    · rw [State.withPacket_core, State.core_modCore_same]; exact unacked
    · rw [State.withPacket_core, State.core_modCore_ne _ _ hk, others k hk]
  · exact ⟨slices, regs, unacked, others, frame⟩

theorem acceptWrite_pinned {i g b : Nat} (place : u.locate p.region p.addr = .pinned i b) (first : u.behind p = false)
    (free : u.sliceFenced i = false) :
    u.acceptWrite p i g .none = .accepted (u.homeStore p.region p.addr cDYN p.bytes p.poison) := by
  have near : u.isProxy p.region i p.addr = false := by rw [State.isProxy, place]
  have whole : u.tagError p.region i false .none = u := rfl
  rw [State.acceptWrite]
  simp only [first, near, Bool.false_eq_true, if_false, memError_none, whole, ite_self, free, place]

theorem exec_dynWrite_pinned {g n i b : Nat} {x : SbEntry} (entry : s.entryOf id = some (g, x)) (owner : s.regionOfCore g = some n)
    (arrives : Arrives (s.sendEntries n g id) u id .write p) (src : p.src = .core g) (dst : p.dst = .slice i)
    (place : u.locate p.region p.addr = .pinned i b) (first : u.behind p = false) :
    exec (.dynWrite id .none) s = done ((u.homeStore p.region p.addr cDYN p.bytes p.poison).ackStore p i g) := by
  obtain ⟨packet, arrived, near⟩ := arrives
  have exe : exec (.dynWrite id .none) s = execDynWrite id .none s := rfl
  rw [exe, execDynWrite]
  simp only [entry, owner]
  rw [deliver_acts packet arrived near]
  simp only [src, dst, State.sliceWrite, acceptWrite_pinned place first (arrive_notFenced arrived dst), Option.getD_some]

/-- The core whose entry is accepted. -/
def Core.storeAccepted (c : Core) (id : Nat) : Core :=
  { c with store := c.store.filter fun x => x.id != id, unacked := c.unacked + 1 }

theorem ackStore_eq (s : State) (p : Packet) (i g : Nat) :
    s.ackStore p i g = (s.modCore g fun c => c.storeAccepted p.id).respond p (.slice i) .ack [] [] := rfl

theorem answers_dynWrite (id g n i b : Nat) (s u : State) (x : SbEntry) (p : Packet) (entry : s.entryOf id = some (g, x))
    (owner : s.regionOfCore g = some n) (arrives : Arrives (s.sendEntries n g id) u id .write p) (src : p.src = .core g)
    (dst : p.dst = .slice i) (place : u.locate p.region p.addr = .pinned i b) (first : u.behind p = false) (answerable : Answerable u p)
    (granule : p.addr % 64 = 0) (sorted : smSorted p.bytes = true) (inside : ∀ e ∈ p.bytes, e.1 < 64) (fits : b + 64 ≤ 0x600000) :
    Answers (.dynWrite id .none) s fun t =>
      (∀ e ∈ p.bytes, ∀ d, t.sramByte i d (b + e.1) = e.2) ∧
        (∀ a d, a < 0x600000 → (∀ e ∈ p.bytes, a ≠ b + e.1) → t.sramByte i d a = s.sramByte i d a) ∧
        (∀ j, j ≠ i → t.slice j = s.slice j) ∧ (∀ e ∈ (t.core g).store, e.id ≠ id) ∧
        (t.core g).unacked = (s.core g).unacked + 1 ∧ (∀ h, h ≠ g → t.core h = s.core h) ∧ (∃ q, Replied u t p q .ack) ∧
        Frame s t [] (.cores :: .slices :: planeParts) := by
  have exe := exec_dynWrite_pinned entry owner arrives src dst place first
  have stored := pinnedWrite_homeStore (cls := cDYN) p.poison place granule sorted inside fits
  have sent := entriesSent_sendEntries s n g id
  obtain ⟨packet, arrived, -⟩ := arrives
  obtain ⟨at', -⟩ := packet_spec packet
  rw [ackStore_eq] at exe
  generalize u.homeStore p.region p.addr cDYN p.bytes p.poison = w at exe stored
  obtain ⟨⟨l, eq⟩, others, named, rest⟩ := stored
  let v := w.modCore g fun c => c.storeAccepted p.id
  have still : Answerable v p := by subst eq; exact answerable
  have core (h : Nat) : w.core h = (s.sendEntries n g id).core h := by subst eq; exact arrive_core arrived h
  have slice (j : Nat) : u.slice j = s.slice j := by
    rw [arrive_slice arrived]
    exact congrArg (fun m => smGet m {} j) sent.slices
  have regs : u.regs = s.regs := by
    obtain ⟨pl, rfl⟩ := State.arrive_planes arrived
    exact sent.regs
  have frame : Frame u v [] (.cores :: .slices :: planeParts) := by
    subst eq
    exact ⟨fun _ _ _ _ => rfl, fun q hq => by
      cases q with
      | slices | cores => simp at hq
      | _ => rfl⟩
  have net : v.net = u.net := by subst eq; rfl
  have ids : v.nextId = u.nextId := by subst eq; rfl
  have before : Frame s u [] (.cores :: .slices :: planeParts) :=
    (sent.frame.mono (List.Subset.refl _) (by simp)).trans (frame_arrive arrived (by simp) (by simp) (by simp))
  have answer : Frame v (v.respond p (.slice i) .ack [] []) [] (.cores :: .slices :: planeParts) := frame_respond still _ _ _ _ (by simp)
  have after (d a : Nat) : (v.respond p (.slice i) .ack [] []).refreshPf.sramByte i d a = w.sramByte i d a :=
    (answer.pf.sramByte i d a (by rw [State.refreshPf_slice, respond_slice still])).trans
      (Frame.sramByte (frame_modCore w g _ (parts := [.cores]) (by simp)) i d a rfl)
  refine answers_of_done exe ⟨fun e he d => ?_, fun a d ha out => ?_, fun j hj => ?_, ?_, ?_, fun h hg => ?_,
    ⟨_, Replied.pf (replied_respond still net ids (.slice i) .ack [] [])⟩, ?_⟩
  · exact (after d _).trans (named e he d)
  · exact (after d a).trans ((rest a d ha out).trans (before.sramByte i d a (slice i)))
  · rw [State.refreshPf_slice, respond_slice still]
    exact (others j hj).trans (slice j)
  · rw [State.refreshPf_core, respond_core still, State.core_modCore_same]
    intro e he
    simpa [at'] using (List.mem_filter.1 he).2
  · rw [State.refreshPf_core, respond_core still, State.core_modCore_same]
    exact congrArg (· + 1) ((congrArg Core.unacked (core g)).trans sent.unacked)
  · rw [State.refreshPf_core, respond_core still, State.core_modCore_ne _ _ hg]
    exact (core h).trans (sent.others h hg)
  · exact (before.trans (frame.trans answer)).pf

/-- Settles O51: each request at its unit, by what it asks for. -/
theorem planeRequestsComplete : Obligations.PlaneRequestsComplete := by
  unfold Obligations.PlaneRequestsComplete
  exact ⟨answers_dynRead, answers_requestToPort, answers_dynWrite, answers_dynAtomic⟩

end Sys2Proof.Machine
end

section
/-! A FILL of no bytes into the link window hands no WRITE to the port and waits; the statement O13 has it finished as well, since a
range of no bytes lies in pinned SRAM, wherever it begins. -/

namespace Sys2Proof.Machine

/-- A FILL of no bytes, at the start of the link window. -/
def emptyFill : Desc :=
  { index := 0, words := [BitVec.ofNat 32 tyFILL, 0, 0, BitVec.ofNat 32 (spLink * 2 ^ 14), 0, 0, 0, 0, 2], phase := .running }

/-- The first VF runs that FILL. -/
def emptyFillState : State := { State.reset with vfs := [(0, { rings := [{ descs := [emptyFill] }] })] }

/-- The descriptor of that FILL. -/
def emptyFillRef : DescRef := { vf := 0, ring := 0, index := 0 }

theorem emptyFillState_begin : emptyFillState.begin emptyFillRef tyFILL = some (emptyFill, emptyFillState) := by decide +kernel

/-- The FILL is still running when its block has been handed to the port. -/
theorem emptyFillState_runs : ((after (.fill emptyFillRef) emptyFillState).desc? emptyFillRef).map Desc.phase = some .running := by
  decide +kernel

/-- A range of no bytes lies in pinned SRAM. -/
theorem pinned_empty (s : State) (n a : Nat) (f : Nat → Nat × Nat) : Pinned s n a 0 f :=
  ⟨fun _ h => absurd h List.not_mem_nil, fun _ h => absurd h List.not_mem_nil⟩

/-- Refutes O13: a FILL of no bytes into the link window stays in progress, awaiting its WRITEs, where the statement has it finished, as
it is for a block in pinned SRAM. -/
theorem not_copyAndFillBlocksComplete : ¬ Obligations.CopyAndFillBlocksComplete := by
  unfold Obligations.CopyAndFillBlocksComplete
  intro ⟨fills, _⟩
  obtain ⟨writes, -, -⟩ := fills emptyFillState emptyFillState emptyFillRef emptyFill emptyFillState_begin
  obtain ⟨-, -, pinned⟩ := (writes rfl (by decide +kernel)).after
  obtain ⟨⟨y, found, -, -, ended⟩, -⟩ := pinned (fun _ => (0, 0)) (by decide +kernel) (pinned_empty ..)
  rw [if_pos (by decide +kernel)] at ended
  have running := emptyFillState_runs
  rw [found] at running
  exact absurd (Option.some.inj running) (by simp [ended.1])

end Sys2Proof.Machine
end

section
/-! A cluster DMA transfer that completes (R375): what it moves leaves every core as it was, and its core counts it. -/

namespace Sys2Proof.Machine

variable {s t u : State}

/-! ### Accesses of memory leave the cores as they are -/

theorem when_cores {b : Bool} {f : State → State} (h : (f s).cores = s.cores) : (s.when b f).cores = s.cores := by
  cases b
  · rfl
  · exact h

@[simp] theorem countMod_cores (s : State) (f : Fld) (k : Nat) : (s.countMod f k).cores = s.cores := rfl
@[simp] theorem countSat_cores (s : State) (f : Fld) (k : Nat) : (s.countSat f k).cores = s.cores := rfl
@[simp] theorem setBit_cores (s : State) (f : Fld) (i : Nat) (b : Bool) : (s.setBit f i b).cores = s.cores := rfl
@[simp] theorem noteMeridian_cores (s : State) (i : Nat) : (s.noteMeridian i).cores = s.cores := rfl
@[simp] theorem chargeBeats_cores (s : State) (n ch cls beats : Nat) : (s.chargeBeats n ch cls beats).cores = s.cores := rfl
@[simp] theorem launchPoison_when_cores (s : State) (n : Nat) (b : Bool) : (s.when b fun u => u.launchPoison n).cores = s.cores :=
  when_cores rfl

@[simp] theorem ask_cores (s : State) (r : HReq) : (s.ask r).cores = s.cores :=
  sameParts_ask s r .cores (by simp)

@[simp] theorem queueWrite_cores (s : State) (n cls ch c : Nat) (l : CLine) : (s.queueWrite n cls ch c l).cores = s.cores := by
  unfold State.queueWrite
  split
  · rfl
  · exact ask_cores ..

@[simp] theorem writeBack_cores (s : State) (n i cls : Nat) (l : CLine) : (s.writeBack n i cls l).cores = s.cores := by
  unfold State.writeBack
  split
  · rfl
  · exact queueWrite_cores ..

theorem putLineN_cores (fuel : Nat) (s : State) (n i cls : Nat) (l : CLine) : (State.putLineN fuel s n i cls l).cores = s.cores := by
  induction fuel generalizing s i l with
  | zero => rfl
  | succ fuel ih =>
    rw [State.putLineN]
    dsimp only
    split
    · exact writeBack_cores ..
    · split
      · rfl
      · split
        · rfl
        · split
          · rfl
          · exact writeBack_cores ..
          · exact ih ..

@[simp] theorem putLine_cores (s : State) (n i cls : Nat) (l : CLine) : (s.putLine n i cls l).cores = s.cores := putLineN_cores ..

theorem removeLine_cores (s : State) (line : Nat) (l : List Nat) :
    (overList l s fun u c => (u.modSlice c fun sl => sl.remove line).noteMeridian c).cores = s.cores :=
  overList_same State.cores _ _ _ fun _ _ => rfl

@[simp] theorem settleLine_cores (s : State) (n h line : Nat) (b : Bool) : (s.settleLine n h line b).cores = s.cores := by
  unfold State.settleLine
  split
  · rfl
  · next e _ =>
    dsimp only
    rw [noteMeridian_cores, State.modSlice_cores]
    have taken : (match e.borrower with
      | Option.none => s
      | some b =>
        match (s.slice b).find line with
        | Option.none => s
        | some l =>
          let t := s.modSlice b fun sl => sl.remove line
          ((t.countSat (F.MSL_TRACKER_RECALLS h)).putLine n h cDYN (((t.slice h).home line).merge l)).noteMeridian b).cores = s.cores := by
      split
      · rfl
      · split
        · rfl
        · exact putLine_cores ..
    split
    · rw [removeLine_cores]; exact taken
    · exact taken

@[simp] theorem settleFor_cores (s : State) (n a : Nat) (b : Bool) : (s.settleFor n a b).cores = s.cores := by
  unfold State.settleFor
  split
  · exact settleLine_cores ..
  · rfl

@[simp] theorem dropStaged_cores (s : State) (i line : Nat) : (s.dropStaged i line).cores = s.cores := by
  unfold State.dropStaged
  split <;> rfl

theorem countGrant_cores (s : State) (n cls parts used : Nat) (b p : Bool) : (s.countGrant n cls parts used b p).cores = s.cores := by
  rw [State.countGrant]
  exact (when_cores (countSat_cores ..)).trans (when_cores (countSat_cores ..))

@[simp] theorem chargeFetch_cores (s : State) (n ch cls beats : Nat) : (s.chargeFetch n ch cls beats).cores = s.cores := by
  rw [State.chargeFetch, chargeBeats_cores, countGrant_cores]

@[simp] theorem fetchLine_cores (s : State) (n i line mask cls : Nat) : (s.fetchLine n i line mask cls).cores = s.cores := by
  unfold State.fetchLine
  dsimp only
  split
  · rfl
  · split
    · rw [State.modSlice_cores, chargeFetch_cores, countMod_cores]
    · rw [putLine_cores, chargeFetch_cores, countMod_cores]

theorem loadPiece_cores (s : State) (n a len cls : Nat) : (s.loadPiece n a len cls).2.2.cores = s.cores := by
  unfold State.loadPiece
  split
  · exact (dropStaged_cores ..).trans ((fetchLine_cores ..).trans (settleLine_cores ..))
  · rfl

/-- A walk that gathers bytes keeps the cores when each of its steps does. -/
theorem foldl_pieces_cores {α : Type} (piece : State → α → List Byte × List Nat × State) (base : α → Nat)
    (kept : ∀ u a, (piece u a).2.2.cores = u.cores) (l : List α) (acc : List Byte × List Nat × State) :
    (l.foldl (fun acc a => (acc.1 ++ (piece acc.2.2 a).1, acc.2.1 ++ (piece acc.2.2 a).2.1.map (base a + ·), (piece acc.2.2 a).2.2))
      acc).2.2.cores = acc.2.2.cores := by
  induction l generalizing acc with
  | nil => rfl
  | cons a l ih => exact (ih _).trans (kept _ _)

theorem loadRange_cores (s : State) (n a len cls : Nat) : (s.loadRange n a len cls).2.2.cores = s.cores :=
  foldl_pieces_cores (fun u p => u.loadPiece n p.1 p.2 cls) (fun p : Nat × Nat => p.1 / 8) (fun u p => loadPiece_cores u n p.1 p.2 cls)
    (linesOf a len) ([], [], s)

/-! ### Accesses through the proxy (R609 to R619) -/

@[simp] theorem track_cores (s : State) (n h line seed : Nat) (f : Tracker → Tracker) : (s.track n h line seed f).cores = s.cores := by
  unfold State.track
  dsimp only
  split
  · rfl
  · rw [noteMeridian_cores, State.modSlice_cores]
    split
    · exact settleLine_cores ..
    · rfl

@[simp] theorem proxyFetch_cores (s : State) (n p line : Nat) (b : Bool) : (s.proxyFetch n p line b).cores = s.cores := by
  unfold State.proxyFetch
  split
  · rfl
  · split
    · simp only [State.giveBorrow, putLine_cores, track_cores, fetchLine_cores, settleLine_cores]
    · simp only [State.giveCopy, putLine_cores, track_cores, fetchLine_cores, settleLine_cores]

theorem dmaLoadPiece_cores (s : State) (n tile a len : Nat) : (s.dmaLoadPiece n tile a len).2.2.cores = s.cores := by
  unfold State.dmaLoadPiece
  split
  · exact loadPiece_cores ..
  · next p _ => exact proxyFetch_cores s n p (offsetOf a / 128) false

theorem dmaLoadRange_cores (s : State) (n tile a len : Nat) : (s.dmaLoadRange n tile a len).2.2.cores = s.cores :=
  foldl_pieces_cores (fun u p => u.dmaLoadPiece n tile p.1 p.2) (fun p : Nat × Nat => p.1 / 8) (fun u p => dmaLoadPiece_cores u n tile p.1 p.2)
    (linesOf a len) ([], [], s)

/-! ### Stores -/

@[simp] theorem integRaise_cores (s : State) (e : IntegError) (f : Fld) : (s.integRaise e f).cores = s.cores :=
  integRaise_part s e f .cores

@[simp] theorem recompress_cores (s : State) (n i w line : Nat) : (s.recompress n i w line).cores = s.cores := by
  unfold State.recompress
  dsimp only
  split
  · rfl
  · rw [integRaise_cores, countSat_cores, setBit_cores, State.setFld_cores, State.modSlice_cores]

@[simp] theorem exactWrite_cores (s : State) (n i w byte v : Nat) (b c : Bool) : (s.exactWrite n i w byte v b c).cores = s.cores := by
  unfold State.exactWrite
  dsimp only
  split
  · rfl
  · split
    · rfl
    · split <;> rfl

@[simp] theorem putGranule_cores (s : State) (n a cls : Nat) (pay : Payload) : (s.putGranule n a cls pay).cores = s.cores := by
  unfold State.putGranule
  dsimp only
  split
  · rfl
  · rfl
  · refine overList_same State.cores _ _ _ fun u k => ?_
    split
    · rfl
    · exact exactWrite_cores ..
  · rfl
  · rw [dropStaged_cores, putLine_cores]

@[simp] theorem homeStore_cores (s : State) (n a cls : Nat) (bytes : Mem) (poison : List Nat) :
    (s.homeStore n a cls bytes poison).cores = s.cores := by
  unfold State.homeStore
  dsimp only
  refine (overList_same State.cores _ _ _ fun u l => recompress_cores ..).trans ?_
  exact overList_same State.cores _ _ _ fun u g => (putGranule_cores ..).trans (settleFor_cores ..)

@[simp] theorem storeRange_cores (s : State) (n a cls : Nat) (bytes : List Byte) (bad : List Nat) :
    (s.storeRange n a cls bytes bad).cores = s.cores := by
  unfold State.storeRange
  split
  · rfl
  · exact homeStore_cores ..

@[simp] theorem dmaStoreRange_cores (s : State) (n tile g a : Nat) (bytes : List Byte) (bad : List Nat) :
    (s.dmaStoreRange n tile g a bytes bad).cores = s.cores := by
  refine overList_same State.cores _ _ _ fun u p => ?_
  unfold State.dmaStorePiece
  split
  · exact storeRange_cores ..
  · exact (State.modSlice_cores ..).trans (proxyFetch_cores ..)

/-! ### Element atomics (R668) -/

@[simp] theorem exactAdd_cores (s : State) (n i w byte v : Nat) (b : Bool) : (s.exactAdd n i w byte v b).cores = s.cores := by
  unfold State.exactAdd
  dsimp only
  split
  · rfl
  · split
    · rfl
    · split <;> split <;> rfl

@[simp] theorem writeGranule_cores (s : State) (n a cls : Nat) (pay : Payload) : (s.writeGranule n a cls pay).cores = s.cores := by
  rw [State.writeGranule, State.recompressAt]
  split
  · rw [recompress_cores, putGranule_cores]
  · exact putGranule_cores ..

/-- An element atomic has been counted at its home slice, and the line it changes is there. -/
def State.elementReady (s : State) (n a fmt cls : Nat) : State :=
  let s := match (s.locate n a).home with
    | some i => s.countMod (F.MSL_ATOM_COUNT_ATOMS i)
    | Option.none => s
  match s.locate n a with
  | .ext i line => (s.settleLine n i line true).fetchLine n i line (touched a (fmtBits fmt / 8)) cls
  | _ => s

theorem elementReady_cores (s : State) (n a fmt cls : Nat) : (s.elementReady n a fmt cls).cores = s.cores := by
  unfold State.elementReady
  dsimp only
  split
  · rw [fetchLine_cores, settleLine_cores]
    split <;> rfl
  · split <;> rfl

@[simp] theorem elementAtomic_cores (s : State) (n a aop fmt x cls : Nat) (bad : Bool) :
    (s.elementAtomic n a aop fmt x cls bad).cores = s.cores := by
  rw [← elementReady_cores s n a fmt cls]
  rw [State.elementAtomic]
  dsimp only
  split
  · split
    · exact exactAdd_cores ..
    · rfl
  · exact writeGranule_cores ..

/-! ### The transfer (R375, R432) -/

@[simp] theorem transferRows_cores (s : State) (n : Nat) (x : Transfer) : (s.transferRows n x).2.cores = s.cores := by
  unfold State.transferRows
  split
  · split
    · rfl
    · exact (launchPoison_when_cores ..).trans (loadRange_cores ..)
  · rfl

theorem remoteRead_cores (s : State) (n : Nat) (x : Transfer) (a len : Nat) : (s.remoteRead n x a len).2.2.cores = s.cores := by
  unfold State.remoteRead
  dsimp only
  split
  · rfl
  · split
    · rfl
    · split
      · exact dmaLoadRange_cores ..
      · exact loadRange_cores ..

@[simp] theorem intoCluster_cores (s : State) (c off : Nat) (bytes : List Byte) (bad : List Nat) :
    (s.intoCluster c off bytes bad).cores = s.cores := rfl

@[simp] theorem runTransfer_cores (s : State) (n : Nat) (x : Transfer) (rows : List (Option Nat)) :
    (s.runTransfer n x rows).cores = s.cores := by
  have read (u : State) (a len c off : Nat) (bytes : List Byte) (words : List Nat) (b : Bool) :
      (((u.remoteRead n x a len).2.2.when b fun w => w.launchPoison n).intoCluster c off bytes words).cores = u.cores := by
    rw [intoCluster_cores, launchPoison_when_cores, remoteRead_cores]
  have stored (l : List (Nat × List Byte × List Nat)) (link : Prop) [Decidable link] : (overList l s fun u w =>
      if link then u.when (!w.2.2.isEmpty) fun x => x.launchPoison n
      else (u.when (!w.2.2.isEmpty) fun x => x.launchPoison n).dmaStoreRange n (tileOfCluster (x.core / 8)) x.core w.1 w.2.1 w.2.2).cores =
        s.cores := overList_same State.cores _ _ _ fun u w => by
    split
    · exact launchPoison_when_cores ..
    · rw [dmaStoreRange_cores, launchPoison_when_cores]
  unfold State.runTransfer
  dsimp only
  split
  · exact overList_same State.cores _ _ _ fun u p => read ..
  · exact stored _ _
  · exact stored _ _
  · refine overList_same State.cores _ _ _ fun u e => ?_
    split
    · rfl
    · exact read ..
  · refine overList_same State.cores _ _ _ fun u a => ?_
    split
    · exact launchPoison_when_cores ..
    · split
      · exact launchPoison_when_cores ..
      · rw [elementAtomic_cores, launchPoison_when_cores]

@[simp] theorem countGather_cores (s : State) (x : Transfer) : (s.countGather x).cores = s.cores := by
  unfold State.countGather
  dsimp only
  split
  · rfl
  · split <;> rfl

/-- The state after a transfer has run to its end. -/
def State.transferred (s : State) (n : Nat) (x : Transfer) : State :=
  ((s.transferRows n x).2.endTransfer n x (s.transferRows n x).1).countGather x

theorem transferred_cores (s : State) (n : Nat) (x : Transfer) : (s.transferred n x).cores = s.cores := by
  rw [State.transferred, countGather_cores, State.endTransfer, State.modCluster_cores, runTransfer_cores, transferRows_cores]

/-- The transfer leaves its queue, and its core counts it. -/
def State.transferCounted (s : State) (c : Nat) (x : Transfer) : State :=
  (s.modCluster c fun k => { k with dma := k.dma.filter fun y => y.id != x.id }).modCore x.core fun k => { k with dmaDone := k.dmaDone + 1 }

theorem exec_dmaTransferComplete {c : Fin 128} {k : Fin 16} {x : Transfer} {n : Nat} (runs : k.val < 4)
    (queued : (s.cluster c).dma[k.val]? = some x) (owner : s.ownerOf (tileOfCluster c) = some n)
    (clock : s.clockStopped (tileOfCluster c) = false) (may : s.mayInject n (tileOfCluster c) = true)
    (free : s.transferHeld n x (s.transferRows n x).1 = false) (space : spaceOf x.remote ≠ spLink) (answered : x.unanswered = 0) :
    exec (.dmaTransferComplete c k) s = done ((s.transferred n x).transferCounted c x) := by
  have exe : exec (.dmaTransferComplete c k) s = execDmaTransferComplete c k s := rfl
  have waits : x.waitsForLink = false := by simp [Transfer.waitsForLink, answered]
  rw [exe, execDmaTransferComplete]
  simp only [runs, if_true, queued, owner, clock, may, free, space, waits, Bool.not_true, Bool.or_self, Bool.false_eq_true, if_false,
    decide_false, Bool.false_and]
  rfl

theorem answers_dmaTransferComplete (c : Fin 128) (k : Fin 16) (s : State) (x : Transfer) (n : Nat) (runs : k.val < 4)
    (queued : (s.cluster c).dma[k.val]? = some x) (owner : s.ownerOf (tileOfCluster c) = some n)
    (clock : s.clockStopped (tileOfCluster c) = false) (may : s.mayInject n (tileOfCluster c) = true)
    (free : s.transferHeld n x (s.transferRows n x).1 = false) (space : spaceOf x.remote ≠ spLink) (answered : x.unanswered = 0) :
    Answers (.dmaTransferComplete c k) s fun t =>
      (∀ y ∈ (t.cluster c).dma, y.id ≠ x.id) ∧ (t.core x.core).dmaDone = (s.core x.core).dmaDone + 1 ∧
        ∀ h, h ≠ x.core → t.core h = s.core h := by
  have exe := exec_dmaTransferComplete runs queued owner clock may free space answered
  have core (h : Nat) : (s.transferred n x).core h = s.core h := core_of_cores (transferred_cores s n x) h
  generalize s.transferred n x = u at exe core
  refine answers_of_done exe ⟨fun y hy => ?_, ?_, fun h hg => ?_⟩
  · rw [State.refreshPf_cluster, State.transferCounted, State.cluster_modCore, State.cluster_modCluster_same] at hy
    simpa using (List.mem_filter.1 hy).2
  · rw [State.refreshPf_core, State.transferCounted, State.core_modCore_same]
    exact congrArg (·.dmaDone + 1) (core x.core)
  · rw [State.refreshPf_core, State.transferCounted, State.core_modCore_ne _ _ hg]
    exact core h

/-- Settles O43: no access of a transfer touches a core; its queue then loses it and its core counts it. -/
theorem transfersComplete : Obligations.TransfersComplete := by
  unfold Obligations.TransfersComplete
  exact answers_dmaTransferComplete

end Sys2Proof.Machine
end

section
/-! FRAME_START (R478, R479): the next frame's number, the scheduled plane's slots, and the cores that wait for the frame no longer. -/

namespace Sys2Proof.Machine

variable {s t u : State} {n : Nat}

/-! ### The slots of a frame -/

/-- How far the launch of a region has come. -/
def Region.course (r : Region) : Option (Bool × Nat) := r.launch.map fun l => (l.inFrame, l.framesDone)

/-- What the scheduled plane changes while it runs for region n. -/
structure PlaneRun (s t : State) (n : Nat) : Prop where
  frame : Frame s t [] [.regions, .clusters, .slices]
  out : t.out = s.out
  course : (t.rgn n).course = (s.rgn n).course

theorem PlaneRun.refl (s : State) (n : Nat) : PlaneRun s s n := ⟨.refl .., rfl, rfl⟩

theorem PlaneRun.trans (h : PlaneRun s t n) (k : PlaneRun t u n) : PlaneRun s u n :=
  ⟨h.frame.trans k.frame, k.out.trans h.out, k.course.trans h.course⟩

theorem planeRun_draws (s : State) (n d : Nat) : PlaneRun s { s with draws := d } n := ⟨frame_draws s d [] _, rfl, rfl⟩

theorem course_launchPoison (s : State) (n : Nat) : ((s.launchPoison n).rgn n).course = (s.rgn n).course := by
  rw [State.launchPoison, State.rgn_modRgn_same]
  simp only [Region.course, Option.map_map]
  rfl

theorem planeRun_launchPoison (s : State) (n : Nat) (b : Bool) : PlaneRun s (s.when b fun v => v.launchPoison n) n := by
  refine ⟨frame_launchPoison_when s n b (by simp), launchPoison_when_out .., ?_⟩
  cases b
  · rfl
  · exact course_launchPoison s n

theorem planeRun_planeWrite (s : State) (n tile a : Nat) (f : PlaneFlit) : PlaneRun s (s.planeWrite n tile a f) n := by
  unfold State.planeWrite
  dsimp only
  refine (planeRun_launchPoison s n (!f.2.isEmpty)).trans ?_
  split
  · exact ⟨frame_modSlice _ _ _ (by simp), rfl, rfl⟩
  · exact ⟨frame_modCluster _ _ _ (by simp), rfl, rfl⟩

/-- What a router injects in a slot, and the state after it has read it. -/
def State.injected (s : State) (tile slot : Nat) (e : SlotEntry) : PlaneFlit × State :=
  let step := if e.injMode = 0 then 64 else 32
  if e.uses 5 then
    let r := s.planeRead tile (32 * e.injAddr + step * (slot - e.start)) step
    (widenFlit e.injMode r.1, r.2)
  else (([], []), s)

theorem planeRun_injected (s : State) (n tile slot : Nat) (e : SlotEntry) : PlaneRun s (s.injected tile slot e).2 n := by
  unfold State.injected
  dsimp only
  split
  · exact planeRun_draws s n _
  · exact .refl s n

theorem planeRun_routerSlot (s : State) (n tile slot : Nat) (e : SlotEntry) (m : PlaneLinks) :
    PlaneRun s (s.routerSlot n tile slot e m).2 n := by
  unfold State.routerSlot
  dsimp only
  split
  · exact planeRun_injected s n tile slot e
  · exact (planeRun_injected s n tile slot e).trans (planeRun_planeWrite ..)

/-- A walk over links and state keeps to what each of its steps does. -/
theorem planeRun_foldl {α : Type} (l : List α) (f : PlaneLinks × State → α → PlaneLinks × State)
    (step : ∀ acc a, PlaneRun acc.2 (f acc a).2 n) (acc : PlaneLinks × State) : PlaneRun acc.2 (l.foldl f acc).2 n := by
  induction l generalizing acc with
  | nil => exact .refl ..
  | cons a l ih => exact (step acc a).trans (ih _)

theorem planeRun_planeSlot (s : State) (n slot : Nat) (set : List TileTable) (m : PlaneLinks) :
    PlaneRun s (s.planeSlot n slot set m).2 n := by
  refine planeRun_foldl set _ (fun acc r => ?_) (m, s)
  split
  · exact .refl ..
  · exact planeRun_routerSlot ..

theorem planeRun_planeFrame (s : State) (n slots : Nat) (set : List TileTable) : PlaneRun s (s.planeFrame n slots set) n :=
  planeRun_foldl (List.range slots) _ (fun acc k => planeRun_planeSlot acc.2 n k set acc.1) ([], s)

/-! ### The cores that waited -/

/-- The cores that waited, waiting no longer: nothing else has changed. -/
structure Woken (s t : State) : Prop where
  frame : Frame s t [] [.cores]
  out : t.out = s.out
  regions : t.regions = s.regions
  others : ∀ g, s.inWaitf g = false → t.core g = s.core g

theorem inWaitf_congr {g : Nat} (h : t.core g = s.core g) : t.inWaitf g = s.inWaitf g := by simp only [State.inWaitf, h]

theorem woken_wakeWaitf (s : State) (n f : Nat) : Woken s (s.wakeWaitf n f) := by
  refine overList_keeps (Woken s) _ s _ ⟨.refl .., rfl, rfl, fun _ _ => rfl⟩ fun u g h => ?_
  obtain ⟨frame, out, regions, others⟩ := h
  dsimp only
  split
  · next waits =>
    refine ⟨frame.trans (frame_modCore u g _ (by simp)), out, regions, fun k idle => ?_⟩
    have apart : k ≠ g := by
      rintro rfl
      rw [inWaitf_congr (others k idle), idle] at waits
      exact absurd waits (by simp)
    rw [State.core_modCore_ne _ _ apart]
    exact others k idle
  · exact ⟨frame, out, regions, others⟩

/-! ### The frame begins -/

/-- The frame's number is in its register, and the launch is in the frame. -/
def State.frameBegun (s : State) (n : Nat) : State :=
  (s.setWord (R.SCH_FRAME n) (s.nextFrame n)).modRgn n fun r => { r with launch := r.launch.map fun x => { x with inFrame := true } }

theorem exec_frameStart {n : Fin 32} {l : Launch} {im : Image} (launch : (s.rgn n).launch = some l) (image : (s.rgn n).image = some im)
    (run : s.rgnState n = rRUNNING) (sent : l.sent = true) (between : l.inFrame = false) (more : s.nextFrame n < l.frames)
    (gate : s.gateHolds n = true) (going : s.allEnded n = false) (ended : s.waitOver l = true) (clocks : s.clocksOut n = false) :
    exec (.frameStart n) s = done (((s.frameBegun n).planeFrame n im.frameSlots
      (im.sets.getD ((s.frameBegun n).fld (F.SCH_IMG_STATE_SET_IN_FORCE n)) [])).wakeWaitf n (s.nextFrame n)) := by
  have exe : exec (.frameStart n) s = execFrameStart n s := rfl
  have room : decide (l.frames ≤ s.nextFrame n) = false := decide_eq_false (by omega)
  rw [exe, execFrameStart]
  simp only [launch, image, run, sent, between, room, gate, going, ended, clocks, bne_self_eq_false, Bool.not_true, Bool.or_self,
    Bool.false_eq_true, if_false]
  rfl

theorem frameBegun_number (s : State) (n : Nat) :
    (s.frameBegun n).fld (F.SCH_FRAME_FRAME n) = (s.fld (F.SCH_FRAME_FRAME n) + 1) % 2 ^ 32 := by
  have written : (s.frameBegun n).word (R.SCH_FRAME n) 0xffffffff = s.nextFrame n % 2 ^ 32 := by
    show (s.setWord _ _).word _ _ = _
    rw [State.word_setWord, if_pos rfl]
  show bitsOf ((s.frameBegun n).word (R.SCH_FRAME n) 0xffffffff) 0 32 = _
  rw [written, State.nextFrame]
  simp [bitsOf]

theorem frameBegun_course (s : State) (n : Nat) (l : Launch) (launch : (s.rgn n).launch = some l) :
    ((s.frameBegun n).rgn n).course = some (true, l.framesDone) := by
  rw [State.frameBegun, State.rgn_modRgn_same, Region.course]
  have same : ((s.setWord (R.SCH_FRAME n) (s.nextFrame n)).rgn n).launch = some l := launch
  rw [same]
  rfl

theorem frame_frameBegun (s : State) (n : Nat) : Frame s (s.frameBegun n) [R.SCH_FRAME n] [.regions] :=
  (frame_setWord s _ _ _ (List.mem_singleton.2 rfl)).trans (frame_modRgn _ n _ (by simp))

theorem answers_frameStart (n : Fin 32) (s : State) (l : Launch) (im : Image) (launch : (s.rgn n).launch = some l)
    (image : (s.rgn n).image = some im) (run : s.rgnState n = rRUNNING) (sent : l.sent = true) (between : l.inFrame = false)
    (more : s.nextFrame n < l.frames) (gate : s.gateHolds n = true) (going : s.allEnded n = false) (ended : s.waitOver l = true)
    (clocks : s.clocksOut n = false) : Answers (.frameStart n) s fun t =>
      t.fld (F.SCH_FRAME_FRAME n) = (s.fld (F.SCH_FRAME_FRAME n) + 1) % 2 ^ 32 ∧
        (∃ l2, (t.rgn n).launch = some l2 ∧ l2.inFrame = true ∧ l2.framesDone = l.framesDone) ∧
        (∀ g, s.inWaitf g = false → t.core g = s.core g) ∧
        Frame s t [R.SCH_FRAME n] [.regions, .cores, .clusters, .slices] ∧ Sent s t [] := by
  have exe := exec_frameStart launch image run sent between more gate going ended clocks
  let b := s.frameBegun n
  have plane := planeRun_planeFrame b n im.frameSlots (im.sets.getD (b.fld (F.SCH_IMG_STATE_SET_IN_FORCE n)) [])
  have begun := frame_frameBegun s n
  have course : (b.rgn n).course = some (true, l.framesDone) := frameBegun_course s n l launch
  have apart : R.SCH_FRAME n ≠ R.INT_PF_STATUS := by simp only [R.SCH_FRAME, R.INT_PF_STATUS]; omega
  have woken := woken_wakeWaitf (b.planeFrame n im.frameSlots (im.sets.getD (b.fld (F.SCH_IMG_STATE_SET_IN_FORCE n)) [])) n (s.nextFrame n)
  generalize b.planeFrame n im.frameSlots (im.sets.getD (b.fld (F.SCH_IMG_STATE_SET_IN_FORCE n)) []) = v at plane woken exe
  generalize v.wakeWaitf n (s.nextFrame n) = w at woken exe
  have cores (g : Nat) : v.core g = s.core g := core_of_cores ((plane.frame.2 .cores (by simp)).trans (begun.2 .cores (by simp))) g
  have later : Frame b w [] [.regions, .cores, .clusters, .slices] :=
    (plane.frame.mono (by simp) (by simp)).trans (woken.frame.mono (by simp) (by simp))
  refine answers_of_done exe ⟨?_, ?_, fun g idle => ?_, ?_, Sent.pf (sent_of_out (woken.out.trans plane.out))⟩
  · rw [later.pf.fld_eq (F.SCH_FRAME_FRAME n) apart List.not_mem_nil]
    exact frameBegun_number s n
  · have there : (w.refreshPf.rgn n).course = some (true, l.framesDone) := by
      rw [State.refreshPf_rgn, rgn_congr woken.regions, plane.course, course]
    obtain ⟨l2, launch2, eq⟩ := Option.map_eq_some_iff.1 there
    simp only [Prod.mk.injEq] at eq
    exact ⟨l2, launch2, eq⟩
  · rw [State.refreshPf_core, woken.others g (by rw [inWaitf_congr (cores g), idle])]
    exact cores g
  · exact ((begun.mono (List.Subset.refl _) (by simp)).trans (later.mono (by simp) (List.Subset.refl _))).pf

end Sys2Proof.Machine
end

section
/-! FRAME_END (R131, R481, R518): the frame is done, the duty wait begins, and the table set in force still fits. -/

namespace Sys2Proof.Machine

variable {s t u : State} {n : Nat}

/-! ### The table set in force -/

/-- Whether a table set fits depends on the region's rectangle and isolated tiles and on the fences, not on the counts of its frames. -/
theorem setFits_congr {parts : List Part} (hn : n < 32) (h : Frame s t [R.SCH_COUNTS n] parts)
    (isolated : (t.rgn n).isolated = (s.rgn n).isolated) (im : Image) (k : Nat) : t.setFits n im k = s.setFits n im k := by
  have rect (f : Fld) (at' : f.off = R.RGN_RECT n) : t.fld f = s.fld f :=
    h.fld_eq f (by simp only [at', R.RGN_RECT, R.INT_PF_STATUS]; omega)
      (by simp only [at', R.RGN_RECT, R.SCH_COUNTS, List.mem_singleton]; omega)
  have tile (x : Nat) : t.tileFenced x = s.tileFenced x := by
    have same := h.fld_eq (F.FLT_TILE_FENCED_FENCED (x / 32))
      (by simp only [F.FLT_TILE_FENCED_FENCED, R.FLT_TILE_FENCED, R.INT_PF_STATUS]; omega)
      (by simp only [F.FLT_TILE_FENCED_FENCED, R.FLT_TILE_FENCED, R.SCH_COUNTS, List.mem_singleton]; omega)
    simp only [State.tileFenced, State.bitAt, same]
  have core (x : Nat) : t.coreFenced x = s.coreFenced x := by
    have same := h.fld_eq (F.FLT_CORE_FENCED_FENCED (x / 32))
      (by simp only [F.FLT_CORE_FENCED_FENCED, R.FLT_CORE_FENCED, R.INT_PF_STATUS]; omega)
      (by simp only [F.FLT_CORE_FENCED_FENCED, R.FLT_CORE_FENCED, R.SCH_COUNTS, List.mem_singleton]; omega)
    simp only [State.coreFenced, State.bitAt, same]
  simp only [State.setFits, State.recordTile, State.recordCore, State.outOfPlane, rect (F.RGN_RECT_EXTENT n) rfl,
    rect (F.RGN_RECT_X0 n) rfl, tile, core, isolated]

/-- With no fence that waits, nothing is fenced. -/
theorem applyFences_none (none : (s.rgn n).pendingFences = []) : s.applyFences n = s.modRgn n fun r => { r with pendingFences := [] } := by
  unfold State.applyFences
  rw [none]; rfl

/-- A set in force that fits stays. -/
theorem checkSet_fits (tile : Nat)
    (fits : ∀ im, (s.rgn n).image = some im → s.setFits n im (s.fld (F.SCH_IMG_STATE_SET_IN_FORCE n)) = true) : s.checkSet n tile = s := by
  unfold State.checkSet
  split
  · next im l image _ =>
    rw [fits im image, Bool.or_true, if_pos rfl]
  · rfl

/-! ### The end of a frame -/

theorem frame_noteGate (s : State) (n : Nat) (l : Launch) : Frame s (s.noteGate n l) [R.SCH_COUNTS n] [] := by
  have counted (v : State) : Frame v (v.countSat (F.SCH_COUNTS_GATE_WAITS n)) [R.SCH_COUNTS n] [] :=
    frame_setFld v (F.SCH_COUNTS_GATE_WAITS n) _ _ (List.mem_singleton.2 rfl)
  unfold State.noteGate
  split
  · exact .refl ..
  · split
    · exact counted s
    · exact (frame_draws s _ _ _).when (counted _)

theorem noteGate_out (s : State) (n : Nat) (l : Launch) : (s.noteGate n l).out = s.out := by
  unfold State.noteGate
  split
  · rfl
  · split
    · rfl
    · dsimp only
      cases (State.draw s).1.getLsbD 0 <;> rfl

/-- The launch after a frame that ended at `time`, with a wait of so many slots. -/
def Region.frameOver (r : Region) (time pause : Nat) : Region :=
  { r with launch := r.launch.map fun (x : Launch) =>
      { x with inFrame := false, framesDone := x.framesDone + 1, frameEnd := time, pause := pause } }

/-- The duty wait of the region's image. -/
def State.framePause (s : State) (n : Nat) : Nat :=
  dutyWait (((s.rgn n).image.map Image.frameSlots).getD 0) (s.fld (F.PWR_RGN_CAP_DUTY n))

/-- The region after the frame. -/
def State.frameOver (s : State) (n : Nat) : State := s.modRgn n fun r => r.frameOver s.time (s.framePause n)

theorem exec_frameEnd {n : Fin 32} {l : Launch} (launch : (s.rgn n).launch = some l) (inside : l.inFrame = true)
    (clocks : s.clocksOut n = false) :
    exec (.frameEnd n) s = done ((((s.frameOver n).noteGate n l).act n 0 1).applyPending n) := by
  have exe : exec (.frameEnd n) s = execFrameEnd n s := rfl
  rw [exe, execFrameEnd]
  simp only [launch, inside, clocks, Bool.not_true, Bool.or_self, Bool.false_eq_true, if_false]
  rfl

theorem act_rgn (s : State) (n k c : Nat) : ∃ a, (s.act n k c).rgn n = { s.rgn n with activity := a } := ⟨_, State.rgn_modRgn_same ..⟩

theorem answers_frameEnd (n : Fin 32) (s : State) (l : Launch) (launch : (s.rgn n).launch = some l) (inside : l.inFrame = true)
    (clocks : s.clocksOut n = false) (none : (s.rgn n).pendingFences = [])
    (fits : ∀ im, (s.rgn n).image = some im → s.setFits n im (s.fld (F.SCH_IMG_STATE_SET_IN_FORCE n)) = true) :
    Answers (.frameEnd n) s fun t =>
      (∃ l2, (t.rgn n).launch = some l2 ∧ l2.inFrame = false ∧ l2.framesDone = l.framesDone + 1 ∧ l2.frameEnd = s.time ∧
        ∀ im, (s.rgn n).image = some im → l2.pause = dutyWait im.frameSlots (s.fld (F.PWR_RGN_CAP_DUTY n))) ∧
        Frame s t [R.SCH_COUNTS n] [.regions] ∧ Sent s t [] := by
  let v := ((s.frameOver n).noteGate n l).act n 0 1
  have exe : exec (.frameEnd n) s = done (v.applyPending n) := exec_frameEnd launch inside clocks
  have gated := frame_noteGate (s.frameOver n) n l
  have frame : Frame s v [R.SCH_COUNTS n] [.regions] :=
    ((frame_modRgn s n _ (by simp)).trans (gated.mono (List.Subset.refl _) (by simp))).trans (frame_modRgn _ n _ (by simp))
  have out : v.out = s.out := noteGate_out ..
  have region : ∃ a, v.rgn n = { (s.rgn n).frameOver s.time (s.framePause n) with activity := a } := by
    obtain ⟨a, acted⟩ := act_rgn ((s.frameOver n).noteGate n l) n 0 1
    refine ⟨a, acted.trans ?_⟩
    rw [rgn_congr (gated.2 .regions (by simp)), State.frameOver, State.rgn_modRgn_same]
  obtain ⟨a, region⟩ := region
  clear_value v
  have waits : (v.rgn n).pendingFences = [] := by rw [region]; exact none
  have still : (v.applyFences n).rgn n = v.rgn n := by rw [applyFences_none waits, State.rgn_modRgn_same, ← waits]
  have fenced : Frame v (v.applyFences n) [] [.regions] := by
    rw [applyFences_none waits]
    exact frame_modRgn v n _ (by simp)
  have whole : Frame s (v.applyFences n) [R.SCH_COUNTS n] [.regions] := frame.trans (fenced.mono (by simp) (List.Subset.refl _))
  have force : (v.applyFences n).fld (F.SCH_IMG_STATE_SET_IN_FORCE n) = s.fld (F.SCH_IMG_STATE_SET_IN_FORCE n) :=
    whole.fld_eq _ (by simp only [F.SCH_IMG_STATE_SET_IN_FORCE, R.SCH_IMG_STATE, R.INT_PF_STATUS]; omega)
      (by simp only [F.SCH_IMG_STATE_SET_IN_FORCE, R.SCH_IMG_STATE, R.SCH_COUNTS, List.mem_singleton]; omega)
  have kept (tile : Nat) : (v.applyFences n).checkSet n tile = v.applyFences n := checkSet_fits tile fun im image => by
    rw [still, region] at image
    rw [force, setFits_congr n.2 whole (by rw [still, region]; rfl)]
    exact fits im image
  rw [State.applyPending, kept] at exe
  have outs : (v.applyFences n).out = s.out := by rw [applyFences_none waits]; exact out
  refine answers_of_done exe ⟨?_, whole.pf, Sent.pf (sent_of_out outs)⟩
  rw [State.refreshPf_rgn, still, region, Region.frameOver]
  simp only [launch, Option.map_some, Option.some.injEq, exists_eq_left', true_and]
  intro im image
  rw [State.framePause, image]
  rfl

end Sys2Proof.Machine
end

section
/-! What a launch waits for (R59, R155): islands that are powered, an image that is read again, and then the launch at the cores. -/

namespace Sys2Proof.Machine

variable {s t u : State} {n : Nat}

/-! ### A launch on its way to the cores -/

/-- What a launch's start may change. -/
abbrev launchParts : List Part := [.regions, .vfs, .cores, .clusters, .slices, .ports]

/-- A launch of region n goes on: registers of the lower pages stay, but for the region's state, and no image asks for a rebuild that did
not before. -/
structure LaunchStep (s t : State) (n : Nat) : Prop where
  stays : ∀ off, low off → off ≠ R.RGN_STATE n → Stays off launchParts s t
  rebuild : ∀ m, (t.rgn m).needRebuild = (s.rgn m).needRebuild

theorem LaunchStep.refl (s : State) (n : Nat) : LaunchStep s s n := ⟨fun off _ _ => .refl off _ s, fun _ => rfl⟩

theorem LaunchStep.trans (h : LaunchStep s t n) (k : LaunchStep t u n) : LaunchStep s u n :=
  ⟨fun off hl ne => (h.stays off hl ne).trans (k.stays off hl ne), fun m => (k.rebuild m).trans (h.rebuild m)⟩

theorem LaunchStep.walk {α : Type} (h : LaunchStep s t n) (l : List α) (f : State → α → State) (step : ∀ u a, LaunchStep u (f u a) n) :
    LaunchStep s (overList l t f) n :=
  overList_keeps (fun u => LaunchStep s u n) l t f h fun u a k => k.trans (step u a)

/-- A step that writes no lower register but the state of region n. -/
theorem launchStep_of_frame {regs : List Nat} (h : Frame s t regs launchParts) (high : ∀ off ∈ regs, ¬ low off ∨ off = R.RGN_STATE n)
    (rebuild : ∀ m, (t.rgn m).needRebuild = (s.rgn m).needRebuild) : LaunchStep s t n :=
  ⟨fun off hl ne => ⟨h.sameWord (by simp only [low] at hl; simp only [R.INT_PF_STATUS]; omega) fun mem =>
    (high off mem).elim (fun no => no hl) ne, h.2⟩, rebuild⟩

/-! ### Credits of IN link channels (R764) -/

theorem rebuild_modRgn (s : State) (n : Nat) (f : Region → Region) (keeps : ∀ r, (f r).needRebuild = r.needRebuild) (m : Nat) :
    ((s.modRgn n f).rgn m).needRebuild = (s.rgn m).needRebuild := by
  by_cases same : m = n
  · subst same
    rw [State.rgn_modRgn_same, keeps]
  · rw [State.rgn_modRgn_ne _ _ same]

theorem act_rebuild (s : State) (n k c m : Nat) : ((s.act n k c).rgn m).needRebuild = (s.rgn m).needRebuild := by
  unfold State.act
  refine rebuild_modRgn s n _ ?_ m
  intro r; rfl

theorem sendHead_rebuild (s : State) (p : Nat) (k : Packet) (m : Nat) : ((s.sendHead p k).rgn m).needRebuild = (s.rgn m).needRebuild := by
  have acted (u : State) : ((u.actFlit p).rgn m).needRebuild = (u.rgn m).needRebuild := by
    unfold State.actFlit
    split
    · rfl
    · next n _ => exact act_rebuild u n 10 1 m
  exact acted _

theorem pumpN_rebuild (fuel : Nat) (s : State) (p m : Nat) : ((State.pumpN fuel s p).rgn m).needRebuild = (s.rgn m).needRebuild := by
  induction fuel generalizing s with
  | zero => rfl
  | succ fuel ih =>
    unfold State.pumpN
    split
    · rfl
    · split
      · rw [ih, sendHead_rebuild]
      · rfl

theorem launchStep_toPort {k : Packet} (s : State) (p : Nat) {q : Nat} (credit : k.kind = .credit) : LaunchStep s (s.toPort p k) q := by
  unfold State.toPort
  split
  · rw [State.linkDown, credit]
    exact .refl s q
  · have pumped := (pump_spec (s.modPort p fun r => { r with outq := r.outq ++ [k] }) p).2
    refine launchStep_of_frame (((frame_modPort s p _ (by simp)).trans pumped).mono (List.Subset.refl _) (by simp)) ?_ fun m =>
      pumpN_rebuild _ _ p m
    intro off mem
    obtain rfl := List.mem_singleton.1 mem
    exact Or.inl (by simp only [low, R.HL_CREDITS]; omega)

theorem launchStep_sendLinkCredit (s : State) (n p ch count : Nat) (set : Bool) {q : Nat} :
    LaunchStep s (s.sendLinkCredit n p ch count set) q :=
  LaunchStep.trans (launchStep_of_frame (frame_newId s [] _) (by simp) fun _ => rfl) (launchStep_toPort _ p rfl)

/-! ### The launch at the cores -/

theorem launchStep_modCore (s : State) (g : Nat) (f : Core → Core) : LaunchStep s (s.modCore g f) n :=
  launchStep_of_frame (frame_modCore s g f (r := []) (by simp)) (by simp) fun _ => rfl

theorem launchStep_modRgn (s : State) (m : Nat) (f : Region → Region) (keeps : ∀ r, (f r).needRebuild = r.needRebuild) :
    LaunchStep s (s.modRgn m f) n :=
  launchStep_of_frame (frame_modRgn s m f (r := []) (by simp)) (by simp) (rebuild_modRgn s m f keeps)

theorem launchStep_startCore (s : State) (m : Nat) (p : Program) : LaunchStep s (s.startCore m p) n := by
  have emptied : LaunchStep s (s.emptyCore m (s.recordCore m p)) n := by
    refine LaunchStep.walk (.refl s n) _ _ fun u c => ?_
    split
    · split
      · exact launchStep_sendLinkCredit ..
      · exact .refl u n
    · exact .refl u n
  exact emptied.trans (launchStep_modCore ..)

theorem launchStep_setEpochs (s : State) (m : Nat) (b : Bool) (of : Nat → Bool) : LaunchStep s (s.setEpochs m b of) n := by
  refine LaunchStep.walk (.refl s n) _ _ fun u e => ?_
  obtain ⟨p, ch, k, c⟩ := e
  exact LaunchStep.trans (launchStep_of_frame (frame_modPort u p _ (r := []) (by simp)) (by simp) fun _ => rfl)
    (launchStep_sendLinkCredit ..)

theorem launchStep_setWord (s : State) {off : Nat} (v : Nat) (high : ¬ low off ∨ off = R.RGN_STATE n) : LaunchStep s (s.setWord off v) n :=
  launchStep_of_frame (frame_setWord s off v _ (List.mem_singleton.2 rfl)) (fun o mem => by rwa [List.mem_singleton.1 mem]) fun _ => rfl

theorem launchStep_sendLaunch (s : State) (m : Nat) (im : Image) (entries : List Nat) : LaunchStep s (s.sendLaunch m im entries) n := by
  have cores : LaunchStep s (overList im.programs s fun u p => u.startCore m p) n := (LaunchStep.refl s n).walk _ _ fun u p =>
    launchStep_startCore u m p
  have slices (v : State) : LaunchStep v (overList (v.slicesOf m) v fun u i => u.startSlice m i) n := (LaunchStep.refl v n).walk _ _ fun u i =>
    launchStep_of_frame (frame_modSlice u i _ (r := []) (by simp)) (by simp) fun _ => rfl
  have clusters (v : State) : LaunchStep v (overList (v.clustersOf m) v fun u c => u.modCluster c fun k => { k with ro := [] }) n :=
    (LaunchStep.refl v n).walk _ _ fun u c => launchStep_of_frame (frame_modCluster u c _ (r := []) (by simp)) (by simp) fun _ => rfl
  have counts (v : State) : LaunchStep v ((v.setWord (R.QDBG_RGN_CHN m) 0).setWord (R.QDBG_RGN_DROP m) 0) n :=
    (launchStep_setWord v 0 (Or.inl (by simp only [low, R.QDBG_RGN_CHN]; omega))).trans
      (launchStep_setWord _ 0 (Or.inl (by simp only [low, R.QDBG_RGN_DROP]; omega)))
  unfold State.sendLaunch
  extract_lets a b c d
  refine (((cores.trans (slices a)).trans (clusters b)).trans (counts c)).trans ?_
  refine LaunchStep.trans ?_ (launchStep_setEpochs _ m true _)
  refine launchStep_modRgn d m _ ?_
  intro r; rfl

theorem launchStep_closeLaunch (s : State) (n status code : Nat) : LaunchStep s (s.closeLaunch n status code) n := by
  refine LaunchStep.trans (t := s.endLaunch n status code) ⟨fun off _ _ => (stays_endLaunch s n status code off).mono (by simp), fun m => ?_⟩
    (launchStep_of_frame (frame_setFld _ (F.RGN_STATE_STATE n) _ _ (List.mem_singleton.2 rfl))
      (fun o mem => Or.inr (List.mem_singleton.1 mem)) fun _ => rfl)
  unfold State.endLaunch
  split
  · rfl
  · refine (congrArg Region.needRebuild (finish_rgn ..)).trans (rebuild_modRgn s n _ ?_ m)
    intro r; rfl

theorem launchStep_advanceLaunch (s : State) (n : Nat) : LaunchStep s (s.advanceLaunch n) n := by
  have chosen (k : Nat) : LaunchStep s (s.setFld (F.SCH_IMG_STATE_SET_IN_FORCE n) k) n :=
    launchStep_setWord s _ (Or.inl (by simp only [low, F.SCH_IMG_STATE_SET_IN_FORCE, R.SCH_IMG_STATE]; omega))
  unfold State.advanceLaunch
  split
  · split
    · exact .refl s n
    · split
      · exact launchStep_closeLaunch ..
      · dsimp only
        split
        · exact (chosen _).trans (launchStep_sendLaunch ..)
        · exact (chosen _).trans (launchStep_modRgn _ n _ fun _ => rfl)
  · exact .refl s n

/-! ### An island is powered (R151, R152) -/

theorem sameWord_noteIslands (s : State) (n : Nat) {off : Nat} (h1 : off ≠ R.RGN_STATE n) (h2 : off ≠ R.PWR_STATE) :
    SameWord off s (s.noteIslands n) := by
  have noted : SameWord off s (s.setFld (F.RGN_STATE_ISLANDS_POWERED n) (bit (s.islandsOn n))) := (SameWord.refl off s).setFld _ _ h1
  unfold State.noteIslands
  dsimp only
  split
  · exact noted
  · exact (noted.setFld F.PWR_STATE_STATE _ h2).trans (.of_regs rfl)

theorem exec_islandUngateComplete {i n : Fin 32} (cs : List Crossing) (owner : s.ownerOf ((tilesOfIsland i).headD 0) = some n.val)
    (dark : s.bitAt F.CLK_ISLAND_POWERED i = false) (halves : s.power.halves = true) (wants : s.wantsIslands n = true) :
    exec (.islandUngateComplete i cs) s =
      done ((((s.setBit F.CLK_ISLAND_POWERED i true).noteIslands n).verifyXings (xingsOfIsland i) cs).advanceLaunch n) := by
  have exe : exec (.islandUngateComplete i cs) s = execIslandUngateComplete i cs s := rfl
  rw [exe, execIslandUngateComplete]
  simp only [owner, dark, halves, wants, Bool.not_true, Bool.or_self, Bool.false_eq_true, if_false]

theorem answers_islandUngateComplete (i n : Fin 32) (cs : List Crossing) (s : State)
    (owner : s.ownerOf ((tilesOfIsland i).headD 0) = some n.val) (dark : s.bitAt F.CLK_ISLAND_POWERED i = false)
    (halves : s.power.halves = true) (wants : s.wantsIslands n = true) : Answers (.islandUngateComplete i cs) s fun t =>
      t.bitAt F.CLK_ISLAND_POWERED i = true ∧
        ∀ j, j ≠ i.val → t.bitAt F.CLK_ISLAND_POWERED j = s.bitAt F.CLK_ISLAND_POWERED j := by
  let v := s.setBit F.CLK_ISLAND_POWERED i true
  have apart : R.CLK_ISLAND ≠ R.RGN_STATE n := by simp only [R.CLK_ISLAND, R.RGN_STATE]; omega
  have noted : SameWord R.CLK_ISLAND v (v.noteIslands n) := sameWord_noteIslands v n apart (by decide)
  have verified := (stays_verifyXings (off := R.CLK_ISLAND) (v.noteIslands n) (xingsOfIsland i) cs (by decide) (by decide)).1
  have advanced := ((launchStep_advanceLaunch ((v.noteIslands n).verifyXings (xingsOfIsland i) cs) n).stays R.CLK_ISLAND (by decide) apart).1
  have same (j : Nat) : ((((v.noteIslands n).verifyXings (xingsOfIsland i) cs).advanceLaunch n).refreshPf).bitAt F.CLK_ISLAND_POWERED j =
      v.bitAt F.CLK_ISLAND_POWERED j :=
    congrArg (fun w : Nat => w.testBit j) ((((noted.trans verified).trans advanced).pf (by decide)).fld F.CLK_ISLAND_POWERED rfl)
  refine answers_of_done (exec_islandUngateComplete cs owner dark halves wants) ⟨?_, fun j hj => ?_⟩
  · rw [same, State.bitAt_setBit s F.CLK_ISLAND_POWERED i i true (by decide) i.2, if_pos rfl]
  · rw [same, State.bitAt_setBit s F.CLK_ISLAND_POWERED i j true (by decide) i.2, if_neg hj]

/-! ### An image is read again (R155, R156) -/

/-- What the read of an image and its tiles may change. -/
abbrev rebuildParts : List Part := [.stops, .vfs, .cores, .regions]

section
variable {off : Nat}

/-- The state with other marks of the turns. -/
def State.withStops (s : State) (m : SMap Nat) : State := { s with stops := m }

theorem stays_withStops (s : State) (m : SMap Nat) : Stays off rebuildParts s (s.withStops m) := .of_regs rfl fun q hq => by
  cases q with
  | stops => exact absurd (by simp) hq
  | _ => rfl

theorem stays_countEngine (s : State) (n len : Nat) (b : Bool) (h1 : off ≠ R.RGN_DLY_BUDGET n cHOSTDMA) (h2 : off ≠ R.RGN_URGENT n) :
    Stays off rebuildParts s (s.countEngine n len b) := by
  unfold State.countEngine
  extract_lets used t
  exact ((Stays.refl off _ s).countGrant n cHOSTDMA 1 used false b h1 h2).trans (stays_withStops t _)

theorem stays_readImage (s : State) (n addr len : Nat) (h1 : off ≠ R.RGN_DLY_BUDGET n cHOSTDMA) (h2 : off ≠ R.RGN_URGENT n) :
    Stays off rebuildParts s (s.readImage n addr len false) := by
  have out : Stays off rebuildParts s (s.hostReadOut (n + 1) addr len) := .of_regs rfl fun q _ => by cases q <;> rfl
  exact out.trans (stays_countEngine _ n len false h1 h2)

theorem stays_noteDelayed (s : State) (before n i : Nat) (k : Word) : Stays off rebuildParts s (s.noteDelayed before n i k) := by
  unfold State.noteDelayed
  split
  · exact .refl ..
  · exact (Stays.refl off _ s).modVf n _ (by simp)

theorem stays_writePrograms (s : State) (n : Nat) (im : Image) : Stays off rebuildParts s (s.writePrograms n im) := by
  have cleared : Stays off rebuildParts s (overList ((s.coresOf n).filter s.corePowered) s fun t g =>
      t.modCore g fun c => { c with program := [], hasProgram := false }) :=
    (Stays.refl off _ s).walk _ _ fun u g => (Stays.refl off _ u).modCore g _ (by simp)
  exact cleared.walk _ _ fun u p => (Stays.refl off _ u).modCore _ _ (by simp)

end

/-- The image with its sets and programs, as they are read again. -/
def Image.reread (im : Image) (b : List Byte) : Image := { im with sets := imageSets b, programs := (programList b).map (·.1) }

/-- The image read again, its programs written. -/
def State.rereadImage (s : State) (n : Nat) (l : Launch) (im : Image) (b : List Byte) : State :=
  ((s.readImage n im.hostAddr im.bytes false).noteDelayed (s.fld (F.RGN_DLY_BUDGET_DELAYED_BUDGET n cHOSTDMA)) n l.ring
    l.index).writePrograms n (im.reread b)

/-- The region whose image is whole again. -/
def Region.rebuilt (r : Region) (im : Image) : Region := { r with image := some im, needRebuild := false }

theorem exec_imageRebuild {n : Fin 32} {l : Launch} {im : Image} {h : HostData} (launch : (s.rgn n).launch = some l)
    (image : (s.rgn n).image = some im) (waits : l.sent = false) (run : s.rgnState n = rRUNNING) (on : s.someGated n = false)
    (lost : (s.rgn n).needRebuild = true) (may : s.mayRequest (n + 1) = true) (clean : ∀ k ∈ h.poisoned, im.bytes ≤ k)
    (crc : crcHolds (hostBytes im.hostAddr im.bytes h.bytes) im.bytes = true) : exec (.imageRebuild n h) s =
      done (((s.rereadImage n l im (hostBytes im.hostAddr im.bytes h.bytes)).modRgn n
        (·.rebuilt (im.reread (hostBytes im.hostAddr im.bytes h.bytes)))).advanceLaunch n) := by
  have exe : exec (.imageRebuild n h) s = execImageRebuild n h s := rfl
  have whole : (h.poisoned.any fun k => decide (k < im.bytes)) = false := by
    rw [List.any_eq_false]
    intro k hk
    have := clean k hk
    simp only [decide_eq_true_eq]; omega
  rw [exe, execImageRebuild]
  simp only [launch, image, waits, run, on, lost, may, whole, crc, bne_self_eq_false, Bool.not_true, Bool.or_self, Bool.false_eq_true,
    if_false]
  rfl

theorem answers_imageRebuild (n : Fin 32) (s : State) (l : Launch) (im : Image) (h : HostData) (launch : (s.rgn n).launch = some l)
    (image : (s.rgn n).image = some im) (waits : l.sent = false) (run : s.rgnState n = rRUNNING) (on : s.someGated n = false)
    (lost : (s.rgn n).needRebuild = true) (may : s.mayRequest (n + 1) = true) (clean : ∀ k ∈ h.poisoned, im.bytes ≤ k)
    (crc : crcHolds (hostBytes im.hostAddr im.bytes h.bytes) im.bytes = true) :
    Answers (.imageRebuild n h) s fun t => (t.rgn n).needRebuild = false ∧ t.hbm = s.hbm ∧ OtherRegions s t n := by
  let b := hostBytes im.hostAddr im.bytes h.bytes
  let v := s.rereadImage n l im b
  let w := v.modRgn n (·.rebuilt (im.reread b))
  have exe : exec (.imageRebuild n h) s = done (w.advanceLaunch n) := exec_imageRebuild launch image waits run on lost may clean crc
  have read (off : Nat) (h1 : off ≠ R.RGN_DLY_BUDGET n cHOSTDMA) (h2 : off ≠ R.RGN_URGENT n) : Stays off rebuildParts s w :=
    (((stays_readImage s n im.hostAddr im.bytes h1 h2).trans (stays_noteDelayed _ _ n l.ring l.index)).trans
      (stays_writePrograms _ n (im.reread b))).modRgn n _ (by simp)
  have rebuilt : (w.rgn n).needRebuild = false := by
    show ((v.modRgn n _).rgn n).needRebuild = false
    rw [State.rgn_modRgn_same]; rfl
  have step := launchStep_advanceLaunch w n
  clear_value w
  refine answers_of_done exe ⟨?_, ?_, fun m hm ne => ?_⟩
  · rw [State.refreshPf_rgn]
    exact (step.rebuild n).trans rebuilt
  · rw [State.refreshPf_hbm]
    have far : (0 : Nat) ≠ R.RGN_STATE n := by simp only [R.RGN_STATE]; omega
    exact ((step.stays 0 (by decide) far).2 .hbm (by simp)).trans
      ((read 0 (by simp only [R.RGN_DLY_BUDGET]; omega) (by simp only [R.RGN_URGENT]; omega)).2 .hbm (by simp))
  · have far : R.RGN_STATE m ≠ R.RGN_STATE n := by simp only [R.RGN_STATE]; omega
    have before := (read (R.RGN_STATE m) (by simp only [R.RGN_DLY_BUDGET, R.RGN_STATE, cHOSTDMA]; omega)
      (by simp only [R.RGN_URGENT, R.RGN_STATE]; omega)).1
    have after := (step.stays (R.RGN_STATE m) (by simp only [low, R.RGN_STATE]; omega) far).1
    rw [refreshPf_rgnState]
    exact rgnState_congr (before.trans after)

end Sys2Proof.Machine
end

section
/-! The gating of an idle region's islands (R152, R157): their clusters and the packets in them are gone. -/

namespace Sys2Proof.Machine

variable {s t u : State} {n : Nat}

/-- The islands are dark. -/
def State.darkened (s : State) (l : List Nat) : State := overList l s fun u i => u.setBit F.CLK_ISLAND_POWERED i false

theorem frame_darkened (s : State) (l : List Nat) (parts : List Part) : Frame s (s.darkened l) [R.CLK_ISLAND] parts :=
  (Frame.refl ..).walk l _ fun u _ => frame_setFld u F.CLK_ISLAND_POWERED _ _ (List.mem_singleton.2 rfl)

theorem darkened_bit {l : List Nat} (small : ∀ i ∈ l, i < 32) (s : State) (j : Nat) :
    (s.darkened l).bitAt F.CLK_ISLAND_POWERED j = if j ∈ l then false else s.bitAt F.CLK_ISLAND_POWERED j := by
  unfold State.darkened
  induction l generalizing s with
  | nil => simp
  | cons i l ih =>
    rw [overList_cons, ih fun k hk => small k (List.mem_cons_of_mem _ hk),
      State.bitAt_setBit s F.CLK_ISLAND_POWERED i j false (by decide) (small i List.mem_cons_self)]
    by_cases here : j ∈ l
    · simp [here]
    · by_cases same : j = i <;> simp [here, same]

theorem frame_clearPackets (s : State) (gone : Packet → Bool) {parts : List Part} (hn : .net ∈ parts) (hm : .mesh ∈ parts) :
    Frame s (s.clearPackets gone) [] parts :=
  ⟨fun _ _ _ _ => rfl, fun q hq => by
    cases q with
    | net => exact absurd hn hq
    | mesh => exact absurd hm hq
    | _ => rfl⟩

theorem frame_dropClusters (s : State) (n : Nat) {parts : List Part} (hg : .cores ∈ parts) (hc : .clusters ∈ parts) :
    Frame s (s.dropClusters n) [] parts :=
  ⟨fun _ _ _ _ => rfl, fun q hq => by
    cases q with
    | cores => exact absurd hg hq
    | clusters => exact absurd hc hq
    | _ => rfl⟩

theorem dropClusters_core (s : State) {n g : Nat} (h : s.inRect n (tileOfCore g) = true) : (s.dropClusters n).core g = {} := by
  show smGet (s.cores.filter fun e => !s.inRect n (tileOfCore e.1)) {} g = {}
  rw [smGet_filter s.cores {} (fun k => !s.inRect n (tileOfCore k)), h]
  rfl

theorem frame_noteIslands (s : State) (n : Nat) {parts : List Part} (hp : .power ∈ parts) :
    Frame s (s.noteIslands n) [R.RGN_STATE n, R.PWR_STATE] parts := by
  have noted : Frame s (s.setFld (F.RGN_STATE_ISLANDS_POWERED n) (bit (s.islandsOn n))) [R.RGN_STATE n, R.PWR_STATE] parts :=
    frame_setFld s (F.RGN_STATE_ISLANDS_POWERED n) _ _ List.mem_cons_self
  unfold State.noteIslands
  extract_lets t st
  split
  · exact noted
  · have state : Frame t (t.setFld F.PWR_STATE_STATE st) [R.RGN_STATE n, R.PWR_STATE] parts :=
      frame_setFld t F.PWR_STATE_STATE _ _ (List.mem_cons_of_mem _ List.mem_cons_self)
    exact noted.trans (state.trans ⟨fun _ _ _ _ => rfl, fun q hq => by
      cases q with
      | power => exact absurd hp hq
      | _ => rfl⟩)

theorem frame_darkenXings (s : State) {parts : List Part} (hx : .xings ∈ parts) : Frame s s.darkenXings [R.CLK_STATUS] parts := by
  have noted (u : State) : Frame u u.noteXings [R.CLK_STATUS] parts :=
    frame_setFld u F.CLK_STATUS_XING_TRAINED _ _ (List.mem_singleton.2 rfl)
  have dimmed (x : Xings) : Frame s { s with xings := x } [R.CLK_STATUS] parts := ⟨fun _ _ _ _ => rfl, fun q hq => by
    cases q with
    | xings => exact absurd hx hq
    | _ => rfl⟩
  exact (dimmed _).trans (noted _)

/-- What the gating of a region's islands may change. -/
abbrev gateParts : List Part := [.net, .mesh, .clusters, .cores, .regions, .power, .xings]

/-- The clusters of the region are gone, and its image asks for a rebuild. -/
def State.clustersLost (s : State) (n : Nat) : State :=
  (((s.clearPackets (inClusters n)).darkened (s.islandsOf n)).dropClusters n).modRgn n fun r => { r with needRebuild := r.image.isSome }

theorem gateIslands_eq (s : State) (n : Nat) : s.gateIslands n = ((s.clustersLost n).noteIslands n).darkenXings := rfl

theorem frame_clustersLost (s : State) (n : Nat) : Frame s (s.clustersLost n) [R.CLK_ISLAND] gateParts :=
  (((frame_clearPackets s _ (by simp) (by simp)).mono (by simp) (List.Subset.refl _)).trans (frame_darkened _ _ _)).trans
    (((frame_dropClusters _ n (by simp) (by simp)).trans (frame_modRgn _ n _ (by simp))).mono (by simp) (List.Subset.refl _))

theorem frame_gated (s : State) (n : Nat) : Frame s (s.noteIslands n).darkenXings [R.RGN_STATE n, R.PWR_STATE, R.CLK_STATUS] [.power, .xings] :=
  ((frame_noteIslands s n (by simp)).mono (by simp) (List.Subset.refl _)).trans
    ((frame_darkenXings _ (by simp)).mono (by simp) (List.Subset.refl _))

theorem exec_islandIdleGate (n : Fin 32) (s : State) (idle : s.rgnState n ∈ [rREADY, rFAULTED]) (quiet : s.launchQueued n = false)
    (hold : s.bitAt F.PWR_ISLAND_HOLD_HOLD n = false) (wants : s.wantsIslands n = false)
    (on : ∃ i ∈ s.islandsOf n, s.bitAt F.CLK_ISLAND_POWERED i = true) : exec (.islandIdleGate n) s = done (s.gateIslands n) := by
  have exe : exec (.islandIdleGate n) s = execIslandIdleGate n s := rfl
  have state : (s.rgnState n == rREADY || s.rgnState n == rFAULTED) = true := by simpa using idle
  have powered : ((s.islandsOf n).any fun i => s.bitAt F.CLK_ISLAND_POWERED i) = true := List.any_eq_true.2 on
  rw [exe, execIslandIdleGate]
  simp only [state, quiet, hold, wants, powered, Bool.not_false, Bool.and_true, if_true]

theorem answers_islandIdleGate (n : Fin 32) (s : State) (idle : s.rgnState n ∈ [rREADY, rFAULTED]) (quiet : s.launchQueued n = false)
    (hold : s.bitAt F.PWR_ISLAND_HOLD_HOLD n = false) (wants : s.wantsIslands n = false)
    (on : ∃ i ∈ s.islandsOf n, s.bitAt F.CLK_ISLAND_POWERED i = true) : Answers (.islandIdleGate n) s fun t =>
      (∀ i ∈ s.islandsOf n, t.bitAt F.CLK_ISLAND_POWERED i = false) ∧
        (∀ g, s.inRect n (tileOfCore g) = true → t.core g = {}) ∧ (t.rgn n).needRebuild = (s.rgn n).image.isSome ∧
        (∀ p, p ∈ t.net ↔ p ∈ s.net ∧ inClusters n p = false) ∧ t.slices = s.slices ∧ t.hbm = s.hbm ∧ OtherRegions s t n := by
  have exe := exec_islandIdleGate n s idle quiet hold wants on
  rw [gateIslands_eq] at exe
  let v := s.clustersLost n
  have lost := frame_clustersLost s n
  have gated := frame_gated v n
  have apart (m : Nat) : R.CLK_ISLAND ≠ R.RGN_STATE m := by simp only [R.CLK_ISLAND, R.RGN_STATE]; omega
  have small : ∀ i ∈ s.islandsOf n, i < 32 := fun i hi => List.mem_range.1 (List.mem_filter.1 hi).1
  have dark := frame_darkened (s.clearPackets (inClusters n)) (s.islandsOf n) []
  have kept : Frame s ((s.clearPackets (inClusters n)).darkened (s.islandsOf n)) [R.CLK_ISLAND] [.net, .mesh] :=
    ((frame_clearPackets s _ (by simp) (by simp)).mono (by simp) (List.Subset.refl _)).trans (dark.mono (List.Subset.refl _) (by simp))
  refine answers_of_done exe ⟨fun i hi => ?_, fun g here => ?_, ?_, fun p => ?_, ?_, ?_, fun m hm ne => ?_⟩
  · rw [gated.pf.bitAt_eq F.CLK_ISLAND_POWERED i (by decide) (by
      have := apart n
      simp only [F.CLK_ISLAND_POWERED, List.mem_cons, List.not_mem_nil, or_false, not_or]
      exact ⟨this, by decide, by decide⟩)]
    exact (darkened_bit small (s.clearPackets (inClusters n)) i).trans (if_pos hi)
  · rw [core_of_cores (gated.pf.2 .cores (by simp))]
    refine dropClusters_core _ ?_
    rw [inRect_congr (kept.sameWord (by simp only [R.RGN_RECT, R.INT_PF_STATUS]; omega) (by
      simp only [R.RGN_RECT, R.CLK_ISLAND, List.mem_singleton]; omega))]
    exact here
  · rw [rgn_congr (gated.pf.2 .regions (by simp))]
    refine (congrArg Region.needRebuild (State.rgn_modRgn_same ..)).trans ?_
    exact congrArg (·.image.isSome) (rgn_congr (kept.2 .regions (by simp)) n)
  · have net : v.net = s.net.filter fun p => !inClusters n p := dark.2 .net (by simp)
    rw [show _ = v.net from gated.pf.2 .net (by simp), net]
    simp
  · exact (gated.pf.2 .slices (by simp)).trans (lost.2 .slices (by simp))
  · exact (gated.pf.2 .hbm (by simp)).trans (lost.2 .hbm (by simp))
  · have far : R.RGN_STATE m ≠ R.RGN_STATE n := by simp only [R.RGN_STATE]; omega
    exact (gated.pf.rgnState (by
      simp only [List.mem_cons, List.not_mem_nil, or_false, not_or]
      exact ⟨far, by simp only [R.RGN_STATE, R.PWR_STATE]; omega, by simp only [R.RGN_STATE, R.CLK_STATUS]; omega⟩)).trans
        (lost.rgnState fun mem => apart m (List.mem_singleton.1 mem).symm)

end Sys2Proof.Machine
end

section
/-! The end of a quiesce of the plane (R537): the routes of the live tiles are in force, and fences that wait take effect. -/

namespace Sys2Proof.Machine

variable {s t u : State} {n : Nat}

/-! ### The routes of a region through a fault -/

/-- The routes of a region, and the fences that wait for them. -/
def Region.routes (r : Region) : List (Nat × Nat × Nat) × List Nat × List (UnitKind × Nat) := (r.relays, r.isolated, r.pendingFences)

/-- The routers' credits and the routes of region n are as they were. -/
structure RoutesKept (s t : State) (n : Nat) : Prop where
  mesh : t.mesh = s.mesh
  routes : (t.rgn n).routes = (s.rgn n).routes

theorem RoutesKept.refl (s : State) (n : Nat) : RoutesKept s s n := ⟨rfl, rfl⟩

theorem RoutesKept.trans (h : RoutesKept s t n) (k : RoutesKept t u n) : RoutesKept s u n := ⟨k.mesh.trans h.mesh, k.routes.trans h.routes⟩

theorem RoutesKept.of_same (mesh : t.mesh = s.mesh) (regions : t.regions = s.regions) : RoutesKept s t n :=
  ⟨mesh, congrArg Region.routes (rgn_congr regions n)⟩

theorem RoutesKept.when {b : Bool} {f : State → State} (h : RoutesKept s t n) (step : RoutesKept t (f t) n) : RoutesKept s (t.when b f) n := by
  cases b
  · exact h
  · exact h.trans step

theorem RoutesKept.setFld (h : RoutesKept s t n) (f : Fld) (v : Nat) : RoutesKept s (t.setFld f v) n := h.trans (.of_same rfl rfl)

theorem RoutesKept.setWord (h : RoutesKept s t n) (off v : Nat) : RoutesKept s (t.setWord off v) n := h.trans (.of_same rfl rfl)

theorem RoutesKept.haltCores (h : RoutesKept s t n) (m : Nat) : RoutesKept s (t.haltCores m) n := h.trans (.of_same rfl rfl)

theorem RoutesKept.modRgn (h : RoutesKept s t n) (f : Region → Region) (keeps : (f (t.rgn n)).routes = (t.rgn n).routes) :
    RoutesKept s (t.modRgn n f) n := h.trans ⟨rfl, (congrArg Region.routes (State.rgn_modRgn_same ..)).trans keeps⟩

theorem RoutesKept.latchFault (h : RoutesKept s t n) (f : FaultReport) : RoutesKept s (t.latchFault n f) n := by
  refine h.trans ?_
  unfold State.latchFault
  dsimp only
  split
  · exact .of_same rfl rfl
  · exact .of_same rfl rfl

theorem RoutesKept.startReset (h : RoutesKept s t n) (why : ResetWhy) (toFree : Bool) : RoutesKept s (t.startReset n why toFree) n := by
  have free (u : State) (hu : RoutesKept s u n) : RoutesKept s (u.when toFree fun v => v.raise (F.RGN_STATE_RELEASING n)) n :=
    hu.when (.of_same rfl rfl)
  unfold State.startReset
  extract_lets r st fr t1
  split
  · exact h
  · split
    · exact h
    · split
      · exact free _ (h.modRgn _ rfl)
      · split
        · exact (h.modRgn _ rfl).setFld (F.RGN_STATE_RESET_PENDING n) 1
        · refine free _ (((((h.modRgn _ ?_).setFld (F.RGN_STATE_STATE n) rDRAINING).setFld (F.RGN_STATE_RESET_PENDING n) 0).setFld
            (F.RGN_COUNTS_RESET_COUNT n) _).haltCores n)
          rfl

theorem RoutesKept.enterFaulted (h : RoutesKept s t n) : RoutesKept s (t.enterFaulted n) n := by
  unfold State.enterFaulted
  extract_lets a
  have event (u : State) : RoutesKept u (u.regionEvent n true) n :=
    have parts := ((Stays.refl 0 [] u).regionEvent (by decide) n true).2
    .of_same (parts .mesh (by simp)) (parts .regions (by simp))
  have ha : RoutesKept s a n := ((h.setFld (F.RGN_STATE_STATE n) rFAULTED).modRgn _ rfl).trans (event _)
  exact ha.when (((RoutesKept.refl a n).modRgn _ rfl).startReset .fault false)

theorem RoutesKept.dropImage (h : RoutesKept s t n) : RoutesKept s (t.dropImage n) n := by
  unfold State.dropImage
  extract_lets a k
  have ha : RoutesKept s a n := (h.modRgn _ rfl).setFld (F.RGN_STATE_IMAGE_LOADED n) 0
  exact (((((ha.setWord _ _).setWord _ _).setWord _ _).setWord _ _).setWord _ _).setWord _ _

theorem RoutesKept.abortLoad (h : RoutesKept s t n) : RoutesKept s (t.abortLoad n) n := by
  unfold State.abortLoad
  extract_lets stop
  have cut : RoutesKept s (t.cutLoad n) n := h.when (RoutesKept.refl t n).dropImage
  exact cut.trans (.of_same rfl rfl)

theorem RoutesKept.applyFences (h : RoutesKept s t n) (none : (t.rgn n).pendingFences = []) : RoutesKept s (t.applyFences n) n := by
  rw [applyFences_none none]
  exact h.modRgn _ (by rw [Region.routes, Region.routes, none])

theorem RoutesKept.waits (h : RoutesKept s t n) (none : (s.rgn n).pendingFences = []) : (t.rgn n).pendingFences = [] :=
  (congrArg (·.2.2) h.routes).trans none

theorem routesKept_regionFault (s : State) (f : FaultReport) (none : (s.rgn n).pendingFences = []) : RoutesKept s (s.regionFault n f) n := by
  unfold State.regionFault
  extract_lets st r clock t ring a
  have ht : RoutesKept s t n := (RoutesKept.refl s n).modRgn _ rfl
  split
  · exact .refl s n
  · split
    · have ha : RoutesKept s a n := (ht.latchFault f).modRgn _ rfl
      have halted : RoutesKept s ((a.setFld (F.RGN_STATE_STATE n) rDRAINING).haltCores n) n := ha.trans (.of_same rfl rfl)
      exact halted.applyFences (halted.waits none)
    · split
      · split
        · exact .refl s n
        · exact (ht.latchFault f).abortLoad.enterFaulted
      · split
        · exact ht.setFld (F.RGN_FAULT_MULTI n) 1
        · split
          · exact ((RoutesKept.refl s n).setFld (F.RGN_FAULT_MULTI n) 1).when ((RoutesKept.refl _ n).startReset .fault false)
          · exact .refl s n

theorem routesKept_checkSet (s : State) (tile : Nat) (none : (s.rgn n).pendingFences = []) : RoutesKept s (s.checkSet n tile) n := by
  unfold State.checkSet
  split
  · split
    · exact .refl s n
    · split
      · exact .of_same rfl rfl
      · exact routesKept_regionFault s _ none
  · exact .refl s n

theorem routesKept_applyPending (s : State) (none : (s.rgn n).pendingFences = []) : RoutesKept s (s.applyPending n) n := by
  have fenced := (RoutesKept.refl s n).applyFences none
  exact fenced.trans (routesKept_checkSet _ _ (fenced.waits none))

/-! ### The new routes -/

theorem installRoutes_rgn (s : State) (n : Nat) (m : RouteMap) :
    ((s.installRoutes n m).rgn n).routes = (m.relays, m.isolated, (s.rgn n).pendingFences) :=
  congrArg Region.routes (State.rgn_modRgn_same s n fun r => { r with
    relays := m.relays, isolated := m.isolated, dead := (s.tilesOf n).filter fun t => !(s.liveTiles n).contains t })

theorem installRoutes_epoch (s : State) (n : Nat) (m : RouteMap) :
    (s.installRoutes n m).fld (F.DYN_ROUTE_EPOCH n) = s.fld (F.DYN_ROUTE_EPOCH n) := by
  have apart : (F.DYN_ROUTE_EPOCH n).off ≠ R.DYN_ISOLATED n := by simp only [F.DYN_ROUTE_EPOCH, R.DYN_ROUTE, R.DYN_ISOLATED]; omega
  unfold State.installRoutes
  extract_lets t
  refine (State.fld_setFld_off _ (F.DYN_ISOLATED_FIRST_TILE n) _ _ apart).trans ?_
  refine (State.fld_setFld_off _ (F.DYN_ISOLATED_VALID n) _ _ apart).trans ?_
  refine (State.fld_setFld_lo _ (F.DYN_ROUTE_ISOLATED n) (F.DYN_ROUTE_EPOCH n) _ rfl rfl
    (show 16 + 16 ≤ 32 by decide) (Or.inr (show 0 + 8 ≤ 16 by decide))).trans ?_
  refine (State.fld_setFld_lo _ (F.DYN_ROUTE_RELAYED n) (F.DYN_ROUTE_EPOCH n) _ rfl rfl
    (show 16 + 16 ≤ 32 by decide) (Or.inr (show 8 + 8 ≤ 16 by decide))).trans ?_
  rfl

/-- What the change of the routes leaves: the routers' credits outside the region, the routes, the end of the quiesce. -/
structure Rerouted (s t : State) (n : Nat) (m : RouteMap) : Prop where
  credits : t.mesh.credits = s.mesh.credits.filter fun c => !s.inRect n c.1
  routes : (t.rgn n).routes = (m.relays, m.isolated, (s.rgn n).pendingFences)
  quiet : t.bitAt F.DYN_QUIESCING_QUIESCING n = false
  epoch : t.fld (F.DYN_ROUTE_EPOCH n) = s.fld (F.DYN_ROUTE_EPOCH n)
  others : ∀ off, low off → SameWord off s t

/-- The credits of the region's routers are gone. -/
def State.creditsCleared (s : State) (n : Nat) : State :=
  { s with
    ctl := s.ctl.filter fun e => match e.2 with | .relayCredit r _ _ _ => r != n | _ => true
    mesh := { s.mesh with credits := s.mesh.credits.filter fun c => !s.inRect n c.1 } }

theorem changeRoutes_eq (s : State) (n : Nat) (m : RouteMap) : s.changeRoutes n m =
    (((s.creditsCleared n).installRoutes n m).setBit F.DYN_QUIESCING_QUIESCING n false).dropCutOff n := rfl

theorem dropCutOff_mesh (s : State) (n : Nat) : (s.dropCutOff n).mesh = s.mesh := rfl
theorem dropCutOff_regions (s : State) (n : Nat) : (s.dropCutOff n).regions = s.regions := rfl
theorem setBit_mesh (s : State) (f : Fld) (i : Nat) (b : Bool) : (s.setBit f i b).mesh = s.mesh := rfl
theorem setBit_regions (s : State) (f : Fld) (i : Nat) (b : Bool) : (s.setBit f i b).regions = s.regions := rfl
theorem installRoutes_mesh (s : State) (n : Nat) (m : RouteMap) : (s.installRoutes n m).mesh = s.mesh := rfl

theorem dropCutOff_fld (s : State) {n : Nat} (f : Fld) (ne : f.off ≠ R.DYN_QUIESCE n) : (s.dropCutOff n).fld f = s.fld f :=
  State.fld_setFld_off { s with net := s.net.filter fun p => !(p.region == n && p.place == .source && isResponse p.kind &&
    s.cutOff n p.dstTile) } (F.DYN_QUIESCE_DROP_FENCED n) f _ ne

theorem rerouted_changeRoutes (s : State) (hn : n < 32) (m : RouteMap) : Rerouted s (s.changeRoutes n m) n m := by
  let t := s.creditsCleared n
  have installed := installRoutes_epoch t n m
  rw [changeRoutes_eq]
  let a := t.installRoutes n m
  let b := a.setBit F.DYN_QUIESCING_QUIESCING n false
  have far : R.DYN_ROUTE n ≠ R.DYN_QUIESCING := by simp only [R.DYN_ROUTE, R.DYN_QUIESCING]; omega
  have apart : R.DYN_ROUTE n ≠ R.DYN_QUIESCE n := by simp only [R.DYN_ROUTE, R.DYN_QUIESCE]; omega
  have aside : R.DYN_QUIESCING ≠ R.DYN_QUIESCE n := by simp only [R.DYN_QUIESCING, R.DYN_QUIESCE]; omega
  refine ⟨?_, ?_, ?_, ?_, fun off hl => ?_⟩
  · rw [dropCutOff_mesh, setBit_mesh, installRoutes_mesh]; rfl
  · rw [rgn_congr (dropCutOff_regions b n), rgn_congr (setBit_regions a _ n false)]
    exact installRoutes_rgn t n m
  · refine (congrArg (fun w : Nat => w.testBit n) (dropCutOff_fld b F.DYN_QUIESCING_QUIESCING aside)).trans ?_
    exact (State.bitAt_setBit a F.DYN_QUIESCING_QUIESCING n n false (by decide) hn).trans (if_pos rfl)
  · refine (dropCutOff_fld b (F.DYN_ROUTE_EPOCH n) apart).trans ?_
    refine (State.fld_setFld_off a F.DYN_QUIESCING_QUIESCING (F.DYN_ROUTE_EPOCH n) _ far).trans ?_
    exact installed
  · have same : SameWord off s t := .of_regs rfl
    have quiet : off ≠ R.DYN_QUIESCING := by simp only [low] at hl; simp only [R.DYN_QUIESCING]; omega
    exact ((same.trans (stays_installRoutes t n m hl).1).setBit F.DYN_QUIESCING_QUIESCING n false quiet).trans (stays_dropCutOff b n hl).1

/-- The change of the routes counted, with the time that the quiesce took. -/
def State.quiesceCounted (s : State) (n : Nat) : State :=
  (s.countSat (F.DYN_ROUTE_EPOCH n)).draw.2.setFld (F.DYN_QUIESCE_LAST_QUIESCE_US n) ((s.countSat (F.DYN_ROUTE_EPOCH n)).draw.1.toNat % 13)

theorem quiesceCounted_mesh (s : State) (n : Nat) : (s.quiesceCounted n).mesh = s.mesh := rfl
theorem quiesceCounted_regions (s : State) (n : Nat) : (s.quiesceCounted n).regions = s.regions := rfl

theorem quiesceCounted_word (s : State) {n off : Nat} (h1 : off ≠ R.DYN_ROUTE n) (h2 : off ≠ R.DYN_QUIESCE n) :
    SameWord off s (s.quiesceCounted n) :=
  (((SameWord.refl off s).setFld (F.DYN_ROUTE_EPOCH n) _ h1).trans (.of_regs (t := (s.countSat (F.DYN_ROUTE_EPOCH n)).draw.2) rfl)).setFld
    (F.DYN_QUIESCE_LAST_QUIESCE_US n) _ h2

theorem quiesceCounted_epoch (s : State) (n : Nat) :
    (s.quiesceCounted n).fld (F.DYN_ROUTE_EPOCH n) = min (s.fld (F.DYN_ROUTE_EPOCH n) + 1) 0xFFFF := by
  have apart : R.DYN_ROUTE n ≠ R.DYN_QUIESCE n := by simp only [R.DYN_ROUTE, R.DYN_QUIESCE]; omega
  refine (State.fld_setFld_off _ (F.DYN_QUIESCE_LAST_QUIESCE_US n) (F.DYN_ROUTE_EPOCH n) _ apart).trans ?_
  exact fld_countSat s (F.DYN_ROUTE_EPOCH n) 1 (show 16 + 16 ≤ 32 by decide)

/-- The routes changed, the quiesce counted. -/
def State.quiesceEnded (s : State) (n : Nat) : State := (s.changeRoutes n (s.routeMap n)).quiesceCounted n

/-- The routes of a region do not depend on the plane's traffic. -/
theorem routeMap_congr (regs : t.regs = s.regs) (regions : t.regions = s.regions) (n : Nat) : t.routeMap n = s.routeMap n := by
  have rect (tile : Nat) : t.inRect n tile = s.inRect n tile := inRect_congr (.of_regs regs) tile
  have tiles : t.tilesOf n = s.tilesOf n := List.filter_congr fun tile _ => rect tile
  have live : t.liveTiles n = s.liveTiles n := by
    have fenced (tile : Nat) : t.tileFenced tile = s.tileFenced tile := by simp only [State.tileFenced, State.bitAt, State.fld, State.word, regs]
    simp only [State.liveTiles, tiles, fenced, rgn_congr regions n]
  simp only [State.routeMap, live, tiles]

theorem settle_regs (s : State) : s.settle.regs = s.regs := rfl
theorem settle_regions (s : State) : s.settle.regions = s.regions := rfl

theorem exec_routeQuiesceEnd (n : Fin 32) (s : State) (quiet : s.bitAt F.DYN_QUIESCING_QUIESCING n = true)
    (clear : s.settle.inPlane n = false) : ∃ b c, exec (.routeQuiesceEnd n) s =
      done (((s.settle.quiesceEnded n).when b fun u => u.applyPending n).when c fun u => u.regionFault n { cause := fcSLICE_LOST }) := by
  have exe : exec (.routeQuiesceEnd n) s = execRouteQuiesceEnd n s := rfl
  rw [exe, execRouteQuiesceEnd]
  simp only [quiet, clear, Bool.not_false, Bool.and_self, if_true]
  exact ⟨_, _, rfl⟩

/-! ### The end of the quiesce -/

theorem stays_applyPending_of_lt {off : Nat} (s : State) (n : Nat) (hl : off < 0x400000) (hi : NotImage n off) (hf : off ∉ faultRegs n) :
    Stays off faultParts s (s.applyPending n) := by
  have fenced : Stays off faultParts s (s.applyFences n) :=
    (Stays.refl off faultParts s).applyFences hl n (by decide) (by decide) (by decide) (by decide) (by decide)
  have force : off ≠ R.SCH_IMG_STATE n := by simp only [NotImage] at hi; simp only [R.SCH_IMG_STATE]; omega
  have counts : off ≠ R.SCH_COUNTS n := by simp only [NotImage] at hi; simp only [R.SCH_COUNTS]; omega
  have checked (v : State) (tile : Nat) : Stays off faultParts v (v.checkSet n tile) := by
    unfold State.checkSet
    split
    · split
      · exact .refl ..
      · split
        · exact ((Stays.refl off _ _).setFld (F.SCH_IMG_STATE_SET_IN_FORCE n) _ force).countSat (F.SCH_COUNTS_SWITCHES n) 1 counts
        · exact stays_regionFault_of_lt _ _ hl hi hf
    · exact .refl ..
  exact fenced.trans (checked _ _)

/-- What the end of a quiesce leaves. -/
structure QuiesceOver (s t : State) (n : Nat) : Prop where
  kept : RoutesKept s t n
  stays : ∀ off, off < 0x400000 → NotImage n off → off ∉ faultRegs n → SameWord off s t

theorem quiesceOver_fences (s : State) (none : (s.rgn n).pendingFences = []) (b c : Bool) :
    QuiesceOver s ((s.when b fun u => u.applyPending n).when c fun u => u.regionFault n { cause := fcSLICE_LOST }) n := by
  have applied : RoutesKept s (s.when b fun u => u.applyPending n) n := (RoutesKept.refl s n).when (routesKept_applyPending s none)
  refine ⟨applied.when (routesKept_regionFault _ _ (applied.waits none)), fun off hl hi hf => ?_⟩
  exact ((SameWord.refl off s).when (stays_applyPending_of_lt s n hl hi hf).1).when (stays_regionFault_of_lt _ _ hl hi hf).1

theorem rerouted_quiesceEnded (s : State) (hn : n < 32) : (s.quiesceEnded n).mesh.credits = s.mesh.credits.filter (fun c => !s.inRect n c.1) ∧
    ((s.quiesceEnded n).rgn n).routes = ((s.routeMap n).relays, (s.routeMap n).isolated, (s.rgn n).pendingFences) ∧
    (s.quiesceEnded n).bitAt F.DYN_QUIESCING_QUIESCING n = false ∧
    (s.quiesceEnded n).fld (F.DYN_ROUTE_EPOCH n) = min (s.fld (F.DYN_ROUTE_EPOCH n) + 1) 0xFFFF ∧
    ∀ off, low off → SameWord off s (s.quiesceEnded n) := by
  obtain ⟨credits, routes, quiet, epoch, others⟩ := rerouted_changeRoutes s hn (s.routeMap n)
  let a := s.changeRoutes n (s.routeMap n)
  have far : R.DYN_QUIESCING ≠ R.DYN_ROUTE n := by simp only [R.DYN_ROUTE, R.DYN_QUIESCING]; omega
  have aside : R.DYN_QUIESCING ≠ R.DYN_QUIESCE n := by simp only [R.DYN_QUIESCING, R.DYN_QUIESCE]; omega
  rw [State.quiesceEnded]
  refine ⟨?_, ?_, ?_, ?_, fun off hl => (others off hl).trans (quiesceCounted_word a ?_ ?_)⟩
  · rw [quiesceCounted_mesh, credits]
  · rw [rgn_congr (quiesceCounted_regions a n), routes]
  · exact (congrArg (fun w : Nat => w.testBit n) ((quiesceCounted_word a far aside).fld F.DYN_QUIESCING_QUIESCING rfl)).trans quiet
  · rw [quiesceCounted_epoch, epoch]
  · simp only [low] at hl; simp only [R.DYN_ROUTE]; omega
  · simp only [low] at hl; simp only [R.DYN_QUIESCE]; omega

theorem answers_routeQuiesceEnd (n : Fin 32) (s : State) (quiet : s.bitAt F.DYN_QUIESCING_QUIESCING n = true)
    (clear : s.settle.inPlane n = false) (none : (s.rgn n).pendingFences = []) : Answers (.routeQuiesceEnd n) s fun t =>
      t.bitAt F.DYN_QUIESCING_QUIESCING n = false ∧ (∀ c ∈ t.mesh.credits, s.inRect n c.1 = false) ∧
        (t.rgn n).relays = (s.routeMap n).relays ∧ (t.rgn n).isolated = (s.routeMap n).isolated ∧
        t.fld (F.DYN_ROUTE_EPOCH n) = min (s.fld (F.DYN_ROUTE_EPOCH n) + 1) 0xFFFF ∧ OtherRegions s t n := by
  obtain ⟨b, c, exe⟩ := exec_routeQuiesceEnd n s quiet clear
  obtain ⟨credits, routes, ended, epoch, others⟩ := rerouted_quiesceEnded s.settle n.2
  rw [routeMap_congr (settle_regs s) (settle_regions s)] at routes
  have rect (tile : Nat) : s.settle.inRect n tile = s.inRect n tile := inRect_congr (.of_regs (settle_regs s)) tile
  have before : (s.settle.rgn n).pendingFences = [] := (congrArg Region.pendingFences (rgn_congr (settle_regions s) n)).trans none
  have fences := quiesceOver_fences (s.settle.quiesceEnded n) ((congrArg (·.2.2) routes).trans before) b c
  generalize s.settle.quiesceEnded n = v at exe credits routes ended epoch others fences
  obtain ⟨⟨mesh, kept⟩, stays⟩ := fences
  have after := kept.trans routes
  have quiescing : R.DYN_QUIESCING ∉ faultRegs n := by
    simp only [faultRegs, R.RGN_STATE, R.RGN_FAULT, R.RGN_FAULT_TIME_LO, R.RGN_FAULT_TIME_HI, R.RGN_FAULT_OP, R.RGN_COUNTS,
      R.DYN_QUIESCING, List.mem_cons, List.not_mem_nil, or_false, not_or]
    omega
  have route : R.DYN_ROUTE n ∉ faultRegs n := by
    simp only [faultRegs, R.RGN_STATE, R.RGN_FAULT, R.RGN_FAULT_TIME_LO, R.RGN_FAULT_TIME_HI, R.RGN_FAULT_OP, R.RGN_COUNTS,
      R.DYN_ROUTE, List.mem_cons, List.not_mem_nil, or_false, not_or]
    omega
  refine answers_of_done exe ⟨?_, fun x hx => ?_, ?_, ?_, ?_, fun m hm ne => ?_⟩
  · have same := (stays R.DYN_QUIESCING (by simp only [R.DYN_QUIESCING]; omega) (by simp only [NotImage, R.DYN_QUIESCING]; omega)
      quiescing).pf (by simp only [R.DYN_QUIESCING, R.INT_PF_STATUS]; omega)
    exact (congrArg (fun w : Nat => w.testBit n) (same.fld F.DYN_QUIESCING_QUIESCING rfl)).trans ended
  · rw [State.refreshPf_mesh, mesh, credits] at hx
    simpa [rect] using (List.mem_filter.1 hx).2
  · rw [State.refreshPf_rgn]
    exact congrArg (·.1) after
  · rw [State.refreshPf_rgn]
    exact congrArg (·.2.1) after
  · have same := (stays (R.DYN_ROUTE n) (by simp only [R.DYN_ROUTE]; omega) (by simp only [NotImage, R.DYN_ROUTE]; omega) route).pf
      (by simp only [R.DYN_ROUTE, R.INT_PF_STATUS]; omega)
    rw [same.fld (F.DYN_ROUTE_EPOCH n) rfl, epoch]
    rfl
  · have small : R.RGN_STATE m < 0x300000 := by simp only [R.RGN_STATE]; omega
    rw [refreshPf_rgnState]
    exact rgnState_congr ((SameWord.of_regs (settle_regs s)).trans ((others _ small).trans
      (stays _ (by omega) (by simp only [NotImage]; omega) (rgnState_notin_faultRegs ne))))

/-- Settles O18: a frame's start and end, an island powered or gated, an image read again, the end of a quiesce. -/
theorem framesAndIslandsComplete : Obligations.FramesAndIslandsComplete := by
  unfold Obligations.FramesAndIslandsComplete
  exact ⟨answers_frameStart, answers_frameEnd, fun i n cs s => answers_islandUngateComplete i n cs s, answers_islandIdleGate,
    answers_imageRebuild, answers_routeQuiesceEnd⟩

end Sys2Proof.Machine
end
